-- ==== Sys2Proof/Word.lean ====
section
/-! DEFINITION. Sys2Proof/Word.lean: the word types of the hardware (spec/00 R2: a BAR0 register is 32 bits wide). -/

namespace Sys2Proof

/-- One byte of a table, a ring entry or a frame. -/
abbrev Byte := BitVec 8

/-- One BAR0 register. -/
abbrev Word := BitVec 32

end Sys2Proof
end

