-- ==== Sys2Proof/Syntax.lean ====
section
/-! DEFINITION. Sys2Proof/Syntax.lean: the commands the block takes, with their operands. What a command carries is what comes from
outside the device's digital state: a host write, a descriptor, a received frame or slot, a measured value, the level of a pin. -/

namespace Sys2Proof

/-- A 32-byte descriptor of ring 0 (spec/13 R548). -/
structure Desc where
  opc : BitVec 8
  flags : BitVec 8 := 0
  tag : BitVec 16 := 0
  len : BitVec 16 := 0
  target : BitVec 16 := 0
  hostAddr : BitVec 64 := 0
  p0 : BitVec 32 := 0
  p1 : BitVec 32 := 0
  execTime : BitVec 64 := 0
deriving DecidableEq, Repr

/-- An event on its way to or in the router: its authoritative stamp, number and instance index (spec/02 R64, R66), and the flags of
its record (spec/14 R578). -/
structure Event where
  stamp : Nat
  num : Nat
  inst : Nat := 0
  late : Bool := false
  held : Bool := false
deriving DecidableEq, Repr

/-- What the end of a calibration brings (spec/03 R127): the fitted set (offset, gain, 12 bit weights), and for each of the 64 ladder taps the
sum of its 16 calibrated values. -/
structure LadderFit where
  cal : List Int
  sums : List Int
deriving DecidableEq, Repr

/-- A comparator whose filtered output changes to its tripped side (spec/03 R147): which one, and the samples in the filter's window when the
majority formed, newest first, 1 on the tripped side. -/
structure CompEdge where
  k : Fin 32
  window : BitVec 7
deriving DecidableEq, Repr

/-- A read the device has in flight (spec/13 R567): a descriptor read by its first ring index, or a block of 128 bytes of a
command's payload read (R531). -/
inductive ReadId where
  | descr (idx : Nat)
  | payload (d : Desc) (block : Nat)
deriving DecidableEq, Repr

/-- An upset of a table memory that a check finds (spec/13 R561, spec/10 R460): a byte of the working or of the stored copy that no
longer holds what was written. -/
structure TableUpset where
  id : Nat
  stored : Bool
  off : Nat
  val : Byte
deriving DecidableEq, Repr

/-- What comes back on WRXn in place of one frame sent (spec/04 R192, R204): FN, BASE and whether the CRC checks, the telemetry slots
by position, the loop latency in 0.125 ns, the code violations since the previous frame; or the count of a COUNT set. -/
structure Returned where
  fn : Nat
  base : Nat
  crcOk : Bool
  slots : List (BitVec 32)
  latency : Nat
  codeErrs : Nat := 0
  count : Option Nat := none
deriving DecidableEq, Repr

/-- A write to the configuration space or the MSI-X table that bears on messages (spec/14 R584, R588): MSI-X enabled or disabled,
MSI disabled or enabled with `k` messages, one vector masked or unmasked, one entry's address and data written. -/
inductive MsiWrite where
  | msix (on : Bool)
  | msi (k : Option Nat)
  | mask (vec : Fin 64) (on : Bool)
  | entry (vec : Fin 64) (addr : BitVec 64) (data : BitVec 32)
deriving DecidableEq, Repr

/-- The pins that the curtain's channels read (spec/10 R428): the E-stop inputs, SRESET, the feedback contacts (high: open), and the readbacks
of the KDRV outputs. -/
inductive CurtPin where
  | estopA
  | estopB
  | sreset
  | kfbA
  | kfbB
  | kdrvA
  | kdrvB
deriving DecidableEq, Repr

/-- A change of a pin's level: the new level, and how many ns before the command's instant it was first there. -/
structure PinEdge where
  pin : CurtPin
  level : Bool
  ago : Nat := 0
deriving DecidableEq, Repr

/-- What a cycle of channel A meets (spec/10 R434, R446): the changes at the curtain's pins since they were last reported, and whether its
self-checks of memory and cycle time pass. -/
structure CurtainIn where
  edges : List PinEdge := []
  selfOk : Bool := true
deriving DecidableEq, Repr

/-- What a memory word holds that a consequence of spec/17 R673 needs to know: a table's bytes, an event held for release, an entry
staged for a ring (by its place among the staged entries), a fetched descriptor or its payload, or none of these. -/
inductive WordUse where
  | other
  | table (id : Nat)
  | event (e : Event)
  | entry (idx : Nat)
  | descr (d : Desc)
deriving DecidableEq, Repr

/-- What the read of one memory word finds (spec/17 R670 to R673): no error; an error corrected, and then whether the re-read is clean; an
uncorrectable error. -/
inductive WordRead where
  | clean
  | corrected (again : Bool)
  | uncorrectable (use : WordUse)
deriving DecidableEq, Repr


/-- The commands of the block: one constructor for each row of spec/opcode_table.json, in the table's order. The first operand
of each, `t`, is the STAGE tick (counted from the model's start) at which the command comes about. -/
inductive Instr where
  /-- REGISTER_WRITE (R4). A host write to a BAR0 register that has no row of its own is applied by field access type, or refused whole with the block's CFG_REJECT. -/
  | registerWrite (t : Nat) (addr : Nat) (data : Word) (be : BitVec 4)
  /-- LO_READ_CAPTURE (R44). A read of a _LO register captures the full 64-bit value, so that the paired _HI read returns the upper half of that same capture. -/
  | loReadCapture (t : Nat) (addr : Nat)
  /-- DATUM_SET (R50). The DATUM_SET command is checked and then sets or steps datum time on one STAGE tick. -/
  | datumSet (t : Nat) (d : Desc)
  /-- PPSIN_EDGE (R61). A filtered rising edge of PPSIN is stamped and judged against its window or its spacing. -/
  | ppsinEdge (t : Nat)
  /-- PPS_WINDOW_END (R60). A LOCKED acceptance window ends with no accepted edge, so a miss is counted. -/
  | ppsWindowEnd (t : Nat)
  /-- PPS_PRESENT_TIMEOUT (R62). No edge is accepted for 1.5 s, so PPS_PRESENT clears. -/
  | ppsPresentTimeout (t : Nat)
  /-- REFERENCE_TIMEOUT (R54). The reference times out in ACQUIRE, so the discipline holds its trim and goes to HOLDOVER or FREE. -/
  | referenceTimeout (t : Nat)
  /-- HOLDOVER_EXPIRED (R54). The holdover timer reaches DATUM_HOLD_MAX. -/
  | holdoverExpired (t : Nat)
  /-- ROLE_CHANGE (R104). An accepted write of DATUM_MER_CTRL.ROLE or ADDR changes the timing role, and the discipline enters FREE. -/
  | roleChange (t : Nat) (data : Word)
  /-- EVENT_ARRIVAL (R69). An event reaches the router and is held, or is released at once with LATE if it is stamped before the horizon. -/
  | eventArrival (t : Nat) (e : Event)
  /-- EVENT_RELEASE (R577). At a STAGE tick the router releases held events in order and processes each in turn. -/
  | eventRelease (t : Nat)
  /-- MERIDIAN_SLOT_SEND (R78). At each 8 000 ns slot boundary the device sends a slot carrying at most one chosen message. -/
  | meridianSlotSend (t : Nat)
  /-- MERIDIAN_SLOT_RECEIVED (R79). A received meridian slot is validated and its fields are used. -/
  | meridianSlotReceived (t : Nat) (fields : List Byte) (crc : Word) (rx8 : Nat)
  /-- MERIDIAN_DOWN (R80). After 16 slot periods without a valid slot the link is down and pending messages fail. -/
  | meridianDown (t : Nat)
  /-- ACK_TIMEOUT (R91). An addressed message gets no ACK within DATUM_MER_ACK_TO slots, so it is retried or fails lastingly. -/
  | ackTimeout (t : Nat) (seq : Nat)
  /-- MERIDIAN_SEND (R90). The MERIDIAN_SEND command queues a host message for transmission. -/
  | meridianSend (t : Nat) (d : Desc) (payload : Option (List Byte))
  /-- RXBOX_FREE (R97). A write of 1 to DATUM_MER_RXBOX_CTRL.FULL[n] frees receive-box entry n. -/
  | rxboxFree (t : Nat) (data : Word)
  /-- PPS_OUTPUT (R99). A PPS-output EVIO pin goes high at each datum second boundary. -/
  | ppsOutput (t : Nat) (pin : Fin 4)
  /-- PPS_OUTPUT_END (R99). The PPS output pulse ends after WIDTH. -/
  | ppsOutputEnd (t : Nat) (pin : Fin 4)
  /-- EVIO_IN (R100). A filtered rising edge on an event-input EVIO pin raises EVIO_INn. -/
  | evioIn (t : Nat) (pin : Fin 4)
  /-- SCHEDULED_SAMPLE (R113). At a part's scheduled instant in a round the holding slice takes a sample and starts a conversion. -/
  | scheduledSample (t : Nat) (part : Fin 16)
  /-- RESULT (R117). A conversion result becomes available in STAGE and is routed with its flags to its consumers and CONV_LAST. -/
  | result (t : Nat) (slice : Fin 20) (raw : BitVec 12) (value : Int)
  /-- RESULT_MISSING (R123). A conversion has no result 1 500 ns after its sample instant, so a MISSING result is delivered. -/
  | resultMissing (t : Nat) (slice : Fin 20)
  /-- REFERENCE_MONITOR (R120). Every 10 µs the reference monitor measures VREFP − VREFN. -/
  | referenceMonitor (t : Nat) (microvolts : Nat)
  /-- HANDOVER_OPPORTUNITY (R125). A group's handover interval has passed, so its understudy starts CAL on the next part. -/
  | handoverOpportunity (t : Nat) (group : Fin 4)
  /-- CAL_COMPLETE (R127). The understudy finishes the ladder conversions and the fit, and the calibration passes or fails. -/
  | calComplete (t : Nat) (group : Fin 4) (fit : LadderFit)
  /-- OVERLAP_VERDICT (R129). The required overlap pairs are collected and the overlap is judged. -/
  | overlapVerdict (t : Nat) (group : Fin 4)
  /-- OVERLAP_TIMEOUT (R136). An overlap that has not collected its pairs in time is abandoned as failed. -/
  | overlapTimeout (t : Nat) (group : Fin 4)
  /-- SWAP (R130). The swap sample's result is delivered, and the relieved slice becomes the understudy. -/
  | swap (t : Nat) (group : Fin 4)
  /-- CAL_STALE (R134). A slice's calibration age exceeds CONV_STALE.SECONDS. -/
  | calStale (t : Nat) (group : Fin 4)
  /-- CONV_URGENT (R138). A host write with CONV_URGENT.GO requests an urgent conversion. -/
  | convUrgent (t : Nat) (data : Word)
  /-- CONV_SLOT_WRITE (R114). An accepted CONV_SLOT write takes effect at the next round and abandons a handover in progress. -/
  | convSlotWrite (t : Nat) (part : Fin 16) (data : Word)
  /-- READMIT (R133). CONV_CTRL.READMIT returns a group's out slice to understudy. -/
  | readmit (t : Nat) (data : Word)
  /-- COMP_TRIP (R148). A comparator's filtered output enters its tripped side, latches, raises COMP_k and acts on its routes. -/
  | compTrip (t : Nat) (e : CompEdge)
  /-- COMP_NORMAL (R146). A comparator's filtered output returns to the normal side. -/
  | compNormal (t : Nat) (k : Fin 32)
  /-- COMP_CFG_WRITE (R150). An accepted COMP_CFG write takes effect and refills the filter. -/
  | compCfgWrite (t : Nat) (k : Fin 32) (data : Word)
  /-- COMP_TEST_START (R154). A write of START begins a comparator self-test, or is refused. -/
  | compTestStart (t : Nat) (data : Word)
  /-- COMP_TEST_READ (R156). 100 ns after the test level is applied the filtered outputs are read, and the inputs are restored. -/
  | compTestRead (t : Nat) (filtered : Word)
  /-- COMP_TEST_DONE (R156). The filters have been refilled, the routes are released and the self-test completes. -/
  | compTestDone (t : Nat) (after : Word)
  /-- FRAME_FREEZE (R171). At S_k − 40 ns the content of frame k is frozen from the cues and orders that are due. -/
  | frameFreeze (t : Nat)
  /-- FRAME_START (R167). At datum time k × P the comma of frame k leaves every enabled wing transmitter. -/
  | frameStart (t : Nat)
  /-- RETURNED_FRAME (R192). A frame returns whole at WRXn, is validated, and its telemetry and acknowledgements are judged. -/
  | returnedFrame (t : Nat) (loop : Fin 4) (r : Returned)
  /-- HALT_NOW (R196). A write of WING_CTRL.HALT_NOW halts all four loops. -/
  | haltNow (t : Nat) (data : Word)
  /-- HALT_RETURNED (R200). The first HALT returns on WRXn and HALT_SEEN is set. -/
  | haltReturned (t : Nat) (loop : Fin 4)
  /-- RESUME (R201). A write of WING_CTRL.RESUME[n] is judged and sends RESUME to the loop's stations. -/
  | resume (t : Nat) (data : Word)
  /-- RESUME_TAKES_EFFECT (R201). At the act base of the frame carrying RESUME, HALTED[n] returns to 0. -/
  | resumeTakesEffect (t : Nat) (loop : Fin 4)
  /-- TRAIN (R202). A write of WING_CTRL.TRAIN[n] starts loop training. -/
  | train (t : Nat) (data : Word)
  /-- TRAIN_LINK_TIMEOUT (R204). Training phase 1 finds no run of 64 valid frames within 10 ms. -/
  | trainLinkTimeout (t : Nat) (loop : Fin 4)
  /-- DELAY_RECOMPUTE (R211). Every 65 536 frames D_p is recomputed, and new delays may be written or drift flagged. -/
  | delayRecompute (t : Nat) (loop : Fin 4)
  /-- EVALUATION_TICK (R243). Every 100 µs of elapsed time the contours, references, plan and verdicts are evaluated. -/
  | evaluationTick (t : Nat)
  /-- CLEAR_EXPIRY (R247). A trip point's condition has held for CLEAR, so its table's region becomes TRIP. -/
  | clearExpiry (t : Nat)
  /-- MAX_DUR_EXPIRY (R247). A disturbance has lasted a band's MAX_DUR, so that band's AFTER region applies. -/
  | maxDurExpiry (t : Nat)
  /-- ENTER_SERVICE_DELAY (R266). Levels have stayed inside the enter window for ENTER_DELAY. -/
  | enterServiceDelay (t : Nat)
  /-- RESTORE_DELAY_EXPIRY (R251). RESTORE_DELAY after cessation expires and the restore ramp starts. -/
  | restoreDelayExpiry (t : Nat)
  /-- RESTORE_RAMP_END (R251). The restore ramp completes and normal references resume. -/
  | restoreRampEnd (t : Nat)
  /-- BEARING_LOCK (R229). The lock condition has held for LOCK_TIME and the bearing becomes LOCKED. -/
  | bearingLock (t : Nat)
  /-- COAST_EXPIRY (R229). COAST_MAX elapses in COAST and the bearing is LOST. -/
  | coastExpiry (t : Nat)
  /-- BEAR_INPUT (R231). 20 consecutive MISSING results of one VGx input time it out and the bearing is LOST. -/
  | bearInput (t : Nat) (phase : Fin 3)
  /-- CHIP_END (R261). At the end of each 100 ms chip the apparent impedance is estimated and judged. -/
  | chipEnd (t : Nat)
  /-- SUSPECT_CLEAR (R253). Neither passive check has held for 1 s, so SUSPECT clears. -/
  | suspectClear (t : Nat)
  /-- SIGNATURE_MISS (R259). A datum second passes without a SIGNATURE message at a follower. -/
  | signatureMiss (t : Nat)
  /-- POWER_SET (R233). The POWER_SET command sets the active and reactive set-points. -/
  | powerSet (t : Nat) (d : Desc)
  /-- FAST_DECISION (R290). A waiting fast request starts its decision, based on the comparator crossing. -/
  | fastDecision (t : Nat) (phase : Fin 3)
  /-- FOLLOW_ERR (R295). The following-error timer expires. -/
  | followErr (t : Nat) (phase : Fin 3)
  /-- CUR_INPUT (R293). Consecutive MISSING ICx or IGx results time out the input and the engine STOPS. -/
  | curInput (t : Nat) (phase : Fin 3)
  /-- BAND_UPDATE (R287). Every WIN ms each phase's band is adapted. -/
  | bandUpdate (t : Nat)
  /-- ZERO_REACHED (R298). All three IGx have stayed within ZERO for 100 µs after the ramp, so the engine enters ZEROED. -/
  | zeroReached (t : Nat)
  /-- RAMP_FAIL (R298). Zero is not reached by TIME + WAIT and the engine STOPS. -/
  | rampFail (t : Nat)
  /-- CASTING_REQUEST (R322). Casting serves an engine request by choosing and committing cell moves and answering a grant. -/
  | castingRequest (t : Nat)
  /-- BYPASS_CHECK_TIMEOUT (R332). Bypass feedback has not confirmed within BYP_TIME. -/
  | bypassCheckTimeout (t : Nat) (cell : Fin 128)
  /-- HOT_TIME (R327). A cell has been hot for HOT_TIME and starts an orderly removal. -/
  | hotTime (t : Nat) (cell : Fin 128)
  /-- UV_TIME (R331). An active cell has been below V_MIN for UV_TIME and starts an orderly removal. -/
  | uvTime (t : Nat) (cell : Fin 128)
  /-- LEAVING_TIMEOUT (R333). A cell has spent 20 ms in LEAVING, so BYPASS_CLOSE is sent regardless. -/
  | leavingTimeout (t : Nat) (cell : Fin 128)
  /-- PRE_TIME (R335). A reserve has not reached its precharge target in PRE_TIME and goes OUT. -/
  | preTime (t : Nat) (cell : Fin 128)
  /-- COOL_TO (R329). 64 consecutive MISSING or CLIP TCOOL results set COOL_TO. -/
  | coolTo (t : Nat)
  /-- CAST_READMIT (R338). A write of CAST_READMIT with GO readmits an OUT cell. -/
  | castReadmit (t : Nat) (data : Word)
  /-- TRACKER_STEP (R362). Once per PERIOD a PV tracker steps in TRACK, FOLLOW, SCAN or PROBE. -/
  | trackerStep (t : Nat) (cell : Fin 128)
  /-- SCAN_DUE (R365). SCAN_INT has elapsed and a scan falls due. -/
  | scanDue (t : Nat) (cell : Fin 128)
  /-- PROBE_DUE (R365). PROBE_INT has elapsed and a probe falls due. -/
  | probeDue (t : Nat) (cell : Fin 128)
  /-- DUMP_LIMIT (R370). A dump switch has been on for MAX within one armed period, so it is turned off and locked. -/
  | dumpLimit (t : Nat) (cell : Fin 128)
  /-- DUMP_HOLD_EXPIRY (R369). HOLD has elapsed in CONTINUOUS and dumping is disarmed. -/
  | dumpHoldExpiry (t : Nat)
  /-- DUMP_OFF_RESEND (R371). For a STUCK_ON cell, DUMP_OFF is sent again every 1 ms. -/
  | dumpOffResend (t : Nat) (cell : Fin 128)
  /-- CELLPWR_DUMP_CLR (R371). A write of CELLPWR_DUMP_CLR clears a cell's DEAD or STUCK_ON. -/
  | cellpwrDumpClr (t : Nat) (data : Word)
  /-- INTERVAL_CLOSE (R400). At an interval edge the interval is closed, and its record is formed and sealed. -/
  | intervalClose (t : Nat)
  /-- DEMAND_SUB_PERIOD (R401). A demand sub-period ends and is judged for maximum demand. -/
  | demandSubPeriod (t : Nat)
  /-- SNAPSHOT (R391). The SNAPSHOT command is checked and awaits its capture. -/
  | snapshot (t : Nat) (d : Desc)
  /-- SNAPSHOT_CAPTURE (R393). At the first paired sample the accumulators are captured and written, and the command completes. -/
  | snapshotCapture (t : Nat)
  /-- PULSE_START (R396). With backlog and the pin idle for WIDTH, a pulse starts. -/
  | pulseStart (t : Nat) (pin : Fin 4)
  /-- PULSE_END (R396). A pulse ends after WIDTH. -/
  | pulseEnd (t : Nat) (pin : Fin 4)
  /-- RETENTION_REFRESH (R410). Every 1 s the metering state is refreshed into retention memory. -/
  | retentionRefresh (t : Nat)
  /-- EXPORT_EN (R416). A write of 1 to EXPORT_EN starts export from the oldest record. -/
  | exportEn (t : Nat) (data : Word)
  /-- ATLAS_EXPORT (R416). A record is written to ring 4 once it has room. -/
  | atlasExport (t : Nat)
  /-- ATLAS_READ (R418). The ATLAS_READ command copies records to host memory. -/
  | atlasRead (t : Nat) (d : Desc)
  /-- METER_CFG_WRITE (R402). An accepted METER_CFG write takes effect at the open interval's edge. -/
  | meterCfgWrite (t : Nat) (data : Word)
  /-- CHANNEL_A_CYCLE (R434). Each 1 ms channel A samples its inputs, evaluates causes and the state table, drives its outputs and toggles HB. -/
  | channelACycle (t : Nat) (pins : CurtainIn)
  /-- SYNC_TIME (R441). SYNC_TIME elapses in RAISING, so KDRVA is energised and ENB raised. -/
  | syncTime (t : Nat)
  /-- CONTACTOR_CHECK (R438). The first contactor check is made at t_e + W/2. -/
  | contactorCheck (t : Nat)
  /-- CONTACTOR_RECHECK (R438). The recheck at t_e + W − 2 ms passes as transient or fails lastingly. -/
  | contactorRecheck (t : Nat)
  /-- RAISED_RECHECK (R439). A feedback mismatch in RAISED is rechecked after CHECK_CLOSE/2. -/
  | raisedRecheck (t : Nat)
  /-- ESTOP_DISC (R436). E-stop inputs have disagreed for ESTOP_DISC. -/
  | estopDisc (t : Nat)
  /-- SRESET_STUCK (R455). SRESET has been held high for SRESET_STUCK in rehearsal. -/
  | sresetStuck (t : Nat)
  /-- PARAM_CHECK (R460). Every 100 ms the CRC of SAFETY_PARAM's working copy is checked and retried. -/
  | paramCheck (t : Nat) (upsets : List TableUpset)
  /-- ROM_CHECK (R446). Every 10 s channel A checks its ROM by CRC. -/
  | romCheck (t : Nat) (ok : Bool)
  /-- CHANNEL_B_LATCH (R431). Channel B sets its latch on an E-stop, a comparator route or TRIPA. -/
  | channelBLatch (t : Nat) (edges : List PinEdge)
  /-- HEARTBEAT_LOSS (R431). No HB edge for 72 000 SAFE ticks latches channel B. -/
  | heartbeatLoss (t : Nat)
  /-- RAISE_GAP (R442). RAISE_GAP has elapsed since KDRVA was last de-energised. -/
  | raiseGap (t : Nat)
  /-- SRESET_EDGE (R452). A filtered rising edge of SRESET attempts a curtain reset in rehearsal. -/
  | sresetEdge (t : Nat) (edges : List PinEdge)
  /-- CURTAIN_LOWER (R456). The CURTAIN_LOWER command acts as an R-, H- or S-class cause. -/
  | curtainLower (t : Nat) (d : Desc)
  /-- CURTAIN_RESET (R453). The CURTAIN_RESET command resets the curtain in service mode. -/
  | curtainReset (t : Nat) (d : Desc)
  /-- PERIOD_START (R475). At a PWM channel's period start the guard takes the lines and judges the period's pulses. -/
  | periodStart (t : Nat) (chop : Bool)
  /-- DEAD_TIME_END (R477). A switch's complement has been off for DEAD, so the switch turns on. -/
  | deadTimeEnd (t : Nat) (switch : Fin 6)
  /-- BLANKING_END (R483). Blanking ends, and a tripped desaturation comparator turns the switch off and latches a fault. -/
  | blankingEnd (t : Nat) (switch : Fin 6)
  /-- GD_EN (R487). A write of GUARD_CTRL.GD_EN changes the pin, and a qualifying rising edge clears the latches. -/
  | gdEn (t : Nat) (data : Word)
  /-- LOAD_ALL (R499). A write of LOAD_ALL marks the PWM shadows for transfer, or is refused. -/
  | loadAll (t : Nat) (data : Word)
  /-- SHADOW_TRANSFER (R499). At the next qualifying period start the shadows take effect. -/
  | shadowTransfer (t : Nat) (chop : Bool)
  /-- PWM_EVENT (R501). A channel counter reaches ZERO, PERIOD, DUTY or MARK and, after prescaling, raises its event. -/
  | pwmEvent (t : Nat) (channel : Fin 4) (kind : Fin 4)
  /-- COMMUTATION (R511). The commutation instant arrives and the overlap into the next sector begins. -/
  | commutation (t : Nat)
  /-- OBSERVE_END (R512). The 200 ms observation ends and the start path is chosen. -/
  | observeEnd (t : Nat)
  /-- WAIT_MAX (R512). WAIT has lasted WAIT_MAX, so the pump enters FAULT SPIN_BACK. -/
  | waitMax (t : Nat)
  /-- ALIGN_TIME (R514). ALIGN_TIME elapses and forced commutation begins in RAMP. -/
  | alignTime (t : Nat)
  /-- FORCED_COMMUTATION (R514). A forced sector in RAMP ends and the next is applied, or the drive hands over to RUN. -/
  | forcedCommutation (t : Nat)
  /-- LOCKED_ROTOR (R515). LOCK_TIME passes without a handover or a crossing, so the rotor is judged locked. -/
  | lockedRotor (t : Nat)
  /-- LOCK_RESTART (R515). 2 s after a lock the drive starts again from OBSERVE. -/
  | lockRestart (t : Nat)
  /-- CHOP_CHECK (R517). CHOP_CHECK after activation or verdict, the bus mean is judged for a chopper fault or BRAKE. -/
  | chopCheck (t : Nat)
  /-- BUS_LOW (R518). The VBUSP mean has stayed below BUS_MIN for 100 ms in RUN. -/
  | busLow (t : Nat)
  /-- BUS_RECOVERED (R518). The VBUSP mean has stayed at or above BUS_MIN for 100 ms, so the drive restarts. -/
  | busRecovered (t : Nat)
  /-- PUMP_INPUT_TIMEOUT (R523). 16 consecutive MISSING VBUSP or ISHUNT results put the pump in FAULT INPUT. -/
  | pumpInputTimeout (t : Nat)
  /-- PUMP_ORDER (R522). The PUMP_ORDER command sets AUTO, FIXED, a STOP or CLEAR. -/
  | pumpOrder (t : Nat) (d : Desc)
  /-- PUMP_CTRL_WRITE (R520). A write of PUMP_CTRL enables, disables or switches the drive to manual. -/
  | pumpCtrlWrite (t : Nat) (data : Word)
  /-- PUMP_FLT_TIMEOUT (R524). The drive has been out of RUN for 10 s with a run requested. -/
  | pumpFltTimeout (t : Nat)
  /-- STAGE_LOSS (R526). The SAFE detector finds STAGE stopped or switched away from PLL-B, so the gates are forced off and the pump enters FAULT CLOCK. -/
  | stageLoss (t : Nat)
  /-- DOORBELL (R543). A write to a ring's BAR2 doorbell updates PI or CI, or is refused. -/
  | doorbell (t : Nat) (ring : Fin 6) (value : Word) (be : BitVec 4)
  /-- IDLE_HINT (R534). A write to the idle hint sets or clears HOST_STATUS.IDLE. -/
  | idleHint (t : Nat) (data : Word)
  /-- DESCRIPTOR_FETCH (R545). With ring-1 entries reserved, the device issues a descriptor read. -/
  | descriptorFetch (t : Nat)
  /-- DESCRIPTOR_READ_COMPLETE (R549). Descriptors arrive, are checked, and are dispatched, queued as timed, or held behind a fence. -/
  | descriptorReadComplete (t : Nat) (descs : List Desc)
  /-- PAYLOAD_READ_COMPLETE (R558). A command's payload arrives and the command proceeds. -/
  | payloadReadComplete (t : Nat) (d : Desc) (bytes : List Byte)
  /-- COMPLETION_TIMEOUT (R567). A device read fails, so it is retried once or fails lastingly. -/
  | completionTimeout (t : Nat) (read : ReadId) (kind : BitVec 2)
  /-- TIMED_DISPATCH (R546). A timed descriptor is dispatched at its EXEC_TIME. -/
  | timedDispatch (t : Nat)
  /-- NOP (R557). The NOP command does nothing and completes. -/
  | nop (t : Nat) (d : Desc)
  /-- TABLE_LOAD (R558). The TABLE_LOAD command checks a table and writes it at once. -/
  | tableLoad (t : Nat) (d : Desc) (payload : Option (List Byte))
  /-- TABLE_READ (R558). The TABLE_READ command copies the table in force to host memory. -/
  | tableRead (t : Nat) (d : Desc)
  /-- CELL_ORDER (R563). The CELL_ORDER command sends one station order to a cell and completes on its verdict. -/
  | cellOrder (t : Nat) (d : Desc)
  /-- SELFTEST (R565). The SELFTEST command runs a comparator, seal, table or scrub test. -/
  | selftest (t : Nat) (d : Desc) (upsets : List TableUpset)
  /-- STATS_READ (R566). The STATS_READ command copies a BAR0 range, captured at one instant. -/
  | statsRead (t : Nat) (d : Desc)
  /-- MODE_SET (R606). The MODE_SET command switches between rehearsal and service. -/
  | modeSet (t : Nat) (d : Desc)
  /-- RING_WRITE (R540). A device-written ring entry is written with its phase last, once the bus permits. -/
  | ringWrite (t : Nat) (ring : Fin 6)
  /-- BUS_MASTER_ENABLE (R535). Bus Master Enable or the power state changes, holding or releasing host transfers. -/
  | busMasterEnable (t : Nat) (bme : Bool) (d3hot : Bool)
  /-- LINK_DOWN (R536). The link goes down without a reset, disabling the rings and discarding queued work. -/
  | linkDown (t : Nat)
  /-- LINK_UP (R536). The link comes up and LINK_CHANGE is raised. -/
  | linkUp (t : Nat) (gen2 : Bool)
  /-- RING_ENABLE (R541). A write of HOST_RINGn_CFG enables or disables a ring, or is refused. -/
  | ringEnable (t : Nat) (ring : Fin 6) (data : Word)
  /-- TABLE_INTEGRITY_CHECK (R561). Every 1 s each valid table's CRC is checked, with one retry from the stored copy. -/
  | tableIntegrityCheck (t : Nat) (upsets : List TableUpset)
  /-- HOLDOFF_EXPIRY (R585). A vector's holdoff elapses with causes pending, so it becomes DUE. -/
  | holdoffExpiry (t : Nat) (vec : Fin 64)
  /-- VECTOR_COMMIT (R587). The free delivery engine commits the highest-priority due vector. -/
  | vectorCommit (t : Nat)
  /-- MESSAGE_ISSUED (R586). A committed MSI or MSI-X message is issued to the link. -/
  | messageIssued (t : Nat)
  /-- IRQ_EOI (R586). A write to IRQ_EOI ends a vector's service. -/
  | irqEoi (t : Nat) (data : Word)
  /-- IRQ_MASK_WRITE (R588). A mask write sets causes aside or releases them. -/
  | irqMaskWrite (t : Nat) (m : Fin 8) (data : Word)
  /-- SINK_WINDOW_CLOSE (R594). A sink window ends without output. -/
  | sinkWindowClose (t : Nat) (sink : Fin 64)
  /-- SINK_PULSE_END (R595). A sink-driven EVIO pulse ends 1 000 ns after the last output. -/
  | sinkPulseEnd (t : Nat) (pin : Fin 4)
  /-- TABLEAU_ENTRY (R601). A TABLEAU entry request takes effect in every block at one STAGE tick. -/
  | tableauEntry (t : Nat) (bits : BitVec 2)
  /-- TABLEAU_EXIT (R603). Tableau ends in every block at one STAGE tick, and held work is released. -/
  | tableauExit (t : Nat) (bits : BitVec 2)
  /-- POR (R608). Power-on, held until every rail has been released for 10 ms. -/
  | por (t : Nat) (rails : BitVec 5)
  /-- BROWN (R608). A rail below its reset threshold for 1 µs causes a BROWN reset. -/
  | brown (t : Nat) (rails : BitVec 5)
  /-- PIN_RESET (R625). RST_N is recognised low, causing a reset of kind PIN. -/
  | pinReset (t : Nat)
  /-- SOFT_RESET (R626). A write of 0x5AF0 to POWER_RESET.KEY causes a SOFT reset. -/
  | softReset (t : Nat) (data : Word)
  /-- PERST (R623). PERST_N low causes a reset of kind PERST. -/
  | perst (t : Nat)
  /-- TEST_RESET (R630). EXTEST in force holds a reset of kind TEST. -/
  | testReset (t : Nat)
  /-- INTERNAL_START (R632). On release of the last reset the device runs internal start, ending with START_DONE. -/
  | internalStart (t : Nat) (romOk : Bool)
  /-- CRYSTAL_WINDOW (R619). Each 2 400 SAFE-tick window the crystal count is judged, and a CLOCK reset is held when it is out of range. -/
  | crystalWindow (t : Nat) (count : Nat)
  /-- PLL_UNLOCK (R616). A PLL loses lock and its domain is bypassed or stopped. -/
  | pllUnlock (t : Nat) (pll : Fin 3)
  /-- PLL_RELOCK (R615). A PLL regains lock. -/
  | pllRelock (t : Nat) (pll : Fin 3)
  /-- RELOCK_ATTEMPT (R615). Every 10 ms after a loss the device attempts a relock. -/
  | relockAttempt (t : Nat) (pll : Fin 3)
  /-- CORE_RETURN (R616). After 1 ms of continuous lock CORE returns to PLL-A. -/
  | coreReturn (t : Nat)
  /-- CONV_RESTART (R616). After 100 µs of continuous PLL-C lock CONV restarts. -/
  | convRestart (t : Nat)
  /-- TEMPERATURE_MEASUREMENT (R621). Every 100 µs the die temperature is measured and the governor judges it. -/
  | temperatureMeasurement (t : Nat) (temp : Int)
  /-- HOT_EXIT (R621). T has stayed at or below 110.0 °C for 1 s, so the governor returns to NORMAL. -/
  | hotExit (t : Nat)
  /-- TEMP_TIMEOUT (R620). No measurement completes within 1 ms, so T is treated as above 115.0 °C. -/
  | tempTimeout (t : Nat)
  /-- KEY_PROG (R631). KEY_PROG at Update-DR programs the record key when permitted. -/
  | keyProg (t : Nat) (key : BitVec 256) (id : Word) (vddOk : Bool)
  /-- KEY_VERIFY (R631). Programming ends and the stored key is read back and compared. -/
  | keyVerify (t : Nat) (stored : BitVec 256)
  /-- KEY_CHECK (R631). KEY_CHECK at Capture-DR captures an HMAC of zero bytes under K. -/
  | keyCheck (t : Nat)
  /-- TEST_LOGIC_RESET (R628). The TAP controller enters Test-Logic-Reset, ending EXTEST and tableau. -/
  | testLogicReset (t : Nat)
  /-- PF_WARN (R647). A rail falls below its warning level, so the final retention refresh is made. -/
  | pfWarn (t : Nat)
  /-- PF_RIDE (R647). The warning clears without a reset. -/
  | pfRide (t : Nat)
  /-- DOMAIN_STOP (R644). VSTOR falls below V_DEAD while running from the store, so the domain stops and its contents are lost. -/
  | domainStop (t : Nat)
  /-- DOMAIN_START (R644). The ghost-light domain powers up, writing an invalid header and power-up values. -/
  | domainStart (t : Nat)
  /-- OUTAGE_CLOSE (R652). With main power absent the keeper passes an interval edge, so the domain closes and seals or defers the record. -/
  | outageClose (t : Nat) (vstor : Nat)
  /-- STORE_CHECK (R652). Once per second with a seal pending, VSTOR is checked and the seal is made when possible. -/
  | storeCheck (t : Nat) (vstor : Nat)
  /-- SEAL_COMPLETE (R650). A seal engine operation completes. -/
  | sealComplete (t : Nat)
  /-- KEEPER_CALIBRATION (R654). Once per second the GHOST period is measured and stored for the temperature band. -/
  | keeperCalibration (t : Nat) (ticks : Nat)
  /-- MPP_SAMPLE (R643). Once per second MPPSET is sampled to set V_MPP. -/
  | mppSample (t : Nat) (mppset : Nat)
  /-- VSTOR_SAMPLE (R664). VSTOR is sampled and judged against V_DEAD, V_SEAL and VMAX. -/
  | vstorSample (t : Nat) (vstor : Nat) (vteg : Nat)
  /-- TAMPER_SAMPLE (R660). Each sampling period the tamper inputs are sampled. -/
  | tamperSample (t : Nat) (levels : BitVec 2)
  /-- SWEEP_START (R670). A scrub sweep starts at a whole multiple of 10 s, or 40 s while deferred. -/
  | sweepStart (t : Nat)
  /-- SCRUB_READ (R670). Every 61 µs the scrubber reads one word and corrects it. -/
  | scrubRead (t : Nat) (found : WordRead)
  /-- SURVEY_PASS (R674). A survey pass starts every SCRUB_SURVEY.PERIOD, or late after the previous one. -/
  | surveyPass (t : Nat)
  /-- SURVEY_ENTRY (R674). After SPACING a survey entry is written for the next present cell. -/
  | surveyEntry (t : Nat)
  /-- SURVEY_RESUME (R675). A paused survey resumes when ring 3 has room or deferral ends. -/
  | surveyResume (t : Nat)
  /-- SCRUB_WEAR_SEL (R686). A write of SCRUB_WEAR_SEL captures a cell's five accounts. -/
  | scrubWearSel (t : Nat) (data : Word)
  /-- FRAME_NOT_RETURNED (R195). A frame whose verdict falls due at S_k + P + L + 984 ns has not come back whole at WRXn, so it counts as a returned frame that is not valid. -/
  | frameNotReturned (t : Nat) (loop : Fin 4)
  /-- MSI_ENABLE_OR_VECTOR_MASK (R588). A configuration or MSI-X table write enables or disables MSI or MSI-X, or changes a per-vector mask, so due vectors may commit or withheld messages are sent. -/
  | msiEnableOrVectorMask (t : Nat) (w : MsiWrite)
  /-- ROTOR_STANDSTILL (R520). In COAST or WAIT the drive finds the rotor at standstill, leading to OFF or ALIGN. -/
  | rotorStandstill (t : Nat)
  /-- SSTAT_TOGGLE (R461). While its latch is clear, channel B inverts SSTAT every 1 ms. -/
  | sstatToggle (t : Nat)
  /-- COARSE_SENSOR_READ (R655). With main power absent, the domain's coarse temperature sensor is read every 64 s to select the keeper's present band. -/
  | coarseSensorRead (t : Nat) (temp : Int)
deriving DecidableEq, Repr

end Sys2Proof
end

