-- ==== Sys2Proof/Config.lean ====
section
/-! DEFINITION. Sys2Proof/Config.lean: what one implementation of the block fixes and the spec leaves open. Each constant is a free
value: it has no body, so no proof can rest on a value of it. The log entry of each is named in its docstring. -/

namespace Sys2Proof

/-- The fixed synchroniser latency of a digital input, in STAGE ticks (spec/02 R58, R64; the number is not given). Log 8. -/
opaque Config.syncTicks : Nat

/-- The fixed output latency of the pins, in STAGE ticks (spec/02 R65; the number is not given). Log 214. -/
opaque Config.pinTicks : Nat

/-- The frequency trim that the servo reaches at its n-th update, before the limits of spec/02 R52 (the loop's law is not given beyond its
bandwidth). Log 9. -/
opaque Config.servoTrim : Nat → Int

/-- The error of the device's square root of a number (spec/05, spec/06, spec/08, spec/09: the precision is not given). Log 10. -/
opaque Config.sqrtError : Rat → Rat

/-- The errors of the device's cosine and sine of an angle in turns. Log 10. -/
opaque Config.cosError : Rat → Rat
opaque Config.sinError : Rat → Rat

/-- The error of the device's angle of a point (y, x), in turns. Log 10. -/
opaque Config.angleError : Rat → Rat → Rat

/-- The angle the device gives to the origin, which has none. Log 10. -/
opaque Config.originAngle : Rat

/-- The error of the number pi as the device holds it. Log 10. -/
opaque Config.piError : Rat

/-- A second-order generalised integrator after a step: from its in-phase and quadrature component, its input in V, the frequency in Hz
and the time since the last step in s (spec/05 R227; gain and discretisation are not given). Log 11. -/
opaque Config.sogi : Rat → Rat → Rat → Rat → Rat → Rat × Rat

/-- The frequency-locked loop after a step, in mHz: from its frequency, the three phases' in-phase and quadrature components and inputs,
FLL_BW, and the time since the last step in s (spec/05 R227). Log 11. -/
opaque Config.fll : Nat → List (Rat × Rat × Rat) → Nat → Rat → Nat

/-- The part of a step that a first-order lag takes in a time of x time constants (spec/05 R236, spec/06 R302; the discretisation is not
given). Log 12. -/
opaque Config.lag : Rat → Rat

/-- The coefficients of the first-order sections of which the all-pass networks AP1 and AP2 consist (spec/09 R380: only their phase difference
is given). Log 13. -/
opaque Config.ap1 : List Rat
opaque Config.ap2 : List Rat

/-- Edges of the GHOST oscillator up to an elapsed instant in ns (spec/16 R654, R655: a free-running oscillator). Log 14. -/
opaque Config.ghostEdges : Nat → Nat

/-- Which of two equally near learned bands the keeper uses, true the higher (spec/16 R655 names no choice). Log 14. -/
opaque Config.nearerBand : Bool

/-- Nanoseconds from the latest GHOST edge to an elapsed instant. Log 14. -/
opaque Config.ghostLate : Nat → Nat

/-- The peak current in A that R238 gives where V+ is 0 (the quotient has no value; spec/05), by free-value index and term. Log 15. -/
opaque Config.noVoltage : Nat → Nat → Rat

/-- The apparent impedance in ohm of a phase and tone whose current phasor is 0 (the quotient of R261 has no value), by free-value index
and place. Log 15. -/
opaque Config.noCurrent : Nat → Nat → Rat

end Sys2Proof
end

