-- ==== Sys2Proof/Machine/Real.lean ====
section
/-! DEFINITION. Sys2Proof/Machine/Real.lean: square roots and circular functions as the device computes them: exact but for an error below
2 ^ -40, which the spec leaves open and which is a free value (log 10). Numbers inside are integers in units of 2 ^ -80. -/

namespace Sys2Proof.Machine

/-- A free error held within 2 ^ -40. -/
def slight (e : Rat) : Rat := max (-(1 / 1099511627776)) (min (1 / 1099511627776) e)

/-- Units of the fixed-point numbers. -/
abbrev fixOne : Int := 2 ^ 80

/-- The integer square root, one bit after the other from bit `n - 1` downwards; `r` is what the higher bits give. -/
def isqrtFrom (x : Nat) : Nat → Nat → Nat
  | 0, r => r
  | n + 1, r => isqrtFrom x n (if (r + 2 ^ n) ^ 2 ≤ x then r + 2 ^ n else r)

/-- The integer square root. -/
def isqrt (x : Nat) : Nat := isqrtFrom x (Nat.log2 x / 2 + 1) 0

/-- The square root as the device computes it; 0 of a number that is not positive. -/
def sqrtOf (x : Rat) : Rat :=
  if x ≤ 0 then 0
  else (isqrt (x.num.toNat * x.den * 4 ^ 80) : Rat) / ((x.den * 2 ^ 80 : Nat) : Rat) + slight (Config.sqrtError x)

/-- 2 pi in fixed point. -/
abbrev fixTurn : Int := 7595904947272677161575987

/-- The number pi as the device holds it. -/
def piOf : Rat := (fixTurn : Rat) / ((2 * fixOne : Int) : Rat) + slight Config.piError

/-- A fixed-point product. -/
def fixMul (a b : Int) : Int := a * b / fixOne

/-- The sum of the cosine's series from the term `u` with index `k` on, over `n` terms; `sq` is the angle's square. -/
def cosSeries (sq : Int) : Nat → Int → Int → Int
  | 0, _, _ => 0
  | n + 1, k, u => u + cosSeries sq n (k + 2) (-(fixMul u sq) / ((k + 1) * (k + 2)))

/-- The cosine of an angle in turns, in fixed point. -/
def fixCos (x : Rat) : Int :=
  let r := x - (x + 1 / 2).floor
  let a := (r * ((fixTurn : Int) : Rat)).floor
  cosSeries (fixMul a a) 20 0 fixOne

/-- The cosine of an angle in turns as the device computes it. -/
def cosOf (x : Rat) : Rat := (fixCos x : Rat) / ((fixOne : Int) : Rat) + slight (Config.cosError x)

/-- The sine of an angle in turns as the device computes it. -/
def sinOf (x : Rat) : Rat := (fixCos (x - 1 / 4) : Rat) / ((fixOne : Int) : Rat) + slight (Config.sinError x)

/-- The sum of the arc tangent's series over `n` terms: term `u`, its divisor `k`; `sq` is the square of the tangent. -/
def atanSeries (sq : Int) : Nat → Int → Int → Int
  | 0, _, _ => 0
  | n + 1, k, u => u / k + atanSeries sq n (k + 2) (-(fixMul u sq))

/-- Half of the angle whose tangent is `r`: its tangent. -/
def halfTangent (r : Int) : Int := r * fixOne / (fixOne + (isqrt (fixOne * fixOne + r * r).toNat : Int))

/-- The arc tangent of a number in [0, 1], in radians in fixed point. -/
def fixAtan (r : Int) : Int :=
  let h := halfTangent (halfTangent r)
  4 * atanSeries (fixMul h h) 20 1 h

/-- The angle in turns of a point (y, x) as the device computes it, in [-1/2, 1/2]; that of the origin, which has none, is a free value. -/
def atan2Of (y x : Rat) : Rat :=
  if x = 0 ∧ y = 0 then Config.originAngle
  else
    let ax := |x|
    let ay := |y|
    let steep : Bool := ax < ay
    let r := ((if steep then ax / ay else ay / ax) * ((fixOne : Int) : Rat)).floor
    let a : Rat := (fixAtan r : Rat) / ((fixTurn : Int) : Rat)
    let a := if steep then 1 / 4 - a else a
    let a := if x < 0 then 1 / 2 - a else a
    (if y < 0 then -a else a) + slight (Config.angleError y x)

end Sys2Proof.Machine
end

