-- ==== Sys2Proof/Machine/Regs.lean ====
section
/-! DEFINITION. Sys2Proof/Machine/Regs.lean: the register fields of BAR0 and the register table, as the field tables of
spec/02 to spec/18 give them (addresses: spec/18 R687 to R691 and the chapters' own tables; reset values: R6, R689).
A field is named REGISTER_FIELD; a field of a numbered register takes the number. The table says of each register its
reset value and the access type and range of each field (R4); it is what REGISTER_WRITE and the resets go by. -/

namespace Sys2Proof.Machine

/-- One field of one register: the register's BAR0 address, the field's lowest bit and its width. -/
structure FieldRef where
  addr : Nat
  lo : Nat
  w : Nat
deriving DecidableEq, Repr

/-- The access types of R4 that occur in the register tables. -/
inductive Access where
  | rw | ro | wo | w1c
deriving DecidableEq, Repr

/-- One field of a register's table: bits, access type, and the range its chapter states for a host write
(`none`: every value the bits hold is in range). The last entry says the field is a signed number. -/
structure FieldRow where
  lo : Nat
  w : Nat
  access : Access
  range : Option (Int × Int) := none
  signed : Bool := false
deriving DecidableEq, Repr

/-- One register, or `count` registers `stride` bytes apart, with one reset value (R689). -/
structure RegRow where
  base : Nat
  count : Nat := 1
  stride : Nat := 4
  reset : Nat := 0
  fields : List FieldRow
deriving DecidableEq, Repr

/-- The register at an address is one of this row's. -/
def RegRow.covers (r : RegRow) (a : Nat) : Bool :=
  r.base ≤ a && a < r.base + r.count * r.stride && (a - r.base) % r.stride == 0

namespace Reg

abbrev LEGEND_ID : Nat := 0x0000
abbrev LEGEND_SUBSYS : Nat := 0x0004
abbrev LEGEND_CLASS_REV : Nat := 0x0008
abbrev LEGEND_IDCODE : Nat := 0x000C
abbrev LEGEND_CAPS : Nat := 0x0010
abbrev LEGEND_PROTO : Nat := 0x0014
abbrev LEGEND_SERIAL_LO : Nat := 0x0018
abbrev LEGEND_SERIAL_HI : Nat := 0x001C
abbrev LEGEND_SCRATCH : Nat := 0x0020
abbrev HOST_STATUS : Nat := 0x0400
abbrev HOST_FAULT : Nat := 0x0404
abbrev HOST_FAULT_ADDR_LO : Nat := 0x0408
abbrev HOST_FAULT_ADDR_HI : Nat := 0x040C
abbrev HOST_TRACE_CTRL : Nat := 0x0410
abbrev HOST_TIMED : Nat := 0x0414
abbrev HOST_TABLE_OK : Nat := 0x0418
abbrev HOST_RING_BASE_LO (n : Nat) : Nat := 0x0440 + 0x20 * n
abbrev HOST_RING_BASE_HI (n : Nat) : Nat := 0x0444 + 0x20 * n
abbrev HOST_RING_CFG (n : Nat) : Nat := 0x0448 + 0x20 * n
abbrev HOST_RING_PI (n : Nat) : Nat := 0x044C + 0x20 * n
abbrev HOST_RING_CI (n : Nat) : Nat := 0x0450 + 0x20 * n
abbrev HOST_RING_STATE (n : Nat) : Nat := 0x0454 + 0x20 * n
abbrev HOST_CMDS : Nat := 0x0500
abbrev HOST_DMA_TRANSIENT : Nat := 0x0504
abbrev HOST_DMA_FAULTS : Nat := 0x0508
abbrev HOST_DB_REJECT : Nat := 0x050C
abbrev HOST_TRACE_DROP : Nat := 0x0510
abbrev HOST_TABLE_TRANSIENT : Nat := 0x0514
abbrev HOST_TABLEAU_DROP : Nat := 0x0518
abbrev IRQ_TARGET (n : Nat) : Nat := 0x0800 + 0x4 * n
abbrev IRQ_MASK (n : Nat) : Nat := 0x0900 + 0x4 * n
abbrev IRQ_CTRL : Nat := 0x0920
abbrev IRQ_STATUS : Nat := 0x0924
abbrev IRQ_PEND (n : Nat) : Nat := 0x0928 + 0x4 * n
abbrev IRQ_SERVICE (n : Nat) : Nat := 0x0930 + 0x4 * n
abbrev IRQ_EOI : Nat := 0x0938
abbrev IRQ_MSGS : Nat := 0x0940
abbrev IRQ_EOI_BAD : Nat := 0x0944
abbrev IRQ_SP_DROP : Nat := 0x0948
abbrev IRQ_SP_EVENTS : Nat := 0x094C
abbrev IRQ_SRCPEND (n : Nat) : Nat := 0x0960 + 0x4 * n
abbrev IRQ_SP_LOG_LO (n : Nat) : Nat := 0x0980 + 0x8 * n
abbrev IRQ_SP_LOG_HI (n : Nat) : Nat := 0x0984 + 0x8 * n
abbrev IRQ_VEC (n : Nat) : Nat := 0x0A00 + 0x4 * n
abbrev EVENT_SINK_IN (n : Nat) : Nat := 0x0C00 + 0x4 * n
abbrev EVENT_SINK_CFG (n : Nat) : Nat := 0x0D00 + 0x4 * n
abbrev EVENT_SINK_COUNT (n : Nat) : Nat := 0x0E00 + 0x4 * n
abbrev EVENT_RECORD (n : Nat) : Nat := 0x0F00 + 0x4 * n
abbrev EVENT_STATUS : Nat := 0x0F20
abbrev EVENT_REC_SEQ : Nat := 0x0F24
abbrev EVENT_REC_DROP : Nat := 0x0F28
abbrev EVENT_HOLD_DROP : Nat := 0x0F2C
abbrev EVENT_WIN_LOST : Nat := 0x0F30
abbrev CLOCK_CTRL : Nat := 0x1000
abbrev CLOCK_STATUS : Nat := 0x1004
abbrev CLOCK_PLL (n : Nat) : Nat := 0x1008 + 0x4 * n
abbrev CLOCK_MEMO : Nat := 0x1014
abbrev CLOCK_XTAL : Nat := 0x1018
abbrev CLOCK_SAFE : Nat := 0x101C
abbrev CLOCK_UNLOCKS : Nat := 0x1080
abbrev CLOCK_RELOCKS : Nat := 0x1084
abbrev CLOCK_HOPS : Nat := 0x1088
abbrev POWER_STATUS : Nat := 0x1400
abbrev POWER_RESET_CAUSE : Nat := 0x1404
abbrev POWER_RESET : Nat := 0x1408
abbrev POWER_TEMP : Nat := 0x140C
abbrev POWER_TAP : Nat := 0x1410
abbrev POWER_HOT_TIME : Nat := 0x1480
abbrev POWER_HOT_ENTRIES : Nat := 0x1484
abbrev DATUM_NOW_LO : Nat := 0x1800
abbrev DATUM_NOW_HI : Nat := 0x1804
abbrev DATUM_STATUS : Nat := 0x1808
abbrev DATUM_DISC_CTRL : Nat := 0x180C
abbrev DATUM_PPS_CFG : Nat := 0x1810
abbrev DATUM_PPS_COMP : Nat := 0x1814
abbrev DATUM_PPS_LAST_LO : Nat := 0x1818
abbrev DATUM_PPS_LAST_HI : Nat := 0x181C
abbrev DATUM_PHASE_ERR : Nat := 0x1820
abbrev DATUM_FREQ_TRIM : Nat := 0x1824
abbrev DATUM_HOLD_MAX : Nat := 0x1828
abbrev DATUM_PPS_REJECT : Nat := 0x182C
abbrev DATUM_PPS_MISS : Nat := 0x1830
abbrev DATUM_UTC_OFFSET : Nat := 0x1834
abbrev DATUM_MERGE : Nat := 0x1838
abbrev DATUM_HORIZON_LO : Nat := 0x183C
abbrev DATUM_HORIZON_HI : Nat := 0x1840
abbrev DATUM_LATE_COUNT : Nat := 0x1844
abbrev DATUM_EVIO_FUNC : Nat := 0x1848
abbrev DATUM_PPS_OUT : Nat := 0x184C
abbrev DATUM_MER_CTRL : Nat := 0x1880
abbrev DATUM_MER_STATUS : Nat := 0x1884
abbrev DATUM_MER_ASYM : Nat := 0x1888
abbrev DATUM_MER_DELAY : Nat := 0x188C
abbrev DATUM_MER_OFFSET : Nat := 0x1890
abbrev DATUM_MER_ACK_TO : Nat := 0x1894
abbrev DATUM_MER_TRANSIENT : Nat := 0x1898
abbrev DATUM_MER_CRC_ERR : Nat := 0x189C
abbrev DATUM_MER_RX_DROP : Nat := 0x18A0
abbrev DATUM_MER_DUP : Nat := 0x18A4
abbrev DATUM_MER_RXBOX_CTRL : Nat := 0x18A8
abbrev DATUM_MER_RXBOX (n : Nat) : Nat := 0x1900 + 0x4 * n
abbrev CONV_CTRL : Nat := 0x2000
abbrev CONV_STATUS : Nat := 0x2004
abbrev CONV_HAND : Nat := 0x2008
abbrev CONV_STALE : Nat := 0x200C
abbrev CONV_URGENT : Nat := 0x2010
abbrev CONV_MAP (n : Nat) : Nat := 0x2020 + 0x4 * n
abbrev CONV_OVL (n : Nat) : Nat := 0x2030 + 0x4 * n
abbrev CONV_SLOT (n : Nat) : Nat := 0x2040 + 0x4 * n
abbrev CONV_TRANSIENT : Nat := 0x2080
abbrev CONV_HANDOVERS : Nat := 0x2084
abbrev CONV_URGENT_DROP : Nat := 0x2088
abbrev CONV_REQUEUE : Nat := 0x208C
abbrev CONV_MISSING : Nat := 0x2090
abbrev CONV_CLIP : Nat := 0x2094
abbrev CONV_LAST (n : Nat) : Nat := 0x2100 + 0x4 * n
abbrev COMP_CFG (n : Nat) : Nat := 0x2400 + 0x4 * n
abbrev COMP_STATE : Nat := 0x2480
abbrev COMP_LATCH : Nat := 0x2484
abbrev COMP_TEST_CTRL : Nat := 0x2488
abbrev COMP_TEST_SEL : Nat := 0x248C
abbrev COMP_TEST_RESULT : Nat := 0x2490
abbrev COMP_TEST_SKIP : Nat := 0x2494
abbrev COMP_STATUS : Nat := 0x2498
abbrev WING_CTRL : Nat := 0x2800
abbrev WING_DELTA : Nat := 0x2804
abbrev WING_STATUS : Nat := 0x2808
abbrev WING_TRAIN (n : Nat) : Nat := 0x2810 + 0x4 * n
abbrev WING_LAT (n : Nat) : Nat := 0x2820 + 0x4 * n
abbrev WING_CRC_ERR (n : Nat) : Nat := 0x2830 + 0x4 * n
abbrev WING_CODE_ERR (n : Nat) : Nat := 0x2840 + 0x4 * n
abbrev WING_TRANSIENT (n : Nat) : Nat := 0x2850 + 0x4 * n
abbrev WING_LATE_CUE (n : Nat) : Nat := 0x2860 + 0x4 * n
abbrev WING_CELL (n : Nat) : Nat := 0x2C00 + 0x4 * n
abbrev WING_DELAY (n : Nat) : Nat := 0x2E00 + 0x4 * n
abbrev CUR_CTRL : Nat := 0x3000
abbrev CUR_STATUS : Nat := 0x3004
abbrev CUR_LAW : Nat := 0x3008
abbrev CUR_BAND_CFG : Nat := 0x300C
abbrev CUR_BAND_LIM : Nat := 0x3010
abbrev CUR_BAND_INIT : Nat := 0x3014
abbrev CUR_FE : Nat := 0x3018
abbrev CUR_RAMPZ : Nat := 0x301C
abbrev CUR_STAR : Nat := 0x3020
abbrev CUR_BAND (n : Nat) : Nat := 0x3024 + 0x4 * n
abbrev CUR_FSW (n : Nat) : Nat := 0x3030 + 0x4 * n
abbrev CUR_LEVEL (n : Nat) : Nat := 0x3040 + 0x4 * n
abbrev CUR_ERR (n : Nat) : Nat := 0x3050 + 0x4 * n
abbrev CUR_VN_RES : Nat := 0x3060
abbrev CUR_STEPS : Nat := 0x3080
abbrev CUR_DEFICIT : Nat := 0x3084
abbrev CUR_FAST : Nat := 0x3088
abbrev CUR_FAST_MERGED : Nat := 0x308C
abbrev CUR_SKIP : Nat := 0x3090
abbrev CUR_SAT_COUNT : Nat := 0x3094
abbrev CUR_FE_COUNT : Nat := 0x3098
abbrev CAST_CTRL : Nat := 0x3400
abbrev CAST_STATUS : Nat := 0x3404
abbrev CAST_DWELL : Nat := 0x3408
abbrev CAST_AGE_LIMIT : Nat := 0x340C
abbrev CAST_DEF : Nat := 0x3410
abbrev CAST_ZS : Nat := 0x3414
abbrev CAST_READMIT : Nat := 0x3418
abbrev CAST_PHASE (n : Nat) : Nat := 0x3420 + 0x4 * n
abbrev CAST_COOL : Nat := 0x3430
abbrev CAST_MOVES : Nat := 0x3480
abbrev CAST_SHORT : Nat := 0x3484
abbrev CAST_RELAX : Nat := 0x3488
abbrev CAST_STARVED : Nat := 0x348C
abbrev CAST_ZS_STEPS : Nat := 0x3490
abbrev CAST_ZS_MISS : Nat := 0x3494
abbrev CAST_OUT : Nat := 0x3498
abbrev CAST_TAKEOVER : Nat := 0x349C
abbrev CAST_HOT : Nat := 0x34A0
abbrev CAST_QUEUE_WAIT : Nat := 0x34A4
abbrev CAST_QUEUE_FULL : Nat := 0x34A8
abbrev CAST_CELL (n : Nat) : Nat := 0x3600 + 0x4 * n
abbrev CELLPWR_CTRL : Nat := 0x3800
abbrev CELLPWR_STATUS : Nat := 0x3804
abbrev CELLPWR_BAL : Nat := 0x3808
abbrev CELLPWR_ZS : Nat := 0x380C
abbrev CELLPWR_SCAN : Nat := 0x3810
abbrev CELLPWR_DUMP : Nat := 0x3814
abbrev CELLPWR_DUMP_TIME : Nat := 0x3818
abbrev CELLPWR_DUMP_CLR : Nat := 0x381C
abbrev CELLPWR_PLIM : Nat := 0x3820
abbrev CELLPWR_PDEM : Nat := 0x3824
abbrev CELLPWR_ZSDEM : Nat := 0x3828
abbrev CELLPWR_PHASE (n : Nat) : Nat := 0x3830 + 0x4 * n
abbrev CELLPWR_SCANS : Nat := 0x3880
abbrev CELLPWR_PROBES : Nat := 0x3884
abbrev CELLPWR_ABORTS : Nat := 0x3888
abbrev CELLPWR_DUMP_ONS : Nat := 0x388C
abbrev CELLPWR_CELL (n : Nat) : Nat := 0x3A00 + 0x4 * n
abbrev GRID_CTRL : Nat := 0x3C00
abbrev GRID_STATUS : Nat := 0x3C04
abbrev GRID_NOM : Nat := 0x3C08
abbrev GRID_ILIM : Nat := 0x3C0C
abbrev GRID_RAMP : Nat := 0x3C10
abbrev GRID_BEAR_CFG : Nat := 0x3C14
abbrev GRID_PASSIVE : Nat := 0x3C18
abbrev GRID_ANGLE : Nat := 0x3C20
abbrev GRID_FREQ : Nat := 0x3C24
abbrev GRID_ROCOF : Nat := 0x3C28
abbrev GRID_VSEQ : Nat := 0x3C2C
abbrev GRID_VLEVEL : Nat := 0x3C30
abbrev GRID_PQ_REF : Nat := 0x3C34
abbrev GRID_DIST_V : Nat := 0x3C38
abbrev GRID_DIST_F : Nat := 0x3C3C
abbrev GRID_VERDICT : Nat := 0x3C40
abbrev GRID_ISL : Nat := 0x3C44
abbrev GRID_CESS_COUNT : Nat := 0x3C50
abbrev GRID_TRIP_COUNT : Nat := 0x3C54
abbrev GRID_ISL_COUNT : Nat := 0x3C58
abbrev GRID_SIG_MISS : Nat := 0x3C5C
abbrev GRID_INPUT_MISS : Nat := 0x3C60
abbrev METER_CTRL : Nat := 0x4000
abbrev METER_STATUS : Nat := 0x4004
abbrev METER_CFG : Nat := 0x4008
abbrev METER_QUANTUM : Nat := 0x400C
abbrev METER_SEQ : Nat := 0x4010
abbrev METER_OLDEST : Nat := 0x4014
abbrev METER_ATLAS : Nat := 0x4018
abbrev METER_KEY_ID : Nat := 0x401C
abbrev METER_OPEN_LO : Nat := 0x4020
abbrev METER_OPEN_HI : Nat := 0x4024
abbrev METER_OVERRUN : Nat := 0x4028
abbrev METER_SNAP_TIME_LO : Nat := 0x402C
abbrev METER_SNAP_TIME_HI : Nat := 0x4030
abbrev METER_P (n : Nat) : Nat := 0x4040 + 0x4 * n
abbrev METER_Q (n : Nat) : Nat := 0x4050 + 0x4 * n
abbrev METER_S (n : Nat) : Nat := 0x4060 + 0x4 * n
abbrev METER_VRMS (n : Nat) : Nat := 0x4070 + 0x4 * n
abbrev METER_IRMS (n : Nat) : Nat := 0x4080 + 0x4 * n
abbrev METER_PULSE (n : Nat) : Nat := 0x4090 + 0x4 * n
abbrev METER_SNAP (n : Nat) : Nat := 0x4100 + 0x4 * n
abbrev METER_SUBST : Nat := 0x4200
abbrev METER_UNMETERED : Nat := 0x4204
abbrev METER_UNPAIRED : Nat := 0x4208
abbrev METER_ATLAS_LOST : Nat := 0x420C
abbrev METER_EXPORT_WAIT : Nat := 0x4210
abbrev METER_SEAL_DEFER : Nat := 0x4214
abbrev METER_PULSE_LOST (n : Nat) : Nat := 0x4218 + 0x4 * n
abbrev CURTAIN_STATUS : Nat := 0x4800
abbrev CURTAIN_CAUSE : Nat := 0x4804
abbrev CURTAIN_HOLD : Nat := 0x4808
abbrev CURTAIN_PINS : Nat := 0x480C
abbrev CURTAIN_LAST_LO : Nat := 0x4810
abbrev CURTAIN_LAST_HI : Nat := 0x4814
abbrev CURTAIN_RAISES : Nat := 0x4820
abbrev CURTAIN_STOPS : Nat := 0x4824
abbrev CURTAIN_LOCKS : Nat := 0x4828
abbrev CURTAIN_TRANSIENT : Nat := 0x482C
abbrev CURTAIN_RESET_REFUSED : Nat := 0x4830
abbrev GUARD_CTRL : Nat := 0x4C00
abbrev GUARD_CFG : Nat := 0x4C04
abbrev GUARD_BLANK : Nat := 0x4C08
abbrev GUARD_STATUS : Nat := 0x4C0C
abbrev GUARD_PINS : Nat := 0x4C10
abbrev GUARD_LOW : Nat := 0x4C14
abbrev GUARD_TRIPS : Nat := 0x4C40
abbrev GUARD_DESAT : Nat := 0x4C44
abbrev GUARD_SUPPRESS : Nat := 0x4C48
abbrev GUARD_CMD_ERR : Nat := 0x4C4C
abbrev GUARD_CLEARS : Nat := 0x4C50
abbrev GUARD_CLEAR_REFUSED : Nat := 0x4C54
abbrev GUARD_CELL (n : Nat) : Nat := 0x4E00 + 0x4 * n
abbrev PUMP_CTRL : Nat := 0x5000
abbrev PUMP_STATUS : Nat := 0x5004
abbrev PUMP_CMD : Nat := 0x5008
abbrev PUMP_SPEED : Nat := 0x500C
abbrev PUMP_MANUAL : Nat := 0x5014
abbrev PUMP_SECTOR : Nat := 0x5018
abbrev PUMP_BUS : Nat := 0x501C
abbrev PUMP_PWM_PERIOD : Nat := 0x5020
abbrev PUMP_PWM_CHOP_PERIOD : Nat := 0x5024
abbrev PUMP_PWM_LOAD : Nat := 0x5028
abbrev PUMP_PWM_DUTY (n : Nat) : Nat := 0x5030 + 0x4 * n
abbrev PUMP_PWM_MARK (n : Nat) : Nat := 0x5040 + 0x4 * n
abbrev PUMP_PWM_EVT (n : Nat) : Nat := 0x5050 + 0x4 * n
abbrev PUMP_STARTS : Nat := 0x5080
abbrev PUMP_CATCHES : Nat := 0x5084
abbrev PUMP_TRANSIENT : Nat := 0x5088
abbrev PUMP_LOCKS : Nat := 0x508C
abbrev PUMP_CHOP_ACTS : Nat := 0x5090
abbrev PUMP_LOAD_OVERRUN : Nat := 0x5094
abbrev GHOST_CFG : Nat := 0x5400
abbrev GHOST_STATUS : Nat := 0x5404
abbrev GHOST_LEVELS : Nat := 0x5408
abbrev GHOST_MPP : Nat := 0x540C
abbrev GHOST_KEEPER : Nat := 0x5410
abbrev GHOST_OUT_START_LO : Nat := 0x5420
abbrev GHOST_OUT_START_HI : Nat := 0x5424
abbrev GHOST_OUT_END_LO : Nat := 0x5428
abbrev GHOST_OUT_END_HI : Nat := 0x542C
abbrev GHOST_OUT_ERR : Nat := 0x5430
abbrev GHOST_TAMP_COUNT (n : Nat) : Nat := 0x5440 + 0x4 * n
abbrev GHOST_OUTAGES : Nat := 0x5480
abbrev GHOST_PF_RIDES : Nat := 0x5484
abbrev GHOST_STORE_SEALS : Nat := 0x5488
abbrev GHOST_TLOG (n : Nat) : Nat := 0x5500 + 0x4 * n
abbrev SCRUB_CTRL : Nat := 0x5800
abbrev SCRUB_STATUS : Nat := 0x5804
abbrev SCRUB_SURVEY : Nat := 0x5808
abbrev SCRUB_SWEEP_TIME : Nat := 0x580C
abbrev SCRUB_STUCK_ADDR : Nat := 0x5810
abbrev SCRUB_UNCORR_ADDR : Nat := 0x5814
abbrev SCRUB_FAULT_SEEN : Nat := 0x5818
abbrev SCRUB_WEAR_SEL : Nat := 0x5840
abbrev SCRUB_WEAR_A_LO : Nat := 0x5844
abbrev SCRUB_WEAR_A_HI : Nat := 0x5848
abbrev SCRUB_WEAR_B_LO : Nat := 0x584C
abbrev SCRUB_WEAR_B_HI : Nat := 0x5850
abbrev SCRUB_WEAR_BYP : Nat := 0x5854
abbrev SCRUB_WEAR_DUMP : Nat := 0x5858
abbrev SCRUB_WEAR_LINE : Nat := 0x585C
abbrev SCRUB_SWEEPS : Nat := 0x5880
abbrev SCRUB_CORR : Nat := 0x5884
abbrev SCRUB_TRANSIENT : Nat := 0x5888
abbrev SCRUB_STUCK : Nat := 0x588C
abbrev SCRUB_UNCORR : Nat := 0x5890
abbrev SCRUB_SURVEY_LATE : Nat := 0x5898
abbrev SCRUB_K_OPS_A : Nat := 0x58A0
abbrev SCRUB_K_OPS_B : Nat := 0x58A4
abbrev SCRUB_K_LOAD : Nat := 0x58A8
end Reg

namespace F

abbrev LEGEND_ID_DEVICE_ID : FieldRef := ⟨0x0000, 16, 16⟩
abbrev LEGEND_ID_VENDOR_ID : FieldRef := ⟨0x0000, 0, 16⟩
abbrev LEGEND_SUBSYS_SUBSYS_ID : FieldRef := ⟨0x0004, 16, 16⟩
abbrev LEGEND_SUBSYS_SUBSYS_VENDOR : FieldRef := ⟨0x0004, 0, 16⟩
abbrev LEGEND_CLASS_REV_CLASS : FieldRef := ⟨0x0008, 8, 24⟩
abbrev LEGEND_CLASS_REV_REV_ID : FieldRef := ⟨0x0008, 0, 8⟩
abbrev LEGEND_IDCODE_VERSION : FieldRef := ⟨0x000C, 28, 4⟩
abbrev LEGEND_IDCODE_PART : FieldRef := ⟨0x000C, 12, 16⟩
abbrev LEGEND_IDCODE_MAKER : FieldRef := ⟨0x000C, 1, 11⟩
abbrev LEGEND_IDCODE_ONE : FieldRef := ⟨0x000C, 0, 1⟩
abbrev LEGEND_CAPS_CELLS : FieldRef := ⟨0x0010, 24, 8⟩
abbrev LEGEND_CAPS_LOOPS : FieldRef := ⟨0x0010, 16, 8⟩
abbrev LEGEND_CAPS_SLICES : FieldRef := ⟨0x0010, 8, 8⟩
abbrev LEGEND_CAPS_COMPS : FieldRef := ⟨0x0010, 0, 8⟩
abbrev LEGEND_PROTO_RING_VER : FieldRef := ⟨0x0014, 16, 8⟩
abbrev LEGEND_PROTO_MER_VER : FieldRef := ⟨0x0014, 8, 8⟩
abbrev LEGEND_PROTO_WING_PROTO : FieldRef := ⟨0x0014, 0, 8⟩
abbrev LEGEND_SERIAL_LO_SERIAL : FieldRef := ⟨0x0018, 0, 32⟩
abbrev LEGEND_SERIAL_HI_SERIAL : FieldRef := ⟨0x001C, 0, 32⟩
abbrev LEGEND_SCRATCH_DATA : FieldRef := ⟨0x0020, 0, 32⟩
abbrev HOST_STATUS_SPEED : FieldRef := ⟨0x0400, 10, 2⟩
abbrev HOST_STATUS_LINK_UP : FieldRef := ⟨0x0400, 9, 1⟩
abbrev HOST_STATUS_BME : FieldRef := ⟨0x0400, 8, 1⟩
abbrev HOST_STATUS_IDLE : FieldRef := ⟨0x0400, 7, 1⟩
abbrev HOST_STATUS_LINK_LOST : FieldRef := ⟨0x0400, 6, 1⟩
abbrev HOST_STATUS_TRACE_LOST : FieldRef := ⟨0x0400, 5, 1⟩
abbrev HOST_STATUS_DMA_FAULT : FieldRef := ⟨0x0400, 4, 1⟩
abbrev HOST_STATUS_DB_REJECT : FieldRef := ⟨0x0400, 3, 1⟩
abbrev HOST_STATUS_CFG_REJECT : FieldRef := ⟨0x0400, 2, 1⟩
abbrev HOST_FAULT_PAYLOAD : FieldRef := ⟨0x0404, 7, 1⟩
abbrev HOST_FAULT_RING : FieldRef := ⟨0x0404, 4, 3⟩
abbrev HOST_FAULT_KIND : FieldRef := ⟨0x0404, 0, 2⟩
abbrev HOST_FAULT_ADDR_LO_ADDR : FieldRef := ⟨0x0408, 0, 32⟩
abbrev HOST_FAULT_ADDR_HI_ADDR : FieldRef := ⟨0x040C, 0, 32⟩
abbrev HOST_TRACE_CTRL_PHASES : FieldRef := ⟨0x0410, 4, 3⟩
abbrev HOST_TRACE_CTRL_CMD_EN : FieldRef := ⟨0x0410, 2, 1⟩
abbrev HOST_TRACE_CTRL_MOVE_EN : FieldRef := ⟨0x0410, 1, 1⟩
abbrev HOST_TRACE_CTRL_DEC_EN : FieldRef := ⟨0x0410, 0, 1⟩
abbrev HOST_TIMED_PENDING : FieldRef := ⟨0x0414, 0, 7⟩
abbrev HOST_TABLE_OK_OK : FieldRef := ⟨0x0418, 1, 12⟩
abbrev HOST_RING_BASE_LO_BASE (n : Nat) : FieldRef := ⟨0x0440 + 0x20 * n, 12, 20⟩
abbrev HOST_RING_BASE_HI_BASE (n : Nat) : FieldRef := ⟨0x0444 + 0x20 * n, 0, 32⟩
abbrev HOST_RING_CFG_EN (n : Nat) : FieldRef := ⟨0x0448 + 0x20 * n, 31, 1⟩
abbrev HOST_RING_CFG_LOG2 (n : Nat) : FieldRef := ⟨0x0448 + 0x20 * n, 0, 5⟩
abbrev HOST_RING_PI_PI (n : Nat) : FieldRef := ⟨0x044C + 0x20 * n, 0, 32⟩
abbrev HOST_RING_CI_CI (n : Nat) : FieldRef := ⟨0x0450 + 0x20 * n, 0, 32⟩
abbrev HOST_RING_STATE_STOPPED (n : Nat) : FieldRef := ⟨0x0454 + 0x20 * n, 1, 1⟩
abbrev HOST_RING_STATE_FULL (n : Nat) : FieldRef := ⟨0x0454 + 0x20 * n, 0, 1⟩
abbrev HOST_CMDS_COUNT : FieldRef := ⟨0x0500, 0, 32⟩
abbrev HOST_DMA_TRANSIENT_COUNT : FieldRef := ⟨0x0504, 0, 32⟩
abbrev HOST_DMA_FAULTS_COUNT : FieldRef := ⟨0x0508, 0, 32⟩
abbrev HOST_DB_REJECT_COUNT : FieldRef := ⟨0x050C, 0, 32⟩
abbrev HOST_TRACE_DROP_COUNT : FieldRef := ⟨0x0510, 0, 32⟩
abbrev HOST_TABLE_TRANSIENT_COUNT : FieldRef := ⟨0x0514, 0, 32⟩
abbrev HOST_TABLEAU_DROP_COUNT : FieldRef := ⟨0x0518, 0, 32⟩
abbrev IRQ_TARGET_TGT3 (n : Nat) : FieldRef := ⟨0x0800 + 0x4 * n, 24, 8⟩
abbrev IRQ_TARGET_TGT2 (n : Nat) : FieldRef := ⟨0x0800 + 0x4 * n, 16, 8⟩
abbrev IRQ_TARGET_TGT1 (n : Nat) : FieldRef := ⟨0x0800 + 0x4 * n, 8, 8⟩
abbrev IRQ_TARGET_TGT0 (n : Nat) : FieldRef := ⟨0x0800 + 0x4 * n, 0, 8⟩
abbrev IRQ_MASK_MASK (n : Nat) : FieldRef := ⟨0x0900 + 0x4 * n, 0, 32⟩
abbrev IRQ_CTRL_FREEZE_EN : FieldRef := ⟨0x0920, 0, 1⟩
abbrev IRQ_STATUS_LOG_NEXT : FieldRef := ⟨0x0924, 8, 4⟩
abbrev IRQ_STATUS_SP_FROZEN : FieldRef := ⟨0x0924, 4, 1⟩
abbrev IRQ_STATUS_EOI_BAD : FieldRef := ⟨0x0924, 3, 1⟩
abbrev IRQ_STATUS_CFG_REJECT : FieldRef := ⟨0x0924, 2, 1⟩
abbrev IRQ_STATUS_MSIX : FieldRef := ⟨0x0924, 1, 1⟩
abbrev IRQ_STATUS_MSI : FieldRef := ⟨0x0924, 0, 1⟩
abbrev IRQ_PEND_PEND (n : Nat) : FieldRef := ⟨0x0928 + 0x4 * n, 0, 32⟩
abbrev IRQ_SERVICE_SERVICE (n : Nat) : FieldRef := ⟨0x0930 + 0x4 * n, 0, 32⟩
abbrev IRQ_EOI_VEC : FieldRef := ⟨0x0938, 0, 6⟩
abbrev IRQ_MSGS_COUNT : FieldRef := ⟨0x0940, 0, 32⟩
abbrev IRQ_EOI_BAD_COUNT : FieldRef := ⟨0x0944, 0, 32⟩
abbrev IRQ_SP_DROP_COUNT : FieldRef := ⟨0x0948, 0, 32⟩
abbrev IRQ_SP_EVENTS_COUNT : FieldRef := ⟨0x094C, 0, 32⟩
abbrev IRQ_SRCPEND_PEND (n : Nat) : FieldRef := ⟨0x0960 + 0x4 * n, 0, 32⟩
abbrev IRQ_SP_LOG_LO_STAMP (n : Nat) : FieldRef := ⟨0x0980 + 0x8 * n, 0, 32⟩
abbrev IRQ_SP_LOG_HI_NUMBER (n : Nat) : FieldRef := ⟨0x0984 + 0x8 * n, 24, 8⟩
abbrev IRQ_SP_LOG_HI_INSTANCE (n : Nat) : FieldRef := ⟨0x0984 + 0x8 * n, 16, 8⟩
abbrev IRQ_SP_LOG_HI_STAMP (n : Nat) : FieldRef := ⟨0x0984 + 0x8 * n, 0, 16⟩
abbrev IRQ_VEC_EOI_MODE (n : Nat) : FieldRef := ⟨0x0A00 + 0x4 * n, 31, 1⟩
abbrev IRQ_VEC_PRIO (n : Nat) : FieldRef := ⟨0x0A00 + 0x4 * n, 24, 3⟩
abbrev IRQ_VEC_COUNT (n : Nat) : FieldRef := ⟨0x0A00 + 0x4 * n, 16, 8⟩
abbrev IRQ_VEC_HOLDOFF (n : Nat) : FieldRef := ⟨0x0A00 + 0x4 * n, 0, 10⟩
abbrev EVENT_SINK_IN_IN3 (n : Nat) : FieldRef := ⟨0x0C00 + 0x4 * n, 24, 8⟩
abbrev EVENT_SINK_IN_IN2 (n : Nat) : FieldRef := ⟨0x0C00 + 0x4 * n, 16, 8⟩
abbrev EVENT_SINK_IN_IN1 (n : Nat) : FieldRef := ⟨0x0C00 + 0x4 * n, 8, 8⟩
abbrev EVENT_SINK_IN_IN0 (n : Nat) : FieldRef := ⟨0x0C00 + 0x4 * n, 0, 8⟩
abbrev EVENT_SINK_CFG_EN (n : Nat) : FieldRef := ⟨0x0D00 + 0x4 * n, 28, 4⟩
abbrev EVENT_SINK_CFG_IMATCH (n : Nat) : FieldRef := ⟨0x0D00 + 0x4 * n, 24, 4⟩
abbrev EVENT_SINK_CFG_MODE (n : Nat) : FieldRef := ⟨0x0D00 + 0x4 * n, 21, 3⟩
abbrev EVENT_SINK_CFG_PARAM (n : Nat) : FieldRef := ⟨0x0D00 + 0x4 * n, 8, 13⟩
abbrev EVENT_SINK_CFG_INST (n : Nat) : FieldRef := ⟨0x0D00 + 0x4 * n, 0, 7⟩
abbrev EVENT_SINK_COUNT_COUNT (n : Nat) : FieldRef := ⟨0x0E00 + 0x4 * n, 0, 32⟩
abbrev EVENT_RECORD_REC (n : Nat) : FieldRef := ⟨0x0F00 + 0x4 * n, 0, 32⟩
abbrev EVENT_STATUS_CFG_REJECT : FieldRef := ⟨0x0F20, 2, 1⟩
abbrev EVENT_STATUS_HOLD_LOST : FieldRef := ⟨0x0F20, 1, 1⟩
abbrev EVENT_STATUS_REC_LOST : FieldRef := ⟨0x0F20, 0, 1⟩
abbrev EVENT_REC_SEQ_SEQ : FieldRef := ⟨0x0F24, 0, 32⟩
abbrev EVENT_REC_DROP_COUNT : FieldRef := ⟨0x0F28, 0, 32⟩
abbrev EVENT_HOLD_DROP_COUNT : FieldRef := ⟨0x0F2C, 0, 32⟩
abbrev EVENT_WIN_LOST_COUNT : FieldRef := ⟨0x0F30, 0, 32⟩
abbrev CLOCK_CTRL_FORCE_SLOW : FieldRef := ⟨0x1000, 0, 1⟩
abbrev CLOCK_STATUS_CFG_REJECT : FieldRef := ⟨0x1004, 11, 1⟩
abbrev CLOCK_STATUS_STAGE_BYP : FieldRef := ⟨0x1004, 10, 1⟩
abbrev CLOCK_STATUS_CORE_BYP : FieldRef := ⟨0x1004, 9, 1⟩
abbrev CLOCK_STATUS_CORE_SLOW : FieldRef := ⟨0x1004, 8, 1⟩
abbrev CLOCK_STATUS_CONV_STOP : FieldRef := ⟨0x1004, 7, 1⟩
abbrev CLOCK_STATUS_LOCK_C : FieldRef := ⟨0x1004, 2, 1⟩
abbrev CLOCK_STATUS_LOCK_B : FieldRef := ⟨0x1004, 1, 1⟩
abbrev CLOCK_STATUS_LOCK_A : FieldRef := ⟨0x1004, 0, 1⟩
abbrev CLOCK_PLL_MEMO (n : Nat) : FieldRef := ⟨0x1008 + 0x4 * n, 17, 3⟩
abbrev CLOCK_PLL_HIT (n : Nat) : FieldRef := ⟨0x1008 + 0x4 * n, 16, 1⟩
abbrev CLOCK_PLL_FB (n : Nat) : FieldRef := ⟨0x1008 + 0x4 * n, 8, 8⟩
abbrev CLOCK_PLL_OUT (n : Nat) : FieldRef := ⟨0x1008 + 0x4 * n, 0, 8⟩
abbrev CLOCK_MEMO_VALID_C : FieldRef := ⟨0x1014, 16, 8⟩
abbrev CLOCK_MEMO_VALID_B : FieldRef := ⟨0x1014, 8, 8⟩
abbrev CLOCK_MEMO_VALID_A : FieldRef := ⟨0x1014, 0, 8⟩
abbrev CLOCK_XTAL_COUNT : FieldRef := ⟨0x1018, 0, 16⟩
abbrev CLOCK_SAFE_FREQ : FieldRef := ⟨0x101C, 0, 16⟩
abbrev CLOCK_UNLOCKS_COUNT : FieldRef := ⟨0x1080, 0, 32⟩
abbrev CLOCK_RELOCKS_COUNT : FieldRef := ⟨0x1084, 0, 32⟩
abbrev CLOCK_HOPS_COUNT : FieldRef := ⟨0x1088, 0, 32⟩
abbrev POWER_STATUS_CFG_REJECT : FieldRef := ⟨0x1400, 10, 1⟩
abbrev POWER_STATUS_START_DONE : FieldRef := ⟨0x1400, 9, 1⟩
abbrev POWER_STATUS_TABLEAU : FieldRef := ⟨0x1400, 8, 1⟩
abbrev POWER_STATUS_THERM : FieldRef := ⟨0x1400, 6, 1⟩
abbrev POWER_STATUS_RAIL_OK : FieldRef := ⟨0x1400, 0, 5⟩
abbrev POWER_RESET_CAUSE_HISTORY : FieldRef := ⟨0x1404, 8, 8⟩
abbrev POWER_RESET_CAUSE_LAST : FieldRef := ⟨0x1404, 0, 3⟩
abbrev POWER_RESET_KEY : FieldRef := ⟨0x1408, 0, 16⟩
abbrev POWER_TEMP_MAX : FieldRef := ⟨0x140C, 16, 16⟩
abbrev POWER_TEMP_TEMP : FieldRef := ⟨0x140C, 0, 16⟩
abbrev POWER_TAP_KEY_FAILED : FieldRef := ⟨0x1410, 1, 1⟩
abbrev POWER_TAP_DEBUG_LOCK : FieldRef := ⟨0x1410, 0, 1⟩
abbrev POWER_HOT_TIME_COUNT : FieldRef := ⟨0x1480, 0, 32⟩
abbrev POWER_HOT_ENTRIES_COUNT : FieldRef := ⟨0x1484, 0, 32⟩
abbrev DATUM_NOW_LO_TIME : FieldRef := ⟨0x1800, 0, 32⟩
abbrev DATUM_NOW_HI_TIME : FieldRef := ⟨0x1804, 0, 32⟩
abbrev DATUM_STATUS_CFG_REJECT : FieldRef := ⟨0x1808, 9, 1⟩
abbrev DATUM_STATUS_DUAL_GM : FieldRef := ⟨0x1808, 8, 1⟩
abbrev DATUM_STATUS_STEPPED : FieldRef := ⟨0x1808, 7, 1⟩
abbrev DATUM_STATUS_DOMAIN_OK : FieldRef := ⟨0x1808, 6, 1⟩
abbrev DATUM_STATUS_PPS_PRESENT : FieldRef := ⟨0x1808, 5, 1⟩
abbrev DATUM_STATUS_ORIGIN : FieldRef := ⟨0x1808, 2, 3⟩
abbrev DATUM_STATUS_DISC : FieldRef := ⟨0x1808, 0, 2⟩
abbrev DATUM_DISC_CTRL_STEP_LIMIT : FieldRef := ⟨0x180C, 24, 8⟩
abbrev DATUM_DISC_CTRL_SLEW_MAX : FieldRef := ⟨0x180C, 16, 8⟩
abbrev DATUM_DISC_CTRL_LOCK_THRESH : FieldRef := ⟨0x180C, 8, 8⟩
abbrev DATUM_DISC_CTRL_PPS_LOSS : FieldRef := ⟨0x180C, 4, 4⟩
abbrev DATUM_DISC_CTRL_LOCK_COUNT : FieldRef := ⟨0x180C, 0, 4⟩
abbrev DATUM_PPS_CFG_ENABLE : FieldRef := ⟨0x1810, 16, 1⟩
abbrev DATUM_PPS_CFG_PERIOD_TOL : FieldRef := ⟨0x1810, 8, 8⟩
abbrev DATUM_PPS_CFG_WIN : FieldRef := ⟨0x1810, 0, 8⟩
abbrev DATUM_PPS_COMP_COMP : FieldRef := ⟨0x1814, 0, 32⟩
abbrev DATUM_PPS_LAST_LO_TIME : FieldRef := ⟨0x1818, 0, 32⟩
abbrev DATUM_PPS_LAST_HI_TIME : FieldRef := ⟨0x181C, 0, 32⟩
abbrev DATUM_PHASE_ERR_ERR : FieldRef := ⟨0x1820, 0, 32⟩
abbrev DATUM_FREQ_TRIM_TRIM : FieldRef := ⟨0x1824, 0, 32⟩
abbrev DATUM_HOLD_MAX_SECONDS : FieldRef := ⟨0x1828, 0, 17⟩
abbrev DATUM_PPS_REJECT_COUNT : FieldRef := ⟨0x182C, 0, 32⟩
abbrev DATUM_PPS_MISS_COUNT : FieldRef := ⟨0x1830, 0, 32⟩
abbrev DATUM_UTC_OFFSET_SECONDS : FieldRef := ⟨0x1834, 0, 16⟩
abbrev DATUM_MERGE_WINDOW : FieldRef := ⟨0x1838, 0, 8⟩
abbrev DATUM_HORIZON_LO_TIME : FieldRef := ⟨0x183C, 0, 32⟩
abbrev DATUM_HORIZON_HI_TIME : FieldRef := ⟨0x1840, 0, 32⟩
abbrev DATUM_LATE_COUNT_COUNT : FieldRef := ⟨0x1844, 0, 32⟩
abbrev DATUM_EVIO_FUNC_FUNC3 : FieldRef := ⟨0x1848, 12, 4⟩
abbrev DATUM_EVIO_FUNC_FUNC2 : FieldRef := ⟨0x1848, 8, 4⟩
abbrev DATUM_EVIO_FUNC_FUNC1 : FieldRef := ⟨0x1848, 4, 4⟩
abbrev DATUM_EVIO_FUNC_FUNC0 : FieldRef := ⟨0x1848, 0, 4⟩
abbrev DATUM_PPS_OUT_QUAL : FieldRef := ⟨0x184C, 19, 1⟩
abbrev DATUM_PPS_OUT_WIDTH : FieldRef := ⟨0x184C, 0, 19⟩
abbrev DATUM_MER_CTRL_ADDR : FieldRef := ⟨0x1880, 16, 16⟩
abbrev DATUM_MER_CTRL_ROLE : FieldRef := ⟨0x1880, 1, 1⟩
abbrev DATUM_MER_CTRL_ENABLE : FieldRef := ⟨0x1880, 0, 1⟩
abbrev DATUM_MER_STATUS_GM_ADDR : FieldRef := ⟨0x1884, 16, 16⟩
abbrev DATUM_MER_STATUS_LEVEL : FieldRef := ⟨0x1884, 1, 4⟩
abbrev DATUM_MER_STATUS_LINK_UP : FieldRef := ⟨0x1884, 0, 1⟩
abbrev DATUM_MER_ASYM_A : FieldRef := ⟨0x1888, 0, 16⟩
abbrev DATUM_MER_DELAY_DELAY : FieldRef := ⟨0x188C, 0, 32⟩
abbrev DATUM_MER_OFFSET_OFFSET : FieldRef := ⟨0x1890, 0, 32⟩
abbrev DATUM_MER_ACK_TO_SLOTS : FieldRef := ⟨0x1894, 0, 10⟩
abbrev DATUM_MER_TRANSIENT_COUNT : FieldRef := ⟨0x1898, 0, 32⟩
abbrev DATUM_MER_CRC_ERR_COUNT : FieldRef := ⟨0x189C, 0, 32⟩
abbrev DATUM_MER_RX_DROP_COUNT : FieldRef := ⟨0x18A0, 0, 32⟩
abbrev DATUM_MER_DUP_COUNT : FieldRef := ⟨0x18A4, 0, 32⟩
abbrev DATUM_MER_RXBOX_CTRL_FULL : FieldRef := ⟨0x18A8, 0, 8⟩
abbrev CONV_CTRL_READMIT : FieldRef := ⟨0x2000, 8, 4⟩
abbrev CONV_CTRL_HAND_EN : FieldRef := ⟨0x2000, 1, 1⟩
abbrev CONV_CTRL_RUN : FieldRef := ⟨0x2000, 0, 1⟩
abbrev CONV_STATUS_CFG_REJECT : FieldRef := ⟨0x2004, 14, 1⟩
abbrev CONV_STATUS_REF_FAULT : FieldRef := ⟨0x2004, 13, 1⟩
abbrev CONV_STATUS_SUSPECT : FieldRef := ⟨0x2004, 8, 4⟩
abbrev CONV_STATUS_CAL_STALE : FieldRef := ⟨0x2004, 4, 4⟩
abbrev CONV_STATUS_NO_US : FieldRef := ⟨0x2004, 0, 4⟩
abbrev CONV_HAND_INTERVAL : FieldRef := ⟨0x2008, 24, 8⟩
abbrev CONV_HAND_OVERLAP : FieldRef := ⟨0x2008, 18, 6⟩
abbrev CONV_HAND_CAL_LIM : FieldRef := ⟨0x2008, 12, 6⟩
abbrev CONV_HAND_MEAN_LIM : FieldRef := ⟨0x2008, 6, 6⟩
abbrev CONV_HAND_PEAK_LIM : FieldRef := ⟨0x2008, 0, 6⟩
abbrev CONV_STALE_SECONDS : FieldRef := ⟨0x200C, 0, 12⟩
abbrev CONV_URGENT_GO : FieldRef := ⟨0x2010, 8, 1⟩
abbrev CONV_URGENT_INPUT : FieldRef := ⟨0x2010, 0, 4⟩
abbrev CONV_MAP_OUT (n : Nat) : FieldRef := ⟨0x2020 + 0x4 * n, 24, 5⟩
abbrev CONV_MAP_US_STATE (n : Nat) : FieldRef := ⟨0x2020 + 0x4 * n, 20, 3⟩
abbrev CONV_MAP_US_SLICE (n : Nat) : FieldRef := ⟨0x2020 + 0x4 * n, 16, 3⟩
abbrev CONV_MAP_PART3_SLICE (n : Nat) : FieldRef := ⟨0x2020 + 0x4 * n, 12, 3⟩
abbrev CONV_MAP_PART2_SLICE (n : Nat) : FieldRef := ⟨0x2020 + 0x4 * n, 8, 3⟩
abbrev CONV_MAP_PART1_SLICE (n : Nat) : FieldRef := ⟨0x2020 + 0x4 * n, 4, 3⟩
abbrev CONV_MAP_PART0_SLICE (n : Nat) : FieldRef := ⟨0x2020 + 0x4 * n, 0, 3⟩
abbrev CONV_OVL_PEAK (n : Nat) : FieldRef := ⟨0x2030 + 0x4 * n, 16, 16⟩
abbrev CONV_OVL_MEAN (n : Nat) : FieldRef := ⟨0x2030 + 0x4 * n, 0, 16⟩
abbrev CONV_SLOT_ENABLE (n : Nat) : FieldRef := ⟨0x2040 + 0x4 * n, 31, 1⟩
abbrev CONV_SLOT_DIV (n : Nat) : FieldRef := ⟨0x2040 + 0x4 * n, 27, 4⟩
abbrev CONV_SLOT_NUM (n : Nat) : FieldRef := ⟨0x2040 + 0x4 * n, 25, 2⟩
abbrev CONV_SLOT_OFFSET (n : Nat) : FieldRef := ⟨0x2040 + 0x4 * n, 16, 9⟩
abbrev CONV_SLOT_INPUT3 (n : Nat) : FieldRef := ⟨0x2040 + 0x4 * n, 12, 4⟩
abbrev CONV_SLOT_INPUT2 (n : Nat) : FieldRef := ⟨0x2040 + 0x4 * n, 8, 4⟩
abbrev CONV_SLOT_INPUT1 (n : Nat) : FieldRef := ⟨0x2040 + 0x4 * n, 4, 4⟩
abbrev CONV_SLOT_INPUT0 (n : Nat) : FieldRef := ⟨0x2040 + 0x4 * n, 0, 4⟩
abbrev CONV_TRANSIENT_COUNT : FieldRef := ⟨0x2080, 0, 32⟩
abbrev CONV_HANDOVERS_COUNT : FieldRef := ⟨0x2084, 0, 32⟩
abbrev CONV_URGENT_DROP_COUNT : FieldRef := ⟨0x2088, 0, 32⟩
abbrev CONV_REQUEUE_COUNT : FieldRef := ⟨0x208C, 0, 32⟩
abbrev CONV_MISSING_COUNT : FieldRef := ⟨0x2090, 0, 32⟩
abbrev CONV_CLIP_COUNT : FieldRef := ⟨0x2094, 0, 32⟩
abbrev CONV_LAST_SEQ (n : Nat) : FieldRef := ⟨0x2100 + 0x4 * n, 16, 16⟩
abbrev CONV_LAST_VALUE (n : Nat) : FieldRef := ⟨0x2100 + 0x4 * n, 0, 16⟩
abbrev COMP_CFG_ENABLE (n : Nat) : FieldRef := ⟨0x2400 + 0x4 * n, 31, 1⟩
abbrev COMP_CFG_FILT (n : Nat) : FieldRef := ⟨0x2400 + 0x4 * n, 28, 2⟩
abbrev COMP_CFG_GATE (n : Nat) : FieldRef := ⟨0x2400 + 0x4 * n, 27, 1⟩
abbrev COMP_CFG_HALT (n : Nat) : FieldRef := ⟨0x2400 + 0x4 * n, 26, 1⟩
abbrev COMP_CFG_FAST (n : Nat) : FieldRef := ⟨0x2400 + 0x4 * n, 25, 1⟩
abbrev COMP_CFG_URGENT (n : Nat) : FieldRef := ⟨0x2400 + 0x4 * n, 24, 1⟩
abbrev COMP_CFG_CURTAIN (n : Nat) : FieldRef := ⟨0x2400 + 0x4 * n, 23, 1⟩
abbrev COMP_CFG_HYST (n : Nat) : FieldRef := ⟨0x2400 + 0x4 * n, 20, 3⟩
abbrev COMP_CFG_THRESH (n : Nat) : FieldRef := ⟨0x2400 + 0x4 * n, 0, 10⟩
abbrev COMP_STATE_TRIPPED : FieldRef := ⟨0x2480, 0, 32⟩
abbrev COMP_LATCH_SEEN : FieldRef := ⟨0x2484, 0, 32⟩
abbrev COMP_TEST_CTRL_START : FieldRef := ⟨0x2488, 31, 1⟩
abbrev COMP_TEST_CTRL_MODE : FieldRef := ⟨0x2488, 0, 2⟩
abbrev COMP_TEST_SEL_SEL : FieldRef := ⟨0x248C, 0, 32⟩
abbrev COMP_TEST_RESULT_FAIL : FieldRef := ⟨0x2490, 0, 32⟩
abbrev COMP_TEST_SKIP_SKIP : FieldRef := ⟨0x2494, 0, 32⟩
abbrev COMP_STATUS_CFG_REJECT : FieldRef := ⟨0x2498, 3, 1⟩
abbrev COMP_STATUS_TEST_REFUSED : FieldRef := ⟨0x2498, 2, 1⟩
abbrev COMP_STATUS_TEST_DONE : FieldRef := ⟨0x2498, 1, 1⟩
abbrev COMP_STATUS_TEST_BUSY : FieldRef := ⟨0x2498, 0, 1⟩
abbrev WING_CTRL_TRAIN : FieldRef := ⟨0x2800, 28, 4⟩
abbrev WING_CTRL_RESUME : FieldRef := ⟨0x2800, 24, 4⟩
abbrev WING_CTRL_HALT_NOW : FieldRef := ⟨0x2800, 23, 1⟩
abbrev WING_CTRL_SAFE_STATE : FieldRef := ⟨0x2800, 18, 2⟩
abbrev WING_CTRL_PERIOD : FieldRef := ⟨0x2800, 16, 2⟩
abbrev WING_CTRL_ENABLE : FieldRef := ⟨0x2800, 0, 4⟩
abbrev WING_DELTA_DELTA : FieldRef := ⟨0x2804, 0, 11⟩
abbrev WING_STATUS_HALTED : FieldRef := ⟨0x2808, 28, 4⟩
abbrev WING_STATUS_HALT_SEEN : FieldRef := ⟨0x2808, 24, 4⟩
abbrev WING_STATUS_LOOP_FAULT : FieldRef := ⟨0x2808, 20, 4⟩
abbrev WING_STATUS_TRAINED : FieldRef := ⟨0x2808, 16, 4⟩
abbrev WING_STATUS_TRAIN_BUSY : FieldRef := ⟨0x2808, 12, 4⟩
abbrev WING_STATUS_CFG_REJECT : FieldRef := ⟨0x2808, 0, 1⟩
abbrev WING_TRAIN_FAIL_CODE (n : Nat) : FieldRef := ⟨0x2810 + 0x4 * n, 24, 8⟩
abbrev WING_TRAIN_FAIL_POS (n : Nat) : FieldRef := ⟨0x2810 + 0x4 * n, 16, 8⟩
abbrev WING_TRAIN_COUNT (n : Nat) : FieldRef := ⟨0x2810 + 0x4 * n, 8, 8⟩
abbrev WING_TRAIN_PHASE (n : Nat) : FieldRef := ⟨0x2810 + 0x4 * n, 0, 4⟩
abbrev WING_LAT_L (n : Nat) : FieldRef := ⟨0x2820 + 0x4 * n, 0, 24⟩
abbrev WING_CRC_ERR_COUNT (n : Nat) : FieldRef := ⟨0x2830 + 0x4 * n, 0, 32⟩
abbrev WING_CODE_ERR_COUNT (n : Nat) : FieldRef := ⟨0x2840 + 0x4 * n, 0, 32⟩
abbrev WING_TRANSIENT_COUNT (n : Nat) : FieldRef := ⟨0x2850 + 0x4 * n, 0, 32⟩
abbrev WING_LATE_CUE_COUNT (n : Nat) : FieldRef := ⟨0x2860 + 0x4 * n, 0, 32⟩
abbrev WING_CELL_LINK_FAULT (n : Nat) : FieldRef := ⟨0x2C00 + 0x4 * n, 31, 1⟩
abbrev WING_CELL_NIBBLE (n : Nat) : FieldRef := ⟨0x2C00 + 0x4 * n, 24, 4⟩
abbrev WING_CELL_VDC (n : Nat) : FieldRef := ⟨0x2C00 + 0x4 * n, 0, 16⟩
abbrev WING_DELAY_D (n : Nat) : FieldRef := ⟨0x2E00 + 0x4 * n, 0, 24⟩
abbrev CUR_CTRL_FE_STOP : FieldRef := ⟨0x3000, 3, 1⟩
abbrev CUR_CTRL_ADAPT_EN : FieldRef := ⟨0x3000, 2, 1⟩
abbrev CUR_CTRL_FAST_EN : FieldRef := ⟨0x3000, 1, 1⟩
abbrev CUR_CTRL_EN : FieldRef := ⟨0x3000, 0, 1⟩
abbrev CUR_STATUS_CFG_REJECT : FieldRef := ⟨0x3004, 16, 1⟩
abbrev CUR_STATUS_READY : FieldRef := ⟨0x3004, 15, 1⟩
abbrev CUR_STATUS_STAR_RES : FieldRef := ⟨0x3004, 14, 1⟩
abbrev CUR_STATUS_SAT : FieldRef := ⟨0x3004, 11, 3⟩
abbrev CUR_STATUS_FE : FieldRef := ⟨0x3004, 8, 3⟩
abbrev CUR_STATUS_INPUT_TO : FieldRef := ⟨0x3004, 5, 3⟩
abbrev CUR_STATUS_STATE : FieldRef := ⟨0x3004, 0, 3⟩
abbrev CUR_LAW_T_RET : FieldRef := ⟨0x3008, 16, 8⟩
abbrev CUR_LAW_STEP_MAX : FieldRef := ⟨0x3008, 0, 3⟩
abbrev CUR_BAND_CFG_F_TARGET : FieldRef := ⟨0x300C, 16, 16⟩
abbrev CUR_BAND_CFG_WIN : FieldRef := ⟨0x300C, 8, 8⟩
abbrev CUR_BAND_LIM_B_MAX : FieldRef := ⟨0x3010, 16, 16⟩
abbrev CUR_BAND_LIM_B_MIN : FieldRef := ⟨0x3010, 0, 16⟩
abbrev CUR_BAND_INIT_B_INIT : FieldRef := ⟨0x3014, 0, 16⟩
abbrev CUR_FE_LIMIT : FieldRef := ⟨0x3018, 16, 16⟩
abbrev CUR_FE_TIME : FieldRef := ⟨0x3018, 0, 14⟩
abbrev CUR_RAMPZ_TIME : FieldRef := ⟨0x301C, 16, 16⟩
abbrev CUR_RAMPZ_ZERO : FieldRef := ⟨0x301C, 8, 8⟩
abbrev CUR_RAMPZ_WAIT : FieldRef := ⟨0x301C, 0, 8⟩
abbrev CUR_STAR_RES_LIM : FieldRef := ⟨0x3020, 0, 16⟩
abbrev CUR_BAND_BAND (n : Nat) : FieldRef := ⟨0x3024 + 0x4 * n, 0, 16⟩
abbrev CUR_FSW_FSW (n : Nat) : FieldRef := ⟨0x3030 + 0x4 * n, 0, 16⟩
abbrev CUR_LEVEL_N_ACT (n : Nat) : FieldRef := ⟨0x3040 + 0x4 * n, 8, 8⟩
abbrev CUR_LEVEL_LEVEL (n : Nat) : FieldRef := ⟨0x3040 + 0x4 * n, 0, 8⟩
abbrev CUR_ERR_PRED (n : Nat) : FieldRef := ⟨0x3050 + 0x4 * n, 16, 16⟩
abbrev CUR_ERR_MEAS (n : Nat) : FieldRef := ⟨0x3050 + 0x4 * n, 0, 16⟩
abbrev CUR_VN_RES_RES : FieldRef := ⟨0x3060, 0, 32⟩
abbrev CUR_STEPS_COUNT : FieldRef := ⟨0x3080, 0, 32⟩
abbrev CUR_DEFICIT_COUNT : FieldRef := ⟨0x3084, 0, 32⟩
abbrev CUR_FAST_COUNT : FieldRef := ⟨0x3088, 0, 32⟩
abbrev CUR_FAST_MERGED_COUNT : FieldRef := ⟨0x308C, 0, 32⟩
abbrev CUR_SKIP_COUNT : FieldRef := ⟨0x3090, 0, 32⟩
abbrev CUR_SAT_COUNT_COUNT : FieldRef := ⟨0x3094, 0, 32⟩
abbrev CUR_FE_COUNT_COUNT : FieldRef := ⟨0x3098, 0, 32⟩
abbrev CAST_CTRL_RESERVE_EN : FieldRef := ⟨0x3400, 1, 1⟩
abbrev CAST_CTRL_EN : FieldRef := ⟨0x3400, 0, 1⟩
abbrev CAST_STATUS_CFG_REJECT : FieldRef := ⟨0x3404, 15, 1⟩
abbrev CAST_STATUS_READY : FieldRef := ⟨0x3404, 14, 1⟩
abbrev CAST_STATUS_BYPASS_STUCK : FieldRef := ⟨0x3404, 13, 1⟩
abbrev CAST_STATUS_COOL_TO : FieldRef := ⟨0x3404, 12, 1⟩
abbrev CAST_STATUS_DERATE : FieldRef := ⟨0x3404, 8, 2⟩
abbrev CAST_STATUS_NO_RESERVE : FieldRef := ⟨0x3404, 4, 3⟩
abbrev CAST_STATUS_RELAXED : FieldRef := ⟨0x3404, 0, 3⟩
abbrev CAST_DWELL_D : FieldRef := ⟨0x3408, 0, 16⟩
abbrev CAST_AGE_LIMIT_LIMIT : FieldRef := ⟨0x340C, 0, 8⟩
abbrev CAST_DEF_TIME : FieldRef := ⟨0x3410, 16, 16⟩
abbrev CAST_DEF_COUNT : FieldRef := ⟨0x3410, 0, 8⟩
abbrev CAST_ZS_EN : FieldRef := ⟨0x3414, 31, 1⟩
abbrev CAST_ZS_HEADROOM : FieldRef := ⟨0x3414, 16, 8⟩
abbrev CAST_ZS_PERIOD : FieldRef := ⟨0x3414, 0, 8⟩
abbrev CAST_READMIT_GO : FieldRef := ⟨0x3418, 31, 1⟩
abbrev CAST_READMIT_CELL : FieldRef := ⟨0x3418, 0, 7⟩
abbrev CAST_PHASE_Z (n : Nat) : FieldRef := ⟨0x3420 + 0x4 * n, 24, 8⟩
abbrev CAST_PHASE_N_ACT (n : Nat) : FieldRef := ⟨0x3420 + 0x4 * n, 16, 8⟩
abbrev CAST_PHASE_D_EFF (n : Nat) : FieldRef := ⟨0x3420 + 0x4 * n, 0, 16⟩
abbrev CAST_COOL_THETA : FieldRef := ⟨0x3430, 0, 16⟩
abbrev CAST_MOVES_COUNT : FieldRef := ⟨0x3480, 0, 32⟩
abbrev CAST_SHORT_COUNT : FieldRef := ⟨0x3484, 0, 32⟩
abbrev CAST_RELAX_COUNT : FieldRef := ⟨0x3488, 0, 32⟩
abbrev CAST_STARVED_COUNT : FieldRef := ⟨0x348C, 0, 32⟩
abbrev CAST_ZS_STEPS_COUNT : FieldRef := ⟨0x3490, 0, 32⟩
abbrev CAST_ZS_MISS_COUNT : FieldRef := ⟨0x3494, 0, 32⟩
abbrev CAST_OUT_COUNT : FieldRef := ⟨0x3498, 0, 32⟩
abbrev CAST_TAKEOVER_COUNT : FieldRef := ⟨0x349C, 0, 32⟩
abbrev CAST_HOT_COUNT : FieldRef := ⟨0x34A0, 0, 32⟩
abbrev CAST_QUEUE_WAIT_COUNT : FieldRef := ⟨0x34A4, 0, 32⟩
abbrev CAST_QUEUE_FULL_COUNT : FieldRef := ⟨0x34A8, 0, 32⟩
abbrev CAST_CELL_HOT (n : Nat) : FieldRef := ⟨0x3600 + 0x4 * n, 31, 1⟩
abbrev CAST_CELL_STARVED (n : Nat) : FieldRef := ⟨0x3600 + 0x4 * n, 30, 1⟩
abbrev CAST_CELL_CONTRIB (n : Nat) : FieldRef := ⟨0x3600 + 0x4 * n, 28, 2⟩
abbrev CAST_CELL_CAUSE (n : Nat) : FieldRef := ⟨0x3600 + 0x4 * n, 24, 4⟩
abbrev CAST_CELL_PARTNER_VALID (n : Nat) : FieldRef := ⟨0x3600 + 0x4 * n, 23, 1⟩
abbrev CAST_CELL_PARTNER (n : Nat) : FieldRef := ⟨0x3600 + 0x4 * n, 16, 7⟩
abbrev CAST_CELL_AGE (n : Nat) : FieldRef := ⟨0x3600 + 0x4 * n, 8, 8⟩
abbrev CAST_CELL_STATE (n : Nat) : FieldRef := ⟨0x3600 + 0x4 * n, 0, 3⟩
abbrev CELLPWR_CTRL_DUMP_EN : FieldRef := ⟨0x3800, 3, 1⟩
abbrev CELLPWR_CTRL_SCAN_EN : FieldRef := ⟨0x3800, 2, 1⟩
abbrev CELLPWR_CTRL_CURT_MODE : FieldRef := ⟨0x3800, 1, 1⟩
abbrev CELLPWR_CTRL_EN : FieldRef := ⟨0x3800, 0, 1⟩
abbrev CELLPWR_STATUS_CFG_REJECT : FieldRef := ⟨0x3804, 4, 1⟩
abbrev CELLPWR_STATUS_UF_SHORT : FieldRef := ⟨0x3804, 3, 1⟩
abbrev CELLPWR_STATUS_ZS_LIM : FieldRef := ⟨0x3804, 2, 1⟩
abbrev CELLPWR_STATUS_CURTAIL : FieldRef := ⟨0x3804, 1, 1⟩
abbrev CELLPWR_STATUS_DUMP_ARMED : FieldRef := ⟨0x3804, 0, 1⟩
abbrev CELLPWR_BAL_K_E : FieldRef := ⟨0x3808, 0, 16⟩
abbrev CELLPWR_ZS_Z_MAX : FieldRef := ⟨0x380C, 0, 14⟩
abbrev CELLPWR_SCAN_PROBE_INT : FieldRef := ⟨0x3810, 16, 16⟩
abbrev CELLPWR_SCAN_TOKENS : FieldRef := ⟨0x3810, 0, 4⟩
abbrev CELLPWR_DUMP_V_ON : FieldRef := ⟨0x3814, 16, 10⟩
abbrev CELLPWR_DUMP_V_OFF : FieldRef := ⟨0x3814, 0, 10⟩
abbrev CELLPWR_DUMP_TIME_MAX : FieldRef := ⟨0x3818, 16, 16⟩
abbrev CELLPWR_DUMP_TIME_HOLD : FieldRef := ⟨0x3818, 0, 16⟩
abbrev CELLPWR_DUMP_CLR_GO : FieldRef := ⟨0x381C, 31, 1⟩
abbrev CELLPWR_DUMP_CLR_CELL : FieldRef := ⟨0x381C, 0, 7⟩
abbrev CELLPWR_PLIM_P_LO : FieldRef := ⟨0x3820, 16, 16⟩
abbrev CELLPWR_PLIM_P_HI : FieldRef := ⟨0x3820, 0, 16⟩
abbrev CELLPWR_PDEM_CURT : FieldRef := ⟨0x3824, 16, 16⟩
abbrev CELLPWR_PDEM_P_DEM : FieldRef := ⟨0x3824, 0, 16⟩
abbrev CELLPWR_ZSDEM_ALPHA : FieldRef := ⟨0x3828, 16, 16⟩
abbrev CELLPWR_ZSDEM_V0 : FieldRef := ⟨0x3828, 0, 16⟩
abbrev CELLPWR_PHASE_CAP (n : Nat) : FieldRef := ⟨0x3830 + 0x4 * n, 16, 16⟩
abbrev CELLPWR_PHASE_PLAN (n : Nat) : FieldRef := ⟨0x3830 + 0x4 * n, 0, 16⟩
abbrev CELLPWR_SCANS_COUNT : FieldRef := ⟨0x3880, 0, 32⟩
abbrev CELLPWR_PROBES_COUNT : FieldRef := ⟨0x3884, 0, 32⟩
abbrev CELLPWR_ABORTS_COUNT : FieldRef := ⟨0x3888, 0, 32⟩
abbrev CELLPWR_DUMP_ONS_COUNT : FieldRef := ⟨0x388C, 0, 32⟩
abbrev CELLPWR_CELL_V_REF (n : Nat) : FieldRef := ⟨0x3A00 + 0x4 * n, 16, 16⟩
abbrev CELLPWR_CELL_TRK (n : Nat) : FieldRef := ⟨0x3A00 + 0x4 * n, 13, 3⟩
abbrev CELLPWR_CELL_DUMP (n : Nat) : FieldRef := ⟨0x3A00 + 0x4 * n, 11, 2⟩
abbrev CELLPWR_CELL_LOCKED (n : Nat) : FieldRef := ⟨0x3A00 + 0x4 * n, 10, 1⟩
abbrev CELLPWR_CELL_BAT_STOP (n : Nat) : FieldRef := ⟨0x3A00 + 0x4 * n, 9, 1⟩
abbrev CELLPWR_CELL_DUE (n : Nat) : FieldRef := ⟨0x3A00 + 0x4 * n, 8, 1⟩
abbrev GRID_CTRL_PERM_CEASE : FieldRef := ⟨0x3C00, 7, 1⟩
abbrev GRID_CTRL_PASSIVE_TRIP : FieldRef := ⟨0x3C00, 6, 1⟩
abbrev GRID_CTRL_ROT : FieldRef := ⟨0x3C00, 5, 1⟩
abbrev GRID_CTRL_VMODE : FieldRef := ⟨0x3C00, 4, 1⟩
abbrev GRID_CTRL_SIG_EN : FieldRef := ⟨0x3C00, 3, 1⟩
abbrev GRID_CTRL_ISL_EN : FieldRef := ⟨0x3C00, 2, 1⟩
abbrev GRID_CTRL_RT_EN : FieldRef := ⟨0x3C00, 1, 1⟩
abbrev GRID_CTRL_BEAR_EN : FieldRef := ⟨0x3C00, 0, 1⟩
abbrev GRID_STATUS_CFG_REJECT : FieldRef := ⟨0x3C04, 15, 1⟩
abbrev GRID_STATUS_SOLO : FieldRef := ⟨0x3C04, 14, 1⟩
abbrev GRID_STATUS_SUSPECT : FieldRef := ⟨0x3C04, 13, 1⟩
abbrev GRID_STATUS_ILIM : FieldRef := ⟨0x3C04, 12, 1⟩
abbrev GRID_STATUS_PERMIT : FieldRef := ⟨0x3C04, 11, 1⟩
abbrev GRID_STATUS_ROT_BAD : FieldRef := ⟨0x3C04, 10, 1⟩
abbrev GRID_STATUS_CONTOURS_OK : FieldRef := ⟨0x3C04, 9, 1⟩
abbrev GRID_STATUS_SIG_OK : FieldRef := ⟨0x3C04, 8, 1⟩
abbrev GRID_STATUS_REGION : FieldRef := ⟨0x3C04, 4, 3⟩
abbrev GRID_STATUS_BEAR : FieldRef := ⟨0x3C04, 0, 3⟩
abbrev GRID_NOM_V_NOM : FieldRef := ⟨0x3C08, 20, 12⟩
abbrev GRID_NOM_F_NOM : FieldRef := ⟨0x3C08, 19, 1⟩
abbrev GRID_NOM_P_NOM : FieldRef := ⟨0x3C08, 0, 14⟩
abbrev GRID_ILIM_PRIO : FieldRef := ⟨0x3C0C, 16, 1⟩
abbrev GRID_ILIM_I_MAX : FieldRef := ⟨0x3C0C, 0, 11⟩
abbrev GRID_RAMP_P_DOWN : FieldRef := ⟨0x3C10, 16, 16⟩
abbrev GRID_RAMP_P_UP : FieldRef := ⟨0x3C10, 0, 16⟩
abbrev GRID_BEAR_CFG_LOCK_TIME : FieldRef := ⟨0x3C14, 24, 8⟩
abbrev GRID_BEAR_CFG_COAST_V : FieldRef := ⟨0x3C14, 16, 8⟩
abbrev GRID_BEAR_CFG_COAST_MAX : FieldRef := ⟨0x3C14, 8, 8⟩
abbrev GRID_BEAR_CFG_FLL_BW : FieldRef := ⟨0x3C14, 0, 8⟩
abbrev GRID_PASSIVE_ROCOF_LIM : FieldRef := ⟨0x3C18, 16, 16⟩
abbrev GRID_PASSIVE_JUMP : FieldRef := ⟨0x3C18, 8, 8⟩
abbrev GRID_PASSIVE_ROCOF_WIN : FieldRef := ⟨0x3C18, 0, 8⟩
abbrev GRID_ANGLE_THETA : FieldRef := ⟨0x3C20, 0, 32⟩
abbrev GRID_FREQ_FREQ : FieldRef := ⟨0x3C24, 0, 24⟩
abbrev GRID_ROCOF_ROCOF : FieldRef := ⟨0x3C28, 0, 32⟩
abbrev GRID_VSEQ_VNEG : FieldRef := ⟨0x3C2C, 16, 16⟩
abbrev GRID_VSEQ_VPOS : FieldRef := ⟨0x3C2C, 0, 16⟩
abbrev GRID_VLEVEL_VMAX : FieldRef := ⟨0x3C30, 16, 16⟩
abbrev GRID_VLEVEL_VMIN : FieldRef := ⟨0x3C30, 0, 16⟩
abbrev GRID_PQ_REF_QREF : FieldRef := ⟨0x3C34, 16, 16⟩
abbrev GRID_PQ_REF_PREF : FieldRef := ⟨0x3C34, 0, 16⟩
abbrev GRID_DIST_V_TIME : FieldRef := ⟨0x3C38, 0, 32⟩
abbrev GRID_DIST_F_TIME : FieldRef := ⟨0x3C3C, 0, 32⟩
abbrev GRID_VERDICT_CAUSE : FieldRef := ⟨0x3C40, 8, 5⟩
abbrev GRID_VERDICT_PASSIVE : FieldRef := ⟨0x3C40, 3, 1⟩
abbrev GRID_VERDICT_ISLAND : FieldRef := ⟨0x3C40, 2, 1⟩
abbrev GRID_VERDICT_RT_F : FieldRef := ⟨0x3C40, 1, 1⟩
abbrev GRID_VERDICT_RT_V : FieldRef := ⟨0x3C40, 0, 1⟩
abbrev GRID_ISL_Z : FieldRef := ⟨0x3C44, 16, 16⟩
abbrev GRID_ISL_CHIPS : FieldRef := ⟨0x3C44, 8, 8⟩
abbrev GRID_ISL_INDEX : FieldRef := ⟨0x3C44, 0, 8⟩
abbrev GRID_CESS_COUNT_COUNT : FieldRef := ⟨0x3C50, 0, 32⟩
abbrev GRID_TRIP_COUNT_COUNT : FieldRef := ⟨0x3C54, 0, 32⟩
abbrev GRID_ISL_COUNT_COUNT : FieldRef := ⟨0x3C58, 0, 32⟩
abbrev GRID_SIG_MISS_COUNT : FieldRef := ⟨0x3C5C, 0, 32⟩
abbrev GRID_INPUT_MISS_COUNT : FieldRef := ⟨0x3C60, 0, 32⟩
abbrev METER_CTRL_EXPORT_EN : FieldRef := ⟨0x4000, 0, 1⟩
abbrev METER_STATUS_CFG_REJECT : FieldRef := ⟨0x4004, 8, 1⟩
abbrev METER_STATUS_KEY_OK : FieldRef := ⟨0x4004, 7, 1⟩
abbrev METER_STATUS_CAL_OK : FieldRef := ⟨0x4004, 6, 1⟩
abbrev METER_STATUS_RET_LOST : FieldRef := ⟨0x4004, 5, 1⟩
abbrev METER_STATUS_WIN_NOM : FieldRef := ⟨0x4004, 4, 1⟩
abbrev METER_STATUS_EXPORT_STALL : FieldRef := ⟨0x4004, 3, 1⟩
abbrev METER_STATUS_DIR : FieldRef := ⟨0x4004, 2, 1⟩
abbrev METER_CFG_ALIGN_UTC : FieldRef := ⟨0x4008, 31, 1⟩
abbrev METER_CFG_DEMAND_SUB : FieldRef := ⟨0x4008, 16, 12⟩
abbrev METER_CFG_INTERVAL : FieldRef := ⟨0x4008, 0, 12⟩
abbrev METER_QUANTUM_QUANTUM : FieldRef := ⟨0x400C, 0, 16⟩
abbrev METER_SEQ_SEQ : FieldRef := ⟨0x4010, 0, 32⟩
abbrev METER_OLDEST_SEQ : FieldRef := ⟨0x4014, 0, 32⟩
abbrev METER_ATLAS_PENDING : FieldRef := ⟨0x4018, 16, 14⟩
abbrev METER_ATLAS_PRESENT : FieldRef := ⟨0x4018, 0, 14⟩
abbrev METER_KEY_ID_ID : FieldRef := ⟨0x401C, 0, 32⟩
abbrev METER_OPEN_LO_TIME : FieldRef := ⟨0x4020, 0, 32⟩
abbrev METER_OPEN_HI_TIME : FieldRef := ⟨0x4024, 0, 32⟩
abbrev METER_OVERRUN_OVERRUN : FieldRef := ⟨0x4028, 0, 32⟩
abbrev METER_SNAP_TIME_LO_TIME : FieldRef := ⟨0x402C, 0, 32⟩
abbrev METER_SNAP_TIME_HI_TIME : FieldRef := ⟨0x4030, 0, 32⟩
abbrev METER_P_P (n : Nat) : FieldRef := ⟨0x4040 + 0x4 * n, 0, 32⟩
abbrev METER_Q_Q (n : Nat) : FieldRef := ⟨0x4050 + 0x4 * n, 0, 32⟩
abbrev METER_S_S (n : Nat) : FieldRef := ⟨0x4060 + 0x4 * n, 0, 32⟩
abbrev METER_VRMS_V (n : Nat) : FieldRef := ⟨0x4070 + 0x4 * n, 0, 32⟩
abbrev METER_IRMS_I (n : Nat) : FieldRef := ⟨0x4080 + 0x4 * n, 0, 32⟩
abbrev METER_PULSE_SAT (n : Nat) : FieldRef := ⟨0x4090 + 0x4 * n, 31, 1⟩
abbrev METER_PULSE_BACKLOG (n : Nat) : FieldRef := ⟨0x4090 + 0x4 * n, 0, 16⟩
abbrev METER_SNAP_VALUE (n : Nat) : FieldRef := ⟨0x4100 + 0x4 * n, 0, 32⟩
abbrev METER_SUBST_COUNT : FieldRef := ⟨0x4200, 0, 32⟩
abbrev METER_UNMETERED_COUNT : FieldRef := ⟨0x4204, 0, 32⟩
abbrev METER_UNPAIRED_COUNT : FieldRef := ⟨0x4208, 0, 32⟩
abbrev METER_ATLAS_LOST_COUNT : FieldRef := ⟨0x420C, 0, 32⟩
abbrev METER_EXPORT_WAIT_COUNT : FieldRef := ⟨0x4210, 0, 32⟩
abbrev METER_SEAL_DEFER_COUNT : FieldRef := ⟨0x4214, 0, 32⟩
abbrev METER_PULSE_LOST_COUNT (n : Nat) : FieldRef := ⟨0x4218 + 0x4 * n, 0, 32⟩
abbrev CURTAIN_STATUS_CFG_REJECT : FieldRef := ⟨0x4800, 16, 1⟩
abbrev CURTAIN_STATUS_PARAM_OK : FieldRef := ⟨0x4800, 15, 1⟩
abbrev CURTAIN_STATUS_BTRIP : FieldRef := ⟨0x4800, 14, 1⟩
abbrev CURTAIN_STATUS_ARMED : FieldRef := ⟨0x4800, 13, 1⟩
abbrev CURTAIN_STATUS_MODE : FieldRef := ⟨0x4800, 12, 1⟩
abbrev CURTAIN_STATUS_STEP : FieldRef := ⟨0x4800, 8, 3⟩
abbrev CURTAIN_STATUS_STATE : FieldRef := ⟨0x4800, 0, 3⟩
abbrev CURTAIN_CAUSE_FIRST : FieldRef := ⟨0x4804, 24, 5⟩
abbrev CURTAIN_CAUSE_SEEN : FieldRef := ⟨0x4804, 0, 21⟩
abbrev CURTAIN_HOLD_TABLEAU : FieldRef := ⟨0x4808, 11, 1⟩
abbrev CURTAIN_HOLD_COMP : FieldRef := ⟨0x4808, 10, 1⟩
abbrev CURTAIN_HOLD_GAP : FieldRef := ⟨0x4808, 9, 1⟩
abbrev CURTAIN_HOLD_PARAM : FieldRef := ⟨0x4808, 8, 1⟩
abbrev CURTAIN_HOLD_BTRIP : FieldRef := ⟨0x4808, 7, 1⟩
abbrev CURTAIN_HOLD_FEEDBACK : FieldRef := ⟨0x4808, 6, 1⟩
abbrev CURTAIN_HOLD_ESTOP : FieldRef := ⟨0x4808, 5, 1⟩
abbrev CURTAIN_HOLD_LOOPS : FieldRef := ⟨0x4808, 4, 1⟩
abbrev CURTAIN_HOLD_CAST : FieldRef := ⟨0x4808, 3, 1⟩
abbrev CURTAIN_HOLD_ENGINE : FieldRef := ⟨0x4808, 2, 1⟩
abbrev CURTAIN_HOLD_PERMIT : FieldRef := ⟨0x4808, 1, 1⟩
abbrev CURTAIN_HOLD_NOT_ARMED : FieldRef := ⟨0x4808, 0, 1⟩
abbrev CURTAIN_PINS_SSTAT : FieldRef := ⟨0x480C, 7, 1⟩
abbrev CURTAIN_PINS_KDRVB : FieldRef := ⟨0x480C, 6, 1⟩
abbrev CURTAIN_PINS_KDRVA : FieldRef := ⟨0x480C, 5, 1⟩
abbrev CURTAIN_PINS_KFBB : FieldRef := ⟨0x480C, 4, 1⟩
abbrev CURTAIN_PINS_KFBA : FieldRef := ⟨0x480C, 3, 1⟩
abbrev CURTAIN_PINS_SRESET : FieldRef := ⟨0x480C, 2, 1⟩
abbrev CURTAIN_PINS_ESTOPB : FieldRef := ⟨0x480C, 1, 1⟩
abbrev CURTAIN_PINS_ESTOPA : FieldRef := ⟨0x480C, 0, 1⟩
abbrev CURTAIN_LAST_LO_TIME : FieldRef := ⟨0x4810, 0, 32⟩
abbrev CURTAIN_LAST_HI_TIME : FieldRef := ⟨0x4814, 0, 32⟩
abbrev CURTAIN_RAISES_COUNT : FieldRef := ⟨0x4820, 0, 32⟩
abbrev CURTAIN_STOPS_COUNT : FieldRef := ⟨0x4824, 0, 32⟩
abbrev CURTAIN_LOCKS_COUNT : FieldRef := ⟨0x4828, 0, 32⟩
abbrev CURTAIN_TRANSIENT_COUNT : FieldRef := ⟨0x482C, 0, 32⟩
abbrev CURTAIN_RESET_REFUSED_COUNT : FieldRef := ⟨0x4830, 0, 32⟩
abbrev GUARD_CTRL_DESAT_EN : FieldRef := ⟨0x4C00, 1, 1⟩
abbrev GUARD_CTRL_GD_EN : FieldRef := ⟨0x4C00, 0, 1⟩
abbrev GUARD_CFG_DEAD : FieldRef := ⟨0x4C04, 22, 10⟩
abbrev GUARD_CFG_MIN_PULSE : FieldRef := ⟨0x4C04, 12, 10⟩
abbrev GUARD_CFG_POL : FieldRef := ⟨0x4C04, 3, 1⟩
abbrev GUARD_CFG_MODE : FieldRef := ⟨0x4C04, 0, 3⟩
abbrev GUARD_BLANK_BLANK : FieldRef := ⟨0x4C08, 0, 12⟩
abbrev GUARD_STATUS_FAULT : FieldRef := ⟨0x4C0C, 16, 7⟩
abbrev GUARD_STATUS_ON_AT_TRIP : FieldRef := ⟨0x4C0C, 8, 7⟩
abbrev GUARD_STATUS_TRIP_ACTIVE : FieldRef := ⟨0x4C0C, 7, 1⟩
abbrev GUARD_STATUS_DT_TRIP : FieldRef := ⟨0x4C0C, 6, 1⟩
abbrev GUARD_STATUS_OC_TRIP : FieldRef := ⟨0x4C0C, 5, 1⟩
abbrev GUARD_STATUS_CMD_ERR : FieldRef := ⟨0x4C0C, 4, 1⟩
abbrev GUARD_STATUS_CLEAR_REFUSED : FieldRef := ⟨0x4C0C, 3, 1⟩
abbrev GUARD_STATUS_CFG_REJECT : FieldRef := ⟨0x4C0C, 2, 1⟩
abbrev GUARD_STATUS_LATCHED : FieldRef := ⟨0x4C0C, 0, 1⟩
abbrev GUARD_PINS_GD_EN : FieldRef := ⟨0x4C10, 7, 1⟩
abbrev GUARD_PINS_ON : FieldRef := ⟨0x4C10, 0, 7⟩
abbrev GUARD_LOW_TIME : FieldRef := ⟨0x4C14, 0, 32⟩
abbrev GUARD_TRIPS_COUNT : FieldRef := ⟨0x4C40, 0, 32⟩
abbrev GUARD_DESAT_COUNT : FieldRef := ⟨0x4C44, 0, 32⟩
abbrev GUARD_SUPPRESS_COUNT : FieldRef := ⟨0x4C48, 0, 32⟩
abbrev GUARD_CMD_ERR_COUNT : FieldRef := ⟨0x4C4C, 0, 32⟩
abbrev GUARD_CLEARS_COUNT : FieldRef := ⟨0x4C50, 0, 32⟩
abbrev GUARD_CLEAR_REFUSED_COUNT : FieldRef := ⟨0x4C54, 0, 32⟩
abbrev GUARD_CELL_WORD (n : Nat) : FieldRef := ⟨0x4E00 + 0x4 * n, 4, 8⟩
abbrev GUARD_CELL_FAULT (n : Nat) : FieldRef := ⟨0x4E00 + 0x4 * n, 0, 1⟩
abbrev PUMP_CTRL_MANUAL : FieldRef := ⟨0x5000, 2, 1⟩
abbrev PUMP_CTRL_CHOP_EN : FieldRef := ⟨0x5000, 1, 1⟩
abbrev PUMP_CTRL_EN : FieldRef := ⟨0x5000, 0, 1⟩
abbrev PUMP_STATUS_CFG_REJECT : FieldRef := ⟨0x5004, 16, 1⟩
abbrev PUMP_STATUS_CURVE_OK : FieldRef := ⟨0x5004, 15, 1⟩
abbrev PUMP_STATUS_CHOP_FAULT : FieldRef := ⟨0x5004, 14, 1⟩
abbrev PUMP_STATUS_CHOP_ACTIVE : FieldRef := ⟨0x5004, 13, 1⟩
abbrev PUMP_STATUS_REQ : FieldRef := ⟨0x5004, 12, 1⟩
abbrev PUMP_STATUS_PUMP_FLT : FieldRef := ⟨0x5004, 11, 1⟩
abbrev PUMP_STATUS_SECTOR : FieldRef := ⟨0x5004, 8, 3⟩
abbrev PUMP_STATUS_FAULT : FieldRef := ⟨0x5004, 4, 4⟩
abbrev PUMP_STATUS_STATE : FieldRef := ⟨0x5004, 0, 4⟩
abbrev PUMP_CMD_SPEED : FieldRef := ⟨0x5008, 16, 16⟩
abbrev PUMP_CMD_DIR : FieldRef := ⟨0x5008, 2, 1⟩
abbrev PUMP_CMD_ORDER : FieldRef := ⟨0x5008, 0, 2⟩
abbrev PUMP_SPEED_TARGET : FieldRef := ⟨0x500C, 16, 16⟩
abbrev PUMP_SPEED_MEAS : FieldRef := ⟨0x500C, 0, 16⟩
abbrev PUMP_MANUAL_SRC_B2 : FieldRef := ⟨0x5014, 10, 2⟩
abbrev PUMP_MANUAL_SRC_A2 : FieldRef := ⟨0x5014, 8, 2⟩
abbrev PUMP_MANUAL_SRC_B1 : FieldRef := ⟨0x5014, 6, 2⟩
abbrev PUMP_MANUAL_SRC_A1 : FieldRef := ⟨0x5014, 4, 2⟩
abbrev PUMP_MANUAL_SRC_B0 : FieldRef := ⟨0x5014, 2, 2⟩
abbrev PUMP_MANUAL_SRC_A0 : FieldRef := ⟨0x5014, 0, 2⟩
abbrev PUMP_SECTOR_DUTY : FieldRef := ⟨0x5018, 16, 16⟩
abbrev PUMP_SECTOR_OVL : FieldRef := ⟨0x5018, 8, 4⟩
abbrev PUMP_BUS_ISHUNT : FieldRef := ⟨0x501C, 16, 16⟩
abbrev PUMP_BUS_VBUSP : FieldRef := ⟨0x501C, 0, 16⟩
abbrev PUMP_PWM_PERIOD_PERIOD : FieldRef := ⟨0x5020, 0, 16⟩
abbrev PUMP_PWM_CHOP_PERIOD_PERIOD : FieldRef := ⟨0x5024, 0, 16⟩
abbrev PUMP_PWM_LOAD_LOAD_ALL : FieldRef := ⟨0x5028, 0, 1⟩
abbrev PUMP_PWM_DUTY_DUTY (n : Nat) : FieldRef := ⟨0x5030 + 0x4 * n, 0, 16⟩
abbrev PUMP_PWM_MARK_MARK (n : Nat) : FieldRef := ⟨0x5040 + 0x4 * n, 0, 16⟩
abbrev PUMP_PWM_EVT_PRESC (n : Nat) : FieldRef := ⟨0x5050 + 0x4 * n, 8, 8⟩
abbrev PUMP_PWM_EVT_MARK_EN (n : Nat) : FieldRef := ⟨0x5050 + 0x4 * n, 3, 1⟩
abbrev PUMP_PWM_EVT_DUTY_EN (n : Nat) : FieldRef := ⟨0x5050 + 0x4 * n, 2, 1⟩
abbrev PUMP_PWM_EVT_PERIOD_EN (n : Nat) : FieldRef := ⟨0x5050 + 0x4 * n, 1, 1⟩
abbrev PUMP_PWM_EVT_ZERO_EN (n : Nat) : FieldRef := ⟨0x5050 + 0x4 * n, 0, 1⟩
abbrev PUMP_STARTS_COUNT : FieldRef := ⟨0x5080, 0, 32⟩
abbrev PUMP_CATCHES_COUNT : FieldRef := ⟨0x5084, 0, 32⟩
abbrev PUMP_TRANSIENT_COUNT : FieldRef := ⟨0x5088, 0, 32⟩
abbrev PUMP_LOCKS_COUNT : FieldRef := ⟨0x508C, 0, 32⟩
abbrev PUMP_CHOP_ACTS_COUNT : FieldRef := ⟨0x5090, 0, 32⟩
abbrev PUMP_LOAD_OVERRUN_COUNT : FieldRef := ⟨0x5094, 0, 32⟩
abbrev GHOST_CFG_HARV_EN : FieldRef := ⟨0x5400, 31, 1⟩
abbrev GHOST_CFG_TSAMP : FieldRef := ⟨0x5400, 22, 2⟩
abbrev GHOST_CFG_TRICKLE : FieldRef := ⟨0x5400, 20, 2⟩
abbrev GHOST_CFG_VMAX : FieldRef := ⟨0x5400, 0, 9⟩
abbrev GHOST_STATUS_CFG_REJECT : FieldRef := ⟨0x5404, 15, 1⟩
abbrev GHOST_STATUS_STORE_LOST : FieldRef := ⟨0x5404, 14, 1⟩
abbrev GHOST_STATUS_KEEPER_OK : FieldRef := ⟨0x5404, 13, 1⟩
abbrev GHOST_STATUS_RET_OK : FieldRef := ⟨0x5404, 12, 1⟩
abbrev GHOST_STATUS_SEAL_PEND : FieldRef := ⟨0x5404, 11, 1⟩
abbrev GHOST_STATUS_PF_WARN : FieldRef := ⟨0x5404, 10, 1⟩
abbrev GHOST_STATUS_STORE_OK : FieldRef := ⟨0x5404, 9, 1⟩
abbrev GHOST_STATUS_TRICKLING : FieldRef := ⟨0x5404, 8, 1⟩
abbrev GHOST_STATUS_TAMP_NOW : FieldRef := ⟨0x5404, 6, 2⟩
abbrev GHOST_STATUS_TAMP_SEEN : FieldRef := ⟨0x5404, 4, 2⟩
abbrev GHOST_STATUS_HARVEST : FieldRef := ⟨0x5404, 0, 3⟩
abbrev GHOST_LEVELS_VTEG : FieldRef := ⟨0x5408, 16, 16⟩
abbrev GHOST_LEVELS_VSTOR : FieldRef := ⟨0x5408, 0, 16⟩
abbrev GHOST_MPP_VMPP : FieldRef := ⟨0x540C, 0, 16⟩
abbrev GHOST_KEEPER_BAND : FieldRef := ⟨0x5410, 16, 3⟩
abbrev GHOST_KEEPER_LEARNED : FieldRef := ⟨0x5410, 0, 8⟩
abbrev GHOST_OUT_START_LO_TIME : FieldRef := ⟨0x5420, 0, 32⟩
abbrev GHOST_OUT_START_HI_TIME : FieldRef := ⟨0x5424, 0, 32⟩
abbrev GHOST_OUT_END_LO_TIME : FieldRef := ⟨0x5428, 0, 32⟩
abbrev GHOST_OUT_END_HI_TIME : FieldRef := ⟨0x542C, 0, 32⟩
abbrev GHOST_OUT_ERR_BOUND : FieldRef := ⟨0x5430, 0, 32⟩
abbrev GHOST_TAMP_COUNT_COUNT (n : Nat) : FieldRef := ⟨0x5440 + 0x4 * n, 0, 32⟩
abbrev GHOST_OUTAGES_COUNT : FieldRef := ⟨0x5480, 0, 32⟩
abbrev GHOST_PF_RIDES_COUNT : FieldRef := ⟨0x5484, 0, 32⟩
abbrev GHOST_STORE_SEALS_COUNT : FieldRef := ⟨0x5488, 0, 32⟩
abbrev SCRUB_CTRL_SURVEY_EN : FieldRef := ⟨0x5800, 1, 1⟩
abbrev SCRUB_CTRL_EN : FieldRef := ⟨0x5800, 0, 1⟩
abbrev SCRUB_STATUS_CFG_REJECT : FieldRef := ⟨0x5804, 5, 1⟩
abbrev SCRUB_STATUS_UNCORR : FieldRef := ⟨0x5804, 4, 1⟩
abbrev SCRUB_STATUS_STUCK : FieldRef := ⟨0x5804, 3, 1⟩
abbrev SCRUB_STATUS_SURVEY_PAUSED : FieldRef := ⟨0x5804, 2, 1⟩
abbrev SCRUB_STATUS_DEFERRED : FieldRef := ⟨0x5804, 1, 1⟩
abbrev SCRUB_STATUS_SWEEP_BUSY : FieldRef := ⟨0x5804, 0, 1⟩
abbrev SCRUB_SURVEY_SPACING : FieldRef := ⟨0x5808, 16, 8⟩
abbrev SCRUB_SURVEY_PERIOD : FieldRef := ⟨0x5808, 0, 12⟩
abbrev SCRUB_SWEEP_TIME_TIME : FieldRef := ⟨0x580C, 0, 32⟩
abbrev SCRUB_STUCK_ADDR_REGION : FieldRef := ⟨0x5810, 28, 4⟩
abbrev SCRUB_STUCK_ADDR_WORD : FieldRef := ⟨0x5810, 0, 18⟩
abbrev SCRUB_UNCORR_ADDR_REGION : FieldRef := ⟨0x5814, 28, 4⟩
abbrev SCRUB_UNCORR_ADDR_WORD : FieldRef := ⟨0x5814, 0, 18⟩
abbrev SCRUB_FAULT_SEEN_SEEN : FieldRef := ⟨0x5818, 0, 16⟩
abbrev SCRUB_WEAR_SEL_CELL : FieldRef := ⟨0x5840, 0, 7⟩
abbrev SCRUB_WEAR_A_LO_COUNT : FieldRef := ⟨0x5844, 0, 32⟩
abbrev SCRUB_WEAR_A_HI_COUNT : FieldRef := ⟨0x5848, 0, 32⟩
abbrev SCRUB_WEAR_B_LO_COUNT : FieldRef := ⟨0x584C, 0, 32⟩
abbrev SCRUB_WEAR_B_HI_COUNT : FieldRef := ⟨0x5850, 0, 32⟩
abbrev SCRUB_WEAR_BYP_COUNT : FieldRef := ⟨0x5854, 0, 32⟩
abbrev SCRUB_WEAR_DUMP_SECONDS : FieldRef := ⟨0x5858, 0, 32⟩
abbrev SCRUB_WEAR_LINE_COUNT : FieldRef := ⟨0x585C, 0, 32⟩
abbrev SCRUB_SWEEPS_COUNT : FieldRef := ⟨0x5880, 0, 32⟩
abbrev SCRUB_CORR_COUNT : FieldRef := ⟨0x5884, 0, 32⟩
abbrev SCRUB_TRANSIENT_COUNT : FieldRef := ⟨0x5888, 0, 32⟩
abbrev SCRUB_STUCK_COUNT : FieldRef := ⟨0x588C, 0, 32⟩
abbrev SCRUB_UNCORR_COUNT : FieldRef := ⟨0x5890, 0, 32⟩
abbrev SCRUB_SURVEY_LATE_COUNT : FieldRef := ⟨0x5898, 0, 32⟩
abbrev SCRUB_K_OPS_A_COUNT : FieldRef := ⟨0x58A0, 0, 32⟩
abbrev SCRUB_K_OPS_B_COUNT : FieldRef := ⟨0x58A4, 0, 32⟩
abbrev SCRUB_K_LOAD_COUNT : FieldRef := ⟨0x58A8, 0, 32⟩
end F

/-- The registers of block LEGEND. -/
def rowsLegend : List RegRow :=
  [⟨0x0000, 1, 4, 0x81281E5C, [⟨16, 16, .ro, none, false⟩, ⟨0, 16, .ro, none, false⟩]⟩,
   ⟨0x0004, 1, 4, 0x11E5C, [⟨16, 16, .ro, none, false⟩, ⟨0, 16, .ro, none, false⟩]⟩,
   ⟨0x0008, 1, 4, 0x11800011, [⟨8, 24, .ro, none, false⟩, ⟨0, 8, .ro, none, false⟩]⟩,
   ⟨0x000C, 1, 4, 0x18128A39, [⟨28, 4, .ro, none, false⟩, ⟨12, 16, .ro, none, false⟩, ⟨1, 11, .ro, none, false⟩, ⟨0, 1, .ro, none, false⟩]⟩,
   ⟨0x0010, 1, 4, 0x80041420, [⟨24, 8, .ro, none, false⟩, ⟨16, 8, .ro, none, false⟩, ⟨8, 8, .ro, none, false⟩, ⟨0, 8, .ro, none, false⟩]⟩,
   ⟨0x0014, 1, 4, 0x10101, [⟨16, 8, .ro, none, false⟩, ⟨8, 8, .ro, none, false⟩, ⟨0, 8, .ro, none, false⟩]⟩,
   ⟨0x0018, 1, 4, 0x0, [⟨0, 32, .ro, none, false⟩]⟩,
   ⟨0x001C, 1, 4, 0x0, [⟨0, 32, .ro, none, false⟩]⟩,
   ⟨0x0020, 1, 4, 0x0, [⟨0, 32, .rw, none, false⟩]⟩]

/-- The registers of block HOST. -/
def rowsHost : List RegRow :=
  [⟨0x0400, 1, 4, 0x0, [⟨10, 2, .ro, none, false⟩, ⟨9, 1, .ro, none, false⟩, ⟨8, 1, .ro, none, false⟩, ⟨7, 1, .ro, none, false⟩, ⟨6, 1, .w1c, none, false⟩, ⟨5, 1, .w1c, none, false⟩, ⟨4, 1, .w1c, none, false⟩, ⟨3, 1, .w1c, none, false⟩, ⟨2, 1, .w1c, none, false⟩]⟩,
   ⟨0x0404, 1, 4, 0x0, [⟨7, 1, .ro, none, false⟩, ⟨4, 3, .ro, none, false⟩, ⟨0, 2, .ro, none, false⟩]⟩,
   ⟨0x0408, 1, 4, 0x0, [⟨0, 32, .ro, none, false⟩]⟩,
   ⟨0x040C, 1, 4, 0x0, [⟨0, 32, .ro, none, false⟩]⟩,
   ⟨0x0410, 1, 4, 0x70, [⟨4, 3, .rw, none, false⟩, ⟨2, 1, .rw, none, false⟩, ⟨1, 1, .rw, none, false⟩, ⟨0, 1, .rw, none, false⟩]⟩,
   ⟨0x0414, 1, 4, 0x0, [⟨0, 7, .ro, none, false⟩]⟩,
   ⟨0x0418, 1, 4, 0x0, [⟨1, 12, .ro, none, false⟩]⟩,
   ⟨0x0440, 6, 32, 0x0, [⟨12, 20, .rw, none, false⟩]⟩,
   ⟨0x0444, 6, 32, 0x0, [⟨0, 32, .rw, none, false⟩]⟩,
   ⟨0x0448, 6, 32, 0x4, [⟨31, 1, .rw, none, false⟩, ⟨0, 5, .rw, some (4, 16), false⟩]⟩,
   ⟨0x044C, 6, 32, 0x0, [⟨0, 32, .ro, none, false⟩]⟩,
   ⟨0x0450, 6, 32, 0x0, [⟨0, 32, .ro, none, false⟩]⟩,
   ⟨0x0454, 6, 32, 0x0, [⟨1, 1, .ro, none, false⟩, ⟨0, 1, .ro, none, false⟩]⟩,
   ⟨0x0500, 1, 4, 0x0, [⟨0, 32, .ro, none, false⟩]⟩,
   ⟨0x0504, 1, 4, 0x0, [⟨0, 32, .ro, none, false⟩]⟩,
   ⟨0x0508, 1, 4, 0x0, [⟨0, 32, .ro, none, false⟩]⟩,
   ⟨0x050C, 1, 4, 0x0, [⟨0, 32, .ro, none, false⟩]⟩,
   ⟨0x0510, 1, 4, 0x0, [⟨0, 32, .ro, none, false⟩]⟩,
   ⟨0x0514, 1, 4, 0x0, [⟨0, 32, .ro, none, false⟩]⟩,
   ⟨0x0518, 1, 4, 0x0, [⟨0, 32, .ro, none, false⟩]⟩]

/-- The registers of block IRQ. -/
def rowsIrq : List RegRow :=
  [⟨0x0800, 64, 4, 0x0, [⟨24, 8, .rw, none, false⟩, ⟨16, 8, .rw, none, false⟩, ⟨8, 8, .rw, none, false⟩, ⟨0, 8, .rw, none, false⟩]⟩,
   ⟨0x0900, 8, 4, 0xFFFFFFFF, [⟨0, 32, .rw, none, false⟩]⟩,
   ⟨0x0920, 1, 4, 0x1, [⟨0, 1, .rw, none, false⟩]⟩,
   ⟨0x0924, 1, 4, 0x0, [⟨8, 4, .ro, none, false⟩, ⟨4, 1, .w1c, none, false⟩, ⟨3, 1, .w1c, none, false⟩, ⟨2, 1, .w1c, none, false⟩, ⟨1, 1, .ro, none, false⟩, ⟨0, 1, .ro, none, false⟩]⟩,
   ⟨0x0928, 2, 4, 0x0, [⟨0, 32, .ro, none, false⟩]⟩,
   ⟨0x0930, 2, 4, 0x0, [⟨0, 32, .ro, none, false⟩]⟩,
   ⟨0x0938, 1, 4, 0x0, [⟨0, 6, .wo, none, false⟩]⟩,
   ⟨0x0940, 1, 4, 0x0, [⟨0, 32, .ro, none, false⟩]⟩,
   ⟨0x0944, 1, 4, 0x0, [⟨0, 32, .ro, none, false⟩]⟩,
   ⟨0x0948, 1, 4, 0x0, [⟨0, 32, .ro, none, false⟩]⟩,
   ⟨0x094C, 1, 4, 0x0, [⟨0, 32, .ro, none, false⟩]⟩,
   ⟨0x0960, 8, 4, 0x0, [⟨0, 32, .ro, none, false⟩]⟩,
   ⟨0x0980, 16, 8, 0x0, [⟨0, 32, .ro, none, false⟩]⟩,
   ⟨0x0984, 16, 8, 0x0, [⟨24, 8, .ro, none, false⟩, ⟨16, 8, .ro, none, false⟩, ⟨0, 16, .ro, none, false⟩]⟩,
   ⟨0x0A00, 64, 4, 0x10000, [⟨31, 1, .rw, none, false⟩, ⟨24, 3, .rw, none, false⟩, ⟨16, 8, .rw, some (1, 255), false⟩, ⟨0, 10, .rw, some (0, 1000), false⟩]⟩]

/-- The registers of block EVENT. -/
def rowsEvent : List RegRow :=
  [⟨0x0C00, 64, 4, 0x0, [⟨24, 8, .rw, none, false⟩, ⟨16, 8, .rw, none, false⟩, ⟨8, 8, .rw, none, false⟩, ⟨0, 8, .rw, none, false⟩]⟩,
   ⟨0x0D00, 64, 4, 0x100, [⟨28, 4, .rw, none, false⟩, ⟨24, 4, .rw, none, false⟩, ⟨21, 3, .rw, some (0, 3), false⟩, ⟨8, 13, .rw, some (1, 8191), false⟩, ⟨0, 7, .rw, none, false⟩]⟩,
   ⟨0x0E00, 64, 4, 0x0, [⟨0, 32, .ro, none, false⟩]⟩,
   ⟨0x0F00, 1, 4, 0xFFFFFFFF, [⟨0, 32, .rw, none, false⟩]⟩,
   ⟨0x0F04, 1, 4, 0xFFFFFFFF, [⟨0, 32, .rw, none, false⟩]⟩,
   ⟨0x0F08, 1, 4, 0xFFFFFFFF, [⟨0, 32, .rw, none, false⟩]⟩,
   ⟨0x0F0C, 1, 4, 0xFFFFFFFF, [⟨0, 32, .rw, none, false⟩]⟩,
   ⟨0x0F10, 1, 4, 0xFFFFFFFF, [⟨0, 32, .rw, none, false⟩]⟩,
   ⟨0x0F14, 1, 4, 0xFFFFFFFF, [⟨0, 32, .rw, none, false⟩]⟩,
   ⟨0x0F18, 1, 4, 0xFFFF, [⟨0, 32, .rw, none, false⟩]⟩,
   ⟨0x0F1C, 1, 4, 0xFFFFFFFF, [⟨0, 32, .rw, none, false⟩]⟩,
   ⟨0x0F20, 1, 4, 0x0, [⟨2, 1, .w1c, none, false⟩, ⟨1, 1, .w1c, none, false⟩, ⟨0, 1, .w1c, none, false⟩]⟩,
   ⟨0x0F24, 1, 4, 0x0, [⟨0, 32, .ro, none, false⟩]⟩,
   ⟨0x0F28, 1, 4, 0x0, [⟨0, 32, .ro, none, false⟩]⟩,
   ⟨0x0F2C, 1, 4, 0x0, [⟨0, 32, .ro, none, false⟩]⟩,
   ⟨0x0F30, 1, 4, 0x0, [⟨0, 32, .ro, none, false⟩]⟩]

/-- The registers of block CLOCK. -/
def rowsClock : List RegRow :=
  [⟨0x1000, 1, 4, 0x0, [⟨0, 1, .rw, none, false⟩]⟩,
   ⟨0x1004, 1, 4, 0x0, [⟨11, 1, .w1c, none, false⟩, ⟨10, 1, .ro, none, false⟩, ⟨9, 1, .ro, none, false⟩, ⟨8, 1, .ro, none, false⟩, ⟨7, 1, .ro, none, false⟩, ⟨2, 1, .ro, none, false⟩, ⟨1, 1, .ro, none, false⟩, ⟨0, 1, .ro, none, false⟩]⟩,
   ⟨0x1008, 1, 4, 0x4004, [⟨17, 3, .ro, none, false⟩, ⟨16, 1, .ro, none, false⟩, ⟨8, 8, .ro, none, false⟩, ⟨0, 8, .ro, none, false⟩]⟩,
   ⟨0x100C, 1, 4, 0x5004, [⟨17, 3, .ro, none, false⟩, ⟨16, 1, .ro, none, false⟩, ⟨8, 8, .ro, none, false⟩, ⟨0, 8, .ro, none, false⟩]⟩,
   ⟨0x1010, 1, 4, 0x4064, [⟨17, 3, .ro, none, false⟩, ⟨16, 1, .ro, none, false⟩, ⟨8, 8, .ro, none, false⟩, ⟨0, 8, .ro, none, false⟩]⟩,
   ⟨0x1014, 1, 4, 0x0, [⟨16, 8, .ro, none, false⟩, ⟨8, 8, .ro, none, false⟩, ⟨0, 8, .ro, none, false⟩]⟩,
   ⟨0x1018, 1, 4, 0x0, [⟨0, 16, .ro, none, false⟩]⟩,
   ⟨0x101C, 1, 4, 0x0, [⟨0, 16, .ro, none, false⟩]⟩,
   ⟨0x1080, 1, 4, 0x0, [⟨0, 32, .ro, none, false⟩]⟩,
   ⟨0x1084, 1, 4, 0x0, [⟨0, 32, .ro, none, false⟩]⟩,
   ⟨0x1088, 1, 4, 0x0, [⟨0, 32, .ro, none, false⟩]⟩]

/-- The registers of block POWER. -/
def rowsPower : List RegRow :=
  [⟨0x1400, 1, 4, 0x1F, [⟨10, 1, .w1c, none, false⟩, ⟨9, 1, .ro, none, false⟩, ⟨8, 1, .ro, none, false⟩, ⟨6, 1, .ro, none, false⟩, ⟨0, 5, .ro, none, false⟩]⟩,
   ⟨0x1404, 1, 4, 0x0, [⟨8, 8, .w1c, none, false⟩, ⟨0, 3, .ro, none, false⟩]⟩,
   ⟨0x1408, 1, 4, 0x0, [⟨0, 16, .wo, none, false⟩]⟩,
   ⟨0x140C, 1, 4, 0x0, [⟨16, 16, .ro, none, false⟩, ⟨0, 16, .ro, none, false⟩]⟩,
   ⟨0x1410, 1, 4, 0x0, [⟨1, 1, .ro, none, false⟩, ⟨0, 1, .ro, none, false⟩]⟩,
   ⟨0x1480, 1, 4, 0x0, [⟨0, 32, .ro, none, false⟩]⟩,
   ⟨0x1484, 1, 4, 0x0, [⟨0, 32, .ro, none, false⟩]⟩]

/-- The registers of block DATUM. -/
def rowsDatum : List RegRow :=
  [⟨0x1800, 1, 4, 0x0, [⟨0, 32, .ro, none, false⟩]⟩,
   ⟨0x1804, 1, 4, 0x0, [⟨0, 32, .ro, none, false⟩]⟩,
   ⟨0x1808, 1, 4, 0x0, [⟨9, 1, .w1c, none, false⟩, ⟨8, 1, .w1c, none, false⟩, ⟨7, 1, .w1c, none, false⟩, ⟨6, 1, .ro, none, false⟩, ⟨5, 1, .ro, none, false⟩, ⟨2, 3, .ro, none, false⟩, ⟨0, 2, .ro, none, false⟩]⟩,
   ⟨0x180C, 1, 4, 0xA0A1434, [⟨24, 8, .rw, some (1, 255), false⟩, ⟨16, 8, .rw, some (1, 100), false⟩, ⟨8, 8, .rw, some (1, 255), false⟩, ⟨4, 4, .rw, some (1, 8), false⟩, ⟨0, 4, .rw, some (2, 15), false⟩]⟩,
   ⟨0x1810, 1, 4, 0x1320A, [⟨16, 1, .rw, none, false⟩, ⟨8, 8, .rw, some (1, 255), false⟩, ⟨0, 8, .rw, some (1, 255), false⟩]⟩,
   ⟨0x1814, 1, 4, 0x0, [⟨0, 32, .rw, some (-1000000, 1000000), true⟩]⟩,
   ⟨0x1818, 1, 4, 0x0, [⟨0, 32, .ro, none, false⟩]⟩,
   ⟨0x181C, 1, 4, 0x0, [⟨0, 32, .ro, none, false⟩]⟩,
   ⟨0x1820, 1, 4, 0x0, [⟨0, 32, .ro, none, false⟩]⟩,
   ⟨0x1824, 1, 4, 0x0, [⟨0, 32, .ro, none, false⟩]⟩,
   ⟨0x1828, 1, 4, 0xE10, [⟨0, 17, .rw, some (1, 86400), false⟩]⟩,
   ⟨0x182C, 1, 4, 0x0, [⟨0, 32, .ro, none, false⟩]⟩,
   ⟨0x1830, 1, 4, 0x0, [⟨0, 32, .ro, none, false⟩]⟩,
   ⟨0x1834, 1, 4, 0x0, [⟨0, 16, .rw, none, false⟩]⟩,
   ⟨0x1838, 1, 4, 0x32, [⟨0, 8, .rw, some (20, 160), false⟩]⟩,
   ⟨0x183C, 1, 4, 0x0, [⟨0, 32, .ro, none, false⟩]⟩,
   ⟨0x1840, 1, 4, 0x0, [⟨0, 32, .ro, none, false⟩]⟩,
   ⟨0x1844, 1, 4, 0x0, [⟨0, 32, .ro, none, false⟩]⟩,
   ⟨0x1848, 1, 4, 0x0, [⟨12, 4, .rw, some (0, 4), false⟩, ⟨8, 4, .rw, some (0, 4), false⟩, ⟨4, 4, .rw, some (0, 4), false⟩, ⟨0, 4, .rw, some (0, 4), false⟩]⟩,
   ⟨0x184C, 1, 4, 0x986A0, [⟨19, 1, .rw, none, false⟩, ⟨0, 19, .rw, some (1, 500000), false⟩]⟩,
   ⟨0x1880, 1, 4, 0x1, [⟨16, 16, .rw, none, false⟩, ⟨1, 1, .rw, none, false⟩, ⟨0, 1, .rw, none, false⟩]⟩,
   ⟨0x1884, 1, 4, 0x1E, [⟨16, 16, .ro, none, false⟩, ⟨1, 4, .ro, none, false⟩, ⟨0, 1, .ro, none, false⟩]⟩,
   ⟨0x1888, 1, 4, 0x0, [⟨0, 16, .rw, none, false⟩]⟩,
   ⟨0x188C, 1, 4, 0x0, [⟨0, 32, .ro, none, false⟩]⟩,
   ⟨0x1890, 1, 4, 0x0, [⟨0, 32, .ro, none, false⟩]⟩,
   ⟨0x1894, 1, 4, 0x7D, [⟨0, 10, .rw, some (4, 1023), false⟩]⟩,
   ⟨0x1898, 1, 4, 0x0, [⟨0, 32, .ro, none, false⟩]⟩,
   ⟨0x189C, 1, 4, 0x0, [⟨0, 32, .ro, none, false⟩]⟩,
   ⟨0x18A0, 1, 4, 0x0, [⟨0, 32, .ro, none, false⟩]⟩,
   ⟨0x18A4, 1, 4, 0x0, [⟨0, 32, .ro, none, false⟩]⟩,
   ⟨0x18A8, 1, 4, 0x0, [⟨0, 8, .w1c, none, false⟩]⟩,
   ⟨0x1900, 128, 4, 0x0, [⟨0, 32, .ro, none, false⟩]⟩]

/-- The registers of block CONV. -/
def rowsConv : List RegRow :=
  [⟨0x2000, 1, 4, 0x3, [⟨8, 4, .wo, none, false⟩, ⟨1, 1, .rw, none, false⟩, ⟨0, 1, .rw, none, false⟩]⟩,
   ⟨0x2004, 1, 4, 0x0, [⟨14, 1, .w1c, none, false⟩, ⟨13, 1, .ro, none, false⟩, ⟨8, 4, .w1c, none, false⟩, ⟨4, 4, .ro, none, false⟩, ⟨0, 4, .ro, none, false⟩]⟩,
   ⟨0x2008, 1, 4, 0x2410210, [⟨24, 8, .rw, some (1, 255), false⟩, ⟨18, 6, .rw, some (1, 63), false⟩, ⟨12, 6, .rw, some (1, 63), false⟩, ⟨6, 6, .rw, some (1, 63), false⟩, ⟨0, 6, .rw, some (1, 63), false⟩]⟩,
   ⟨0x200C, 1, 4, 0x3C, [⟨0, 12, .rw, some (1, 3600), false⟩]⟩,
   ⟨0x2010, 1, 4, 0x0, [⟨8, 1, .wo, none, false⟩, ⟨0, 4, .wo, none, false⟩]⟩,
   ⟨0x2020, 4, 4, 0x43210, [⟨24, 5, .ro, none, false⟩, ⟨20, 3, .ro, none, false⟩, ⟨16, 3, .ro, none, false⟩, ⟨12, 3, .ro, none, false⟩, ⟨8, 3, .ro, none, false⟩, ⟨4, 3, .ro, none, false⟩, ⟨0, 3, .ro, none, false⟩]⟩,
   ⟨0x2030, 4, 4, 0x0, [⟨16, 16, .ro, none, false⟩, ⟨0, 16, .ro, none, false⟩]⟩,
   ⟨0x2040, 1, 4, 0x80000006, [⟨31, 1, .rw, none, false⟩, ⟨27, 4, .rw, none, false⟩, ⟨25, 2, .rw, none, false⟩, ⟨16, 9, .rw, some (0, 499), false⟩, ⟨12, 4, .rw, none, false⟩, ⟨8, 4, .rw, none, false⟩, ⟨4, 4, .rw, none, false⟩, ⟨0, 4, .rw, none, false⟩]⟩,
   ⟨0x2044, 1, 4, 0x80FA0006, [⟨31, 1, .rw, none, false⟩, ⟨27, 4, .rw, none, false⟩, ⟨25, 2, .rw, none, false⟩, ⟨16, 9, .rw, some (0, 499), false⟩, ⟨12, 4, .rw, none, false⟩, ⟨8, 4, .rw, none, false⟩, ⟨4, 4, .rw, none, false⟩, ⟨0, 4, .rw, none, false⟩]⟩,
   ⟨0x2048, 1, 4, 0x80000000, [⟨31, 1, .rw, none, false⟩, ⟨27, 4, .rw, none, false⟩, ⟨25, 2, .rw, none, false⟩, ⟨16, 9, .rw, some (0, 499), false⟩, ⟨12, 4, .rw, none, false⟩, ⟨8, 4, .rw, none, false⟩, ⟨4, 4, .rw, none, false⟩, ⟨0, 4, .rw, none, false⟩]⟩,
   ⟨0x204C, 1, 4, 0x80000003, [⟨31, 1, .rw, none, false⟩, ⟨27, 4, .rw, none, false⟩, ⟨25, 2, .rw, none, false⟩, ⟨16, 9, .rw, some (0, 499), false⟩, ⟨12, 4, .rw, none, false⟩, ⟨8, 4, .rw, none, false⟩, ⟨4, 4, .rw, none, false⟩, ⟨0, 4, .rw, none, false⟩]⟩,
   ⟨0x2050, 1, 4, 0x80000007, [⟨31, 1, .rw, none, false⟩, ⟨27, 4, .rw, none, false⟩, ⟨25, 2, .rw, none, false⟩, ⟨16, 9, .rw, some (0, 499), false⟩, ⟨12, 4, .rw, none, false⟩, ⟨8, 4, .rw, none, false⟩, ⟨4, 4, .rw, none, false⟩, ⟨0, 4, .rw, none, false⟩]⟩,
   ⟨0x2054, 1, 4, 0x80FA0007, [⟨31, 1, .rw, none, false⟩, ⟨27, 4, .rw, none, false⟩, ⟨25, 2, .rw, none, false⟩, ⟨16, 9, .rw, some (0, 499), false⟩, ⟨12, 4, .rw, none, false⟩, ⟨8, 4, .rw, none, false⟩, ⟨4, 4, .rw, none, false⟩, ⟨0, 4, .rw, none, false⟩]⟩,
   ⟨0x2058, 1, 4, 0x80000001, [⟨31, 1, .rw, none, false⟩, ⟨27, 4, .rw, none, false⟩, ⟨25, 2, .rw, none, false⟩, ⟨16, 9, .rw, some (0, 499), false⟩, ⟨12, 4, .rw, none, false⟩, ⟨8, 4, .rw, none, false⟩, ⟨4, 4, .rw, none, false⟩, ⟨0, 4, .rw, none, false⟩]⟩,
   ⟨0x205C, 1, 4, 0x80000004, [⟨31, 1, .rw, none, false⟩, ⟨27, 4, .rw, none, false⟩, ⟨25, 2, .rw, none, false⟩, ⟨16, 9, .rw, some (0, 499), false⟩, ⟨12, 4, .rw, none, false⟩, ⟨8, 4, .rw, none, false⟩, ⟨4, 4, .rw, none, false⟩, ⟨0, 4, .rw, none, false⟩]⟩,
   ⟨0x2060, 1, 4, 0x80000008, [⟨31, 1, .rw, none, false⟩, ⟨27, 4, .rw, none, false⟩, ⟨25, 2, .rw, none, false⟩, ⟨16, 9, .rw, some (0, 499), false⟩, ⟨12, 4, .rw, none, false⟩, ⟨8, 4, .rw, none, false⟩, ⟨4, 4, .rw, none, false⟩, ⟨0, 4, .rw, none, false⟩]⟩,
   ⟨0x2064, 1, 4, 0x80FA0008, [⟨31, 1, .rw, none, false⟩, ⟨27, 4, .rw, none, false⟩, ⟨25, 2, .rw, none, false⟩, ⟨16, 9, .rw, some (0, 499), false⟩, ⟨12, 4, .rw, none, false⟩, ⟨8, 4, .rw, none, false⟩, ⟨4, 4, .rw, none, false⟩, ⟨0, 4, .rw, none, false⟩]⟩,
   ⟨0x2068, 1, 4, 0x80000002, [⟨31, 1, .rw, none, false⟩, ⟨27, 4, .rw, none, false⟩, ⟨25, 2, .rw, none, false⟩, ⟨16, 9, .rw, some (0, 499), false⟩, ⟨12, 4, .rw, none, false⟩, ⟨8, 4, .rw, none, false⟩, ⟨4, 4, .rw, none, false⟩, ⟨0, 4, .rw, none, false⟩]⟩,
   ⟨0x206C, 1, 4, 0x80000005, [⟨31, 1, .rw, none, false⟩, ⟨27, 4, .rw, none, false⟩, ⟨25, 2, .rw, none, false⟩, ⟨16, 9, .rw, some (0, 499), false⟩, ⟨12, 4, .rw, none, false⟩, ⟨8, 4, .rw, none, false⟩, ⟨4, 4, .rw, none, false⟩, ⟨0, 4, .rw, none, false⟩]⟩,
   ⟨0x2070, 1, 4, 0x80000009, [⟨31, 1, .rw, none, false⟩, ⟨27, 4, .rw, none, false⟩, ⟨25, 2, .rw, none, false⟩, ⟨16, 9, .rw, some (0, 499), false⟩, ⟨12, 4, .rw, none, false⟩, ⟨8, 4, .rw, none, false⟩, ⟨4, 4, .rw, none, false⟩, ⟨0, 4, .rw, none, false⟩]⟩,
   ⟨0x2074, 1, 4, 0x8000000C, [⟨31, 1, .rw, none, false⟩, ⟨27, 4, .rw, none, false⟩, ⟨25, 2, .rw, none, false⟩, ⟨16, 9, .rw, some (0, 499), false⟩, ⟨12, 4, .rw, none, false⟩, ⟨8, 4, .rw, none, false⟩, ⟨4, 4, .rw, none, false⟩, ⟨0, 4, .rw, none, false⟩]⟩,
   ⟨0x2078, 1, 4, 0x84000FED, [⟨31, 1, .rw, none, false⟩, ⟨27, 4, .rw, none, false⟩, ⟨25, 2, .rw, none, false⟩, ⟨16, 9, .rw, some (0, 499), false⟩, ⟨12, 4, .rw, none, false⟩, ⟨8, 4, .rw, none, false⟩, ⟨4, 4, .rw, none, false⟩, ⟨0, 4, .rw, none, false⟩]⟩,
   ⟨0x207C, 1, 4, 0x820000AB, [⟨31, 1, .rw, none, false⟩, ⟨27, 4, .rw, none, false⟩, ⟨25, 2, .rw, none, false⟩, ⟨16, 9, .rw, some (0, 499), false⟩, ⟨12, 4, .rw, none, false⟩, ⟨8, 4, .rw, none, false⟩, ⟨4, 4, .rw, none, false⟩, ⟨0, 4, .rw, none, false⟩]⟩,
   ⟨0x2080, 1, 4, 0x0, [⟨0, 32, .ro, none, false⟩]⟩,
   ⟨0x2084, 1, 4, 0x0, [⟨0, 32, .ro, none, false⟩]⟩,
   ⟨0x2088, 1, 4, 0x0, [⟨0, 32, .ro, none, false⟩]⟩,
   ⟨0x208C, 1, 4, 0x0, [⟨0, 32, .ro, none, false⟩]⟩,
   ⟨0x2090, 1, 4, 0x0, [⟨0, 32, .ro, none, false⟩]⟩,
   ⟨0x2094, 1, 4, 0x0, [⟨0, 32, .ro, none, false⟩]⟩,
   ⟨0x2100, 16, 4, 0x0, [⟨16, 16, .ro, none, false⟩, ⟨0, 16, .ro, none, false⟩]⟩]

/-- The registers of block COMP. -/
def rowsComp : List RegRow :=
  [⟨0x2400, 32, 4, 0x0, [⟨31, 1, .rw, none, false⟩, ⟨28, 2, .rw, some (0, 2), false⟩, ⟨27, 1, .rw, none, false⟩, ⟨26, 1, .rw, none, false⟩, ⟨25, 1, .rw, none, false⟩, ⟨24, 1, .rw, none, false⟩, ⟨23, 1, .rw, none, false⟩, ⟨20, 3, .rw, none, false⟩, ⟨0, 10, .rw, none, false⟩]⟩,
   ⟨0x2480, 1, 4, 0x0, [⟨0, 32, .ro, none, false⟩]⟩,
   ⟨0x2484, 1, 4, 0x0, [⟨0, 32, .w1c, none, false⟩]⟩,
   ⟨0x2488, 1, 4, 0x0, [⟨31, 1, .wo, none, false⟩, ⟨0, 2, .rw, none, false⟩]⟩,
   ⟨0x248C, 1, 4, 0x0, [⟨0, 32, .rw, none, false⟩]⟩,
   ⟨0x2490, 1, 4, 0x0, [⟨0, 32, .ro, none, false⟩]⟩,
   ⟨0x2494, 1, 4, 0x0, [⟨0, 32, .ro, none, false⟩]⟩,
   ⟨0x2498, 1, 4, 0x0, [⟨3, 1, .w1c, none, false⟩, ⟨2, 1, .w1c, none, false⟩, ⟨1, 1, .w1c, none, false⟩, ⟨0, 1, .ro, none, false⟩]⟩]

/-- The registers of block WING. -/
def rowsWing : List RegRow :=
  [⟨0x2800, 1, 4, 0x40000, [⟨28, 4, .wo, none, false⟩, ⟨24, 4, .wo, none, false⟩, ⟨23, 1, .wo, none, false⟩, ⟨18, 2, .rw, some (0, 1), false⟩, ⟨16, 2, .rw, some (0, 2), false⟩, ⟨0, 4, .rw, none, false⟩]⟩,
   ⟨0x2804, 1, 4, 0x36B, [⟨0, 11, .rw, some (250, 2000), false⟩]⟩,
   ⟨0x2808, 1, 4, 0x0, [⟨28, 4, .ro, none, false⟩, ⟨24, 4, .w1c, none, false⟩, ⟨20, 4, .ro, none, false⟩, ⟨16, 4, .ro, none, false⟩, ⟨12, 4, .ro, none, false⟩, ⟨0, 1, .w1c, none, false⟩]⟩,
   ⟨0x2810, 4, 4, 0x0, [⟨24, 8, .ro, none, false⟩, ⟨16, 8, .ro, none, false⟩, ⟨8, 8, .ro, none, false⟩, ⟨0, 4, .ro, none, false⟩]⟩,
   ⟨0x2820, 4, 4, 0x0, [⟨0, 24, .ro, none, false⟩]⟩,
   ⟨0x2830, 4, 4, 0x0, [⟨0, 32, .ro, none, false⟩]⟩,
   ⟨0x2840, 4, 4, 0x0, [⟨0, 32, .ro, none, false⟩]⟩,
   ⟨0x2850, 4, 4, 0x0, [⟨0, 32, .ro, none, false⟩]⟩,
   ⟨0x2860, 4, 4, 0x0, [⟨0, 32, .ro, none, false⟩]⟩,
   ⟨0x2C00, 128, 4, 0x0, [⟨31, 1, .ro, none, false⟩, ⟨24, 4, .ro, none, false⟩, ⟨0, 16, .ro, none, false⟩]⟩,
   ⟨0x2E00, 128, 4, 0x0, [⟨0, 24, .ro, none, false⟩]⟩]

/-- The registers of block CUR. -/
def rowsCur : List RegRow :=
  [⟨0x3000, 1, 4, 0xE, [⟨3, 1, .rw, none, false⟩, ⟨2, 1, .rw, none, false⟩, ⟨1, 1, .rw, none, false⟩, ⟨0, 1, .rw, none, false⟩]⟩,
   ⟨0x3004, 1, 4, 0x0, [⟨16, 1, .w1c, none, false⟩, ⟨15, 1, .ro, none, false⟩, ⟨14, 1, .ro, none, false⟩, ⟨11, 3, .ro, none, false⟩, ⟨8, 3, .w1c, none, false⟩, ⟨5, 3, .w1c, none, false⟩, ⟨0, 3, .ro, none, false⟩]⟩,
   ⟨0x3008, 1, 4, 0x140004, [⟨16, 8, .rw, some (2, 200), false⟩, ⟨0, 3, .rw, some (1, 4), false⟩]⟩,
   ⟨0x300C, 1, 4, 0x1901400, [⟨16, 16, .rw, some (50, 2000), false⟩, ⟨8, 8, .rw, some (2, 200), false⟩]⟩,
   ⟨0x3010, 1, 4, 0x271000C8, [⟨16, 16, .rw, some (1, 65535), false⟩, ⟨0, 16, .rw, some (1, 65535), false⟩]⟩,
   ⟨0x3014, 1, 4, 0x3E8, [⟨0, 16, .rw, none, false⟩]⟩,
   ⟨0x3018, 1, 4, 0x12C03E8, [⟨16, 16, .rw, some (1, 65535), false⟩, ⟨0, 14, .rw, some (10, 10000), false⟩]⟩,
   ⟨0x301C, 1, 4, 0x641405, [⟨16, 16, .rw, some (2, 2000), false⟩, ⟨8, 8, .rw, some (1, 255), false⟩, ⟨0, 8, .rw, some (1, 100), false⟩]⟩,
   ⟨0x3020, 1, 4, 0x7D0, [⟨0, 16, .rw, some (10, 20000), false⟩]⟩,
   ⟨0x3024, 3, 4, 0x3E8, [⟨0, 16, .ro, none, false⟩]⟩,
   ⟨0x3030, 3, 4, 0x0, [⟨0, 16, .ro, none, false⟩]⟩,
   ⟨0x3040, 3, 4, 0x0, [⟨8, 8, .ro, none, false⟩, ⟨0, 8, .ro, none, false⟩]⟩,
   ⟨0x3050, 3, 4, 0x0, [⟨16, 16, .ro, none, false⟩, ⟨0, 16, .ro, none, false⟩]⟩,
   ⟨0x3060, 1, 4, 0x0, [⟨0, 32, .ro, none, false⟩]⟩,
   ⟨0x3080, 1, 4, 0x0, [⟨0, 32, .ro, none, false⟩]⟩,
   ⟨0x3084, 1, 4, 0x0, [⟨0, 32, .ro, none, false⟩]⟩,
   ⟨0x3088, 1, 4, 0x0, [⟨0, 32, .ro, none, false⟩]⟩,
   ⟨0x308C, 1, 4, 0x0, [⟨0, 32, .ro, none, false⟩]⟩,
   ⟨0x3090, 1, 4, 0x0, [⟨0, 32, .ro, none, false⟩]⟩,
   ⟨0x3094, 1, 4, 0x0, [⟨0, 32, .ro, none, false⟩]⟩,
   ⟨0x3098, 1, 4, 0x0, [⟨0, 32, .ro, none, false⟩]⟩]

/-- The registers of block CAST. -/
def rowsCast : List RegRow :=
  [⟨0x3400, 1, 4, 0x2, [⟨1, 1, .rw, none, false⟩, ⟨0, 1, .rw, none, false⟩]⟩,
   ⟨0x3404, 1, 4, 0x0, [⟨15, 1, .w1c, none, false⟩, ⟨14, 1, .ro, none, false⟩, ⟨13, 1, .w1c, none, false⟩, ⟨12, 1, .ro, none, false⟩, ⟨8, 2, .ro, none, false⟩, ⟨4, 3, .w1c, none, false⟩, ⟨0, 3, .ro, none, false⟩]⟩,
   ⟨0x3408, 1, 4, 0xC8, [⟨0, 16, .rw, some (50, 2000), false⟩]⟩,
   ⟨0x340C, 1, 4, 0x10, [⟨0, 8, .rw, some (1, 255), false⟩]⟩,
   ⟨0x3410, 1, 4, 0x320002, [⟨16, 16, .rw, some (2, 10000), false⟩, ⟨0, 8, .rw, some (1, 255), false⟩]⟩,
   ⟨0x3414, 1, 4, 0x80020014, [⟨31, 1, .rw, none, false⟩, ⟨16, 8, .rw, some (0, 8), false⟩, ⟨0, 8, .rw, some (5, 200), false⟩]⟩,
   ⟨0x3418, 1, 4, 0x0, [⟨31, 1, .wo, none, false⟩, ⟨0, 7, .wo, none, false⟩]⟩,
   ⟨0x3420, 3, 4, 0xC8, [⟨24, 8, .ro, none, false⟩, ⟨16, 8, .ro, none, false⟩, ⟨0, 16, .ro, none, false⟩]⟩,
   ⟨0x3430, 1, 4, 0x0, [⟨0, 16, .ro, none, false⟩]⟩,
   ⟨0x3480, 1, 4, 0x0, [⟨0, 32, .ro, none, false⟩]⟩,
   ⟨0x3484, 1, 4, 0x0, [⟨0, 32, .ro, none, false⟩]⟩,
   ⟨0x3488, 1, 4, 0x0, [⟨0, 32, .ro, none, false⟩]⟩,
   ⟨0x348C, 1, 4, 0x0, [⟨0, 32, .ro, none, false⟩]⟩,
   ⟨0x3490, 1, 4, 0x0, [⟨0, 32, .ro, none, false⟩]⟩,
   ⟨0x3494, 1, 4, 0x0, [⟨0, 32, .ro, none, false⟩]⟩,
   ⟨0x3498, 1, 4, 0x0, [⟨0, 32, .ro, none, false⟩]⟩,
   ⟨0x349C, 1, 4, 0x0, [⟨0, 32, .ro, none, false⟩]⟩,
   ⟨0x34A0, 1, 4, 0x0, [⟨0, 32, .ro, none, false⟩]⟩,
   ⟨0x34A4, 1, 4, 0x0, [⟨0, 32, .ro, none, false⟩]⟩,
   ⟨0x34A8, 1, 4, 0x0, [⟨0, 32, .ro, none, false⟩]⟩,
   ⟨0x3600, 128, 4, 0x20000000, [⟨31, 1, .ro, none, false⟩, ⟨30, 1, .ro, none, false⟩, ⟨28, 2, .ro, none, false⟩, ⟨24, 4, .ro, none, false⟩, ⟨23, 1, .ro, none, false⟩, ⟨16, 7, .ro, none, false⟩, ⟨8, 8, .ro, none, false⟩, ⟨0, 3, .ro, none, false⟩]⟩]

/-- The registers of block CELLPWR. -/
def rowsCellpwr : List RegRow :=
  [⟨0x3800, 1, 4, 0xC, [⟨3, 1, .rw, none, false⟩, ⟨2, 1, .rw, none, false⟩, ⟨1, 1, .rw, none, false⟩, ⟨0, 1, .rw, none, false⟩]⟩,
   ⟨0x3804, 1, 4, 0x0, [⟨4, 1, .w1c, none, false⟩, ⟨3, 1, .ro, none, false⟩, ⟨2, 1, .ro, none, false⟩, ⟨1, 1, .ro, none, false⟩, ⟨0, 1, .ro, none, false⟩]⟩,
   ⟨0x3808, 1, 4, 0x32, [⟨0, 16, .rw, some (0, 1000), false⟩]⟩,
   ⟨0x380C, 1, 4, 0x0, [⟨0, 14, .rw, some (0, 10000), false⟩]⟩,
   ⟨0x3810, 1, 4, 0x3C0001, [⟨16, 16, .rw, some (10, 3600), false⟩, ⟨0, 4, .rw, some (1, 8), false⟩]⟩,
   ⟨0x3814, 1, 4, 0x3D403B6, [⟨16, 10, .rw, some (900, 1000), false⟩, ⟨0, 10, .rw, some (800, 999), false⟩]⟩,
   ⟨0x3818, 1, 4, 0x7D001F4, [⟨16, 16, .rw, some (1, 60000), false⟩, ⟨0, 16, .rw, some (0, 60000), false⟩]⟩,
   ⟨0x381C, 1, 4, 0x0, [⟨31, 1, .wo, none, false⟩, ⟨0, 7, .wo, none, false⟩]⟩,
   ⟨0x3820, 1, 4, 0x0, [⟨16, 16, .ro, none, false⟩, ⟨0, 16, .ro, none, false⟩]⟩,
   ⟨0x3824, 1, 4, 0x0, [⟨16, 16, .ro, none, false⟩, ⟨0, 16, .ro, none, false⟩]⟩,
   ⟨0x3828, 1, 4, 0x0, [⟨16, 16, .ro, none, false⟩, ⟨0, 16, .ro, none, false⟩]⟩,
   ⟨0x3830, 3, 4, 0x0, [⟨16, 16, .ro, none, false⟩, ⟨0, 16, .ro, none, false⟩]⟩,
   ⟨0x3880, 1, 4, 0x0, [⟨0, 32, .ro, none, false⟩]⟩,
   ⟨0x3884, 1, 4, 0x0, [⟨0, 32, .ro, none, false⟩]⟩,
   ⟨0x3888, 1, 4, 0x0, [⟨0, 32, .ro, none, false⟩]⟩,
   ⟨0x388C, 1, 4, 0x0, [⟨0, 32, .ro, none, false⟩]⟩,
   ⟨0x3A00, 128, 4, 0x0, [⟨16, 16, .ro, none, false⟩, ⟨13, 3, .ro, none, false⟩, ⟨11, 2, .ro, none, false⟩, ⟨10, 1, .ro, none, false⟩, ⟨9, 1, .ro, none, false⟩, ⟨8, 1, .ro, none, false⟩]⟩]

/-- The registers of block GRID. -/
def rowsGrid : List RegRow :=
  [⟨0x3C00, 1, 4, 0x8F, [⟨7, 1, .rw, none, false⟩, ⟨6, 1, .rw, none, false⟩, ⟨5, 1, .rw, none, false⟩, ⟨4, 1, .rw, none, false⟩, ⟨3, 1, .rw, none, false⟩, ⟨2, 1, .rw, none, false⟩, ⟨1, 1, .rw, none, false⟩, ⟨0, 1, .rw, none, false⟩]⟩,
   ⟨0x3C04, 1, 4, 0x0, [⟨15, 1, .w1c, none, false⟩, ⟨14, 1, .ro, none, false⟩, ⟨13, 1, .ro, none, false⟩, ⟨12, 1, .ro, none, false⟩, ⟨11, 1, .ro, none, false⟩, ⟨10, 1, .ro, none, false⟩, ⟨9, 1, .ro, none, false⟩, ⟨8, 1, .ro, none, false⟩, ⟨4, 3, .ro, none, false⟩, ⟨0, 3, .ro, none, false⟩]⟩,
   ⟨0x3C08, 1, 4, 0xD7A03200, [⟨20, 12, .rw, some (100, 4000), false⟩, ⟨19, 1, .rw, none, false⟩, ⟨0, 14, .rw, some (100, 12800), false⟩]⟩,
   ⟨0x3C0C, 1, 4, 0x44C, [⟨16, 1, .rw, none, false⟩, ⟨0, 11, .rw, some (100, 1500), false⟩]⟩,
   ⟨0x3C10, 1, 4, 0x640064, [⟨16, 16, .rw, some (1, 10000), false⟩, ⟨0, 16, .rw, some (1, 10000), false⟩]⟩,
   ⟨0x3C14, 1, 4, 0x640A140A, [⟨24, 8, .rw, some (10, 255), false⟩, ⟨16, 8, .rw, some (5, 50), false⟩, ⟨8, 8, .rw, some (1, 50), false⟩, ⟨0, 8, .rw, some (1, 50), false⟩]⟩,
   ⟨0x3C18, 1, 4, 0x12C640A, [⟨16, 16, .rw, some (1, 1000), false⟩, ⟨8, 8, .rw, some (10, 255), false⟩, ⟨0, 8, .rw, some (2, 50), false⟩]⟩,
   ⟨0x3C20, 1, 4, 0x0, [⟨0, 32, .ro, none, false⟩]⟩,
   ⟨0x3C24, 1, 4, 0x0, [⟨0, 24, .ro, none, false⟩]⟩,
   ⟨0x3C28, 1, 4, 0x0, [⟨0, 32, .ro, none, false⟩]⟩,
   ⟨0x3C2C, 1, 4, 0x0, [⟨16, 16, .ro, none, false⟩, ⟨0, 16, .ro, none, false⟩]⟩,
   ⟨0x3C30, 1, 4, 0x0, [⟨16, 16, .ro, none, false⟩, ⟨0, 16, .ro, none, false⟩]⟩,
   ⟨0x3C34, 1, 4, 0x0, [⟨16, 16, .ro, none, false⟩, ⟨0, 16, .ro, none, false⟩]⟩,
   ⟨0x3C38, 1, 4, 0x0, [⟨0, 32, .ro, none, false⟩]⟩,
   ⟨0x3C3C, 1, 4, 0x0, [⟨0, 32, .ro, none, false⟩]⟩,
   ⟨0x3C40, 1, 4, 0x0, [⟨8, 5, .ro, none, false⟩, ⟨3, 1, .w1c, none, false⟩, ⟨2, 1, .w1c, none, false⟩, ⟨1, 1, .w1c, none, false⟩, ⟨0, 1, .w1c, none, false⟩]⟩,
   ⟨0x3C44, 1, 4, 0x0, [⟨16, 16, .ro, none, false⟩, ⟨8, 8, .ro, none, false⟩, ⟨0, 8, .ro, none, false⟩]⟩,
   ⟨0x3C50, 1, 4, 0x0, [⟨0, 32, .ro, none, false⟩]⟩,
   ⟨0x3C54, 1, 4, 0x0, [⟨0, 32, .ro, none, false⟩]⟩,
   ⟨0x3C58, 1, 4, 0x0, [⟨0, 32, .ro, none, false⟩]⟩,
   ⟨0x3C5C, 1, 4, 0x0, [⟨0, 32, .ro, none, false⟩]⟩,
   ⟨0x3C60, 1, 4, 0x0, [⟨0, 32, .ro, none, false⟩]⟩]

/-- The registers of block METER. -/
def rowsMeter : List RegRow :=
  [⟨0x4000, 1, 4, 0x0, [⟨0, 1, .rw, none, false⟩]⟩,
   ⟨0x4004, 1, 4, 0x0, [⟨8, 1, .w1c, none, false⟩, ⟨7, 1, .ro, none, false⟩, ⟨6, 1, .ro, none, false⟩, ⟨5, 1, .w1c, none, false⟩, ⟨4, 1, .ro, none, false⟩, ⟨3, 1, .ro, none, false⟩, ⟨2, 1, .ro, none, false⟩]⟩,
   ⟨0x4008, 1, 4, 0x3840384, [⟨31, 1, .rw, none, false⟩, ⟨16, 12, .rw, some (1, 3600), false⟩, ⟨0, 12, .rw, some (1, 3600), false⟩]⟩,
   ⟨0x400C, 1, 4, 0xE10, [⟨0, 16, .rw, some (1, 65535), false⟩]⟩,
   ⟨0x4010, 1, 4, 0x0, [⟨0, 32, .ro, none, false⟩]⟩,
   ⟨0x4014, 1, 4, 0xFFFFFFFF, [⟨0, 32, .ro, none, false⟩]⟩,
   ⟨0x4018, 1, 4, 0x0, [⟨16, 14, .ro, none, false⟩, ⟨0, 14, .ro, none, false⟩]⟩,
   ⟨0x401C, 1, 4, 0x0, [⟨0, 32, .ro, none, false⟩]⟩,
   ⟨0x4020, 1, 4, 0x0, [⟨0, 32, .ro, none, false⟩]⟩,
   ⟨0x4024, 1, 4, 0x0, [⟨0, 32, .ro, none, false⟩]⟩,
   ⟨0x4028, 1, 4, 0x0, [⟨0, 32, .w1c, none, false⟩]⟩,
   ⟨0x402C, 1, 4, 0x0, [⟨0, 32, .ro, none, false⟩]⟩,
   ⟨0x4030, 1, 4, 0x0, [⟨0, 32, .ro, none, false⟩]⟩,
   ⟨0x4040, 4, 4, 0x0, [⟨0, 32, .ro, none, false⟩]⟩,
   ⟨0x4050, 4, 4, 0x0, [⟨0, 32, .ro, none, false⟩]⟩,
   ⟨0x4060, 4, 4, 0x0, [⟨0, 32, .ro, none, false⟩]⟩,
   ⟨0x4070, 3, 4, 0x0, [⟨0, 32, .ro, none, false⟩]⟩,
   ⟨0x4080, 3, 4, 0x0, [⟨0, 32, .ro, none, false⟩]⟩,
   ⟨0x4090, 4, 4, 0x0, [⟨31, 1, .w1c, none, false⟩, ⟨0, 16, .ro, none, false⟩]⟩,
   ⟨0x4100, 32, 4, 0x0, [⟨0, 32, .ro, none, false⟩]⟩,
   ⟨0x4200, 1, 4, 0x0, [⟨0, 32, .ro, none, false⟩]⟩,
   ⟨0x4204, 1, 4, 0x0, [⟨0, 32, .ro, none, false⟩]⟩,
   ⟨0x4208, 1, 4, 0x0, [⟨0, 32, .ro, none, false⟩]⟩,
   ⟨0x420C, 1, 4, 0x0, [⟨0, 32, .ro, none, false⟩]⟩,
   ⟨0x4210, 1, 4, 0x0, [⟨0, 32, .ro, none, false⟩]⟩,
   ⟨0x4214, 1, 4, 0x0, [⟨0, 32, .ro, none, false⟩]⟩,
   ⟨0x4218, 4, 4, 0x0, [⟨0, 32, .ro, none, false⟩]⟩]

/-- The registers of block CURTAIN. -/
def rowsCurtain : List RegRow :=
  [⟨0x4800, 1, 4, 0x4000, [⟨16, 1, .w1c, none, false⟩, ⟨15, 1, .ro, none, false⟩, ⟨14, 1, .ro, none, false⟩, ⟨13, 1, .ro, none, false⟩, ⟨12, 1, .ro, none, false⟩, ⟨8, 3, .ro, none, false⟩, ⟨0, 3, .ro, none, false⟩]⟩,
   ⟨0x4804, 1, 4, 0x1000001, [⟨24, 5, .ro, none, false⟩, ⟨0, 21, .w1c, none, false⟩]⟩,
   ⟨0x4808, 1, 4, 0x1FF, [⟨11, 1, .ro, none, false⟩, ⟨10, 1, .ro, none, false⟩, ⟨9, 1, .ro, none, false⟩, ⟨8, 1, .ro, none, false⟩, ⟨7, 1, .ro, none, false⟩, ⟨6, 1, .ro, none, false⟩, ⟨5, 1, .ro, none, false⟩, ⟨4, 1, .ro, none, false⟩, ⟨3, 1, .ro, none, false⟩, ⟨2, 1, .ro, none, false⟩, ⟨1, 1, .ro, none, false⟩, ⟨0, 1, .ro, none, false⟩]⟩,
   ⟨0x480C, 1, 4, 0x0, [⟨7, 1, .ro, none, false⟩, ⟨6, 1, .ro, none, false⟩, ⟨5, 1, .ro, none, false⟩, ⟨4, 1, .ro, none, false⟩, ⟨3, 1, .ro, none, false⟩, ⟨2, 1, .ro, none, false⟩, ⟨1, 1, .ro, none, false⟩, ⟨0, 1, .ro, none, false⟩]⟩,
   ⟨0x4810, 1, 4, 0x0, [⟨0, 32, .ro, none, false⟩]⟩,
   ⟨0x4814, 1, 4, 0x0, [⟨0, 32, .ro, none, false⟩]⟩,
   ⟨0x4820, 1, 4, 0x0, [⟨0, 32, .ro, none, false⟩]⟩,
   ⟨0x4824, 1, 4, 0x0, [⟨0, 32, .ro, none, false⟩]⟩,
   ⟨0x4828, 1, 4, 0x0, [⟨0, 32, .ro, none, false⟩]⟩,
   ⟨0x482C, 1, 4, 0x0, [⟨0, 32, .ro, none, false⟩]⟩,
   ⟨0x4830, 1, 4, 0x0, [⟨0, 32, .ro, none, false⟩]⟩]

/-- The registers of block GUARD. -/
def rowsGuard : List RegRow :=
  [⟨0x4C00, 1, 4, 0x2, [⟨1, 1, .rw, none, false⟩, ⟨0, 1, .rw, none, false⟩]⟩,
   ⟨0x4C04, 1, 4, 0x3E832000, [⟨22, 10, .rw, some (25, 1000), false⟩, ⟨12, 10, .rw, some (10, 1000), false⟩, ⟨3, 1, .rw, none, false⟩, ⟨0, 3, .rw, none, false⟩]⟩,
   ⟨0x4C08, 1, 4, 0x1F4, [⟨0, 12, .rw, some (50, 2500), false⟩]⟩,
   ⟨0x4C0C, 1, 4, 0x0, [⟨16, 7, .ro, none, false⟩, ⟨8, 7, .ro, none, false⟩, ⟨7, 1, .ro, none, false⟩, ⟨6, 1, .ro, none, false⟩, ⟨5, 1, .ro, none, false⟩, ⟨4, 1, .w1c, none, false⟩, ⟨3, 1, .w1c, none, false⟩, ⟨2, 1, .w1c, none, false⟩, ⟨0, 1, .ro, none, false⟩]⟩,
   ⟨0x4C10, 1, 4, 0x0, [⟨7, 1, .ro, none, false⟩, ⟨0, 7, .ro, none, false⟩]⟩,
   ⟨0x4C14, 1, 4, 0x0, [⟨0, 32, .ro, none, false⟩]⟩,
   ⟨0x4C40, 1, 4, 0x0, [⟨0, 32, .ro, none, false⟩]⟩,
   ⟨0x4C44, 1, 4, 0x0, [⟨0, 32, .ro, none, false⟩]⟩,
   ⟨0x4C48, 1, 4, 0x0, [⟨0, 32, .ro, none, false⟩]⟩,
   ⟨0x4C4C, 1, 4, 0x0, [⟨0, 32, .ro, none, false⟩]⟩,
   ⟨0x4C50, 1, 4, 0x0, [⟨0, 32, .ro, none, false⟩]⟩,
   ⟨0x4C54, 1, 4, 0x0, [⟨0, 32, .ro, none, false⟩]⟩,
   ⟨0x4E00, 128, 4, 0x0, [⟨4, 8, .ro, none, false⟩, ⟨0, 1, .ro, none, false⟩]⟩]

/-- The registers of block PUMP. -/
def rowsPump : List RegRow :=
  [⟨0x5000, 1, 4, 0x2, [⟨2, 1, .rw, none, false⟩, ⟨1, 1, .rw, none, false⟩, ⟨0, 1, .rw, none, false⟩]⟩,
   ⟨0x5004, 1, 4, 0x0, [⟨16, 1, .w1c, none, false⟩, ⟨15, 1, .ro, none, false⟩, ⟨14, 1, .ro, none, false⟩, ⟨13, 1, .ro, none, false⟩, ⟨12, 1, .ro, none, false⟩, ⟨11, 1, .ro, none, false⟩, ⟨8, 3, .ro, none, false⟩, ⟨4, 4, .ro, none, false⟩, ⟨0, 4, .ro, none, false⟩]⟩,
   ⟨0x5008, 1, 4, 0x0, [⟨16, 16, .ro, none, false⟩, ⟨2, 1, .ro, none, false⟩, ⟨0, 2, .ro, none, false⟩]⟩,
   ⟨0x500C, 1, 4, 0x0, [⟨16, 16, .ro, none, false⟩, ⟨0, 16, .ro, none, false⟩]⟩,
   ⟨0x5014, 1, 4, 0x0, [⟨10, 2, .rw, none, false⟩, ⟨8, 2, .rw, none, false⟩, ⟨6, 2, .rw, none, false⟩, ⟨4, 2, .rw, none, false⟩, ⟨2, 2, .rw, none, false⟩, ⟨0, 2, .rw, none, false⟩]⟩,
   ⟨0x5018, 1, 4, 0x0, [⟨16, 16, .ro, none, false⟩, ⟨8, 4, .ro, none, false⟩]⟩,
   ⟨0x501C, 1, 4, 0x0, [⟨16, 16, .ro, none, false⟩, ⟨0, 16, .ro, none, false⟩]⟩,
   ⟨0x5020, 1, 4, 0x61A8, [⟨0, 16, .rw, some (500, 65535), false⟩]⟩,
   ⟨0x5024, 1, 4, 0x61A8, [⟨0, 16, .rw, some (500, 65535), false⟩]⟩,
   ⟨0x5028, 1, 4, 0x0, [⟨0, 1, .wo, none, false⟩]⟩,
   ⟨0x5030, 1, 4, 0x0, [⟨0, 16, .rw, none, false⟩]⟩,
   ⟨0x5034, 1, 4, 0x0, [⟨0, 16, .rw, none, false⟩]⟩,
   ⟨0x5038, 1, 4, 0x0, [⟨0, 16, .rw, none, false⟩]⟩,
   ⟨0x503C, 1, 4, 0x61A8, [⟨0, 16, .rw, none, false⟩]⟩,
   ⟨0x5040, 4, 4, 0x0, [⟨0, 16, .rw, none, false⟩]⟩,
   ⟨0x5050, 4, 4, 0x0, [⟨8, 8, .rw, none, false⟩, ⟨3, 1, .rw, none, false⟩, ⟨2, 1, .rw, none, false⟩, ⟨1, 1, .rw, none, false⟩, ⟨0, 1, .rw, none, false⟩]⟩,
   ⟨0x5080, 1, 4, 0x0, [⟨0, 32, .ro, none, false⟩]⟩,
   ⟨0x5084, 1, 4, 0x0, [⟨0, 32, .ro, none, false⟩]⟩,
   ⟨0x5088, 1, 4, 0x0, [⟨0, 32, .ro, none, false⟩]⟩,
   ⟨0x508C, 1, 4, 0x0, [⟨0, 32, .ro, none, false⟩]⟩,
   ⟨0x5090, 1, 4, 0x0, [⟨0, 32, .ro, none, false⟩]⟩,
   ⟨0x5094, 1, 4, 0x0, [⟨0, 32, .ro, none, false⟩]⟩]

/-- The registers of block GHOST. -/
def rowsGhost : List RegRow :=
  [⟨0x5400, 1, 4, 0x8010012C, [⟨31, 1, .rw, none, false⟩, ⟨22, 2, .rw, some (0, 2), false⟩, ⟨20, 2, .rw, none, false⟩, ⟨0, 9, .rw, some (220, 500), false⟩]⟩,
   ⟨0x5404, 1, 4, 0x4000, [⟨15, 1, .w1c, none, false⟩, ⟨14, 1, .w1c, none, false⟩, ⟨13, 1, .ro, none, false⟩, ⟨12, 1, .ro, none, false⟩, ⟨11, 1, .ro, none, false⟩, ⟨10, 1, .ro, none, false⟩, ⟨9, 1, .ro, none, false⟩, ⟨8, 1, .ro, none, false⟩, ⟨6, 2, .ro, none, false⟩, ⟨4, 2, .w1c, none, false⟩, ⟨0, 3, .ro, none, false⟩]⟩,
   ⟨0x5408, 1, 4, 0x0, [⟨16, 16, .ro, none, false⟩, ⟨0, 16, .ro, none, false⟩]⟩,
   ⟨0x540C, 1, 4, 0xFA, [⟨0, 16, .ro, none, false⟩]⟩,
   ⟨0x5410, 1, 4, 0x0, [⟨16, 3, .ro, none, false⟩, ⟨0, 8, .ro, none, false⟩]⟩,
   ⟨0x5420, 1, 4, 0x0, [⟨0, 32, .ro, none, false⟩]⟩,
   ⟨0x5424, 1, 4, 0x0, [⟨0, 32, .ro, none, false⟩]⟩,
   ⟨0x5428, 1, 4, 0x0, [⟨0, 32, .ro, none, false⟩]⟩,
   ⟨0x542C, 1, 4, 0x0, [⟨0, 32, .ro, none, false⟩]⟩,
   ⟨0x5430, 1, 4, 0x0, [⟨0, 32, .ro, none, false⟩]⟩,
   ⟨0x5440, 2, 4, 0x0, [⟨0, 32, .ro, none, false⟩]⟩,
   ⟨0x5480, 1, 4, 0x0, [⟨0, 32, .ro, none, false⟩]⟩,
   ⟨0x5484, 1, 4, 0x0, [⟨0, 32, .ro, none, false⟩]⟩,
   ⟨0x5488, 1, 4, 0x0, [⟨0, 32, .ro, none, false⟩]⟩,
   ⟨0x5500, 64, 4, 0x0, [⟨0, 32, .ro, none, false⟩]⟩]

/-- The registers of block SCRUB. -/
def rowsScrub : List RegRow :=
  [⟨0x5800, 1, 4, 0x1, [⟨1, 1, .rw, none, false⟩, ⟨0, 1, .rw, none, false⟩]⟩,
   ⟨0x5804, 1, 4, 0x0, [⟨5, 1, .w1c, none, false⟩, ⟨4, 1, .w1c, none, false⟩, ⟨3, 1, .w1c, none, false⟩, ⟨2, 1, .ro, none, false⟩, ⟨1, 1, .ro, none, false⟩, ⟨0, 1, .ro, none, false⟩]⟩,
   ⟨0x5808, 1, 4, 0x1000A, [⟨16, 8, .rw, some (1, 255), false⟩, ⟨0, 12, .rw, some (1, 3600), false⟩]⟩,
   ⟨0x580C, 1, 4, 0x0, [⟨0, 32, .ro, none, false⟩]⟩,
   ⟨0x5810, 1, 4, 0x0, [⟨28, 4, .ro, none, false⟩, ⟨0, 18, .ro, none, false⟩]⟩,
   ⟨0x5814, 1, 4, 0x0, [⟨28, 4, .ro, none, false⟩, ⟨0, 18, .ro, none, false⟩]⟩,
   ⟨0x5818, 1, 4, 0x0, [⟨0, 16, .w1c, none, false⟩]⟩,
   ⟨0x5840, 1, 4, 0x0, [⟨0, 7, .rw, none, false⟩]⟩,
   ⟨0x5844, 1, 4, 0x0, [⟨0, 32, .ro, none, false⟩]⟩,
   ⟨0x5848, 1, 4, 0x0, [⟨0, 32, .ro, none, false⟩]⟩,
   ⟨0x584C, 1, 4, 0x0, [⟨0, 32, .ro, none, false⟩]⟩,
   ⟨0x5850, 1, 4, 0x0, [⟨0, 32, .ro, none, false⟩]⟩,
   ⟨0x5854, 1, 4, 0x0, [⟨0, 32, .ro, none, false⟩]⟩,
   ⟨0x5858, 1, 4, 0x0, [⟨0, 32, .ro, none, false⟩]⟩,
   ⟨0x585C, 1, 4, 0x0, [⟨0, 32, .ro, none, false⟩]⟩,
   ⟨0x5880, 1, 4, 0x0, [⟨0, 32, .ro, none, false⟩]⟩,
   ⟨0x5884, 1, 4, 0x0, [⟨0, 32, .ro, none, false⟩]⟩,
   ⟨0x5888, 1, 4, 0x0, [⟨0, 32, .ro, none, false⟩]⟩,
   ⟨0x588C, 1, 4, 0x0, [⟨0, 32, .ro, none, false⟩]⟩,
   ⟨0x5890, 1, 4, 0x0, [⟨0, 32, .ro, none, false⟩]⟩,
   ⟨0x5898, 1, 4, 0x0, [⟨0, 32, .ro, none, false⟩]⟩,
   ⟨0x58A0, 1, 4, 0x0, [⟨0, 32, .ro, none, false⟩]⟩,
   ⟨0x58A4, 1, 4, 0x0, [⟨0, 32, .ro, none, false⟩]⟩,
   ⟨0x58A8, 1, 4, 0x0, [⟨0, 32, .ro, none, false⟩]⟩]

/-- A block of BAR0: its address range (R687) and its registers. -/
structure BlockRow where
  lo : Nat
  hi : Nat
  rows : List RegRow
deriving DecidableEq, Repr

/-- The twenty blocks of BAR0 in address order (R687). -/
def blockTable : List BlockRow :=
  [⟨0x0000, 0x03FF, rowsLegend⟩,
   ⟨0x0400, 0x07FF, rowsHost⟩,
   ⟨0x0800, 0x0BFF, rowsIrq⟩,
   ⟨0x0C00, 0x0FFF, rowsEvent⟩,
   ⟨0x1000, 0x13FF, rowsClock⟩,
   ⟨0x1400, 0x17FF, rowsPower⟩,
   ⟨0x1800, 0x1FFF, rowsDatum⟩,
   ⟨0x2000, 0x23FF, rowsConv⟩,
   ⟨0x2400, 0x27FF, rowsComp⟩,
   ⟨0x2800, 0x2FFF, rowsWing⟩,
   ⟨0x3000, 0x33FF, rowsCur⟩,
   ⟨0x3400, 0x37FF, rowsCast⟩,
   ⟨0x3800, 0x3BFF, rowsCellpwr⟩,
   ⟨0x3C00, 0x3FFF, rowsGrid⟩,
   ⟨0x4000, 0x47FF, rowsMeter⟩,
   ⟨0x4800, 0x4BFF, rowsCurtain⟩,
   ⟨0x4C00, 0x4FFF, rowsGuard⟩,
   ⟨0x5000, 0x53FF, rowsPump⟩,
   ⟨0x5400, 0x57FF, rowsGhost⟩,
   ⟨0x5800, 0x5BFF, rowsScrub⟩]

/-- The block whose range holds an address (R687). -/
def blockOf (a : Nat) : Option BlockRow :=
  blockTable.find? fun b => b.lo ≤ a && a ≤ b.hi

/-- The table row of the register at an address; an address without one is reserved (R688). -/
def regRow (a : Nat) : Option RegRow :=
  match blockOf a with
  | none => none
  | some b => b.rows.find? fun r => r.covers a

/-- The reset value of the register at an address (R6, R689); 0 at a reserved address (R688). -/
def resetVal (a : Nat) : Word :=
  match regRow a with
  | none => 0
  | some r => BitVec.ofNat 32 r.reset

end Sys2Proof.Machine
end

