-- ==== Sys2Proof/Machine/State.lean ====
section
/-! DEFINITION. Sys2Proof/Machine/State.lean: the state of the block, plain data, with everything the spec gives the machine: the
register file, the blocks' own state, the table memories, what has gone out, and the queue of waiting commands. -/

namespace Sys2Proof.Machine

/-- A sparse map from small numbers to values: entries in rising order of key, none of them equal to what an absent key
reads as (the map's default, given where the map is read). Plain data; see Sparse.get and Sparse.set in Machine/Ops.lean. -/
abbrev SMap (α : Type) := List (Nat × α)

/-- One dword or more that the device has written to host memory (spec/13 R540, R555): address and bytes, in the
order of issue. The list is the block's output. -/
structure HostWrite where
  addr : Nat
  bytes : List Byte
deriving DecidableEq, Repr

/-- An entry formed for one of the rings 1 to 5 and not yet written to host memory (spec/13 R537, R540). -/
structure StagedEntry where
  ring : Nat
  /-- the bytes of the entry, phase bit 0 -/
  body : List Byte
  /-- an event's stamp (ring 2) or a completion's DONE_TIME (ring 1) -/
  stamp : Nat
  late : Bool
  /-- ring 1: the descriptor completed, for CMD_DONE (R552) and the trace (R570) -/
  cmd : Option Desc
  status : Nat
deriving DecidableEq, Repr

/-- A descriptor read in flight (spec/13 R545, R546, R567): first index, number of descriptors, already retried. -/
structure DescRead where
  idx : Nat
  count : Nat
  retried : Bool
deriving DecidableEq, Repr

/-- A payload read in flight (spec/13 R531, R558, R567): its blocks of 128 bytes that have been retried. -/
structure PayRead where
  desc : Desc
  retried : List Nat
deriving DecidableEq, Repr

/-- A host write that arrived in tableau and waits for its end (spec/13 R569). -/
inductive HeldWrite where
  | bar0 (addr : Nat) (data : Word)
  | doorbell (ring : Nat) (value : Nat)
deriving DecidableEq, Repr

/-- The working copy and the stored copy of one table and the CRC-32 recorded at its load (spec/13 R561). A byte that
is not listed holds what the table holds after a reset (R37, R624). -/
structure TableMem where
  work : SMap Byte := []
  stored : SMap Byte := []
  crc : Word := 0
deriving DecidableEq, Repr

/-- What a finished comparator test, scrub sweep or seal still owes a SELFTEST command (spec/13 R565). -/
structure SelfTests where
  comp : Option Desc := none
  sealKat : List Desc := []
  sweep : List Desc := []
deriving DecidableEq, Repr

/-- The host interface (spec/13): outstanding reads, descriptors by stage, staged ring entries, output. -/
structure HostIf where
  reads : List DescRead := []
  payloads : List PayRead := []
  /-- fetched, waiting for their checks or a fence, in ring order -/
  fetched : List Desc := []
  /-- the timed queue (at most 64) -/
  timed : List Desc := []
  /-- dispatched, effect or completion outstanding -/
  dispatched : List Desc := []
  staged : List StagedEntry := []
  writes : List HostWrite := []
  /-- payload writes that wait for Bus Master Enable (R535), oldest first -/
  outbox : List HostWrite := []
  d3hot : Bool := false
  held : List HeldWrite := []
  /-- rings into which an entry has been written since they were last found full (RING_FULL, R573) -/
  fullArmed : List Nat := []
  /-- a trace entry has been written since the last drop (R571) -/
  traceArmed : Bool := false
  tests : SelfTests := {}
  /-- commands whose owner abandoned them at tableau entry: ABORTED with this DETAIL when tableau ends -/
  tabAborts : List (Desc × Nat) := []
deriving DecidableEq, Repr

/-- State of one vector (spec/14 R586). -/
inductive VecPhase where
  | idle | gather | due | sending | inService
deriving DecidableEq, Repr

/-- One vector: its state and the instant its holdoff timer started (elapsed ns). -/
structure Vec where
  phase : VecPhase := .idle
  start : Nat := 0
deriving DecidableEq, Repr

/-- A committed message not yet issued: the vector, the causes it took source by source, the commit instant (elapsed
ns) (spec/14 R587 to R589). -/
structure Commit where
  vec : Nat
  taken : List (Nat × Nat)
  time : Nat
deriving DecidableEq, Repr

/-- A source mask write and its instant (elapsed ns): the sources it newly masked (spec/14 R588). -/
structure MaskWrite where
  time : Nat
  sources : List Nat
deriving DecidableEq, Repr

/-- A message issued to the link: vector, message number or table entry, and for MSI-X the entry's address and data. -/
structure Message where
  vec : Nat
  number : Nat
  addr : Nat
  data : Nat
deriving DecidableEq, Repr

/-- One sink's window and count (spec/14 R594). -/
structure Sink where
  /-- start stamp of the open window -/
  window : Option Nat := none
  seen : List Nat := []
  count : Nat := 0
deriving DecidableEq, Repr

/-- An EVIO pin (spec/02 R98): not driven (Off, or an event input), or driven low or high. -/
inductive EvioLevel where
  | highZ | input | low | high
deriving DecidableEq, Repr

/-- The event router and the interrupt controller (spec/02 R64 to R71, R718; spec/14). -/
structure Router where
  /-- raised, not yet at the router -/
  inflight : List Event := []
  /-- held by the router -/
  held : List Event := []
  /-- events that arrived in tableau (at most 256) -/
  tabArrivals : Nat := 0
  /-- DATUM_HORIZON while tableau holds it (R596) -/
  frozenHorizon : Nat := 0
  /-- pending causes of each source, 0 to 255 -/
  causes : SMap Nat := []
  vecs : SMap Vec := []
  commit : Option Commit := none
  maskWrites : List MaskWrite := []
  /-- messages allocated to MSI (R584); enabling is in IRQ_STATUS -/
  msiCount : Nat := 1
  /-- the MSI-X table: address and data of each entry (R533) -/
  msixTable : SMap (Nat × Nat) := []
  /-- vectors masked by the MSI or MSI-X per-vector mask, with the instant of the write (elapsed ns) -/
  vecMask : List (Nat × Nat) := []
  /-- committed messages withheld by a per-vector mask (the pending-bit array) -/
  withheld : List Commit := []
  /-- messages issued to the link, oldest first (the block's output) -/
  messages : List Message := []
  spQueue : List Event := []
  sinks : SMap Sink := []
  /-- records dropped since the last record written -/
  dropped : Nat := 0
  /-- end of the running sink pulse per EVIO pin, elapsed ns -/
  pulseEnd : SMap (Option Nat) := []
  /-- last accepted event-input edge per EVIO pin, elapsed ns -/
  evioEdge : SMap (Option Nat) := []
  /-- level driven at the EVIO pins -/
  evioPin : SMap EvioLevel := []
  /-- end of the running PPS output pulse per EVIO pin, elapsed ns -/
  ppsEnd : SMap (Option Nat) := []
deriving DecidableEq, Repr

/-- Discipline of datum time beside its registers (spec/02 R42 to R63). -/
structure Disc where
  /-- the datum-time counter counts (R47) -/
  running : Bool := false
  lockCount : Nat := 0
  /-- consecutive accepted measurements beyond 20 ns in LOCKED (R55) -/
  bad : Nat := 0
  missRun : Nat := 0
  /-- start of the holdover timer, elapsed ns -/
  holdover : Option Nat := none
  /-- previous accepted edge, elapsed ns of its stamp (R61, R62) -/
  lastEdge : Option Nat := none
  /-- boundary whose acceptance window has had its edge (R59) -/
  accepted : Option Nat := none
  /-- boundary up to which windows have been judged (R60) -/
  judged : Nat := 0
deriving DecidableEq, Repr

/-- A message of the meridian link waiting to be sent or acknowledged (spec/02 R87 to R93). -/
structure MerMsg where
  desc : Desc
  dest : Nat
  mtype : Nat
  seq : Nat
  broadcast : Bool
  payload : List Byte
  /-- instant of the slot that carried it, elapsed ns; none: not sent -/
  sentAt : Option Nat
  retry : Bool
  failed : Bool
deriving DecidableEq, Repr

/-- An ACK owed (spec/02 R95, R96). -/
structure MerAck where
  dest : Nat
  seq : Nat
deriving DecidableEq, Repr

/-- The fields of one meridian slot (spec/02 R78); SLOT_NUM, addresses and sequence numbers as numbers. -/
structure MerSlot where
  slotNum : Nat
  src : Nat
  level : Nat
  disc : Nat
  follower : Bool
  echoValid : Bool
  tTx : Nat
  tEcho : Nat
  echoSlot : Nat
  mtype : Nat
  mlen : Nat
  dest : Nat
  seq : Nat
  broadcast : Bool
  payload : List Byte
deriving DecidableEq, Repr

/-- One character on the meridian link (spec/02 R74): the comma K28.5, or a data character. -/
inductive MerSymbol where
  | k285
  | data (b : Byte)
deriving DecidableEq, Repr

/-- The meridian link (spec/02 R74 to R97). -/
structure Meridian where
  run : Nat := 0
  /-- instant of the latest valid slot, elapsed ns -/
  lastValid : Option Nat := none
  /-- own slots still held: SLOT_NUM and T_TX -/
  sent : List (Nat × Nat) := []
  /-- latest valid peer slot: receive stamp and SLOT_NUM, for the echo -/
  peer : Option (Nat × Nat) := none
  outstanding : List MerMsg := []
  acks : List MerAck := []
  nextSeq : Nat := 0
  recent : List (Nat × Nat) := []
  announceDue : Bool := false
  signatureDue : Bool := false
  /-- the boundary (datum time) whose slot was sent last -/
  lastSlot : Option Nat := none
  /-- slots sent, oldest first: the 1 000 symbols of each (the link's output) -/
  out : List (List MerSymbol) := []
deriving DecidableEq, Repr

/-- What becomes of the result of a conversion in flight (spec/03 R128, R130). -/
inductive Use where
  /-- delivered to the consumers -/
  | deliver
  /-- an understudy's shadow sample, compared and not delivered -/
  | shadow
  /-- the swap sample of a handover: delivered, and it completes the handover -/
  | swap
deriving DecidableEq, Repr

/-- A conversion whose result is awaited (spec/03 R107, R111, R123). `part` is none for an urgent conversion. -/
structure Conversion where
  slice : Nat
  part : Option Nat
  input : Nat
  stamp : Nat
  /-- elapsed ns at the sample instant -/
  heldAt : Nat
  refBad : Bool
  stale : Bool
  use : Use
deriving DecidableEq, Repr

/-- A group's handover (spec/03 R125 to R136, R142). -/
structure Handover where
  /-- part for the next handover -/
  part : Nat := 0
  /-- a first failure waits for its retry (R131) -/
  failed : Bool := false
  /-- end of the previous attempt, elapsed ns -/
  endAt : Nat := 0
  /-- results of the part awaiting their partner: stamp, from the understudy, value (none: CLIP or MISSING) -/
  waiting : List (Nat × Bool × Option Int) := []
  pairs : Nat := 0
  sum : Int := 0
  peak : Nat := 0
  /-- start of OVERLAP, elapsed ns, and the time spent on urgent conversions since -/
  start : Nat := 0
  suspended : Nat := 0
  /-- the urgent request the understudy serves: its acceptance (elapsed ns), and who asked (comparator, 32 for the host) -/
  urgent : Option (Nat × Nat) := none
  /-- first ladder conversion (elapsed ns) and rounds of CAL that urgent requests have taken (R127, R143) -/
  ladder : Nat := 0
  lost : Nat := 0
  /-- the understudy samples the part from the swap instant on -/
  swapping : Bool := false
  swapDone : Bool := false
deriving DecidableEq, Repr

/-- A slot write that waits for its round boundary: the value until then and the boundary (datum time); none while a swap of its group is
completed first (spec/03 R114, R135). -/
structure SlotWait where
  old : Word
  until_ : Option Nat
deriving DecidableEq, Repr

/-- A comparator self-test in progress (spec/03 R154 to R157). -/
structure CompTest where
  sel : Word
  mode : Nat
  before : Word
  start : Nat
  /-- the outputs have been read and the inputs restored (elapsed ns) -/
  read : Option Nat := none
deriving DecidableEq, Repr

/-- The latest results of one input: MISSING and CLIP of the latest result (R124), the latest value and when it was sampled. -/
structure InputLast where
  missing : Bool := false
  clip : Bool := false
  /-- elapsed ns of the latest non-missing sample -/
  at_ : Option Nat := none
deriving DecidableEq, Repr

/-- Conversion slices and comparators (spec/03). -/
structure Conv where
  inflight : List Conversion := []
  /-- previous hold of each slice, elapsed ns -/
  lastHold : SMap (Option Nat) := []
  /-- end of each slice's latest passing calibration, elapsed ns (R134) -/
  calAt : SMap Nat := []
  /-- calibration set of each slice as last fitted: offset, gain, 12 bit weights; not listed: the factory's (R127, R134) -/
  cals : SMap (List Int) := []
  hands : SMap Handover := []
  slotWait : SMap (Option SlotWait) := []
  /-- the value of CONV_CTRL.RUN until a round boundary (datum time) (R116) -/
  runWait : Option (Bool × Nat) := none
  refOut : Nat := 0
  refIn : Nat := 0
  inputs : SMap InputLast := []
  test : Option CompTest := none
  /-- COMP_CFGk before a write, until the next tick (elapsed ns) (R151) -/
  compWait : SMap (Option (Word × Nat)) := []
  /-- when a comparator's filter began to be refilled (elapsed ns) (R151) -/
  compFill : SMap (Option Nat) := []
deriving DecidableEq, Repr

/-- A commanded change of a cell's legs (spec/04 R175 to R178): its act time, LEG_A and LEG_B as the high nibble of a cue
before the exchange of R19, the frame k that first carried it, and whether a verdict has accepted it. -/
structure Change where
  time : Nat
  legs : Nat
  placed : Option Nat := none
  acked : Bool := false
deriving DecidableEq, Repr

/-- On whose behalf a station order travels (spec/04 R180). -/
inductive Owner where
  | bypass (close : Bool)
  | dump (on : Bool)
  | train
  | delay
  | resume
  | host (d : Desc)
deriving DecidableEq, Repr

/-- A station order in transport (spec/04 R179, R194): its codes, one per frame; the next to send; those whose verdict is awaited
(frame number k and index); the index being sent a second time; the act base of the frame that carried the last code. -/
structure Order where
  owner : Owner
  codes : List Nat
  next : Nat := 0
  flying : List (Nat × Nat) := []
  second : Option Nat := none
  base : Nat := 0
deriving DecidableEq, Repr

/-- What the wing loop keeps of one cell: commanded changes in order, orders in transport, the open cue instance (R193), a snapshot
in progress (act base, first reporting frame, R187), and the latest telemetry. -/
structure CellTx where
  hist : List Change := []
  orders : List Order := []
  failed : Bool := false
  snap : Option (Nat × Nat) := none
  items : SMap (Option Nat) := []
  overV : Bool := false
  underV : Bool := false
  hotT : Bool := false
  fault : Bool := false
  safe : Bool := false
  stamp : Nat := 0
deriving DecidableEq, Repr

/-- One frame (spec/04 R173): loop, number k, FN, BASE, hold comma, cue and order of each slot; or in its place a COUNT set, or nothing
(R204); the phase of training in which it was frozen, and when its comma left (elapsed ns). -/
structure Frame where
  loop : Nat
  k : Nat
  fn : Nat
  base : Nat
  hold : Bool
  cues : List Nat
  orders : List Nat
  count : Bool := false
  idle : Bool := false
  phase : Nat := 0
  start : Nat := 0
deriving DecidableEq, Repr

/-- What a loop's transmitter has sent: the characters of a frame after its comma (up to a halt that cuts it short), a HALT set, a COUNT set (spec/04 R166, R173, R197). -/
inductive WireItem where
  | frame (loop : Nat) (hold : Bool) (bytes : List Byte)
  | halt (loop : Nat)
  | count (loop : Nat)
deriving DecidableEq, Repr

/-- Training of one loop (spec/04 R204): phase, its start (elapsed ns), frames sent in it, run of valid frames, sum of their
latencies, COUNT sets sent and returned, latest act base of a WRITE (elapsed ns), the reading back of phase 5 or 6 has begun. -/
structure Train where
  phase : Nat := 1
  start : Nat := 0
  frames : Nat := 0
  run : Nat := 0
  sum : Nat := 0
  counts : List Nat := []
  armAt : Nat := 0
  asked : Bool := false
deriving DecidableEq, Repr

/-- One wing loop: frames awaiting their return, the previous returned frame not valid (R195), consecutive frames with too short a
lead (R211), the latest latencies, L at training, LOOP_DRIFT raised, act base of a RESUME under way, frames since training,
training, and the register replies of its stations (cell times 32 plus register). -/
structure Loop where
  sent : List Frame := []
  bad : Bool := false
  short : Nat := 0
  lats : List Nat := []
  l0 : Nat := 0
  drift : Bool := false
  resumeAt : Option Nat := none
  resumeDue : Bool := false
  frames : Nat := 0
  train : Option Train := none
  replies : SMap Nat := []
deriving DecidableEq, Repr

/-- The wing loops (spec/04). -/
structure Wing where
  /-- frames frozen for the next start -/
  frozen : List Frame := []
  /-- the latest frame start, elapsed ns -/
  lastStart : Option Nat := none
  cells : SMap CellTx := []
  loops : SMap Loop := []
  /-- everything sent, oldest first (the transmitters' output) -/
  wire : List WireItem := []
deriving DecidableEq, Repr


/-- A generalised integrator (spec/05 R227): in-phase and quadrature component in V. -/
structure Sogi where
  d : Rat := 0
  q : Rat := 0
deriving DecidableEq, Repr

/-- The bearing estimator (spec/05 R226 to R231): angles in turns at the latest update, frequency in mHz, sequence magnitudes in pu,
angle residual in turns, start of the lock condition and of COAST (elapsed ns), MISSING runs, the phases' integrators, the results of this
set (phase, V; none: MISSING). -/
structure Bear where
  theta : Rat := 0
  thetaN : Rat := 0
  freq : Nat := 0
  stamp : Nat := 0
  vpos : Rat := 0
  vneg : Rat := 0
  residual : Rat := 0
  lockSince : Option Nat := none
  coastSince : Option Nat := none
  missing : SMap Nat := []
  sogi : SMap Sogi := []
  seen : List (Nat × Option Rat) := []
deriving DecidableEq, Repr

/-- Evaluation of one contour table (spec/05 R247): ticks at which the disturbance and each trip point's condition began, region
and cause. -/
structure Contour where
  dist : Option Nat := none
  since : SMap (Option Nat) := []
  region : Nat := 0
  cause : Option Nat := none
deriving DecidableEq, Repr

/-- Peak currents of reference synthesis in A: active, reactive, negative-sequence, and the signature's peak (spec/05 R238 to R241). -/
structure Amps where
  p : Rat := 0
  q : Rat := 0
  n : Rat := 0
  sig : Rat := 0
deriving DecidableEq, Repr

/-- The return of current after a cessation (spec/05 R251), with the tick at which the part began. -/
inductive Restore where
  | none
  | hold (start : Nat)
  | ramp (start : Nat)
deriving DecidableEq, Repr

/-- Parameters of the signature (spec/05 R254, R257). -/
structure SigParam where
  seed : Nat := 0
  toneA : Nat := 0
  toneB : Nat := 0
deriving DecidableEq, Repr

/-- One phase's demodulation sums at one tone over a chip: voltage and current, real and imaginary part (spec/05 R261). -/
structure Demod where
  vr : Rat := 0
  vi : Rat := 0
  ir : Rat := 0
  ii : Rat := 0
  nv : Nat := 0
  ni : Nat := 0
deriving DecidableEq, Repr

/-- One chip of the islanding run: its sign, the phasors by phase and tone, and z (spec/05 R261). -/
structure Chip where
  sign : Int
  phasors : List (Nat × Demod)
  z : Rat
deriving DecidableEq, Repr

/-- Bearing, references, contours and islanding (spec/05). -/
structure Grid where
  bear : Bear := {}
  /-- evaluation ticks made, and the instant of the next (elapsed ns) -/
  ticks : Nat := 0
  nextTick : Nat := 100000
  fHist : List Nat := []
  vHist : List Rat := []
  rHist : List Rat := []
  pSet : Int := 0
  qSet : Int := 0
  qSrc : Bool := false
  /-- POWER_SET commands whose values have not entered reference synthesis (R233) -/
  setWait : List Desc := []
  pRef : Rat := 0
  qRef : Rat := 0
  amps : Amps := {}
  cv : Contour := {}
  cf : Contour := {}
  /-- amplitudes and V_pre frozen at the start of a disturbance -/
  frozen : Option (Amps × Rat) := none
  restore : Restore := .none
  pPre : Option Rat := none
  /-- latest instant at which a passive check held (elapsed ns) -/
  suspectAt : Nat := 0
  /-- a follower's parameters in use, and those of the latest message with their APPLY_AT -/
  own : SigParam := {}
  next : Option (SigParam × Nat) := none
  /-- the parameters of the device's own table in use, and those of a newly loaded table with its APPLY_AT -/
  tabSig : SigParam := {}
  tabNext : Option (SigParam × Nat) := none
  sigRx : Bool := false
  /-- datum time of the latest SIGNATURE message -/
  sigSeen : Option Nat := none
  injecting : Bool := false
  chipWhole : Bool := false
  missPhase : List Nat := []
  demod : SMap Demod := []
  run : List Chip := []
  /-- tick since which the levels have been inside the enter windows -/
  enterSince : Option Nat := none
  /-- references stay 0 after tableau until the bearing is LOCKED (R268) -/
  waitLock : Bool := false
deriving DecidableEq, Repr


/-- A fast request waiting for its decision (spec/06 R289, R291): comparator input, stamp, calibrated threshold, acceptance
tick (datum time). -/
structure FastReq where
  input : Nat
  tc : Nat
  value : Int
  tf : Nat
deriving DecidableEq, Repr

/-- What the latest outer-loop step of a phase started from (spec/06 R277 to R280): its stamp, T_g in s, the latest ICx current in A,
the integrator, whether it was held, and the notch's history. A fast decision takes the step again with IGx replaced (R289). -/
structure OuterPast where
  hg : Nat
  tg : Rat
  ic : Rat
  integ : Rat
  held : Bool
  w1 : Rat
  w2 : Rat
  y1 : Rat
  y2 : Rat
deriving DecidableEq, Repr

/-- The current engine of one phase (spec/06 R277 to R294): integrator, limited and damped references, notch history, the latest
step's start, latest results as stamp and converted value (VGx with its arrival in elapsed ns, R283), MISSING runs, act time of the latest decision, waiting fast request,
following-error timer, counts of the band window. -/
structure Eng where
  integ : Rat := 0
  u : Rat := 0
  d : Rat := 0
  w1 : Rat := 0
  w2 : Rat := 0
  y1 : Rat := 0
  y2 : Rat := 0
  past : Option OuterPast := none
  ics : List (Nat × Rat) := []
  vg : Option (Nat × Rat × Nat) := none
  base : Option (Nat × Rat) := none
  missIc : Nat := 0
  missIg : Nat := 0
  lastTa : Option Nat := none
  fast : Option FastReq := none
  fe : Option Nat := none
  feExpired : Bool := false
  feHold : Bool := false
  granted : Nat := 0
  satWin : Bool := false
  inside : Bool := false
deriving DecidableEq, Repr

/-- The current engine beside its registers (spec/06). -/
structure Engine where
  phases : SMap Eng := []
  /-- entry to ENGAGED: elapsed ns and datum time -/
  engaged : Option (Nat × Nat) := none
  /-- amplitudes kept at the ramp request, and its instant (datum time, elapsed ns) -/
  keep : Amps := {}
  rampAt : Option (Nat × Nat) := none
  rampZero : Bool := false
  zeroSince : Option Nat := none
  cessAt : Option Nat := none
  winStart : Nat := 0
  winBad : Bool := true
  /-- CUR_BAND_CFG as it stood before a write, until the window's end (R309) -/
  bandWait : Option Word := none
  vn : Rat := 0
  vnStamp : Option Nat := none
  wasEngaged : Bool := false
  /-- FILTERS as it stood before a load, until the round boundary (datum time) (R305) -/
  filtWait : Option (SMap Byte × Nat) := none
deriving DecidableEq, Repr


/-- A bypass order whose feedback is awaited (spec/07 R332): the commanded position and the start of BYP_TIME (elapsed ns),
none while the order waits to travel. -/
structure BypassCheck where
  close : Bool
  start : Option Nat
  /-- casting gave the order itself; R330 leaves that of causes 1 and 2 to the wing loop -/
  own : Bool := true
deriving DecidableEq, Repr

/-- Run-time state of one cell beside CAST_CELLk (spec/07 R311 to R335); instants are elapsed ns. -/
structure CastCell where
  hotSince : Option Nat := none
  uvSince : Option Nat := none
  leaveSince : Option Nat := none
  /-- the cause of the orderly removal in progress -/
  leaveCause : Nat := 0
  ov : Nat := 0
  preStart : Option Nat := none
  /-- precharge time spent before the timer was held -/
  preSpent : Nat := 0
  check : Option BypassCheck := none
  /-- latest bypass feedback: closed -/
  closed : Bool := true
  starvedAt : Option Nat := none
  /-- in OUT: closure confirmed, or BYP_TIME elapsed (R316) -/
  gone : Bool := true
deriving DecidableEq, Repr

/-- Casting of one phase (spec/07 R318, R324): deficit timer (start, count) and the reference of the restore timer, both in elapsed ns, the latest
predicted current. -/
structure CastPhase where
  deficit : Option (Nat × Nat) := none
  restoreRef : Nat := 0
  iHat : Rat := 0
deriving DecidableEq, Repr

/-- A request of the current engine in hand (spec/07 R322), with what its trace entry shows (spec/13 R570). -/
structure Request where
  phase : Nat
  ta : Nat
  k : Int
  iHat : Rat
  err : Int := 0
  band : Nat := 0
  stamp : Nat := 0
  /-- instant of the decision, elapsed ns -/
  at_ : Nat := 0
deriving DecidableEq, Repr

/-- Casting beside its registers (spec/07). -/
structure Cast where
  cells : SMap CastCell := []
  phases : SMap CastPhase := []
  requests : List Request := []
  /-- requests served, which dates starvation -/
  served : Nat := 0
  /-- phase that goes first among equal act times (R337), and the act time of the latest request served -/
  turn : Nat := 0
  lastServed : Option Nat := none
  /-- act time of the latest request of phase A (R326) -/
  zsLast : Nat := 0
  zsMissed : Bool := false
  /-- act time of the opportunity being formed -/
  zsDue : Option Nat := none
  first : Bool := false
  cool : List Int := []
  coolBad : Nat := 0
  coolGood : Nat := 0
deriving DecidableEq, Repr


/-- Per-cell power of one cell beside CELLPWR_CELLk (spec/08): the tracker (voltages in 50 mV, steps in 0.5 V), its due excursion
(true: a scan; since when), readings, battery integrator, bounds and plan in W, dump switch. Instants are elapsed ns. -/
structure PwrCell where
  v : Nat := 0
  step : Nat := 0
  dir : Int := -1
  pLast : Rat := 0
  hist : List (Rat × Nat) := []
  pMpp : Rat := 0
  vMpp : Nat := 0
  saved : Nat := 0
  lastStep : Nat := 0
  readings : List Rat := []
  scan : List (Rat × Nat) := []
  probe : Nat := 0
  due : Option (Bool × Nat) := none
  scanBase : Option Nat := none
  probeBase : Option Nat := none
  ppv : Option Rat := none
  pbr : Option Rat := none
  integ : Rat := 0
  hi : Rat := 0
  lo : Rat := 0
  plan : Rat := 0
  vref : Rat := 0
  onSince : Option Nat := none
  onTotal : Nat := 0
  /-- dump order awaiting its item-2 report: on, and the act base -/
  order : Option (Bool × Nat) := none
  stuckRun : Nat := 0
  lastResend : Nat := 0
deriving DecidableEq, Repr

/-- Per-cell power beside its registers (spec/08). -/
structure CellPwr where
  cells : SMap PwrCell := []
  /-- amplitude in V and angle in turns of the zero-sequence demand, mean VDC in V, and γ in turns (R360) -/
  z0 : Rat := 0
  alpha : Rat := 0
  vMean : Rat := 0
  gamma : Rat := 0
  /-- instant at which the region became CONTINUOUS again (elapsed ns) -/
  contSince : Option Nat := none
  curt : Rat := 0
  pDem : Rat := 0
  /-- MPPT_PARAM as it stood before a load, in force until the next evaluation tick (R367) -/
  mpWait : Option (SMap Byte) := none
deriving DecidableEq, Repr


/-- A demand sub-period (spec/09 R401): its bounds in datum time, accumulator 24 at its end once passed (2^-24 mJ), and
whether it can still be a candidate. -/
structure SubPeriod where
  start : Nat
  stop : Nat
  fin : Option Nat := none
  whole : Bool := true
deriving DecidableEq, Repr

/-- A metering interval (spec/09 R398 to R406): its bounds in datum time, its full length in ns, FLAGS and QUALITY so far, reversals,
highest demand, sub-periods not yet judged, and the total accumulators (mJ) at its end once a later sample has been metered. -/
structure MInterval where
  start : Nat
  stop : Nat
  len : Nat
  flags : Nat := 0
  quality : Nat := 0
  reversals : Nat := 0
  maxDemand : Nat := 0
  demandSub : Nat := 900
  subs : List SubPeriod := []
  /-- METER_CFG or the UTC offset changed in it: the next interval carries CFG_CHANGE too -/
  cfg : Bool := false
  totals : Option (List Nat) := none
deriving DecidableEq, Repr

/-- A record (spec/09 R404): SEQ, bytes 0 to 55, the seal (none while deferred), and whether it has been written to ring 4 or has
been counted as waiting for it. -/
structure Rec where
  seq : Nat
  body : List Byte
  mac : Option (List Byte) := none
  sent : Bool := false
  waited : Bool := false
deriving DecidableEq, Repr

/-- The metering state that retention memory keeps (spec/09 R408, R410): accumulators in 2^-24 mJ (R386), carried bases in mJ, intervals
(the open one first), DIR, chain state, pulse residues in mJ and backlogs. -/
structure MeterCore where
  acc : SMap Nat := []
  bases : SMap Nat := []
  ivals : List MInterval := []
  /-- accumulator 24 at the start of the earliest sub-period not yet judged -/
  subBase : Nat := 0
  /-- end of the last closed record -/
  lastEnd : Nat := 0
  dir : Bool := false
  nextSeq : Nat := 0
  prevSeal : List Byte := [0, 0, 0, 0, 0, 0, 0, 0]
  chainNew : Bool := false
  exportLost : Bool := false
  residue : SMap Nat := []
  backlog : SMap Nat := []
deriving DecidableEq, Repr

/-- One delivered result of a metering input: stamp, sample instant (elapsed ns), value (none: MISSING), and REF_BAD, STALE, CLIP as bits 0
to 2. -/
structure MResult where
  stamp : Nat
  heldAt : Nat
  value : Option Int
  flags : Nat
deriving DecidableEq, Repr

/-- A sample of a phase in V and A, before the current's delay is applied (spec/09 R379). -/
structure MSample where
  stamp : Nat
  heldAt : Nat
  volts : Rat
  amps : Rat
  /-- a sample that is not metered (R388) -/
  zero : Bool := false
deriving DecidableEq, Repr

/-- One entry of a window: v i, v90 i, v v, i i (spec/09 R382). -/
structure MProducts where
  p : Rat
  q : Rat
  vv : Rat
  ii : Rat
deriving DecidableEq, Repr

/-- Metering of one phase (spec/09 R377 to R388). -/
structure MPhase where
  vWait : List MResult := []
  iWait : List MResult := []
  /-- the sample before the one that waits for its successor, and that one -/
  prev : Option MSample := none
  pend : Option MSample := none
  /-- run of MISSING samples -/
  run : Nat := 0
  dead : Bool := false
  refill : Bool := false
  window : List MProducts := []
  /-- the latest sample values in V and A that were not used again (R388) -/
  latest : Rat × Rat := (0, 0)
  /-- the all-pass networks: AP1 and AP2 of the voltage, AP1 of the current, each section's latest input and output (R380) -/
  v1 : List (Rat × Rat) := []
  v2 : List (Rat × Rat) := []
  i1 : List (Rat × Rat) := []
deriving DecidableEq, Repr

/-- The sample instant being totalled (spec/09 R383): its stamp and elapsed ns, the phases in it, p_T, q_T, S_T, the spacing in s. -/
structure MInstant where
  stamp : Nat
  heldAt : Nat
  phases : List Nat := []
  p : Rat := 0
  q : Rat := 0
  s : Rat := 0
  spacing : Rat := 0
deriving DecidableEq, Repr

/-- A step of datum time whose open interval has still samples to come (spec/09 R399, R403): the datum time before and after it, and its
instant (elapsed ns). -/
structure MeterStep where
  old : Nat
  new : Nat
  at_ : Nat
deriving DecidableEq, Repr

/-- A SNAPSHOT that awaits its capture (spec/09 R391): its execution (elapsed ns), and the stamp and the 32 accumulators (mJ)
once a sample has been latched for it. -/
structure SnapWait where
  desc : Desc
  since : Nat
  latch : Option (Nat × List Nat) := none
deriving DecidableEq, Repr

/-- One pulse output (spec/09 R396): the end of the pulse at the pin, and when the pin became idle (elapsed ns). -/
structure PulseOut where
  until_ : Option Nat := none
  idle : Nat := 0
deriving DecidableEq, Repr

/-- Metering and the atlas (spec/09). -/
structure Meter where
  core : MeterCore := {}
  phases : SMap MPhase := []
  /-- window length of each phase (0: not yet set by a tick) -/
  wins : SMap Nat := []
  inst : Option MInstant := none
  totals : List (Rat × Rat) := []
  /-- oldest first -/
  atlas : List Rec := []
  snaps : List SnapWait := []
  /-- accumulators at the previous capture, mJ -/
  captured : SMap Nat := []
  quantumNew : Bool := false
  pulses : SMap PulseOut := []
  lastRefresh : Nat := 0
  stepAt : Option MeterStep := none
  /-- entry to and exit from the latest tableau (elapsed ns): samples taken between them are not metered (R419) -/
  frozen : Nat × Nat := (0, 0)
deriving DecidableEq, Repr


/-- A contactor check in progress (spec/10 R438): closing, the instant t_e (elapsed ns), the first check failed. -/
structure ContactCheck where
  closing : Bool
  start : Nat
  failed : Bool := false
deriving DecidableEq, Repr

/-- A pin as one channel reads it (spec/10 R428, R435, R437, R451): its level and since when it has held without a break, and the level its
filter gives and since when (none: no level has been stable since a reset; SRESET has its level at the reset). -/
structure Watch where
  raw : Bool := false
  since : Nat := 0
  out : Option Bool := none
  outSince : Nat := 0
deriving DecidableEq, Repr

/-- The pins as one channel reads them. The channels share none of this (spec/10 R428). -/
structure Readings where
  estopA : Watch := {}
  estopB : Watch := {}
  sreset : Watch := { out := some false }
  kfbA : Watch := {}
  kfbB : Watch := {}
  kdrvA : Watch := {}
  kdrvB : Watch := {}
deriving DecidableEq, Repr

/-- The curtain beside its registers (spec/10): channel A's outputs and timers, channel B, the pins as each of them reads them. Instants are
elapsed ns. -/
structure Curt where
  kdrva : Bool := false
  enb : Bool := false
  tripa : Bool := true
  hb : Bool := false
  kdrvb : Bool := false
  a : Readings := {}
  b : Readings := {}
  /-- start of the latest cycle -/
  cycle : Nat := 0
  /-- causes met and not yet evaluated: code, stamp -/
  causes : List (Nat × Nat) := []
  /-- class of the stop in progress: 0 none, 1 R, 2 H, 3 S -/
  reaction : Nat := 0
  /-- latest change of the commands of KDRVA and of KDRVB -/
  changeA : Nat := 0
  changeB : Nat := 0
  /-- KDRVA last de-energised -/
  opened : Option Nat := none
  raisingAt : Nat := 0
  energised : Bool := false
  check : Option ContactCheck := none
  raisedFail : Option Nat := none
  mismatchA : Bool := false
  mismatchB : Bool := false
  discRaised : Bool := false
  /-- the latest change of mode -/
  modeAt : Nat := 0
  stuckRaised : Bool := false
  lastHb : Nat := 0
  /-- channel A's filtered SRESET edge waits for its cycle -/
  edgeA : Bool := false
  /-- channel B's latest filtered SRESET edge -/
  edgeB : Option Nat := none
  /-- TRIPA released, channel B's answer awaited; the CURTAIN_RESET that asked for it -/
  released : Option Nat := none
  resetCmd : Option Desc := none
  refuseB : Bool := false
  /-- the latch of channel B last set -/
  latchedAt : Nat := 0
  /-- both feedback inputs had read open for 10 ms as ENB rose (R430) -/
  openB : Bool := false
  /-- the latest change of SSTAT -/
  sstatAt : Nat := 0
  waiting : List Desc := []
deriving DecidableEq, Repr

/-- One local switch (spec/11 R475 to R486): the emitted pulse [from, to) at the pin while `lit`, a turn-on that waits (its instant and
end) and when it was requested, carry in ns, whether the last judged pulse was suppressed, whether blanking is over, the request in the two parts of the period,
and when the switch last turned off. Instants are elapsed ns. -/
structure Switch where
  lit : Bool := false
  from_ : Nat := 0
  to_ : Nat := 0
  wait : Option (Nat × Nat) := none
  asked : Nat := 0
  carry : Nat := 0
  suppressed : Bool := false
  blanked : Bool := false
  req : Bool × Bool := (false, false)
  offAt : Option Nat := none
deriving DecidableEq, Repr

/-- The guard beside its registers (spec/11): the switches, command-error intervals by leg, GD_EN raised since the reset, when the
pin went low. -/
structure Guard where
  switches : SMap Switch := []
  cmdErr : List Nat := []
  raised : Bool := false
  lowSince : Nat := 0
  /-- cells that have reported item 3 since the reset or their training -/
  words : List Nat := []
  /-- recent switching edges of pulses no longer held, elapsed ns -/
  edges : List Nat := []
deriving DecidableEq, Repr


/-- One PWM channel (spec/12 R497 to R501): start of the present period (elapsed ns), period, duty and mark in force, the values that a
LOAD_ALL has marked for transfer with its instant, the present period not yet begun by the guard, and the occurrence of each event type
last taken, as the start of its period. -/
structure Chan where
  start : Nat := 0
  period : Nat := 25000
  duty : Nat := 0
  mark : Nat := 0
  load : Option (Nat × Nat × Nat × Nat) := none
  fresh : Bool := false
  taken : SMap (Option Nat) := []
deriving DecidableEq, Repr

/-- An observed crossing (spec/12 R512): leg, rising, instant (elapsed ns). -/
structure Crossing where
  leg : Nat
  rising : Bool
  time : Nat
deriving DecidableEq, Repr

/-- What the detector keeps of one leg (spec/12 R510): latest result, side of the neutral it counts on, the run of results on the other
side with the instant of its first, and the extremes over the latest observed sectors. -/
structure Leg where
  last : Option Int := none
  above : Option Bool := none
  run : Nat := 0
  first : Nat := 0
deriving DecidableEq, Repr

/-- Why the drive coasts (spec/12 R517 to R520). -/
inductive Coast where
  | request | chopper | slow | bus
deriving DecidableEq, Repr

/-- The pump drive beside its registers (spec/12). Instants are elapsed ns; speeds in rpm, duties as fractions. -/
structure Pump where
  chans : SMap Chan := []
  presc : SMap Nat := []
  /-- state before FROZEN -/
  before : Nat := 0
  entered : Nat := 0
  /-- a watch for standstill that began later than the state (R525) -/
  watchAt : Nat := 0
  run : Bool := false
  ref : Rat := 0
  integ : Rat := 0
  duty : Rat := 0
  brake : Bool := false
  coast : Coast := .request
  legs : SMap Leg := []
  /-- confirmed crossings, latest last (seven at most) -/
  crossings : List Crossing := []
  tEst : Option Nat := none
  sectorAt : Nat := 0
  zc : Option Nat := none
  /-- periods of the present overlap, those already begun, and the outgoing duty -/
  ovl : Option (Nat × Nat × Rat) := none
  /-- floating-leg results of the last six observed sectors -/
  spread : List (List Int) := []
  forcedAt : Nat := 0
  good : Nat := 0
  runAt : Nat := 0
  /-- a start failure waits for its restart, since; the restart is being made -/
  locked : Option Nat := none
  retry : Bool := false
  vbus : List Int := []
  ishunt : List Int := []
  missV : Nat := 0
  missI : Nat := 0
  /-- activation and verdict of R517: instant, mean -/
  act : Option (Nat × Int) := none
  verdict : Option (Nat × Int) := none
  lowSince : Option Nat := none
  okSince : Option Nat := none
  outSince : Option Nat := none
deriving DecidableEq, Repr


/-- The one-time-programmable memory (spec/15 R631, spec/18 R691): the record key, its identifier, KEY_FAILED, DEBUG_LOCK, the
serial number. -/
structure Otp where
  key : Option (List Byte) := none
  keyId : Nat := 0
  serial : Nat := 0
  keyFailed : Bool := false
  debugLock : Bool := false
deriving DecidableEq, Repr

/-- A PLL (spec/15 R615, R616): locked, instant of the latest change, instant of the latest relock attempt (elapsed ns), and whether
its domain has been off it since a loss of lock. -/
structure Pll where
  locked : Bool := false
  since : Nat := 0
  attempt : Nat := 0
  off : Bool := false
deriving DecidableEq, Repr

/-- Power, clocks, resets and the test port beside their registers (spec/15). Instants are elapsed ns. -/
structure Power where
  otp : Otp := {}
  /-- kinds asserted in the present reset period -/
  period : List Nat := [0]
  /-- POR, CLOCK, THERMAL or TEST hold the reset -/
  holds : List Nat := []
  goodWindows : Nat := 0
  /-- a first internal start since power-on has completed (R608) -/
  started : Bool := false
  /-- internal start has to be made (R632) -/
  startDue : Bool := true
  /-- what the resets of the period reached: all blocks but GHOST, not only those of PERST -/
  whole : Bool := true
  stageByp : Bool := false
  plls : SMap Pll := []
  /-- latest measurements of the die temperature, newest first, eight at most; instant of the latest -/
  temps : List Int := []
  lastTemp : Nat := 0
  /-- a temperature has been formed since POR or BROWN -/
  tempSeen : Bool := false
  coolSince : Option Nat := none
  hotSince : Option Nat := none
  /-- time spent in earlier stays in HOT -/
  hotSpent : Nat := 0
  /-- tableau entry: elapsed ns and datum time -/
  tabStart : Nat := 0
  tabRefused : Bool := false
  /-- record key being programmed: key, identifier -/
  keyJob : Option (List Byte × Nat) := none
  keyOut : Nat := 0
  keyCheck : Nat := 0
deriving DecidableEq, Repr

/-- The keeper (spec/16 R654, R655): its value in 2^-16 ns at GHOST edge number `edge`, the stored period (2^-16 ns) and the number of stores of each
band, and whether every band used in the present outage was learned. -/
structure Keeper where
  value : Nat := 0
  edge : Nat := 0
  periods : SMap Nat := []
  stores : SMap Nat := []
  allLearned : Bool := true
deriving DecidableEq, Repr

/-- The ghost-light domain beside its registers (spec/16). -/
structure Ghost where
  running : Bool := true
  /-- main power is absent (R645) -/
  absent : Bool := true
  /-- the domain runs from VSTOR (R640) -/
  store : Bool := false
  keeper : Keeper := {}
  /-- the header shows no domain power-up since the last take-up (R657, R659) -/
  header : Bool := false
  /-- the two METER copies with their generations (R657) -/
  copyA : Option (Nat × MeterCore) := none
  copyB : Option (Nat × MeterCore) := none
  last : Option Rec := none
  out : Option Rec := none
  /-- an interval has been closed in this outage (R411) -/
  closed : Bool := false
  deferred : Bool := false
  /-- a seal of the outage's record in progress: made from the store -/
  job : Option Bool := none
  /-- the key whose states the key shadow holds (R651) -/
  shadow : Option (List Byte) := none
  outStart : Nat := 0
  /-- events owed to the next internal start (R644, R661) -/
  owed : List Event := []
  lostOwed : Bool := true
  /-- latest sample of each tamper input high (R660), and the open log entry of each tampered input -/
  tampHigh : List Nat := []
  tampEntry : SMap (Option Nat) := []
  tlogNext : Nat := 0
  lastCheck : Nat := 0
deriving DecidableEq, Repr


/-- Wear accounts of one cell (spec/17 R677): leg A, leg B, bypass, dump ms, line errors, and the base of each counted item. -/
structure Wear where
  legA : Nat := 0
  legB : Nat := 0
  byp : Nat := 0
  dump : Nat := 0
  line : Nat := 0
  base : SMap (Option Nat) := []
deriving DecidableEq, Repr

/-- Background work (spec/17): the sweep (next word, start, last read, corrected words, MEM_CORRECTED raised), uncorrectable words already
reported, the end of the latest sweep, the survey pass (next cell, latest due instant, a pass waiting, latest entry), wear. Instants are
elapsed ns. -/
structure Scrub where
  word : Nat := 0
  start : Option Nat := none
  lastRead : Nat := 0
  corrected : Nat := 0
  raised : Bool := false
  reported : List (Nat × Nat) := []
  lastEnd : Nat := 0
  passNext : Option Nat := none
  passBase : Option Nat := none
  passDue : Bool := false
  lastEntry : Nat := 0
  wear : SMap Wear := []
deriving DecidableEq, Repr

/-- The state of the block. Registers whose table gives a reset value start there: the register file lists only what differs. -/
structure State where
  /-- elapsed time in ns, counted in STAGE ticks of 2 ns (R45) -/
  elapsed : Nat := 0
  /-- datum time in ns (R42) -/
  datum : Nat := 0
  /-- the BAR0 registers; an address not listed holds its reset value -/
  regs : SMap Word := []
  /-- the 64-bit value that the latest read of a _LO register captured, by its address (R44) -/
  latched : SMap Nat := []
  tables : SMap TableMem := []
  disc : Disc := {}
  router : Router := {}
  mer : Meridian := {}
  host : HostIf := {}
  conv : Conv := {}
  wing : Wing := {}
  grid : Grid := {}
  engine : Engine := {}
  cast : Cast := {}
  pwr : CellPwr := {}
  meter : Meter := {}
  curt : Curt := {}
  guard : Guard := {}
  pump : Pump := {}
  power : Power := {}
  ghost : Ghost := {}
  scrub : Scrub := {}
  /-- bits that the hardware has set in the present CORE cycle: register and mask (R5) -/
  hwSets : List (Nat × Nat) := []
  /-- the CORE cycle of these bits -/
  hwCycle : Nat := 0
  /-- index of the next free value (the model's own, no state of the device) -/
  free : Nat := 0
  /-- the commands waiting, first in first out -/
  pending : List Instr := []
deriving DecidableEq, Repr

/-- Why the block stops: no rule of the spec stops it, so no meaning answers a fault. -/
inductive Fault where
deriving DecidableEq, Repr

/-- Why a command has no outcome. -/
inductive Refusal where
  /-- Raised by an arm of exec whose command has no meaning yet. Safe: the machine stops where the hardware goes on. -/
  | notModelled (mnemonic : String)
deriving DecidableEq, Repr

/-- The machine right after a POR: every register at its reset value, POWER_RESET_CAUSE with HISTORY showing that POR (R627), every table
as R37 and R624 leave it, internal start to be made, the queue empty. -/
def State.reset : State := { regs := [(0x1404, 0x100#32)] }

end Sys2Proof.Machine
end

