-- ==== Sys2Proof/Machine/Ops.lean ====
section
/-! DEFINITION. Sys2Proof/Machine/Ops.lean: the named operations over the state: sparse maps, registers and their fields,
time, events on their way to the router, ring entries, completions, tables. Every block reads and writes the state
through these. -/

namespace Sys2Proof.Machine

/-! Sparse maps -/

/-- What a sparse map reads as at a key: the listed value, else the map's default there. -/
def Sparse.get {α : Type} (d : Nat → α) : SMap α → Nat → α
  | [], k => d k
  | (k', v) :: m, k => if k' = k then v else Sparse.get d m k

/-- A value listed at its place in the rising order, in place of the one listed there. -/
def Sparse.insert {α : Type} : SMap α → Nat → α → SMap α
  | [], k, v => [(k, v)]
  | (k', v') :: m, k, v =>
    if k' = k then (k, v) :: m else if k < k' then (k, v) :: (k', v') :: m else (k', v') :: Sparse.insert m k v

/-- A sparse map with one key written: entries stay in rising order, and a value equal to the default is not listed. -/
def Sparse.set {α : Type} [DecidableEq α] (d : Nat → α) (m : SMap α) (k : Nat) (v : α) : SMap α :=
  if v = d k then m.filter fun e => e.1 != k else Sparse.insert m k v

/-- The canonical form: keys strictly rising, no listed value equal to the default. -/
def Sparse.wf {α : Type} [DecidableEq α] (d : Nat → α) : SMap α → Bool
  | [] => true
  | (k, v) :: m => v ≠ d k && m.all (fun e => k < e.1) && Sparse.wf d m

/-- The map rebuilt in canonical form; where a key is listed twice the first entry counts. -/
def Sparse.canon {α : Type} [DecidableEq α] (d : Nat → α) : SMap α → SMap α
  | [] => []
  | (k, v) :: m => Sparse.set d (Sparse.canon d m) k v

/-! Bits of a number -/

/-- The `w` bits of `x` from bit `lo` upwards. -/
def bitsOf (x lo w : Nat) : Nat := x / 2 ^ lo % 2 ^ w

/-- `x` with the `w` bits from bit `lo` upwards replaced by the low bits of `v`. -/
def putBits (x lo w v : Nat) : Nat :=
  x / 2 ^ (lo + w) * 2 ^ (lo + w) + v % 2 ^ w * 2 ^ lo + x % 2 ^ lo

/-- The two's-complement reading of a `w`-bit number. -/
def signed (w x : Nat) : Int := if x < 2 ^ (w - 1) then (x : Int) else (x : Int) - 2 ^ w

/-- The two's-complement writing of an integer in `w` bits. -/
def unsigned (w : Nat) (x : Int) : Nat := (x % 2 ^ w).toNat

/-- An integer clamped to a range. -/
def clamp (lo hi x : Int) : Int := max lo (min hi x)

/-- `n` bytes of a number, least significant first (R2: little-endian throughout). -/
def leBytes : Nat → Nat → List Byte
  | 0, _ => []
  | n + 1, x => BitVec.ofNat 8 x :: leBytes n (x / 256)

/-- The number that bytes spell, least significant first. -/
def ofLe : List Byte → Nat
  | [] => 0
  | b :: bs => b.toNat + 256 * ofLe bs

/-- One step of the CRC-32 of IEEE 802.3 (reflected form). -/
def crcBit : Nat → Word → Word
  | 0, c => c
  | n + 1, c => crcBit n (if c.getLsbD 0 then (c >>> 1) ^^^ 0xEDB88320#32 else c >>> 1)

/-- CRC-32 of IEEE 802.3 over bytes, from a running remainder. -/
def crcRun : List Byte → Word → Word
  | [], c => c
  | b :: bs, c => crcRun bs (crcBit 8 (c ^^^ BitVec.zeroExtend 32 b))

/-- CRC-32 of IEEE 802.3. -/
def crc32 (bs : List Byte) : Word := ~~~ crcRun bs 0xFFFFFFFF#32

/-! Registers and fields -/

/-- The stored value of the register at an address (its reset value where nothing else has been stored). -/
def State.reg (s : State) (a : Nat) : Word := Sparse.get resetVal s.regs a

/-- The register at an address stored whole. -/
def State.setReg (s : State) (a : Nat) (v : Word) : State :=
  { s with regs := Sparse.set resetVal s.regs a v }

/-- A field's value as a number. -/
def State.get (s : State) (f : FieldRef) : Nat := bitsOf (s.reg f.addr).toNat f.lo f.w

/-- A field written, the register's other bits kept. -/
def State.set (s : State) (f : FieldRef) (v : Nat) : State :=
  s.setReg f.addr (BitVec.ofNat 32 (putBits (s.reg f.addr).toNat f.lo f.w v))

/-- A one-bit field as a truth value. -/
def State.bit (s : State) (f : FieldRef) : Bool := s.get f != 0

/-- The CORE cycle of the present instant (R5, spec/15 R618): 2.5 ns, 5 ns when slow, 40 ns on the crystal. -/
def State.coreCycle (s : State) : Nat :=
  if s.bit F.CLOCK_STATUS_CORE_BYP then s.elapsed / 40
  else if s.bit F.CLOCK_STATUS_CORE_SLOW then s.elapsed / 5
  else s.elapsed * 2 / 5

/-- The bits of a register that the hardware has set in the present CORE cycle (R5). -/
def State.setNow (s : State) (a : Nat) : Nat :=
  if s.hwCycle = s.coreCycle then (s.hwSets.filter fun e => e.1 = a).foldl (fun m e => Nat.lor m e.2) 0 else 0

/-- Bits that the hardware sets at this instant, where it does, noted for a host write of the same CORE cycle (R5). -/
def State.noteSet (on : Bool) (a mask : Nat) (s : State) : State :=
  { s with
    hwSets := if on then (a, mask) :: (if s.hwCycle = s.coreCycle then s.hwSets else []) else s.hwSets
    hwCycle := if on then s.coreCycle else s.hwCycle }

/-- A one-bit field set or cleared. -/
def State.setBit (s : State) (f : FieldRef) (b : Bool) : State :=
  (s.noteSet b f.addr (2 ^ f.lo)).set f (if b then 1 else 0)

/-- A field as a signed number. -/
def State.getInt (s : State) (f : FieldRef) : Int := signed f.w (s.get f)

/-- A field written with a signed number. -/
def State.setInt (s : State) (f : FieldRef) (v : Int) : State := s.set f (unsigned f.w v)

/-- A field written with a signed number clamped to what it holds. -/
def State.setSat (s : State) (f : FieldRef) (v : Int) : State :=
  s.setInt f (clamp (-(2 : Int) ^ (f.w - 1)) (2 ^ (f.w - 1) - 1) v)

/-- A field written with an unsigned number clamped to what it holds. -/
def State.setTop (s : State) (f : FieldRef) (v : Nat) : State := s.set f (min v (2 ^ f.w - 1))

/-- Bit `i` of a field. -/
def State.ibit (s : State) (f : FieldRef) (i : Nat) : Bool := (s.get f).testBit i

/-- Bit `i` of a field set or cleared. -/
def State.setIbit (s : State) (f : FieldRef) (i : Nat) (b : Bool) : State :=
  (s.noteSet b f.addr (2 ^ (f.lo + i))).set f (putBits (s.get f) i 1 (if b then 1 else 0))

/-- A counter advanced by `n`, saturating (R15, R105 and the like: 32 bits, saturating at 0xFFFF_FFFF). -/
def State.count (s : State) (f : FieldRef) (n : Nat := 1) : State := s.setTop f (s.get f + n)

/-- A counter advanced by 1, wrapping. -/
def State.countWrap (s : State) (f : FieldRef) : State := s.set f (s.get f + 1)

/-- An effect taken only where a condition holds. -/
def State.when (s : State) (c : Bool) (f : State → State) : State := if c then f s else s

/-- An effect taken for each item of a list, in order. -/
def State.each {α : Type} (s : State) (l : List α) (f : α → State → State) : State :=
  l.foldl (fun s a => f a s) s

/-- A 64-bit value stored in a _LO and _HI pair: the pair holds the live value, a read captures it (R44). -/
def State.setPair (s : State) (lo : Nat) (v : Nat) : State :=
  (s.setReg lo (BitVec.ofNat 32 v)).setReg (lo + 4) (BitVec.ofNat 32 (v / 2 ^ 32))

/-- The 64-bit value a _LO and _HI pair holds. -/
def State.pair (s : State) (lo : Nat) : Nat := (s.reg lo).toNat + 2 ^ 32 * (s.reg (lo + 4)).toNat

/-! Time -/

/-- Nanoseconds in a second. -/
abbrev second : Nat := 1000000000

/-- Elapsed time at STAGE tick `t`: 2 ns a tick (R45); on the crystal, whole crystal periods of 20 ticks (R617). -/
def State.timeAt (s : State) (t : Nat) : Nat := if s.power.stageByp then 2 * t / 40 * 40 else 2 * t

/-- The passing of time up to STAGE tick `t`: elapsed time counts STAGE ticks (R45); datum time advances with it
while its counter runs (R43, R47, R617). A tick already past leaves time as it stands. -/
def State.advance (s : State) (t : Nat) : State :=
  { s with
    elapsed := max s.elapsed (s.timeAt t)
    datum := s.datum + (if s.disc.running then max s.elapsed (s.timeAt t) - s.elapsed else 0) }

/-- A timer of duration `d` started at `t0` has expired (R8: at exactly `t0 + d`). -/
def State.expired (s : State) (t0 d : Nat) : Bool := t0 + d ≤ s.elapsed

/-- A running timer has expired. -/
def State.due (s : State) (t0 : Option Nat) (d : Nat) : Bool :=
  match t0 with
  | none => false
  | some t => s.expired t d

/-- The fixed output latency of a pin, in ns (R65). -/
def pinDelay : Nat := 2 * Config.pinTicks

/-- The next free value's index; every use of a free value takes a new one. -/
def State.nextFree (s : State) : State := { s with free := s.free + 1 }

/-! Fault classes and events on their way to the router -/

/-- The fault class whose SCRUB_FAULT_SEEN bit an event sets when it is raised (R682). CURTAIN_STOP (class 6) and
LINK_CHANGE (class 13) count only in some cases; their raisers say so with `noteClass`. -/
def faultClass (num inst : Nat) : Option Nat :=
  if num = 136 then some 1
  else if num = 98 then some 2
  else if num = 53 || num = 54 then some 3
  else if num = 128 || num = 131 || num = 130 || num = 113 then some 4
  else if num = 119 || num = 121 then some 5
  else if num = 192 || num = 193 then some 7
  else if num = 201 || num = 203 then some 8
  else if num = 4 || num = 185 then some 9
  else if num = 226 || num = 225 then some 10
  else if num = 19 || num = 21 then some 11
  else if num = 16 && (inst = 1 || inst = 3 || inst = 4) then some 12
  else if num = 2 then some 13
  else if num = 37 || num = 43 || num = 42 then some 14
  else if num = 163 || num = 166 || num = 26 || num = 161 then some 15
  else none

/-- A fault of class `c` noted in SCRUB_FAULT_SEEN (R682, R683). -/
def State.noteClass (s : State) (c : Nat) : State := s.setIbit F.SCRUB_FAULT_SEEN_SEEN c true

/-- A transient counter of R680 advanced; bit 0 of SCRUB_FAULT_SEEN is set (R682). -/
def State.transient (s : State) (f : FieldRef) : State := (s.count f).noteClass 0

/-- The fault class of an event noted, where it has one (R682). -/
def State.noteFault (s : State) (num inst : Nat) : State :=
  match faultClass num inst with
  | none => s
  | some c => s.noteClass c

/-- An event raised with its stamp (R64): it is on its way to the router, which EVENT_ARRIVAL brings it to. -/
def State.raiseAt (s : State) (stamp num inst : Nat) : State :=
  let s := s.noteFault num inst
  { s with router := { s.router with
      inflight := s.router.inflight ++ [{ stamp := stamp, num := num, inst := inst }] } }

/-- An event raised and stamped with the present datum time. -/
def State.raise (s : State) (num : Nat) (inst : Nat := 0) : State := s.raiseAt s.datum num inst

/-! Modes -/

/-- The device is in tableau (R601). -/
def State.tableau (s : State) : Bool := s.bit F.POWER_STATUS_TABLEAU

/-- The curtain's state (R441): 0 LOCKED, 1 LOWERED, 2 RAISING, 3 RAISED, 4 LOWERING. -/
def State.curtain (s : State) : Nat := s.get F.CURTAIN_STATUS_STATE

/-- The curtain is LOWERED or LOCKED. -/
def State.curtainDown (s : State) : Bool := s.curtain ≤ 1

/-- The mode is service, not rehearsal (R604). -/
def State.service (s : State) : Bool := s.bit F.CURTAIN_STATUS_MODE

/-- A state with other background work. -/
def State.mapScrub (s : State) (f : Scrub → Scrub) : State := { s with scrub := f s.scrub }

/-! Comparators under test (spec/03 R147, R151, R155, R156) -/

/-- Samples in the majority filter's window (R147). -/
def filterLen (filt : Nat) : Nat := 3 + 2 * filt

/-- From the first fresh sample of a refill to the first change of the filtered output (R147, R151), in ns. -/
def refillTime (filt : Nat) : Nat := 2 * filterLen filt + 2

/-- Comparator `k` is selected in a self-test and its routes are not yet released (R155, R156). -/
def State.compTesting (s : State) (k : Nat) : Bool :=
  match s.conv.test with
  | none => false
  | some x => x.sel.getLsbD k && match x.read with
    | none => true
    | some t0 => s.elapsed < t0 + refillTime (s.get (F.COMP_CFG_FILT k))

/-! Ring entries and completions (spec/13) -/

/-- Number of entries of a ring (R538). -/
def State.ringSize (s : State) (n : Nat) : Nat := 2 ^ s.get (F.HOST_RING_CFG_LOG2 n)

/-- Occupancy of a ring, (PI - CI) mod 2^32 (R538). -/
def State.ringOcc (s : State) (n : Nat) : Nat :=
  (s.get (F.HOST_RING_PI_PI n) + 2 ^ 32 - s.get (F.HOST_RING_CI_CI n)) % 2 ^ 32

/-- Entries staged for a ring. -/
def State.stagedFor (s : State) (n : Nat) : List StagedEntry := s.host.staged.filter fun e => e.ring == n

/-- A ring takes another entry: it is enabled and not full, the staged entries counted (R537, R542). -/
def State.ringRoom (s : State) (n : Nat) : Bool :=
  s.bit (F.HOST_RING_CFG_EN n) && s.ringOcc n + (s.stagedFor n).length < s.ringSize n

/-- An entry staged for its ring. -/
def State.stage (s : State) (e : StagedEntry) : State :=
  { s with host := { s.host with staged := s.host.staged ++ [e] } }

/-- The bytes of an event record, phase bit 0 (R578). -/
def recordBytes (e : Event) (seq dropped : Nat) : List Byte :=
  leBytes 8 e.stamp ++ leBytes 1 e.num ++
    leBytes 1 ((if e.late then 1 else 0) + (if dropped ≠ 0 then 2 else 0) + (if e.held then 4 else 0)) ++
    leBytes 2 e.inst ++ leBytes 4 seq ++ leBytes 4 dropped ++ leBytes 12 0

/-- A record's DROPPED field (R578). -/
def recordDropped (body : List Byte) : Nat := ofLe (body.extract 16 20)

/-- A staged record with the SEQ and DROPPED it has once records before it have been dropped (R578). -/
def renumber (body : List Byte) (seq dropped : Nat) : List Byte :=
  let flags := (ofLe (body.extract 9 10)) % 2 + (if dropped ≠ 0 then 2 else 0) + ofLe (body.extract 9 10) / 4 * 4
  body.take 9 ++ leBytes 1 flags ++ body.extract 10 12 ++ leBytes 4 seq ++ leBytes 4 dropped ++ body.drop 20

/-- Staged entries with those dropped that `gone` names: the records of ring 2 that stay are numbered on without them and carry their number
(R579). Answers the entries, the next SEQ and the records dropped since the last one. -/
def dropStaged (gone : StagedEntry → Bool) : List StagedEntry → Nat → Nat → List StagedEntry × Nat × Nat
  | [], seq, dropped => ([], seq, dropped)
  | e :: l, seq, dropped =>
    if e.ring ≠ 2 then
      let r := dropStaged gone l seq dropped
      (if gone e then r.1 else e :: r.1, r.2)
    else
      let n := min 0xFFFFFFFF (dropped + recordDropped e.body)
      if gone e then dropStaged gone l seq (min 0xFFFFFFFF (n + 1))
      else
        let r := dropStaged gone l ((seq + 1) % 2 ^ 32) 0
        ({ e with body := renumber e.body seq n } :: r.1, r.2)

/-- A trace entry is dropped (R571). -/
def State.traceDrop (s : State) : State :=
  let s := s.count F.HOST_TRACE_DROP_COUNT
  if s.host.traceArmed then
    ({ s with host := { s.host with traceArmed := false } }.setBit F.HOST_STATUS_TRACE_LOST true).raise 6
  else s

/-- Staged entries are dropped: event records as R579 drops them, trace entries as R571 does; a record for ring 4 is again one to be written
(R416). -/
def State.dropEntries (gone : StagedEntry → Bool) (s : State) : State :=
  let out := s.host.staged.filter gone
  let two := out.filter fun (e : StagedEntry) => e.ring == 2
  let staged2 := (s.host.staged.filter fun (e : StagedEntry) => e.ring == 2).length
  let r := dropStaged gone s.host.staged ((s.get F.EVENT_REC_SEQ_SEQ + 2 ^ 32 - staged2 % 2 ^ 32) % 2 ^ 32) 0
  let s := { s with
    host := { s.host with staged := r.1 }
    router := { s.router with dropped := min 0xFFFFFFFF (r.2.2 + s.router.dropped) }
    meter := { s.meter with
      atlas := s.meter.atlas.map fun (x : Rec) =>
        { x with sent := x.sent && !(out.any fun (e : StagedEntry) => e.ring == 4 && e.body.take 56 == x.body) } } }
  let s := (s.set F.EVENT_REC_SEQ_SEQ r.2.1).when (!two.isEmpty) fun s =>
    (s.set F.EVENT_REC_DROP_COUNT (min 0xFFFFFFFF (s.get F.EVENT_REC_DROP_COUNT + two.length))).setBit F.EVENT_STATUS_REC_LOST true
  s.each (out.filter fun (e : StagedEntry) => e.ring == 5) fun _ s => s.traceDrop

/-- The entries staged for some rings are given up as when those rings are full (R542). -/
def State.unstage (p : Nat → Bool) (s : State) : State := s.dropEntries fun e => p e.ring

/-- A producer of ring `n` finds it without room: RING_FULL at the first time after an entry has been written (R573). -/
def State.foundFull (s : State) (n : Nat) : State :=
  if s.bit (F.HOST_RING_CFG_EN n) && s.host.fullArmed.contains n then
    { s with host := { s.host with fullArmed := s.host.fullArmed.filter (· ≠ n) } }.raise 3 n
  else s

/-- STATUS codes of a completion (R550). -/
abbrev st.done : Nat := 0
abbrev st.opcUnknown : Nat := 1
abbrev st.lenRange : Nat := 2
abbrev st.targetRange : Nat := 3
abbrev st.stateRefused : Nat := 4
abbrev st.dmaFault : Nat := 5
abbrev st.timePast : Nat := 6
abbrev st.tableCheck : Nat := 7
abbrev st.aborted : Nat := 8

/-- The bytes of a completion, phase bit 0 (R550). -/
def completionBytes (tag status detail doneTime : Nat) : List Byte :=
  leBytes 2 tag ++ leBytes 1 status ++ [0] ++ leBytes 4 detail ++ leBytes 8 doneTime

/-- A completion staged for ring 1 (R550, R551), where it waits for the records of R71. While ring 1 is disabled, after a
link down or a reset, no completion is written (R536). -/
def State.stageDone (s : State) (d : Desc) (status detail doneTime : Nat) : State :=
  if s.bit (F.HOST_RING_CFG_EN 1) then
    s.stage { ring := 1, body := completionBytes d.tag.toNat status detail doneTime, stamp := doneTime,
              late := false, cmd := some d, status := status }
  else s

/-- A command finishes: it is dispatched no more, and its completion is staged. A command dispatched before a link down or a
reset of the HOST block gets no completion (R536). -/
def State.complete (s : State) (d : Desc) (status detail doneTime : Nat) : State :=
  if s.host.dispatched.contains d then
    { s with host := { s.host with dispatched := s.host.dispatched.erase d } }.stageDone d status detail doneTime
  else s

/-- A command refused by a check at this instant (R551). -/
def State.refuse (s : State) (d : Desc) (status detail : Nat) : State := s.complete d status detail s.datum

/-- A command done at this instant. -/
def State.finish (s : State) (d : Desc) (detail : Nat := 0) : State := s.complete d st.done detail s.datum

/-- The first check of a list that fails, as (STATUS, DETAIL). -/
def firstFail : List (Bool × Nat × Nat) → Option (Nat × Nat)
  | [] => none
  | (bad, st, det) :: l => if bad then some (st, det) else firstFail l

/-- A command's checks in order; the first failure refuses it, none lets its effect happen. -/
def State.checked (s : State) (d : Desc) (checks : List (Bool × Nat × Nat)) (f : State → State) : State :=
  match firstFail checks with
  | some (status, detail) => s.refuse d status detail
  | none => f s

/-- Memory requests and messages may be issued: Bus Master Enable in D0 (R535). -/
def State.busOpen (s : State) : Bool := s.bit F.HOST_STATUS_BME && !s.host.d3hot

/-- Bytes written to host memory by the device (R555); while the bus is closed they wait in order (R535). -/
def State.hostWrite (s : State) (addr : Nat) (bytes : List Byte) : State :=
  if s.busOpen then { s with host := { s.host with writes := s.host.writes ++ [{ addr := addr, bytes := bytes }] } }
  else { s with host := { s.host with outbox := s.host.outbox ++ [{ addr := addr, bytes := bytes }] } }

/-- A trace entry for ring 5, or its drop (R570, R571). -/
def State.trace (s : State) (stamp : Nat) (bytes : List Byte) : State :=
  if s.ringRoom 5 then
    s.stage { ring := 5, body := bytes, stamp := stamp, late := false, cmd := none, status := 0 }
  else
    (s.foundFull 5).traceDrop

/-- The trace entry of a command's dispatch or completion (R570, SRC 2), where CMD_EN asks for it. -/
def State.traceCmd (s : State) (d : Desc) (status : Nat) : State :=
  s.when (s.bit F.HOST_TRACE_CTRL_CMD_EN) fun s =>
    s.trace s.datum (leBytes 8 s.datum ++ leBytes 1 2 ++ leBytes 1 d.opc.toNat ++ leBytes 2 d.tag.toNat ++
      leBytes 8 d.execTime.toNat ++ leBytes 1 status ++ leBytes 11 0)

/-- The read of a command's payload is issued (R558); PAYLOAD_READ_COMPLETE brings it. -/
def State.readPayload (d : Desc) (s : State) : State :=
  { s with host := { s.host with payloads := s.host.payloads ++ [({ desc := d, retried := [] } : PayRead)] } }

/-- The bits of one field after a host write, by its access type (R4): RW takes the written bits, W1C clears where 1 is written but for
bits that the hardware sets in the same CORE cycle (R5), RO and WO keep what they hold. -/
def writeField (data setNow : Nat) (x : Nat) (f : FieldRow) : Nat :=
  match f.access with
  | .rw => putBits x f.lo f.w (bitsOf data f.lo f.w)
  | .w1c => putBits x f.lo f.w (Nat.land (bitsOf x f.lo f.w) (Nat.lor (2 ^ f.w - 1 - bitsOf data f.lo f.w) (bitsOf setNow f.lo f.w)))
  | .ro => x
  | .wo => x

/-- A register after a host write, field by field (R3, R4): bits of no field stay 0. -/
def writtenValue (row : RegRow) (old data setNow : Nat) : Nat := row.fields.foldl (writeField data setNow) old

/-- A host write applied to a register by its fields' access types. -/
def State.writeByAccess (a : Nat) (data : Word) (s : State) : State :=
  match regRow a with
  | none => s
  | some row => s.setReg a (BitVec.ofNat 32 (writtenValue row (s.reg a).toNat data.toNat (s.setNow a)))

/-! Tables (spec/13 R558 to R561) -/

/-- Table ids of R559. -/
abbrev tid.roster : Nat := 1
abbrev tid.contourV : Nat := 2
abbrev tid.contourF : Nat := 3
abbrev tid.varCurve : Nat := 4
abbrev tid.castWeights : Nat := 5
abbrev tid.mpptParam : Nat := 6
abbrev tid.pumpCurve : Nat := 7
abbrev tid.signature : Nat := 8
abbrev tid.pulseMap : Nat := 9
abbrev tid.safetyParam : Nat := 10
abbrev tid.meterCal : Nat := 11
abbrev tid.filters : Nat := 12

/-- Size of each table in bytes (R559); 0 for an id that is none. -/
def tableSize (id : Nat) : Nat :=
  [0, 4096, 1024, 1024, 256, 512, 2048, 128, 256, 64, 256, 512, 256].getD id 0

/-- What a table holds after a reset that clears it: zeros, but for ROSTER, whose entries hold their index as CELL_ID, PHASE
3 and STRING_POS 0xFF (R37). -/
def tableReset (id off : Nat) : Byte :=
  if id = tid.roster then
    if off % 32 = 0 then BitVec.ofNat 8 (off / 32)
    else if off % 32 = 2 then 3
    else if off % 32 = 4 then 0xFF
    else 0
  else 0

/-- One table's memory. -/
def State.tableMem (s : State) (id : Nat) : TableMem := Sparse.get (fun _ => {}) s.tables id

/-- A byte of the table in force (its working copy). -/
def State.tbl8 (s : State) (id off : Nat) : Nat := (Sparse.get (tableReset id) (s.tableMem id).work off).toNat

/-- A little-endian 16-bit item of a table. -/
def State.tbl16 (s : State) (id off : Nat) : Nat := s.tbl8 id off + 256 * s.tbl8 id (off + 1)

/-- A little-endian 32-bit item of a table. -/
def State.tbl32 (s : State) (id off : Nat) : Nat := s.tbl16 id off + 65536 * s.tbl16 id (off + 2)

/-- A signed 16-bit item of a table. -/
def State.tblS16 (s : State) (id off : Nat) : Int := signed 16 (s.tbl16 id off)

/-- A signed 32-bit item of a table. -/
def State.tblS32 (s : State) (id off : Nat) : Int := signed 32 (s.tbl32 id off)

/-- `n` bytes of the table in force from an offset. -/
def State.tblBytes (s : State) (id off n : Nat) : List Byte :=
  (List.range n).map fun i => BitVec.ofNat 8 (s.tbl8 id (off + i))

/-- Bytes written into a sparse table copy from an offset upwards. -/
def putBytes (id : Nat) : SMap Byte → Nat → List Byte → SMap Byte
  | m, _, [] => m
  | m, off, b :: bs => putBytes id (Sparse.set (tableReset id) m off b) (off + 1) bs

/-- Bytes written into the working copy only. -/
def State.setTableWork (s : State) (id : Nat) (m : TableMem) : State :=
  { s with tables := Sparse.set (fun _ => {}) s.tables id m }

/-- The CRC-32 of a table's working copy as it stands. -/
def State.tableCrc (s : State) (id : Nat) : Word := crc32 (s.tblBytes id 0 (tableSize id))

/-- A table written at a load: working copy and stored copy, and the CRC recorded (R558, R561). -/
def State.writeTable (s : State) (id off : Nat) (bytes : List Byte) : State :=
  let m := s.tableMem id
  let s := s.setTableWork id { m with work := putBytes id m.work off bytes, stored := putBytes id m.stored off bytes }
  s.setTableWork id { s.tableMem id with crc := s.tableCrc id }

/-- HOST_TABLE_OK's bit of a table (R560). -/
def State.tableOk (s : State) (id : Nat) : Bool := s.ibit F.HOST_TABLE_OK_OK (id - 1)

/-- HOST_TABLE_OK's bit of a table set or cleared. -/
def State.setTableOk (s : State) (id : Nat) (b : Bool) : State := s.setIbit F.HOST_TABLE_OK_OK (id - 1) b

/-! The roster (spec/01 R36) -/

/-- Kinds of a roster entry. -/
abbrev kind.absent : Nat := 0
abbrev kind.pv : Nat := 1
abbrev kind.battery : Nat := 2
abbrev kind.reserve : Nat := 3

/-- A byte, a 16-bit or a 32-bit field of a cell's roster entry. -/
def State.ros8 (s : State) (k off : Nat) : Nat := s.tbl8 tid.roster (32 * k + off)
def State.ros16 (s : State) (k off : Nat) : Nat := s.tbl16 tid.roster (32 * k + off)

def State.cellKind (s : State) (k : Nat) : Nat := s.ros8 k 3
def State.cellLoop (s : State) (k : Nat) : Nat := bitsOf (s.ros8 k 1) 5 2
def State.cellPos (s : State) (k : Nat) : Nat := bitsOf (s.ros8 k 1) 0 5
def State.cellPhase (s : State) (k : Nat) : Nat := s.ros8 k 2
def State.cellPolarity (s : State) (k : Nat) : Bool := (s.ros8 k 5).testBit 1
def State.cellDumpFitted (s : State) (k : Nat) : Bool := (s.ros8 k 5).testBit 0
def State.cellReserveSrc (s : State) (k : Nat) : Nat := s.ros8 k 6
def State.cellVRated (s : State) (k : Nat) : Nat := s.ros16 k 8
def State.cellVMin (s : State) (k : Nat) : Nat := s.ros16 k 0xA
def State.cellVMax (s : State) (k : Nat) : Nat := s.ros16 k 0xC
def State.cellPRated (s : State) (k : Nat) : Nat := s.ros16 k 0xE
def State.cellIRated (s : State) (k : Nat) : Nat := s.ros16 k 0x10
def State.cellCdc (s : State) (k : Nat) : Nat := s.ros16 k 0x12
def State.cellTLimit (s : State) (k : Nat) : Int := signed 16 (s.ros16 k 0x14)
def State.cellStationId (s : State) (k : Nat) : Nat := s.tbl32 tid.roster (32 * k + 0x18)

/-- The cell is present (its roster KIND is not 0). -/
def State.present (s : State) (k : Nat) : Bool := s.cellKind k != kind.absent

/-- The cell ids. -/
def cellIds : List Nat := List.range 128

/-- The present cells of a wing loop, in ascending id. -/
def State.loopCells (s : State) (n : Nat) : List Nat :=
  cellIds.filter fun k => s.present k && s.cellLoop k == n

/-- The present cells of a phase, in ascending id. -/
def State.phaseCells (s : State) (x : Nat) : List Nat :=
  cellIds.filter fun k => s.present k && s.cellPhase k == x

/-- The present cell at a station position of a loop. -/
def State.cellAt (s : State) (n p : Nat) : Option Nat :=
  cellIds.find? fun k => s.present k && s.cellLoop k == n && s.cellPos k == p

/-! The end of a command -/

/-- One table's memory rebuilt in canonical form. -/
def TableMem.canon (id : Nat) (m : TableMem) : TableMem :=
  { m with work := Sparse.canon (tableReset id) m.work, stored := Sparse.canon (tableReset id) m.stored }

/-- The table memories rebuilt in canonical form. -/
def canonTables (m : SMap TableMem) : SMap TableMem :=
  Sparse.canon (fun _ => {}) (m.map fun e => (e.1, e.2.canon e.1))

/-- What an effect leaves once it has happened: the queue and the time as they stood when it came about, and the register file, the captures
and the table memories in their canonical form, in which they read as before. -/
def State.settle (s a x : State) : State :=
  { x with
    pending := s.pending
    elapsed := a.elapsed
    regs := Sparse.canon resetVal x.regs
    latched := Sparse.canon (fun _ => 0) x.latched
    tables := if x.tables = s.tables then s.tables else canonTables x.tables }

/-- How a command acts (the shape of every meaning): time passes up to the tick at which the command comes about, and its effect
happens. -/
def State.run (s : State) (t : Nat) (f : State → State) : Host.Outcome State Fault Refusal :=
  .next (s.settle (s.advance t) (f (s.advance t)))

end Sys2Proof.Machine
end

