-- ==== Sys2Proof/Machine/Router.lean ====
section
/-! DEFINITION. Sys2Proof/Machine/Router.lean: the event router and the interrupt controller (spec/02 R64 to R71, spec/14). -/

namespace Sys2Proof.Machine

/-! Vectors (R583 to R589) -/

/-- Causes waiting at a source. -/
def State.causes (s : State) (src : Nat) : Nat := Sparse.get (fun _ => 0) s.router.causes src

def State.setCauses (s : State) (src n : Nat) : State :=
  { s with router := { s.router with causes := Sparse.set (fun _ => 0) s.router.causes src n } }

/-- The target byte of a source (R580). -/
def State.target (s : State) (src : Nat) : Nat :=
  bitsOf (s.reg (Reg.IRQ_TARGET (src / 4))).toNat (8 * (src % 4)) 8

/-- The source's mask bit (R582). -/
def State.masked (s : State) (src : Nat) : Bool := s.ibit (F.IRQ_MASK_MASK (src / 32)) (src % 32)

/-- The source is masked for the purpose of a commit now: a mask younger than 64 ns does not yet act (R588). -/
def State.maskedForCommit (s : State) (src : Nat) : Bool :=
  s.masked src && !s.router.maskWrites.any fun w => w.sources.contains src && s.elapsed < w.time + 64

/-- The sources that target a vector. -/
def State.sourcesOf (s : State) (v : Nat) : List Nat :=
  (List.range 256).filter fun src => s.target src == 64 + v

/-- The cause count c of a vector: the causes of its unmasked sources (R583). -/
def State.causeCount (s : State) (v : Nat) : Nat :=
  (((s.sourcesOf v).filter fun src => !s.masked src).map s.causes).sum

/-- The cause count as a commit now sees it (R588). -/
def State.commitCount (s : State) (v : Nat) : Nat :=
  (((s.sourcesOf v).filter fun src => !s.maskedForCommit src).map s.causes).sum

def State.vec (s : State) (v : Nat) : Vec := Sparse.get (fun _ => {}) s.router.vecs v

def State.setVec (s : State) (v : Nat) (x : Vec) : State :=
  { s with router := { s.router with vecs := Sparse.set (fun _ => {}) s.router.vecs v x } }

/-- A vector with causes becomes due (R585): COUNT reached, HOLDOFF elapsed, or the idle hint set. -/
def State.vecDue (s : State) (v : Nat) (start : Nat) : Bool :=
  let c := s.commitCount v
  s.get (F.IRQ_VEC_COUNT v) ≤ c ||
    (1 ≤ c && (s.bit F.HOST_STATUS_IDLE || s.expired start (s.get (F.IRQ_VEC_HOLDOFF v) * 1000)))

/-- A vector's state judged anew (R585, R586). -/
def State.judge (v : Nat) (s : State) : State :=
  let x := s.vec v
  match x.phase with
  | .idle =>
    if s.causeCount v = 0 then s
    else s.setVec v { phase := if s.vecDue v s.elapsed then .due else .gather, start := s.elapsed }
  | .gather =>
    if s.commitCount v = 0 then s.setVec v {}
    else if s.vecDue v x.start then s.setVec v { x with phase := .due } else s
  | .due => if s.commitCount v = 0 then s.setVec v {} else s
  | .sending => s
  | .inService => s

/-- Every vector judged anew; timers are frozen in tableau (R596). -/
def State.judgeAll (s : State) : State :=
  if s.tableau then s else s.each (List.range 64) State.judge

/-- One cause added to a source, saturating at 255 (R583, R589). The instant at which its vector's count rises from 0 is the start
of the holdoff (R585). -/
def State.addCause (src : Nat) (s : State) : State :=
  let tgt := s.target src
  let s' := s.setCauses src (min 255 (s.causes src + 1))
  if tgt / 64 = 1 then
    let v := tgt % 64
    if s.masked src then s'
    else
      let s' := if s.causeCount v = 0 then s'.setVec v { s'.vec v with start := s.elapsed } else s'
      s'.judge v
  else s'

/-- A message leaves for the link (R584, R586): counted, and its vector goes to IN_SERVICE, or to GATHER or IDLE. -/
def State.sendMessage (c : Commit) (s : State) : State :=
  let v := c.vec
  let m : Message :=
    if s.bit F.IRQ_STATUS_MSIX then
      let e := Sparse.get (fun _ => (0, 0)) s.router.msixTable v
      { vec := v, number := v, addr := e.1, data := e.2 }
    else { vec := v, number := v % s.router.msiCount, addr := 0, data := 0 }
  let s := ({ s with router := { s.router with messages := s.router.messages ++ [m] } }).count F.IRQ_MSGS_COUNT
  if s.bit (F.IRQ_VEC_EOI_MODE v) then s.setVec v { s.vec v with phase := .inService }
  else if s.causeCount v = 0 then s.setVec v {}
  else (s.setVec v { s.vec v with phase := .gather }).judge v

/-- MSI or MSI-X is enabled (R584). -/
def State.msiOn (s : State) : Bool := s.bit F.IRQ_STATUS_MSIX || s.bit F.IRQ_STATUS_MSI

/-- The better of two due vectors: higher PRIO, then lower number (R587). -/
def State.better (s : State) (a b : Nat) : Nat :=
  if s.get (F.IRQ_VEC_PRIO a) < s.get (F.IRQ_VEC_PRIO b) then b else a

/-- The vector the delivery engine takes next (R587). -/
def State.nextVector (s : State) : Option Nat :=
  match (List.range 64).filter fun v => (s.vec v).phase == .due with
  | [] => none
  | v :: vs => some (vs.foldl s.better v)

/-! Records (R578, R579) -/

/-- The record of a released event is staged for ring 2, or dropped when the ring takes none. -/
def State.record (e : Event) (s : State) : State :=
  if s.ringRoom 2 then
    let s' := s.stage { ring := 2, body := recordBytes e (s.get F.EVENT_REC_SEQ_SEQ) s.router.dropped,
                        stamp := e.stamp, late := e.late, cmd := none, status := 0 }
    { s' with router := { s'.router with dropped := 0 } }.countWrap F.EVENT_REC_SEQ_SEQ
  else
    let s := ((s.foundFull 2).count F.EVENT_REC_DROP_COUNT).setBit F.EVENT_STATUS_REC_LOST true
    { s with router := { s.router with dropped := min 0xFFFFFFFF (s.router.dropped + 1) } }

/-! The safety processor (R590, R591) -/

/-- An event queued for the safety processor (32 entries), or dropped with SP_DROP, which is itself never queued. -/
def State.spPut (e : Event) (s : State) : State :=
  if e.num = 9 then s
  else if s.router.spQueue.length < 32 then
    { s with router := { s.router with spQueue := s.router.spQueue ++ [e] } }
  else (s.count F.IRQ_SP_DROP_COUNT).raise 9

/-- One event taken by the safety processor: counted, and logged unless the log is frozen. -/
def State.spTake (e : Event) (s : State) : State :=
  let s := s.count F.IRQ_SP_EVENTS_COUNT
  if s.bit F.IRQ_STATUS_SP_FROZEN then s
  else
    let i := s.get F.IRQ_STATUS_LOG_NEXT
    let s := s.set (F.IRQ_SP_LOG_LO_STAMP i) e.stamp
    let s := s.set (F.IRQ_SP_LOG_HI_STAMP i) (e.stamp / 2 ^ 32)
    let s := s.set (F.IRQ_SP_LOG_HI_NUMBER i) e.num
    let s := s.set (F.IRQ_SP_LOG_HI_INSTANCE i) e.inst
    s.set F.IRQ_STATUS_LOG_NEXT ((i + 1) % 16)

/-- The safety processor takes its queue, in release order. -/
def State.spTakeAll (s : State) : State :=
  let q := s.router.spQueue
  { s with router := { s.router with spQueue := [] } }.each q State.spTake

/-! Sinks (R592 to R595) -/

def State.sink (s : State) (k : Nat) : Sink := Sparse.get (fun _ => {}) s.router.sinks k

def State.setSink (s : State) (k : Nat) (x : Sink) : State :=
  { s with router := { s.router with sinks := Sparse.set (fun _ => {}) s.router.sinks k x } }

/-- A sink's enabled inputs, ascending. -/
def State.sinkEnabled (s : State) (k : Nat) : List Nat :=
  (List.range 4).filter fun j => s.ibit (F.EVENT_SINK_CFG_EN k) j

/-- The enabled inputs of a sink that take an event (R592). -/
def State.sinkTakes (s : State) (k : Nat) (e : Event) : List Nat :=
  (s.sinkEnabled k).filter fun j =>
    bitsOf (s.reg (Reg.EVENT_SINK_IN k)).toNat (8 * j) 8 == e.num &&
      (!s.ibit (F.EVENT_SINK_CFG_IMATCH k) j || e.inst == s.get (F.EVENT_SINK_CFG_INST k))

/-- A sink's open window closed without output where an instant has reached its end (R594). -/
def State.sinkClose (k at_ : Nat) (s : State) : State :=
  let x := s.sink k
  match x.window with
  | none => s
  | some u0 =>
    if u0 + s.get (F.EVENT_SINK_CFG_PARAM k) * 1000 ≤ at_ then
      (s.setSink k { x with window := none, seen := [] }).count F.EVENT_WIN_LOST_COUNT
    else s

/-- The inputs seen after an occurrence that the inputs `js` take: in SEQ an input counts only in its turn (R594). -/
def sinkSeen (ordered : Bool) (enabled js seen : List Nat) : List Nat :=
  js.foldl (fun seen j =>
    if !seen.contains j && (!ordered || enabled[seen.length]? == some j) then seen ++ [j] else seen) seen

/-- One occurrence that the inputs `js` of a sink take, under its MODE (R594): the sink after it, and whether it outputs. A released event is
one occurrence however many of the inputs take it, and one stamped before an open window lies outside it: DEDUCED (log 216). -/
def sinkStep (mode param : Nat) (enabled : List Nat) (stamp : Nat) (js : List Nat) (x : Sink) : Sink × Bool :=
  match mode with
  | 0 => (x, true)
  | 3 => if param ≤ x.count + 1 then ({ x with count := 0 }, true) else ({ x with count := x.count + 1 }, false)
  | _ =>
    if stamp < x.window.getD 0 then (x, false)
    else
      let seen := sinkSeen (mode == 2) enabled js x.seen
      if seen.isEmpty then (x, false)
      else if seen.length = enabled.length then ({ x with window := none, seen := [] }, true)
      else ({ x with window := some (x.window.getD stamp), seen := seen }, false)

/-- A sink's output goes to its consumer (R595): counted; sinks 60 to 63 start the pulse of their EVIO pin at the next STAGE tick, or extend it
to 1 000 ns after this output. -/
def State.sinkOutput (k : Nat) (s : State) : State :=
  let s := s.countWrap (F.EVENT_SINK_COUNT_COUNT k)
  let until_ := match Sparse.get (fun _ => none) s.router.pulseEnd (k - 60) with
    | none => s.elapsed + 1002
    | some e => max e (s.elapsed + 1000)
  if 60 ≤ k && bitsOf (s.reg Reg.DATUM_EVIO_FUNC).toNat (4 * (k - 60)) 4 == 4 then
    { s with router := { s.router with
        pulseEnd := Sparse.set (fun _ => none) s.router.pulseEnd (k - 60) (some until_)
        evioPin := Sparse.set (fun _ => .highZ) s.router.evioPin (k - 60) .high } }
  else s

/-- An event presented to one sink (R592 to R594): the state after it and the combined events it makes. -/
def State.present1 (e : Event) (k : Nat) (sa : State × List Event) : State × List Event :=
  match sa.1.sinkTakes k e with
  | [] => sa
  | js =>
    let s := sa.1.sinkClose k e.stamp
    let r := sinkStep (s.get (F.EVENT_SINK_CFG_MODE k)) (s.get (F.EVENT_SINK_CFG_PARAM k)) (s.sinkEnabled k)
      e.stamp js (s.sink k)
    let s := s.setSink k r.1
    if r.2 then
      (s.sinkOutput k, if k < 16 then sa.2 ++ [({ stamp := e.stamp, num := 240 + k, late := e.late, held := e.held } : Event)]
                       else sa.2)
    else (s, sa.2)

/-! Release (R577) -/

/-- A released event processed whole before the next (R577); combined events follow directly after the occurrence that completed
them (R594). A combined event feeds only sinks of higher number (R593), so 17 levels are enough. -/
def State.processEvent : Nat → Event → State → State
  | 0, _, s => s
  | fuel + 1, e, s =>
    let s := s.when (s.ibit (F.EVENT_RECORD_REC (e.num / 32)) (e.num % 32)) (State.record e)
    let s := s.addCause e.num
    let s := s.when (s.target e.num == 0x80) (State.spPut e)
    let r := (List.range 64).foldl (fun sa k => State.present1 e k sa) (s, [])
    r.2.foldl (fun s c => State.processEvent fuel c s) r.1

/-- A released event. -/
def State.release (e : Event) (s : State) : State := State.processEvent 17 e s

/-- The order of R66: stamp, number, instance index. -/
def eventBefore (a b : Event) : Bool :=
  a.stamp < b.stamp || (a.stamp == b.stamp && (a.num < b.num || (a.num == b.num && a.inst ≤ b.inst)))

/-- An event put in its place in R66 order. -/
def insertEvent (e : Event) : List Event → List Event
  | [] => [e]
  | x :: xs => if eventBefore e x then e :: x :: xs else x :: insertEvent e xs

/-- Events in R66 order. -/
def sortEvents (l : List Event) : List Event := l.foldr insertEvent []

/-- WINDOW of DATUM_MERGE in ns. -/
def State.mergeWindow (s : State) : Nat := s.get F.DATUM_MERGE_WINDOW * 100

/-- DATUM_HORIZON (R68); it stands still in tableau (R596). -/
def State.horizon (s : State) : Nat :=
  if s.tableau then s.router.frozenHorizon else s.datum + 2 - s.mergeWindow

/-- Every held event with a stamp before `h` released in R66 order (R67). -/
def State.releaseBefore (h : Nat) (s : State) : State :=
  let out := sortEvents (s.router.held.filter fun e => e.stamp < h)
  { s with router := { s.router with held := s.router.held.filter fun e => h ≤ e.stamp } }.each out State.release

/-- A step of datum time flushes the router (R718): every held event is released, and an event still on its way will be LATE. -/
def State.flushRouter (s : State) : State :=
  let out := sortEvents s.router.held
  { s with router := { s.router with
      held := []
      inflight := s.router.inflight.map fun (e : Event) => { e with late := true } } }.each out State.release

/-- An event at the router (R69, R596): held, or released at once with LATE where it is stamped before the horizon or before a
step; in tableau at most 256 are held and a further one is dropped. -/
def State.arrive (e : Event) (s : State) : State :=
  let known := s.router.inflight.find? fun x => x.stamp == e.stamp && x.num == e.num && x.inst == e.inst
  let late := match known with
    | some x => x.late
    | none => false
  let s := match known with
    | some x => { s with router := { s.router with inflight := s.router.inflight.erase x } }
    | none => s
  let e := { e with late := false, held := false }
  if s.tableau then
    if s.router.tabArrivals < 256 then
      { s with router := { s.router with held := insertEvent e s.router.held, tabArrivals := s.router.tabArrivals + 1 } }
    else (s.count F.EVENT_HOLD_DROP_COUNT).setBit F.EVENT_STATUS_HOLD_LOST true
  else if late || e.stamp < s.horizon then (s.count F.DATUM_LATE_COUNT_COUNT).release { e with late := true }
  else { s with router := { s.router with held := insertEvent e s.router.held } }

/-! Host writes held in tableau (spec/13 R569) -/

/-- A BAR0 write: at once, or held in tableau (64 at most; a further one is discarded and counted). -/
def State.bar0 (s : State) (addr : Nat) (data : Word) (f : State → State) : State :=
  if s.tableau then
    if (s.host.held.filter fun w => match w with | .bar0 _ _ => true | .doorbell _ _ => false).length < 64 then
      { s with host := { s.host with held := s.host.held ++ [.bar0 addr data] } }
    else s.count F.HOST_TABLEAU_DROP_COUNT
  else f s

/-- End of service of a vector (R586), or an EOI that is ignored (R589). -/
def State.eoi (data : Word) (s : State) : State :=
  let v := bitsOf data.toNat 0 6
  if (s.vec v).phase = .inService then
    if s.causeCount v = 0 then s.setVec v {}
    else (s.setVec v { phase := .gather, start := s.elapsed }).judge v
  else ((s.setBit F.IRQ_STATUS_EOI_BAD true).count F.IRQ_EOI_BAD_COUNT).raise 8 v

/-- A write of IRQ_MASKm (R582, R588): in force at once for the path to a vector, but a commit within 64 ns of it still takes the
masked sources' causes; a count that unmasking raises from 0 starts its holdoff (R585). -/
def State.writeMask (m : Nat) (data : Word) (s : State) : State :=
  let s := s.judgeAll
  let new := (List.range 32).filter fun j => data.getLsbD j && !s.masked (32 * m + j)
  let before := s
  let keep := s.router.maskWrites.filter fun w => s.elapsed < w.time + 64
  let s := { s with router := { s.router with
    maskWrites := keep ++ [({ time := s.elapsed, sources := new.map (32 * m + ·) } : MaskWrite)] } }
  let s := (s.setReg (Reg.IRQ_MASK m) data).each (List.range 64) fun v s =>
    if before.causeCount v = 0 && s.causeCount v ≠ 0 then s.setVec v { s.vec v with start := s.elapsed } else s
  s.judgeAll

/-! The commands -/

/-- EVENT_ARRIVAL (R69, R596). -/
def execEventArrival (t : Nat) (e : Event) (s : State) : Host.Outcome State Fault Refusal :=
  s.run t (State.arrive e)

/-- EVENT_RELEASE (R67, R577): nothing is released in tableau (R596). -/
def execEventRelease (t : Nat) (s : State) : Host.Outcome State Fault Refusal :=
  s.run t fun s => if s.tableau then s else s.releaseBefore s.horizon

/-- HOLDOFF_EXPIRY (R585). -/
def execHoldoffExpiry (t : Nat) (vec : Fin 64) (s : State) : Host.Outcome State Fault Refusal :=
  s.run t fun s => if s.tableau then s else s.judge vec

/-- VECTOR_COMMIT (R587, R588): the free engine commits the best due vector, while messages may be sent. -/
def execVectorCommit (t : Nat) (s : State) : Host.Outcome State Fault Refusal :=
  s.run t fun s =>
    if s.tableau then s
    else
      let s := s.judgeAll
      if s.msiOn && s.busOpen && s.router.commit.isNone then
        match s.nextVector with
        | none => s
        | some v =>
          let srcs := (s.sourcesOf v).filter fun src => !s.maskedForCommit src && s.causes src != 0
          let taken := srcs.map fun src => (src, s.causes src)
          let s := s.each srcs fun src s => s.setCauses src 0
          let s := s.setVec v { s.vec v with phase := .sending }
          { s with router := { s.router with commit := some { vec := v, taken := taken, time := s.elapsed } } }
      else s

/-- Withheld messages that no per-vector mask holds any longer are sent, while messages may be (R535, R588). -/
def State.sendWithheld (s : State) : State :=
  if s.busOpen && !s.tableau then
    let held := fun (c : Commit) => s.router.vecMask.any fun (m : Nat × Nat) => m.1 == c.vec
    let out := s.router.withheld.filter fun c => !held c
    { s with router := { s.router with withheld := s.router.withheld.filter held } }.each out State.sendMessage
  else s

/-- MESSAGE_ISSUED (R586 to R589, R535): the committed message is issued; a per-vector mask 64 ns or more older than the
commit withholds it; without MSI and MSI-X the vector is DUE again with its causes restored. -/
def execMessageIssued (t : Nat) (s : State) : Host.Outcome State Fault Refusal :=
  s.run t fun s =>
    match s.router.commit with
    | none => s.sendWithheld
    | some c =>
      if !s.busOpen || s.tableau then s
      else
        let s := { s with router := { s.router with commit := none } }
        if !s.msiOn then
          let s := s.each c.taken fun p s => s.setCauses p.1 (min 255 (s.causes p.1 + p.2))
          s.setVec c.vec { s.vec c.vec with phase := .due }
        else if s.router.vecMask.any fun m => m.1 == c.vec && m.2 + 64 ≤ c.time then
          { s with router := { s.router with withheld := s.router.withheld ++ [c] } }
        else s.sendMessage c

/-- IRQ_EOI (R586, R589). -/
def execIrqEoi (t : Nat) (data : Word) (s : State) : Host.Outcome State Fault Refusal :=
  s.run t fun s => s.bar0 Reg.IRQ_EOI data (State.eoi data)

/-- IRQ_MASK_WRITE (R582, R588). -/
def execIrqMaskWrite (t : Nat) (m : Fin 8) (data : Word) (s : State) : Host.Outcome State Fault Refusal :=
  s.run t fun s => s.bar0 (Reg.IRQ_MASK m) data (State.writeMask m data)

/-- SINK_WINDOW_CLOSE (R594): a window whose end the release instant has reached closes without output. -/
def execSinkWindowClose (t : Nat) (sink : Fin 64) (s : State) : Host.Outcome State Fault Refusal :=
  s.run t fun s => if s.tableau then s else s.sinkClose sink (s.datum - s.mergeWindow)

/-- SINK_PULSE_END (R595): the pulse of an EVIO pin ends; in tableau the pin keeps its level (R596). -/
def execSinkPulseEnd (t : Nat) (pin : Fin 4) (s : State) : Host.Outcome State Fault Refusal :=
  s.run t fun s =>
    match Sparse.get (fun _ => none) s.router.pulseEnd pin with
    | none => s
    | some e =>
      if e ≤ s.elapsed && !s.tableau then
        { s with router := { s.router with
            pulseEnd := Sparse.set (fun _ => none) s.router.pulseEnd pin none
            evioPin := Sparse.set (fun _ => .highZ) s.router.evioPin pin .low } }
      else s

/-- MSI_ENABLE_OR_VECTOR_MASK (R584, R588, R589): the configuration space is in service in tableau too (R569). -/
def execMsiEnableOrVectorMask (t : Nat) (w : MsiWrite) (s : State) : Host.Outcome State Fault Refusal :=
  s.run t fun s =>
    match w with
    | .msix on => s.setBit F.IRQ_STATUS_MSIX on
    | .msi none => s.setBit F.IRQ_STATUS_MSI false
    | .msi (some k) =>
      { s with router := { s.router with msiCount := max 1 (min 32 k) } }.setBit F.IRQ_STATUS_MSI true
    | .entry vec addr data =>
      { s with router := { s.router with
          msixTable := Sparse.set (fun _ => (0, 0)) s.router.msixTable vec (addr.toNat, data.toNat) } }
    | .mask vec true =>
      { s with router := { s.router with
          vecMask := (vec.val, s.elapsed) :: s.router.vecMask.filter fun m => m.1 != vec.val } }
    | .mask vec false =>
      { s with router := { s.router with vecMask := s.router.vecMask.filter fun m => m.1 != vec.val } }.sendWithheld

end Sys2Proof.Machine
end

