-- ==== Sys2Proof/Machine/HostIf.lean ====
section
/-! DEFINITION. Sys2Proof/Machine/HostIf.lean: the host interface: doorbells, descriptor fetch and dispatch, reads that fail, ring
writes, loss of the host (spec/13). The commands that need other blocks stand with them. -/

namespace Sys2Proof.Machine

/-- A state with another host interface. -/
def State.mapHost (s : State) (f : HostIf → HostIf) : State := { s with host := f s.host }

/-! Doorbells (R543, R544, R569) -/

/-- A refused doorbell (R544). -/
def State.doorbellBad (n : Nat) (s : State) : State :=
  ((s.setBit F.HOST_STATUS_DB_REJECT true).count F.HOST_DB_REJECT_COUNT).raise 1 n

/-- A doorbell value meets R543. -/
def State.doorbellFits (s : State) (n v : Nat) : Bool :=
  let ci := s.get (F.HOST_RING_CI_CI n)
  let ahead := (v + 2 ^ 32 - ci) % 2 ^ 32
  s.bit (F.HOST_RING_CFG_EN n) &&
    (if n = 0 then s.ringOcc 0 ≤ ahead && ahead ≤ s.ringSize 0 else ahead ≤ s.ringOcc n)

/-- A doorbell judged at its turn (R543, R544). -/
def State.doorbell (n v : Nat) (s : State) : State :=
  if s.doorbellFits n v then
    if n = 0 then s.set (F.HOST_RING_PI_PI 0) v else s.set (F.HOST_RING_CI_CI n) v
  else s.doorbellBad n

/-- A write held in tableau is a doorbell of ring `n`. -/
def HeldWrite.isDoorbell (n : Nat) : HeldWrite → Bool
  | .bar0 _ _ => false
  | .doorbell m _ => m == n

/-- DOORBELL (R543, R544); in tableau the latest doorbell of each ring is held, in its own arrival place (R569). -/
def execDoorbell (t : Nat) (ring : Fin 6) (value : Word) (be : BitVec 4) (s : State) :
    Host.Outcome State Fault Refusal :=
  s.run t fun s =>
    if be ≠ 15 then s.doorbellBad ring
    else if s.tableau then
      s.mapHost fun h => { h with
        held := (h.held.filter fun w => !w.isDoorbell ring) ++ [.doorbell ring value.toNat] }
    else s.doorbell ring value.toNat

/-- IDLE_HINT (R534): in force at once, in the moderation too (R585). -/
def execIdleHint (t : Nat) (data : Word) (s : State) : Host.Outcome State Fault Refusal :=
  s.run t fun s => (s.setBit F.HOST_STATUS_IDLE (data.getLsbD 0)).judgeAll

/-! Fetch and dispatch (R545 to R549) -/

/-- The opcode transfers a payload (R556). -/
def opcPayload (opc : Nat) : Bool := [2, 3, 7, 0xB, 0xC, 0xF].contains opc

/-- Outstanding commands, the reads in flight counted with what they reserved (R545). -/
def State.outstanding (s : State) : Nat :=
  (s.host.reads.map DescRead.count).sum + s.host.fetched.length + s.host.timed.length + s.host.dispatched.length +
    (s.stagedFor 1).length

/-- Ring-1 entries that can still be reserved (R545). -/
def State.reservable (s : State) : Nat := s.ringSize 1 - s.ringOcc 1 - s.outstanding

/-- DESCRIPTOR_FETCH (R545, R546): the next descriptors, four at most, not across the end of the ring, each with its reserved
ring-1 entry, while the bus is open and a read may be outstanding (R531). -/
def execDescriptorFetch (t : Nat) (s : State) : Host.Outcome State Fault Refusal :=
  s.run t fun s =>
    let flying := (s.host.reads.map DescRead.count).sum
    let next := (s.get (F.HOST_RING_CI_CI 0) + flying) % 2 ^ 32
    let n := s.ringSize 0
    let k := min (min 4 (s.ringOcc 0 - flying)) (min (n - next % n) s.reservable)
    if s.bit (F.HOST_RING_CFG_EN 0) && !s.bit (F.HOST_RING_STATE_STOPPED 0) && s.busOpen && !s.tableau && k ≠ 0 &&
        s.host.reads.length + s.host.payloads.length < 16 then
      s.mapHost fun h => { h with reads := h.reads ++ [{ idx := next, count := k, retried := false }] }
    else s

/-- The common checks 1 to 6 of R549. -/
def commonChecks (d : Desc) : List (Bool × Nat × Nat) :=
  let timed := d.flags.getLsbD 2
  let pay := opcPayload d.opc.toNat
  [(d.opc = 0 || 15 < d.opc.toNat, st.opcUnknown, d.opc.toNat),
   (8 ≤ d.flags.toNat, st.targetRange, 0xF1),
   (timed == (d.execTime == 0), st.targetRange, 0xF2),
   (d.execTime.getLsbD 0, st.targetRange, 0xF3),
   (pay && (d.hostAddr.toNat % 8 ≠ 0 || 2 ^ 64 < d.hostAddr.toNat + d.len.toNat), st.targetRange, 0xF4),
   (!pay && d.hostAddr ≠ 0, st.targetRange, 0xF5)]

/-- A descriptor goes to its opcode's owner (R546), traced where asked (R570). -/
def State.dispatch (d : Desc) (s : State) : State :=
  (s.mapHost fun h => { h with dispatched := h.dispatched ++ [d] }).traceCmd d 0xFF

/-- A timed descriptor enters the timed queue, after checks 7 and 8 of R549. -/
def State.enterTimed (d : Desc) (s : State) : State :=
  if 64 ≤ s.host.timed.length then s.stageDone d st.stateRefused 0xF6 s.datum
  else if d.execTime.toNat < s.datum then
    s.stageDone d st.timePast (min 0xFFFFFFFF (s.datum - d.execTime.toNat)) s.datum
  else s.mapHost fun h => { h with timed := h.timed ++ [d] }

/-- Every earlier command has completed, its completion entry written (R546). -/
def State.fenceMet (s : State) : Bool :=
  s.host.timed.isEmpty && s.host.dispatched.isEmpty && (s.stagedFor 1).isEmpty

/-- Fetched descriptors dispatched in ring order, as far as fences let them (R546). -/
def State.pumpList : List Desc → State → State
  | [], s => s.mapHost fun h => { h with fetched := [] }
  | d :: ds, s =>
    if d.flags.getLsbD 1 && !s.fenceMet then s.mapHost fun h => { h with fetched := d :: ds }
    else if d.flags.getLsbD 2 then State.pumpList ds (s.enterTimed d)
    else State.pumpList ds (s.dispatch d)

/-- Dispatch of what has been fetched; frozen in tableau (R569). -/
def State.serveFetched (s : State) : State := if s.tableau then s else s.pumpList s.host.fetched

/-- A copied descriptor: checked, and queued for dispatch where no common check fails (R546, R549). -/
def State.copied (d : Desc) (s : State) : State :=
  match firstFail (commonChecks d) with
  | some (status, detail) => s.stageDone d status detail s.datum
  | none => s.mapHost fun h => { h with fetched := h.fetched ++ [d] }

/-- A read that needed its retry has succeeded (R567). -/
def State.readDone (retried : Bool) (s : State) : State :=
  s.when retried fun s => s.transient F.HOST_DMA_TRANSIENT_COUNT

/-- DESCRIPTOR_READ_COMPLETE (R546, R549): the oldest read in flight brings its descriptors. -/
def execDescriptorReadComplete (t : Nat) (descs : List Desc) (s : State) : Host.Outcome State Fault Refusal :=
  s.run t fun s =>
    match s.host.reads with
    | [] => s
    | r :: rs =>
      if descs.length = r.count then
        let s := (s.mapHost fun h => { h with reads := rs }).readDone r.retried
        let s := s.set (F.HOST_RING_CI_CI 0) (s.get (F.HOST_RING_CI_CI 0) + r.count)
        (s.each descs State.copied).serveFetched
      else s

/-- The timed descriptors that are due, in EXEC_TIME order, equal times in ring order (R546). -/
def insertTimed (d : Desc) : List Desc → List Desc
  | [] => [d]
  | x :: xs => if d.execTime.toNat ≤ x.execTime.toNat then d :: x :: xs else x :: insertTimed d xs

/-- Every due timed descriptor dispatched (R546). -/
def State.dispatchTimed (s : State) : State :=
  let due := (s.host.timed.filter fun d => d.execTime.toNat ≤ s.datum).foldr insertTimed []
  (s.mapHost fun h => { h with timed := h.timed.filter fun d => s.datum < d.execTime.toNat }).each due State.dispatch

/-- TIMED_DISPATCH (R546); the timed queue is frozen in tableau (R569). -/
def execTimedDispatch (t : Nat) (s : State) : Host.Outcome State Fault Refusal :=
  s.run t fun s => if s.tableau then s else s.dispatchTimed

/-! Reads that fail (R567) -/

/-- A lasting read failure: recorded and raised. -/
def State.dmaFault (kind addr : Nat) (payload : Bool) (s : State) : State :=
  let s := s.setPair Reg.HOST_FAULT_ADDR_LO addr
  let s := s.setBit F.HOST_FAULT_PAYLOAD payload
  let s := s.set F.HOST_FAULT_RING 0
  let s := s.set F.HOST_FAULT_KIND kind
  ((s.count F.HOST_DMA_FAULTS_COUNT).setBit F.HOST_STATUS_DMA_FAULT true).raise 2 (if payload then 7 else 0)

/-- The address of ring 0's entry with index `i` (R538). -/
def State.slotAddr (s : State) (n size i : Nat) : Nat := s.pair (Reg.HOST_RING_BASE_LO n) + size * (i % s.ringSize n)

/-- COMPLETION_TIMEOUT (R531, R567): a failed read is retried once; its second failure is lasting and stops ring 0 or fails the command. A
payload is read in blocks of 128 bytes, each with its own retry. -/
def execCompletionTimeout (t : Nat) (read : ReadId) (kind : BitVec 2) (s : State) : Host.Outcome State Fault Refusal :=
  s.run t fun s =>
    match read with
    | .descr i =>
      match s.host.reads.find? fun r => r.idx == i with
      | none => s
      | some r =>
        if r.retried then
          let s := s.dmaFault kind.toNat (s.slotAddr 0 32 i) false
          let s := s.setBit (F.HOST_RING_STATE_STOPPED 0) true
          s.mapHost fun h => { h with reads := h.reads.takeWhile fun x => x.idx != i }
        else s.mapHost fun h => { h with
          reads := h.reads.map fun x => if x.idx == i then { x with retried := true } else x }
    | .payload d block =>
      match s.host.payloads.find? fun r => r.desc == d with
      | none => s
      | some r =>
        if d.len.toNat ≤ 128 * block then s
        else if r.retried.contains block then
          let s := s.dmaFault kind.toNat (d.hostAddr.toNat + 128 * block) true
          (s.mapHost fun h => { h with payloads := h.payloads.erase r }).refuse d st.dmaFault kind.toNat
        else s.mapHost fun h => { h with
          payloads := h.payloads.erase r ++ [{ r with retried := block :: r.retried }] }

/-! The opcodes NOP and TABLE_READ (R557, R558) -/

/-- NOP (R557). -/
def execNop (t : Nat) (d : Desc) (s : State) : Host.Outcome State Fault Refusal :=
  s.run t fun s =>
    s.checked d
      [(d.target ≠ 0, st.targetRange, 0), (d.len ≠ 0, st.lenRange, 0), (d.p0 ≠ 0 || d.p1 ≠ 0, st.targetRange, 0)]
      fun s => s.finish d

/-- Checks 1 to 3 of R558, shared by TABLE_LOAD and TABLE_READ. -/
def tableChecks (d : Desc) : List (Bool × Nat × Nat) :=
  let id := d.target.toNat
  [(id = 0 || 12 < id, st.targetRange, 0), (d.p1 ≠ 0, st.targetRange, 0x10),
   (d.len = 0 || tableSize id < d.p0.toNat + d.len.toNat, st.lenRange, tableSize id)]

/-- TABLE_READ (R558). -/
def execTableRead (t : Nat) (d : Desc) (s : State) : Host.Outcome State Fault Refusal :=
  s.run t fun s =>
    s.checked d (tableChecks d) fun s =>
      (s.hostWrite d.hostAddr.toNat (s.tblBytes d.target.toNat d.p0.toNat d.len.toNat)).finish d

/-! Ring writes (R537 to R540, R552) -/

/-- Entry size of a ring and the offset of its phase dword (R537, R540). -/
def ringEntry (n : Nat) : Nat × Nat :=
  [(32, 0), (16, 0), (32, 0x1C), (64, 0x3C), (128, 0x40), (32, 0x1C)].getD n (0, 0)

/-- The phase bit of the entry with index `i` in a ring of `size` entries (R539). -/
def phaseBit (i size : Nat) : Nat := if i / size % 2 = 0 then 1 else 0

/-- The phase dword of an entry with its phase bit: byte 0x03 bit 0 of a completion, else bit 0 of the dword (R537). -/
def phaseDword (n : Nat) (body : List Byte) (phase : Nat) : List Byte :=
  let w := body.extract (ringEntry n).2 ((ringEntry n).2 + 4)
  if n = 1 then w.take 3 ++ [BitVec.ofNat 8 phase] else [BitVec.ofNat 8 phase] ++ w.drop 1

/-- The two writes of an entry, its phase dword last (R540). -/
def State.putEntry (n : Nat) (body : List Byte) (s : State) : State :=
  let (size, pos) := ringEntry n
  let i := s.get (F.HOST_RING_PI_PI n)
  let a := s.slotAddr n size i
  let ph := phaseDword n body (phaseBit i (s.ringSize n))
  let s := if pos = 0 then s.hostWrite (a + 4) (body.drop 4)
    else
      let s := s.hostWrite a (body.take pos)
      s.when (pos + 4 < size) fun s => s.hostWrite (a + pos + 4) (body.drop (pos + 4))
  (s.hostWrite (a + pos) ph).set (F.HOST_RING_PI_PI n) (i + 1)

/-- R71 lets a completion of this DONE_TIME be written: no event stamped at or before it that is not LATE can still come, none
is held, and none of its records waits for ring 2. -/
def State.eventsWritten (s : State) (done : Nat) : Bool :=
  done < s.horizon && s.router.held.all (fun e => done < e.stamp) &&
    (s.stagedFor 2).all fun e => e.late || done < e.stamp

/-- RING_WRITE (R540): the oldest staged entry of a ring is written once the bus permits and, for ring 1, R71; a completion
that asked for it raises CMD_DONE after its phase dword (R552). No ring entry is written in tableau (R569). -/
def execRingWrite (t : Nat) (ring : Fin 6) (s : State) : Host.Outcome State Fault Refusal :=
  s.run t fun s =>
    match s.stagedFor ring with
    | [] => s
    | e :: _ =>
      if s.busOpen && !s.tableau && s.bit (F.HOST_RING_CFG_EN ring) && (ring.val != 1 || s.eventsWritten e.stamp) then
        let s := s.mapHost fun h => { h with
          staged := h.staged.erase e
          fullArmed := if 2 ≤ ring.val then ring.val :: h.fullArmed.filter (· ≠ ring.val) else h.fullArmed
          traceArmed := h.traceArmed || ring.val == 5 }
        let s := s.putEntry ring e.body
        match e.cmd with
        | none => s
        | some d =>
          let s := (s.count F.HOST_CMDS_COUNT).traceCmd d e.status
          (s.when (d.flags.getLsbD 0) fun s => s.raise 0).serveFetched
      else s

/-! Loss of the host (R535, R536) -/

/-- BUS_MASTER_ENABLE (R535): what has waited proceeds in its order once the bus is open. -/
def execBusMasterEnable (t : Nat) (bme d3hot : Bool) (s : State) : Host.Outcome State Fault Refusal :=
  s.run t fun s =>
    let s := (s.setBit F.HOST_STATUS_BME bme).mapHost fun h => { h with d3hot := d3hot }
    s.when s.busOpen fun s => s.mapHost fun h => { h with writes := h.writes ++ h.outbox, outbox := [] }

/-- What the host interface abandons when the host is lost (R536). -/
def HostIf.lost (h : HostIf) : HostIf :=
  { h with reads := [], payloads := [], fetched := [], timed := [], dispatched := [], staged := [], outbox := [] }

/-- LINK_DOWN (R536). -/
def execLinkDown (t : Nat) (s : State) : Host.Outcome State Fault Refusal :=
  s.run t fun s =>
    let s := s.each (List.range 6) fun n s => s.setBit (F.HOST_RING_CFG_EN n) false
    let s := (s.unstage fun _ => true).mapHost HostIf.lost
    let s := (s.setBit F.HOST_STATUS_LINK_UP false).set F.HOST_STATUS_SPEED 0
    ((s.setBit F.HOST_STATUS_LINK_LOST true).noteClass 13).raise 5

/-- LINK_UP (R536). -/
def execLinkUp (t : Nat) (gen2 : Bool) (s : State) : Host.Outcome State Fault Refusal :=
  s.run t fun s =>
    ((s.setBit F.HOST_STATUS_LINK_UP true).set F.HOST_STATUS_SPEED (if gen2 then 2 else 1)).raise 5

/-! Ring set-up (R541, R542) -/

/-- R541 or R575 refuses a write of HOST_RINGn_CFG. -/
def State.ringCfgRefused (s : State) (n : Nat) (data : Word) : Bool :=
  let log2 := bitsOf data.toNat 0 5
  let en := s.bit (F.HOST_RING_CFG_EN n)
  let new := data.getLsbD 31
  log2 < 4 || 16 < log2 || (en && log2 != s.get (F.HOST_RING_CFG_LOG2 n)) ||
    (n == 0 && !en && new && !s.bit (F.HOST_RING_CFG_EN 1)) ||
    (n == 1 && en && !new && (s.bit (F.HOST_RING_CFG_EN 0) || s.outstanding != 0))

/-- A write of HOST_RINGn_CFG (R541, R542). -/
def State.writeRingCfg (n : Nat) (data : Word) (s : State) : State :=
  if s.ringCfgRefused n data then s.setBit F.HOST_STATUS_CFG_REJECT true
  else
    let was := s.bit (F.HOST_RING_CFG_EN n)
    let s := (s.set (F.HOST_RING_CFG_LOG2 n) (bitsOf data.toNat 0 5)).setBit (F.HOST_RING_CFG_EN n) (data.getLsbD 31)
    if data.getLsbD 31 then
      if was then s
      else ((s.set (F.HOST_RING_PI_PI n) 0).set (F.HOST_RING_CI_CI n) 0).setReg (Reg.HOST_RING_STATE n) 0
    else (s.unstage (· == n)).mapHost fun h => { h with reads := if n = 0 then [] else h.reads }

/-- RING_ENABLE (R541, R542). -/
def execRingEnable (t : Nat) (ring : Fin 6) (data : Word) (s : State) : Host.Outcome State Fault Refusal :=
  s.run t fun s => s.bar0 (Reg.HOST_RING_CFG ring) data (State.writeRingCfg ring data)

end Sys2Proof.Machine
end

