-- ==== Sys2Proof/Machine/Wing.lean ====
section
/-! DEFINITION. Sys2Proof/Machine/Wing.lean: the wing loops' transmit side: commanded changes, orders in transport, frames, the halt on
the wire, training (spec/04). What a returned frame brings stands in Machine/WingRx.lean. -/

namespace Sys2Proof.Machine

def State.mapWing (s : State) (f : Wing → Wing) : State := { s with wing := f s.wing }

def State.tx (s : State) (c : Nat) : CellTx := Sparse.get (fun _ => {}) s.wing.cells c

def State.setTx (s : State) (c : Nat) (x : CellTx) : State :=
  s.mapWing fun w => { w with cells := Sparse.set (fun _ => {}) w.cells c x }

def State.loop (s : State) (n : Nat) : Loop := Sparse.get (fun _ => {}) s.wing.loops n

def State.setLoop (s : State) (n : Nat) (x : Loop) : State :=
  s.mapWing fun w => { w with loops := Sparse.set (fun _ => {}) w.loops n x }

/-! Frame timing (R167 to R171) -/

/-- The frame period P in ns (R167). -/
def State.framePeriod (s : State) : Nat := [1000, 500, 2000].getD (s.get F.WING_CTRL_PERIOD) 1000

/-- Slots of a frame (R168). -/
def State.frameSlots (s : State) : Nat := if s.get F.WING_CTRL_PERIOD = 1 then 16 else 32

/-- T_F(k) - S_k in ns (R168). -/
def State.frameTime (s : State) : Nat := if s.get F.WING_CTRL_PERIOD = 1 then 496 else 944

/-- The cue lead in ns (R169). -/
def State.cueLead (s : State) : Nat := 4 * s.get F.WING_DELTA_DELTA

/-- The act base A_k (R169). -/
def State.actBase (s : State) (k : Nat) : Nat := k * s.framePeriod + s.frameTime + s.cueLead

/-- The first frame that freezes at or after a datum instant (R171). -/
def State.frameFrom (s : State) (x : Nat) : Nat := (x + 40 + s.framePeriod - 1) / s.framePeriod

/-- The first unfrozen frame. -/
def State.openFrame (s : State) : Nat :=
  let k := s.frameFrom s.datum
  if s.wing.frozen.any fun f => f.k == k then k + 1 else k

def State.loopEnabled (s : State) (n : Nat) : Bool := s.ibit F.WING_CTRL_ENABLE n
def State.loopTrained (s : State) (n : Nat) : Bool := s.ibit F.WING_STATUS_TRAINED n
def State.loopHalted (s : State) (n : Nat) : Bool := s.ibit F.WING_STATUS_HALTED n
def State.loopFault (s : State) (n : Nat) : Bool := s.ibit F.WING_STATUS_LOOP_FAULT n
def State.linkFault (s : State) (c : Nat) : Bool := s.bit (F.WING_CELL_LINK_FAULT c)

/-! Legs and commanded changes (R18 to R22, R175 to R178) -/

/-- The four on-state combinations and the blocked state, as the high nibble of a cue. -/
abbrev legs.blocked : Nat := 0
abbrev legs.lowerZero : Nat := 5
abbrev legs.negative : Nat := 6
abbrev legs.positive : Nat := 9
abbrev legs.upperZero : Nat := 10

/-- The contribution of an on-state combination (R18); none where the legs are blocked. -/
def contribOf (l : Nat) : Option Int :=
  if l = legs.positive then some 1 else if l = legs.negative then some (-1) else if l = legs.blocked then none else some 0

/-- The two leg states exchanged (R19). -/
def exchangeLegs (l : Nat) : Nat := l % 4 * 4 + l / 4

/-- Changes that still matter: everything from the last one before `t` on. -/
def pruneHist (t : Nat) : List Change → List Change
  | a :: b :: rest => if b.time < t && b.placed.isSome then pruneHist t (b :: rest) else a :: b :: rest
  | l => l

/-- A change of a cell's legs commanded for act time `t`. -/
def State.command (s : State) (c t l : Nat) : State :=
  let x := s.tx c
  s.setTx c { x with hist := pruneHist (s.datum - 100000) x.hist ++ [({ time := t, legs := l } : Change)] }

/-- The frames of the loop carry blocked cues by themselves: it is halted (R176) or in training (R204). -/
def State.silent (s : State) (n : Nat) : Bool := s.loopHalted n || (s.loop n).train.isSome

/-- Blocked cues from the next unfrozen frame on, whatever lies ahead (R193): changes not yet carried, and those carried that would act
later, are given up. On a silent loop the frames carry the block by themselves, and a HALT has ended what lay ahead. -/
def State.blockNow (c : Nat) (s : State) : State :=
  let k := s.openFrame
  let a := s.actBase k
  let carried := s.silent (s.cellLoop c)
  let x := s.tx c
  let keep := x.hist.filter fun h => h.placed.isSome && h.time ≤ if carried then s.datum else a
  s.setTx c { x with hist := keep ++
    [({ time := a, legs := legs.blocked, placed := if carried then some k else none, acked := carried } : Change)] }

/-- The cell is blocked from the first unfrozen frame's act base on (R312), placed as R177 says; changes not yet carried are given up. -/
def State.block (c : Nat) (s : State) : State :=
  if s.silent (s.cellLoop c) then s.blockNow c
  else
    let x := s.tx c
    (s.setTx c { x with hist := x.hist.filter fun h => h.placed.isSome }).command c (s.actBase s.openFrame) legs.blocked

/-- The legs commanded for a cell at an instant: those of its last change at or before it. -/
def legsAt (t : Nat) (hist : List Change) : Nat :=
  match (hist.filter fun h => h.time ≤ t).getLast? with
  | some h => h.legs
  | none => legs.blocked

/-- The latest commanded legs of a cell. -/
def lastLegs (hist : List Change) : Nat :=
  match hist.getLast? with
  | some h => h.legs
  | none => legs.blocked

/-- The first change not yet carried placed in frame `k` with act base `a` where R177 lets it; whether it was late (R178). -/
def placeChange (k a : Nat) : Nat → List Change → List Change × Bool
  | _, [] => ([], false)
  | prev, h :: rest =>
    match h.placed with
    | some _ =>
      let r := placeChange k a h.time rest
      (h :: r.1, r.2)
    | none =>
      if h.time < a + 8192 && prev ≤ a then
        ({ h with placed := some k, time := max a h.time } :: rest, h.time < a)
      else (h :: rest, false)

/-- The cue of a cell in a frame with act base `a` (R176): its latest carried change, with the offset while it still lies ahead. -/
def cueOf (a : Nat) (swap : Bool) (hist : List Change) : Nat :=
  match (hist.filter fun h => h.placed.isSome).getLast? with
  | none => 0
  | some h =>
    let l := if swap then exchangeLegs h.legs else h.legs
    l * 4096 + (if a ≤ h.time then (h.time - a) / 2 else 0)

/-! Orders in transport (R179, R194) -/

/-- Order codes of R179. -/
abbrev order.bypassClose : Nat := 1
abbrev order.bypassOpen : Nat := 2
abbrev order.dumpOn : Nat := 3
abbrev order.dumpOff : Nat := 4
abbrev order.enableCycle : Nat := 5
abbrev order.sample : Nat := 6
abbrev order.resume : Nat := 7

def orderRead (a : Nat) : List Nat := [0x40 + a]
def orderWrite (a v : Nat) : List Nat := [0x80 + v % 64, 0xC0 + v / 64 % 64, 0x60 + a]

def Owner.isHost : Owner → Bool
  | .host _ => true
  | _ => false

def Owner.isBypass : Owner → Bool
  | .bypass _ => true
  | _ => false

def Owner.isDump : Owner → Bool
  | .dump _ => true
  | _ => false

def Owner.isTrain : Owner → Bool
  | .train => true
  | _ => false

def Owner.isResume : Owner → Bool
  | .resume => true
  | _ => false

/-- An order given to a cell; a bypass or a dump order takes the place of an earlier one of its kind. -/
def State.giveOrder (c : Nat) (o : Owner) (codes : List Nat) (s : State) : State :=
  let x := s.tx c
  let keep := x.orders.filter fun q => !((o.isBypass && q.owner.isBypass) || (o.isDump && q.owner.isDump))
  s.setTx c { x with orders := keep ++ [({ owner := o, codes := codes } : Order)] }

/-- The order has a code to be sent. -/
def Order.ready (o : Order) : Bool := o.next < o.codes.length

/-- A sequence of more than one code that has begun and is not done (R194): it holds the station's data latch. -/
def Order.begun (o : Order) : Bool := 1 < o.codes.length && (0 < o.next || o.second.isSome)

/-- The order can have its next code sent: outside training a sequence waits for another that has begun (R194). -/
def Order.free (orders : List Order) (o : Order) : Bool :=
  o.ready && (o.codes.length ≤ 1 || o.owner.isTrain || !(orders.any fun q => q != o && q.begun))

/-- The order that occupies the cell's slot in the next frame: the first device order that can be sent, else the cell's first host
order, where it can be sent (R563). -/
def pickOrder (orders : List Order) : Option Order :=
  match orders.find? fun o => !o.owner.isHost && o.free orders with
  | some o => some o
  | none =>
    match orders.find? fun o => o.owner.isHost with
    | some o => if o.free orders then some o else none
    | none => none

/-- The order with its next code sent in frame `k` with act base `a`. -/
def Order.sent (o : Order) (k a : Nat) : Order :=
  { o with flying := o.flying ++ [(k, o.next)], next := o.next + 1
           base := if o.next + 1 = o.codes.length then a else o.base }

/-- The first occurrence of an item replaced. -/
def replaceFirst {α : Type} [DecidableEq α] (a b : α) : List α → List α
  | [] => []
  | x :: xs => if x = a then b :: xs else x :: replaceFirst a b xs

/-- Entries a loop's transmit queue holds: changes and order codes not yet carried (R165, R317). -/
def State.queueLoad (s : State) (n : Nat) : Nat :=
  ((s.loopCells n).map fun c =>
    let x := s.tx c
    (x.hist.filter fun h => h.placed.isNone).length + (x.orders.map fun o => o.codes.length - o.next).sum).sum

/-! Frames (R171 to R174, R176, R197, R218) -/

/-- BASE of a frame (R173). -/
def frameBase (a n : Nat) : Nat := a / 4 % 2 ^ 38 * 4 + n

/-- The bytes of a frame after its comma (R173, R174): FN, BASE, cues, orders, empty telemetry, CRC. -/
def frameBytes (f : Frame) : List Byte :=
  let body := leBytes 2 f.fn ++ leBytes 5 f.base ++ f.cues.flatMap (leBytes 2) ++ f.orders.flatMap (leBytes 1) ++
    List.replicate (4 * f.cues.length) 0xFF
  body ++ leBytes 4 (crc32 body).toNat

def State.castCell (s : State) (c : Nat) : CastCell := Sparse.get (fun _ => {}) s.cast.cells c

def State.setCastCell (s : State) (c : Nat) (x : CastCell) : State :=
  { s with cast := { s.cast with cells := Sparse.set (fun _ => {}) s.cast.cells c x } }

/-- A bypass order travels in a frame with act base `a`: BYP_TIME runs from there (R332). -/
def State.bypassSent (c a code : Nat) (s : State) : State :=
  let x := s.castCell c
  match x.check with
  | some b =>
    if b.start.isNone && code == (if b.close then 1 else 2) then
      s.setCastCell c { x with check := some { b with start := some (s.elapsed + (a - s.datum)) } }
    else s
  | none => s

/-- A dump order travels in a frame with act base `a`: its verdict is judged from there (spec/08 R371). -/
def State.dumpSent (c a code : Nat) (s : State) : State :=
  if code = order.dumpOn || code = order.dumpOff then
    let x := Sparse.get (fun _ => ({} : PwrCell)) s.pwr.cells c
    { s with pwr := { s.pwr with
      cells := Sparse.set (fun _ => {}) s.pwr.cells c { x with order := some (code == order.dumpOn, a) } } }
  else s

/-- The slot of one present cell in a frame with act base `a` (R176, R177, R193, R197, R204): the state after it, the cue, the order. A
loop halted by its fault carries BYPASS_CLOSE in every frame, as does a cell with LINK_FAULT; otherwise a halted loop carries RESUME
only, and a loop in training the orders of training. -/
def State.cellSlot (s : State) (n k a c : Nat) : State × Nat × Nat :=
  let x := s.tx c
  let halted := s.loopHalted n
  let silent := s.silent n
  let r := if silent then (x.hist, false) else placeChange k a 0 x.hist
  let s := s.when r.2 fun s => s.count (F.WING_LATE_CUE_COUNT n)
  let cue := if silent then 0 else cueOf a (s.cellPolarity c) r.1
  let closing := s.loopFault n || (s.linkFault c && !halted)
  let pick := if closing then none
    else if halted then x.orders.find? fun o => o.owner.isResume && o.ready
    else pickOrder (if (s.loop n).train.isSome then x.orders.filter fun o => o.owner.isTrain else x.orders)
  match pick with
  | none =>
    let code := if closing then order.bypassClose else 0
    let left := if closing then x.orders.filter fun o => !o.owner.isBypass else x.orders
    ((s.setTx c { x with hist := r.1, orders := left }).bypassSent c a code, cue, code)
  | some o =>
    let code := o.codes.getD o.next 0
    (((s.setTx c { x with hist := r.1, orders := replaceFirst o (o.sent k a) x.orders }).bypassSent c a code).dumpSent c a code, cue, code)

/-- The content of frame `k` of loop `n` frozen (R171, R173, R176); in phase 2 of training four COUNT sets take the frames' places, and
then nothing (R204). -/
def State.freezeLoop (k n : Nat) (s : State) : State :=
  let a := s.actBase k
  let r := (List.range s.frameSlots).foldl (fun (acc : State × List Nat × List Nat) p =>
    match acc.1.cellAt n p with
    | none => (acc.1, acc.2.1 ++ [0xFFFF], acc.2.2 ++ [0])
    | some c =>
      let q := acc.1.cellSlot n k a c
      (q.1, acc.2.1 ++ [q.2.1], acc.2.2 ++ [q.2.2])) (s, [], [])
  let s := r.1
  let l := s.loop n
  let (cnt, idle) := match l.train with
    | some t => (t.phase == 2 && t.frames < 4, t.phase == 2 && 4 ≤ t.frames)
    | none => (false, false)
  let f : Frame := { loop := n, k := k, fn := k % 65536, base := frameBase a n, hold := false
                     cues := r.2.1, orders := r.2.2, count := cnt, idle := idle
                     phase := match l.train with
                       | some t => t.phase
                       | none => 0 }
  let s := s.mapWing fun w => { w with frozen := w.frozen ++ [f] }
  let resumed := l.resumeDue && s.loopHalted n
  s.setLoop n { l with resumeAt := if resumed then some (l.resumeAt.getD a) else l.resumeAt, resumeDue := l.resumeDue && !resumed }

/-- The enabled loops. -/
def State.enabledLoops (s : State) : List Nat := (List.range 4).filter s.loopEnabled

/-- A frame start at this instant keeps the interval of R172: never less than P after the previous one. -/
def State.startAllowed (s : State) (elapsed : Nat) : Bool :=
  !s.power.stageByp && match s.wing.lastStart with
  | none => true
  | some t0 => t0 + s.framePeriod ≤ elapsed

/-- Frame `k` may be frozen: it keeps the interval of R172 and is not frozen yet. In tableau nothing is frozen: hold frames carry no new
change (R218). -/
def State.freezeAllowed (s : State) (k : Nat) : Bool :=
  s.startAllowed (s.elapsed + (k * s.framePeriod - s.datum)) && !s.tableau && !(s.wing.frozen.any fun f => f.k == k)

/-- Frame `k` of every enabled loop frozen; what was frozen for a frame that has not started is given up. -/
def State.freezeFrame (k : Nat) (s : State) : State :=
  (s.mapWing fun w => { w with frozen := [] }).each s.enabledLoops (State.freezeLoop k)

/-- A frame start less than 40 ns away after a step of datum time (R172) or after tableau (R219): its content is frozen at once, so that the
frame leaves. -/
def State.freezeMissed (s : State) : State :=
  let k := (s.datum + s.framePeriod - 1) / s.framePeriod
  if k * s.framePeriod < s.datum + 40 && s.freezeAllowed k then s.freezeFrame k else s

/-- A bypass check waits while its order is sent again: BYP_TIME runs from the act base of the frame that carries it (R332). -/
def State.checksWait (s : State) : State :=
  s.each (cellIds.filter fun c => (s.tx c).orders.any fun o => o.owner.isBypass) fun c s =>
    let b := s.castCell c
    s.setCastCell c { b with check := b.check.map fun k => { k with start := none } }

/-- A step of datum time from `old` restarts frame timing from the new datum time (R172): frames frozen and not started are given up; the
curtain is down, so every cell is blocked, and changes that carry old datum times fall away; orders in transport start again; a frame
that starts within 40 ns is frozen. DEDUCED (log 212): a RESUME in flight still acts at the local instant already computed, and HALTED
falls there. -/
def State.frameRestart (old : Nat) (s : State) : State :=
  let s := s.mapWing fun w => { w with
    frozen := []
    cells := Sparse.canon (fun _ => {}) (w.cells.map fun (e : Nat × CellTx) => (e.1, { e.2 with
      hist := [], orders := e.2.orders.map fun o => { o with next := 0, flying := [], second := none } }))
    loops := w.loops.map fun (e : Nat × Loop) => (e.1, { e.2 with resumeAt := e.2.resumeAt.map fun a => a + s.datum - old }) }
  s.checksWait.freezeMissed

/-- The hold frame of a loop in tableau (R218): every cell's command as already sent, orders NONE. -/
def State.holdFrame (s : State) (k n : Nat) : Frame :=
  let a := s.actBase k
  { loop := n, k := k, fn := k % 65536, base := frameBase a n, hold := true
    cues := (List.range s.frameSlots).map fun p => match s.cellAt n p with
      | none => 0xFFFF
      | some c => if s.silent n then 0 else cueOf a (s.cellPolarity c) (s.tx c).hist
    orders := List.replicate s.frameSlots 0 }

/-- A training failure (R204): recorded, and training ends. -/
def State.trainFail (n code pos : Nat) (s : State) : State :=
  let s := s.set (F.WING_TRAIN_FAIL_CODE n) code
  let s := s.set (F.WING_TRAIN_FAIL_POS n) pos
  let s := s.setIbit F.WING_STATUS_TRAIN_BUSY n false
  let s := s.each (s.loopCells n) fun c s =>
    let x := s.tx c
    s.setTx c { x with orders := x.orders.filter fun o => !o.owner.isTrain }
  (s.setLoop n { s.loop n with train := none }).raise 97 n

/-- The verdict of training phase 2 (R204): four returned counts, all equal to the number of present cells. -/
def State.judgeCounts (n : Nat) (t : Train) (s : State) : State :=
  let want := (s.loopCells n).length
  match t.counts.find? (· ≠ want) with
  | some c => (s.set (F.WING_TRAIN_COUNT n) c).trainFail n 2 c
  | none =>
    if t.counts.length = 4 then
      let s := s.set (F.WING_TRAIN_COUNT n) want
      let s := s.set (F.WING_TRAIN_PHASE n) 3
      let s := s.setLoop n { s.loop n with train := some { t with phase := 3, frames := 0, start := s.elapsed } }
      s.each (s.loopCells n) fun c s => s.each (List.range 8) fun a s => s.giveOrder c .train (orderRead a)
    else (s.set (F.WING_TRAIN_COUNT n) 0xFF).trainFail n 2 0xFF

/-- No training order of the loop is in transport. -/
def State.trainQuiet (s : State) (n : Nat) : Bool :=
  (s.loopCells n).all fun c => (s.tx c).orders.all fun o => !o.owner.isTrain

/-- The reading back of a phase begins: each cell is sent a READ of each of its registers. -/
def State.trainAsk (n : Nat) (regs : Nat → List Nat) (s : State) : State :=
  let s := s.each (s.loopCells n) fun c s => s.each (regs c) fun a s => s.giveOrder c .train (orderRead a)
  s.setLoop n { s.loop n with train := (s.loop n).train.map fun t => { t with asked := true } }

/-- Training of a loop at a frame start (R204): a frame frozen in the present phase is counted; after 54 frames of phase 3 registers 15 and 16 are read; COUNT
sets that have not come back within the largest loop latency fail phase 2; in phase 6 the states are read in frames that start after the
act base of every WRITE of ARM, from which the stations are READY (R212). -/
def State.trainFrame (f : Frame) (s : State) : State :=
  let n := f.loop
  match (s.loop n).train with
  | none => s
  | some t => if f.phase ≠ t.phase then s else
    let s := s.setLoop n { s.loop n with train := some { t with frames := t.frames + 1 } }
    if t.phase = 3 && t.frames = 53 then
      s.each (s.loopCells n) fun c s => (s.giveOrder c .train (orderRead 15)).giveOrder c .train (orderRead 16)
    else if t.phase = 2 && 4 + 4000 / s.framePeriod + 1 ≤ t.frames then s.judgeCounts n t
    else if t.phase = 6 && !t.asked && s.trainQuiet n && t.armAt ≤ s.elapsed then
      s.trainAsk n fun _ => [14]
    else s

/-- A frame leaves its transmitter; of an idle place nothing leaves. -/
def State.sendFrame (f : Frame) (s : State) : State :=
  if f.idle then s.trainFrame f
  else
    let item := if f.count then WireItem.count f.loop else .frame f.loop f.hold (frameBytes f)
    let s := s.mapWing fun w => { w with wire := w.wire ++ [item] }
    let l := s.loop f.loop
    (s.setLoop f.loop { l with sent := l.sent ++ [{ f with start := s.elapsed }], frames := l.frames + 1 }).trainFrame f

/-- FRAME_START (R167, R172, R218): the comma of every enabled loop's frame leaves at S_k; in tableau hold frames leave. -/
def execFrameStart (t : Nat) (s : State) : Host.Outcome State Fault Refusal :=
  s.run t fun s =>
    let k := s.datum / s.framePeriod
    if s.datum % s.framePeriod = 0 && s.startAllowed s.elapsed then
      let fs := if s.tableau then s.enabledLoops.map (s.holdFrame k) else s.wing.frozen.filter fun f => f.k == k
      if fs.isEmpty then s
      else
        let s := s.mapWing fun w => { w with frozen := [], lastStart := some s.elapsed }
        s.each fs State.sendFrame
    else s

/-! The halt on the wire (R196, R197) -/

/-- Orders given up when a loop halts (R14, R332, R564): host orders complete ABORTED, a bypass order stays due as do those of training,
the others end. -/
def State.dropOrders (c : Nat) (s : State) : State :=
  let x := s.tx c
  let hosts := x.orders.filterMap fun o => match o.owner with
    | .host d => some d
    | _ => none
  let keep := (x.orders.filter fun o => o.owner.isBypass || o.owner.isTrain).map fun o =>
    { o with next := 0, flying := [], second := none }
  let s := s.setTx c { x with orders := keep, failed := false }
  let b := s.castCell c
  let due := keep.any fun o => o.owner.isBypass
  let s := s.setCastCell c { b with check := b.check.map fun k => if due then { k with start := none } else k }
  s.each hosts fun d s => s.refuse d st.aborted 0x00020000

/-- What a frame of a halted loop carries (R176, R197): blocked cues, and orders NONE, or BYPASS_CLOSE to every present cell where the loop
has failed. -/
def Frame.halted (failed : Bool) (f : Frame) : Frame :=
  { f with
    cues := f.cues.map fun c => if c = 0xFFFF then c else 0
    orders := f.cues.map fun c => if failed && c ≠ 0xFFFF then order.bypassClose else 0 }

/-- The latest item of loop `n` cut short after its first `chars` characters; the newest item stands first. -/
def cutLast (n chars : Nat) : List WireItem → List WireItem
  | [] => []
  | .frame l hold bs :: rest =>
    if l ≠ n then .frame l hold bs :: cutLast n chars rest
    else if chars = 0 then rest else .frame l hold (bs.take (chars - 1)) :: rest
  | .count l :: rest => if l ≠ n then .count l :: cutLast n chars rest else rest
  | .halt l :: rest => .halt l :: cutLast n chars rest

/-- The transmitter of loop `n` stops at the next character boundary (R197): a frame or COUNT set cut short there is abandoned. -/
def State.cutFrame (n : Nat) (s : State) : State :=
  let l := s.loop n
  match l.sent.getLast? with
  | none => s
  | some f =>
    let chars := (s.elapsed - f.start + 3) / 4
    if (if f.count then 2 else s.frameTime / 4) ≤ chars then s
    else (s.setLoop n { l with sent := l.sent.dropLast }).mapWing fun w => { w with
      wire := (cutLast n chars w.wire.reverse).reverse }

/-- The first character boundary of the transmitters at or after this instant, as datum time. -/
def State.charBoundary (s : State) : Nat :=
  match s.wing.lastStart with
  | some t0 => s.datum + (4 - (s.elapsed - t0) % 4) % 4
  | none => s.datum

/-- Loop `n` is halted (R196, R197): HALT is sent, a frame cut short is abandoned, orders in transport are given up, a RESUME that has not
taken effect among them, and a frame already frozen carries what a halted loop carries. HALT_SENT is stamped at the pin (R65). -/
def State.haltWire (n : Nat) (s : State) : State :=
  if s.loopHalted n && (s.loop n).resumeAt.isNone && !(s.loop n).resumeDue then s
  else
    let s := s.setIbit F.WING_STATUS_HALTED n true
    let s := s.each (s.loopCells n) fun c s => (s.dropOrders c).blockNow c
    let s := s.cutFrame n
    let s := s.mapWing fun w => { w with
      frozen := w.frozen.map fun f => if f.loop = n then f.halted (s.loopFault n) else f }
    let s := s.setLoop n { s.loop n with resumeAt := none, resumeDue := false }
    s.when (s.loopEnabled n) fun s =>
      (s.mapWing fun w => { w with wire := w.wire ++ List.replicate 3 (WireItem.halt n) }).raiseAt (s.charBoundary + pinDelay) 99 n

/-- HALT_RETURNED (R200). -/
def execHaltReturned (t : Nat) (loop : Fin 4) (s : State) : Host.Outcome State Fault Refusal :=
  s.run t fun s => (s.setIbit F.WING_STATUS_HALT_SEEN loop true).raise 100 loop

/-- RESUME_TAKES_EFFECT (R201): at the act base of the frame that carried RESUME. -/
def execResumeTakesEffect (t : Nat) (loop : Fin 4) (s : State) : Host.Outcome State Fault Refusal :=
  s.run t fun s =>
    match (s.loop loop).resumeAt with
    | none => s
    | some a =>
      if a ≤ s.datum then
        (s.setIbit F.WING_STATUS_HALTED loop false).setLoop loop { s.loop loop with resumeAt := none }
      else s

/-- A comparator with its HALT route set is on its tripped side (R201). -/
def State.haltRouteActive (s : State) : Bool :=
  (List.range 32).any fun k => s.bit (F.COMP_CFG_HALT k) && s.bit (F.COMP_CFG_ENABLE k) && s.ibit F.COMP_STATE_TRIPPED k

/-- A write of RESUME[n] is accepted (R201). -/
def State.resumeAllowed (s : State) (n : Nat) : Bool :=
  s.curtainDown && !s.haltRouteActive && s.loopTrained n && !s.loopFault n

/-- RESUME[n] judged (R201). -/
def State.resumeLoop (n : Nat) (s : State) : State :=
  if s.resumeAllowed n then
    let s := s.each (s.loopCells n) fun c s => s.giveOrder c .resume [order.resume]
    s.setLoop n { s.loop n with resumeDue := true }
  else s.setBit F.WING_STATUS_CFG_REJECT true

/-! Training (R202 to R206) -/

/-- The first position that a present cell of a loop takes outside R203: the positions are 0 to N - 1, at most 16 of them with the
shortest period. -/
def State.badPosition (s : State) (n : Nat) : Option Nat :=
  let count := (s.loopCells n).length
  let limit := if s.get F.WING_CTRL_PERIOD = 1 then min count 16 else count
  (List.range 32).find? fun p => limit ≤ p && (s.cellAt n p).isSome

/-- TRAIN[n] judged and training started (R202, R204 phase 0). -/
def State.trainLoop (n : Nat) (s : State) : State :=
  if s.curtainDown && s.loopEnabled n then
    let s := s.setIbit F.WING_STATUS_TRAINED n false
    let s := s.setIbit F.WING_STATUS_LOOP_FAULT n false
    let s := s.setIbit F.WING_STATUS_HALTED n false
    let s := s.setIbit F.WING_STATUS_TRAIN_BUSY n true
    let s := s.each (s.loopCells n) fun c s =>
      let s := s.dropOrders c
      let x := s.tx c
      (s.setTx c { x with orders := x.orders.filter fun o => !o.owner.isTrain }).setBit (F.WING_CELL_LINK_FAULT c) false
    let s := s.setReg (Reg.WING_TRAIN n) 0
    let l := s.loop n
    let s := s.setLoop n { l with train := some { start := s.elapsed }, bad := false, short := 0, drift := false
                                  resumeAt := none, resumeDue := false, replies := [] }
    let s := s.each (s.loopCells n) State.blockNow
    match s.badPosition n with
    | some p => s.trainFail n 0xB p
    | none => s.set (F.WING_TRAIN_PHASE n) 1
  else s.setBit F.WING_STATUS_CFG_REJECT true

/-- TRAIN_LINK_TIMEOUT (R204): phase 1 has found no run of 64 valid frames in 10 ms. -/
def execTrainLinkTimeout (t : Nat) (loop : Fin 4) (s : State) : Host.Outcome State Fault Refusal :=
  s.run t fun s =>
    match (s.loop loop).train with
    | none => s
    | some x => if x.phase = 1 && s.expired x.start 10000000 then s.trainFail loop 1 0xFF else s

/-- A register a station has replied with. -/
def State.reply (s : State) (n c a : Nat) : Nat := Sparse.get (fun _ => 0) (s.loop n).replies (32 * c + a)

/-- D_p in units of 0.125 ns (R209): L, the station's u, and the sum of b - c over the stations before it; rounded half up. -/
def State.delayOf (s : State) (n lat p u : Nat) : Int :=
  let before := (s.loopCells n).filter fun c => s.cellPos c < p
  let sum : Int := (before.map fun c => (s.reply n c 5 : Int) - s.reply n c 4).sum
  ((lat : Int) - u - sum + 1) / 2

/-- The cells of a loop in order of position. -/
def State.cellsByPos (s : State) (n : Nat) : List Nat := (List.range 32).filterMap (s.cellAt n)

/-- LEAD as written to the stations (R216). -/
def State.leadValue (s : State) : Nat := (s.frameTime + s.cueLead) / 4

/-- The registers written in phase 5 and their values (R204, R216). -/
def State.trainWrites (s : State) (d : Nat) : List (Nat × Nat) :=
  [(8, d % 4096), (9, d / 4096), (10, s.leadValue), (11, s.get F.WING_CTRL_PERIOD), (12, s.get F.WING_CTRL_SAFE_STATE)]

/-- The first position whose station fails a test. -/
def State.firstBad (s : State) (n : Nat) (bad : Nat → Bool) : Option Nat :=
  ((s.cellsByPos n).find? bad).map s.cellPos

/-- The delays of a loop's stations by position, from the replies of phase 3 (R209). -/
def State.trainDelays (s : State) (n : Nat) : List (Nat × Int) :=
  (s.cellsByPos n).map fun c => (c, s.delayOf n (s.get (F.WING_LAT_L n)) (s.cellPos c) (s.reply n c 15 + 4096 * s.reply n c 16))

/-- The first cell whose delay is not positive or not above that of the station before it (R204, R209). -/
def absurdDelay : Int → List (Nat × Int) → Option Nat
  | _, [] => none
  | prev, (c, d) :: l => if d ≤ prev then some c else absurdDelay d l

/-- Phases 3 and 4 end (R204): identity, protocol, lead and delays are judged, and the writes of phase 5 begin. DESIGN CHOICE (log 213): the
identity of every position is judged before the protocol of any. -/
def State.trainIdentity (n : Nat) (s : State) : State :=
  let id := fun c => s.reply n c 0 + 4096 * s.reply n c 1 + 2 ^ 24 * s.reply n c 2
  match s.firstBad n fun c => id c != s.cellStationId c with
  | some p => s.trainFail n 4 p
  | none =>
    match s.firstBad n fun c => s.reply n c 3 != 1 with
    | some p => s.trainFail n 5 p
    | none =>
      let s := s.set (F.WING_TRAIN_PHASE n) 4
      if 8 * s.cueLead < s.get (F.WING_LAT_L n) + 1600 then s.trainFail n 6 0xFF
      else
        let ds := s.trainDelays n
        match absurdDelay 0 ds with
        | some c => s.trainFail n 7 (s.cellPos c)
        | none =>
          let s := s.set (F.WING_TRAIN_PHASE n) 5
          let s := s.each ds fun cd s =>
            let s := s.set (F.WING_DELAY_D cd.1) cd.2.toNat
            s.each (s.trainWrites cd.2.toNat) fun w s => s.giveOrder cd.1 .train (orderWrite w.1 w.2)
          match (s.loop n).train with
          | none => s
          | some t => s.setLoop n { s.loop n with train := some { t with phase := 5, frames := 0, asked := false } }

/-- Phase 5 ends (R204): the read-back is judged and the stations are armed. -/
def State.trainReadBack (n : Nat) (s : State) : State :=
  match s.firstBad n fun c => (s.trainWrites (s.get (F.WING_DELAY_D c))).any fun w => s.reply n c w.1 != w.2 with
  | some p => s.trainFail n 8 p
  | none =>
    let s := s.set (F.WING_TRAIN_PHASE n) 6
    let s := s.each (s.loopCells n) fun c s => s.giveOrder c .train (orderWrite 13 0xA5C)
    match (s.loop n).train with
    | none => s
    | some t => s.setLoop n { s.loop n with train := some { t with phase := 6, frames := 0, armAt := 0, asked := false } }

/-- Training ends in success (R206): the stations' telemetry and counting start afresh (R186, R492, R676, R677). -/
def State.trainDone (n : Nat) (s : State) : State :=
  let s := s.each (s.loopCells n) fun c s =>
    let s := s.setTx c { s.tx c with items := [], overV := false, underV := false, hotT := false, fault := false
                                     safe := false, failed := false, hist := [] }
    let w := Sparse.get (fun _ => ({} : Wear)) s.scrub.wear c
    { s with scrub := { s.scrub with wear := Sparse.set (fun _ => {}) s.scrub.wear c { w with base := [] } } }
  let cells := s.loopCells n
  let s := { s with guard := { s.guard with words := s.guard.words.filter fun c => !cells.contains c } }
  let s := s.set (F.WING_TRAIN_PHASE n) 0xF
  let s := s.setIbit F.WING_STATUS_TRAINED n true
  let s := s.setIbit F.WING_STATUS_TRAIN_BUSY n false
  (s.setLoop n { s.loop n with train := none, l0 := s.get (F.WING_LAT_L n), frames := 0 }).raise 96 n

/-- Training moves on where its phase is complete (R204). -/
def State.trainAdvance (n : Nat) (s : State) : State :=
  match (s.loop n).train with
  | none => s
  | some t =>
    if t.phase = 3 && 64 ≤ t.frames && s.trainQuiet n then s.trainIdentity n
    else if t.phase = 5 && s.trainQuiet n then
      if t.asked then s.trainReadBack n else s.trainAsk n fun c => (s.trainWrites (s.get (F.WING_DELAY_D c))).map Prod.fst
    else if t.phase = 6 && t.asked && s.trainQuiet n then
      match s.firstBad n fun c => s.reply n c 14 % 16 != 4 with
      | some p => s.trainFail n 9 p
      | none => s.trainDone n
    else s

/-! Delay recomputation (R211) -/

/-- L has drifted by more than 20 ns since training (R211), or has left its range of 3.0 us (R164, R220); in units of 0.125 ns. -/
def Loop.drifted (l : Loop) (lat : Nat) : Bool := 160 < ((lat : Int) - l.l0).natAbs || 24000 < lat

/-- LOOP_DRIFT raised, once until the loop is trained again (R211). -/
def State.loopDrift (n : Nat) (s : State) : State :=
  if (s.loop n).drift then s else (s.setLoop n { s.loop n with drift := true }).raise 108 n

/-- DELAY_RECOMPUTE (R211): every 65 536 frames; a delay off by 1 ns or more is written again, in one sequence for each half (R194); drift of L
ends the writing. -/
def execDelayRecompute (t : Nat) (loop : Fin 4) (s : State) : Host.Outcome State Fault Refusal :=
  s.run t fun s =>
    let l := s.loop loop
    if s.loopTrained loop && 65536 ≤ l.frames && !s.tableau then
      let lat := s.get (F.WING_LAT_L loop)
      let s := s.setLoop loop { l with frames := 0 }
      if l.drift || l.drifted lat then s.loopDrift loop
      else s.each (s.loopCells loop) fun c s =>
        match Sparse.get (fun _ => none) (s.tx c).items 14, Sparse.get (fun _ => none) (s.tx c).items 15 with
        | some lo, some hi =>
          let d := (s.delayOf loop lat (s.cellPos c) (lo + 4096 * hi)).toNat
          if 8 ≤ ((d : Int) - s.get (F.WING_DELAY_D c)).natAbs then
            ((s.set (F.WING_DELAY_D c) d).giveOrder c .delay (orderWrite 8 (d % 4096))).giveOrder c .delay (orderWrite 9 (d / 4096))
          else s
        | _, _ => s
    else s

end Sys2Proof.Machine
end

