-- ==== Sys2Proof/Machine/GridBase.lean ====
section
/-! DEFINITION. Sys2Proof/Machine/GridBase.lean: what other blocks use of the grid and of the curtain's inputs: bases, the extrapolated bearing,
the grid-current reference, the causes handed to the curtain (spec/05, spec/10 R444). Real quantities are rational numbers; roots and
circular functions are those of Machine/Real.lean. -/

namespace Sys2Proof.Machine

/-! Causes handed to the curtain (spec/10 R444) -/

/-- A cause for channel A's next cycle, stamped now. -/
def State.curtCause (s : State) (code : Nat) : State :=
  { s with curt := { s.curt with causes := s.curt.causes ++ [(code, s.datum)] } }

/-- A stop request to the curtain's engine-fault input (cause ENGINE). -/
def State.engineFault (s : State) : State := s.curtCause 13

/-- The curtain is RAISING or RAISED. -/
def State.curtainUp (s : State) : Bool := s.curtain == 2 || s.curtain == 3

/-! Bases (R225) -/

/-- V_NOM in V, line to line. -/
def State.vNom (s : State) : Rat := 10 * s.get F.GRID_NOM_V_NOM

/-- F_NOM in Hz. -/
def State.fNom (s : State) : Nat := if s.bit F.GRID_NOM_F_NOM then 60 else 50

/-- P_NOM in W. -/
def State.pNom (s : State) : Rat := 1000 * s.get F.GRID_NOM_P_NOM

def sqrt2 : Rat := sqrtOf 2
def sqrt3 : Rat := sqrtOf 3

/-- The phase voltage base V_NOM / sqrt 3 in V rms. -/
def State.vBase (s : State) : Rat := s.vNom / sqrt3

/-- I_base in A rms. -/
def State.iBase (s : State) : Rat := s.pNom / (sqrt3 * s.vNom)

/-- φ of phase x in turns (R239); with ROT at 1 phases B and C are exchanged (R230). -/
def State.phi (s : State) (x : Nat) : Rat :=
  let y := if s.bit F.GRID_CTRL_ROT && x ≠ 0 then 3 - x else x
  if y = 0 then 0 else if y = 1 then 1 / 3 else -1 / 3

/-! The bearing (R228) -/

/-- Seconds from the latest bearing update to a datum instant. -/
def State.sinceBear (s : State) (t : Nat) : Rat := ((t : Int) - s.grid.bear.stamp : Int) / 1000000000

/-- The frequency in Hz. -/
def State.freqHz (s : State) : Rat := (s.grid.bear.freq : Rat) / 1000

/-- θ(t) in turns. -/
def State.theta (s : State) (t : Nat) : Rat := s.grid.bear.theta + s.freqHz * s.sinceBear t

/-- θ-(t) in turns. -/
def State.thetaNeg (s : State) (t : Nat) : Rat := s.grid.bear.thetaN + s.freqHz * s.sinceBear t

/-- An angle's fractional part, in [0, 1). -/
def frac (x : Rat) : Rat := x - x.floor

/-! The signature (R254, R255) -/

/-- Nanoseconds of a chip. -/
abbrev chipLength : Nat := 100000000

/-- One step of the sign register (R254). -/
def lfsrStep (x : Nat) : Nat :=
  let b := fun i => (if x.testBit i then 1 else 0 : Nat)
  (2 * x + (b 7 + b 5 + b 4 + b 3) % 2) % 256

/-- The sign register after `n` steps. -/
def lfsr : Nat → Nat → Nat
  | 0, x => x
  | n + 1, x => lfsr n (lfsrStep x)

/-- The sign c_j of the chip at a datum instant. -/
def chipSign (seed t : Nat) : Int := if (lfsr (t / chipLength % 255) seed).testBit 0 then 1 else -1

/-- SIGNATURE's AMP, scaled: the peak of each tone in A (R255). -/
def State.tonePeak (s : State) : Rat := sqrt2 * s.tbl8 tid.signature 4 / 1000 * s.iBase

/-- Solo mode uses the seed exclusive-or the low byte of the address, 1 in place of 0, and the device's own tones (R260). -/
def State.soloParam (s : State) : SigParam :=
  let p := s.grid.tabSig
  let x := Nat.xor p.seed (s.get F.DATUM_MER_CTRL_ADDR % 256)
  if p.seed = 0 then p else { p with seed := if x = 0 then 1 else x }

/-- The signature parameters at work: a follower's from the messages (R259), otherwise the device's own table's (R258, R260). -/
def State.sigParam (s : State) : SigParam :=
  if s.bit F.GRID_STATUS_SOLO then s.soloParam
  else if s.bit F.DATUM_MER_CTRL_ROLE then s.grid.own else s.grid.tabSig

/-- s(t, x) in A (R255). -/
def State.signature (s : State) (t x : Nat) : Rat :=
  if s.grid.injecting then
    let p := s.sigParam
    let tau : Rat := (t % chipLength : Nat) / 1000000000
    chipSign p.seed t * s.tonePeak *
      (cosOf (10 * p.toneA * tau - s.phi x) + cosOf (10 * p.toneB * tau - s.phi x))
  else 0

/-! References (R239, R241, R297) -/

/-- The sum of R239's first three terms for given amplitudes, in A. -/
def State.refTerms (s : State) (a : Amps) (t x : Nat) : Rat :=
  a.p * cosOf (s.theta t - s.phi x) + a.q * sinOf (s.theta t - s.phi x) -
    a.n * sinOf (s.thetaNeg t + s.phi x)

/-- Its derivative in A/s: both angles advance at f. -/
def State.refSlope (s : State) (a : Amps) (t x : Nat) : Rat :=
  2 * piOf * s.freqHz *
    (-a.p * sinOf (s.theta t - s.phi x) + a.q * cosOf (s.theta t - s.phi x) -
      a.n * cosOf (s.thetaNeg t + s.phi x))

/-- The signature's derivative in A/s. -/
def State.signatureSlope (s : State) (t x : Nat) : Rat :=
  if s.grid.injecting then
    let p := s.sigParam
    let tau : Rat := (t % chipLength : Nat) / 1000000000
    let term := fun (f : Nat) => -(2 * piOf * 10 * f) * sinOf (10 * f * tau - s.phi x)
    chipSign p.seed t * s.tonePeak * (term p.toneA + term p.toneB)
  else 0

/-- Engine states (R300). -/
abbrev eng.idle : Nat := 0
abbrev eng.engaged : Nat := 1
abbrev eng.ramping : Nat := 2
abbrev eng.zeroed : Nat := 3
abbrev eng.stopped : Nat := 4
abbrev eng.frozen : Nat := 5

def State.engState (s : State) : Nat := s.get F.CUR_STATUS_STATE

/-- The engine is ENGAGED. -/
def State.engaged (s : State) : Bool := s.engState == eng.engaged

/-- The ramp factor ρ(t) (R297, R299). -/
def State.rho (s : State) (t : Nat) : Rat :=
  if s.engine.rampZero then 0
  else match s.engine.rampAt with
    | none => 1
    | some (t0, _) =>
      let dur := s.get F.CUR_RAMPZ_TIME * 10000
      if t < t0 then 1 else if t < t0 + dur then 1 - (((t - t0 : Nat) : Int) : Rat) / ((dur : Int) : Rat) else 0

/-- The ramp or its end is in force: the engine keeps its amplitudes (R297). -/
def State.ramped (s : State) : Bool := s.engState == eng.ramping || s.engState == eng.zeroed

/-- ig_ref(x, t) (R239, R277, R297): 0 outside RAISING and RAISED but for the ramp (R241). -/
def State.igRef (s : State) (t x : Nat) : Rat :=
  if s.ramped then s.rho t * s.refTerms s.engine.keep t x
  else if s.curtainUp then s.refTerms s.grid.amps t x + s.signature t x
  else 0

/-- The derivative of ig_ref in A/s. -/
def State.igSlope (s : State) (t x : Nat) : Rat :=
  if s.ramped then
    let dur : Rat := s.get F.CUR_RAMPZ_TIME / 100000
    let inside := s.rho t != 0 && s.rho t != 1
    s.rho t * s.refSlope s.engine.keep t x - (if inside then s.refTerms s.engine.keep t x / dur else 0)
  else if s.curtainUp then s.refSlope s.grid.amps t x + s.signatureSlope t x
  else 0

/-- The fundamental grid voltage model v̂ of a phase in V (R283). -/
def State.vModel (s : State) (t x : Nat) : Rat :=
  sqrt2 * s.vBase * (s.grid.bear.vpos * cosOf (s.theta t - s.phi x) +
    s.grid.bear.vneg * cosOf (s.thetaNeg t + s.phi x))

/-- Its derivative in V/s. -/
def State.vModelSlope (s : State) (t x : Nat) : Rat :=
  -(2 * piOf * s.freqHz * sqrt2 * s.vBase) * (s.grid.bear.vpos * sinOf (s.theta t - s.phi x) +
    s.grid.bear.vneg * sinOf (s.thetaNeg t + s.phi x))

/-! The FILTERS table in force (spec/06 R303, R305) -/

/-- A byte of FILTERS as the consumers of the gains see it: a load takes effect at the next round boundary. -/
def State.filt8 (s : State) (off : Nat) : Nat :=
  match s.engine.filtWait with
  | some (old, b) => if s.datum < b then (Sparse.get (tableReset tid.filters) old off).toNat else s.tbl8 tid.filters off
  | none => s.tbl8 tid.filters off

def State.filt16 (s : State) (off : Nat) : Nat := s.filt8 off + 256 * s.filt8 (off + 1)
def State.filt32 (s : State) (off : Nat) : Nat := s.filt16 off + 65536 * s.filt16 (off + 2)

/-- A calibrated value of input `n` in V or A of the converter circuit (R303). -/
def State.convert (s : State) (n : Nat) (value : Int) : Rat :=
  (signed 32 (s.filt32 (4 + 8 * n)) : Rat) / 16777216 * (value - signed 16 (s.filt16 (8 + 8 * n)))

/-- A phase's parameters: L1, L2 in H, C_f in F, K_P, K_I, K_D, and the notch. -/
def State.fL1 (s : State) (x : Nat) : Rat := (s.filt16 (0x60 + 16 * x) : Rat) / 1000000
def State.fL2 (s : State) (x : Nat) : Rat := (s.filt16 (0x62 + 16 * x) : Rat) / 1000000
def State.fCf (s : State) (x : Nat) : Rat := (s.filt16 (0x64 + 16 * x) : Rat) / 100000000
def State.fNotch (s : State) (x : Nat) : Rat := s.filt16 (0x66 + 16 * x)
def State.fNotchQ (s : State) (x : Nat) : Rat := (s.filt16 (0x68 + 16 * x) : Rat) / 100
def State.fKp (s : State) (x : Nat) : Rat := (s.filt16 (0x6A + 16 * x) : Rat) / 1000
def State.fKi (s : State) (x : Nat) : Rat := s.filt16 (0x6C + 16 * x)
def State.fKd (s : State) (x : Nat) : Rat := (s.filt16 (0x6E + 16 * x) : Rat) / 1000
def State.notchOn (s : State) (x : Nat) : Bool := (s.filt8 1).testBit x

/-! Regions (R248) -/

/-- Region codes. -/
abbrev region.continuous : Nat := 0
abbrev region.mandatory : Nat := 1
abbrev region.permissive : Nat := 2
abbrev region.cessation : Nat := 3
abbrev region.trip : Nat := 4

def State.region (s : State) : Nat := s.get F.GRID_STATUS_REGION

/-- The region acts as MANDATORY: MANDATORY, or PERMISSIVE with PERM_CEASE at 0. -/
def State.actsMandatory (s : State) (r : Nat) : Bool :=
  r == region.mandatory || (r == region.permissive && !s.bit F.GRID_CTRL_PERM_CEASE)

/-- The cessation flag (R251, R248): every amplitude is 0. -/
def State.ceased (s : State) : Bool :=
  s.region == region.cessation || s.region == region.trip ||
    (s.region == region.permissive && s.bit F.GRID_CTRL_PERM_CEASE)

end Sys2Proof.Machine
end

