-- ==== Sys2Proof/Machine/Cast.lean ====
section
/-! DEFINITION. Sys2Proof/Machine/Cast.lean: casting: run-time cell states, the committed schedule, the choice of cells, failures,
bypass, takeover, heat and coolant (spec/07). -/

namespace Sys2Proof.Machine

/-! Run-time states (R311) -/

abbrev cs.absent : Nat := 0
abbrev cs.idle : Nat := 1
abbrev cs.ready : Nat := 2
abbrev cs.active : Nat := 3
abbrev cs.standby : Nat := 4
abbrev cs.precharge : Nat := 5
abbrev cs.leaving : Nat := 6
abbrev cs.out : Nat := 7

def State.cState (s : State) (c : Nat) : Nat := s.get (F.CAST_CELL_STATE c)
def State.setCState (s : State) (c v : Nat) : State := s.set (F.CAST_CELL_STATE c) v

/-- The cell is active (R25). -/
def State.isActive (s : State) (c : Nat) : Bool := s.cState c == cs.active || s.cState c == cs.leaving

/-- The cell's bypass switch is commanded open (R311). -/
def State.bypassOpen (s : State) (c : Nat) : Bool := [cs.ready, cs.active, cs.precharge, cs.leaving].contains (s.cState c)

/-- The active cells of a phase. -/
def State.activeCells (s : State) (x : Nat) : List Nat := (s.phaseCells x).filter s.isActive

def State.castPhase (s : State) (x : Nat) : CastPhase := Sparse.get (fun _ => {}) s.cast.phases x

def State.setCastPhase (s : State) (x : Nat) (p : CastPhase) : State :=
  { s with cast := { s.cast with phases := Sparse.set (fun _ => {}) s.cast.phases x p } }

def State.pwrCell (s : State) (c : Nat) : PwrCell := Sparse.get (fun _ => {}) s.pwr.cells c

def State.setPwrCell (s : State) (c : Nat) (x : PwrCell) : State :=
  { s with pwr := { s.pwr with cells := Sparse.set (fun _ => {}) s.pwr.cells c x } }

/-- The kind a cell acts as: a reserve takes the kind its RESERVE_SRC names, 0 for a capacitor only (R34, R348). -/
def State.actsAs (s : State) (c : Nat) : Nat :=
  if s.cellKind c = kind.reserve then s.cellReserveSrc c else s.cellKind c

/-- A cell's VDC in V, from its latest valid slot. -/
def State.vdc (s : State) (c : Nat) : Rat := (s.get (F.WING_CELL_VDC c) : Rat) / 20

/-- C_DC in F. -/
def State.cdc (s : State) (c : Nat) : Rat := (s.cellCdc c : Rat) / 100000

/-- The cell's DC-link voltage reference in V (R347, R348). -/
def State.vRef (s : State) (c : Nat) : Rat :=
  if s.cState c = cs.active then (s.pwrCell c).vref else (s.cellVRated c : Rat) / 20

/-- The latest report of a rotating item. -/
def State.item (s : State) (c i : Nat) : Option Nat := Sparse.get (fun _ => none) (s.tx c).items i

/-! CAST_WEIGHTS (R339, R720) -/

/-- A valid CAST_WEIGHTS is held. -/
def State.weightsOk (s : State) : Bool := s.tableOk tid.castWeights

def State.wt8 (s : State) (off : Nat) : Nat := s.tbl8 tid.castWeights off
def State.wt16 (s : State) (off : Nat) : Nat := s.tbl16 tid.castWeights off
def State.wtS16 (s : State) (off : Nat) : Int := s.tblS16 tid.castWeights off

/-- The values of R720 stand in where no valid table is held; times in ns. -/
def State.hotTime (s : State) : Nat := (if s.weightsOk then s.wt16 0x20 else 1000) * 1000000
def State.uvTime (s : State) : Nat := (if s.weightsOk then s.wt16 0x22 else 1000) * 1000000
def State.ovCount (s : State) : Nat := if s.weightsOk then s.wt8 0x24 else 1
def State.preFrac (s : State) : Nat := if s.weightsOk then s.wt16 0x26 else 900
def State.preTime (s : State) : Nat := (if s.weightsOk then s.wt16 0x28 else 100) * 1000000
def State.bypTime (s : State) : Nat := (if s.weightsOk then s.wt16 0x2A else 100) * 1000000

/-- The derating level (R328). -/
def State.derate (s : State) : Nat := s.get F.CAST_STATUS_DERATE

/-- The derating offset on T_LIMIT, 0.1 degrees (R328, R720). -/
def State.derateOffset (s : State) : Int :=
  if !s.weightsOk then 0 else if s.derate = 0 then 0 else if s.derate = 1 then s.wt16 0x10 else s.wt16 0x12

/-- The power factor of the derating level (R328). -/
def State.powerFactor (s : State) : Rat :=
  if !s.weightsOk then 1 else if s.derate = 0 then 1
  else (if s.derate = 1 then s.wt16 0x1C else s.wt16 0x1E : Nat) / 1000

/-- D_base in 100 ns (R318). -/
def State.dwellBase (s : State) : Nat :=
  let d := s.get F.CAST_DWELL_D
  if s.derate ≤ 1 then d else min 2000 (2 * d)

/-- A change of D_base by the derating level: D_eff is held to it; where D_eff is no longer below it, the dwell is restored (R325). -/
def State.clampDwell (s : State) : State :=
  s.each (List.range 3) fun x s =>
    let b := s.dwellBase
    let e := s.get (F.CAST_PHASE_D_EFF x)
    let was := s.ibit F.CAST_STATUS_RELAXED x
    let s := (s.set (F.CAST_PHASE_D_EFF x) (min e b)).setIbit F.CAST_STATUS_RELAXED x (e < b)
    s.when (was && b ≤ e) fun s => s.raise 144

/-- A new D (R318): D_eff is held to the new D_base, and rises to it only under R325. -/
def State.writeDwell (data : Word) (s : State) : State := (s.writeByAccess Reg.CAST_DWELL data).clampDwell

/-! The committed schedule (R282, R316) -/

/-- sign of a predicted current, 0 below 1.0 A. -/
def signOf (i : Rat) : Int := if i < 1 && -1 < i then 0 else if 0 < i then 1 else -1

/-- A cell's contribution in the committed schedule at datum instant `t` (R316): by its changes; blocked in the string with its bypass
open, -sign(î); bypassed, 0. -/
def State.contrib (s : State) (c t : Nat) : Int :=
  let blocked := -signOf (s.castPhase (s.cellPhase c)).iHat
  let st := s.cState c
  if st = cs.out then (if (s.castCell c).gone then 0 else blocked)
  else if s.bypassOpen c then
    match contribOf (legsAt t (s.tx c).hist) with
    | some x => x
    | none => blocked
  else 0

/-- The string voltage of a phase at an instant, in V (R26, R282). -/
def State.stringVoltage (s : State) (x t : Nat) : Rat :=
  ((s.phaseCells x).map fun c => (s.contrib c t : Rat) * s.vdc c).sum

/-- The level index of a phase at an instant (R25). -/
def State.levelAt (s : State) (x t : Nat) : Int := ((s.activeCells x).map fun c => s.contrib c t).sum

/-- The latest committed contribution shown in CAST_CELLk.CONTRIB. -/
def State.showContrib (c : Nat) (s : State) : State :=
  let v := match contribOf (lastLegs (s.tx c).hist) with
    | some 1 => 1
    | some (-1) => 3
    | some _ => 0
    | none => 2
  s.set (F.CAST_CELL_CONTRIB c) (if s.bypassOpen c then v else 2)

/-- Legs commanded for act time `t`, shown. -/
def State.castLegs (c t l : Nat) (s : State) : State := (s.command c t l).showContrib c

/-- The cell blocked from the first unfrozen frame on, shown. -/
def State.castBlock (c : Nat) (s : State) : State := (s.block c).showContrib c

/-- A bypass order of casting's own, its feedback awaited (R332). -/
def State.bypass (c : Nat) (close : Bool) (s : State) : State :=
  let s := s.giveOrder c (.bypass close) [if close then order.bypassClose else order.bypassOpen]
  s.setCastCell c { s.castCell c with check := some { close := close, start := none } }

/-! Entry to and exit from ACTIVE (R312, R347, R364, R366) -/

/-- A cell becomes ACTIVE: the battery integrator starts at 0, its reference is its rated voltage until the next tick. -/
def State.becomeActive (c : Nat) (s : State) : State :=
  let s := s.setCState c cs.active
  s.setPwrCell c { s.pwrCell c with integ := 0, vref := (s.cellVRated c : Rat) / 20 }

/-- Precharge time of a capacitor-only reserve runs only while the engine is ENGAGED (R335). -/
def State.holdPrecharge (run : Bool) (s : State) : State :=
  s.each (cellIds.filter fun c => s.cState c == cs.precharge && s.cellReserveSrc c == 0) fun c s =>
    let x := s.castCell c
    if run then s.setCastCell c { x with preStart := some s.elapsed }
    else
      let spent := match x.preStart with
        | some t0 => x.preSpent + (s.elapsed - t0)
        | none => x.preSpent
      s.setCastCell c { x with preStart := none, preSpent := spent }

/-- The engine has entered IDLE or STOPPED (R312): every ACTIVE or LEAVING cell is blocked and READY; requests in hand fall away. -/
def State.castDisengage (s : State) : State :=
  let s := { s with cast := { s.cast with requests := [], zsDue := none } }
  s.each (cellIds.filter s.isActive) fun c s => ((s.setCState c cs.ready).block c).showContrib c

/-! Failures and takeover (R330, R334) -/

/-- A takeover in phase `x` for cell `c` (R334). -/
def State.takeover (x c : Nat) (s : State) : State :=
  if !s.bit F.CAST_CTRL_RESERVE_EN then s
  else
    let orig := if s.cellKind c = kind.reserve && s.bit (F.CAST_CELL_PARTNER_VALID c) then s.get (F.CAST_CELL_PARTNER c) else c
    let s := s.when (orig != c) fun s => s.setBit (F.CAST_CELL_PARTNER_VALID c) false
    match (s.phaseCells x).find? fun r => s.cellKind r == kind.reserve && s.cState r == cs.standby with
    | none => (s.setIbit F.CAST_STATUS_NO_RESERVE x true).raise 140
    | some r =>
      let s := (s.set (F.CAST_CELL_PARTNER r) orig).setBit (F.CAST_CELL_PARTNER_VALID r) true
      let s := (s.set (F.CAST_CELL_PARTNER orig) r).setBit (F.CAST_CELL_PARTNER_VALID orig) true
      let s := (s.setCState r cs.precharge).bypass r false
      let runs := s.cellReserveSrc r != 0 || s.engaged
      let s := s.setCastCell r { s.castCell r with preStart := if runs then some s.elapsed else none, preSpent := 0 }
      (s.block r).showContrib r

/-- The cell is taken to OUT (R330, R312). For causes 1 and 2 the wing loop already sends the bypass and blocked cues. -/
def State.goOut (c cause : Nat) (s : State) : State :=
  let st := s.cState c
  if st = cs.absent || st = cs.out then s
  else
    let open_ := s.bypassOpen c
    let reserve := s.cellKind c == kind.reserve
    let take := [cs.ready, cs.active, cs.leaving].contains st || (reserve && st == cs.precharge)
    let s := s.setCState c cs.out
    let s := s.set (F.CAST_CELL_CAUSE c) cause
    let s := (s.count F.CAST_OUT_COUNT).raise 136 c
    let s := s.setCastCell c { s.castCell c with uvSince := none, leaveSince := none, preStart := none, gone := !open_ }
    let s := if cause = 1 || cause = 2 then
        (s.giveOrder c (.bypass true) [order.bypassClose]).setCastCell c { s.castCell c with
          check := some { close := true, start := none, own := false } }
      else (s.bypass c true).block c
    let s := s.showContrib c
    s.when take (State.takeover (s.cellPhase c) c)

/-- A cell ends LEAVING (R312, R333): BYPASS_CLOSE, OUT, and a takeover; its cause is the one that started the removal. -/
def State.endLeaving (c : Nat) (s : State) : State := s.goOut c (s.castCell c).leaveCause

/-- A cell in LEAVING whose contribution is 0, with no change ahead, ends it (R333). -/
def State.leavingDone (c : Nat) (s : State) : State :=
  let h := (s.tx c).hist
  s.when (s.cState c == cs.leaving && contribOf (lastLegs h) == some 0 && contribOf (legsAt s.datum h) == some 0) (State.endLeaving c)

/-- A lasting cue or order failure, a station in SAFE or reporting INVALID (R193, R213, R215): LINK_FAULT and CELL_LINK, its orders
given up, host orders ABORTED (R564), BYPASS_CLOSE and blocked cues from the next unfrozen frame on, and the cell OUT with cause
LINK. -/
def State.linkLost (c : Nat) (s : State) : State :=
  if s.linkFault c then s
  else
    let s := (s.setBit (F.WING_CELL_LINK_FAULT c) true).raise 101 c
    let x := s.tx c
    let s := (s.setTx c { x with orders := [] }).each x.orders fun o s => match o.owner with
      | .host d => s.refuse d st.aborted (0x10000 + o.codes.getD (o.codes.length - 1) 0)
      | _ => s
    ((s.giveOrder c (.bypass true) [order.bypassClose]).blockNow c).goOut c 1

/-- An orderly removal starts (R312, R333); a cell that contributes 0 ends it at once. -/
def State.startLeaving (c cause : Nat) (s : State) : State :=
  let s := s.setCState c cs.leaving
  ((s.setCastCell c { s.castCell c with leaveSince := some s.elapsed, leaveCause := cause }).raise 137 c).leavingDone c

/-! The choice of cells (R314 to R322) -/

/-- The wear count of a leg of a cue: with POLARITY at 1 the station's legs are exchanged (R19, R21). -/
def State.legWear (s : State) (c : Nat) (legB : Bool) : Nat :=
  let w := Sparse.get (fun _ => ({} : Wear)) s.scrub.wear c
  if legB != s.cellPolarity c then w.legB else w.legA

/-- A move in direction `d` (R314, R21): the legs after it and whether leg B is the one that changes; none where there is none. DESIGN CHOICE
(log 204): on equal counts leg A moves, taken before the exchange of R19. -/
def moveLegs (l : Nat) (d : Int) (wearA wearB : Nat) : Option (Nat × Bool) :=
  let legA := wearA ≤ wearB
  if l = legs.upperZero then some (if d = 1 then (legs.positive, true) else (legs.negative, false))
  else if l = legs.lowerZero then some (if d = 1 then (legs.positive, false) else (legs.negative, true))
  else if l = legs.positive && d = -1 then some (if legA then (legs.lowerZero, false) else (legs.upperZero, true))
  else if l = legs.negative && d = 1 then some (if legA then (legs.upperZero, false) else (legs.lowerZero, true))
  else none

/-- The move of a cell in a direction. -/
def State.moveOf (s : State) (c : Nat) (d : Int) : Option (Nat × Bool) :=
  moveLegs (lastLegs (s.tx c).hist) d (s.legWear c false) (s.legWear c true)

/-- No change of the cell lies inside (ta - D, ta + D); one without a verdict counts a frame period later (R317). -/
def State.dwelt (s : State) (c ta dwell : Nat) : Bool :=
  (s.tx c).hist.all fun h =>
    let t := if h.acked then h.time else h.time + s.framePeriod
    t + dwell ≤ ta || ta + dwell ≤ t

/-- Every condition of R317 but the transmit queue. -/
def State.eligibleButQueue (s : State) (c : Nat) (d : Int) (ta dwell : Nat) : Bool :=
  let n := s.cellLoop c
  let leaving := s.cState c == cs.leaving
  let toZero := contribOf (lastLegs (s.tx c).hist) == some (-d)
  (s.cState c == cs.active || (leaving && toZero)) && (s.moveOf c d).isSome &&
    (leaving || !s.bit (F.CAST_CELL_HOT c)) && !s.loopHalted n && !s.linkFault c && s.dwelt c ta dwell

def State.queueRoom (s : State) (c : Nat) : Bool := s.queueLoad (s.cellLoop c) < 64

/-- R317 with a dwell in ns. -/
def State.eligible (s : State) (c : Nat) (d : Int) (ta dwell : Nat) : Bool :=
  s.eligibleButQueue c d ta dwell && s.queueRoom c

/-- Rounding half away from zero. -/
def roundAway (x : Rat) : Int := if 0 ≤ x then (x + 1 / 2).floor else -((-x + 1 / 2).floor)

/-- s_E (R319). -/
def State.scoreE (s : State) (c : Nat) : Int :=
  let e := s.cdc c * (s.vdc c ^ 2 - s.vRef c ^ 2) / 2
  clamp (-1000) 1000 (roundAway (e / ((s.wt16 2 : Rat) / 10)))

/-- The effective temperature limit, 0.1 degrees (R327). -/
def State.tEff (s : State) (c : Nat) : Int := s.cellTLimit c - s.derateOffset

/-- s_T (R319); a cell that has not reported item 1 yet is scored 0. -/
def State.scoreT (s : State) (c : Nat) : Int :=
  match s.item c 1 with
  | none => 0
  | some v =>
    let below := max 0 ((s.wt16 6 : Int) - (s.tEff c - signed 12 v))
    (0 : Int) - (s.wt16 4 : Int) * below / 10

/-- w_min of a phase (R319). -/
def State.wearMin (s : State) (x : Nat) : Nat :=
  let ws := ((s.phaseCells x).filter fun c => s.cState c == cs.active).flatMap fun c => [s.legWear c false, s.legWear c true]
  ws.foldl min (ws.headD 0)

/-- s_W (R319). -/
def State.scoreW (s : State) (c wMin : Nat) (legB : Bool) : Int :=
  -((s.wt16 8 : Int) * (min 100 ((s.legWear c legB - wMin) / s.tbl32 tid.castWeights 0xC) : Nat))

/-- The score S of a candidate (R319). -/
def State.score (s : State) (c : Nat) (d : Int) (iHat : Rat) (wMin : Nat) : Int :=
  let legB := match s.moveOf c d with
    | some m => m.2
    | none => false
  d * signOf iHat * s.scoreE c + s.scoreT c + s.scoreW c wMin legB + (s.wt16 0xA : Int) * s.get (F.CAST_CELL_AGE c)

/-- The rank of a candidate (R320) as a list compared in order, smaller first. -/
def State.rankKey (s : State) (d : Int) (iHat : Rat) (wMin c : Nat) : List Int :=
  if s.cState c = cs.leaving then [0, c, 0]
  else match (s.castCell c).starvedAt with
    | some r => [1, r, c]
    | none => [2, -s.score c d iHat wMin, c]

/-- Lexicographic order of keys. -/
def keyLe : List Int → List Int → Bool
  | [], _ => true
  | _, [] => false
  | a :: as, b :: bs => a < b || (a == b && keyLe as bs)

/-- A candidate put in its place by rank. -/
def insertRank (k : List Int) (c : Nat) : List (List Int × Nat) → List (List Int × Nat)
  | [] => [(k, c)]
  | x :: xs => if keyLe k x.1 then (k, c) :: x :: xs else x :: insertRank k c xs

/-- The eligible cells of a phase not yet chosen, ranked (R320, R322). -/
def State.ranked (s : State) (x : Nat) (d : Int) (ta dwell : Nat) (iHat : Rat) (chosen : List Nat) : List Nat :=
  let wMin := s.wearMin x
  let cand := (s.phaseCells x).filter fun c => s.eligible c d ta dwell && !chosen.contains c
  (cand.foldl (fun l c => insertRank (s.rankKey d iHat wMin c) c l) []).map Prod.snd

/-- The first frame that carries a change for act time `ta` (R177). -/
def State.frameFor (s : State) (ta : Nat) : Nat :=
  let k := s.openFrame
  if ta < s.actBase k + 8192 then k else k + (ta - s.actBase k - 8192) / s.framePeriod + 1

/-- The trace entry of a committed move (spec/13 R570, SRC 1). -/
def State.traceMove (c ta l : Nat) (s : State) : State :=
  s.when (s.bit F.HOST_TRACE_CTRL_MOVE_EN && s.ibit F.HOST_TRACE_CTRL_PHASES (s.cellPhase c)) fun s =>
    let k := s.frameFor ta
    let wire := if s.cellPolarity c then exchangeLegs l else l
    let cue := wire * 4096 + (ta - s.actBase k) / 2
    s.trace s.datum (leBytes 8 s.datum ++ leBytes 1 1 ++ leBytes 1 c ++ leBytes 2 cue ++ leBytes 8 ta ++
      leBytes 4 (k % 65536 + 65536 * s.cellLoop c) ++ leBytes 8 0)

/-- The move of a chosen cell committed (R314, R322, R336): its age credit starts again. -/
def State.commitMove (d : Int) (ta c : Nat) (s : State) : State :=
  match s.moveOf c d with
  | none => s
  | some m =>
    let s := ((s.castLegs c ta m.1).traceMove c ta m.1).count F.CAST_MOVES_COUNT
    let s := (s.set (F.CAST_CELL_AGE c) 0).setBit (F.CAST_CELL_STARVED c) false
    s.setCastCell c { s.castCell c with starvedAt := none }

/-- Age credits after a request (R321). -/
def State.ageCell (c : Nat) (s : State) : State :=
  let lim := s.get F.CAST_AGE_LIMIT_LIMIT
  let a := min lim (s.get (F.CAST_CELL_AGE c) + 1)
  let s := s.set (F.CAST_CELL_AGE c) a
  if a = lim && !s.bit (F.CAST_CELL_STARVED c) then
    let s := s.setBit (F.CAST_CELL_STARVED c) true
    let s := s.setCastCell c { s.castCell c with starvedAt := some s.cast.served }
    (s.count F.CAST_STARVED_COUNT).raise 142 c
  else s

/-- CAST_DEF.TIME in ns. -/
def State.defTime (s : State) : Nat := s.get F.CAST_DEF_TIME * 1000

/-- An act time as elapsed time, in which the timers of this chapter run (R45). -/
def State.actElapsed (s : State) (ta : Nat) : Nat := ta + s.elapsed - s.datum

/-- The deficit timer judged at a request (R324). -/
def State.judgeDeficit (x ta : Nat) (s : State) : State :=
  let p := s.castPhase x
  match p.deficit with
  | none => s
  | some (t0, n) =>
    if t0 + s.defTime ≤ s.actElapsed ta then
      let s := s.setCastPhase x { p with deficit := none }
      let e := s.get (F.CAST_PHASE_D_EFF x)
      if s.get F.CAST_DEF_COUNT ≤ n && 50 < e then
        let s := s.set (F.CAST_PHASE_D_EFF x) (max 50 (e / 2))
        let s := s.setCastPhase x { s.castPhase x with restoreRef := s.actElapsed ta }
        ((s.setIbit F.CAST_STATUS_RELAXED x true).count F.CAST_RELAX_COUNT).raise 143
      else s
    else s

/-- The restoring of D_eff judged at a request (R325). -/
def State.judgeRestore (x ta : Nat) (s : State) : State :=
  let e := s.get (F.CAST_PHASE_D_EFF x)
  let b := s.dwellBase
  if e < b && (s.castPhase x).restoreRef + s.defTime ≤ s.actElapsed ta then
    let s := s.set (F.CAST_PHASE_D_EFF x) (min b (2 * e))
    s.when (b ≤ 2 * e) fun s => (s.setIbit F.CAST_STATUS_RELAXED x false).raise 144
  else s

/-- A short grant (R323, R324). -/
def State.shortGrant (x ta : Nat) (s : State) : State :=
  let p := s.castPhase x
  let d := match p.deficit with
    | none => (s.actElapsed ta, 1)
    | some (t0, n) => (t0, n + 1)
  (s.setCastPhase x { p with deficit := some d, restoreRef := max p.restoreRef (s.actElapsed ta) }).count F.CAST_SHORT_COUNT

/-- The trace entry of a decision (spec/13 R570, SRC 0), once its grant is known: k and g, t_a, e in mA, B in mA. -/
def State.traceDecision (r : Request) (g : Int) (s : State) : State :=
  s.when (s.bit F.HOST_TRACE_CTRL_DEC_EN && s.ibit F.HOST_TRACE_CTRL_PHASES r.phase) fun s =>
    s.trace r.stamp (leBytes 8 r.stamp ++ leBytes 1 0 ++ leBytes 1 r.phase ++ leBytes 1 (unsigned 8 r.k) ++
      leBytes 1 (unsigned 8 g) ++ leBytes 8 r.ta ++ leBytes 4 (unsigned 32 r.err) ++ leBytes 4 r.band ++ leBytes 4 0)

/-- The grant reported to the engine (R286): level changes granted and missing, and the committed level. -/
def State.grant (r : Request) (granted missing : Nat) (s : State) : State :=
  let x := r.phase
  let s := s.traceDecision r (if 0 < r.k then (granted : Int) else -(granted : Int))
  let p := Sparse.get (fun _ => ({} : Eng)) s.engine.phases x
  let s := { s with engine := { s.engine with
    phases := Sparse.set (fun _ => {}) s.engine.phases x { p with granted := p.granted + granted } } }
  let s := (s.count F.CUR_STEPS_COUNT granted).count F.CUR_DEFICIT_COUNT missing
  s.setInt (F.CUR_LEVEL_LEVEL x) (s.levelAt x r.ta)

/-- The first decision after the engine engages takes every READY cell to lower zero at its act time (R312, R315). -/
def State.firstDecision (ta : Nat) (s : State) : State :=
  if s.cast.first then
    let s := { s with cast := { s.cast with first := false } }
    s.each (cellIds.filter fun c => s.cState c == cs.ready) fun c s => (s.becomeActive c).castLegs c ta legs.lowerZero
  else s

/-- z (R326). -/
def State.zeroSeq (s : State) : Int := s.getInt (F.CAST_PHASE_Z 0)

/-- The zero-sequence demand read at an instant (R360). -/
def State.zDemand (s : State) (t : Nat) : Rat :=
  if s.bit F.CELLPWR_CTRL_EN && s.engaged && s.pwr.vMean ≠ 0 then
    s.pwr.z0 * cosOf (s.theta t - s.pwr.gamma + s.pwr.alpha) / s.pwr.vMean
  else 0

/-- A zero-sequence opportunity at act time `tz` (R326): a step of three moves, or a miss. -/
def State.zeroStep (tz : Nat) (s : State) : State :=
  let gap := s.zDemand tz - s.zeroSeq
  if s.bit F.CAST_ZS_EN && s.engaged && (1 / 2 < gap || gap < -1 / 2) then
    let d : Int := if 0 < gap then 1 else -1
    let pick := (List.range 3).map fun x =>
      let room := |s.levelAt x tz + d| ≤ ((s.activeCells x).length : Int) - s.get F.CAST_ZS_HEADROOM
      if room then (s.ranked x d tz (100 * s.dwellBase) (s.castPhase x).iHat []).head? else none
    if pick.all Option.isSome then
      let s := s.each (pick.filterMap id) (State.commitMove d tz)
      let z := s.zeroSeq + d
      let s := s.each (List.range 3) fun x s => s.setInt (F.CAST_PHASE_Z x) z
      { (s.count F.CAST_ZS_STEPS_COUNT) with cast := { s.cast with zsMissed := false } }
    else
      let s := s.count F.CAST_ZS_MISS_COUNT
      if s.cast.zsMissed then s else { s with cast := { s.cast with zsMissed := true } }.raise 145
  else s

/-- The zero-sequence step due at `tz`, once no request of the same act time is in hand (R326). -/
def State.zeroStepDue (s : State) : State :=
  match s.cast.zsDue with
  | none => s
  | some tz =>
    if s.cast.requests.any fun r => r.ta == tz then s
    else ({ s with cast := { s.cast with zsDue := none } }).zeroStep tz

/-- A request of the engine served (R322). Without a valid CAST_WEIGHTS no request is cast (R720): it is answered with no level. -/
def State.serve (r : Request) (s : State) : State :=
  if !s.weightsOk then s.grant r 0 r.k.natAbs else
  let x := r.phase
  let s := s.firstDecision r.ta
  let s := { s with cast := { s.cast with served := s.cast.served + 1 } }
  let s := s.when (s.elapsed > r.at_ + 120) fun s => s.count F.CAST_QUEUE_WAIT_COUNT
  let s := s.setCastPhase x { s.castPhase x with iHat := r.iHat }
  let s := (s.judgeDeficit x r.ta).judgeRestore x r.ta
  let period := s.get F.CAST_ZS_PERIOD * 1000
  let s := if x = 0 then
      { s with cast := { s.cast with
          zsLast := r.ta, zsDue := if s.cast.zsLast / period < r.ta / period then some r.ta else s.cast.zsDue } }
    else s
  if r.k = 0 then s.grant r 0 0
  else
    let d : Int := if 0 < r.k then 1 else -1
    let need := r.k.natAbs
    let base := 100 * s.dwellBase
    let eff := 100 * s.get (F.CAST_PHASE_D_EFF x)
    let full := s.ranked x d r.ta base r.iHat []
    let first := full.take need
    let relaxed := first.length < need && eff < base
    let more := if relaxed then (s.ranked x d r.ta eff r.iHat first).take (need - first.length) else []
    let shut := (s.phaseCells x).filter fun c => s.eligibleButQueue c d r.ta (if relaxed then eff else base) && !s.queueRoom c
    let s := s.count F.CAST_QUEUE_FULL_COUNT shut.length
    let chosen := first ++ more
    let s := s.each chosen (State.commitMove d r.ta)
    let s := s.each (full.filter fun c => !chosen.contains c) State.ageCell
    let s := s.when (chosen.length < need) (State.shortGrant x r.ta)
    s.grant r chosen.length (need - chosen.length)

/-- The request casting serves next (R337): the earliest act time; among equal ones the phase whose turn comes first. -/
def State.nextRequest (s : State) : Option Request :=
  let key := fun (r : Request) => (r.ta, (r.phase + 3 - s.cast.turn) % 3)
  s.cast.requests.foldl (fun best r => match best with
    | none => some r
    | some b => if (key r).1 < (key b).1 || ((key r).1 == (key b).1 && (key r).2 < (key b).2) then some r else best) none

/-- CASTING_REQUEST (R322, R326, R337); in tableau casting makes no grant (R313). -/
def execCastingRequest (t : Nat) (s : State) : Host.Outcome State Fault Refusal :=
  s.run t fun s =>
    if s.tableau then s
    else match s.nextRequest with
      | none => s
      | some r =>
        let rest := s.cast.requests.erase r
        let more := rest.any fun q => q.ta == r.ta
        let group := s.cast.lastServed == some r.ta
        let s := { s with cast := { s.cast with
          requests := rest, lastServed := some r.ta, turn := if group && !more then (s.cast.turn + 1) % 3 else s.cast.turn } }
        (s.serve r).zeroStepDue

/-! Timers of this chapter (R327 to R335) -/

/-- HOT_TIME (R327, R312): the orderly removal starts; hot casts no derating question, the timer alone decides. -/
def execHotTime (t : Nat) (cell : Fin 128) (s : State) : Host.Outcome State Fault Refusal :=
  s.run t fun s =>
    let x := s.castCell cell
    if !s.tableau && s.cState cell == cs.active && s.bit (F.CAST_CELL_HOT cell) && s.due x.hotSince s.hotTime then
      s.startLeaving cell 6
    else s

/-- UV_TIME (R331). -/
def execUvTime (t : Nat) (cell : Fin 128) (s : State) : Host.Outcome State Fault Refusal :=
  s.run t fun s =>
    let x := s.castCell cell
    if !s.tableau && s.cState cell == cs.active && s.due x.uvSince s.uvTime then s.startLeaving cell 5 else s

/-- LEAVING_TIMEOUT (R333): 20 ms in LEAVING. -/
def execLeavingTimeout (t : Nat) (cell : Fin 128) (s : State) : Host.Outcome State Fault Refusal :=
  s.run t fun s =>
    if !s.tableau && s.cState cell == cs.leaving && s.due (s.castCell cell).leaveSince 20000000 then s.endLeaving cell else s

/-- PRE_TIME (R335): the reserve goes OUT with cause PRECHARGE, and the next takeover is made. -/
def execPreTime (t : Nat) (cell : Fin 128) (s : State) : Host.Outcome State Fault Refusal :=
  s.run t fun s =>
    let x := s.castCell cell
    if !s.tableau && s.cState cell == cs.precharge && s.due x.preStart (s.preTime - x.preSpent) then
      (s.goOut cell 7).raise 139 cell
    else s

/-- BYPASS_CHECK_TIMEOUT (R332): the feedback has not confirmed. A commanded close that does not confirm is BYPASS_STUCK with a stop
request; a cell not yet OUT goes OUT with cause BYPASS. -/
def execBypassCheckTimeout (t : Nat) (cell : Fin 128) (s : State) : Host.Outcome State Fault Refusal :=
  s.run t fun s =>
    let x := s.castCell cell
    match x.check with
    | none => s
    | some b =>
      if !s.tableau && s.due b.start s.bypTime then
        let s := s.setCastCell cell { x with check := none, gone := x.gone || b.close }
        if b.own then
          let s := if s.cState cell = cs.out then s else s.goOut cell 8
          s.when b.close fun s => ((s.setBit F.CAST_STATUS_BYPASS_STUCK true).raise 147 cell).engineFault
        else s
      else s

/-! Coolant and derating (R328, R329) -/

/-- θ_c (R329). -/
def State.thetaC (s : State) : Int := s.getInt F.CAST_COOL_THETA

/-- The pump fault as the pump drive reports it (spec/12 R524). -/
def State.pumpFault (s : State) : Bool := s.bit F.PUMP_STATUS_PUMP_FLT

/-- The condition of a derating level (R328), θ_c shifted by the hysteresis; without a valid table θ_c is not judged (R720). -/
def State.derateHolds (s : State) (level : Nat) (hyst : Int) : Bool :=
  let above := fun (off : Nat) => s.weightsOk && s.wtS16 off < s.thetaC + hyst
  match level with
  | 0 => true
  | 1 => above 0x14
  | 2 => above 0x16 || s.pumpFault || s.bit F.CAST_STATUS_COOL_TO
  | _ => above 0x18 || (s.pumpFault && above 0x16)

/-- The derating level judged anew (R328): it rises at once, and falls one level when the present level's condition has stopped with
θ_c at least COOL_HYST below its threshold. -/
def State.judgeDerate (s : State) : State :=
  let old := s.derate
  let up := (List.range 4).foldl (fun best l => if s.derateHolds l 0 then l else best) 0
  let new := if old < up then up
    else if 0 < old && !s.derateHolds old (s.wt16 0x1A) then old - 1 else old
  if new = old then s
  else
    let s := ((s.set F.CAST_STATUS_DERATE new).clampDwell).raise 146
    s.when (new == 3 && old < 3) State.engineFault

/-- A TCOOL result (R329): MISSING and CLIP count as bad, and every result with a value enters the mean; in tableau casting changes nothing
(R313). -/
def State.coolResult (v : Option Int) (clip : Bool) (s : State) : State :=
  if s.tableau then s else
  let bad := if v.isNone || clip then min 64 (s.cast.coolBad + 1) else 0
  let good := if v.isNone || clip then 0 else min 64 (s.cast.coolGood + 1)
  let s := { s with cast := { s.cast with coolBad := bad, coolGood := good } }
  match v with
  | none => s
  | some x =>
    let l := (s.cast.cool ++ [x]).drop (s.cast.cool.length + 1 - 64)
    let s := { s with cast := { s.cast with cool := l } }
    let sum := l.sum
    let inv : Bool := s.weightsOk && (s.wt8 1).testBit 0
    let s := s.setSat F.CAST_COOL_THETA ((if inv then -sum else sum) / (l.length : Int))
    (s.when (good == 64) fun s => s.setBit F.CAST_STATUS_COOL_TO false).judgeDerate

/-! Registers (R338, R345) -/

/-- A write of CAST_READMIT (R338): any write that is not accepted is refused, one with GO at 0 too. -/
def State.writeCastReadmit (data : Word) (s : State) : State :=
  let c := bitsOf data.toNat 0 7
  if data.getLsbD 31 && s.curtainDown && s.cState c == cs.out && s.loopTrained (s.cellLoop c) && !s.linkFault c then
    let s := s.setCState c (if s.cellKind c = kind.reserve then cs.standby else cs.idle)
    let s := s.set (F.CAST_CELL_CAUSE c) 0
    if s.bit (F.CAST_CELL_PARTNER_VALID c) then
      let r := s.get (F.CAST_CELL_PARTNER c)
      if s.cellKind r = kind.reserve && (s.cState r == cs.active || s.cState r == cs.ready) then
        ((s.bypass r true).setCState r cs.standby).castBlock r
      else s
    else s
  else s.setBit F.CAST_STATUS_CFG_REJECT true

/-- CAST_READMIT (R338). -/
def execCastReadmit (t : Nat) (data : Word) (s : State) : Host.Outcome State Fault Refusal :=
  s.run t fun s => s.bar0 Reg.CAST_READMIT data (State.writeCastReadmit data)

/-- A write of CAST_CTRL (R312, R345): EN changes only with the curtain LOWERED or LOCKED; cleared, it bypasses the READY and ACTIVE
cells. -/
def State.writeCastCtrl (data : Word) (s : State) : State :=
  let en := data.getLsbD 0
  let was := s.bit F.CAST_CTRL_EN
  if en != was && !s.curtainDown then s.setBit F.CAST_STATUS_CFG_REJECT true
  else
    let s := s.writeByAccess Reg.CAST_CTRL data
    s.when (was && !en) fun s =>
      s.each (cellIds.filter fun c => s.cState c == cs.ready || s.cState c == cs.active) fun c s =>
        ((s.bypass c true).setCState c cs.idle).castBlock c

/-- The states of all cells from the roster, after a reset or an accepted ROSTER load (R312). -/
def State.castFromRoster (s : State) : State :=
  let s := { s with cast := { s.cast with cells := [] } }
  s.each cellIds fun c s =>
    let k := s.cellKind c
    let st := if k = kind.absent then cs.absent else if k = kind.reserve then cs.standby else cs.idle
    let s := s.setReg (Reg.CAST_CELL c) 0
    (s.setCState c st).set (F.CAST_CELL_CONTRIB c) 2

/-- READY of casting (R341). -/
def State.castReady (s : State) : Bool :=
  s.bit F.CAST_CTRL_EN && s.weightsOk && (List.range 3).all fun x =>
    (s.phaseCells x).isEmpty || (s.phaseCells x).any fun c =>
      (s.cellKind c == kind.pv || s.cellKind c == kind.battery) && (s.cState c == cs.ready || s.cState c == cs.active)

end Sys2Proof.Machine
end

