-- ==== Sys2Proof/Machine/Conv.lean ====
section
/-! DEFINITION. Sys2Proof/Machine/Conv.lean: conversion slices, the sequencer, understudies, urgent conversions and the comparators'
own side (spec/03). What the consumers do with a result or a trip stands in Machine/Results.lean. -/

namespace Sys2Proof.Machine

/-! Slices and parts (R106, R112, R113) -/

/-- The local slice that holds part `p` of group `g`. -/
def State.partSlice (s : State) (g p : Nat) : Nat := bitsOf (s.reg (Reg.CONV_MAP g)).toNat (4 * p) 3

def State.usState (s : State) (g : Nat) : Nat := s.get (F.CONV_MAP_US_STATE g)
def State.usSlice (s : State) (g : Nat) : Nat := s.get (F.CONV_MAP_US_SLICE g)

/-- US_STATE codes of CONV_MAPg (R135). -/
abbrev us.idle : Nat := 0
abbrev us.cal : Nat := 1
abbrev us.overlap : Nat := 2
abbrev us.swap : Nat := 3
abbrev us.out : Nat := 4

def State.hand (s : State) (g : Nat) : Handover := Sparse.get (fun _ => {}) s.conv.hands g

def State.setHand (s : State) (g : Nat) (h : Handover) : State :=
  { s with conv := { s.conv with hands := Sparse.set (fun _ => {}) s.conv.hands g h } }

/-- The slot of a part in force now: a write waits for the next round boundary (R114). -/
def State.slotNow (s : State) (n : Nat) : Nat :=
  match Sparse.get (fun _ => none) s.conv.slotWait n with
  | some w => match w.until_ with
    | none => w.old.toNat
    | some u => if s.datum < u then w.old.toNat else (s.reg (Reg.CONV_SLOT n)).toNat
  | none => (s.reg (Reg.CONV_SLOT n)).toNat

/-- Scheduled sampling runs now (R116): not on the crystal (R616), nor before datum time runs and internal start is made. -/
def State.runNow (s : State) : Bool :=
  s.disc.running && !s.power.startDue && !s.power.stageByp &&
  match s.conv.runWait with
  | some (old, b) => if s.datum < b then old else s.bit F.CONV_CTRL_RUN
  | none => s.bit F.CONV_CTRL_RUN

/-- The input a slot converts in round `r` (R113). -/
def slotInput (slot r : Nat) : Nat :=
  bitsOf slot (4 * (r / (bitsOf slot 27 4 + 1) % (bitsOf slot 25 2 + 1))) 4

/-- A part's sample instant is now (R113). -/
def State.sampleDue (s : State) (n : Nat) : Bool :=
  let slot := s.slotNow n
  s.runNow && slot.testBit 31 && s.datum / 1000 % (bitsOf slot 27 4 + 1) == 0 &&
    s.datum % 1000 == 2 * bitsOf slot 16 9

/-- The calibration age of slice `i` exceeds the limit (R134). -/
def State.calOld (s : State) (i : Nat) : Bool :=
  Sparse.get (fun _ => 0) s.conv.calAt i + s.get F.CONV_STALE_SECONDS * second < s.elapsed

/-- A slice holding a part of group `g` is over the age limit (R134). -/
def State.groupOld (s : State) (g : Nat) : Bool :=
  (List.range 4).any fun p => s.calOld (5 * g + s.partSlice g p)

/-- A conversion starts: it holds its input at this instant and awaits its result. -/
def State.hold (c : Conversion) (s : State) : State :=
  { s with conv := { s.conv with
      inflight := s.conv.inflight ++ [c]
      lastHold := Sparse.set (fun _ => none) s.conv.lastHold c.slice (some c.heldAt) } }

/-- The slice has held within the last 1 000 ns (R108, R115). -/
def State.heldLately (s : State) (i : Nat) : Bool :=
  match Sparse.get (fun _ => none) s.conv.lastHold i with
  | some t0 => s.elapsed < t0 + 1000
  | none => false

/-- A conversion of `input` by slice `i`, sampled `delay` from now; its flags are those of its sample instant (R111), kept by `flagsNow` until
then. -/
def State.conversion (s : State) (i : Nat) (part : Option Nat) (input delay : Nat) (use : Use) : Conversion :=
  { slice := i, part := part, input := input, stamp := s.datum + delay, heldAt := s.elapsed + delay
    refBad := s.bit F.CONV_STATUS_REF_FAULT, stale := s.ibit F.CONV_STATUS_CAL_STALE (i / 5), use := use }

/-- REF_FAULT and CAL_STALE as they now stand reach the conversions not yet sampled (R111). -/
def State.flagsNow (s : State) : State :=
  { s with conv := { s.conv with inflight := s.conv.inflight.map fun (c : Conversion) =>
      if s.elapsed ≤ c.heldAt then
        { c with refBad := s.bit F.CONV_STATUS_REF_FAULT, stale := s.ibit F.CONV_STATUS_CAL_STALE (c.slice / 5) }
      else c } }

/-- SCHEDULED_SAMPLE (R113, R115, R116, R128, R130): the slice holding the part samples; in OVERLAP the understudy shadows it; from
the swap instant on the understudy's conversion is the one delivered. DESIGN CHOICE (log 206): where the understudy still serves an urgent
request at the swap instant, or has held within 1 000 ns, the active slice delivers the sample and the swap waits for the next one. -/
def execScheduledSample (t : Nat) (part : Fin 16) (s : State) : Host.Outcome State Fault Refusal :=
  s.run t fun s =>
    let g := part.val / 4
    let p := part.val % 4
    let i := 5 * g + s.partSlice g p
    if !s.sampleDue part then s
    else
      let input := slotInput (s.slotNow part) (s.datum / 1000)
      let h := s.hand g
      let u := 5 * g + s.usSlice g
      let free := h.urgent.isNone && !s.heldLately u
      if s.usState g = us.swap && h.part = p && (h.swapping || free) then
        if s.heldLately u then s
        else
          let use := if h.swapping then Use.deliver else Use.swap
          (s.setHand g { h with swapping := true }).hold (s.conversion u (some part) input 0 use)
      else
        let s' := s.when (!s.heldLately i) (State.hold (s.conversion i (some part) input 0 .deliver))
        s'.when (s.usState g == us.overlap && h.part == p && free && !s.heldLately i)
          (State.hold (s.conversion u (some part) input 0 .shadow))

/-! Handover (R125 to R136) -/

/-- The end of a handover attempt that is abandoned (R14, R135): the understudy is IDLE again, the attempt no failure; a swap is completed
first. -/
def State.abandonHand (g : Nat) (s : State) : State :=
  if s.usState g = us.cal || s.usState g = us.overlap then
    let s := s.set (F.CONV_MAP_US_STATE g) us.idle
    let h := s.hand g
    let s := { s with conv := { s.conv with
      inflight := s.conv.inflight.filter fun c => !(c.use == Use.shadow && c.slice / 5 == g) } }
    s.setHand g { part := h.part, endAt := s.elapsed, urgent := h.urgent }
  else if s.usState g = us.swap then s
  else s.setHand g { s.hand g with failed := false }

/-- A failed calibration or overlap (R131, R132): a first failure waits for its retry, a lasting one takes the slice out. -/
def State.failHand (g : Nat) (overlap : Bool) (s : State) : State :=
  let h := s.hand g
  let u := s.usSlice g
  let s := { s with conv := { s.conv with
    inflight := s.conv.inflight.filter fun c => !(c.use == Use.shadow && c.slice / 5 == g) } }
  if h.failed then
    let s := s.setIbit (F.CONV_MAP_OUT g) u true
    let s := s.set (F.CONV_MAP_US_SLICE g) 7
    let s := s.set (F.CONV_MAP_US_STATE g) us.out
    let s := s.setIbit F.CONV_STATUS_NO_US g true
    let s := s.when overlap fun s => s.setIbit F.CONV_STATUS_SUSPECT g true
    (s.setHand g { part := h.part, endAt := s.elapsed }).raise 53
  else
    let s := s.set (F.CONV_MAP_US_STATE g) us.idle
    (s.setHand g { part := h.part, failed := true, endAt := s.elapsed, urgent := h.urgent }).raise 52

/-- HANDOVER_OPPORTUNITY (R125, R126). -/
def execHandoverOpportunity (t : Nat) (group : Fin 4) (s : State) : Host.Outcome State Fault Refusal :=
  s.run t fun s =>
    let h := s.hand group
    if s.expired h.endAt (s.get F.CONV_HAND_INTERVAL * second) && s.bit F.CONV_CTRL_HAND_EN &&
        !s.bit F.SCRUB_STATUS_DEFERRED && !s.tableau && s.usState group == us.idle && s.usSlice group < 5 then
      (s.setHand group { h with ladder := s.elapsed + (1000 - s.datum % 1000) % 1000, lost := 0 }).set (F.CONV_MAP_US_STATE group) us.cal
    else s

/-- The instant from which all 1 024 ladder results of group `g` are ready (R107, R127, R143): the last is held 1 023 rounds after the first,
a round later for each round that urgent requests have taken. -/
def State.ladderEnd (s : State) (g : Nat) : Nat := (s.hand g).ladder + (1023 + (s.hand g).lost) * 1000 + 1064

/-- The largest distance, times 16, of the 64 tap means from their nominal values, tap j at (2 j + 1) 512 - 32 768 LSB (R110, R127). -/
def residual16 (sums : List Int) : Nat :=
  ((sums.zipIdx).map fun x => (x.1 - 16 * ((2 * x.2 + 1) * 512 - 32768)).natAbs).foldl max 0

/-- CAL_COMPLETE (R127, R131, R134): with all ladder results the fit is made, and it is kept when its residual is within CAL_LIM. -/
def execCalComplete (t : Nat) (group : Fin 4) (fit : LadderFit) (s : State) : Host.Outcome State Fault Refusal :=
  s.run t fun s =>
    if s.usState group = us.cal && (s.hand group).urgent.isNone && s.ladderEnd group ≤ s.elapsed then
      if residual16 fit.sums ≤ 16 * s.get F.CONV_HAND_CAL_LIM then
        let h := s.hand group
        let s := { s with conv := { s.conv with
          calAt := Sparse.set (fun _ => 0) s.conv.calAt (5 * group + s.usSlice group) s.elapsed
          cals := Sparse.set (fun _ => []) s.conv.cals (5 * group + s.usSlice group) fit.cal } }
        let s := s.setHand group
          { h with start := s.elapsed, suspended := 0, waiting := [], pairs := 0, sum := 0, peak := 0
                   swapping := false, swapDone := false }
        s.set (F.CONV_MAP_US_STATE group) us.overlap
      else s.failHand group false
    else s

/-- Pairs an overlap requires (R128). -/
def State.overlapNeed (s : State) : Nat := 16 * s.get F.CONV_HAND_OVERLAP

/-- A result of the overlapped part or of its shadow joins its partner of the same stamp (R128); once the required pairs are collected no
further pair is compared. -/
def State.overlapResult (g stamp : Nat) (fromUs : Bool) (v : Option Int) (s : State) : State :=
  let h := s.hand g
  if s.overlapNeed ≤ h.pairs then s else
  match h.waiting.find? fun w => w.1 == stamp && w.2.1 != fromUs with
  | none => s.setHand g { h with waiting := h.waiting ++ [(stamp, fromUs, v)] }
  | some w =>
    let h := { h with waiting := h.waiting.erase w }
    match v, w.2.2 with
    | some a, some b =>
      let d := if fromUs then a - b else b - a
      s.setHand g { h with pairs := h.pairs + 1, sum := h.sum + d, peak := max h.peak d.natAbs }
    | _, _ => s.setHand g h

/-- CONV_OVLg shows the mean and the largest difference of the overlap (R129). -/
def State.showOverlap (g : Nat) (s : State) : State :=
  let h := s.hand g
  let s := s.setSat (F.CONV_OVL_MEAN g) (if h.pairs = 0 then 0 else h.sum / h.pairs)
  s.setTop (F.CONV_OVL_PEAK g) h.peak

/-- OVERLAP_VERDICT (R129 to R132). -/
def execOverlapVerdict (t : Nat) (group : Fin 4) (s : State) : Host.Outcome State Fault Refusal :=
  s.run t fun s =>
    let h := s.hand group
    if s.usState group = us.overlap && s.overlapNeed ≤ h.pairs then
      let s := s.showOverlap group
      if |h.sum| ≤ s.get F.CONV_HAND_MEAN_LIM * (h.pairs : Int) && h.peak ≤ 4 * s.get F.CONV_HAND_PEAK_LIM then
        (s.setHand group { h with waiting := [], swapping := false, swapDone := false }).set
          (F.CONV_MAP_US_STATE group) us.swap
      else s.failHand group true
    else s

/-- OVERLAP_TIMEOUT (R136, R142): rounds spent on urgent conversions do not count, and while one is served nothing is abandoned. -/
def execOverlapTimeout (t : Nat) (group : Fin 4) (s : State) : Host.Outcome State Fault Refusal :=
  s.run t fun s =>
    let h := s.hand group
    if s.usState group = us.overlap && h.urgent.isNone && h.pairs < s.overlapNeed && h.start + h.suspended + 64 * s.overlapNeed * 1000 ≤ s.elapsed
    then (s.showOverlap group).failHand group true
    else s

/-- Slot writes of a group that have waited for its swap take effect at the next round boundary (R114, R135). -/
def State.releaseSlots (g : Nat) (s : State) : State :=
  { s with conv := { s.conv with slotWait := s.conv.slotWait.map fun e =>
      (e.1, e.2.map fun w =>
        if e.1 / 4 = g && w.until_.isNone then { w with until_ := some ((s.datum / 1000 + 1) * 1000) } else w) } }

/-- SWAP (R130, R131): the swap sample's result has been delivered; the relieved slice becomes the understudy. -/
def execSwap (t : Nat) (group : Fin 4) (s : State) : Host.Outcome State Fault Refusal :=
  s.run t fun s =>
    let h := s.hand group
    if s.usState group = us.swap && h.swapDone then
      let u := s.usSlice group
      let old := s.partSlice group h.part
      let s := s.setReg (Reg.CONV_MAP group) (BitVec.ofNat 32 (putBits (s.reg (Reg.CONV_MAP group)).toNat (4 * h.part) 3 u))
      let s := s.set (F.CONV_MAP_US_SLICE group) old
      let s := s.set (F.CONV_MAP_US_STATE group) us.idle
      let s := (s.setIbit F.CONV_STATUS_CAL_STALE group (s.ibit F.CONV_STATUS_CAL_STALE group && s.groupOld group)).flagsNow.releaseSlots group
      let s := s.when h.failed fun s => s.transient F.CONV_TRANSIENT_COUNT
      let s := s.setHand group { part := (h.part + 1) % 4, endAt := s.elapsed, urgent := h.urgent }
      (s.count F.CONV_HANDOVERS_COUNT).raise 51
    else s

/-- CAL_STALE (R134). -/
def execCalStale (t : Nat) (group : Fin 4) (s : State) : Host.Outcome State Fault Refusal :=
  s.run t fun s =>
    if s.groupOld group && !s.ibit F.CONV_STATUS_CAL_STALE group then
      (s.setIbit F.CONV_STATUS_CAL_STALE group true).flagsNow.raise 56
    else s

/-- A write of CONV_STALE (R134): the bit stays set only while the new limit is exceeded; CAL_STALE sets it anew. -/
def State.writeStale (data : Word) (s : State) : State :=
  let s := s.writeByAccess Reg.CONV_STALE data
  (s.each (List.range 4) fun g s =>
    s.setIbit F.CONV_STATUS_CAL_STALE g (s.ibit F.CONV_STATUS_CAL_STALE g && s.groupOld g)).flagsNow

/-- REFERENCE_MONITOR (R9, R120): three consecutive measurements outside [2.475 V, 2.525 V] set REF_FAULT, three inside clear it. -/
def execReferenceMonitor (t : Nat) (microvolts : Nat) (s : State) : Host.Outcome State Fault Refusal :=
  s.run t fun s =>
    if 2475000 ≤ microvolts && microvolts ≤ 2525000 then
      let s := { s with conv := { s.conv with refOut := 0, refIn := min 3 (s.conv.refIn + 1) } }
      s.when (3 ≤ s.conv.refIn) fun s => (s.setBit F.CONV_STATUS_REF_FAULT false).flagsNow
    else
      let s := { s with conv := { s.conv with refIn := 0, refOut := min 3 (s.conv.refOut + 1) } }
      s.when (3 ≤ s.conv.refOut && !s.bit F.CONV_STATUS_REF_FAULT) fun s =>
        (s.setBit F.CONV_STATUS_REF_FAULT true).flagsNow.raise 54

/-! Urgent conversions (R137 to R143) -/

/-- The serving group of an input (R137), by the slots in force (R114). -/
def State.servingGroup (s : State) (n : Nat) : Nat :=
  match (List.range 16).find? fun part =>
      let slot := s.slotNow part
      slot.testBit 31 && (List.range (bitsOf slot 25 2 + 1)).any fun j => bitsOf slot (4 * j) 4 == n with
  | some part => part / 4
  | none => 3

/-- An urgent request that no understudy can serve (R140). -/
def State.dropUrgent (s : State) : State := (s.count F.CONV_URGENT_DROP_COUNT).raise 50

/-- An understudy serves an urgent request of `who` for input `n`: the sample instant is `delay` from now, 200 ns after the acceptance (R138,
R140, R143). A ladder conversion is running or held until the last ladder result is ready. -/
def State.serveUrgent (g n delay who : Nat) (s : State) : State :=
  let u := 5 * g + s.usSlice g
  let busy := (s.usState g == us.cal && (s.hand g).ladder ≤ s.elapsed && s.elapsed < s.ladderEnd g) ||
    (s.usState g == us.overlap && s.conv.inflight.any fun c => c.use == Use.shadow && c.slice == u)
  let s := s.when busy fun s => s.count F.CONV_REQUEUE_COUNT
  let s := { s with conv := { s.conv with
    inflight := s.conv.inflight.filter fun c => !(c.use == Use.shadow && c.slice == u) } }
  (s.setHand g { s.hand g with urgent := some (s.elapsed + delay - 200, who) }).hold (s.conversion u none n delay .deliver)

/-- Of two requests accepted on one tick for one understudy the comparator of lower number, then the host, is served (R139): the one taken
first gives way and is dropped (R140). -/
def State.yieldUrgent (g n delay who : Nat) (s : State) : State :=
  let u := 5 * g + s.usSlice g
  let s := { s with conv := { s.conv with inflight := s.conv.inflight.filter fun c => !(c.part.isNone && c.slice == u) } }
  ((s.setHand g { s.hand g with urgent := some (s.elapsed + delay - 200, who) }).hold (s.conversion u none n delay .deliver)).dropUrgent

/-- An accepted urgent request of `who` tries the groups in order (R139, R140). DESIGN CHOICE (log 205): it goes on past every group in SWAP or
without understudy, and is dropped at the first group that is busy with an urgent request. -/
def State.tryUrgent (n delay who : Nat) : List Nat → State → State
  | [], s => s.dropUrgent
  | g :: gs, s =>
    if s.usState g = us.swap || 4 < s.usSlice g then State.tryUrgent n delay who gs s
    else match (s.hand g).urgent with
      | some x => if x.1 = s.elapsed + delay - 200 && who < x.2 then s.yieldUrgent g n delay who else s.dropUrgent
      | none => s.serveUrgent g n delay who

/-- An urgent request of `who` (a comparator, or 32 for the host) for input `n`, sampled `delay` from now (R137, R138, R140). -/
def State.urgentRequest (n delay who : Nat) (s : State) : State :=
  let g := s.servingGroup n
  s.tryUrgent n delay who [g, (g + 1) % 4, (g + 2) % 4, (g + 3) % 4]

/-- A write of CONV_URGENT (R138). -/
def State.writeUrgent (data : Word) (s : State) : State :=
  s.when (data.getLsbD 8) (State.urgentRequest (bitsOf data.toNat 0 4) 200 32)

/-- CONV_URGENT (R138 to R140). -/
def execConvUrgent (t : Nat) (data : Word) (s : State) : Host.Outcome State Fault Refusal :=
  s.run t fun s => s.bar0 Reg.CONV_URGENT data (State.writeUrgent data)

/-- The understudy of a group is free again after an urgent conversion (R142): in CAL the conversion that it aborted and those of the round
boundaries since are still to be made (R143). -/
def State.urgentDone (g : Nat) (s : State) : State :=
  let h := s.hand g
  match h.urgent with
  | none => s
  | some x =>
    let gone := s.elapsed - x.1
    let rounds := if s.usState g = us.cal && h.ladder ≤ x.1 && x.1 < s.ladderEnd g then s.datum / 1000 - (s.datum - gone) / 1000 + 1 else 0
    s.setHand g { h with urgent := none, suspended := h.suspended + gone, lost := h.lost + rounds }

/-! Register writes with rules of their own (R114, R116, R133, R150, R160) -/

/-- A write of CONV_SLOTn (R114); in SWAP the swap is completed first (R135). -/
def State.writeSlot (n : Nat) (data : Word) (s : State) : State :=
  if !s.curtainDown || 499 < bitsOf data.toNat 16 9 then s.setBit F.CONV_STATUS_CFG_REJECT true
  else
    let w : SlotWait := { old := BitVec.ofNat 32 (s.slotNow n)
                          until_ := if s.usState (n / 4) = us.swap then none else some ((s.datum / 1000 + 1) * 1000) }
    let s := { s with conv := { s.conv with slotWait := Sparse.set (fun _ => none) s.conv.slotWait n (some w) } }
    (s.setReg (Reg.CONV_SLOT n) data).abandonHand (n / 4)

/-- CONV_SLOT_WRITE (R114). -/
def execConvSlotWrite (t : Nat) (part : Fin 16) (data : Word) (s : State) : Host.Outcome State Fault Refusal :=
  s.run t fun s => s.bar0 (Reg.CONV_SLOT part) data (State.writeSlot part data)

/-- One READMIT bit (R133): the group's out slice becomes its understudy in IDLE, or the bit is refused. -/
def State.readmitGroup (g : Nat) (s : State) : State :=
  match (List.range 5).find? fun i => s.ibit (F.CONV_MAP_OUT g) i with
  | some i =>
    if s.curtainDown then
      let s := s.set (F.CONV_MAP_OUT g) 0
      let s := s.set (F.CONV_MAP_US_SLICE g) i
      let s := s.set (F.CONV_MAP_US_STATE g) us.idle
      let s := s.setIbit F.CONV_STATUS_NO_US g false
      s.setHand g { s.hand g with failed := false }
    else s.setBit F.CONV_STATUS_CFG_REJECT true
  | none => s.setBit F.CONV_STATUS_CFG_REJECT true

/-- A write of CONV_CTRL (R116, R133, R135): RUN is cleared only with the curtain LOWERED or LOCKED; HAND_EN cleared abandons the
handovers in CAL and OVERLAP. -/
def State.writeConvCtrl (data : Word) (s : State) : State :=
  let run := data.getLsbD 0
  if s.bit F.CONV_CTRL_RUN && !run && !s.curtainDown then s.setBit F.CONV_STATUS_CFG_REJECT true
  else
    let s := { s with conv := { s.conv with runWait := some (s.runNow, (s.datum / 1000 + 1) * 1000) } }
    let s := s.setBit F.CONV_CTRL_RUN run
    let s := s.setBit F.CONV_CTRL_HAND_EN (data.getLsbD 1)
    let s := s.when (!data.getLsbD 1) fun s => s.each (List.range 4) State.abandonHand
    s.each ((List.range 4).filter fun g => data.getLsbD (8 + g)) State.readmitGroup

/-- READMIT (R133). -/
def execReadmit (t : Nat) (data : Word) (s : State) : Host.Outcome State Fault Refusal :=
  s.run t fun s => s.bar0 Reg.CONV_CTRL data (State.writeConvCtrl data)

/-! Comparators (R144 to R157) -/

/-- A comparator returns to the normal side: visible in COMP_STATE, no event (R146, R148). -/
def State.compNormal (k : Nat) (s : State) : State := s.setIbit F.COMP_STATE_TRIPPED k false

/-- COMP_CFGk in force: a write takes effect on the next tick (R151). -/
def State.compCfg (s : State) (k : Nat) : Nat :=
  match Sparse.get (fun _ => none) s.conv.compWait k with
  | some w => if s.elapsed < w.2 then w.1.toNat else (s.reg (Reg.COMP_CFG k)).toNat
  | none => (s.reg (Reg.COMP_CFG k)).toNat

/-- Fields of a COMP_CFG value (R148, R149). -/
def compEnable (x : Nat) : Bool := x.testBit 31
def compFilt (x : Nat) : Nat := bitsOf x 28 2

/-- The filtered output keeps its previous value while its filter is refilled (R151). -/
def State.compHeld (s : State) (k : Nat) : Bool :=
  match Sparse.get (fun _ => none) s.conv.compFill k with
  | none => false
  | some t0 => s.elapsed < t0 + refillTime (compFilt (s.compCfg k))

/-- COMP_NORMAL (R146, R148, R151). -/
def execCompNormal (t : Nat) (k : Fin 32) (s : State) : Host.Outcome State Fault Refusal :=
  s.run t fun s => s.when (!s.compHeld k) (State.compNormal k)

/-- The GATE, HALT and CURTAIN bits of a COMP_CFG value. -/
def routesOf (x : Nat) : Nat := bitsOf x 26 2 * 2 + bitsOf x 23 1

/-- ENABLE, FILT, HYST and THRESH of a COMP_CFG value. -/
def coreOf (x : Nat) : Nat × Nat × Nat × Nat := (bitsOf x 31 1, bitsOf x 28 2, bitsOf x 20 3, bitsOf x 0 10)

/-- A COMP_CFG write is refused while the curtain is up (R150): the comparator has one of the routes GATE, HALT and CURTAIN set, unless the
write only adds routes or changes nothing (log 29). -/
def compWriteRefused (old new : Nat) : Bool :=
  let onlyEnables := coreOf old == coreOf new && Nat.land (bitsOf old 23 5) (bitsOf new 23 5) == bitsOf old 23 5
  !onlyEnables && routesOf old != 0

/-- A write of COMP_CFGk (R150, R151, R160). -/
def State.writeCompCfg (k : Nat) (data : Word) (s : State) : State :=
  if bitsOf data.toNat 28 2 = 3 || (!s.curtainDown && compWriteRefused (s.reg (Reg.COMP_CFG k)).toNat data.toNat) then
    s.setBit F.COMP_STATUS_CFG_REJECT true
  else
    let old := s.compCfg k
    let new := data.toNat
    let refill := (bitsOf old 28 2, bitsOf old 20 3, bitsOf old 0 10) != (bitsOf new 28 2, bitsOf new 20 3, bitsOf new 0 10)
    let s := { s with conv := { s.conv with
      compWait := Sparse.set (fun _ => none) s.conv.compWait k (some (BitVec.ofNat 32 old, s.elapsed + 2))
      compFill := if refill then Sparse.set (fun _ => none) s.conv.compFill k (some (s.elapsed + 2)) else s.conv.compFill } }
    let s := s.writeByAccess (Reg.COMP_CFG k) data
    s.when (!s.bit (F.COMP_CFG_ENABLE k)) (State.compNormal k)

/-- COMP_CFG_WRITE (R150, R151). -/
def execCompCfgWrite (t : Nat) (k : Fin 32) (data : Word) (s : State) : Host.Outcome State Fault Refusal :=
  s.run t fun s => s.bar0 (Reg.COMP_CFG k) data (State.writeCompCfg k data)

/-- R154 refuses the start of a comparator self-test. -/
def State.testRefused (s : State) : Bool :=
  !s.curtainDown || s.tableau || s.bit F.COMP_STATUS_TEST_BUSY || s.get F.COMP_TEST_SEL_SEL == 0

/-- A comparator self-test begins (R154, R155). DESIGN CHOICE (log 207): it tests exactly the comparators whose bits are set, also one of a
pair alone. -/
def State.startTest (s : State) : State :=
  { s.setBit F.COMP_STATUS_TEST_BUSY true with conv := { s.conv with
      test := some { sel := s.reg Reg.COMP_TEST_SEL, mode := s.get F.COMP_TEST_CTRL_MODE
                     before := s.reg Reg.COMP_STATE, start := s.elapsed } } }

/-- A write of COMP_TEST_CTRL (R154). -/
def State.writeTestCtrl (data : Word) (s : State) : State :=
  if data.getLsbD 31 then
    if s.testRefused then s.setBit F.COMP_STATUS_TEST_REFUSED true
    else (s.set F.COMP_TEST_CTRL_MODE (bitsOf data.toNat 0 2)).startTest
  else s.set F.COMP_TEST_CTRL_MODE (bitsOf data.toNat 0 2)

/-- COMP_TEST_START (R154, R155); in tableau the start is refused at once. -/
def execCompTestStart (t : Nat) (data : Word) (s : State) : Host.Outcome State Fault Refusal :=
  s.run t fun s =>
    if s.tableau && data.getLsbD 31 then s.setBit F.COMP_STATUS_TEST_REFUSED true
    else s.bar0 Reg.COMP_TEST_CTRL data (State.writeTestCtrl data)

/-- The threshold in force of comparator `k`, in steps (R144, R146). -/
def State.threshold (s : State) (k : Nat) (tripped : Bool) : Int :=
  let n : Int := s.get (F.COMP_CFG_THRESH k)
  let h : Int := s.get (F.COMP_CFG_HYST k)
  if !tripped then n else if k % 2 = 1 then n - h else n + h

/-- Expected output of comparator `k` in a test, or none where it is not judged (R157): thresholds and levels in 1/64 step, so that the latest
value counts exactly. DESIGN CHOICE (log 208): the last 10 us are those between the sample instant of the value in CONV_LAST and this step. -/
def State.testExpect (s : State) (k mode : Nat) (before : Bool) : Option Bool :=
  let thr := s.threshold k before * 64
  let far := fun (level : Int) => 512 < |thr - level|
  match mode with
  | 0 =>
    match (Sparse.get (fun _ => {}) s.conv.inputs (k / 2)).at_ with
    | some t0 =>
      if s.elapsed < t0 + 10000 && far (s.getInt (F.CONV_LAST_VALUE (k / 2)) + 32768) then some (!before) else none
    | none => none
  | 1 => if far 0 then some (k % 2 == 0) else none
  | 2 => if far 32768 then some (if k % 2 = 1 then thr < 32768 else 32768 < thr) else none
  | _ => if far 65536 then some (k % 2 == 1) else none

/-- COMP_TEST_READ (R156, R157): the filtered outputs are judged. -/
def execCompTestRead (t : Nat) (filtered : Word) (s : State) : Host.Outcome State Fault Refusal :=
  s.run t fun s =>
    match s.conv.test with
    | none => s
    | some x =>
      if x.read.isSome || s.elapsed < x.start + 100 then s
      else
        let judge := fun k => s.testExpect k x.mode (x.before.getLsbD k)
        let picked := (List.range 32).filter fun k => x.sel.getLsbD k
        let skip := picked.filter fun k => (judge k).isNone
        let fail := picked.filter fun k => match judge k with
          | some e => filtered.getLsbD k != e
          | none => false
        let bits := fun (l : List Nat) => (l.map fun k => 2 ^ k).sum
        let s := s.set F.COMP_TEST_SKIP_SKIP (bits skip)
        let s := s.set F.COMP_TEST_RESULT_FAIL (bits fail)
        let s := s.each picked fun k s => s.setIbit F.COMP_STATE_TRIPPED k (filtered.getLsbD k && s.bit (F.COMP_CFG_ENABLE k))
        { s with conv := { s.conv with test := some { x with read := some s.elapsed } } }

/-- The number of bits set in a word. -/
def popCount (x : Nat) : Nat := ((List.range 32).filter fun i => x.testBit i).length

/-- COMP_TEST_DONE (R156, R565): the filters have been refilled from the restored inputs, the routes are released, and a SELFTEST that
asked for the test completes. -/
def execCompTestDone (t : Nat) (after : Word) (s : State) : Host.Outcome State Fault Refusal :=
  s.run t fun s =>
    match s.conv.test with
    | none => s
    | some x =>
      if x.read.isNone then s
      else
        let picked := (List.range 32).filter fun k => x.sel.getLsbD k
        let s := s.each picked fun k s => s.setIbit F.COMP_STATE_TRIPPED k (after.getLsbD k && s.bit (F.COMP_CFG_ENABLE k))
        let s := { s with conv := { s.conv with test := none } }
        let s := ((s.setBit F.COMP_STATUS_TEST_BUSY false).setBit F.COMP_STATUS_TEST_DONE true).raise 55
        match s.host.tests.comp with
        | none => s
        | some d =>
          let failed := popCount (s.get F.COMP_TEST_RESULT_FAIL)
          let s := { s with host := { s.host with tests := { s.host.tests with comp := none } } }
          let s := s.when (failed != 0) fun s => s.raise 7 0
          s.finish d (failed + 256 * popCount (s.get F.COMP_TEST_SKIP_SKIP))

end Sys2Proof.Machine
end

