-- ==== Sys2Proof/Machine/Engine.lean ====
section
/-! DEFINITION. Sys2Proof/Machine/Engine.lean: the current engine: outer loop, prediction, decision law, bands, supervision, ramp,
states (spec/06). -/

namespace Sys2Proof.Machine

def State.eng (s : State) (x : Nat) : Eng := Sparse.get (fun _ => {}) s.engine.phases x

def State.mapEngine (s : State) (f : Engine → Engine) : State := { s with engine := f s.engine }

def State.setEng (s : State) (x : Nat) (e : Eng) : State :=
  s.mapEngine fun g => { g with phases := Sparse.set (fun _ => {}) g.phases x e }

/-- ENGAGED, RAMPING or ZEROED: the engine decides. -/
def State.deciding (s : State) : Bool := s.engState == eng.engaged || s.ramped

/-- READY of the engine (R301). -/
def State.engReady (s : State) : Bool := s.bit F.CUR_CTRL_EN && s.tableOk tid.filters

/-! States (R300) -/

/-- The state itself changed, with ENGINE_STATE. -/
def State.engGoto (s : State) (v : Nat) : State := if s.engState = v then s else (s.set F.CUR_STATUS_STATE v).raise 135

/-- Entry to ENGAGED (R280, R287, R293, R302, R326): integrators and the star filter at 0, bands at B_INIT, z at 0. -/
def State.engEngage (s : State) : State :=
  let s := s.each (List.range 3) fun x s =>
    let e := s.eng x
    let s := s.setEng x { e with
      integ := 0, past := e.past.map fun o => { o with integ := 0 }, base := none, fe := none, feExpired := false
      feHold := false, missIc := 0, missIg := 0, inside := false }
    let s := s.set (F.CUR_BAND_BAND x) (s.get F.CUR_BAND_INIT_B_INIT)
    s.setInt (F.CAST_PHASE_Z x) 0
  let s := s.mapEngine fun g => { g with
    engaged := some (s.elapsed, s.datum), vn := 0, vnStamp := none, winBad := true, rampAt := none, rampZero := false, zeroSince := none }
  let s := { s with cast := { s.cast with first := true, zsMissed := false } }
  let s := (s.setSat F.CUR_VN_RES_RES 0).setBit F.CUR_STATUS_STAR_RES false
  (s.engGoto eng.engaged).holdPrecharge true

/-- The engine stops deciding and enters STOPPED or IDLE; casting blocks the cells (R312). -/
def State.engEnd (v : Nat) (s : State) : State :=
  if s.engState = eng.idle || s.engState = v then s
  else
    let was := s.deciding
    let s := s.mapEngine fun g => { g with engaged := none, winBad := true }
    let s := (s.engGoto v).when was fun s => s.holdPrecharge false
    s.when was State.castDisengage

/-- An input timeout or a following error that stops the engine (R300). -/
def State.engStop (s : State) : State := if s.deciding then (s.engEnd eng.stopped).engineFault else s

/-- The curtain has entered LOWERED or LOCKED (R300): after a ramp, IDLE; without one, STOPPED and at once IDLE. -/
def State.engCurtainDown (s : State) : State :=
  let s := if s.engState = eng.engaged || s.engState = eng.ramping || (s.engState = eng.zeroed && s.curtain = 0) then
      s.engEnd eng.stopped else s
  if s.engState = eng.frozen then s else s.engEnd eng.idle

/-- A loop has entered HALTED (R300). -/
def State.engHalt (s : State) : State := if s.deciding then s.engEnd eng.stopped else s

/-- A ramp request from the curtain (R297, R299). -/
def State.engRamp (s : State) : State :=
  if s.engaged then
    let s := s.mapEngine fun g => { g with
      keep := { s.grid.amps with sig := 0 }, rampAt := some (s.datum, s.elapsed), rampZero := s.ceased
      zeroSince := some (s.elapsed + s.get F.CUR_RAMPZ_TIME * 10000), winBad := true }
    (s.engGoto eng.ramping).holdPrecharge false
  else s

/-! The schedule's integrals (R281 to R283) -/

/-- Sum of f over the pieces between consecutive instants, each held from its start, in units times ns. -/
def pieces (f : Nat → Rat) : List Nat → Rat
  | a :: b :: rest => f a * ((b - a : Nat) : Int) + pieces f (b :: rest)
  | _ => 0

/-- Sum of the trapezia of f between consecutive instants. -/
def trapezia (f : Nat → Rat) : List Nat → Rat
  | a :: b :: rest => (f a + f b) / 2 * ((b - a : Nat) : Int) + trapezia f (b :: rest)
  | _ => 0

/-- Numbers in rising order. -/
def sortNat (l : List Nat) : List Nat := l.foldr (List.orderedInsert (· ≤ ·)) []

/-- The integral of a phase's string voltage over [a, b), exact, in V ns. -/
def State.stringIntegral (s : State) (x a b : Nat) : Rat :=
  let times := (s.phaseCells x).flatMap fun c => ((s.tx c).hist.map Change.time).filter fun t => a < t && t < b
  pieces (s.stringVoltage x) ([a] ++ (sortNat times).dedup ++ [b])

/-- r_x of R283: 0 when no VGx result has arrived within 20 us. -/
def State.rx (s : State) (x : Nat) : Rat :=
  match (s.eng x).vg with
  | some (h, v, arrived) => if s.elapsed < arrived + 20000 then v - s.vModel h x else 0
  | none => 0

/-- The capacitor voltage of a phase (R283), with its residual given. -/
def State.vCap (s : State) (rx : Nat → Rat) (t x : Nat) : Rat := s.vModel t x + rx x + s.fL2 x * s.igSlope t x

/-- The instants of the trapezoidal rule: steps of at most 250 ns. -/
def trapSteps (a b : Nat) : List Nat :=
  let n := (b - a + 249) / 250
  (List.range (n + 1)).map fun i => if n = 0 then a else a + (b - a) * i / n

/-- A weighted by 1/L1 mean over the phases (v_m of R281). -/
def State.phaseMean (s : State) (v : Nat → Rat) : Rat :=
  ((List.range 3).map fun y => v y / s.fL1 y).sum / ((List.range 3).map fun y => 1 / s.fL1 y).sum

/-- The predicted current and its slope at `ta` from a base point (R281). -/
def State.predict (s : State) (rx : Nat → Rat) (x : Nat) (base : Nat × Rat) (ta : Nat) : Rat × Rat :=
  let steps := trapSteps base.1 ta
  let integ := fun y => s.stringIntegral y base.1 ta - trapezia (fun t => s.vCap rx t y) steps
  let v := fun y => s.stringVoltage y (ta - 1) - s.vCap rx ta y
  (base.2 + (integ x - s.phaseMean integ) / s.fL1 x / 1000000000, (v x - s.phaseMean v) / s.fL1 x)

/-! The converter-current reference (R277 to R279) -/

/-- cf_ref(x, t) (R277). -/
def State.cfRef (s : State) (t x : Nat) : Rat := s.fCf x * s.vModelSlope t x

/-- i*c,x(t) (R279) with given outer-loop terms. -/
def State.icRef (s : State) (u d : Rat) (t x : Nat) : Rat := s.igRef t x + s.cfRef t x + u + d

/-- Its slope: the derivative of the first two terms. -/
def State.icSlope (s : State) (t x : Nat) : Rat :=
  s.igSlope t x - s.fCf x * (2 * piOf * s.freqHz) ^ 2 * s.vModel t x

/-- The nominal interval between samples of an input by the part that holds it, in s (R113, R277). -/
def State.sampleInterval (s : State) (n : Nat) : Rat :=
  match (List.range 16).find? fun part =>
      let slot := s.slotNow part
      slot.testBit 31 && (List.range (bitsOf slot 25 2 + 1)).any fun j => bitsOf slot (4 * j) 4 == n with
  | some part => ((bitsOf (s.slotNow part) 27 4 + 1) * (bitsOf (s.slotNow part) 25 2 + 1) : Nat) / 1000000
  | none => 1 / 1000000

/-- The limit on |u| (R280). -/
def State.uLimit (s : State) : Rat := sqrt2 * s.iBase / 10

/-- A rational clamped to a symmetric limit. -/
def clampRat (lim x : Rat) : Rat := max (-lim) (min lim x)

/-- What an outer-loop step for a grid current stamped `h` starts from (R277, R280). -/
def State.outerStart (s : State) (x h : Nat) : OuterPast :=
  let e := s.eng x
  { hg := h, tg := s.sampleInterval (3 + x)
    ic := match (e.ics.filter fun r => r.1 ≤ h).getLast? with
      | some r => r.2
      | none => 0
    integ := e.integ, held := s.ibit F.CUR_STATUS_SAT x || s.ceased || !s.engaged
    w1 := e.w1, w2 := e.w2, y1 := e.y1, y2 := e.y2 }

/-- An outer-loop step (R277, R278, R280) from its start, for a grid current. -/
def State.outerStep (s : State) (x : Nat) (e : OuterPast) (ig : Rat) : Eng :=
  let err := s.igRef e.hg x - ig
  let integ := if e.held then e.integ else e.integ + s.fKi x * err * e.tg
  let w := s.fKp x * err + integ
  let d := -(s.fKd x) * (e.ic - ig - s.cfRef e.hg x)
  let g := { s.eng x with integ := integ, d := d, past := some e }
  if s.notchOn x then
    let w0 := s.fNotch x * e.tg
    let al := sinOf w0 / (2 * s.fNotchQ x)
    let b0 := 1 / (1 + al)
    let b1 := -2 * cosOf w0 / (1 + al)
    let a2 := (1 - al) / (1 + al)
    let y := clampRat s.uLimit (b0 * w + b1 * e.w1 + b0 * e.w2 - b1 * e.y1 - a2 * e.y2)
    { g with u := y, w2 := e.w1, w1 := w, y2 := e.y1, y1 := y }
  else { g with u := clampRat s.uLimit w }

/-! Decisions (R274 to R276, R284 to R286, R289 to R293) -/

/-- The law of R284: levels requested for a predicted error and slope; T_RET in s. -/
def decide284 (b e de tRet : Rat) (stepMax : Nat) : Int :=
  if b < e then
    if 0 ≤ de || -de * tRet < e - b then min (stepMax : Int) ((e / b).ceil - 1) else 0
  else if e < -b then
    if de ≤ 0 || de * tRet < -e - b then -min (stepMax : Int) ((-e / b).ceil - 1) else 0
  else 0

/-- |k| reduced until the level lies in [-n, n] (R285). -/
def reduceLevel (l n k : Int) : Int :=
  if 0 < k then max 0 (min k (n - l)) else if k < 0 then min 0 (max k (-n - l)) else 0

/-- SAT of a phase after a decision (R285). -/
def State.setSaturated (x : Nat) (sat : Bool) (s : State) : State :=
  let was := s.ibit F.CUR_STATUS_SAT x
  let s := s.setIbit F.CUR_STATUS_SAT x sat
  if sat then
    let s := s.setEng x { s.eng x with satWin := true }
    (s.count F.CUR_SAT_COUNT_COUNT).when (!was) fun s => s.raise 134
  else s

/-- A request handed to casting. -/
def State.request (r : Request) (s : State) : State :=
  { s with cast := { s.cast with requests := s.cast.requests ++ [r] } }

/-- A decision of phase `x` for act time `ta` (R284 to R286): from a base point, with the outer-loop terms and residuals to use. -/
def State.decideAt (x ta : Nat) (base : Option (Nat × Rat)) (u d : Rat) (rx : Nat → Rat) (s : State) : State :=
  let s := s.setEng x { s.eng x with lastTa := some ta }
  match base with
  | none => (s.setSaturated x false).request
      { phase := x, ta := ta, k := 0, iHat := (s.castPhase x).iHat, err := 0, band := s.get (F.CUR_BAND_BAND x), stamp := s.datum
        at_ := s.elapsed }
  | some b =>
    let p := s.predict rx x b ta
    let err := s.icRef u d ta x - p.1
    let slope := s.icSlope ta x - p.2
    let band := s.get (F.CUR_BAND_BAND x)
    let want := decide284 ((band : Rat) / 1000) err slope ((s.get F.CUR_LAW_T_RET : Rat) / 1000000) (s.get F.CUR_LAW_STEP_MAX)
    let k := reduceLevel (s.levelAt x (ta - 1)) (s.activeCells x).length want
    let s := s.setSaturated x (want != 0 && k == 0)
    let s := s.setSat (F.CUR_ERR_PRED x) (roundAway (100 * err))
    s.request { phase := x, ta := ta, k := k, iHat := p.1, err := roundAway (1000 * err), band := band, stamp := s.datum
                at_ := s.elapsed }

/-- E and E_F of R275 in ns. -/
def State.pipeline (s : State) (fast : Bool) : Nat :=
  let long := s.get F.WING_CTRL_PERIOD = 2
  if fast then (if long then 3200 else 2200) else (if long then 4000 else 3000)

/-- A decision is made, or skipped where its act time is not later than the latest (R292). -/
def State.decideOrSkip (x ta : Nat) (base : Option (Nat × Rat)) (u d : Rat) (rx : Nat → Rat) (s : State) : State :=
  let late : Bool := match (s.eng x).lastTa with
    | some t0 => ta ≤ t0
    | none => false
  if late then s.count F.CUR_SKIP_COUNT else s.decideAt x ta base u d rx

/-- The ordinary decision of phase `x` for a result stamped `h` (R274, R275). -/
def State.ordinary (x h : Nat) (s : State) : State :=
  let ta := max (h + s.pipeline false + s.cueLead) (s.actBase (s.frameFrom (h + 1400)))
  let e := s.eng x
  s.decideOrSkip x ta e.base e.u e.d s.rx

/-- FAST_DECISION (R289 to R292): the waiting request of a phase is decided from its crossing. For IGx the latest outer-loop step is taken
again with the threshold current in place of IGx, for this decision only. -/
def execFastDecision (t : Nat) (phase : Fin 3) (s : State) : Host.Outcome State Fault Refusal :=
  s.run t fun s =>
    let x := phase.val
    match (s.eng x).fast with
    | none => s
    | some q =>
      if s.tableau || s.datum < q.tf then s
      else
        let s := s.setEng x { s.eng x with fast := none }
        if !s.deciding then s
        else
          let s := s.count F.CUR_FAST_COUNT
          let ta := max (s.datum + s.pipeline true + s.cueLead) (s.actBase (s.frameFrom (s.datum + 200)))
          let e := s.eng x
          let v := s.convert q.input q.value
          if q.input < 3 then
            s.decideOrSkip x ta e.base e.u e.d (fun y => if y = x then v - s.vModel q.tc x else s.rx y)
          else if q.input < 6 then
            let o := match e.past with
              | some past => s.outerStep x past v
              | none => e
            s.decideOrSkip x ta e.base o.u o.d s.rx
          else s.decideOrSkip x ta (some (q.tc, v)) e.u e.d s.rx

/-- A fast request of a comparator on input `n` (R289, R291): accepted on the next STAGE tick; a further one is merged. -/
def State.fastRequest (n tc : Nat) (value : Int) (s : State) : State :=
  if s.bit F.CUR_CTRL_FAST_EN && s.deciding && n < 9 then
    let x := n % 3
    let e := s.eng x
    if e.fast.isSome then s.count F.CUR_FAST_MERGED_COUNT
    else s.setEng x { e with fast := some { input := n, tc := tc, value := value, tf := s.datum + 2 } }
  else s

/-! Supervision (R293 to R296) -/

/-- The following-error timer is held at reset (R296). -/
def State.feHeld (s : State) : Bool :=
  s.ceased || !s.deciding ||
    (match s.engine.cessAt with
     | some t0 => s.elapsed < t0 + 2000000
     | none => false) ||
    (match s.engine.engaged with
     | some (t0, _) => s.elapsed < t0 + 1000000
     | none => false)

/-- A non-missing scheduled ICx result supervised (R294); one at or below the limit frees the timer (R295). -/
def State.supervise (x h : Nat) (ic : Rat) (clip : Bool) (s : State) : State :=
  let e := s.eng x
  let em := s.icRef e.u e.d h x - ic
  let s := s.setSat (F.CUR_ERR_MEAS x) (roundAway (100 * em))
  let lim : Rat := (s.get F.CUR_FE_LIMIT : Rat) / 10
  if !(lim < em || em < -lim || clip) then s.setEng x { e with fe := none, feExpired := false, feHold := false }
  else if s.feHeld then s.setEng x { e with fe := none, feExpired := false }
  else
    match e.fe with
    | none => if e.feHold then s else s.setEng x { e with fe := some h }
    | some t0 => if t0 + s.get F.CUR_FE_TIME * 1000 ≤ h then s.setEng x { e with feExpired := true } else s

/-- FOLLOW_ERR (R295). -/
def execFollowErr (t : Nat) (phase : Fin 3) (s : State) : Host.Outcome State Fault Refusal :=
  s.run t fun s =>
    let e := s.eng phase
    if e.feExpired && s.deciding then
      let s := s.setEng phase { e with fe := none, feExpired := false, feHold := true }
      let s := ((s.setIbit F.CUR_STATUS_FE phase true).count F.CUR_FE_COUNT_COUNT).raise 128
      s.when (s.bit F.CUR_CTRL_FE_STOP) State.engStop
    else s

/-- CUR_INPUT (R293): four consecutive MISSING ICx or eight IGx results; it acts once in a run of them. -/
def execCurInput (t : Nat) (phase : Fin 3) (s : State) : Host.Outcome State Fault Refusal :=
  s.run t fun s =>
    let e := s.eng phase
    if (e.missIc = 4 || e.missIg = 8) && !s.tableau then
      let s := s.setEng phase { e with
        missIc := if e.missIc = 4 then 5 else e.missIc, missIg := if e.missIg = 8 then 9 else e.missIg }
      ((s.setIbit F.CUR_STATUS_INPUT_TO phase true).raise 131).engStop
    else s

/-! Results (R274, R277, R289, R293, R298, R302) -/

/-- An ICx result of the engine: base point, supervision, decision (R274, R293, R294). An urgent one is a candidate base point only. -/
def State.icResult (x h : Nat) (v : Option Int) (clip urgent : Bool) (s : State) : State :=
  if s.engState = eng.frozen then s
  else
    let e := s.eng x
    let s := match v with
      | none => s.setEng x { e with missIc := if !urgent && e.missIc < 4 then e.missIc + 1 else e.missIc }
      | some a =>
        let i := s.convert (6 + x) a
        let fresh : Bool := match s.engine.engaged with
          | some (_, d) => d ≤ h
          | none => false
        let later : Bool := match e.base with
          | some b => b.1 < h || (b.1 == h && !urgent)
          | none => true
        let ics := (e.ics ++ [(h, i)]).drop (e.ics.length + 1 - 8)
        let e := { e with base := if fresh && later then some (h, i) else e.base }
        if urgent then s.setEng x e else (s.setEng x { e with missIc := 0, ics := ics }).supervise x h i clip
    s.when (!urgent && s.deciding) (State.ordinary x h)

/-- A result of IGx above ZERO, or a MISSING one, starts the 100 us of R298 again, urgent or not. -/
def State.zeroWatch (i : Option Rat) (s : State) : State :=
  let lim : Rat := (s.get F.CUR_RAMPZ_ZERO : Rat) / 10
  let far : Bool := match i with
    | none => true
    | some i => lim < i || i < -lim
  s.when (s.engState == eng.ramping && far) fun s => s.mapEngine fun g => { g with
    zeroSince := g.zeroSince.map fun t0 => max t0 s.elapsed }

/-- An IGx result of the engine (R277, R293, R298). An urgent one neither advances the outer loop nor counts in the run of MISSING results:
DEDUCED (log 215). -/
def State.igResult (x h : Nat) (v : Option Int) (urgent : Bool) (s : State) : State :=
  if s.engState = eng.frozen then s
  else
    let i := v.map (s.convert (3 + x))
    let e := s.eng x
    (s.when (!urgent) fun s =>
      match i with
      | none => s.setEng x { e with missIg := if e.missIg < 8 then e.missIg + 1 else e.missIg }
      | some i => s.setEng x { s.outerStep x (s.outerStart x h) i with missIg := 0 }).zeroWatch i

/-- A VGx result of the engine (R283, R293). -/
def State.vgEngine (x h : Nat) (v : Option Int) (s : State) : State :=
  match v with
  | none => s
  | some a =>
    if s.engState = eng.frozen then s else s.setEng x { s.eng x with vg := some (h, s.convert x a, s.elapsed) }

/-- The star-point check is off: the VNE gain in force is 0 (R302). -/
def State.starOff (s : State) : Bool := s.filt32 (4 + 8 * 9) == 0

/-- A VNE result (R302). -/
def State.vneResult (h : Nat) (v : Option Int) (s : State) : State :=
  if s.engState = eng.frozen then s
  else if s.starOff then s.setBit F.CUR_STATUS_STAR_RES false
  else
    match v with
    | none => s
    | some a =>
      let vy := fun y => s.stringVoltage y h - s.vCap s.rx h y
      let res := s.convert 9 a + s.phaseMean vy
      let dt : Rat := match s.engine.vnStamp with
        | some t0 => ((h - t0 : Nat) : Int) / 1000000000
        | none => s.sampleInterval 9
      let f := s.engine.vn + Config.lag (dt * 1000) * (res - s.engine.vn)
      let s := s.mapEngine fun g => { g with vn := f, vnStamp := some h }
      let s := s.setSat F.CUR_VN_RES_RES (roundAway f)
      let lim : Rat := s.get F.CUR_STAR_RES_LIM
      let out : Bool := lim < f || f < -lim
      let was := s.bit F.CUR_STATUS_STAR_RES
      (s.setBit F.CUR_STATUS_STAR_RES out).when (out && !was) fun s => s.raise 133

/-! Bands and the ramp (R287, R288, R298) -/

/-- CUR_BAND_CFG in force: a write takes effect at the next window boundary (R309). -/
def State.bandCfg (s : State) : Word := s.engine.bandWait.getD (s.reg Reg.CUR_BAND_CFG)

/-- WIN in ms and F_TARGET in Hz in force (R287, R309). -/
def State.bandWin (s : State) : Nat := bitsOf s.bandCfg.toNat 8 8
def State.bandTarget (s : State) : Nat := bitsOf s.bandCfg.toNat 16 16

/-- A write of CUR_BAND_CFG (R309). -/
def State.writeBandCfg (data : Word) (s : State) : State :=
  let old := s.bandCfg
  (s.writeByAccess Reg.CUR_BAND_CFG data).mapEngine fun e => { e with bandWait := some old }

/-- One phase's band at the end of a window (R287, R288). -/
def State.bandPhase (bad : Bool) (x : Nat) (s : State) : State :=
  let e := s.eng x
  let n := (s.activeCells x).length
  let win := s.bandWin
  let s := s.setEng x { e with granted := 0, satWin := false }
  if bad || !s.bit F.CUR_CTRL_ADAPT_EN || n = 0 || e.satWin || s.ibit F.CUR_STATUS_SAT x then s
  else
    let f : Rat := (e.granted : Rat) * 1000 / ((2 * n * win : Nat) : Rat)
    let ratio := max (7 / 8) (min (9 / 8) (f / s.bandTarget))
    let lo := s.get F.CUR_BAND_LIM_B_MIN
    let hi := s.get F.CUR_BAND_LIM_B_MAX
    let b := max lo (min hi ((s.get (F.CUR_BAND_BAND x) : Rat) * ratio + 1 / 2).floor.toNat)
    let inside := lo < b && b < hi
    let s := (s.set (F.CUR_BAND_BAND x) b).setTop (F.CUR_FSW_FSW x) (roundAway f).toNat
    let s := s.setEng x { s.eng x with inside := inside }
    s.when (e.inside && !inside) fun s => s.raise 132

/-- BAND_UPDATE (R287, R288). -/
def execBandUpdate (t : Nat) (s : State) : Host.Outcome State Fault Refusal :=
  s.run t fun s =>
    let win := s.bandWin * 1000000
    if s.expired s.engine.winStart win && !s.tableau then
      let bad := s.engine.winBad || !s.engaged || s.ceased
      let s := s.each (List.range 3) (State.bandPhase bad)
      s.mapEngine fun g => { g with winStart := g.winStart + win, winBad := !s.engaged || s.ceased, bandWait := none }
    else s

/-- ZERO_REACHED (R298): all three grid currents have stayed within ZERO for 100 us after the ramp. -/
def execZeroReached (t : Nat) (s : State) : Host.Outcome State Fault Refusal :=
  s.run t fun s =>
    if s.engState = eng.ramping && s.due s.engine.zeroSince 100000 then
      (s.raise 129).engGoto eng.zeroed
    else s

/-- RAMP_FAIL (R298): zero has not been reached by TIME + WAIT; the curtain is told, and the engine stops. -/
def execRampFail (t : Nat) (s : State) : Host.Outcome State Fault Refusal :=
  s.run t fun s =>
    match s.engine.rampAt with
    | none => s
    | some (_, t0) =>
      if s.engState = eng.ramping && s.expired t0 (s.get F.CUR_RAMPZ_TIME * 10000 + s.get F.CUR_RAMPZ_WAIT * 100000) then
        ((s.raise 130).engEnd eng.stopped).curtCause 14
      else s

end Sys2Proof.Machine
end

