-- ==== Sys2Proof/Machine/CellPwr.lean ====
section
/-! DEFINITION. Sys2Proof/Machine/CellPwr.lean: per-cell power: bounds, plan, zero-sequence demand, trackers, batteries, dump switches
(spec/08). Powers are rational numbers in W. -/

namespace Sys2Proof.Machine

/-! MPPT_PARAM (R361) -/

/-- A byte of a cell's entry in force: a load takes effect at the next evaluation tick (R367). -/
def State.mp8 (s : State) (c off : Nat) : Nat :=
  if !s.tableOk tid.mpptParam then 0
  else match s.pwr.mpWait with
    | some old => (Sparse.get (tableReset tid.mpptParam) old (16 * c + off)).toNat
    | none => s.tbl8 tid.mpptParam (16 * c + off)

/-- An MPPT_PARAM load has been accepted: `old` is the working copy in force until the next tick (R367). -/
def State.mpHold (old : SMap Byte) (s : State) : State :=
  { s with pwr := { s.pwr with mpWait := some (s.pwr.mpWait.getD old) } }

def State.mp16 (s : State) (c off : Nat) : Nat := s.mp8 c off + 256 * s.mp8 c (off + 1)
def State.mpS16 (s : State) (c off : Nat) : Int := signed 16 (s.mp16 c off)

def State.trackEn (s : State) (c : Nat) : Bool := (s.mp8 c 0).testBit 0
def State.batEn (s : State) (c : Nat) : Bool := (s.mp8 c 0).testBit 0
def State.batFill (s : State) (c : Nat) : Bool := (s.mp8 c 0).testBit 1
def State.pDead (s : State) (c : Nat) : Rat := 10 * s.mp16 c 6

/-- The ACTIVE cells that act as PV or as a battery (R347, R348). -/
def State.isPv (s : State) (c : Nat) : Bool := s.cState c == cs.active && s.actsAs c == kind.pv
def State.isBat (s : State) (c : Nat) : Bool := s.cState c == cs.active && s.actsAs c == kind.battery

/-- An enabled FILL battery. -/
def State.isFill (s : State) (c : Nat) : Bool := s.isBat c && s.batEn c && s.batFill c

/-- The ACTIVE cells. -/
def State.steered (s : State) : List Nat := cellIds.filter fun c => s.cState c == cs.active

/-- Tracker state codes (R364). -/
abbrev trk.off : Nat := 0
abbrev trk.track : Nat := 1
abbrev trk.follow : Nat := 2
abbrev trk.scan : Nat := 3
abbrev trk.probe : Nat := 4
abbrev trk.hold : Nat := 5

def State.trk (s : State) (c : Nat) : Nat := s.get (F.CELLPWR_CELL_TRK c)
def State.setTrk (s : State) (c v : Nat) : State := s.set (F.CELLPWR_CELL_TRK c) v

/-- The cell is in SCAN or PROBE. -/
def State.excursion (s : State) (c : Nat) : Bool := s.trk c == trk.scan || s.trk c == trk.probe

def sumOf (l : List Nat) (f : Nat → Rat) : Rat := (l.map f).sum

def State.pHi (s : State) (c : Nat) : Rat := (s.pwrCell c).hi
def State.pLo (s : State) (c : Nat) : Rat := (s.pwrCell c).lo
def State.pPlan (s : State) (c : Nat) : Rat := (s.pwrCell c).plan

/-- The planned power of each of a list of cells set. -/
def State.setPlans (l : List (Nat × Rat)) (s : State) : State :=
  s.each l fun cp s => s.setPwrCell cp.1 { s.pwrCell cp.1 with plan := cp.2 }

/-- Upper bounds lowered; a lower bound stays at most the upper one. -/
def State.setHis (l : List (Nat × Rat)) (s : State) : State :=
  s.each l fun cp s => s.setPwrCell cp.1 { s.pwrCell cp.1 with hi := cp.2, lo := min (s.pwrCell cp.1).lo cp.2 }

/-! Bounds (R350, R366) -/

/-- P_cap in W. -/
def State.pCap (s : State) (c : Nat) : Rat := s.powerFactor * 10 * s.cellPRated c

/-- Stop conditions of a battery (R366): discharge, charge. -/
def State.batStops (s : State) (c : Nat) : Bool × Bool :=
  let v := s.get (F.WING_CELL_VDC c)
  let hot : Bool := match s.item c 5 with
    | some t => s.mpS16 c 0xC < signed 12 t
    | none => false
  (v < s.mp16 c 8 || hot, s.mp16 c 0xA < v || hot)

/-- The effective set-point of a battery cell (R366): P_SET, or the plan with FILL. -/
def State.pSetEff (s : State) (c : Nat) : Rat :=
  if !s.batEn c then 0
  else
    let st := s.batStops c
    let p : Rat := if s.batFill c then s.pPlan c else 10 * s.mpS16 c 2
    clampRat (s.pCap c) (if (0 < p && st.1) || (p < 0 && st.2) then 0 else p)

/-- BAT_STOP (R366): a stop condition cuts to 0 a set-point or a limit that, held to P_cap, would not be 0. -/
def State.judgeBatStop (c : Nat) (s : State) : State :=
  let st := s.batStops c
  let p := s.mpS16 c 2
  let cut := s.bit F.CELLPWR_CTRL_EN && s.isBat c && s.batEn c && s.pCap c != 0 &&
    (if s.batFill c then (st.1 && s.mp16 c 4 != 0) || (st.2 && s.mp16 c 6 != 0)
     else (0 < p && st.1) || (p < 0 && st.2))
  let was := s.bit (F.CELLPWR_CELL_BAT_STOP c)
  (s.setBit (F.CELLPWR_CELL_BAT_STOP c) cut).when (cut && !was) fun s => s.raise 153 c

/-- Bounds [lo, hi] of an ACTIVE cell (R350). -/
def State.boundsOf (s : State) (c : Nat) : Rat × Rat :=
  let cap := s.pCap c
  if s.isPv c then
    if s.trk c = trk.off || s.trk c = trk.hold then
      let p := min ((s.pwrCell c).ppv.getD 0) cap
      (p, p)
    else (0, min (s.pwrCell c).pMpp cap)
  else if s.isBat c && s.batEn c then
    if s.batFill c then
      let st := s.batStops c
      (if st.2 then 0 else -min (10 * (s.mp16 c 6 : Rat)) cap, if st.1 then 0 else min (10 * (s.mp16 c 4 : Rat)) cap)
    else (s.pSetEff c, s.pSetEff c)
  else (0, 0)

/-! Curtailment (R357) -/

/-- λ of strongest-first: bounds in rising order, what is left to share, how many share it. -/
def levelOf : List Rat → Rat → Nat → Rat
  | [], t, _ => t
  | h :: l, t, m => if t ≤ h * m then t / m else levelOf l (t - h) (m - 1)

/-- Rationals in rising order. -/
def sortRat (l : List Rat) : List Rat := l.foldr (List.orderedInsert (· ≤ ·)) []

/-- An amount `c` taken from PV cells with their bounds, by CURT_MODE; at most their whole sum. -/
def curtail (strongest : Bool) (cells : List (Nat × Rat)) (c : Rat) : List (Nat × Rat) :=
  let total := (cells.map Prod.snd).sum
  let cut := min c total
  if total = 0 then cells
  else if strongest then
    let lam := levelOf (sortRat (cells.map Prod.snd)) (total - cut) cells.length
    cells.map fun p => (p.1, min p.2 lam)
  else cells.map fun p => (p.1, p.2 * (1 - cut / total))

/-! Zero sequence (R351, R352, R360) -/

/-- V̂0 in V (none: infinite) and α in turns for three phase deviations, with the amplitudes of the previous tick (R351). -/
def State.zeroVector (s : State) (prev : Amps) (da db dc : Rat) : Option Rat × Rat :=
  let b := if s.bit F.GRID_CTRL_ROT then (db - dc) / sqrt3 else (dc - db) / sqrt3
  let amp := sqrtOf (prev.p ^ 2 + prev.q ^ 2)
  let al := atan2Of b da
  if amp < sqrt2 * s.iBase / 50 then (if da = 0 && b = 0 then some 0 else none, al)
  else (some (2 * sqrtOf (da ^ 2 + b ^ 2) / amp), al)

/-- Z_MAX in V. -/
def State.zMax (s : State) : Rat := s.get F.CELLPWR_ZS_Z_MAX

/-- The cells that the plan covers: the ACTIVE ones, none while EN is 0 (R347, R376). -/
def State.planned (s : State) : List Nat := if s.bit F.CELLPWR_CTRL_EN then s.steered else []

/-- Those of a phase. -/
def State.steeredIn (s : State) (x : Nat) : List Nat := s.planned.filter fun c => s.cellPhase c == x

/-- One phase held to its cap (R352): PV cells first, then the FILL batteries. -/
def State.capPhase (x : Nat) (cap : Rat) (s : State) : State :=
  let cells := s.steeredIn x
  let r := sumOf cells s.pHi - cap
  let s := s.setTop (F.CELLPWR_PHASE_CAP x) (roundAway (cap / 1000)).toNat
  if 0 < r then
    let pv := (cells.filter s.isPv).map fun c => (c, s.pHi c)
    let taken := min r (pv.map Prod.snd).sum
    let s := s.setHis (curtail (s.bit F.CELLPWR_CTRL_CURT_MODE) pv taken)
    let left := r - taken
    let fill := cells.filter s.isFill
    let total := sumOf fill s.pHi
    if 0 < left && 0 < total then
      s.setHis (fill.map fun c => (c, max (s.pLo c) (s.pHi c * (1 - left / total))))
    else s
  else s

/-- The phase caps (R352). -/
def State.capPhases (s : State) : State :=
  let hi := fun x => sumOf (s.steeredIn x) s.pHi
  let mean := (hi 0 + hi 1 + hi 2) / 3
  let v := (s.zeroVector s.grid.amps (hi 0 - mean) (hi 1 - mean) (hi 2 - mean)).1
  let k : Rat := match v with
    | none => 0
    | some v => if v ≤ s.zMax then 1 else s.zMax / v
  let m := mean + (1 - k) * min (hi 0 - mean) (min (hi 1 - mean) (hi 2 - mean))
  let caps := (List.range 3).map fun x => (x, m + k * (hi x - mean))
  let s := s.each caps fun xc s => s.capPhase xc.1 xc.2
  let was := s.bit F.CELLPWR_STATUS_ZS_LIM
  (s.setBit F.CELLPWR_STATUS_ZS_LIM (k < 1)).when (k < 1 && !was) fun s => s.raise 149

/-! The plan (R354 to R358) -/

/-- P_dem (R354), with the under-frequency increase and the over-frequency limit of R237; it lies in [-P_NOM, P_NOM] (R269). -/
def State.planDemand (ufInc : Rat) (ofLimit : Option Rat) (s : State) : State :=
  let s := s.each s.planned fun c s =>
    let b := s.boundsOf c
    s.setPwrCell c { s.pwrCell c with lo := b.1, hi := b.2 }
  let s := s.each (cellIds.filter fun c => s.isBat c || s.bit (F.CELLPWR_CELL_BAT_STOP c)) State.judgeBatStop
  let s := s.capPhases
  let pHi := sumOf s.planned s.pHi
  let pLo := sumOf s.planned s.pLo
  let target := 1000 * (s.grid.pSet : Rat) + ufInc
  let dem := max pLo (min pHi target)
  let dem := match ofLimit with
    | some l => min dem l
    | none => dem
  let dem := if s.bit F.CELLPWR_CTRL_EN then clampRat s.pNom dem else 0
  let s := s.setSat F.CELLPWR_PLIM_P_HI (roundAway (pHi / 1000))
  let s := s.setSat F.CELLPWR_PLIM_P_LO (roundAway (pLo / 1000))
  let s := s.setSat F.CELLPWR_PDEM_P_DEM (roundAway (dem / 1000))
  let s := s.setBit F.CELLPWR_STATUS_UF_SHORT (s.bit F.CELLPWR_CTRL_EN && pHi < target)
  { s with pwr := { s.pwr with pDem := dem } }

/-- Stored energy of a list of cells, and at their references, in J (R355). -/
def State.energy (s : State) (l : List Nat) : Rat := sumOf l fun c => s.cdc c * s.vdc c ^ 2 / 2
def State.energyRef (s : State) (l : List Nat) : Rat := sumOf l fun c => s.cdc c * s.vRef c ^ 2 / 2

/-- K_E in 1/s. -/
def State.kE (s : State) : Rat := (s.get F.CELLPWR_BAL_K_E : Rat) / 10

/-- The natural power of a cell (R356). -/
def State.natural (s : State) (c : Nat) : Rat :=
  if s.isPv c then s.pHi c else if s.isBat c && s.batEn c && !s.batFill c then s.pSetEff c else 0

/-- P_alloc shared among the cells (R355, R356). -/
def State.planShare (s : State) : State :=
  let cells := s.planned
  let pHi := sumOf cells s.pHi
  let pLo := sumOf cells s.pLo
  let cmd := 3 / 2 * sqrt2 * s.grid.bear.vpos * s.vBase * s.grid.amps.p
  let alloc := max pLo (min pHi (cmd + s.kE * (s.energyRef cells - s.energy cells)))
  let s := s.setPlans (cells.map fun c => (c, s.natural c))
  let n := sumOf cells s.pPlan
  let fill := cells.filter s.isFill
  let r :=
    if n < alloc then
      let total := sumOf fill s.pHi
      let f := if total = 0 then 0 else min 1 ((alloc - n) / total)
      (s.setPlans (fill.map fun c => (c, s.pHi c * f)), (0 : Rat))
    else
      let total := -sumOf fill s.pLo
      let x := min (n - alloc) total
      let f := if total = 0 then 0 else x / total
      let s := s.setPlans (fill.map fun c => (c, s.pLo c * f))
      let c := n - alloc - x
      let pv := (cells.filter fun k => s.isPv k && !s.excursion k && s.get (F.CELLPWR_CELL_DUMP k) != 3).map fun k => (k, s.pHi k)
      (if 0 < c then s.setPlans (curtail (s.bit F.CELLPWR_CTRL_CURT_MODE) pv c) else s, c)
  let s := r.1
  let on : Bool := 0 < r.2
  let was := s.bit F.CELLPWR_STATUS_CURTAIL
  let s := { s with pwr := { s.pwr with curt := r.2 } }
  let s := s.setTop F.CELLPWR_PDEM_CURT (roundAway (r.2 / 1000)).toNat
  let s := (s.setBit F.CELLPWR_STATUS_CURTAIL on).when (on != was) fun s => s.raise 148
  s.each (List.range 3) fun x s =>
    s.setSat (F.CELLPWR_PHASE_PLAN x) (roundAway (sumOf (s.steeredIn x) s.pPlan / 1000))

/-- The zero-sequence demand (R360), with the amplitudes of the previous tick. -/
def State.planZero (prev : Amps) (s : State) : State :=
  let plan := fun x => sumOf (s.steeredIn x) s.pPlan
  let en := fun x => s.energy (s.steeredIn x) - s.energyRef (s.steeredIn x)
  let pm := (plan 0 + plan 1 + plan 2) / 3
  let em := (en 0 + en 1 + en 2) / 3
  let dev := fun x => plan x - pm + s.kE * (en x - em)
  let v := s.zeroVector prev (dev 0) (dev 1) (dev 2)
  let z0 := match v.1 with
    | some z => min z s.zMax
    | none => s.zMax
  let cells := s.planned
  let vMean := if cells.isEmpty then 0 else sumOf cells s.vdc / cells.length
  let gamma := atan2Of prev.q prev.p
  let s := { s with pwr := { s.pwr with z0 := z0, alpha := v.2, vMean := vMean, gamma := gamma } }
  (s.setTop F.CELLPWR_ZSDEM_V0 (roundAway z0).toNat).set F.CELLPWR_ZSDEM_ALPHA ((frac v.2 * 65536).floor.toNat % 65536)

/-! Trackers (R362 to R365) -/

/-- The tracker of a cell runs (R364). -/
def State.running (s : State) (c : Nat) : Bool :=
  s.bit F.CELLPWR_CTRL_EN && s.isPv c && s.trackEn c && s.engaged

/-- The PV cell is curtailed (R358). -/
def State.curtailed (s : State) (c : Nat) : Bool := s.pPlan c < s.pHi c - s.pDead c

/-- TRACK or FOLLOW by R358; entry to FOLLOW dates the next probe (R365); steps start anew after HOLD. -/
def State.trackOrFollow (c : Nat) (s : State) : State :=
  let s := s.when (s.trk c == trk.hold) fun s => s.setPwrCell c { s.pwrCell c with lastStep := s.elapsed, readings := [] }
  if s.curtailed c then
    if s.trk c = trk.follow then s
    else (s.setTrk c trk.follow).setPwrCell c { s.pwrCell c with probeBase := some s.elapsed }
  else s.setTrk c trk.track

/-- An excursion abandoned (R364): the saved voltage returns, and the excursion stays due. -/
def State.abortExcursion (c next : Nat) (s : State) : State :=
  let x := s.pwrCell c
  let s := s.setPwrCell c { x with v := x.saved }
  ((s.setTrk c next).count F.CELLPWR_ABORTS_COUNT).raise 151 c

/-- A tracker's state judged at a tick (R364). -/
def State.judgeTracker (c : Nat) (s : State) : State :=
  let st := s.trk c
  let x := s.pwrCell c
  let cont := s.region == region.continuous
  if !s.running c then
    let s := if s.excursion c then s.abortExcursion c trk.off else s.setTrk c trk.off
    if s.trackEn c then s
    else s.setPwrCell c { s.pwrCell c with v := if s.mp16 c 4 = 0 then s.cellVRated c else s.mp16 c 4 }
  else if st = trk.off then
    let s := s.setPwrCell c { x with
      v := s.mp16 c 4, step := s.mp8 c 2, dir := -1, hist := [], pLast := 0, readings := [], lastStep := s.elapsed
      scanBase := some s.elapsed }
    s.setTrk c trk.track
  else if s.excursion c then (if cont then s else s.abortExcursion c trk.hold)
  else if !cont then s.setTrk c trk.hold
  else s.trackOrFollow c

/-- Tokens granted in a phase (R365): as many as are free, the earliest due first. -/
def State.grantTokens (x : Nat) : Nat → State → State
  | 0, s => s
  | n + 1, s =>
    let cells := s.phaseCells x
    let busy := (cells.filter s.excursion).length
    let due := cells.filterMap fun c =>
      if s.trk c = trk.track || s.trk c = trk.follow then (s.pwrCell c).due.map fun d => (d.2, c, d.1) else none
    let best := due.foldl (fun (b : Option (Nat × Nat × Bool)) d => match b with
      | none => some d
      | some e => if d.1 < e.1 then some d else some e) none
    match best with
    | none => s
    | some (_, c, scan) =>
      let remain := (s.steered.filter fun k => s.isPv k && !s.excursion k && k != c)
      if s.get F.CELLPWR_SCAN_TOKENS ≤ busy || sumOf remain s.pHi < s.pwr.curt then s
      else
        let p := s.pwrCell c
        let p := { p with saved := p.v, readings := [], lastStep := s.elapsed, scan := [], probe := 0
                          v := if scan then s.cellVMax c else p.vMpp }
        State.grantTokens x n ((s.setPwrCell c p).setTrk c (if scan then trk.scan else trk.probe))

/-- Token grants of a tick (R365). -/
def State.tokens (s : State) : State :=
  if s.curtain = 3 && s.engaged && s.region = region.continuous then
    s.each (List.range 3) fun x s => s.grantTokens x 8
  else s

/-- The mean of the readings since the last step. -/
def meanOf (l : List Rat) : Rat := l.sum / l.length

/-- The largest power of a tracker's history and the voltage that gave it. -/
def bestOf (h : List (Rat × Nat)) : Rat × Nat :=
  h.foldl (fun b x => if b.1 < x.1 then x else b) (h.headD (0, 0))

/-- A step of R362. -/
def State.perturb (c : Nat) (p : Rat) (s : State) : State :=
  let x := s.pwrCell c
  let lo := s.mp8 c 2
  let hi := s.mp8 c 3
  let diff := p - x.pLast
  let flat : Bool := diff ≤ s.pDead c && -s.pDead c ≤ diff
  let step := if flat || p < x.pLast then max lo (x.step / 2) else min hi (2 * x.step)
  let dir := if !flat && p < x.pLast then -x.dir else x.dir
  let h := (x.hist ++ [(p, x.v)]).drop (x.hist.length + 1 - 4)
  let best := bestOf h
  let v : Int := (x.v : Int) + dir * (10 * step : Nat)
  let vMin : Int := s.cellVMin c
  let vMax : Int := s.cellVMax c
  let out : Bool := v < vMin || vMax < v
  s.setPwrCell c { x with
    step := step, dir := if out then -dir else dir, pLast := p, hist := h, pMpp := best.1, vMpp := best.2
    v := (max vMin (min vMax v)).toNat }

/-- A step of R363. -/
def State.followStep (c : Nat) (p : Rat) (s : State) : State :=
  let x := s.pwrCell c
  let lo := s.mp8 c 2
  let hi := s.mp8 c 3
  let d : Int := if x.plan + s.pDead c < p then 1 else if p < x.plan - s.pDead c then -1 else 0
  if d = 0 then s.setPwrCell c { x with step := max lo (x.step / 2) }
  else
    let step := if d = x.dir then min hi (2 * x.step) else max lo (x.step / 2)
    let v : Int := (x.v : Int) + d * (10 * step : Nat)
    s.setPwrCell c { x with step := step, dir := d, v := (max (x.vMpp : Int) (min (s.cellVMax c) v)).toNat }

/-- The voltage of point `i` of a scan (R364). -/
def State.scanPoint (s : State) (c i : Nat) : Nat :=
  s.cellVMax c - i * (s.cellVMax c - s.cellVMin c) / (s.mp8 c 0xA - 1)

/-- A point of a scan is done; after the last the best one is taken (R364). -/
def State.scanStep (c : Nat) (p : Rat) (s : State) : State :=
  let x := s.pwrCell c
  let pts := x.scan ++ [(p, x.v)]
  if pts.length < s.mp8 c 0xA then s.setPwrCell c { x with scan := pts, v := s.scanPoint c pts.length }
  else
    let best := bestOf pts
    let s := s.setPwrCell c { x with
      scan := [], v := best.2, pMpp := best.1, vMpp := best.2, hist := [best], step := s.mp8 c 2, due := none
      scanBase := some s.elapsed }
    ((s.setTrk c trk.track).count F.CELLPWR_SCANS_COUNT).raise 150 c

/-- A step of a probe; after the eighth it ends (R364). -/
def State.probeStep (c : Nat) (p : Rat) (s : State) : State :=
  let s := s.perturb c p
  let x := s.pwrCell c
  if x.probe + 1 < 8 then s.setPwrCell c { x with probe := x.probe + 1 }
  else
    let s := s.setPwrCell c { x with probe := 0, due := x.due.filter fun d => d.1, probeBase := some s.elapsed }
    ((s.trackOrFollow c).count F.CELLPWR_PROBES_COUNT).raise 152 c

/-- TRACKER_STEP (R362 to R364): once per PERIOD; without a reading since the last step the step is skipped. -/
def execTrackerStep (t : Nat) (cell : Fin 128) (s : State) : Host.Outcome State Fault Refusal :=
  s.run t fun s =>
    let c := cell.val
    let x := s.pwrCell c
    let period := s.mp8 c 1 * 1000000
    if s.trk c = trk.off || s.trk c = trk.hold || s.tableau || !s.expired x.lastStep period then s
    else
      let s := s.setPwrCell c { x with lastStep := x.lastStep + period, readings := [] }
      if x.readings.isEmpty then s
      else
        let p := meanOf x.readings
        if s.trk c = trk.track then s.perturb c p
        else if s.trk c = trk.follow then s.followStep c p
        else if s.trk c = trk.scan then s.scanStep c p
        else s.probeStep c p

/-- SCAN_DUE (R365): a due scan replaces a due probe. -/
def execScanDue (t : Nat) (cell : Fin 128) (s : State) : Host.Outcome State Fault Refusal :=
  s.run t fun s =>
    let c := cell.val
    let x := s.pwrCell c
    if s.trk c ≠ trk.off && (s.mp8 c 0).testBit 1 && s.bit F.CELLPWR_CTRL_SCAN_EN && !s.tableau &&
        s.due x.scanBase (s.mp16 c 8 * second) && x.due.all (fun d => !d.1) then
      s.setPwrCell c { x with due := some (true, s.elapsed) }
    else s

/-- PROBE_DUE (R365). -/
def execProbeDue (t : Nat) (cell : Fin 128) (s : State) : Host.Outcome State Fault Refusal :=
  s.run t fun s =>
    let c := cell.val
    let x := s.pwrCell c
    if s.trk c = trk.follow && !s.tableau && x.due.isNone &&
        s.due x.probeBase (s.get F.CELLPWR_SCAN_PROBE_INT * second) then
      s.setPwrCell c { x with due := some (false, s.elapsed) }
    else s

/-! References (R348, R366) -/

/-- The battery loop of a tick (R366). -/
def State.batteryLoop (c : Nat) (s : State) : State :=
  let x := s.pwrCell c
  let e := s.pSetEff c - x.pbr.getD 0
  let vr := (s.cellVRated c : Rat) / 20
  let i := clampRat (s.cdc c * vr ^ 2 / 40) (x.integ + e / 10000)
  let dE := (s.mp16 c 0xE : Rat) / 10000 * e + i
  let rad := s.vdc c ^ 2 - 2 * dE / s.cdc c
  let lo := (s.cellVMin c : Rat) / 20
  let hi := (s.cellVMax c : Rat) / 20
  s.setPwrCell c { x with integ := i, vref := if rad < 0 then lo else max lo (min hi (sqrtOf rad)) }

/-- A cell's reference and due excursion shown (R347, R348, R365). -/
def State.showRef (c : Nat) (s : State) : State :=
  (s.setTop (F.CELLPWR_CELL_V_REF c) (roundAway (20 * s.vRef c)).toNat).setBit (F.CELLPWR_CELL_DUE c) (s.pwrCell c).due.isSome

/-- The reference of an ACTIVE cell at a tick (R348). -/
def State.steer (c : Nat) (s : State) : State :=
  let x := s.pwrCell c
  let rated := (s.cellVRated c : Rat) / 20
  if s.isBat c then
    if s.bit F.CELLPWR_CTRL_EN then s.batteryLoop c else s.setPwrCell c { x with vref := s.vdc c }
  else if s.isPv c && s.bit F.CELLPWR_CTRL_EN then
    s.setPwrCell c { x with vref := ((max (s.cellVMin c) (min (s.cellVMax c) x.v) : Nat) : Rat) / 20 }
  else s.setPwrCell c { x with vref := rated }

/-! Dump switches (R369 to R371) -/

abbrev dump.off : Nat := 0
abbrev dump.on : Nat := 1
abbrev dump.dead : Nat := 2
abbrev dump.stuck : Nat := 3

def State.dumpState (s : State) (c : Nat) : Nat := s.get (F.CELLPWR_CELL_DUMP c)

/-- A dump order given to a cell; its verdict is awaited once it travels. -/
def State.dumpOrder (c : Nat) (on : Bool) (s : State) : State :=
  let s := s.giveOrder c (.dump on) [if on then order.dumpOn else order.dumpOff]
  s.setPwrCell c { s.pwrCell c with order := none, stuckRun := 0 }

/-- The switch of a cell that is ON is turned off, its on-time kept. -/
def State.dumpOff (c : Nat) (s : State) : State :=
  let x := s.pwrCell c
  let spent := match x.onSince with
    | some t0 => x.onTotal + (s.elapsed - t0)
    | none => x.onTotal
  let s := s.setPwrCell c { x with onSince := none, onTotal := spent }
  (s.dumpOrder c false).set (F.CELLPWR_CELL_DUMP c) dump.off

/-- Dumping is armed (R369). -/
def State.dumpArmed (s : State) : Bool :=
  let held : Bool := match s.pwr.contSince with
    | some t0 => s.elapsed < t0 + s.get F.CELLPWR_DUMP_TIME_HOLD * 1000000
    | none => false
  s.bit F.CELLPWR_CTRL_DUMP_EN && s.curtainUp && (s.region != region.continuous || held)

/-- ARMED judged anew (R369, R370): a new armed period unlocks the switches and starts their totals; at its end those ON are turned
off. -/
def State.judgeArmed (s : State) : State :=
  let was := s.bit F.CELLPWR_STATUS_DUMP_ARMED
  let now := s.dumpArmed
  let s := s.setBit F.CELLPWR_STATUS_DUMP_ARMED now
  if now && !was then
    s.each cellIds fun c s =>
      if (s.pwrCell c).onTotal = 0 && !s.bit (F.CELLPWR_CELL_LOCKED c) then s
      else (s.setBit (F.CELLPWR_CELL_LOCKED c) false).setPwrCell c { s.pwrCell c with onTotal := 0 }
  else if was && !now then s.each (cellIds.filter fun c => s.dumpState c == dump.on) State.dumpOff
  else s

/-- A cell's dump switch at a tick (R370). -/
def State.dumpTick (c : Nat) (s : State) : State :=
  let v := 1000 * s.get (F.WING_CELL_VDC c)
  let armed := s.bit F.CELLPWR_STATUS_DUMP_ARMED
  if s.dumpState c = dump.off then
    if armed && s.cellDumpFitted c && (s.cState c == cs.ready || s.cState c == cs.active) &&
        !s.bit (F.CELLPWR_CELL_LOCKED c) && s.get F.CELLPWR_DUMP_V_ON * s.cellVMax c < v then
      let s := (s.dumpOrder c true).set (F.CELLPWR_CELL_DUMP c) dump.on
      let s := s.setPwrCell c { s.pwrCell c with onSince := some s.elapsed }
      (s.raise 154 c).count F.CELLPWR_DUMP_ONS_COUNT
    else s
  else if s.dumpState c = dump.on && (v ≤ s.get F.CELLPWR_DUMP_V_OFF * s.cellVMax c || !armed) then s.dumpOff c
  else s

/-- DUMP_LIMIT (R370): on for MAX in one armed period. -/
def execDumpLimit (t : Nat) (cell : Fin 128) (s : State) : Host.Outcome State Fault Refusal :=
  s.run t fun s =>
    let c := cell.val
    match (s.pwrCell c).onSince with
    | none => s
    | some t0 =>
      if s.dumpState c = dump.on && !s.tableau &&
          s.get F.CELLPWR_DUMP_TIME_MAX * 1000000 ≤ (s.pwrCell c).onTotal + (s.elapsed - t0) then
        ((s.dumpOff c).setBit (F.CELLPWR_CELL_LOCKED c) true).raise 155 c
      else s

/-- DUMP_HOLD_EXPIRY (R369). -/
def execDumpHoldExpiry (t : Nat) (s : State) : Host.Outcome State Fault Refusal :=
  s.run t fun s => if s.tableau then s else s.judgeArmed

/-- A dump verdict (R371). -/
def State.dumpVerdict (c : Nat) (stuck : Bool) (s : State) : State :=
  let s := s.dumpOrder c false
  let s := s.setPwrCell c { s.pwrCell c with onSince := none, lastResend := s.elapsed }
  (s.set (F.CELLPWR_CELL_DUMP c) (if stuck then dump.stuck else dump.dead)).raise (if stuck then 157 else 156) c

/-- A dump order of the cell has not travelled yet: what was ordered before is in force. -/
def State.dumpWaits (s : State) (c : Nat) : Bool := (s.tx c).orders.any fun o => o.owner.isDump && o.next == 0

/-- An item-2 report sampled at `stamp` judged for the dump switch (R371). -/
def State.dumpReport (c stamp : Nat) (onNow : Bool) (s : State) : State :=
  let x := s.pwrCell c
  let st := s.dumpState c
  if st = dump.dead || st = dump.stuck then s
  else
    match x.order with
    | some (on, base) =>
      if stamp < base + 50000 then s
      else
        let s := s.setPwrCell c { x with order := none, stuckRun := 0 }
        if on && !onNow then s.dumpVerdict c false
        else if !on && onNow then s.dumpVerdict c true
        else s
    | none =>
      if st = dump.off && onNow && !s.dumpWaits c then
        if 1 ≤ x.stuckRun then s.dumpVerdict c true else s.setPwrCell c { x with stuckRun := 1 }
      else s.setPwrCell c { x with stuckRun := 0 }

/-- DUMP_OFF_RESEND (R371). -/
def execDumpOffResend (t : Nat) (cell : Fin 128) (s : State) : Host.Outcome State Fault Refusal :=
  s.run t fun s =>
    let c := cell.val
    let x := s.pwrCell c
    if s.dumpState c = dump.stuck && s.expired x.lastResend 1000000 && !s.tableau then
      (s.setPwrCell c { x with lastResend := s.elapsed }).giveOrder c (.dump false) [order.dumpOff]
    else s

/-- A write of CELLPWR_DUMP_CLR (R371, R376). -/
def State.writeDumpClr (data : Word) (s : State) : State :=
  let c := bitsOf data.toNat 0 7
  if !data.getLsbD 31 then s
  else if s.curtainDown then
    if s.dumpState c = dump.dead || s.dumpState c = dump.stuck then
      (s.set (F.CELLPWR_CELL_DUMP c) dump.off).setPwrCell c { s.pwrCell c with stuckRun := 0, order := none }
    else s
  else s.setBit F.CELLPWR_STATUS_CFG_REJECT true

/-- CELLPWR_DUMP_CLR (R371). -/
def execCellpwrDumpClr (t : Nat) (data : Word) (s : State) : Host.Outcome State Fault Refusal :=
  s.run t fun s => s.bar0 Reg.CELLPWR_DUMP_CLR data (State.writeDumpClr data)

/-! Telemetry (R349) -/

/-- Power readings of a valid slot that carries item 0 or item 5 (R349). -/
def State.powerReading (c i v vdc : Nat) (s : State) : State :=
  let p : Rat := (vdc : Rat) / 20 * ((signed 12 v : Rat) / 8)
  let x := s.pwrCell c
  if i = 0 then s.setPwrCell c { x with pbr := some p }
  else if i = 5 && s.actsAs c == kind.pv then
    let steps := s.trk c != trk.off && s.trk c != trk.hold
    s.setPwrCell c { x with ppv := some p, readings := if steps then x.readings ++ [p] else x.readings }
  else s

/-- The part of an evaluation tick that follows the new references (R355 to R370); `prev` are the amplitudes of the previous tick. -/
def State.cellPowerTick (prev : Amps) (s : State) : State :=
  let s := s.planShare
  let s := s.planZero prev
  let s := s.each (cellIds.filter fun c => s.isPv c || s.trk c != trk.off) State.judgeTracker
  let s := s.tokens
  let s := s.each s.steered State.steer
  let s := s.each (cellIds.filter fun c => s.present c || s.get (F.CELLPWR_CELL_V_REF c) != 0) State.showRef
  let s := s.judgeArmed
  s.each (cellIds.filter s.present) State.dumpTick

end Sys2Proof.Machine
end

