-- ==== Sys2Proof/Machine/Sha.lean ====
section
/-! DEFINITION. Sys2Proof/Machine/Sha.lean: SHA-256 (FIPS 180-4) and HMAC (FIPS 198-1), of which the seals of spec/09 R407 and the key check
of spec/15 R631 are made. -/

namespace Sys2Proof.Machine

/-- The round constants of FIPS 180-4, section 4.2.2. -/
def shaK : List Word :=
  [0x428a2f98, 0x71374491, 0xb5c0fbcf, 0xe9b5dba5, 0x3956c25b, 0x59f111f1, 0x923f82a4, 0xab1c5ed5] ++
  [0xd807aa98, 0x12835b01, 0x243185be, 0x550c7dc3, 0x72be5d74, 0x80deb1fe, 0x9bdc06a7, 0xc19bf174] ++
  [0xe49b69c1, 0xefbe4786, 0x0fc19dc6, 0x240ca1cc, 0x2de92c6f, 0x4a7484aa, 0x5cb0a9dc, 0x76f988da] ++
  [0x983e5152, 0xa831c66d, 0xb00327c8, 0xbf597fc7, 0xc6e00bf3, 0xd5a79147, 0x06ca6351, 0x14292967] ++
  [0x27b70a85, 0x2e1b2138, 0x4d2c6dfc, 0x53380d13, 0x650a7354, 0x766a0abb, 0x81c2c92e, 0x92722c85] ++
  [0xa2bfe8a1, 0xa81a664b, 0xc24b8b70, 0xc76c51a3, 0xd192e819, 0xd6990624, 0xf40e3585, 0x106aa070] ++
  [0x19a4c116, 0x1e376c08, 0x2748774c, 0x34b0bcb5, 0x391c0cb3, 0x4ed8aa4a, 0x5b9cca4f, 0x682e6ff3] ++
  [0x748f82ee, 0x78a5636f, 0x84c87814, 0x8cc70208, 0x90befffa, 0xa4506ceb, 0xbef9a3f7, 0xc67178f2]

/-- The eight words of a hash value. -/
structure Digest where
  a : Word
  b : Word
  c : Word
  d : Word
  e : Word
  f : Word
  g : Word
  h : Word
deriving DecidableEq, Repr

/-- The initial hash value. -/
def shaInit : Digest :=
  { a := 0x6a09e667, b := 0xbb67ae85, c := 0x3c6ef372, d := 0xa54ff53a
    e := 0x510e527f, f := 0x9b05688c, g := 0x1f83d9ab, h := 0x5be0cd19 }

def Digest.add (x y : Digest) : Digest :=
  { a := x.a + y.a, b := x.b + y.b, c := x.c + y.c, d := x.d + y.d
    e := x.e + y.e, f := x.f + y.f, g := x.g + y.g, h := x.h + y.h }

def ror (x : Word) (n : Nat) : Word := x.rotateRight n

def shaS0 (x : Word) : Word := ror x 2 ^^^ ror x 13 ^^^ ror x 22
def shaS1 (x : Word) : Word := ror x 6 ^^^ ror x 11 ^^^ ror x 25
def shaG0 (x : Word) : Word := ror x 7 ^^^ ror x 18 ^^^ x >>> 3
def shaG1 (x : Word) : Word := ror x 17 ^^^ ror x 19 ^^^ x >>> 10
def shaCh (x y z : Word) : Word := (x &&& y) ^^^ (~~~ x &&& z)
def shaMaj (x y z : Word) : Word := (x &&& y) ^^^ (x &&& z) ^^^ (y &&& z)

/-- The message schedule extended by `n` words; the latest word stands first. -/
def schedule : Nat → List Word → List Word
  | 0, w => w
  | n + 1, w =>
    schedule n ((shaG1 (w.getD 1 0) + w.getD 6 0 + shaG0 (w.getD 14 0) + w.getD 15 0) :: w)

/-- One round. -/
def shaRound (x : Digest) (kw : Word × Word) : Digest :=
  let t1 := x.h + shaS1 x.e + shaCh x.e x.f x.g + kw.1 + kw.2
  let t2 := shaS0 x.a + shaMaj x.a x.b x.c
  { a := t1 + t2, b := x.a, c := x.b, d := x.c, e := x.d + t1, f := x.e, g := x.f, h := x.g }

/-- The hash value after one block of sixteen words. -/
def shaBlock (x : Digest) (block : List Word) : Digest :=
  x.add ((shaK.zip (schedule 48 block.reverse).reverse).foldl shaRound x)

/-- Bytes as big-endian words. -/
def beWords : Nat → List Byte → List Word
  | 0, _ => []
  | n + 1, bs =>
    (bs.take 4).foldl (fun w b => (w <<< 8) ||| BitVec.zeroExtend 32 b) 0 :: beWords n (bs.drop 4)

/-- `n` bytes of a number, most significant first. -/
def beBytes (n x : Nat) : List Byte := (leBytes n x).reverse

/-- The padded message. -/
def shaPad (m : List Byte) : List Byte :=
  let k := (119 - m.length % 64) % 64
  m ++ [0x80] ++ List.replicate k 0 ++ beBytes 8 (8 * m.length)

/-- The hash value after `n` blocks of bytes. -/
def shaBlocks : Nat → List Byte → Digest → Digest
  | 0, _, x => x
  | n + 1, bs, x => shaBlocks n (bs.drop 64) (shaBlock x (beWords 16 (bs.take 64)))

/-- SHA-256 of bytes. -/
def sha256 (m : List Byte) : List Byte :=
  let p := shaPad m
  let x := shaBlocks (p.length / 64) p shaInit
  [x.a, x.b, x.c, x.d, x.e, x.f, x.g, x.h].flatMap fun w => beBytes 4 w.toNat

/-- HMAC-SHA-256 under a key of at most 64 bytes. -/
def hmac (key msg : List Byte) : List Byte :=
  let k := key ++ List.replicate (64 - key.length) 0
  sha256 (k.map (· ^^^ 0x5C) ++ sha256 (k.map (· ^^^ 0x36) ++ msg))

end Sys2Proof.Machine
end

