-- ==== Sys2Proof/Machine/Meter.lean ====
section
/-! DEFINITION. Sys2Proof/Machine/Meter.lean: the metrology path, accumulators, snapshots, pulses, intervals, records and the atlas
(spec/09). Energies are kept in units of 2^-24 mJ (R386). -/

namespace Sys2Proof.Machine

def State.mapMeter (s : State) (f : Meter → Meter) : State := { s with meter := f s.meter }

def State.mapCore (s : State) (f : MeterCore → MeterCore) : State := s.mapMeter fun m => { m with core := f m.core }

def State.mPhase (s : State) (x : Nat) : MPhase := Sparse.get (fun _ => {}) s.meter.phases x

def State.setMPhase (s : State) (x : Nat) (p : MPhase) : State :=
  s.mapMeter fun m => { m with phases := Sparse.set (fun _ => {}) m.phases x p }

/-- METER_CAL is valid (R420). -/
def State.calOk (s : State) : Bool := s.tableOk tid.meterCal

/-- Units of an accumulator in 1 mJ. -/
abbrev mjUnit : Nat := 16777216

/-- Accumulator `n` with its residue, in 2^-24 mJ. -/
def MeterCore.raw (c : MeterCore) (n : Nat) : Nat := Sparse.get (fun _ => 0) c.acc n

/-- Accumulator `n` in mJ, 64 bits (R386). -/
def MeterCore.mj (c : MeterCore) (n : Nat) : Nat := c.raw n / mjUnit % 2 ^ 64

/-- The eight total accumulators in mJ. -/
def MeterCore.totalsNow (c : MeterCore) : List Nat := (List.range 8).map fun k => c.mj (24 + k)

/-! QUALITY and FLAGS bits (R405, R406) -/

abbrev mq.refBad : Nat := 0
abbrev mq.stale : Nat := 1
abbrev mq.clip : Nat := 2
abbrev mq.subst : Nat := 3
abbrev mq.unmetered : Nat := 4
abbrev mq.unpaired : Nat := 5
abbrev mq.winNom : Nat := 6
abbrev mq.tableau : Nat := 7
abbrev mq.noCal : Nat := 8
abbrev mq.revSat : Nat := 9
abbrev mq.powerLoss : Nat := 10

abbrev mf.partialEnd : Nat := 0
abbrev mf.gap : Nat := 1
abbrev mf.step : Nat := 2
abbrev mf.chainNew : Nat := 3
abbrev mf.outageClose : Nat := 4
abbrev mf.sealDeferred : Nat := 5
abbrev mf.calChange : Nat := 6
abbrev mf.tamper : Nat := 7
abbrev mf.cfgChange : Nat := 8
abbrev mf.exportLost : Nat := 9
abbrev mf.noKey : Nat := 10

/-- A bit of a number set. -/
def setBitOf (x i : Nat) : Nat := Nat.lor x (2 ^ i)

/-! Intervals (R398, R399, R401, R402) -/

/-- The first edge after `t` of a grid of `len` ns shifted by `u` ns (R398). -/
def edgeAfter (len : Nat) (u : Int) (t : Nat) : Nat :=
  let l : Int := len
  ((((t : Int) - u) / l + 1) * l + u).toNat

/-- `t` is an edge of the grid. -/
def isEdge (len : Nat) (u : Int) (t : Nat) : Bool :=
  let l : Int := len
  ((t : Int) - u) % l == 0

/-- U in ns (R398). -/
def State.utcShift (s : State) : Int :=
  if s.bit F.METER_CFG_ALIGN_UTC then s.getInt F.DATUM_UTC_OFFSET_SECONDS * 1000000000 else 0

/-- L_I and the length of a demand sub-period in ns. -/
def State.intervalLen (s : State) : Nat := s.get F.METER_CFG_INTERVAL * second
def State.subLen (s : State) : Nat := s.get F.METER_CFG_DEMAND_SUB * second

/-- A demand sub-period that starts at `t` (R401). -/
def State.subFrom (s : State) (t : Nat) : SubPeriod :=
  { start := t, stop := edgeAfter s.subLen s.utcShift t, whole := isEdge s.subLen s.utcShift t }

/-- An interval that starts at `t` under the present settings. -/
def State.intervalFrom (s : State) (t : Nat) : MInterval :=
  { start := t, stop := edgeAfter s.intervalLen s.utcShift t, len := s.intervalLen
    demandSub := s.get F.METER_CFG_DEMAND_SUB, subs := [s.subFrom t] }

/-- The list with its last item changed. -/
def mapLast {α : Type} (f : α → α) : List α → List α
  | [] => []
  | [x] => [f x]
  | x :: y :: l => x :: mapLast f (y :: l)

/-- Intervals and sub-periods are opened until the latest of them contains `t`; an open interval keeps the settings it began with
(R402). -/
def State.extendTo (t : Nat) : Nat → State → State
  | 0, s => s
  | n + 1, s =>
    match s.meter.core.ivals.getLast? with
    | none => s
    | some l =>
      if l.stop ≤ t then
        let new := s.intervalFrom l.stop
        let new := if l.cfg then { new with flags := setBitOf new.flags mf.cfgChange } else new
        State.extendTo t n (s.mapCore fun c => { c with ivals := c.ivals ++ [new] })
      else
        match l.subs.getLast? with
        | some u =>
          if u.stop ≤ t then
            let next : SubPeriod := { start := u.stop, stop := u.stop + l.demandSub * second }
            State.extendTo t n (s.mapCore fun c => { c with
              ivals := mapLast (fun i => { i with subs := i.subs ++ [next] }) c.ivals })
          else s
        | none => s

/-- The datum time that metering counts in: of a step, the time before it, until the samples taken before it have been metered (R399, R403). -/
def State.meterNow (s : State) : Nat :=
  match s.meter.stepAt with
  | some w => w.old
  | none => s.datum

/-- The instants of metering never run ahead of datum time; in tableau no interval opens (R419). -/
def State.extend (t : Nat) (s : State) : State := if s.tableau then s else s.extendTo (min t s.meterNow) 8000

/-- The interval that contains `t` changed: the first that ends after it, else the last. -/
def inInterval (t : Nat) (f : MInterval → MInterval) : List MInterval → List MInterval
  | [] => []
  | [x] => [f x]
  | x :: y :: l => if t < x.stop then f x :: y :: l else x :: inInterval t f (y :: l)

/-- The sub-periods that contain `t`, or all that are open where it lies past them, are no candidates (R401). -/
def spoil (t : Nat) (i : MInterval) : MInterval :=
  { i with subs := i.subs.map fun u => if u.start ≤ t && t < u.stop then { u with whole := false } else u }

/-- A QUALITY bit set for a sample stamped `t`. -/
def State.quality (t q : Nat) (s : State) : State :=
  let s := s.extend t
  s.mapCore fun c => { c with ivals := inInterval t (fun i =>
    let i := { i with quality := setBitOf i.quality q }
    if q = mq.unmetered || q = mq.powerLoss then spoil (min t s.meterNow) i else i) c.ivals }

/-- A FLAGS bit set for the interval that contains `t`. -/
def State.flag (t b : Nat) (s : State) : State :=
  let s := s.extend t
  s.mapCore fun c => { c with ivals := inInterval t (fun i => { i with flags := setBitOf i.flags b }) c.ivals }

/-- The state of the total accumulators fixed as the end of everything that ends at or before `t` (R399). -/
def State.freezeEnds (t : Nat) (s : State) : State :=
  s.mapCore fun c =>
    let raw := c.raw 24
    { c with ivals := c.ivals.map fun i => { i with
        totals := if i.stop ≤ t && i.totals.isNone then some c.totalsNow else i.totals
        subs := i.subs.map fun u => if u.stop ≤ t && u.fin.isNone then { u with fin := some raw } else u } }

/-- METER_CFG or, with ALIGN_UTC, the UTC offset has changed (R402). -/
def State.meterCfgChanged (s : State) : State :=
  (s.extend s.meterNow).mapCore fun c => { c with
    ivals := mapLast (fun i => { i with flags := setBitOf i.flags mf.cfgChange, cfg := true }) c.ivals }

/-! Pulses (R395 to R397) -/

def State.pulseAcc (s : State) (n : Nat) : Nat := s.tbl8 tid.pulseMap (16 * n)
def State.pulseWidth (s : State) (n : Nat) : Nat := s.tbl16 tid.pulseMap (16 * n + 2) * 10000
def State.pulseQuant (s : State) (n : Nat) : Nat := s.tbl32 tid.pulseMap (16 * n + 4)

/-- The function DATUM_EVIO_FUNC gives an EVIO pin (R98). -/
def State.evioFunc (s : State) (n : Nat) : Nat := bitsOf (s.reg Reg.DATUM_EVIO_FUNC).toNat (4 * n) 4

/-- Output `n` runs (R396). -/
def State.pulseRuns (s : State) (n : Nat) : Bool :=
  s.tableOk tid.pulseMap && (s.tbl8 tid.pulseMap (16 * n + 1)).testBit 0 && s.evioFunc n == 1

/-- The level of a pulse output: INVERT makes a pulse active low (R395). -/
def State.pulseLevel (n : Nat) (active : Bool) (s : State) : State :=
  let inv := (s.tbl8 tid.pulseMap (16 * n + 1)).testBit 1
  { s with router := { s.router with evioPin := Sparse.set (fun _ => .highZ) s.router.evioPin n (if active != inv then .high else .low) } }

def State.pulseOut (s : State) (n : Nat) : PulseOut := Sparse.get (fun _ => {}) s.meter.pulses n

def State.setPulseOut (s : State) (n : Nat) (p : PulseOut) : State :=
  s.mapMeter fun m => { m with pulses := Sparse.set (fun _ => {}) m.pulses n p }

/-- A backlog kept, and shown in METER_PULSEn. -/
def State.setBacklog (n v : Nat) (s : State) : State :=
  (s.mapCore fun c => { c with backlog := Sparse.set (fun _ => 0) c.backlog n v }).set (F.METER_PULSE_BACKLOG n) v

/-- An output that starts again, or that does not run: residue and backlog 0 (R395, R396). -/
def State.pulseClear (n : Nat) (s : State) : State :=
  (s.mapCore fun c => { c with residue := Sparse.set (fun _ => 0) c.residue n 0 }).setBacklog n 0

/-- The outputs that do not run are held at 0, and their pins low; one that runs with no pulse under way rests at its inactive level
(R98, R395, R396). -/
def State.pulseHold (s : State) : State :=
  s.each (List.range 4) fun n s =>
    if s.pulseRuns n then (if (s.pulseOut n).until_.isNone then s.pulseLevel n false else s)
    else
      let s := (s.pulseClear n).setPulseOut n { idle := s.elapsed }
      s.when (s.evioFunc n == 1) fun s =>
        { s with router := { s.router with evioPin := Sparse.set (fun _ => .highZ) s.router.evioPin n .low } }

/-- An advance of accumulator `a` by `d` mJ reaches output `n` (R396, R397). -/
def State.pulseAdvance (a d n : Nat) (s : State) : State :=
  if s.pulseRuns n && s.pulseAcc n == a && d ≠ 0 then
    let q := s.pulseQuant n
    let r := Sparse.get (fun _ => 0) s.meter.core.residue n + d
    let b := Sparse.get (fun _ => 0) s.meter.core.backlog n + r / q
    let s := s.mapCore fun c => { c with residue := Sparse.set (fun _ => 0) c.residue n (r % q) }
    let s := s.setBacklog n (min 0xFFFF b)
    if 0xFFFF < b then
      let was := s.bit (F.METER_PULSE_SAT n)
      let s := (s.setBit (F.METER_PULSE_SAT n) true).count (F.METER_PULSE_LOST_COUNT n) (b - 0xFFFF)
      s.when (!was) fun s => s.raise 165 n
    else s
  else s

/-! Accumulators (R385 to R387) -/

/-- An energy of `x` W or var or VA over `ts` s, in 2^-24 mJ. -/
def energyOf (x ts : Rat) : Nat := (|x| * ts * 1000 * (mjUnit : Nat)).floor.toNat

/-- Accumulator `n` advanced. -/
def State.addAcc (n d : Nat) (s : State) : State :=
  let old := s.meter.core.raw n
  let s := s.mapCore fun c => { c with acc := Sparse.set (fun _ => 0) c.acc n (old + d) }
  let mj := (old + d) / mjUnit - old / mjUnit
  s.each (List.range 4) (State.pulseAdvance n mj)

/-- The quadrant's accumulator k (R385, R387). -/
def quadrant (p q : Rat) : Nat :=
  if 0 ≤ p then (if 0 ≤ q then 2 else 5) else (if 0 ≤ q then 3 else 4)

/-- One group's contributions (R385, R386). -/
def State.accumulate (g : Nat) (p q sv ts : Rat) (s : State) : State :=
  let imp := if 0 ≤ p then 0 else 1
  let s := s.addAcc (8 * g + imp) (energyOf p ts)
  let s := s.addAcc (8 * g + quadrant p q) (energyOf q ts)
  s.addAcc (8 * g + 6 + imp) (energyOf sv ts)

/-! Direction of flow (R389) -/

/-- A reversal counted in the interval that contains `t`. -/
def State.reversal (t : Nat) (s : State) : State :=
  let full := s.meter.core.ivals.any fun i => t < i.stop && i.reversals = 0xFFFF
  let s := s.mapCore fun c => { c with
    ivals := inInterval t (fun i => { i with reversals := min 0xFFFF (i.reversals + 1) }) c.ivals }
  (s.when full (State.quality t mq.revSat)).raiseAt t 167 0

/-- DIR judged on the window mean of p_T (R389). -/
def State.judgeDir (t : Nat) (mean : Rat) (s : State) : State :=
  let h : Rat := 100 * s.tbl16 tid.meterCal 4
  let old := s.meter.core.dir
  let new := if old then !(h < mean) else mean < -h
  if new = old then s
  else ((s.mapCore fun c => { c with dir := new }).setBit F.METER_STATUS_DIR new).reversal t

/-! Windows (R381, R382) -/

/-- T_s of a phase in s (R378). -/
def State.spacing (s : State) (x : Nat) : Rat := s.sampleInterval (3 + x)

/-- W for a frequency in Hz and a spacing in s. -/
def windowFor (f ts : Rat) : Nat := (roundAway (1 / (f * ts))).toNat

/-- W of a phase; the nominal one until the first tick. -/
def State.windowOf (s : State) (x : Nat) : Nat :=
  let w := Sparse.get (fun _ => 0) s.meter.wins x
  if w = 0 then windowFor s.fNom (s.spacing x) else w

/-- The windows recomputed at an evaluation tick (R381). -/
def State.meterTick (s : State) : State :=
  let b := s.get F.GRID_STATUS_BEAR
  let good := b == 2 || b == 3
  let f : Rat := if good then s.freqHz else s.fNom
  let s := s.setBit F.METER_STATUS_WIN_NOM (!good)
  s.each (List.range 3) fun x s =>
    s.mapMeter fun m => { m with wins := Sparse.set (fun _ => 0) m.wins x (if f = 0 then 0 else windowFor f (s.spacing x)) }

/-- The mean of one product over a window. -/
def meanBy (f : MProducts → Rat) (l : List MProducts) : Rat := if l.isEmpty then 0 else (l.map f).sum / l.length

/-! The sample instant of all phases (R383) -/

/-- The sample instant at hand is totalled: accumulators, snapshots that wait, p_T's window, DIR. -/
def State.closeInstant (s : State) : State :=
  match s.meter.inst with
  | none => s
  | some i =>
    let s := s.mapMeter fun m => { m with inst := none }
    let s := (s.extend i.stamp).freezeEnds (min i.stamp s.meterNow)
    let s := s.accumulate 3 i.p i.q i.s i.spacing
    let now := (List.range 32).map s.meter.core.mj
    let s := s.mapMeter fun m => { m with
      snaps := m.snaps.map fun w =>
        if w.latch.isNone && w.since ≤ i.heldAt then { w with latch := some (i.stamp, now) } else w
      totals := (m.totals ++ [(i.p, i.q)]).drop (m.totals.length + 1 - s.windowOf 0) }
    let l := s.meter.totals
    let n : Rat := l.length
    let mean : Rat := if l.isEmpty then 0 else (l.map Prod.fst).sum / n
    let meanQ : Rat := if l.isEmpty then 0 else (l.map Prod.snd).sum / n
    let s := s.setSat (F.METER_P_P 3) (roundAway mean)
    let s := s.setSat (F.METER_Q_Q 3) (roundAway meanQ)
    let s := s.setTop (F.METER_S_S 3) (roundAway i.s).toNat
    s.judgeDir i.stamp mean

/-- The sample instant at hand ends where a later one begins. -/
def State.turnInstant (a : MSample) (s : State) : State :=
  match s.meter.inst with
  | some i => if i.stamp = a.stamp && i.heldAt = a.heldAt then s else s.closeInstant
  | none => s

/-- The nominal window is used for a phase: its samples carry WIN_NOM (R381). -/
def State.winNominal (s : State) (x : Nat) : Bool :=
  s.bit F.METER_STATUS_WIN_NOM || Sparse.get (fun _ => 0) s.meter.wins x == 0

/-- A phase's part of a sample instant, metered or not; the instant is complete with its third phase, or when a later one begins. -/
def State.joinInstant (x : Nat) (a : MSample) (p q sv : Rat) (s : State) : State :=
  let s := (s.turnInstant a).when (s.winNominal x) (State.quality a.stamp mq.winNom)
  let i := s.meter.inst.getD { stamp := a.stamp, heldAt := a.heldAt }
  let i := { i with phases := x :: i.phases, p := i.p + p, q := i.q + q, s := i.s + sv, spacing := s.spacing x }
  let s := s.mapMeter fun m => { m with inst := some i }
  if i.phases.length = 3 then s.closeInstant else s

/-! One sample of a phase (R379 to R384, R388) -/

/-- An all-pass network fed with a sample: first-order sections in series, y := a (x - y') + x' with the latest input x' and output y' of
the section (R380). -/
def allpass : List Rat → List (Rat × Rat) → Rat → Rat × List (Rat × Rat)
  | [], _, x => (x, [])
  | a :: cs, st, x =>
    let o := st.headD (0, 0)
    let y := a * (x - o.2) + o.1
    let r := allpass cs st.tail y
    (r.1, (x, y) :: r.2)

/-- A sample metered: the voltage and the shifted current of phase `x` (R380, R382, R384 to R388). Voltage and current pass through one
network AP1. -/
def State.meterSample (x : Nat) (a : MSample) (amps : Rat) (s : State) : State :=
  let s := s.turnInstant a
  let w := s.windowOf x
  let ph := s.mPhase x
  let (v, v1) := allpass Config.ap1 ph.v1 a.volts
  let (v90, v2) := allpass Config.ap2 ph.v2 a.volts
  let (i, i1) := allpass Config.ap1 ph.i1 amps
  let win := (ph.window ++ [({ p := v * i, q := v90 * i, vv := v ^ 2, ii := i ^ 2 } : MProducts)])
  let win := win.drop (win.length - w)
  let refill := ph.refill && win.length < w
  let s := s.setMPhase x { ph with window := win, refill := refill, v1 := v1, v2 := v2, i1 := i1 }
  let p := meanBy MProducts.p win
  let q := meanBy MProducts.q win
  let vr := sqrtOf (meanBy MProducts.vv win)
  let ir := sqrtOf (meanBy MProducts.ii win)
  let s := s.setSat (F.METER_P_P x) (roundAway p)
  let s := s.setSat (F.METER_Q_Q x) (roundAway q)
  let s := s.setTop (F.METER_S_S x) (roundAway (vr * ir)).toNat
  let s := s.setTop (F.METER_VRMS_V x) (roundAway (10 * vr)).toNat
  let s := s.setTop (F.METER_IRMS_I x) (roundAway (1000 * ir)).toNat
  let low : Bool := !refill && 1000 * ir < s.tbl16 tid.meterCal 2
  if low then s.joinInstant x a 0 0 0
  else if refill then s.joinInstant x a (v * i) (v90 * i) 0
  else
    let s := s.accumulate x p q (vr * ir) (s.spacing x)
    s.joinInstant x a (v * i) (v90 * i) (vr * ir)

/-- The current shifted by I_DELAY: interpolated between the samples that enclose the instant (R379). -/
def State.shifted (s : State) (x : Nat) (prev : Option MSample) (a b : MSample) : Rat :=
  let d : Rat := (s.tblS16 tid.meterCal (0x10 + 32 * x + 14) : Rat) / 10
  let along := fun (from_ to_ : MSample) =>
    if from_.stamp < to_.stamp then (to_.amps - from_.amps) / ((to_.stamp - from_.stamp : Nat) : Int) else 0
  if 0 ≤ d then a.amps + d * along a b
  else match prev with
    | some p => a.amps + d * along p a
    | none => a.amps

/-- The sample `a` that waited is metered before its successor `b`; an unmetered one contributes 0 to its instant (R379, R388). -/
def State.meterPend (x : Nat) (prev : Option MSample) (a b : MSample) (s : State) : State :=
  if a.zero then s.joinInstant x a 0 0 0
  else s.meterSample x a (s.shifted x prev a (if b.zero then a else b))

/-- The sample that waits for its successor is metered without one. -/
def State.flushPhase (x : Nat) (s : State) : State :=
  let ph := s.mPhase x
  match ph.pend with
  | none => s
  | some a => (s.setMPhase x { ph with prev := none, pend := none }).meterPend x ph.prev a a

/-- A sample in V and A joins its phase: the one before it is metered (R379). -/
def State.sampleIn (x : Nat) (b : MSample) (s : State) : State :=
  let ph := s.mPhase x
  match ph.pend with
  | none => s.setMPhase x { ph with pend := some b }
  | some a =>
    (s.setMPhase x { ph with prev := if a.zero then none else some a, pend := some b }).meterPend x ph.prev a b

/-- A calibrated value converted with a METER_CAL entry at an offset (R379). -/
def State.calValue (s : State) (off : Nat) (v : Int) : Rat :=
  (s.tblS32 tid.meterCal off : Rat) / 16777216 * (v - s.tblS16 tid.meterCal (off + 4))

/-- A pair of results of phase `x` (R377, R388, R420). -/
def State.meterPair (x : Nat) (v i : MResult) (s : State) : State :=
  let t := v.stamp
  let s := s.each (List.range 3) fun b s => s.when (v.flags.testBit b || i.flags.testBit b) (State.quality t b)
  let ph := s.mPhase x
  let none_ : MSample := { stamp := t, heldAt := v.heldAt, volts := 0, amps := 0, zero := true }
  if !s.calOk then
    ((s.quality t mq.noCal).quality t mq.unmetered).joinInstant x none_ 0 0 0
  else
    match v.value, i.value with
    | some a, some b =>
      let now := (s.calValue (0x10 + 32 * x) a, s.calValue (0x18 + 32 * x) b)
      let ph := { ph with run := 0, latest := now }
      let s := s.setMPhase x (if ph.dead then { ph with dead := false, refill := true, window := [] } else ph)
      s.sampleIn x { none_ with volts := now.1, amps := now.2, zero := false }
    | _, _ =>
      if ph.run < 16 then
        let s := s.setMPhase x { ph with run := ph.run + 1 }
        let s := (s.quality t mq.subst).count F.METER_SUBST_COUNT
        s.sampleIn x { none_ with volts := ph.latest.1, amps := ph.latest.2, zero := false }
      else
        let s := s.setMPhase x { s.mPhase x with run := ph.run + 1, dead := true }
        let s := (s.quality t mq.unmetered).count F.METER_UNMETERED_COUNT
        s.sampleIn x none_

/-- Results that can find no partner any more, each being delivered within 1 500 ns of its sample instant (R123, R377). -/
def State.dropUnpaired (x : Nat) (s : State) : State :=
  let ph := s.mPhase x
  let old := fun (r : MResult) => r.heldAt + 1500 < s.elapsed
  let s := s.setMPhase x { ph with
    vWait := ph.vWait.filter fun r => !old r, iWait := ph.iWait.filter fun r => !old r }
  s.each (ph.iWait.filter old) fun r s => (s.count F.METER_UNPAIRED_COUNT).quality r.stamp mq.unpaired

/-! Records, seals and the atlas (R400, R404 to R409, R415) -/

/-- The seal engine's key (R409, R651). -/
def State.sealKey (s : State) : List Byte := s.ghost.shadow.getD (List.replicate 32 0)

/-- The seal of a record (R407). -/
def State.sealOf (s : State) (body prev : List Byte) : List Byte := (hmac s.sealKey (body ++ prev)).take 8

/-- The FLAGS bits that the chain and the device's state give a record at its close (R405). -/
def State.closeFlags (s : State) (c : MeterCore) : Nat :=
  let b := fun (x : Bool) (i : Nat) => if x then 2 ^ i else 0
  b c.chainNew mf.chainNew + b c.exportLost mf.exportLost + b s.power.otp.key.isNone mf.noKey +
    2 ^ 11 * s.get F.DATUM_STATUS_DISC + 2 ^ 13 * s.get F.DATUM_STATUS_ORIGIN

/-- Whole seconds, rounded up. -/
def upSeconds (ns : Nat) : Nat := (ns + second - 1) / second

/-- Bytes 0 to 55 of a record (R404). -/
def recordBody (start seq len flags : Nat) (values : List Nat) (demand reversals quality : Nat) : List Byte :=
  leBytes 8 start ++ leBytes 4 seq ++ leBytes 2 len ++ leBytes 2 flags ++ values.flatMap (leBytes 4) ++
    leBytes 4 demand ++ leBytes 2 reversals ++ leBytes 2 quality

/-- The first sub-period of an interval judged: its energy is a candidate where it is whole (R401). -/
def judgeSub (c : MeterCore) (cut : Bool) : MeterCore :=
  match c.ivals with
  | [] => c
  | h :: rest =>
    match h.subs with
    | [] => c
    | u :: us =>
      let fin := u.fin.getD (c.raw 24)
      let w := (fin / mjUnit - c.subBase / mjUnit) / (1000 * h.demandSub)
      let best := if u.whole && !cut then max h.maxDemand w else h.maxDemand
      { c with ivals := { h with subs := us, maxDemand := best } :: rest, subBase := fin }

/-- Every sub-period of the first interval judged; those that have not ended by `t` are cut short. -/
def judgeSubs (t : Nat) : Nat → MeterCore → MeterCore
  | 0, c => c
  | n + 1, c =>
    match c.ivals with
    | [] => c
    | h :: _ =>
      match h.subs with
      | [] => c
      | u :: _ => judgeSubs t n (judgeSub c (t < u.stop))

/-- The first interval of a metering state closed at `t` (R400, R401, R404): the record's bytes, and the state after it but for the
chain. -/
def closeCore (t extra : Nat) (c : MeterCore) : Option (List Byte × MeterCore) :=
  let c := judgeSubs t 4000 c
  match c.ivals with
  | [] => none
  | h :: rest =>
    let tot := h.totals.getD c.totalsNow
    let v := fun k => (tot.getD k 0 + 2 ^ 64 - Sparse.get (fun _ => 0) c.bases k % 2 ^ 64) % 2 ^ 64 / 3600000
    let dur := t - h.start
    let part := if dur = h.len then 0 else 1
    let body := recordBody h.start c.nextSeq (upSeconds dur) (Nat.lor (Nat.lor h.flags extra) part)
      ((List.range 8).map v) h.maxDemand h.reversals h.quality
    let bases := (List.range 8).foldl (fun b k =>
      Sparse.set (fun _ => 0) b k ((Sparse.get (fun _ => 0) b k + v k * 3600000) % 2 ^ 64)) c.bases
    some (body, { c with ivals := rest, bases := bases, lastEnd := t })

/-- The chain moves on (R408): a record formed takes the next SEQ and the marks that waited for it. -/
def advanceSeq (c : MeterCore) : MeterCore :=
  { c with nextSeq := (c.nextSeq + 1) % 2 ^ 32, chainNew := false, exportLost := false }

/-- METER_SEQ, METER_OLDEST, METER_ATLAS and METER_OPEN shown. -/
def State.showAtlas (s : State) : State :=
  let a := s.meter.atlas
  let s := s.set F.METER_SEQ_SEQ s.meter.core.nextSeq
  let s := s.set F.METER_OLDEST_SEQ (match a.head? with | some r => r.seq | none => 0xFFFFFFFF)
  let s := s.set F.METER_ATLAS_PRESENT a.length
  let s := s.set F.METER_ATLAS_PENDING (a.filter fun r => !r.sent).length
  s.setPair Reg.METER_OPEN_LO (match s.meter.core.ivals.head? with | some i => i.start | none => 0)

/-- A record enters the atlas (R415): the oldest of 8,192 gives way; one not yet exported is then lost to ring 4. -/
def State.enterAtlas (r : Rec) (s : State) : State :=
  let s := match s.meter.atlas with
    | [] => s
    | o :: rest =>
      if s.meter.atlas.length < 8192 then s
      else
        let s := s.mapMeter fun m => { m with atlas := rest }
        s.when (s.bit F.METER_CTRL_EXPORT_EN && !o.sent) fun s =>
          ((s.count F.METER_ATLAS_LOST_COUNT).raise 166).mapCore fun c => { c with exportLost := true }
  (s.mapMeter fun m => { m with atlas := m.atlas ++ [{ r with sent := false, waited := false }] }).showAtlas

/-- Metering holds its live state: main power is present, and no reset of the METER block waits for its internal start. -/
def State.meterLive (s : State) : Bool := !s.ghost.absent && !(s.power.startDue && s.power.whole)

/-- A metering state copied into retention memory, in the copy written longer ago (R657). -/
def State.retain (s : State) : State :=
  let gen := fun (c : Option (Nat × MeterCore)) => match c with
    | some x => x.1
    | none => 0
  let a := gen s.ghost.copyA
  let b := gen s.ghost.copyB
  let core := s.meter.core
  { s with ghost := if a ≤ b then { s.ghost with copyA := some (b + 1, core) } else { s.ghost with copyB := some (a + 1, core) } }

/-- A record formed while main power is present is sealed, kept as LAST, and enters the atlas (R400, R407, R657); after the power-fail
warning the chain state is retained with it (R647). -/
def State.fileRecord (body : List Byte) (s : State) : State :=
  let mac := s.sealOf body s.meter.core.prevSeal
  let r : Rec := { seq := s.meter.core.nextSeq, body := body, mac := some mac }
  let s := s.mapCore fun c => { advanceSeq c with prevSeal := mac }
  let s := { s with ghost := { s.ghost with last := some r } }
  (s.enterAtlas r).when (s.bit F.GHOST_STATUS_PF_WARN) State.retain

/-- The first interval closed at `t` with further FLAGS bits (R400); INTERVAL_CLOSED is stamped as the closing commits (R64). -/
def State.closeFirst (t extra : Nat) (s : State) : State :=
  let s := s.freezeEnds t
  match closeCore t (Nat.lor extra (s.closeFlags s.meter.core)) s.meter.core with
  | none => s
  | some (body, c) => ((s.mapCore fun _ => c).fileRecord body).raise 160

/-- The first interval closed at its edge `t`, the next one open (R400). -/
def State.closeHead (t : Nat) (s : State) : State := (s.extend t).closeFirst t 0

/-- The intervals that have ended by `now` close at their edges, as they stand. -/
def State.closeEnded (now : Nat) : Nat → State → State
  | 0, s => s
  | n + 1, s =>
    match s.meter.core.ivals with
    | [] => s
    | h :: _ => if h.stop ≤ now then State.closeEnded now n (s.closeFirst h.stop 0) else s

/-- A gap record from `e` to `r` (R413, R419). -/
def State.gapRecord (e r quality : Nat) (s : State) : State :=
  let flags := Nat.lor (2 ^ mf.gap + 2 ^ mf.partialEnd) (s.closeFlags s.meter.core)
  let body := recordBody e s.meter.core.nextSeq 0 flags (List.replicate 8 0) (upSeconds (r - e)) 0 quality
  ((s.fileRecord body).mapCore fun c => { c with lastEnd := r }).raise 162

/-- An interval opened at `t` (R398): it and its first sub-period count from the accumulators as they stand. With a QUALITY bit the
sub-periods up to the present one are no candidates. -/
def State.openInterval (t flags quality : Nat) (s : State) : State :=
  let i := { s.intervalFrom t with flags := flags, quality := quality }
  let i := if quality = 0 then i else { i with subs := i.subs.map fun u => { u with whole := false } }
  let s := s.mapCore fun c => { c with ivals := [i], subBase := c.raw 24 }
  let s := s.extendTo s.datum 8000
  let s := s.when (quality != 0) fun s => s.mapCore fun c => { c with ivals := c.ivals.map (spoil s.datum) }
  s.showAtlas

/-- A step of datum time as metering sees it (R403), once the samples taken before it are in: edges already passed close as they stand, the
open interval closes with STEP at the time before the step, and a new one opens at the time after it. It carries the CFG_CHANGE that the open
one owed it (R402). -/
def State.finishStep (s : State) : State :=
  match s.meter.stepAt with
  | none => s
  | some w =>
    let s := ((s.each (List.range 3) State.flushPhase).closeInstant).extend w.old
    let s := s.closeEnded w.old s.meter.core.ivals.length
    let owed := match s.meter.core.ivals.getLast? with
      | some i => if i.cfg then 2 ^ mf.cfgChange else 0
      | none => 0
    let s := s.closeFirst w.old (2 ^ mf.step)
    (s.mapMeter fun m => { m with stepAt := none }).openInterval w.new (2 ^ mf.step + owed) 0

/-- No sample taken before the step of datum time is still to come. -/
def State.stepCaughtUp (s : State) : Bool :=
  match s.meter.stepAt with
  | none => false
  | some w => s.conv.inflight.all fun c => !(c.input < 6 && c.part.isSome && c.heldAt < w.at_)

/-- A scheduled result of VGx or IGx (R377, R399); what was sampled in tableau is not metered, and in tableau nothing is (R419). -/
def State.meterResult (x : Nat) (volts : Bool) (r : MResult) (s : State) : State :=
  if s.tableau || (s.meter.frozen.1 ≤ r.heldAt && r.heldAt < s.meter.frozen.2) then s
  else
    let after : Bool := match s.meter.stepAt with
      | some w => w.at_ ≤ r.heldAt
      | none => false
    let s := (s.when after State.finishStep).dropUnpaired x
    let ph := s.mPhase x
    match (if volts then ph.iWait else ph.vWait).find? fun o => o.stamp == r.stamp && o.heldAt == r.heldAt with
    | some o =>
      let s := s.setMPhase x (if volts then { ph with iWait := ph.iWait.erase o } else { ph with vWait := ph.vWait.erase o })
      if volts then s.meterPair x r o else s.meterPair x o r
    | none => s.setMPhase x (if volts then { ph with vWait := ph.vWait ++ [r] } else { ph with iWait := ph.iWait ++ [r] })

/-- Samples stamped before `e` that can still be metered are awaited (R400). -/
def State.caughtUp (s : State) (e : Nat) : Bool :=
  (s.conv.inflight.all fun c => !(c.input < 6 && c.part.isSome && c.stamp < e)) &&
    (List.range 3).all fun x =>
      let ph := s.mPhase x
      match ph.pend with
      | some a => e ≤ a.stamp || a.stamp + (s.spacing x * 1000000000).floor.toNat + 1500 ≤ s.datum
      | none => true

/-- What is still at hand and stamped before `e` is metered. -/
def State.meterUpTo (e : Nat) (s : State) : State :=
  let s := s.each (List.range 3) fun x s => match (s.mPhase x).pend with
    | some a => if a.stamp < e then s.flushPhase x else s
    | none => s
  match s.meter.inst with
  | some i => if i.stamp < e then s.closeInstant else s
  | none => s

/-- INTERVAL_CLOSE (R400, R403); nothing closes in tableau (R419). -/
def execIntervalClose (t : Nat) (s : State) : Host.Outcome State Fault Refusal :=
  s.run t fun s =>
    if s.tableau || s.ghost.absent then s
    else if s.meter.stepAt.isSome then s.when s.stepCaughtUp State.finishStep
    else
      match s.meter.core.ivals with
      | [] => s
      | h :: _ => if h.stop ≤ s.datum && s.caughtUp h.stop then ((s.meterUpTo h.stop).closeHead h.stop).showAtlas else s

/-- DEMAND_SUB_PERIOD (R401). -/
def execDemandSubPeriod (t : Nat) (s : State) : Host.Outcome State Fault Refusal :=
  s.run t fun s =>
    match s.meter.core.ivals with
    | [] => s
    | h :: _ =>
      match h.subs with
      | [] => s
      | u :: _ =>
        if u.stop ≤ s.meterNow && s.caughtUp u.stop && !s.tableau && !s.ghost.absent then
          (((s.meterUpTo u.stop).extend s.meterNow).freezeEnds u.stop).mapCore fun c => judgeSub c false
        else s

/-- A step of datum time from `old` (R399, R403): the interval closes once every sample taken before the step is in. In tableau the open
interval only takes the flag (R419). -/
def State.closeForStep (old : Nat) (s : State) : State :=
  match s.meter.core.ivals with
  | [] => s
  | _ :: _ =>
    if s.tableau || s.ghost.absent then
      s.mapCore fun c => { c with ivals := mapLast (fun i => { i with flags := setBitOf i.flags mf.step }) c.ivals }
    else
      let s := s.finishStep
      let s := s.mapMeter fun m => { m with stepAt := some { old := old, new := s.datum, at_ := s.elapsed } }
      s.when s.stepCaughtUp State.finishStep

/-! Snapshots (R390 to R394) -/

/-- SNAPSHOT (R391). -/
def execSnapshot (t : Nat) (d : Desc) (s : State) : Host.Outcome State Fault Refusal :=
  s.run t fun s =>
    let need := if d.p0.getLsbD 0 then 400 else 144
    s.checked d
      [(d.target ≠ 0, st.targetRange, 0), (1 < d.p0.toNat || d.p1 ≠ 0, st.targetRange, 0x10),
       (d.len.toNat ≠ need, st.lenRange, need)]
      fun s => s.mapMeter fun m => { m with snaps := m.snaps ++ [({ desc := d, since := s.elapsed } : SnapWait)] }

/-- One accumulator captured (R392, R393): METER_SNAPn, and the bit and event of an ambiguous advance. -/
def State.capture1 (quantum n v : Nat) (s : State) : State :=
  let old := Sparse.get (fun _ => 0) s.meter.captured n
  let s := s.set (F.METER_SNAP_VALUE n) (v / (quantum * 1000))
  let s := s.mapMeter fun m => { m with captured := Sparse.set (fun _ => 0) m.captured n v }
  if 2 ^ 32 * quantum * 1000 ≤ (v + 2 ^ 64 - old) % 2 ^ 64 then (s.setIbit F.METER_OVERRUN_OVERRUN n true).raise 164 else s

/-- SNAPSHOT_CAPTURE (R392 to R394): the oldest SNAPSHOT whose sample has come is written and completes. -/
def execSnapshotCapture (t : Nat) (s : State) : Host.Outcome State Fault Refusal :=
  s.run t fun s =>
    match s.meter.snaps.find? fun w => w.latch.isSome with
    | none => s
    | some w =>
      match w.latch with
      | none => s
      | some (stamp, acc) =>
        if s.tableau then s
        else
          let q := s.get F.METER_QUANTUM_QUANTUM
          let full := w.desc.p0.getLsbD 0
          let s := s.each (List.range 32) fun n s => s.capture1 q n (acc.getD n 0)
          let s := s.when s.meter.quantumNew fun s => s.set F.METER_OVERRUN_OVERRUN 0xFFFFFFFF
          let s := s.mapMeter fun m => { m with quantumNew := false, snaps := m.snaps.erase w }
          let s := s.setPair Reg.METER_SNAP_TIME_LO stamp
          let bytes := leBytes 8 stamp ++ leBytes 4 (s.get F.METER_OVERRUN_OVERRUN) ++
            leBytes 4 (q + if full then 65536 else 0) ++
            (List.range 32).flatMap (fun n => leBytes 4 (s.get (F.METER_SNAP_VALUE n))) ++
            (if full then acc.flatMap (leBytes 8) else [])
          if s.host.dispatched.contains w.desc then
            (s.hostWrite w.desc.hostAddr.toNat bytes).complete w.desc st.done 0 stamp
          else s

/-! Pulse outputs at the pin (R396) -/

/-- PULSE_START (R396). -/
def execPulseStart (t : Nat) (pin : Fin 4) (s : State) : Host.Outcome State Fault Refusal :=
  s.run t fun s =>
    let n := pin.val
    let o := s.pulseOut n
    let b := Sparse.get (fun _ => 0) s.meter.core.backlog n
    if s.pulseRuns n && b ≠ 0 && o.until_.isNone && s.expired o.idle (s.pulseWidth n) && !s.tableau then
      ((s.setBacklog n (b - 1)).setPulseOut n { o with until_ := some (s.elapsed + s.pulseWidth n) }).pulseLevel n true
    else s

/-- PULSE_END (R396): in tableau a pulse holds its level (R419). -/
def execPulseEnd (t : Nat) (pin : Fin 4) (s : State) : Host.Outcome State Fault Refusal :=
  s.run t fun s =>
    let n := pin.val
    match (s.pulseOut n).until_ with
    | none => s
    | some e =>
      if e ≤ s.elapsed && !s.tableau then (s.setPulseOut n { idle := s.elapsed }).pulseLevel n false else s

/-! Retention, export and ATLAS_READ (R410, R416 to R418) -/

/-- RETENTION_REFRESH (R410): every 1 s, but not between the power-fail warning and its end (R647). -/
def execRetentionRefresh (t : Nat) (s : State) : Host.Outcome State Fault Refusal :=
  s.run t fun s =>
    if s.expired s.meter.lastRefresh second && !s.bit F.GHOST_STATUS_PF_WARN && s.meterLive then
      (s.finishStep.mapMeter fun m => { m with lastRefresh := m.lastRefresh + second }).retain
    else s

/-- A write of METER_CTRL (R416): 1 starts the export from the oldest record. -/
def State.writeMeterCtrl (data : Word) (s : State) : State :=
  let s := s.setBit F.METER_CTRL_EXPORT_EN (data.getLsbD 0)
  s.when (data.getLsbD 0) fun s =>
    (s.mapMeter fun m => { m with atlas := m.atlas.map fun r => { r with sent := false, waited := false } }).showAtlas

/-- EXPORT_EN (R416). -/
def execExportEn (t : Nat) (data : Word) (s : State) : Host.Outcome State Fault Refusal :=
  s.run t fun s => s.bar0 Reg.METER_CTRL data (State.writeMeterCtrl data)

/-- The 64 bytes of a record. -/
def Rec.bytes (r : Rec) : List Byte := r.body ++ r.mac.getD (List.replicate 8 0)

/-- ATLAS_EXPORT (R416): the oldest record not yet written goes to ring 4, or waits. -/
def execAtlasExport (t : Nat) (s : State) : Host.Outcome State Fault Refusal :=
  s.run t fun s =>
    match s.meter.atlas.find? fun r => !r.sent with
    | none => s
    | some r =>
      if !s.bit F.METER_CTRL_EXPORT_EN || s.tableau then s
      else if s.ringRoom 4 then
        let s := s.stage { ring := 4, body := r.bytes ++ List.replicate 64 0, stamp := s.datum, late := false, cmd := none, status := 0 }
        let s := s.setBit F.METER_STATUS_EXPORT_STALL false
        (s.mapMeter fun m => { m with atlas := replaceFirst r { r with sent := true } m.atlas }).showAtlas
      else
        let s := (s.foundFull 4).setBit F.METER_STATUS_EXPORT_STALL true
        let n := (s.meter.atlas.filter fun x => !x.sent && !x.waited).length
        (s.count F.METER_EXPORT_WAIT_COUNT n).mapMeter fun m => { m with
          atlas := m.atlas.map fun x => if x.sent then x else { x with waited := true } }

/-- ATLAS_READ (R417, R418). -/
def execAtlasRead (t : Nat) (d : Desc) (s : State) : Host.Outcome State Fault Refusal :=
  s.run t fun s =>
    let n := d.p1.toNat
    let from_ := s.meter.atlas.dropWhile fun r => r.seq != d.p0.toNat
    let oldest := match s.meter.atlas.head? with
      | some r => r.seq
      | none => 0
    s.checked d
      [(d.target ≠ 0, st.targetRange, 0), (n = 0 || 1023 < n, st.lenRange, 0), (d.len.toNat ≠ 64 * n, st.lenRange, 0),
       (s.meter.atlas.isEmpty, st.lenRange, 0), (from_.isEmpty, st.targetRange, oldest),
       (from_.length < n, st.lenRange, from_.length)]
      fun s => (s.hostWrite d.hostAddr.toNat ((from_.take n).flatMap Rec.bytes)).finish d

/-! METER_CFG and METER_QUANTUM (R402, R394, R426) -/

/-- A write of METER_CFG (R402, R426). -/
def State.writeMeterCfg (data : Word) (s : State) : State :=
  let i := bitsOf data.toNat 0 12
  let u := bitsOf data.toNat 16 12
  if s.curtainDown && 1 ≤ i && i ≤ 3600 && 3600 % i = 0 && 1 ≤ u && u ≤ 3600 && i % u = 0 then
    (s.writeByAccess Reg.METER_CFG data).meterCfgChanged
  else s.setBit F.METER_STATUS_CFG_REJECT true

/-- METER_CFG_WRITE (R402). -/
def execMeterCfgWrite (t : Nat) (data : Word) (s : State) : Host.Outcome State Fault Refusal :=
  s.run t fun s => s.bar0 Reg.METER_CFG data (State.writeMeterCfg data)

/-- A write of METER_QUANTUM (R394, R426). -/
def State.writeQuantum (data : Word) (s : State) : State :=
  if bitsOf data.toNat 0 16 = 0 then s.setBit F.METER_STATUS_CFG_REJECT true
  else (s.writeByAccess Reg.METER_QUANTUM data).mapMeter fun m => { m with quantumNew := true }

/-! Tableau (R419) -/

/-- Entry to tableau: what has been sampled is metered, and the open interval takes TABLEAU and UNMETERED. -/
def State.meterFreeze (s : State) : State :=
  let s := (s.finishStep.each (List.range 3) State.flushPhase).closeInstant
  let s := s.each (List.range 3) fun x s => s.setMPhase x { s.mPhase x with vWait := [], iWait := [] }
  (s.quality s.datum mq.tableau).quality s.datum mq.unmetered

/-- Exit from tableau after `len` ns: the open interval closes where its edge has passed, later edges make one gap record, and pulses go
on. -/
def State.meterThaw (len : Nat) (s : State) : State :=
  let s := s.each (List.range 4) fun n s =>
    let o := s.pulseOut n
    s.setPulseOut n { until_ := o.until_.map (· + len), idle := o.idle + len }
  let s := s.mapMeter fun m => { m with frozen := (s.elapsed - len, s.elapsed) }
  let now := s.datum
  let cfg := if s.meter.core.ivals.any MInterval.cfg then 2 ^ mf.cfgChange else 0
  let s := s.closeEnded now s.meter.core.ivals.length
  match s.meter.core.ivals with
  | [] =>
    let e := s.meter.core.lastEnd
    let r := edgeAfter s.intervalLen s.utcShift now - s.intervalLen
    let s := s.when (e < r) (State.gapRecord e r (2 ^ mq.unmetered))
    s.openInterval (max e r) cfg (2 ^ mq.tableau + 2 ^ mq.unmetered)
  | _ => (((s.extendTo now 8000).quality now mq.tableau).quality now mq.unmetered).showAtlas

end Sys2Proof.Machine
end

