-- ==== Sys2Proof/Machine/Grid.lean ====
section
/-! DEFINITION. Sys2Proof/Machine/Grid.lean: the bearing, references, contours, islanding, verdicts and the permit (spec/05). -/

namespace Sys2Proof.Machine

def State.mapGrid (s : State) (f : Grid → Grid) : State := { s with grid := f s.grid }

def State.mapBear (s : State) (f : Bear → Bear) : State := s.mapGrid fun g => { g with bear := f g.bear }

/-! Tables of this chapter -/

/-- A SIGNATURE tone is a harmonic of the present F_NOM (R257). -/
def State.toneBad (s : State) (tone : Nat) : Bool := tone % (if s.bit F.GRID_NOM_F_NOM then 6 else 5) == 0

/-- SIG_OK (R257, R267): the loaded table is valid for the present F_NOM. -/
def State.sigOk (s : State) : Bool :=
  s.tableOk tid.signature && !s.toneBad (s.tbl8 tid.signature 2) && !s.toneBad (s.tbl8 tid.signature 3)

/-- CONTOURS_OK (R266). -/
def State.contoursOk (s : State) : Bool := s.tableOk tid.contourV && s.tableOk tid.contourF

/-! Verdicts and the permit (R264 to R266) -/

/-- The bearing states of R229. -/
abbrev bear.off : Nat := 0
abbrev bear.seeking : Nat := 1
abbrev bear.locked : Nat := 2
abbrev bear.coast : Nat := 3
abbrev bear.lost : Nat := 4

def State.bearState (s : State) : Nat := s.get F.GRID_STATUS_BEAR

/-- Every verdict bit (R264). -/
def State.verdictBits (s : State) : Nat := bitsOf (s.reg Reg.GRID_VERDICT).toNat 0 4

/-- The levels have stayed inside the enter windows for ENTER_DELAY (R266). -/
def State.entered (s : State) : Bool :=
  match s.grid.enterSince with
  | none => false
  | some t0 => t0 + s.tbl16 tid.contourV 8 * 10000 ≤ s.grid.ticks

/-- PERMIT as R266 defines it. -/
def State.permitNow (s : State) : Bool :=
  s.bearState == bear.locked && s.bit F.GRID_CTRL_RT_EN && s.contoursOk && (s.sigOk || !s.bit F.GRID_CTRL_ISL_EN) &&
    s.verdictBits == 0 && s.entered

/-- PERMIT judged anew (R266). -/
def State.judgePermit (s : State) : State :=
  if s.permitNow = s.bit F.GRID_STATUS_PERMIT then s
  else (s.setBit F.GRID_STATUS_PERMIT s.permitNow).raise 123

/-- A verdict (R264): 0 RT_V, 1 RT_F, 2 ISLAND, 3 PASSIVE, formed only while the curtain is RAISING or RAISED; `cause` is cause_T. -/
def State.verdict (v cause : Nat) (s : State) : State :=
  if !s.curtainUp then s
  else
    let first := bitsOf s.verdictBits 0 2 == 0
    let s := s.when (v < 2 && first) fun s => s.set F.GRID_VERDICT_CAUSE cause
    let s := s.setBit ⟨Reg.GRID_VERDICT, v, 1⟩ true
    let s := if v < 2 then (s.count F.GRID_TRIP_COUNT_COUNT).raise 119 else (s.count F.GRID_ISL_COUNT_COUNT).raise 121
    (s.curtCause (17 + v)).judgePermit

/-! The bearing estimator (R226 to R231) -/

/-- The bearing changes its state (R229). -/
def State.bearGoto (v : Nat) (s : State) : State :=
  if s.bearState = v then s
  else
    let s := (s.set F.GRID_STATUS_BEAR v).raise 112
    let s := s.mapBear fun b => { b with
      lockSince := none, coastSince := if v = bear.coast then some s.elapsed else none }
    let s := s.when (v == bear.locked) fun s => s.mapGrid fun g => { g with waitLock := false }
    s.judgePermit

/-- OFF ends where BEAR_EN is 1, with the FLL at F_NOM; BEAR_EN cleared leads to OFF (R229). -/
def State.bearEnable (s : State) : State :=
  if !s.bit F.GRID_CTRL_BEAR_EN then s.bearGoto bear.off
  else if s.bearState = bear.off then
    (s.mapBear fun b => { b with freq := 1000 * s.fNom, missing := [], sogi := [], seen := [] }).bearGoto bear.seeking
  else s

/-- An angle in turns taken into [-1/2, 1/2). -/
def wrapTurn (x : Rat) : Rat := x - (x + 1 / 2).floor

/-- A magnitude from its two components. -/
def magnitude (d q : Rat) : Rat := sqrtOf (d ^ 2 + q ^ 2)

/-- The measured values of one step: both angles, V+ and V- in pu, the smallest and largest level in 0.0001 pu. -/
structure BearMeas where
  theta : Rat
  thetaN : Rat
  vpos : Rat
  vneg : Rat
  vmin : Nat
  vmax : Nat

/-- The integrator of a phase. -/
def Bear.at_ (b : Bear) (x : Nat) : Sogi := Sparse.get (fun _ => {}) b.sogi x

/-- The Fortescue decomposition and the levels of R227 from the integrators' components; with ROT at 1 phases B and C are exchanged
(R230). -/
def State.bearMeasure (s : State) : BearMeas :=
  let a := s.grid.bear.at_ 0
  let b := s.grid.bear.at_ 1
  let c := s.grid.bear.at_ 2
  let (d1, q1, d2, q2) := if s.bit F.GRID_CTRL_ROT then (c.d, c.q, b.d, b.q) else (b.d, b.q, c.d, c.q)
  let h := sqrt3 / 2
  let dp := (a.d - (d1 + d2) / 2 - h * (q1 - q2)) / 3
  let qp := (a.q - (q1 + q2) / 2 + h * (d1 - d2)) / 3
  let dn := (a.d - (d1 + d2) / 2 + h * (q1 - q2)) / 3
  let qn := (a.q - (q1 + q2) / 2 - h * (d1 - d2)) / 3
  let mags := if s.bit F.GRID_CTRL_VMODE then
      [magnitude (a.d - b.d) (a.q - b.q), magnitude (b.d - c.d) (b.q - c.q), magnitude (c.d - a.d) (c.q - a.q)].map
        fun m => m / (sqrt2 * s.vNom)
    else [magnitude a.d a.q, magnitude b.d b.q, magnitude c.d c.q].map fun m => m / (sqrt2 * s.vBase)
  let levels := mags.map fun m => (min 65535 (roundAway (10000 * m))).toNat
  { theta := frac (atan2Of qp dp), thetaN := frac (atan2Of qn dn)
    vpos := magnitude dp qp / (sqrt2 * s.vBase), vneg := magnitude dn qn / (sqrt2 * s.vBase)
    vmin := levels.foldl min 65535, vmax := levels.foldl max 0 }

/-- The rotation check judged (R230): while V+ and V- are both below 0.2 pu it is not. -/
def State.judgeRotation (s : State) : State :=
  let b := s.grid.bear
  if b.vpos < 1 / 5 && b.vneg < 1 / 5 then s
  else if b.vneg < b.vpos then s.setBit F.GRID_STATUS_ROT_BAD false
  else if s.bearState = bear.seeking && !s.bit F.GRID_STATUS_ROT_BAD then (s.setBit F.GRID_STATUS_ROT_BAD true).raise 114
  else s

/-- f lies within 5 Hz of F_NOM. -/
def State.freqInside (s : State) : Bool :=
  1000 * s.fNom ≤ s.grid.bear.freq + 5000 && s.grid.bear.freq ≤ 1000 * s.fNom + 5000

/-- The lock condition of R229. -/
def State.lockCondition (s : State) : Bool :=
  let b := s.grid.bear
  s.freqInside && 1 / 5 ≤ b.vpos && b.vneg < b.vpos && b.residual < 1 / 180 && -1 / 180 < b.residual

/-- The outputs of R227 shown. -/
def State.showBear (m : BearMeas) (s : State) : State :=
  let b := s.grid.bear
  let s := s.set F.GRID_ANGLE_THETA (roundAway (frac b.theta * 2 ^ 32)).toNat
  let s := s.setTop F.GRID_FREQ_FREQ b.freq
  let s := s.setTop F.GRID_VSEQ_VPOS (roundAway (10000 * b.vpos)).toNat
  let s := s.setTop F.GRID_VSEQ_VNEG (roundAway (10000 * b.vneg)).toNat
  (s.set F.GRID_VLEVEL_VMIN m.vmin).set F.GRID_VLEVEL_VMAX m.vmax

/-- COAST_V in pu. -/
def State.coastV (s : State) : Rat := (s.get F.GRID_BEAR_CFG_COAST_V : Rat) / 100

/-- A measurement taken over: the angles and the frequency of this step. -/
def takeMeasured (m : BearMeas) (freq : Nat) (b : Bear) : Bear := { b with theta := m.theta, thetaN := m.thetaN, freq := freq }

/-- The step's state events (R229), in the order of the table. -/
def State.bearEvents (s : State) : State :=
  let b := s.grid.bear
  if s.bearState = bear.seeking then
    if s.lockCondition then
      if b.lockSince.isNone then s.mapBear fun b => { b with lockSince := some s.elapsed } else s
    else s.mapBear fun b => { b with lockSince := none }
  else if s.bearState = bear.locked then
    if b.vpos < s.coastV then s.bearGoto bear.coast
    else if !s.freqInside then (s.raise 113).bearGoto bear.lost
    else s
  else s

/-- The estimator's own prediction of a phase at an instant (R231): its integrator's components advanced to it. -/
def State.bearPredict (s : State) (x h : Nat) : Rat :=
  let g := s.grid.bear.at_ x
  let turn := s.freqHz * s.sinceBear h
  g.d * cosOf turn - g.q * sinOf turn

/-- The inputs of a step on the set `seen` stamped `h` (R226, R227, R231): each phase's value in V, the prediction in place of a MISSING one,
less V0. -/
def State.bearInputs (s : State) (seen : List (Nat × Option Rat)) (h : Nat) : List Rat :=
  let v := (List.range 3).map fun x => match seen.find? fun e => e.1 == x with
    | some (_, some a) => a
    | _ => s.bearPredict x h
  v.map fun a => a - v.sum / 3

/-- The integrators and the frequency-locked loop advanced by one step (R227): the frequency after it, and the state. -/
def State.bearFilter (seen : List (Nat × Option Rat)) (h : Nat) (s : State) : Nat × State :=
  let u := s.bearInputs seen h
  let dt := s.sinceBear h
  let b := s.grid.bear
  let parts := (List.range 3).map fun x => ((b.at_ x).d, (b.at_ x).q, u.getD x 0)
  let freq := Config.fll b.freq parts (s.get F.GRID_BEAR_CFG_FLL_BW) dt
  let step := fun (m : SMap Sogi) (x : Nat) =>
    let p := parts.getD x (0, 0, 0)
    let r := Config.sogi p.1 p.2.1 p.2.2 s.freqHz dt
    Sparse.set (fun _ => {}) m x { d := r.1, q := r.2 }
  (freq, s.mapBear fun b => { b with sogi := (List.range 3).foldl step b.sogi })

/-- One step of the estimator on a result set stamped `h` (R227 to R231). In COAST f, θ and θ- are extrapolated until V+ is back. -/
def State.bearStep (seen : List (Nat × Option Rat)) (h : Nat) (s : State) : State :=
  if s.bearState = bear.off || s.tableau then s
  else
    let r := s.bearFilter seen h
    let s := r.2
    let m := s.bearMeasure
    let lost := s.bearState == bear.lost
    let freq := if lost then 1000 * s.fNom else r.1
    let theta := s.theta h
    let thetaN := s.thetaNeg h
    let s := s.mapBear fun b => { b with
      theta := theta, thetaN := thetaN, stamp := h, vpos := m.vpos, vneg := m.vneg, residual := wrapTurn (m.theta - theta) }
    let coasts := (s.bearState == bear.coast && m.vpos < s.coastV) || (s.bearState == bear.locked && m.vpos < s.coastV)
    let s := s.when (!coasts) fun s => s.mapBear (takeMeasured m freq)
    let s := if lost then s.bearGoto bear.seeking
      else if s.bearState = bear.coast && !coasts then s.bearGoto bear.locked else s
    (s.judgeRotation.bearEvents).showBear m

/-- A VGx result reaches the estimator (R226, R231), in V by the gains of FILTERS: a step is made when every phase has brought one. -/
def State.bearResult (x h : Nat) (v : Option Int) (s : State) : State :=
  if s.bearState = bear.off || s.tableau then s
  else
    let b := s.grid.bear
    let miss := Sparse.get (fun _ => 0) b.missing x
    let miss' := match v with
      | none => if miss < 20 then miss + 1 else miss
      | some _ => 0
    let item := (x, v.map (s.convert x))
    let seen := if b.seen.any fun e => e.1 == x then [item] else item :: b.seen
    let s := s.when v.isNone fun s => s.count F.GRID_INPUT_MISS_COUNT
    let s := s.mapBear fun b => { b with
      missing := Sparse.set (fun _ => 0) b.missing x miss', seen := if seen.length = 3 then [] else seen }
    s.when (seen.length == 3) (State.bearStep seen h)

/-- BEAR_INPUT (R229, R231): 20 consecutive MISSING results of one VGx input. -/
def execBearInput (t : Nat) (phase : Fin 3) (s : State) : Host.Outcome State Fault Refusal :=
  s.run t fun s =>
    if Sparse.get (fun _ => 0) s.grid.bear.missing phase = 20 && !s.tableau && s.bearState != bear.off then
      ((s.mapBear fun b => { b with missing := Sparse.set (fun _ => 0) b.missing phase 21 }).raise 115).bearGoto bear.lost
    else s

/-- BEARING_LOCK (R229). -/
def execBearingLock (t : Nat) (s : State) : Host.Outcome State Fault Refusal :=
  s.run t fun s =>
    if s.bearState = bear.seeking && s.due s.grid.bear.lockSince (s.get F.GRID_BEAR_CFG_LOCK_TIME * 1000000) && !s.tableau then
      s.bearGoto bear.locked
    else s

/-- COAST_EXPIRY (R229). -/
def execCoastExpiry (t : Nat) (s : State) : Host.Outcome State Fault Refusal :=
  s.run t fun s =>
    if s.bearState = bear.coast && s.due s.grid.bear.coastSince (s.get F.GRID_BEAR_CFG_COAST_MAX * 100000000) && !s.tableau then
      (s.raise 113).bearGoto bear.lost
    else s

/-! POWER_SET (R232, R233) -/

/-- POWER_SET (R232, R233, R251): the set-points are stored at once; the command completes at the tick at which they enter reference
synthesis. -/
def execPowerSet (t : Nat) (d : Desc) (s : State) : Host.Outcome State Fault Refusal :=
  s.run t fun s =>
    let p := signed 32 d.p0.toNat
    let q := signed 16 (bitsOf d.p1.toNat 0 16)
    let nom : Int := s.get F.GRID_NOM_P_NOM
    s.checked d
      [(d.target ≠ 0, st.targetRange, 0), (d.len ≠ 0, st.lenRange, 0), (p < -nom || nom < p, st.targetRange, 0x10),
       (q < -nom || nom < q, st.targetRange, 0x11), (2 ^ 17 ≤ d.p1.toNat, st.targetRange, 0x12)]
      fun s => s.mapGrid fun g => { g with pSet := p, qSet := q, qSrc := d.p1.getLsbD 16, setWait := g.setWait ++ [d] }

/-! Contours (R242 to R248) -/

/-- A band of a contour table: LO, HI, REGION, AFTER, MAX_DUR. -/
structure Band where
  lo : Nat
  hi : Nat
  region : Nat
  after : Nat
  maxDur : Nat

def State.bandsIn (s : State) (id : Nat) : Nat := s.tbl8 id 1

/-- Band `i` of a contour table (R244). -/
def State.bandAt (s : State) (id i : Nat) : Band :=
  let o := 0x20 + 16 * i
  { lo := s.tbl16 id o, hi := s.tbl16 id (o + 2), region := s.tbl8 id (o + 4), after := s.tbl8 id (o + 5)
    maxDur := s.tbl32 id (o + 8) }

/-- Index of the normal band (R246). -/
def State.normalBand (s : State) (id : Nat) : Nat :=
  ((List.range (s.bandsIn id)).find? fun i => (s.bandAt id i).region == region.continuous).getD 0

/-- Level `v` belongs to band `i` (R246). -/
def State.inBand (s : State) (id v i : Nat) : Bool :=
  let n := s.normalBand id
  let b := s.bandAt id i
  if i = n then b.lo ≤ v && v ≤ b.hi
  else if i < n then b.lo ≤ v && v < b.hi
  else b.lo < v && v ≤ b.hi

/-- The band a level belongs to (R246). -/
def State.bandOfLevel (s : State) (id v : Nat) : Nat :=
  ((List.range (s.bandsIn id)).find? (s.inBand id v)).getD (s.normalBand id)

/-- Trip point `j` holds its condition (R246), given the under-side and the over-side level. -/
def State.tripHolds (s : State) (id lo hi j : Nat) : Bool :=
  let o := 0x120 + 16 * j
  let thr := s.tbl16 id o
  if s.tbl8 id (o + 2) = 0 then lo < thr else thr < hi

/-- The timer of trip point `j` after a tick at which its condition holds or not (R247). -/
def sinceNow (now : Nat) (holds : Bool) (since : Option Nat) : Option Nat :=
  if holds then some (since.getD now) else none

/-- One trip point of R247: its timer, and TRIP where its condition has held for CLEAR. -/
def State.tripStep (s : State) (id lo hi now : Nat) (c : Contour) (j : Nat) : Contour :=
  let since := sinceNow now (s.tripHolds id lo hi j) (Sparse.get (fun _ => none) c.since j)
  let c := { c with since := Sparse.set (fun _ => none) c.since j since }
  match since with
  | none => c
  | some t0 =>
    if t0 + s.tbl32 id (0x120 + 16 * j + 4) ≤ now then
      { c with region := region.trip, cause := some (c.cause.getD j) }
    else c

/-- A band of R247: its REGION, or AFTER once MAX_DUR has expired. -/
def State.bandStep (s : State) (id now : Nat) (c : Contour) (i : Nat) : Contour :=
  let b := s.bandAt id i
  let expired : Bool := match c.dist with
    | none => false
    | some t0 => b.maxDur ≠ 0xFFFFFFFF && t0 + b.maxDur ≤ now
  let r := if expired then b.after else b.region
  { c with region := max c.region r
           cause := if r = region.trip && c.cause.isNone then some (16 + i) else c.cause }

/-- One table evaluated at tick `now` (R247). -/
def State.contourStep (s : State) (id lo hi now : Nat) (c : Contour) : Contour :=
  let bl := s.bandOfLevel id lo
  let bh := s.bandOfLevel id hi
  let n := s.normalBand id
  let dist := if bl = n && bh = n then none else some (c.dist.getD now)
  let c := { c with dist := dist, region := region.continuous, cause := none }
  let c := (List.range (s.tbl8 id 2)).foldl (s.tripStep id lo hi now) c
  [bl, bh].foldl (s.bandStep id now) c

/-- The levels judged (R242): VMIN, VMAX, f. -/
def State.levels (s : State) : Nat × Nat × Nat :=
  (s.get F.GRID_VLEVEL_VMIN, s.get F.GRID_VLEVEL_VMAX, min 65535 s.grid.bear.freq)

/-- Both tables after tick `now`; a table that is not valid, or RT_EN at 0, leaves CONTINUOUS and no timer (R248). -/
def State.contoursAt (s : State) (now : Nat) : Contour × Contour :=
  let (lo, hi, f) := s.levels
  let en := s.bit F.GRID_CTRL_RT_EN
  (if en && s.tableOk tid.contourV then s.contourStep tid.contourV lo hi now s.grid.cv else {},
   if en && s.tableOk tid.contourF then s.contourStep tid.contourF f f now s.grid.cf else {})

/-- An accepted load of a contour table restarts its evaluation (R252). -/
def State.restartContour (id : Nat) (s : State) : State :=
  s.mapGrid fun g => if id = tid.contourV then { g with cv := {} } else { g with cf := {} }

/-! Regions, cessation and restore (R248 to R251) -/

/-- The region acts as CESSATION (R248, R251), TRIP apart. -/
def State.actsCessation (s : State) (r : Nat) : Bool :=
  r == region.cessation || (r == region.permissive && s.bit F.GRID_CTRL_PERM_CEASE)

/-- The mean of a history. -/
def meanRat (l : List Rat) : Rat := if l.isEmpty then 0 else l.sum / l.length

/-- What a change of the cessation flag means to the current engine (R251, spec/06 R287, R296, R299). -/
def State.passCessation (was : Bool) (s : State) : State :=
  let now := s.ceased
  s.mapEngine fun e => { e with
    cessAt := if was && !now then some s.elapsed else e.cessAt
    rampZero := e.rampZero || (now && !was && s.engState == eng.ramping)
    winBad := e.winBad || now }

/-- CESSATION is entered or left (R251): counted and raised, and after the exit the restore begins; the engine is told. `acted` and `was` say
how the region acted before and whether the flag was set. -/
def State.cessationEdge (acted was : Bool) (s : State) : State :=
  let acts := s.actsCessation s.region
  let s := s.when (acts && !acted) fun s =>
    ((s.count F.GRID_CESS_COUNT_COUNT).raise 117).mapGrid fun g => { g with restore := .none }
  let s := s.when (acted && !acts) fun s =>
    (s.raise 118).mapGrid fun g => { g with restore := if s.region = region.trip then .none else .hold g.ticks }
  s.passCessation was

/-- The combined region changes (R248, R249, R251). -/
def State.takeRegion (new : Nat) (s : State) : State :=
  let old := s.region
  let was := s.ceased
  let acted := s.actsCessation old
  let s := s.when (old != new) fun s => (s.set F.GRID_STATUS_REGION new).raise 116
  let s := s.when (old == region.continuous && new != region.continuous && s.grid.frozen.isNone) fun s =>
    s.mapGrid fun g => { g with frozen := some (g.amps, meanRat g.vHist.tail) }
  let s := s.when (new == region.trip) fun s => s.mapGrid fun g => { g with restore := .none }
  let s := s.when (old != region.continuous && new == region.continuous) fun s =>
    { s with pwr := { s.pwr with contSince := some s.elapsed } }
  s.cessationEdge acted was

/-- Ticks of RESTORE_DELAY and of RESTORE_RAMP. -/
def State.restoreDelay (s : State) : Nat := 10 * s.tbl16 tid.contourV 0xA
def State.restoreRamp (s : State) : Nat := 10 * s.tbl16 tid.contourV 0xC

/-- The restore as it stands at tick `now` (R251). -/
def State.restoreAt (s : State) (now : Nat) : Restore :=
  match s.grid.restore with
  | .none => .none
  | .hold t0 =>
    if t0 + s.restoreDelay ≤ now then
      if t0 + s.restoreDelay + s.restoreRamp ≤ now then .none else .ramp (t0 + s.restoreDelay)
    else .hold t0
  | .ramp t0 => if t0 + s.restoreRamp ≤ now then .none else .ramp t0

/-! Set-points to references (R234 to R240, R719) -/

/-- Linear interpolation over points in ascending order (R236). -/
def interpolate (x : Rat) : List (Rat × Rat) → Rat
  | [] => 0
  | [p] => p.2
  | p :: q :: rest =>
    if x ≤ p.1 then p.2
    else if x < q.1 then p.2 + (q.2 - p.2) * (x - p.1) / (q.1 - p.1)
    else interpolate x (q :: rest)

/-- The points of VAR_CURVE at an offset: input and Q in pu. -/
def State.varPoints (s : State) (off n : Nat) (signedIn : Bool) : List (Rat × Rat) :=
  (List.range n).map fun i =>
    let o := off + 4 * i
    let x : Int := if signedIn then s.tblS16 tid.varCurve o else s.tbl16 tid.varCurve o
    ((x : Rat) / 10000, (s.tblS16 tid.varCurve (o + 2) : Rat) / 10000)

/-- Q_tgt in var (R235, R236, R719). -/
def State.qTarget (s : State) : Rat :=
  let set : Rat := 1000 * s.grid.qSet
  if s.grid.qSrc then set
  else if !s.tableOk tid.varCurve then 0
  else
    let pf : Rat := (s.tblS16 tid.varCurve 4 : Rat) / 10000
    let a := if pf < 0 then -pf else pf
    let mode := s.tbl8 tid.varCurve 0
    let q := if mode = 0 then 0
      else if mode = 1 then set
      else if mode = 2 then
        let m := |s.grid.pRef| * sqrtOf (1 - a ^ 2) / a
        if pf < 0 then -m else m
      else if mode = 3 then s.pNom * interpolate s.grid.bear.vpos (s.varPoints 0x10 (s.tbl8 tid.varCurve 1) false)
      else s.pNom * interpolate (s.grid.pRef / s.pNom) (s.varPoints 0x30 (s.tbl8 tid.varCurve 2) true)
    clampRat ((s.tbl16 tid.varCurve 8 : Rat) / 10000 * s.pNom) q

/-- TAU in s (R236, R719). -/
def State.varTau (s : State) : Rat := if s.tableOk tid.varCurve then (s.tbl16 tid.varCurve 6 : Rat) / 1000 else 1

/-- F_NOM less or plus a dead band of CONTOUR_F, in mHz. -/
def State.ofLevel (s : State) : Nat := 1000 * s.fNom + s.tbl16 tid.contourF 0x10
def State.ufLevel (s : State) : Nat := 1000 * s.fNom - s.tbl16 tid.contourF 0x12

/-- The frequency lies above the over-frequency dead band (R237). -/
def State.overFreq (s : State) : Bool := s.tableOk tid.contourF && s.ofLevel < s.grid.bear.freq

/-- The over-frequency limit on P_dem in W (R237). -/
def State.ofLimit (s : State) : Option Rat :=
  if s.overFreq then
    s.grid.pPre.map fun p =>
      p - ((s.grid.bear.freq - s.ofLevel : Nat) : Rat) / 1000 / (s.fNom * ((s.tbl16 tid.contourF 0x14 : Rat) / 1000)) * s.pNom
  else none

/-- The under-frequency increase asked for in W (R237). -/
def State.ufIncrease (s : State) : Rat :=
  if s.tableOk tid.contourF && s.grid.bear.freq < s.ufLevel then
    ((s.ufLevel - s.grid.bear.freq : Nat) : Rat) / 1000 / (s.fNom * ((s.tbl16 tid.contourF 0x16 : Rat) / 1000)) * s.pNom
  else 0

/-- P_ref after a tick's ramp towards P_dem (R234), and at most the limit of R237. -/
def rampTo (ref dem up down : Rat) (limit : Option Rat) : Rat :=
  let r := if ref < dem then min dem (ref + up) else max dem (ref - down)
  match limit with
  | none => r
  | some l => min r l

/-- P_dem, P_ref and Q_ref of a tick (R234 to R237). -/
def State.powerRefs (s : State) : State :=
  let high := s.overFreq
  let s := s.mapGrid fun g => { g with pPre := if high then some (g.pPre.getD g.pRef) else none }
  let limit := s.ofLimit
  let s := s.planDemand s.ufIncrease limit
  let free := s.region == region.continuous && s.grid.restore == Restore.none
  let step := fun (f : FieldRef) => (s.get f : Rat) / 1000 * s.pNom / 10000
  let p := if free then rampTo s.grid.pRef s.pwr.pDem (step F.GRID_RAMP_P_UP) (step F.GRID_RAMP_P_DOWN) limit else s.grid.pRef
  let s := s.mapGrid fun g => { g with pRef := p }
  let q := s.grid.qRef + Config.lag (1 / 10000 / s.varTau) * (s.qTarget - s.grid.qRef)
  let s := s.mapGrid fun g => { g with qRef := q }
  (s.setSat F.GRID_PQ_REF_PREF (roundAway (p / 1000))).setSat F.GRID_PQ_REF_QREF (roundAway (q / 1000))

/-- A value brought down to a magnitude, its sign kept. -/
def shrink (x m : Rat) : Rat := if x < 0 then -(min (-x) (max 0 m)) else min x (max 0 m)

/-- What is left for one of two orthogonal terms beside the other within `m`. -/
def besides (m other : Rat) : Rat := if m < 0 || m ^ 2 ≤ other ^ 2 then 0 else sqrtOf (m ^ 2 - other ^ 2)

/-- The sum of R240 exceeds the limit. -/
def overLimit (lim : Rat) (a : Amps) : Bool :=
  let m := lim - |a.n| - a.sig
  m < 0 || m ^ 2 < a.p ^ 2 + a.q ^ 2

/-- The reductions of R240 in their order, each only as far as needed. -/
def limitAmps (lim : Rat) (mandatory prio : Bool) (a : Amps) : Amps :=
  let cutP := fun (a : Amps) => if overLimit lim a then { a with p := shrink a.p (besides (lim - |a.n| - a.sig) a.q) } else a
  let cutQ := fun (a : Amps) => if overLimit lim a then { a with q := shrink a.q (besides (lim - |a.n| - a.sig) a.p) } else a
  let cutN := fun (a : Amps) => if overLimit lim a then
    { a with n := shrink a.n (lim - a.sig - sqrtOf (a.p ^ 2 + a.q ^ 2)) } else a
  if mandatory then cutQ (cutN (cutP a)) else if prio then cutQ (cutP a) else cutP (cutQ a)

/-- The amplitudes of CONTINUOUS (R238); where V+ is 0 the quotient of a power other than 0 is a free value. -/
def State.normalAmps (s : State) : Amps :=
  let v := s.grid.bear.vpos * s.vBase
  if v = 0 then
    { p := if s.grid.pRef = 0 then 0 else Config.noVoltage s.free 0
      q := if s.grid.qRef = 0 then 0 else Config.noVoltage s.free 1 }
  else { p := 2 * s.grid.pRef / (3 * sqrt2 * v), q := 2 * s.grid.qRef / (3 * sqrt2 * v) }

/-- The dynamic reactive current of R249. -/
def State.dynamicQ (s : State) (vPre : Rat) : Rat :=
  let dv := vPre - s.grid.bear.vpos
  let db : Rat := (s.tbl16 tid.contourV 0x14 : Rat) / 10000
  let k : Rat := (s.tbl16 tid.contourV 0x10 : Rat) / 100
  if db < dv then k * (dv - db) * sqrt2 * s.iBase
  else if dv < -db then k * (dv + db) * sqrt2 * s.iBase
  else 0

/-- The negative-sequence current of R250, while the region acts as MANDATORY. -/
def State.negativeAmp (s : State) : Rat :=
  if s.actsMandatory s.region then (s.tbl16 tid.contourV 0x12 : Rat) / 100 * s.grid.bear.vneg * sqrt2 * s.iBase else 0

/-- The amplitudes of a tick before the limit (R238, R249 to R251, R268). -/
def State.wantedAmps (s : State) : Amps :=
  let now := s.grid.ticks
  let frozen := s.grid.frozen.getD (s.grid.amps, s.grid.bear.vpos)
  if s.ceased || s.grid.waitLock then {}
  else match s.grid.restore with
    | .hold _ => {}
    | .ramp t0 =>
      let part : Rat := ((now - t0 : Nat) : Rat) / (s.restoreRamp : Nat)
      { p := part * frozen.1.p, q := part * frozen.1.q, n := s.negativeAmp }
    | .none =>
      if s.actsMandatory s.region then
        { p := frozen.1.p, q := frozen.1.q + s.dynamicQ frozen.2, n := s.negativeAmp }
      else s.normalAmps

/-- The amplitudes of a tick (R238 to R241, R249 to R251). -/
def State.formAmps (s : State) : State :=
  let a := { s.wantedAmps with sig := if s.grid.injecting then 2 * s.tonePeak else 0 }
  let s := s.nextFree
  let lim := sqrt2 * ((s.get F.GRID_ILIM_I_MAX : Rat) / 1000) * s.iBase
  let acts := overLimit lim a
  let was := s.bit F.GRID_STATUS_ILIM
  let s := (s.setBit F.GRID_STATUS_ILIM acts).when (acts && !was) fun s => s.raise 124
  let done := s.region == region.continuous && s.grid.restore == Restore.none
  s.mapGrid fun g => { g with
    amps := limitAmps lim (s.actsMandatory s.region) (s.bit F.GRID_ILIM_PRIO) a
    frozen := if done then none else g.frozen }

/-! Passive checks (R227, R253) -/

/-- ROCOF in mHz/s over the window of R227; 0 until a window's history is held. -/
def State.rocof (s : State) : Int :=
  let n := 100 * s.get F.GRID_PASSIVE_ROCOF_WIN
  match s.grid.fHist.head?, s.grid.fHist[n]? with
  | some f, some f0 => roundAway ((((f : Int) - (f0 : Int) : Int) : Rat) * 10000 / (n : Nat))
  | _, _ => 0

/-- The angle residual has changed by more than JUMP within one nominal cycle (R253). -/
def State.jumped (s : State) : Bool :=
  let lim : Rat := (s.get F.GRID_PASSIVE_JUMP : Rat) / 3600
  match s.grid.rHist with
  | [] => false
  | r :: rest => (rest.take (10000 / s.fNom)).any fun r0 =>
      let d := wrapTurn (r - r0)
      lim < d || d < -lim

/-- A passive check holds (R253). -/
def State.suspectNow (s : State) : Bool :=
  s.bearState != bear.off && ((10 * s.get F.GRID_PASSIVE_ROCOF_LIM : Int) < |s.rocof| || s.jumped)

/-- The histories of a tick, ROCOF, and suspicion (R227, R249, R253). -/
def State.passive (s : State) : State :=
  let s := s.mapGrid fun g => { g with
    fHist := (g.bear.freq :: g.fHist).take 5001, vHist := (g.bear.vpos :: g.vHist).take 10001
    rHist := (g.bear.residual :: g.rHist).take 201 }
  let s := s.setSat F.GRID_ROCOF_ROCOF s.rocof
  if s.suspectNow then
    let was := s.bit F.GRID_STATUS_SUSPECT
    let s := (s.mapGrid fun g => { g with suspectAt := s.elapsed }).setBit F.GRID_STATUS_SUSPECT true
    if was then s else (s.raise 120).when (s.bit F.GRID_CTRL_PASSIVE_TRIP) (State.verdict 3 0)
  else s

/-- SUSPECT_CLEAR (R253). -/
def execSuspectClear (t : Nat) (s : State) : Host.Outcome State Fault Refusal :=
  s.run t fun s =>
    if s.bit F.GRID_STATUS_SUSPECT && s.expired s.grid.suspectAt second && !s.tableau then
      s.setBit F.GRID_STATUS_SUSPECT false
    else s

/-! The evaluation tick (R243) -/

/-- The ride-through verdict of one table: formed when its region becomes TRIP, or stays there with its bit clear (R264). -/
def State.tripVerdict (v was : Nat) (c : Contour) (s : State) : State :=
  s.when (c.region == region.trip && (was != region.trip || !(s.verdictBits.testBit v))) (State.verdict v (c.cause.getD 0))

/-- How long a table's disturbance has lasted, in ticks; 0 without one (R248). -/
def State.disturbedFor (s : State) (c : Contour) : Nat :=
  match c.dist with
  | none => 0
  | some t0 => s.grid.ticks - t0

/-- Both tables evaluated, and the combined region taken (R247, R248, R264). -/
def State.judgeContours (s : State) : State :=
  let was := (s.grid.cv.region, s.grid.cf.region)
  let c := s.contoursAt s.grid.ticks
  let s := s.mapGrid fun g => { g with cv := c.1, cf := c.2 }
  let s := s.setTop F.GRID_DIST_V_TIME (s.disturbedFor c.1)
  let s := s.setTop F.GRID_DIST_F_TIME (s.disturbedFor c.2)
  let s := s.takeRegion (max c.1.region c.2.region)
  (s.tripVerdict 0 was.1 c.1).tripVerdict 1 was.2 c.2

/-- The signature is injected (R256); not while the references are held at 0 (R251, R268), nor before parameters are in use. -/
def State.injectNow (s : State) : Bool :=
  let held := match s.grid.restore with
    | .hold _ => true
    | _ => false
  s.curtain == 3 && s.bit F.GRID_CTRL_ISL_EN && s.bit F.GRID_CTRL_SIG_EN && s.sigOk &&
    (s.region == region.continuous || s.actsMandatory s.region) && !s.grid.waitLock && !held && s.sigParam.seed != 0

/-- Injection starts or stops (R256): once it stops the active estimate starts again from nothing. -/
def State.judgeInject (s : State) : State :=
  let on := s.injectNow
  s.mapGrid fun g => { g with
    injecting := on, run := if on then g.run else [], chipWhole := g.chipWhole && on }

/-- A level lies inside a table's enter window. -/
def State.insideEnter (s : State) (id v : Nat) : Bool := s.tbl16 id 4 ≤ v && v ≤ s.tbl16 id 6

/-- The enter windows judged at a tick (R266). -/
def State.judgeEnter (s : State) : State :=
  let (lo, hi, f) := s.levels
  let ok := s.contoursOk && s.insideEnter tid.contourV lo && s.insideEnter tid.contourV hi && s.insideEnter tid.contourF f
  s.mapGrid fun g => { g with enterSince := if ok then some (g.enterSince.getD g.ticks) else none }

/-- An evaluation tick falls now (R243); none falls in tableau (R268). -/
def State.tickDue (s : State) : Bool := s.grid.nextTick ≤ s.elapsed && !s.tableau

/-- The POWER_SET commands whose values enter reference synthesis now complete (R233). -/
def State.setsDone (s : State) : State :=
  (s.mapGrid fun g => { g with setWait := [] }).each s.grid.setWait fun d s => s.finish d

/-- Everything an evaluation tick does (R233, R234 to R256, R264, R266, spec/08, spec/09 R381). -/
def State.evaluationTick (s : State) : State :=
  let s := s.mapGrid fun g => { g with ticks := g.ticks + 1, nextTick := g.nextTick + 100000 }
  let s := { s with pwr := { s.pwr with mpWait := none } }
  let s := s.bearEnable.passive.judgeContours
  let s := s.mapGrid fun g => { g with restore := s.restoreAt g.ticks }
  let prev := s.grid.amps
  let s := s.judgeInject.setsDone.powerRefs.formAmps
  (s.judgeEnter.judgePermit.cellPowerTick prev).meterTick

/-- EVALUATION_TICK (R243). -/
def execEvaluationTick (t : Nat) (s : State) : Host.Outcome State Fault Refusal :=
  s.run t fun s => s.when s.tickDue State.evaluationTick

/-- A trip point of a table has held its condition for CLEAR at the tick that falls now (R247). -/
def State.clearReached (s : State) (id lo hi : Nat) (c : Contour) : Bool :=
  s.tableOk id && (List.range (s.tbl8 id 2)).any fun j =>
    s.tripHolds id lo hi j &&
      match Sparse.get (fun _ => none) c.since j with
      | none => false
      | some t0 => t0 + s.tbl32 id (0x120 + 16 * j + 4) ≤ s.grid.ticks + 1

/-- CLEAR_EXPIRY (R247): the tick at which a trip point's condition has held for CLEAR. -/
def execClearExpiry (t : Nat) (s : State) : Host.Outcome State Fault Refusal :=
  s.run t fun s =>
    let (lo, hi, f) := s.levels
    let reached := s.clearReached tid.contourV lo hi s.grid.cv || s.clearReached tid.contourF f f s.grid.cf
    s.when (s.tickDue && s.bit F.GRID_CTRL_RT_EN && reached) State.evaluationTick

/-- A disturbance of a table has lasted the MAX_DUR of a band its level lies in, at the tick that falls now (R247). -/
def State.durReached (s : State) (id lo hi : Nat) (c : Contour) : Bool :=
  s.tableOk id &&
    match c.dist with
    | none => false
    | some t0 => [s.bandOfLevel id lo, s.bandOfLevel id hi].any fun i =>
        let b := s.bandAt id i
        b.maxDur ≠ 0xFFFFFFFF && t0 + b.maxDur ≤ s.grid.ticks + 1

/-- MAX_DUR_EXPIRY (R247): the tick at which a disturbance has lasted a band's MAX_DUR. -/
def execMaxDurExpiry (t : Nat) (s : State) : Host.Outcome State Fault Refusal :=
  s.run t fun s =>
    let (lo, hi, f) := s.levels
    let reached := s.durReached tid.contourV lo hi s.grid.cv || s.durReached tid.contourF f f s.grid.cf
    s.when (s.tickDue && s.bit F.GRID_CTRL_RT_EN && reached) State.evaluationTick

/-- ENTER_SERVICE_DELAY (R266): the tick at which the levels have stayed inside the enter windows for ENTER_DELAY. -/
def execEnterServiceDelay (t : Nat) (s : State) : Host.Outcome State Fault Refusal :=
  s.run t fun s =>
    match s.grid.enterSince with
    | none => s
    | some t0 => s.when (s.tickDue && t0 + s.tbl16 tid.contourV 8 * 10000 ≤ s.grid.ticks + 1) State.evaluationTick

/-- RESTORE_DELAY_EXPIRY (R251): the tick at which RESTORE_DELAY ends. -/
def execRestoreDelayExpiry (t : Nat) (s : State) : Host.Outcome State Fault Refusal :=
  s.run t fun s =>
    match s.grid.restore with
    | .hold t0 => s.when (s.tickDue && t0 + s.restoreDelay ≤ s.grid.ticks + 1) State.evaluationTick
    | _ => s

/-- RESTORE_RAMP_END (R251): the tick at which the restore ramp is complete. -/
def execRestoreRampEnd (t : Nat) (s : State) : Host.Outcome State Fault Refusal :=
  s.run t fun s =>
    match s.grid.restore with
    | .ramp t0 => s.when (s.tickDue && t0 + s.restoreRamp ≤ s.grid.ticks + 1) State.evaluationTick
    | _ => s

/-! The plant signature (R254 to R260) -/

/-- Nanoseconds of a sequence. -/
abbrev sequenceLength : Nat := 25500000000

/-- The parameters in the device's own table. -/
def State.tableParam (s : State) : SigParam :=
  { seed := s.tbl8 tid.signature 1, toneA := s.tbl8 tid.signature 2, toneB := s.tbl8 tid.signature 3 }

/-- A loaded SIGNATURE table: its parameters apply from the first sequence start at least 2 s later (R258). -/
def State.signatureLoaded (s : State) : State :=
  s.mapGrid fun g => { g with
    tabNext := some (s.tableParam, (s.datum + 2 * second + sequenceLength - 1) / sequenceLength * sequenceLength) }

/-- Parameters whose APPLY_AT has come are used (R258, R259). -/
def State.applyParam (s : State) : State :=
  let take := fun (old : SigParam) (x : Option (SigParam × Nat)) => match x with
    | none => old
    | some (p, at_) => if at_ ≤ s.datum then p else old
  s.mapGrid fun g => { g with own := take g.own g.next, tabSig := take g.tabSig g.tabNext }

/-- The payload of the SIGNATURE message (R258). -/
def State.signatureBytes (s : State) : List Byte :=
  let p := s.grid.tabSig
  let at_ := match s.grid.tabNext with
    | none => 0
    | some x => x.2
  [1, BitVec.ofNat 8 p.seed, BitVec.ofNat 8 p.toneA, BitVec.ofNat 8 p.toneB] ++
    leBytes 1 (if s.bit F.GRID_CTRL_ISL_EN && s.bit F.GRID_CTRL_SIG_EN then 1 else 0) ++ leBytes 3 0 ++ leBytes 8 at_ ++
    leBytes 2 (s.get F.DATUM_MER_CTRL_ADDR) ++ leBytes 22 0

/-- A SIGNATURE message at a follower (R259): ignored and counted where a field is outside R257. -/
def State.gotSignature (payload : List Byte) (s : State) : State :=
  let b := fun i => (payload.getD i 0).toNat
  let s := s.mapGrid fun g => { g with sigSeen := some s.datum }
  let toneOk := fun x => 5 ≤ x && x ≤ 250 && !s.toneBad x
  if payload.length = 40 && b 0 = 1 && b 1 ≠ 0 && toneOk (b 2) && toneOk (b 3) && b 2 ≠ b 3 then
    (s.mapGrid fun g => { g with
      sigRx := true
      next := some ({ seed := b 1, toneA := b 2, toneB := b 3 }, ofLe ((payload.drop 8).take 8)) }).applyParam
  else s.count F.GRID_SIG_MISS_COUNT

/-- SIGNATURE_MISS (R259): at a datum second's end a follower has had no SIGNATURE message in it. -/
def execSignatureMiss (t : Nat) (s : State) : Host.Outcome State Fault Refusal :=
  s.run t fun s =>
    let came : Bool := match s.grid.sigSeen with
      | none => false
      | some x => s.datum ≤ x + second
    if s.bit F.DATUM_MER_CTRL_ROLE && s.datum % second = 0 && !came then s.count F.GRID_SIG_MISS_COUNT else s

/-- Solo mode judged at a sequence start (R260). -/
def State.judgeSolo (s : State) : State :=
  let was := s.bit F.GRID_STATUS_SOLO
  let solo := !s.bit F.DATUM_STATUS_DOMAIN_OK || (s.bit F.DATUM_MER_CTRL_ROLE && !s.grid.sigRx)
  (s.setBit F.GRID_STATUS_SOLO solo).when (solo && !was) fun s => s.raise 122

/-! The impedance estimate (R261) -/

/-- A result of VGx or IGx demodulated at both tones of its chip (R261); a MISSING one leaves its phase out of the chip. -/
def State.demodResult (x h : Nat) (volts : Bool) (v : Option Int) (s : State) : State :=
  if !s.grid.injecting || h / chipLength ≠ s.datum / chipLength || s.tableau then s
  else match v with
    | none => s.mapGrid fun g => { g with missPhase := if g.missPhase.contains x then g.missPhase else x :: g.missPhase }
    | some a =>
      let y := s.convert (if volts then x else 3 + x) a
      let tau : Rat := (h % chipLength : Nat) / 1000000000
      let p := s.sigParam
      s.each [(0, p.toneA), (1, p.toneB)] fun mt s =>
        let k := 2 * x + mt.1
        let d := Sparse.get (fun _ => ({} : Demod)) s.grid.demod k
        let re := y * cosOf (10 * mt.2 * tau)
        let im := -(y * sinOf (10 * mt.2 * tau))
        let d := if volts then { d with vr := d.vr + re, vi := d.vi + im, nv := d.nv + 1 }
          else { d with ir := d.ir + re, ii := d.ii + im, ni := d.ni + 1 }
        s.mapGrid fun g => { g with demod := Sparse.set (fun _ => {}) g.demod k d }

/-- A phasor as real and imaginary part. -/
abbrev Phasor := Rat × Rat

def Phasor.add (a b : Phasor) : Phasor := (a.1 + b.1, a.2 + b.2)
def Phasor.scale (c : Rat) (a : Phasor) : Phasor := (c * a.1, c * a.2)

/-- The voltage and current phasors of a phase and tone over a chip, before V0 is removed. -/
def Demod.volts (d : Demod) : Phasor := if d.nv = 0 then (0, 0) else Phasor.scale (1 / (d.nv : Nat)) (d.vr, d.vi)
def Demod.amps (d : Demod) : Phasor := if d.ni = 0 then (0, 0) else Phasor.scale (1 / (d.ni : Nat)) (d.ir, d.ii)

/-- The phasors of the phases that count in the chip, V0 removed: phase times 2 plus tone, voltage, current (R261). -/
def State.chipPhasors (s : State) : List (Nat × Phasor × Phasor) :=
  let d := fun x m => Sparse.get (fun _ => ({} : Demod)) s.grid.demod (2 * x + m)
  ((List.range 3).filter fun x => !s.grid.missPhase.contains x && (d x 0).nv ≠ 0 && (d x 0).ni ≠ 0).flatMap fun x =>
    (List.range 2).map fun m =>
      let v0 := Phasor.scale (1 / 3) (Phasor.add (d 0 m).volts (Phasor.add (d 1 m).volts (d 2 m).volts))
      (2 * x + m, Phasor.add (d x m).volts (Phasor.scale (-1) v0), (d x m).amps)

/-- The mean of |V / (S I)| over phasor pairs; a pair without current is a free value. -/
def meanImpedance (free : Nat) (scale : Rat) (l : List (Nat × Phasor × Phasor)) : Rat :=
  let z := l.map fun e =>
    if e.2.2 = (0, 0) then Config.noCurrent free e.1
    else magnitude e.2.1.1 e.2.1.2 / (scale * magnitude e.2.2.1 e.2.2.2)
  z.sum / l.length

/-- The sums of c_j V and c_j I over a run, for the phases and tones that occur in it. -/
def runSums (run : List Chip) : List (Nat × Phasor × Phasor) :=
  (List.range 6).filterMap fun k =>
    let parts := run.flatMap fun c => (c.phasors.filter fun e => e.1 == k).map fun e => (c.sign, e.2)
    if parts.isEmpty then none
    else
      let sum := fun (f : Demod → Phasor) => parts.foldl (fun acc e => Phasor.add acc (Phasor.scale e.1 (f e.2))) (0, 0)
      some (k, sum fun d => (d.vr, d.vi), sum fun d => (d.ir, d.ii))

/-- PLANT_SCALE; 1 in solo mode (R260). -/
def State.plantScale (s : State) : Rat := if s.bit F.GRID_STATUS_SOLO then 1 else (s.tbl16 tid.signature 8 : Rat) / 256

/-- Standard deviation of z over a run, over the root of its length. -/
def runSigma (run : List Chip) : Rat :=
  let n : Rat := run.length
  let mean := (run.map Chip.z).sum / n
  sqrtOf ((run.map fun c => (c.z - mean) ^ 2).sum / n) / sqrtOf n

/-- The run judged (R261). -/
def State.judgeRun (s : State) : State :=
  let run := s.grid.run
  let n := run.length
  if s.tbl8 tid.signature 5 ≤ n || (s.bit F.GRID_STATUS_SUSPECT && 2 ≤ n) then
    let z := meanImpedance s.free s.plantScale (runSums run)
    let s := s.nextFree.setTop F.GRID_ISL_Z (roundAway (100 * z)).toNat
    let trip : Rat := (s.tbl16 tid.signature 0xA : Rat) / 100
    let margin := (s.tbl8 tid.signature 7 : Rat) / 10 * runSigma run
    let clear := fun (s : State) => s.mapGrid fun g => { g with run := [] }
    if trip < z && margin < z - trip then s.verdict 2 0
    else if z ≤ trip && margin < trip - z then clear s
    else if s.tbl8 tid.signature 6 ≤ n then if trip < z then s.verdict 2 0 else clear s
    else s
  else s

/-- The chip that ends is added to the run and judged (R261). -/
def State.addChip (s : State) : State :=
  let ph := s.chipPhasors
  if !s.grid.chipWhole || ph.isEmpty then s
  else
    let z := meanImpedance s.free s.plantScale ph
    let c : Chip := { sign := chipSign s.sigParam.seed (s.datum - 1), z := z
                      phasors := ph.map fun e => (e.1, { vr := e.2.1.1, vi := e.2.1.2, ir := e.2.2.1, ii := e.2.2.2 }) }
    (s.nextFree.mapGrid fun g => { g with run := g.run ++ [c] }).judgeRun

/-- CHIP_END (R254, R258 to R261): the chip is judged, the next one begins; at a sequence start solo mode and new parameters. -/
def execChipEnd (t : Nat) (s : State) : Host.Outcome State Fault Refusal :=
  s.run t fun s =>
    if s.datum % chipLength ≠ 0 || s.tableau then s
    else
      let s := s.addChip
      let s := (s.set F.GRID_ISL_CHIPS s.grid.run.length).set F.GRID_ISL_INDEX (s.datum / chipLength % 255)
      let s := s.when (s.datum % sequenceLength == 0) State.judgeSolo
      let s := s.applyParam
      s.mapGrid fun g => { g with demod := [], missPhase := [], chipWhole := g.injecting }

/-! Register writes and tableau (R253, R265, R268, R272) -/

/-- ROCOF_RT of CONTOUR_F in its unit, and the limit: a passive trip would lie inside the ride-through range (R253). -/
def State.passiveClash (s : State) (trip : Bool) (lim : Nat) : Bool := trip && lim < s.tbl16 tid.contourF 0x18

/-- R253, R265 or R272 refuses a write to a register of the block whose field values are in range. -/
def State.gridWriteRefused (s : State) (addr : Nat) (data : Word) : Bool :=
  let old := (s.reg addr).toNat
  let new := data.toNat
  let up := !s.curtainDown
  if addr = Reg.GRID_CTRL then
    (up && bitsOf old 0 7 != bitsOf new 0 7) || s.passiveClash (new.testBit 6) (s.get F.GRID_PASSIVE_ROCOF_LIM)
  else if addr = Reg.GRID_NOM then up && (bitsOf old 0 14 != bitsOf new 0 14 || bitsOf old 19 13 != bitsOf new 19 13)
  else if addr = Reg.GRID_PASSIVE then s.passiveClash (s.bit F.GRID_CTRL_PASSIVE_TRIP) (bitsOf new 16 16)
  else if addr = Reg.GRID_VERDICT then up && bitsOf new 0 4 != 0
  else false

/-- An accepted write to the block and what it brings about (R229, R248, R251, R266): PERM_CEASE written in PERMISSIVE begins or ends a
cessation. -/
def State.gridWritten (addr : Nat) (data : Word) (s : State) : State :=
  let acted := s.actsCessation s.region
  let was := s.ceased
  let s := (s.writeByAccess addr data).cessationEdge acted was
  let s := if s.bit F.GRID_CTRL_RT_EN then s
    else (s.mapGrid fun g => { g with cv := {}, cf := {} }).takeRegion region.continuous
  s.bearEnable.judgePermit

/-- The grid block resumes after `len` ns of tableau (R268). -/
def State.gridThaw (len : Nat) (s : State) : State :=
  let s := s.when (s.bearState != bear.off) (State.bearGoto bear.seeking)
  s.mapGrid fun g => { g with
    nextTick := g.nextTick + len, suspectAt := g.suspectAt + len, run := [], demod := [], chipWhole := false
    amps := {}, injecting := false, waitLock := s.bearState != bear.off
    bear := { g.bear with lockSince := none, coastSince := none, seen := [] } }

end Sys2Proof.Machine
end

