-- ==== Sys2Proof/Machine/Guard.lean ====
section
/-! DEFINITION. Sys2Proof/Machine/Guard.lean: the guard of the local switches: requests of a period, dead time, short pulses, trips and
desaturation, latches (spec/11). The commands themselves stand in Machine/Pump.lean, since a latch stops the pump drive. -/

namespace Sys2Proof.Machine

def State.mapGuard (s : State) (f : Guard → Guard) : State := { s with guard := f s.guard }

def State.sw (s : State) (k : Nat) : Switch := Sparse.get (fun _ => {}) s.guard.switches k

def State.setSw (s : State) (k : Nat) (w : Switch) : State :=
  s.mapGuard fun g => { g with switches := Sparse.set (fun _ => {}) g.switches k w }

def State.chan (s : State) (c : Nat) : Chan := Sparse.get (fun _ => {}) s.pump.chans c

def State.setChan (s : State) (c : Nat) (x : Chan) : State :=
  { s with pump := { s.pump with chans := Sparse.set (fun _ => {}) s.pump.chans c x } }

/-- The switches of the bridge, and all seven (R472). -/
def bridge : List Nat := List.range 6
def allSwitches : List Nat := List.range 7

/-- The other switch of a leg (R472). -/
def complement (k : Nat) : Nat := if k % 2 = 0 then k + 1 else k - 1

/-! The pins -/

/-- The instant at which the gate outputs stand: in tableau they keep the levels of the entry (R489, R525). -/
def State.pinTime (s : State) : Nat := if s.tableau then s.power.tabStart else s.elapsed

/-- A switch is commanded on at its pin at an instant. -/
def Switch.onAt (w : Switch) (h : Nat) : Bool :=
  (w.lit && w.from_ ≤ h && h < w.to_) ||
    match w.wait with
    | some (a, b) => a ≤ h && h < b
    | none => false

/-- A switch is commanded on at its pin now (GUARD_PINS.ON). -/
def State.swOn (s : State) (k : Nat) : Bool := (s.sw k).onAt s.pinTime

/-- The latest instant up to `h` at which a switch turned off. -/
def Switch.offBefore (w : Switch) (h : Nat) : Option Nat :=
  if w.lit && w.to_ ≤ h then some w.to_ else w.offAt

/-- A waiting turn-on whose instant has come is the pulse now (R477). -/
def Switch.settle (h : Nat) (w : Switch) : Switch :=
  match w.wait with
  | some (a, b) =>
    if a ≤ h then { w with lit := true, from_ := a, to_ := b, wait := none, blanked := false, offAt := w.offBefore a } else w
  | none => w

/-- Every switch brought up to the present instant. -/
def State.settleSwitches (s : State) : State :=
  s.each allSwitches fun k s => s.setSw k ((s.sw k).settle s.pinTime)

/-- A pulse's edges kept for the detector of R510 before another pulse takes its place (the latest 24). -/
def State.noteEdges (k : Nat) (s : State) : State :=
  let w := s.sw k
  let new := (if w.lit then [w.from_, w.to_] else []) ++ w.offAt.toList
  s.mapGuard fun g => { g with edges := ((g.edges ++ new).drop ((g.edges ++ new).length - 24)) }

/-- The instants up to `h` of the bridge's switching edges that are still known. -/
def State.edgesBefore (s : State) (h : Nat) : List Nat :=
  let held := bridge.flatMap fun k =>
    let w := s.sw k
    (if w.lit then [w.from_, w.to_] else []) ++ w.offAt.toList ++
      match w.wait with
      | some (a, b) => [a, b]
      | none => []
  (s.guard.edges ++ held).filter (· ≤ h)

/-! Latches (R485 to R487) -/

def State.swFaulted (s : State) (k : Nat) : Bool := s.ibit F.GUARD_STATUS_FAULT k

/-- The guard holds a latch (GUARD_STATUS.LATCHED). -/
def State.guardLatched (s : State) : Bool :=
  s.get F.GUARD_STATUS_FAULT != 0 || s.bit F.GUARD_STATUS_OC_TRIP || s.bit F.GUARD_STATUS_DT_TRIP

/-- A switch that is held off (R485): its own fault, or the bridge latch. -/
def State.heldOff (s : State) (k : Nat) : Bool := s.swFaulted k || (k < 6 && s.bit F.GUARD_STATUS_OC_TRIP)

/-- A comparator's filtered output is on its tripped side, and no self-test holds its input (R149, R155). -/
def State.compActive (s : State) (k : Nat) : Bool :=
  s.ibit F.COMP_STATE_TRIPPED k && !s.compTesting k

/-- A bridge switch is requested on at this instant of its period. -/
def State.requestedNow (s : State) (k : Nat) : Bool :=
  let c := s.chan (k / 2)
  if s.elapsed < c.start + 2 * c.duty then (s.sw k).req.1 else (s.sw k).req.2

/-- A trip of R487 is active now (GUARD_STATUS.TRIP_ACTIVE). -/
def State.tripActive (s : State) : Bool :=
  (List.range 32).any (fun k => s.compActive k && (s.compCfg k).testBit (F.COMP_CFG_GATE k).lo) ||
    (s.bit F.GUARD_CTRL_DESAT_EN && bridge.any fun k => s.compActive (26 + k) && s.requestedNow k)

/-- Every carry of the bridge and the chopper cleared (R480). -/
def State.clearCarries (s : State) : State := s.each allSwitches fun k s => s.setSw k { s.sw k with carry := 0 }

/-- A switch turned off now, whatever its request; a turn-on that waits is cancelled. -/
def State.turnOff (k : Nat) (s : State) : State :=
  let w := (s.sw k).settle s.pinTime
  let on := w.onAt s.pinTime
  s.setSw k { w with lit := w.lit && !on && w.to_ ≤ s.pinTime, wait := none, carry := 0
                     offAt := if on then some s.elapsed else w.offAt }

/-- A desaturation fault of a switch (R483): off, latched, counted. -/
def State.desatFault (k : Nat) (s : State) : State :=
  let s := (s.turnOff k).each bridge fun j s => s.setSw j { s.sw j with carry := 0 }
  ((s.setIbit F.GUARD_STATUS_FAULT k true).count F.GUARD_DESAT_COUNT).raise 192 k

/-- A desaturation comparator enters its tripped side (R481, R483): after blanking it turns its switch off, in tableau too
(R489). -/
def State.desatTrip (k : Nat) (s : State) : State :=
  let s := s.settleSwitches
  let w := s.sw k
  if s.bit F.GUARD_CTRL_DESAT_EN && s.swOn k && w.from_ + 2 * s.get F.GUARD_BLANK_BLANK ≤ s.elapsed then s.desatFault k else s

/-- A switch that waits out its dead time now: requested, and not yet at the pin. -/
def Switch.waiting (w : Switch) (h : Nat) : Bool :=
  match w.wait with
  | some (a, _) => w.asked ≤ h && h < a
  | none => false

/-- A trip of the GATE route (R484, R486): every bridge switch off at once, every waiting turn-on cancelled, the bridge latched. -/
def State.gateTrip (s : State) : State :=
  let s := s.settleSwitches
  let on := bridge.filter fun k => s.swOn k
  let wait := bridge.filter fun k => (s.sw k).waiting s.pinTime
  let dead := wait.any fun k => !s.swOn (complement k)
  let s := s.set F.GUARD_STATUS_ON_AT_TRIP ((on ++ wait).map (2 ^ ·)).sum
  let s := s.each bridge State.turnOff
  let s := s.when dead fun s => s.setBit F.GUARD_STATUS_DT_TRIP true
  ((s.setBit F.GUARD_STATUS_OC_TRIP true).count F.GUARD_TRIPS_COUNT).raise 193

/-! The pulses of a period (R474 to R480) -/

/-- A PWM period at the guard: start, end of the channel's high part, end (elapsed ns). -/
structure Window where
  start : Nat
  mid : Nat
  stop : Nat

/-- The on-intervals that a request in the two parts of a period makes. -/
def Window.intervals (p : Window) (r : Bool × Bool) : List (Nat × Nat) :=
  (match r with
    | (true, true) => [(p.start, p.stop)]
    | (true, false) => [(p.start, p.mid)]
    | (false, true) => [(p.mid, p.stop)]
    | (false, false) => []).filter fun x => x.1 < x.2

/-- A switch that is on, or will be, at the start of its complement's suppressed interval stays on through it (R479). -/
def Switch.through (c : Switch) (iv : Nat × Nat) : Switch :=
  match c.wait with
  | some (a, b) => if a < iv.1 && iv.1 ≤ b then { c with wait := some (a, max b iv.2) } else c
  | none => if c.lit && c.from_ < iv.1 && iv.1 ≤ c.to_ then { c with to_ := max c.to_ iv.2 } else c

/-- One requested on-interval of a switch judged (R477, R479, R480, R485, R486). -/
def State.judgePulse (p : Window) (commutation : Bool) (k : Nat) (iv : Nat × Nat) (s : State) : State :=
  let w := s.sw k
  if s.heldOff k then s.setSw k { w with carry := 0 }
  else if w.lit && w.from_ < iv.1 && iv.1 ≤ w.to_ then s.setSw k { w with to_ := max w.to_ iv.2 }
  else
    let c := s.sw (complement k)
    let stop := min (iv.2 + w.carry) p.stop
    let begin_ :=
      if k = 6 then iv.1
      else
        let free := fun (e : Nat) => max iv.1 (e + 2 * s.get F.GUARD_CFG_DEAD)
        match c.wait with
        | some (_, b) => if b ≤ stop then free b else free iv.1
        | none =>
          if c.lit && iv.1 < c.to_ then free c.to_
          else match c.offBefore iv.1 with
            | some e => free e
            | none => iv.1
    if stop < begin_ + 2 * s.get F.GUARD_CFG_MIN_PULSE then
      let s := (s.count F.GUARD_SUPPRESS_COUNT).when (!w.suppressed) fun s => s.raise 195 k
      let s := s.setSw k { s.sw k with carry := stop - iv.1, suppressed := true }
      s.when (commutation && k < 6) fun s => s.setSw (complement k) (c.through iv)
    else
      (s.noteEdges k).setSw k { w with wait := some (begin_, stop), asked := iv.1, carry := 0, suppressed := false }

/-- Intervals in the order of their starts. -/
def earlierFirst : List (Nat × Nat × Nat) → List (Nat × Nat × Nat)
  | [] => []
  | x :: xs => (xs.filter fun y => y.2.1 < x.2.1) ++ x :: xs.filter fun y => x.2.1 ≤ y.2.1

/-- A command error (R476) noted at its start. -/
def State.cmdErrAt (leg at_ : Nat) (s : State) : State :=
  ((s.setBit F.GUARD_STATUS_CMD_ERR true).count F.GUARD_CMD_ERR_COUNT).raiseAt (s.datum + (at_ - s.elapsed)) 194 leg

/-- A leg's requests of one period taken, and its pulses judged (R474 to R480). -/
def State.takeLeg (p : Window) (commutation : Bool) (leg : Nat) (up lo : Bool × Bool) (s : State) : State :=
  let s := s.settleSwitches
  let e1 := up.1 && lo.1 && p.start < p.mid
  let e2 := up.2 && lo.2 && p.mid < p.stop
  let was := s.guard.cmdErr.contains leg
  let s := s.when (e1 && !was) (State.cmdErrAt leg p.start)
  let mid := if p.start < p.mid then e1 else was
  let s := s.when (e2 && !mid) (State.cmdErrAt leg p.mid)
  let last := if p.mid < p.stop then e2 else mid
  let s := s.mapGuard fun g => { g with cmdErr := g.cmdErr.filter (· ≠ leg) ++ if last then [leg] else [] }
  let u := (up.1 && !lo.1, up.2 && !lo.2)
  let l := (lo.1 && !up.1, lo.2 && !up.2)
  let s := s.setSw (2 * leg) { s.sw (2 * leg) with req := u }
  let s := s.setSw (2 * leg + 1) { s.sw (2 * leg + 1) with req := l }
  if !s.guard.raised then s
  else
    let ivs := ((p.intervals u).map fun i => (2 * leg, i.1, i.2)) ++ ((p.intervals l).map fun i => (2 * leg + 1, i.1, i.2))
    let s := s.each (earlierFirst ivs) fun x s => s.judgePulse p commutation x.1 (x.2.1, x.2.2)
    let s := s.when (ivs.isEmpty) fun s =>
      (s.setSw (2 * leg) { s.sw (2 * leg) with carry := 0 }).setSw (2 * leg + 1) { s.sw (2 * leg + 1) with carry := 0 }
    s.settleSwitches

/-- The CHOP line of one period taken. -/
def State.takeChop (p : Window) (line : Bool × Bool) (s : State) : State :=
  let s := s.settleSwitches
  let s := s.setSw 6 { s.sw 6 with req := line }
  if !s.guard.raised then s
  else
    let s := s.each (p.intervals line) (State.judgePulse p false 6)
    s.settleSwitches

/-! GD_EN (R487, R488) -/

/-- A write of GUARD_CTRL (R487 to R489): DESAT_EN is taken, and GD_EN rises or falls. -/
def State.writeGuardCtrl (data : Word) (s : State) : State :=
  let old := s.bit F.GUARD_CTRL_GD_EN
  let new := data.getLsbD 0
  let s := s.settleSwitches.writeByAccess Reg.GUARD_CTRL data
  if new && !old then
    let low := s.elapsed - s.guard.lowSince
    let s := (s.setTop F.GUARD_LOW_TIME low).mapGuard fun g => { g with raised := true }
    if 10000 ≤ low && !s.tripActive then
      let s := s.set F.GUARD_STATUS_FAULT 0
      let s := (s.setBit F.GUARD_STATUS_OC_TRIP false).setBit F.GUARD_STATUS_DT_TRIP false
      (s.clearCarries.count F.GUARD_CLEARS_COUNT).raise 196
    else ((s.setBit F.GUARD_STATUS_CLEAR_REFUSED true).count F.GUARD_CLEAR_REFUSED_COUNT).raise 197
  else if old && !new then s.clearCarries.mapGuard fun g => { g with lowSince := s.elapsed }
  else s

/-- The guard word of a cell, item 3 (R492): bits that were 0 in the cell's previous item 3 raise CELL_GUARD. -/
def State.cellGuardWord (k item : Nat) (s : State) : State :=
  let word := bitsOf item 4 8
  let old := if s.guard.words.contains k then s.get (F.GUARD_CELL_WORD k) else 0
  let s := s.set (F.GUARD_CELL_WORD k) word
  let s := s.mapGuard fun g => { g with words := k :: g.words.filter (· ≠ k) }
  s.when (Nat.land word (255 - old) != 0) fun s => s.raise 198 k

end Sys2Proof.Machine
end

