-- ==== Sys2Proof/Machine/Pump.lean ====
section
/-! DEFINITION. Sys2Proof/Machine/Pump.lean: the PWM unit, the coolant pump drive, the chopper, and the commands of the local gates (spec/11,
spec/12). Instants are elapsed ns; speeds are in rpm and duties fractions of the period. -/

namespace Sys2Proof.Machine

def State.mapPump (s : State) (f : Pump → Pump) : State := { s with pump := f s.pump }

/-- States of the drive (R520). -/
abbrev ps.off : Nat := 0
abbrev ps.observe : Nat := 1
abbrev ps.wait : Nat := 2
abbrev ps.align : Nat := 3
abbrev ps.ramp : Nat := 4
abbrev ps.run : Nat := 5
abbrev ps.coast : Nat := 6
abbrev ps.fault : Nat := 7
abbrev ps.frozen : Nat := 8
abbrev ps.manual : Nat := 9

def State.pState (s : State) : Nat := s.get F.PUMP_STATUS_STATE

/-- PUMP_CURVE's items (R505). -/
def State.pc8 (s : State) (off : Nat) : Nat := s.tbl8 tid.pumpCurve off
def State.pc16 (s : State) (off : Nat) : Nat := s.tbl16 tid.pumpCurve off
def State.pcS (s : State) (off : Nat) : Int := s.tblS16 tid.pumpCurve off

def State.curveOk (s : State) : Bool := s.bit F.PUMP_STATUS_CURVE_OK

/-- The ordered direction is reverse (R521). -/
def State.pumpReverse (s : State) : Bool := s.bit F.PUMP_CMD_DIR

/-- The bridge period in ns. -/
def State.tPwm (s : State) : Nat := 2 * (s.chan 0).period

/-- One driven sector is in force, or an overlap into the next (PUMP_STATUS.SECTOR). -/
def State.pSector (s : State) : Nat := s.get F.PUMP_STATUS_SECTOR

/-! Sectors (R503) -/

/-- What a leg does in a sector. -/
inductive Role where
  | pwm | low | float
deriving DecidableEq, Repr

/-- The table of R503: leg by sector. -/
def roleOf (sector leg : Nat) : Role :=
  match sector, leg with
  | 1, 0 => .pwm | 1, 1 => .low | 1, 2 => .float
  | 2, 0 => .pwm | 2, 1 => .float | 2, 2 => .low
  | 3, 0 => .float | 3, 1 => .pwm | 3, 2 => .low
  | 4, 0 => .low | 4, 1 => .pwm | 4, 2 => .float
  | 5, 0 => .low | 5, 1 => .float | 5, 2 => .pwm
  | 6, 0 => .float | 6, 1 => .low | 6, 2 => .pwm
  | _, _ => .float

/-- The floating leg of a sector and whether its forward crossing is rising (R503). -/
def floatOf (sector : Nat) : Nat × Bool :=
  match sector with
  | 1 => (2, false)
  | 2 => (1, true)
  | 3 => (0, false)
  | 4 => (2, true)
  | 5 => (1, false)
  | _ => (0, true)

/-- The sector in which a crossing is expected in forward rotation. -/
def forwardSector (leg : Nat) (rising : Bool) : Nat :=
  match leg, rising with
  | 2, false => 1
  | 1, true => 2
  | 0, false => 3
  | 2, true => 4
  | 1, false => 5
  | _, _ => 6

/-- The sector after a sector (R503). -/
def nextSector (reverse : Bool) (n : Nat) : Nat := if reverse then (n + 4) % 6 + 1 else n % 6 + 1

/-- The sector in which a crossing is expected under the ordered direction: reverse rotation inverts every expected crossing. -/
def crossingSector (reverse : Bool) (c : Crossing) : Nat :=
  let f := forwardSector c.leg c.rising
  if reverse then (f + 2) % 6 + 1 else f

/-! Measured speed and direction (R508, R512) -/

/-- The direction that the latest three crossings establish, within 200 ms: true is forward (R512). -/
def State.rotorDir (s : State) : Option Bool :=
  let l := s.pump.crossings
  match l.drop (l.length - 3) with
  | [a, b, c] =>
    if a.time + 200000000 < s.elapsed then none
    else
      let i := forwardSector a.leg a.rising
      let j := forwardSector b.leg b.rising
      let k := forwardSector c.leg c.rising
      if j = i % 6 + 1 && k = j % 6 + 1 then some true
      else if i = j % 6 + 1 && j = k % 6 + 1 then some false
      else none
  | _ => none

/-- The drive commutates now. -/
def State.driven (s : State) : Bool := ps.align ≤ s.pState && s.pState ≤ ps.run && s.pSector != 0

/-- The measured speed in rpm, negative against the commanded direction (R508); 0 while no direction is established. -/
def State.pumpMeas (s : State) : Rat :=
  let l := s.pump.crossings.drop (s.pump.crossings.length - 6)
  match l.head?, l.getLast? with
  | some a, some b =>
    if b.time ≤ a.time then 0
    else
      let sp : Rat := 10000000000 * ((l.length : Int) - 1 : Int) / (((b.time - a.time) * s.pc8 2 : Nat) : Rat)
      if s.driven then sp
      else match s.rotorDir with
        | some fwd => if fwd == !s.pumpReverse then sp else -sp
        | none => 0
  | _, _ => 0

/-- PUMP_SPEED.MEAS shows the measured speed. -/
def State.showMeas (s : State) : State := s.setSat F.PUMP_SPEED_MEAS (roundAway s.pumpMeas)

/-- The VBUSP mean of the last eight results, in eighths of an LSB; none before the first (R516). -/
def State.vbus8 (s : State) : Option Int :=
  if s.pump.vbus.isEmpty then none else some (s.pump.vbus.sum * 8 / s.pump.vbus.length)

/-- The bus is at or above BUS_MIN (R518). -/
def State.busOk (s : State) : Bool :=
  match s.vbus8 with
  | some m => 8 * s.pcS 0x26 ≤ m
  | none => false

/-! Demand (R507) -/

/-- The curve interpolated at θ_c (R507). -/
def State.curveAt (s : State) (theta : Int) : Rat :=
  let n := s.pc8 1
  let th := fun i => s.pcS (0x40 + 4 * i)
  let sp := fun i => (s.pc16 (0x42 + 4 * i) : Rat)
  let i := ((List.range n).filter fun i => th i ≤ theta).length
  if i = 0 then sp 0
  else if n ≤ i then sp (n - 1)
  else sp (i - 1) + (sp i - sp (i - 1)) * (theta - th (i - 1) : Int) / (th i - th (i - 1) : Int)

/-- ORDER codes of PUMP_CMD (R521). -/
abbrev po.auto : Nat := 0
abbrev po.fixed : Nat := 1
abbrev po.coast : Nat := 2
abbrev po.brake : Nat := 3

/-- The target speed of the order in force (R507, R520). -/
def State.pumpTarget (s : State) : Rat :=
  match s.get F.PUMP_CMD_ORDER with
  | 0 => if s.bit F.CAST_STATUS_COOL_TO then s.pc16 0xA else max (s.pc16 8 : Rat) (s.curveAt s.thetaC)
  | 1 => s.get F.PUMP_CMD_SPEED
  | _ => 0

/-- The run request as it stands now (R507). -/
def State.runRequest (s : State) : Bool :=
  match s.get F.PUMP_CMD_ORDER with
  | 0 =>
    s.bit F.CAST_STATUS_COOL_TO ||
      (s.curveOk && (s.pcS 4 < s.thetaC || (s.pump.run && s.pcS 6 ≤ s.thetaC)))
  | 1 => true
  | _ => false

/-- A run is wanted and may be made: the request stands, the drive is enabled and the drivers are on. -/
def State.runWanted (s : State) : Bool :=
  s.pump.run && s.bit F.PUMP_CTRL_EN && !s.bit F.PUMP_CTRL_MANUAL && s.bit F.GUARD_CTRL_GD_EN

/-- The start conditions (R520). -/
def State.startOk (s : State) : Bool :=
  s.runWanted && s.curveOk && !s.guardLatched && s.busOk &&
    (!s.bit F.PUMP_STATUS_CHOP_FAULT || (s.rotorDir == some (!s.pumpReverse) && (s.pc16 0x1C : Rat) ≤ s.pumpMeas))

/-! State changes (R520, R523, R524) -/

/-- PUMP_FLT (R524), and casting's derating with it (R328). -/
def State.showPumpFlt (timeout : Bool) (s : State) : State :=
  let out := s.bit F.PUMP_CTRL_EN && s.pump.run && s.pState != ps.run
  let s := s.mapPump fun p => { p with outSince := if out then some (p.outSince.getD s.elapsed) else none }
  let long := out && (timeout || s.bit F.PUMP_STATUS_PUMP_FLT) && s.due s.pump.outSince 10000000000
  let flt := s.bit F.PUMP_CTRL_EN && (s.get F.PUMP_STATUS_FAULT != 0 || long)
  if flt == s.bit F.PUMP_STATUS_PUMP_FLT then s else (s.setBit F.PUMP_STATUS_PUMP_FLT flt).judgeDerate

/-- The drive enters a state; each change raises PUMP_STATE. -/
def State.goPump (st : Nat) (s : State) : State :=
  if s.pState = st then s
  else
    let s := (s.set F.PUMP_STATUS_STATE st).mapPump fun p => { p with entered := s.elapsed }
    s.raise 200

/-- No sector is driven: every leg floats from the next period start (R475, R503). -/
def State.floatLegs (s : State) : State :=
  let s := (s.set F.PUMP_STATUS_SECTOR 0).set F.PUMP_SECTOR_OVL 0
  s.mapPump fun p => { p with ovl := none, zc := none, duty := 0, brake := false }

/-- A start: OBSERVE with all legs floating (R512). -/
def State.observe (s : State) : State :=
  let s := s.floatLegs.mapPump fun p => { p with
    crossings := [], legs := [], spread := [], tEst := none, good := 0, entered := s.elapsed }
  s.goPump ps.observe

/-- The drive coasts (R517 to R520). -/
def State.coastFor (why : Coast) (s : State) : State :=
  (s.floatLegs.mapPump fun p => { p with coast := why, locked := none, retry := false }).goPump ps.coast

/-- The chopper made inactive. -/
def State.chopOff (s : State) : State :=
  (s.setBit F.PUMP_STATUS_CHOP_ACTIVE false).mapPump fun p => { p with act := none }

/-- The drive enters FAULT with a code (R523). -/
def State.pumpFaultAs (code : Nat) (s : State) : State :=
  let s := (s.floatLegs.mapPump fun p => { p with locked := none, retry := false, verdict := none }).set F.PUMP_STATUS_FAULT code
  let s := ((s.goPump ps.fault).raise 201).when (code == 6) State.chopOff
  s.showPumpFlt false

/-- A fault of R523 in a state that takes one (R520). -/
def State.pumpFaultIf (code : Nat) (s : State) : State := if s.pState ≤ ps.coast then s.pumpFaultAs code else s

/-- The restart out of COAST is allowed (R518, R519); after a bus that was low it waits for BUS_RECOVERED. -/
def State.restartAllowed (s : State) : Bool :=
  match s.pump.coast with
  | .request => true
  | .chopper | .slow => s.rotorDir.isSome && s.pumpMeas ≤ s.pumpTarget
  | .bus => false

/-- The drive's reactions to what has changed: demand, guard latch, start, stop (R507, R520, R523). -/
def State.pumpReact (s : State) : State :=
  if s.tableau || s.pState == ps.frozen then s
  else
    let run := s.runRequest
    let s := (s.mapPump fun p => { p with run := run }).setBit F.PUMP_STATUS_REQ run
    let s := s.setTop F.PUMP_SPEED_TARGET (roundAway s.pumpTarget).toNat
    let s := s.when (s.bit F.PUMP_CTRL_EN && s.guardLatched) (State.pumpFaultIf 1)
    let s := s.when (!(s.bit F.PUMP_CTRL_CHOP_EN && s.bit F.GUARD_CTRL_GD_EN) && s.bit F.PUMP_STATUS_CHOP_ACTIVE) State.chopOff
    let st := s.pState
    let braking := st == ps.run && s.pump.brake && s.bit F.PUMP_CTRL_EN && s.bit F.GUARD_CTRL_GD_EN
    let s :=
      if st = ps.off then s.when s.startOk State.observe
      else if ps.observe ≤ st && st ≤ ps.run then s.when (!s.runWanted && !braking) (State.coastFor .request)
      else if st = ps.coast then
        if !s.runWanted then
          let s := s.mapPump fun p => { p with coast := .request }
          s.when (s.rotorDir.isSome && |s.pumpMeas| ≤ s.pc16 0x14) fun s => s.floatLegs.goPump ps.off
        else s.when (s.restartAllowed && s.startOk) State.observe
      else s
    s.showPumpFlt false

/-- The drive enters RUN (R514): a restart after a lock has then succeeded (R515). -/
def State.enterRun (s : State) : State :=
  let s := (s.goPump ps.run).count F.PUMP_STARTS_COUNT
  let s := s.when s.pump.retry fun s => s.transient F.PUMP_TRANSIENT_COUNT
  (s.mapPump fun p => { p with retry := false, runAt := s.elapsed }).showPumpFlt false

/-- A sector begins: the leg that floats is watched for its expected crossing (R510). -/
def State.beginSector (n at_ : Nat) (s : State) : State :=
  let (leg, fwd) := floatOf n
  let rising := fwd != s.pumpReverse
  let l := Sparse.get (fun _ => ({} : Leg)) s.pump.legs leg
  let s := s.mapPump fun p => { p with
    sectorAt := at_, zc := none, ovl := none
    legs := Sparse.set (fun _ => {}) p.legs leg { l with above := some (!rising), run := 0 } }
  (s.set F.PUMP_STATUS_SECTOR n).set F.PUMP_SECTOR_OVL 0

/-- ALIGN: sector 1, or 6 for reverse (R514). -/
def State.align (s : State) : State :=
  (s.beginSector (if s.pumpReverse then 6 else 1) s.elapsed).goPump ps.align

/-! Crossings (R510, R512) -/

/-- A confirmed crossing (R510). -/
def State.confirmCrossing (c : Crossing) (s : State) : State :=
  s.mapPump fun p =>
    let l := p.crossings ++ [c]
    { p with
      tEst := match p.crossings.getLast? with
        | some b => some (c.time - b.time)
        | none => p.tEst
      crossings := l.drop (l.length - 7)
      zc := some c.time
      spread := let r := [] :: p.spread
                r.take 7 }

/-- A leg's counted result against the virtual neutral: the crossing it confirms, if any (R510). -/
def Leg.take (conf : Nat) (h : Nat) (diff : Int) (l : Leg) : Leg × Option Bool :=
  match l.above with
  | none => if diff = 0 then (l, none) else ({ l with above := some (0 < diff), run := 0 }, none)
  | some up =>
    let other := if up then diff < 0 else 0 < diff
    if other || (diff == 0 && 0 < l.run) then
      let first := if l.run = 0 then h else l.first
      if conf ≤ l.run + 1 then ({ l with above := some (!up), run := 0, first := first }, some (!up))
      else ({ l with run := l.run + 1, first := first }, none)
    else ({ l with run := 0 }, none)

/-- The result's stamp is at least SETTLE after every switching edge of the bridge (R510). -/
def State.settled (s : State) (h : Nat) : Bool := (s.edgesBefore h).all fun e => e + 10 * s.pc16 0x30 ≤ h

/-- The result's stamp is at least DEMAG of T_est after the sector began (R510). -/
def State.demagnetised (s : State) (h : Nat) : Bool :=
  match s.pump.tEst with
  | some e => s.pump.sectorAt * 60 + s.pc8 0x2C * e ≤ h * 60
  | none => true

/-- A BEMF result of one leg, sampled at the elapsed instant `h` (R510, R512, R519). -/
def State.bemfResult (leg h : Nat) (v : Option Int) (s : State) : State :=
  match v with
  | none => s
  | some a =>
    if s.tableau then s
    else
      let l := Sparse.get (fun _ => ({} : Leg)) s.pump.legs leg
      let s := s.mapPump fun p => { p with legs := Sparse.set (fun _ => {}) p.legs leg { l with last := some a } }
      let last := fun i => (Sparse.get (fun _ => ({} : Leg)) s.pump.legs i).last
      match last 0, last 1, last 2 with
      | some x, some y, some z =>
        let st := s.pState
        let all := st == ps.observe || st == ps.wait || st == ps.coast
        let floating := all || (s.driven && s.pump.ovl.isNone && (floatOf s.pSector).1 == leg)
        if !floating || !s.settled h || !(all || s.demagnetised h) then s
        else
          let s := s.mapPump fun p => { p with spread := match p.spread with
            | r :: rs => (r ++ [a]) :: rs
            | [] => [[a]] }
          let l := Sparse.get (fun _ => ({} : Leg)) s.pump.legs leg
          let (l', cross) := l.take (s.pc8 0x2D) h (3 * a - (x + y + z))
          let s := s.mapPump fun p => { p with legs := Sparse.set (fun _ => {}) p.legs leg l' }
          match cross with
          | none => s
          | some rising =>
            let expected := all || (s.pump.zc.isNone && ((floatOf s.pSector).2 != s.pumpReverse) == rising)
            if !expected then s
            else
              let s := (s.confirmCrossing { leg := leg, rising := rising, time := l'.first }).showMeas
              if st = ps.wait then s.when (s.rotorDir.isSome && |s.pumpMeas| ≤ s.pc16 0x14) State.align
              else s.pumpReact
      | _, _, _ => s

/-! The bus and the chopper (R516 to R518) -/

/-- A VBUSP result (R516, R518, R523). -/
def State.vbusResult (v : Option Int) (s : State) : State :=
  if s.tableau then s
  else match v with
    | none => s.mapPump fun p => { p with missV := min 16 (p.missV + 1) }
    | some a =>
      let s := s.mapPump fun p =>
        let l := p.vbus ++ [a]
        { p with missV := 0, vbus := l.drop (l.length - 8) }
      match s.vbus8 with
      | none => s
      | some m =>
        let s := s.setSat F.PUMP_BUS_VBUSP (roundAway ((m : Rat) / 8))
        if !s.curveOk then s
        else
          let low := m < 8 * s.pcS 0x26
          let s := s.mapPump fun p => { p with
            lowSince := if low then some (p.lowSince.getD s.elapsed) else none
            okSince := if low then none else some (p.okSince.getD s.elapsed) }
          let may := s.bit F.PUMP_CTRL_CHOP_EN && s.bit F.GUARD_CTRL_GD_EN && s.get F.PUMP_STATUS_FAULT != 6
          let was := s.bit F.PUMP_STATUS_CHOP_ACTIVE
          let s :=
            if !may || m < 8 * s.pcS 0x22 then s.when was State.chopOff
            else if 8 * s.pcS 0x20 < m && !was then
              ((s.setBit F.PUMP_STATUS_CHOP_ACTIVE true).count F.PUMP_CHOP_ACTS_COUNT).mapPump fun p => { p with
                act := some (s.elapsed, m) }
            else s
          (s.when (8 * s.pcS 0x24 < m) (State.pumpFaultIf 3)).pumpReact

/-- An ISHUNT result (R509, R523). -/
def State.ishuntResult (v : Option Int) (s : State) : State :=
  if s.tableau then s
  else match v with
    | none => s.mapPump fun p => { p with missI := min 16 (p.missI + 1) }
    | some a => s.mapPump fun p => { p with missI := 0, ishunt := p.ishunt ++ [a] }

/-- CHOP_CHECK of R517. -/
def State.chopWait (s : State) : Nat := s.pc16 0x28 * 1000

/-- The chopper judged at t_v + CHOP_CHECK: a mean above v_f still rises (R517). -/
def State.judgeRise (m : Int) (s : State) : State :=
  match s.pump.verdict with
  | none => s
  | some (tv, vf) =>
    if s.expired tv s.chopWait then (s.mapPump fun p => { p with verdict := none }).when (vf < m) (State.pumpFaultIf 4) else s

/-- The chopper judged at t_a + CHOP_CHECK: still active, and the mean at or above v_a (R517). -/
def State.judgeChop (m : Int) (s : State) : State :=
  match s.pump.act with
  | none => s
  | some (ta, va) =>
    if s.expired ta s.chopWait then
      let s := s.mapPump fun p => { p with act := none }
      if s.bit F.PUMP_STATUS_CHOP_ACTIVE && va ≤ m then
        let s := ((s.setBit F.PUMP_STATUS_CHOP_FAULT true).raise 203).mapPump fun p => { p with verdict := some (s.elapsed, m) }
        s.when (ps.observe ≤ s.pState && s.pState ≤ ps.run) (State.coastFor .chopper)
      else s
    else s

/-- CHOP_CHECK (R517). -/
def execChopCheck (t : Nat) (s : State) : Host.Outcome State Fault Refusal :=
  s.run t fun s =>
    if s.tableau then s
    else match s.vbus8 with
      | none => s
      | some m => (s.judgeRise m).judgeChop m

/-- BUS_LOW (R518). -/
def execBusLow (t : Nat) (s : State) : Host.Outcome State Fault Refusal :=
  s.run t fun s =>
    if s.pState = ps.run && s.due (s.pump.lowSince.map (max s.pump.runAt)) 100000000 then (s.coastFor .bus).raise 207 else s

/-- BUS_RECOVERED (R518). -/
def execBusRecovered (t : Nat) (s : State) : Host.Outcome State Fault Refusal :=
  s.run t fun s =>
    if s.pState = ps.coast && s.pump.coast = .bus && s.due s.pump.okSince 100000000 && s.startOk then s.observe else s

/-- PUMP_INPUT_TIMEOUT (R523): 16 consecutive MISSING results. -/
def execPumpInputTimeout (t : Nat) (s : State) : Host.Outcome State Fault Refusal :=
  s.run t fun s =>
    if (16 ≤ s.pump.missV || 16 ≤ s.pump.missI) && !s.tableau then s.pumpFaultIf 6 else s

/-- PUMP_FLT_TIMEOUT (R524). -/
def execPumpFltTimeout (t : Nat) (s : State) : Host.Outcome State Fault Refusal :=
  s.run t fun s => if s.tableau then s else s.showPumpFlt true

/-! Commutation (R511, R513, R514) -/

/-- Bridge periods of an overlap for a sector length in ns (R511). -/
def State.overlapPeriods (s : State) (len : Nat) : Nat :=
  max 1 (roundAway ((s.pc8 3 * len : Nat) / ((60 * s.tPwm : Nat) : Rat))).toNat

/-- The commutation instant of the sector in force (R511); none before any estimate. -/
def State.commutateAt (s : State) : Option Nat :=
  match s.pump.tEst with
  | none => none
  | some e => some (match s.pump.zc with
    | some z => z + e / 2
    | none => s.pump.sectorAt + e)

/-- An overlap into the next sector begins (R511). -/
def State.startOverlap (n : Nat) (s : State) : State :=
  s.mapPump fun p => { p with ovl := some (n, 0, p.duty) }

/-- The duty of a synchronisation (R513). -/
def State.syncDuty (s : State) : Rat :=
  let l := (s.pump.spread.take 6).flatten
  let hi := l.foldl max (l.headD 0)
  let lo := l.foldl min (l.headD 0)
  match s.pump.vbus.getLast? with
  | some b => max 0 (min (98 / 100) ((hi - lo : Int) * sqrtOf 3 / ((2 * (b + 32768) : Int) : Rat)))
  | none => 0

/-- COMMUTATION (R511, R513): in RUN the overlap into the next sector, or, after a catch, the sector that follows the last observed
crossing. -/
def execCommutation (t : Nat) (s : State) : Host.Outcome State Fault Refusal :=
  s.run t fun s =>
    if s.pState ≠ ps.run || s.tableau || s.pump.ovl.isSome then s
    else match s.commutateAt, s.pump.tEst with
      | some c, some e =>
        if s.pSector = 0 then
          match s.pump.crossings.getLast? with
          | some z =>
            if c ≤ s.elapsed then
              s.beginSector (nextSector s.pumpReverse (crossingSector s.pumpReverse z)) s.elapsed
            else s
          | none => s
        else
          let n := s.overlapPeriods e
          if c ≤ s.elapsed + n * s.tPwm / 2 then s.startOverlap n else s
      | _, _ => s

/-- OBSERVE_END (R512, R513). -/
def execObserveEnd (t : Nat) (s : State) : Host.Outcome State Fault Refusal :=
  s.run t fun s =>
    if s.pState = ps.observe && s.pump.locked.isNone && s.expired s.pump.entered 200000000 then
      match s.rotorDir with
      | none => s.align
      | some fwd =>
        let sp := |s.pumpMeas|
        if fwd == !s.pumpReverse then
          if (s.pc16 0x1C : Rat) ≤ sp then
            let d := s.syncDuty
            let s := (s.count F.PUMP_CATCHES_COUNT).raise 205
            (s.mapPump fun p => { p with duty := d, integ := d, ref := sp }).enterRun
          else s.align
        else if sp ≤ s.pc16 0x14 then s.align
        else (s.raise 204).goPump ps.wait
    else s

/-- WAIT_MAX (R512). -/
def execWaitMax (t : Nat) (s : State) : Host.Outcome State Fault Refusal :=
  s.run t fun s =>
    if s.pState = ps.wait && s.expired s.pump.entered (s.pc16 0x2E * second) then s.pumpFaultIf 5 else s

/-- ROTOR_STANDSTILL (R512, R520): in COAST or WAIT no direction has been established for 200 ms. -/
def execRotorStandstill (t : Nat) (s : State) : Host.Outcome State Fault Refusal :=
  s.run t fun s =>
    if s.rotorDir.isNone && s.expired (max s.pump.entered s.pump.watchAt) 200000000 then
      let still := (s.mapPump fun p => { p with crossings := [] }).showMeas
      if s.pState = ps.wait then still.align
      else if s.pState = ps.coast then
        if !s.runWanted then (still.floatLegs.goPump ps.off).pumpReact
        else still.when (s.pump.coast != .bus && still.startOk) State.observe
      else s
    else s

/-- The forced speed of RAMP, and its value when OL_SPEED is reached (R514). -/
def State.forcedSpeed (s : State) (at_ : Nat) : Rat :=
  let ol : Rat := s.pc16 0x1C
  min ol (ol / 8 + (s.pc16 0x1E : Rat) * ((at_ - s.pump.forcedAt : Nat) : Rat) / 1000000000)

/-- The length of a forced sector in ns, its speed taken at the sector's start (R514). -/
def State.forcedLen (s : State) : Nat :=
  (10000000000 / (s.forcedSpeed s.pump.sectorAt * (s.pc8 2 : Rat))).floor.toNat

/-- ALIGN_TIME (R514). -/
def execAlignTime (t : Nat) (s : State) : Host.Outcome State Fault Refusal :=
  s.run t fun s =>
    if s.pState = ps.align && s.expired s.pump.entered (s.pc16 0x18 * 1000000) then
      (s.mapPump fun p => { p with forcedAt := s.elapsed, sectorAt := s.elapsed, good := 0 }).goPump ps.ramp
    else s

/-- FORCED_COMMUTATION (R514): the next forced sector, or the handover to RUN. -/
def execForcedCommutation (t : Nat) (s : State) : Host.Outcome State Fault Refusal :=
  s.run t fun s =>
    let len := s.forcedLen
    let n := s.overlapPeriods len
    if s.pState = ps.ramp && s.pump.ovl.isNone && s.pump.sectorAt + len ≤ s.elapsed + n * s.tPwm / 2 then
      let good := if s.pump.zc.isSome then s.pump.good + 1 else 0
      let s := (s.mapPump fun p => { p with good := good }).startOverlap n
      if 6 ≤ good && (s.pc16 0x1C : Rat) ≤ s.forcedSpeed s.elapsed then
        (s.mapPump fun p => { p with integ := p.duty, ref := s.pc16 0x1C }).enterRun
      else s
    else s

/-- LOCKED_ROTOR (R515). -/
def execLockedRotor (t : Nat) (s : State) : Host.Outcome State Fault Refusal :=
  s.run t fun s =>
    let lock := s.pc16 0x16 * 1000000
    let last := max s.pump.runAt (match s.pump.crossings.getLast? with
      | some c => c.time
      | none => 0)
    let atSpeed := (s.pc16 0x1C : Rat) ≤ s.forcedSpeed (s.elapsed - lock) && s.pump.forcedAt + lock ≤ s.elapsed
    if s.tableau then s
    else if (s.pState = ps.ramp && atSpeed) || (s.pState = ps.run && s.expired last lock) then
      let s := (s.count F.PUMP_LOCKS_COUNT).raise 202
      if s.pump.retry then s.pumpFaultAs 2
      else (s.observe.mapPump fun p => { p with locked := some s.elapsed }).showPumpFlt false
    else s

/-- LOCK_RESTART (R515). -/
def execLockRestart (t : Nat) (s : State) : Host.Outcome State Fault Refusal :=
  s.run t fun s =>
    if s.pState = ps.observe && s.due s.pump.locked 2000000000 then
      s.observe.mapPump fun p => { p with locked := none, retry := true }
    else s

/-! PWM (R497 to R502) -/

/-- A shadow set that a LOAD_ALL may transfer (R500). -/
def State.shadowsOk (s : State) : Bool :=
  let p := s.get F.PUMP_PWM_PERIOD_PERIOD
  let pc := s.get F.PUMP_PWM_CHOP_PERIOD_PERIOD
  500 ≤ p && 500 ≤ pc && (List.range 4).all fun c =>
    let per := if c = 3 then pc else p
    s.get (F.PUMP_PWM_DUTY_DUTY c) ≤ per && s.get (F.PUMP_PWM_MARK_MARK c) < per

/-- A channel's shadows marked for transfer now. -/
def State.markShadow (c : Nat) (s : State) : State :=
  let per := if c = 3 then s.get F.PUMP_PWM_CHOP_PERIOD_PERIOD else s.get F.PUMP_PWM_PERIOD_PERIOD
  s.setChan c { s.chan c with load := some (s.elapsed, per, s.get (F.PUMP_PWM_DUTY_DUTY c), s.get (F.PUMP_PWM_MARK_MARK c)) }

/-- A channel's shadows are in force, or marked for transfer, as they stand. -/
def State.shadowTaken (s : State) (c : Nat) : Bool :=
  let per := if c = 3 then s.get F.PUMP_PWM_CHOP_PERIOD_PERIOD else s.get F.PUMP_PWM_PERIOD_PERIOD
  let now := (per, s.get (F.PUMP_PWM_DUTY_DUTY c), s.get (F.PUMP_PWM_MARK_MARK c))
  let x := s.chan c
  match x.load with
  | some (_, v) => v == now
  | none => (x.period, x.duty, x.mark) == now

/-- A write of LOAD_ALL (R499, R500, R502). -/
def State.writeLoadAll (data : Word) (s : State) : State :=
  if !data.getLsbD 0 then s
  else if !s.bit F.PUMP_CTRL_MANUAL || !s.shadowsOk then s.setBit F.PUMP_STATUS_CFG_REJECT true
  else
    let pending := (List.range 4).any fun c => (s.chan c).load.isSome
    let s := s.each (List.range 4) State.markShadow
    s.when pending fun s => (s.count F.PUMP_LOAD_OVERRUN_COUNT).raise 206

/-- LOAD_ALL (R499, R500, R502). -/
def execLoadAll (t : Nat) (data : Word) (s : State) : Host.Outcome State Fault Refusal :=
  s.run t fun s => s.bar0 Reg.PUMP_PWM_LOAD data (State.writeLoadAll data)

/-- The channels that share a period start: the bridge's, or CHOP's (R497). -/
def channelsOf (chop : Bool) : List Nat := if chop then [3] else [0, 1, 2]

/-- The period start that is due, if any. -/
def State.periodDue (s : State) (chop : Bool) : Bool :=
  let c := s.chan (if chop then 3 else 0)
  !s.tableau && !c.fresh && c.start + 2 * c.period ≤ s.elapsed

/-- A period begins; shadows marked at least 8 ns before it take effect (R499). -/
def State.beginPeriod (chop : Bool) (s : State) : State :=
  if s.periodDue chop then
    s.each (channelsOf chop) fun c s =>
      let x := s.chan c
      let at_ := x.start + 2 * x.period
      let x := { x with start := at_, fresh := true }
      match x.load with
      | some (t0, p, d, m) =>
        if t0 + 8 ≤ at_ then s.setChan c { x with period := p, duty := d, mark := m, load := none } else s.setChan c x
      | none => s.setChan c x
  else s

/-- SHADOW_TRANSFER (R499). -/
def execShadowTransfer (t : Nat) (chop : Bool) (s : State) : Host.Outcome State Fault Refusal :=
  s.run t fun s =>
    match (s.chan (if chop then 3 else 0)).load with
    | some _ => s.beginPeriod chop
    | none => s

/-- The instant of an event type within the present period, if the type occurs (R501). -/
def Chan.eventAt (x : Chan) (kind : Nat) : Option Nat :=
  match kind with
  | 0 => some x.start
  | 1 => some (x.start + 2 * (x.period - 1))
  | 2 => if 0 < x.duty && x.duty < x.period then some (x.start + 2 * x.duty) else none
  | _ => if x.mark < x.period then some (x.start + 2 * x.mark) else none

/-- PWM_EVENT (R501): an occurrence is counted once; every (PRESC + 1)-th of an enabled type is raised, with its own stamp. -/
def execPwmEvent (t : Nat) (channel : Fin 4) (kind : Fin 4) (s : State) : Host.Outcome State Fault Refusal :=
  s.run t fun s =>
    let x := s.chan channel
    match x.eventAt kind with
    | none => s
    | some h =>
      if s.tableau || s.elapsed < h || Sparse.get (fun _ => none) x.taken kind == some x.start then s
      else
        let s := s.setChan channel { x with taken := Sparse.set (fun _ => none) x.taken kind (some x.start) }
        if !(s.reg (Reg.PUMP_PWM_EVT channel)).getLsbD kind then s
        else
          let key := 4 * channel.val + kind.val
          let n := Sparse.get (fun _ => 0) s.pump.presc key
          let fire := s.get (F.PUMP_PWM_EVT_PRESC channel) ≤ n
          let s := s.mapPump fun p => { p with presc := Sparse.set (fun _ => 0) p.presc key (if fire then 0 else n + 1) }
          s.when fire fun s => s.raiseAt (s.datum - (s.elapsed - h)) (208 + key) 0

/-! The bridge period (R502, R509, R511) -/

/-- A value moved towards another by at most `up` upwards or `down` downwards. -/
def slew (x target up down : Rat) : Rat := if x ≤ target then min target (x + up) else max target (x - down)

/-- The controller's duty at a bridge period start in RUN (R508, R509). -/
def State.dutyUpdate (s : State) : State :=
  let tp : Rat := (s.tPwm : Rat) / 1000000000
  let ref := slew s.pump.ref s.pumpTarget ((s.pc16 0xC : Rat) * tp) ((s.pc16 0xE : Rat) * tp)
  let n := s.pump.ishunt.length
  let sum := s.pump.ishunt.sum
  let d0 := s.pump.duty
  let limited := n != 0 && s.pcS 0x2A * n < sum
  let e := ref - s.pumpMeas
  let i1 := s.pump.integ + (s.pc16 0x12 : Rat) / 1048576 * e * tp
  let d1 := (s.pc16 0x10 : Rat) / 1048576 * e + i1
  s.mapPump fun p =>
    if limited then { p with ref := ref, duty := d0 * 63 / 64, integ := d0 * 63 / 64 }
    else if d1 < 0 then { p with ref := ref, duty := 0 }
    else if 98 / 100 < d1 then { p with ref := ref, duty := 98 / 100 }
    else { p with ref := ref, duty := d1, integ := i1 }

/-- The drive's own duty in ALIGN and RAMP (R514). -/
def State.forcedDuty (s : State) : Rat :=
  let a : Rat := (s.pc16 0x1A : Rat) / 1000
  if s.pState = ps.ramp then a * (1 + s.forcedSpeed s.elapsed / (s.pc16 0x1C : Rat)) else a

/-- The duty of a role at the drive's duty. -/
def Role.duty (r : Role) (d : Rat) : Rat :=
  match r with
  | .pwm => d
  | _ => 0

/-- A leg's EN and duty at a bridge period start (R503, R511). -/
def State.legDrive (s : State) (leg : Nat) : Bool × Rat :=
  let k := s.pSector
  let r := roleOf k leg
  let d := s.pump.duty
  match s.pump.ovl with
  | none => (r != .float, r.duty d)
  | some (n, j, _) =>
    let r' := roleOf (nextSector s.pumpReverse k) leg
    let phi : Rat := (j : Rat) / ((n + 1 : Nat) : Rat)
    if r' = .float then
      let out := r.duty d
      (true, out + (1 / 2 - out) * phi)
    else if r = .float then (true, 1 / 2 + (r'.duty d - 1 / 2) * phi)
    else (true, r.duty d)

/-- The next overlap period, or the new sector at the end of the last one (R511). -/
def State.overlapStep (at_ : Nat) (s : State) : State :=
  match s.pump.ovl with
  | none => s
  | some (n, j, d) =>
    if n ≤ j then s.beginSector (nextSector s.pumpReverse s.pSector) at_
    else (s.mapPump fun p => { p with ovl := some (n, j + 1, d) }).setTop F.PUMP_SECTOR_OVL (n - (j + 1))

/-- The drive at a bridge period start: current mean, controller, overlap, stops that the reference brings (R509, R511, R519, R520). -/
def State.drivePeriod (at_ : Nat) (s : State) : State :=
  let n := s.pump.ishunt.length
  let s := s.when (n != 0) fun s => s.setSat F.PUMP_BUS_ISHUNT (roundAway ((s.pump.ishunt.sum : Rat) / (n : Rat)))
  let st := s.pState
  let s :=
    if st = ps.run && s.pSector ≠ 0 then
      let s := s.dutyUpdate
      if s.bit F.PUMP_STATUS_CHOP_FAULT && s.pump.ref < s.pumpMeas * 95 / 100 then s.coastFor .slow
      else if s.pump.brake && s.pump.ref ≤ s.pc16 8 then s.coastFor .request
      else s
    else if st = ps.align || st = ps.ramp then s.mapPump fun p => { p with duty := s.forcedDuty }
    else s
  let s := s.mapPump fun p => { p with ishunt := [] }
  if s.driven then s.overlapStep at_ else s

/-- The drive's own LOAD_ALL (R502): DUTY0 to DUTY2 as the legs need them, in force from this period start. -/
def State.driveLoad (s : State) : State :=
  let per := s.get F.PUMP_PWM_PERIOD_PERIOD
  let s := s.each [0, 1, 2] fun leg s =>
    let d := if s.driven then (s.legDrive leg).2 else 0
    s.setTop (F.PUMP_PWM_DUTY_DUTY leg) (roundAway (d * (per : Rat))).toNat
  let s := s.setTop F.PUMP_SECTOR_DUTY (if s.driven then (roundAway (s.pump.duty * (per : Rat))).toNat else 0)
  if s.shadowsOk then
    let s := s.each [0, 1, 2] fun c s => s.setChan c { s.chan c with
      period := per, duty := s.get (F.PUMP_PWM_DUTY_DUTY c), mark := s.get (F.PUMP_PWM_MARK_MARK c) }
    s.when (!s.shadowTaken 3) (State.markShadow 3)
  else s.setBit F.PUMP_STATUS_CFG_REJECT true

/-- A line's values in the two parts of a period by its source (R498, R504). -/
def lineOf (src : Nat) : Bool × Bool :=
  match src with
  | 0 => (false, false)
  | 1 => (true, true)
  | 2 => (true, false)
  | _ => (false, true)

/-- A leg's line pair at a period start: the drive's, or that of PUMP_MANUAL (R503, R504). -/
def State.legLines (s : State) (leg : Nat) : (Bool × Bool) × (Bool × Bool) :=
  if s.bit F.PUMP_CTRL_MANUAL then
    let m := (s.reg Reg.PUMP_MANUAL).toNat
    if s.bit F.PUMP_CTRL_EN then (lineOf (bitsOf m (4 * leg) 2), lineOf (bitsOf m (4 * leg + 2) 2)) else (lineOf 0, lineOf 0)
  else if s.driven then (if (s.legDrive leg).1 then lineOf 1 else lineOf 0, lineOf 2)
  else (lineOf 0, lineOf 2)

/-- Both switches' requests of a leg from its lines (R474). -/
def requestsOf (perSwitch : Bool) (a b : Bool × Bool) : (Bool × Bool) × (Bool × Bool) :=
  if perSwitch then (a, b) else ((a.1 && b.1, a.2 && b.2), (a.1 && !b.1, a.2 && !b.2))

/-- A channel's window of its present period. -/
def Chan.window (x : Chan) : Window :=
  { start := x.start, mid := x.start + 2 * min x.duty x.period, stop := x.start + 2 * x.period }

/-- PERIOD_START (R475, R479, R480, R509): the drive's values of the period, then the guard takes the lines of the bridge's legs, or of
CHOP. -/
def execPeriodStart (t : Nat) (chop : Bool) (s : State) : Host.Outcome State Fault Refusal :=
  s.run t fun s =>
    let s := s.beginPeriod chop
    let c := s.chan (if chop then 3 else 0)
    if !c.fresh || s.tableau then s
    else
      let s := s.each (channelsOf chop) fun c s => s.setChan c { s.chan c with fresh := false }
      if chop then s.takeChop (s.chan 3).window (if s.bit F.PUMP_STATUS_CHOP_ACTIVE then lineOf 2 else lineOf 0)
      else
        let s := s.when (!s.bit F.PUMP_CTRL_MANUAL) fun s => (s.drivePeriod c.start).driveLoad
        let s := s.each [0, 1, 2] fun leg s =>
          let per := s.ibit F.GUARD_CFG_MODE leg
          let ab := s.legLines leg
          let ul := requestsOf per ab.1 ab.2
          s.takeLeg (s.chan leg).window (!per) leg ul.1 ul.2
        s.pumpReact.showMeas

/-! The guard's own commands (R477, R483, R487, R526) -/

/-- DEAD_TIME_END (R477, R485, R486): a waiting turn-on reaches the pin, unless a latch holds its switch off. -/
def execDeadTimeEnd (t : Nat) (switch : Fin 6) (s : State) : Host.Outcome State Fault Refusal :=
  s.run t fun s =>
    if s.heldOff switch then s.setSw switch { s.sw switch with wait := none }
    else s.setSw switch ((s.sw switch).settle s.pinTime)

/-- BLANKING_END (R483, R486). -/
def execBlankingEnd (t : Nat) (switch : Fin 6) (s : State) : Host.Outcome State Fault Refusal :=
  s.run t fun s =>
    let s := s.settleSwitches
    let w := s.sw switch
    if s.bit F.GUARD_CTRL_DESAT_EN && s.swOn switch && !w.blanked &&
        w.from_ + 2 * s.get F.GUARD_BLANK_BLANK ≤ s.elapsed then
      let s := s.setSw switch { w with blanked := true }
      if s.compActive (26 + switch) then (s.desatFault switch).pumpReact else s
    else s

/-- GD_EN (R487 to R489, R516, R520). -/
def execGdEn (t : Nat) (data : Word) (s : State) : Host.Outcome State Fault Refusal :=
  s.run t fun s => s.bar0 Reg.GUARD_CTRL data fun s => (s.writeGuardCtrl data).pumpReact

/-- The SAFE detector's action (R526): every gate pin inactive, GD_EN low, FAULT with code CLOCK. -/
def State.stageLoss (s : State) : State :=
  let s := s.settleSwitches.each allSwitches State.turnOff
  let s := s.when (s.bit F.GUARD_CTRL_GD_EN) fun s =>
    (s.setBit F.GUARD_CTRL_GD_EN false).clearCarries.mapGuard fun g => { g with lowSince := s.elapsed }
  (s.pumpFaultAs 7).chopOff

/-- STAGE_LOSS (R526); the detector acts in tableau as well. -/
def execStageLoss (t : Nat) (s : State) : Host.Outcome State Fault Refusal := s.run t State.stageLoss

/-! Host writes and orders (R502 to R504, R520 to R522) -/

/-- A write of PUMP_CTRL (R503, R504, R520). -/
def State.writePumpCtrl (data : Word) (s : State) : State :=
  let en := data.getLsbD 0
  let man := data.getLsbD 2
  let wasEn := s.bit F.PUMP_CTRL_EN
  let wasMan := s.bit F.PUMP_CTRL_MANUAL
  let bad := (en && !wasEn && !man && s.get F.GUARD_CFG_MODE != 0) ||
    (man != wasMan && (wasEn || s.bit F.GUARD_CTRL_GD_EN || !s.curtainDown))
  if bad then s.setBit F.PUMP_STATUS_CFG_REJECT true
  else
    let s := s.writeByAccess Reg.PUMP_CTRL data
    let s :=
      if man && !wasMan then s.floatLegs.goPump ps.manual
      else if wasMan && !man then s.floatLegs.goPump ps.off
      else s
    s.pumpReact

/-- PUMP_CTRL_WRITE (R503, R504, R520). -/
def execPumpCtrlWrite (t : Nat) (data : Word) (s : State) : Host.Outcome State Fault Refusal :=
  s.run t fun s => s.bar0 Reg.PUMP_CTRL data (State.writePumpCtrl data)

/-- The cause of the latched fault is still present (R523). -/
def State.faultPresent (s : State) : Bool :=
  match s.get F.PUMP_STATUS_FAULT with
  | 1 => s.guardLatched
  | 3 => match s.vbus8 with
    | some m => 8 * s.pcS 0x24 < m
    | none => false
  | 4 => match s.vbus8 with
    | some m => 8 * s.pcS 0x22 < m
    | none => false
  | 6 => 16 ≤ s.pump.missV || 16 ≤ s.pump.missI
  | 7 => s.power.stageByp
  | _ => false

/-- The checks of PUMP_ORDER (R522). -/
def State.pumpOrderChecks (s : State) (d : Desc) : List (Bool × Nat × Nat) :=
  let tg := d.target.toNat
  let p0 := d.p0.toNat
  let p1 := d.p1.toNat
  [ (4 < tg, st.targetRange, 0)
  , (d.len.toNat != 0, st.lenRange, 0)
  , (if tg = 1 then p0 < s.pc16 8 || s.pc16 0xA < p0 || 1 < p1 else p0 != 0 || p1 != 0, st.targetRange, 0x10)
  , (!s.curveOk, st.stateRefused, 1)
  , (!s.bit F.PUMP_CTRL_EN || s.bit F.PUMP_CTRL_MANUAL, st.stateRefused, 2)
  , (tg == 1 && (p1 == 1) != s.pumpReverse && (s.pc16 0x14 : Rat) < |s.pumpMeas|, st.stateRefused, 3)
  , (tg == 4 && (s.pState != ps.fault || s.faultPresent), st.stateRefused, 4) ]

/-- A passing order takes effect (R521, R522). -/
def State.takePumpOrder (d : Desc) (s : State) : State :=
  match d.target.toNat with
  | 4 =>
    let s := ((s.set F.PUMP_STATUS_FAULT 0).setBit F.PUMP_STATUS_CHOP_FAULT false).floatLegs
    (s.goPump ps.off).pumpReact
  | 1 =>
    let turn := (d.p1.toNat == 1) != s.pumpReverse
    let s := (s.set F.PUMP_CMD_ORDER po.fixed).set F.PUMP_CMD_SPEED d.p0.toNat
    let s := (s.setBit F.PUMP_CMD_DIR (d.p1.toNat == 1)).mapPump fun p => { p with brake := false }
    let st := s.pState
    (s.when (turn && ps.observe ≤ st && st ≤ ps.coast) fun s =>
      s.observe.mapPump fun p => { p with locked := none }).pumpReact
  | n =>
    ((s.set F.PUMP_CMD_ORDER n).mapPump fun p => { p with brake := n == po.brake }).pumpReact

/-- PUMP_ORDER (R521, R522). -/
def execPumpOrder (t : Nat) (d : Desc) (s : State) : Host.Outcome State Fault Refusal :=
  s.run t fun s => s.checked d (s.pumpOrderChecks d) fun s => (s.takePumpOrder d).finish d

/-- COOL_TO (R329, R507): 64 consecutive MISSING or CLIP results; casting and the pump drive act on it. -/
def execCoolTo (t : Nat) (s : State) : Host.Outcome State Fault Refusal :=
  s.run t fun s =>
    if 64 ≤ s.cast.coolBad && !s.tableau then (s.setBit F.CAST_STATUS_COOL_TO true).judgeDerate.pumpReact else s

/-! Tableau (R525) -/

/-- The drive at the entry to tableau. -/
def State.pumpFreeze (s : State) : State :=
  let e := s.pump.entered
  ((s.settleSwitches.mapPump fun p => { p with before := s.pState }).goPump ps.frozen).mapPump fun p => { p with entered := e }

/-- Every instant of the drive and the guard moved by the length of the tableau, and the drive at its exit: checks in progress start
again, and a drive that was commutating observes anew; only WAIT's own time runs on. -/
def State.pumpThaw (len : Nat) (s : State) : State :=
  let later := fun (x : Option Nat) => x.map (· + len)
  let s := s.each (List.range 4) fun c s => s.setChan c { s.chan c with start := (s.chan c).start + len }
  let s := s.each allSwitches fun k s =>
    let w := s.sw k
    if w.onAt s.power.tabStart then s.setSw k { w with to_ := w.to_ + len, wait := w.wait.map fun x => (x.1 + len, x.2 + len) }
    else s.setSw k { w with wait := w.wait.map fun x => (x.1 + len, x.2 + len) }
  let m := s.vbus8.getD 0
  let s := s.mapPump fun p => { p with
    entered := p.entered + len, sectorAt := p.sectorAt + len, forcedAt := p.forcedAt + len, runAt := p.runAt + len
    locked := later p.locked, outSince := later p.outSince
    lowSince := p.lowSince.map fun _ => s.elapsed, okSince := p.okSince.map fun _ => s.elapsed
    act := p.act.map fun _ => (s.elapsed, m), verdict := p.verdict.map fun _ => (s.elapsed, m) }
  if s.pState = ps.frozen then
    let b := s.pump.before
    let e := s.pump.entered
    let s :=
      if ps.align ≤ b && b ≤ ps.run then s.observe
      else (s.goPump b).mapPump fun p => { p with
        entered := if b = ps.wait then e else p.entered
        crossings := [], watchAt := s.elapsed }
    s.pumpReact
  else s

end Sys2Proof.Machine
end

