-- ==== Sys2Proof/Machine/Curtain.lean ====
section
/-! DEFINITION. Sys2Proof/Machine/Curtain.lean: the curtain: channel A's cycle, causes and reactions, contactor checks, resets, and channel B
(spec/10). Instants are elapsed ns; SAFE ticks are taken at the nominal 24 MHz. -/

namespace Sys2Proof.Machine

def State.mapCurt (s : State) (f : Curt → Curt) : State := { s with curt := f s.curt }

/-- A loop enters HALTED (R196, R197, R300): its stations are told, the engine stops, and while RAISING or RAISED it is a cause. -/
def State.haltLoop (n : Nat) (s : State) : State :=
  let was := s.loopHalted n
  let s := (s.haltWire n).engHalt
  s.when (!was && s.loopHalted n && s.curtainUp) fun s => s.curtCause 16

/-- A halt of all four loops (R196). -/
def State.haltAll (s : State) : State := s.each (List.range 4) State.haltLoop

/-! SAFETY_PARAM (R457), in ns -/

abbrev ms : Nat := 1000000
def State.sp16 (s : State) (off : Nat) : Nat := s.tbl16 tid.safetyParam off
def State.checkClose (s : State) : Nat := s.sp16 2 * ms
def State.checkOpen (s : State) : Nat := s.sp16 4 * ms
def State.syncTime (s : State) : Nat := s.sp16 6 * ms
def State.estopDisc (s : State) : Nat := s.sp16 8 * ms
def State.raiseGap (s : State) : Nat := s.sp16 0xC * 100 * ms
def State.sresetStuck (s : State) : Nat := s.sp16 0xE * second

def State.paramOk (s : State) : Bool := s.bit F.CURTAIN_STATUS_PARAM_OK

/-! Names of R441, R444, R445 -/

abbrev cur.locked : Nat := 0
abbrev cur.lowered : Nat := 1
abbrev cur.raising : Nat := 2
abbrev cur.raised : Nat := 3
abbrev cur.lowering : Nat := 4

abbrev step.none : Nat := 0
abbrev step.sync : Nat := 1
abbrev step.closeCheck : Nat := 2
abbrev step.ramp : Nat := 3
abbrev step.openCheck : Nat := 4

/-- The class of a cause (R444): 3 for S, 2 for H, 1 for R. -/
def classOf (code : Nat) : Nat := if code ≤ 12 then 3 else if code ≤ 16 then 2 else 1

def State.curtStep (s : State) : Nat := s.get F.CURTAIN_STATUS_STEP
def State.setStep (s : State) (n : Nat) : State := s.set F.CURTAIN_STATUS_STEP n
def State.btrip (s : State) : Bool := s.bit F.CURTAIN_STATUS_BTRIP
def State.armed (s : State) : Bool := s.bit F.CURTAIN_STATUS_ARMED

/-! The pins as the channels read them (R428, R435, R437, R451) -/

def Readings.read (r : Readings) : CurtPin → Watch
  | .estopA => r.estopA
  | .estopB => r.estopB
  | .sreset => r.sreset
  | .kfbA => r.kfbA
  | .kfbB => r.kfbB
  | .kdrvA => r.kdrvA
  | .kdrvB => r.kdrvB

def Readings.put (r : Readings) (w : Watch) : CurtPin → Readings
  | .estopA => { r with estopA := w }
  | .estopB => { r with estopB := w }
  | .sreset => { r with sreset := w }
  | .kfbA => { r with kfbA := w }
  | .kfbB => { r with kfbB := w }
  | .kdrvA => { r with kdrvA := w }
  | .kdrvB => { r with kdrvB := w }

def allCurtPins : List CurtPin := [.estopA, .estopB, .sreset, .kfbA, .kfbB, .kdrvA, .kdrvB]

/-- The level has held without a break for `d` ns up to instant `t`. -/
def Watch.stable (w : Watch) (d t : Nat) : Bool := w.since + d ≤ t

/-- The filter of `d` ns at instant `t`: a level that has been stable for it is recognised. -/
def Watch.settle (d t : Nat) (w : Watch) : Watch :=
  if w.out ≠ some w.raw && w.stable d t then { w with out := some w.raw, outSince := w.since + d } else w

/-- The filter recognises the input high, or low. -/
def Watch.high (w : Watch) : Bool := w.out == some true
def Watch.low (w : Watch) : Bool := w.out == some false

/-- The level changes at instant `t`. -/
def Watch.edge (t : Nat) (level : Bool) (w : Watch) : Watch := if w.raw = level then w else { w with raw := level, since := t }

/-- A reading that starts afresh at instant `t`: the level at the pin is what it is, nothing is recognised (R450). -/
def Watch.restart (t : Nat) (w : Watch) : Watch := { raw := w.raw, since := t }

def Readings.map (f : Watch → Watch) (r : Readings) : Readings := allCurtPins.foldl (fun r p => r.put (f (r.read p)) p) r

/-- A channel's readings after a reset at instant `t`: SRESET is recognised at the level it has, so a later rise is an edge and a level that is
high already is none (R451). -/
def Readings.restart (t : Nat) (r : Readings) : Readings :=
  let r := r.map (Watch.restart t)
  { r with sreset := { r.sreset with out := some r.sreset.raw, outSince := t } }

/-- Channel A's filter times in ns (R435, R437, R451). -/
def State.filterA (s : State) : CurtPin → Nat
  | .estopA | .estopB => 200000
  | .sreset => if s.paramOk then s.sp16 0xA * ms else 20 * ms
  | .kfbA | .kfbB => 2 * ms
  | .kdrvA | .kdrvB => 0

/-- Channel B's filter times in ns: 1 200 and 240 000 SAFE ticks (R435, R451). -/
def filterB : CurtPin → Nat
  | .estopA | .estopB => 50000
  | .sreset => 10 * ms
  | _ => 0

/-- Channel A acts: it is frozen in tableau (R462), and stands still in a reset. -/
def State.aRuns (s : State) : Bool := !s.tableau && !s.power.startDue

/-- A channel sees both feedback contacts open without a break for the last 10 ms (R430, R442, R454). -/
def Readings.open10 (r : Readings) (t : Nat) : Bool :=
  r.kfbA.raw && r.kfbB.raw && r.kfbA.stable (10 * ms) t && r.kfbB.stable (10 * ms) t

/-- Channel A has recognised one E-stop input low and the other high, since the instant given (R436). -/
def State.estopDiff (s : State) : Option Nat :=
  let a := s.curt.a.estopA
  let b := s.curt.a.estopB
  if (a.low && b.high) || (a.high && b.low) then some (max a.outSince b.outSince) else none

/-- SRESET has been high after channel A's filter in the present mode, since the instant given (R455). -/
def State.sresetHigh (s : State) : Option Nat :=
  if s.curt.a.sreset.high then some (max s.curt.a.sreset.outSince s.curt.modeAt) else none

/-- A comparator CURTAIN route is active (R430, R442). -/
def State.curtainRoute (s : State) : Bool :=
  (List.range 32).any fun k => s.ibit F.COMP_STATE_TRIPPED k && (s.compCfg k).testBit (F.COMP_CFG_CURTAIN k).lo && !s.compTesting k

/-- The bits of CURTAIN_HOLD from 0 to 11 (R442). -/
def State.holdBits (s : State) : List Bool :=
  [ !s.armed
  , !s.bit F.GRID_STATUS_PERMIT
  , !s.engReady || s.engState != eng.idle
  , !s.castReady
  , s.enabledLoops.isEmpty || s.enabledLoops.any fun n => !s.loopTrained n || s.loopHalted n || s.loopFault n
  , !(s.curt.a.estopA.high && s.curt.a.estopB.high)
  , !s.curt.a.open10 s.elapsed
  , s.btrip
  , !s.paramOk
  , s.bit F.CURTAIN_HOLD_GAP
  , s.curtainRoute
  , s.tableau ]

/-! Outputs and state -/

/-- CURTAIN_LOWER commands complete when the curtain is LOWERED or LOCKED (R456). -/
def State.finishLower (d : Desc) (s : State) : State :=
  s.complete d st.done (s.curtain + 256 * s.get F.CURTAIN_CAUSE_FIRST) (s.pair Reg.CURTAIN_LAST_LO)

/-- The curtain changes its state (R441): CURTAIN_STATE, the stamp, the counters, the engine, and commands that waited for it. -/
def State.curtGoto (st_ step_ : Nat) (s : State) : State :=
  let was := s.curtain
  let s := (s.set F.CURTAIN_STATUS_STATE st_).setStep step_
  let s := s.when (st_ ≤ cur.raised && st_ != cur.locked) fun s => s.mapCurt fun c => { c with reaction := 0 }
  if was = st_ then s
  else
    let s := (s.setPair Reg.CURTAIN_LAST_LO s.datum).raise 176
    let s := s.when (st_ == cur.locked) fun s => s.count F.CURTAIN_LOCKS_COUNT
    let s := s.when (st_ == cur.raised) fun s => s.count F.CURTAIN_RAISES_COUNT
    if st_ ≤ cur.lowered then
      let w := s.curt.waiting
      ((s.engCurtainDown).mapCurt fun c => { c with waiting := [], energised := false, raisedFail := none }).each w State.finishLower
    else s

/-- KDRVB as channel B drives it (R430), from what channel B itself reads. -/
def State.judgeB (s : State) : State :=
  let on := s.curt.enb && !s.btrip && s.curt.b.estopA.high && s.curt.b.estopB.high && !s.curtainRoute && s.curt.openB
  if s.curt.kdrvb = on then s else s.mapCurt fun c => { c with kdrvb := on }

/-- KDRVA and ENB de-energised, and KDRVB with them (R430, R445): an opening check where KDRVA was energised. -/
def State.deenergise (s : State) : State :=
  let was := s.curt.enb
  let s := (s.mapCurt fun c => { c with enb := false, changeB := if was then s.elapsed else c.changeB, raisedFail := none }).judgeB
  if s.curt.kdrva then
    (s.setBit F.CURTAIN_HOLD_GAP true).mapCurt fun c => { c with
      kdrva := false, changeA := s.elapsed, opened := some s.elapsed
      check := some { closing := false, start := s.elapsed } }
  else s.mapCurt fun c => { c with check := c.check.filter fun k => !k.closing }

/-- Channel B's latch set (R431): KDRVB off, BTRIP high, SSTAT low (R461), and a halt of all four loops as the latch sets. -/
def State.latchB (s : State) : State :=
  let was := s.btrip
  let s := ((s.setBit F.CURTAIN_STATUS_BTRIP true).setBit F.CURTAIN_PINS_SSTAT false).judgeB
  if was then s
  else (s.mapCurt fun c => { c with latchedAt := s.elapsed, changeB := if c.enb then s.elapsed else c.changeB }).haltAll

/-- A stop under load counted (R679). -/
def State.loadBreak (s : State) : State :=
  if s.curt.kdrva && (s.curtain == cur.raised || (s.curtain == cur.raising && s.curt.energised)) then
    (s.count F.SCRUB_K_LOAD_COUNT).raise 230
  else s

/-! Causes and reactions (R441, R445, R447) -/

/-- The earliest cause of a list, the lower code first on equal stamps. -/
def firstCause : List (Nat × Nat) → Option Nat
  | [] => none
  | c :: cs =>
    some (cs.foldl (fun b x => if x.2 < b.2 || (x.2 == b.2 && x.1 < b.1) then x else b) c).1

/-- The stop that a class starts: FIRST, the counter, the event. -/
def State.stopStarts (cls : Nat) (cs : List (Nat × Nat)) (s : State) : State :=
  let s := match firstCause (cs.filter fun c => classOf c.1 == cls) with
    | some c => s.set F.CURTAIN_CAUSE_FIRST c
    | none => s
  let s := ((s.count F.CURTAIN_STOPS_COUNT).raise 177).mapCurt fun c => { c with reaction := cls }
  let s := s.when (s.bit F.IRQ_CTRL_FREEZE_EN) fun s => s.setBit F.IRQ_STATUS_SP_FROZEN true
  s.when (cls == 3) fun s => s.noteClass 6

/-- Causes evaluated by channel A: every one is recorded, and the strongest class acts (R441, R445, R447). An R-class cause with the engine not
ENGAGED takes the H-class actions, ARMED among them. -/
def State.judgeCauses (cs : List (Nat × Nat)) (s : State) : State :=
  if cs.isEmpty then s
  else
    let s := s.each cs fun c s => s.setIbit F.CURTAIN_CAUSE_SEEN (c.1 - 1) true
    let cls := cs.foldl (fun b c => max b (classOf c.1)) 0
    let disarm := cls == 2 || cs.any fun c => c.1 == 21
    let st_ := s.curtain
    if st_ = cur.locked then s
    else if st_ = cur.lowered && cls ≠ 3 then s.when disarm fun s => s.setBit F.CURTAIN_STATUS_ARMED false
    else if cls ≤ s.curt.reaction then s
    else
      let s := s.stopStarts cls cs
      if cls = 3 then
        let s := (s.setBit F.CURTAIN_STATUS_ARMED false).mapCurt fun c => { c with tripa := true, released := none }
        let s := s.loadBreak.deenergise
        (s.curtGoto cur.locked step.none).latchB.haltAll
      else
        let s := s.when disarm fun s => s.setBit F.CURTAIN_STATUS_ARMED false
        if st_ = cur.raising && !s.curt.energised then
          let s := s.deenergise.curtGoto cur.lowered step.none
          s.when (cls == 2) State.haltAll
        else if cls = 1 && s.engaged then (s.engRamp).curtGoto cur.lowering step.ramp
        else
          let s := (s.loadBreak.deenergise).setBit F.CURTAIN_STATUS_ARMED false
          (s.curtGoto cur.lowering step.openCheck).haltAll

/-- A cause met by channel A at this instant. -/
def State.causeNow (code : Nat) (s : State) : State := s.judgeCauses [(code, s.datum)]

/-! Resets (R452 to R454) -/

/-- The conditions of R454. -/
def State.resetOk (s : State) : Bool :=
  let p := s.curt.a
  p.estopA.high && p.estopB.high && s.estopDiff.isNone && !s.curtainRoute && s.paramOk && p.open10 s.elapsed && !p.kdrvB.raw

/-- A reset refused (R452, R453): counted and raised; in LOCKED, TRIPA stays high. -/
def State.resetRefused (s : State) : State :=
  let s := s.mapCurt fun c => { c with tripa := c.tripa || s.curtain == cur.locked, released := none, resetCmd := none }
  (s.count F.CURTAIN_RESET_REFUSED_COUNT).raise 183

/-- A reset accepted (R452, R453): ARMED, and LOWERED from LOCKED. -/
def State.resetDone (s : State) : State :=
  let s := s.setBit F.CURTAIN_STATUS_ARMED true
  let s := s.when (s.curtain == cur.locked) (State.curtGoto cur.lowered step.none)
  let cmd := s.curt.resetCmd
  let s := (s.mapCurt fun c => { c with released := none, resetCmd := none }).raise 182
  match cmd with
  | some d => s.finish d 0
  | none => s

/-- Channel B clears its latch (R452, R453); channel A sees BTRIP low at its next cycle. -/
def State.clearB (s : State) : State := s.setBit F.CURTAIN_STATUS_BTRIP false

/-- BTRIP has fallen within 2 ms after the release of TRIPA at `t0`: at the release or at channel B's edge, whichever is later (R452, R453). -/
def State.fellInTime (s : State) (t0 : Nat) : Bool :=
  !s.btrip && (s.curt.resetCmd.isSome || s.curt.edgeB.all fun e => e < t0 + 2 * ms)

/-- Channel B's filtered edge and the release of TRIPA lie within 2 880 000 SAFE ticks of each other (R452). -/
def State.edgeNear (s : State) : Bool :=
  match s.curt.edgeB with
  | some e => s.elapsed < e + 120000000
  | none => false

/-- KDRVA has stayed energised for more than 4 ms with BTRIP high, so channel B refuses every reset until it reads KDRVA de-energised
(R433). -/
def State.refusesB (s : State) : Bool :=
  s.curt.b.kdrvA.raw && (s.curt.refuseB || (s.btrip && max s.curt.b.kdrvA.since s.curt.latchedAt + 4 * ms < s.elapsed))

/-- Channel A releases TRIPA (R452); channel B may answer at once. -/
def State.releaseTrip (s : State) : State :=
  let s := s.mapCurt fun c => { c with tripa := false, released := some s.elapsed }
  if s.edgeNear && !s.refusesB then s.clearB else s

/-- Channel A's filters at instant `t`: an E-stop input recognised low is a cause, stamped with the pin's change (R64, R444, R468); a rising edge
of SRESET waits for the next cycle (R451, R452). -/
def State.settleA (t : Nat) (s : State) : State :=
  if !s.aRuns then s
  else
    s.each allCurtPins fun p s =>
      let w := s.curt.a.read p
      let n := w.settle (s.filterA p) t
      if n = w then s
      else
        let s := s.mapCurt fun c => { c with a := c.a.put n p }
        if (p = .estopA || p = .estopB) && n.low then
          (s.mapCurt fun c => { c with causes := c.causes ++ [(2, s.datum - (s.elapsed - n.since))] }).raise 178
        else if p = .sreset && w.low && n.high && s.curtainDown && !s.service then s.mapCurt fun c => { c with edgeA := true }
        else s

/-- Channel B's filters at instant `t`: an E-stop input low sets the latch (R431); a rising edge of SRESET may answer a release of TRIPA
(R452). -/
def State.settleB (t : Nat) (s : State) : State :=
  s.each allCurtPins fun p s =>
    let w := s.curt.b.read p
    let n := w.settle (filterB p) t
    if n = w then s
    else
      let s := s.mapCurt fun c => { c with b := c.b.put n p }
      if (p = .estopA || p = .estopB) && n.low then s.latchB
      else if p = .sreset && w.low && n.high then
        let s := s.mapCurt fun c => { c with edgeB := some n.outSince }
        if s.curt.released.isSome && s.curt.resetCmd.isNone && !s.refusesB && s.btrip && !s.service then s.clearB else s
      else s

/-- Both channels' filters at instant `t`. -/
def State.settlePins (t : Nat) (s : State) : State := (s.settleB t).settleA t

/-- One change at a pin. -/
def State.takeEdge (e : PinEdge) (s : State) : State :=
  let t := s.elapsed - e.ago
  let s := s.settlePins t
  s.mapCurt fun c => { c with a := c.a.put ((c.a.read e.pin).edge t e.level) e.pin, b := c.b.put ((c.b.read e.pin).edge t e.level) e.pin }

/-- Changes at the curtain's pins, in their order, as both channels read them up to now (R430, R431, R433, R435, R451). -/
def State.takePins (edges : List PinEdge) (s : State) : State :=
  let s := ((s.each edges State.takeEdge).settlePins s.elapsed).judgeB
  s.mapCurt fun c => { c with refuseB := s.refusesB }

/-- SRESET_EDGE (R451, R452): changes at SRESET. Each channel keeps the rising edge of its own filter. -/
def execSresetEdge (t : Nat) (edges : List PinEdge) (s : State) : Host.Outcome State Fault Refusal :=
  s.run t (State.takePins edges)

/-- Channel A judges its release of TRIPA: BTRIP low, in time, completes the reset; 2 ms without it refuse the reset (R452, R453). -/
def State.judgeRelease (s : State) : State :=
  match s.curt.released with
  | none => s
  | some t0 =>
    if s.fellInTime t0 then s.resetDone
    else if t0 + 2 * ms ≤ s.elapsed then
      match s.curt.resetCmd with
      | some d => s.resetRefused.refuse d st.stateRefused 5
      | none => s.resetRefused
    else s

/-- Channel A judges at its cycle its release of TRIPA and the edge it has kept (R434, R452, R453). -/
def State.judgeReset (s : State) : State :=
  let s := s.judgeRelease
  if !s.curt.edgeA then s
  else
    let s := s.mapCurt fun c => { c with edgeA := false }
    if s.service || !s.curtainDown then s
    else if !s.resetOk then s.resetRefused
    else if s.curtain = cur.lowered then s.resetDone
    else s.releaseTrip

/-! Channel A's cycle (R434 to R440, R442) -/

/-- The pins and the filtered states sampled at the start of a cycle (R434), and what ends with them. -/
def State.samplePins (s : State) : State :=
  let p := s.curt.a
  let s := s.when (p.kdrvB.raw && !s.bit F.CURTAIN_PINS_KDRVB) fun s => s.count F.SCRUB_K_OPS_B_COUNT
  let set := fun (f : FieldRef) (b : Bool) (s : State) => s.setBit f b
  let s := set F.CURTAIN_PINS_ESTOPA p.estopA.high (set F.CURTAIN_PINS_ESTOPB p.estopB.high (set F.CURTAIN_PINS_SRESET p.sreset.high s))
  let s := set F.CURTAIN_PINS_KFBA p.kfbA.high (set F.CURTAIN_PINS_KFBB p.kfbB.high s)
  let s := set F.CURTAIN_PINS_KDRVA p.kdrvA.raw (set F.CURTAIN_PINS_KDRVB p.kdrvB.raw s)
  s.mapCurt fun c => { c with
    cycle := s.elapsed, discRaised := c.discRaised && s.estopDiff.isSome, stuckRaised := c.stuckRaised && p.sreset.high }

/-- One readback compared with its command (R440): the state after it, and whether the failure is lasting. -/
def State.readback (b : Bool) (s : State) : State × Bool :=
  let c := s.curt
  let since := if b then c.changeB else c.changeA
  let want := if b then c.enb && !s.btrip else c.kdrva
  let got := if b then c.a.kdrvB.raw else c.a.kdrvA.raw
  let first := if b then c.mismatchB else c.mismatchA
  let put := fun (v : Bool) (s : State) => s.mapCurt fun c => if b then { c with mismatchB := v } else { c with mismatchA := v }
  if s.elapsed < since + 200000 then (s, false)
  else if want = got then ((put false s).when first fun s => s.transient F.CURTAIN_TRANSIENT_COUNT, false)
  else if first then ((put false s).raise 181, true)
  else (put true s, false)

/-- Both feedback inputs read the commanded position, each stable for 2 ms (R437, R438). -/
def State.feedbackReads (s : State) (open_ : Bool) : Bool :=
  let p := s.curt.a
  let reads := fun (w : Watch) => w.raw == open_ && w.stable (2 * ms) s.elapsed
  reads p.kfbA && reads p.kfbB

/-- The cause that channel A takes for a high BTRIP (R432), from what channel A itself reads (R428, R429): an E-stop pin low or the
cause E-stop met, a COMP CURTAIN route active or the cause COMP met, and HEARTBEAT where it can identify neither. -/
def State.btripCause (s : State) : Nat × Nat :=
  let met := fun code => s.curt.causes.any fun c => c.1 == code
  if !s.curt.a.estopA.raw || !s.curt.a.estopB.raw || met 2 then (2, s.datum)
  else if s.curtainRoute || met 4 then (4, s.datum)
  else (5, s.datum)

/-- CHANNEL_A_CYCLE (R434): inputs, causes and the state table, outputs, HB. -/
def execChannelACycle (t : Nat) (pins : CurtainIn) (s : State) : Host.Outcome State Fault Refusal :=
  s.run t fun s =>
    let s := s.takePins pins.edges
    if !s.aRuns then s
    else
      let s := s.spTakeAll.samplePins
      let (s, badA) := s.readback false
      let (s, badB) := s.readback true
      let s :=
        if s.curtain = cur.raised && s.curt.raisedFail.isNone && !s.feedbackReads false then
          (s.raise 180).mapCurt fun c => { c with raisedFail := some s.elapsed }
        else s
      let cs := s.curt.causes ++ (if badA || badB then [(6, s.datum)] else []) ++
        (if !pins.selfOk then [(11, s.datum)] else []) ++
        (if s.btrip && s.curtain != cur.locked then [s.btripCause] else [])
      let s := (s.mapCurt fun c => { c with causes := [] }).judgeCauses cs
      let s :=
        if s.curtain = cur.lowering && s.curtStep = step.ramp && s.engState = eng.zeroed then
          s.deenergise.setStep step.openCheck
        else s
      let s := s.judgeReset
      let s :=
        if s.curtain = cur.lowered && !s.holdBits.any id then
          ((s.engEngage).curtGoto cur.raising step.sync).mapCurt fun c => { c with raisingAt := s.elapsed, energised := false }
        else s
      s.mapCurt fun c => { c with hb := !c.hb, lastHb := s.elapsed }

/-- SYNC_TIME (R441, R443): KDRVA is energised and ENB raised, or the engine is not ENGAGED. -/
def execSyncTime (t : Nat) (s : State) : Host.Outcome State Fault Refusal :=
  s.run t fun s =>
    if s.curtain = cur.raising && s.curtStep = step.sync && s.curt.raisingAt + s.syncTime ≤ s.curt.cycle && !s.tableau then
      if s.engaged then
        let s := (s.setStep step.closeCheck).count F.SCRUB_K_OPS_A_COUNT
        let s := s.mapCurt fun c => { c with
          kdrva := true, enb := true, energised := true, changeA := s.elapsed, changeB := s.elapsed
          check := some { closing := true, start := s.elapsed }, openB := c.b.open10 s.elapsed }
        s.judgeB
      else s.causeNow 13
    else s

/-- A contactor check has passed (R438, R441). -/
def State.checkPassed (closing : Bool) (s : State) : State :=
  let s := s.mapCurt fun c => { c with check := none }
  if closing then s.when (s.curtain == cur.raising) (State.curtGoto cur.raised step.none)
  else s.when (s.curtain == cur.lowering && s.curtStep == step.openCheck) (State.curtGoto cur.lowered step.none)

/-- The window of a check (R438). -/
def State.checkWindow (s : State) (k : ContactCheck) : Nat := if k.closing then s.checkClose else s.checkOpen

/-- CONTACTOR_CHECK (R438): the first check, at the cycle at t_e + W/2. -/
def execContactorCheck (t : Nat) (s : State) : Host.Outcome State Fault Refusal :=
  s.run t fun s =>
    match s.curt.check with
    | none => s
    | some k =>
      if k.failed || s.tableau || s.curt.cycle < k.start + s.checkWindow k / 2 then s
      else if s.feedbackReads (!k.closing) then s.checkPassed k.closing
      else (s.raise 180).mapCurt fun c => { c with check := some { k with failed := true } }

/-- CONTACTOR_RECHECK (R438): the recheck, at the cycle at t_e + W - 2 ms. -/
def execContactorRecheck (t : Nat) (s : State) : Host.Outcome State Fault Refusal :=
  s.run t fun s =>
    match s.curt.check with
    | none => s
    | some k =>
      if !k.failed || s.tableau || s.curt.cycle + 2 * ms < k.start + s.checkWindow k then s
      else if s.feedbackReads (!k.closing) then (s.transient F.CURTAIN_TRANSIENT_COUNT).checkPassed k.closing
      else (s.mapCurt fun c => { c with check := none }).causeNow (if k.closing then 7 else 8)

/-- RAISED_RECHECK (R439). -/
def execRaisedRecheck (t : Nat) (s : State) : Host.Outcome State Fault Refusal :=
  s.run t fun s =>
    match s.curt.raisedFail with
    | none => s
    | some tm =>
      if s.curtain ≠ cur.raised || s.tableau || s.curt.cycle < tm + s.checkClose / 2 then s
      else
        let s := s.mapCurt fun c => { c with raisedFail := none }
        if s.feedbackReads false then s.transient F.CURTAIN_TRANSIENT_COUNT else s.causeNow 9

/-- ESTOP_DISC (R436). -/
def execEstopDisc (t : Nat) (s : State) : Host.Outcome State Fault Refusal :=
  s.run t fun s =>
    if s.due s.estopDiff s.estopDisc && s.paramOk && !s.curt.discRaised && !s.tableau then
      ((s.mapCurt fun c => { c with discRaised := true }).raise 179).causeNow 3
    else s

/-- SRESET_STUCK (R455). -/
def execSresetStuck (t : Nat) (s : State) : Host.Outcome State Fault Refusal :=
  s.run t fun s =>
    if s.due s.sresetHigh s.sresetStuck && s.paramOk && !s.service && !s.curt.stuckRaised && !s.tableau then
      (s.mapCurt fun c => { c with stuckRaised := true }).raise 184
    else s

/-- RAISE_GAP (R442). -/
def execRaiseGap (t : Nat) (s : State) : Host.Outcome State Fault Refusal :=
  s.run t fun s => if s.due s.curt.opened s.raiseGap then s.setBit F.CURTAIN_HOLD_GAP false else s

/-- ROM_CHECK (R446): a failure is a cause for the next cycle. -/
def execRomCheck (t : Nat) (ok : Bool) (s : State) : Host.Outcome State Fault Refusal :=
  s.run t fun s =>
    if s.tableau then s
    else if ok then s
    else s.curtCause 11

/-! SAFETY_PARAM's check (R460) -/

/-- An upset of a table memory takes place (R561). -/
def State.upset (u : TableUpset) (s : State) : State :=
  let m := s.tableMem u.id
  let put := fun (c : SMap Byte) => Sparse.set (tableReset u.id) c u.off u.val
  if u.off < tableSize u.id then
    s.setTableWork u.id (if u.stored then { m with stored := put m.stored } else { m with work := put m.work })
  else s

/-- The CRC field of SAFETY_PARAM matches its content (R457, R459). -/
def State.paramCrcOk (s : State) : Bool :=
  (crc32 (s.tblBytes tid.safetyParam 0 0xFC)).toNat == s.tbl32 tid.safetyParam 0xFC

/-- The check of SAFETY_PARAM with its retry (R460): the state after it, and whether the failure is lasting. -/
def State.checkParam (s : State) : State × Bool :=
  if !s.paramOk || s.paramCrcOk then (s, false)
  else
    let m := s.tableMem tid.safetyParam
    let s := s.setTableWork tid.safetyParam { m with work := m.stored }
    if s.paramCrcOk then (s.transient F.CURTAIN_TRANSIENT_COUNT, false)
    else
      let s := (s.setBit F.CURTAIN_STATUS_PARAM_OK false).setTableOk tid.safetyParam false
      ((s.raise 185).curtCause 10, true)

/-- PARAM_CHECK (R460). -/
def execParamCheck (t : Nat) (upsets : List TableUpset) (s : State) : Host.Outcome State Fault Refusal :=
  s.run t fun s =>
    let s := s.each (upsets.filter fun u => u.id == tid.safetyParam) State.upset
    if s.tableau then s else s.checkParam.1

/-! Channel B (R430, R431, R461) -/

/-- CHANNEL_B_LATCH (R431): changes at the pins; an E-stop input low after channel B's filter sets the latch, and so does an active CURTAIN
route or TRIPA. -/
def execChannelBLatch (t : Nat) (edges : List PinEdge) (s : State) : Host.Outcome State Fault Refusal :=
  s.run t fun s =>
    let s := s.takePins edges
    if s.curt.b.estopA.low || s.curt.b.estopB.low || s.curtainRoute || s.curt.tripa then s.latchB else s

/-- HEARTBEAT_LOSS (R431): no edge on HB for 72 000 SAFE ticks; suspended in tableau (R462). -/
def execHeartbeatLoss (t : Nat) (s : State) : Host.Outcome State Fault Refusal :=
  s.run t fun s =>
    if s.expired s.curt.lastHb (3 * ms) && !s.tableau && !s.power.startDue then s.latchB else s

/-- SSTAT_TOGGLE (R461): each level lasts 1 ms less 5 % at least. -/
def execSstatToggle (t : Nat) (s : State) : Host.Outcome State Fault Refusal :=
  s.run t fun s =>
    if s.btrip || s.power.startDue then s.setBit F.CURTAIN_PINS_SSTAT false
    else if s.expired s.curt.sstatAt 950000 then
      (s.setBit F.CURTAIN_PINS_SSTAT (!s.bit F.CURTAIN_PINS_SSTAT)).mapCurt fun c => { c with sstatAt := s.elapsed }
    else s

/-! Commands (R453, R456) -/

/-- CURTAIN_LOWER (R456): it acts as its cause; where the curtain is down already, at once. -/
def execCurtainLower (t : Nat) (d : Desc) (s : State) : Host.Outcome State Fault Refusal :=
  s.run t fun s =>
    let tg := d.target.toNat
    let code := if tg = 0 then 21 else if tg = 1 then 15 else 12
    s.checked d
      [ (2 < tg, st.targetRange, 0), (d.len.toNat != 0, st.lenRange, 0)
      , (d.p0.toNat != 0 || d.p1.toNat != 0, st.targetRange, 0x10) ]
      fun s =>
        if s.curtainDown then (s.causeNow code).finishLower d
        else (s.curtCause code).mapCurt fun c => { c with waiting := c.waiting ++ [d] }

/-- The checks of CURTAIN_RESET up to the sixth (R453). -/
def State.resetChecks (s : State) (d : Desc) : List (Bool × Nat × Nat) :=
  [ (d.target.toNat != 0, st.targetRange, 0), (d.len.toNat != 0, st.lenRange, 0)
  , (d.p0.toNat != 0 || d.p1.toNat != 0, st.targetRange, 0x10)
  , (!s.service, st.stateRefused, 1), (!s.curtainDown, st.stateRefused, 2)
  , (!s.curt.a.sreset.high, st.stateRefused, 3) ]

/-- CURTAIN_RESET (R453). -/
def execCurtainReset (t : Nat) (d : Desc) (s : State) : Host.Outcome State Fault Refusal :=
  s.run t fun s =>
    s.checked d (s.resetChecks d) fun s =>
      if !s.resetOk then s.resetRefused.refuse d st.stateRefused 4
      else
        let s := s.mapCurt fun c => { c with resetCmd := some d }
        if s.curtain = cur.lowered then s.resetDone
        else
          let s := s.mapCurt fun c => { c with tripa := false, released := some s.elapsed }
          if s.curt.b.sreset.high && !s.refusesB then s.clearB else s

/-- A reading of SRESET at a change of mode: a level that is high already gives no edge (R451). -/
def Watch.newMode (w : Watch) : Watch := if w.raw && w.low then { w with out := none } else w

/-- The curtain at a change of mode (R451): edges kept are void. -/
def State.curtMode (s : State) : State :=
  s.mapCurt fun c => { c with
    edgeA := false, edgeB := none, modeAt := s.elapsed, a := c.a.put c.a.sreset.newMode .sreset, b := c.b.put c.b.sreset.newMode .sreset }

/-- A write of CURTAIN_CAUSE (R470). -/
def State.writeCurtainCause (data : Word) (s : State) : State :=
  if s.curtainDown then s.writeByAccess Reg.CURTAIN_CAUSE data else s.setBit F.CURTAIN_STATUS_CFG_REJECT true

/-! Tableau (R462) -/

/-- A reading of channel A after a tableau of `len` ns from `from_` to `now`: a level that was there before goes on with what it had lasted, another
one begins at the exit. -/
def Watch.thaw (len from_ now : Nat) (w : Watch) : Watch :=
  { w with since := if from_ ≤ w.since then now else w.since + len, outSince := w.outSince + len }

/-- Channel A resumes after `len` ns of tableau: its timers and filters go on, and checks in progress start again. -/
def State.curtThaw (len : Nat) (s : State) : State :=
  let later := fun (x : Option Nat) => x.map (· + len)
  s.mapCurt fun c => { c with
    cycle := c.cycle + len, changeA := c.changeA + len, changeB := c.changeB + len, raisingAt := c.raisingAt + len
    released := later c.released, a := c.a.map (Watch.thaw len (s.elapsed - len) s.elapsed), check := c.check.map fun k => { k with start := s.elapsed, failed := false }
    raisedFail := none, mismatchA := false, mismatchB := false, lastHb := s.elapsed }

/-- The curtain after any reset of the device (R441, R450, R451): LOCKED, both outputs off, both latches set, the filters starting afresh. -/
def State.curtReset (s : State) : State :=
  { s with curt := { opened := if s.curt.kdrva then some s.elapsed else s.curt.opened
                     changeA := s.elapsed, changeB := s.elapsed, lastHb := s.elapsed, cycle := s.elapsed
                     latchedAt := s.elapsed, modeAt := s.elapsed
                     a := s.curt.a.restart s.elapsed, b := s.curt.b.restart s.elapsed } }

end Sys2Proof.Machine
end

