-- ==== Sys2Proof/Machine/WingRx.lean ====
section
/-! DEFINITION. Sys2Proof/Machine/WingRx.lean: the wing loops' receive side: verdicts on frames, cues and orders, telemetry and what it
means to casting, per-cell power and the accounts, and writes of WING_CTRL (spec/04, spec/07 R327 to R335, spec/13 R562 to R564, spec/17
R677). -/

namespace Sys2Proof.Machine

/-! Slots (R174, R181, R182) -/

/-- The slot carries telemetry and an acknowledgement: it is neither empty nor out of range. -/
def slotGood (w : BitVec 32) : Bool := bitsOf w.toNat 0 16 ≤ 30000

def slotAck (w : BitVec 32) : Bool := w.getLsbD 16
def slotFault (w : BitVec 32) : Bool := w.getLsbD 17
def slotReply (w : BitVec 32) : Bool := w.getLsbD 18
def slotItem (w : BitVec 32) : Nat := bitsOf w.toNat 20 12
def slotVdc (w : BitVec 32) : Nat := bitsOf w.toNat 0 16

/-- Frame `k` lies in the cell's snapshot frames (R187). -/
def CellTx.inSnap (x : CellTx) (k : Nat) : Bool :=
  match x.snap with
  | none => false
  | some (_, k0) => k0 ≤ k && k ≤ k0 + 15

/-- The stamp of a cell's slot in frame `k` (R182, R187): D_p rounded to 2 ns. -/
def State.slotStamp (s : State) (c k : Nat) : Nat :=
  let x := s.tx c
  match x.snap with
  | some (base, _) => if x.inSnap k then base else (k - 1) * s.framePeriod + (s.get (F.WING_DELAY_D c) + 8) / 16 * 2
  | none => (k - 1) * s.framePeriod + (s.get (F.WING_DELAY_D c) + 8) / 16 * 2

/-! Loop failures (R195, R211) -/

/-- A lasting loop failure (R195): LOOP_FAULT, a halt of the loop, and every cell of it out of casting's hands. -/
def State.loopFail (n : Nat) (s : State) : State :=
  let s := (s.setIbit F.WING_STATUS_LOOP_FAULT n true).raise 98 n
  let s := s.haltLoop n
  s.each (s.loopCells n) fun c s => s.goOut c 2

/-- The failures of a loop are judged: it is trained, has no loop fault, and the device is not in tableau (R219). -/
def State.loopJudged (s : State) (n : Nat) : Bool := s.loopTrained n && !s.loopFault n && !s.tableau

/-- A returned frame that is not valid (R195). -/
def State.frameBad (n : Nat) (s : State) : State :=
  let s := s.count (F.WING_CRC_ERR_COUNT n)
  let l := s.loop n
  let s := s.setLoop n { l with train := l.train.map fun t => { t with run := 0, sum := 0 } }
  if !s.loopJudged n then s.setLoop n { s.loop n with bad := false }
  else if l.bad then (s.setLoop n { s.loop n with bad := false }).loopFail n
  else s.setLoop n { s.loop n with bad := true }

/-- A valid frame ends a first failure: transient (R195). -/
def State.frameGood (n : Nat) (s : State) : State :=
  if (s.loop n).bad then (s.setLoop n { s.loop n with bad := false }).transient (F.WING_TRANSIENT_COUNT n) else s

/-- The latency of a returned frame joins the last 64 (WING_LATn); on every frame its drift is judged, and a lead too short on two
consecutive frames is a lasting loop failure (R211, R220). -/
def State.frameLatency (n lat : Nat) (s : State) : State :=
  let l := s.loop n
  let lats := (l.lats ++ [lat]).drop (l.lats.length + 1 - 64)
  let mean := (2 * lats.sum + lats.length) / (2 * lats.length)
  let s := s.setTop (F.WING_LAT_L n) mean
  let tooShort := 8 * s.cueLead < mean + 1600
  let s := s.setLoop n { l with lats := lats, short := if tooShort then l.short + 1 else 0 }
  let s := s.when (l.drifted mean && s.loopJudged n) (State.loopDrift n)
  s.when (tooShort && 1 ≤ l.short && s.loopJudged n) (State.loopFail n)

/-- Training phase 1 (R204): 64 consecutive valid frames give L. -/
def State.trainLink (n lat : Nat) (s : State) : State :=
  match (s.loop n).train with
  | none => s
  | some t =>
    if t.phase ≠ 1 then s
    else
      let t := { t with run := t.run + 1, sum := t.sum + lat }
      if t.run < 64 then s.setLoop n { s.loop n with train := some t }
      else
        let s := s.setTop (F.WING_LAT_L n) ((2 * t.sum + t.run) / (2 * t.run))
        let s := s.set (F.WING_TRAIN_PHASE n) 2
        s.setLoop n { s.loop n with train := some { t with phase := 2, frames := 0, counts := [], start := s.elapsed } }

/-! Verdicts on cues and orders (R192 to R194) -/

/-- Changes that the accepted frame `k` carried are acknowledged; after a failure they acted no earlier than its act base (R193). -/
def ackChanges (k a : Nat) (failed : Bool) (hist : List Change) : List Change :=
  hist.map fun h => match h.placed with
    | some j => if j ≤ k && !h.acked then { h with acked := true, time := if failed && j < k then max h.time a else h.time } else h
    | none => h

/-- The verdict on a cell's cue in frame `k` (R193); a halted loop and tableau judge none (R199, R219). -/
def State.cueVerdict (n k c : Nat) (ok : Bool) (s : State) : State :=
  let x := s.tx c
  if !s.loopJudged n || s.loopHalted n || s.linkFault c then s
  else if ok then
    let s := s.setTx c { x with hist := ackChanges k (s.actBase k) x.failed x.hist, failed := false }
    s.when x.failed fun s => s.transient (F.WING_TRANSIENT_COUNT n)
  else if x.failed then (s.setTx c { x with failed := false }).linkLost c
  else s.setTx c { x with failed := true }

/-- The code of an order at an index. -/
def Order.code (o : Order) (i : Nat) : Nat := o.codes.getD i 0

def isRead (code : Nat) : Bool := 0x40 ≤ code && code < 0x60

/-- The order that an earlier state of it has become. -/
def State.setOrder (c : Nat) (old new : Order) (s : State) : State :=
  let x := s.tx c
  s.setTx c { x with orders := replaceFirst old new x.orders }

/-- An order of a cell given up. -/
def State.dropOrder (c : Nat) (o : Order) (s : State) : State :=
  let x := s.tx c
  s.setTx c { x with orders := x.orders.erase o }

/-- An order fails lastingly (R194, R205, R564). -/
def State.orderLost (n c : Nat) (o : Order) (s : State) : State :=
  let s := s.dropOrder c o
  match o.owner with
  | .train => s.trainFail n 0xA (s.cellPos c)
  | .host d => (s.linkLost c).refuse d st.aborted (0x10000 + o.code (o.codes.length - 1))
  | _ => s.linkLost c

/-- An order is done: every code of it has been accepted (R187, R190, R201, R562). -/
def State.orderDone (n c : Nat) (o : Order) (reply : Nat) (s : State) : State :=
  let s := s.dropOrder c o
  let last := o.code (o.codes.length - 1)
  match o.owner with
  | .train =>
    if isRead last then
      let l := s.loop n
      s.setLoop n { l with replies := Sparse.set (fun _ => 0) l.replies (32 * c + (last - 0x40)) reply }
    else
      let l := s.loop n
      s.setLoop n { l with train := l.train.map fun t => { t with armAt := max t.armAt (s.elapsed + o.base - s.datum) } }
  | .host d =>
    let s := s.when (last == order.sample) fun s =>
      s.setTx c { s.tx c with snap := some (o.base, (o.base + 1000 + s.framePeriod - 1) / s.framePeriod) }
    s.complete d st.done (if isRead last then reply else 0) o.base
  | _ => s

/-- An order is sent again from code `i` on (R194). A sequence of training that is sent again starts with its first code, and the
sequences of training after it that are under way start again too: each needs the data latch for itself. -/
def State.sendAgain (c : Nat) (o : Order) (i : Nat) (s : State) : State :=
  if o.owner.isTrain && 1 < o.codes.length then
    let x := s.tx c
    let before := x.orders.takeWhile (· != o)
    let after := (x.orders.dropWhile (· != o)).map fun q =>
      { q with next := 0, flying := [], second := if q = o then some i else q.second }
    s.setTx c { x with orders := before ++ after }
  else s.setOrder c o { o with next := i, flying := o.flying.filter fun e => e.2 < i, second := some i }

/-- Code `i` of an order is accepted or not, or has no verdict (R194). A failure, or no verdict, leads to a second sending of the code
and of all after it; the second sending decides. -/
def State.orderVerdict (n c : Nat) (o : Order) (i : Nat) (verdict : Option Bool) (reply : Nat) (s : State) : State :=
  match verdict with
  | some true =>
    let o' := { o with flying := o.flying.filter fun e => e.2 != i, second := if o.second = some i then none else o.second }
    let s := (s.setOrder c o o').when (o.second == some i) fun s => s.transient (F.WING_TRANSIENT_COUNT n)
    if o'.next = o'.codes.length && o'.flying.isEmpty then s.orderDone n c o' reply else s
  | some false =>
    if o.second = some i then s.orderLost n c o
    else s.sendAgain c o i
  | none => s.sendAgain c o i

/-- The orders of a cell carried by frame `k` judged; a READ needs its reply beside the acknowledgement (R190, R564). -/
def State.orderVerdicts (n k c : Nat) (verdict : Option Bool) (slot : BitVec 32) (s : State) : State :=
  s.each (s.tx c).orders fun o s =>
    match o.flying.find? fun e => e.1 == k with
    | none => s
    | some e =>
      let v := verdict.map fun ok => ok && (!isRead (o.code e.2) || slotReply slot)
      s.orderVerdict n c o e.2 v (slotItem slot)

/-! Telemetry (R186, R191, R492, spec/07, spec/08) -/

/-- A station reports SAFE in item 2 (R212, R215, R221): stamped with the slot's instant; a failure of R193, which only a loop that is
judged has. -/
def State.safeReport (c stamp : Nat) (safe : Bool) (s : State) : State :=
  let s := s.setTx c { s.tx c with safe := safe }
  if safe then (s.raiseAt stamp 103 c).when (s.loopJudged (s.cellLoop c)) (State.linkLost c) else s

/-- The bypass feedback of item 2 (R332, R312, R330): it confirms an order that has travelled, or shows a cell closed that casting has
open. -/
def State.bypassReport (c : Nat) (closed : Bool) (s : State) : State :=
  let s := s.setCastCell c { s.castCell c with closed := closed }
  let x := s.castCell c
  match x.check with
  | some b =>
    match b.start with
    | none => s
    | some t0 =>
      if t0 ≤ s.elapsed && closed == b.close then
        let s := s.setCastCell c { x with check := none, gone := x.gone || b.close }
        if s.cState c = cs.idle && !b.close then
          if s.bit F.CAST_CTRL_EN then s.setCState c cs.ready else s.bypass c true
        else s
      else s
  | none => if closed && s.bypassOpen c then s.goOut c 9 else s

/-- An IDLE cell whose loop is trained is opened while casting is enabled and the curtain is down (R312). -/
def State.openIdle (c : Nat) (s : State) : State :=
  if s.cState c = cs.idle && (s.castCell c).check.isNone && s.bit F.CAST_CTRL_EN && s.curtainDown && !s.linkFault c &&
      s.loopTrained (s.cellLoop c) && !s.loopHalted (s.cellLoop c) then
    s.bypass c false
  else s

/-- Item 1: the hot judgement (R327). -/
def State.hotReport (c : Nat) (v : Int) (s : State) : State :=
  let outside := v < -400 || 2000 < v
  let was := s.bit (F.CAST_CELL_HOT c)
  if outside || s.tEff c < v then
    if was then s
    else
      let s := s.setBit (F.CAST_CELL_HOT c) true
      let s := s.setCastCell c { s.castCell c with hotSince := some s.elapsed }
      (s.count F.CAST_HOT_COUNT).raise 141 c
  else if v ≤ s.tEff c - 20 then
    (s.setBit (F.CAST_CELL_HOT c) false).setCastCell c { s.castCell c with hotSince := none }
  else s

/-- The precharge target of a reserve in units of VDC, times 1000 (R335). -/
def State.preTarget (s : State) (c : Nat) : Nat :=
  if s.cellReserveSrc c = 0 then s.preFrac * s.cellVRated c else 1000 * s.cellVMin c

/-- A reserve that has reached its target comes into service (R312, R335): the blocked-to-zero cue is sent, and it is ACTIVE while the engine
is ENGAGED, else READY. -/
def State.reserveIn (c : Nat) (s : State) : State :=
  let s := s.setCastCell c { s.castCell c with preStart := none }
  let s := (if s.engaged then s.becomeActive c else s.setCState c cs.ready).castLegs c (s.actBase s.openFrame) legs.lowerZero
  (s.count F.CAST_TAKEOVER_COUNT).raise 138 c

/-- What a cell's VDC and FAULT mean to casting (R330, R331, R335, R312). -/
def State.castVdc (c vdc : Nat) (faultRose : Bool) (s : State) : State :=
  let x := s.castCell c
  let high := s.cellVMax c < vdc
  let low := s.cState c == cs.active && vdc < s.cellVMin c
  let s := s.setCastCell c { x with
    ov := if high then x.ov + 1 else 0
    uvSince := if low then some (x.uvSince.getD s.elapsed) else none }
  let s := s.when faultRose fun s => s.goOut c 3
  let s := s.when (high && s.ovCount ≤ x.ov + 1) fun s => s.goOut c 4
  let s := s.when (s.cState c == cs.precharge && s.preTarget c ≤ 1000 * vdc) (State.reserveIn c)
  (s.leavingDone c).openIdle c

/-- A counting report (R677). -/
def State.wearReport (c i v : Nat) (snap : Bool) (s : State) : State :=
  if snap || !([6, 7, 8, 9, 12] : List Nat).contains i then s
  else
    let w := Sparse.get (fun _ => ({} : Wear)) s.scrub.wear c
    let add := match Sparse.get (fun _ => none) w.base i with
      | none => 0
      | some b => (v + 4096 - b) % 4096
    let sat := fun x => min 0xFFFFFFFF (x + add)
    let w := { w with base := Sparse.set (fun _ => none) w.base i (some v) }
    let w := if i = 6 then { w with legA := w.legA + add } else if i = 7 then { w with legB := w.legB + add }
      else if i = 8 then { w with byp := sat w.byp } else if i = 9 then { w with dump := w.dump + add }
      else { w with line := sat w.line }
    { s with scrub := { s.scrub with wear := Sparse.set (fun _ => {}) s.scrub.wear c w } }

/-- The rotating item of a valid slot (R184 to R187). -/
def State.itemReport (c k i v vdc : Nat) (s : State) : State :=
  let stamp := s.slotStamp c k
  let snap := (s.tx c).inSnap k
  let s := s.setTx c { s.tx c with items := Sparse.set (fun _ => none) (s.tx c).items i (some v) }
  let s := (s.wearReport c i v snap).powerReading c i v vdc
  if i = 1 then
    let hot : Bool := s.cellTLimit c < signed 12 v
    let was := (s.tx c).hotT
    let s := (s.setTx c { s.tx c with hotT := hot }).when (hot && !was) fun s => s.raiseAt stamp 107 c
    s.hotReport c (signed 12 v)
  else if i = 2 then
    let s := s.when (v.testBit 8) fun s => s.raiseAt stamp 102 c
    let s := s.when (v.testBit 7) fun s => s.raiseAt stamp 109 c
    let s := s.safeReport c stamp (bitsOf v 0 4 == 6)
    let s := s.when (v.testBit 8 && s.loopJudged (s.cellLoop c)) (State.linkLost c)
    (s.bypassReport c (v.testBit 11)).dumpReport c stamp (v.testBit 9)
  else if i = 3 then s.cellGuardWord c v
  else s

/-- A valid slot of a cell (R181, R183, R186): shown, and outside tableau checked and delivered. -/
def State.slotReport (k c : Nat) (w : BitVec 32) (s : State) : State :=
  let vdc := slotVdc w
  let s := (s.set (F.WING_CELL_NIBBLE c) (bitsOf w.toNat 16 4)).set (F.WING_CELL_VDC c) vdc
  let s := s.setBit (F.GUARD_CELL_FAULT c) (slotFault w)
  if s.tableau then s
  else
    let x := s.tx c
    let stamp := s.slotStamp c k
    let high : Bool := s.cellVMax c < vdc
    let low : Bool := vdc < s.cellVMin c
    let fault := slotFault w
    let s := s.setTx c { x with overV := high, underV := low, fault := fault, stamp := stamp }
    let s := s.when (high && !x.overV) fun s => s.raiseAt stamp 105 c
    let s := s.when (low && !x.underV && s.isActive c) fun s => s.raiseAt stamp 106 c
    let s := s.when (fault && !x.fault) fun s => s.raiseAt stamp 104 c
    let s := s.when (!slotReply w) (State.itemReport c k (k % 16) (slotItem w) vdc)
    s.castVdc c vdc (fault && !x.fault)

/-! Returned frames (R192, R204) -/

/-- The verdict of a valid returned frame on one cell: its telemetry, and its acknowledgement of the frame before. -/
def State.cellReturn (n k : Nat) (slots : List (BitVec 32)) (c : Nat) (s : State) : State :=
  let w := slots.getD (s.cellPos c) 0xFFFFFFFF#32
  let good := slotGood w
  let s := s.when good (State.slotReport k c w)
  let ok := good && slotAck w
  let s := s.cueVerdict n (k - 1) c ok
  s.orderVerdicts n (k - 1) c (some ok) w

/-- The oldest frame sent on a loop is taken as returned or lost. -/
def State.popSent (n : Nat) (s : State) : State :=
  s.setLoop n { s.loop n with sent := (s.loop n).sent.drop 1 }

/-- A COUNT set returns (R204): four of them end phase 2. -/
def State.countReturn (n : Nat) (count : Option Nat) (s : State) : State :=
  match (s.loop n).train, count with
  | some t, some c =>
    if t.phase ≠ 2 then s
    else
      let t := { t with counts := t.counts ++ [c] }
      let s := s.setLoop n { s.loop n with train := some t }
      if t.counts.length = 4 then s.judgeCounts n t else s
  | _, _ => s

/-- A frame that has not come back valid: a failure of the loop, and no verdict for any station (R192, R194). -/
def State.frameLost (n k : Nat) (s : State) : State :=
  let s := s.frameBad n
  s.each (s.loopCells n) fun c s => s.orderVerdicts n (k - 1) c none 0xFFFFFFFF#32

/-- FRAME_FREEZE (R171): at S_k - 40 ns; a cell whose removal has reached contribution 0 gets its BYPASS_CLOSE in this frame (R333). -/
def execFrameFreeze (t : Nat) (s : State) : Host.Outcome State Fault Refusal :=
  s.run t fun s =>
    let k := (s.datum + 40) / s.framePeriod
    if (s.datum + 40) % s.framePeriod = 0 && s.freezeAllowed k then
      (s.each cellIds State.leavingDone).freezeFrame k
    else s

/-- RETURNED_FRAME (R183, R192 to R195, R204). -/
def execReturnedFrame (t : Nat) (loop : Fin 4) (r : Returned) (s : State) : Host.Outcome State Fault Refusal :=
  s.run t fun s =>
    let n := loop.val
    let s := s.count (F.WING_CODE_ERR_COUNT n) r.codeErrs
    match (s.loop n).sent with
    | [] => s
    | f :: _ =>
      let s := s.popSent n
      if f.count then s.countReturn n r.count
      else if r.crcOk && r.fn = f.fn && r.base = f.base then
        let s := ((s.frameGood n).frameLatency n r.latency).trainLink n r.latency
        let s := s.each (s.loopCells n) (State.cellReturn n f.k r.slots)
        s.trainAdvance n
      else s.frameLost n f.k

/-- FRAME_NOT_RETURNED (R195): the oldest frame sent has not come back in time. -/
def execFrameNotReturned (t : Nat) (loop : Fin 4) (s : State) : Host.Outcome State Fault Refusal :=
  s.run t fun s =>
    match (s.loop loop).sent with
    | [] => s
    | f :: _ =>
      let s := s.popSent loop
      if f.count then s else s.frameLost loop f.k

/-! Writes of WING_CTRL and WING_DELTA (R196, R201, R202, R223) -/

/-- The bits of WING_CTRL whose change needs the curtain down: SAFE_STATE, PERIOD, ENABLE. -/
def wingSetup (x : Nat) : Nat × Nat := (bitsOf x 16 4, bitsOf x 0 4)

/-- A loop leaves service (R223): electrical idle, not trained, no training. -/
def State.loopOff (n : Nat) (s : State) : State :=
  let s := (s.setIbit F.WING_STATUS_TRAINED n false).setIbit F.WING_STATUS_TRAIN_BUSY n false
  let s := s.mapWing fun w => { w with frozen := w.frozen.filter fun f => f.loop != n }
  s.setLoop n { s.loop n with train := none, sent := [] }

/-- A write of WING_CTRL (R196, R201, R202, R223). -/
def State.writeWingCtrl (data : Word) (s : State) : State :=
  let new := data.toNat
  let old := (s.reg Reg.WING_CTRL).toNat
  let changes := wingSetup new != wingSetup old
  if bitsOf new 16 2 = 3 || 1 < bitsOf new 18 2 || (changes && !s.curtainDown) then s.setBit F.WING_STATUS_CFG_REJECT true
  else
    let s := s.when (bitsOf new 16 2 != bitsOf old 16 2) fun s =>
      (s.set F.WING_STATUS_TRAINED 0).mapWing fun w => { w with frozen := [] }
    let s := s.each ((List.range 4).filter fun n => old.testBit n && !new.testBit n) State.loopOff
    let s := s.writeByAccess Reg.WING_CTRL data
    let s := s.when (data.getLsbD 23) State.haltAll
    let s := s.each ((List.range 4).filter fun n => data.getLsbD (28 + n)) State.trainLoop
    s.each ((List.range 4).filter fun n => data.getLsbD (24 + n)) State.resumeLoop

/-- A write of WING_DELTA (R223). -/
def State.writeWingDelta (data : Word) (s : State) : State :=
  let d := bitsOf data.toNat 0 11
  if d < 250 || 2000 < d || (d ≠ s.get F.WING_DELTA_DELTA && !s.curtainDown) then s.setBit F.WING_STATUS_CFG_REJECT true
  else
    let s := s.when (d != s.get F.WING_DELTA_DELTA) fun s => s.set F.WING_STATUS_TRAINED 0
    s.set F.WING_DELTA_DELTA d

/-- HALT_NOW (R196, R223). -/
def execHaltNow (t : Nat) (data : Word) (s : State) : Host.Outcome State Fault Refusal :=
  s.run t fun s => s.bar0 Reg.WING_CTRL data (State.writeWingCtrl data)

/-- RESUME (R201, R223). -/
def execResume (t : Nat) (data : Word) (s : State) : Host.Outcome State Fault Refusal :=
  s.run t fun s => s.bar0 Reg.WING_CTRL data (State.writeWingCtrl data)

/-- TRAIN (R202, R223). -/
def execTrain (t : Nat) (data : Word) (s : State) : Host.Outcome State Fault Refusal :=
  s.run t fun s => s.bar0 Reg.WING_CTRL data (State.writeWingCtrl data)

/-! CELL_ORDER (R562 to R564) -/

/-- The codes of a host order; none where PARAM0 and PARAM1 lie outside R562. -/
def hostCodes (p0 p1 : Nat) : Option (List Nat) :=
  if p0 = 0x05 || p0 = 0x06 then if p1 = 0 then some [p0] else none
  else if isRead p0 then if p1 = 0 then some [p0] else none
  else if 0x78 ≤ p0 && p0 < 0x80 then if p1 < 4096 then some (orderWrite (p0 - 0x60) p1) else none
  else none

/-- CELL_ORDER (R562, R563): it waits for its cell's order slot. -/
def execCellOrder (t : Nat) (d : Desc) (s : State) : Host.Outcome State Fault Refusal :=
  s.run t fun s =>
    let c := d.target.toNat
    let n := s.cellLoop c
    let codes := hostCodes d.p0.toNat d.p1.toNat
    s.checked d
      [(127 < c, st.targetRange, 0), (d.len ≠ 0, st.lenRange, 0), (codes.isNone, st.targetRange, 0x10),
       (!s.present c, st.stateRefused, 1),
       (!s.loopTrained n || s.loopHalted n || s.linkFault c, st.stateRefused, 2),
       (d.p0 = 5 && [cs.ready, cs.active, cs.leaving, cs.precharge].contains (s.cState c), st.stateRefused, 3)]
      fun s => s.giveOrder c (.host d) (codes.getD [])

end Sys2Proof.Machine
end

