-- ==== Sys2Proof/Machine/Results.lean ====
section
/-! DEFINITION. Sys2Proof/Machine/Results.lean: what becomes of a conversion's result and of a comparator's trip (spec/03 R110, R111, R117,
R118, R123, R124, R130, R148, R149). -/

namespace Sys2Proof.Machine

/-! Results -/

/-- CONV_LASTn after a result (R118): updated in order of stamp; of two with one stamp the scheduled part's is shown. -/
def State.showLast (c : Conversion) (value : Int) (s : State) : State :=
  let last := Sparse.get (fun _ => ({} : InputLast)) s.conv.inputs c.input
  let newer : Bool := match last.at_ with
    | none => true
    | some h => h < c.heldAt || (h == c.heldAt && c.part.isSome)
  let s := s.countWrap (F.CONV_LAST_SEQ c.input)
  if newer then
    let s := s.setInt (F.CONV_LAST_VALUE c.input) value
    { s with conv := { s.conv with
        inputs := Sparse.set (fun _ => {}) s.conv.inputs c.input { last with at_ := some c.heldAt } } }
  else s

/-- MISSING and CLIP counted, with their events at the first of a run, stamped with the sample instant (R64, R123, R124). -/
def State.countFlags (input stamp : Nat) (missing clip : Bool) (s : State) : State :=
  let last := Sparse.get (fun _ => ({} : InputLast)) s.conv.inputs input
  let s := s.when missing fun s =>
    let s := s.count F.CONV_MISSING_COUNT
    s.when (!last.missing) fun s => s.raiseAt stamp 48 0
  let s := s.when clip fun s =>
    let s := s.count F.CONV_CLIP_COUNT
    s.when (!last.clip) fun s => s.raiseAt stamp 49 0
  { s with conv := { s.conv with
      inputs := Sparse.set (fun _ => {}) s.conv.inputs input { last with missing := missing, clip := clip } } }

/-- The quality flags that a metering sample takes from its results: REF_BAD, STALE, CLIP. -/
def flagBits (c : Conversion) (clip : Bool) : Nat :=
  (if c.refBad then 1 else 0) + (if c.stale then 2 else 0) + (if clip then 4 else 0)

/-- A result reaches its consumers (R117, R141). -/
def State.deliver (c : Conversion) (v : Option Int) (clip : Bool) (s : State) : State :=
  let h := c.stamp
  let urgent := c.part.isNone
  let meter := fun (x : Nat) (volts : Bool) (s : State) =>
    s.when (!urgent) (State.meterResult x volts { stamp := h, heldAt := c.heldAt, value := v, flags := flagBits c clip })
  if c.input < 3 then
    let x := c.input
    meter x true (((s.bearResult x h v).vgEngine x h v).demodResult x h true v)
  else if c.input < 6 then
    let x := c.input - 3
    meter x false ((s.igResult x h v urgent).demodResult x h false v)
  else if c.input < 9 then s.icResult (c.input - 6) h v clip urgent
  else if c.input = 9 then s.vneResult h v
  else if c.input = 10 then (s.coolResult v clip).pumpReact
  else if c.input = 11 then s.vbusResult v
  else if c.input = 12 then s.ishuntResult v
  else s.bemfResult (c.input - 13) c.heldAt v

/-- A conversion ends with a value or without: compared in an overlap, delivered, and its understudy released (R123, R128, R130,
R142). -/
def State.conversionEnd (c : Conversion) (v : Option Int) (clip : Bool) (s : State) : State :=
  let g := c.slice / 5
  let s := { s with conv := { s.conv with inflight := s.conv.inflight.erase c } }
  let good := if clip then none else v
  if c.use == Use.shadow then s.overlapResult g c.stamp true good
  else
    let s := match v with
      | some a => s.showLast c a
      | none => s
    let s := s.countFlags c.input c.stamp v.isNone clip
    let s := match c.part with
      | none => s.urgentDone g
      | some p => s.when (s.usState g == us.overlap && (s.hand g).part == p % 4) (State.overlapResult g c.stamp false good)
    let s := s.when (c.use == Use.swap) fun s => s.setHand g { s.hand g with swapDone := true }
    s.deliver c v clip

/-- A conversion of a slice that is awaited: sampled, and not past R123's limit. -/
def State.awaited (s : State) (i : Nat) : Option Conversion :=
  s.conv.inflight.find? fun c => c.slice == i && decide (c.heldAt ≤ s.elapsed)

/-- RESULT (R110, R111, R117, R118, R124): raw code 0x000 or 0xFFF is CLIP, and the calibrated value is saturated at 16 bits. While
CONV is stopped nothing comes (R616). -/
def execResult (t : Nat) (slice : Fin 20) (raw : BitVec 12) (value : Int) (s : State) : Host.Outcome State Fault Refusal :=
  s.run t fun s =>
    match s.awaited slice with
    | none => s
    | some c =>
      if s.bit F.CLOCK_STATUS_CONV_STOP || c.heldAt + 1500 < s.elapsed then s
      else s.conversionEnd c (some (clamp (-32768) 32767 value)) (raw = 0 || raw = 0xFFF)

/-- RESULT_MISSING (R123): no result 1 500 ns after the sample instant. -/
def execResultMissing (t : Nat) (slice : Fin 20) (s : State) : Host.Outcome State Fault Refusal :=
  s.run t fun s =>
    match s.awaited slice with
    | none => s
    | some c => if s.expired c.heldAt 1500 then s.conversionEnd c none false else s

/-! Comparator trips -/

/-- The samples of a window of `m` that are on the tripped side, newest first. -/
def highSamples (m : Nat) (window : BitVec 7) : List Nat := (List.range m).filter fun i => window.getLsbD i

/-- From the capture of the oldest tripped sample of the window to the filtered output (R147): the newest sample was captured 4 ns before the
output is registered. None where the window holds no majority. -/
def tripDelay (filt : Nat) (window : BitVec 7) : Option Nat :=
  let l := highSamples (filterLen filt) window
  if filterLen filt < 2 * l.length then some (4 + 2 * l.foldl max 0) else none

/-- The routes of comparator `k` act (R149), by its configuration `x` in force: GATE, HALT, FAST, URGENT, CURTAIN; `tc` is the trip's stamp. -/
def State.tripRoutes (k x tc : Nat) (s : State) : State :=
  let n := k / 2
  let route := fun (f : FieldRef) => x.testBit f.lo
  let s := s.when (route (F.COMP_CFG_GATE k)) State.gateTrip
  let s := s.when (route (F.COMP_CFG_HALT k)) State.haltAll
  let s := s.when (route (F.COMP_CFG_FAST k)) (State.fastRequest n tc (((bitsOf x 0 10 : Int) - 512) * 64))
  let s := s.when (route (F.COMP_CFG_URGENT k)) (State.urgentRequest n 202 k)
  s.when (route (F.COMP_CFG_CURTAIN k)) fun s => (s.curtCause 4).latchB

/-- COMP_TRIP (R147 to R149, R151, R155): entry to the tripped side, where the window holds a majority; the guard sees its desaturation
comparators whatever routes they have (R481). A selected comparator in a self-test does nothing. -/
def execCompTrip (t : Nat) (e : CompEdge) (s : State) : Host.Outcome State Fault Refusal :=
  s.run t fun s =>
    let k := e.k.val
    let x := s.compCfg k
    match tripDelay (compFilt x) e.window with
    | none => s
    | some delay =>
      if !compEnable x || s.ibit F.COMP_STATE_TRIPPED k || s.compTesting k || s.compHeld k then s
      else
        let tc := s.datum - delay
        let s := s.setIbit F.COMP_STATE_TRIPPED k true
        let s := (s.setIbit F.COMP_LATCH_SEEN k true).raiseAt tc (64 + k) 0
        let s := s.tripRoutes k x tc
        (s.when (26 ≤ k) (State.desatTrip (k - 26))).pumpReact

end Sys2Proof.Machine
end

