-- ==== Sys2Proof/Machine/Ghost.lean ====
section
/-! DEFINITION. Sys2Proof/Machine/Ghost.lean: the ghost-light domain: store and harvester, the power-fail warning, the keeper, retention
memory, seals without main power, tamper evidence (spec/16), and the metering that comes back from retention (spec/09 R410 to R415). -/

namespace Sys2Proof.Machine

def State.mapGhost (s : State) (f : Ghost → Ghost) : State := { s with ghost := f s.ghost }

/-- Every register of a range of addresses back at its reset value, its captures gone. -/
def State.resetRange (lo hi : Nat) (s : State) : State :=
  { s with regs := s.regs.filter fun e => e.1 < lo || hi ≤ e.1, latched := s.latched.filter fun e => e.1 < lo || hi ≤ e.1 }

/-! Temperature bands and the keeper (R654, R655) -/

/-- The band of a temperature in 0.1 °C (R614, R654); a sensor that has timed out counts as above 115 °C (R620). -/
def bandOf (temp : Int) : Nat := if temp = 0x7FFF then 7 else (clamp 0 7 ((temp + 400) / 220)).toNat

def State.learned (s : State) (b : Nat) : Bool := s.ibit F.GHOST_KEEPER_LEARNED b

/-- The nominal GHOST period in 2^-16 ns. -/
abbrev nominalPeriod : Nat := 2000000000

/-- The learned bands at a distance from a band. -/
def State.learnedAt (s : State) (b n : Nat) : List Nat :=
  (List.range 8).filter fun i => s.learned i && (i + n == b || b + n == i)

/-- The period in use in a band: its own when learned, else that of the nearest learned band, else the nominal one (R655). -/
def State.bandPeriod (s : State) (b : Nat) : Nat :=
  match (List.range 8).find? fun n => !(s.learnedAt b n).isEmpty with
  | none => nominalPeriod
  | some n =>
    let l := s.learnedAt b n
    let i := if Config.nearerBand then l.getLastD b else l.headD b
    Sparse.get (fun _ => nominalPeriod) s.ghost.keeper.periods i

/-- The keeper in 2^-16 ns with main power absent (R655). -/
def State.keeperFine (s : State) : Nat :=
  s.ghost.keeper.value + (Config.ghostEdges s.elapsed - s.ghost.keeper.edge) * s.bandPeriod (s.get F.GHOST_KEEPER_BAND)

/-- The keeper in ns (R654, R655): with main power present it is datum time at the latest GHOST edge. -/
def State.keeperCount (s : State) : Nat :=
  if s.ghost.absent then s.keeperFine / 65536 else s.datum - Config.ghostLate s.elapsed

/-- The keeper's value as a datum time or a stamp, whose bit 0 is 0 (R43). -/
def State.keeperNow (s : State) : Nat := s.keeperCount / 2 * 2

/-- The keeper counts on from its present value. -/
def State.rebaseKeeper (s : State) : State :=
  let v := if s.ghost.absent then s.keeperFine else s.keeperCount * 65536
  s.mapGhost fun g => { g with keeper := { g.keeper with value := v, edge := Config.ghostEdges s.elapsed } }

/-- KEEPER_CALIBRATION (R654): the period measured over 32 768 GHOST edges is stored for the present band. -/
def execKeeperCalibration (t : Nat) (ticks : Nat) (s : State) : Host.Outcome State Fault Refusal :=
  s.run t fun s =>
    if s.ghost.absent || !s.ghost.running then s
    else
      let b := bandOf (s.getInt F.POWER_TEMP_TEMP)
      let n := min 16 (Sparse.get (fun _ => 0) s.ghost.keeper.stores b + 1)
      let s := s.mapGhost fun g => { g with keeper := { g.keeper with
        periods := Sparse.set (fun _ => nominalPeriod) g.keeper.periods b (4 * ticks)
        stores := Sparse.set (fun _ => 0) g.keeper.stores b n } }
      let s := s.set F.GHOST_KEEPER_BAND b
      s.when (n == 16) fun s => s.setIbit F.GHOST_KEEPER_LEARNED b true

/-- COARSE_SENSOR_READ (R655). -/
def execCoarseSensorRead (t : Nat) (temp : Int) (s : State) : Host.Outcome State Fault Refusal :=
  s.run t fun s =>
    if s.ghost.absent && s.ghost.running then
      let b := bandOf temp
      let s := s.rebaseKeeper.set F.GHOST_KEEPER_BAND b
      s.mapGhost fun g => { g with keeper := { g.keeper with allLearned := g.keeper.allLearned && s.learned b } }
    else s

/-! The store and the harvester (R639, R640, R643, R664) -/

abbrev vDead : Nat := 1800
abbrev vSeal : Nat := 2000

/-- VMAX in mV. -/
def State.vMaxStore (s : State) : Nat := 10 * s.get F.GHOST_CFG_VMAX

/-- The harvester's mode by the table of R643 (VSTOR in mV, V(TEGP) in 0.1 mV). -/
def State.harvestMode (s : State) (vstor vteg : Nat) : Nat :=
  if vstor < vDead then if 3300 ≤ vteg then 4 else if 250 ≤ vteg then 3 else 0
  else if !s.bit F.GHOST_CFG_HARV_EN then 0
  else if s.vMaxStore ≤ vstor then 2
  else 1

/-- The mode judged on the latest levels; a change with main power present raises HARVEST_STATE. -/
def State.judgeHarvest (s : State) : State :=
  let m := s.harvestMode (s.get F.GHOST_LEVELS_VSTOR) (s.get F.GHOST_LEVELS_VTEG)
  let s' := s.set F.GHOST_STATUS_HARVEST m
  s'.when (m != s.get F.GHOST_STATUS_HARVEST && !s.ghost.absent) fun s => s.raise 29

/-- A sample of VSTOR (R639, R640, R664, R665). -/
def State.storeSample (vstor : Nat) (s : State) : State :=
  let was := s.bit F.GHOST_STATUS_STORE_OK
  let s := s.setTop F.GHOST_LEVELS_VSTOR vstor
  let s := s.setBit F.GHOST_STATUS_STORE_OK (vSeal ≤ vstor)
  let charge := !s.ghost.store && vstor < s.vMaxStore &&
    (s.bit F.GHOST_STATUS_TRICKLING || vstor + 50 < s.vMaxStore)
  let s := s.setBit F.GHOST_STATUS_TRICKLING charge
  s.when (was && vstor < vSeal && !s.ghost.absent) fun s => s.raise 28

/-- VSTOR_SAMPLE (R643, R664). -/
def execVstorSample (t : Nat) (vstor : Nat) (vteg : Nat) (s : State) : Host.Outcome State Fault Refusal :=
  s.run t fun s =>
    if s.ghost.running then ((s.setTop F.GHOST_LEVELS_VTEG vteg).storeSample vstor).judgeHarvest else s

/-- MPP_SAMPLE (R643): V_MPP is V(MPPSET) / 10, and at least 25 mV; `mppset` is in mV. -/
def execMppSample (t : Nat) (mppset : Nat) (s : State) : Host.Outcome State Fault Refusal :=
  s.run t fun s => if s.ghost.running then (s.setTop F.GHOST_MPP_VMPP (max 250 mppset)).judgeHarvest else s

/-- A write of GHOST_CFG (R667). -/
def State.writeGhostCfg (data : Word) (s : State) : State :=
  let vmax := bitsOf data.toNat 0 9
  if s.curtainDown && 220 ≤ vmax && vmax ≤ 500 && bitsOf data.toNat 22 2 ≠ 3 then
    (s.writeByAccess Reg.GHOST_CFG data).judgeHarvest
  else s.setBit F.GHOST_STATUS_CFG_REJECT true

/-! The domain stops and starts (R644) -/

/-- DOMAIN_STOP (R644): the keeper, the key shadow and retention memory are lost. -/
def execDomainStop (t : Nat) (s : State) : Host.Outcome State Fault Refusal :=
  s.run t fun s =>
    if s.ghost.running && s.ghost.store && s.get F.GHOST_LEVELS_VSTOR < vDead then
      { s with ghost := { running := false, absent := s.ghost.absent, store := true } }
    else s

/-- The domain powers up (R644): an invalid header, power-up values, and STORE_LOST owed. -/
def State.domainStart (s : State) : State :=
  let s := s.resetRange 0x5400 0x5800
  { s with ghost := { absent := s.ghost.absent, store := s.get F.POWER_STATUS_RAIL_OK != 31 } }

/-- DOMAIN_START (R644). -/
def execDomainStart (t : Nat) (s : State) : Host.Outcome State Fault Refusal :=
  s.run t fun s => if s.ghost.running then s else s.domainStart

/-! The warning (R646, R647) -/

/-- PF_WARN (R647): the final refresh; from now on the domain draws on its store (R640). -/
def execPfWarn (t : Nat) (s : State) : Host.Outcome State Fault Refusal :=
  s.run t fun s =>
    if s.bit F.GHOST_STATUS_PF_WARN || !s.ghost.running then s
    else
      let s := s.when s.meterLive fun s => s.finishStep.retain
      ((s.setBit F.GHOST_STATUS_PF_WARN true).setBit F.GHOST_STATUS_TRICKLING false).mapGhost fun g => { g with store := true }

/-- PF_RIDE (R647): every rail is back without a reset. -/
def execPfRide (t : Nat) (s : State) : Host.Outcome State Fault Refusal :=
  s.run t fun s =>
    if s.bit F.GHOST_STATUS_PF_WARN && !s.ghost.absent then
      let s := (s.setBit F.GHOST_STATUS_PF_WARN false).mapGhost fun g => { g with store := false }
      let s := s.mapMeter fun m => { m with lastRefresh := s.elapsed }
      (s.count F.GHOST_PF_RIDES_COUNT).raise 27
    else s

/-! Retention (R657, R659) -/

/-- The METER copy with the higher generation (R657). -/
def State.latestCopy (s : State) : Option MeterCore :=
  match s.ghost.copyA, s.ghost.copyB with
  | some a, some b => some (if a.1 ≤ b.1 then b.2 else a.2)
  | some a, none => some a.2
  | none, some b => some b.2
  | none, none => none

/-- The METER region rewritten by the domain. -/
def State.setCopy (core : MeterCore) (s : State) : State :=
  let live := s.meter.core
  let s := (s.mapCore fun _ => core).retain
  s.mapCore fun _ => live

/-- Retention memory is valid (R659). -/
def State.retOk (s : State) : Bool := s.ghost.running && s.ghost.header && s.latestCopy.isSome

/-! Seals with main power absent (R411, R412, R650, R652) -/

/-- A seal may start: from the store only at or above V_SEAL (R650). -/
def State.canSeal (s : State) (vstor : Nat) : Bool := !s.ghost.store || vSeal ≤ vstor

/-- The record of the outage sealed (R652): the chain state of the METER region advances. -/
def State.sealOutage (store : Bool) (s : State) : State :=
  match s.ghost.out, s.latestCopy with
  | some r, some c =>
    let mac := s.sealOf r.body c.prevSeal
    let s := s.setCopy { c with prevSeal := mac }
    let s := s.mapGhost fun g => { g with out := some { r with mac := some mac }, job := none }
    (s.setBit F.GHOST_STATUS_SEAL_PEND false).when store fun s => s.count F.GHOST_STORE_SEALS_COUNT
  | _, _ => s

/-- The domain closes the open interval at the edge that the keeper has passed (R411, R652, R653); VSTOR is sampled before the seal
(R664). -/
def State.outageClose (vstor : Nat) (s : State) : State :=
  match s.latestCopy with
  | none => s
  | some c =>
    match c.ivals with
    | [] => s
    | h :: _ =>
      if !s.ghost.running || !s.ghost.absent || s.ghost.closed || s.keeperNow < h.stop then s
      else
        let s := s.storeSample vstor
        let can := s.canSeal vstor
        let extra := 2 ^ mf.outageClose + if can then 0 else 2 ^ mf.sealDeferred
        let h' := spoil s.ghost.outStart { h with quality := setBitOf h.quality mq.powerLoss }
        match closeCore h.stop (Nat.lor extra (s.closeFlags c)) { c with ivals := h' :: c.ivals.tail } with
        | none => s
        | some (body, c') =>
          let r : Rec := { seq := c.nextSeq, body := body }
          let s := s.setCopy (advanceSeq c')
          let s := s.mapGhost fun g => { g with
            out := some r, closed := true, deferred := !can, lastCheck := s.elapsed
            job := if can then some g.store else none }
          s.setBit F.GHOST_STATUS_SEAL_PEND !can

/-- OUTAGE_CLOSE (R411, R652). -/
def execOutageClose (t : Nat) (vstor : Nat) (s : State) : Host.Outcome State Fault Refusal := s.run t (State.outageClose vstor)

/-- STORE_CHECK (R652): with a seal pending, VSTOR is checked once in each second. -/
def execStoreCheck (t : Nat) (vstor : Nat) (s : State) : Host.Outcome State Fault Refusal :=
  s.run t fun s =>
    if s.bit F.GHOST_STATUS_SEAL_PEND && s.ghost.absent && s.ghost.running && s.ghost.job.isNone &&
        s.expired s.ghost.lastCheck second then
      let s := (s.storeSample vstor).mapGhost fun g => { g with lastCheck := s.elapsed }
      s.when (s.canSeal vstor) fun s => s.mapGhost fun g => { g with job := some g.store }
    else s

/-- SEAL_COMPLETE (R565, R650): the seal of the outage's record, or the known-answer test of a SELFTEST. -/
def execSealComplete (t : Nat) (s : State) : Host.Outcome State Fault Refusal :=
  s.run t fun s =>
    match s.ghost.job with
    | some store => s.sealOutage store
    | none =>
      match s.host.tests.sealKat with
      | [] => s
      | d :: l => { s with host := { s.host with tests := { s.host.tests with sealKat := l } } }.finish d 0

/-! Tamper evidence (R660 to R662) -/

/-- A tamper log entry's dwords written (R662). -/
def State.writeTlog (i : Nat) (l : List Nat) (s : State) : State :=
  s.each (List.range l.length) fun n s => s.setReg (Reg.GHOST_TLOG (4 * i + n)) (BitVec.ofNat 32 (l.getD n 0))

/-- TAMPER set in the open interval, live or retained (R661). -/
def State.tamperFlag (s : State) : State :=
  if s.meterLive then s.flag s.datum mf.tamper
  else match s.latestCopy with
    | none => s
    | some c => s.setCopy { c with ivals := match c.ivals with
        | h :: l => { h with flags := setBitOf h.flags mf.tamper } :: l
        | [] => [] }

/-- An input becomes tampered (R661). -/
def State.tamper (i : Nat) (s : State) : State :=
  let k := s.keeperNow
  let n := s.ghost.tlogNext
  let s := s.setIbit F.GHOST_STATUS_TAMP_NOW i true
  let s := (s.setIbit F.GHOST_STATUS_TAMP_SEEN i true).count (F.GHOST_TAMP_COUNT_COUNT i)
  let s := s.writeTlog n [k % 2 ^ 32, k / 2 ^ 32, 0xFFFFFFFF, i + (if s.ghost.absent then 2 else 0) + 4]
  let s := s.each [0, 1] fun j s => s.mapGhost fun g =>
    if Sparse.get (fun _ => none) g.tampEntry j = some n then { g with tampEntry := Sparse.set (fun _ => none) g.tampEntry j none } else g
  let s := s.mapGhost fun g => { g with tlogNext := (n + 1) % 16, tampEntry := Sparse.set (fun _ => none) g.tampEntry i (some n) }
  let s := s.tamperFlag
  if s.ghost.absent then s.mapGhost fun g => { g with owed := g.owed ++ [{ stamp := k, num := 25, inst := i }] }
  else s.raiseAt k 25 i

/-- An input is normal again: the duration is written into its entry (R661). -/
def State.tamperEnd (i : Nat) (s : State) : State :=
  let s' := s.setIbit F.GHOST_STATUS_TAMP_NOW i false
  match Sparse.get (fun _ => none) s.ghost.tampEntry i with
  | none => s'
  | some n =>
    let start := s.pair (Reg.GHOST_TLOG (4 * n))
    let s' := s'.setReg (Reg.GHOST_TLOG (4 * n + 2)) (BitVec.ofNat 32 (min 0xFFFFFFFE (upSeconds (s.keeperNow - start))))
    s'.mapGhost fun g => { g with tampEntry := Sparse.set (fun _ => none) g.tampEntry i none }

/-- TAMPER_SAMPLE (R660): two consecutive samples decide. -/
def execTamperSample (t : Nat) (levels : BitVec 2) (s : State) : Host.Outcome State Fault Refusal :=
  s.run t fun s =>
    if !s.ghost.running then s
    else
      let s' := s.each [0, 1] fun i s =>
        let high := levels.getLsbD i
        let now := s.ibit F.GHOST_STATUS_TAMP_NOW i
        if high == s.ghost.tampHigh.contains i && high != now then (if high then s.tamper i else s.tamperEnd i) else s
      s'.mapGhost fun g => { g with tampHigh := [0, 1].filter fun i => levels.getLsbD i }

/-! Main power goes and comes (R645, R651 to R656, R659) -/

/-- Main power is absent from now on (R645): the keeper carries time; an edge passed without a close is closed at once (R653). -/
def State.losePower (s : State) : State :=
  if s.ghost.absent then s
  else
    let k := s.keeperNow
    let s := s.rebaseKeeper.mapGhost fun g => { g with
      absent := true, outStart := k, closed := false, deferred := false
      keeper := { g.keeper with allLearned := s.learned (s.get F.GHOST_KEEPER_BAND) } }
    s.outageClose (s.get F.GHOST_LEVELS_VSTOR)

/-- The key shadow loaded from the one-time-programmable memory (R651). -/
def State.loadShadow (s : State) : State := s.mapGhost fun g => { g with shadow := s.power.otp.key }

/-- The outage's bounds and error recorded, and datum time taken up (R47, R656). -/
def State.takeUpTime (s : State) : State :=
  let valid := s.ghost.running && s.ghost.header
  let now := s.keeperNow
  let start := s.ghost.outStart
  let s := s.mapGhost fun g => { g with absent := false }
  let s := { s with datum := if valid then now else 0, disc := { s.disc with running := true } }
  let s := s.setBit F.DATUM_STATUS_ORIGIN valid
  let s := (s.setPair Reg.GHOST_OUT_START_LO (if valid then start else 0)).setPair Reg.GHOST_OUT_END_LO (if valid then now else 0)
  if valid then
    let ppm := if s.ghost.keeper.allLearned then 25 else 200
    let err := (s.bandPeriod (s.get F.GHOST_KEEPER_BAND) / 65536 + (now - start) * ppm / 1000000) / 1000
    ((s.setTop F.GHOST_OUT_ERR_BOUND err).count F.GHOST_OUTAGES_COUNT).raise 24
  else s.set F.GHOST_OUT_ERR_BOUND 0xFFFFFFFF

/-- A retained record enters the atlas where it is not there already (R659). -/
def State.enterMissing (r : Rec) (s : State) : State :=
  if s.meter.atlas.any fun x => x.seq == r.seq then s else s.enterAtlas r

/-- The records of retention memory enter the atlas (R412, R415, R659). -/
def State.enterRetained (s : State) : State :=
  let s := match s.ghost.last with
    | some r => s.enterMissing r
    | none => s
  match s.ghost.out with
  | none => s
  | some r =>
    let s := s.when r.mac.isSome (State.enterMissing r)
    let s := s.when s.ghost.deferred fun s => (s.count F.METER_SEAL_DEFER_COUNT).raise 161
    s.mapGhost fun g => { g with out := none, deferred := false, last := some r }

/-- The start of the interval that contains the present datum time (R398). -/
def State.intervalStart (s : State) : Nat := edgeAfter s.intervalLen s.utcShift s.datum - s.intervalLen

/-- A new interval after a restart (R406, R413): it opens at its edge, UNMETERED where it had begun before, and with POWER_LOSS where main power
was absent. -/
def State.reopen (lost : Bool) (s : State) : State :=
  let r := s.intervalStart
  s.openInterval r 0 (if r < s.datum then 2 ^ mq.unmetered + (if lost then 2 ^ mq.powerLoss else 0) else 0)

/-- Metering after a reset that reached it (R410 to R415, R659): resumed from retention, or a new chain. -/
def State.startMeter (lost : Bool) (s : State) : State :=
  match s.retOk, s.latestCopy with
  | true, some c =>
    let s := (s.mapCore fun _ => c).enterRetained
    let s := (s.each (List.range 4) fun n s => s.setBacklog n (Sparse.get (fun _ => 0) c.backlog n)).pulseHold
    let s := s.setBit F.METER_STATUS_DIR s.meter.core.dir
    let s := s.mapMeter fun m => { m with lastRefresh := s.elapsed }
    if !lost then s.showAtlas
    else match s.meter.core.ivals with
      | h :: _ =>
        if s.datum < h.stop then
          let s := s.mapCore fun c => { c with ivals := c.ivals.map (spoil s.ghost.outStart) }
          (s.quality s.datum mq.powerLoss).showAtlas
        else
          let e := s.meter.core.lastEnd
          let s := s.when (e < s.intervalStart) (State.gapRecord e s.intervalStart (2 ^ mq.powerLoss + 2 ^ mq.unmetered))
          s.openInterval s.intervalStart 0 (2 ^ mq.powerLoss + 2 ^ mq.unmetered)
      | [] =>
        let e := s.meter.core.lastEnd
        let s := s.when (e < s.intervalStart) (State.gapRecord e s.intervalStart (2 ^ mq.powerLoss + 2 ^ mq.unmetered))
        s.openInterval s.intervalStart 0 (2 ^ mq.powerLoss + 2 ^ mq.unmetered)
  | _, _ =>
    let s := (s.mapCore fun _ => { chainNew := true }).setBit F.METER_STATUS_RET_LOST true
    let s := s.mapGhost fun g => { g with last := none, out := none, deferred := false, copyA := none, copyB := none }
    let s := s.mapMeter fun m => { m with lastRefresh := s.elapsed }
    (s.raise 163).reopen lost

/-- The domain's part of an internal start (R651, R652, R656, R659): the key shadow, a pending seal, datum time, retention, and what is
owed. `lost`: main power was absent; `meter`: the reset reached the METER block. -/
def State.ghostStart (lost meter : Bool) (s : State) : State :=
  let s := s.when (!s.ghost.running) State.domainStart
  let s := (s.mapGhost fun g => { g with store := false }).setBit F.GHOST_STATUS_PF_WARN false
  let s := s.loadShadow
  let s := s.when lost fun s =>
    let s := s.outageClose (s.get F.GHOST_LEVELS_VSTOR)
    match s.ghost.out with
    | some r => s.when r.mac.isNone (State.sealOutage false)
    | none => s
  let s := (s.setBit F.GHOST_STATUS_KEEPER_OK s.ghost.header).setBit F.GHOST_STATUS_RET_OK s.retOk
  let s := s.when lost State.takeUpTime
  let s := s.when meter (State.startMeter lost)
  let owed := s.ghost.owed
  let s := s.each owed fun e s => s.raiseAt e.stamp e.num e.inst
  let s := s.when s.ghost.lostOwed fun s => s.raise 26
  let s := s.mapGhost fun g => { g with header := true, owed := [], lostOwed := false, closed := false }
  s.when (s.get F.GHOST_LEVELS_VSTOR < vSeal) fun s => s.raise 28

end Sys2Proof.Machine
end

