-- ==== Sys2Proof/Machine/Datum.lean ====
section
/-! DEFINITION. Sys2Proof/Machine/Datum.lean: datum time, its discipline, PPS, the meridian link and the EVIO time functions
(spec/02). -/

namespace Sys2Proof.Machine

/-! Discipline (R50 to R55) -/

/-- The discipline state (DATUM_STATUS.DISC): 0 FREE, 1 ACQUIRE, 2 LOCKED, 3 HOLDOVER. -/
def State.discState (s : State) : Nat := s.get F.DATUM_STATUS_DISC

/-- The device is a follower (DATUM_MER_CTRL.ROLE). -/
def State.follower (s : State) : Bool := s.bit F.DATUM_MER_CTRL_ROLE

/-- PPSIN is the active reference (R51). -/
def State.ppsActive (s : State) : Bool := !s.follower && s.bit F.DATUM_PPS_CFG_ENABLE

/-- DOMAIN_OK follows role and discipline (R85). -/
def State.setDomainOk (s : State) : State := s.setBit F.DATUM_STATUS_DOMAIN_OK (!s.follower || s.discState == 2)

/-- With QUAL a PPS output is high only in LOCKED or HOLDOVER (R99): otherwise a pulse under way ends; in tableau an active pulse keeps its
level until exit (R596). -/
def State.ppsQualify (s : State) : State :=
  if s.bit F.DATUM_PPS_OUT_QUAL && s.discState < 2 then
    s.each ((List.range 4).filter fun n => s.evioFunc n == 2 && (Sparse.get (fun _ => none) s.router.ppsEnd n).isSome) fun n s =>
      if s.tableau then
        { s with router := { s.router with ppsEnd := Sparse.set (fun _ => none) s.router.ppsEnd n (some s.elapsed) } }
      else
        { s with router := { s.router with
            evioPin := Sparse.set (fun _ => .highZ) s.router.evioPin n .low
            ppsEnd := Sparse.set (fun _ => none) s.router.ppsEnd n none } }
  else s

/-- A change of the discipline state (R47, R54): DISC_STATE is raised, the holdover timer starts when LOCKED is left and stops on
entry to LOCKED or FREE, and entry to LOCKED records the origin. -/
def State.setDisc (v : Nat) (s : State) : State :=
  let old := s.discState
  if old = v then s
  else
    let s := (s.set F.DATUM_STATUS_DISC v).raise 35
    let s := { s with disc := { s.disc with
      bad := 0, missRun := 0
      holdover := if v = 2 || v = 0 then none else if old = 2 then some s.elapsed else s.disc.holdover } }
    let s := (s.when (v == 2) fun s => s.set F.DATUM_STATUS_ORIGIN (if s.follower then 4 else 3)).setDomainOk
    s.ppsQualify

/-- What waits for an instant of datum time or keeps one, after a step from `old` (the curtain is down, R48, R53): waits for a round
boundary end, records of the engine and of casting start afresh, the bearing's base moves with the step. -/
def State.rebase (old : Nat) (s : State) : State :=
  let s := { s with
    conv := { s.conv with slotWait := s.conv.slotWait.filter fun (e : Nat × Option SlotWait) => e.2.any fun (w : SlotWait) => w.until_.isNone, runWait := none }
    cast := { s.cast with requests := [], zsDue := none, zsLast := 0 } }
  let s := s.each (List.range 3) fun x s => s.setEng x { s.eng x with
    ics := [], vg := none, base := none, lastTa := none, fast := none, fe := none }
  let s := s.mapEngine fun e => { e with filtWait := none, vnStamp := none }
  s.mapBear fun b => { b with stamp := (((b.stamp : Int) + s.datum - old)).toNat }

/-- A step of datum time to a new value (R50, R53, R718): the router is flushed, frame timing restarts, the open metering interval is
closed, STEPPED is set and DATUM_STEP is raised with the first datum time after the step. DESIGN CHOICE (log 198): a PPS acceptance window
open at the step is given up; its edge is forgotten, and no window whose boundary is at or before the new datum time is judged. -/
def State.stepDatum (new : Nat) (s : State) : State :=
  let old := s.datum
  let s := s.flushRouter
  let s := { s with datum := new, disc := { s.disc with accepted := none, judged := new } }
  let s := (s.setBit F.DATUM_STATUS_STEPPED true).raise 36
  let s := { s with mer := { s.mer with lastSlot := none } }
  ((s.frameRestart old).rebase old).closeForStep old

/-- The largest magnitude of the trim (R52): 100 ppm and SLEW_MAX, in 0.01 ppb. -/
def State.slewLimit (s : State) : Int := min 100 (s.get F.DATUM_DISC_CTRL_SLEW_MAX) * 100000

/-- A servo update (R52): the trim the servo reaches, within 100 ppm and SLEW_MAX. -/
def State.servoUpdate (s : State) : State :=
  (s.setInt F.DATUM_FREQ_TRIM_TRIM (clamp (-s.slewLimit) s.slewLimit (Config.servoTrim s.free))).nextFree

/-- The servo slews at SLEW_MAX against the error where a step is not permitted (R53): a positive error is a datum time that runs ahead, so
STAGE is slowed. -/
def State.servoSlew (err8 : Int) (s : State) : State :=
  s.setInt F.DATUM_FREQ_TRIM_TRIM (if 0 < err8 then -s.slewLimit else s.slewLimit)

def State.setLockCount (n : Nat) (s : State) : State := { s with disc := { s.disc with lockCount := n } }

/-- An accepted reference measurement with its error in units of 0.125 ns (R53 to R55). -/
def State.measure (err8 : Int) (pps : Bool) (s : State) : State :=
  let thresh : Int := if pps then s.get F.DATUM_DISC_CTRL_LOCK_THRESH * 10 * 8 else 40
  let need := if pps then s.get F.DATUM_DISC_CTRL_LOCK_COUNT else 64
  match s.discState with
  | 0 => (s.setLockCount 0).setDisc 1
  | 1 =>
    let far := (s.get F.DATUM_DISC_CTRL_STEP_LIMIT * 100 * 8 : Int) < |err8|
    if far && s.curtainDown then
      (s.stepDatum (((s.datum : Int) - err8 / 16 * 2).toNat)).setLockCount 0
    else
      let s := if far then s.servoSlew err8 else s.servoUpdate
      if |err8| ≤ thresh then
        let s := s.setLockCount (s.disc.lockCount + 1)
        s.when (need ≤ s.disc.lockCount) (State.setDisc 2)
      else s.setLockCount 0
  | 2 =>
    let s := s.servoUpdate
    if pps then s
    else if 160 < |err8| then
      let s := { s with disc := { s.disc with bad := s.disc.bad + 1 } }
      s.when (8 ≤ s.disc.bad) fun s => (s.setLockCount 0).setDisc 1
    else { s with disc := { s.disc with bad := 0 } }
  | _ => (s.setLockCount 0).setDisc 1

/-- ACQUIRE without its reference (R54): HOLDOVER while the holdover timer runs, else FREE. -/
def State.loseAcquire (s : State) : State := s.setDisc (if s.disc.holdover.isSome then 3 else 0)

/-- DATUM_SET (R48 to R50). -/
def execDatumSet (t : Nat) (d : Desc) (s : State) : Host.Outcome State Fault Refusal :=
  s.run t fun s =>
    let v := d.p0.toNat + 2 ^ 32 * d.p1.toNat
    let rel := d.target.toNat == 1
    let off := signed 64 v
    let new : Int := if rel then s.datum + off else v
    s.checked d
      [(1 < d.target.toNat, st.targetRange, 0),
       (d.len ≠ 0, st.lenRange, 0),
       (v % 2 = 1, st.targetRange, 0x10),
       (!s.curtainDown, st.stateRefused, 1),
       (s.follower, st.stateRefused, 2),
       (!rel && s.discState == 2, st.stateRefused, 3),
       (rel && s.discState == 2 && off % second ≠ 0, st.stateRefused, 4),
       (rel && (new < 0 || 2 ^ 64 ≤ new), st.targetRange, 0x20)]
      fun s => ((s.stepDatum new.toNat).set F.DATUM_STATUS_ORIGIN 2).finish d

/-! The PPS input (R57 to R63) -/

/-- The stamp of a rising edge whose 16th high sample is now (R57, R58). -/
def State.edgeStamp (s : State) (comp : Int) : Int := (s.datum : Int) - 32 - 2 * Config.syncTicks - comp

/-- The second boundary nearest to an instant (the error lies in [-0.5 s, +0.5 s)). -/
def nearestSecond (x : Int) : Int := (x + 500000000) / second * second

/-- W of R59 in ns. -/
def State.ppsWin (s : State) : Int := s.get F.DATUM_PPS_CFG_WIN * 100

/-- A stamp lies inside the acceptance window of its second boundary (R59). -/
def State.ppsInside (s : State) (stamp : Int) : Bool :=
  nearestSecond stamp - s.ppsWin ≤ stamp && stamp < nearestSecond stamp + s.ppsWin

/-- The latest second boundary whose window has ended at an instant of the edge stamps' time (R60). -/
def State.ppsEnded (s : State) (x : Int) : Nat := ((x - s.ppsWin) / second * second).toNat

/-- An accepted edge (R62, R63): recorded, raised, and steering where PPSIN is the active reference (R51). Only an edge inside its window is
that window's edge (R59); where the edge brings LOCKED, windows that have ended by then are not judged (R60). -/
def State.ppsAccept (stamp : Int) (s : State) : State :=
  let e := nearestSecond stamp
  let active := s.ppsActive
  let locked := s.discState == 2
  let s := { s with disc := { s.disc with
    lastEdge := some s.elapsed, accepted := if s.ppsInside stamp then some e.toNat else none, missRun := 0 } }
  let s := (s.setPair Reg.DATUM_PPS_LAST_LO stamp.toNat).setBit F.DATUM_STATUS_PPS_PRESENT true
  let s := s.raiseAt stamp.toNat 32 0
  let s := s.when (!s.follower) fun s => s.setInt F.DATUM_PHASE_ERR_ERR (stamp - e)
  let s := s.when active (State.measure ((stamp - e) * 8) true)
  s.when (!locked && s.discState == 2) fun s =>
    { s with disc := { s.disc with judged := max s.disc.judged (s.ppsEnded stamp) } }

/-- A rejected edge (R63). -/
def State.ppsReject (stamp : Int) (s : State) : State := (s.count F.DATUM_PPS_REJECT_COUNT).raiseAt stamp.toNat 33 0

/-- PPSIN_EDGE (R57 to R63): in LOCKED on PPSIN the acceptance window judges the edge, otherwise its spacing from the previous
accepted edge, in elapsed time. -/
def execPpsinEdge (t : Nat) (s : State) : Host.Outcome State Fault Refusal :=
  s.run t fun s =>
    let stamp := s.edgeStamp (s.getInt F.DATUM_PPS_COMP_COMP)
    if s.ppsActive && s.discState == 2 then
      if s.ppsInside stamp && s.disc.accepted != some (nearestSecond stamp).toNat then s.ppsAccept stamp
      else s.ppsReject stamp
    else
      let tol := s.get F.DATUM_PPS_CFG_PERIOD_TOL * 1000
      match s.disc.lastEdge with
      | none => s.ppsAccept stamp
      | some t0 =>
        let gap := s.elapsed - t0
        if 1500000000 ≤ gap || (second - tol ≤ gap && gap < second + tol) then s.ppsAccept stamp
        else s.ppsReject stamp

/-- PPS_WINDOW_END (R59, R60): the window of the latest boundary has ended without an accepted edge. DESIGN CHOICE (log 199): it is judged once
an edge at the window's end would have been filtered and stamped, at datum time E + W + 32 ns + the synchroniser's latency +
DATUM_PPS_COMP, and PPS_MISSING is stamped with the present datum time. -/
def execPpsWindowEnd (t : Nat) (s : State) : Host.Outcome State Fault Refusal :=
  s.run t fun s =>
    let e := s.ppsEnded (s.edgeStamp (s.getInt F.DATUM_PPS_COMP_COMP))
    if s.ppsActive && s.discState == 2 && s.disc.judged < e then
      let s := { s with disc := { s.disc with judged := e } }
      if s.disc.accepted == some e then s
      else
        let s := (s.count F.DATUM_PPS_MISS_COUNT).raise 34
        let s := { s with disc := { s.disc with missRun := s.disc.missRun + 1 } }
        s.when (s.get F.DATUM_DISC_CTRL_PPS_LOSS ≤ s.disc.missRun) (State.setDisc 3)
    else s

/-- PPS_PRESENT_TIMEOUT (R62). -/
def execPpsPresentTimeout (t : Nat) (s : State) : Host.Outcome State Fault Refusal :=
  s.run t fun s => s.when (s.due s.disc.lastEdge 1500000000) fun s => s.setBit F.DATUM_STATUS_PPS_PRESENT false

/-- REFERENCE_TIMEOUT (R54, R55): ACQUIRE loses its reference. -/
def execReferenceTimeout (t : Nat) (s : State) : Host.Outcome State Fault Refusal :=
  s.run t fun s =>
    let lost := if s.follower then !s.bit F.DATUM_MER_STATUS_LINK_UP
      else match s.disc.lastEdge with
        | none => true
        | some t0 => s.expired t0 1500000000
    s.when (s.discState == 1 && lost) State.loseAcquire

/-- HOLDOVER_EXPIRED (R54). -/
def execHoldoverExpired (t : Nat) (s : State) : Host.Outcome State Fault Refusal :=
  s.run t fun s =>
    if s.due s.disc.holdover (s.get F.DATUM_HOLD_MAX_SECONDS * second) then
      let s := { s with disc := { s.disc with holdover := none } }.raise 37
      s.when (s.discState == 3) (State.setDisc 0)
    else s

/-- A write of DATUM_MER_CTRL (R104): a change of ROLE or ADDR needs the curtain LOWERED or LOCKED; a change of ROLE takes the
discipline to FREE with the trim kept (R54), and messages that only a grandmaster sends are due no more (R86). -/
def State.writeMerCtrl (data : Word) (s : State) : State :=
  let role := bitsOf data.toNat 1 1
  let addr := bitsOf data.toNat 16 16
  let roleChange := role ≠ s.get F.DATUM_MER_CTRL_ROLE
  if (roleChange || addr ≠ s.get F.DATUM_MER_CTRL_ADDR) && !s.curtainDown then
    s.setBit F.DATUM_STATUS_CFG_REJECT true
  else
    let s := s.set F.DATUM_MER_CTRL_ROLE role
    let s := s.set F.DATUM_MER_CTRL_ADDR addr
    let s := s.set F.DATUM_MER_CTRL_ENABLE (bitsOf data.toNat 0 1)
    let s := s.when (role == 0) fun s => s.set F.DATUM_MER_STATUS_GM_ADDR addr
    let s := s.when roleChange fun s => { s with mer := { s.mer with announceDue := false, signatureDue := false } }
    (s.when roleChange fun s => (s.setLockCount 0).setDisc 0).setDomainOk

/-- ROLE_CHANGE (R104). -/
def execRoleChange (t : Nat) (data : Word) (s : State) : Host.Outcome State Fault Refusal :=
  s.run t fun s => s.bar0 Reg.DATUM_MER_CTRL data (State.writeMerCtrl data)

/-! The meridian link (R74 to R97) -/

/-- The next MSG_SEQ. -/
def State.takeSeq (s : State) : State := { s with mer := { s.mer with nextSeq := (s.mer.nextSeq + 1) % 65536 } }

/-- The payload of ANNOUNCE (R88). DESIGN CHOICE (log 200): the seconds elapsed in HOLDOVER are those of the holdover timer, since LOCKED was
left; after HOLDOVER, ACQUIRE, HOLDOVER they count the stay in ACQUIRE too. -/
def State.announceBytes (s : State) : List Byte :=
  leBytes 2 (s.get F.DATUM_MER_CTRL_ADDR) ++ leBytes 1 s.discState ++ leBytes 1 (s.get F.DATUM_STATUS_ORIGIN) ++
    leBytes 2 (s.get F.DATUM_UTC_OFFSET_SECONDS) ++ leBytes 2 0 ++
    leBytes 4 (if s.discState = 3 then (match s.disc.holdover with
      | some t0 => (s.elapsed - t0) / second
      | none => 0) else 0) ++ leBytes 28 0

/-- A slot of this device without a message (R78). -/
def State.bareSlot (s : State) (tTx : Nat) : MerSlot :=
  { slotNum := tTx / 8000 % 65536, src := s.get F.DATUM_MER_CTRL_ADDR
    level := if s.follower then 0xFF else 0, disc := s.discState, follower := s.follower
    echoValid := s.mer.peer.isSome, tTx := tTx
    tEcho := match s.mer.peer with
      | some p => p.1
      | none => 0
    echoSlot := match s.mer.peer with
      | some p => p.2
      | none => 0
    mtype := 0, mlen := 0, dest := 0, seq := 0, broadcast := false, payload := [] }

/-- Characters 2 to 75 of a slot (R78). -/
def slotChars (b : MerSlot) : List Byte :=
  let flags := b.disc % 4 + (if b.follower then 4 else 0) + (if b.echoValid then 8 else 0)
  leBytes 2 b.slotNum ++ leBytes 2 b.src ++ leBytes 1 b.level ++ leBytes 1 flags ++ leBytes 8 b.tTx ++ leBytes 8 b.tEcho ++
    leBytes 2 b.echoSlot ++ leBytes 2 0 ++ leBytes 1 b.mtype ++ leBytes 1 b.mlen ++ leBytes 2 b.dest ++ leBytes 2 b.seq ++
    leBytes 1 (if b.broadcast then 1 else 0) ++ leBytes 1 0 ++ (b.payload ++ leBytes 40 0).take 40

/-- The characters D10.2 and D5.6. -/
abbrev d10_2 : Byte := 0x4A
abbrev d5_6 : Byte := 0xC5

/-- The 1 000 symbols of a slot (R74, R78): the comma, the start of slot, the fields, their CRC-32 and 460 idle pairs. -/
def slotSymbols (b : MerSlot) : List MerSymbol :=
  [.k285, .data d10_2] ++ (slotChars b ++ leBytes 4 (crc32 (slotChars b)).toNat).map .data ++ (List.replicate 460 [.k285, .data d5_6]).flatten

/-- The number in `n` characters of a slot from character `i`, `c` its characters from 2 on. -/
def slotField (c : List Byte) (i n : Nat) : Nat := ofLe ((c.drop (i - 2)).take n)

/-- The fields of a slot, read from its characters 2 to 75 (R78). -/
def readSlot (c : List Byte) : MerSlot :=
  { slotNum := slotField c 2 2, src := slotField c 4 2, level := slotField c 6 1, disc := slotField c 7 1 % 4
    follower := (slotField c 7 1).testBit 2, echoValid := (slotField c 7 1).testBit 3, tTx := slotField c 8 8
    tEcho := slotField c 16 8, echoSlot := slotField c 24 2, mtype := slotField c 28 1, mlen := slotField c 29 1
    dest := slotField c 30 2, seq := slotField c 32 2, broadcast := (slotField c 34 1).testBit 0
    payload := (c.drop 34).take (slotField c 29 1) }

/-- The message a slot carries, chosen in the order of R87: the slot and the state after the choice. -/
def State.chooseMessage (b : MerSlot) (s : State) : MerSlot × State :=
  match s.mer.acks with
  | a :: as => ({ b with mtype := 1, dest := a.dest, seq := a.seq }, { s with mer := { s.mer with acks := as } })
  | [] =>
    if s.mer.announceDue && !s.follower then
      ({ b with mtype := 2, mlen := 40, seq := s.mer.nextSeq, broadcast := true, payload := s.announceBytes },
        { s with mer := { s.mer with announceDue := false } }.takeSeq)
    else if s.mer.signatureDue && !s.follower then
      let p := s.signatureBytes
      ({ b with mtype := 3, mlen := p.length, seq := s.mer.nextSeq, broadcast := true, payload := p },
        { s with mer := { s.mer with signatureDue := false } }.takeSeq)
    else
      let waiting := s.mer.outstanding.filter fun m => m.sentAt.isNone
      match (waiting.filter fun m => m.retry) ++ (waiting.filter fun m => !m.retry) with
      | [] => (b, s)
      | m :: _ =>
        let b := { b with mtype := m.mtype, mlen := m.payload.length, dest := m.dest, seq := m.seq
                          broadcast := m.broadcast, payload := m.payload }
        if m.broadcast then
          (b, { s with mer := { s.mer with outstanding := s.mer.outstanding.erase m } }.complete m.desc st.done m.seq
            b.tTx)
        else
          (b, { s with mer := { s.mer with
            outstanding := s.mer.outstanding.map fun x => if x = m then { x with sentAt := some s.elapsed } else x } })

/-- A slot boundary has been reached whose slot has not been sent (R78); on the crystal datum time moves 40 ns at a time (spec/15 R617). -/
def State.atSlot (s : State) : Bool :=
  s.datum % 8000 < (if s.power.stageByp then 40 else 2) && s.mer.lastSlot != some (s.datum / 8000 * 8000)

/-- MERIDIAN_SLOT_SEND (R76, R78, R87, R88): at a slot boundary one slot leaves with at most one message; nothing but idle is sent
while ENABLE is 0. -/
def execMeridianSlotSend (t : Nat) (s : State) : Host.Outcome State Fault Refusal :=
  s.run t fun s =>
    if !s.bit F.DATUM_MER_CTRL_ENABLE || !s.atSlot then s
    else
      let tTx := s.datum / 8000 * 8000
      let gm := !s.follower
      let s := { s with mer := { s.mer with
        lastSlot := some tTx
        announceDue := s.mer.announceDue || (gm && tTx % second == 0)
        signatureDue := s.mer.signatureDue || (gm && tTx % second == 8000) } }
      let r := s.chooseMessage (s.bareSlot tTx)
      { r.2 with mer := { r.2.mer with
          out := r.2.mer.out ++ [slotSymbols r.1]
          sent := ((r.1.slotNum, tTx) :: r.2.mer.sent).take 16 } }

/-- A received slot is valid (R76, R79), given its characters 2 to 75 and the CRC in characters 76 to 79. -/
def State.slotValid (s : State) (fields : List Byte) (crc : Word) : Bool :=
  let b := readSlot fields
  crc32 fields == crc && b.mlen ≤ 40 && (b.level ≤ 8 || (b.level == 0xFF && !s.follower)) && b.tTx % 8000 == 0 &&
    b.slotNum == b.tTx / 8000 % 65536

/-- A meridian offset in ns as DATUM_PHASE_ERR shows it (R102): rounded to 2 ns and saturated. -/
def phaseErr (offset8 : Int) : Int := clamp (-2147483648) 2147483646 ((offset8 + 8) / 16 * 2)

/-- Two-way time transfer of a follower on a valid slot (R81, R82). DESIGN CHOICE (log 201): where a sum is odd, the half unit of 0.125 ns is
rounded down. -/
def State.timeTransfer (b : MerSlot) (rx8 : Nat) (s : State) : State :=
  match s.mer.sent.find? fun x => x.1 == b.echoSlot with
  | none => s
  | some own =>
    let t1 : Int := 8 * b.tTx
    let t2 : Int := rx8
    let t3 : Int := 8 * own.2
    let t4 : Int := 8 * b.tEcho
    let delay := ((t2 - t1) + (t4 - t3)) / 2
    let offset := ((t2 - t1) - (t4 - t3) - s.getInt F.DATUM_MER_ASYM_A) / 2
    if b.echoValid && |t1 - t3| ≤ 256000 && 0 ≤ delay && delay < 400000 && (s.discState ≠ 2 || |offset| ≤ 8000) then
      let s := s.setInt F.DATUM_MER_DELAY_DELAY delay
      let s := s.setInt F.DATUM_MER_OFFSET_OFFSET offset
      let s := s.setInt F.DATUM_PHASE_ERR_ERR (phaseErr offset)
      s.measure offset false
    else s

/-- The bytes of a receive-box entry (R97). -/
def rxBytes (stamp : Nat) (b : MerSlot) : List Byte :=
  leBytes 8 stamp ++ leBytes 2 b.src ++ leBytes 1 b.mtype ++ leBytes 1 b.mlen ++ leBytes 2 b.seq ++
    leBytes 1 (if b.broadcast then 1 else 0) ++ [0] ++ (b.payload ++ leBytes 40 0).take 40 ++ leBytes 8 0

/-- Bytes stored into consecutive registers, four to a dword. -/
def State.putDwords : Nat → Nat → List Byte → State → State
  | 0, _, _, s => s
  | n + 1, a, bs, s => State.putDwords n (a + 4) (bs.drop 4) (s.setReg a (BitVec.ofNat 32 (ofLe (bs.take 4))))

/-- A host message for this device (R95, R96): a repeat is acknowledged again and counted; otherwise it takes the lowest free entry
of the receive box, or is dropped. -/
def State.hostMessage (b : MerSlot) (stamp : Nat) (s : State) : State :=
  let ack := fun (s : State) => s.when (!b.broadcast) fun s =>
    { s with mer := { s.mer with acks := s.mer.acks ++ [({ dest := b.src, seq := b.seq } : MerAck)] } }
  if s.mer.recent.contains (b.src, b.seq) then (ack s).count F.DATUM_MER_DUP_COUNT
  else
    match (List.range 8).find? fun n => !s.ibit F.DATUM_MER_RXBOX_CTRL_FULL n with
    | none => (s.count F.DATUM_MER_RX_DROP_COUNT).raiseAt stamp 41 0
    | some n =>
      let s := s.putDwords 16 (0x1900 + 64 * n) (rxBytes stamp b)
      let s := s.setIbit F.DATUM_MER_RXBOX_CTRL_FULL n true
      let s := { s with mer := { s.mer with
        recent := ((b.src, b.seq) :: s.mer.recent.filter fun x => x.1 != b.src).take 16 } }
      (ack s).raiseAt stamp 40 n

/-- DATUM_MER_ACK_TO slots have gone by since a message was sent (R45, R91). -/
def State.ackLate (s : State) (m : MerMsg) : Bool := s.due m.sentAt (s.get F.DATUM_MER_ACK_TO_SLOTS * 8000)

/-- An ACK for a message of this device (R91, R93): one that comes later than its limit is none. -/
def State.gotAck (b : MerSlot) (stamp : Nat) (s : State) : State :=
  match s.mer.outstanding.find? fun m => m.seq == b.seq && m.dest == b.src && !m.broadcast && m.sentAt.isSome &&
      !s.ackLate m with
  | none => s
  | some m =>
    let s := { s with mer := { s.mer with outstanding := s.mer.outstanding.erase m } }
    let s := s.when m.retry fun s => s.transient F.DATUM_MER_TRANSIENT_COUNT
    s.complete m.desc st.done m.seq stamp

/-- The message of a valid slot (R86, R88, R95). -/
def State.slotMessage (b : MerSlot) (stamp : Nat) (s : State) : State :=
  let mine := b.dest == s.get F.DATUM_MER_CTRL_ADDR
  if b.mtype = 1 then s.when mine (State.gotAck b stamp)
  else if b.mtype = 2 then
    s.when (s.follower && b.broadcast) fun s =>
      let s := s.set F.DATUM_MER_STATUS_GM_ADDR (ofLe (b.payload.take 2))
      let utc := ofLe ((b.payload.drop 4).take 2)
      let changes := s.get F.DATUM_UTC_OFFSET_SECONDS != utc
      (s.set F.DATUM_UTC_OFFSET_SECONDS utc).when (changes && s.bit F.METER_CFG_ALIGN_UTC) State.meterCfgChanged
  else if b.mtype = 3 then s.when (s.follower && b.broadcast) (State.gotSignature b.payload)
  else if 0x80 ≤ b.mtype then s.when (b.broadcast || mine) (State.hostMessage b stamp)
  else s

/-- The slot now received comes in the slot period after the latest valid one (R80), to the nearest whole period; a run of consecutive valid
slots ends with a period in which none came. DESIGN CHOICE (log 202). -/
def State.slotFollows (s : State) : Bool :=
  match s.mer.lastValid with
  | none => false
  | some t0 => s.elapsed < t0 + 12000

/-- MERIDIAN_SLOT_RECEIVED (R76 to R82, R86, R93, R95, R96). -/
def execMeridianSlotReceived (t : Nat) (fields : List Byte) (crc : Word) (rx8 : Nat) (s : State) :
    Host.Outcome State Fault Refusal :=
  s.run t fun s =>
    let slot := readSlot fields
    if !s.slotValid fields crc then
      { s with mer := { s.mer with run := 0 } }.count F.DATUM_MER_CRC_ERR_COUNT
    else
      let stamp := rx8 / 16 * 2
      let s := { s with mer := { s.mer with
        run := if s.slotFollows then s.mer.run + 1 else 1, lastValid := some s.elapsed, peer := some (stamp, slot.slotNum) } }
      let s := s.when (8 ≤ s.mer.run && !s.bit F.DATUM_MER_STATUS_LINK_UP) fun s =>
        (s.setBit F.DATUM_MER_STATUS_LINK_UP true).raiseAt stamp 38 0
      let s := s.when (!s.follower && slot.level == 0 && !s.bit F.DATUM_STATUS_DUAL_GM) fun s =>
        (s.setBit F.DATUM_STATUS_DUAL_GM true).raiseAt stamp 43 0
      let s := s.when s.follower fun s =>
        (s.set F.DATUM_MER_STATUS_LEVEL slot.level).timeTransfer slot rx8
      s.slotMessage slot stamp

/-- MERIDIAN_DOWN (R54, R55, R80, R92): 16 slot periods without a valid slot. -/
def execMeridianDown (t : Nat) (s : State) : Host.Outcome State Fault Refusal :=
  s.run t fun s =>
    if s.bit F.DATUM_MER_STATUS_LINK_UP && s.due s.mer.lastValid 128000 then
      let s := { s with mer := { s.mer with run := 0 } }
      let s := (s.setBit F.DATUM_MER_STATUS_LINK_UP false).raise 39
      let lost := s.mer.outstanding.filter fun m => m.sentAt.isSome || m.retry
      let s := { s with mer := { s.mer with
        outstanding := s.mer.outstanding.filter fun m => !(m.sentAt.isSome || m.retry) } }
      let s := s.each lost fun m s => s.complete m.desc st.aborted 0x20000 s.datum
      if s.follower then
        if s.discState = 2 then s.setDisc 3 else if s.discState = 1 then s.loseAcquire else s
      else s
    else s

/-- ACK_TIMEOUT (R91): the first failure of a message leads to its retry, the second is lasting. -/
def execAckTimeout (t : Nat) (seq : Nat) (s : State) : Host.Outcome State Fault Refusal :=
  s.run t fun s =>
    match s.mer.outstanding.find? fun m => m.seq == seq && m.sentAt.isSome with
    | none => s
    | some m =>
      if s.ackLate m then
        if m.retry then
          let s := { s with mer := { s.mer with outstanding := s.mer.outstanding.erase m } }
          (s.complete m.desc st.aborted (0x10000 + m.seq) s.datum).raise 42
        else
          { s with mer := { s.mer with
            outstanding := s.mer.outstanding.map fun x => if x = m then { x with sentAt := none, retry := true } else x } }
      else s

/-- A host message queued for transmission with its payload (R89, R91). -/
def State.queueMessage (d : Desc) (payload : List Byte) (s : State) : State :=
  let m : MerMsg := { desc := d, dest := d.target.toNat, mtype := bitsOf d.p0.toNat 0 8, seq := s.mer.nextSeq
                      broadcast := d.p0.getLsbD 8, payload := payload, sentAt := none, retry := false, failed := false }
  { s with mer := { s.mer with outstanding := s.mer.outstanding ++ [m] } }.takeSeq

/-- Addressed messages that await ACK or retry (R90). -/
def State.awaitingAck (s : State) : Nat := (s.mer.outstanding.filter fun m => !m.broadcast && (m.sentAt.isSome || m.retry)).length

/-- The last two checks of R90, made at execution and again once the payload is there. -/
def State.sendChecks (s : State) : List (Bool × Nat × Nat) :=
  [(!s.bit F.DATUM_MER_STATUS_LINK_UP, st.stateRefused, 1), (8 ≤ s.awaitingAck, st.stateRefused, 2)]

/-- MERIDIAN_SEND (R89, R90): checked, then its payload is read, then it is queued. -/
def execMeridianSend (t : Nat) (d : Desc) (payload : Option (List Byte)) (s : State) :
    Host.Outcome State Fault Refusal :=
  s.run t fun s =>
    s.checked d
      ([(d.len.toNat = 0 || 40 < d.len.toNat, st.lenRange, 0),
        (d.p1 ≠ 0 || bitsOf d.p0.toNat 0 8 < 0x80 || 512 ≤ d.p0.toNat, st.targetRange, 0x10)] ++ s.sendChecks)
      fun s => match payload with
        | none => s.readPayload d
        | some bytes => s.queueMessage d bytes

/-- RXBOX_FREE (R97). -/
def execRxboxFree (t : Nat) (data : Word) (s : State) : Host.Outcome State Fault Refusal :=
  s.run t fun s => s.bar0 Reg.DATUM_MER_RXBOX_CTRL data (State.writeByAccess Reg.DATUM_MER_RXBOX_CTRL data)

/-! EVIO pins (R98 to R100) -/

/-- PPS_OUTPUT (R99): at a datum second boundary the pin of a PPS output goes high, with QUAL only in LOCKED or HOLDOVER. -/
def execPpsOutput (t : Nat) (pin : Fin 4) (s : State) : Host.Outcome State Fault Refusal :=
  s.run t fun s =>
    if s.evioFunc pin = 2 && s.datum % second = 0 && (!s.bit F.DATUM_PPS_OUT_QUAL || 2 ≤ s.discState) then
      { s with router := { s.router with
          evioPin := Sparse.set (fun _ => .highZ) s.router.evioPin pin .high
          ppsEnd := Sparse.set (fun _ => none) s.router.ppsEnd pin (some (s.elapsed + s.get F.DATUM_PPS_OUT_WIDTH * 1000)) } }
    else s

/-- PPS_OUTPUT_END (R99). -/
def execPpsOutputEnd (t : Nat) (pin : Fin 4) (s : State) : Host.Outcome State Fault Refusal :=
  s.run t fun s =>
    match Sparse.get (fun _ => none) s.router.ppsEnd pin with
    | none => s
    | some e =>
      if e ≤ s.elapsed && !s.tableau then
        { s with router := { s.router with
            evioPin := Sparse.set (fun _ => .highZ) s.router.evioPin pin .low
            ppsEnd := Sparse.set (fun _ => none) s.router.ppsEnd pin none } }
      else s

/-- EVIO_IN (R100): an edge less than 1 us after the previous accepted one is ignored. -/
def execEvioIn (t : Nat) (pin : Fin 4) (s : State) : Host.Outcome State Fault Refusal :=
  s.run t fun s =>
    let near := match Sparse.get (fun _ => none) s.router.evioEdge pin with
      | none => false
      | some t0 => s.elapsed < t0 + 1000
    if s.evioFunc pin = 3 && !near then
      { s with router := { s.router with
          evioEdge := Sparse.set (fun _ => none) s.router.evioEdge pin (some s.elapsed) } }.raiseAt
        (s.edgeStamp 0).toNat (44 + pin) pin
    else s

end Sys2Proof.Machine
end

