-- ==== Sys2Proof/Machine/Tables.lean ====
section
/-! DEFINITION. Sys2Proof/Machine/Tables.lean: the checks of every table at its load, loads and their effects, integrity checks, the
payloads of commands, self-tests (spec/13 R558 to R561, R565, and the table rules of the owning chapters). -/

namespace Sys2Proof.Machine

/-! A table as it would stand after a load -/

/-- The bytes of a table as they would stand, by offset. -/
abbrev Image := Nat → Nat

/-- The working copy with a load's bytes over it. -/
def State.image (s : State) (id off : Nat) (bytes : List Byte) : Image := fun o =>
  if off ≤ o && o < off + bytes.length then (bytes.getD (o - off) 0).toNat else s.tbl8 id o

def Image.w16 (m : Image) (o : Nat) : Nat := m o + 256 * m (o + 1)
def Image.w32 (m : Image) (o : Nat) : Nat := Image.w16 m o + 65536 * Image.w16 m (o + 2)
def Image.s16 (m : Image) (o : Nat) : Int := signed 16 (Image.w16 m o)

/-- The first item that fails a check, with the check's code and the item's number in DETAIL. -/
def failing (code : Nat) (items : List Nat) (bad : Nat → Bool) (item : Nat → Nat := id) : Option (Nat × Nat) :=
  (items.find? bad).map fun i => (code, item i)

/-- The offsets from `a` up to but not `b`. -/
def span (a b : Nat) : List Nat := (List.range (b - a)).map (a + ·)

/-- One 16-bit field with its range: offset, least, greatest. -/
abbrev Range16 := Nat × Nat × Nat

/-- The first 16-bit field outside its range. -/
def out16 (m : Image) (base : Nat) (l : List Range16) : Option Nat :=
  (l.find? fun (o, lo, hi) => !(lo ≤ Image.w16 m (base + o) && Image.w16 m (base + o) ≤ hi)).map fun (o, _, _) => o

/-- The first of several fields, by offset and its truth of being in range, that is not. -/
def outField (l : List (Nat × Bool)) : Option Nat := (l.find? fun (_, ok) => !ok).map fun (o, _) => o

/-! ROSTER (spec/01 R36, R39) -/

/-- The first entry check that cell `k`'s entry fails. -/
def rosterEntryBad (m : Image) (k : Nat) : Option Nat :=
  let o := 32 * k
  let here := fun j => m (32 * j + 3) ≠ 0
  let present : Bool := here k
  let lower := (List.range k).filter fun j => here j
  let w := fun i => Image.w16 m (o + i)
  let reserved : Bool := 4 ≤ m (o + 5) || m (o + 7) ≠ 0 || w 0x16 ≠ 0 || Image.w32 m (o + 0x1C) ≠ 0
  let fields : Bool := m (o + 1) ≠ 0 || m (o + 5) ≠ 0 || m (o + 6) ≠ 0 || (span 8 32).any fun i => m (o + i) ≠ 0
  ([(1, m o ≠ k),
    (2, 128 ≤ m (o + 1) || (present && lower.any fun j => m (32 * j + 1) = m (o + 1))),
    (3, 3 < m (o + 3) || 3 < m (o + 2) || present = (m (o + 2) = 3)),
    (4, if present then 47 < m (o + 4) || lower.any fun j => m (32 * j + 2) = m (o + 2) && m (32 * j + 4) = m (o + 4)
        else m (o + 4) ≠ 0xFF),
    (5, present && !(w 0xA < w 8 && w 8 ≤ w 0xC && w 0xC ≤ 30000)),
    (6, present && (w 0xE = 0 || 10000 < w 0xE)),
    (7, if m (o + 3) = 3 then 2 < m (o + 6) else m (o + 6) ≠ 0),
    (8, reserved || (!present && fields))] : List (Nat × Bool)).find? (fun c => c.2) |>.map fun c => c.1

/-- The checks of R39: entry by entry, then phase by phase. -/
def rosterBad (m : Image) : Option (Nat × Nat) :=
  let cells := fun x => cellIds.filter fun k => m (32 * k + 3) ≠ 0 && m (32 * k + 2) = x
  (cellIds.findSome? fun k => (rosterEntryBad m k).map fun c => (c, k)) <|>
  (List.range 3).findSome? fun x =>
    if 48 < (cells x).length then some (9, 0x80 + x)
    else if !(cells x).isEmpty && (cells x).all fun k => m (32 * k + 3) = 3 then some (10, 0x80 + x)
    else none

/-! CONTOUR_V, CONTOUR_F, VAR_CURVE, SIGNATURE (spec/05 R267) -/

/-- Offsets of a contour table that are reserved, or belong to a band or trip point that is not in use. -/
def contourReserved (freq : Bool) (nb nt : Nat) : List Nat :=
  (if freq then [3] ++ span 8 0x10 ++ span 0x1A 0x20 else [3] ++ span 0xE 0x10 ++ span 0x16 0x20) ++
  ((List.range 16).flatMap fun i =>
    let o := 0x20 + 16 * i
    if i < nb then span (o + 6) (o + 8) ++ span (o + 12) (o + 16) else span o (o + 16)) ++
  ((List.range 16).flatMap fun j =>
    let o := 0x120 + 16 * j
    if j < nt then [o + 3] ++ span (o + 8) (o + 16) else span o (o + 16)) ++ span 0x220 0x400

/-- The checks of a contour table; `rocof`: ROCOF_LIM while PASSIVE_TRIP is 1 (R253). -/
def contourBad (m : Image) (freq : Bool) (rocof : Option Nat) : Option (Nat × Nat) :=
  let w := Image.w16 m
  let nb := m 1
  let nt := m 2
  let lo := fun i => w (0x20 + 16 * i)
  let hi := fun i => w (0x22 + 16 * i)
  let reg := fun i => m (0x24 + 16 * i)
  let after := fun i => m (0x25 + 16 * i)
  let dur := fun i => Image.w32 m (0x28 + 16 * i)
  let bands := List.range nb
  let normals := bands.filter fun i => reg i = 0
  let n := normals.headD 0
  let header := if freq then
      out16 m 0 [(0x10, 17, 1000), (0x12, 17, 1000), (0x14, 20, 100), (0x16, 20, 100), (0x18, 1, 1000)]
    else out16 m 0 [(8, 0, 3600), (0xA, 0, 10000), (0xC, 1, 10000), (0x10, 0, 1000), (0x12, 0, 1000), (0x14, 0, 2000)]
  if m 0 ≠ 1 || nb = 0 || 16 < nb || 16 < nt then some (0x20, 0xFF)
  else
    failing 0x21 bands (fun i => lo i ≠ (if i = 0 then 0 else hi (i - 1)) || hi i ≤ lo i || (i + 1 = nb && hi i ≠ 0xFFFF)) <|>
    failing 0x22 bands (fun i => 4 < reg i || 4 < after i || after i < reg i || (freq && (reg i = 3 || after i = 3)) ||
      (reg i = 0 && (i ≠ n || dur i ≠ 0xFFFFFFFF))) <|>
    (if normals.isEmpty then some (0x22, 0xFF) else none) <|>
    failing 0x23 (List.range nt) (fun j => 1 < m (0x122 + 16 * j) || Image.w32 m (0x124 + 16 * j) = 0 ||
      w (0x120 + 16 * j) = 0 || w (0x120 + 16 * j) = 0xFFFF) <|>
    (if header.isSome || w 6 < w 4 || w 4 < lo n || hi n < w 6 then some (0x24, 0xFE) else none) <|>
    failing 0x27 (contourReserved freq nb nt) (fun o => m o ≠ 0) (· / 4) <|>
    match rocof with
    | some lim => if freq && lim < w 0x18 then some (0x28, 0x18) else none
    | none => none

/-- The first point of a list of inputs that is not above its predecessor. -/
def notAscending (n : Nat) (x : Nat → Int) : Option Nat := (span 1 n).find? fun i => x i ≤ x (i - 1)

/-- The checks of VAR_CURVE (R235, R267). -/
def varCurveBad (m : Image) : Option (Nat × Nat) :=
  let mode := m 0
  let count := fun (n : Nat) (used : Bool) => if used then 2 ≤ n && n ≤ 8 else n = 0
  let pf := (Image.s16 m 4).natAbs
  if 4 < mode || !count (m 1) (mode = 3) || !count (m 2) (mode = 4) then some (0x25, 0xFE)
  else
    ((notAscending (m 1) fun i => (Image.w16 m (0x10 + 4 * i) : Int)).map fun i => (0x25, i)) <|>
    ((notAscending (m 2) fun i => Image.s16 m (0x30 + 4 * i)).map fun i => (0x25, i)) <|>
    (if (out16 m 0 [(6, 10, 60000), (8, 0, 10000)]).isSome || (mode = 2 && !(1000 ≤ pf && pf ≤ 10000)) then some (0x25, 0xFE)
     else none) <|>
    failing 0x27 ([3] ++ span 0xA 0x10 ++ span (0x10 + 4 * m 1) 0x30 ++ span (0x30 + 4 * m 2) 0x50 ++ span 0x50 0x100)
      (fun o => m o ≠ 0) (· / 4)

/-- The checks of SIGNATURE (R257, R267); `bad` says which tones are harmonic at the present F_NOM. -/
def signatureBad (m : Image) (bad : Nat → Bool) : Option (Nat × Nat) :=
  let tone := fun n => 5 ≤ n && n ≤ 250 && !bad n
  let w := m 5
  let mw := m 6
  ((outField [(0, m 0 = 1), (1, m 1 ≠ 0), (2, tone (m 2)), (3, tone (m 3) && m 3 ≠ m 2), (4, 1 ≤ m 4 && m 4 ≤ 30),
      (5, 2 ≤ w && w ≤ 10), (6, w ≤ mw && mw ≤ 17 && w + mw ≤ 19), (7, 10 ≤ m 7 && m 7 ≤ 50),
      (8, 256 ≤ Image.w16 m 8), (0xA, 1 ≤ Image.w16 m 0xA)]).map fun o => (0x26, o)) <|>
  failing 0x27 (span 0xC 0x100) (fun o => m o ≠ 0) (· / 4)

/-! CAST_WEIGHTS (spec/07 R340), MPPT_PARAM (spec/08 R368) -/

/-- The checks of CAST_WEIGHTS. -/
def weightsBad (m : Image) : Option (Nat × Nat) :=
  let w := Image.w16 m
  if m 0 ≠ 1 then some (0x40, 0xFF)
  else
    ((outField ([(2, 1 ≤ w 2), (4, w 4 ≤ 1000), (6, w 6 ≤ 500), (8, w 8 ≤ 100), (0xA, w 0xA ≤ 1000),
        (0xC, Image.w32 m 0xC ≠ 0), (0x10, w 0x10 ≤ 500), (0x12, w 0x12 ≤ 500), (0x1A, w 0x1A ≤ 4096), (0x1C, w 0x1C ≤ 1000),
        (0x1E, w 0x1E ≤ 1000), (0x20, 1 ≤ w 0x20 && w 0x20 ≤ 60000), (0x22, 1 ≤ w 0x22 && w 0x22 ≤ 60000), (0x24, 1 ≤ m 0x24),
        (0x26, 100 ≤ w 0x26 && w 0x26 ≤ 1000), (0x28, 1 ≤ w 0x28 && w 0x28 ≤ 60000),
        (0x2A, 1 ≤ w 0x2A && w 0x2A ≤ 1000)])).map fun o => (0x41, o)) <|>
    (if Image.s16 m 0x14 < Image.s16 m 0x16 && Image.s16 m 0x16 < Image.s16 m 0x18 then none else some (0x42, 0x14)) <|>
    (if w 0x12 < w 0x10 || w 0x1C < w 0x1E then some (0x43, 0x10) else none) <|>
    failing 0x44 (1 :: 0x25 :: span 0x2C 0x200) (fun o => (if o = 1 then m 1 / 2 else m o) ≠ 0) (· / 4)

/-- The check that the MPPT_PARAM entry of cell `c` fails, for the roster in force (R361, R368). -/
def State.mpptEntryBad (s : State) (m : Image) (c : Nat) : Option Nat :=
  let o := 16 * c
  let w := fun i => Image.w16 m (o + i)
  let en := (m o).testBit 0
  let volts := fun v => s.cellVMin c ≤ v && v ≤ s.cellVMax c
  let k := s.actsAs c
  if k = kind.pv then
    if en && !(2 ≤ m (o + 1) && 1 ≤ m (o + 2) && m (o + 2) ≤ m (o + 3) && volts (w 4) && w 6 ≤ 1000 && 10 ≤ w 8 &&
        8 ≤ m (o + 0xA) && m (o + 0xA) ≤ 64) then some 0x50
    else if 4 ≤ m o || m (o + 0xB) ≠ 0 || Image.w32 m (o + 0xC) ≠ 0 then some 0x53
    else none
  else if k = kind.battery then
    let p := s.cellPRated c
    if en && !((Image.s16 m (o + 2)).natAbs ≤ p && w 4 ≤ p && w 6 ≤ p && volts (w 8) && w 8 < w 0xA && volts (w 0xA) &&
        1 ≤ w 0xE && w 0xE ≤ 10000) then some 0x51
    else if 4 ≤ m o || m (o + 1) ≠ 0 then some 0x53
    else none
  else if (List.range 16).any fun i => m (o + i) ≠ 0 then some 0x52
  else none

/-- The checks of the MPPT_PARAM entries that a load writes. -/
def State.mpptBad (s : State) (m : Image) (off len : Nat) : Option (Nat × Nat) :=
  (span (off / 16) ((off + len) / 16)).findSome? fun c => (s.mpptEntryBad m c).map fun code => (code, c)

/-! PUMP_CURVE (spec/12 R506), PULSE_MAP and METER_CAL (spec/09 R422) -/

/-- The checks of PUMP_CURVE. -/
def pumpCurveBad (m : Image) : Option (Nat × Nat) :=
  let w := Image.w16 m
  let v := Image.s16 m
  let n := m 1
  let inR := fun (x lo hi : Nat) => decide (lo ≤ x) && decide (x ≤ hi)
  if m 0 ≠ 1 then some (0x80, 0xFF)
  else
    ((outField [(1, inR n 2 16), (2, inR (m 2) 1 16), (3, inR (m 3) 2 30), (8, inR (w 8) 100 20000), (0xA, inR (w 0xA) 100 20000),
        (0xC, inR (w 0xC) 1 20000), (0xE, inR (w 0xE) 1 20000), (0x14, inR (w 0x14) 10 5000), (0x16, inR (w 0x16) 10 5000),
        (0x18, inR (w 0x18) 10 5000), (0x1A, inR (w 0x1A) 10 500), (0x1C, inR (w 0x1C) 50 20000), (0x1E, inR (w 0x1E) 1 20000),
        (0x28, inR (w 0x28) 10 10000), (0x2C, inR (m 0x2C) 2 30), (0x2D, inR (m 0x2D) 1 8), (0x2E, inR (w 0x2E) 1 600),
        (0x30, inR (w 0x30) 0 1000)]).map fun o => (0x81, o)) <|>
    ((outField [(4, v 6 < v 4), (8, w 0x1C ≤ w 8), (0xA, w 8 ≤ w 0xA), (0x22, v 0x26 < v 0x22), (0x20, v 0x22 < v 0x20),
        (0x24, v 0x20 < v 0x24)]).map fun o => (0x82, o)) <|>
    (if w 0x16 * (w 0x1C * m 2) < 30000 then some (0x83, 0x16) else none) <|>
    failing 0x84 (List.range n) (fun i => (i ≠ 0 && v (0x40 + 4 * i) ≤ v (0x3C + 4 * i)) ||
      !inR (w (0x42 + 4 * i)) (w 8) (w 0xA)) <|>
    failing 0x85 (span 0x32 0x40 ++ span (0x40 + 4 * n) 0x80) (fun o => m o ≠ 0) (· / 4)

/-- The checks of PULSE_MAP. -/
def pulseMapBad (m : Image) : Option (Nat × Nat) :=
  let en := fun n => (m (16 * n + 1)).testBit 0
  let outs := List.range 4
  failing 0x68 outs (fun n => en n && 31 < m (16 * n)) <|>
  failing 0x69 outs (fun n => en n && (Image.w16 m (16 * n + 2) < 5 || 25000 < Image.w16 m (16 * n + 2) ||
    Image.w32 m (16 * n + 4) = 0)) <|>
  failing 0x6A outs fun n =>
    if en n then 4 ≤ m (16 * n + 1) || (span 8 16).any fun i => m (16 * n + i) ≠ 0
    else (List.range 16).any fun i => m (16 * n + i) ≠ 0

/-- The checks of METER_CAL. -/
def meterCalBad (m : Image) : Option (Nat × Nat) :=
  let w := Image.w16 m
  let base := fun x => 0x10 + 32 * x
  let delay := fun x => (Image.s16 m (base x + 14)).natAbs ≤ 10000
  if m 0 ≠ 1 then some (0x60, 0xFF)
  else
    failing 0x61 (List.range 3) (fun x => Image.w32 m (base x) = 0 || Image.w32 m (base x + 8) = 0) (0x80 + ·) <|>
    ((outField [(2, w 2 ≤ 10000), (4, 1 ≤ w 4 && w 4 ≤ 10000), (base 0 + 14, delay 0), (base 1 + 14, delay 1),
        (base 2 + 14, delay 2)]).map fun o => (0x62, o / 2)) <|>
    failing 0x63 ([1] ++ span 6 0x10 ++ ((List.range 3).flatMap fun x => span (base x + 6) (base x + 8) ++
      span (base x + 16) (base x + 32)) ++ span 0x70 0x200) (fun o => m o ≠ 0) (· / 4)

/-! SAFETY_PARAM (spec/10 R459), FILTERS (spec/06 R304) -/

/-- The checks of SAFETY_PARAM. -/
def safetyParamBad (m : Image) : Option (Nat × Nat) :=
  let crc := crc32 ((List.range 0xFC).map fun i => BitVec.ofNat 8 (m i))
  if m 0 ≠ 1 then some (0x70, 0xFF)
  else
    ((out16 m 0 [(2, 20, 200), (4, 20, 200), (6, 20, 500), (8, 10, 1000), (0xA, 10, 100), (0xC, 1, 600), (0xE, 1, 600)]).map
      fun o => (0x71, o)) <|>
    failing 0x72 (1 :: span 0x10 0xFC) (fun o => m o ≠ 0) (· / 4) <|>
    if crc.toNat = Image.w32 m 0xFC then none else some (0x73, 0xFC)

/-- π to 50 decimals. Between it and π lies no resonance that 16-bit fields can give, so the verdict of R304 is that of π itself. -/
def piDecimals : Rat := 314159265358979323846264338327950288419716939937510 / 10 ^ 50

/-- The resonance of a phase's filter lies in [200 Hz, 5 000 Hz] (R304): (L1 + L2) / (L1 L2 CF) against the squares of 2π f. -/
def resonanceOk (m : Image) (x : Nat) : Bool :=
  let o := 0x60 + 16 * x
  let l1 : Rat := (Image.w16 m o : Rat) / 1000000
  let l2 : Rat := (Image.w16 m (o + 2) : Rat) / 1000000
  let cf : Rat := (Image.w16 m (o + 4) : Rat) / 100000000
  let w2 := (l1 + l2) / (l1 * l2 * cf)
  decide ((2 * piDecimals * 200) ^ 2 ≤ w2) && decide (w2 ≤ (2 * piDecimals * 5000) ^ 2)

/-- The checks of FILTERS. -/
def filtersBad (m : Image) : Option (Nat × Nat) :=
  if m 0 ≠ 1 then some (0x30, 0xFF)
  else
    failing 0x31 (List.range 9) (fun n => Image.w32 m (4 + 8 * n) = 0) <|>
    failing 0x32 (List.range 3) (fun x => (out16 m (0x60 + 16 * x)
      [(0, 100, 65535), (2, 100, 65535), (4, 1, 65535), (6, 200, 5000), (8, 50, 2000), (0xA, 0, 10000), (0xE, 0, 5000)]).isSome)
      (0x80 + ·) <|>
    failing 0x33 (List.range 3) (fun x => !resonanceOk m x) (0x80 + ·) <|>
    failing 0x34 ([1, 2, 3] ++ ((List.range 10).flatMap fun n => span (10 + 8 * n) (12 + 8 * n)) ++ span 0x54 0x60 ++ span 0x90 0x100)
      (fun o => (if o = 1 then m 1 / 8 else m o) ≠ 0)

/-! TABLE_LOAD (spec/13 R558) -/

/-- Check 4: the curtain state, or the alignment, that a table's chapter asks of a load. -/
def State.loadGate (s : State) (id off len : Nat) : Option (Nat × Nat) :=
  if id = tid.roster || id = tid.contourV || id = tid.contourF || id = tid.signature || id = tid.meterCal || id = tid.filters then
    if s.curtainDown then none else some (st.stateRefused, 0)
  else if id = tid.safetyParam then
    if s.curtain = cur.locked && !s.service then none else some (st.stateRefused, 1)
  else if id = tid.pumpCurve then
    if s.bit F.PUMP_CTRL_EN then some (st.stateRefused, 1) else none
  else if id = tid.mpptParam then
    if off % 16 = 0 && len % 16 = 0 then none else some (st.lenRange, 0)
  else none

/-- Check 6: the table's own checks, as the code and the item. -/
def State.tableBad (s : State) (id off : Nat) (bytes : List Byte) : Option (Nat × Nat) :=
  let m := s.image id off bytes
  match id with
  | 1 => rosterBad m
  | 2 => contourBad m false none
  | 3 => contourBad m true (if s.bit F.GRID_CTRL_PASSIVE_TRIP then some (s.get F.GRID_PASSIVE_ROCOF_LIM) else none)
  | 4 => varCurveBad m
  | 5 => weightsBad m
  | 6 => s.mpptBad m off bytes.length
  | 7 => pumpCurveBad m
  | 8 => signatureBad m s.toneBad
  | 9 => pulseMapBad m
  | 10 => safetyParamBad m
  | 11 => meterCalBad m
  | _ => filtersBad m

/-- The MPPT_PARAM entries of the cells whose kind changed are zeroed (R368). -/
def State.zeroChanged (s before : State) : State :=
  s.each (cellIds.filter fun c => before.cellKind c != s.cellKind c || before.actsAs c != s.actsAs c) fun c s =>
    let s := s.writeTable tid.mpptParam (16 * c) (List.replicate 16 0)
    { s with pwr := { s.pwr with mpWait := s.pwr.mpWait.map fun m => m.filter fun (e : Nat × Byte) => e.1 / 16 != c } }

/-- What an accepted load means to the table's consumers. -/
def State.tableLoaded (s before : State) (id : Nat) : State :=
  match id with
  | 1 => (s.zeroChanged before).castFromRoster
  | 2 => (s.restartContour tid.contourV).judgePermit
  | 3 => (s.restartContour tid.contourF).judgePermit
  | 6 => s.mpHold (if before.tableOk tid.mpptParam then (before.tableMem tid.mpptParam).work else [])
  | 7 => (s.setBit F.PUMP_STATUS_CURVE_OK true).pumpReact
  | 8 => s.signatureLoaded.judgePermit
  | 9 =>
    let same := fun n => (List.range 16).all fun i => before.tbl8 tid.pulseMap (16 * n + i) == s.tbl8 tid.pulseMap (16 * n + i)
    (s.each ((List.range 4).filter fun n => !same n) State.pulseClear).pulseHold
  | 10 => s.setBit F.CURTAIN_STATUS_PARAM_OK true
  | 11 => s.flag s.datum mf.calChange
  | 12 =>
    let old := match before.engine.filtWait with
      | some (o, b) => if s.datum < b then o else (before.tableMem tid.filters).work
      | none => (before.tableMem tid.filters).work
    s.mapEngine fun e => { e with filtWait := some (old, (s.datum / 1000 + 1) * 1000) }
  | _ => s

/-- A load with its payload: check 4 at this instant, check 6, then the bytes are written at once (R558). -/
def State.loadTable (d : Desc) (bytes : List Byte) (s : State) : State :=
  let id := d.target.toNat
  let off := d.p0.toNat
  match s.loadGate id off bytes.length with
  | some (status, detail) => s.refuse d status detail
  | none =>
    match s.tableBad id off bytes with
    | some (code, item) => s.refuse d st.tableCheck (256 * code + item)
    | none => (((s.writeTable id off bytes).setTableOk id true).tableLoaded s id).finish d

/-- TABLE_LOAD (R558): checks 1 to 4, then the payload is read. -/
def execTableLoad (t : Nat) (d : Desc) (payload : Option (List Byte)) (s : State) : Host.Outcome State Fault Refusal :=
  s.run t fun s =>
    s.checked d (tableChecks d) fun s =>
      match s.loadGate d.target.toNat d.p0.toNat d.len.toNat with
      | some (status, detail) => s.refuse d status detail
      | none =>
        match payload with
        | none => s.readPayload d
        | some bytes => s.loadTable d bytes

/-- PAYLOAD_READ_COMPLETE (R558, R567): the payload of a command arrives whole, and the command proceeds. -/
def execPayloadReadComplete (t : Nat) (d : Desc) (bytes : List Byte) (s : State) : Host.Outcome State Fault Refusal :=
  s.run t fun s =>
    match s.host.payloads.find? fun r => r.desc == d with
    | none => s
    | some r =>
      if bytes.length = d.len.toNat then
        let s := (s.mapHost fun h => { h with payloads := h.payloads.erase r }).each r.retried fun _ s => s.readDone true
        if d.opc = 2 then s.loadTable d bytes
        else if d.opc = 0xC then s.checked d s.sendChecks (State.queueMessage d bytes)
        else s
      else s

/-! Integrity (spec/13 R561) -/

/-- A table's lasting failure: invalid, TABLE_FAULT, and the treatment of R561. -/
def State.tableLost (id : Nat) (s : State) : State :=
  let s := (s.setTableOk id false).raise 4 id
  if id = tid.roster || id = tid.castWeights || id = tid.filters then s.engineFault
  else if id = tid.contourV || id = tid.contourF then s.judgePermit.engineFault
  else if id = tid.signature then s.judgePermit
  else if id = tid.pulseMap then s.pulseHold
  else if id = tid.pumpCurve then
    let s := s.setBit F.PUMP_STATUS_CURVE_OK false
    if s.pState ≤ 6 then s.floatLegs.goPump ps.off
    else if s.pState = ps.frozen && s.pump.before ≤ 6 then
      ((s.set F.PUMP_STATUS_SECTOR 0).set F.PUMP_SECTOR_OVL 0).mapPump fun p => { p with before := ps.off, ovl := none, duty := 0 }
    else s
  else s

/-- The retry of a table check: the working copy is reloaded and checked again at once. -/
def State.tableRetry (id : Nat) (s : State) : State × Bool :=
  let m := s.tableMem id
  let s := s.setTableWork id { m with work := m.stored }
  if s.tableCrc id = m.crc then (s.transient F.HOST_TABLE_TRANSIENT_COUNT, false) else (s.tableLost id, true)

/-- The check of one valid table other than SAFETY_PARAM, and whether its failure is lasting. -/
def State.checkTable (id : Nat) (s : State) : State × Bool :=
  if !s.tableOk id || s.tableCrc id = (s.tableMem id).crc then (s, false) else s.tableRetry id

/-- The ids that R561 checks. -/
def checkedIds : List Nat := [1, 2, 3, 4, 5, 6, 7, 8, 9, 11, 12]

/-- TABLE_INTEGRITY_CHECK (R561). -/
def execTableIntegrityCheck (t : Nat) (upsets : List TableUpset) (s : State) : Host.Outcome State Fault Refusal :=
  s.run t fun s => (s.each upsets State.upset).each checkedIds fun id s => (s.checkTable id).1

/-! SELFTEST (spec/13 R565) -/

/-- A self-test's result; a failure raises SELFTEST_FAIL. -/
def State.selftestEnd (d : Desc) (detail : Nat) (s : State) : State :=
  (s.when (detail != 0) fun s => s.raise 7 d.target.toNat).finish d detail

/-- The check of every table, with the bits of those that failed lastingly. -/
def State.testTables (s : State) : State × Nat :=
  let (s, bits) := checkedIds.foldl (fun (x : State × Nat) id =>
    let (s, bad) := x.1.checkTable id
    (s, if bad then x.2 + 2 ^ id else x.2)) (s, 0)
  let (s, bad) := s.checkParam
  (s, if bad then bits + 2 ^ 10 else bits)

/-- SELFTEST (R565): the comparator test, the seal engine's known answer, every table, a sweep. -/
def execSelftest (t : Nat) (d : Desc) (upsets : List TableUpset) (s : State) : Host.Outcome State Fault Refusal :=
  s.run t fun s =>
    let n := d.target.toNat
    let owe := fun (f : SelfTests → SelfTests) => s.mapHost fun h => { h with tests := f h.tests }
    let s' := s.when (n == 0 && d.len == 0 && d.p0 == 0 && d.p1 == 0 && s.testRefused) fun s =>
      s.setBit F.COMP_STATUS_TEST_REFUSED true
    s'.checked d
      [(3 < n, st.targetRange, 0), (d.len ≠ 0, st.lenRange, 0), (d.p0 ≠ 0 || d.p1 ≠ 0, st.targetRange, 0x10),
       (n == 0 && s.testRefused, st.stateRefused, 1)]
      fun s =>
        if n = 0 then (owe fun x => { x with comp := some d }).startTest
        else if n = 1 then owe fun x => { x with sealKat := x.sealKat ++ [d] }
        else if n = 2 then
          let (s, bits) := (s.each upsets State.upset).testTables
          s.selftestEnd d bits
        else
          let s' := owe fun x => { x with sweep := x.sweep ++ [d] }
          if s.host.tests.sweep.isEmpty then
            (s'.setBit F.SCRUB_STATUS_SWEEP_BUSY true).mapScrub fun b => { b with
              word := 0, start := some s.elapsed, lastRead := s.elapsed, corrected := 0, raised := false }
          else s'

end Sys2Proof.Machine
end

