-- ==== Sys2Proof/Machine/Scrub.lean ====
section
/-! DEFINITION. Sys2Proof/Machine/Scrub.lean: memory scrubbing, the survey, the wear accounts shown to the host (spec/17). -/

namespace Sys2Proof.Machine

/-! Memory scrubbing (R668 to R673) -/

/-- Background work is deferred (R622). -/
def State.deferred (s : State) : Bool := s.bit F.SCRUB_STATUS_DEFERRED

/-- The words of each region, by code (R669). -/
def regionWords : List Nat := [65536, 2048, 2048, 8192, 16384, 32768, 8192, 16384, 12288]

/-- Words in all. -/
abbrev sweepWords : Nat := 163840

/-- Region and word index within it of the sweep's word `n`, from the regions left and the code of the first. -/
def regionOf : List Nat → Nat → Nat → Nat × Nat
  | [], code, n => (code, n)
  | w :: l, code, n => if n < w then (code, n) else regionOf l (code + 1) (n - w)

/-- A sweep begins with the first word. -/
def State.beginSweep (s : State) : State :=
  (s.setBit F.SCRUB_STATUS_SWEEP_BUSY true).mapScrub fun b => { b with
    word := 0, start := some s.elapsed, lastRead := s.elapsed, corrected := 0, raised := false }

/-- SWEEP_START (R670): at the first whole multiple of 10 s, or 40 s while deferred, after the previous sweep's end. -/
def execSweepStart (t : Nat) (s : State) : Host.Outcome State Fault Refusal :=
  s.run t fun s =>
    let p := if s.deferred then 40 * second else 10 * second
    if s.bit F.SCRUB_CTRL_EN && s.scrub.start.isNone && (s.scrub.lastEnd / p + 1) * p ≤ s.elapsed then s.beginSweep else s

/-- The end of a sweep (R670): its length, the count, SWEEP_DONE; a SELFTEST that it served completes, and one that waits has its own
sweep begun (R565). -/
def State.endSweep (start : Nat) (s : State) : State :=
  let n := s.scrub.corrected
  let s := s.set F.SCRUB_SWEEP_TIME_TIME ((s.elapsed - start) / 1000000)
  let s := (s.count F.SCRUB_SWEEPS_COUNT).raise 227
  let s := (s.setBit F.SCRUB_STATUS_SWEEP_BUSY false).mapScrub fun b => { b with start := none, lastEnd := s.elapsed }
  match s.host.tests.sweep with
  | [] => s
  | d :: l =>
    let s := (s.mapHost fun h => { h with tests := { h.tests with sweep := l } }).finish d (min 0xFFFFFFFF n)
    if l.isEmpty then s else s.beginSweep

/-- An address register's region and word. -/
def State.setWordAddr (region word : FieldRef) (r w : Nat) (s : State) : State := (s.set region r).set word w

/-- A corrected word (R671): transient where the re-read is clean, else a stuck bit. -/
def State.correctedWord (r w : Nat) (again : Bool) (s : State) : State :=
  let s := s.when (!s.scrub.raised) fun s => (s.raise 224 r).mapScrub fun b => { b with raised := true }
  let s := s.mapScrub fun b => { b with corrected := b.corrected + 1 }
  if again then
    let s := s.setWordAddr F.SCRUB_STUCK_ADDR_REGION F.SCRUB_STUCK_ADDR_WORD r w
    ((s.count F.SCRUB_STUCK_COUNT).setBit F.SCRUB_STATUS_STUCK true).raise 225 r
  else (s.count F.SCRUB_CORR_COUNT).transient F.SCRUB_TRANSIENT_COUNT

/-- A word of a table's working copy is lost (R673): a table-check failure, with its retry from the stored copy. -/
def State.workLost (id : Nat) (s : State) : State :=
  if !s.tableOk id then s
  else if id = tid.safetyParam then
    let s := s.setTableWork id { s.tableMem id with work := (s.tableMem id).stored }
    if s.paramCrcOk then s.transient F.CURTAIN_TRANSIENT_COUNT else s.checkParam.1
  else (s.tableRetry id).1

/-- A word of a table's stored copy is lost (R673): rewritten from the working copy once its CRC checks. -/
def State.storedLost (id : Nat) (s : State) : State :=
  if !s.tableOk id then s
  else if id = tid.safetyParam then
    if s.paramCrcOk then s.setTableWork id { s.tableMem id with stored := (s.tableMem id).work } else s.checkParam.1
  else if s.tableCrc id = (s.tableMem id).crc then
    s.setTableWork id { s.tableMem id with stored := (s.tableMem id).work }
  else s.tableLost id

/-- An entry staged for a ring is lost (R673): a record counts under R579. -/
def State.entryLost (i : Nat) (s : State) : State :=
  match s.host.staged[i]? with
  | none => s
  | some e =>
    if e.ring = 2 then s.dropEntries fun x => x == e
    else s.mapHost fun h => { h with staged := h.staged.eraseIdx i }

/-- A descriptor copy or payload is lost (R673): a lasting read failure under R567. -/
def State.descrLost (d : Desc) (s : State) : State :=
  if s.host.payloads.any fun r => r.desc == d then
    let s := s.dmaFault 2 d.hostAddr.toNat true
    (s.mapHost fun h => { h with payloads := h.payloads.filter fun r => r.desc != d }).refuse d st.dmaFault 2
  else if s.host.fetched.contains d || s.host.timed.contains d then
    let s := (s.dmaFault 2 (s.pair (Reg.HOST_RING_BASE_LO 0)) false).setBit (F.HOST_RING_STATE_STOPPED 0) true
    (s.mapHost fun h => { h with fetched := h.fetched.erase d, timed := h.timed.erase d }).serveFetched
  else s

/-- The metering state is reloaded from the latest retention refresh, the open interval UNMETERED (R673). -/
def State.meterLost (s : State) : State :=
  let s := match s.latestCopy with
    | none => s
    | some c => s.mapCore fun _ => c
  s.quality s.datum mq.unmetered

/-- What an uncorrectable error does in its region (R673). -/
def State.wordLost (r : Nat) (use : WordUse) (s : State) : State :=
  match r, use with
  | 1, .table id => s.workLost id
  | 2, .table id => s.storedLost id
  | 3, _ => s.engineFault
  | 4, _ => s.engineFault
  | 5, .event e => { s with router := { s.router with held := s.router.held.erase e } }
  | 5, .entry i => s.entryLost i
  | 6, _ => s.curtCause 11
  | 7, .descr d => s.descrLost d
  | 8, _ => s.meterLost
  | _, _ => s

/-- An uncorrectable word (R673): recorded and reported once until it is written again. -/
def State.uncorrectableWord (r w : Nat) (use : WordUse) (s : State) : State :=
  if s.scrub.reported.contains (r, w) then s
  else
    let s := s.mapScrub fun b => { b with reported := (r, w) :: b.reported }
    let s := s.setWordAddr F.SCRUB_UNCORR_ADDR_REGION F.SCRUB_UNCORR_ADDR_WORD r w
    (((s.count F.SCRUB_UNCORR_COUNT).setBit F.SCRUB_STATUS_UNCORR true).raise 226 r).wordLost r use

/-- A word that reads without an uncorrectable error has been written since it was reported. -/
def State.wordGood (r w : Nat) (s : State) : State :=
  s.mapScrub fun b => { b with reported := b.reported.filter (· ≠ (r, w)) }

/-- SCRUB_READ (R670 to R673): the sweep's next word, every 61 µs, or 244 µs while deferred unless a SELFTEST asked for the sweep. -/
def execScrubRead (t : Nat) (found : WordRead) (s : State) : Host.Outcome State Fault Refusal :=
  s.run t fun s =>
    match s.scrub.start with
    | none => s
    | some start =>
      let test := !s.host.tests.sweep.isEmpty
      let step := if s.deferred && !test then 244000 else 61000
      if (s.bit F.SCRUB_CTRL_EN || test) && s.expired s.scrub.lastRead step then
        let n := s.scrub.word
        let (r, w) := regionOf regionWords 0 n
        let s := s.mapScrub fun b => { b with word := n + 1, lastRead := s.elapsed }
        let s := match found with
          | .clean => s.wordGood r w
          | .corrected again => (s.wordGood r w).correctedWord r w again
          | .uncorrectable use => s.uncorrectableWord r w use
        s.when (n + 1 == sweepWords) (State.endSweep start)
      else s

/-! The survey (R674 to R676) -/

/-- The first present cell at or after `c`. -/
def State.nextPresent (s : State) (c : Nat) : Option Nat := cellIds.find? fun k => decide (c ≤ k) && s.present k

/-- A pass begins at its first cell; with no present cell it ends at once. -/
def State.beginPass (s : State) : State :=
  match s.nextPresent 0 with
  | some c => s.mapScrub fun b => { b with passNext := some c, lastEntry := s.elapsed - s.get F.SCRUB_SURVEY_SPACING * 1000000 }
  | none => s.raise 228

/-- The end of a pass: SURVEY_DONE, and the start of one that is late (R675). -/
def State.endPass (s : State) : State :=
  let s := (s.raise 228).mapScrub fun b => { b with passNext := none }
  if s.scrub.passDue then
    let s := s.mapScrub fun b => { b with passDue := false }
    ((s.count F.SCRUB_SURVEY_LATE_COUNT).raise 229).beginPass
  else s

/-- SURVEY_PASS (R674, R675): every PERIOD seconds a pass starts, or waits for the end of the one that runs. -/
def execSurveyPass (t : Nat) (s : State) : Host.Outcome State Fault Refusal :=
  s.run t fun s =>
    let period := s.get F.SCRUB_SURVEY_PERIOD * second
    let due := match s.scrub.passBase with
      | none => s.elapsed
      | some b => b + period
    if s.bit F.SCRUB_CTRL_SURVEY_EN && s.bit (F.HOST_RING_CFG_EN 3) && due ≤ s.elapsed then
      let s := s.mapScrub fun b => { b with passBase := some due }
      if s.scrub.passNext.isSome then s.mapScrub fun b => { b with passDue := true } else s.beginPass
    else s

/-- A ring-3 entry of a cell (R676), phase bit 0. -/
def State.surveyEntry (s : State) (c : Nat) : List Byte :=
  let x := s.tx c
  let item := fun i => leBytes 2 ((Sparse.get (fun _ => none) x.items i).getD 0)
  let seen := !x.items.isEmpty
  let w := Sparse.get (fun _ => ({} : Wear)) s.scrub.wear c
  leBytes 8 (if seen then x.stamp else 0) ++ leBytes 1 c ++ leBytes 1 (s.cState c) ++ item 2 ++ item 3 ++
    leBytes 2 (if seen then s.get (F.WING_CELL_VDC c) else 0) ++ item 0 ++ item 1 ++ item 4 ++ item 5 ++ item 10 ++ item 11 ++
    item 13 ++ leBytes 2 0 ++ leBytes 8 w.legA ++ leBytes 8 w.legB ++ leBytes 4 w.byp ++ leBytes 4 (w.dump / 1000) ++
    leBytes 4 w.line ++ leBytes 4 0

/-- The entry of cell `c` is written, and the pass goes on or ends. -/
def State.writeSurvey (c : Nat) (s : State) : State :=
  let s := s.setBit F.SCRUB_STATUS_SURVEY_PAUSED false
  let s := s.when (s.present c) fun s =>
    s.stage { ring := 3, body := s.surveyEntry c, stamp := s.datum, late := false, cmd := none, status := 0 }
  match s.nextPresent (c + 1) with
  | some k => s.mapScrub fun b => { b with passNext := some k, lastEntry := s.elapsed }
  | none => s.endPass

/-- SURVEY_ENTRY (R674, R675): SPACING after the previous entry, the due cell's entry; ring 3 full, disabled or deferred pauses the
pass. -/
def execSurveyEntry (t : Nat) (s : State) : Host.Outcome State Fault Refusal :=
  s.run t fun s =>
    match s.scrub.passNext with
    | none => s
    | some c =>
      if s.bit F.SCRUB_STATUS_SURVEY_PAUSED || s.elapsed < s.scrub.lastEntry + s.get F.SCRUB_SURVEY_SPACING * 1000000 then s
      else if s.deferred then s.setBit F.SCRUB_STATUS_SURVEY_PAUSED true
      else if s.ringRoom 3 then s.writeSurvey c
      else (s.foundFull 3).setBit F.SCRUB_STATUS_SURVEY_PAUSED true

/-- SURVEY_RESUME (R675): the cause of the pause has ended, and the pass goes on with the cell that is due. -/
def execSurveyResume (t : Nat) (s : State) : Host.Outcome State Fault Refusal :=
  s.run t fun s =>
    match s.scrub.passNext with
    | none => s
    | some c =>
      if s.bit F.SCRUB_STATUS_SURVEY_PAUSED && !s.deferred && s.ringRoom 3 then s.writeSurvey c else s

/-! Registers (R686) -/

/-- A write of SCRUB_WEAR_SEL captures the named cell's accounts at one instant; an absent cell's are zeros. -/
def State.writeWearSel (data : Word) (s : State) : State :=
  let s := s.writeByAccess Reg.SCRUB_WEAR_SEL data
  let c := s.get F.SCRUB_WEAR_SEL_CELL
  let w := if s.present c then Sparse.get (fun _ => ({} : Wear)) s.scrub.wear c else {}
  let s := (s.setPair Reg.SCRUB_WEAR_A_LO w.legA).setPair Reg.SCRUB_WEAR_B_LO w.legB
  ((s.set F.SCRUB_WEAR_BYP_COUNT w.byp).set F.SCRUB_WEAR_DUMP_SECONDS (w.dump / 1000)).set F.SCRUB_WEAR_LINE_COUNT w.line

/-- SCRUB_WEAR_SEL (R686). -/
def execScrubWearSel (t : Nat) (data : Word) (s : State) : Host.Outcome State Fault Refusal :=
  s.run t fun s => s.bar0 Reg.SCRUB_WEAR_SEL data (State.writeWearSel data)

end Sys2Proof.Machine
end

