-- ==== Sys2Proof/Machine/Power.lean ====
section
/-! DEFINITION. Sys2Proof/Machine/Power.lean: resets and internal start, the PLLs, the thermal governor, the record key, modes, and what tableau
stops and starts again in every block (spec/15). The commands that apply held host writes stand in Machine/Access.lean. -/

namespace Sys2Proof.Machine

def State.mapPower (s : State) (f : Power → Power) : State := { s with power := f s.power }

/-! Tableau: every block stops and goes on (R601; R94, R135, R218, R268, R300, R313, R364, R419, R462, R525, R564, R596) -/

/-- Orders in transport at entry: host orders are abandoned, to complete when tableau ends; the device's own start again (R218, R332, R564),
and a loop or cue failure that waits for its retry is abandoned (R219).
Changes that only a frozen, unsent frame carries go back to waiting (R218). -/
def State.wingFreeze (s : State) : State :=
  let gone := (s.wing.frozen.map Frame.k)
  let hosts := s.wing.cells.flatMap fun e => e.2.orders.filterMap fun o => match o.owner with
    | .host d => some d
    | _ => none
  let cell := fun (x : CellTx) => { x with
    hist := x.hist.map fun c => if c.placed.any gone.contains && !c.acked then { c with placed := none } else c
    orders := (x.orders.filter fun o => match o.owner with
      | .host _ => false
      | _ => true).map fun o => { o with next := 0, flying := [], second := none }
    failed := false }
  let s := s.mapWing fun w => { w with
    frozen := []
    cells := Sparse.canon (fun _ => {}) (w.cells.map fun (e : Nat × CellTx) => (e.1, cell e.2))
    loops := Sparse.canon (fun _ => {}) (w.loops.map fun (e : Nat × Loop) => (e.1, { e.2 with bad := false })) }
  let s := s.checksWait
  s.mapHost fun h => { h with tabAborts := h.tabAborts ++ hosts.map fun d => (d, 0x00030000) }

/-- Casting resumes with the first request after tableau (R313): those in hand at entry fall away. -/
def State.castFreeze (s : State) : State := { s with cast := { s.cast with requests := [], zsDue := none } }

/-- Outstanding MERIDIAN_SEND commands are abandoned, those whose payload is being read too (R94). -/
def State.merFreeze (s : State) : State :=
  let reads := s.host.payloads.filter fun p => p.desc.opc == 0x0C
  let ds := s.mer.outstanding.map MerMsg.desc ++ reads.map PayRead.desc
  let s := { s with mer := { s.mer with outstanding := [] } }
  let s := s.mapHost fun h => { h with payloads := h.payloads.filter fun p => p.desc.opc != 0x0C }
  s.mapHost fun h => { h with tabAborts := h.tabAborts ++ ds.map fun d => (d, 0x00030000) }

/-- The engine leaves every state but IDLE for FROZEN (R300); a precharge that runs while it is ENGAGED is held. -/
def State.engFreeze (s : State) : State :=
  if s.engState = eng.idle then s
  else
    let was := s.engaged
    let s := s.when was fun s => s.holdPrecharge false
    (s.mapEngine fun g => { g with wasEngaged := was }).engGoto eng.frozen

/-- The engine at exit (R300): ENGAGED anew where it was and the curtain is RAISED, else STOPPED. -/
def State.engThaw (s : State) : State :=
  if s.engState ≠ eng.frozen then s
  else
    let s := s.each (List.range 3) fun x s => s.setEng x { s.eng x with fast := none }
    if s.engine.wasEngaged && s.curtain == cur.raised then s.engEngage
    else
      let s := (s.mapEngine fun g => { g with engaged := none, winBad := true }).engGoto eng.stopped
      s.castDisengage

/-- An instant, where there is one, moved by the length of the tableau. -/
def laterBy (len : Nat) (x : Option Nat) : Option Nat := x.map (· + len)

/-- The timers of one cell in casting, of one phase's casting, and of one cell's power, moved. -/
def CastCell.later (len : Nat) (x : CastCell) : CastCell :=
  { x with
    hotSince := laterBy len x.hotSince
    uvSince := laterBy len x.uvSince
    leaveSince := laterBy len x.leaveSince
    preStart := laterBy len x.preStart
    check := x.check.map fun b => { b with start := laterBy len b.start } }

def CastPhase.later (len : Nat) (p : CastPhase) : CastPhase :=
  { p with deficit := p.deficit.map fun d => (d.1 + len, d.2), restoreRef := p.restoreRef + len }

def PwrCell.later (len : Nat) (x : PwrCell) : PwrCell :=
  { x with
    lastStep := x.lastStep + len
    due := x.due.map fun d => (d.1, d.2 + len)
    scanBase := laterBy len x.scanBase
    probeBase := laterBy len x.probeBase
    onSince := laterBy len x.onSince
    lastResend := x.lastResend + len }

/-- The timers of casting, per-cell power and the engine go on from where they stood (R300, R313, R364). -/
def State.timersThaw (len : Nat) (s : State) : State :=
  let s := { s with cast := { s.cast with
    cells := Sparse.canon (fun _ => {}) (s.cast.cells.map fun (e : Nat × CastCell) => (e.1, e.2.later len))
    phases := Sparse.canon (fun _ => {}) (s.cast.phases.map fun (e : Nat × CastPhase) => (e.1, e.2.later len)) } }
  let s := { s with pwr := { s.pwr with
    cells := Sparse.canon (fun _ => {}) (s.pwr.cells.map fun (e : Nat × PwrCell) => (e.1, e.2.later len)), contSince := laterBy len s.pwr.contSince } }
  s.mapEngine fun g => { g with winStart := g.winStart + len, winBad := true, cessAt := laterBy len g.cessAt }

/-- Training of the loops goes on (R204, R219). -/
def State.wingThaw (len : Nat) (s : State) : State :=
  s.each (List.range 4) fun n s =>
    let l := s.loop n
    s.setLoop n { l with train := l.train.map fun t => { t with start := t.start + len } }

/-- The moderation timers and the sink windows go on (R596). -/
def State.routerThaw (len : Nat) (s : State) : State :=
  { s with router := { s.router with
    vecs := Sparse.canon (fun _ => {}) (s.router.vecs.map fun e => (e.1, { e.2 with start := e.2.start + len }))
    sinks := Sparse.canon (fun _ => {}) (s.router.sinks.map fun e => (e.1, { e.2 with window := laterBy len e.2.window }))
    pulseEnd := Sparse.canon (fun _ => none) (s.router.pulseEnd.map fun e => (e.1, e.2.map fun _ => s.elapsed))
    ppsEnd := Sparse.canon (fun _ => none) (s.router.ppsEnd.map fun e => (e.1, e.2.map fun x => max x s.elapsed)) } }

/-- Every block that tableau has stopped goes on. -/
def State.thaw (s : State) : State :=
  let len := s.elapsed - s.power.tabStart
  let s := ((s.timersThaw len).wingThaw len).gridThaw len
  let s := ((s.curtThaw len).pumpThaw len).meterThaw len
  s.engThaw

/-- TEST's hold ends when another instruction than EXTEST is in force (R628, R630). -/
def State.endExtest (s : State) : State := s.mapPower fun p => { p with holds := p.holds.filter (· ≠ 7) }

/-- TABLEAU_ENTRY (R601, R603, R627, R629): a TABLEAU instruction that requests entry. While a reset is in hand nothing is entered. -/
def execTableauEntry (t : Nat) (bits : BitVec 2) (s : State) : Host.Outcome State Fault Refusal :=
  s.run t fun s =>
    let s := s.endExtest
    if bits ≠ 1 || s.tableau then s
    else if s.power.otp.debugLock then s.mapPower fun p => { p with tabRefused := true }
    else if s.power.startDue then s.mapPower fun p => { p with tabRefused := false }
    else
      let s := s.mapPower fun p => { p with tabRefused := false, tabStart := s.elapsed }
      let s := { s with router := { s.router with frozenHorizon := s.horizon, tabArrivals := 0 } }
      let s := s.each (List.range 4) fun g s =>
        s.abandonHand g
      let s := s.wingFreeze.castFreeze.merFreeze.engFreeze.meterFreeze.pumpFreeze
      (s.setBit F.POWER_STATUS_TABLEAU true).raise 22

/-! Resets (R623 to R627) -/

/-- The kinds that stop PLL-B and the datum-time counter (R624). -/
def stopsTime (k : Nat) : Bool := k ≤ 1 || k == 3 || k == 4

/-- A field written with what it held before. -/
def State.keepField (old : State) (s : State) (f : FieldRef) : State := s.set f (old.get f)

/-- The fields that a reset of kind `k` leaves in the blocks that it reaches (R624, R717): the memos and the highest temperature but for POR
and BROWN, ORIGIN where datum time runs on, and with the tables what says that they are valid; under SOFT the configuration space. -/
def keptFields (k : Nat) : List FieldRef :=
  (if k ≤ 1 then [] else [F.CLOCK_MEMO_VALID_A, F.CLOCK_MEMO_VALID_B, F.CLOCK_MEMO_VALID_C, F.POWER_TEMP_MAX,
    F.POWER_RESET_CAUSE_HISTORY, F.POWER_STATUS_RAIL_OK]) ++
  (if stopsTime k then [] else [F.DATUM_STATUS_ORIGIN]) ++
  (if k = 5 then [F.HOST_TABLE_OK_OK, F.CURTAIN_STATUS_PARAM_OK, F.PUMP_STATUS_CURVE_OK, F.HOST_STATUS_BME,
    F.HOST_STATUS_LINK_UP, F.HOST_STATUS_SPEED, F.IRQ_STATUS_MSI, F.IRQ_STATUS_MSIX] else [])

/-- The raise gap after a contactor drive that the reset has taken away (R442). -/
def State.keepGap (old : State) (s : State) : State :=
  s.setBit F.CURTAIN_HOLD_GAP (old.curt.kdrva || old.bit F.CURTAIN_HOLD_GAP)

/-- The part of the power state that a reset of kind `k` reaches: the governor; with PLL-B the PLLs and their domains; with the supplies the
temperatures and the test port. -/
def Power.afterReset (k elapsed : Nat) (p : Power) : Power :=
  let p := { p with coolSince := none, hotSince := none, hotSpent := 0 }
  let p := if stopsTime k then { p with plls := [], stageByp := false } else p
  if k ≤ 1 then { p with temps := [], tempSeen := false, lastTemp := elapsed, tabRefused := false, keyJob := none, keyOut := 0
                         holds := p.holds.filter (· ≠ 7) }
  else p

/-- The event router and the interrupt controller after a reset that reaches them; a SOFT reset leaves the MSI-X table and the per-vector
masks, which are in the configuration space (R624). -/
def Router.afterReset (r : Router) (config : Bool) : Router :=
  let r' : Router := { messages := r.messages }
  if config then { r' with msiCount := r.msiCount, msixTable := r.msixTable, vecMask := r.vecMask } else r'

/-- A reset that reaches every BAR0 block but GHOST (R624). -/
def State.resetBlocks (k : Nat) (s : State) : State :=
  let soft := k == 5
  let new : State := { s with
    regs := s.regs.filter fun e => 0x5400 ≤ e.1 && e.1 < 0x5800
    latched := s.latched.filter fun e => 0x5400 ≤ e.1 && e.1 < 0x5800
    datum := if stopsTime k then 0 else s.datum
    tables := if soft then s.tables else []
    disc := { running := s.disc.running && !stopsTime k }
    router := s.router.afterReset soft
    mer := { out := s.mer.out }
    host := { writes := s.host.writes, d3hot := soft && s.host.d3hot }
    conv := { hands := (List.range 4).map fun g => (g, { endAt := s.elapsed }) }
    wing := { wire := s.wing.wire }
    grid := { nextTick := (s.elapsed / 100000 + 1) * 100000, tabSig := if soft then s.tableParam else {} }
    engine := { winStart := s.elapsed }
    cast := {}
    pwr := {}
    meter := { atlas := if k ≤ 1 then [] else s.meter.atlas, lastRefresh := s.elapsed }
    guard := { lowSince := s.elapsed }
    pump := { chans := (List.range 4).map fun c => (c, { start := s.elapsed }) }
    scrub := { lastEnd := s.elapsed }
    power := s.power.afterReset k s.elapsed }
  let new := (keptFields k).foldl s.keepField new
  ((s.keepGap new).curtReset).castFromRoster

/-- Every register of a range back at its reset value, but for those of a second range within it. -/
def State.resetButRange (lo hi keepLo keepHi : Nat) (s : State) : State :=
  { s with regs := s.regs.filter fun e => e.1 < lo || hi ≤ e.1 || (keepLo ≤ e.1 && e.1 < keepHi)
           latched := s.latched.filter fun e => e.1 < lo || hi ≤ e.1 }

/-- The curtain taken to LOCKED by a reset that leaves its neighbours as they are (R441, R444, R445, R450): the stop is counted, the loops
are halted, the engine ends. -/
def State.curtainLost (s : State) : State :=
  let was := s.curtain
  let s := s.loadBreak
  let s := s.when (was != cur.locked) fun s =>
    ((s.count F.CURTAIN_STOPS_COUNT).count F.CURTAIN_LOCKS_COUNT).noteClass 6
  let s := s.when (!s.btrip) State.latchB
  s.set F.CURTAIN_STATUS_STATE cur.locked |>.engCurtainDown

/-- A reset of kind PERST (R624): HOST, IRQ and EVENT, the configuration space, and the curtain channels, the CURTAIN block's counters kept;
the tables stay valid. Parts that tableau has stopped and the reset does not reach go on. -/
def State.resetPerst (s : State) : State :=
  let s := s.when s.tableau State.thaw
  let s := s.setBit F.POWER_STATUS_TABLEAU false
  let s := s.curtainLost.unstage fun _ => true
  let ends := (List.range 4).filter fun n => (Sparse.get (fun _ => none) s.router.pulseEnd n).isSome
  let pins := ends.foldl (fun m n => Sparse.set (fun _ => .highZ) m n .low) s.router.evioPin
  let new := (s.resetRange 0x0400 0x1000).resetButRange 0x4800 0x4C00 0x4820 0x4834
  let new := { new with
    router := { s.router.afterReset false with evioPin := pins, evioEdge := s.router.evioEdge, ppsEnd := s.router.ppsEnd }
    host := { writes := s.host.writes } }
  let new := [F.HOST_TABLE_OK_OK, F.CURTAIN_STATUS_PARAM_OK].foldl s.keepField new
  (s.keepGap new).curtReset

/-- A number with the bits of a list of kinds set. -/
def kindBits (l : List Nat) : Nat := l.foldl (fun b k => Nat.lor b (2 ^ k)) 0

/-- A reset of kind `k` is asserted (R624, R627, R649): the METER state is retained first where the kind asks for it, main power is absent from
now on where the kind stops datum time (R645), the parts are reset, and the cause is recorded. -/
def State.assertReset (k : Nat) (refresh : Bool) (s : State) : State :=
  let s := s.when (refresh && s.meterLive && 2 ≤ k && k != 6) fun s => s.finishStep.retain
  let s := s.when (stopsTime k) State.losePower
  let period := if s.power.startDue then k :: s.power.period.filter (· ≠ k) else [k]
  let whole := k != 6 || (s.power.startDue && s.power.whole)
  let s := if k = 6 then s.resetPerst else s.resetBlocks k
  let s := s.mapPower fun p => { p with period := period, whole := whole, startDue := true }
  let s := s.setBit F.POWER_STATUS_START_DONE false
  let s := s.set F.POWER_RESET_CAUSE_HISTORY (Nat.lor (s.get F.POWER_RESET_CAUSE_HISTORY) (kindBits period))
  s.set F.POWER_RESET_CAUSE_LAST (period.foldl min 7)

/-- A reset whose condition holds it (R623). -/
def State.holdReset (k : Nat) (refresh : Bool) (s : State) : State :=
  if s.power.holds.contains k then s
  else (s.assertReset k refresh).mapPower fun p => { p with holds := k :: p.holds }

/-- A rail below its reset threshold is below its warning level too: the domain draws on its store (R640, R646). -/
def State.railsLow (rails : BitVec 5) (s : State) : State :=
  s.when (rails ≠ 31 && s.ghost.running) fun s =>
    ((s.setBit F.GHOST_STATUS_PF_WARN true).setBit F.GHOST_STATUS_TRICKLING false).mapGhost fun g => { g with store := true }

/-- POR (R608, R624): `rails` shows the rails' monitors. -/
def execPor (t : Nat) (rails : BitVec 5) (s : State) : Host.Outcome State Fault Refusal :=
  s.run t fun s =>
    ((s.assertReset 0 false).mapPower fun p => { p with started := false }).set F.POWER_STATUS_RAIL_OK rails.toNat |>.railsLow rails

/-- BROWN (R608): a rail has stayed below its reset threshold; before the first internal start has completed it is a POR. -/
def execBrown (t : Nat) (rails : BitVec 5) (s : State) : Host.Outcome State Fault Refusal :=
  s.run t fun s =>
    if rails = 31 then s
    else (s.assertReset (if s.power.started then 1 else 0) false).set F.POWER_STATUS_RAIL_OK rails.toNat |>.railsLow rails

/-- PIN_RESET (R625). -/
def execPinReset (t : Nat) (s : State) : Host.Outcome State Fault Refusal := s.run t (State.assertReset 2 true)

/-- PERST (R623, R624). -/
def execPerst (t : Nat) (s : State) : Host.Outcome State Fault Refusal := s.run t (State.assertReset 6 false)

/-- TEST_RESET (R623, R630): EXTEST comes into force and holds the reset. -/
def execTestReset (t : Nat) (s : State) : Host.Outcome State Fault Refusal := s.run t (State.holdReset 7 true)

/-- A write of POWER_RESET (R626). -/
def State.writePowerReset (data : Word) (s : State) : State :=
  if bitsOf data.toNat 0 16 = 0x5AF0 then s.assertReset 5 true else s.setBit F.POWER_STATUS_CFG_REJECT true

/-- SOFT_RESET (R626); held in tableau. -/
def execSoftReset (t : Nat) (data : Word) (s : State) : Host.Outcome State Fault Refusal :=
  s.run t fun s => s.bar0 Reg.POWER_RESET data (State.writePowerReset data)

/-! PLLs and the speed of CORE (R611 to R618) -/

def State.pll (s : State) (i : Nat) : Pll := Sparse.get (fun _ => {}) s.power.plls i

def State.setPll (s : State) (i : Nat) (p : Pll) : State :=
  s.mapPower fun w => { w with plls := Sparse.set (fun _ => {}) w.plls i p }

/-- The LOCK bit of a PLL. -/
def lockBit (i : Nat) : FieldRef := ⟨Reg.CLOCK_STATUS, i, 1⟩

/-- The band memos of a PLL. -/
def memoField (i : Nat) : FieldRef := ⟨Reg.CLOCK_MEMO, 8 * i, 8⟩

/-- A lock (R614): from the memo of the present band where that is valid, else by a band search that writes it. -/
def State.lockMemo (i : Nat) (s : State) : State :=
  let b := bandOf (s.getInt F.POWER_TEMP_TEMP)
  let s := (s.set (F.CLOCK_PLL_MEMO i) b).setBit (F.CLOCK_PLL_HIT i) (s.ibit (memoField i) b)
  s.setIbit (memoField i) b true

/-- Background work is deferred while the governor is HOT or CORE runs on the crystal (R622). -/
def State.judgeDeferred (s : State) : State :=
  s.setBit F.SCRUB_STATUS_DEFERRED (s.bit F.POWER_STATUS_THERM || s.bit F.CLOCK_STATUS_CORE_BYP)

/-- The speed of CORE (R618): a change is a commit of PLL-A's output divider; on the crystal it waits. -/
def State.judgeSpeed (s : State) : State :=
  let slow := s.bit F.POWER_STATUS_THERM || s.bit F.CLOCK_CTRL_FORCE_SLOW
  if s.bit F.CLOCK_STATUS_CORE_BYP || slow == s.bit F.CLOCK_STATUS_CORE_SLOW then s
  else ((s.setBit F.CLOCK_STATUS_CORE_SLOW slow).set (F.CLOCK_PLL_OUT 0) (if slow then 8 else 4)).count F.CLOCK_HOPS_COUNT

/-- PLL_UNLOCK (R615, R616). -/
def execPllUnlock (t : Nat) (pll : Fin 3) (s : State) : Host.Outcome State Fault Refusal :=
  s.run t fun s =>
    let i := pll.val
    if !(s.pll i).locked then s
    else
      let s := s.setPll i { locked := false, since := s.elapsed, attempt := s.elapsed, off := true }
      let s := ((s.setBit (lockBit i) false).count F.CLOCK_UNLOCKS_COUNT).raise 19 i
      if i = 0 then
        (((s.setBit F.CLOCK_STATUS_CORE_BYP true).raise 21 0).judgeDeferred).engineFault
      else if i = 1 then
        if s.power.stageByp then s
        else
          let s := s.haltAll
          let s := (s.setBit F.CLOCK_STATUS_STAGE_BYP true).mapPower fun p => { p with stageByp := true }
          ((s.raiseAt (s.datum + 100) 21 1).stageLoss.setDisc 0).engineFault
      else s.setBit F.CLOCK_STATUS_CONV_STOP true

/-- The PLL has lost its lock and hunts for it. -/
def State.hunting (s : State) (i : Nat) : Bool := !(s.pll i).locked && (s.pll i).off

/-- PLL_RELOCK (R614, R615). -/
def execPllRelock (t : Nat) (pll : Fin 3) (s : State) : Host.Outcome State Fault Refusal :=
  s.run t fun s =>
    let i := pll.val
    if !s.hunting i then s
    else
      let s := s.setPll i { s.pll i with locked := true, since := s.elapsed }
      ((s.setBit (lockBit i) true).count F.CLOCK_RELOCKS_COUNT).raise 20 i |>.lockMemo i

/-- RELOCK_ATTEMPT (R615): every 10 ms after the one made at the loss. -/
def execRelockAttempt (t : Nat) (pll : Fin 3) (s : State) : Host.Outcome State Fault Refusal :=
  s.run t fun s =>
    let p := s.pll pll
    if s.hunting pll && s.expired p.attempt 10000000 then s.setPll pll { p with attempt := s.elapsed } else s

/-- CORE_RETURN (R616, R618). -/
def execCoreReturn (t : Nat) (s : State) : Host.Outcome State Fault Refusal :=
  s.run t fun s =>
    let p := s.pll 0
    if p.locked && p.off && s.expired p.since 1000000 then
      (((s.setPll 0 { p with off := false }).setBit F.CLOCK_STATUS_CORE_BYP false).judgeSpeed).judgeDeferred
    else s

/-- CONV_RESTART (R616): at a round boundary. -/
def execConvRestart (t : Nat) (s : State) : Host.Outcome State Fault Refusal :=
  s.run t fun s =>
    let p := s.pll 2
    if p.locked && p.off && s.expired p.since 100000 && s.datum % 1000 = 0 then
      (s.setPll 2 { p with off := false }).setBit F.CLOCK_STATUS_CONV_STOP false
    else s

/-- CRYSTAL_WINDOW (R619): a count outside its limits holds a CLOCK reset until two consecutive windows lie inside. With no edge at all the
crystal has failed and CORE has no clock, so metering is not retained first (R649). -/
def execCrystalWindow (t : Nat) (count : Nat) (s : State) : Host.Outcome State Fault Refusal :=
  s.run t fun s =>
    if 2250 ≤ count && count ≤ 2750 then
      let s := (s.set F.CLOCK_XTAL_COUNT count).set F.CLOCK_SAFE_FREQ (60000000 / count)
      if s.power.holds.contains 3 then
        let s := s.mapPower fun p => { p with goodWindows := p.goodWindows + 1 }
        s.when (2 ≤ s.power.goodWindows) fun s => s.mapPower fun p => { p with holds := p.holds.filter (· ≠ 3) }
      else s
    else (s.holdReset 3 (count != 0)).mapPower fun p => { p with goodWindows := 0 }

/-! The thermal governor (R620, R621) -/

/-- Time in HOT so far, shown in whole seconds (R621). -/
def State.showHot (s : State) : State :=
  let now := match s.power.hotSince with
    | some t0 => s.power.hotSpent + (s.elapsed - t0)
    | none => s.power.hotSpent
  s.setTop F.POWER_HOT_TIME_COUNT (now / second)

/-- The governor enters HOT. -/
def State.enterHot (s : State) : State :=
  let s := (s.setBit F.POWER_STATUS_THERM true).mapPower fun p => { p with hotSince := some s.elapsed, coolSince := none }
  ((s.count F.POWER_HOT_ENTRIES_COUNT).raise 18).judgeSpeed.judgeDeferred

/-- The governor's part in reset does not act: the POWER block waits for its internal start. -/
def State.powerLive (s : State) : Bool := !(s.power.startDue && s.power.whole)

/-- TEMPERATURE_MEASUREMENT (R620, R621): `temp` is the measurement in 0.1 °C. -/
def execTemperatureMeasurement (t : Nat) (temp : Int) (s : State) : Host.Outcome State Fault Refusal :=
  s.run t fun s =>
    let l := (temp :: s.power.temps).take 8
    let n : Int := l.length
    let sum := l.sum
    let mean := roundAway ((sum : Rat) / n)
    let top := s.getInt F.POWER_TEMP_MAX
    let s := (s.setSat F.POWER_TEMP_TEMP mean).when (!s.power.tempSeen || top < mean) fun s => s.setSat F.POWER_TEMP_MAX mean
    let s := s.mapPower fun p => { p with temps := l, lastTemp := s.elapsed, tempSeen := true }
    let s := s.when (s.power.holds.contains 4 && sum ≤ 1250 * n) fun s =>
      s.mapPower fun p => { p with holds := p.holds.filter (· ≠ 4) }
    if 1400 * n < sum then s.holdReset 4 true
    else if !s.powerLive then s
    else
      let s := s.showHot
      if s.bit F.POWER_STATUS_THERM then
        s.mapPower fun p => { p with coolSince := if sum ≤ 1100 * n then some (p.coolSince.getD s.elapsed) else none }
      else s.when (1150 * n < sum) State.enterHot

/-- HOT_EXIT (R621). -/
def execHotExit (t : Nat) (s : State) : Host.Outcome State Fault Refusal :=
  s.run t fun s =>
    if s.bit F.POWER_STATUS_THERM && s.due s.power.coolSince second then
      let s := s.showHot
      let spent := match s.power.hotSince with
        | some t0 => s.power.hotSpent + (s.elapsed - t0)
        | none => s.power.hotSpent
      let s := (s.setBit F.POWER_STATUS_THERM false).mapPower fun p => { p with hotSince := none, coolSince := none, hotSpent := spent }
      (s.raise 18).judgeSpeed.judgeDeferred
    else s

/-- TEMP_TIMEOUT (R620): no measurement for 1 ms counts as above 115.0 °C. -/
def execTempTimeout (t : Nat) (s : State) : Host.Outcome State Fault Refusal :=
  s.run t fun s =>
    if s.expired s.power.lastTemp 1000000 && s.powerLive then
      let s := (s.set F.POWER_TEMP_TEMP 0x7FFF).mapPower fun p => { p with coolSince := none }
      s.when (!s.bit F.POWER_STATUS_THERM) State.enterHot
    else s

/-! The record key (R631) -/

/-- KEY_OK and METER_KEY_ID shown (R409). -/
def State.showKey (s : State) : State :=
  (s.setBit F.METER_STATUS_KEY_OK s.power.otp.key.isSome).set F.METER_KEY_ID_ID s.power.otp.keyId

/-- KEY_PROG at Update-DR (R631): bits 1 and 2 of the outcome are the refusals. `vddOk`: VDD18 has not left its release range. -/
def execKeyProg (t : Nat) (key : BitVec 256) (id : Word) (vddOk : Bool) (s : State) : Host.Outcome State Fault Refusal :=
  s.run t fun s =>
    let s := s.endExtest
    let p := s.power
    let bad := (if p.otp.key.isSome then 2 else 0) + (if s.curtain = cur.locked && vddOk then 0 else 4)
    if p.keyJob.isSome then s
    else if p.otp.keyFailed then s.mapPower fun p => { p with keyOut := bad + 8 }
    else if bad ≠ 0 then s.mapPower fun p => { p with keyOut := bad }
    else s.mapPower fun p => { p with keyOut := 0, keyJob := some (leBytes 32 key.toNat, id.toNat) }

/-- KEY_VERIFY (R631): programming has ended and the stored key is read back. -/
def execKeyVerify (t : Nat) (stored : BitVec 256) (s : State) : Host.Outcome State Fault Refusal :=
  s.run t fun s =>
    match s.power.keyJob with
    | none => s
    | some (key, id) =>
      if leBytes 32 stored.toNat = key then
        (s.mapPower fun p => { p with keyJob := none, keyOut := 1, otp := { p.otp with key := some key, keyId := id } }).showKey.loadShadow
      else
        (s.mapPower fun p => { p with keyJob := none, keyOut := 8, otp := { p.otp with keyFailed := true } }).setBit
          F.POWER_TAP_KEY_FAILED true

/-- KEY_CHECK at Capture-DR (R631). -/
def execKeyCheck (t : Nat) (s : State) : Host.Outcome State Fault Refusal :=
  s.run t fun s =>
    let s := s.endExtest
    let v := match s.power.otp.key with
      | none => 0
      | some k => ofLe ((hmac k (List.replicate 64 0)).take 4).reverse
    s.mapPower fun p => { p with keyCheck := v }

/-! Internal start (R632) -/

/-- The PLLs that a reset has stopped lock, and CLOCK_STATUS shows how all of them stand (R614, R616). -/
def State.startPlls (s : State) : State :=
  let s := s.each (List.range 3) fun i s =>
    let p := s.pll i
    s.when (!p.locked && !p.off) fun s => (s.setPll i { locked := true }).lockMemo i
  let s := s.each (List.range 3) fun i s => s.setBit (lockBit i) (s.pll i).locked
  let s := (s.setBit F.CLOCK_STATUS_CORE_BYP (s.pll 0).off).setBit F.CLOCK_STATUS_CONV_STOP (s.pll 2).off
  (s.setBit F.CLOCK_STATUS_STAGE_BYP s.power.stageByp).judgeDeferred

/-- The one-time-programmable memory is read (R632): DEBUG_LOCK, KEY_FAILED, the key's presence and identifier, the serial number, and the
slices' factory calibration, whose age starts (R134). -/
def State.readOtp (s : State) : State :=
  let o := s.power.otp
  let s := (s.setBit F.POWER_TAP_DEBUG_LOCK o.debugLock).setBit F.POWER_TAP_KEY_FAILED o.keyFailed
  let s := s.showKey.setPair Reg.LEGEND_SERIAL_LO o.serial
  { s with conv := { s.conv with
      calAt := Sparse.canon (fun _ => 0) ((List.range 20).map fun i => (i, s.elapsed)) } }

/-- INTERNAL_START (R632): the release of the last held reset to START_DONE. -/
def execInternalStart (t : Nat) (romOk : Bool) (s : State) : Host.Outcome State Fault Refusal :=
  s.run t fun s =>
    if !s.power.startDue || !s.power.holds.isEmpty then s
    else
      let meter := s.power.whole
      let lost := !s.disc.running
      let s := (s.set F.POWER_STATUS_RAIL_OK 31).startPlls
      let s := s.when meter State.readOtp
      let s := s.when (!romOk) fun s => s.curtCause 11
      let s := s.ghostStart lost meter
      let s := s.when meter fun s =>
        (s.setDomainOk.bearEnable).when s.power.otp.key.isNone fun s => s.raise 168
      let s := s.mapCurt fun c => { c with lastHb := s.elapsed }
      let s := s.mapPower fun p => { p with startDue := false, started := true, period := [], whole := false }
      (s.setBit F.POWER_STATUS_START_DONE true).raise 16 (s.get F.POWER_RESET_CAUSE_LAST)

/-! Modes (R604 to R606) -/

/-- MODE_SET (R605, R606, R447, R451). -/
def execModeSet (t : Nat) (d : Desc) (s : State) : Host.Outcome State Fault Refusal :=
  s.run t fun s =>
    let tg := d.target.toNat
    s.checked d
      [ (1 < tg, st.targetRange, 0), (d.len.toNat != 0, st.lenRange, 0)
      , (d.p0.toNat != 0 || d.p1.toNat != 0, st.targetRange, 0x10)
      , (!s.curtainDown, st.stateRefused, 1), (tg == 1 && !s.paramOk, st.stateRefused, 2) ]
      fun s =>
        if s.service = (tg == 1) then s.finish d
        else
          let s := (s.setBit F.CURTAIN_STATUS_MODE (tg == 1)).setBit F.CURTAIN_STATUS_ARMED false
          (s.curtMode.raise 17).finish d

end Sys2Proof.Machine
end

