-- ==== Sys2Proof/Machine/Access.lean ====
section
/-! DEFINITION. Sys2Proof/Machine/Access.lean: the host's reads and writes of BAR0 registers (spec/00 R3 to R5, R44, spec/18 R688), STATS_READ, and the
end of tableau, which applies the host writes that tableau has held. -/

namespace Sys2Proof.Machine

/-! Reads (R4, R44, R688) -/

/-- A number whose bits, least significant first, are those of a list. -/
def bitsNat : List Bool → Nat
  | [] => 0
  | b :: bs => (if b then 1 else 0) + 2 * bitsNat bs

/-- A register value with one field replaced. -/
def withField (f : FieldRef) (v : Nat) (x : Word) : Word := BitVec.ofNat 32 (putBits x.toNat f.lo f.w v)

/-- A register value with a one-bit field replaced. -/
def withBit (f : FieldRef) (b : Bool) (x : Word) : Word := withField f (if b then 1 else 0) x

/-- The _LO registers of the pairs whose _LO read captures both halves (R44). -/
def capturePairs : List Nat :=
  [Reg.LEGEND_SERIAL_LO, Reg.DATUM_NOW_LO, Reg.DATUM_PPS_LAST_LO, Reg.DATUM_HORIZON_LO, Reg.METER_OPEN_LO, Reg.METER_SNAP_TIME_LO,
   Reg.CURTAIN_LAST_LO, Reg.GHOST_OUT_START_LO, Reg.GHOST_OUT_END_LO]

/-- The 64-bit value that a pair shows now. -/
def State.livePair (s : State) (lo : Nat) : Nat :=
  if lo = Reg.DATUM_NOW_LO then s.datum
  else if lo = Reg.DATUM_HORIZON_LO then s.horizon
  else s.pair lo

/-- The vectors of one IRQ_PEND or IRQ_SERVICE register that satisfy a condition. -/
def State.vecBits (s : State) (n : Nat) (p : VecPhase → Bool) : Word :=
  BitVec.ofNat 32 (bitsNat ((List.range 32).map fun j => p (s.vec (32 * n + j)).phase))

/-- A register whose shown value follows from other state, with `x` what it stores itself: interrupt state (R583, R585, R586), readiness
(R301, R341, R266, R267, R421), disturbances and the islanding run (R248, R261), active cells (R25), the curtain's holds (R442), the guard (R487), the timed queue and full rings (R546,
R573). -/
def State.shown (s : State) (a : Nat) (x : Word) : Word :=
  if a = Reg.HOST_TIMED then withField F.HOST_TIMED_PENDING s.host.timed.length x
  else if a = Reg.CUR_STATUS then withBit F.CUR_STATUS_READY s.engReady (if s.starOff then withBit F.CUR_STATUS_STAR_RES false x else x)
  else if a = Reg.CAST_STATUS then withBit F.CAST_STATUS_READY s.castReady x
  else if a = Reg.GRID_STATUS then withBit F.GRID_STATUS_SIG_OK s.sigOk (withBit F.GRID_STATUS_CONTOURS_OK s.contoursOk x)
  else if a = Reg.GRID_ISL then withField F.GRID_ISL_INDEX (s.datum / chipLength % 255) (withField F.GRID_ISL_CHIPS s.grid.run.length x)
  else if a = Reg.GRID_DIST_V then BitVec.ofNat 32 (min (2 ^ 32 - 1) (s.disturbedFor s.grid.cv))
  else if a = Reg.GRID_DIST_F then BitVec.ofNat 32 (min (2 ^ 32 - 1) (s.disturbedFor s.grid.cf))
  else if a = Reg.METER_STATUS then withBit F.METER_STATUS_CAL_OK s.calOk x
  else if a = Reg.CURTAIN_HOLD then BitVec.ofNat 32 (bitsNat s.holdBits)
  else if a = Reg.GUARD_STATUS then
    withBit F.GUARD_STATUS_TRIP_ACTIVE s.tripActive (withBit F.GUARD_STATUS_LATCHED s.guardLatched x)
  else if a = Reg.GUARD_PINS then
    withBit F.GUARD_PINS_GD_EN (s.bit F.GUARD_CTRL_GD_EN)
      (withField F.GUARD_PINS_ON (bitsNat ((List.range 7).map s.swOn)) x)
  else if Reg.HOST_RING_STATE 2 ≤ a && a ≤ Reg.HOST_RING_STATE 5 && a % 32 = 20 then
    let n := (a - 0x0454) / 32
    withBit (F.HOST_RING_STATE_FULL n) (s.bit (F.HOST_RING_CFG_EN n) && s.ringOcc n == s.ringSize n) x
  else if Reg.IRQ_PEND 0 ≤ a && a ≤ Reg.IRQ_PEND 1 then
    s.vecBits ((a - Reg.IRQ_PEND 0) / 4) fun p => p == .gather || p == .due || p == .sending
  else if Reg.IRQ_SERVICE 0 ≤ a && a ≤ Reg.IRQ_SERVICE 1 then
    s.vecBits ((a - Reg.IRQ_SERVICE 0) / 4) fun p => p == .inService
  else if Reg.IRQ_SRCPEND 0 ≤ a && a ≤ Reg.IRQ_SRCPEND 7 then
    BitVec.ofNat 32 (bitsNat ((List.range 32).map fun j => s.causes (32 * ((a - Reg.IRQ_SRCPEND 0) / 4) + j) != 0))
  else if Reg.CUR_LEVEL 0 ≤ a && a ≤ Reg.CUR_LEVEL 2 then
    let p := (a - Reg.CUR_LEVEL 0) / 4
    withField (F.CUR_LEVEL_N_ACT p) (s.activeCells p).length x
  else if Reg.CAST_PHASE 0 ≤ a && a ≤ Reg.CAST_PHASE 2 then
    let p := (a - Reg.CAST_PHASE 0) / 4
    withField (F.CAST_PHASE_N_ACT p) (s.activeCells p).length x
  else x

/-- The bits of a register that a read shows: those of its fields but for WO fields; reserved bits read 0 (R3, R4). -/
def RegRow.readMask (r : RegRow) : Nat :=
  (r.fields.filter fun f => f.access != .wo).foldl (fun m f => putBits m f.lo f.w (2 ^ f.w - 1)) 0

/-- What a register shows, the halves of a pair both at this instant (R566); a reserved address shows 0 (R688). -/
def State.liveReg (s : State) (a : Nat) : Word :=
  match regRow a with
  | none => 0
  | some row =>
    if capturePairs.contains a then BitVec.ofNat 32 (s.livePair a)
    else if 4 ≤ a && capturePairs.contains (a - 4) then BitVec.ofNat 32 (s.livePair (a - 4) / 2 ^ 32)
    else s.shown a (s.reg a) &&& BitVec.ofNat 32 row.readMask

/-- What a host read of an address returns (R4, R44, R688): the _HI register of a pair returns the upper half of the latest capture. -/
def State.readReg (s : State) (a : Nat) : Word :=
  if 4 ≤ a && capturePairs.contains (a - 4) then
    BitVec.ofNat 32 (Sparse.get (fun _ => 0) s.latched (a - 4) / 2 ^ 32)
  else s.liveReg a

/-- LO_READ_CAPTURE (R44, R688): a read of the _LO register of a pair captures all 64 bits. -/
def execLoReadCapture (t : Nat) (addr : Nat) (s : State) : Host.Outcome State Fault Refusal :=
  s.run t fun s =>
    if capturePairs.contains addr then
      { s with latched := Sparse.set (fun _ => 0) s.latched addr (s.livePair addr) }
    else s

/-! Writes (R4, R688) -/

/-- A written field's value lies in its range. -/
def FieldRow.fits (data : Nat) (f : FieldRow) : Bool :=
  match f.access, f.range with
  | .rw, some (lo, hi) =>
    let x : Int := if f.signed then Machine.signed f.w (bitsOf data f.lo f.w) else bitsOf data f.lo f.w
    lo ≤ x && x ≤ hi
  | _, _ => true

/-- The CFG_REJECT bit of the block that holds an address; the legend block has none. -/
def rejectBit (a : Nat) : Option FieldRef :=
  if a < 0x0400 then none
  else if a < 0x0800 then some F.HOST_STATUS_CFG_REJECT
  else if a < 0x0C00 then some F.IRQ_STATUS_CFG_REJECT
  else if a < 0x1000 then some F.EVENT_STATUS_CFG_REJECT
  else if a < 0x1400 then some F.CLOCK_STATUS_CFG_REJECT
  else if a < 0x1800 then some F.POWER_STATUS_CFG_REJECT
  else if a < 0x2000 then some F.DATUM_STATUS_CFG_REJECT
  else if a < 0x2400 then some F.CONV_STATUS_CFG_REJECT
  else if a < 0x2800 then some F.COMP_STATUS_CFG_REJECT
  else if a < 0x3000 then some F.WING_STATUS_CFG_REJECT
  else if a < 0x3400 then some F.CUR_STATUS_CFG_REJECT
  else if a < 0x3800 then some F.CAST_STATUS_CFG_REJECT
  else if a < 0x3C00 then some F.CELLPWR_STATUS_CFG_REJECT
  else if a < 0x4000 then some F.GRID_STATUS_CFG_REJECT
  else if a < 0x4800 then some F.METER_STATUS_CFG_REJECT
  else if a < 0x4C00 then some F.CURTAIN_STATUS_CFG_REJECT
  else if a < 0x5000 then some F.GUARD_STATUS_CFG_REJECT
  else if a < 0x5400 then some F.PUMP_STATUS_CFG_REJECT
  else if a < 0x5800 then some F.GHOST_STATUS_CFG_REJECT
  else some F.SCRUB_STATUS_CFG_REJECT

/-- A write refused whole: the register is left, the block's CFG_REJECT is set. -/
def State.rejectWrite (a : Nat) (s : State) : State :=
  match rejectBit a with
  | none => s
  | some f => s.setBit f true

/-- A register written by its fields' access types unless a rule of its block refuses the write. -/
def State.writeUnless (bad : Bool) (a : Nat) (data : Word) (s : State) : State :=
  if bad then s.rejectWrite a else s.writeByAccess a data

/-- One target byte out of range (R580). -/
def targetBad (b : Nat) : Bool := b / 64 == 3 || (b / 64 != 1 && b % 64 != 0)

/-- R580 or R581 refuses a write of IRQ_TARGETm. -/
def State.targetRefused (s : State) (m : Nat) (data : Word) : Bool :=
  (List.range 4).any fun j =>
    let b := bitsOf data.toNat (8 * j) 8
    targetBad b || (b != s.target (4 * m + j) && !s.masked (4 * m + j))

/-- A write of a register of the IRQ block. -/
def State.writeIrq (a : Nat) (data : Word) (s : State) : State :=
  if a < 0x0900 then
    let m := a / 4 % 64
    if s.targetRefused m data then s.rejectWrite a else (s.writeByAccess a data).judgeAll
  else if a < 0x0920 then s.writeMask (a / 4 % 8) data
  else if a = Reg.IRQ_EOI then s.eoi data
  else if 0x0A00 ≤ a then (s.writeByAccess a data).judgeAll
  else s.writeByAccess a data

/-- R593 refuses a write of EVENT_SINKs_IN: an input names a combined event of a sink that is not lower. -/
def sinkInRefused (k : Nat) (data : Word) : Bool :=
  (List.range 4).any fun j => 240 + k ≤ bitsOf data.toNat (8 * j) 8

/-- A write of a register of the EVENT block: an accepted write of a sink's registers clears its window and count (R593). -/
def State.writeEvent (a : Nat) (data : Word) (s : State) : State :=
  let k := a / 4 % 64
  if a < 0x0D00 then
    if sinkInRefused k data then s.rejectWrite a else (s.writeByAccess a data).setSink k {}
  else if a < 0x0E00 then (s.writeByAccess a data).setSink k {}
  else s.writeByAccess a data

/-- The idle level of an EVIO function (R98). -/
def evioIdle (func : Nat) : EvioLevel := if func = 0 then .highZ else if func = 3 then .input else .low

/-- A pin whose function changes goes to the new function's idle level (R98). -/
def State.writeEvioFunc (data : Word) (s : State) : State :=
  let changed := (List.range 4).filter fun n => s.evioFunc n != bitsOf data.toNat (4 * n) 4
  let s := s.writeByAccess Reg.DATUM_EVIO_FUNC data
  let s := s.each changed fun n s =>
    { s with router := { s.router with
        evioPin := Sparse.set (fun _ => .highZ) s.router.evioPin n (evioIdle (s.evioFunc n))
        pulseEnd := Sparse.set (fun _ => none) s.router.pulseEnd n none
        ppsEnd := Sparse.set (fun _ => none) s.router.ppsEnd n none } }
  s.pulseHold

/-- A write of a register of the DATUM block (R60, R70, R98, R99, R103, R104, R402): windows that ended while PPSIN was not the reference are
not judged. -/
def State.writeDatum (a : Nat) (data : Word) (s : State) : State :=
  if a = Reg.DATUM_MER_CTRL then s.writeMerCtrl data
  else if a = Reg.DATUM_PPS_COMP then s.writeUnless (data.getLsbD 0) a data
  else if a = Reg.DATUM_EVIO_FUNC then s.writeEvioFunc data
  else if a = Reg.DATUM_UTC_OFFSET then
    let changes := s.get F.DATUM_UTC_OFFSET_SECONDS != bitsOf data.toNat 0 16
    (s.writeByAccess a data).when (changes && s.bit F.METER_CFG_ALIGN_UTC) State.meterCfgChanged
  else if a = Reg.DATUM_PPS_OUT then (s.writeByAccess a data).ppsQualify
  else if a = Reg.DATUM_PPS_CFG then
    let was := s.bit F.DATUM_PPS_CFG_ENABLE
    (s.writeByAccess a data).when (!was) fun s =>
      { s with disc := { s.disc with
          judged := max s.disc.judged (s.ppsEnded (s.edgeStamp (s.getInt F.DATUM_PPS_COMP_COMP))) } }
  else s.writeByAccess a data

/-- R309 refuses a write of a register of the CURRENT block. -/
def State.curRefused (s : State) (a : Nat) (data : Word) : Bool :=
  let up := !s.curtainDown
  let d := data.toNat
  if a = Reg.CUR_CTRL then up && bitsOf d 0 1 != s.get F.CUR_CTRL_EN
  else if a = Reg.CUR_LAW || a = Reg.CUR_RAMPZ then up
  else if a = Reg.CUR_BAND_LIM then
    let init := s.get F.CUR_BAND_INIT_B_INIT
    up || init < bitsOf d F.CUR_BAND_LIM_B_MIN.lo 16 || bitsOf d F.CUR_BAND_LIM_B_MAX.lo 16 < init
  else if a = Reg.CUR_BAND_INIT then
    let init := bitsOf d 0 16
    up || init < s.get F.CUR_BAND_LIM_B_MIN || s.get F.CUR_BAND_LIM_B_MAX < init
  else false

/-- A write of a register of the CAST block (R338, R345). -/
def State.writeCast (a : Nat) (data : Word) (s : State) : State :=
  if a = Reg.CAST_CTRL then s.writeCastCtrl data
  else if a = Reg.CAST_READMIT then s.writeCastReadmit data
  else if a = Reg.CAST_DWELL then
    if s.get F.CAST_DWELL_D = bitsOf data.toNat 0 16 then s
    else if s.curtainDown then s.writeDwell data else s.rejectWrite a
  else s.writeByAccess a data

/-- A write of a register of the CELLPWR block (R371, R376). -/
def State.writePwr (a : Nat) (data : Word) (s : State) : State :=
  let d := data.toNat
  if a = Reg.CELLPWR_DUMP_CLR then s.writeDumpClr data
  else if a = Reg.CELLPWR_DUMP then s.writeUnless (bitsOf d 16 10 ≤ bitsOf d 0 10) a data
  else if a = Reg.CELLPWR_CTRL then s.writeUnless (!s.curtainDown && s.get F.CELLPWR_CTRL_EN != bitsOf d 0 1) a data
  else if a = Reg.CELLPWR_ZS then s.writeUnless (!s.curtainDown && s.get F.CELLPWR_ZS_Z_MAX != bitsOf d 0 14) a data
  else s.writeByAccess a data

/-- A write of a register of the GUARD block (R478, R489). -/
def State.writeGuard (a : Nat) (data : Word) (s : State) : State :=
  if a = Reg.GUARD_CTRL then (s.writeGuardCtrl data).pumpReact
  else if a = Reg.GUARD_CFG then s.writeUnless (s.bit F.PUMP_CTRL_EN || s.bit F.GUARD_CTRL_GD_EN) a data
  else s.writeByAccess a data

/-- A write of a register of the PUMP block (R500, R502 to R504). -/
def State.writePump (a : Nat) (data : Word) (s : State) : State :=
  let auto := !s.bit F.PUMP_CTRL_MANUAL
  if a = Reg.PUMP_CTRL then s.writePumpCtrl data
  else if a = Reg.PUMP_PWM_LOAD then s.writeLoadAll data
  else if a = Reg.PUMP_MANUAL then
    s.writeUnless (s.bit F.PUMP_CTRL_EN || s.bit F.GUARD_CTRL_GD_EN || !s.curtainDown) a data
  else if Reg.PUMP_PWM_DUTY 0 ≤ a && a ≤ Reg.PUMP_PWM_DUTY 2 then s.writeUnless auto a data
  else if a = Reg.PUMP_PWM_PERIOD || a = Reg.PUMP_PWM_CHOP_PERIOD || a = Reg.PUMP_PWM_DUTY 3 ||
      (Reg.PUMP_PWM_MARK 0 ≤ a && a ≤ Reg.PUMP_PWM_MARK 3) then
    s.writeUnless (auto && s.pState != ps.off) a data
  else s.writeByAccess a data

/-- A write of a register of the METER block (R402, R426). -/
def State.writeMeter (a : Nat) (data : Word) (s : State) : State :=
  if a = Reg.METER_CTRL then s.writeMeterCtrl data
  else if a = Reg.METER_CFG then s.writeMeterCfg data
  else if a = Reg.METER_QUANTUM then s.writeQuantum data
  else s.writeByAccess a data

/-- A write of a register of the SCRUB block (R684, R686): enabling the survey makes its first pass due. -/
def State.writeScrub (a : Nat) (data : Word) (s : State) : State :=
  if a = Reg.SCRUB_WEAR_SEL then s.writeWearSel data
  else if a = Reg.SCRUB_CTRL then
    let was := s.bit F.SCRUB_CTRL_SURVEY_EN
    let s := s.writeByAccess a data
    s.when (!was && s.bit F.SCRUB_CTRL_SURVEY_EN) fun s => s.mapScrub fun b => { b with passBase := none }
  else s.writeByAccess a data

/-- A write of a register of the HOST block (R541, R575): the ring registers from 0x0440 on. -/
def State.writeHost (a : Nat) (data : Word) (s : State) : State :=
  let n := (a - 0x0440) / 32
  if 0x0440 ≤ a && a < 0x0500 then
    if a % 32 = 8 then s.writeRingCfg n data
    else if a % 32 = 0 then
      s.writeUnless (s.bit (F.HOST_RING_CFG_EN n) && bitsOf data.toNat 12 20 != bitsOf (s.reg a).toNat 12 20) a data
    else if a % 32 = 4 then s.writeUnless (s.bit (F.HOST_RING_CFG_EN n) && data != s.reg a) a data
    else s.writeByAccess a data
  else s.writeByAccess a data

/-- A write whose fields are in range, taken by the block that holds the register. -/
def State.blockWrite (a : Nat) (data : Word) (s : State) : State :=
  if a < 0x0400 then s.writeByAccess a data
  else if a < 0x0800 then s.writeHost a data
  else if a < 0x0C00 then s.writeIrq a data
  else if a < 0x1000 then s.writeEvent a data
  else if a < 0x1400 then
    if a = Reg.CLOCK_CTRL then (s.writeByAccess a data).judgeSpeed else s.writeByAccess a data
  else if a < 0x1800 then
    if a = Reg.POWER_RESET then s.writePowerReset data else s.writeByAccess a data
  else if a < 0x2000 then s.writeDatum a data
  else if a < 0x2400 then
    if a = Reg.CONV_CTRL then s.writeConvCtrl data
    else if a = Reg.CONV_STALE then s.writeStale data
    else if a = Reg.CONV_URGENT then s.writeUrgent data
    else if Reg.CONV_SLOT 0 ≤ a && a ≤ Reg.CONV_SLOT 15 then s.writeSlot ((a - Reg.CONV_SLOT 0) / 4) data
    else s.writeByAccess a data
  else if a < 0x2800 then
    if a < 0x2480 then s.writeCompCfg ((a - 0x2400) / 4) data
    else if a = Reg.COMP_TEST_CTRL then s.writeTestCtrl data
    else s.writeByAccess a data
  else if a < 0x3000 then
    if a = Reg.WING_CTRL then s.writeWingCtrl data
    else if a = Reg.WING_DELTA then s.writeWingDelta data
    else s.writeByAccess a data
  else if a < 0x3400 then
    if a = Reg.CUR_BAND_CFG then s.writeBandCfg data else s.writeUnless (s.curRefused a data) a data
  else if a < 0x3800 then s.writeCast a data
  else if a < 0x3C00 then s.writePwr a data
  else if a < 0x4000 then
    if s.gridWriteRefused a data then s.rejectWrite a else s.gridWritten a data
  else if a < 0x4800 then s.writeMeter a data
  else if a < 0x4C00 then
    if a = Reg.CURTAIN_CAUSE then s.writeCurtainCause data else s.writeByAccess a data
  else if a < 0x5000 then s.writeGuard a data
  else if a < 0x5400 then s.writePump a data
  else if a < 0x5800 then
    if a = Reg.GHOST_CFG then s.writeGhostCfg data else s.writeByAccess a data
  else s.writeScrub a data

/-- A host write that reaches its register: a reserved address takes nothing (R688); a field out of range refuses the whole write. -/
def State.applyBar0 (a : Nat) (data : Word) (s : State) : State :=
  match regRow a with
  | none => s
  | some row => if row.fields.all (FieldRow.fits data.toNat) then s.blockWrite a data else s.rejectWrite a

/-- REGISTER_WRITE (R4, R569, R688): a write with a byte enable clear is discarded; a start of the comparators' self-test is refused in
tableau (R154), other writes are held there. -/
def execRegisterWrite (t : Nat) (addr : Nat) (data : Word) (be : BitVec 4) (s : State) : Host.Outcome State Fault Refusal :=
  s.run t fun s =>
    if be ≠ 15 then s.setBit F.HOST_STATUS_CFG_REJECT true
    else if addr = Reg.COMP_TEST_CTRL && s.tableau && data.getLsbD 31 then s.setBit F.COMP_STATUS_TEST_REFUSED true
    else s.bar0 addr data (State.applyBar0 addr data)

/-! STATS_READ (R566) -/

/-- A byte range lies within one block. -/
def oneBlock (lo len : Nat) : Bool :=
  match blockOf lo with
  | none => false
  | some b => lo + len ≤ b.hi + 1

/-- STATS_READ (R566): the registers as they show at this instant, no capture made. -/
def execStatsRead (t : Nat) (d : Desc) (s : State) : Host.Outcome State Fault Refusal :=
  s.run t fun s =>
    let lo := d.p0.toNat
    let len := d.len.toNat
    s.checked d
      [ (d.target != 0, st.targetRange, 0), (d.p1 != 0, st.targetRange, 0x10)
      , (len == 0 || 2048 < len || len % 4 != 0, st.lenRange, 0)
      , (lo % 4 != 0 || !oneBlock lo len, st.targetRange, 0x11) ]
      fun s =>
        let bytes := (List.range (len / 4)).flatMap fun i => leBytes 4 (s.liveReg (lo + 4 * i)).toNat
        (s.hostWrite d.hostAddr.toNat bytes).finish d

/-! The end of tableau (R569, R596, R601, R603) -/

/-- A held host write applied at its turn; a SOFT reset among them takes what comes after it away (R626). -/
def State.applyHeld (w : HeldWrite) (s : State) : State :=
  if s.power.startDue then s
  else match w with
    | .bar0 a data => s.applyBar0 a data
    | .doorbell n v => s.doorbell n v

/-- Commands abandoned at the entry complete (R94, R218, R564). -/
def State.tabCompletes (s : State) : State :=
  let l := s.host.tabAborts
  (s.mapHost fun h => { h with tabAborts := [] }).each l fun p s => s.refuse p.1 st.aborted p.2

/-- Every event held in tableau released, in one run, with HELD and without LATE (R596). -/
def State.releaseHeld (s : State) : State :=
  let out := sortEvents s.router.held
  { s with router := { s.router with held := [], tabArrivals := 0 } }.each out fun e => State.release { e with held := true, late := false }

/-- Tableau ends in every block at this instant (R601, R603): held events first (R596), every block goes on, then timed commands whose time has
passed, then the held writes and doorbells in their order of arrival (R569). -/
def State.leaveTableau (s : State) : State :=
  let s := (s.setBit F.POWER_STATUS_TABLEAU false).routerThaw (s.elapsed - s.power.tabStart)
  let s := (s.releaseHeld.thaw.freezeMissed.raise 23).tabCompletes.dispatchTimed
  let held := s.host.held
  let s := (s.mapHost fun h => { h with held := [] }).each held State.applyHeld
  s.serveFetched.judgeAll

/-- TABLEAU_EXIT (R603, R629): a TABLEAU instruction that requests the exit. -/
def execTableauExit (t : Nat) (bits : BitVec 2) (s : State) : Host.Outcome State Fault Refusal :=
  s.run t fun s =>
    let s := s.endExtest
    if bits = 0 && s.tableau then s.leaveTableau else s

/-- TEST_LOGIC_RESET (R603, R628): IDCODE is selected, so EXTEST is not in force, and tableau ends. -/
def execTestLogicReset (t : Nat) (s : State) : Host.Outcome State Fault Refusal :=
  s.run t fun s =>
    let s := s.endExtest
    s.when s.tableau State.leaveTableau

end Sys2Proof.Machine
end

