-- ==== Sys2Proof/Machine/Dispatch.lean ====
section
/-! DEFINITION. Sys2Proof/Machine/Dispatch.lean: one arm per command, each a direct call of its meaning. -/

namespace Sys2Proof.Machine

def exec (i : Instr) (s : State) : Host.Outcome State Fault Refusal :=
  match i with
  | .registerWrite t addr data be => Sys2Proof.Machine.execRegisterWrite t addr data be s
  | .loReadCapture t addr => Sys2Proof.Machine.execLoReadCapture t addr s
  | .datumSet t d => Sys2Proof.Machine.execDatumSet t d s
  | .ppsinEdge t => Sys2Proof.Machine.execPpsinEdge t s
  | .ppsWindowEnd t => Sys2Proof.Machine.execPpsWindowEnd t s
  | .ppsPresentTimeout t => Sys2Proof.Machine.execPpsPresentTimeout t s
  | .referenceTimeout t => Sys2Proof.Machine.execReferenceTimeout t s
  | .holdoverExpired t => Sys2Proof.Machine.execHoldoverExpired t s
  | .roleChange t data => Sys2Proof.Machine.execRoleChange t data s
  | .eventArrival t e => Sys2Proof.Machine.execEventArrival t e s
  | .eventRelease t => Sys2Proof.Machine.execEventRelease t s
  | .meridianSlotSend t => Sys2Proof.Machine.execMeridianSlotSend t s
  | .meridianSlotReceived t fields crc rx8 => Sys2Proof.Machine.execMeridianSlotReceived t fields crc rx8 s
  | .meridianDown t => Sys2Proof.Machine.execMeridianDown t s
  | .ackTimeout t seq => Sys2Proof.Machine.execAckTimeout t seq s
  | .meridianSend t d payload => Sys2Proof.Machine.execMeridianSend t d payload s
  | .rxboxFree t data => Sys2Proof.Machine.execRxboxFree t data s
  | .ppsOutput t pin => Sys2Proof.Machine.execPpsOutput t pin s
  | .ppsOutputEnd t pin => Sys2Proof.Machine.execPpsOutputEnd t pin s
  | .evioIn t pin => Sys2Proof.Machine.execEvioIn t pin s
  | .scheduledSample t part => Sys2Proof.Machine.execScheduledSample t part s
  | .result t slice raw value => Sys2Proof.Machine.execResult t slice raw value s
  | .resultMissing t slice => Sys2Proof.Machine.execResultMissing t slice s
  | .referenceMonitor t microvolts => Sys2Proof.Machine.execReferenceMonitor t microvolts s
  | .handoverOpportunity t group => Sys2Proof.Machine.execHandoverOpportunity t group s
  | .calComplete t group fit => Sys2Proof.Machine.execCalComplete t group fit s
  | .overlapVerdict t group => Sys2Proof.Machine.execOverlapVerdict t group s
  | .overlapTimeout t group => Sys2Proof.Machine.execOverlapTimeout t group s
  | .swap t group => Sys2Proof.Machine.execSwap t group s
  | .calStale t group => Sys2Proof.Machine.execCalStale t group s
  | .convUrgent t data => Sys2Proof.Machine.execConvUrgent t data s
  | .convSlotWrite t part data => Sys2Proof.Machine.execConvSlotWrite t part data s
  | .readmit t data => Sys2Proof.Machine.execReadmit t data s
  | .compTrip t e => Sys2Proof.Machine.execCompTrip t e s
  | .compNormal t k => Sys2Proof.Machine.execCompNormal t k s
  | .compCfgWrite t k data => Sys2Proof.Machine.execCompCfgWrite t k data s
  | .compTestStart t data => Sys2Proof.Machine.execCompTestStart t data s
  | .compTestRead t filtered => Sys2Proof.Machine.execCompTestRead t filtered s
  | .compTestDone t after => Sys2Proof.Machine.execCompTestDone t after s
  | .frameFreeze t => Sys2Proof.Machine.execFrameFreeze t s
  | .frameStart t => Sys2Proof.Machine.execFrameStart t s
  | .returnedFrame t loop r => Sys2Proof.Machine.execReturnedFrame t loop r s
  | .haltNow t data => Sys2Proof.Machine.execHaltNow t data s
  | .haltReturned t loop => Sys2Proof.Machine.execHaltReturned t loop s
  | .resume t data => Sys2Proof.Machine.execResume t data s
  | .resumeTakesEffect t loop => Sys2Proof.Machine.execResumeTakesEffect t loop s
  | .train t data => Sys2Proof.Machine.execTrain t data s
  | .trainLinkTimeout t loop => Sys2Proof.Machine.execTrainLinkTimeout t loop s
  | .delayRecompute t loop => Sys2Proof.Machine.execDelayRecompute t loop s
  | .evaluationTick t => Sys2Proof.Machine.execEvaluationTick t s
  | .clearExpiry t => Sys2Proof.Machine.execClearExpiry t s
  | .maxDurExpiry t => Sys2Proof.Machine.execMaxDurExpiry t s
  | .enterServiceDelay t => Sys2Proof.Machine.execEnterServiceDelay t s
  | .restoreDelayExpiry t => Sys2Proof.Machine.execRestoreDelayExpiry t s
  | .restoreRampEnd t => Sys2Proof.Machine.execRestoreRampEnd t s
  | .bearingLock t => Sys2Proof.Machine.execBearingLock t s
  | .coastExpiry t => Sys2Proof.Machine.execCoastExpiry t s
  | .bearInput t phase => Sys2Proof.Machine.execBearInput t phase s
  | .chipEnd t => Sys2Proof.Machine.execChipEnd t s
  | .suspectClear t => Sys2Proof.Machine.execSuspectClear t s
  | .signatureMiss t => Sys2Proof.Machine.execSignatureMiss t s
  | .powerSet t d => Sys2Proof.Machine.execPowerSet t d s
  | .fastDecision t phase => Sys2Proof.Machine.execFastDecision t phase s
  | .followErr t phase => Sys2Proof.Machine.execFollowErr t phase s
  | .curInput t phase => Sys2Proof.Machine.execCurInput t phase s
  | .bandUpdate t => Sys2Proof.Machine.execBandUpdate t s
  | .zeroReached t => Sys2Proof.Machine.execZeroReached t s
  | .rampFail t => Sys2Proof.Machine.execRampFail t s
  | .castingRequest t => Sys2Proof.Machine.execCastingRequest t s
  | .bypassCheckTimeout t cell => Sys2Proof.Machine.execBypassCheckTimeout t cell s
  | .hotTime t cell => Sys2Proof.Machine.execHotTime t cell s
  | .uvTime t cell => Sys2Proof.Machine.execUvTime t cell s
  | .leavingTimeout t cell => Sys2Proof.Machine.execLeavingTimeout t cell s
  | .preTime t cell => Sys2Proof.Machine.execPreTime t cell s
  | .coolTo t => Sys2Proof.Machine.execCoolTo t s
  | .castReadmit t data => Sys2Proof.Machine.execCastReadmit t data s
  | .trackerStep t cell => Sys2Proof.Machine.execTrackerStep t cell s
  | .scanDue t cell => Sys2Proof.Machine.execScanDue t cell s
  | .probeDue t cell => Sys2Proof.Machine.execProbeDue t cell s
  | .dumpLimit t cell => Sys2Proof.Machine.execDumpLimit t cell s
  | .dumpHoldExpiry t => Sys2Proof.Machine.execDumpHoldExpiry t s
  | .dumpOffResend t cell => Sys2Proof.Machine.execDumpOffResend t cell s
  | .cellpwrDumpClr t data => Sys2Proof.Machine.execCellpwrDumpClr t data s
  | .intervalClose t => Sys2Proof.Machine.execIntervalClose t s
  | .demandSubPeriod t => Sys2Proof.Machine.execDemandSubPeriod t s
  | .snapshot t d => Sys2Proof.Machine.execSnapshot t d s
  | .snapshotCapture t => Sys2Proof.Machine.execSnapshotCapture t s
  | .pulseStart t pin => Sys2Proof.Machine.execPulseStart t pin s
  | .pulseEnd t pin => Sys2Proof.Machine.execPulseEnd t pin s
  | .retentionRefresh t => Sys2Proof.Machine.execRetentionRefresh t s
  | .exportEn t data => Sys2Proof.Machine.execExportEn t data s
  | .atlasExport t => Sys2Proof.Machine.execAtlasExport t s
  | .atlasRead t d => Sys2Proof.Machine.execAtlasRead t d s
  | .meterCfgWrite t data => Sys2Proof.Machine.execMeterCfgWrite t data s
  | .channelACycle t pins => Sys2Proof.Machine.execChannelACycle t pins s
  | .syncTime t => Sys2Proof.Machine.execSyncTime t s
  | .contactorCheck t => Sys2Proof.Machine.execContactorCheck t s
  | .contactorRecheck t => Sys2Proof.Machine.execContactorRecheck t s
  | .raisedRecheck t => Sys2Proof.Machine.execRaisedRecheck t s
  | .estopDisc t => Sys2Proof.Machine.execEstopDisc t s
  | .sresetStuck t => Sys2Proof.Machine.execSresetStuck t s
  | .paramCheck t upsets => Sys2Proof.Machine.execParamCheck t upsets s
  | .romCheck t ok => Sys2Proof.Machine.execRomCheck t ok s
  | .channelBLatch t edges => Sys2Proof.Machine.execChannelBLatch t edges s
  | .heartbeatLoss t => Sys2Proof.Machine.execHeartbeatLoss t s
  | .raiseGap t => Sys2Proof.Machine.execRaiseGap t s
  | .sresetEdge t edges => Sys2Proof.Machine.execSresetEdge t edges s
  | .curtainLower t d => Sys2Proof.Machine.execCurtainLower t d s
  | .curtainReset t d => Sys2Proof.Machine.execCurtainReset t d s
  | .periodStart t chop => Sys2Proof.Machine.execPeriodStart t chop s
  | .deadTimeEnd t switch => Sys2Proof.Machine.execDeadTimeEnd t switch s
  | .blankingEnd t switch => Sys2Proof.Machine.execBlankingEnd t switch s
  | .gdEn t data => Sys2Proof.Machine.execGdEn t data s
  | .loadAll t data => Sys2Proof.Machine.execLoadAll t data s
  | .shadowTransfer t chop => Sys2Proof.Machine.execShadowTransfer t chop s
  | .pwmEvent t channel kind => Sys2Proof.Machine.execPwmEvent t channel kind s
  | .commutation t => Sys2Proof.Machine.execCommutation t s
  | .observeEnd t => Sys2Proof.Machine.execObserveEnd t s
  | .waitMax t => Sys2Proof.Machine.execWaitMax t s
  | .alignTime t => Sys2Proof.Machine.execAlignTime t s
  | .forcedCommutation t => Sys2Proof.Machine.execForcedCommutation t s
  | .lockedRotor t => Sys2Proof.Machine.execLockedRotor t s
  | .lockRestart t => Sys2Proof.Machine.execLockRestart t s
  | .chopCheck t => Sys2Proof.Machine.execChopCheck t s
  | .busLow t => Sys2Proof.Machine.execBusLow t s
  | .busRecovered t => Sys2Proof.Machine.execBusRecovered t s
  | .pumpInputTimeout t => Sys2Proof.Machine.execPumpInputTimeout t s
  | .pumpOrder t d => Sys2Proof.Machine.execPumpOrder t d s
  | .pumpCtrlWrite t data => Sys2Proof.Machine.execPumpCtrlWrite t data s
  | .pumpFltTimeout t => Sys2Proof.Machine.execPumpFltTimeout t s
  | .stageLoss t => Sys2Proof.Machine.execStageLoss t s
  | .doorbell t ring value be => Sys2Proof.Machine.execDoorbell t ring value be s
  | .idleHint t data => Sys2Proof.Machine.execIdleHint t data s
  | .descriptorFetch t => Sys2Proof.Machine.execDescriptorFetch t s
  | .descriptorReadComplete t descs => Sys2Proof.Machine.execDescriptorReadComplete t descs s
  | .payloadReadComplete t d bytes => Sys2Proof.Machine.execPayloadReadComplete t d bytes s
  | .completionTimeout t read kind => Sys2Proof.Machine.execCompletionTimeout t read kind s
  | .timedDispatch t => Sys2Proof.Machine.execTimedDispatch t s
  | .nop t d => Sys2Proof.Machine.execNop t d s
  | .tableLoad t d payload => Sys2Proof.Machine.execTableLoad t d payload s
  | .tableRead t d => Sys2Proof.Machine.execTableRead t d s
  | .cellOrder t d => Sys2Proof.Machine.execCellOrder t d s
  | .selftest t d upsets => Sys2Proof.Machine.execSelftest t d upsets s
  | .statsRead t d => Sys2Proof.Machine.execStatsRead t d s
  | .modeSet t d => Sys2Proof.Machine.execModeSet t d s
  | .ringWrite t ring => Sys2Proof.Machine.execRingWrite t ring s
  | .busMasterEnable t bme d3hot => Sys2Proof.Machine.execBusMasterEnable t bme d3hot s
  | .linkDown t => Sys2Proof.Machine.execLinkDown t s
  | .linkUp t gen2 => Sys2Proof.Machine.execLinkUp t gen2 s
  | .ringEnable t ring data => Sys2Proof.Machine.execRingEnable t ring data s
  | .tableIntegrityCheck t upsets => Sys2Proof.Machine.execTableIntegrityCheck t upsets s
  | .holdoffExpiry t vec => Sys2Proof.Machine.execHoldoffExpiry t vec s
  | .vectorCommit t => Sys2Proof.Machine.execVectorCommit t s
  | .messageIssued t => Sys2Proof.Machine.execMessageIssued t s
  | .irqEoi t data => Sys2Proof.Machine.execIrqEoi t data s
  | .irqMaskWrite t m data => Sys2Proof.Machine.execIrqMaskWrite t m data s
  | .sinkWindowClose t sink => Sys2Proof.Machine.execSinkWindowClose t sink s
  | .sinkPulseEnd t pin => Sys2Proof.Machine.execSinkPulseEnd t pin s
  | .tableauEntry t bits => Sys2Proof.Machine.execTableauEntry t bits s
  | .tableauExit t bits => Sys2Proof.Machine.execTableauExit t bits s
  | .por t rails => Sys2Proof.Machine.execPor t rails s
  | .brown t rails => Sys2Proof.Machine.execBrown t rails s
  | .pinReset t => Sys2Proof.Machine.execPinReset t s
  | .softReset t data => Sys2Proof.Machine.execSoftReset t data s
  | .perst t => Sys2Proof.Machine.execPerst t s
  | .testReset t => Sys2Proof.Machine.execTestReset t s
  | .internalStart t romOk => Sys2Proof.Machine.execInternalStart t romOk s
  | .crystalWindow t count => Sys2Proof.Machine.execCrystalWindow t count s
  | .pllUnlock t pll => Sys2Proof.Machine.execPllUnlock t pll s
  | .pllRelock t pll => Sys2Proof.Machine.execPllRelock t pll s
  | .relockAttempt t pll => Sys2Proof.Machine.execRelockAttempt t pll s
  | .coreReturn t => Sys2Proof.Machine.execCoreReturn t s
  | .convRestart t => Sys2Proof.Machine.execConvRestart t s
  | .temperatureMeasurement t temp => Sys2Proof.Machine.execTemperatureMeasurement t temp s
  | .hotExit t => Sys2Proof.Machine.execHotExit t s
  | .tempTimeout t => Sys2Proof.Machine.execTempTimeout t s
  | .keyProg t key id vddOk => Sys2Proof.Machine.execKeyProg t key id vddOk s
  | .keyVerify t stored => Sys2Proof.Machine.execKeyVerify t stored s
  | .keyCheck t => Sys2Proof.Machine.execKeyCheck t s
  | .testLogicReset t => Sys2Proof.Machine.execTestLogicReset t s
  | .pfWarn t => Sys2Proof.Machine.execPfWarn t s
  | .pfRide t => Sys2Proof.Machine.execPfRide t s
  | .domainStop t => Sys2Proof.Machine.execDomainStop t s
  | .domainStart t => Sys2Proof.Machine.execDomainStart t s
  | .outageClose t vstor => Sys2Proof.Machine.execOutageClose t vstor s
  | .storeCheck t vstor => Sys2Proof.Machine.execStoreCheck t vstor s
  | .sealComplete t => Sys2Proof.Machine.execSealComplete t s
  | .keeperCalibration t ticks => Sys2Proof.Machine.execKeeperCalibration t ticks s
  | .mppSample t mppset => Sys2Proof.Machine.execMppSample t mppset s
  | .vstorSample t vstor vteg => Sys2Proof.Machine.execVstorSample t vstor vteg s
  | .tamperSample t levels => Sys2Proof.Machine.execTamperSample t levels s
  | .sweepStart t => Sys2Proof.Machine.execSweepStart t s
  | .scrubRead t found => Sys2Proof.Machine.execScrubRead t found s
  | .surveyPass t => Sys2Proof.Machine.execSurveyPass t s
  | .surveyEntry t => Sys2Proof.Machine.execSurveyEntry t s
  | .surveyResume t => Sys2Proof.Machine.execSurveyResume t s
  | .scrubWearSel t data => Sys2Proof.Machine.execScrubWearSel t data s
  | .frameNotReturned t loop => Sys2Proof.Machine.execFrameNotReturned t loop s
  | .msiEnableOrVectorMask t w => Sys2Proof.Machine.execMsiEnableOrVectorMask t w s
  | .rotorStandstill t => Sys2Proof.Machine.execRotorStandstill t s
  | .sstatToggle t => Sys2Proof.Machine.execSstatToggle t s
  | .coarseSensorRead t temp => Sys2Proof.Machine.execCoarseSensorRead t temp s

end Sys2Proof.Machine
end

