-- ==== Sys2Proof/WellFormed.lean ====
section
/-! DEFINITION. Sys2Proof/WellFormed.lean: which commands can come about: the operands that the outside can present. A meaning is given to the
others as well; what it does with them says nothing about the device. -/

namespace Sys2Proof

/-- A descriptor reaches the owner of its opcode (spec/13 R546, R556). -/
def Desc.wf (opc : Nat) (d : Desc) : Bool := d.opc.toNat == opc

/-- An event as a block raises it (spec/02 R64 to R66): number and instance in the widths of its record, the record's flags still clear. -/
def Event.wf (e : Event) : Bool :=
  e.stamp < 2 ^ 64 && e.num < 256 && e.inst < 65536 && !e.late && !e.held

/-- An address of a BAR0 dword (spec/18 R687, R688). -/
def addrWf (a : Nat) : Bool := a % 4 == 0 && a < 0x10000

/-- An upset of a byte that the table has (spec/13 R559, R561). -/
def TableUpset.wf (u : TableUpset) : Bool := 1 ≤ u.id && u.id ≤ 12 && u.off < 4096

/-- A fit has 14 values, and there are 64 taps (spec/03 R110, R127). -/
def LadderFit.wf (f : LadderFit) : Bool := f.cal.length == 14 && f.sums.length == 64

/-- A returned frame carries 32 slots at most (spec/04 R169, R181). -/
def Returned.wf (r : Returned) : Bool := r.slots.length ≤ 32

/-- A failed read names a block that the payload has (spec/13 R531). -/
def readWf : ReadId → Bool
  | .descr _ => true
  | .payload d block => 128 * block < d.len.toNat

/-- The payload of a descriptor has the descriptor's length (spec/13 R555). -/
def payloadWf (d : Desc) : Option (List Byte) → Bool
  | none => true
  | some p => p.length == d.len.toNat

/-- The command can come about. -/
def Instr.wf : Instr → Bool
  | .registerWrite _ addr _ _ => addrWf addr
  | .loReadCapture _ addr => addrWf addr
  | .datumSet _ d => d.wf 9
  | .ppsinEdge _ => true
  | .ppsWindowEnd _ => true
  | .ppsPresentTimeout _ => true
  | .referenceTimeout _ => true
  | .holdoverExpired _ => true
  | .roleChange _ _ => true
  | .eventArrival _ e => e.wf
  | .eventRelease _ => true
  | .meridianSlotSend _ => true
  | .meridianSlotReceived _ fields _ _ => fields.length == 74
  | .meridianDown _ => true
  | .ackTimeout _ _ => true
  | .meridianSend _ d payload => d.wf 12 && payloadWf d payload
  | .rxboxFree _ _ => true
  | .ppsOutput _ _ => true
  | .ppsOutputEnd _ _ => true
  | .evioIn _ _ => true
  | .scheduledSample _ _ => true
  | .result _ _ _ _ => true
  | .resultMissing _ _ => true
  | .referenceMonitor _ _ => true
  | .handoverOpportunity _ _ => true
  | .calComplete _ _ fit => fit.wf
  | .overlapVerdict _ _ => true
  | .overlapTimeout _ _ => true
  | .swap _ _ => true
  | .calStale _ _ => true
  | .convUrgent _ _ => true
  | .convSlotWrite _ _ _ => true
  | .readmit _ _ => true
  | .compTrip _ _ => true
  | .compNormal _ _ => true
  | .compCfgWrite _ _ _ => true
  | .compTestStart _ _ => true
  | .compTestRead _ _ => true
  | .compTestDone _ _ => true
  | .frameFreeze _ => true
  | .frameStart _ => true
  | .returnedFrame _ _ r => r.wf
  | .haltNow _ _ => true
  | .haltReturned _ _ => true
  | .resume _ _ => true
  | .resumeTakesEffect _ _ => true
  | .train _ _ => true
  | .trainLinkTimeout _ _ => true
  | .delayRecompute _ _ => true
  | .evaluationTick _ => true
  | .clearExpiry _ => true
  | .maxDurExpiry _ => true
  | .enterServiceDelay _ => true
  | .restoreDelayExpiry _ => true
  | .restoreRampEnd _ => true
  | .bearingLock _ => true
  | .coastExpiry _ => true
  | .bearInput _ _ => true
  | .chipEnd _ => true
  | .suspectClear _ => true
  | .signatureMiss _ => true
  | .powerSet _ d => d.wf 4
  | .fastDecision _ _ => true
  | .followErr _ _ => true
  | .curInput _ _ => true
  | .bandUpdate _ => true
  | .zeroReached _ => true
  | .rampFail _ => true
  | .castingRequest _ => true
  | .bypassCheckTimeout _ _ => true
  | .hotTime _ _ => true
  | .uvTime _ _ => true
  | .leavingTimeout _ _ => true
  | .preTime _ _ => true
  | .coolTo _ => true
  | .castReadmit _ _ => true
  | .trackerStep _ _ => true
  | .scanDue _ _ => true
  | .probeDue _ _ => true
  | .dumpLimit _ _ => true
  | .dumpHoldExpiry _ => true
  | .dumpOffResend _ _ => true
  | .cellpwrDumpClr _ _ => true
  | .intervalClose _ => true
  | .demandSubPeriod _ => true
  | .snapshot _ d => d.wf 11
  | .snapshotCapture _ => true
  | .pulseStart _ _ => true
  | .pulseEnd _ _ => true
  | .retentionRefresh _ => true
  | .exportEn _ _ => true
  | .atlasExport _ => true
  | .atlasRead _ d => d.wf 7
  | .meterCfgWrite _ _ => true
  | .channelACycle _ _ => true
  | .syncTime _ => true
  | .contactorCheck _ => true
  | .contactorRecheck _ => true
  | .raisedRecheck _ => true
  | .estopDisc _ => true
  | .sresetStuck _ => true
  | .paramCheck _ upsets => upsets.all TableUpset.wf
  | .romCheck _ _ => true
  | .channelBLatch _ _ => true
  | .heartbeatLoss _ => true
  | .raiseGap _ => true
  | .sresetEdge _ _ => true
  | .curtainLower _ d => d.wf 5
  | .curtainReset _ d => d.wf 6
  | .periodStart _ _ => true
  | .deadTimeEnd _ _ => true
  | .blankingEnd _ _ => true
  | .gdEn _ _ => true
  | .loadAll _ _ => true
  | .shadowTransfer _ _ => true
  | .pwmEvent _ _ _ => true
  | .commutation _ => true
  | .observeEnd _ => true
  | .waitMax _ => true
  | .alignTime _ => true
  | .forcedCommutation _ => true
  | .lockedRotor _ => true
  | .lockRestart _ => true
  | .chopCheck _ => true
  | .busLow _ => true
  | .busRecovered _ => true
  | .pumpInputTimeout _ => true
  | .pumpOrder _ d => d.wf 10
  | .pumpCtrlWrite _ _ => true
  | .pumpFltTimeout _ => true
  | .stageLoss _ => true
  | .doorbell _ _ _ _ => true
  | .idleHint _ _ => true
  | .descriptorFetch _ => true
  | .descriptorReadComplete _ descs => descs.length ≤ 4
  | .payloadReadComplete _ d bytes => bytes.length == d.len.toNat
  | .completionTimeout _ read kind => kind.toNat < 3 && readWf read
  | .timedDispatch _ => true
  | .nop _ d => d.wf 1
  | .tableLoad _ d payload => d.wf 2 && payloadWf d payload
  | .tableRead _ d => d.wf 3
  | .cellOrder _ d => d.wf 8
  | .selftest _ d upsets => d.wf 13 && upsets.all TableUpset.wf
  | .statsRead _ d => d.wf 15
  | .modeSet _ d => d.wf 14
  | .ringWrite _ _ => true
  | .busMasterEnable _ _ _ => true
  | .linkDown _ => true
  | .linkUp _ _ => true
  | .ringEnable _ _ _ => true
  | .tableIntegrityCheck _ upsets => upsets.all TableUpset.wf
  | .holdoffExpiry _ _ => true
  | .vectorCommit _ => true
  | .messageIssued _ => true
  | .irqEoi _ _ => true
  | .irqMaskWrite _ _ _ => true
  | .sinkWindowClose _ _ => true
  | .sinkPulseEnd _ _ => true
  | .tableauEntry _ _ => true
  | .tableauExit _ _ => true
  | .por _ _ => true
  | .brown _ _ => true
  | .pinReset _ => true
  | .softReset _ _ => true
  | .perst _ => true
  | .testReset _ => true
  | .internalStart _ _ => true
  | .crystalWindow _ _ => true
  | .pllUnlock _ _ => true
  | .pllRelock _ _ => true
  | .relockAttempt _ _ => true
  | .coreReturn _ => true
  | .convRestart _ => true
  | .temperatureMeasurement _ _ => true
  | .hotExit _ => true
  | .tempTimeout _ => true
  | .keyProg _ _ _ _ => true
  | .keyVerify _ _ => true
  | .keyCheck _ => true
  | .testLogicReset _ => true
  | .pfWarn _ => true
  | .pfRide _ => true
  | .domainStop _ => true
  | .domainStart _ => true
  | .outageClose _ _ => true
  | .storeCheck _ _ => true
  | .sealComplete _ => true
  | .keeperCalibration _ _ => true
  | .mppSample _ _ => true
  | .vstorSample _ _ _ => true
  | .tamperSample _ _ => true
  | .sweepStart _ => true
  | .scrubRead _ _ => true
  | .surveyPass _ => true
  | .surveyEntry _ => true
  | .surveyResume _ => true
  | .scrubWearSel _ _ => true
  | .frameNotReturned _ _ => true
  | .msiEnableOrVectorMask _ _ => true
  | .rotorStandstill _ => true
  | .sstatToggle _ => true
  | .coarseSensorRead _ _ => true

end Sys2Proof
end

