-- ==== Sys2Proof/Safety.lean ====
section
/-! DEFINITION. Sys2Proof/Safety.lean: what statements about the block are made of: a command that completes, what it leaves as it was, and the
invariant of every step. -/

namespace Sys2Proof.Machine

/-- The command answers a next state, and that state is as `P` says. -/
def Completes (c : Instr) (s : State) (P : State → Prop) : Prop := ∃ s', exec c s = .next s' ∧ P s'

/-- The parts of the state beside the registers, the passing of time and the queue. -/
inductive Part where
  | datum | latched | tables | disc | router | mer | host | conv | wing | grid | engine | cast | pwr | meter | curt | guard | pump
  | power | ghost | scrub | free
deriving DecidableEq, Repr

/-- A part is the same in two states; captures by what they read as. -/
def Part.same (p : Part) (a b : State) : Prop :=
  match p with
  | .datum => b.datum = a.datum
  | .latched => ∀ k, Sparse.get (fun _ => 0) b.latched k = Sparse.get (fun _ => 0) a.latched k
  | .tables => b.tables = a.tables
  | .disc => b.disc = a.disc
  | .router => b.router = a.router
  | .mer => b.mer = a.mer
  | .host => b.host = a.host
  | .conv => b.conv = a.conv
  | .wing => b.wing = a.wing
  | .grid => b.grid = a.grid
  | .engine => b.engine = a.engine
  | .cast => b.cast = a.cast
  | .pwr => b.pwr = a.pwr
  | .meter => b.meter = a.meter
  | .curt => b.curt = a.curt
  | .guard => b.guard = a.guard
  | .pump => b.pump = a.pump
  | .power => b.power = a.power
  | .ghost => b.ghost = a.ghost
  | .scrub => b.scrub = a.scrub
  | .free => b.free = a.free

/-- Every register but those at the addresses named, and every part but those named, is in `b` as it is in `a`; what the model notes of the
present CORE cycle (R5) is apart. -/
def Kept (regs : List Nat) (parts : List Part) (a b : State) : Prop :=
  (∀ r, r ∉ regs → b.reg r = a.reg r) ∧ ∀ p, p ∉ parts → p.same a b

/-- The register addresses of a block of `bytes` bytes at `base`. -/
def blockRegs (base bytes : Nat) : List Nat := (List.range (bytes / 4)).map fun i => base + 4 * i

/-- Events raised between `a` and `b`, in their order, each as (stamp, number, instance); the router is otherwise as it was. -/
def Raised (l : List (Nat × Nat × Nat)) (a b : State) : Prop :=
  b.router = { a.router with
    inflight := a.router.inflight ++ l.map fun e => ({ stamp := e.1, num := e.2.1, inst := e.2.2 } : Event) }

/-- What the release of one event does (R577): its record on ring 2 or the record's drop, its cause, its place in the safety processor's
queue, and what every sink that takes no combined event makes of it. -/
def Released (e : Event) (a b : State) : Prop :=
  let recorded := a.ibit (F.EVENT_RECORD_REC (e.num / 32)) (e.num % 32)
  let entry : StagedEntry := ⟨2, recordBytes e (a.get F.EVENT_REC_SEQ_SEQ) a.router.dropped, e.stamp, e.late, none, 0⟩
  let v := a.target e.num % 64
  (e.num < 240 → b.causes e.num = min 255 (a.causes e.num + 1)) ∧
  (∀ src, src < 240 → src ≠ e.num → b.causes src = a.causes src) ∧
  (e.num < 240 → a.target e.num / 64 = 1 → a.masked e.num = false → (a.vec v).phase = .idle → a.causeCount v = 0 →
    (b.vec v).phase = .gather ∨ (b.vec v).phase = .due) ∧
  (recorded = true → a.ringRoom 2 = true → ∃ l, b.host.staged = a.host.staged ++ entry :: l) ∧
  (recorded = true → a.ringRoom 2 = false → b.bit F.EVENT_STATUS_REC_LOST = true ∧
    min (a.get F.EVENT_REC_DROP_COUNT + 1) 0xFFFFFFFF ≤ b.get F.EVENT_REC_DROP_COUNT) ∧
  (a.target e.num = 0x80 → e.num ≠ 9 → a.router.spQueue.length < 32 → ∃ l, b.router.spQueue = a.router.spQueue ++ e :: l) ∧
  (a.target e.num = 0x80 → e.num ≠ 9 → 32 ≤ a.router.spQueue.length → b.router.spQueue = a.router.spQueue ∧
    min (a.get F.IRQ_SP_DROP_COUNT + 1) 0xFFFFFFFF ≤ b.get F.IRQ_SP_DROP_COUNT) ∧
  (∀ k, k < 64 → (∀ j, j < 4 → bitsOf (a.reg (Reg.EVENT_SINK_IN k)).toNat (8 * j) 8 < 240) →
    let js := a.sinkTakes k e
    let r := sinkStep (a.get (F.EVENT_SINK_CFG_MODE k)) (a.get (F.EVENT_SINK_CFG_PARAM k)) (a.sinkEnabled k) e.stamp js
      ((a.sinkClose k e.stamp).sink k)
    if js = [] then b.sink k = a.sink k ∧ b.get (F.EVENT_SINK_COUNT_COUNT k) = a.get (F.EVENT_SINK_COUNT_COUNT k)
    else b.sink k = r.1 ∧
      b.get (F.EVENT_SINK_COUNT_COUNT k) = (a.get (F.EVENT_SINK_COUNT_COUNT k) + if r.2 then 1 else 0) % 2 ^ 32) ∧
  b.router.held = a.router.held ∧
  Kept ([Reg.EVENT_REC_SEQ, Reg.EVENT_REC_DROP, Reg.EVENT_STATUS, Reg.EVENT_WIN_LOST, Reg.IRQ_SP_DROP] ++
    (List.range 64).map Reg.EVENT_SINK_COUNT) [.router, .host] a b

/-- What a command's completion, staged for ring 1 (R550, R551), makes of the host interface. -/
def Ended (d : Desc) (status detail doneTime : Nat) (a b : State) : Prop :=
  b.host = (a.complete d status detail doneTime).host

/-- One table's memory is in canonical form. -/
def TableMem.wf (id : Nat) (m : TableMem) : Bool := Sparse.wf (tableReset id) m.work && Sparse.wf (tableReset id) m.stored

/-- The registers, the captures and the table memories are in canonical form: addresses rising, nothing listed that reads as an unlisted
address does. -/
def State.Inv (s : State) : Bool :=
  Sparse.wf resetVal s.regs && Sparse.wf (fun _ => (0 : Nat)) s.latched && Sparse.wf (fun _ => ({} : TableMem)) s.tables &&
    s.tables.all fun e => e.2.wf e.1

/-- A safe run of `n` steps: none of them ends in a fault or a refusal. -/
def State.runs (s : State) (n : Nat) : Prop :=
  ∃ s', (⟨State, Fault, Refusal, step, State.reset⟩ : Host.Core).run n s = .next s'

end Sys2Proof.Machine
end

