-- ==== Sys2Proof/Certificates/Slice0/Obligations.lean ====
section
/-! DEFINITION. Sys2Proof/Certificates/Slice0/Obligations.lean: the statements for the provers. In each, `a` is the state once time has passed
up to the tick at which the command comes about, and `b` is the state that the command answers. -/

open Sys2Proof Sys2Proof.Machine

/-- PPSIN edges in LOCKED are accepted inside their window and rejected outside it. For every state in LOCKED with PPSIN the active reference: a filtered
edge whose stamp falls inside the window of its second boundary, which has had none, is taken: the boundary is recorded, the run of misses ends,
PPS_PRESENT is set, DATUM_PPS_LAST takes the stamp, DATUM_PHASE_ERR the stamp less the boundary, PPS_ACCEPT is raised with that stamp, and nothing
else changes but the trim and the index of the next free value. An edge outside it is counted in DATUM_PPS_REJECT (saturating) and raises PPS_REJECT,
and nothing else changes. The stamp rests on the free value Config.syncTicks (log 8).
From spec/02_datum_time_and_meridian.md, section The PPS input (R59, R62, R63). -/
def Obligations.PpsEdgesJudged : Prop :=
  (∀ (s : State) (t : Nat), let a := s.advance t; let x := a.edgeStamp (a.getInt F.DATUM_PPS_COMP_COMP)
    let e := nearestSecond x; let w : Int := a.get F.DATUM_PPS_CFG_WIN * 100
    a.ppsActive = true → a.discState = 2 → e - w ≤ x → x < e + w → a.disc.accepted ≠ some e.toNat → 0 ≤ x → x < 2 ^ 64 →
    Completes (.ppsinEdge t) s fun b =>
      b.disc = { a.disc with lastEdge := some a.elapsed, accepted := some e.toNat, missRun := 0 } ∧
      b.bit F.DATUM_STATUS_PPS_PRESENT = true ∧ b.discState = 2 ∧ b.pair Reg.DATUM_PPS_LAST_LO = x.toNat ∧
      b.getInt F.DATUM_PHASE_ERR_ERR = x - e ∧ Raised [(x.toNat, 32, 0)] a b ∧
      Kept [Reg.DATUM_STATUS, Reg.DATUM_PPS_LAST_LO, Reg.DATUM_PPS_LAST_HI, Reg.DATUM_PHASE_ERR, Reg.DATUM_FREQ_TRIM]
        [.disc, .router, .free] a b) ∧
  (∀ (s : State) (t : Nat), let a := s.advance t; let x := a.edgeStamp (a.getInt F.DATUM_PPS_COMP_COMP)
    let e := nearestSecond x; let w : Int := a.get F.DATUM_PPS_CFG_WIN * 100
    a.ppsActive = true → a.discState = 2 → ¬(e - w ≤ x ∧ x < e + w) →
    Completes (.ppsinEdge t) s fun b =>
      b.get F.DATUM_PPS_REJECT_COUNT = min (a.get F.DATUM_PPS_REJECT_COUNT + 1) 0xFFFFFFFF ∧
      Raised [(x.toNat, 33, 0)] a b ∧ Kept [Reg.DATUM_PPS_REJECT] [.router] a b)

/-- A window without an edge counts a miss; a silent PPSIN or reference and the end of holdover change the discipline. PPS_WINDOW_END for a window not
judged yet, in LOCKED on PPSIN and without an accepted edge: the boundary is judged, DATUM_PPS_MISS counts (saturating) and PPS_MISSING is raised;
below PPS_LOSS consecutive misses the run grows by one and the discipline stays; at PPS_LOSS it becomes HOLDOVER with the holdover timer started at
this instant and DISC_STATE raised. The instant at which a window is judged is the model's choice (log 199). PPS_PRESENT_TIMEOUT with no accepted edge
for 1.5 s clears PPS_PRESENT and changes nothing else. REFERENCE_TIMEOUT in ACQUIRE with the reference lost (a follower without its link, or no
accepted edge for 1.5 s): the trim is held, the state becomes HOLDOVER while the holdover timer runs and else FREE, and DISC_STATE is raised.
HOLDOVER_EXPIRED when the timer has reached DATUM_HOLD_MAX: the timer stops, HOLDOVER_EXPIRED is raised, HOLDOVER becomes FREE with DISC_STATE raised,
any other state stays. A change to FREE ends a PPS pulse that QUAL governs.
From spec/02_datum_time_and_meridian.md, section Discipline (R54); spec/02_datum_time_and_meridian.md, section The PPS input (R60, R62);
spec/02_datum_time_and_meridian.md, section EVIO pin functions (R99). -/
def Obligations.ReferenceLossAndDiscipline : Prop :=
  (∀ (s : State) (t : Nat), let a := s.advance t; let e := a.ppsEnded (a.edgeStamp (a.getInt F.DATUM_PPS_COMP_COMP))
    a.ppsActive = true → a.discState = 2 → a.disc.judged < e → a.disc.accepted ≠ some e →
    Completes (.ppsWindowEnd t) s fun b =>
      b.disc.judged = e ∧ b.get F.DATUM_PPS_MISS_COUNT = min (a.get F.DATUM_PPS_MISS_COUNT + 1) 0xFFFFFFFF ∧
      (if a.get F.DATUM_DISC_CTRL_PPS_LOSS ≤ a.disc.missRun + 1 then
        b.discState = 3 ∧ b.disc.holdover = some a.elapsed ∧ Raised [(a.datum, 34, 0), (a.datum, 35, 0)] a b
      else b.discState = 2 ∧ b.disc.missRun = a.disc.missRun + 1 ∧ Raised [(a.datum, 34, 0)] a b) ∧
      Kept [Reg.DATUM_PPS_MISS, Reg.DATUM_STATUS] [.disc, .router] a b) ∧
  (∀ (s : State) (t : Nat), let a := s.advance t
    a.due a.disc.lastEdge 1500000000 = true →
    Completes (.ppsPresentTimeout t) s fun b =>
      b.bit F.DATUM_STATUS_PPS_PRESENT = false ∧ b.discState = a.discState ∧ Kept [Reg.DATUM_STATUS] [] a b) ∧
  (∀ (s : State) (t : Nat), let a := s.advance t; let v := if a.disc.holdover.isSome then 3 else 0
    a.discState = 1 →
    (if a.follower then a.bit F.DATUM_MER_STATUS_LINK_UP = false
      else a.disc.lastEdge = none ∨ a.due a.disc.lastEdge 1500000000 = true) →
    Completes (.referenceTimeout t) s fun b =>
      b.discState = v ∧ Raised [(a.datum, 35, 0)] (a.set F.DATUM_STATUS_DISC v).ppsQualify b ∧
      Kept [Reg.DATUM_STATUS] [.disc, .router] a b) ∧
  (∀ (s : State) (t : Nat), let a := s.advance t
    a.due a.disc.holdover (a.get F.DATUM_HOLD_MAX_SECONDS * second) = true →
    Completes (.holdoverExpired t) s fun b =>
      b.disc.holdover = none ∧
      (if a.discState = 3 then
        b.discState = 0 ∧ Raised [(a.datum, 37, 0), (a.datum, 35, 0)] (a.set F.DATUM_STATUS_DISC 0).ppsQualify b
      else b.discState = a.discState ∧ Raised [(a.datum, 37, 0)] a b) ∧
      Kept [Reg.DATUM_STATUS, Reg.SCRUB_FAULT_SEEN] [.disc, .router] a b)

/-- DATUM_SET that passes its checks makes datum time the given value, or moves it by the given offset; else it changes nothing. DATUM_SET that passes the
eight checks of R49: datum time becomes the value (TARGET 0) or moves by the signed value (TARGET 1), STEPPED is set, ORIGIN becomes 2, DATUM_STEP is
raised with the first datum time after the set, no event is left held, the discipline state stays, elapsed time does not move with the step, and the
command is dispatched no more; where it was dispatched and ring 1 is enabled, the entry staged last is its completion with DONE and that datum time.
Tables, the guard, the pump drive and the contactors are as before. At the first check that fails it completes with that check's STATUS and DETAIL,
and nothing else changes.
From spec/02_datum_time_and_meridian.md, section Setting datum time: DATUM_SET (R48, R49, R50). -/
def Obligations.DatumSetTakesTheNewTime : Prop :=
  (∀ (s : State) (t : Nat) (d : Desc), let a := s.advance t
    let v := d.p0.toNat + 2 ^ 32 * d.p1.toNat; let off := signed 64 v; let rel := d.target.toNat = 1
    let new : Nat := if rel then ((a.datum : Int) + off).toNat else v
    d.target.toNat ≤ 1 → d.len = 0 → v % 2 = 0 → a.curtainDown = true → a.follower = false → (¬rel → a.discState ≠ 2) →
    (rel → a.discState = 2 → off % second = 0) → (rel → 0 ≤ (a.datum : Int) + off ∧ (a.datum : Int) + off < 2 ^ 64) →
    Completes (.datumSet t d) s fun b =>
      b.datum = new ∧ b.bit F.DATUM_STATUS_STEPPED = true ∧ b.get F.DATUM_STATUS_ORIGIN = 2 ∧ b.discState = a.discState ∧
      b.elapsed = a.elapsed ∧ ({ stamp := new, num := 36, inst := 0 } : Event) ∈ b.router.inflight ∧ b.router.held = [] ∧
      b.host.dispatched = a.host.dispatched.erase d ∧
      (d ∈ a.host.dispatched → a.bit (F.HOST_RING_CFG_EN 1) = true → b.host.staged.getLast? = some
        ⟨1, completionBytes d.tag.toNat st.done 0 new, new, false, some d, st.done⟩) ∧
      b.tables = a.tables ∧ b.guard = a.guard ∧ b.pump = a.pump ∧ b.curt = a.curt ∧ b.power = a.power) ∧
  (∀ (s : State) (t : Nat) (d : Desc) (status detail : Nat), let a := s.advance t
    let v := d.p0.toNat + 2 ^ 32 * d.p1.toNat; let off := signed 64 v; let rel := d.target.toNat = 1
    firstFail [(1 < d.target.toNat, st.targetRange, 0), (d.len ≠ 0, st.lenRange, 0), (v % 2 = 1, st.targetRange, 0x10),
      (a.curtainDown = false, st.stateRefused, 1), (a.follower = true, st.stateRefused, 2),
      (¬rel ∧ a.discState = 2, st.stateRefused, 3), (rel ∧ a.discState = 2 ∧ off % second ≠ 0, st.stateRefused, 4),
      (rel ∧ ((a.datum : Int) + off < 0 ∨ 2 ^ 64 ≤ (a.datum : Int) + off), st.targetRange, 0x20)] = some (status, detail) →
    Completes (.datumSet t d) s fun b => Ended d status detail a.datum a b ∧ Kept [] [.host] a b)

/-- A write that changes ROLE or ADDR is taken only with the curtain LOWERED or LOCKED. ROLE_CHANGE outside tableau. With the curtain LOWERED or LOCKED
the fields ROLE, ADDR and ENABLE take the written values, the trim is kept, a change of ROLE takes the discipline to FREE, and nothing changes but
DATUM_MER_CTRL, DATUM_MER_STATUS, DATUM_STATUS, the discipline, the link and the router. With the curtain in another state and a write that changes
ROLE or ADDR, DATUM_MER_CTRL is unchanged, DATUM_STATUS.CFG_REJECT is set, and nothing else changes.
From spec/02_datum_time_and_meridian.md, section Registers (R104). -/
def Obligations.RoleChangeNeedsTheCurtainDown : Prop :=
  (∀ (s : State) (t : Nat) (data : Word), let a := s.advance t
    a.tableau = false → a.curtainDown = true →
    Completes (.roleChange t data) s fun b =>
      b.get F.DATUM_MER_CTRL_ROLE = bitsOf data.toNat 1 1 ∧ b.get F.DATUM_MER_CTRL_ADDR = bitsOf data.toNat 16 16 ∧
      b.get F.DATUM_MER_CTRL_ENABLE = bitsOf data.toNat 0 1 ∧ b.reg Reg.DATUM_FREQ_TRIM = a.reg Reg.DATUM_FREQ_TRIM ∧
      (bitsOf data.toNat 1 1 ≠ a.get F.DATUM_MER_CTRL_ROLE → b.discState = 0) ∧
      Kept [Reg.DATUM_MER_CTRL, Reg.DATUM_MER_STATUS, Reg.DATUM_STATUS] [.disc, .router, .mer] a b) ∧
  (∀ (s : State) (t : Nat) (data : Word), let a := s.advance t
    a.tableau = false → a.curtainDown = false →
    (bitsOf data.toNat 1 1 ≠ a.get F.DATUM_MER_CTRL_ROLE ∨ bitsOf data.toNat 16 16 ≠ a.get F.DATUM_MER_CTRL_ADDR) →
    Completes (.roleChange t data) s fun b =>
      b.bit F.DATUM_STATUS_CFG_REJECT = true ∧ b.reg Reg.DATUM_MER_CTRL = a.reg Reg.DATUM_MER_CTRL ∧
      Kept [Reg.DATUM_STATUS] [] a b)

/-- A slot leaves at every boundary, a received one is used or counted; a message is queued, sent again once, and then fails. MERIDIAN_SLOT_SEND at a slot
boundary whose slot has not left, with ENABLE 1: one slot of 1 000 symbols is appended to the link output, K28.5 and D10.2 first, with T_TX the
boundary's datum time, SLOT_NUM its number modulo 65 536, the own address, LEVEL 0 from a grandmaster and 0xFF from a follower; nothing but the link
and a broadcast's completion changes. With ENABLE 0 or away from a boundary nothing changes. MERIDIAN_SLOT_RECEIVED, valid (CRC-32 of characters 2 to
75, MSG_LEN, LEVEL, T_TX and SLOT_NUM): the run of valid slots goes on or begins, its instant and its echo are kept, and with a run of 8 the link is
up; at a grandmaster, without a message, nothing changes but the link, DATUM_MER_STATUS, DATUM_STATUS and events. An invalid one ends the run, is
counted in DATUM_MER_CRC_ERR (saturating), and changes nothing else. MERIDIAN_DOWN 128 us after the last valid slot: LINK_UP falls, MERIDIAN_DOWN is
raised, the messages sent or waiting for their retry end with ABORTED and DETAIL 0x00020000, the others stay, and a follower leaves LOCKED for
HOLDOVER and ACQUIRE for HOLDOVER or FREE. MERIDIAN_SEND with its payload, all checks of R90 passed: one message is appended to those outstanding,
with the next MSG_SEQ, destination, type and payload from the descriptor, the next MSG_SEQ advances modulo 65 536, and nothing else changes. At the
first check that fails it completes with that check's STATUS and DETAIL and changes nothing else. ACK_TIMEOUT of a message sent DATUM_MER_ACK_TO slots
of 8 us ago: the first failure marks it for its retry and takes it off the sent ones; the second removes it, ends its command with ABORTED, DETAIL
0x0001 and MSG_SEQ, and raises MERIDIAN_SEND_FAIL; nothing else changes.
From spec/02_datum_time_and_meridian.md, section Discipline (R54, R55); spec/02_datum_time_and_meridian.md, section The meridian link (R78, R79, R80,
R89, R90, R91, R92). -/
def Obligations.MeridianSlotsAndMessages : Prop :=
  (∀ (s : State) (t : Nat), let a := s.advance t
    a.bit F.DATUM_MER_CTRL_ENABLE = true → a.atSlot = true →
    Completes (.meridianSlotSend t) s fun b => ∃ x : MerSlot, b.mer.out = a.mer.out ++ [slotSymbols x] ∧
      x.tTx = a.datum / 8000 * 8000 ∧ x.slotNum = a.datum / 8000 % 65536 ∧ x.src = a.get F.DATUM_MER_CTRL_ADDR ∧
      x.level = (if a.follower then 0xFF else 0) ∧ (slotSymbols x).length = 1000 ∧
      (slotSymbols x).take 2 = [.k285, .data 0x4A] ∧ b.atSlot = false ∧ Kept [] [.mer, .host] a b) ∧
  (∀ (s : State) (t : Nat), let a := s.advance t
    a.bit F.DATUM_MER_CTRL_ENABLE = false ∨ a.atSlot = false →
    Completes (.meridianSlotSend t) s fun b => Kept [] [] a b) ∧
  (∀ (s : State) (t : Nat) (fields : List Byte) (crc : Word) (rx8 : Nat), let a := s.advance t; let x := readSlot fields
    crc32 fields = crc → x.mlen ≤ 40 → (x.level ≤ 8 ∨ x.level = 0xFF ∧ a.follower = false) → x.tTx % 8000 = 0 →
    x.slotNum = x.tTx / 8000 % 65536 →
    Completes (.meridianSlotReceived t fields crc rx8) s fun b =>
      b.mer.run = (if a.slotFollows then a.mer.run + 1 else 1) ∧ b.mer.lastValid = some a.elapsed ∧
      b.mer.peer = some (rx8 / 16 * 2, x.slotNum) ∧ (8 ≤ b.mer.run → b.bit F.DATUM_MER_STATUS_LINK_UP = true) ∧
      (a.follower = false → x.mtype = 0 →
        Kept [Reg.DATUM_MER_STATUS, Reg.DATUM_STATUS, Reg.SCRUB_FAULT_SEEN] [.mer, .router] a b)) ∧
  (∀ (s : State) (t : Nat) (fields : List Byte) (crc : Word) (rx8 : Nat), let a := s.advance t; let x := readSlot fields
    ¬(crc32 fields = crc ∧ x.mlen ≤ 40 ∧ (x.level ≤ 8 ∨ x.level = 0xFF ∧ a.follower = false) ∧ x.tTx % 8000 = 0 ∧
      x.slotNum = x.tTx / 8000 % 65536) →
    Completes (.meridianSlotReceived t fields crc rx8) s fun b =>
      b.mer = { a.mer with run := 0 } ∧ b.get F.DATUM_MER_CRC_ERR_COUNT = min (a.get F.DATUM_MER_CRC_ERR_COUNT + 1) 0xFFFFFFFF ∧
      Kept [Reg.DATUM_MER_CRC_ERR] [.mer] a b) ∧
  (∀ (s : State) (t : Nat), let a := s.advance t; let lost := fun (m : MerMsg) => m.sentAt.isSome || m.retry
    let v := if a.follower = true ∧ a.discState = 2 then 3
      else if a.follower = true ∧ a.discState = 1 then (if a.disc.holdover.isSome then 3 else 0) else a.discState
    a.bit F.DATUM_MER_STATUS_LINK_UP = true → a.due a.mer.lastValid 128000 = true →
    Completes (.meridianDown t) s fun b =>
      b.bit F.DATUM_MER_STATUS_LINK_UP = false ∧ b.discState = v ∧
      b.mer = { a.mer with run := 0, outstanding := a.mer.outstanding.filter fun m => !lost m } ∧
      b.host = ((a.mer.outstanding.filter lost).foldl (fun s m => s.complete m.desc st.aborted 0x20000 a.datum) a).host ∧
      (if v = a.discState then Raised [(a.datum, 39, 0)] a b
        else Raised [(a.datum, 39, 0), (a.datum, 35, 0)] (a.set F.DATUM_STATUS_DISC v).ppsQualify b) ∧
      Kept [Reg.DATUM_MER_STATUS, Reg.DATUM_STATUS] [.mer, .router, .host, .disc] a b) ∧
  (∀ (s : State) (t : Nat) (d : Desc) (bytes : List Byte), let a := s.advance t
    1 ≤ d.len.toNat → d.len.toNat ≤ 40 → d.p1 = 0 → 0x80 ≤ bitsOf d.p0.toNat 0 8 → d.p0.toNat < 512 →
    a.bit F.DATUM_MER_STATUS_LINK_UP = true → a.awaitingAck < 8 →
    Completes (.meridianSend t d (some bytes)) s fun b =>
      (∃ m : MerMsg, b.mer.outstanding = a.mer.outstanding ++ [m] ∧ m.desc = d ∧ m.dest = d.target.toNat ∧
        m.mtype = bitsOf d.p0.toNat 0 8 ∧ m.broadcast = d.p0.getLsbD 8 ∧ m.seq = a.mer.nextSeq ∧ m.payload = bytes ∧
        m.sentAt = none ∧ m.retry = false) ∧
      b.mer.nextSeq = (a.mer.nextSeq + 1) % 65536 ∧ Kept [] [.mer] a b) ∧
  (∀ (s : State) (t : Nat) (d : Desc) (payload : Option (List Byte)) (status detail : Nat), let a := s.advance t
    firstFail [(d.len = 0 ∨ 40 < d.len.toNat, st.lenRange, 0),
      (d.p1 ≠ 0 ∨ bitsOf d.p0.toNat 0 8 < 0x80 ∨ 512 ≤ d.p0.toNat, st.targetRange, 0x10),
      (a.bit F.DATUM_MER_STATUS_LINK_UP = false, st.stateRefused, 1), (8 ≤ a.awaitingAck, st.stateRefused, 2)] =
        some (status, detail) →
    Completes (.meridianSend t d payload) s fun b => Ended d status detail a.datum a b ∧ Kept [] [.host] a b) ∧
  (∀ (s : State) (t seq n : Nat) (m : MerMsg), let a := s.advance t
    a.mer.outstanding.find? (fun m => m.seq == seq && m.sentAt.isSome) = some m → m.sentAt = some n →
    n + a.get F.DATUM_MER_ACK_TO_SLOTS * 8000 ≤ a.elapsed →
    Completes (.ackTimeout t seq) s fun b =>
      if m.retry then
        b.mer = { a.mer with outstanding := a.mer.outstanding.erase m } ∧
        Ended m.desc st.aborted (0x10000 + m.seq) a.datum a b ∧
        Raised [(a.datum, 42, 0)] a b ∧ Kept [Reg.SCRUB_FAULT_SEEN] [.mer, .host, .router] a b
      else b.mer = { a.mer with outstanding := a.mer.outstanding.map fun x =>
          if x = m then { x with sentAt := none, retry := true } else x } ∧ Kept [] [.mer] a b)

/-- PPS outputs, event inputs and the freeing of receive-box entries. PPS_OUTPUT at a datum second boundary on a pin whose function is PPS output, with
QUAL 0 or the discipline LOCKED or HOLDOVER: the pin goes high and its end is set WIDTH later in elapsed time; other pins keep their level.
PPS_OUTPUT_END once that end is reached, outside tableau: the pin goes low. EVIO_IN on an event input, 1 us or more after the previous accepted edge
on that pin: EVIO_INn is raised with the stamp of the edge (free value Config.syncTicks, log 8) and the edge is recorded; sooner than that nothing
changes. RXBOX_FREE outside tableau frees exactly the entries written 1. Nothing else changes.
From spec/02_datum_time_and_meridian.md, section The meridian link (R97); spec/02_datum_time_and_meridian.md, section EVIO pin functions (R98, R99,
R100). -/
def Obligations.EvioAndReceiveBox : Prop :=
  (∀ (s : State) (t : Nat) (pin : Fin 4), let a := s.advance t
    a.evioFunc pin = 2 → a.datum % second = 0 → (a.bit F.DATUM_PPS_OUT_QUAL = false ∨ 2 ≤ a.discState) →
    Completes (.ppsOutput t pin) s fun b =>
      Sparse.get (fun _ => .highZ) b.router.evioPin pin = EvioLevel.high ∧
      Sparse.get (fun _ => none) b.router.ppsEnd pin = some (a.elapsed + a.get F.DATUM_PPS_OUT_WIDTH * 1000) ∧
      (∀ p, p ≠ pin.val → Sparse.get (fun _ => .highZ) b.router.evioPin p = Sparse.get (fun _ => .highZ) a.router.evioPin p) ∧
      b.router = { a.router with evioPin := b.router.evioPin, ppsEnd := b.router.ppsEnd } ∧ Kept [] [.router] a b) ∧
  (∀ (s : State) (t : Nat) (pin : Fin 4) (e : Nat), let a := s.advance t
    Sparse.get (fun _ => none) a.router.ppsEnd pin = some e → e ≤ a.elapsed → a.tableau = false →
    Completes (.ppsOutputEnd t pin) s fun b =>
      Sparse.get (fun _ => .highZ) b.router.evioPin pin = EvioLevel.low ∧ Sparse.get (fun _ => none) b.router.ppsEnd pin = none ∧
      (∀ p, p ≠ pin.val → Sparse.get (fun _ => .highZ) b.router.evioPin p = Sparse.get (fun _ => .highZ) a.router.evioPin p) ∧
      b.router = { a.router with evioPin := b.router.evioPin, ppsEnd := b.router.ppsEnd } ∧ Kept [] [.router] a b) ∧
  (∀ (s : State) (t : Nat) (pin : Fin 4), let a := s.advance t
    let last := Sparse.get (fun _ => none) a.router.evioEdge pin
    a.evioFunc pin = 3 →
    Completes (.evioIn t pin) s fun b =>
      if ∀ e, last = some e → e + 1000 ≤ a.elapsed then
        Sparse.get (fun _ => none) b.router.evioEdge pin = some a.elapsed ∧
        b.router = { a.router with
          evioEdge := b.router.evioEdge
          inflight := a.router.inflight ++ [{ stamp := (a.edgeStamp 0).toNat, num := 44 + pin.val, inst := pin.val }] } ∧
        Kept [] [.router] a b
      else Kept [] [] a b) ∧
  (∀ (s : State) (t : Nat) (data : Word), let a := s.advance t
    a.tableau = false →
    Completes (.rxboxFree t data) s fun b =>
      (∀ n, n < 8 → b.ibit F.DATUM_MER_RXBOX_CTRL_FULL n = (a.ibit F.DATUM_MER_RXBOX_CTRL_FULL n &&
        (!data.getLsbD n || (a.setNow Reg.DATUM_MER_RXBOX_CTRL).testBit n))) ∧
      Kept [Reg.DATUM_MER_RXBOX_CTRL] [] a b)

/-- A part samples at its instant, and each awaited conversion ends once, with its value or as MISSING. SCHEDULED_SAMPLE at a part's sample instant, its
slice free. The group not in SWAP for that part: one conversion starts, of the slice that holds the part, on the input the slot gives for this round,
to be delivered; in OVERLAP of that part with the understudy free, the understudy's shadow of it starts too. In SWAP of that part with the understudy
free: the understudy's conversion starts in its place. Nothing else changes; away from a sample instant nothing changes. RESULT for a conversion
awaited no longer than 1 500 ns, with CONV running, and RESULT_MISSING 1 500 ns after the sample: the conversion is awaited no longer. A result that
is no shadow's and the newest of its input is shown in CONV_LAST saturated at 16 bits with SEQ advanced; a missing one is counted in CONV_MISSING, and
CONV_LAST stays. A scheduled result of input 12 (ISHUNT) outside tableau is added to the drive's ISHUNT values, and beside the sequencer, the drive,
CONV_LAST12, CONV_CLIP, CONV_MISSING and events nothing changes.
From spec/03_conversion_and_comparators.md, section Slices, groups and parts (R110); spec/03_conversion_and_comparators.md, section Inputs and the
sequencer (R113); spec/03_conversion_and_comparators.md, section Where results go (R117, R118, R123); spec/03_conversion_and_comparators.md, section
The understudy (R128, R130). -/
def Obligations.ScheduledSamplesAndResults : Prop :=
  (∀ (s : State) (t : Nat) (part : Fin 16), let a := s.advance t; let g := part.val / 4; let i := 5 * g + a.partSlice g (part.val % 4)
    let u := 5 * g + a.usSlice g; let us1 := a.usState g = us.overlap ∧ (a.hand g).part = part.val % 4 ∧ (a.hand g).urgent = none ∧ a.heldLately u = false
    let n := slotInput (a.slotNow part) (a.datum / 1000)
    a.sampleDue part = true → ¬(a.usState g = us.swap ∧ (a.hand g).part = part.val % 4) → a.heldLately i = false → i ≠ u →
    Completes (.scheduledSample t part) s fun b =>
      b.conv.inflight = a.conv.inflight ++ [a.conversion i (some part) n 0 .deliver] ++
        (if us1 then [a.conversion u (some part) n 0 .shadow] else []) ∧
      b.conv = { a.conv with inflight := b.conv.inflight, lastHold := b.conv.lastHold } ∧
      Sparse.get (fun _ => none) b.conv.lastHold i = some a.elapsed ∧ Kept [] [.conv] a b) ∧
  (∀ (s : State) (t : Nat) (part : Fin 16), let a := s.advance t; let g := part.val / 4; let u := 5 * g + a.usSlice g; let h := a.hand g
    a.sampleDue part = true → a.usState g = us.swap → h.part = part.val % 4 → h.urgent = none → a.heldLately u = false →
    Completes (.scheduledSample t part) s fun b =>
      b.conv.inflight = a.conv.inflight ++ [a.conversion u (some part) (slotInput (a.slotNow part) (a.datum / 1000)) 0
        (if h.swapping then .deliver else .swap)] ∧ b.hand g = { h with swapping := true } ∧ Kept [] [.conv] a b) ∧
  (∀ (s : State) (t : Nat) (part : Fin 16), let a := s.advance t
    a.sampleDue part = false →
    Completes (.scheduledSample t part) s fun b => Kept [] [] a b) ∧
  (∀ (s : State) (t : Nat) (slice : Fin 20) (raw : BitVec 12) (value : Int) (c : Conversion), let a := s.advance t
    a.awaited slice = some c → a.bit F.CLOCK_STATUS_CONV_STOP = false → a.elapsed ≤ c.heldAt + 1500 →
    Completes (.result t slice raw value) s fun b => b.conv.inflight = a.conv.inflight.erase c ∧
      (c.use ≠ .shadow → c.input < 16 → (Sparse.get (fun _ => ({} : InputLast)) a.conv.inputs c.input).at_ = none →
        b.getInt (F.CONV_LAST_VALUE c.input) = clamp (-32768) 32767 value ∧
        b.get (F.CONV_LAST_SEQ c.input) = (a.get (F.CONV_LAST_SEQ c.input) + 1) % 65536) ∧
      (c.input = 12 → c.part = some 12 → c.use = .deliver → a.tableau = false →
        b.pump = { a.pump with missI := 0, ishunt := a.pump.ishunt ++ [clamp (-32768) 32767 value] } ∧
        Kept [Reg.CONV_LAST 12, Reg.CONV_CLIP] [.conv, .pump, .router] a b)) ∧
  (∀ (s : State) (t : Nat) (slice : Fin 20) (c : Conversion), let a := s.advance t
    a.awaited slice = some c → c.heldAt + 1500 ≤ a.elapsed →
    Completes (.resultMissing t slice) s fun b => b.conv.inflight = a.conv.inflight.erase c ∧
      (c.use ≠ .shadow → c.input < 16 →
        b.get F.CONV_MISSING_COUNT = min (a.get F.CONV_MISSING_COUNT + 1) 0xFFFFFFFF ∧
        b.reg (Reg.CONV_LAST c.input) = a.reg (Reg.CONV_LAST c.input)) ∧
      (c.input = 12 → c.part = some 12 → c.use = .deliver → a.tableau = false →
        b.pump = { a.pump with missI := min 16 (a.pump.missI + 1) } ∧
        Kept [Reg.CONV_MISSING] [.conv, .pump, .router] a b))

/-- A handover goes from CAL over OVERLAP to SWAP; a failed attempt waits once for its retry and then takes the slice out. HANDOVER_OPPORTUNITY with the
interval passed, HAND_EN 1, nothing deferred, outside tableau and the understudy idle: CAL, with the first ladder conversion at the next round
boundary. CAL_COMPLETE with all 1 024 ladder results and no urgent request in service, every tap's mean within CAL_LIM of its nominal value: the
fitted set is in force, its age starts anew, and OVERLAP begins with no pairs. OVERLAP_VERDICT with the pairs collected and mean and peak within their
limits: SWAP. SWAP with the swap sample delivered: the part is held by the understudy's slice, the relieved slice is the understudy in IDLE, the next
handover is for the next part, CONV_HANDOVERS counts, a retry that has succeeded counts in CONV_TRANSIENT, and the handover event is raised. Beside
the registers and parts named in each clause nothing changes. CAL_COMPLETE of a ladder with a tap's mean beyond CAL_LIM, and OVERLAP_TIMEOUT of an
overlap without its pairs in time and no urgent request in service: after no earlier failure the understudy is idle again, a retry waits and the
failure event is raised; after one the slice is out, no understudy is left, NO_US is set (after an overlap SUSPECT too) and the lasting event raised.
CAL_STALE for a group with a slice over the age limit, not flagged yet, sets its bit and raises CAL_STALE. REFERENCE_MONITOR: the third measurement in
a row outside [2.475 V, 2.525 V] sets REF_FAULT and raises it, the third inside (both bounds inside) clears it. Beside the registers and parts named
in each clause nothing changes.
From spec/03_conversion_and_comparators.md, section Where results go (R120); spec/03_conversion_and_comparators.md, section The understudy (R125,
R127, R129, R130, R131, R132, R134, R136). -/
def Obligations.HandoversAndTheirFailures : Prop :=
  (∀ (s : State) (t : Nat) (g : Fin 4), let a := s.advance t
    (a.hand g).endAt + a.get F.CONV_HAND_INTERVAL * second ≤ a.elapsed → a.bit F.CONV_CTRL_HAND_EN = true →
    a.bit F.SCRUB_STATUS_DEFERRED = false → a.tableau = false → a.usState g = us.idle → a.usSlice g < 5 →
    Completes (.handoverOpportunity t g) s fun b => b.usState g = us.cal ∧ b.usSlice g = a.usSlice g ∧
      b.hand g = { a.hand g with ladder := a.elapsed + (1000 - a.datum % 1000) % 1000, lost := 0 } ∧
      Kept [Reg.CONV_MAP g] [.conv] a b) ∧
  (∀ (s : State) (t : Nat) (g : Fin 4) (fit : LadderFit), let a := s.advance t
    a.usState g = us.cal → (a.hand g).urgent = none → a.ladderEnd g ≤ a.elapsed →
    residual16 fit.sums ≤ 16 * a.get F.CONV_HAND_CAL_LIM →
    Completes (.calComplete t g fit) s fun b =>
      b.usState g = us.overlap ∧ b.usSlice g = a.usSlice g ∧
      (b.hand g).pairs = 0 ∧ (b.hand g).start = a.elapsed ∧ (b.hand g).part = (a.hand g).part ∧
      Sparse.get (fun _ => 0) b.conv.calAt (5 * g + a.usSlice g) = a.elapsed ∧
      Sparse.get (fun _ => []) b.conv.cals (5 * g + a.usSlice g) = fit.cal ∧ b.conv.inflight = a.conv.inflight ∧
      Kept [Reg.CONV_MAP g] [.conv] a b) ∧
  (∀ (s : State) (t : Nat) (g : Fin 4), let a := s.advance t
    a.usState g = us.overlap → a.overlapNeed ≤ (a.hand g).pairs →
    |(a.hand g).sum| ≤ a.get F.CONV_HAND_MEAN_LIM * ((a.hand g).pairs : Int) → (a.hand g).peak ≤ 4 * a.get F.CONV_HAND_PEAK_LIM →
    Completes (.overlapVerdict t g) s fun b => b.usState g = us.swap ∧ b.usSlice g = a.usSlice g ∧ (b.hand g).swapping = false ∧
      b.conv.inflight = a.conv.inflight ∧ Kept [Reg.CONV_MAP g, Reg.CONV_OVL g] [.conv] a b) ∧
  (∀ (s : State) (t : Nat) (g : Fin 4), let a := s.advance t
    a.usState g = us.swap → (a.hand g).swapDone = true → (a.hand g).part < 4 →
    Completes (.swap t g) s fun b =>
      b.partSlice g (a.hand g).part = a.usSlice g ∧ b.usSlice g = a.partSlice g (a.hand g).part ∧ b.usState g = us.idle ∧
      (b.hand g).part = ((a.hand g).part + 1) % 4 ∧ (b.hand g).endAt = a.elapsed ∧ (b.hand g).failed = false ∧
      b.get F.CONV_HANDOVERS_COUNT = min (a.get F.CONV_HANDOVERS_COUNT + 1) 0xFFFFFFFF ∧
      b.get F.CONV_TRANSIENT_COUNT = min (a.get F.CONV_TRANSIENT_COUNT + if (a.hand g).failed then 1 else 0) 0xFFFFFFFF ∧
      Raised [(a.datum, 51, 0)] a b ∧
      Kept [Reg.CONV_MAP g, Reg.CONV_STATUS, Reg.CONV_HANDOVERS, Reg.CONV_TRANSIENT, Reg.SCRUB_FAULT_SEEN] [.conv, .router] a b) ∧
  (∀ (s : State) (t : Nat) (g : Fin 4) (fit : LadderFit), let a := s.advance t
    a.usState g = us.cal → (a.hand g).urgent = none → a.ladderEnd g ≤ a.elapsed →
    16 * a.get F.CONV_HAND_CAL_LIM < residual16 fit.sums →
    Completes (.calComplete t g fit) s fun b =>
      (if (a.hand g).failed then
        b.usState g = us.out ∧ b.usSlice g = 7 ∧ b.ibit F.CONV_STATUS_NO_US g = true ∧ Raised [(a.datum, 53, 0)] a b
      else b.usState g = us.idle ∧ b.usSlice g = a.usSlice g ∧ (b.hand g).failed = true ∧ (b.hand g).endAt = a.elapsed ∧
        Raised [(a.datum, 52, 0)] a b) ∧
      Kept [Reg.CONV_MAP g, Reg.CONV_STATUS, Reg.SCRUB_FAULT_SEEN] [.conv, .router] a b) ∧
  (∀ (s : State) (t : Nat) (g : Fin 4), let a := s.advance t
    a.usState g = us.overlap → (a.hand g).pairs < a.overlapNeed → (a.hand g).urgent = none →
    (a.hand g).start + (a.hand g).suspended + 64 * a.overlapNeed * 1000 ≤ a.elapsed →
    Completes (.overlapTimeout t g) s fun b =>
      (if (a.hand g).failed then
        b.usState g = us.out ∧ b.usSlice g = 7 ∧ b.ibit F.CONV_STATUS_NO_US g = true ∧ b.ibit F.CONV_STATUS_SUSPECT g = true ∧
        Raised [(a.datum, 53, 0)] a b
      else b.usState g = us.idle ∧ (b.hand g).failed = true ∧ (b.hand g).endAt = a.elapsed ∧ Raised [(a.datum, 52, 0)] a b) ∧
      Kept [Reg.CONV_MAP g, Reg.CONV_OVL g, Reg.CONV_STATUS, Reg.SCRUB_FAULT_SEEN] [.conv, .router] a b) ∧
  (∀ (s : State) (t : Nat) (g : Fin 4), let a := s.advance t
    a.groupOld g = true → a.ibit F.CONV_STATUS_CAL_STALE g = false →
    Completes (.calStale t g) s fun b => b.ibit F.CONV_STATUS_CAL_STALE g = true ∧ Raised [(a.datum, 56, 0)] a b ∧
      Kept [Reg.CONV_STATUS] [.conv, .router] a b) ∧
  (∀ (s : State) (t uv : Nat), let a := s.advance t
    (uv < 2475000 ∨ 2525000 < uv) → a.conv.refOut = 2 → a.bit F.CONV_STATUS_REF_FAULT = false →
    Completes (.referenceMonitor t uv) s fun b => b.bit F.CONV_STATUS_REF_FAULT = true ∧ b.conv.refIn = 0 ∧
      Raised [(a.datum, 54, 0)] a b ∧ Kept [Reg.CONV_STATUS, Reg.SCRUB_FAULT_SEEN] [.conv, .router] a b) ∧
  (∀ (s : State) (t uv : Nat), let a := s.advance t
    2475000 ≤ uv → uv ≤ 2525000 → a.conv.refIn = 2 →
    Completes (.referenceMonitor t uv) s fun b => b.bit F.CONV_STATUS_REF_FAULT = false ∧ b.conv.refOut = 0 ∧
      Kept [Reg.CONV_STATUS] [.conv] a b)

/-- CONV_URGENT starts one urgent conversion, CONV_SLOT waits for the round boundary, READMIT returns an out slice. Outside tableau. CONV_URGENT with GO:
the first of the groups g, g + 1, g + 2, g + 3 from the input's serving group g that is neither in SWAP nor without understudy, its understudy in no
urgent request, converts that input with its sample 200 ns after this instant, any shadow of that understudy given up; where that group serves a
request accepted earlier, the new one is dropped, counted and raised (how far a request is passed on is log 205). CONV_SLOT_WRITE with the curtain
LOWERED or LOCKED and an offset up to 499: the register takes the value whole, the slot in force at this instant is still the old one, and a handover
of the group in CAL or OVERLAP is given up; with the curtain in another state, CONV_STATUS.CFG_REJECT is set. READMIT of one group, with the curtain
LOWERED or LOCKED: with one slice out, that slice is the understudy in IDLE, no slice is out, NO_US is clear; with none out, CFG_REJECT is set; RUN
and HAND_EN take the written bits. Beside the registers and parts named in each clause nothing changes.
From spec/03_conversion_and_comparators.md, section Inputs and the sequencer (R114); spec/03_conversion_and_comparators.md, section The understudy
(R133); spec/03_conversion_and_comparators.md, section Urgent conversions (R138, R140). -/
def Obligations.UrgentSlotAndReadmitWrites : Prop :=
  (∀ (s : State) (t : Nat) (data : Word) (k : Fin 4), let a := s.advance t; let n := bitsOf data.toNat 0 4
    let gk := fun (j : Nat) => (a.servingGroup n + j) % 4; let g := gk k; let u := 5 * g + a.usSlice g
    a.tableau = false → data.getLsbD 8 = true → (∀ j < k.val, a.usState (gk j) = us.swap ∨ 4 < a.usSlice (gk j)) →
    a.usState g ≠ us.swap → a.usSlice g ≤ 4 → (a.hand g).urgent = none →
    Completes (.convUrgent t data) s fun b =>
      b.conv.inflight = (a.conv.inflight.filter fun c => !(c.use == Use.shadow && c.slice == u)) ++ [a.conversion u none n 200 .deliver] ∧
      (b.hand g).urgent = some (a.elapsed, 32) ∧ Kept [Reg.CONV_REQUEUE] [.conv] a b) ∧
  (∀ (s : State) (t : Nat) (data : Word) (x : Nat × Nat), let a := s.advance t; let g := a.servingGroup (bitsOf data.toNat 0 4)
    a.tableau = false → data.getLsbD 8 = true → a.usState g ≠ us.swap → a.usSlice g ≤ 4 → (a.hand g).urgent = some x → x.1 < a.elapsed →
    Completes (.convUrgent t data) s fun b =>
      b.get F.CONV_URGENT_DROP_COUNT = min (a.get F.CONV_URGENT_DROP_COUNT + 1) 0xFFFFFFFF ∧ Raised [(a.datum, 50, 0)] a b ∧
      Kept [Reg.CONV_URGENT_DROP] [.router] a b) ∧
  (∀ (s : State) (t : Nat) (part : Fin 16) (data : Word), let a := s.advance t
    a.tableau = false → a.curtainDown = true → bitsOf data.toNat 16 9 ≤ 499 →
    Completes (.convSlotWrite t part data) s fun b =>
      b.reg (Reg.CONV_SLOT part) = data ∧ b.slotNow part = a.slotNow part ∧
      ((a.usState (part.val / 4) = us.cal ∨ a.usState (part.val / 4) = us.overlap) → b.usState (part.val / 4) = us.idle) ∧
      Kept [Reg.CONV_SLOT part, Reg.CONV_MAP (part.val / 4)] [.conv] a b) ∧
  (∀ (s : State) (t : Nat) (part : Fin 16) (data : Word), let a := s.advance t
    a.tableau = false → a.curtainDown = false →
    Completes (.convSlotWrite t part data) s fun b => b.bit F.CONV_STATUS_CFG_REJECT = true ∧ Kept [Reg.CONV_STATUS] [] a b) ∧
  (∀ (s : State) (t : Nat) (data : Word) (g : Fin 4) (i : Fin 5), let a := s.advance t
    a.tableau = false → a.curtainDown = true → bitsOf data.toNat 8 4 = 2 ^ g.val → a.get (F.CONV_MAP_OUT g) = 2 ^ i.val →
    Completes (.readmit t data) s fun b =>
      b.get (F.CONV_MAP_OUT g) = 0 ∧ b.usSlice g = i ∧ b.usState g = us.idle ∧ b.ibit F.CONV_STATUS_NO_US g = false ∧
      (b.hand g).failed = false ∧ b.bit F.CONV_CTRL_RUN = data.getLsbD 0 ∧ b.bit F.CONV_CTRL_HAND_EN = data.getLsbD 1 ∧
      Kept [Reg.CONV_CTRL, Reg.CONV_STATUS, Reg.CONV_MAP 0, Reg.CONV_MAP 1, Reg.CONV_MAP 2, Reg.CONV_MAP 3] [.conv] a b) ∧
  (∀ (s : State) (t : Nat) (data : Word) (g : Fin 4), let a := s.advance t
    a.tableau = false → a.curtainDown = true → bitsOf data.toNat 8 4 = 2 ^ g.val → a.get (F.CONV_MAP_OUT g) = 0 →
    Completes (.readmit t data) s fun b =>
      b.bit F.CONV_STATUS_CFG_REJECT = true ∧ b.bit F.CONV_CTRL_RUN = data.getLsbD 0 ∧ b.bit F.CONV_CTRL_HAND_EN = data.getLsbD 1 ∧
      Kept [Reg.CONV_CTRL, Reg.CONV_STATUS, Reg.CONV_MAP 0, Reg.CONV_MAP 1, Reg.CONV_MAP 2, Reg.CONV_MAP 3] [.conv] a b)

/-- A comparator that trips latches and raises its event; the self-test starts or is refused, is read, and ends. COMP_TRIP of an enabled comparator on its
normal side, in no self-test and with its filter full, with a majority of its window on the tripped side: COMP_STATE and COMP_LATCH show it, and
COMP_k is on its way to the router stamped with the capture of the first sample of that majority, before what its routes raise; a CURTAIN route
latches channel B; without routes, and with k below 26, the sequencer, the wing, the engine and the curtain are as before. COMP_NORMAL with its filter
full: COMP_STATE shows the normal side, and everything else stays; while the filter is refilled nothing changes. COMP_CFG_WRITE outside tableau with
FILT up to 2, the curtain LOWERED or LOCKED or no GATE, HALT and CURTAIN route set: every field takes the written bits, in force from the next tick.
With the curtain in another state, such a route set, and a write that changes ENABLE, FILT, HYST or THRESH or takes a route away: the register is
unchanged and COMP_STATUS.CFG_REJECT is set. COMP_TEST_START with START 1: with the curtain up, in tableau, with a test running or with COMP_TEST_SEL
0 it only sets TEST_REFUSED; else, a test of the selected comparators in the written mode runs from this instant and TEST_BUSY is set. COMP_TEST_READ
100 ns or more later, not yet read: COMP_TEST_SKIP and COMP_TEST_RESULT name selected comparators only, none in both, and the test is read.
COMP_TEST_DONE of a read test no SELFTEST waits for: no test runs, TEST_BUSY is clear, TEST_DONE set and its event raised. Beside the registers and
parts named in each clause nothing changes, COMP_LATCH not either.
From spec/03_conversion_and_comparators.md, section Window comparators (R146, R147, R148, R149, R150, R151); spec/03_conversion_and_comparators.md,
section Comparator self-test (R154, R155, R156, R157). -/
def Obligations.ComparatorsAndTheirSelfTest : Prop :=
  (∀ (s : State) (t : Nat) (e : CompEdge) (delay : Nat), let a := s.advance t; let x := a.compCfg e.k
    compEnable x = true → a.ibit F.COMP_STATE_TRIPPED e.k = false → a.compTesting e.k = false → a.compHeld e.k = false →
    tripDelay (compFilt x) e.window = some delay →
    Completes (.compTrip t e) s fun b =>
      b.ibit F.COMP_STATE_TRIPPED e.k = true ∧ b.ibit F.COMP_LATCH_SEEN e.k = true ∧
      (∃ l, b.router.inflight = a.router.inflight ++ { stamp := a.datum - delay, num := 64 + e.k.val } :: l) ∧
      (x.testBit 23 = true → b.btrip = true) ∧
      (bitsOf x 23 5 = 0 → e.k.val < 26 → b.conv = a.conv ∧ b.wing = a.wing ∧ b.engine = a.engine ∧ b.curt = a.curt)) ∧
  (∀ (s : State) (t : Nat) (k : Fin 32), let a := s.advance t
    a.compHeld k = false →
    Completes (.compNormal t k) s fun b => b.ibit F.COMP_STATE_TRIPPED k = false ∧
      (∀ j, j ≠ k.val → b.ibit F.COMP_STATE_TRIPPED j = a.ibit F.COMP_STATE_TRIPPED j) ∧ Kept [Reg.COMP_STATE] [] a b) ∧
  (∀ (s : State) (t : Nat) (k : Fin 32), let a := s.advance t
    a.compHeld k = true →
    Completes (.compNormal t k) s fun b => Kept [] [] a b) ∧
  (∀ (s : State) (t : Nat) (k : Fin 32) (data : Word), let a := s.advance t
    a.tableau = false → bitsOf data.toNat 28 2 ≤ 2 → (a.curtainDown = true ∨ routesOf (a.reg (Reg.COMP_CFG k)).toNat = 0) →
    Completes (.compCfgWrite t k data) s fun b =>
      (∀ i, i < 32 → (i < 10 ∨ (20 ≤ i ∧ i ≠ 30)) → (b.reg (Reg.COMP_CFG k)).getLsbD i = data.getLsbD i) ∧
      b.compCfg k = a.compCfg k ∧
      (∀ n, 1 ≤ n → (b.advance (a.elapsed / 2 + 1 + n)).power.stageByp = false →
        (b.advance (a.elapsed / 2 + 1 + n)).compCfg k = (b.reg (Reg.COMP_CFG k)).toNat) ∧
      (data.getLsbD 31 = false → b.ibit F.COMP_STATE_TRIPPED k = false) ∧ Kept [Reg.COMP_CFG k, Reg.COMP_STATE] [.conv] a b) ∧
  (∀ (s : State) (t : Nat) (k : Fin 32) (data : Word), let a := s.advance t; let old := (a.reg (Reg.COMP_CFG k)).toNat
    a.tableau = false → a.curtainDown = false → routesOf old ≠ 0 →
    (coreOf old ≠ coreOf data.toNat ∨ ∃ i < 5, (bitsOf old 23 5).testBit i = true ∧ (bitsOf data.toNat 23 5).testBit i = false) →
    Completes (.compCfgWrite t k data) s fun b =>
      b.bit F.COMP_STATUS_CFG_REJECT = true ∧ b.reg (Reg.COMP_CFG k) = a.reg (Reg.COMP_CFG k) ∧ Kept [Reg.COMP_STATUS] [] a b) ∧
  (∀ (s : State) (t : Nat) (data : Word), let a := s.advance t
    data.getLsbD 31 = true → a.testRefused = true →
    Completes (.compTestStart t data) s fun b => b.bit F.COMP_STATUS_TEST_REFUSED = true ∧ Kept [Reg.COMP_STATUS] [] a b) ∧
  (∀ (s : State) (t : Nat) (data : Word), let a := s.advance t
    data.getLsbD 31 = true → a.testRefused = false →
    Completes (.compTestStart t data) s fun b =>
      (∃ x, b.conv.test = some x ∧ x.sel = a.reg Reg.COMP_TEST_SEL ∧ x.mode = bitsOf data.toNat 0 2 ∧ x.start = a.elapsed ∧
        x.read = none) ∧ b.bit F.COMP_STATUS_TEST_BUSY = true ∧ Kept [Reg.COMP_STATUS, Reg.COMP_TEST_CTRL] [.conv] a b) ∧
  (∀ (s : State) (t : Nat) (w : Word) (x : CompTest), let a := s.advance t
    a.conv.test = some x → x.read = none → x.start + 100 ≤ a.elapsed →
    Completes (.compTestRead t w) s fun b =>
      b.conv.test = some { x with read := some a.elapsed } ∧
      (∀ k, k < 32 → (b.ibit F.COMP_TEST_SKIP_SKIP k = true ∨ b.ibit F.COMP_TEST_RESULT_FAIL k = true) → x.sel.getLsbD k = true) ∧
      (∀ k, k < 32 → ¬(b.ibit F.COMP_TEST_SKIP_SKIP k = true ∧ b.ibit F.COMP_TEST_RESULT_FAIL k = true)) ∧
      Kept [Reg.COMP_TEST_SKIP, Reg.COMP_TEST_RESULT, Reg.COMP_STATE] [.conv] a b) ∧
  (∀ (s : State) (t : Nat) (w : Word) (x : CompTest) (t0 : Nat), let a := s.advance t
    a.conv.test = some x → x.read = some t0 → a.host.tests.comp = none →
    Completes (.compTestDone t w) s fun b =>
      b.conv = { a.conv with test := none } ∧ b.bit F.COMP_STATUS_TEST_BUSY = false ∧ b.bit F.COMP_STATUS_TEST_DONE = true ∧
      Raised [(a.datum, 55, 0)] a b ∧ Kept [Reg.COMP_STATUS, Reg.COMP_STATE] [.conv, .router] a b)

/-- Every enabled loop's frame is frozen 40 ns before its start and leaves at the start, in tableau as a hold frame. FRAME_FREEZE at S_k - 40 ns of the
next frame k, outside tableau, with frame k not frozen yet and the interval since the last start kept: one frame of number k is frozen for every
enabled loop, in loop order, with FN = k mod 65 536 and the base of its act base, none a hold frame; no frame leaves yet; with no cell in LEAVING
nothing changes but the loops, the dump and bypass orders' act bases and the counts of late cues. FRAME_START at S_k: outside tableau the frozen
frames of number k leave in order, each as its bytes (a COUNT set in its place where it is one, nothing where its place is idle), none stays frozen,
and the start is noted; in tableau every enabled loop's hold frame leaves, whose orders are all NONE. Nothing changes but the loops, events,
WING_STATUS and the WING_TRAINn of the loops whose frames leave.
From spec/04_wing_loops.md, section Frame timing (R167, R171, R172); spec/04_wing_loops.md, section Frame layout (R173); spec/04_wing_loops.md,
section Loop training (R204); spec/04_wing_loops.md, section Tableau (R218). -/
def Obligations.FramesAreFrozenAndSent : Prop :=
  (∀ (s : State) (t : Nat), let a := s.advance t; let k := (a.datum + 40) / a.framePeriod
    (a.datum + 40) % a.framePeriod = 0 → a.freezeAllowed k = true →
    Completes (.frameFreeze t) s fun b =>
      (b.wing.frozen.map fun f => (f.loop, f.k, f.fn, f.base, f.hold)) =
        (a.enabledLoops.map fun n => (n, k, k % 65536, frameBase (a.actBase k) n, false)) ∧
      b.wing.wire = a.wing.wire ∧ b.wing.lastStart = a.wing.lastStart ∧
      ((∀ c ∈ cellIds, a.cState c ≠ cs.leaving) → Kept ((List.range 4).map Reg.WING_LATE_CUE) [.wing, .cast, .pwr] a b)) ∧
  (∀ (s : State) (t : Nat), let a := s.advance t; let k := a.datum / a.framePeriod
    let fs := if a.tableau then a.enabledLoops.map (a.holdFrame k) else a.wing.frozen.filter fun f => f.k == k
    a.datum % a.framePeriod = 0 → a.startAllowed a.elapsed = true → fs ≠ [] →
    Completes (.frameStart t) s fun b =>
      b.wing.wire = a.wing.wire ++
        (fs.filter fun f => !f.idle).map (fun f => if f.count then WireItem.count f.loop else WireItem.frame f.loop f.hold (frameBytes f)) ∧
      b.wing.frozen = [] ∧ b.wing.lastStart = some a.elapsed ∧
      (a.tableau = true → ∀ f ∈ fs, f.hold = true ∧ f.orders = List.replicate a.frameSlots 0) ∧
      Kept (Reg.WING_STATUS :: fs.map fun f => Reg.WING_TRAIN f.loop) [.wing, .router] a b)

/-- A valid returned frame shows its telemetry and latency; a first bad or missing one is remembered, a second one is a loop fault. RETURNED_FRAME of the
oldest frame sent, valid, in every state: code violations count in WING_CODE_ERRn, its latency joins the last 64, WING_CELL of every present cell of
the loop with a good slot shows the slot's VDC and status nibble, and outside training WING_LAT shows the mean of those latencies rounded half up; on
a loop neither trained nor in training, with the last frame good and no order in transport, it is awaited no more and nothing else changes but the
guard's view of FAULT. A COUNT set that returns in phase 2 of training, before the fourth, is kept. RETURNED_FRAME that is not valid, and
FRAME_NOT_RETURNED, on a judged loop (trained, without loop fault, outside tableau): after a good frame it is awaited no more, CRC_ERR counts and the
failure is remembered, nothing more (but code violations); after a failure the loop is halted with LOOP_FAULT set.
From spec/04_wing_loops.md, section Telemetry (R181); spec/04_wing_loops.md, section Acknowledgement and retry (R192, R195). -/
def Obligations.ReturnedFramesAndTheirFailures : Prop :=
  (∀ (s : State) (t : Nat) (n : Fin 4) (r : Returned) (f : Frame) (fs : List Frame), let a := s.advance t
    let lats := ((a.loop n).lats ++ [r.latency]).drop ((a.loop n).lats.length + 1 - 64)
    (a.loop n).sent = f :: fs → f.count = false → r.crcOk = true → r.fn = f.fn → r.base = f.base →
    Completes (.returnedFrame t n r) s fun b =>
      (b.loop n).lats = lats ∧
      ((a.loop n).train = none →
        b.get (F.WING_LAT_L n) = min ((2 * lats.sum + lats.length) / (2 * lats.length)) (2 ^ 24 - 1)) ∧
      b.get (F.WING_CODE_ERR_COUNT n) = min (a.get (F.WING_CODE_ERR_COUNT n) + r.codeErrs) 0xFFFFFFFF ∧
      (∀ c ∈ a.loopCells n, let w := r.slots.getD (a.cellPos c) 0xFFFFFFFF#32
        slotGood w = true →
        b.get (F.WING_CELL_VDC c) = slotVdc w ∧ b.get (F.WING_CELL_NIBBLE c) = bitsOf w.toNat 16 4)) ∧
  (∀ (s : State) (t : Nat) (n : Fin 4) (r : Returned) (f : Frame) (fs : List Frame), let a := s.advance t
    (a.loop n).sent = f :: fs → f.count = false → r.crcOk = true → r.fn = f.fn → r.base = f.base →
    a.loopTrained n = false → (a.loop n).train = none → (a.loop n).bad = false →
    (∀ c ∈ a.loopCells n, (a.tx c).orders = [] ∧ slotGood (r.slots.getD (a.cellPos c) 0xFFFFFFFF#32) = false) →
    Completes (.returnedFrame t n r) s fun b =>
      (b.loop n).sent = fs ∧
      Kept [Reg.WING_LAT n, Reg.WING_CODE_ERR n] [.wing] a b) ∧
  (∀ (s : State) (t : Nat) (n : Fin 4) (r : Returned) (f : Frame) (fs : List Frame) (x : Train) (c : Nat), let a := s.advance t
    (a.loop n).sent = f :: fs → f.count = true → r.count = some c → (a.loop n).train = some x → x.phase = 2 → x.counts.length < 3 →
    Completes (.returnedFrame t n r) s fun b =>
      (b.loop n).sent = fs ∧ (b.loop n).train = some { x with counts := x.counts ++ [c] } ∧
      Kept [Reg.WING_CODE_ERR n] [.wing] a b) ∧
  (∀ (s : State) (t : Nat) (n : Fin 4) (r : Returned) (f : Frame) (fs : List Frame), let a := s.advance t
    (a.loop n).sent = f :: fs → f.count = false → (r.crcOk = false ∨ r.fn ≠ f.fn ∨ r.base ≠ f.base) →
    a.loopJudged n = true → (a.loop n).bad = false →
    Completes (.returnedFrame t n r) s fun b =>
      (b.loop n).sent = fs ∧ (b.loop n).bad = true ∧
      b.get (F.WING_CRC_ERR_COUNT n) = min (a.get (F.WING_CRC_ERR_COUNT n) + 1) 0xFFFFFFFF ∧
      b.get (F.WING_CODE_ERR_COUNT n) = min (a.get (F.WING_CODE_ERR_COUNT n) + r.codeErrs) 0xFFFFFFFF ∧
      Kept [Reg.WING_CRC_ERR n, Reg.WING_CODE_ERR n] [.wing] a b) ∧
  (∀ (s : State) (t : Nat) (n : Fin 4) (r : Returned) (f : Frame) (fs : List Frame), let a := s.advance t
    (a.loop n).sent = f :: fs → f.count = false → (r.crcOk = false ∨ r.fn ≠ f.fn ∨ r.base ≠ f.base) →
    a.loopJudged n = true → (a.loop n).bad = true →
    Completes (.returnedFrame t n r) s fun b => b.loopFault n = true ∧ b.loopHalted n = true) ∧
  (∀ (s : State) (t : Nat) (n : Fin 4) (f : Frame) (fs : List Frame), let a := s.advance t
    (a.loop n).sent = f :: fs → f.count = false → a.loopJudged n = true → (a.loop n).bad = false →
    Completes (.frameNotReturned t n) s fun b =>
      (b.loop n).sent = fs ∧ (b.loop n).bad = true ∧
      b.get (F.WING_CRC_ERR_COUNT n) = min (a.get (F.WING_CRC_ERR_COUNT n) + 1) 0xFFFFFFFF ∧
      Kept [Reg.WING_CRC_ERR n] [.wing] a b) ∧
  (∀ (s : State) (t : Nat) (n : Fin 4) (f : Frame) (fs : List Frame), let a := s.advance t
    (a.loop n).sent = f :: fs → f.count = false → a.loopJudged n = true → (a.loop n).bad = true →
    Completes (.frameNotReturned t n) s fun b => b.loopFault n = true ∧ b.loopHalted n = true)

/-- A halt is held on every loop from the write of HALT_NOW to the act base of the frame that carries RESUME. HALT_NOW, a write in range with the bit set
outside tableau that leaves ENABLE, PERIOD and SAFE_STATE as they are or finds the curtain down: every loop whose TRAIN bit is not written is halted;
on one that is enabled and was not halted, three HALT sets leave and HALT_SENT is raised, stamped at the pin. HALT_RETURNED: HALT_SEEN of the loop is
set and its event raised. RESUME: on every loop named that R201 allows, every present cell has a RESUME order behind its others and the resume is due;
with a loop named that R201 does not allow, CFG_REJECT is set; no loop's HALTED changes, nor anything else. RESUME_TAKES_EFFECT from the act base on:
HALTED of that loop is 0, of every other as before, and nothing else changes. The pin's latency is the free value Config.pinTicks (log 214).
From spec/04_wing_loops.md, section The halt (R196, R197, R200, R201); spec/04_wing_loops.md, section Registers (R223). -/
def Obligations.HaltsAndResumes : Prop :=
  (∀ (s : State) (t : Nat) (data : Word), let a := s.advance t
    a.tableau = false → (wingSetup data.toNat = wingSetup (a.reg Reg.WING_CTRL).toNat ∨ a.curtainDown = true) →
    bitsOf data.toNat 16 2 ≠ 3 → bitsOf data.toNat 18 2 ≤ 1 → data.getLsbD 23 = true →
    Completes (.haltNow t data) s fun b => ∀ n, n < 4 → data.getLsbD (28 + n) = false →
      b.loopHalted n = true ∧
      (data.getLsbD n = true → a.loopHalted n = false →
        b.wing.wire.count (.halt n) = a.wing.wire.count (.halt n) + 3 ∧
        ({ stamp := a.charBoundary + pinDelay, num := 99, inst := n } : Event) ∈ b.router.inflight)) ∧
  (∀ (s : State) (t : Nat) (n : Fin 4), let a := s.advance t
    Completes (.haltReturned t n) s fun b => b.ibit F.WING_STATUS_HALT_SEEN n = true ∧ Raised [(a.datum, 100, n)] a b ∧
      Kept [Reg.WING_STATUS] [.router] a b) ∧
  (∀ (s : State) (t : Nat) (data : Word), let a := s.advance t; let named := fun (n : Nat) => data.getLsbD (24 + n)
    a.tableau = false → wingSetup data.toNat = wingSetup (a.reg Reg.WING_CTRL).toNat → bitsOf data.toNat 16 2 ≠ 3 →
    bitsOf data.toNat 18 2 ≤ 1 → data.getLsbD 23 = false → bitsOf data.toNat 28 4 = 0 →
    Completes (.resume t data) s fun b =>
      (∀ n, n < 4 → named n = true → a.resumeAllowed n = true → (b.loop n).resumeDue = true ∧
        ∀ c ∈ a.loopCells n, (b.tx c).orders = (a.tx c).orders ++ [({ owner := .resume, codes := [7] } : Order)]) ∧
      (((List.range 4).any fun n => named n && !a.resumeAllowed n) = true → b.bit F.WING_STATUS_CFG_REJECT = true) ∧
      (∀ n, b.loopHalted n = a.loopHalted n) ∧ Kept [Reg.WING_STATUS] [.wing] a b) ∧
  (∀ (s : State) (t x : Nat) (n : Fin 4), let a := s.advance t
    (a.loop n).resumeAt = some x → x ≤ a.datum →
    Completes (.resumeTakesEffect t n) s fun b =>
      (∀ m, b.loopHalted m = (if m = n.val then false else a.loopHalted m)) ∧ (b.loop n).resumeAt = none ∧
      Kept [Reg.WING_STATUS] [.wing] a b)

/-- TRAIN clears the loop's state and opens phase 1; a cell outside its positions or 10 ms without 64 valid frames ends it with its code. TRAIN, a write
in range outside tableau with the curtain LOWERED or LOCKED, of a loop it leaves enabled: TRAINED, LOOP_FAULT and HALTED of the loop and the
LINK_FAULT of its cells are 0; with its present cells at positions 0 to N - 1 (at most 16 with the shortest period) training is in phase 1 with
TRAIN_BUSY set, started at this instant; with a cell at position p outside them training has ended with FAIL_CODE 0x0B and FAIL_POS p, TRAIN_BUSY
clear; without HALT_NOW nothing changes but the loops, their casting orders, host orders, WING_CTRL, WING_STATUS, WING_TRAINn, LINK_FAULT and events.
With the curtain up, or of loops not enabled, only CFG_REJECT is set. TRAIN_LINK_TIMEOUT of a loop still in phase 1 after 10 ms: training has ended
with FAIL_CODE 1 and FAIL_POS 0xFF, and TRAIN_FAIL is raised.
From spec/04_wing_loops.md, section Loop training (R202, R203, R204). -/
def Obligations.TrainingStartsAndFails : Prop :=
  (∀ (s : State) (t : Nat) (n : Fin 4) (data : Word), let a := s.advance t
    a.tableau = false → bitsOf data.toNat 16 2 ≠ 3 → bitsOf data.toNat 18 2 ≤ 1 → a.curtainDown = true →
    data.getLsbD (28 + n) = true → data.getLsbD n = true →
    Completes (.train t data) s fun b =>
      b.loopTrained n = false ∧ b.loopFault n = false ∧ b.loopHalted n = false ∧ (∀ c ∈ a.loopCells n, b.linkFault c = false) ∧
      (match b.badPosition n with
      | none => b.ibit F.WING_STATUS_TRAIN_BUSY n = true ∧ b.get (F.WING_TRAIN_PHASE n) = 1 ∧
          (b.loop n).train = some { start := a.elapsed }
      | some p => b.ibit F.WING_STATUS_TRAIN_BUSY n = false ∧ (b.loop n).train = none ∧
          b.get (F.WING_TRAIN_FAIL_CODE n) = 0xB ∧ b.get (F.WING_TRAIN_FAIL_POS n) = p % 256) ∧
      (data.getLsbD 23 = false →
        Kept ([Reg.WING_CTRL, Reg.WING_STATUS] ++ (List.range 4).map Reg.WING_TRAIN ++ cellIds.map Reg.WING_CELL)
          [.wing, .cast, .host, .router] a b)) ∧
  (∀ (s : State) (t : Nat) (data : Word), let a := s.advance t
    a.tableau = false → wingSetup data.toNat = wingSetup (a.reg Reg.WING_CTRL).toNat → bitsOf data.toNat 16 2 ≠ 3 →
    bitsOf data.toNat 18 2 ≤ 1 → bitsOf data.toNat 23 5 = 0 → bitsOf data.toNat 28 4 ≠ 0 →
    (a.curtainDown = false ∨ Nat.land (bitsOf data.toNat 28 4) (bitsOf data.toNat 0 4) = 0) →
    Completes (.train t data) s fun b => b.bit F.WING_STATUS_CFG_REJECT = true ∧ Kept [Reg.WING_STATUS] [] a b) ∧
  (∀ (s : State) (t : Nat) (n : Fin 4) (x : Train), let a := s.advance t
    (a.loop n).train = some x → x.phase = 1 → x.start + 10000000 ≤ a.elapsed →
    Completes (.trainLinkTimeout t n) s fun b =>
      (b.loop n).train = none ∧ b.get (F.WING_TRAIN_FAIL_CODE n) = 1 ∧ b.get (F.WING_TRAIN_FAIL_POS n) = 0xFF ∧
      b.ibit F.WING_STATUS_TRAIN_BUSY n = false ∧ Raised [(a.datum, 97, n)] a b ∧
      Kept [Reg.WING_STATUS, Reg.WING_TRAIN n] [.wing, .router] a b)

/-- Delays are recomputed every 65 536 frames unless L has drifted; CELL_ORDER hands its order to its cell's slot. DELAY_RECOMPUTE of a trained loop after
65 536 frames, outside tableau: the frame count starts anew. While drift is noted nothing else happens. When L differs from its value at training by
more than 20 ns (160 units) or exceeds 3.0 us (24 000 units, log 217), drift is noted, LOOP_DRIFT is raised and no delay is written. Otherwise the
delay of every cell that has reported u is computed anew (R209): off by 1 ns (8 units) or more it is shown and its two halves are written to the
station, each in a sequence of its own; else the cell stays. CELL_ORDER that meets R562 and R563: the codes of R179 wait behind the cell's earlier
orders and nothing else changes; at the first check that fails it completes with that check's STATUS and DETAIL, and nothing else changes.
From spec/04_wing_loops.md, section Loop training (R211); spec/13_host_rings.md, section Opcodes (R562, R563). -/
def Obligations.DelaysAndHostOrders : Prop :=
  (∀ (s : State) (t : Nat) (n : Fin 4), let a := s.advance t; let lat := a.get (F.WING_LAT_L n)
    a.loopTrained n = true → 65536 ≤ (a.loop n).frames → a.tableau = false →
    Completes (.delayRecompute t n) s fun b => (b.loop n).frames = 0 ∧
      ((a.loop n).drift = true → b.wing.cells = a.wing.cells ∧ Kept [] [.wing] a b) ∧
      ((a.loop n).drift = false → (160 < ((lat : Int) - (a.loop n).l0).natAbs ∨ 24000 < lat) →
        (b.loop n).drift = true ∧ b.wing.cells = a.wing.cells ∧ Raised [(a.datum, 108, n)] a b ∧ Kept [] [.wing, .router] a b) ∧
      ((a.loop n).drift = false → ¬(160 < ((lat : Int) - (a.loop n).l0).natAbs ∨ 24000 < lat) →
        (∀ c ∈ a.loopCells n, match Sparse.get (fun _ => none) (a.tx c).items 14, Sparse.get (fun _ => none) (a.tx c).items 15 with
          | some lo, some hi =>
            let d := (a.delayOf n lat (a.cellPos c) (lo + 4096 * hi)).toNat
            if 8 ≤ ((d : Int) - a.get (F.WING_DELAY_D c)).natAbs then
              b.get (F.WING_DELAY_D c) = d % 2 ^ 24 ∧ (b.tx c).orders = (a.tx c).orders ++
                [({ owner := .delay, codes := orderWrite 8 (d % 4096) } : Order), { owner := .delay, codes := orderWrite 9 (d / 4096) }]
            else b.get (F.WING_DELAY_D c) = a.get (F.WING_DELAY_D c) ∧ b.tx c = a.tx c
          | _, _ => b.get (F.WING_DELAY_D c) = a.get (F.WING_DELAY_D c) ∧ b.tx c = a.tx c) ∧
        Kept ((a.loopCells n).map Reg.WING_DELAY) [.wing] a b)) ∧
  (∀ (s : State) (t : Nat) (d : Desc) (codes : List Nat), let a := s.advance t; let c := d.target.toNat
    c ≤ 127 → d.len = 0 → hostCodes d.p0.toNat d.p1.toNat = some codes → a.present c = true →
    a.loopTrained (a.cellLoop c) = true → a.loopHalted (a.cellLoop c) = false → a.linkFault c = false →
    ¬(d.p0 = 5 ∧ a.bypassOpen c = true) →
    Completes (.cellOrder t d) s fun b =>
      (b.tx c).orders = (a.tx c).orders ++ [({ owner := .host d, codes := codes } : Order)] ∧
      (∀ e, e ≠ c → b.tx e = a.tx e) ∧ Kept [] [.wing] a b) ∧
  (∀ (s : State) (t : Nat) (d : Desc) (status detail : Nat), let a := s.advance t; let c := d.target.toNat; let n := a.cellLoop c
    firstFail [(127 < c, st.targetRange, 0), (d.len ≠ 0, st.lenRange, 0),
      (hostCodes d.p0.toNat d.p1.toNat = none, st.targetRange, 0x10), (a.present c = false, st.stateRefused, 1),
      (a.loopTrained n = false ∨ a.loopHalted n = true ∨ a.linkFault c = true, st.stateRefused, 2),
      (d.p0 = 5 ∧ a.bypassOpen c = true, st.stateRefused, 3)] = some (status, detail) →
    Completes (.cellOrder t d) s fun b => Ended d status detail a.datum a b ∧ Kept [] [.host] a b)

/-- An evaluation tick, whichever of its commands names it, evaluates both contours, takes their region and judges PERMIT. For EVALUATION_TICK at its due
instant outside tableau, and for CLEAR_EXPIRY, MAX_DUR_EXPIRY, ENTER_SERVICE_DELAY, RESTORE_DELAY_EXPIRY and RESTORE_RAMP_END at that instant when the
timer they name has run out there: one tick more has been made and the next is due 100 us later, both contour tables stand as R247 evaluates them at
this tick (with the frequency of an estimator that BEAR_EN takes out of OFF at this tick), the combined region is the larger of the two (as its 3-bit
field holds it), the POWER_SET commands that waited for a tick have completed DONE in their order, and PERMIT equals its definition.
From spec/05_grid_behaviour.md, section From set-points to current references (R233); spec/05_grid_behaviour.md, section Ride-through contours (R243,
R247, R248); spec/05_grid_behaviour.md, section Verdicts, the permit and the curtain (R266). -/
def Obligations.EvaluationTicks : Prop :=
  ∀ (s : State) (t : Nat) (c : Instr), let a := s.advance t
    let en := a.bit F.GRID_CTRL_RT_EN = true
    let l := a.levels
    let v := a.clearReached tid.contourV l.1 l.2.1 a.grid.cv || a.clearReached tid.contourF l.2.2 l.2.2 a.grid.cf
    let dur := a.durReached tid.contourV l.1 l.2.1 a.grid.cv || a.durReached tid.contourF l.2.2 l.2.2 a.grid.cf
    let k := a.bearEnable.contoursAt (a.grid.ticks + 1)
    a.tickDue = true →
    (c = .evaluationTick t ∨ (c = .clearExpiry t ∧ en ∧ v = true) ∨ (c = .maxDurExpiry t ∧ en ∧ dur = true) ∨
      (∃ t0, c = .enterServiceDelay t ∧ a.grid.enterSince = some t0 ∧ t0 + a.tbl16 tid.contourV 8 * 10000 ≤ a.grid.ticks + 1) ∨
      (∃ t0, c = .restoreDelayExpiry t ∧ a.grid.restore = .hold t0 ∧ t0 + a.restoreDelay ≤ a.grid.ticks + 1) ∨
      (∃ t0, c = .restoreRampEnd t ∧ a.grid.restore = .ramp t0 ∧ t0 + a.restoreRamp ≤ a.grid.ticks + 1)) →
    Completes c s fun b =>
      b.grid.ticks = a.grid.ticks + 1 ∧ b.grid.nextTick = a.grid.nextTick + 100000 ∧ b.grid.cv = k.1 ∧ b.grid.cf = k.2 ∧
      b.region = max k.1.region k.2.region % 8 ∧ b.grid.setWait = [] ∧
      b.host = (a.grid.setWait.foldl (fun s d => s.complete d st.done 0 a.datum) a).host ∧ b.bit F.GRID_STATUS_PERMIT = b.permitNow

/-- A trip point's CLEAR gives TRIP, a band's MAX_DUR its AFTER region, and the restore runs through its delay and its ramp. At a due tick outside
tableau. CLEAR_EXPIRY with RT_EN 1 and a trip point whose condition has held for CLEAR makes its table's region TRIP or beyond. MAX_DUR_EXPIRY with
RT_EN 1 and a disturbance that has lasted the MAX_DUR of a band, other than the normal one, that a level of the table lies in makes the table's region
at least that band's AFTER. RESTORE_DELAY_EXPIRY where the region neither is nor becomes one of cessation nor TRIP: the restore is in its ramp from
the end of RESTORE_DELAY on, or ended where the ramp's time is over too; RESTORE_RAMP_END the same: no restore remains. ENTER_SERVICE_DELAY: PERMIT
equals its definition, with the enter windows counted up to this tick.
From spec/05_grid_behaviour.md, section Ride-through contours (R247, R251); spec/05_grid_behaviour.md, section Verdicts, the permit and the curtain
(R266). -/
def Obligations.ExpiriesAtATick : Prop :=
  (∀ (s : State) (t : Nat), let a := s.advance t; let l := a.levels; let f := a.bearEnable.levels.2.2
    a.tickDue = true → a.bit F.GRID_CTRL_RT_EN = true →
    (a.clearReached tid.contourV l.1 l.2.1 a.grid.cv = true ∨ a.clearReached tid.contourF l.2.2 l.2.2 a.grid.cf = true) →
    Completes (.clearExpiry t) s fun b =>
      (a.clearReached tid.contourV l.1 l.2.1 a.grid.cv = true → region.trip ≤ b.grid.cv.region) ∧
      (a.clearReached tid.contourF f f a.grid.cf = true → region.trip ≤ b.grid.cf.region)) ∧
  (∀ (s : State) (t t0 i : Nat), let a := s.advance t; let l := a.levels; let x := a.bandAt tid.contourV i
    a.tickDue = true → a.bit F.GRID_CTRL_RT_EN = true → a.tableOk tid.contourV = true →
    a.grid.cv.dist = some t0 → (i = a.bandOfLevel tid.contourV l.1 ∨ i = a.bandOfLevel tid.contourV l.2.1) →
    i ≠ a.normalBand tid.contourV → x.maxDur ≠ 0xFFFFFFFF → t0 + x.maxDur ≤ a.grid.ticks + 1 →
    Completes (.maxDurExpiry t) s fun b => x.after ≤ b.grid.cv.region) ∧
  (∀ (s : State) (t t0 i : Nat), let a := s.advance t; let x := a.bandAt tid.contourF i
    a.tickDue = true → a.bit F.GRID_CTRL_RT_EN = true → a.tableOk tid.contourF = true → a.bearEnable = a →
    a.grid.cf.dist = some t0 → i = a.bandOfLevel tid.contourF a.levels.2.2 →
    i ≠ a.normalBand tid.contourF → x.maxDur ≠ 0xFFFFFFFF → t0 + x.maxDur ≤ a.grid.ticks + 1 →
    Completes (.maxDurExpiry t) s fun b => x.after ≤ b.grid.cf.region) ∧
  (∀ (s : State) (t t0 : Nat), let a := s.advance t; let k := a.bearEnable.contoursAt (a.grid.ticks + 1)
    let r := max k.1.region k.2.region
    a.tickDue = true → a.actsCessation a.region = false → r < 8 → r ≠ region.trip → a.actsCessation r = false →
    a.grid.restore = .hold t0 → t0 + a.restoreDelay ≤ a.grid.ticks + 1 →
    Completes (.restoreDelayExpiry t) s fun b => b.grid.restore =
      if t0 + a.restoreDelay + a.restoreRamp ≤ a.grid.ticks + 1 then .none else .ramp (t0 + a.restoreDelay)) ∧
  (∀ (s : State) (t t0 : Nat), let a := s.advance t; let k := a.bearEnable.contoursAt (a.grid.ticks + 1)
    let r := max k.1.region k.2.region
    a.tickDue = true → a.actsCessation a.region = false → r < 8 → r ≠ region.trip → a.actsCessation r = false →
    a.grid.restore = .ramp t0 → t0 + a.restoreRamp ≤ a.grid.ticks + 1 →
    Completes (.restoreRampEnd t) s fun b => b.grid.restore = .none) ∧
  (∀ (s : State) (t t0 : Nat), let a := s.advance t
    a.tickDue = true → a.grid.enterSince = some t0 → t0 + a.tbl16 tid.contourV 8 * 10000 ≤ a.grid.ticks + 1 →
    Completes (.enterServiceDelay t) s fun b => b.grid.ticks = a.grid.ticks + 1 ∧ b.bit F.GRID_STATUS_PERMIT = b.permitNow ∧
      (b.grid.enterSince = some t0 ∨ b.grid.enterSince = none))

/-- The bearing locks and is lost as R229 and R231 say; POWER_SET stores set-points within P_NOM; suspicion ends after its second. Outside tableau.
BEARING_LOCK in SEEKING with the lock condition held for LOCK_TIME: BEAR is LOCKED, no reference waits for it any more, BEAR_STATE is raised first.
COAST_EXPIRY in COAST after COAST_MAX: BEAR_LOST and BEAR_STATE are raised and BEAR is LOST. BEAR_INPUT at 20 consecutive MISSING results of one
input, the estimator not OFF: its event is raised first and BEAR is LOST. No other part than the grid and the router changes. POWER_SET with TARGET 0,
LEN 0, both set-points within P_NOM and the bits above QSRC clear: they are stored, the command waits for the evaluation tick at which they enter
reference synthesis (where it completes: EvaluationTicks), and nothing else changes. At the first check that fails it completes with that check's
STATUS and DETAIL, and nothing else changes. SUSPECT_CLEAR a second after a passive check last held, outside tableau: SUSPECT is 0 and nothing else
changes. SIGNATURE_MISS at a second's end for a follower without a message in it: the miss counts (saturating), and nothing else changes.
From spec/05_grid_behaviour.md, section The bearing estimator (R229, R231); spec/05_grid_behaviour.md, section From set-points to current references
(R232); spec/05_grid_behaviour.md, section Islanding (R253, R259). -/
def Obligations.BearingAndSetPoints : Prop :=
  (∀ (s : State) (t : Nat), let a := s.advance t
    a.bearState = bear.seeking → a.due a.grid.bear.lockSince (a.get F.GRID_BEAR_CFG_LOCK_TIME * 1000000) = true → a.tableau = false →
    Completes (.bearingLock t) s fun b => b.bearState = bear.locked ∧ b.grid.waitLock = false ∧
      (∃ l, b.router.inflight = a.router.inflight ++ { stamp := a.datum, num := 112 } :: l) ∧
      Kept [Reg.GRID_STATUS] [.grid, .router] a b) ∧
  (∀ (s : State) (t : Nat), let a := s.advance t
    a.bearState = bear.coast → a.due a.grid.bear.coastSince (a.get F.GRID_BEAR_CFG_COAST_MAX * 100000000) = true →
    a.tableau = false →
    Completes (.coastExpiry t) s fun b => b.bearState = bear.lost ∧
      (∃ l, b.router.inflight = a.router.inflight ++ { stamp := a.datum, num := 113 } :: { stamp := a.datum, num := 112 } :: l) ∧
      Kept [Reg.GRID_STATUS, Reg.SCRUB_FAULT_SEEN] [.grid, .router] a b) ∧
  (∀ (s : State) (t : Nat) (x : Fin 3), let a := s.advance t
    Sparse.get (fun _ => 0) a.grid.bear.missing x = 20 → a.tableau = false → a.bearState ≠ bear.off →
    Completes (.bearInput t x) s fun b => b.bearState = bear.lost ∧
      (∃ l, b.router.inflight = a.router.inflight ++ { stamp := a.datum, num := 115 } :: l) ∧
      Kept [Reg.GRID_STATUS] [.grid, .router] a b) ∧
  (∀ (s : State) (t : Nat) (d : Desc), let a := s.advance t
    let p := signed 32 d.p0.toNat; let q := signed 16 (bitsOf d.p1.toNat 0 16); let n : Int := a.get F.GRID_NOM_P_NOM
    d.target = 0 → d.len = 0 → -n ≤ p → p ≤ n → -n ≤ q → q ≤ n → d.p1.toNat < 2 ^ 17 →
    Completes (.powerSet t d) s fun b =>
      b.grid = { a.grid with pSet := p, qSet := q, qSrc := d.p1.getLsbD 16, setWait := a.grid.setWait ++ [d] } ∧
      Kept [] [.grid] a b) ∧
  (∀ (s : State) (t : Nat) (d : Desc) (status detail : Nat), let a := s.advance t
    let p := signed 32 d.p0.toNat; let q := signed 16 (bitsOf d.p1.toNat 0 16); let n : Int := a.get F.GRID_NOM_P_NOM
    firstFail [(d.target ≠ 0, st.targetRange, 0), (d.len ≠ 0, st.lenRange, 0), (p < -n ∨ n < p, st.targetRange, 0x10),
      (q < -n ∨ n < q, st.targetRange, 0x11), (2 ^ 17 ≤ d.p1.toNat, st.targetRange, 0x12)] = some (status, detail) →
    Completes (.powerSet t d) s fun b => Ended d status detail a.datum a b ∧ Kept [] [.host] a b) ∧
  (∀ (s : State) (t : Nat), let a := s.advance t
    a.bit F.GRID_STATUS_SUSPECT = true → a.grid.suspectAt + second ≤ a.elapsed → a.tableau = false →
    Completes (.suspectClear t) s fun b => b.bit F.GRID_STATUS_SUSPECT = false ∧ Kept [Reg.GRID_STATUS] [] a b) ∧
  (∀ (s : State) (t : Nat), let a := s.advance t
    a.bit F.DATUM_MER_CTRL_ROLE = true → a.datum % second = 0 → (∀ x, a.grid.sigSeen = some x → x + second < a.datum) →
    Completes (.signatureMiss t) s fun b =>
      b.get F.GRID_SIG_MISS_COUNT = min (a.get F.GRID_SIG_MISS_COUNT + 1) 0xFFFFFFFF ∧ Kept [Reg.GRID_SIG_MISS] [] a b)

/-- A chip's end starts the next chip afresh; at a sequence start solo mode is judged and due parameters are used. CHIP_END on the chip grid outside
tableau: ISL_INDEX is the new chip's place in the sequence, ISL_CHIPS the length of the run, the demodulation sums start at nothing and the new chip
counts as whole where the signature is injected. Parameters whose APPLY_AT has come are in use. At a sequence start SOLO is 1 where the domain is not
valid or a follower has had no message, with ISL_SOLO raised when it becomes so; elsewhere it stays. Nothing changes but the registers of the active
check and its verdict, the grid, the router, the curtain's causes and the index of the next free value.
From spec/05_grid_behaviour.md, section Islanding (R254, R258, R260, R261). -/
def Obligations.ChipsAndSequences : Prop :=
  ∀ (s : State) (t : Nat), let a := s.advance t
    a.datum % chipLength = 0 → a.tableau = false →
    Completes (.chipEnd t) s fun b =>
      b.get F.GRID_ISL_INDEX = a.datum / chipLength % 255 ∧ b.get F.GRID_ISL_CHIPS = b.grid.run.length % 256 ∧
      b.grid.demod = [] ∧ b.grid.missPhase = [] ∧ b.grid.chipWhole = a.grid.injecting ∧
      (∀ p x, a.grid.next = some (p, x) → x ≤ a.datum → b.grid.own = p) ∧
      (∀ p x, a.grid.tabNext = some (p, x) → x ≤ a.datum → b.grid.tabSig = p) ∧
      (a.datum % sequenceLength = 0 →
        (b.bit F.GRID_STATUS_SOLO = true ↔
          a.bit F.DATUM_STATUS_DOMAIN_OK = false ∨ (a.bit F.DATUM_MER_CTRL_ROLE = true ∧ a.grid.sigRx = false)) ∧
        (a.bit F.GRID_STATUS_SOLO = false → b.bit F.GRID_STATUS_SOLO = true →
          ({ stamp := a.datum, num := 122, inst := 0 } : Event) ∈ b.router.inflight)) ∧
      (a.datum % sequenceLength ≠ 0 → b.bit F.GRID_STATUS_SOLO = a.bit F.GRID_STATUS_SOLO) ∧
      Kept [Reg.GRID_ISL, Reg.GRID_STATUS, Reg.GRID_VERDICT, Reg.GRID_ISL_COUNT, Reg.SCRUB_FAULT_SEEN]
        [.grid, .router, .curt, .free] a b

/-- A fast request is decided once with its act time or skipped; a band window ends with each band inside its limits. FAST_DECISION of a phase with a
request at or past its acceptance tick, outside tableau, with the engine deciding: the request waits no more and CUR_FAST counts; an act time not
later than the latest one only counts in CUR_SKIP, else exactly one request of that phase with act time max(now + E_F + lead, first act base after now
+ 200 ns) is handed to casting; an engine that does not decide only drops the request. BAND_UPDATE at the window's end, outside tableau, with B_MIN up
to B_MAX: the next window starts one window later, the granted counts start anew; each band of a phase with ACTIVE cells, ADAPT_EN 1, a window not bad
and no saturation becomes B times the ratio of its switching frequency to the target, the ratio kept within 7/8 and 9/8 and the band within [B_MIN,
B_MAX]; every other band stays.
From spec/06_current_engine.md, section The decision cycle (R275); spec/06_current_engine.md, section Band adaptation (R287, R288);
spec/06_current_engine.md, section The fast path (R289, R290, R291, R292). -/
def Obligations.FastDecisionsAndBands : Prop :=
  (∀ (s : State) (t : Nat) (x : Fin 3) (q : FastReq), let a := s.advance t
    let ta := max (a.datum + a.pipeline true + a.cueLead) (a.actBase (a.frameFrom (a.datum + 200)))
    (a.eng x).fast = some q → q.tf ≤ a.datum → a.tableau = false → a.deciding = true →
    Completes (.fastDecision t x) s fun b =>
      (b.eng x).fast = none ∧ b.get F.CUR_FAST_COUNT = min (a.get F.CUR_FAST_COUNT + 1) 0xFFFFFFFF ∧
      (if ∃ t0, (a.eng x).lastTa = some t0 ∧ ta ≤ t0 then
        b.get F.CUR_SKIP_COUNT = min (a.get F.CUR_SKIP_COUNT + 1) 0xFFFFFFFF ∧ b.cast = a.cast
      else (b.eng x).lastTa = some ta ∧ b.reg Reg.CUR_SKIP = a.reg Reg.CUR_SKIP ∧
        ∃ r, b.cast = { a.cast with requests := a.cast.requests ++ [r] } ∧ r.phase = x ∧ r.ta = ta ∧ r.stamp = a.datum ∧
          r.at_ = a.elapsed) ∧
      Kept [Reg.CUR_FAST, Reg.CUR_SKIP, Reg.CUR_STATUS, Reg.CUR_SAT_COUNT, Reg.CUR_ERR x] [.engine, .cast, .router] a b) ∧
  (∀ (s : State) (t : Nat) (x : Fin 3) (q : FastReq), let a := s.advance t
    (a.eng x).fast = some q → q.tf ≤ a.datum → a.tableau = false → a.deciding = false →
    Completes (.fastDecision t x) s fun b => (b.eng x).fast = none ∧ Kept [] [.engine] a b) ∧
  (∀ (s : State) (t : Nat), let a := s.advance t
    let win := a.bandWin * 1000000; let lo := a.get F.CUR_BAND_LIM_B_MIN; let hi := a.get F.CUR_BAND_LIM_B_MAX
    a.engine.winStart + win ≤ a.elapsed → a.tableau = false → lo ≤ hi →
    Completes (.bandUpdate t) s fun b =>
      b.engine.winStart = a.engine.winStart + win ∧
      (∀ x, x < 3 → (b.eng x).granted = 0 ∧
        let o := a.get (F.CUR_BAND_BAND x); let n := (a.activeCells x).length
        let f : Rat := ((a.eng x).granted : Rat) * 1000 / ((2 * n * a.bandWin : Nat) : Rat)
        let r := max (7 / 8) (min (9 / 8) (f / a.bandTarget))
        b.get (F.CUR_BAND_BAND x) =
          if a.engine.winBad = false ∧ a.engaged = true ∧ a.ceased = false ∧ a.bit F.CUR_CTRL_ADAPT_EN = true ∧ n ≠ 0 ∧
              (a.eng x).satWin = false ∧ a.ibit F.CUR_STATUS_SAT x = false then
            max lo (min hi ((o : Rat) * r + 1 / 2).floor.toNat)
          else o) ∧
      Kept ((List.range 3).map Reg.CUR_BAND ++ (List.range 3).map Reg.CUR_FSW) [.engine, .router] a b)

/-- A following error, a lost input and a ramp that fails end as R295, R293 and R298 say; a ramp that reaches zero is ZEROED. FOLLOW_ERR with the timer
expired and the engine deciding: FE of the phase is set, counted and raised; with FE_STOP the engine is STOPPED and the curtain has cause ENGINE,
without it nothing stops. CUR_INPUT with the fourth missing ICx or the eighth missing IGx result of a run, outside tableau: INPUT_TO of the phase is
set and, where the engine decides, it is STOPPED with cause ENGINE. ZERO_REACHED in RAMPING after 100 us within ZERO: ZEROED. RAMP_FAIL in RAMPING at
TIME + WAIT: STOPPED, and cause RAMP_FAIL waits for channel A. Where the engine stops, its cells are blocked by casting, and nothing else changes.
From spec/06_current_engine.md, section Missing and clipped results (R293); spec/06_current_engine.md, section Following-error supervision (R295);
spec/06_current_engine.md, section Ramp to zero (R298); spec/06_current_engine.md, section Engine states (R300). -/
def Obligations.EngineSupervision : Prop :=
  (∀ (s : State) (t : Nat) (x : Fin 3), let a := s.advance t
    (a.eng x).feExpired = true → a.deciding = true →
    Completes (.followErr t x) s fun b =>
      b.ibit F.CUR_STATUS_FE x = true ∧ b.get F.CUR_FE_COUNT_COUNT = min (a.get F.CUR_FE_COUNT_COUNT + 1) 0xFFFFFFFF ∧
      (∃ l, b.router.inflight = a.router.inflight ++ { stamp := a.datum, num := 128 } :: l) ∧
      (a.bit F.CUR_CTRL_FE_STOP = true → b.engState = eng.stopped ∧
        b.curt = { a.curt with causes := a.curt.causes ++ [(13, a.datum)] } ∧
        Kept ([Reg.CUR_STATUS, Reg.CUR_FE_COUNT, Reg.SCRUB_FAULT_SEEN] ++ cellIds.map Reg.CAST_CELL)
          [.engine, .router, .cast, .wing, .curt] a b) ∧
      (a.bit F.CUR_CTRL_FE_STOP = false →
        Kept [Reg.CUR_STATUS, Reg.CUR_FE_COUNT, Reg.SCRUB_FAULT_SEEN] [.engine, .router] a b ∧ b.engState = a.engState)) ∧
  (∀ (s : State) (t : Nat) (x : Fin 3), let a := s.advance t
    ((a.eng x).missIc = 4 ∨ (a.eng x).missIg = 8) → a.tableau = false →
    Completes (.curInput t x) s fun b =>
      b.ibit F.CUR_STATUS_INPUT_TO x = true ∧
      (∃ l, b.router.inflight = a.router.inflight ++ { stamp := a.datum, num := 131 } :: l) ∧
      (a.deciding = true → b.engState = eng.stopped ∧
        b.curt = { a.curt with causes := a.curt.causes ++ [(13, a.datum)] } ∧
        Kept ([Reg.CUR_STATUS, Reg.SCRUB_FAULT_SEEN] ++ cellIds.map Reg.CAST_CELL)
          [.engine, .router, .cast, .wing, .curt] a b) ∧
      (a.deciding = false → Kept [Reg.CUR_STATUS, Reg.SCRUB_FAULT_SEEN] [.engine, .router] a b ∧ b.engState = a.engState)) ∧
  (∀ (s : State) (t : Nat), let a := s.advance t
    a.engState = eng.ramping → a.due a.engine.zeroSince 100000 = true →
    Completes (.zeroReached t) s fun b => b.engState = eng.zeroed ∧ Raised [(a.datum, 129, 0), (a.datum, 135, 0)] a b ∧
      Kept [Reg.CUR_STATUS] [.router] a b) ∧
  (∀ (s : State) (t x t0 : Nat), let a := s.advance t
    a.engState = eng.ramping → a.engine.rampAt = some (x, t0) →
    t0 + (a.get F.CUR_RAMPZ_TIME * 10000 + a.get F.CUR_RAMPZ_WAIT * 100000) ≤ a.elapsed →
    Completes (.rampFail t) s fun b => b.engState = eng.stopped ∧
      (∃ l, b.router.inflight = a.router.inflight ++ { stamp := a.datum, num := 130 } :: l) ∧
      b.curt = { a.curt with causes := a.curt.causes ++ [(14, a.datum)] } ∧
      Kept ([Reg.CUR_STATUS, Reg.SCRUB_FAULT_SEEN] ++ cellIds.map Reg.CAST_CELL) [.engine, .router, .cast, .wing, .curt] a b)

/-- A served request is in hand no more, and every level change it asks for is granted or counted as missing. CASTING_REQUEST outside tableau with a
request in hand: the request with the earliest act time (the phase whose turn it is first among equals) is in hand no more, and no other. With a valid
CAST_WEIGHTS it is served: the phase keeps its predicted current; of the |k| level changes asked for, the granted ones join the phase's window count
and CUR_STEPS and the others CUR_DEFICIT (both saturating); no change at all is granted beyond |k|; every change committed for a cell has the
request's act time or that of the zero-sequence step due, and no order is given. Without a valid table it is answered with no level (R720): all |k|
count as missing and no cell is commanded. With no request in hand, or in tableau, nothing changes.
From spec/06_current_engine.md, section The decision law (R286); spec/07_casting.md, section Run-time cell state (R313); spec/07_casting.md, section
Selection (R322, R323); spec/07_casting.md, section Failures, bypass and reserves (R337); spec/07_casting.md, section The CAST_WEIGHTS table (R720). -/
def Obligations.CastingRequestsServed : Prop :=
  (∀ (s : State) (t : Nat) (r : Request), let a := s.advance t
    a.tableau = false → a.nextRequest = some r → r.phase < 3 → a.weightsOk = true →
    Completes (.castingRequest t) s fun b =>
      b.cast.requests = a.cast.requests.erase r ∧ b.cast.served = a.cast.served + 1 ∧ (b.castPhase r.phase).iHat = r.iHat ∧
      (∀ c, (b.tx c).orders = (a.tx c).orders ∧ ((b.tx c).hist = (a.tx c).hist ∨
        ∃ h, (b.tx c).hist.getLast? = some h ∧ h.placed = none ∧ (h.time = r.ta ∨ a.cast.zsDue = some h.time))) ∧
      ∃ g, g ≤ r.k.natAbs ∧ (b.eng r.phase).granted = (a.eng r.phase).granted + g ∧
        b.get F.CUR_STEPS_COUNT = min (a.get F.CUR_STEPS_COUNT + g) 0xFFFFFFFF ∧
        b.get F.CUR_DEFICIT_COUNT = min (a.get F.CUR_DEFICIT_COUNT + (r.k.natAbs - g)) 0xFFFFFFFF) ∧
  (∀ (s : State) (t : Nat) (r : Request), let a := s.advance t
    a.tableau = false → a.nextRequest = some r → r.phase < 3 → a.weightsOk = false → a.cast.zsDue = none →
    Completes (.castingRequest t) s fun b =>
      b.cast.requests = a.cast.requests.erase r ∧ (b.eng r.phase).granted = (a.eng r.phase).granted ∧
      b.get F.CUR_DEFICIT_COUNT = min (a.get F.CUR_DEFICIT_COUNT + r.k.natAbs) 0xFFFFFFFF ∧
      Kept [Reg.CUR_DEFICIT, Reg.CUR_LEVEL r.phase, Reg.HOST_TRACE_DROP] [.cast, .engine, .host] a b) ∧
  (∀ (s : State) (t : Nat), let a := s.advance t
    a.tableau = true ∨ a.cast.requests = [] → Completes (.castingRequest t) s fun b => Kept [] [] a b)

/-- Heat and undervoltage start an orderly removal; its time limit, a failed precharge and a bypass that fails put a cell OUT. Outside tableau. HOT_TIME
of a hot ACTIVE cell and UV_TIME of an ACTIVE one, their times run out: the cell is LEAVING, its removal for cause 6 or 5 dated now, its event raised,
nothing else changed; one that contributes 0 now, with no change ahead, is OUT at once with that cause. LEAVING_TIMEOUT after 20 ms: the cell is OUT
with the cause that began its removal. PRE_TIME in PRECHARGE: OUT with cause 7, the precharge event raised last. BYPASS_CHECK_TIMEOUT of casting's own
order: the check ends, and a cell not ABSENT is OUT, by cause 8 unless it was OUT before; a close that does not confirm sets BYPASS_STUCK and gives
the curtain cause ENGINE; of an order of the loop's, only the check ends. A cell that goes OUT and its takeover change casting, the loops, events and
the registers of the cells, and nothing else.
From spec/07_casting.md, section Run-time cell state (R312); spec/07_casting.md, section Heat and coolant (R327); spec/07_casting.md, section
Failures, bypass and reserves (R330, R331, R332, R333, R335). -/
def Obligations.CellsLeaveService : Prop :=
  (∀ (s : State) (t : Nat) (c : Fin 128), let a := s.advance t; let h := (a.tx c).hist
    a.tableau = false → a.cState c = cs.active → a.bit (F.CAST_CELL_HOT c) = true → a.due (a.castCell c).hotSince a.hotTime = true →
    Completes (.hotTime t c) s fun b =>
      if contribOf (lastLegs h) = some 0 ∧ contribOf (legsAt a.datum h) = some 0 then
        b.cState c = cs.out ∧ b.get (F.CAST_CELL_CAUSE c) = 6 ∧
        (∃ l, b.router.inflight = a.router.inflight ++ { stamp := a.datum, num := 137, inst := c } ::
          { stamp := a.datum, num := 136, inst := c } :: l) ∧
        Kept ([Reg.CAST_OUT, Reg.CAST_STATUS, Reg.SCRUB_FAULT_SEEN] ++ cellIds.map Reg.CAST_CELL) [.cast, .wing, .router] a b
      else b.cState c = cs.leaving ∧ (b.castCell c).leaveCause = 6 ∧ (b.castCell c).leaveSince = some a.elapsed ∧
        Raised [(a.datum, 137, c)] a b ∧ Kept [Reg.CAST_CELL c] [.cast, .router] a b) ∧
  (∀ (s : State) (t : Nat) (c : Fin 128), let a := s.advance t; let h := (a.tx c).hist
    a.tableau = false → a.cState c = cs.active → a.due (a.castCell c).uvSince a.uvTime = true →
    Completes (.uvTime t c) s fun b =>
      if contribOf (lastLegs h) = some 0 ∧ contribOf (legsAt a.datum h) = some 0 then
        b.cState c = cs.out ∧ b.get (F.CAST_CELL_CAUSE c) = 5 ∧
        (∃ l, b.router.inflight = a.router.inflight ++ { stamp := a.datum, num := 137, inst := c } ::
          { stamp := a.datum, num := 136, inst := c } :: l) ∧
        Kept ([Reg.CAST_OUT, Reg.CAST_STATUS, Reg.SCRUB_FAULT_SEEN] ++ cellIds.map Reg.CAST_CELL) [.cast, .wing, .router] a b
      else b.cState c = cs.leaving ∧ (b.castCell c).leaveCause = 5 ∧ (b.castCell c).leaveSince = some a.elapsed ∧
        Raised [(a.datum, 137, c)] a b ∧ Kept [Reg.CAST_CELL c] [.cast, .router] a b) ∧
  (∀ (s : State) (t : Nat) (c : Fin 128), let a := s.advance t
    a.tableau = false → a.cState c = cs.leaving → a.due (a.castCell c).leaveSince 20000000 = true →
    Completes (.leavingTimeout t c) s fun b => b.cState c = cs.out ∧ b.get (F.CAST_CELL_CAUSE c) = (a.castCell c).leaveCause % 16 ∧
      (b.castCell c).leaveSince = none ∧ b.get F.CAST_OUT_COUNT = min (a.get F.CAST_OUT_COUNT + 1) 0xFFFFFFFF ∧
      (∃ l, b.router.inflight = a.router.inflight ++ { stamp := a.datum, num := 136, inst := c } :: l) ∧
      Kept ([Reg.CAST_OUT, Reg.CAST_STATUS, Reg.SCRUB_FAULT_SEEN] ++ cellIds.map Reg.CAST_CELL) [.cast, .wing, .router] a b) ∧
  (∀ (s : State) (t : Nat) (c : Fin 128), let a := s.advance t
    a.tableau = false → a.cState c = cs.precharge → a.due (a.castCell c).preStart (a.preTime - (a.castCell c).preSpent) = true →
    Completes (.preTime t c) s fun b => b.cState c = cs.out ∧ b.get (F.CAST_CELL_CAUSE c) = 7 ∧
      (∃ l, b.router.inflight = a.router.inflight ++ l ++ [{ stamp := a.datum, num := 139, inst := c }]) ∧
      Kept ([Reg.CAST_OUT, Reg.CAST_STATUS, Reg.SCRUB_FAULT_SEEN] ++ cellIds.map Reg.CAST_CELL) [.cast, .wing, .router] a b) ∧
  (∀ (s : State) (t : Nat) (c : Fin 128) (k : BypassCheck), let a := s.advance t
    a.tableau = false → (a.castCell c).check = some k → a.due k.start a.bypTime = true →
    Completes (.bypassCheckTimeout t c) s fun b =>
      (k.own = true → b.cState c = (if a.cState c = cs.absent then cs.absent else cs.out) ∧
        b.get (F.CAST_CELL_CAUSE c) = (if a.cState c = cs.absent ∨ a.cState c = cs.out then a.get (F.CAST_CELL_CAUSE c) else 8) ∧
        (k.close = true → b.bit F.CAST_STATUS_BYPASS_STUCK = true ∧
          b.curt = { a.curt with causes := a.curt.causes ++ [(13, a.datum)] }) ∧
        Kept ([Reg.CAST_OUT, Reg.CAST_STATUS, Reg.SCRUB_FAULT_SEEN] ++ cellIds.map Reg.CAST_CELL) [.cast, .wing, .router, .curt] a b) ∧
      (k.own = false → (b.castCell c).check = none ∧ Kept [] [.cast] a b))

/-- CAST_READMIT takes an OUT cell back where R338 lets it; a lost coolant sensor derates to level 2 at least. CAST_READMIT outside tableau. With GO, of
an OUT cell with the curtain LOWERED or LOCKED, its loop trained and no link fault: the cell is IDLE, a reserve STANDBY, with cause 0; where it has a
valid partner that is an ACTIVE or READY reserve, that reserve is STANDBY, blocked and given BYPASS_CLOSE; without one nothing else changes. Where one
of these conditions fails, or without GO: CFG_REJECT is set and nothing else changes. COOL_TO after 64 bad TCOOL results in a row, outside tableau:
COOL_TO is set and the derating level is 2 or 3; the cells, casting's own state, the loops, the engine and the tables stay.
From spec/07_casting.md, section Heat and coolant (R328, R329); spec/07_casting.md, section Failures, bypass and reserves (R338). -/
def Obligations.ReadmissionAndCoolant : Prop :=
  (∀ (s : State) (t : Nat) (data : Word), let a := s.advance t; let c := bitsOf data.toNat 0 7; let r := a.get (F.CAST_CELL_PARTNER c)
    let back := a.bit (F.CAST_CELL_PARTNER_VALID c) = true ∧ a.cellKind r = kind.reserve ∧ (a.cState r = cs.active ∨ a.cState r = cs.ready)
    a.tableau = false → data.getLsbD 31 = true → a.curtainDown = true → a.cState c = cs.out →
    a.loopTrained (a.cellLoop c) = true → a.linkFault c = false →
    Completes (.castReadmit t data) s fun b =>
      b.cState c = (if a.cellKind c = kind.reserve then cs.standby else cs.idle) ∧ b.get (F.CAST_CELL_CAUSE c) = 0 ∧
      b.get (F.CAST_CELL_AGE c) = a.get (F.CAST_CELL_AGE c) ∧
      (back → b.cState r = cs.standby ∧ lastLegs (b.tx r).hist = legs.blocked ∧
        ({ owner := .bypass true, codes := [1] } : Order) ∈ (b.tx r).orders ∧ Kept [Reg.CAST_CELL c, Reg.CAST_CELL r] [.cast, .wing] a b) ∧
      (¬back → Kept [Reg.CAST_CELL c] [] a b)) ∧
  (∀ (s : State) (t : Nat) (data : Word), let a := s.advance t; let c := bitsOf data.toNat 0 7
    a.tableau = false → (data.getLsbD 31 = false ∨
      a.curtainDown = false ∨ a.cState c ≠ cs.out ∨ a.loopTrained (a.cellLoop c) = false ∨ a.linkFault c = true) →
    Completes (.castReadmit t data) s fun b => b.bit F.CAST_STATUS_CFG_REJECT = true ∧ Kept [Reg.CAST_STATUS] [] a b) ∧
  (∀ (s : State) (t : Nat), let a := s.advance t
    64 ≤ a.cast.coolBad → a.tableau = false →
    Completes (.coolTo t) s fun b => b.bit F.CAST_STATUS_COOL_TO = true ∧ 2 ≤ b.derate ∧
      b.cast = a.cast ∧ b.wing = a.wing ∧ b.engine = a.engine ∧ b.tables = a.tables ∧
      (∀ c, c < 128 → b.reg (Reg.CAST_CELL c) = a.reg (Reg.CAST_CELL c)))

/-- A tracker steps once per PERIOD inside its voltage limits; scans and probes fall due at their intervals. TRACKER_STEP of a cell in TRACK or FOLLOW,
its PERIOD over, outside tableau: the next step is due one PERIOD later and the readings start anew; without readings the voltage stays; in TRACK the
step is halved (flat or less power) or doubled within its limits, the direction turns where the power has fallen, and the voltage moves by it within
[V_MIN, V_MAX]; in FOLLOW it moves towards the plan between the voltage of the maximum and V_MAX, or stays in the dead band; only per-cell power
changes. In SCAN a point is taken, or after the last one the best point's voltage, TRACK, a count and SCAN_DONE; in PROBE a step of eight is taken, or
after the last one TRACK or FOLLOW, a count and PROBE_DONE. SCAN_DUE at the scan interval where no scan is due: a scan is due from now. PROBE_DUE in
FOLLOW at the probe interval with nothing due: a probe is due from now.
From spec/08_cell_power.md, section Trackers (R362, R363, R364, R365). -/
def Obligations.TrackersStepAndExcursionsFallDue : Prop :=
  (∀ (s : State) (t : Nat) (c : Fin 128), let a := s.advance t; let x := a.pwrCell c; let period := a.mp8 c 1 * 1000000
    (a.trk c = trk.track ∨ a.trk c = trk.follow) → a.tableau = false → x.lastStep + period ≤ a.elapsed →
    Completes (.trackerStep t c) s fun b =>
      (b.pwrCell c).lastStep = x.lastStep + period ∧ (b.pwrCell c).readings = [] ∧
      (x.readings = [] → (b.pwrCell c).v = x.v) ∧
      (x.readings ≠ [] → a.trk c = trk.track →
        let p := meanOf x.readings; let flat := p - x.pLast ≤ a.pDead c ∧ -a.pDead c ≤ p - x.pLast; let less := p < x.pLast
        let step := if flat ∨ less then max (a.mp8 c 2) (x.step / 2) else min (a.mp8 c 3) (2 * x.step)
        let dir := if ¬flat ∧ less then -x.dir else x.dir
        (b.pwrCell c).pLast = p ∧ (b.pwrCell c).step = step ∧
        (b.pwrCell c).v = (max (a.cellVMin c : Int) (min (a.cellVMax c) (x.v + dir * (10 * step : Nat)))).toNat) ∧
      (x.readings ≠ [] → a.trk c = trk.follow →
        let p := meanOf x.readings
        let d : Int := if x.plan + a.pDead c < p then 1 else if p < x.plan - a.pDead c then -1 else 0
        let step := if d ≠ 0 ∧ d = x.dir then min (a.mp8 c 3) (2 * x.step) else max (a.mp8 c 2) (x.step / 2)
        (b.pwrCell c).step = step ∧ (b.pwrCell c).v =
          if d = 0 then x.v else (max (x.vMpp : Int) (min (a.cellVMax c) (x.v + d * (10 * step : Nat)))).toNat) ∧
      (∀ e, e ≠ c.val → b.pwrCell e = a.pwrCell e) ∧ Kept [] [.pwr] a b) ∧
  (∀ (s : State) (t : Nat) (c : Fin 128), let a := s.advance t; let x := a.pwrCell c
    a.trk c = trk.scan → a.tableau = false → x.lastStep + a.mp8 c 1 * 1000000 ≤ a.elapsed → x.readings ≠ [] →
    Completes (.trackerStep t c) s fun b =>
      let pts := x.scan ++ [(meanOf x.readings, x.v)]
      if pts.length < a.mp8 c 0xA then
        (b.pwrCell c).scan = pts ∧ (b.pwrCell c).v = a.scanPoint c pts.length ∧ Kept [] [.pwr] a b
      else b.trk c = trk.track ∧ (b.pwrCell c).v = (bestOf pts).2 ∧ (b.pwrCell c).due = none ∧
        (b.pwrCell c).scanBase = some a.elapsed ∧ b.get F.CELLPWR_SCANS_COUNT = min (a.get F.CELLPWR_SCANS_COUNT + 1) 0xFFFFFFFF ∧
        Raised [(a.datum, 150, c)] a b ∧ Kept [Reg.CELLPWR_CELL c, Reg.CELLPWR_SCANS] [.pwr, .router] a b) ∧
  (∀ (s : State) (t : Nat) (c : Fin 128), let a := s.advance t; let x := a.pwrCell c
    a.trk c = trk.probe → a.tableau = false → x.lastStep + a.mp8 c 1 * 1000000 ≤ a.elapsed → x.readings ≠ [] →
    Completes (.trackerStep t c) s fun b =>
      if x.probe + 1 < 8 then (b.pwrCell c).probe = x.probe + 1 ∧ Kept [] [.pwr] a b
      else (b.trk c = trk.track ∨ b.trk c = trk.follow) ∧ (b.pwrCell c).probe = 0 ∧
        b.get F.CELLPWR_PROBES_COUNT = min (a.get F.CELLPWR_PROBES_COUNT + 1) 0xFFFFFFFF ∧
        Raised [(a.datum, 152, c)] a b ∧ Kept [Reg.CELLPWR_CELL c, Reg.CELLPWR_PROBES] [.pwr, .router] a b) ∧
  (∀ (s : State) (t : Nat) (c : Fin 128), let a := s.advance t; let x := a.pwrCell c
    a.trk c ≠ trk.off → (a.mp8 c 0).testBit 1 = true → a.bit F.CELLPWR_CTRL_SCAN_EN = true → a.tableau = false →
    a.due x.scanBase (a.mp16 c 8 * second) = true → (∀ d, x.due = some d → d.1 = false) →
    Completes (.scanDue t c) s fun b => b.pwrCell c = { x with due := some (true, a.elapsed) } ∧ Kept [] [.pwr] a b) ∧
  (∀ (s : State) (t : Nat) (c : Fin 128), let a := s.advance t; let x := a.pwrCell c
    a.trk c = trk.follow → a.tableau = false → x.due = none → a.due x.probeBase (a.get F.CELLPWR_SCAN_PROBE_INT * second) = true →
    Completes (.probeDue t c) s fun b => b.pwrCell c = { x with due := some (false, a.elapsed) } ∧ Kept [] [.pwr] a b)

/-- A dump switch goes off at its limit and at the end of the armed period; a stuck one is told off again and is cleared by command. Outside tableau.
DUMP_LIMIT of a switch that has been ON for MAX in one armed period: it is OFF and LOCKED, DUMP_OFF is on its way, its event is raised.
DUMP_HOLD_EXPIRY: DUMP_ARMED is as R369 defines it, and where it ends every switch that is ON is OFF; nothing changes but the switches, their orders
and DUMP_ARMED. DUMP_OFF_RESEND of a stuck switch 1 ms after the last order: DUMP_OFF is on its way again. CELLPWR_DUMP_CLR with GO: with the curtain
LOWERED or LOCKED a dead or stuck switch is OFF again, and nothing else changes; with the curtain up only CFG_REJECT is set; without GO, or of another
switch, nothing changes.
From spec/08_cell_power.md, section Dump switches in ride-through (R369, R370, R371); spec/08_cell_power.md, section Registers (R376). -/
def Obligations.DumpSwitches : Prop :=
  (∀ (s : State) (t t0 : Nat) (c : Fin 128), let a := s.advance t
    (a.pwrCell c).onSince = some t0 → a.dumpState c = dump.on → a.tableau = false →
    a.get F.CELLPWR_DUMP_TIME_MAX * 1000000 ≤ (a.pwrCell c).onTotal + (a.elapsed - t0) →
    Completes (.dumpLimit t c) s fun b =>
      b.dumpState c = dump.off ∧ b.bit (F.CELLPWR_CELL_LOCKED c) = true ∧ (b.pwrCell c).onSince = none ∧
      ({ owner := .dump false, codes := [order.dumpOff] } : Order) ∈ (b.tx c).orders ∧ Raised [(a.datum, 155, c)] a b ∧
      Kept [Reg.CELLPWR_CELL c] [.wing, .pwr, .router] a b) ∧
  (∀ (s : State) (t : Nat), let a := s.advance t
    a.tableau = false →
    Completes (.dumpHoldExpiry t) s fun b => b.bit F.CELLPWR_STATUS_DUMP_ARMED = a.dumpArmed ∧
      (a.bit F.CELLPWR_STATUS_DUMP_ARMED = true → a.dumpArmed = false →
        ∀ c, c < 128 → a.dumpState c = dump.on → b.dumpState c = dump.off) ∧
      (a.bit F.CELLPWR_STATUS_DUMP_ARMED = a.dumpArmed → Kept [] [] a b) ∧
      Kept (Reg.CELLPWR_STATUS :: cellIds.map Reg.CELLPWR_CELL) [.wing, .pwr] a b) ∧
  (∀ (s : State) (t : Nat) (c : Fin 128), let a := s.advance t
    a.dumpState c = dump.stuck → (a.pwrCell c).lastResend + 1000000 ≤ a.elapsed → a.tableau = false →
    Completes (.dumpOffResend t c) s fun b => (b.pwrCell c).lastResend = a.elapsed ∧
      ({ owner := .dump false, codes := [order.dumpOff] } : Order) ∈ (b.tx c).orders ∧ Kept [] [.wing, .pwr] a b) ∧
  (∀ (s : State) (t : Nat) (data : Word), let a := s.advance t; let c := bitsOf data.toNat 0 7
    a.tableau = false → data.getLsbD 31 = true → a.curtainDown = true → (a.dumpState c = dump.dead ∨ a.dumpState c = dump.stuck) →
    Completes (.cellpwrDumpClr t data) s fun b => b.dumpState c = dump.off ∧ Kept [Reg.CELLPWR_CELL c] [.pwr] a b) ∧
  (∀ (s : State) (t : Nat) (data : Word), let a := s.advance t; let c := bitsOf data.toNat 0 7
    a.tableau = false → (data.getLsbD 31 = false ∨ a.curtainDown = true ∧ ¬(a.dumpState c = dump.dead ∨ a.dumpState c = dump.stuck)) →
    Completes (.cellpwrDumpClr t data) s fun b => Kept [] [] a b) ∧
  (∀ (s : State) (t : Nat) (data : Word), let a := s.advance t
    a.tableau = false → data.getLsbD 31 = true → a.curtainDown = false →
    Completes (.cellpwrDumpClr t data) s fun b => b.bit F.CELLPWR_STATUS_CFG_REJECT = true ∧ Kept [Reg.CELLPWR_STATUS] [] a b)

/-- INTERVAL_CLOSE files one record of the closed interval, sealed over it and the seal before it. INTERVAL_CLOSE with no step of datum time waiting to be
metered, the open interval's end passed, every sample stamped before it caught up, outside tableau and with main power present: the record kept as
LAST has the next SEQ, 56 bytes that begin with START, SEQ and the length in whole seconds, and the seal of those bytes and the seal before it; the
chain goes on from that seal, the next SEQ is one more, the last end is the interval's end, and INTERVAL_CLOSED is raised last; nothing changes but
the METER registers, metering, the retained records, the pulse outputs and events. DEMAND_SUB_PERIOD: the first sub-period is judged and gone from the
open interval, whose highest demand does not fall, and, with nothing at hand and the sub-period whole, becomes the larger of itself and the mean power
since the last one.
From spec/09_metering_and_atlas.md, section Intervals (R400, R401); spec/09_metering_and_atlas.md, section The record (R404);
spec/09_metering_and_atlas.md, section The seal and the chain (R407, R408). -/
def Obligations.IntervalsCloseIntoSealedRecords : Prop :=
  (∀ (s : State) (t : Nat) (h : MInterval) (rest : List MInterval), let a := s.advance t
    a.meter.stepAt = none → a.meter.core.ivals = h :: rest → h.stop ≤ a.datum → a.caughtUp h.stop = true → a.tableau = false → a.ghost.absent = false →
    Completes (.intervalClose t) s fun b =>
      (∃ body, b.ghost.last = some { seq := a.meter.core.nextSeq, body := body, mac := some b.meter.core.prevSeal } ∧
        body.length = 56 ∧ body.take 14 = leBytes 8 h.start ++ leBytes 4 a.meter.core.nextSeq ++ leBytes 2 (upSeconds (h.stop - h.start)) ∧
        b.meter.core.prevSeal = a.sealOf body a.meter.core.prevSeal) ∧
      b.meter.core.nextSeq = (a.meter.core.nextSeq + 1) % 2 ^ 32 ∧ b.meter.core.lastEnd = h.stop ∧
      (∃ l, b.router.inflight = a.router.inflight ++ l ++ [{ stamp := a.datum, num := 160 }]) ∧
      Kept (Reg.SCRUB_FAULT_SEEN :: blockRegs 0x4000 0x400) [.meter, .router, .ghost, .free] a b) ∧
  (∀ (s : State) (t : Nat) (h : MInterval) (rest : List MInterval) (u : SubPeriod) (us : List SubPeriod), let a := s.advance t
    a.meter.core.ivals = h :: rest → h.subs = u :: us → u.stop ≤ a.meterNow → a.caughtUp u.stop = true → a.tableau = false →
    a.ghost.absent = false →
    Completes (.demandSubPeriod t) s fun b => ∃ h' rest', b.meter.core.ivals = h' :: rest' ∧
      h'.start = h.start ∧ h'.stop = h.stop ∧ us.map SubPeriod.start <+: h'.subs.map SubPeriod.start ∧ h.maxDemand ≤ h'.maxDemand ∧
      ((∀ x, x < 3 → (a.mPhase x).pend = none) → a.meter.inst = none → u.whole = true → u.fin = none →
        h'.maxDemand = max h.maxDemand
          ((a.meter.core.raw 24 / mjUnit - a.meter.core.subBase / mjUnit) / (1000 * h.demandSub))) ∧
      Kept (Reg.SCRUB_FAULT_SEEN :: blockRegs 0x4000 0x400) [.meter, .router, .free] a b)

/-- SNAPSHOT waits for its sample and its capture writes every accumulator and completes with the sample's stamp. SNAPSHOT that passes its checks waits,
and nothing else changes; at the first check that fails it completes with that check's STATUS and DETAIL (a LEN that is not 144, or 400 for the full
form: LEN_RANGE with the right length), and nothing else changes. SNAPSHOT_CAPTURE of the first one that has its sample, outside tableau: METER_SNAPn
is accumulator n divided by the quantum (its low 32 bits), METER_SNAP_TIME the sample's stamp, all overrun bits are 1 after a change of the quantum,
the command waits no more; while dispatched and with the bus open its 144 bytes (and in the full form 8 more for each of the 32 accumulators),
beginning with the stamp, are written to its HOST_ADDR and it is dispatched no more. Nothing else changes but events.
From spec/09_metering_and_atlas.md, section Snapshots (R391, R392, R393, R394). -/
def Obligations.SnapshotsAreTakenAndWritten : Prop :=
  (∀ (s : State) (t : Nat) (d : Desc), let a := s.advance t
    d.target = 0 → d.p0.toNat ≤ 1 → d.p1 = 0 → d.len.toNat = (if d.p0.getLsbD 0 then 400 else 144) →
    Completes (.snapshot t d) s fun b =>
      b.meter = { a.meter with snaps := a.meter.snaps ++ [({ desc := d, since := a.elapsed } : SnapWait)] } ∧ Kept [] [.meter] a b) ∧
  (∀ (s : State) (t : Nat) (d : Desc) (status detail : Nat), let a := s.advance t; let need := if d.p0.getLsbD 0 then 400 else 144
    firstFail [(d.target ≠ 0, st.targetRange, 0), (1 < d.p0.toNat ∨ d.p1 ≠ 0, st.targetRange, 0x10),
      (d.len.toNat ≠ need, st.lenRange, need)] = some (status, detail) →
    Completes (.snapshot t d) s fun b => Ended d status detail a.datum a b ∧ Kept [] [.host] a b) ∧
  (∀ (s : State) (t stamp : Nat) (w : SnapWait) (acc : List Nat), let a := s.advance t; let q := a.get F.METER_QUANTUM_QUANTUM
    (a.meter.snaps.find? fun w => w.latch.isSome) = some w → w.latch = some (stamp, acc) → a.tableau = false →
    Completes (.snapshotCapture t) s fun b =>
      b.meter.snaps = a.meter.snaps.erase w ∧ b.meter.quantumNew = false ∧ b.pair Reg.METER_SNAP_TIME_LO = stamp % 2 ^ 64 ∧
      (∀ n, n < 32 → b.get (F.METER_SNAP_VALUE n) = acc.getD n 0 / (q * 1000) % 2 ^ 32) ∧
      (a.meter.quantumNew = true → b.get F.METER_OVERRUN_OVERRUN = 0xFFFFFFFF) ∧
      (w.desc ∈ a.host.dispatched → a.busOpen = true → b.host.dispatched = a.host.dispatched.erase w.desc ∧
        ∃ bytes, b.host.writes = a.host.writes ++ [{ addr := w.desc.hostAddr.toNat, bytes := bytes }] ∧
          bytes.take 8 = leBytes 8 stamp ∧ bytes.length = 144 + if w.desc.p0.getLsbD 0 then 8 * acc.length else 0) ∧
      Kept ([Reg.METER_OVERRUN, Reg.METER_SNAP_TIME_LO, Reg.METER_SNAP_TIME_HI] ++ (List.range 32).map Reg.METER_SNAP)
        [.meter, .router, .host] a b)

/-- A pulse takes one from the backlog and lasts its width at the pin; the retained state is refreshed in the older copy. Outside tableau. PULSE_START of
a running output with a backlog, its pin idle for a pulse width: the backlog is one less, the pulse lasts one width from now, the pin is at its active
level. PULSE_END at the pulse's end: no pulse, the pin idle from now at its idle level. RETENTION_REFRESH a second after the last one, metering live
and no power-fail warning: the metering state (after a step of datum time that still waits to be metered) is in the copy written longer ago, with the
newer generation, the other copy stays, and the next one is due a second later.
From spec/09_metering_and_atlas.md, section Pulse outputs (R395, R396); spec/09_metering_and_atlas.md, section Outages and gaps (R410);
spec/16_ghost_light.md, section Retention memory (R657). -/
def Obligations.PulsesAndRetention : Prop :=
  (∀ (s : State) (t : Nat) (n : Fin 4), let a := s.advance t; let k := Sparse.get (fun _ => 0) a.meter.core.backlog n
    a.pulseRuns n = true → k ≠ 0 → (a.pulseOut n).until_ = none → (a.pulseOut n).idle + a.pulseWidth n ≤ a.elapsed → a.tableau = false →
    Completes (.pulseStart t n) s fun b =>
      Sparse.get (fun _ => 0) b.meter.core.backlog n = k - 1 ∧ b.get (F.METER_PULSE_BACKLOG n) = (k - 1) % 65536 ∧
      (b.pulseOut n).until_ = some (a.elapsed + a.pulseWidth n) ∧
      Sparse.get (fun _ => .highZ) b.router.evioPin n = (if (a.tbl8 tid.pulseMap (16 * n + 1)).testBit 1 then EvioLevel.low else .high) ∧
      b.router = { a.router with evioPin := b.router.evioPin } ∧
      Kept [Reg.METER_PULSE n] [.meter, .router] a b) ∧
  (∀ (s : State) (t e : Nat) (n : Fin 4), let a := s.advance t
    (a.pulseOut n).until_ = some e → e ≤ a.elapsed → a.tableau = false →
    Completes (.pulseEnd t n) s fun b =>
      b.pulseOut n = { until_ := none, idle := a.elapsed } ∧
      Sparse.get (fun _ => .highZ) b.router.evioPin n = (if (a.tbl8 tid.pulseMap (16 * n + 1)).testBit 1 then EvioLevel.high else .low) ∧
      b.router = { a.router with evioPin := b.router.evioPin } ∧
      b.meter.core = a.meter.core ∧ Kept [] [.meter, .router] a b) ∧
  (∀ (s : State) (t : Nat), let a := s.advance t; let m := a.finishStep
    let gen := fun (c : Option (Nat × MeterCore)) => (c.map Prod.fst).getD 0
    a.meter.lastRefresh + second ≤ a.elapsed → a.bit F.GHOST_STATUS_PF_WARN = false → a.meterLive = true →
    Completes (.retentionRefresh t) s fun b =>
      b.meter = { m.meter with lastRefresh := a.meter.lastRefresh + second } ∧
      (if gen a.ghost.copyA ≤ gen a.ghost.copyB then
        b.ghost = { m.ghost with copyA := some (gen a.ghost.copyB + 1, m.meter.core) }
      else b.ghost = { m.ghost with copyB := some (gen a.ghost.copyA + 1, m.meter.core) }) ∧
      Kept [] [.meter, .ghost] m b ∧ (a.meter.stepAt = none → Kept [] [.meter, .ghost] a b))

/-- Export sends the oldest unsent record to ring 4 or stalls, ATLAS_READ writes records to the host, METER_CFG takes legal periods only. Outside tableau.
EXPORT_EN 1 makes every record unsent again; 0 only clears the bit. ATLAS_EXPORT with export enabled: the oldest unsent record, with room in ring 4,
is staged as 128 bytes and counts as sent, and EXPORT_STALL is 0; without room nothing is staged, EXPORT_STALL is 1 and every unsent record counts
once as having waited; without export, in tableau or with nothing unsent nothing changes. ATLAS_READ of n records that are present: their 64 bytes
each are written to HOST_ADDR in order (they wait while the bus is closed) and the command completes DONE; at the first check that fails it completes
with that check's STATUS and DETAIL; nothing else changes. METER_CFG_WRITE with periods that divide as R426 says and the curtain LOWERED or LOCKED:
the fields are taken; otherwise only CFG_REJECT is set.
From spec/09_metering_and_atlas.md, section Intervals (R402); spec/09_metering_and_atlas.md, section The atlas and its export (R416, R417, R418);
spec/09_metering_and_atlas.md, section Registers (R426). -/
def Obligations.ExportReadAndMeterSettings : Prop :=
  (∀ (s : State) (t : Nat) (data : Word), let a := s.advance t
    a.tableau = false →
    Completes (.exportEn t data) s fun b => b.bit F.METER_CTRL_EXPORT_EN = data.getLsbD 0 ∧
      (data.getLsbD 0 = true → b.meter.atlas = a.meter.atlas.map fun r => { r with sent := false, waited := false }) ∧
      (data.getLsbD 0 = false → Kept [Reg.METER_CTRL] [] a b) ∧
      Kept [Reg.METER_CTRL, Reg.METER_SEQ, Reg.METER_OLDEST, Reg.METER_ATLAS, Reg.METER_OPEN_LO, Reg.METER_OPEN_HI] [.meter] a b) ∧
  (∀ (s : State) (t : Nat) (r : Rec), let a := s.advance t
    a.tableau = false → a.bit F.METER_CTRL_EXPORT_EN = true → (a.meter.atlas.find? fun r => !r.sent) = some r →
    Completes (.atlasExport t) s fun b =>
      if a.ringRoom 4 then
        (∃ e, b.host = { a.host with staged := a.host.staged ++ [e] } ∧ e.ring = 4 ∧ e.body = r.bytes ++ List.replicate 64 0 ∧
          e.cmd = none) ∧
        b.meter = { a.meter with atlas := replaceFirst r { r with sent := true } a.meter.atlas } ∧
        b.bit F.METER_STATUS_EXPORT_STALL = false ∧
        Kept [Reg.METER_STATUS, Reg.METER_SEQ, Reg.METER_OLDEST, Reg.METER_ATLAS, Reg.METER_OPEN_LO, Reg.METER_OPEN_HI] [.meter, .host] a b
      else b.host.staged = a.host.staged ∧ b.bit F.METER_STATUS_EXPORT_STALL = true ∧
        b.meter.atlas = (a.meter.atlas.map fun x => if x.sent then x else { x with waited := true }) ∧
        b.get F.METER_EXPORT_WAIT_COUNT =
          min (a.get F.METER_EXPORT_WAIT_COUNT + (a.meter.atlas.filter fun x => !x.sent && !x.waited).length) 0xFFFFFFFF ∧
        Kept [Reg.METER_STATUS, Reg.METER_EXPORT_WAIT] [.meter, .host, .router] a b) ∧
  (∀ (s : State) (t : Nat), let a := s.advance t
    (a.tableau = true ∨ a.bit F.METER_CTRL_EXPORT_EN = false ∨ ∀ r ∈ a.meter.atlas, r.sent = true) →
    Completes (.atlasExport t) s fun b => Kept [] [] a b) ∧
  (∀ (s : State) (t : Nat) (d : Desc), let a := s.advance t; let n := d.p1.toNat
    let l := a.meter.atlas.dropWhile fun r => r.seq != d.p0.toNat; let bytes := (l.take n).flatMap Rec.bytes
    d.target = 0 → 1 ≤ n → n ≤ 1023 → d.len.toNat = 64 * n → n ≤ l.length →
    Completes (.atlasRead t d) s fun b =>
      b.host = ((a.hostWrite d.hostAddr.toNat bytes).complete d st.done 0 a.datum).host ∧
      (d ∈ a.host.dispatched → a.busOpen = true →
        b.host.writes = a.host.writes ++ [{ addr := d.hostAddr.toNat, bytes := bytes }] ∧
        b.host.dispatched = a.host.dispatched.erase d) ∧ Kept [] [.host] a b) ∧
  (∀ (s : State) (t : Nat) (d : Desc) (status detail : Nat), let a := s.advance t; let n := d.p1.toNat
    let l := a.meter.atlas.dropWhile fun r => r.seq != d.p0.toNat
    firstFail [(d.target ≠ 0, st.targetRange, 0), (n = 0 ∨ 1023 < n, st.lenRange, 0), (d.len.toNat ≠ 64 * n, st.lenRange, 0),
      (a.meter.atlas = [], st.lenRange, 0), (l = [], st.targetRange, (a.meter.atlas.head?.map Rec.seq).getD 0),
      (l.length < n, st.lenRange, l.length)] = some (status, detail) →
    Completes (.atlasRead t d) s fun b => Ended d status detail a.datum a b ∧ Kept [] [.host] a b) ∧
  (∀ (s : State) (t : Nat) (data : Word), let a := s.advance t; let i := bitsOf data.toNat 0 12; let u := bitsOf data.toNat 16 12
    a.tableau = false →
    Completes (.meterCfgWrite t data) s fun b =>
      if a.curtainDown = true ∧ 1 ≤ i ∧ i ≤ 3600 ∧ 3600 % i = 0 ∧ 1 ≤ u ∧ u ≤ 3600 ∧ i % u = 0 then
        b.get F.METER_CFG_INTERVAL = i ∧ b.get F.METER_CFG_DEMAND_SUB = u ∧ b.bit F.METER_CFG_ALIGN_UTC = data.getLsbD 31 ∧
        Kept [Reg.METER_CFG] [.meter] a b
      else b.bit F.METER_STATUS_CFG_REJECT = true ∧ Kept [Reg.METER_STATUS] [] a b)

/-- Channel A samples its pins and toggles HB each cycle; it raises the curtain when nothing holds it, and causes lower or lock it. CHANNEL_A_CYCLE with
the changes at the pins since the last report; m is the state once both channels have taken them. Outside tableau and after internal start: what
channel A reads is shown, HB changes its level, the cycle and HB are dated now; else HB and the cycle stand. With the curtain LOWERED, no bit of
CURTAIN_HOLD, no cause, reset or readback failure in hand: RAISING, step SYNC, the engine ENGAGED. With causes in hand, one of them of class S, the
curtain not LOCKED and no S reaction in progress: LOCKED, with KDRVA, KDRVB and ENB off, TRIPA and BTRIP high, ARMED 0, every cause SEEN, one stop and
one lock more counted, every loop halted; FIRST is the first S cause where channel A adds none of its own. An E-stop input that channel A recognises
low in the cycle is such a cause, 2. With the curtain RAISED and only R causes in hand while the engine is ENGAGED: LOWERING, step RAMP, the engine
RAMPING; with one of class H and no S: LOWERING, step OPEN_CHECK, KDRVA off, ARMED 0, every loop halted.
From spec/10_curtain.md, section Two diverse channels (R430, R434); spec/10_curtain.md, section E-stop inputs (R435); spec/10_curtain.md, section
States (R441, R442); spec/10_curtain.md, section Causes and reactions (R444, R445). -/
def Obligations.ChannelACycles : Prop :=
  (∀ (s : State) (t : Nat) (p : CurtainIn), let a := s.advance t; let m := a.takePins p.edges
    Completes (.channelACycle t p) s fun b =>
      (a.tableau = true ∨ a.power.startDue = true →
        b.curt.cycle = a.curt.cycle ∧ b.curt.hb = a.curt.hb ∧ b.curt.lastHb = a.curt.lastHb ∧ b.curt.a = m.curt.a ∧ b.curt.b = m.curt.b) ∧
      (a.tableau = false → a.power.startDue = false →
        b.curt.cycle = a.elapsed ∧ b.curt.hb = (!a.curt.hb) ∧ b.curt.lastHb = a.elapsed ∧ b.curt.a = m.curt.a ∧ b.curt.b = m.curt.b ∧
        b.bit F.CURTAIN_PINS_ESTOPA = m.curt.a.estopA.high ∧ b.bit F.CURTAIN_PINS_ESTOPB = m.curt.a.estopB.high ∧
        b.bit F.CURTAIN_PINS_SRESET = m.curt.a.sreset.high ∧ b.bit F.CURTAIN_PINS_KFBA = m.curt.a.kfbA.high ∧
        b.bit F.CURTAIN_PINS_KFBB = m.curt.a.kfbB.high ∧ b.bit F.CURTAIN_PINS_KDRVA = m.curt.a.kdrvA.raw ∧
        b.bit F.CURTAIN_PINS_KDRVB = m.curt.a.kdrvB.raw)) ∧
  (∀ (s : State) (t : Nat) (p : CurtainIn), let a := s.advance t; let m := a.takePins p.edges
    a.tableau = false → a.power.startDue = false → m.curtain = cur.lowered → p.selfOk = true → m.curt.causes = [] →
    m.curt.mismatchA = false → m.curt.mismatchB = false → m.curt.edgeA = false → m.curt.released = none →
    (m.holdBits.any id) = false →
    Completes (.channelACycle t p) s fun b =>
      b.curtain = cur.raising ∧ b.curtStep = step.sync ∧ b.engState = eng.engaged ∧ b.curt.raisingAt = a.elapsed ∧
      b.curt.kdrva = m.curt.kdrva ∧ b.curt.enb = m.curt.enb ∧
      Kept (Reg.SCRUB_K_OPS_B :: (blockRegs 0x800 0x400 ++ blockRegs 0x3000 0x400 ++ blockRegs 0x3400 0x400 ++ blockRegs 0x4800 0x400))
        [.curt, .engine, .cast, .router] m b) ∧
  (∀ (s : State) (t : Nat) (p : CurtainIn), let a := s.advance t; let m := a.takePins p.edges
    a.tableau = false → a.power.startDue = false → m.curtain ≠ cur.locked → m.curt.reaction < 3 →
    (m.curt.causes.any fun c => classOf c.1 == 3) = true →
    Completes (.channelACycle t p) s fun b =>
      b.curtain = cur.locked ∧ b.curt.kdrva = false ∧ b.curt.kdrvb = false ∧ b.curt.enb = false ∧ b.curt.tripa = true ∧
      b.btrip = true ∧ b.armed = false ∧ (∀ c ∈ m.curt.causes, b.ibit F.CURTAIN_CAUSE_SEEN (c.1 - 1) = true) ∧
      (m.curt.mismatchA = false → m.curt.mismatchB = false → p.selfOk = true → m.btrip = false →
        b.get F.CURTAIN_CAUSE_FIRST = ((firstCause (m.curt.causes.filter fun c => classOf c.1 == 3)).getD 0) % 32) ∧
      b.get F.CURTAIN_STOPS_COUNT = min (m.get F.CURTAIN_STOPS_COUNT + 1) 0xFFFFFFFF ∧
      b.get F.CURTAIN_LOCKS_COUNT = min (m.get F.CURTAIN_LOCKS_COUNT + 1) 0xFFFFFFFF ∧ ∀ n, n < 4 → b.loopHalted n = true) ∧
  (∀ (s : State) (t : Nat) (ok : Bool), let a := s.advance t
    a.tableau = false → a.power.startDue = false → a.curtain ≠ cur.locked → a.curt.reaction < 3 →
    (∃ w, (w = a.curt.a.estopA ∨ w = a.curt.a.estopB) ∧ w.raw = false ∧ w.low = false ∧ w.since + 200000 ≤ a.elapsed) →
    Completes (.channelACycle t { edges := [], selfOk := ok }) s fun b =>
      b.ibit F.CURTAIN_CAUSE_SEEN 1 = true ∧ b.curtain = cur.locked ∧ b.curt.kdrva = false ∧ b.curt.kdrvb = false) ∧
  (∀ (s : State) (t : Nat) (p : CurtainIn), let a := s.advance t; let m := a.takePins p.edges
    a.tableau = false → a.power.startDue = false → m.curtain = cur.raised → m.curt.reaction = 0 → m.engaged = true →
    m.curt.mismatchA = false → m.curt.mismatchB = false → p.selfOk = true → m.btrip = false → m.curt.causes ≠ [] → (∀ c ∈ m.curt.causes, classOf c.1 = 1) →
    Completes (.channelACycle t p) s fun b =>
      b.curtain = cur.lowering ∧ b.curtStep = step.ramp ∧ b.engState = eng.ramping ∧ b.curt.kdrva = m.curt.kdrva ∧
      (∀ n, b.loopHalted n = m.loopHalted n)) ∧
  (∀ (s : State) (t : Nat) (p : CurtainIn), let a := s.advance t; let m := a.takePins p.edges
    a.tableau = false → a.power.startDue = false → m.curtain = cur.raised → m.curt.reaction < 2 →
    m.curt.mismatchA = false → m.curt.mismatchB = false → p.selfOk = true → m.btrip = false → (m.curt.causes.any fun c => classOf c.1 == 2) = true → (m.curt.causes.all fun c => classOf c.1 ≠ 3) = true →
    Completes (.channelACycle t p) s fun b =>
      b.curtain = cur.lowering ∧ b.curtStep = step.openCheck ∧ b.curt.kdrva = false ∧ b.curt.enb = false ∧ b.armed = false ∧
      ∀ n, n < 4 → b.loopHalted n = true)

/-- The contactors close after SYNC_TIME and are checked once and again; the state follows the checks. SYNC_TIME in RAISING, step SYNC, at the cycle that
reaches it, outside tableau. With the engine ENGAGED: KDRVA and ENB are energised, KDRVB where channel B lets it (its latch clear, both E-stops high
after its filter, no CURTAIN route, both feedbacks read open for 10 ms), step CLOSE_CHECK, the closing check starts, the operation is counted; nothing
else changes. With it not ENGAGED: cause 13 is seen and the curtain is LOWERED. CONTACTOR_CHECK: a closing check whose feedback reads closed leads
from RAISING to RAISED, counted and dated, an opening one whose feedback reads open from LOWERING in step OPEN_CHECK to LOWERED, no check left; where
the feedback does not read, the failure is remembered and raised, and nothing else changes. CONTACTOR_RECHECK that reads: a transient, and the state
as above; one that does not: cause 7 (closing) or 8 (opening) is seen and the curtain is LOCKED, unless an S reaction runs already. RAISED_RECHECK the
same with cause 9. RAISE_GAP at its end: the hold bit clears, and nothing else changes.
From spec/10_curtain.md, section Two diverse channels (R430); spec/10_curtain.md, section Contactor feedback (R437, R438, R439); spec/10_curtain.md,
section States (R441, R442). -/
def Obligations.ContactorSequence : Prop :=
  (∀ (s : State) (t : Nat), let a := s.advance t
    a.curtain = cur.raising → a.curtStep = step.sync → a.curt.raisingAt + a.syncTime ≤ a.curt.cycle → a.tableau = false → a.engaged = true →
    Completes (.syncTime t) s fun b =>
      b.curt.kdrva = true ∧ b.curt.enb = true ∧ b.curt.energised = true ∧ b.curtStep = step.closeCheck ∧ b.curtain = cur.raising ∧
      b.curt.kdrvb = (!a.btrip && a.curt.b.estopA.high && a.curt.b.estopB.high && !a.curtainRoute && a.curt.b.open10 a.elapsed) ∧
      b.curt.check = some { closing := true, start := a.elapsed } ∧
      b.get F.SCRUB_K_OPS_A_COUNT = min (a.get F.SCRUB_K_OPS_A_COUNT + 1) 0xFFFFFFFF ∧
      Kept [Reg.CURTAIN_STATUS, F.SCRUB_K_OPS_A_COUNT.addr] [.curt] a b) ∧
  (∀ (s : State) (t : Nat), let a := s.advance t
    a.curtain = cur.raising → a.curtStep = step.sync → a.curt.raisingAt + a.syncTime ≤ a.curt.cycle → a.tableau = false →
    a.engaged = false → a.curt.energised = false → a.curt.reaction < 2 →
    Completes (.syncTime t) s fun b => b.ibit F.CURTAIN_CAUSE_SEEN 12 = true ∧ b.curtain = cur.lowered ∧ b.armed = false) ∧
  (∀ (s : State) (t : Nat) (k : ContactCheck), let a := s.advance t
    a.curt.check = some k → k.failed = false → a.tableau = false → k.start + a.checkWindow k / 2 ≤ a.curt.cycle →
    Completes (.contactorCheck t) s fun b =>
      (a.feedbackReads (!k.closing) = true → b.curt.check = none ∧
        (k.closing = true → a.curtain = cur.raising →
          b.curtain = cur.raised ∧ b.pair Reg.CURTAIN_LAST_LO = a.datum % 2 ^ 64 ∧
          b.get F.CURTAIN_RAISES_COUNT = min (a.get F.CURTAIN_RAISES_COUNT + 1) 0xFFFFFFFF ∧ Raised [(a.datum, 176, 0)] a b) ∧
        (k.closing = false → a.curtain = cur.lowering → a.curtStep = step.openCheck → b.curtain = cur.lowered) ∧
        (a.curtain ≠ cur.raising → a.curtain ≠ cur.lowering → Kept [] [.curt] a b)) ∧
      (a.feedbackReads (!k.closing) = false → b.curt = { a.curt with check := some { k with failed := true } } ∧
        Raised [(a.datum, 180, 0)] a b ∧ Kept [] [.curt, .router] a b)) ∧
  (∀ (s : State) (t : Nat) (k : ContactCheck), let a := s.advance t
    a.curt.check = some k → k.failed = true → a.tableau = false → k.start + a.checkWindow k ≤ a.curt.cycle + 2 * ms →
    Completes (.contactorRecheck t) s fun b =>
      (a.feedbackReads (!k.closing) = true →
        b.get F.CURTAIN_TRANSIENT_COUNT = min (a.get F.CURTAIN_TRANSIENT_COUNT + 1) 0xFFFFFFFF ∧ b.curt.check = none ∧
        (k.closing = true → a.curtain = cur.raising → b.curtain = cur.raised) ∧
        (k.closing = false → a.curtain = cur.lowering → a.curtStep = step.openCheck → b.curtain = cur.lowered)) ∧
      (a.feedbackReads (!k.closing) = false →
        b.ibit F.CURTAIN_CAUSE_SEEN (if k.closing then 6 else 7) = true ∧
        b.curtain = if a.curt.reaction < 3 then cur.locked else a.curtain)) ∧
  (∀ (s : State) (t x : Nat), let a := s.advance t
    a.curt.raisedFail = some x → a.curtain = cur.raised → a.tableau = false → x + a.checkClose / 2 ≤ a.curt.cycle →
    Completes (.raisedRecheck t) s fun b => b.curt.raisedFail = none ∧
      (a.feedbackReads false = true → b.curtain = cur.raised ∧
        b.get F.CURTAIN_TRANSIENT_COUNT = min (a.get F.CURTAIN_TRANSIENT_COUNT + 1) 0xFFFFFFFF ∧
        Kept [Reg.CURTAIN_TRANSIENT, Reg.SCRUB_FAULT_SEEN] [.curt] a b) ∧
      (a.feedbackReads false = false → b.ibit F.CURTAIN_CAUSE_SEEN 8 = true ∧
        b.curtain = if a.curt.reaction < 3 then cur.locked else cur.raised)) ∧
  (∀ (s : State) (t : Nat), let a := s.advance t
    a.due a.curt.opened a.raiseGap = true →
    Completes (.raiseGap t) s fun b => b.bit F.CURTAIN_HOLD_GAP = false ∧ Kept [Reg.CURTAIN_HOLD] [] a b)

/-- Channel A's watches raise their causes; channel B latches on an E-stop, a route and a silent heartbeat. Outside tableau. ESTOP_DISC after ESTOP_DISC
of inputs recognised as differing, with a valid SAFETY_PARAM: raised once, cause 3 seen, LOCKED (unless an S reaction runs already). SRESET_STUCK
outside service: raised once, nothing else changes. PARAM_CHECK after its upsets (m): with SAFETY_PARAM valid, a right CRC changes nothing; a wrong
one with a right stored copy is mended and counts as a transient; a wrong one with a wrong stored copy clears PARAM_OK, is raised, and is cause 10 for
channel A's next cycle; nothing else changes. ROM_CHECK that fails is cause 11 for that cycle and nothing else; one that passes changes nothing.
CHANNEL_B_LATCH, once the changes at the pins are taken (m), with an E-stop low after channel B's filter, a CURTAIN route active or TRIPA high, and
HEARTBEAT_LOSS after 3 ms without an edge (m = a): BTRIP is high, KDRVB off, SSTAT low, and where BTRIP was low every loop halted; channel A's state
and KDRVA stay, and no cause but 16 (with the curtain up) is added; with none of these the pins' changes are all that happens. SSTAT_TOGGLE while
BTRIP is low turns SSTAT over, 0.95 ms or more after the last time; sooner nothing changes; with BTRIP high SSTAT is low.
From spec/10_curtain.md, section Two diverse channels (R431); spec/10_curtain.md, section E-stop inputs (R436); spec/10_curtain.md, section Causes and
reactions (R446); spec/10_curtain.md, section Resetting the curtain (R455); spec/10_curtain.md, section SAFETY_PARAM (R460); spec/10_curtain.md,
section SSTAT (R461). -/
def Obligations.CurtainChecksAndChannelB : Prop :=
  (∀ (s : State) (t : Nat), let a := s.advance t
    a.due a.estopDiff a.estopDisc = true → a.paramOk = true → a.curt.discRaised = false → a.tableau = false →
    Completes (.estopDisc t) s fun b => b.curt.discRaised = true ∧ b.ibit F.CURTAIN_CAUSE_SEEN 2 = true ∧
      b.curtain = (if a.curt.reaction < 3 then cur.locked else a.curtain) ∧
      ∃ l, b.router.inflight = a.router.inflight ++ { stamp := a.datum, num := 179 } :: l) ∧
  (∀ (s : State) (t : Nat), let a := s.advance t
    a.due a.sresetHigh a.sresetStuck = true → a.paramOk = true → a.service = false → a.curt.stuckRaised = false →
    a.tableau = false →
    Completes (.sresetStuck t) s fun b => b.curt = { a.curt with stuckRaised := true } ∧ Raised [(a.datum, 184, 0)] a b ∧
      Kept [] [.curt, .router] a b) ∧
  (∀ (s : State) (t : Nat) (us : List TableUpset), let a := s.advance t
    let m := a.each (us.filter fun u => u.id == tid.safetyParam) State.upset; let mem := m.tableMem tid.safetyParam
    let stored := m.setTableWork tid.safetyParam { mem with work := mem.stored }
    a.tableau = false →
    Completes (.paramCheck t us) s fun b =>
      (m.paramOk = false ∨ m.paramCrcOk = true → Kept [] [.tables] a b ∧ b.tblBytes tid.safetyParam 0 0x100 = m.tblBytes tid.safetyParam 0 0x100) ∧
      (m.paramOk = true → m.paramCrcOk = false → stored.paramCrcOk = true → b.paramCrcOk = true ∧ b.paramOk = true ∧
        b.get F.CURTAIN_TRANSIENT_COUNT = min (a.get F.CURTAIN_TRANSIENT_COUNT + 1) 0xFFFFFFFF ∧
        Kept [Reg.CURTAIN_TRANSIENT, Reg.SCRUB_FAULT_SEEN] [.tables] a b) ∧
      (m.paramOk = true → m.paramCrcOk = false → stored.paramCrcOk = false → b.paramOk = false ∧ b.tableOk tid.safetyParam = false ∧
        b.curt = { a.curt with causes := a.curt.causes ++ [(10, a.datum)] } ∧ Raised [(a.datum, 185, 0)] a b ∧
        Kept [Reg.CURTAIN_STATUS, Reg.HOST_TABLE_OK, Reg.SCRUB_FAULT_SEEN] [.tables, .curt, .router] a b)) ∧
  (∀ (s : State) (t : Nat) (ok : Bool), let a := s.advance t
    a.tableau = false →
    Completes (.romCheck t ok) s fun b =>
      (ok = true → Kept [] [] a b) ∧
      (ok = false → b.curt = { a.curt with causes := a.curt.causes ++ [(11, a.datum)] } ∧ Kept [] [.curt] a b)) ∧
  (∀ (s : State) (t : Nat) (edges : List PinEdge), let a := s.advance t; let m := a.takePins edges
    let on := m.curt.b.estopA.low || m.curt.b.estopB.low || m.curtainRoute || m.curt.tripa
    Completes (.channelBLatch t edges) s fun b =>
      (on = true → b.btrip = true ∧ b.curt.kdrvb = false ∧ b.bit F.CURTAIN_PINS_SSTAT = false ∧
        (a.btrip = false → ∀ n, n < 4 → b.loopHalted n = true) ∧ b.curt.kdrva = m.curt.kdrva ∧ b.curtain = m.curtain ∧
        (m.curtainUp = false → b.curt.causes = m.curt.causes) ∧ (∀ e ∈ b.curt.causes, e ∈ m.curt.causes ∨ e = (16, a.datum))) ∧
      (on = false → Kept [] [] m b)) ∧
  (∀ (s : State) (t : Nat), let a := s.advance t
    a.curt.lastHb + 3 * ms ≤ a.elapsed → a.tableau = false → a.power.startDue = false →
    Completes (.heartbeatLoss t) s fun b => b.btrip = true ∧ b.curt.kdrvb = false ∧ b.bit F.CURTAIN_PINS_SSTAT = false ∧
      (a.btrip = false → ∀ n, n < 4 → b.loopHalted n = true) ∧ b.curt.kdrva = a.curt.kdrva ∧
      b.curtain = a.curtain ∧ (a.curtainUp = false → b.curt.causes = a.curt.causes) ∧
      (∀ e ∈ b.curt.causes, e ∈ a.curt.causes ∨ e = (16, a.datum))) ∧
  (∀ (s : State) (t : Nat), let a := s.advance t
    a.btrip = false → a.power.startDue = false →
    Completes (.sstatToggle t) s fun b =>
      if a.curt.sstatAt + 950000 ≤ a.elapsed then
        b.bit F.CURTAIN_PINS_SSTAT = (!a.bit F.CURTAIN_PINS_SSTAT) ∧ b.curt = { a.curt with sstatAt := a.elapsed } ∧
        Kept [Reg.CURTAIN_PINS] [.curt] a b
      else Kept [] [] a b) ∧
  (∀ (s : State) (t : Nat), let a := s.advance t
    (a.btrip = true ∨ a.power.startDue = true) →
    Completes (.sstatToggle t) s fun b => b.bit F.CURTAIN_PINS_SSTAT = false ∧ Kept [Reg.CURTAIN_PINS] [] a b)

/-- CURTAIN_LOWER waits for its cause to act or ends at once, CURTAIN_RESET arms in service only, SRESET edges are kept. CURTAIN_LOWER with TARGET up to 2
and no other operand: with the curtain up it waits, its cause (21, 15 or 12 by target) for channel A's next cycle beside it, and nothing else changes;
with the curtain down its cause is seen at once and the curtain stays down; with TARGET 0 or 1 it then completes DONE with CURTAIN_STATE, FIRST and
the stamp of the last change. CURTAIN_RESET in service, the curtain down, SRESET high after channel A's filter. With R454 not met: refused with DETAIL
4, counted and raised. In LOWERED: ARMED, DONE, its event raised. In LOCKED: TRIPA falls and the command waits for BTRIP from now; where channel B
does not refuse and reads SRESET high, BTRIP falls; nothing else changes. A cycle of channel A in LOCKED with a release in hand and no new edge: BTRIP
fallen in time (fellInTime), ARMED, LOWERED (or RAISING at once), the command ended; else after 2 ms LOCKED with TRIPA, counted as refused, the
command ended; else it waits on. Either command ends at the first check that fails, with that check's STATUS and DETAIL. SRESET_EDGE: a rise at the
pin is read by both channels from its instant on; one that has lasted channel A's filter is kept for its next cycle (the curtain down, no service, no
tableau); one that has lasted channel B's 10 ms is kept with its instant, and answers a release of TRIPA in hand: BTRIP falls.
From spec/10_curtain.md, section Resetting the curtain (R451, R452, R453, R454); spec/10_curtain.md, section Lowering on command (R456). -/
def Obligations.CurtainCommandsAndResets : Prop :=
  (∀ (s : State) (t : Nat) (d : Desc), let a := s.advance t
    let code := if d.target.toNat = 0 then 21 else if d.target.toNat = 1 then 15 else 12
    d.target.toNat ≤ 2 → d.len = 0 → d.p0 = 0 → d.p1 = 0 →
    Completes (.curtainLower t d) s fun b =>
      (a.curtainDown = false →
        b.curt = { a.curt with causes := a.curt.causes ++ [(code, a.datum)], waiting := a.curt.waiting ++ [d] } ∧ Kept [] [.curt] a b) ∧
      (a.curtainDown = true → b.ibit F.CURTAIN_CAUSE_SEEN (code - 1) = true ∧ b.curtainDown = true ∧
        (d.target.toNat ≤ 1 →
          Ended d st.done (a.curtain + 256 * a.get F.CURTAIN_CAUSE_FIRST) (a.pair Reg.CURTAIN_LAST_LO) a b ∧
          Kept [Reg.CURTAIN_CAUSE, Reg.CURTAIN_STATUS] [.host] a b))) ∧
  (∀ (s : State) (t : Nat) (d : Desc) (status detail : Nat), let a := s.advance t
    firstFail [(2 < d.target.toNat, st.targetRange, 0), (d.len ≠ 0, st.lenRange, 0), (d.p0 ≠ 0 ∨ d.p1 ≠ 0, st.targetRange, 0x10)] =
      some (status, detail) →
    Completes (.curtainLower t d) s fun b => Ended d status detail a.datum a b ∧ Kept [] [.host] a b) ∧
  (∀ (s : State) (t : Nat) (d : Desc) (status detail : Nat), let a := s.advance t
    firstFail [(d.target ≠ 0, st.targetRange, 0), (d.len ≠ 0, st.lenRange, 0), (d.p0 ≠ 0 ∨ d.p1 ≠ 0, st.targetRange, 0x10),
      (a.service = false, st.stateRefused, 1), (a.curtainDown = false, st.stateRefused, 2),
      (a.curt.a.sreset.high = false, st.stateRefused, 3)] = some (status, detail) →
    Completes (.curtainReset t d) s fun b => Ended d status detail a.datum a b ∧ Kept [] [.host] a b) ∧
  (∀ (s : State) (t : Nat) (d : Desc), let a := s.advance t
    d.target = 0 → d.len = 0 → d.p0 = 0 → d.p1 = 0 → a.service = true → a.curtainDown = true → a.curt.a.sreset.high = true →
    a.resetOk = false →
    Completes (.curtainReset t d) s fun b => Ended d st.stateRefused 4 a.datum a b ∧ Raised [(a.datum, 183, 0)] a b ∧
      b.get F.CURTAIN_RESET_REFUSED_COUNT = min (a.get F.CURTAIN_RESET_REFUSED_COUNT + 1) 0xFFFFFFFF ∧
      Kept [Reg.CURTAIN_RESET_REFUSED] [.curt, .host, .router] a b) ∧
  (∀ (s : State) (t : Nat) (d : Desc), let a := s.advance t
    d.target = 0 → d.len = 0 → d.p0 = 0 → d.p1 = 0 → a.service = true → a.curt.a.sreset.high = true → a.resetOk = true →
    Completes (.curtainReset t d) s fun b =>
      (a.curtain = cur.lowered → b.armed = true ∧ b.curtain = cur.lowered ∧ Ended d st.done 0 a.datum a b ∧
        Raised [(a.datum, 182, 0)] a b ∧ Kept [Reg.CURTAIN_STATUS] [.curt, .host, .router] a b) ∧
      (a.curtain = cur.locked → b.curt.tripa = false ∧
        b.curt = { a.curt with tripa := false, released := some a.elapsed, resetCmd := some d } ∧ b.curtain = a.curtain ∧
        (a.refusesB = false → a.curt.b.sreset.high = true → b.btrip = false ∧ Kept [Reg.CURTAIN_STATUS] [.curt] a b) ∧
        (a.refusesB = true ∨ a.curt.b.sreset.high = false → Kept [] [.curt] a b))) ∧
  (∀ (s : State) (t t0 : Nat) (p : CurtainIn), let a := s.advance t; let m := a.takePins p.edges
    a.tableau = false → a.power.startDue = false → m.curtain = cur.locked → m.curt.released = some t0 → m.curt.edgeA = false →
    Completes (.channelACycle t p) s fun b =>
      (m.fellInTime t0 = true → b.armed = true ∧ b.btrip = false ∧ (b.curtain = cur.lowered ∨ b.curtain = cur.raising) ∧
        b.curt.released = none ∧ b.curt.resetCmd = none ∧
        (∀ d, m.curt.resetCmd = some d → m.curt.waiting = [] → b.host.dispatched = m.host.dispatched.erase d)) ∧
      (m.fellInTime t0 = false → t0 + 2 * ms ≤ a.elapsed → b.curtain = cur.locked ∧ b.curt.tripa = true ∧ b.curt.released = none ∧
        b.get F.CURTAIN_RESET_REFUSED_COUNT = min (m.get F.CURTAIN_RESET_REFUSED_COUNT + 1) 0xFFFFFFFF ∧
        (∀ d, m.curt.resetCmd = some d → b.host.dispatched = m.host.dispatched.erase d)) ∧
      (m.fellInTime t0 = false → a.elapsed < t0 + 2 * ms → b.curtain = cur.locked ∧ b.curt.released = some t0)) ∧
  (∀ (s : State) (t n : Nat), let a := s.advance t
    a.curt.a.sreset.raw = false → a.curt.b.sreset.raw = false → n ≤ a.elapsed →
    Completes (.sresetEdge t [{ pin := .sreset, level := true, ago := n }]) s fun b =>
      b.curt.a.sreset.raw = true ∧ b.curt.a.sreset.since = a.elapsed - n ∧
      b.curt.b.sreset.raw = true ∧ b.curt.b.sreset.since = a.elapsed - n) ∧
  (∀ (s : State) (t : Nat), let a := s.advance t
    a.curtainDown = true → a.service = false → a.tableau = false → a.power.startDue = false →
    a.curt.a.sreset.raw = true → a.curt.a.sreset.low = true → a.curt.a.sreset.since + a.filterA .sreset ≤ a.elapsed →
    Completes (.sresetEdge t []) s fun b => b.curt.edgeA = true ∧ b.curt.a.sreset.high = true ∧ b.curtainDown = true) ∧
  (∀ (s : State) (t : Nat), let a := s.advance t; let w := a.curt.b.sreset
    w.raw = true → w.low = true → w.since + 10 * ms ≤ a.elapsed →
    Completes (.sresetEdge t []) s fun b => b.curt.edgeB = some (w.since + 10 * ms) ∧ b.curt.b.sreset.high = true ∧
      (a.curt.released.isSome = true → a.curt.resetCmd = none → a.refusesB = false → a.btrip = true → a.service = false →
        a.curt.b.estopA.raw = true → a.curt.b.estopB.raw = true →
        b.btrip = false ∧ b.curtain = a.curtain))

/-- Turn-ons wait for dead time, desaturation latches a switch off; a period start takes marked shadows and asks no bridge for both switches.
DEAD_TIME_END: a switch that a latch holds off waits no more; else a waiting turn-on whose instant has come is its pulse at the pin, and one that has
not come, or none, is as it was; only the guard changes. BLANKING_END of a switch (w, brought up to now) with DESAT_EN, on, its blanking over and not
yet judged: with its comparator inactive only that is noted; with it active the switch is off, its fault latched and counted, event 192 first; with
one of these missing the switch is w. GD_EN outside tableau: GD_EN and DESAT_EN take the bits written; rising, GUARD_LOW shows the low time, and after
10 us low with no trip active every latch and carry clears, counted, event 196 first; else CLEAR_REFUSED is set and counted, event 197 first, the
latches stand; falling, the carries clear and the low time starts; else latches and low time stand. STAGE_LOSS, in tableau too: all seven switches
off, GD_EN low, the drive in FAULT with code 7, the chopper inactive. The last three change registers of GUARD, PUMP and CAST only. LOAD_ALL outside
tableau: with bit 0 clear nothing changes; with MANUAL and legal shadows every channel's shadows are marked with this instant, a mark that was pending
counts as an overrun; otherwise only CFG_REJECT is set. SHADOW_TRANSFER and PERIOD_START at a due period start: every channel of that start begins its
next period at the end of the last; shadows marked at least 8 ns before are in force and unmarked, later ones still wait; not due, or
(SHADOW_TRANSFER) with nothing marked, nothing changes. PERIOD_START of a period that has begun and is not yet taken hands the requests to the guard:
CHOP is requested on in the high part while the chopper is active, and of a leg's two switches never both in one part of the period; under MANUAL they
are what R474 makes of the leg's two lines. PWM_EVENT: an occurrence counts once; each (PRESC + 1)-th of an enabled type is raised with its own stamp;
one not yet come, already taken, or in tableau changes nothing.
From spec/11_switch_protection.md, section How commands are read (R474, R475, R476, R477); spec/11_switch_protection.md, section Trips and on-state
checks (R483, R485); spec/11_switch_protection.md, section Latching and clearing (R487, R488); spec/12_coolant_pump.md, section The PWM unit (R497,
R499, R500, R501); spec/12_coolant_pump.md, section Orders from the host (R523); spec/12_coolant_pump.md, section Tableau and a stopped clock (R526). -/
def Obligations.SwitchesAndPwmPeriods : Prop :=
  (∀ (s : State) (t : Nat) (k : Fin 6), let a := s.advance t; let w := a.sw k
    Completes (.deadTimeEnd t k) s fun b => Kept [] [.guard] a b ∧ (∀ j, j ≠ k.val → b.sw j = a.sw j) ∧
      (a.heldOff k = true → b.sw k = { w with wait := none }) ∧
      (a.heldOff k = false →
        (∀ x y, w.wait = some (x, y) → x ≤ a.pinTime →
          b.sw k = { w with lit := true, from_ := x, to_ := y, wait := none, blanked := false, offAt := w.offBefore x }) ∧
        (∀ x y, w.wait = some (x, y) → a.pinTime < x → b.sw k = w) ∧ (w.wait = none → b.sw k = w))) ∧
  (∀ (s : State) (t : Nat) (k : Fin 6), let a := s.advance t; let w := (a.sw k).settle a.pinTime
    let due := a.bit F.GUARD_CTRL_DESAT_EN && w.onAt a.pinTime && !w.blanked && decide (w.from_ + 2 * a.get F.GUARD_BLANK_BLANK ≤ a.elapsed)
    Completes (.blankingEnd t k) s fun b =>
      (due = false → b.sw k = w ∧ Kept [] [.guard] a b) ∧
      (due = true → a.compActive (26 + k) = false → b.sw k = { w with blanked := true } ∧ Kept [] [.guard] a b) ∧
      (due = true → a.compActive (26 + k) = true → b.swOn k = false ∧ b.swFaulted k = true ∧
        b.get F.GUARD_DESAT_COUNT = min (a.get F.GUARD_DESAT_COUNT + 1) 0xFFFFFFFF ∧ Kept (Reg.SCRUB_FAULT_SEEN :: (blockRegs 0x4C00 0x400 ++ blockRegs 0x5000 0x400 ++ blockRegs 0x3400 0x400)) [.guard, .pump, .cast, .curt, .router] a b ∧
        ∃ l, b.router.inflight = a.router.inflight ++ { stamp := a.datum, num := 192, inst := k } :: l)) ∧
  (∀ (s : State) (t : Nat) (data : Word), let a := s.advance t; let low := a.elapsed - a.guard.lowSince
    let trip := (a.writeByAccess Reg.GUARD_CTRL data).tripActive
    a.tableau = false →
    Completes (.gdEn t data) s fun b =>
      b.bit F.GUARD_CTRL_GD_EN = data.getLsbD 0 ∧ b.bit F.GUARD_CTRL_DESAT_EN = data.getLsbD 1 ∧ Kept (Reg.SCRUB_FAULT_SEEN :: (blockRegs 0x4C00 0x400 ++ blockRegs 0x5000 0x400 ++ blockRegs 0x3400 0x400)) [.guard, .pump, .cast, .curt, .router] a b ∧
      (a.bit F.GUARD_CTRL_GD_EN = false → data.getLsbD 0 = true →
        b.get F.GUARD_LOW_TIME = min low 0xFFFFFFFF ∧
        (10000 ≤ low → trip = false →
          b.guardLatched = false ∧ (∀ k, k < 7 → (b.sw k).carry = 0) ∧
          b.get F.GUARD_CLEARS_COUNT = min (a.get F.GUARD_CLEARS_COUNT + 1) 0xFFFFFFFF ∧
          ∃ l, b.router.inflight = a.router.inflight ++ { stamp := a.datum, num := 196 } :: l) ∧
        (¬(10000 ≤ low ∧ trip = false) →
          b.bit F.GUARD_STATUS_CLEAR_REFUSED = true ∧ b.guardLatched = a.guardLatched ∧
          b.get F.GUARD_CLEAR_REFUSED_COUNT = min (a.get F.GUARD_CLEAR_REFUSED_COUNT + 1) 0xFFFFFFFF ∧
          ∃ l, b.router.inflight = a.router.inflight ++ { stamp := a.datum, num := 197 } :: l)) ∧
      (a.bit F.GUARD_CTRL_GD_EN = true → data.getLsbD 0 = false → b.guard.lowSince = a.elapsed ∧ b.guardLatched = a.guardLatched ∧
        ∀ k, k < 7 → (b.sw k).carry = 0) ∧
      (a.bit F.GUARD_CTRL_GD_EN = data.getLsbD 0 → b.guardLatched = a.guardLatched ∧ b.guard.lowSince = a.guard.lowSince ∧
        b.get F.GUARD_LOW_TIME = a.get F.GUARD_LOW_TIME)) ∧
  (∀ (s : State) (t : Nat), let a := s.advance t
    Completes (.stageLoss t) s fun b => (∀ k, k < 7 → b.swOn k = false) ∧ b.bit F.GUARD_CTRL_GD_EN = false ∧
      b.pState = ps.fault ∧ b.get F.PUMP_STATUS_FAULT = 7 ∧ b.bit F.PUMP_STATUS_CHOP_ACTIVE = false ∧ b.pSector = 0 ∧
      (a.bit F.GUARD_CTRL_GD_EN = true → b.guard.lowSince = a.elapsed) ∧ Kept (Reg.SCRUB_FAULT_SEEN :: (blockRegs 0x4C00 0x400 ++ blockRegs 0x5000 0x400 ++ blockRegs 0x3400 0x400)) [.guard, .pump, .cast, .curt, .router] a b) ∧
  (∀ (s : State) (t : Nat) (data : Word), let a := s.advance t
    a.tableau = false →
    Completes (.loadAll t data) s fun b =>
      if data.getLsbD 0 = false then Kept [] [] a b
      else if a.bit F.PUMP_CTRL_MANUAL = true ∧ a.shadowsOk = true then
        (∀ c, c < 4 → b.chan c = { a.chan c with load := some (a.elapsed,
          (if c = 3 then a.get F.PUMP_PWM_CHOP_PERIOD_PERIOD else a.get F.PUMP_PWM_PERIOD_PERIOD),
          a.get (F.PUMP_PWM_DUTY_DUTY c), a.get (F.PUMP_PWM_MARK_MARK c)) }) ∧
        (if ∃ c ∈ List.range 4, (a.chan c).load ≠ none then Raised [(a.datum, 206, 0)] a b ∧
            b.get F.PUMP_LOAD_OVERRUN_COUNT = min (a.get F.PUMP_LOAD_OVERRUN_COUNT + 1) 0xFFFFFFFF
          else Kept [] [.pump] a b) ∧
        Kept [Reg.PUMP_LOAD_OVERRUN] [.pump, .router] a b
      else b.bit F.PUMP_STATUS_CFG_REJECT = true ∧ Kept [Reg.PUMP_STATUS] [] a b) ∧
  (∀ (s : State) (t : Nat) (chop : Bool), let a := s.advance t; let c := if chop then 3 else 0
    Completes (.shadowTransfer t chop) s fun b =>
      (a.periodDue chop = false ∨ (a.chan c).load = none → Kept [] [] a b) ∧
      (a.periodDue chop = true → (a.chan c).load ≠ none → Kept [] [.pump] a b ∧
        (∀ i, i ∈ channelsOf chop → let x := a.chan i; let next := x.start + 2 * x.period
          (∀ t0 p d m, x.load = some (t0, p, d, m) → t0 + 8 ≤ next →
            b.chan i = { x with start := next, fresh := true, period := p, duty := d, mark := m, load := none }) ∧
          (∀ t0 p d m, x.load = some (t0, p, d, m) → next < t0 + 8 → b.chan i = { x with start := next, fresh := true }) ∧
          (x.load = none → b.chan i = { x with start := next, fresh := true })) ∧
        (∀ i, i ∉ channelsOf chop → b.chan i = a.chan i))) ∧
  (∀ (s : State) (t : Nat) (chop : Bool), let a := s.advance t; let c := if chop then 3 else 0; let x := a.chan c
    Completes (.periodStart t chop) s fun b =>
      (a.tableau = true ∨ (x.fresh = false ∧ a.elapsed < x.start + 2 * x.period) → Kept [] [] a b) ∧
      (a.tableau = false → x.fresh = true ∨ x.start + 2 * x.period ≤ a.elapsed →
        (b.chan c).start = (if x.fresh then x.start else x.start + 2 * x.period) ∧ (b.chan c).fresh = false ∧
        (chop = true → (b.sw 6).req = (a.bit F.PUMP_STATUS_CHOP_ACTIVE, false) ∧ (∀ k, k < 6 → (b.sw k).req = (a.sw k).req) ∧
          Kept [Reg.GUARD_SUPPRESS] [.guard, .pump, .router] a b) ∧
        (chop = false → Kept (Reg.SCRUB_FAULT_SEEN :: (blockRegs 0x4C00 0x400 ++ blockRegs 0x5000 0x400 ++ blockRegs 0x3400 0x400)) [.guard, .pump, .cast, .curt, .router] a b ∧
          (a.bit F.PUMP_CTRL_MANUAL = true → ∀ leg, leg < 3 → let ab := a.legLines leg
            let r := requestsOf (a.ibit F.GUARD_CFG_MODE leg) ab.1 ab.2
            (b.sw (2 * leg)).req = (r.1.1 && !r.2.1, r.1.2 && !r.2.2) ∧ (b.sw (2 * leg + 1)).req = (r.2.1 && !r.1.1, r.2.2 && !r.1.2)) ∧
          ∀ leg, leg < 3 →
            ¬((b.sw (2 * leg)).req.1 = true ∧ (b.sw (2 * leg + 1)).req.1 = true) ∧
            ¬((b.sw (2 * leg)).req.2 = true ∧ (b.sw (2 * leg + 1)).req.2 = true)))) ∧
  (∀ (s : State) (t : Nat) (c k : Fin 4), let a := s.advance t; let x := a.chan c
    let key := 4 * c.val + k.val; let n := Sparse.get (fun _ => 0) a.pump.presc key
    Completes (.pwmEvent t c k) s fun b =>
      (a.tableau = true ∨ Sparse.get (fun _ => none) x.taken k = some x.start ∨ (∀ h, x.eventAt k = some h → a.elapsed < h) → Kept [] [] a b) ∧
      (∀ h, x.eventAt k = some h → h ≤ a.elapsed → a.tableau = false → Sparse.get (fun _ => none) x.taken k ≠ some x.start →
        Sparse.get (fun _ => none) (b.chan c).taken k = some x.start ∧ Kept [] [.pump, .router] a b ∧
        if (a.reg (Reg.PUMP_PWM_EVT c)).getLsbD k then
          (if a.get (F.PUMP_PWM_EVT_PRESC c) ≤ n then
            Raised [(a.datum - (a.elapsed - h), 208 + key, 0)] a b ∧ Sparse.get (fun _ => 0) b.pump.presc key = 0
          else b.router = a.router ∧ Sparse.get (fun _ => 0) b.pump.presc key = n + 1)
        else b.router = a.router ∧ b.pump.presc = a.pump.presc))

/-- The drive observes, aligns, ramps and runs as R512 to R515 say, and commutates by overlaps. OBSERVE_END 200 ms into OBSERVE, no lock wait. RUN, a
catch counted, event 205 first, for the ordered direction at OL_SPEED or more; WAIT, events 204 and 200, for the other direction above CATCH_SPEED;
else ALIGN in sector 1 (6 for reverse), event 200. WAIT_MAX in WAIT: FAULT 5. ROTOR_STANDSTILL with no direction for 200 ms: from WAIT to ALIGN, from
COAST with no run wanted to OFF (and on, where a guard latch or a new request says so); from a coast not for the bus, with the start conditions met,
to OBSERVE. ALIGN_TIME: RAMP, forced commutation from now. FORCED_COMMUTATION when due: an overlap begins; at OL_SPEED with six good sectors the drive
is in RUN, a start counted. COMMUTATION in RUN when due: an overlap begins from a driven sector; after a catch the sector that follows the last
crossing is driven; not due, nothing changes. LOCK_RESTART 2 s after the lock: OBSERVE anew, as the retry. Each of these changes the PUMP block and,
where the pump fault follows, casting's derating, alone.
From spec/12_coolant_pump.md, section Crossings and commutation (R511); spec/12_coolant_pump.md, section Starting (R512, R513, R514);
spec/12_coolant_pump.md, section Locked rotor (R515); spec/12_coolant_pump.md, section States (R520). -/
def Obligations.PumpStartsAndCommutates : Prop :=
  (∀ (s : State) (t : Nat), let a := s.advance t; let v := |a.pumpMeas|
    a.pState = ps.observe → a.pump.locked = none → a.pump.entered + 200000000 ≤ a.elapsed →
    Completes (.observeEnd t) s fun b =>
      (a.rotorDir = none ∨ (a.rotorDir = some (!a.pumpReverse) ∧ v < (a.pc16 0x1C : Rat)) ∨
          (a.rotorDir = some a.pumpReverse ∧ v ≤ (a.pc16 0x14 : Rat)) →
        b.pState = ps.align ∧ b.pSector = (if a.pumpReverse then 6 else 1) ∧ b.pump.sectorAt = a.elapsed ∧
        Raised [(a.datum, 200, 0)] a b ∧ Kept [Reg.PUMP_STATUS, Reg.PUMP_SECTOR] [.pump, .router] a b) ∧
      (a.rotorDir = some (!a.pumpReverse) → (a.pc16 0x1C : Rat) ≤ v → b.pState = ps.run ∧ b.pump.ref = v ∧ b.pump.runAt = a.elapsed ∧
        b.pump.duty = a.syncDuty ∧ b.pump.integ = a.syncDuty ∧
        b.get F.PUMP_CATCHES_COUNT = min (a.get F.PUMP_CATCHES_COUNT + 1) 0xFFFFFFFF ∧
        b.get F.PUMP_STARTS_COUNT = min (a.get F.PUMP_STARTS_COUNT + 1) 0xFFFFFFFF ∧
        (a.pump.retry = true → b.get F.PUMP_TRANSIENT_COUNT = min (a.get F.PUMP_TRANSIENT_COUNT + 1) 0xFFFFFFFF) ∧
        (∃ l, b.router.inflight = a.router.inflight ++ { stamp := a.datum, num := 205 } :: { stamp := a.datum, num := 200 } :: l) ∧
        Kept (Reg.SCRUB_FAULT_SEEN :: (blockRegs 0x5000 0x400 ++ blockRegs 0x3400 0x400)) [.pump, .cast, .curt, .router] a b) ∧
      (a.rotorDir = some a.pumpReverse → (a.pc16 0x14 : Rat) < v → b.pState = ps.wait ∧
        Raised [(a.datum, 204, 0), (a.datum, 200, 0)] a b ∧ Kept [Reg.PUMP_STATUS] [.pump, .router] a b)) ∧
  (∀ (s : State) (t : Nat), let a := s.advance t
    a.pState = ps.wait → a.pump.entered + a.pc16 0x2E * second ≤ a.elapsed →
    Completes (.waitMax t) s fun b => b.pState = ps.fault ∧ b.get F.PUMP_STATUS_FAULT = 5 ∧ Kept (Reg.SCRUB_FAULT_SEEN :: (blockRegs 0x5000 0x400 ++ blockRegs 0x3400 0x400)) [.pump, .cast, .curt, .router] a b ∧
      ∃ l, b.router.inflight = a.router.inflight ++ { stamp := a.datum, num := 200 } :: { stamp := a.datum, num := 201 } :: l) ∧
  (∀ (s : State) (t : Nat), let a := s.advance t
    a.rotorDir = none → max a.pump.entered a.pump.watchAt + 200000000 ≤ a.elapsed →
    Completes (.rotorStandstill t) s fun b =>
      (a.pState = ps.wait → b.pState = ps.align ∧ b.pSector = (if a.pumpReverse then 6 else 1)) ∧
      (a.pState = ps.coast → a.runWanted = false → a.tableau = false →
        (b.pState = ps.off ∨ (b.pState = ps.fault ∧ b.get F.PUMP_STATUS_FAULT = 1 ∧ a.guardLatched = true) ∨
          (b.pState = ps.observe ∧ a.runRequest = true)) ∧ b.pSector = 0) ∧
      (a.pState = ps.coast → a.runWanted = true → a.pump.coast ≠ .bus → a.startOk = true → a.bit F.PUMP_STATUS_CHOP_FAULT = false →
        b.pState = ps.observe ∧ b.pump.crossings = [] ∧ b.pump.entered = a.elapsed) ∧
      (a.pState ≠ ps.wait → a.pState ≠ ps.coast → Kept [] [] a b) ∧ Kept (Reg.SCRUB_FAULT_SEEN :: (blockRegs 0x5000 0x400 ++ blockRegs 0x3400 0x400)) [.pump, .cast, .curt, .router] a b) ∧
  (∀ (s : State) (t : Nat), let a := s.advance t
    a.pState = ps.align → a.pump.entered + a.pc16 0x18 * 1000000 ≤ a.elapsed →
    Completes (.alignTime t) s fun b => b.pState = ps.ramp ∧ b.pump.forcedAt = a.elapsed ∧ b.pump.sectorAt = a.elapsed ∧
      b.pump.good = 0 ∧ Raised [(a.datum, 200, 0)] a b ∧ Kept [Reg.PUMP_STATUS] [.pump, .router] a b) ∧
  (∀ (s : State) (t : Nat), let a := s.advance t; let n := a.overlapPeriods a.forcedLen
    let good := if a.pump.zc.isSome then a.pump.good + 1 else 0
    a.pState = ps.ramp → a.pump.ovl = none → a.pump.sectorAt + a.forcedLen ≤ a.elapsed + n * a.tPwm / 2 →
    Completes (.forcedCommutation t) s fun b =>
      b.pump.ovl = some (n, 0, a.pump.duty) ∧ b.pump.good = good ∧
      (if 6 ≤ good ∧ (a.pc16 0x1C : Rat) ≤ a.forcedSpeed a.elapsed then
        b.pState = ps.run ∧ b.pump.integ = a.pump.duty ∧ b.pump.ref = a.pc16 0x1C ∧ b.pump.runAt = a.elapsed ∧
        b.get F.PUMP_STARTS_COUNT = min (a.get F.PUMP_STARTS_COUNT + 1) 0xFFFFFFFF ∧
        (a.pump.retry = true → b.get F.PUMP_TRANSIENT_COUNT = min (a.get F.PUMP_TRANSIENT_COUNT + 1) 0xFFFFFFFF) ∧
        Kept (Reg.SCRUB_FAULT_SEEN :: (blockRegs 0x5000 0x400 ++ blockRegs 0x3400 0x400)) [.pump, .cast, .curt, .router] a b
      else b.pState = ps.ramp ∧ Kept [] [.pump] a b)) ∧
  (∀ (s : State) (t : Nat), let a := s.advance t
    Completes (.commutation t) s fun b =>
      (a.pState ≠ ps.run ∨ a.tableau = true ∨ a.pump.ovl ≠ none ∨ a.pump.tEst = none → Kept [] [] a b) ∧
      (∀ c e, a.commutateAt = some c → a.pump.tEst = some e → a.pState = ps.run → a.tableau = false → a.pump.ovl = none →
        let n := a.overlapPeriods e
        (a.pSector ≠ 0 → c ≤ a.elapsed + n * a.tPwm / 2 →
          b.pump = { a.pump with ovl := some (n, 0, a.pump.duty) } ∧ Kept [] [.pump] a b) ∧
        (a.pSector ≠ 0 → a.elapsed + n * a.tPwm / 2 < c → Kept [] [] a b) ∧
        (∀ z, a.pump.crossings.getLast? = some z → a.pSector = 0 → c ≤ a.elapsed →
          b.pSector = nextSector a.pumpReverse (crossingSector a.pumpReverse z) ∧ b.pump.sectorAt = a.elapsed ∧
          Kept [Reg.PUMP_STATUS, Reg.PUMP_SECTOR] [.pump] a b))) ∧
  (∀ (s : State) (t : Nat), let a := s.advance t
    a.pState = ps.observe → a.due a.pump.locked 2000000000 = true →
    Completes (.lockRestart t) s fun b => b.pState = ps.observe ∧ b.pump.locked = none ∧ b.pump.retry = true ∧
      b.pump.entered = a.elapsed ∧ Kept [Reg.PUMP_STATUS, Reg.PUMP_SECTOR] [.pump] a b)

/-- The drive's faults, the bus and the chopper act as R515 to R518, R523 and R524 say. CHOP_CHECK outside tableau, with a mean of the bus: an
activation's wait over with the chopper active and the bus no lower is a CHOP_FAULT, a running drive coasts, and a verdict follows; not active or
lower, the activation is done with and no fault is new; a verdict's wait over with the bus higher is FAULT 4. BUS_LOW after 100 ms below BUS_MIN in
RUN: COAST, event 207 last. BUS_RECOVERED after 100 ms with the start conditions met: OBSERVE. PUMP_INPUT_TIMEOUT after 16 missing results of VBUSP or
ISHUNT outside tableau: FAULT 6 with the chopper inactive from a state that takes a fault, else nothing. PUMP_FLT_TIMEOUT outside tableau: PUMP_FLT is
1 exactly while the drive is enabled and has a fault or, asked to run, has been out of RUN for 10 s. LOCKED_ROTOR outside tableau, in RUN LOCK_TIME
after the last crossing and after the entry, or in RAMP after LOCK_TIME at OL_SPEED: counted, event 202 first; the first time the drive observes with
a restart to come, at the retry it is in FAULT 2; otherwise nothing changes. Only the PUMP block and casting's derating change.
From spec/12_coolant_pump.md, section Locked rotor (R515); spec/12_coolant_pump.md, section Braking and the chopper (R517, R518);
spec/12_coolant_pump.md, section Orders from the host (R523, R524). -/
def Obligations.PumpFaultsAndBus : Prop :=
  (∀ (s : State) (t : Nat) (m : Int), let a := s.advance t
    a.tableau = false → a.vbus8 = some m →
    Completes (.chopCheck t) s fun b => Kept (Reg.SCRUB_FAULT_SEEN :: (blockRegs 0x5000 0x400 ++ blockRegs 0x3400 0x400)) [.pump, .cast, .curt, .router] a b ∧
      (∀ ta va, a.pump.act = some (ta, va) → ta + a.pc16 0x28 * 1000 ≤ a.elapsed → b.pump.act = none ∧
        (a.bit F.PUMP_STATUS_CHOP_ACTIVE = true → va ≤ m → a.pump.verdict = none →
          b.bit F.PUMP_STATUS_CHOP_FAULT = true ∧ b.pump.verdict = some (a.elapsed, m) ∧
          (ps.observe ≤ a.pState → a.pState ≤ ps.run → b.pState = ps.coast ∧ b.pump.coast = .chopper ∧ b.pSector = 0) ∧
          ∃ l, b.router.inflight = a.router.inflight ++ { stamp := a.datum, num := 203 } :: l) ∧
        (a.bit F.PUMP_STATUS_CHOP_ACTIVE = false ∨ m < va → a.pump.verdict = none → Kept [] [.pump] a b)) ∧
      (∀ ta va, a.pump.act = some (ta, va) → a.elapsed < ta + a.pc16 0x28 * 1000 → a.pump.verdict = none → Kept [] [] a b) ∧
      (∀ tv vf, a.pump.verdict = some (tv, vf) → a.pump.act = none →
        (tv + a.pc16 0x28 * 1000 ≤ a.elapsed → b.pump.verdict = none ∧
          (vf < m → a.pState ≤ ps.coast → b.pState = ps.fault ∧ b.get F.PUMP_STATUS_FAULT = 4 ∧ b.pSector = 0) ∧
          (m ≤ vf → Kept [] [.pump] a b)) ∧
        (a.elapsed < tv + a.pc16 0x28 * 1000 → Kept [] [] a b))) ∧
  (∀ (s : State) (t : Nat), let a := s.advance t
    a.pState = ps.run → a.due (a.pump.lowSince.map (max a.pump.runAt)) 100000000 = true →
    Completes (.busLow t) s fun b => b.pState = ps.coast ∧ b.pump.coast = .bus ∧ b.pSector = 0 ∧
      Raised [(a.datum, 200, 0), (a.datum, 207, 0)] a b ∧ Kept [Reg.PUMP_STATUS, Reg.PUMP_SECTOR] [.pump, .router] a b) ∧
  (∀ (s : State) (t : Nat), let a := s.advance t
    a.pState = ps.coast → a.pump.coast = .bus → a.due a.pump.okSince 100000000 = true → a.startOk = true →
    Completes (.busRecovered t) s fun b => b.pState = ps.observe ∧ b.pump.crossings = [] ∧ b.pump.entered = a.elapsed ∧
      Raised [(a.datum, 200, 0)] a b ∧ Kept [Reg.PUMP_STATUS, Reg.PUMP_SECTOR] [.pump, .router] a b) ∧
  (∀ (s : State) (t : Nat), let a := s.advance t
    (16 ≤ a.pump.missV ∨ 16 ≤ a.pump.missI) → a.tableau = false →
    Completes (.pumpInputTimeout t) s fun b =>
      (a.pState ≤ ps.coast → b.pState = ps.fault ∧ b.get F.PUMP_STATUS_FAULT = 6 ∧ b.bit F.PUMP_STATUS_CHOP_ACTIVE = false ∧
        b.pSector = 0 ∧ Kept (Reg.SCRUB_FAULT_SEEN :: (blockRegs 0x5000 0x400 ++ blockRegs 0x3400 0x400)) [.pump, .cast, .curt, .router] a b ∧
        ∃ l, b.router.inflight = a.router.inflight ++ { stamp := a.datum, num := 200 } :: { stamp := a.datum, num := 201 } :: l) ∧
      (ps.coast < a.pState → Kept [] [] a b)) ∧
  (∀ (s : State) (t : Nat), let a := s.advance t
    let out := a.bit F.PUMP_CTRL_EN && a.pump.run && a.pState != ps.run
    a.tableau = false →
    Completes (.pumpFltTimeout t) s fun b => b.pState = a.pState ∧ Kept (Reg.SCRUB_FAULT_SEEN :: (blockRegs 0x5000 0x400 ++ blockRegs 0x3400 0x400)) [.pump, .cast, .curt, .router] a b ∧
      (b.bit F.PUMP_STATUS_PUMP_FLT = true ↔ a.bit F.PUMP_CTRL_EN = true ∧
        (a.get F.PUMP_STATUS_FAULT ≠ 0 ∨ (out = true ∧ a.due a.pump.outSince 10000000000 = true)))) ∧
  (∀ (s : State) (t : Nat), let a := s.advance t; let lock := a.pc16 0x16 * 1000000
    let last := match a.pump.crossings.getLast? with
      | some c => max a.pump.runAt c.time
      | none => a.pump.runAt
    let on := (decide (a.pState = ps.run) && decide (last + lock ≤ a.elapsed)) ||
      (decide (a.pState = ps.ramp) && decide (a.pump.forcedAt + lock ≤ a.elapsed) &&
        decide ((a.pc16 0x1C : Rat) ≤ a.forcedSpeed (a.elapsed - lock)))
    a.tableau = false →
    Completes (.lockedRotor t) s fun b =>
      (on = false → Kept [] [] a b) ∧
      (on = true → b.get F.PUMP_LOCKS_COUNT = min (a.get F.PUMP_LOCKS_COUNT + 1) 0xFFFFFFFF ∧ b.pSector = 0 ∧ Kept (Reg.SCRUB_FAULT_SEEN :: (blockRegs 0x5000 0x400 ++ blockRegs 0x3400 0x400)) [.pump, .cast, .curt, .router] a b ∧
        (a.pump.retry = true → b.pState = ps.fault ∧ b.get F.PUMP_STATUS_FAULT = 2) ∧
        (a.pump.retry = false → b.pState = ps.observe ∧ b.pump.locked = some a.elapsed) ∧
        ∃ l, b.router.inflight = a.router.inflight ++ { stamp := a.datum, num := 202 } :: l))

/-- PUMP_CTRL is taken where R503 and R504 allow it, and a PUMP_ORDER that passes its checks takes effect and ends DONE. PUMP_CTRL_WRITE outside tableau:
enabling automatic operation with a leg in per-switch mode, or changing MANUAL while enabled, with GD_EN high or with the curtain up, only sets
CFG_REJECT; any other write takes EN, CHOP_EN and MANUAL; setting MANUAL puts the drive in MANUAL with no sector driven, and clearing it leads out of
MANUAL. PUMP_ORDER whose checks pass ends DONE with DETAIL 0: TARGET 1 makes the order FIXED with its speed and direction, a change of direction of a
drive in OBSERVE to COAST starts it anew from OBSERVE (or, no run being possible, from COAST); TARGET 0, 2 and 3 make it the order of that number,
direction and speed as before; TARGET 4 clears CHOP_FAULT and, with no latch at the guard, the fault: the drive is in OFF, or where its start
conditions hold in OBSERVE. At the first check of R522 that fails it ends with that STATUS and DETAIL, and nothing else changes. Only the PUMP block,
the host interface and casting's derating change.
From spec/12_coolant_pump.md, section Commanding the bridge (R503, R504); spec/12_coolant_pump.md, section States (R520); spec/12_coolant_pump.md,
section Orders from the host (R521, R522). -/
def Obligations.PumpOrdersAndControl : Prop :=
  (∀ (s : State) (t : Nat) (data : Word), let a := s.advance t
    a.tableau = false →
    Completes (.pumpCtrlWrite t data) s fun b =>
      if (data.getLsbD 0 = true ∧ a.bit F.PUMP_CTRL_EN = false ∧ data.getLsbD 2 = false ∧ a.get F.GUARD_CFG_MODE ≠ 0) ∨
          (data.getLsbD 2 ≠ a.bit F.PUMP_CTRL_MANUAL ∧
            (a.bit F.PUMP_CTRL_EN = true ∨ a.bit F.GUARD_CTRL_GD_EN = true ∨ a.curtainDown = false)) then
        b.bit F.PUMP_STATUS_CFG_REJECT = true ∧ Kept [Reg.PUMP_STATUS] [] a b
      else b.bit F.PUMP_CTRL_EN = data.getLsbD 0 ∧ b.bit F.PUMP_CTRL_CHOP_EN = data.getLsbD 1 ∧
        b.bit F.PUMP_CTRL_MANUAL = data.getLsbD 2 ∧ Kept (Reg.SCRUB_FAULT_SEEN :: (blockRegs 0x5000 0x400 ++ blockRegs 0x3400 0x400)) [.pump, .cast, .curt, .router] a b ∧
        (data.getLsbD 2 = true → a.bit F.PUMP_CTRL_MANUAL = false → b.pState = ps.manual ∧ b.pSector = 0) ∧
        (data.getLsbD 2 = false → a.bit F.PUMP_CTRL_MANUAL = true → b.pState ≠ ps.manual ∧ b.pSector = 0)) ∧
  (∀ (s : State) (t : Nat) (d : Desc), let a := s.advance t
    let p0 := d.p0.toNat; let p1 := d.p1.toNat; let fixed := decide (d.target.toNat = 1)
    let table : List (Bool × Nat × Nat) := [(4 < d.target.toNat, st.targetRange, 0), (d.len ≠ 0, st.lenRange, 0),
      (if fixed then p0 < a.pc16 8 ∨ a.pc16 0xA < p0 ∨ 1 < p1 else p0 ≠ 0 ∨ p1 ≠ 0, st.targetRange, 0x10), (!a.curveOk, st.stateRefused, 1),
      (a.bit F.PUMP_CTRL_EN = false ∨ a.bit F.PUMP_CTRL_MANUAL = true, st.stateRefused, 2),
      (fixed ∧ (p1 == 1) ≠ a.pumpReverse ∧ (a.pc16 0x14 : Rat) < |a.pumpMeas|, st.stateRefused, 3),
      (d.target.toNat = 4 ∧ (a.pState ≠ ps.fault ∨ a.faultPresent = true), st.stateRefused, 4)]
    firstFail table = none →
    Completes (.pumpOrder t d) s fun b => Ended d st.done 0 a.datum a b ∧ Kept (Reg.SCRUB_FAULT_SEEN :: (blockRegs 0x5000 0x400 ++ blockRegs 0x3400 0x400)) (.host :: [.pump, .cast, .curt, .router]) a b ∧
      (d.target.toNat = 1 → b.get F.PUMP_CMD_ORDER = 1 ∧ b.get F.PUMP_CMD_SPEED = d.p0.toNat % 65536 ∧
        b.get F.PUMP_CMD_DIR = d.p1.toNat ∧
        ((d.p1 = 1 ↔ a.pumpReverse = false) → a.tableau = false → ps.observe ≤ a.pState → a.pState ≤ ps.coast →
          b.pSector = 0 ∧ (b.pState = ps.observe ∨ (b.pState = ps.coast ∧ a.bit F.GUARD_CTRL_GD_EN = false) ∨
            (b.pState = ps.fault ∧ a.guardLatched = true)))) ∧
      (d.target.toNat = 0 ∨ d.target.toNat = 2 ∨ d.target.toNat = 3 → b.get F.PUMP_CMD_ORDER = d.target.toNat ∧
        b.get F.PUMP_CMD_SPEED = a.get F.PUMP_CMD_SPEED ∧ b.get F.PUMP_CMD_DIR = a.get F.PUMP_CMD_DIR) ∧
      (d.target.toNat = 4 → b.reg Reg.PUMP_CMD = a.reg Reg.PUMP_CMD ∧ b.bit F.PUMP_STATUS_CHOP_FAULT = false ∧
        (a.guardLatched = false → b.get F.PUMP_STATUS_FAULT = 0 ∧ b.pSector = 0 ∧ (b.pState = ps.off ∨ b.pState = ps.observe)))) ∧
  (∀ (s : State) (t : Nat) (d : Desc) (status detail : Nat), let a := s.advance t
    let p0 := d.p0.toNat; let p1 := d.p1.toNat; let fixed := decide (d.target.toNat = 1)
    let table : List (Bool × Nat × Nat) := [(4 < d.target.toNat, st.targetRange, 0), (d.len ≠ 0, st.lenRange, 0),
      (if fixed then p0 < a.pc16 8 ∨ a.pc16 0xA < p0 ∨ 1 < p1 else p0 ≠ 0 ∨ p1 ≠ 0, st.targetRange, 0x10), (!a.curveOk, st.stateRefused, 1),
      (a.bit F.PUMP_CTRL_EN = false ∨ a.bit F.PUMP_CTRL_MANUAL = true, st.stateRefused, 2),
      (fixed ∧ (p1 == 1) ≠ a.pumpReverse ∧ (a.pc16 0x14 : Rat) < |a.pumpMeas|, st.stateRefused, 3),
      (d.target.toNat = 4 ∧ (a.pState ≠ ps.fault ∨ a.faultPresent = true), st.stateRefused, 4)]
    firstFail table = some (status, detail) →
    Completes (.pumpOrder t d) s fun b => Ended d status detail a.datum a b ∧ Kept [] [.host] a b)

/-- Doorbells move a ring's index or are refused and reported; the idle hint sets IDLE and makes gathering vectors due. DOORBELL outside tableau, byte
enables complete, the ring enabled and the value in R543's range: ring 0's PI, or another ring's CI, is the value, nothing else changes. A doorbell
that does not meet this: DB_REJECT is set, HOST_DB_REJECT counts, DOORBELL_BAD with the ring's number, no index changes. In tableau a complete
doorbell is held in its arrival place, the ring's earlier one dropped. IDLE_HINT: IDLE is bit 0 of the write; with it set, outside tableau, a vector
that gathers with a cause is due.
From spec/13_host_rings.md, section The endpoint (R534); spec/13_host_rings.md, section Rings (R543, R544); spec/13_host_rings.md, section Tableau
(R569); spec/14_interrupts_and_events.md, section Vectors (R585). -/
def Obligations.DoorbellsAndTheIdleHint : Prop :=
  (∀ (s : State) (t : Nat) (n : Fin 6) (v : Word), let a := s.advance t
    let ahead := (v.toNat + 2 ^ 32 - a.get (F.HOST_RING_CI_CI n)) % 2 ^ 32
    a.tableau = false → a.bit (F.HOST_RING_CFG_EN n) = true →
    (if n = 0 then a.ringOcc 0 ≤ ahead ∧ ahead ≤ a.ringSize 0 else ahead ≤ a.ringOcc n) →
    Completes (.doorbell t n v 15) s fun b =>
      (if n = 0 then b.get (F.HOST_RING_PI_PI 0) = v.toNat ∧ Kept [Reg.HOST_RING_PI 0] [] a b
      else b.get (F.HOST_RING_CI_CI n) = v.toNat ∧ Kept [Reg.HOST_RING_CI n] [] a b)) ∧
  (∀ (s : State) (t : Nat) (n : Fin 6) (v : Word) (be : BitVec 4), let a := s.advance t
    let ahead := (v.toNat + 2 ^ 32 - a.get (F.HOST_RING_CI_CI n)) % 2 ^ 32
    (be ≠ 15 ∨ a.tableau = false ∧ (a.bit (F.HOST_RING_CFG_EN n) = false ∨
      (if n = 0 then ahead < a.ringOcc 0 ∨ a.ringSize 0 < ahead else a.ringOcc n < ahead))) →
    Completes (.doorbell t n v be) s fun b =>
      b.bit F.HOST_STATUS_DB_REJECT = true ∧
      b.get F.HOST_DB_REJECT_COUNT = min (a.get F.HOST_DB_REJECT_COUNT + 1) 0xFFFFFFFF ∧
      Raised [(a.datum, 1, n)] a b ∧ Kept [Reg.HOST_STATUS, Reg.HOST_DB_REJECT] [.router] a b) ∧
  (∀ (s : State) (t : Nat) (n : Fin 6) (v : Word), let a := s.advance t
    a.tableau = true →
    Completes (.doorbell t n v 15) s fun b =>
      b.host = { a.host with held := (a.host.held.filter fun w => !w.isDoorbell n) ++ [.doorbell n v.toNat] } ∧
      Kept [] [.host] a b) ∧
  (∀ (s : State) (t : Nat) (data : Word), let a := s.advance t
    Completes (.idleHint t data) s fun b =>
      b.bit F.HOST_STATUS_IDLE = data.getLsbD 0 ∧
      (∀ v < 64, data.getLsbD 0 = true → a.tableau = false → (a.vec v).phase = .gather → 1 ≤ a.commitCount v →
        (b.vec v).phase = .due) ∧
      Kept [Reg.HOST_STATUS] [.router] a b ∧ (a.tableau = true → b.router = a.router))

/-- Descriptors are fetched against reserved completions, checked in order, and dispatched in ring order past fences and times. DESCRIPTOR_FETCH with ring
0 enabled, not stopped, the bus open, no tableau, fewer than 16 reads: a read of the next descriptors is issued, four at most, not past the end of the
ring nor past PI, no more than completions can be reserved; otherwise nothing changes. DESCRIPTOR_READ_COMPLETE of as many descriptors as the oldest
read asked for: CI advances by them and the read is done, a retry of it counted. Of descriptors that pass the common checks and ask for neither fence
nor time, with nothing waiting: all go to their owners in ring order. One descriptor: a failed check completes it with the first failing code; an
unmet fence holds it; a timed one joins the queue, or is TIME_PAST by the lag. TIMED_DISPATCH outside tableau: exactly the due descriptors go, by
EXEC_TIME, equal times in ring order; in tableau nothing.
From spec/13_host_rings.md, section The endpoint (R531); spec/13_host_rings.md, section Fetch, dispatch and completion slots (R545, R546);
spec/13_host_rings.md, section The descriptor (R549); spec/13_host_rings.md, section The completion (R551); spec/13_host_rings.md, section DMA faults
(R567); spec/13_host_rings.md, section Tableau (R569). -/
def Obligations.DescriptorsAreFetchedAndDispatched : Prop :=
  (∀ (s : State) (t : Nat), let a := s.advance t; let flying := (a.host.reads.map DescRead.count).sum
    let next := (a.get (F.HOST_RING_CI_CI 0) + flying) % 2 ^ 32
    let k := min (min 4 (a.ringOcc 0 - flying)) (min (a.ringSize 0 - next % a.ringSize 0) a.reservable)
    Completes (.descriptorFetch t) s fun b =>
      if a.bit (F.HOST_RING_CFG_EN 0) = true ∧ a.bit (F.HOST_RING_STATE_STOPPED 0) = false ∧ a.busOpen = true ∧ a.tableau = false ∧
          a.host.reads.length + a.host.payloads.length < 16 ∧ k ≠ 0 then
        b.host = { a.host with reads := a.host.reads ++ [{ idx := next, count := k, retried := false }] } ∧ Kept [] [.host] a b
      else Kept [] [] a b) ∧
  (∀ (s : State) (t : Nat) (ds : List Desc) (r : DescRead) (rs : List DescRead), let a := s.advance t
    a.host.reads = r :: rs → ds.length = r.count →
    Completes (.descriptorReadComplete t ds) s fun b => b.host.reads = rs ∧
      b.get (F.HOST_RING_CI_CI 0) = (a.get (F.HOST_RING_CI_CI 0) + r.count) % 2 ^ 32 ∧
      b.get F.HOST_DMA_TRANSIENT_COUNT = min (a.get F.HOST_DMA_TRANSIENT_COUNT + if r.retried then 1 else 0) 0xFFFFFFFF ∧
      b.host.writes = a.host.writes ∧ b.host.payloads = a.host.payloads ∧
      Kept [Reg.HOST_RING_CI 0, Reg.HOST_DMA_TRANSIENT, Reg.HOST_TRACE_DROP, Reg.HOST_STATUS, Reg.SCRUB_FAULT_SEEN] [.host, .router] a b) ∧
  (∀ (s : State) (t : Nat) (ds : List Desc) (r : DescRead) (rs : List DescRead), let a := s.advance t
    a.host.reads = r :: rs → ds.length = r.count → a.host.fetched = [] → a.tableau = false →
    a.bit F.HOST_TRACE_CTRL_CMD_EN = false →
    (∀ d ∈ ds, firstFail (commonChecks d) = none ∧ d.flags.getLsbD 1 = false ∧ d.flags.getLsbD 2 = false) →
    Completes (.descriptorReadComplete t ds) s fun b =>
      b.host = { a.host with reads := rs, dispatched := a.host.dispatched ++ ds } ∧
      Kept [Reg.HOST_RING_CI 0, Reg.HOST_DMA_TRANSIENT, Reg.SCRUB_FAULT_SEEN] [.host] a b) ∧
  (∀ (s : State) (t : Nat) (d : Desc) (r : DescRead) (rs : List DescRead), let a := s.advance t
    a.host.reads = r :: rs → r.count = 1 → r.retried = false → a.host.fetched = [] → a.tableau = false →
    a.bit (F.HOST_RING_CFG_EN 1) = true →
    Completes (.descriptorReadComplete t [d]) s fun b =>
      (∀ status detail, firstFail (commonChecks d) = some (status, detail) →
        b.host = { a.host with reads := rs, staged := a.host.staged ++
          [⟨1, completionBytes d.tag.toNat status detail a.datum, a.datum, false, some d, status⟩] }) ∧
      (firstFail (commonChecks d) = none → d.flags.getLsbD 1 = true → a.fenceMet = false →
        b.host = { a.host with reads := rs, fetched := [d] }) ∧
      (firstFail (commonChecks d) = none → d.flags.getLsbD 1 = false → d.flags.getLsbD 2 = true → a.host.timed.length < 64 →
        (a.datum ≤ d.execTime.toNat → b.host = { a.host with reads := rs, timed := a.host.timed ++ [d] }) ∧
        (d.execTime.toNat < a.datum → b.host = { a.host with reads := rs, staged := a.host.staged ++
          [⟨1, completionBytes d.tag.toNat st.timePast (min 0xFFFFFFFF (a.datum - d.execTime.toNat)) a.datum, a.datum, false,
            some d, st.timePast⟩] }))) ∧
  (∀ (s : State) (t : Nat), let a := s.advance t
    Completes (.timedDispatch t) s fun b =>
      if a.tableau then Kept [] [] a b
      else Kept [Reg.HOST_TRACE_DROP, Reg.HOST_STATUS] [.host, .router] a b ∧
        b.host = { a.host with timed := a.host.timed.filter fun d => a.datum < d.execTime.toNat
                               dispatched := b.host.dispatched, staged := b.host.staged
                               traceArmed := b.host.traceArmed, fullArmed := b.host.fullArmed } ∧
        (a.bit F.HOST_TRACE_CTRL_CMD_EN = false → b.host.staged = a.host.staged ∧ Kept [] [.host] a b) ∧
        ∃ l : List Desc, b.host.dispatched = a.host.dispatched ++ l ∧
          l.Pairwise (fun x y => x.execTime.toNat ≤ y.execTime.toNat) ∧
          ∀ τ, l.filter (fun d => d.execTime == τ) = a.host.timed.filter fun d => d.execTime == τ && decide (τ.toNat ≤ a.datum))

/-- A failed read is retried once and is then lasting; link and bus changes act on what waits. COMPLETION_TIMEOUT of a descriptor read, or of one 128-byte
block of a payload read, not yet retried: it is retried, nothing else. Of a retried descriptor read: address and kind are recorded, DMA_FAULT counts
and is raised, ring 0 stops, that read and those after it are gone; of a retried block of a payload: recorded with the address of that block and
raised likewise, and the command completes with DMA_FAULT. Of a read that is not in flight: nothing. BUS_MASTER_ENABLE: BME and the power state are
taken; with the bus open what has waited is written in its order. LINK_DOWN: every ring is disabled, all commands, reads and staged entries are
dropped, the event records among them counted and their numbers given back, LINK_LOST, LINK_CHANGE. LINK_UP: LINK_UP and SPEED, LINK_CHANGE.
From spec/13_host_rings.md, section The endpoint (R535, R536); spec/13_host_rings.md, section DMA faults (R567). -/
def Obligations.ReadFailuresAndTheHostLost : Prop :=
  (∀ (s : State) (t : Nat) (i : Nat) (k : BitVec 2) (r : DescRead), let a := s.advance t
    a.host.reads.find? (fun r => r.idx == i) = some r →
    Completes (.completionTimeout t (.descr i) k) s fun b =>
      (r.retried = false → b.host = { a.host with
        reads := a.host.reads.map fun x => if x.idx == i then { x with retried := true } else x } ∧ Kept [] [.host] a b) ∧
      (r.retried = true →
        b.host = { a.host with reads := a.host.reads.takeWhile fun x => x.idx != i } ∧
        b.bit (F.HOST_RING_STATE_STOPPED 0) = true ∧ b.bit F.HOST_STATUS_DMA_FAULT = true ∧
        b.pair Reg.HOST_FAULT_ADDR_LO = (a.pair (Reg.HOST_RING_BASE_LO 0) + 32 * (i % a.ringSize 0)) % 2 ^ 64 ∧
        b.get F.HOST_FAULT_KIND = k.toNat ∧ b.bit F.HOST_FAULT_PAYLOAD = false ∧
        b.get F.HOST_DMA_FAULTS_COUNT = min (a.get F.HOST_DMA_FAULTS_COUNT + 1) 0xFFFFFFFF ∧ Raised [(a.datum, 2, 0)] a b ∧
        Kept [Reg.HOST_STATUS, Reg.HOST_FAULT, Reg.HOST_FAULT_ADDR_LO, Reg.HOST_FAULT_ADDR_HI, Reg.HOST_DMA_FAULTS,
          Reg.HOST_RING_STATE 0, Reg.SCRUB_FAULT_SEEN] [.host, .router] a b)) ∧
  (∀ (s : State) (t block : Nat) (d : Desc) (k : BitVec 2) (r : PayRead), let a := s.advance t
    a.host.payloads.find? (fun r => r.desc == d) = some r → 128 * block < d.len.toNat →
    Completes (.completionTimeout t (.payload d block) k) s fun b =>
      (block ∉ r.retried → b.host = { a.host with
        payloads := a.host.payloads.erase r ++ [{ r with retried := block :: r.retried }] } ∧ Kept [] [.host] a b) ∧
      (block ∈ r.retried →
        Ended d st.dmaFault k.toNat a.datum { a with host := { a.host with payloads := a.host.payloads.erase r } } b ∧
        b.bit F.HOST_STATUS_DMA_FAULT = true ∧ b.pair Reg.HOST_FAULT_ADDR_LO = (d.hostAddr.toNat + 128 * block) % 2 ^ 64 ∧
        b.get F.HOST_FAULT_KIND = k.toNat ∧ b.bit F.HOST_FAULT_PAYLOAD = true ∧
        b.get F.HOST_DMA_FAULTS_COUNT = min (a.get F.HOST_DMA_FAULTS_COUNT + 1) 0xFFFFFFFF ∧ Raised [(a.datum, 2, 7)] a b ∧
        Kept [Reg.HOST_STATUS, Reg.HOST_FAULT, Reg.HOST_FAULT_ADDR_LO, Reg.HOST_FAULT_ADDR_HI, Reg.HOST_DMA_FAULTS,
          Reg.SCRUB_FAULT_SEEN] [.host, .router] a b)) ∧
  (∀ (s : State) (t : Nat) (x : ReadId) (k : BitVec 2), let a := s.advance t
    (match x with
      | .descr i => ∀ r ∈ a.host.reads, r.idx ≠ i
      | .payload d _ => ∀ r ∈ a.host.payloads, r.desc ≠ d) →
    Completes (.completionTimeout t x k) s fun b => Kept [] [] a b) ∧
  (∀ (s : State) (t : Nat) (bme d3 : Bool), let a := s.advance t
    Completes (.busMasterEnable t bme d3) s fun b =>
      b.bit F.HOST_STATUS_BME = bme ∧
      b.host = (if bme && !d3 then { a.host with d3hot := d3, writes := a.host.writes ++ a.host.outbox, outbox := [] }
        else { a.host with d3hot := d3 }) ∧ Kept [Reg.HOST_STATUS] [.host] a b) ∧
  (∀ (s : State) (t : Nat), let a := s.advance t
    Completes (.linkDown t) s fun b =>
      (∀ n < 6, b.bit (F.HOST_RING_CFG_EN n) = false ∧ b.get (F.HOST_RING_CFG_LOG2 n) = a.get (F.HOST_RING_CFG_LOG2 n)) ∧
      b.host = { a.host with reads := [], payloads := [], fetched := [], timed := [], dispatched := [], staged := [],
                             outbox := [], traceArmed := b.host.traceArmed } ∧
      b.get F.EVENT_REC_DROP_COUNT = min (a.get F.EVENT_REC_DROP_COUNT + (a.stagedFor 2).length) 0xFFFFFFFF ∧
      b.get F.EVENT_REC_SEQ_SEQ = (a.get F.EVENT_REC_SEQ_SEQ + 2 ^ 32 - (a.stagedFor 2).length % 2 ^ 32) % 2 ^ 32 ∧
      b.bit F.HOST_STATUS_LINK_UP = false ∧ b.get F.HOST_STATUS_SPEED = 0 ∧ b.bit F.HOST_STATUS_LINK_LOST = true ∧
      (∃ l, b.router.inflight = a.router.inflight ++ l ++ [{ stamp := a.datum, num := 5 }]) ∧
      Kept ([Reg.HOST_STATUS, Reg.SCRUB_FAULT_SEEN, Reg.EVENT_REC_DROP, Reg.EVENT_REC_SEQ, Reg.EVENT_STATUS, Reg.HOST_TRACE_DROP] ++
        (List.range 6).map Reg.HOST_RING_CFG) [.host, .router, .meter] a b) ∧
  (∀ (s : State) (t : Nat) (g : Bool), let a := s.advance t
    Completes (.linkUp t g) s fun b =>
      b.bit F.HOST_STATUS_LINK_UP = true ∧ b.get F.HOST_STATUS_SPEED = (if g then 2 else 1) ∧ Raised [(a.datum, 5, 0)] a b ∧
      Kept [Reg.HOST_STATUS] [.router] a b)

/-- A table is loaded only whole and only when every check passes, reads back as loaded, and is checked against its CRC. TABLE_LOAD: the first failing
check of ids, ranges and lengths completes it with its code, as do the gate of its owner and, with the payload, the table's own checks; nothing else
changes. Passing, without the payload: its read is issued. With it, for every table: the bytes read back, the rest of the table (but entries a roster
load zeroes in MPPT_PARAM) and every other table are as before, its OK bit is set, its CRC is of what it holds, the command ends DONE; for VAR_CURVE,
CAST_WEIGHTS and MPPT_PARAM nothing else changes. PAYLOAD_READ_COMPLETE does the same when the read brings it, each retry counted, or ends it with the
code of the failing check. TABLE_READ writes the bytes to the host, now or when the bus opens, or ends at its first failing check.
TABLE_INTEGRITY_CHECK after its upsets (m, n): nothing wrong, nothing else changes; a working copy that fails is taken from the stored copy; where
that fails too the table is invalid and TABLE_FAULT is raised.
From spec/13_host_rings.md, section Opcodes (R558, R561); spec/13_host_rings.md, section DMA faults (R567). -/
def Obligations.TablesAreLoadedReadAndChecked : Prop :=
  (∀ (s : State) (t : Nat) (d : Desc) (p : Option (List Byte)) (status detail : Nat), let a := s.advance t
    (firstFail (tableChecks d) = some (status, detail) ∨ firstFail (tableChecks d) = none ∧
      (a.loadGate d.target.toNat d.p0.toNat d.len.toNat = some (status, detail) ∨
        a.loadGate d.target.toNat d.p0.toNat d.len.toNat = none ∧ ∃ l code item, p = some l ∧ l.length = d.len.toNat ∧
          a.tableBad d.target.toNat d.p0.toNat l = some (code, item) ∧ status = st.tableCheck ∧ detail = 256 * code + item)) →
    Completes (.tableLoad t d p) s fun b => Ended d status detail a.datum a b ∧ Kept [] [.host] a b) ∧
  (∀ (s : State) (t : Nat) (d : Desc), let a := s.advance t
    firstFail (tableChecks d) = none → a.loadGate d.target.toNat d.p0.toNat d.len.toNat = none →
    Completes (.tableLoad t d none) s fun b =>
      b.host = { a.host with payloads := a.host.payloads ++ [{ desc := d, retried := [] }] } ∧ Kept [] [.host] a b) ∧
  (∀ (s : State) (t : Nat) (d : Desc) (l : List Byte), let a := s.advance t; let id := d.target.toNat; let off := d.p0.toNat
    firstFail (tableChecks d) = none → l.length = d.len.toNat → a.loadGate id off l.length = none → a.tableBad id off l = none →
    Completes (.tableLoad t d (some l)) s fun b =>
      (∀ o, b.tbl8 id o = if off ≤ o ∧ o < off + l.length then (l.getD (o - off) 0).toNat else a.tbl8 id o) ∧
      (∀ id' o, id' ≠ id → (id = tid.roster → id' ≠ tid.mpptParam) → b.tbl8 id' o = a.tbl8 id' o) ∧
      b.tableOk id = true ∧ (b.tableMem id).crc = b.tableCrc id ∧ Ended d st.done 0 a.datum a b ∧
      (id = tid.varCurve ∨ id = tid.castWeights → Kept [Reg.HOST_TABLE_OK] [.tables, .host] a b) ∧
      (id = tid.mpptParam → Kept [Reg.HOST_TABLE_OK] [.tables, .host, .pwr] a b)) ∧
  (∀ (s : State) (t : Nat) (d : Desc) (l : List Byte) (r : PayRead), let a := s.advance t
    let id := d.target.toNat; let off := d.p0.toNat; let m := { a with host := { a.host with payloads := a.host.payloads.erase r } }
    a.host.payloads.find? (fun r => r.desc == d) = some r → d.opc = 2 → l.length = d.len.toNat →
    Completes (.payloadReadComplete t d l) s fun b =>
      b.get F.HOST_DMA_TRANSIENT_COUNT = min (a.get F.HOST_DMA_TRANSIENT_COUNT + r.retried.length) 0xFFFFFFFF ∧
      (∀ status detail, (a.loadGate id off l.length = some (status, detail) ∨ (a.loadGate id off l.length = none ∧ status = st.tableCheck ∧
          ∃ x, a.tableBad id off l = some x ∧ detail = 256 * x.1 + x.2)) →
        Ended d status detail a.datum m b ∧ Kept [Reg.HOST_DMA_TRANSIENT, Reg.SCRUB_FAULT_SEEN] [.host] a b) ∧
      (a.loadGate id off l.length = none → a.tableBad id off l = none →
        (∀ o, b.tbl8 id o = if off ≤ o ∧ o < off + l.length then (l.getD (o - off) 0).toNat else a.tbl8 id o) ∧
        b.tableOk id = true ∧ Ended d st.done 0 a.datum m b ∧
        (id = tid.varCurve ∨ id = tid.castWeights →
          Kept [Reg.HOST_TABLE_OK, Reg.HOST_DMA_TRANSIENT, Reg.SCRUB_FAULT_SEEN] [.tables, .host] a b))) ∧
  (∀ (s : State) (t : Nat) (d : Desc), let a := s.advance t
    let bytes := (List.range d.len.toNat).map fun i => BitVec.ofNat 8 (a.tbl8 d.target.toNat (d.p0.toNat + i))
    firstFail (tableChecks d) = none →
    Completes (.tableRead t d) s fun b => Kept [] [.host] a b ∧
      (a.busOpen = true → Ended d st.done 0 a.datum
        { a with host := { a.host with writes := a.host.writes ++ [⟨d.hostAddr.toNat, bytes⟩] } } b) ∧
      (a.busOpen = false → Ended d st.done 0 a.datum
        { a with host := { a.host with outbox := a.host.outbox ++ [⟨d.hostAddr.toNat, bytes⟩] } } b)) ∧
  (∀ (s : State) (t : Nat) (d : Desc) (status detail : Nat), let a := s.advance t
    firstFail (tableChecks d) = some (status, detail) →
    Completes (.tableRead t d) s fun b => Ended d status detail a.datum a b ∧ Kept [] [.host] a b) ∧
  (∀ (s : State) (t : Nat) (us : List TableUpset), let a := s.advance t; let m := a.each us State.upset
    (∀ id ∈ checkedIds, m.tableOk id = true → m.tableCrc id = (m.tableMem id).crc) →
    Completes (.tableIntegrityCheck t us) s fun b => b.tables = m.tables ∧ Kept [] [.tables] a b) ∧
  (∀ (s : State) (t id : Nat) (us : List TableUpset), let a := s.advance t; let n := a.each us State.upset; let m := n.tableMem id
    let crc := crc32 ((List.range (tableSize id)).map fun o => Sparse.get (tableReset id) m.stored o)
    id ∈ checkedIds → n.tableOk id = true → n.tableCrc id ≠ m.crc →
    (∀ id' ∈ checkedIds, id' ≠ id → n.tableOk id' = true → n.tableCrc id' = (n.tableMem id').crc) →
    Completes (.tableIntegrityCheck t us) s fun b =>
      (∀ o, b.tbl8 id o = (Sparse.get (tableReset id) m.stored o).toNat) ∧
      (crc = m.crc → b.tableOk id = true ∧
        b.get F.HOST_TABLE_TRANSIENT_COUNT = min (a.get F.HOST_TABLE_TRANSIENT_COUNT + 1) 0xFFFFFFFF ∧
        Kept [Reg.HOST_TABLE_TRANSIENT, Reg.SCRUB_FAULT_SEEN] [.tables] a b) ∧
      (crc ≠ m.crc → b.tableOk id = false ∧
        ∃ l, b.router.inflight = a.router.inflight ++ { stamp := a.datum, num := 4, inst := id } :: l))

/-- NOP, STATS_READ, SELFTEST and MODE_SET do what their rules say, or complete with the first failing code. NOP with zero operands completes at once with
DONE; another with the code of its first nonzero operand. STATS_READ of a range of one block writes the registers as they show now (at once, or when
the bus opens) and is done. SELFTEST 1 waits for the seal engine; 2 with every table right is done; 3 begins a sweep where none was asked for, and
else waits for its own. STATS_READ, SELFTEST and MODE_SET end at their first failing check with its code. MODE_SET with the curtain down, and for
service with SAFETY_PARAM valid: the other mode is taken, ARMED and noted edges are cleared, MODE_CHANGE; the present mode is done without effect;
with the curtain up it is refused with DETAIL 1.
From spec/13_host_rings.md, section Opcodes (R557, R565, R566); spec/15_power_clocks_startup.md, section Modes and tableau (R605, R606). -/
def Obligations.SmallCommandsComplete : Prop :=
  (∀ (s : State) (t : Nat) (d : Desc), let a := s.advance t
    Completes (.nop t d) s fun b =>
      Ended d (if d.target ≠ 0 then st.targetRange else if d.len ≠ 0 then st.lenRange
        else if d.p0 ≠ 0 ∨ d.p1 ≠ 0 then st.targetRange else st.done) 0 a.datum a b ∧ Kept [] [.host] a b) ∧
  (∀ (s : State) (t : Nat) (d : Desc) (status detail : Nat), let a := s.advance t; let lo := d.p0.toNat; let len := d.len.toNat
    let checks : List (Bool × Nat × Nat) := [(d.target ≠ 0, st.targetRange, 0), (d.p1 ≠ 0, st.targetRange, 0x10),
      (len = 0 ∨ 2048 < len ∨ len % 4 ≠ 0, st.lenRange, 0), (lo % 4 ≠ 0 ∨ oneBlock lo len = false, st.targetRange, 0x11)]
    let bytes := (List.range (len / 4)).flatMap fun i => leBytes 4 (a.liveReg (lo + 4 * i)).toNat
    Completes (.statsRead t d) s fun b => Kept [] [.host] a b ∧
      (firstFail checks = some (status, detail) → Ended d status detail a.datum a b) ∧
      (firstFail checks = none → a.busOpen = true → Ended d st.done 0 a.datum
        { a with host := { a.host with writes := a.host.writes ++ [⟨d.hostAddr.toNat, bytes⟩] } } b) ∧
      (firstFail checks = none → a.busOpen = false → Ended d st.done 0 a.datum
        { a with host := { a.host with outbox := a.host.outbox ++ [⟨d.hostAddr.toNat, bytes⟩] } } b)) ∧
  (∀ (s : State) (t : Nat) (d : Desc) (us : List TableUpset), let a := s.advance t
    d.target = 1 → d.len = 0 → d.p0 = 0 → d.p1 = 0 →
    Completes (.selftest t d us) s fun b =>
      b.host = { a.host with tests := { a.host.tests with sealKat := a.host.tests.sealKat ++ [d] } } ∧ Kept [] [.host] a b) ∧
  (∀ (s : State) (t : Nat) (d : Desc) (us : List TableUpset), let a := s.advance t; let m := a.each us State.upset
    d.target = 2 → d.len = 0 → d.p0 = 0 → d.p1 = 0 →
    (∀ id ∈ checkedIds, m.tableOk id = true → m.tableCrc id = (m.tableMem id).crc) → (m.paramOk = true → m.paramCrcOk = true) →
    Completes (.selftest t d us) s fun b => b.tables = m.tables ∧ Ended d st.done 0 a.datum a b ∧ Kept [] [.tables, .host] a b) ∧
  (∀ (s : State) (t : Nat) (d : Desc) (us : List TableUpset), let a := s.advance t
    d.target = 3 → d.len = 0 → d.p0 = 0 → d.p1 = 0 →
    Completes (.selftest t d us) s fun b =>
      b.host = { a.host with tests := { a.host.tests with sweep := a.host.tests.sweep ++ [d] } } ∧
      (a.host.tests.sweep ≠ [] → Kept [] [.host] a b) ∧
      (a.host.tests.sweep = [] → b.bit F.SCRUB_STATUS_SWEEP_BUSY = true ∧
        b.scrub = { a.scrub with word := 0, start := some a.elapsed, lastRead := a.elapsed, corrected := 0, raised := false } ∧
        Kept [Reg.SCRUB_STATUS] [.host, .scrub] a b)) ∧
  (∀ (s : State) (t : Nat) (d : Desc) (us : List TableUpset) (status detail : Nat), let a := s.advance t
    firstFail [(3 < d.target.toNat, st.targetRange, 0), (d.len ≠ 0, st.lenRange, 0), (d.p0 ≠ 0 ∨ d.p1 ≠ 0, st.targetRange, 0x10)] =
      some (status, detail) →
    Completes (.selftest t d us) s fun b => Ended d status detail a.datum a b ∧ Kept [] [.host] a b) ∧
  (∀ (s : State) (t : Nat) (d : Desc) (status detail : Nat), let a := s.advance t; let on := d.target == 1
    let checks : List (Bool × Nat × Nat) := [(1 < d.target.toNat, st.targetRange, 0), (d.len ≠ 0, st.lenRange, 0),
      (d.p0 ≠ 0 ∨ d.p1 ≠ 0, st.targetRange, 0x10), (!a.curtainDown, st.stateRefused, 1), (on ∧ a.paramOk = false, st.stateRefused, 2)]
    Completes (.modeSet t d) s fun b =>
      (firstFail checks = some (status, detail) → Ended d status detail a.datum a b ∧ Kept [] [.host] a b) ∧
      (firstFail checks = none → Ended d st.done 0 a.datum a b ∧ b.service = on ∧
        (a.service = on → Kept [] [.host] a b) ∧
        (a.service ≠ on → b.armed = false ∧ b.curt.edgeA = false ∧ b.curt.edgeB = none ∧ b.curtain = a.curtain ∧
          b.btrip = a.btrip ∧ b.curt.kdrva = a.curt.kdrva ∧ b.curt.kdrvb = a.curt.kdrvb ∧ b.curt.causes = a.curt.causes ∧
          Raised [(a.datum, 17, 0)] a b ∧ Kept [Reg.CURTAIN_STATUS] [.host, .router, .curt] a b)))

/-- Rings are enabled and sized only as R541 allows, and an entry becomes visible by its phase dword last. RING_ENABLE outside tableau, of a size R541
allows: enabling sets both indices and the ring's state to 0; a refused write sets CFG_REJECT and changes nothing else; disabling drops the ring's
staged entries, event records counted as dropped; a write that leaves it enabled changes nothing. RING_WRITE of ring 2 with the bus open: the oldest
staged record is written but for its last dword, then that dword with the phase bit, at PI's slot, and PI advances; so for rings 3 and 5, and for ring
4, whose phase dword stands at 0x40, with the bytes after it before that dword. Of ring 1, once R71 permits: bytes 4 to 15, then dword 0 with the
phase bit in byte 3, PI advances, HOST_CMDS counts, and CMD_DONE is raised where FLAGS bit 0 asks for it. In tableau, with the bus closed, nothing
staged, the ring disabled or R71 not permitting, nothing is written.
From spec/02_datum_time_and_meridian.md, section Stamping and ordering events (R71); spec/13_host_rings.md, section Rings (R537, R539, R540, R541,
R542); spec/13_host_rings.md, section The completion (R552); spec/13_host_rings.md, section Tableau (R569). -/
def Obligations.RingsAreSetUpAndWritten : Prop :=
  (∀ (s : State) (t : Nat) (n : Fin 6) (data : Word), let a := s.advance t
    a.tableau = false →
    Completes (.ringEnable t n data) s fun b =>
      (a.ringCfgRefused n data = true → b.bit F.HOST_STATUS_CFG_REJECT = true ∧ Kept [Reg.HOST_STATUS] [] a b) ∧
      (a.ringCfgRefused n data = false → a.bit (F.HOST_RING_CFG_EN n) = false → data.getLsbD 31 = true →
        b.bit (F.HOST_RING_CFG_EN n) = true ∧ b.get (F.HOST_RING_CFG_LOG2 n) = data.toNat % 32 ∧
        b.get (F.HOST_RING_PI_PI n) = 0 ∧ b.get (F.HOST_RING_CI_CI n) = 0 ∧ b.reg (Reg.HOST_RING_STATE n) = 0 ∧
        Kept [Reg.HOST_RING_CFG n, Reg.HOST_RING_PI n, Reg.HOST_RING_CI n, Reg.HOST_RING_STATE n] [] a b) ∧
      (a.ringCfgRefused n data = false → a.bit (F.HOST_RING_CFG_EN n) = true → data.getLsbD 31 = true → Kept [] [] a b) ∧
      (a.ringCfgRefused n data = false → data.getLsbD 31 = false →
        b.bit (F.HOST_RING_CFG_EN n) = false ∧ b.get (F.HOST_RING_CFG_LOG2 n) = data.toNat % 32 ∧
        b.stagedFor n = [] ∧ (∀ k, k ≠ n.val → k ≠ 2 → b.stagedFor k = a.stagedFor k) ∧
        (n = 2 → b.get F.EVENT_REC_DROP_COUNT = min (a.get F.EVENT_REC_DROP_COUNT + (a.stagedFor 2).length) 0xFFFFFFFF) ∧
        (n ≠ 2 → (b.stagedFor 2).length = (a.stagedFor 2).length) ∧ b.host.reads = (if n = 0 then [] else a.host.reads) ∧
        b.host.fetched = a.host.fetched ∧ b.host.dispatched = a.host.dispatched ∧ b.host.payloads = a.host.payloads ∧
        Kept [Reg.HOST_RING_CFG n, Reg.EVENT_REC_DROP, Reg.EVENT_REC_SEQ, Reg.EVENT_STATUS, Reg.HOST_TRACE_DROP, Reg.HOST_STATUS]
          [.host, .router, .meter] a b)) ∧
  (∀ (s : State) (t : Nat) (n : Fin 6) (e : StagedEntry) (es : List StagedEntry), let a := s.advance t
    let p := a.get (F.HOST_RING_PI_PI n); let size := if n = 3 then 64 else if n = 4 then 128 else 32
    let pos := if n = 3 then 0x3C else if n = 4 then 0x40 else 0x1C
    let at0 := a.pair (Reg.HOST_RING_BASE_LO n) + size * (p % a.ringSize n)
    2 ≤ n.val → a.stagedFor n = e :: es → a.busOpen = true → a.tableau = false → a.bit (F.HOST_RING_CFG_EN n) = true → e.cmd = none →
    Completes (.ringWrite t n) s fun b =>
      b.host.writes = a.host.writes ++ [{ addr := at0, bytes := e.body.take pos }] ++
        (if n = 4 then [{ addr := at0 + 0x44, bytes := e.body.drop 0x44 }] else []) ++
        [{ addr := at0 + pos, bytes := BitVec.ofNat 8 (if p / a.ringSize n % 2 = 0 then 1 else 0) ::
            (e.body.extract pos (pos + 4)).drop 1 }] ∧
      b.host.staged = a.host.staged.erase e ∧ b.get (F.HOST_RING_PI_PI n) = (p + 1) % 2 ^ 32 ∧
      Kept [Reg.HOST_RING_PI n] [.host] a b) ∧
  (∀ (s : State) (t : Nat) (e : StagedEntry) (es : List StagedEntry) (d : Desc), let a := s.advance t
    let p := a.get (F.HOST_RING_PI_PI 1); let at0 := a.pair (Reg.HOST_RING_BASE_LO 1) + 16 * (p % a.ringSize 1)
    a.stagedFor 1 = e :: es → a.busOpen = true → a.tableau = false → a.bit (F.HOST_RING_CFG_EN 1) = true →
    a.eventsWritten e.stamp = true → e.cmd = some d →
    Completes (.ringWrite t 1) s fun b =>
      b.host.writes = a.host.writes ++ [{ addr := at0 + 4, bytes := e.body.drop 4 },
        { addr := at0, bytes := (e.body.extract 0 4).take 3 ++
            [BitVec.ofNat 8 (if p / a.ringSize 1 % 2 = 0 then 1 else 0)] }] ∧
      b.get (F.HOST_RING_PI_PI 1) = (p + 1) % 2 ^ 32 ∧ b.get F.HOST_CMDS_COUNT = min (a.get F.HOST_CMDS_COUNT + 1) 0xFFFFFFFF ∧
      (a.bit F.HOST_TRACE_CTRL_CMD_EN = false → a.host.fetched = [] → b.host.staged = a.host.staged.erase e ∧
        Raised (if d.flags.getLsbD 0 then [(a.datum, 0, 0)] else []) a b ∧
        Kept [Reg.HOST_RING_PI 1, Reg.HOST_CMDS] [.host, .router] a b) ∧
      Kept [Reg.HOST_RING_PI 1, Reg.HOST_CMDS, Reg.HOST_TRACE_DROP, Reg.HOST_STATUS] [.host, .router] a b) ∧
  (∀ (s : State) (t : Nat) (n : Fin 6), let a := s.advance t
    (a.tableau = true ∨ a.busOpen = false ∨ a.stagedFor n = [] ∨ a.bit (F.HOST_RING_CFG_EN n) = false ∨
      (n = 1 ∧ ∃ e ∈ (a.stagedFor n).head?, a.eventsWritten e.stamp = false)) →
    Completes (.ringWrite t n) s fun b => Kept [] [] a b)

/-- Events wait in the router, are released in stamp order, and leave records, causes and sink outputs. EVENT_ARRIVAL of an event, one on its way or
another; m is the state without it on its way. Outside tableau, at or after the horizon and not marked late by a step: held in R66 order, nothing else
changes. Before the horizon, or so marked: DATUM_LATE_COUNT counts and the event is released at once, LATE. In tableau: held while fewer than 256 have
come, else EVENT_HOLD_DROP and HOLD_LOST. EVENT_RELEASE outside tableau: what is stamped before the horizon is released, each once, in the order of
stamp, number, instance, what remains stays held; of one such event the release does what Released says; in tableau nothing. Released events to be
recorded that no sink takes and no target wants, with room on ring 2: one record each, in that order, numbered on from EVENT_REC_SEQ. One released
event aimed at no vector, no sink taking it and ring 2 disabled: a cause is added to its source alone; its record is dropped and counted; aimed at the
safety processor it joins that queue. Released: a cause more at the source, up to 255, an idle vector it counts for gathers or is due, the record on
ring 2 or its drop, the queue of the safety processor or SP_DROP, and each sink without combined inputs as R594 and R595 say. SINK_WINDOW_CLOSE when
the release instant has reached the window's end: the window is closed, the inputs seen in it forgotten, EVENT_WIN_LOST counts; before the end,
without a window, or in tableau nothing changes. SINK_PULSE_END at or after the pulse's end: the pin is low and no pulse runs; in tableau the pin
keeps its level. EVENT_RELEASE of one event taken by enabled inputs of one ANY sink of 16 to 59: that sink's output count advances, wrapping.
From spec/02_datum_time_and_meridian.md, section Stamping and ordering events (R66, R67, R69); spec/14_interrupts_and_events.md, section Release
(R577, R578, R579); spec/14_interrupts_and_events.md, section Targets and masks (R583); spec/14_interrupts_and_events.md, section The safety processor
(R590); spec/14_interrupts_and_events.md, section Sink ports (R592, R594, R595); spec/14_interrupts_and_events.md, section Tableau (R596). -/
def Obligations.EventsAreReleasedAndTaken : Prop :=
  (∀ (s : State) (t : Nat) (e : Event), let a := s.advance t
    let known := a.router.inflight.find? fun x => x.stamp == e.stamp && x.num == e.num && x.inst == e.inst
    let m := match known with
      | some x => { a with router := { a.router with inflight := a.router.inflight.erase x } }
      | none => a
    let late := known.any Event.late; let e' : Event := { e with late := false, held := false }
    Completes (.eventArrival t e) s fun b =>
      (a.tableau = false → a.horizon ≤ e.stamp → late = false →
        b.router = { m.router with held := insertEvent e' a.router.held } ∧ Kept [] [.router] a b) ∧
      (a.tableau = true → a.router.tabArrivals < 256 →
        b.router = { m.router with held := insertEvent e' a.router.held, tabArrivals := a.router.tabArrivals + 1 } ∧
        Kept [] [.router] a b) ∧
      (a.tableau = true → 256 ≤ a.router.tabArrivals → b.router = m.router ∧
        b.get F.EVENT_HOLD_DROP_COUNT = min (a.get F.EVENT_HOLD_DROP_COUNT + 1) 0xFFFFFFFF ∧
        b.bit F.EVENT_STATUS_HOLD_LOST = true ∧ Kept [Reg.EVENT_HOLD_DROP, Reg.EVENT_STATUS] [.router] a b) ∧
      (a.tableau = false → e.stamp < a.horizon ∨ late = true →
        Released { e' with late := true } (m.count F.DATUM_LATE_COUNT_COUNT) b)) ∧
  (∀ (s : State) (t : Nat), let a := s.advance t; let out := a.router.held.filter fun e => e.stamp < a.horizon
    let m := { a with router := { a.router with held := a.router.held.filter fun e => a.horizon ≤ e.stamp } }
    Completes (.eventRelease t) s fun b =>
      (a.tableau = true → Kept [] [] a b) ∧
      (a.tableau = false → b.router.held = m.router.held ∧
        (sortEvents out).Perm out ∧ (sortEvents out).Pairwise (fun x y => eventBefore x y) ∧ Kept [] [] (m.each (sortEvents out) State.release) b ∧
        (∀ e, out = [e] → Released e m b))) ∧
  (∀ (s : State) (t : Nat), let a := s.advance t; let out := a.router.held.filter fun e => e.stamp < a.horizon
    a.tableau = false → a.bit (F.HOST_RING_CFG_EN 2) = true → a.router.dropped = 0 →
    a.ringOcc 2 + (a.stagedFor 2).length + out.length ≤ a.ringSize 2 →
    (∀ e ∈ out, e.num < 256 ∧ a.ibit (F.EVENT_RECORD_REC (e.num / 32)) (e.num % 32) = true ∧ a.target e.num = 0 ∧
      ∀ k < 64, a.sinkTakes k e = []) →
    Completes (.eventRelease t) s fun b => ∃ l : List Event, l.Perm out ∧ l.Pairwise (fun x y => eventBefore x y) ∧
      b.host.staged = a.host.staged ++ l.zipIdx.map (fun (e, i) =>
        ⟨2, recordBytes e ((a.get F.EVENT_REC_SEQ_SEQ + i) % 2 ^ 32) 0, e.stamp, e.late, none, 0⟩) ∧
      b.get F.EVENT_REC_SEQ_SEQ = (a.get F.EVENT_REC_SEQ_SEQ + out.length) % 2 ^ 32 ∧
      Kept [Reg.EVENT_REC_SEQ] [.router, .host] a b) ∧
  (∀ (s : State) (t : Nat) (e : Event), let a := s.advance t
    let rec1 := a.ibit (F.EVENT_RECORD_REC (e.num / 32)) (e.num % 32)
    a.tableau = false → a.router.held.filter (fun e => e.stamp < a.horizon) = [e] → e.num < 256 → e.num ≠ 9 →
    (∀ k < 64, a.sinkTakes k e = []) → a.bit (F.HOST_RING_CFG_EN 2) = false → a.router.spQueue.length < 32 →
    (a.target e.num = 0 ∨ a.target e.num = 0x80) →
    Completes (.eventRelease t) s fun b =>
      b.causes e.num = min 255 (a.causes e.num + 1) ∧ (∀ src, src ≠ e.num → b.causes src = a.causes src) ∧
      b.router.spQueue = a.router.spQueue ++ (if a.target e.num = 0x80 then [e] else []) ∧
      b.get F.EVENT_REC_DROP_COUNT = min (a.get F.EVENT_REC_DROP_COUNT + if rec1 then 1 else 0) 0xFFFFFFFF ∧
      (rec1 = true → b.bit F.EVENT_STATUS_REC_LOST = true ∧ b.router.dropped = min 0xFFFFFFFF (a.router.dropped + 1)) ∧
      Kept [Reg.EVENT_REC_DROP, Reg.EVENT_STATUS] [.router] a b) ∧
  (∀ (s : State) (t : Nat) (k : Fin 64), let a := s.advance t
    Completes (.sinkWindowClose t k) s fun b =>
      (a.tableau = true ∨ (a.sink k).window = none → Kept [] [] a b) ∧
      ∀ u, a.tableau = false → (a.sink k).window = some u →
      (u + a.get (F.EVENT_SINK_CFG_PARAM k) * 1000 ≤ a.datum - a.mergeWindow →
        b.sink k = { a.sink k with window := none, seen := [] } ∧ (∀ j, j ≠ k.val → b.sink j = a.sink j) ∧
        b.get F.EVENT_WIN_LOST_COUNT = min (a.get F.EVENT_WIN_LOST_COUNT + 1) 0xFFFFFFFF ∧
        Kept [Reg.EVENT_WIN_LOST] [.router] a b) ∧
      (a.datum - a.mergeWindow < u + a.get (F.EVENT_SINK_CFG_PARAM k) * 1000 → Kept [] [] a b)) ∧
  (∀ (s : State) (t : Nat) (n : Fin 4), let a := s.advance t
    Completes (.sinkPulseEnd t n) s fun b =>
      (Sparse.get (fun _ => none) a.router.pulseEnd n = none → Kept [] [] a b) ∧
      ∀ e, Sparse.get (fun _ => none) a.router.pulseEnd n = some e →
      (e ≤ a.elapsed → a.tableau = false → Sparse.get (fun _ => none) b.router.pulseEnd n = none ∧
        Sparse.get (fun _ => .highZ) b.router.evioPin n = .low ∧
        (∀ m, m ≠ n.val → Sparse.get (fun _ => .highZ) b.router.evioPin m = Sparse.get (fun _ => .highZ) a.router.evioPin m) ∧
        Kept [] [.router] a b) ∧
      (a.elapsed < e ∨ a.tableau = true → Kept [] [] a b)) ∧
  (∀ (s : State) (t k : Nat) (e : Event), let a := s.advance t
    a.tableau = false → a.router.held.filter (fun e => e.stamp < a.horizon) = [e] → a.target e.num = 0 → e.num < 256 →
    a.ibit (F.EVENT_RECORD_REC (e.num / 32)) (e.num % 32) = false → 16 ≤ k → k < 60 → a.sinkTakes k e ≠ [] →
    (∀ i < 64, i ≠ k → a.sinkTakes i e = []) → a.get (F.EVENT_SINK_CFG_MODE k) = 0 → (a.sink k).window = none →
    Completes (.eventRelease t) s fun b =>
      b.get (F.EVENT_SINK_COUNT_COUNT k) = (a.get (F.EVENT_SINK_COUNT_COUNT k) + 1) % 2 ^ 32 ∧
      Kept [Reg.EVENT_SINK_COUNT k] [.router] a b)

/-- Vectors become due, are committed by priority and number, and send one message, as R584 to R589 say. HOLDOFF_EXPIRY of a gathering vector with a
cause: due once HOLDOFF is over, and before that as it was below COUNT without the idle hint; without a cause idle. VECTOR_COMMIT, every vector judged
first (m), engine free and messages allowed, of the due vector that no other due vector outranks in PRIO or, at equal PRIO, in a lower number: it
sends, its unmasked causes are taken, no other source's; otherwise no commit. MESSAGE_ISSUED: the message leaves by its MSI-X entry or as number v mod
k, IRQ_MSGS counts, the vector is in service or idle; masked 64 ns before the commit it is withheld; with MSI and MSI-X off its causes return and it
is due; with no commit in hand, the withheld messages that no mask holds are sent while the bus is open. IRQ_EOI ends a service, or is EOI_BAD.
IRQ_MASK_WRITE takes the mask and no cause away. Writes of the MSI-X table and masks are taken; an unmask sends what was withheld, with the bus open
outside tableau.
From spec/14_interrupts_and_events.md, section Targets and masks (R582); spec/14_interrupts_and_events.md, section Vectors (R584, R585, R586, R587,
R588, R589). -/
def Obligations.VectorsGatherCommitAndSend : Prop :=
  (∀ (s : State) (t : Nat) (v : Fin 64), let a := s.advance t
    let past := decide ((a.vec v).start + a.get (F.IRQ_VEC_HOLDOFF v) * 1000 ≤ a.elapsed)
    Completes (.holdoffExpiry t v) s fun b => (∀ w, w ≠ v.val → b.vec w = a.vec w) ∧ Kept [] [.router] a b ∧
      (a.tableau = true → Kept [] [] a b) ∧
      (a.tableau = false → (a.vec v).phase = .gather → 1 ≤ a.commitCount v → past = true → (b.vec v).phase = .due) ∧
      (a.tableau = false → (a.vec v).phase = .gather → 1 ≤ a.commitCount v → past = false →
        a.commitCount v < a.get (F.IRQ_VEC_COUNT v) → a.bit F.HOST_STATUS_IDLE = false → b.vec v = a.vec v) ∧
      (a.tableau = false → (a.vec v).phase = .gather → a.commitCount v = 0 → (b.vec v).phase = .idle)) ∧
  (∀ (s : State) (t : Nat), let a := s.advance t; let m := a.judgeAll
    Completes (.vectorCommit t) s fun b => Kept [] [.router] a b ∧
      (a.tableau = true → Kept [] [] a b) ∧
      (a.tableau = false → a.msiOn = false ∨ a.busOpen = false ∨ a.router.commit ≠ none ∨ (∀ v, v < 64 → (m.vec v).phase ≠ .due) →
        Kept [] [] m b) ∧
      (a.tableau = false → a.msiOn = true → a.busOpen = true → a.router.commit = none →
        ∀ v, v < 64 → (m.vec v).phase = .due →
          (∀ w, w < 64 → (m.vec w).phase = .due → a.get (F.IRQ_VEC_PRIO w) < a.get (F.IRQ_VEC_PRIO v) ∨
            (a.get (F.IRQ_VEC_PRIO w) = a.get (F.IRQ_VEC_PRIO v) ∧ v ≤ w)) →
          let srcs := (a.sourcesOf v).filter fun src => !a.maskedForCommit src && a.causes src != 0
          b.router.commit = some { vec := v, taken := srcs.map fun src => (src, a.causes src), time := a.elapsed } ∧
          (b.vec v).phase = .sending ∧ (∀ w, w ≠ v → b.vec w = m.vec w) ∧
          ∀ src, b.causes src = if src ∈ srcs then 0 else a.causes src)) ∧
  (∀ (s : State) (t : Nat) (c : Commit), let a := s.advance t
    a.router.commit = some c → a.busOpen = true → a.tableau = false →
    Completes (.messageIssued t) s fun b =>
      b.router.commit = none ∧
      (a.msiOn = false → (b.vec c.vec).phase = .due ∧ b.router.messages = a.router.messages ∧
        (∀ src n, c.taken = [(src, n)] → b.causes src = min 255 (a.causes src + n)) ∧ Kept [] [.router] a b) ∧
      (a.msiOn = true → (∃ m ∈ a.router.vecMask, m.1 = c.vec ∧ m.2 + 64 ≤ c.time) →
        b.router = { a.router with commit := none, withheld := a.router.withheld ++ [c] } ∧ Kept [] [.router] a b) ∧
      (a.msiOn = true → (∀ m ∈ a.router.vecMask, m.1 = c.vec → c.time < m.2 + 64) →
        b.get F.IRQ_MSGS_COUNT = min (a.get F.IRQ_MSGS_COUNT + 1) 0xFFFFFFFF ∧
        (a.bit F.IRQ_STATUS_MSIX = true → b.router.messages = a.router.messages ++
          [{ vec := c.vec, number := c.vec, addr := (Sparse.get (fun _ => (0, 0)) a.router.msixTable c.vec).1,
             data := (Sparse.get (fun _ => (0, 0)) a.router.msixTable c.vec).2 }]) ∧
        (a.bit F.IRQ_STATUS_MSIX = false → b.router.messages = a.router.messages ++
          [{ vec := c.vec, number := c.vec % a.router.msiCount, addr := 0, data := 0 }]) ∧
        (a.bit (F.IRQ_VEC_EOI_MODE c.vec) = true → (b.vec c.vec).phase = .inService) ∧
        (a.bit (F.IRQ_VEC_EOI_MODE c.vec) = false → a.causeCount c.vec = 0 → (b.vec c.vec).phase = .idle) ∧
        (a.bit (F.IRQ_VEC_EOI_MODE c.vec) = false → a.causeCount c.vec ≠ 0 →
          b.vec c.vec = { phase := if a.vecDue c.vec a.elapsed then .due else .gather, start := a.elapsed }) ∧
        Kept [Reg.IRQ_MSGS] [.router] a b)) ∧
  (∀ (s : State) (t : Nat), let a := s.advance t
    let out := a.router.withheld.filter fun c => a.router.vecMask.all fun m => m.1 != c.vec
    a.router.commit = none ∨ a.busOpen = false ∨ a.tableau = true →
    Completes (.messageIssued t) s fun b =>
      (a.busOpen = false ∨ a.tableau = true ∨ out = [] → Kept [] [] a b) ∧
      (a.busOpen = true → a.tableau = false → b.router.messages.map Message.vec = a.router.messages.map Message.vec ++ out.map Commit.vec ∧
        b.router.withheld = a.router.withheld.filter (fun c => a.router.vecMask.any fun m => m.1 == c.vec) ∧
        b.get F.IRQ_MSGS_COUNT = min (a.get F.IRQ_MSGS_COUNT + out.length) 0xFFFFFFFF ∧ Kept [Reg.IRQ_MSGS] [.router] a b)) ∧
  (∀ (s : State) (t : Nat) (data : Word), let a := s.advance t; let v := data.toNat % 64
    a.tableau = false →
    Completes (.irqEoi t data) s fun b =>
      ((a.vec v).phase = .inService → a.causeCount v = 0 → (b.vec v).phase = .idle ∧ Kept [] [.router] a b) ∧
      ((a.vec v).phase = .inService → a.causeCount v ≠ 0 →
        b.vec v = { phase := if a.vecDue v a.elapsed then .due else .gather, start := a.elapsed } ∧ Kept [] [.router] a b) ∧
      ((a.vec v).phase ≠ .inService → b.bit F.IRQ_STATUS_EOI_BAD = true ∧
        b.get F.IRQ_EOI_BAD_COUNT = min (a.get F.IRQ_EOI_BAD_COUNT + 1) 0xFFFFFFFF ∧ Raised [(a.datum, 8, v)] a b ∧
        Kept [Reg.IRQ_STATUS, Reg.IRQ_EOI_BAD] [.router] a b)) ∧
  (∀ (s : State) (t : Nat) (m : Fin 8) (data : Word), let a := s.advance t
    a.tableau = false →
    Completes (.irqMaskWrite t m data) s fun b =>
      b.reg (Reg.IRQ_MASK m) = data ∧ (∀ src, b.causes src = a.causes src) ∧
      (∀ v < 64, (a.vec v).phase = .idle → b.causeCount v ≠ 0 → (b.vec v).phase ≠ .idle) ∧
      (∀ j < 32, data.getLsbD j = true → a.masked (32 * m + j) = false → b.masked (32 * m + j) = true ∧
        b.maskedForCommit (32 * m + j) = false) ∧ Kept [Reg.IRQ_MASK m] [.router] a b) ∧
  (∀ (s : State) (t : Nat) (w : MsiWrite), let a := s.advance t
    Completes (.msiEnableOrVectorMask t w) s fun b =>
      (∀ on, w = .msix on → b.bit F.IRQ_STATUS_MSIX = on ∧ Kept [Reg.IRQ_STATUS] [] a b) ∧
      (w = .msi none → b.bit F.IRQ_STATUS_MSI = false ∧ Kept [Reg.IRQ_STATUS] [] a b) ∧
      (∀ k, w = .msi (some k) → 1 ≤ k → k ≤ 32 → b.bit F.IRQ_STATUS_MSI = true ∧
        b.router = { a.router with msiCount := k } ∧ Kept [Reg.IRQ_STATUS] [.router] a b) ∧
      (∀ v addr data, w = .entry v addr data →
        (∀ x, Sparse.get (fun _ => (0, 0)) b.router.msixTable x =
          if x = v.val then (addr.toNat, data.toNat) else Sparse.get (fun _ => (0, 0)) a.router.msixTable x) ∧
        Kept [] [.router] a b) ∧
      (∀ v, w = .mask v true → (v.val, a.elapsed) ∈ b.router.vecMask ∧ b.router.messages = a.router.messages ∧
        Kept [] [.router] a b) ∧
      (∀ v, w = .mask v false →
        let left := a.router.vecMask.filter fun m => m.1 != v.val
        let out := a.router.withheld.filter fun c => left.all fun m => m.1 != c.vec
        b.router.vecMask = left ∧
        (a.busOpen = true → a.tableau = false → b.router.withheld = a.router.withheld.filter (fun c => left.any fun m => m.1 == c.vec) ∧
          b.router.messages.map Message.vec = a.router.messages.map Message.vec ++ out.map Commit.vec ∧
          b.get F.IRQ_MSGS_COUNT = min (a.get F.IRQ_MSGS_COUNT + out.length) 0xFFFFFFFF) ∧
        (a.busOpen = false ∨ a.tableau = true → b.router = { a.router with vecMask := left }) ∧ Kept [Reg.IRQ_MSGS] [.router] a b))

/-- Every reset kind lowers the curtain, is recorded, and takes back exactly the parts that R624 marks. LAST after a reset of kind k is k, or the lowest
code of the reset period where one is in hand. POR, and BROWN before a first start: every register outside the ghost-light domain but the power
status, the cause and the raise gap, and every table, is at its reset value, datum time stops, LAST is 0; BROWN after a start: kind 1; BROWN with
every rail good: nothing. PIN: the same registers but what R624 keeps, tables cleared, datum time runs on, kind 2, its HISTORY bit joins those set,
the atlas stays unless a step of datum time waits to be metered. SOFT outside tableau with the key: tables and table status kept, kind 5; another key:
CFG_REJECT only. PERST, in tableau too, which ends: commands dropped, tables, datum time and the registers of CLOCK, POWER, DATUM and the meridian
kept, kind 6. EXTEST holds TEST, 7; where it holds already, nothing. CRYSTAL_WINDOW out of range holds CLOCK, 3, until two windows in a row lie
inside. After each the curtain is LOCKED and START_DONE is 0.
From spec/10_curtain.md, section States (R441); spec/10_curtain.md, section Resetting the curtain (R450); spec/15_power_clocks_startup.md, section
Supplies (R608); spec/15_power_clocks_startup.md, section Clocks (R619); spec/15_power_clocks_startup.md, section Resets (R623, R624, R625, R626,
R627); spec/15_power_clocks_startup.md, section The test port (R630). -/
def Obligations.ResetsReachTheirParts : Prop :=
  (∀ (s : State) (t : Nat) (rails : BitVec 5), let a := s.advance t
    let after := fun (last : Nat) (b : State) => (∀ r, (r < 0x5400 ∨ 0x5800 ≤ r) →
        r ∉ [Reg.POWER_STATUS, Reg.POWER_RESET_CAUSE, Reg.CURTAIN_HOLD] → b.reg r = resetVal r) ∧
      (∀ id o, b.tbl8 id o = (tableReset id o).toNat) ∧ b.disc.running = false ∧ b.ghost.absent = true ∧
      b.curtain = 0 ∧ b.tableau = false ∧ b.bit F.POWER_STATUS_START_DONE = false ∧ b.power.startDue = true ∧
      b.host.dispatched = [] ∧ b.router.held = [] ∧ b.get F.POWER_STATUS_RAIL_OK = rails.toNat ∧
      b.get F.POWER_RESET_CAUSE_LAST = last
    Completes (.por t rails) s (after 0) ∧
    (rails ≠ 31 → a.power.started = false → Completes (.brown t rails) s (after 0)) ∧
    (rails ≠ 31 → a.power.started = true → Completes (.brown t rails) s (after (if a.power.startDue then a.power.period.foldl min 1 else 1))) ∧
    (rails = 31 → Completes (.brown t rails) s fun b => Kept [] [] a b)) ∧
  (∀ (s : State) (t : Nat), let a := s.advance t
    Completes (.pinReset t) s fun b =>
      (∀ r, (r < 0x5400 ∨ 0x5800 ≤ r) → r ∉ [Reg.POWER_STATUS, Reg.POWER_RESET_CAUSE, Reg.CURTAIN_HOLD, Reg.CLOCK_MEMO,
        Reg.POWER_TEMP, Reg.DATUM_STATUS] → b.reg r = resetVal r) ∧
      (∀ id o, b.tbl8 id o = (tableReset id o).toNat) ∧ b.datum = a.datum ∧ b.disc.running = a.disc.running ∧
      b.bit F.DATUM_STATUS_ORIGIN = a.bit F.DATUM_STATUS_ORIGIN ∧ b.reg Reg.CLOCK_MEMO = a.reg Reg.CLOCK_MEMO &&& 0xFFFFFF#32 ∧
      (a.meter.stepAt = none → b.meter.atlas = a.meter.atlas) ∧ b.curtain = 0 ∧ b.tableau = false ∧
      b.bit F.POWER_STATUS_START_DONE = false ∧ b.power.startDue = true ∧ b.get F.POWER_RESET_CAUSE_LAST = (if a.power.startDue then a.power.period.foldl min 2 else 2) ∧
      b.ibit F.POWER_RESET_CAUSE_HISTORY 2 = true ∧
      ∀ k, k < 8 → a.ibit F.POWER_RESET_CAUSE_HISTORY k = true → b.ibit F.POWER_RESET_CAUSE_HISTORY k = true) ∧
  (∀ (s : State) (t : Nat) (data : Word), let a := s.advance t
    a.tableau = false →
    Completes (.softReset t data) s fun b =>
      (data.toNat % 65536 ≠ 0x5AF0 → b.bit F.POWER_STATUS_CFG_REJECT = true ∧ Kept [Reg.POWER_STATUS] [] a b) ∧
      (data.toNat % 65536 = 0x5AF0 →
        (∀ id o, b.tbl8 id o = a.tbl8 id o) ∧ (∀ id, 1 ≤ id → id ≤ 12 → b.tableOk id = a.tableOk id) ∧
        b.datum = a.datum ∧ b.disc.running = a.disc.running ∧ (a.meter.stepAt = none → b.meter.atlas = a.meter.atlas) ∧
        b.host.dispatched = [] ∧ b.curtain = 0 ∧ b.service = false ∧ b.bit F.POWER_STATUS_START_DONE = false ∧
        b.get F.POWER_RESET_CAUSE_LAST = (if a.power.startDue then a.power.period.foldl min 5 else 5) ∧ b.ibit F.POWER_RESET_CAUSE_HISTORY 5 = true)) ∧
  (∀ (s : State) (t : Nat), let a := s.advance t
    Completes (.perst t) s fun b => b.tableau = false ∧
      (∀ id o, b.tbl8 id o = a.tbl8 id o) ∧ (∀ id, 1 ≤ id → id ≤ 12 → b.tableOk id = a.tableOk id) ∧
      (∀ r, 0x1000 ≤ r → r < 0x2000 → r ∉ [Reg.POWER_STATUS, Reg.POWER_RESET_CAUSE] → b.reg r = a.reg r) ∧
      b.datum = a.datum ∧ b.host.dispatched = [] ∧ b.host.staged = [] ∧ b.router.held = [] ∧ b.curtain = 0 ∧ b.service = false ∧
      b.bit F.POWER_STATUS_START_DONE = false ∧ b.get F.POWER_RESET_CAUSE_LAST = (if a.power.startDue then a.power.period.foldl min 6 else 6)) ∧
  (∀ (s : State) (t : Nat), let a := s.advance t
    Completes (.testReset t) s fun b =>
      (7 ∈ a.power.holds → Kept [] [] a b) ∧
      (7 ∉ a.power.holds → b.power.holds = 7 :: a.power.holds ∧ b.curtain = 0 ∧ b.tableau = false ∧ b.datum = a.datum ∧
        b.bit F.POWER_STATUS_START_DONE = false ∧ b.get F.POWER_RESET_CAUSE_LAST = (if a.power.startDue then a.power.period.foldl min 7 else 7))) ∧
  (∀ (s : State) (t n : Nat), let a := s.advance t
    Completes (.crystalWindow t n) s fun b =>
      (2250 ≤ n → n ≤ 2750 → b.get F.CLOCK_XTAL_COUNT = n ∧ b.get F.CLOCK_SAFE_FREQ = 60000000 / n ∧
        (3 ∈ b.power.holds ↔ 3 ∈ a.power.holds ∧ a.power.goodWindows = 0) ∧ Kept [Reg.CLOCK_XTAL, Reg.CLOCK_SAFE] [.power] a b) ∧
      ((n < 2250 ∨ 2750 < n) → 3 ∈ a.power.holds → b.power = { a.power with goodWindows := 0 } ∧ Kept [] [.power] a b) ∧
      ((n < 2250 ∨ 2750 < n) → 3 ∉ a.power.holds →
        3 ∈ b.power.holds ∧ b.power.goodWindows = 0 ∧ b.disc.running = false ∧ b.curtain = 0 ∧
        b.bit F.POWER_STATUS_START_DONE = false ∧ b.get F.POWER_RESET_CAUSE_LAST = (if a.power.startDue then a.power.period.foldl min 3 else 3)))

/-- Internal start ends a reset; tableau freezes and releases every block; the record key is programmed once. INTERNAL_START when due and nothing holds
it: START_DONE, datum time runs (from 0 without ORIGIN where the domain's header is invalid), RESET_DONE with the cause last; else nothing changes.
TABLEAU_ENTRY: entry sets TABLEAU, freezes the horizon, the engine and the drive, drops what is not resumed, TABLEAU_ENTER last; with DEBUG_LOCK it is
refused. TABLEAU_EXIT and TEST_LOGIC_RESET end it: every held event and write goes; outside tableau they change nothing but TEST's hold. KEY_PROG
starts programming, or is refused with its reasons, and does nothing while programming runs; KEY_VERIFY stores an equal key, and else no key can ever
be programmed; KEY_CHECK shows 32 bits of the code, or 0.
From spec/15_power_clocks_startup.md, section Modes and tableau (R601, R603); spec/15_power_clocks_startup.md, section The test port (R628, R629,
R630, R631); spec/15_power_clocks_startup.md, section Start-up (R632). -/
def Obligations.StartTableauAndTheTestPort : Prop :=
  (∀ (s : State) (t : Nat) (rom : Bool), let a := s.advance t
    Completes (.internalStart t rom) s fun b =>
      (a.power.startDue = true → a.power.holds = [] → b.bit F.POWER_STATUS_START_DONE = true ∧ b.power.startDue = false ∧
        b.power.started = true ∧ b.disc.running = true ∧ b.get F.POWER_STATUS_RAIL_OK = 31 ∧
        (a.disc.running = false → b.ghost.absent = false) ∧
        (a.disc.running = true → b.datum = a.datum) ∧
        (a.disc.running = false → a.ghost.header = false → b.datum = 0 ∧ b.bit F.DATUM_STATUS_ORIGIN = false) ∧
        ∃ l, b.router.inflight = l ++ [{ stamp := b.datum, num := 16, inst := a.get F.POWER_RESET_CAUSE_LAST }]) ∧
      (a.power.startDue = false ∨ a.power.holds ≠ [] → Kept [] [] a b)) ∧
  (∀ (s : State) (t : Nat) (bits : BitVec 2), let a := s.advance t
    let p := { a.power with holds := a.power.holds.filter (· ≠ 7) }
    Completes (.tableauEntry t bits) s fun b =>
      (bits ≠ 1 ∨ a.tableau = true → b.power = p ∧ Kept [] [.power] a b) ∧
      (bits = 1 → a.tableau = false → a.power.otp.debugLock = true →
        b.power = { p with tabRefused := true } ∧ Kept [] [.power] a b) ∧
      (bits = 1 → a.tableau = false → a.power.otp.debugLock = false → a.power.startDue = true →
        b.power = { p with tabRefused := false } ∧ Kept [] [.power] a b) ∧
      (bits = 1 → a.tableau = false → a.power.otp.debugLock = false → a.power.startDue = false →
        b.tableau = true ∧ b.power.tabStart = a.elapsed ∧ b.horizon = a.horizon ∧ b.wing.frozen = [] ∧ b.mer.outstanding = [] ∧
        b.engState = (if a.engState = eng.idle then eng.idle else eng.frozen) ∧ b.pState = ps.frozen ∧
        b.datum = a.datum ∧ b.curt = a.curt ∧ b.curtain = a.curtain ∧ b.tables = a.tables ∧ b.disc = a.disc ∧
        b.host.dispatched = a.host.dispatched ∧
        ∃ l, b.router.inflight = l ++ [{ stamp := a.datum, num := 22 }])) ∧
  (∀ (s : State) (t : Nat) (bits : BitVec 2), let a := s.advance t
    let p := { a.power with holds := a.power.holds.filter (· ≠ 7) }
    Completes (.tableauExit t bits) s fun b =>
      (bits = 0 → a.tableau = true → b.tableau = false ∧ b.router.held = [] ∧ b.host.held = [] ∧
        (a.host.held = [] → ({ stamp := a.datum, num := 23 } : Event) ∈ b.router.inflight)) ∧
      (bits ≠ 0 ∨ a.tableau = false → b.power = p ∧ Kept [] [.power] a b)) ∧
  (∀ (s : State) (t : Nat), let a := s.advance t
    Completes (.testLogicReset t) s fun b =>
      (a.tableau = true → b.tableau = false ∧ b.router.held = [] ∧ b.host.held = [] ∧
        (a.host.held = [] → ({ stamp := a.datum, num := 23 } : Event) ∈ b.router.inflight)) ∧
      (a.tableau = false → b.power = { a.power with holds := a.power.holds.filter (· ≠ 7) } ∧ Kept [] [.power] a b)) ∧
  (∀ (s : State) (t : Nat) (key : BitVec 256) (id : Word) (v : Bool), let a := s.advance t
    let bad := (if a.power.otp.key.isSome then 2 else 0) + (if a.curtain = 0 ∧ v = true then 0 else 4)
    Completes (.keyProg t key id v) s fun b =>
      (a.power.keyJob = none → a.power.otp.keyFailed = false → bad = 0 →
        b.power.keyJob = some (leBytes 32 key.toNat, id.toNat) ∧ b.power.keyOut = 0) ∧
      (a.power.keyJob = none → a.power.otp.keyFailed = false → bad ≠ 0 → b.power.keyJob = none ∧ b.power.keyOut = bad) ∧
      (a.power.keyJob = none → a.power.otp.keyFailed = true → b.power.keyJob = none ∧ b.power.keyOut = bad + 8) ∧
      (a.power.keyJob ≠ none → b.power.keyJob = a.power.keyJob ∧ b.power.keyOut = a.power.keyOut) ∧
      b.power.otp = a.power.otp ∧ b.power.holds = a.power.holds.filter (· ≠ 7) ∧ Kept [] [.power] a b) ∧
  (∀ (s : State) (t : Nat) (stored : BitVec 256) (key : List Byte) (id : Nat), let a := s.advance t
    a.power.keyJob = some (key, id) → id < 2 ^ 32 →
    Completes (.keyVerify t stored) s fun b => b.power.keyJob = none ∧
      (leBytes 32 stored.toNat = key → b.power.otp.key = some key ∧ b.power.keyOut = 1 ∧ b.bit F.METER_STATUS_KEY_OK = true ∧
        b.get F.METER_KEY_ID_ID = id ∧ Kept [Reg.METER_STATUS, Reg.METER_KEY_ID] [.power, .ghost] a b) ∧
      (leBytes 32 stored.toNat ≠ key → b.power.otp.key = a.power.otp.key ∧ b.power.otp.keyFailed = true ∧ b.power.keyOut = 8 ∧
        b.bit F.POWER_TAP_KEY_FAILED = true ∧ Kept [Reg.POWER_TAP] [.power] a b)) ∧
  (∀ (s : State) (t : Nat), let a := s.advance t
    Completes (.keyCheck t) s fun b =>
      (a.power.otp.key = none → b.power.keyCheck = 0) ∧
      (∀ k, a.power.otp.key = some k → b.power.keyCheck = ofLe ((hmac k (List.replicate 64 0)).take 4).reverse) ∧
      Kept [] [.power] a b)

/-- PLL losses bypass or stop their domains until they have relocked; the thermal governor acts by R620 and R621. PLL_UNLOCK of a locked PLL: its lock is
gone, counted, PLL_UNLOCK; A: CORE on the crystal, deferral, an engine fault; B: STAGE on the crystal, all loops halted, FREE; C: CONV stops.
PLL_RELOCK: lock, count, PLL_RELOCK, its band memo. RELOCK_ATTEMPT every 10 ms. CORE_RETURN after 1 ms and CONV_RESTART after 100 µs at a round
boundary put the domains back. TEMPERATURE_MEASUREMENT: TEMP is the mean of the latest eight; above 115.0 °C the governor enters HOT once, slows CORE,
THERMAL; above 140.0 °C a THERMAL reset is held, until the mean is at most 125.0 °C; at most 110.0 °C in HOT starts its second. HOT_EXIT after that
second: NORMAL. TEMP_TIMEOUT after 1 ms: TEMP 0x7FFF, HOT. Each of these before its time, or without its PLL hunting or off, changes nothing. The
mean's length and rounding are the model's (log 85).
From spec/15_power_clocks_startup.md, section Clocks (R614, R615, R616, R617, R618); spec/15_power_clocks_startup.md, section The thermal governor
(R620, R621, R622). -/
def Obligations.PllsAndTheGovernor : Prop :=
  (∀ (s : State) (t : Nat) (i : Fin 3), let a := s.advance t
    Completes (.pllUnlock t i) s fun b =>
      ((a.pll i).locked = false → Kept [] [] a b) ∧
      ((a.pll i).locked = true → b.bit (lockBit i) = false ∧ (b.pll i).locked = false ∧ (b.pll i).off = true ∧
        b.get F.CLOCK_UNLOCKS_COUNT = min (a.get F.CLOCK_UNLOCKS_COUNT + 1) 0xFFFFFFFF ∧
        (i = 0 → b.bit F.CLOCK_STATUS_CORE_BYP = true ∧ b.bit F.SCRUB_STATUS_DEFERRED = true ∧
          b.curt = { a.curt with causes := a.curt.causes ++ [(13, a.datum)] } ∧
          Raised [(a.datum, 19, 0), (a.datum, 21, 0)] a b ∧
          Kept [Reg.CLOCK_STATUS, Reg.CLOCK_UNLOCKS, Reg.SCRUB_STATUS, Reg.SCRUB_FAULT_SEEN] [.power, .router, .curt] a b) ∧
        (i = 1 → a.power.stageByp = false → b.bit F.CLOCK_STATUS_STAGE_BYP = true ∧ b.power.stageByp = true ∧
          (∀ n < 4, b.loopHalted n = true) ∧ b.discState = 0 ∧
          ∃ l, b.router.inflight = a.router.inflight ++ { stamp := a.datum, num := 19, inst := 1 } :: l) ∧
        (i = 1 → a.power.stageByp = true → Raised [(a.datum, 19, 1)] a b ∧
          Kept [Reg.CLOCK_STATUS, Reg.CLOCK_UNLOCKS, Reg.SCRUB_FAULT_SEEN] [.power, .router] a b) ∧
        (i = 2 → b.bit F.CLOCK_STATUS_CONV_STOP = true ∧ Raised [(a.datum, 19, 2)] a b ∧
          Kept [Reg.CLOCK_STATUS, Reg.CLOCK_UNLOCKS, Reg.SCRUB_FAULT_SEEN] [.power, .router] a b))) ∧
  (∀ (s : State) (t : Nat) (i : Fin 3), let a := s.advance t; let band := bandOf (a.getInt F.POWER_TEMP_TEMP)
    Completes (.pllRelock t i) s fun b => if (a.pll i).locked = true ∨ (a.pll i).off = false then Kept [] [] a b else
      (b.pll i).locked = true ∧ (b.pll i).since = a.elapsed ∧ b.bit (lockBit i) = true ∧
      b.get F.CLOCK_RELOCKS_COUNT = min (a.get F.CLOCK_RELOCKS_COUNT + 1) 0xFFFFFFFF ∧
      b.get (F.CLOCK_PLL_MEMO i) = band ∧ b.bit (F.CLOCK_PLL_HIT i) = a.ibit (memoField i) band ∧
      b.ibit (memoField i) band = true ∧ Raised [(a.datum, 20, i)] a b ∧
      Kept [Reg.CLOCK_STATUS, Reg.CLOCK_RELOCKS, Reg.CLOCK_PLL i, Reg.CLOCK_MEMO] [.power, .router] a b) ∧
  (∀ (s : State) (t : Nat) (i : Fin 3), let a := s.advance t
    Completes (.relockAttempt t i) s fun b =>
      if (a.pll i).locked = false ∧ (a.pll i).off = true ∧ (a.pll i).attempt + 10000000 ≤ a.elapsed then
        b.pll i = { a.pll i with attempt := a.elapsed } ∧ Kept [] [.power] a b
      else Kept [] [] a b) ∧
  (∀ (s : State) (t : Nat), let a := s.advance t
    Completes (.coreReturn t) s fun b =>
      if (a.pll 0).locked = false ∨ (a.pll 0).off = false ∨ a.elapsed < (a.pll 0).since + 1000000 then Kept [] [] a b else
      b.bit F.CLOCK_STATUS_CORE_BYP = false ∧
      b.bit F.CLOCK_STATUS_CORE_SLOW = (a.bit F.POWER_STATUS_THERM || a.bit F.CLOCK_CTRL_FORCE_SLOW) ∧
      b.bit F.SCRUB_STATUS_DEFERRED = a.bit F.POWER_STATUS_THERM ∧ (b.pll 0).off = false ∧
      Kept [Reg.CLOCK_STATUS, Reg.CLOCK_PLL 0, Reg.CLOCK_HOPS, Reg.SCRUB_STATUS] [.power] a b) ∧
  (∀ (s : State) (t : Nat), let a := s.advance t
    Completes (.convRestart t) s fun b =>
      if (a.pll 2).locked = false ∨ (a.pll 2).off = false ∨ a.elapsed < (a.pll 2).since + 100000 ∨ a.datum % 1000 ≠ 0 then
        Kept [] [] a b else
      b.bit F.CLOCK_STATUS_CONV_STOP = false ∧ (b.pll 2).off = false ∧ Kept [Reg.CLOCK_STATUS] [.power] a b) ∧
  (∀ (s : State) (t : Nat) (temp : Int), let a := s.advance t; let l := (temp :: a.power.temps).take 8
    let mean : Rat := (l.sum : Rat) / l.length
    (∀ x ∈ l, -1000 ≤ x ∧ x ≤ 3000) →
    Completes (.temperatureMeasurement t temp) s fun b => b.power.temps = (if 1400 < mean ∧ 4 ∉ a.power.holds then b.power.temps else l) ∧
      (4 ∈ a.power.holds → (4 ∈ b.power.holds ↔ 1250 < mean)) ∧
      (1400 < mean → 4 ∉ a.power.holds → 4 ∈ b.power.holds ∧ b.bit F.POWER_STATUS_START_DONE = false ∧ b.curtain = 0) ∧
      (mean ≤ 1400 → a.powerLive = true → b.getInt F.POWER_TEMP_TEMP = roundAway mean ∧
        (1150 < mean → a.bit F.POWER_STATUS_THERM = false → b.bit F.POWER_STATUS_THERM = true ∧
          b.get F.POWER_HOT_ENTRIES_COUNT = min (a.get F.POWER_HOT_ENTRIES_COUNT + 1) 0xFFFFFFFF ∧
          (a.bit F.CLOCK_STATUS_CORE_BYP = false → b.bit F.CLOCK_STATUS_CORE_SLOW = true) ∧
          b.bit F.SCRUB_STATUS_DEFERRED = true ∧ Raised [(a.datum, 18, 0)] a b) ∧
        (mean ≤ 1150 → a.bit F.POWER_STATUS_THERM = false → Kept [Reg.POWER_TEMP, Reg.POWER_HOT_TIME] [.power] a b) ∧
        (a.bit F.POWER_STATUS_THERM = true → (b.power.coolSince.isSome = true ↔ mean ≤ 1100) ∧
          (∀ t0, a.power.coolSince = some t0 → mean ≤ 1100 → b.power.coolSince = some t0) ∧
          Kept [Reg.POWER_TEMP, Reg.POWER_HOT_TIME] [.power] a b))) ∧
  (∀ (s : State) (t : Nat), let a := s.advance t
    Completes (.hotExit t) s fun b =>
      if a.bit F.POWER_STATUS_THERM = false ∨ a.due a.power.coolSince second = false then Kept [] [] a b else
      b.bit F.POWER_STATUS_THERM = false ∧ b.power.hotSince = none ∧ b.bit F.SCRUB_STATUS_DEFERRED = a.bit F.CLOCK_STATUS_CORE_BYP ∧
      Raised [(a.datum, 18, 0)] a b ∧
      Kept [Reg.POWER_STATUS, Reg.POWER_HOT_TIME, Reg.CLOCK_STATUS, Reg.CLOCK_PLL 0, Reg.CLOCK_HOPS, Reg.SCRUB_STATUS]
        [.power, .router] a b) ∧
  (∀ (s : State) (t : Nat), let a := s.advance t
    Completes (.tempTimeout t) s fun b => if a.elapsed < a.power.lastTemp + 1000000 ∨ a.powerLive = false then Kept [] [] a b else
      b.get F.POWER_TEMP_TEMP = 0x7FFF ∧ b.bit F.POWER_STATUS_THERM = true ∧ b.power.coolSince = none ∧
      (a.bit F.POWER_STATUS_THERM = true → Kept [Reg.POWER_TEMP] [.power] a b) ∧
      (a.bit F.POWER_STATUS_THERM = false → Raised [(a.datum, 18, 0)] a b))

/-- The ghost-light domain samples its store, picks its mode, starts, stops, and takes the power-fail warning. VSTOR_SAMPLE while the domain runs: the
levels are shown, STORE_OK is VSTOR at V_SEAL or more, the mode is R643's, the trickle is on below VMAX from 50 mV under it, the domain not on its
store; with main power present STORE_LOW at the fall below V_SEAL and HARVEST_STATE at a change of mode. MPP_SAMPLE: V_MPP, at least 25 mV.
DOMAIN_STOP below V_DEAD on the store: retention memory, keeper and shadow are lost. DOMAIN_START: every GHOST register at its power-up value,
STORE_LOST among them, an invalid header. PF_WARN: the final refresh (a step of datum time that still waits to be metered first), the domain on its
store; a second one changes nothing. PF_RIDE with main power present: the warning clears, counted, PF_RIDE. Where the domain does not run (runs, for
DOMAIN_START) or the condition is not met, nothing changes.
From spec/16_ghost_light.md, section Pins and the store (R639, R640); spec/16_ghost_light.md, section Harvesting (R643, R644); spec/16_ghost_light.md,
section Main power and the warning (R647); spec/16_ghost_light.md, section Retention memory (R657); spec/16_ghost_light.md, section Input hygiene
(R664). -/
def Obligations.StoreHarvesterAndWarning : Prop :=
  (∀ (s : State) (t v g : Nat), let a := s.advance t; let m := a.harvestMode (min v 65535) (min g 65535)
    let max0 := 10 * a.get F.GHOST_CFG_VMAX
    Completes (.vstorSample t v g) s fun b =>
      (a.ghost.running = false → Kept [] [] a b) ∧
      (a.ghost.running = true →
        b.get F.GHOST_LEVELS_VSTOR = min v 65535 ∧ b.get F.GHOST_LEVELS_VTEG = min g 65535 ∧
        (b.bit F.GHOST_STATUS_STORE_OK = true ↔ vSeal ≤ v) ∧ b.get F.GHOST_STATUS_HARVEST = m ∧
        (b.bit F.GHOST_STATUS_TRICKLING = true ↔ a.ghost.store = false ∧ v < max0 ∧
          (a.bit F.GHOST_STATUS_TRICKLING = true ∨ v + 50 < max0)) ∧
        Raised ((if a.bit F.GHOST_STATUS_STORE_OK = true ∧ v < vSeal ∧ a.ghost.absent = false then [(a.datum, 28, 0)] else []) ++
          if m ≠ a.get F.GHOST_STATUS_HARVEST ∧ a.ghost.absent = false then [(a.datum, 29, 0)] else []) a b ∧
        Kept [Reg.GHOST_LEVELS, Reg.GHOST_STATUS] [.router] a b)) ∧
  (∀ (s : State) (t x : Nat), let a := s.advance t
    let m := a.harvestMode (a.get F.GHOST_LEVELS_VSTOR) (a.get F.GHOST_LEVELS_VTEG)
    Completes (.mppSample t x) s fun b =>
      (a.ghost.running = false → Kept [] [] a b) ∧
      (a.ghost.running = true →
        b.get F.GHOST_MPP_VMPP = min (max 250 x) 65535 ∧ b.get F.GHOST_STATUS_HARVEST = m ∧
        Raised (if m ≠ a.get F.GHOST_STATUS_HARVEST ∧ a.ghost.absent = false then [(a.datum, 29, 0)] else []) a b ∧
        Kept [Reg.GHOST_MPP, Reg.GHOST_STATUS] [.router] a b)) ∧
  (∀ (s : State) (v g : Nat), s.harvestMode v g =
    if v < vDead then (if 3300 ≤ g then 4 else if 250 ≤ g then 3 else 0)
    else if s.bit F.GHOST_CFG_HARV_EN = false then 0
    else if 10 * s.get F.GHOST_CFG_VMAX ≤ v then 2 else 1) ∧
  (∀ (s : State) (t : Nat), let a := s.advance t
    Completes (.domainStop t) s fun b =>
      if a.ghost.running = false ∨ a.ghost.store = false ∨ vDead ≤ a.get F.GHOST_LEVELS_VSTOR then Kept [] [] a b
      else b.ghost = { running := false, absent := a.ghost.absent, store := true } ∧ b.latestCopy = none ∧ b.ghost.shadow = none ∧
      b.ghost.header = false ∧ Kept [] [.ghost] a b) ∧
  (∀ (s : State) (t : Nat), let a := s.advance t
    Completes (.domainStart t) s fun b =>
      if a.ghost.running = true then Kept [] [] a b
      else b.ghost = { absent := a.ghost.absent, store := a.get F.POWER_STATUS_RAIL_OK != 31 } ∧ b.ghost.header = false ∧
      (∀ r, 0x5400 ≤ r → r < 0x5800 → b.reg r = resetVal r) ∧ b.bit F.GHOST_STATUS_STORE_LOST = true ∧
      (∀ r, (r < 0x5400 ∨ 0x5800 ≤ r) → b.reg r = a.reg r) ∧ ∀ p : Part, p ≠ .ghost → p ≠ .latched → p.same a b) ∧
  (∀ (s : State) (t : Nat), let a := s.advance t
    Completes (.pfWarn t) s fun b =>
      (a.bit F.GHOST_STATUS_PF_WARN = false → a.ghost.running = true →
        b.bit F.GHOST_STATUS_PF_WARN = true ∧ b.bit F.GHOST_STATUS_TRICKLING = false ∧ b.ghost.store = true ∧
        (a.meterLive = true → b.latestCopy = some a.finishStep.meter.core) ∧ (a.meterLive = false → b.latestCopy = a.latestCopy) ∧
        Kept [Reg.GHOST_STATUS] [.ghost] (if a.meterLive then a.finishStep else a) b) ∧
      (a.bit F.GHOST_STATUS_PF_WARN = true ∨ a.ghost.running = false → Kept [] [] a b)) ∧
  (∀ (s : State) (t : Nat), let a := s.advance t
    Completes (.pfRide t) s fun b =>
      if a.bit F.GHOST_STATUS_PF_WARN = false ∨ a.ghost.absent = true then Kept [] [] a b
      else b.bit F.GHOST_STATUS_PF_WARN = false ∧ b.ghost = { a.ghost with store := false } ∧
      b.get F.GHOST_PF_RIDES_COUNT = min (a.get F.GHOST_PF_RIDES_COUNT + 1) 0xFFFFFFFF ∧
      b.meter = { a.meter with lastRefresh := a.elapsed } ∧ Raised [(a.datum, 27, 0)] a b ∧
      Kept [Reg.GHOST_STATUS, Reg.GHOST_PF_RIDES] [.ghost, .meter, .router] a b)

/-- Without main power the domain closes, seals or defers the record; the keeper counts by bands; two samples decide tamper. OUTAGE_CLOSE at an edge the
keeper has passed: the open interval's record is made with the next SEQ, and its seal starts, or is deferred with SEAL_PEND when the store is below
V_SEAL; before the edge nothing changes. STORE_CHECK a second after the last with a seal pending: the seal starts as soon as it can. SEAL_COMPLETE:
the record carries its seal, the chain state in retention advances, one made from the store is counted; with no outage seal, a SELFTEST's known answer
is done. KEEPER_CALIBRATION stores the period of the present band, learned at the 16th. COARSE_SENSOR_READ selects the band without moving the keeper.
TAMPER_SAMPLE: a sample is remembered; the second equal one in a row is what TAMP_NOW shows, and a rise sets TAMP_SEEN and counts, and raises TAMPER
with its own stamp. Where one of these is out of place, nothing changes.
From spec/09_metering_and_atlas.md, section Outages and gaps (R411, R412); spec/16_ghost_light.md, section Seals (R650, R652); spec/16_ghost_light.md,
section The keeper (R654, R655); spec/16_ghost_light.md, section Tamper evidence (R660, R661); spec/16_ghost_light.md, section Input hygiene (R664). -/
def Obligations.OutagesKeeperAndTamper : Prop :=
  (∀ (s : State) (t v : Nat) (c : MeterCore) (h : MInterval) (l : List MInterval), let a := s.advance t
    a.latestCopy = some c → c.ivals = h :: l → a.ghost.running = true → a.ghost.absent = true → a.ghost.closed = false →
    Completes (.outageClose t v) s fun b =>
      (a.keeperNow < h.stop → Kept [] [] a b) ∧
      (h.stop ≤ a.keeperNow → b.ghost.closed = true ∧ b.ghost.out.map Rec.seq = some c.nextSeq ∧
        (b.ghost.deferred = true ↔ a.ghost.store = true ∧ v < vSeal) ∧
        (b.bit F.GHOST_STATUS_SEAL_PEND = true ↔ a.ghost.store = true ∧ v < vSeal) ∧
        b.ghost.job = (if a.ghost.store = true ∧ v < vSeal then none else some a.ghost.store) ∧
        b.latestCopy.map MeterCore.nextSeq = some ((c.nextSeq + 1) % 2 ^ 32) ∧
        Kept [Reg.GHOST_LEVELS, Reg.GHOST_STATUS] [.ghost] a b)) ∧
  (∀ (s : State) (t v : Nat), let a := s.advance t
    a.latestCopy = none ∨ a.ghost.running = false ∨ a.ghost.absent = false ∨ a.ghost.closed = true →
    Completes (.outageClose t v) s fun b => Kept [] [] a b) ∧
  (∀ (s : State) (t v : Nat), let a := s.advance t
    a.bit F.GHOST_STATUS_SEAL_PEND = false ∨ a.ghost.absent = false ∨ a.ghost.running = false ∨ a.ghost.job ≠ none ∨
      a.elapsed < a.ghost.lastCheck + second →
    Completes (.storeCheck t v) s fun b => Kept [] [] a b) ∧
  (∀ (s : State) (t v : Nat), let a := s.advance t
    a.bit F.GHOST_STATUS_SEAL_PEND = true → a.ghost.absent = true → a.ghost.running = true → a.ghost.job = none →
    a.ghost.lastCheck + second ≤ a.elapsed →
    Completes (.storeCheck t v) s fun b =>
      b.ghost = { a.ghost with lastCheck := a.elapsed
                               job := if a.ghost.store = true ∧ v < vSeal then none else some a.ghost.store } ∧
      b.get F.GHOST_LEVELS_VSTOR = min v 65535 ∧ Kept [Reg.GHOST_LEVELS, Reg.GHOST_STATUS] [.ghost] a b) ∧
  (∀ (s : State) (t : Nat) (r : Rec) (c : MeterCore) (store : Bool), let a := s.advance t
    let mac := a.sealOf r.body c.prevSeal
    a.ghost.job = some store → a.ghost.out = some r → a.latestCopy = some c →
    Completes (.sealComplete t) s fun b =>
      b.ghost.out = some { r with mac := some mac } ∧ b.latestCopy = some { c with prevSeal := mac } ∧ b.ghost.job = none ∧
      b.bit F.GHOST_STATUS_SEAL_PEND = false ∧
      b.get F.GHOST_STORE_SEALS_COUNT = min (a.get F.GHOST_STORE_SEALS_COUNT + if store then 1 else 0) 0xFFFFFFFF ∧
      Kept [Reg.GHOST_STATUS, Reg.GHOST_STORE_SEALS] [.ghost] a b) ∧
  (∀ (s : State) (t : Nat) (d : Desc) (l : List Desc), let a := s.advance t
    a.ghost.job = none → a.host.tests.sealKat = d :: l →
    Completes (.sealComplete t) s fun b =>
      Ended d st.done 0 a.datum { a with host := { a.host with tests := { a.host.tests with sealKat := l } } } b ∧
      Kept [] [.host] a b) ∧
  (∀ (s : State) (t n : Nat), let a := s.advance t; let i := bandOf (a.getInt F.POWER_TEMP_TEMP)
    let k := min 16 (Sparse.get (fun _ => 0) a.ghost.keeper.stores i + 1)
    Completes (.keeperCalibration t n) s fun b =>
      if a.ghost.absent = true ∨ a.ghost.running = false then Kept [] [] a b
      else Sparse.get (fun _ => nominalPeriod) b.ghost.keeper.periods i = 4 * n ∧
      Sparse.get (fun _ => 0) b.ghost.keeper.stores i = k ∧ b.get F.GHOST_KEEPER_BAND = i ∧
      (∀ j < 8, b.learned j = (a.learned j || decide (j = i ∧ k = 16))) ∧ Kept [Reg.GHOST_KEEPER] [.ghost] a b) ∧
  (∀ (s : State) (t : Nat) (temp : Int), let a := s.advance t
    Completes (.coarseSensorRead t temp) s fun b =>
      if a.ghost.absent = false ∨ a.ghost.running = false then Kept [] [] a b
      else b.get F.GHOST_KEEPER_BAND = bandOf temp ∧ b.keeperNow = a.keeperNow ∧ Kept [Reg.GHOST_KEEPER] [.ghost] a b) ∧
  (∀ (s : State) (t : Nat) (levels : BitVec 2), let a := s.advance t
    Completes (.tamperSample t levels) s fun b =>
      (a.ghost.running = false → Kept [] [] a b) ∧
      (a.ghost.running = true → b.ghost.tampHigh = [0, 1].filter (fun i => levels.getLsbD i) ∧
        (∀ i, i < 2 →
          let now := a.ibit F.GHOST_STATUS_TAMP_NOW i; let high := levels.getLsbD i; let two := high == a.ghost.tampHigh.contains i
          b.ibit F.GHOST_STATUS_TAMP_NOW i = (if two then high else now) ∧
          b.ibit F.GHOST_STATUS_TAMP_SEEN i = (a.ibit F.GHOST_STATUS_TAMP_SEEN i || (two && high && !now)) ∧
          b.get (F.GHOST_TAMP_COUNT_COUNT i) = min (a.get (F.GHOST_TAMP_COUNT_COUNT i) + if two && high && !now then 1 else 0) 0xFFFFFFFF) ∧
        Kept (blockRegs 0x5400 0x400) [.ghost, .meter, .router] a b)) ∧
  (∀ (s : State) (t : Nat) (i : Fin 2), let a := s.advance t; let n := a.ghost.tlogNext
    a.ghost.running = true → a.get F.GHOST_STATUS_TAMP_NOW = 0 → a.ghost.tampHigh = [i.val] → n < 16 →
    Completes (.tamperSample t (1#2 <<< i.val)) s fun b =>
      b.get F.GHOST_STATUS_TAMP_NOW = 2 ^ i.val ∧ b.ibit F.GHOST_STATUS_TAMP_SEEN i = true ∧
      b.get (F.GHOST_TAMP_COUNT_COUNT i) = min (a.get (F.GHOST_TAMP_COUNT_COUNT i) + 1) 0xFFFFFFFF ∧
      b.ghost.tlogNext = (n + 1) % 16 ∧
      (a.ghost.absent = false → Raised [(a.keeperNow, 25, i)] a b) ∧
      (a.ghost.absent = true → b.router = a.router ∧
        b.ghost.owed = a.ghost.owed ++ [{ stamp := a.keeperNow, num := 25, inst := i }]))

/-- Sweeps read every word and report what they find; the survey writes an entry per present cell; wear accounts are captured. SWEEP_START at its multiple
of 10 s (40 s while deferred) after the end of the last sweep: a sweep begins; before it, disabled or in a sweep nothing changes. SCRUB_READ when its
61 us (244 us while deferred, unless a SELFTEST asked) are over: the next word; clean: no more; corrected: counted, MEM_CORRECTED at the first of the
sweep, and a second error at the re-read is a stuck bit with its address and MEM_STUCK; uncorrectable: counted with its address and MEM_UNCORR, once
until rewritten, an engine fault in the regions 3 and 4, cause 11 in region 6; the last word ends the sweep and the SELFTEST it served, whose next
begins its own. SURVEY_PASS when due begins at the first present cell or waits for the pass in hand; SURVEY_ENTRY, SPACING after the last, writes the
entry of the due cell if it is present, or pauses; SURVEY_RESUME goes on with that cell; the last entry raises SURVEY_DONE, and a pass that waited
begins, late. SCRUB_WEAR_SEL shows the accounts of the cell, or zeros. Out of its time each of them changes nothing.
From spec/15_power_clocks_startup.md, section The thermal governor (R622); spec/17_background_and_faults.md, section Memory scrubbing (R670, R671,
R673); spec/17_background_and_faults.md, section The survey (R674, R675); spec/17_background_and_faults.md, section Registers (R686). -/
def Obligations.ScrubbingSurveyAndWear : Prop :=
  (∀ (s : State) (t : Nat), let a := s.advance t; let p := (if a.deferred then 40 else 10) * second
    Completes (.sweepStart t) s fun b =>
      (a.bit F.SCRUB_CTRL_EN = false ∨ a.scrub.start ≠ none ∨ a.elapsed < (a.scrub.lastEnd / p + 1) * p → Kept [] [] a b) ∧
      (a.bit F.SCRUB_CTRL_EN = true → a.scrub.start = none → (a.scrub.lastEnd / p + 1) * p ≤ a.elapsed → b.bit F.SCRUB_STATUS_SWEEP_BUSY = true ∧
        b.scrub = { a.scrub with word := 0, start := some a.elapsed, lastRead := a.elapsed, corrected := 0, raised := false } ∧
        Kept [Reg.SCRUB_STATUS] [.scrub] a b)) ∧
  (∀ (s : State) (t t0 : Nat) (x : WordRead), let a := s.advance t
    let r := (regionOf regionWords 0 a.scrub.word).1; let w := (regionOf regionWords 0 a.scrub.word).2
    let test := !a.host.tests.sweep.isEmpty; let step := if a.deferred ∧ test = false then 244000 else 61000
    a.scrub.start = some t0 → a.bit F.SCRUB_CTRL_EN = true ∨ test = true → a.scrub.word + 1 < sweepWords →
    a.scrub.lastRead + step ≤ a.elapsed →
    Completes (.scrubRead t x) s fun b => b.scrub.word = a.scrub.word + 1 ∧ b.scrub.lastRead = a.elapsed ∧
      (x = .clean → b.scrub.corrected = a.scrub.corrected ∧ Kept [] [.scrub] a b) ∧
      (x = .corrected false → b.scrub.corrected = a.scrub.corrected + 1 ∧
        b.get F.SCRUB_CORR_COUNT = min (a.get F.SCRUB_CORR_COUNT + 1) 0xFFFFFFFF ∧
        b.get F.SCRUB_TRANSIENT_COUNT = min (a.get F.SCRUB_TRANSIENT_COUNT + 1) 0xFFFFFFFF ∧
        Raised (if a.scrub.raised then [] else [(a.datum, 224, r)]) a b ∧
        Kept [Reg.SCRUB_CORR, Reg.SCRUB_TRANSIENT, Reg.SCRUB_FAULT_SEEN] [.scrub, .router] a b) ∧
      (x = .corrected true → b.scrub.corrected = a.scrub.corrected + 1 ∧
        b.get F.SCRUB_STUCK_COUNT = min (a.get F.SCRUB_STUCK_COUNT + 1) 0xFFFFFFFF ∧ b.bit F.SCRUB_STATUS_STUCK = true ∧
        b.get F.SCRUB_STUCK_ADDR_REGION = r ∧ b.get F.SCRUB_STUCK_ADDR_WORD = w ∧
        Raised ((if a.scrub.raised then [] else [(a.datum, 224, r)]) ++ [(a.datum, 225, r)]) a b ∧
        Kept [Reg.SCRUB_STUCK, Reg.SCRUB_STUCK_ADDR, Reg.SCRUB_STATUS, Reg.SCRUB_FAULT_SEEN] [.scrub, .router] a b) ∧
      (∀ use, x = .uncorrectable use → (r, w) ∈ a.scrub.reported → Kept [] [.scrub] a b) ∧
      (∀ use, x = .uncorrectable use → (r, w) ∉ a.scrub.reported →
        (r, w) ∈ b.scrub.reported ∧ b.get F.SCRUB_UNCORR_COUNT = min (a.get F.SCRUB_UNCORR_COUNT + 1) 0xFFFFFFFF ∧
        b.bit F.SCRUB_STATUS_UNCORR = true ∧ b.get F.SCRUB_UNCORR_ADDR_REGION = r ∧ b.get F.SCRUB_UNCORR_ADDR_WORD = w ∧
        (∃ l, b.router.inflight = a.router.inflight ++ { stamp := a.datum, num := 226, inst := r } :: l) ∧
        (r = 3 ∨ r = 4 → b.curt = { a.curt with causes := a.curt.causes ++ [(13, a.datum)] }) ∧
        (r = 6 → b.curt = { a.curt with causes := a.curt.causes ++ [(11, a.datum)] }) ∧
        (r ∈ [0, 1, 2, 5, 7] → use = .other → Raised [(a.datum, 226, r)] a b ∧
          Kept [Reg.SCRUB_UNCORR, Reg.SCRUB_UNCORR_ADDR, Reg.SCRUB_STATUS, Reg.SCRUB_FAULT_SEEN] [.scrub, .router] a b))) ∧
  (∀ (s : State) (t : Nat) (x : WordRead), let a := s.advance t
    let test := !a.host.tests.sweep.isEmpty; let step := if a.deferred ∧ test = false then 244000 else 61000
    a.scrub.start = none ∨ (a.bit F.SCRUB_CTRL_EN = false ∧ test = false) ∨ a.elapsed < a.scrub.lastRead + step →
    Completes (.scrubRead t x) s fun b => Kept [] [] a b) ∧
  (∀ (s : State) (t t0 : Nat), let a := s.advance t
    let test := !a.host.tests.sweep.isEmpty; let step := if a.deferred ∧ test = false then 244000 else 61000
    a.scrub.start = some t0 → a.bit F.SCRUB_CTRL_EN = true ∨ test = true → a.scrub.word + 1 = sweepWords →
    a.scrub.lastRead + step ≤ a.elapsed →
    Completes (.scrubRead t .clean) s fun b => b.scrub.lastEnd = a.elapsed ∧
      (∀ d l, a.host.tests.sweep = d :: l → b.bit F.SCRUB_STATUS_SWEEP_BUSY = (!l.isEmpty) ∧
        b.scrub.start = (if l = [] then none else some a.elapsed) ∧
        Ended d st.done (min 0xFFFFFFFF a.scrub.corrected) a.datum
          { a with host := { a.host with tests := { a.host.tests with sweep := l } } } b) ∧
      (a.host.tests.sweep = [] → b.bit F.SCRUB_STATUS_SWEEP_BUSY = false ∧ b.scrub.start = none) ∧
      b.get F.SCRUB_SWEEP_TIME_TIME = (a.elapsed - t0) / 1000000 % 2 ^ 32 ∧
      b.get F.SCRUB_SWEEPS_COUNT = min (a.get F.SCRUB_SWEEPS_COUNT + 1) 0xFFFFFFFF ∧ Raised [(a.datum, 227, 0)] a b ∧
      Kept [Reg.SCRUB_SWEEP_TIME, Reg.SCRUB_SWEEPS, Reg.SCRUB_STATUS] [.scrub, .router, .host] a b) ∧
  (∀ (s : State) (t : Nat), let a := s.advance t
    let due := a.scrub.passBase.elim a.elapsed (· + a.get F.SCRUB_SURVEY_PERIOD * second)
    Completes (.surveyPass t) s fun b =>
      if a.bit F.SCRUB_CTRL_SURVEY_EN = false ∨ a.bit (F.HOST_RING_CFG_EN 3) = false ∨ a.elapsed < due then Kept [] [] a b
      else b.scrub.passBase = some due ∧
      (a.scrub.passNext.isSome = true → b.scrub.passDue = true ∧ b.scrub.passNext = a.scrub.passNext ∧ Kept [] [.scrub] a b) ∧
      (∀ c, a.scrub.passNext = none → a.nextPresent 0 = some c → b.scrub.passNext = some c ∧ Kept [] [.scrub] a b) ∧
      (a.scrub.passNext = none → a.nextPresent 0 = none → Raised [(a.datum, 228, 0)] a b ∧ Kept [] [.scrub, .router] a b)) ∧
  (∀ (s : State) (t c : Nat), let a := s.advance t; let room := !a.deferred && a.ringRoom 3
    let last := a.nextPresent (c + 1) = none
    let entry : List StagedEntry := if a.present c then [⟨3, a.surveyEntry c, a.datum, false, none, 0⟩] else []
    let after : State → Prop := fun b => Kept [Reg.SCRUB_STATUS, Reg.SCRUB_SURVEY_LATE] [.host, .scrub, .router] a b ∧
      (room = true → b.bit F.SCRUB_STATUS_SURVEY_PAUSED = false ∧
        b.host = { a.host with staged := a.host.staged ++ entry } ∧
        (¬last → b.scrub.passNext = a.nextPresent (c + 1) ∧ b.scrub.lastEntry = a.elapsed ∧ b.router = a.router) ∧
        (last → a.scrub.passDue = false → b.scrub.passNext = none ∧ Raised [(a.datum, 228, 0)] a b) ∧
        (last → a.scrub.passDue = true → b.scrub.passNext = a.nextPresent 0 ∧
          b.get F.SCRUB_SURVEY_LATE_COUNT = min (a.get F.SCRUB_SURVEY_LATE_COUNT + 1) 0xFFFFFFFF ∧
          Raised ([(a.datum, 228, 0), (a.datum, 229, 0)] ++ if a.nextPresent 0 = none then [(a.datum, 228, 0)] else []) a b)) ∧
      (room = false → b.bit F.SCRUB_STATUS_SURVEY_PAUSED = true ∧ b.scrub = a.scrub ∧ b.host.staged = a.host.staged)
    a.scrub.passNext = some c →
    (a.bit F.SCRUB_STATUS_SURVEY_PAUSED = false →
      a.scrub.lastEntry + a.get F.SCRUB_SURVEY_SPACING * 1000000 ≤ a.elapsed → Completes (.surveyEntry t) s after) ∧
    (a.bit F.SCRUB_STATUS_SURVEY_PAUSED = true → Completes (.surveyResume t) s after)) ∧
  (∀ (s : State) (t : Nat), let a := s.advance t
    (a.scrub.passNext = none ∨ a.bit F.SCRUB_STATUS_SURVEY_PAUSED = true ∨
      a.elapsed < a.scrub.lastEntry + a.get F.SCRUB_SURVEY_SPACING * 1000000 → Completes (.surveyEntry t) s fun b => Kept [] [] a b) ∧
    (a.scrub.passNext = none ∨ a.bit F.SCRUB_STATUS_SURVEY_PAUSED = false → Completes (.surveyResume t) s fun b => Kept [] [] a b)) ∧
  (∀ (s : State) (t : Nat) (data : Word), let a := s.advance t; let c := data.toNat % 128
    let w := if a.present c then Sparse.get (fun _ => ({} : Wear)) a.scrub.wear c else {}
    a.tableau = false →
    Completes (.scrubWearSel t data) s fun b =>
      b.get F.SCRUB_WEAR_SEL_CELL = c ∧ b.pair Reg.SCRUB_WEAR_A_LO = w.legA % 2 ^ 64 ∧
      b.pair Reg.SCRUB_WEAR_B_LO = w.legB % 2 ^ 64 ∧ b.get F.SCRUB_WEAR_BYP_COUNT = w.byp % 2 ^ 32 ∧
      b.get F.SCRUB_WEAR_DUMP_SECONDS = w.dump / 1000 % 2 ^ 32 ∧ b.get F.SCRUB_WEAR_LINE_COUNT = w.line % 2 ^ 32 ∧
      Kept [Reg.SCRUB_WEAR_SEL, Reg.SCRUB_WEAR_A_LO, Reg.SCRUB_WEAR_A_HI, Reg.SCRUB_WEAR_B_LO, Reg.SCRUB_WEAR_B_HI,
        Reg.SCRUB_WEAR_BYP, Reg.SCRUB_WEAR_DUMP, Reg.SCRUB_WEAR_LINE] [] a b)

/-- Registers are written field by field, refused whole, or held in tableau; reserved bits read 0; a _LO read captures its pair. REGISTER_WRITE with a
byte enable clear: CFG_REJECT of the HOST block, nothing else. In tableau (but a start of the comparators' self-test): held, 64 at most, a further one
counted; so are the host writes that are commands of their own (named). To a reserved address: nothing changes. With a field out of its range: nothing
changes but the block's CFG_REJECT. To a register of a block without rules of its own for it: every RW field takes the written bits, every W1C field
is cleared where 1 is written and the hardware does not set it in the same CORE cycle, RO and WO fields stay. A read shows 0 in every bit of no field
and at every reserved address. LO_READ_CAPTURE of a pair: the two reads return the halves of one capture of its present value.
From spec/00_scope.md, section Notation (R3, R4, R5); spec/02_datum_time_and_meridian.md, section The time scale (R44); spec/13_host_rings.md, section
Tableau (R569); spec/18_register_index.md, section Blocks and access (R688). -/
def Obligations.RegistersAreReadAndWritten : Prop :=
  (∀ (s : State) (t addr : Nat) (data : Word) (be : BitVec 4), let a := s.advance t
    be ≠ 15 → Completes (.registerWrite t addr data be) s fun b => b.bit F.HOST_STATUS_CFG_REJECT = true ∧
      Kept [Reg.HOST_STATUS] [] a b) ∧
  (∀ (s : State) (t addr : Nat) (data : Word), let a := s.advance t
    let n := (a.host.held.filter fun w => match w with | .bar0 _ _ => true | .doorbell _ _ => false).length
    a.tableau = true → (addr ≠ Reg.COMP_TEST_CTRL ∨ data.getLsbD 31 = false) →
    Completes (.registerWrite t addr data 15) s fun b =>
      (n < 64 → b.host = { a.host with held := a.host.held ++ [.bar0 addr data] } ∧ Kept [] [.host] a b) ∧
      (64 ≤ n → b.get F.HOST_TABLEAU_DROP_COUNT = min (a.get F.HOST_TABLEAU_DROP_COUNT + 1) 0xFFFFFFFF ∧
        Kept [Reg.HOST_TABLEAU_DROP] [] a b)) ∧
  (∀ (s : State) (t : Nat) (data : Word) (part : Fin 16) (k : Fin 32) (m : Fin 8) (ring : Fin 6), let a := s.advance t
    let n := (a.host.held.filter fun w => match w with | .bar0 _ _ => true | .doorbell _ _ => false).length
    let named : List (Instr × Nat) := [(.roleChange t data, Reg.DATUM_MER_CTRL), (.rxboxFree t data, Reg.DATUM_MER_RXBOX_CTRL),
      (.convUrgent t data, Reg.CONV_URGENT), (.convSlotWrite t part data, Reg.CONV_SLOT part), (.readmit t data, Reg.CONV_CTRL),
      (.compCfgWrite t k data, Reg.COMP_CFG k), (.haltNow t data, Reg.WING_CTRL), (.resume t data, Reg.WING_CTRL),
      (.train t data, Reg.WING_CTRL), (.castReadmit t data, Reg.CAST_READMIT), (.cellpwrDumpClr t data, Reg.CELLPWR_DUMP_CLR),
      (.exportEn t data, Reg.METER_CTRL), (.meterCfgWrite t data, Reg.METER_CFG), (.gdEn t data, Reg.GUARD_CTRL),
      (.loadAll t data, Reg.PUMP_PWM_LOAD), (.pumpCtrlWrite t data, Reg.PUMP_CTRL), (.irqEoi t data, Reg.IRQ_EOI),
      (.irqMaskWrite t m data, Reg.IRQ_MASK m), (.ringEnable t ring data, Reg.HOST_RING_CFG ring),
      (.softReset t data, Reg.POWER_RESET), (.scrubWearSel t data, Reg.SCRUB_WEAR_SEL)]
    a.tableau = true → ∀ p ∈ named, Completes p.1 s fun b =>
      (n < 64 → b.host = { a.host with held := a.host.held ++ [.bar0 p.2 data] } ∧ Kept [] [.host] a b) ∧
      (64 ≤ n → b.get F.HOST_TABLEAU_DROP_COUNT = min (a.get F.HOST_TABLEAU_DROP_COUNT + 1) 0xFFFFFFFF ∧
        Kept [Reg.HOST_TABLEAU_DROP] [] a b)) ∧
  (∀ (s : State) (t addr : Nat) (data : Word), let a := s.advance t
    a.tableau = false →
    Completes (.registerWrite t addr data 15) s fun b =>
      (regRow addr = none → Kept [] [] a b) ∧
      (∀ row f, regRow addr = some row → row.fields.all (FieldRow.fits data.toNat) = false → rejectBit addr = some f →
        b.bit f = true ∧ Kept [f.addr] [] a b) ∧
      (∀ row, regRow addr = some row → row.fields.all (FieldRow.fits data.toNat) = true →
        (0x400 ≤ addr ∧ addr < 0x440 ∨ 0x500 ≤ addr ∧ addr < 0x800 ∨
          0x1400 ≤ addr ∧ addr < 0x1800 ∧ addr ≠ Reg.POWER_RESET ∨ 0x4800 ≤ addr ∧ addr < 0x4C00 ∧ addr ≠ Reg.CURTAIN_CAUSE ∨
          0x5400 ≤ addr ∧ addr < 0x5800 ∧ addr ≠ Reg.GHOST_CFG) →
        (∀ f ∈ row.fields, let old := bitsOf (a.reg addr).toNat f.lo f.w; let new := bitsOf data.toNat f.lo f.w
          bitsOf (b.reg addr).toNat f.lo f.w = match f.access with
            | .rw => new
            | .w1c => Nat.land old (Nat.lor (2 ^ f.w - 1 - new) (bitsOf (a.setNow addr) f.lo f.w))
            | .ro => old
            | .wo => old) ∧ Kept [addr] [] a b)) ∧
  (∀ (s : State) (addr i : Nat), (∀ row, regRow addr = some row → ∀ f ∈ row.fields, i < f.lo ∨ f.lo + f.w ≤ i) →
    (s.readReg addr).getLsbD i = false ∧ (s.liveReg addr).getLsbD i = false) ∧
  (∀ (s : State) (t addr : Nat), let a := s.advance t
    Completes (.loReadCapture t addr) s fun b =>
      (addr ∈ capturePairs → b.readReg addr = BitVec.ofNat 32 (a.livePair addr) ∧
        b.readReg (addr + 4) = BitVec.ofNat 32 (a.livePair addr / 2 ^ 32) ∧
        (∀ x, x ≠ addr + 4 → b.readReg x = a.readReg x) ∧ Kept [] [.latched] a b) ∧
      (addr ∉ capturePairs → Kept [] [] a b))

/-- After every reset that clears the tables the roster describes a converter with no cells. At State.reset, and after POR, BROWN, PIN, TEST, a CLOCK
reset (a crystal window out of range) and a THERMAL reset (a mean above 140.0 degrees) that is asserted, each roster entry holds its index as CELL_ID,
PHASE 3, STRING_POS 0xFF and every other byte 0.
From spec/01_cascade_model.md, section The cell roster (R37). -/
def Obligations.RosterAfterReset : Prop :=
  let cleared := fun (b : State) => ∀ k < 128, ∀ o < 32,
    b.ros8 k o = if o = 0 then k else if o = 2 then 3 else if o = 4 then 0xFF else 0
  cleared State.reset ∧
  (∀ (s : State) (t : Nat) (rails : BitVec 5), Completes (.por t rails) s cleared ∧
    (rails ≠ 31 → Completes (.brown t rails) s cleared)) ∧
  (∀ (s : State) (t : Nat), Completes (.pinReset t) s cleared ∧
    (7 ∉ s.power.holds → Completes (.testReset t) s cleared)) ∧
  (∀ (s : State) (t n : Nat), (n < 2250 ∨ 2750 < n) → 3 ∉ s.power.holds → Completes (.crystalWindow t n) s cleared) ∧
  (∀ (s : State) (t : Nat) (temp : Int), 4 ∉ s.power.holds →
    1400 < (((temp :: s.power.temps).take 8).sum : Rat) / ((temp :: s.power.temps).take 8).length →
    Completes (.temperatureMeasurement t temp) s cleared)

/-- A completion's and an event record's bytes carry their fields where R550 and R578 place them. A completion is 16 bytes, an event record 32: read
little-endian at their offsets, their bytes give TAG, STATUS, DETAIL and DONE_TIME, and STAMP, NUMBER, FLAGS, INSTANCE, SEQ and DROPPED; the phase
byte or dword is 0 before the entry is written.
From spec/00_scope.md, section Notation (R2); spec/13_host_rings.md, section The completion (R550); spec/14_interrupts_and_events.md, section Release
(R578). -/
def Obligations.EntriesAsTheHostSeesThem : Prop :=
  (∀ tag status detail done : Nat, tag < 2 ^ 16 → status < 2 ^ 8 → detail < 2 ^ 32 → done < 2 ^ 64 →
    let l := completionBytes tag status detail done
    l.length = 16 ∧ ofLe (l.take 2) = tag ∧ ofLe (l.extract 2 3) = status ∧ ofLe (l.extract 3 4) = 0 ∧
    ofLe (l.extract 4 8) = detail ∧ ofLe (l.drop 8) = done) ∧
  (∀ (e : Event) (seq dropped : Nat), e.stamp < 2 ^ 64 → e.num < 2 ^ 8 → e.inst < 2 ^ 16 → seq < 2 ^ 32 → dropped < 2 ^ 32 →
    let l := recordBytes e seq dropped
    l.length = 32 ∧ ofLe (l.take 8) = e.stamp ∧ ofLe (l.extract 8 9) = e.num ∧
    ofLe (l.extract 9 10) = (if e.late then 1 else 0) + (if dropped ≠ 0 then 2 else 0) + (if e.held then 4 else 0) ∧
    ofLe (l.extract 10 12) = e.inst ∧ ofLe (l.extract 12 16) = seq ∧ ofLe (l.extract 16 20) = dropped ∧ ofLe (l.drop 20) = 0)

/-- A step runs the command at the front of the queue with the queue's rest, and the block idles on an empty queue. For every command c, state s and queue
cs: the step of s with c in front of cs is exec of c on s with the queue cs. On an empty queue the step answers the state as it is (the model's
choice, log 1).
From spec/02_datum_time_and_meridian.md, section The time scale (R45); spec/13_host_rings.md, section Fetch, dispatch and completion slots (R546). -/
def Obligations.StepRunsTheFrontCommand : Prop :=
  (∀ (c : Instr) (cs : List Instr) (s : State), step { s with pending := c :: cs } = exec c { s with pending := cs }) ∧
  (∀ s : State, s.pending = [] → step s = .next s)

/-- Every command of the block completes in every state: the queue is kept, and time does not go back. For every command, each of the 202 forms with any
operands, and every state: it answers a next state, in which the queue is as it was and elapsed time not before; counted in whole STAGE ticks of 2 ns
where it was, still so. What holds in that next state is said form by form in the other statements.
From spec/02_datum_time_and_meridian.md, section The time scale (R45); spec/13_host_rings.md, section Fetch, dispatch and completion slots (R546). -/
def Obligations.EveryCommandCompletes : Prop :=
  ∀ (c : Instr) (s : State), Completes c s fun b => b.pending = s.pending ∧ s.elapsed ≤ b.elapsed ∧
    (s.elapsed % 2 = 0 → b.elapsed % 2 = 0)

/-- The state after reset is in canonical form. The register file, the captures and the table memories of State.reset are in canonical form. The canonical
form is the model's (log 2).
From spec/00_scope.md, section Notation (R6); spec/01_cascade_model.md, section The cell roster (R37). -/
def Obligations.InvariantAtReset : Prop :=
  State.reset.Inv = true

/-- Every step keeps the canonical form, never turns time back, and takes one command from the queue. From every state in canonical form, reached or not,
every step answers a next state, whatever the command: in canonical form again, elapsed time not before and, counted in whole STAGE ticks of 2 ns
where it was, still so, and the queue less its first command. The canonical form is the model's (log 2).
From spec/00_scope.md, section Notation (R4); spec/02_datum_time_and_meridian.md, section The time scale (R45); spec/15_power_clocks_startup.md,
section Clocks (R617). -/
def Obligations.InvariantKeptByEveryStep : Prop :=
  ∀ s : State, s.Inv = true → ∃ s', step s = .next s' ∧ s'.Inv = true ∧ s'.pending = s.pending.tail ∧ s.elapsed ≤ s'.elapsed ∧
    (s.elapsed % 2 = 0 → s'.elapsed % 2 = 0)

/-- No run from any state stops, and a run takes its commands first in, first out. From every state and for every number n of steps, the run neither
faults nor refuses; its final queue is the initial one less its first n commands, and time has not gone back. Serving commands in the order of their
arrival is the model's queue (log 1).
From spec/02_datum_time_and_meridian.md, section The time scale (R45); spec/13_host_rings.md, section Fetch, dispatch and completion slots (R546). -/
def Obligations.QueuesAreServedInOrder : Prop :=
  (∀ (s : State) (n : Nat), s.runs n) ∧
  (∀ (s s' : State) (n : Nat), (⟨State, Fault, Refusal, step, State.reset⟩ : Host.Core).run n s = .next s' →
    s'.pending = s.pending.drop n ∧ s.elapsed ≤ s'.elapsed)
end

