-- ==== Sys2Proof/Laws/Sparse.lean ====
section
/-! SUPPORT. Sys2Proof/Laws/Sparse.lean: reading and writing sparse maps, and their canonical form. -/

namespace Sys2Proof.Machine

variable {α : Type}

theorem Sparse.get_nil (d : Nat → α) (k : Nat) : Sparse.get d [] k = d k := rfl

theorem Sparse.get_cons (d : Nat → α) (e : Nat × α) (m : SMap α) (k : Nat) :
    Sparse.get d (e :: m) k = if e.1 = k then e.2 else Sparse.get d m k := rfl

theorem Sparse.get_insert (d : Nat → α) (m : SMap α) (k : Nat) (v : α) (j : Nat) :
    Sparse.get d (Sparse.insert m k v) j = if k = j then v else Sparse.get d m j := by
  induction m with
  | nil => rfl
  | cons e m ih =>
    obtain ⟨k', v'⟩ := e
    unfold Sparse.insert
    by_cases h1 : k' = k
    · subst h1
      rw [if_pos rfl, Sparse.get_cons, Sparse.get_cons]
      by_cases h : k' = j <;> simp [h]
    · rw [if_neg h1]
      by_cases h2 : k < k'
      · rw [if_pos h2, Sparse.get_cons]
      · rw [if_neg h2, Sparse.get_cons, ih, Sparse.get_cons]
        by_cases h : k' = j
        · subst h; simp [Ne.symm h1]
        · simp [h]

theorem Sparse.get_erase (d : Nat → α) (m : SMap α) (k j : Nat) :
    Sparse.get d (m.filter fun e => e.1 != k) j = if k = j then d j else Sparse.get d m j := by
  induction m with
  | nil => simp [Sparse.get]
  | cons e m ih =>
    obtain ⟨k', v'⟩ := e
    by_cases h : k' = k
    · subst h
      rw [List.filter_cons_of_neg (by simp), ih, Sparse.get_cons]
      by_cases hj : k' = j <;> simp [hj]
    · rw [List.filter_cons_of_pos (by simpa using h), Sparse.get_cons, ih, Sparse.get_cons]
      by_cases hj : k' = j
      · subst hj; simp [Ne.symm h]
      · simp [hj]

/-- A read after a write: the value written at its key, what was there elsewhere. It holds of every map, canonical or not. -/
@[simp] theorem Sparse.get_set [DecidableEq α] (d : Nat → α) (m : SMap α) (k : Nat) (v : α) (j : Nat) :
    Sparse.get d (Sparse.set d m k v) j = if k = j then v else Sparse.get d m j := by
  unfold Sparse.set
  split_ifs with h1 h2 h2
  · subst h2; simp [Sparse.get_erase, h1]
  · simp [Sparse.get_erase, h2]
  · simp [Sparse.get_insert, h2]
  · simp [Sparse.get_insert, h2]

/-- The canonical form reads as the map it was made from. -/
@[simp] theorem Sparse.get_canon [DecidableEq α] (d : Nat → α) (m : SMap α) (k : Nat) :
    Sparse.get d (Sparse.canon d m) k = Sparse.get d m k := by
  induction m with
  | nil => rfl
  | cons e m ih => obtain ⟨k', v'⟩ := e; simp [Sparse.canon, Sparse.get, ih]

theorem Sparse.wf_cons [DecidableEq α] (d : Nat → α) (k : Nat) (v : α) (m : SMap α) :
    Sparse.wf d ((k, v) :: m) = true ↔ v ≠ d k ∧ (∀ e ∈ m, k < e.1) ∧ Sparse.wf d m = true := by
  simp [Sparse.wf, and_assoc]

theorem Sparse.mem_insert {m : SMap α} {k : Nat} {v : α} {e : Nat × α} (h : e ∈ Sparse.insert m k v) :
    e = (k, v) ∨ e ∈ m := by
  induction m with
  | nil => simpa [Sparse.insert] using h
  | cons x m ih =>
    obtain ⟨k', v'⟩ := x
    unfold Sparse.insert at h
    split_ifs at h <;> simp only [List.mem_cons] at h ⊢
    · tauto
    · tauto
    · rcases h with h | h
      · tauto
      · have := ih h; tauto

theorem Sparse.wf_insert [DecidableEq α] (d : Nat → α) {m : SMap α} (k : Nat) {v : α} (hv : v ≠ d k)
    (h : Sparse.wf d m = true) : Sparse.wf d (Sparse.insert m k v) = true := by
  induction m with
  | nil => simpa [Sparse.insert, Sparse.wf] using hv
  | cons x m ih =>
    obtain ⟨k', v'⟩ := x
    rw [Sparse.wf_cons] at h
    obtain ⟨h1, h2, h3⟩ := h
    unfold Sparse.insert
    split_ifs with e1 e2
    · subst e1; exact (Sparse.wf_cons ..).2 ⟨hv, h2, h3⟩
    · refine (Sparse.wf_cons ..).2 ⟨hv, ?_, (Sparse.wf_cons ..).2 ⟨h1, h2, h3⟩⟩
      intro e he
      rcases List.mem_cons.1 he with rfl | he
      · exact e2
      · exact e2.trans (h2 e he)
    · refine (Sparse.wf_cons ..).2 ⟨h1, ?_, ih h3⟩
      intro e he
      rcases Sparse.mem_insert he with rfl | he
      · exact lt_of_le_of_ne (not_lt.1 e2) e1
      · exact h2 e he

theorem Sparse.wf_filter [DecidableEq α] (d : Nat → α) {m : SMap α} (p : Nat × α → Bool)
    (h : Sparse.wf d m = true) : Sparse.wf d (m.filter p) = true := by
  induction m with
  | nil => rfl
  | cons x m ih =>
    obtain ⟨k', v'⟩ := x
    rw [Sparse.wf_cons] at h
    obtain ⟨h1, h2, h3⟩ := h
    rw [List.filter_cons]
    split
    · exact (Sparse.wf_cons ..).2 ⟨h1, fun e he => h2 e (List.mem_filter.1 he).1, ih h3⟩
    · exact ih h3

/-- A write keeps the canonical form. -/
theorem Sparse.wf_set [DecidableEq α] (d : Nat → α) {m : SMap α} (k : Nat) (v : α)
    (h : Sparse.wf d m = true) : Sparse.wf d (Sparse.set d m k v) = true := by
  unfold Sparse.set
  split_ifs with hv
  · exact Sparse.wf_filter d _ h
  · exact Sparse.wf_insert d k hv h

/-- What is rebuilt is canonical. -/
theorem Sparse.wf_canon [DecidableEq α] (d : Nat → α) (m : SMap α) : Sparse.wf d (Sparse.canon d m) = true := by
  induction m with
  | nil => rfl
  | cons e m ih => obtain ⟨k', v'⟩ := e; exact Sparse.wf_set d k' v' ih

/-- A listed entry's value is what its key reads as, in a canonical map. -/
theorem Sparse.get_of_mem [DecidableEq α] (d : Nat → α) {m : SMap α} (h : Sparse.wf d m = true) {e : Nat × α}
    (he : e ∈ m) : Sparse.get d m e.1 = e.2 := by
  induction m with
  | nil => simp at he
  | cons x m ih =>
    obtain ⟨k', v'⟩ := x
    obtain ⟨_, h2, h3⟩ := (Sparse.wf_cons ..).1 h
    rcases List.mem_cons.1 he with rfl | he
    · simp [Sparse.get]
    · have := h2 e he
      rw [Sparse.get_cons, if_neg (by simpa using this.ne), ih h3 he]

end Sys2Proof.Machine
end

