-- ==== Sys2Proof/Laws/Fields.lean ====
section
/-! SUPPORT. Sys2Proof/Laws/Fields.lean: registers and their fields: what a read gives after a write, and how a command acts. -/

namespace Sys2Proof.Machine

/-! Bits -/

theorem bitsOf_lt (x lo w : Nat) : bitsOf x lo w < 2 ^ w := Nat.mod_lt _ (by positivity)

theorem bitsOf_mod {x lo w n : Nat} (h : lo + w ≤ n) : bitsOf (x % 2 ^ n) lo w = bitsOf x lo w := by
  unfold bitsOf
  obtain ⟨k, rfl⟩ := Nat.exists_eq_add_of_le h
  apply Nat.eq_of_testBit_eq
  intro i
  simp only [Nat.testBit_mod_two_pow, Nat.testBit_div_two_pow]
  by_cases hi : i < w
  · have : i + lo < lo + w + k := by omega
    simp [hi, this]
  · simp [hi]

theorem testBit_putBits (x lo w v i : Nat) :
    (putBits x lo w v).testBit i =
      if i < lo then x.testBit i else if i < lo + w then v.testBit (i - lo) else x.testBit i := by
  unfold putBits
  have e1 : x / 2 ^ (lo + w) * 2 ^ (lo + w) + v % 2 ^ w * 2 ^ lo + x % 2 ^ lo =
      2 ^ lo * (2 ^ w * (x / 2 ^ (lo + w)) + v % 2 ^ w) + x % 2 ^ lo := by ring
  rw [e1, Nat.testBit_two_pow_mul_add _ (Nat.mod_lt _ (by positivity))]
  split_ifs with h1 h2
  · rw [Nat.testBit_mod_two_pow]; simp [h1]
  · have h3 : i - lo < w := by omega
    rw [Nat.testBit_two_pow_mul_add _ (Nat.mod_lt _ (by positivity)), if_pos h3, Nat.testBit_mod_two_pow]
    simp [h3]
  · have h3 : ¬ i - lo < w := by omega
    rw [Nat.testBit_two_pow_mul_add _ (Nat.mod_lt _ (by positivity)), if_neg h3, Nat.testBit_div_two_pow]
    congr 1
    omega

theorem testBit_bitsOf (x lo w i : Nat) : (bitsOf x lo w).testBit i = (decide (i < w) && x.testBit (i + lo)) := by
  unfold bitsOf
  rw [Nat.testBit_mod_two_pow, Nat.testBit_div_two_pow]

/-- A field read back after it is written. -/
@[simp] theorem bitsOf_putBits (x lo w v : Nat) : bitsOf (putBits x lo w v) lo w = v % 2 ^ w := by
  apply Nat.eq_of_testBit_eq
  intro i
  rw [testBit_bitsOf, testBit_putBits, Nat.testBit_mod_two_pow]
  by_cases h : i < w
  · have h1 : ¬ i + lo < lo := by omega
    have h2 : i + lo < lo + w := by omega
    simp [h, h1, h2]
  · simp [h]

/-- A field that does not meet the written one. -/
theorem bitsOf_putBits_of_disjoint {x lo w v lo' w' : Nat} (h : lo' + w' ≤ lo ∨ lo + w ≤ lo') :
    bitsOf (putBits x lo w v) lo' w' = bitsOf x lo' w' := by
  apply Nat.eq_of_testBit_eq
  intro i
  rw [testBit_bitsOf, testBit_bitsOf, testBit_putBits]
  by_cases hi : i < w'
  · rcases h with h | h
    · have : i + lo' < lo := by omega
      simp [hi, this]
    · have h1 : ¬ i + lo' < lo := by omega
      have h2 : ¬ i + lo' < lo + w := by omega
      simp [hi, h1, h2]
  · simp [hi]

/-! Registers -/

namespace State

variable (s : State)

/-- A register read after a register is written. -/
@[simp] theorem reg_setReg (a : Nat) (v : Word) (b : Nat) :
    (s.setReg a v).reg b = if a = b then v else s.reg b := Sparse.get_set ..

theorem reg_set (f : FieldRef) (v a : Nat) :
    (s.set f v).reg a = if f.addr = a then BitVec.ofNat 32 (putBits (s.reg f.addr).toNat f.lo f.w v) else s.reg a :=
  Sparse.get_set ..

/-- A register that the written field is no part of. -/
theorem reg_set_ne {f : FieldRef} {v a : Nat} (h : f.addr ≠ a) : (s.set f v).reg a = s.reg a := by
  simp [reg_set, h]

/-- A field read after it is written. -/
theorem get_set_same {f : FieldRef} {v : Nat} (h : f.lo + f.w ≤ 32) : (s.set f v).get f = v % 2 ^ f.w := by
  unfold State.get
  rw [reg_set, if_pos rfl, BitVec.toNat_ofNat, bitsOf_mod h, bitsOf_putBits]

/-- A field of another register. -/
theorem get_set_addr {f g : FieldRef} {v : Nat} (h : f.addr ≠ g.addr) : (s.set f v).get g = s.get g := by
  simp [State.get, reg_set, h]

/-- A field of the same register that does not meet the written one. -/
theorem get_set_disjoint {f g : FieldRef} {v : Nat} (hg : g.lo + g.w ≤ 32)
    (h : g.lo + g.w ≤ f.lo ∨ f.lo + f.w ≤ g.lo) : (s.set f v).get g = s.get g := by
  by_cases ha : f.addr = g.addr
  · unfold State.get
    rw [reg_set, if_pos ha, BitVec.toNat_ofNat, bitsOf_mod hg, ← ha, bitsOf_putBits_of_disjoint h]
  · exact s.get_set_addr ha

/-- A one-bit field read after it is set or cleared. -/
theorem bit_setBit_same {f : FieldRef} {b : Bool} (h : f.lo + 1 ≤ 32) (hw : f.w = 1) :
    (s.setBit f b).bit f = b := by
  unfold State.bit State.setBit
  rw [get_set_same _ (by omega), hw]
  cases b <;> rfl

/-- A signed field read after it is written with a number it holds. -/
theorem getInt_setInt_same {f : FieldRef} {v : Int} (h : f.lo + f.w ≤ 32) (hw : 0 < f.w) (h1 : -(2 : Int) ^ (f.w - 1) ≤ v)
    (h2 : v < (2 : Int) ^ (f.w - 1)) : (s.setInt f v).getInt f = v := by
  unfold State.getInt State.setInt
  rw [get_set_same _ h]
  obtain ⟨n, hn⟩ : ∃ n, f.w = n + 1 := ⟨f.w - 1, by omega⟩
  rw [hn] at h1 h2 ⊢
  simp only [Nat.add_sub_cancel] at h1 h2
  unfold signed unsigned
  have hp : (0 : Int) < 2 ^ n := by positivity
  have e : (2 : Int) ^ (n + 1) = 2 * 2 ^ n := by ring
  simp only [Nat.add_sub_cancel]
  have hm : ((v % 2 ^ (n + 1)).toNat : Int) = v % 2 ^ (n + 1) := Int.toNat_of_nonneg (Int.emod_nonneg _ (by positivity))
  have hlt : (v % 2 ^ (n + 1)).toNat < 2 ^ (n + 1) := by
    zify; rw [hm]; exact Int.emod_lt_of_pos _ (by positivity)
  rw [Nat.mod_eq_of_lt hlt]
  by_cases hv : 0 ≤ v
  · have e1 : v % 2 ^ (n + 1) = v := Int.emod_eq_of_lt hv (by rw [e]; linarith)
    rw [if_pos (by zify; rw [hm, e1]; exact h2), hm, e1]
  · have e1 : v % 2 ^ (n + 1) = v + 2 ^ (n + 1) := by
      rw [← Int.add_emod_right, Int.emod_eq_of_lt (by rw [e]; linarith) (by linarith)]
    rw [if_neg (by zify; rw [hm, e1, e]; linarith), hm, e1]; ring

theorem get_setReg {a : Nat} {v : Word} {f : FieldRef} :
    (s.setReg a v).get f = if a = f.addr then bitsOf v.toNat f.lo f.w else s.get f := by
  unfold State.get
  rw [reg_setReg]
  split <;> rfl

theorem get_lt (f : FieldRef) : s.get f < 2 ^ f.w := bitsOf_lt ..

theorem bit_eq (f : FieldRef) : s.bit f = (s.get f != 0) := rfl

/-- A pair read after it is written. -/
theorem pair_setPair {lo v : Nat} (h : v < 2 ^ 64) : (s.setPair lo v).pair lo = v := by
  unfold State.pair State.setPair
  simp only [reg_setReg]
  rw [if_neg (by omega)]
  simp only [if_true, BitVec.toNat_ofNat]
  omega

/-! How a command acts -/

/-- Every command that a meaning is given to answers a next state. -/
theorem run_next (t : Nat) (f : State → State) : ∃ s', s.run t f = .next s' := ⟨_, rfl⟩

theorem run_eq (t : Nat) (f : State → State) : s.run t f = .next (s.settle (s.advance t) (f (s.advance t))) := rfl

variable (a x : State)

/-- The registers read as the effect left them. -/
@[simp] theorem reg_settle (r : Nat) : (s.settle a x).reg r = x.reg r := Sparse.get_canon ..
@[simp] theorem get_settle (f : FieldRef) : (s.settle a x).get f = x.get f := by simp [State.get]
@[simp] theorem bit_settle (f : FieldRef) : (s.settle a x).bit f = x.bit f := by simp [State.bit]
@[simp] theorem getInt_settle (f : FieldRef) : (s.settle a x).getInt f = x.getInt f := by simp [State.getInt]
@[simp] theorem ibit_settle (f : FieldRef) (i : Nat) : (s.settle a x).ibit f i = x.ibit f i := by simp [State.ibit]
@[simp] theorem pair_settle (lo : Nat) : (s.settle a x).pair lo = x.pair lo := by simp [State.pair]
@[simp] theorem latched_settle (k : Nat) :
    Sparse.get (fun _ => 0) (s.settle a x).latched k = Sparse.get (fun _ => 0) x.latched k := Sparse.get_canon ..
@[simp] theorem pending_settle : (s.settle a x).pending = s.pending := rfl
@[simp] theorem elapsed_settle : (s.settle a x).elapsed = a.elapsed := rfl
@[simp] theorem datum_settle : (s.settle a x).datum = x.datum := rfl
@[simp] theorem disc_settle : (s.settle a x).disc = x.disc := rfl
@[simp] theorem router_settle : (s.settle a x).router = x.router := rfl
@[simp] theorem mer_settle : (s.settle a x).mer = x.mer := rfl
@[simp] theorem host_settle : (s.settle a x).host = x.host := rfl
@[simp] theorem conv_settle : (s.settle a x).conv = x.conv := rfl
@[simp] theorem wing_settle : (s.settle a x).wing = x.wing := rfl
@[simp] theorem grid_settle : (s.settle a x).grid = x.grid := rfl
@[simp] theorem engine_settle : (s.settle a x).engine = x.engine := rfl
@[simp] theorem cast_settle : (s.settle a x).cast = x.cast := rfl
@[simp] theorem pwr_settle : (s.settle a x).pwr = x.pwr := rfl
@[simp] theorem meter_settle : (s.settle a x).meter = x.meter := rfl
@[simp] theorem curt_settle : (s.settle a x).curt = x.curt := rfl
@[simp] theorem guard_settle : (s.settle a x).guard = x.guard := rfl
@[simp] theorem pump_settle : (s.settle a x).pump = x.pump := rfl
@[simp] theorem power_settle : (s.settle a x).power = x.power := rfl
@[simp] theorem ghost_settle : (s.settle a x).ghost = x.ghost := rfl
@[simp] theorem scrub_settle : (s.settle a x).scrub = x.scrub := rfl
@[simp] theorem free_settle : (s.settle a x).free = x.free := rfl

/-- Tables that the effect leaves alone stay as they are. -/
theorem tables_settle (h : x.tables = s.tables) : (s.settle a x).tables = s.tables := by
  simp [State.settle, h]

/-- The register file and the captures that a command leaves are canonical. -/
theorem wf_settle : Sparse.wf resetVal (s.settle a x).regs = true ∧
    Sparse.wf (fun _ => (0 : Nat)) (s.settle a x).latched = true := ⟨Sparse.wf_canon .., Sparse.wf_canon ..⟩

/-! The passing of time -/

theorem advance_elapsed (t : Nat) : (s.advance t).elapsed = max s.elapsed (s.timeAt t) := rfl

theorem le_advance (t : Nat) : s.elapsed ≤ (s.advance t).elapsed := le_max_left ..

@[simp] theorem advance_reg (t a : Nat) : (s.advance t).reg a = s.reg a := rfl
@[simp] theorem advance_get (t : Nat) (f : FieldRef) : (s.advance t).get f = s.get f := rfl
@[simp] theorem advance_bit (t : Nat) (f : FieldRef) : (s.advance t).bit f = s.bit f := rfl

end State

end Sys2Proof.Machine
end

