-- ==== Sys2Proof/Laws/State.lean ====
section
/-! SUPPORT. Sys2Proof/Laws/State.lean: one lemma for each field and each update that leaves it, and what an update makes of its own field;
raising an event. -/

namespace Sys2Proof.Machine

namespace State

variable (s : State)

/-! `setReg` -/

@[simp] theorem elapsed_setReg (a : Nat) (v : Word) : (s.setReg a v).elapsed = s.elapsed := rfl
@[simp] theorem datum_setReg (a : Nat) (v : Word) : (s.setReg a v).datum = s.datum := rfl
@[simp] theorem latched_setReg (a : Nat) (v : Word) : (s.setReg a v).latched = s.latched := rfl
@[simp] theorem tables_setReg (a : Nat) (v : Word) : (s.setReg a v).tables = s.tables := rfl
@[simp] theorem disc_setReg (a : Nat) (v : Word) : (s.setReg a v).disc = s.disc := rfl
@[simp] theorem router_setReg (a : Nat) (v : Word) : (s.setReg a v).router = s.router := rfl
@[simp] theorem mer_setReg (a : Nat) (v : Word) : (s.setReg a v).mer = s.mer := rfl
@[simp] theorem host_setReg (a : Nat) (v : Word) : (s.setReg a v).host = s.host := rfl
@[simp] theorem conv_setReg (a : Nat) (v : Word) : (s.setReg a v).conv = s.conv := rfl
@[simp] theorem wing_setReg (a : Nat) (v : Word) : (s.setReg a v).wing = s.wing := rfl
@[simp] theorem grid_setReg (a : Nat) (v : Word) : (s.setReg a v).grid = s.grid := rfl
@[simp] theorem engine_setReg (a : Nat) (v : Word) : (s.setReg a v).engine = s.engine := rfl
@[simp] theorem cast_setReg (a : Nat) (v : Word) : (s.setReg a v).cast = s.cast := rfl
@[simp] theorem pwr_setReg (a : Nat) (v : Word) : (s.setReg a v).pwr = s.pwr := rfl
@[simp] theorem meter_setReg (a : Nat) (v : Word) : (s.setReg a v).meter = s.meter := rfl
@[simp] theorem curt_setReg (a : Nat) (v : Word) : (s.setReg a v).curt = s.curt := rfl
@[simp] theorem guard_setReg (a : Nat) (v : Word) : (s.setReg a v).guard = s.guard := rfl
@[simp] theorem pump_setReg (a : Nat) (v : Word) : (s.setReg a v).pump = s.pump := rfl
@[simp] theorem power_setReg (a : Nat) (v : Word) : (s.setReg a v).power = s.power := rfl
@[simp] theorem ghost_setReg (a : Nat) (v : Word) : (s.setReg a v).ghost = s.ghost := rfl
@[simp] theorem scrub_setReg (a : Nat) (v : Word) : (s.setReg a v).scrub = s.scrub := rfl
@[simp] theorem hwSets_setReg (a : Nat) (v : Word) : (s.setReg a v).hwSets = s.hwSets := rfl
@[simp] theorem hwCycle_setReg (a : Nat) (v : Word) : (s.setReg a v).hwCycle = s.hwCycle := rfl
@[simp] theorem free_setReg (a : Nat) (v : Word) : (s.setReg a v).free = s.free := rfl
@[simp] theorem pending_setReg (a : Nat) (v : Word) : (s.setReg a v).pending = s.pending := rfl

/-! `set` -/

@[simp] theorem elapsed_set (f : FieldRef) (v : Nat) : (s.set f v).elapsed = s.elapsed := rfl
@[simp] theorem datum_set (f : FieldRef) (v : Nat) : (s.set f v).datum = s.datum := rfl
@[simp] theorem latched_set (f : FieldRef) (v : Nat) : (s.set f v).latched = s.latched := rfl
@[simp] theorem tables_set (f : FieldRef) (v : Nat) : (s.set f v).tables = s.tables := rfl
@[simp] theorem disc_set (f : FieldRef) (v : Nat) : (s.set f v).disc = s.disc := rfl
@[simp] theorem router_set (f : FieldRef) (v : Nat) : (s.set f v).router = s.router := rfl
@[simp] theorem mer_set (f : FieldRef) (v : Nat) : (s.set f v).mer = s.mer := rfl
@[simp] theorem host_set (f : FieldRef) (v : Nat) : (s.set f v).host = s.host := rfl
@[simp] theorem conv_set (f : FieldRef) (v : Nat) : (s.set f v).conv = s.conv := rfl
@[simp] theorem wing_set (f : FieldRef) (v : Nat) : (s.set f v).wing = s.wing := rfl
@[simp] theorem grid_set (f : FieldRef) (v : Nat) : (s.set f v).grid = s.grid := rfl
@[simp] theorem engine_set (f : FieldRef) (v : Nat) : (s.set f v).engine = s.engine := rfl
@[simp] theorem cast_set (f : FieldRef) (v : Nat) : (s.set f v).cast = s.cast := rfl
@[simp] theorem pwr_set (f : FieldRef) (v : Nat) : (s.set f v).pwr = s.pwr := rfl
@[simp] theorem meter_set (f : FieldRef) (v : Nat) : (s.set f v).meter = s.meter := rfl
@[simp] theorem curt_set (f : FieldRef) (v : Nat) : (s.set f v).curt = s.curt := rfl
@[simp] theorem guard_set (f : FieldRef) (v : Nat) : (s.set f v).guard = s.guard := rfl
@[simp] theorem pump_set (f : FieldRef) (v : Nat) : (s.set f v).pump = s.pump := rfl
@[simp] theorem power_set (f : FieldRef) (v : Nat) : (s.set f v).power = s.power := rfl
@[simp] theorem ghost_set (f : FieldRef) (v : Nat) : (s.set f v).ghost = s.ghost := rfl
@[simp] theorem scrub_set (f : FieldRef) (v : Nat) : (s.set f v).scrub = s.scrub := rfl
@[simp] theorem hwSets_set (f : FieldRef) (v : Nat) : (s.set f v).hwSets = s.hwSets := rfl
@[simp] theorem hwCycle_set (f : FieldRef) (v : Nat) : (s.set f v).hwCycle = s.hwCycle := rfl
@[simp] theorem free_set (f : FieldRef) (v : Nat) : (s.set f v).free = s.free := rfl
@[simp] theorem pending_set (f : FieldRef) (v : Nat) : (s.set f v).pending = s.pending := rfl

/-! `setBit` -/

@[simp] theorem elapsed_setBit (f : FieldRef) (b : Bool) : (s.setBit f b).elapsed = s.elapsed := rfl
@[simp] theorem datum_setBit (f : FieldRef) (b : Bool) : (s.setBit f b).datum = s.datum := rfl
@[simp] theorem latched_setBit (f : FieldRef) (b : Bool) : (s.setBit f b).latched = s.latched := rfl
@[simp] theorem tables_setBit (f : FieldRef) (b : Bool) : (s.setBit f b).tables = s.tables := rfl
@[simp] theorem disc_setBit (f : FieldRef) (b : Bool) : (s.setBit f b).disc = s.disc := rfl
@[simp] theorem router_setBit (f : FieldRef) (b : Bool) : (s.setBit f b).router = s.router := rfl
@[simp] theorem mer_setBit (f : FieldRef) (b : Bool) : (s.setBit f b).mer = s.mer := rfl
@[simp] theorem host_setBit (f : FieldRef) (b : Bool) : (s.setBit f b).host = s.host := rfl
@[simp] theorem conv_setBit (f : FieldRef) (b : Bool) : (s.setBit f b).conv = s.conv := rfl
@[simp] theorem wing_setBit (f : FieldRef) (b : Bool) : (s.setBit f b).wing = s.wing := rfl
@[simp] theorem grid_setBit (f : FieldRef) (b : Bool) : (s.setBit f b).grid = s.grid := rfl
@[simp] theorem engine_setBit (f : FieldRef) (b : Bool) : (s.setBit f b).engine = s.engine := rfl
@[simp] theorem cast_setBit (f : FieldRef) (b : Bool) : (s.setBit f b).cast = s.cast := rfl
@[simp] theorem pwr_setBit (f : FieldRef) (b : Bool) : (s.setBit f b).pwr = s.pwr := rfl
@[simp] theorem meter_setBit (f : FieldRef) (b : Bool) : (s.setBit f b).meter = s.meter := rfl
@[simp] theorem curt_setBit (f : FieldRef) (b : Bool) : (s.setBit f b).curt = s.curt := rfl
@[simp] theorem guard_setBit (f : FieldRef) (b : Bool) : (s.setBit f b).guard = s.guard := rfl
@[simp] theorem pump_setBit (f : FieldRef) (b : Bool) : (s.setBit f b).pump = s.pump := rfl
@[simp] theorem power_setBit (f : FieldRef) (b : Bool) : (s.setBit f b).power = s.power := rfl
@[simp] theorem ghost_setBit (f : FieldRef) (b : Bool) : (s.setBit f b).ghost = s.ghost := rfl
@[simp] theorem scrub_setBit (f : FieldRef) (b : Bool) : (s.setBit f b).scrub = s.scrub := rfl
@[simp] theorem hwSets_setBit (f : FieldRef) (b : Bool) : (s.setBit f b).hwSets = (s.noteSet b f.addr (2 ^ f.lo)).hwSets := rfl
@[simp] theorem hwCycle_setBit (f : FieldRef) (b : Bool) : (s.setBit f b).hwCycle = (s.noteSet b f.addr (2 ^ f.lo)).hwCycle := rfl
@[simp] theorem free_setBit (f : FieldRef) (b : Bool) : (s.setBit f b).free = s.free := rfl
@[simp] theorem pending_setBit (f : FieldRef) (b : Bool) : (s.setBit f b).pending = s.pending := rfl

/-! `setInt` -/

@[simp] theorem elapsed_setInt (f : FieldRef) (v : Int) : (s.setInt f v).elapsed = s.elapsed := rfl
@[simp] theorem datum_setInt (f : FieldRef) (v : Int) : (s.setInt f v).datum = s.datum := rfl
@[simp] theorem latched_setInt (f : FieldRef) (v : Int) : (s.setInt f v).latched = s.latched := rfl
@[simp] theorem tables_setInt (f : FieldRef) (v : Int) : (s.setInt f v).tables = s.tables := rfl
@[simp] theorem disc_setInt (f : FieldRef) (v : Int) : (s.setInt f v).disc = s.disc := rfl
@[simp] theorem router_setInt (f : FieldRef) (v : Int) : (s.setInt f v).router = s.router := rfl
@[simp] theorem mer_setInt (f : FieldRef) (v : Int) : (s.setInt f v).mer = s.mer := rfl
@[simp] theorem host_setInt (f : FieldRef) (v : Int) : (s.setInt f v).host = s.host := rfl
@[simp] theorem conv_setInt (f : FieldRef) (v : Int) : (s.setInt f v).conv = s.conv := rfl
@[simp] theorem wing_setInt (f : FieldRef) (v : Int) : (s.setInt f v).wing = s.wing := rfl
@[simp] theorem grid_setInt (f : FieldRef) (v : Int) : (s.setInt f v).grid = s.grid := rfl
@[simp] theorem engine_setInt (f : FieldRef) (v : Int) : (s.setInt f v).engine = s.engine := rfl
@[simp] theorem cast_setInt (f : FieldRef) (v : Int) : (s.setInt f v).cast = s.cast := rfl
@[simp] theorem pwr_setInt (f : FieldRef) (v : Int) : (s.setInt f v).pwr = s.pwr := rfl
@[simp] theorem meter_setInt (f : FieldRef) (v : Int) : (s.setInt f v).meter = s.meter := rfl
@[simp] theorem curt_setInt (f : FieldRef) (v : Int) : (s.setInt f v).curt = s.curt := rfl
@[simp] theorem guard_setInt (f : FieldRef) (v : Int) : (s.setInt f v).guard = s.guard := rfl
@[simp] theorem pump_setInt (f : FieldRef) (v : Int) : (s.setInt f v).pump = s.pump := rfl
@[simp] theorem power_setInt (f : FieldRef) (v : Int) : (s.setInt f v).power = s.power := rfl
@[simp] theorem ghost_setInt (f : FieldRef) (v : Int) : (s.setInt f v).ghost = s.ghost := rfl
@[simp] theorem scrub_setInt (f : FieldRef) (v : Int) : (s.setInt f v).scrub = s.scrub := rfl
@[simp] theorem hwSets_setInt (f : FieldRef) (v : Int) : (s.setInt f v).hwSets = s.hwSets := rfl
@[simp] theorem hwCycle_setInt (f : FieldRef) (v : Int) : (s.setInt f v).hwCycle = s.hwCycle := rfl
@[simp] theorem free_setInt (f : FieldRef) (v : Int) : (s.setInt f v).free = s.free := rfl
@[simp] theorem pending_setInt (f : FieldRef) (v : Int) : (s.setInt f v).pending = s.pending := rfl

/-! `setSat` -/

@[simp] theorem elapsed_setSat (f : FieldRef) (v : Int) : (s.setSat f v).elapsed = s.elapsed := rfl
@[simp] theorem datum_setSat (f : FieldRef) (v : Int) : (s.setSat f v).datum = s.datum := rfl
@[simp] theorem latched_setSat (f : FieldRef) (v : Int) : (s.setSat f v).latched = s.latched := rfl
@[simp] theorem tables_setSat (f : FieldRef) (v : Int) : (s.setSat f v).tables = s.tables := rfl
@[simp] theorem disc_setSat (f : FieldRef) (v : Int) : (s.setSat f v).disc = s.disc := rfl
@[simp] theorem router_setSat (f : FieldRef) (v : Int) : (s.setSat f v).router = s.router := rfl
@[simp] theorem mer_setSat (f : FieldRef) (v : Int) : (s.setSat f v).mer = s.mer := rfl
@[simp] theorem host_setSat (f : FieldRef) (v : Int) : (s.setSat f v).host = s.host := rfl
@[simp] theorem conv_setSat (f : FieldRef) (v : Int) : (s.setSat f v).conv = s.conv := rfl
@[simp] theorem wing_setSat (f : FieldRef) (v : Int) : (s.setSat f v).wing = s.wing := rfl
@[simp] theorem grid_setSat (f : FieldRef) (v : Int) : (s.setSat f v).grid = s.grid := rfl
@[simp] theorem engine_setSat (f : FieldRef) (v : Int) : (s.setSat f v).engine = s.engine := rfl
@[simp] theorem cast_setSat (f : FieldRef) (v : Int) : (s.setSat f v).cast = s.cast := rfl
@[simp] theorem pwr_setSat (f : FieldRef) (v : Int) : (s.setSat f v).pwr = s.pwr := rfl
@[simp] theorem meter_setSat (f : FieldRef) (v : Int) : (s.setSat f v).meter = s.meter := rfl
@[simp] theorem curt_setSat (f : FieldRef) (v : Int) : (s.setSat f v).curt = s.curt := rfl
@[simp] theorem guard_setSat (f : FieldRef) (v : Int) : (s.setSat f v).guard = s.guard := rfl
@[simp] theorem pump_setSat (f : FieldRef) (v : Int) : (s.setSat f v).pump = s.pump := rfl
@[simp] theorem power_setSat (f : FieldRef) (v : Int) : (s.setSat f v).power = s.power := rfl
@[simp] theorem ghost_setSat (f : FieldRef) (v : Int) : (s.setSat f v).ghost = s.ghost := rfl
@[simp] theorem scrub_setSat (f : FieldRef) (v : Int) : (s.setSat f v).scrub = s.scrub := rfl
@[simp] theorem hwSets_setSat (f : FieldRef) (v : Int) : (s.setSat f v).hwSets = s.hwSets := rfl
@[simp] theorem hwCycle_setSat (f : FieldRef) (v : Int) : (s.setSat f v).hwCycle = s.hwCycle := rfl
@[simp] theorem free_setSat (f : FieldRef) (v : Int) : (s.setSat f v).free = s.free := rfl
@[simp] theorem pending_setSat (f : FieldRef) (v : Int) : (s.setSat f v).pending = s.pending := rfl

/-! `setTop` -/

@[simp] theorem elapsed_setTop (f : FieldRef) (v : Nat) : (s.setTop f v).elapsed = s.elapsed := rfl
@[simp] theorem datum_setTop (f : FieldRef) (v : Nat) : (s.setTop f v).datum = s.datum := rfl
@[simp] theorem latched_setTop (f : FieldRef) (v : Nat) : (s.setTop f v).latched = s.latched := rfl
@[simp] theorem tables_setTop (f : FieldRef) (v : Nat) : (s.setTop f v).tables = s.tables := rfl
@[simp] theorem disc_setTop (f : FieldRef) (v : Nat) : (s.setTop f v).disc = s.disc := rfl
@[simp] theorem router_setTop (f : FieldRef) (v : Nat) : (s.setTop f v).router = s.router := rfl
@[simp] theorem mer_setTop (f : FieldRef) (v : Nat) : (s.setTop f v).mer = s.mer := rfl
@[simp] theorem host_setTop (f : FieldRef) (v : Nat) : (s.setTop f v).host = s.host := rfl
@[simp] theorem conv_setTop (f : FieldRef) (v : Nat) : (s.setTop f v).conv = s.conv := rfl
@[simp] theorem wing_setTop (f : FieldRef) (v : Nat) : (s.setTop f v).wing = s.wing := rfl
@[simp] theorem grid_setTop (f : FieldRef) (v : Nat) : (s.setTop f v).grid = s.grid := rfl
@[simp] theorem engine_setTop (f : FieldRef) (v : Nat) : (s.setTop f v).engine = s.engine := rfl
@[simp] theorem cast_setTop (f : FieldRef) (v : Nat) : (s.setTop f v).cast = s.cast := rfl
@[simp] theorem pwr_setTop (f : FieldRef) (v : Nat) : (s.setTop f v).pwr = s.pwr := rfl
@[simp] theorem meter_setTop (f : FieldRef) (v : Nat) : (s.setTop f v).meter = s.meter := rfl
@[simp] theorem curt_setTop (f : FieldRef) (v : Nat) : (s.setTop f v).curt = s.curt := rfl
@[simp] theorem guard_setTop (f : FieldRef) (v : Nat) : (s.setTop f v).guard = s.guard := rfl
@[simp] theorem pump_setTop (f : FieldRef) (v : Nat) : (s.setTop f v).pump = s.pump := rfl
@[simp] theorem power_setTop (f : FieldRef) (v : Nat) : (s.setTop f v).power = s.power := rfl
@[simp] theorem ghost_setTop (f : FieldRef) (v : Nat) : (s.setTop f v).ghost = s.ghost := rfl
@[simp] theorem scrub_setTop (f : FieldRef) (v : Nat) : (s.setTop f v).scrub = s.scrub := rfl
@[simp] theorem hwSets_setTop (f : FieldRef) (v : Nat) : (s.setTop f v).hwSets = s.hwSets := rfl
@[simp] theorem hwCycle_setTop (f : FieldRef) (v : Nat) : (s.setTop f v).hwCycle = s.hwCycle := rfl
@[simp] theorem free_setTop (f : FieldRef) (v : Nat) : (s.setTop f v).free = s.free := rfl
@[simp] theorem pending_setTop (f : FieldRef) (v : Nat) : (s.setTop f v).pending = s.pending := rfl

/-! `setIbit` -/

@[simp] theorem elapsed_setIbit (f : FieldRef) (i : Nat) (b : Bool) : (s.setIbit f i b).elapsed = s.elapsed := rfl
@[simp] theorem datum_setIbit (f : FieldRef) (i : Nat) (b : Bool) : (s.setIbit f i b).datum = s.datum := rfl
@[simp] theorem latched_setIbit (f : FieldRef) (i : Nat) (b : Bool) : (s.setIbit f i b).latched = s.latched := rfl
@[simp] theorem tables_setIbit (f : FieldRef) (i : Nat) (b : Bool) : (s.setIbit f i b).tables = s.tables := rfl
@[simp] theorem disc_setIbit (f : FieldRef) (i : Nat) (b : Bool) : (s.setIbit f i b).disc = s.disc := rfl
@[simp] theorem router_setIbit (f : FieldRef) (i : Nat) (b : Bool) : (s.setIbit f i b).router = s.router := rfl
@[simp] theorem mer_setIbit (f : FieldRef) (i : Nat) (b : Bool) : (s.setIbit f i b).mer = s.mer := rfl
@[simp] theorem host_setIbit (f : FieldRef) (i : Nat) (b : Bool) : (s.setIbit f i b).host = s.host := rfl
@[simp] theorem conv_setIbit (f : FieldRef) (i : Nat) (b : Bool) : (s.setIbit f i b).conv = s.conv := rfl
@[simp] theorem wing_setIbit (f : FieldRef) (i : Nat) (b : Bool) : (s.setIbit f i b).wing = s.wing := rfl
@[simp] theorem grid_setIbit (f : FieldRef) (i : Nat) (b : Bool) : (s.setIbit f i b).grid = s.grid := rfl
@[simp] theorem engine_setIbit (f : FieldRef) (i : Nat) (b : Bool) : (s.setIbit f i b).engine = s.engine := rfl
@[simp] theorem cast_setIbit (f : FieldRef) (i : Nat) (b : Bool) : (s.setIbit f i b).cast = s.cast := rfl
@[simp] theorem pwr_setIbit (f : FieldRef) (i : Nat) (b : Bool) : (s.setIbit f i b).pwr = s.pwr := rfl
@[simp] theorem meter_setIbit (f : FieldRef) (i : Nat) (b : Bool) : (s.setIbit f i b).meter = s.meter := rfl
@[simp] theorem curt_setIbit (f : FieldRef) (i : Nat) (b : Bool) : (s.setIbit f i b).curt = s.curt := rfl
@[simp] theorem guard_setIbit (f : FieldRef) (i : Nat) (b : Bool) : (s.setIbit f i b).guard = s.guard := rfl
@[simp] theorem pump_setIbit (f : FieldRef) (i : Nat) (b : Bool) : (s.setIbit f i b).pump = s.pump := rfl
@[simp] theorem power_setIbit (f : FieldRef) (i : Nat) (b : Bool) : (s.setIbit f i b).power = s.power := rfl
@[simp] theorem ghost_setIbit (f : FieldRef) (i : Nat) (b : Bool) : (s.setIbit f i b).ghost = s.ghost := rfl
@[simp] theorem scrub_setIbit (f : FieldRef) (i : Nat) (b : Bool) : (s.setIbit f i b).scrub = s.scrub := rfl
@[simp] theorem hwSets_setIbit (f : FieldRef) (i : Nat) (b : Bool) : (s.setIbit f i b).hwSets = (s.noteSet b f.addr (2 ^ (f.lo + i))).hwSets := rfl
@[simp] theorem hwCycle_setIbit (f : FieldRef) (i : Nat) (b : Bool) : (s.setIbit f i b).hwCycle = (s.noteSet b f.addr (2 ^ (f.lo + i))).hwCycle := rfl
@[simp] theorem free_setIbit (f : FieldRef) (i : Nat) (b : Bool) : (s.setIbit f i b).free = s.free := rfl
@[simp] theorem pending_setIbit (f : FieldRef) (i : Nat) (b : Bool) : (s.setIbit f i b).pending = s.pending := rfl

/-! `count` -/

@[simp] theorem elapsed_count (f : FieldRef) (n : Nat) : (s.count f n).elapsed = s.elapsed := rfl
@[simp] theorem datum_count (f : FieldRef) (n : Nat) : (s.count f n).datum = s.datum := rfl
@[simp] theorem latched_count (f : FieldRef) (n : Nat) : (s.count f n).latched = s.latched := rfl
@[simp] theorem tables_count (f : FieldRef) (n : Nat) : (s.count f n).tables = s.tables := rfl
@[simp] theorem disc_count (f : FieldRef) (n : Nat) : (s.count f n).disc = s.disc := rfl
@[simp] theorem router_count (f : FieldRef) (n : Nat) : (s.count f n).router = s.router := rfl
@[simp] theorem mer_count (f : FieldRef) (n : Nat) : (s.count f n).mer = s.mer := rfl
@[simp] theorem host_count (f : FieldRef) (n : Nat) : (s.count f n).host = s.host := rfl
@[simp] theorem conv_count (f : FieldRef) (n : Nat) : (s.count f n).conv = s.conv := rfl
@[simp] theorem wing_count (f : FieldRef) (n : Nat) : (s.count f n).wing = s.wing := rfl
@[simp] theorem grid_count (f : FieldRef) (n : Nat) : (s.count f n).grid = s.grid := rfl
@[simp] theorem engine_count (f : FieldRef) (n : Nat) : (s.count f n).engine = s.engine := rfl
@[simp] theorem cast_count (f : FieldRef) (n : Nat) : (s.count f n).cast = s.cast := rfl
@[simp] theorem pwr_count (f : FieldRef) (n : Nat) : (s.count f n).pwr = s.pwr := rfl
@[simp] theorem meter_count (f : FieldRef) (n : Nat) : (s.count f n).meter = s.meter := rfl
@[simp] theorem curt_count (f : FieldRef) (n : Nat) : (s.count f n).curt = s.curt := rfl
@[simp] theorem guard_count (f : FieldRef) (n : Nat) : (s.count f n).guard = s.guard := rfl
@[simp] theorem pump_count (f : FieldRef) (n : Nat) : (s.count f n).pump = s.pump := rfl
@[simp] theorem power_count (f : FieldRef) (n : Nat) : (s.count f n).power = s.power := rfl
@[simp] theorem ghost_count (f : FieldRef) (n : Nat) : (s.count f n).ghost = s.ghost := rfl
@[simp] theorem scrub_count (f : FieldRef) (n : Nat) : (s.count f n).scrub = s.scrub := rfl
@[simp] theorem hwSets_count (f : FieldRef) (n : Nat) : (s.count f n).hwSets = s.hwSets := rfl
@[simp] theorem hwCycle_count (f : FieldRef) (n : Nat) : (s.count f n).hwCycle = s.hwCycle := rfl
@[simp] theorem free_count (f : FieldRef) (n : Nat) : (s.count f n).free = s.free := rfl
@[simp] theorem pending_count (f : FieldRef) (n : Nat) : (s.count f n).pending = s.pending := rfl

/-! `countWrap` -/

@[simp] theorem elapsed_countWrap (f : FieldRef) : (s.countWrap f).elapsed = s.elapsed := rfl
@[simp] theorem datum_countWrap (f : FieldRef) : (s.countWrap f).datum = s.datum := rfl
@[simp] theorem latched_countWrap (f : FieldRef) : (s.countWrap f).latched = s.latched := rfl
@[simp] theorem tables_countWrap (f : FieldRef) : (s.countWrap f).tables = s.tables := rfl
@[simp] theorem disc_countWrap (f : FieldRef) : (s.countWrap f).disc = s.disc := rfl
@[simp] theorem router_countWrap (f : FieldRef) : (s.countWrap f).router = s.router := rfl
@[simp] theorem mer_countWrap (f : FieldRef) : (s.countWrap f).mer = s.mer := rfl
@[simp] theorem host_countWrap (f : FieldRef) : (s.countWrap f).host = s.host := rfl
@[simp] theorem conv_countWrap (f : FieldRef) : (s.countWrap f).conv = s.conv := rfl
@[simp] theorem wing_countWrap (f : FieldRef) : (s.countWrap f).wing = s.wing := rfl
@[simp] theorem grid_countWrap (f : FieldRef) : (s.countWrap f).grid = s.grid := rfl
@[simp] theorem engine_countWrap (f : FieldRef) : (s.countWrap f).engine = s.engine := rfl
@[simp] theorem cast_countWrap (f : FieldRef) : (s.countWrap f).cast = s.cast := rfl
@[simp] theorem pwr_countWrap (f : FieldRef) : (s.countWrap f).pwr = s.pwr := rfl
@[simp] theorem meter_countWrap (f : FieldRef) : (s.countWrap f).meter = s.meter := rfl
@[simp] theorem curt_countWrap (f : FieldRef) : (s.countWrap f).curt = s.curt := rfl
@[simp] theorem guard_countWrap (f : FieldRef) : (s.countWrap f).guard = s.guard := rfl
@[simp] theorem pump_countWrap (f : FieldRef) : (s.countWrap f).pump = s.pump := rfl
@[simp] theorem power_countWrap (f : FieldRef) : (s.countWrap f).power = s.power := rfl
@[simp] theorem ghost_countWrap (f : FieldRef) : (s.countWrap f).ghost = s.ghost := rfl
@[simp] theorem scrub_countWrap (f : FieldRef) : (s.countWrap f).scrub = s.scrub := rfl
@[simp] theorem hwSets_countWrap (f : FieldRef) : (s.countWrap f).hwSets = s.hwSets := rfl
@[simp] theorem hwCycle_countWrap (f : FieldRef) : (s.countWrap f).hwCycle = s.hwCycle := rfl
@[simp] theorem free_countWrap (f : FieldRef) : (s.countWrap f).free = s.free := rfl
@[simp] theorem pending_countWrap (f : FieldRef) : (s.countWrap f).pending = s.pending := rfl

/-! `setPair` -/

@[simp] theorem elapsed_setPair (lo v : Nat) : (s.setPair lo v).elapsed = s.elapsed := rfl
@[simp] theorem datum_setPair (lo v : Nat) : (s.setPair lo v).datum = s.datum := rfl
@[simp] theorem latched_setPair (lo v : Nat) : (s.setPair lo v).latched = s.latched := rfl
@[simp] theorem tables_setPair (lo v : Nat) : (s.setPair lo v).tables = s.tables := rfl
@[simp] theorem disc_setPair (lo v : Nat) : (s.setPair lo v).disc = s.disc := rfl
@[simp] theorem router_setPair (lo v : Nat) : (s.setPair lo v).router = s.router := rfl
@[simp] theorem mer_setPair (lo v : Nat) : (s.setPair lo v).mer = s.mer := rfl
@[simp] theorem host_setPair (lo v : Nat) : (s.setPair lo v).host = s.host := rfl
@[simp] theorem conv_setPair (lo v : Nat) : (s.setPair lo v).conv = s.conv := rfl
@[simp] theorem wing_setPair (lo v : Nat) : (s.setPair lo v).wing = s.wing := rfl
@[simp] theorem grid_setPair (lo v : Nat) : (s.setPair lo v).grid = s.grid := rfl
@[simp] theorem engine_setPair (lo v : Nat) : (s.setPair lo v).engine = s.engine := rfl
@[simp] theorem cast_setPair (lo v : Nat) : (s.setPair lo v).cast = s.cast := rfl
@[simp] theorem pwr_setPair (lo v : Nat) : (s.setPair lo v).pwr = s.pwr := rfl
@[simp] theorem meter_setPair (lo v : Nat) : (s.setPair lo v).meter = s.meter := rfl
@[simp] theorem curt_setPair (lo v : Nat) : (s.setPair lo v).curt = s.curt := rfl
@[simp] theorem guard_setPair (lo v : Nat) : (s.setPair lo v).guard = s.guard := rfl
@[simp] theorem pump_setPair (lo v : Nat) : (s.setPair lo v).pump = s.pump := rfl
@[simp] theorem power_setPair (lo v : Nat) : (s.setPair lo v).power = s.power := rfl
@[simp] theorem ghost_setPair (lo v : Nat) : (s.setPair lo v).ghost = s.ghost := rfl
@[simp] theorem scrub_setPair (lo v : Nat) : (s.setPair lo v).scrub = s.scrub := rfl
@[simp] theorem hwSets_setPair (lo v : Nat) : (s.setPair lo v).hwSets = s.hwSets := rfl
@[simp] theorem hwCycle_setPair (lo v : Nat) : (s.setPair lo v).hwCycle = s.hwCycle := rfl
@[simp] theorem free_setPair (lo v : Nat) : (s.setPair lo v).free = s.free := rfl
@[simp] theorem pending_setPair (lo v : Nat) : (s.setPair lo v).pending = s.pending := rfl

/-! `noteClass` -/

@[simp] theorem elapsed_noteClass (c : Nat) : (s.noteClass c).elapsed = s.elapsed := by
  unfold State.noteClass; exact s.elapsed_setIbit ..
@[simp] theorem datum_noteClass (c : Nat) : (s.noteClass c).datum = s.datum := by
  unfold State.noteClass; exact s.datum_setIbit ..
@[simp] theorem latched_noteClass (c : Nat) : (s.noteClass c).latched = s.latched := by
  unfold State.noteClass; exact s.latched_setIbit ..
@[simp] theorem tables_noteClass (c : Nat) : (s.noteClass c).tables = s.tables := by
  unfold State.noteClass; exact s.tables_setIbit ..
@[simp] theorem disc_noteClass (c : Nat) : (s.noteClass c).disc = s.disc := by
  unfold State.noteClass; exact s.disc_setIbit ..
@[simp] theorem router_noteClass (c : Nat) : (s.noteClass c).router = s.router := by
  unfold State.noteClass; exact s.router_setIbit ..
@[simp] theorem mer_noteClass (c : Nat) : (s.noteClass c).mer = s.mer := by
  unfold State.noteClass; exact s.mer_setIbit ..
@[simp] theorem host_noteClass (c : Nat) : (s.noteClass c).host = s.host := by
  unfold State.noteClass; exact s.host_setIbit ..
@[simp] theorem conv_noteClass (c : Nat) : (s.noteClass c).conv = s.conv := by
  unfold State.noteClass; exact s.conv_setIbit ..
@[simp] theorem wing_noteClass (c : Nat) : (s.noteClass c).wing = s.wing := by
  unfold State.noteClass; exact s.wing_setIbit ..
@[simp] theorem grid_noteClass (c : Nat) : (s.noteClass c).grid = s.grid := by
  unfold State.noteClass; exact s.grid_setIbit ..
@[simp] theorem engine_noteClass (c : Nat) : (s.noteClass c).engine = s.engine := by
  unfold State.noteClass; exact s.engine_setIbit ..
@[simp] theorem cast_noteClass (c : Nat) : (s.noteClass c).cast = s.cast := by
  unfold State.noteClass; exact s.cast_setIbit ..
@[simp] theorem pwr_noteClass (c : Nat) : (s.noteClass c).pwr = s.pwr := by
  unfold State.noteClass; exact s.pwr_setIbit ..
@[simp] theorem meter_noteClass (c : Nat) : (s.noteClass c).meter = s.meter := by
  unfold State.noteClass; exact s.meter_setIbit ..
@[simp] theorem curt_noteClass (c : Nat) : (s.noteClass c).curt = s.curt := by
  unfold State.noteClass; exact s.curt_setIbit ..
@[simp] theorem guard_noteClass (c : Nat) : (s.noteClass c).guard = s.guard := by
  unfold State.noteClass; exact s.guard_setIbit ..
@[simp] theorem pump_noteClass (c : Nat) : (s.noteClass c).pump = s.pump := by
  unfold State.noteClass; exact s.pump_setIbit ..
@[simp] theorem power_noteClass (c : Nat) : (s.noteClass c).power = s.power := by
  unfold State.noteClass; exact s.power_setIbit ..
@[simp] theorem ghost_noteClass (c : Nat) : (s.noteClass c).ghost = s.ghost := by
  unfold State.noteClass; exact s.ghost_setIbit ..
@[simp] theorem scrub_noteClass (c : Nat) : (s.noteClass c).scrub = s.scrub := by
  unfold State.noteClass; exact s.scrub_setIbit ..
@[simp] theorem free_noteClass (c : Nat) : (s.noteClass c).free = s.free := by
  unfold State.noteClass; exact s.free_setIbit ..
@[simp] theorem pending_noteClass (c : Nat) : (s.noteClass c).pending = s.pending := by
  unfold State.noteClass; exact s.pending_setIbit ..

/-! `transient` -/

@[simp] theorem elapsed_transient (f : FieldRef) : (s.transient f).elapsed = s.elapsed := by
  unfold State.transient; rw [elapsed_noteClass, elapsed_count]
@[simp] theorem datum_transient (f : FieldRef) : (s.transient f).datum = s.datum := by
  unfold State.transient; rw [datum_noteClass, datum_count]
@[simp] theorem latched_transient (f : FieldRef) : (s.transient f).latched = s.latched := by
  unfold State.transient; rw [latched_noteClass, latched_count]
@[simp] theorem tables_transient (f : FieldRef) : (s.transient f).tables = s.tables := by
  unfold State.transient; rw [tables_noteClass, tables_count]
@[simp] theorem disc_transient (f : FieldRef) : (s.transient f).disc = s.disc := by
  unfold State.transient; rw [disc_noteClass, disc_count]
@[simp] theorem router_transient (f : FieldRef) : (s.transient f).router = s.router := by
  unfold State.transient; rw [router_noteClass, router_count]
@[simp] theorem mer_transient (f : FieldRef) : (s.transient f).mer = s.mer := by
  unfold State.transient; rw [mer_noteClass, mer_count]
@[simp] theorem host_transient (f : FieldRef) : (s.transient f).host = s.host := by
  unfold State.transient; rw [host_noteClass, host_count]
@[simp] theorem conv_transient (f : FieldRef) : (s.transient f).conv = s.conv := by
  unfold State.transient; rw [conv_noteClass, conv_count]
@[simp] theorem wing_transient (f : FieldRef) : (s.transient f).wing = s.wing := by
  unfold State.transient; rw [wing_noteClass, wing_count]
@[simp] theorem grid_transient (f : FieldRef) : (s.transient f).grid = s.grid := by
  unfold State.transient; rw [grid_noteClass, grid_count]
@[simp] theorem engine_transient (f : FieldRef) : (s.transient f).engine = s.engine := by
  unfold State.transient; rw [engine_noteClass, engine_count]
@[simp] theorem cast_transient (f : FieldRef) : (s.transient f).cast = s.cast := by
  unfold State.transient; rw [cast_noteClass, cast_count]
@[simp] theorem pwr_transient (f : FieldRef) : (s.transient f).pwr = s.pwr := by
  unfold State.transient; rw [pwr_noteClass, pwr_count]
@[simp] theorem meter_transient (f : FieldRef) : (s.transient f).meter = s.meter := by
  unfold State.transient; rw [meter_noteClass, meter_count]
@[simp] theorem curt_transient (f : FieldRef) : (s.transient f).curt = s.curt := by
  unfold State.transient; rw [curt_noteClass, curt_count]
@[simp] theorem guard_transient (f : FieldRef) : (s.transient f).guard = s.guard := by
  unfold State.transient; rw [guard_noteClass, guard_count]
@[simp] theorem pump_transient (f : FieldRef) : (s.transient f).pump = s.pump := by
  unfold State.transient; rw [pump_noteClass, pump_count]
@[simp] theorem power_transient (f : FieldRef) : (s.transient f).power = s.power := by
  unfold State.transient; rw [power_noteClass, power_count]
@[simp] theorem ghost_transient (f : FieldRef) : (s.transient f).ghost = s.ghost := by
  unfold State.transient; rw [ghost_noteClass, ghost_count]
@[simp] theorem scrub_transient (f : FieldRef) : (s.transient f).scrub = s.scrub := by
  unfold State.transient; rw [scrub_noteClass, scrub_count]
@[simp] theorem free_transient (f : FieldRef) : (s.transient f).free = s.free := by
  unfold State.transient; rw [free_noteClass, free_count]
@[simp] theorem pending_transient (f : FieldRef) : (s.transient f).pending = s.pending := by
  unfold State.transient; rw [pending_noteClass, pending_count]

/-! `nextFree` -/

@[simp] theorem elapsed_nextFree : (s.nextFree).elapsed = s.elapsed := rfl
@[simp] theorem datum_nextFree : (s.nextFree).datum = s.datum := rfl
@[simp] theorem regs_nextFree : (s.nextFree).regs = s.regs := rfl
@[simp] theorem latched_nextFree : (s.nextFree).latched = s.latched := rfl
@[simp] theorem tables_nextFree : (s.nextFree).tables = s.tables := rfl
@[simp] theorem disc_nextFree : (s.nextFree).disc = s.disc := rfl
@[simp] theorem router_nextFree : (s.nextFree).router = s.router := rfl
@[simp] theorem mer_nextFree : (s.nextFree).mer = s.mer := rfl
@[simp] theorem host_nextFree : (s.nextFree).host = s.host := rfl
@[simp] theorem conv_nextFree : (s.nextFree).conv = s.conv := rfl
@[simp] theorem wing_nextFree : (s.nextFree).wing = s.wing := rfl
@[simp] theorem grid_nextFree : (s.nextFree).grid = s.grid := rfl
@[simp] theorem engine_nextFree : (s.nextFree).engine = s.engine := rfl
@[simp] theorem cast_nextFree : (s.nextFree).cast = s.cast := rfl
@[simp] theorem pwr_nextFree : (s.nextFree).pwr = s.pwr := rfl
@[simp] theorem meter_nextFree : (s.nextFree).meter = s.meter := rfl
@[simp] theorem curt_nextFree : (s.nextFree).curt = s.curt := rfl
@[simp] theorem guard_nextFree : (s.nextFree).guard = s.guard := rfl
@[simp] theorem pump_nextFree : (s.nextFree).pump = s.pump := rfl
@[simp] theorem power_nextFree : (s.nextFree).power = s.power := rfl
@[simp] theorem ghost_nextFree : (s.nextFree).ghost = s.ghost := rfl
@[simp] theorem scrub_nextFree : (s.nextFree).scrub = s.scrub := rfl
@[simp] theorem pending_nextFree : (s.nextFree).pending = s.pending := rfl
@[simp] theorem reg_nextFree (r : Nat) : (s.nextFree).reg r = s.reg r := rfl
@[simp] theorem get_nextFree (g : FieldRef) : (s.nextFree).get g = s.get g := rfl
@[simp] theorem bit_nextFree (g : FieldRef) : (s.nextFree).bit g = s.bit g := rfl

/-! `advance` -/

@[simp] theorem regs_advance (t : Nat) : (s.advance t).regs = s.regs := rfl
@[simp] theorem latched_advance (t : Nat) : (s.advance t).latched = s.latched := rfl
@[simp] theorem tables_advance (t : Nat) : (s.advance t).tables = s.tables := rfl
@[simp] theorem disc_advance (t : Nat) : (s.advance t).disc = s.disc := rfl
@[simp] theorem router_advance (t : Nat) : (s.advance t).router = s.router := rfl
@[simp] theorem mer_advance (t : Nat) : (s.advance t).mer = s.mer := rfl
@[simp] theorem host_advance (t : Nat) : (s.advance t).host = s.host := rfl
@[simp] theorem conv_advance (t : Nat) : (s.advance t).conv = s.conv := rfl
@[simp] theorem wing_advance (t : Nat) : (s.advance t).wing = s.wing := rfl
@[simp] theorem grid_advance (t : Nat) : (s.advance t).grid = s.grid := rfl
@[simp] theorem engine_advance (t : Nat) : (s.advance t).engine = s.engine := rfl
@[simp] theorem cast_advance (t : Nat) : (s.advance t).cast = s.cast := rfl
@[simp] theorem pwr_advance (t : Nat) : (s.advance t).pwr = s.pwr := rfl
@[simp] theorem meter_advance (t : Nat) : (s.advance t).meter = s.meter := rfl
@[simp] theorem curt_advance (t : Nat) : (s.advance t).curt = s.curt := rfl
@[simp] theorem guard_advance (t : Nat) : (s.advance t).guard = s.guard := rfl
@[simp] theorem pump_advance (t : Nat) : (s.advance t).pump = s.pump := rfl
@[simp] theorem power_advance (t : Nat) : (s.advance t).power = s.power := rfl
@[simp] theorem ghost_advance (t : Nat) : (s.advance t).ghost = s.ghost := rfl
@[simp] theorem scrub_advance (t : Nat) : (s.advance t).scrub = s.scrub := rfl
@[simp] theorem hwSets_advance (t : Nat) : (s.advance t).hwSets = s.hwSets := rfl
@[simp] theorem hwCycle_advance (t : Nat) : (s.advance t).hwCycle = s.hwCycle := rfl
@[simp] theorem free_advance (t : Nat) : (s.advance t).free = s.free := rfl
@[simp] theorem pending_advance (t : Nat) : (s.advance t).pending = s.pending := rfl
@[simp] theorem reg_advance (t : Nat) (r : Nat) : (s.advance t).reg r = s.reg r := rfl
@[simp] theorem get_advance (t : Nat) (g : FieldRef) : (s.advance t).get g = s.get g := rfl
@[simp] theorem bit_advance (t : Nat) (g : FieldRef) : (s.advance t).bit g = s.bit g := rfl

/-! `stage` -/

@[simp] theorem elapsed_stage (e : StagedEntry) : (s.stage e).elapsed = s.elapsed := rfl
@[simp] theorem datum_stage (e : StagedEntry) : (s.stage e).datum = s.datum := rfl
@[simp] theorem regs_stage (e : StagedEntry) : (s.stage e).regs = s.regs := rfl
@[simp] theorem latched_stage (e : StagedEntry) : (s.stage e).latched = s.latched := rfl
@[simp] theorem tables_stage (e : StagedEntry) : (s.stage e).tables = s.tables := rfl
@[simp] theorem disc_stage (e : StagedEntry) : (s.stage e).disc = s.disc := rfl
@[simp] theorem router_stage (e : StagedEntry) : (s.stage e).router = s.router := rfl
@[simp] theorem mer_stage (e : StagedEntry) : (s.stage e).mer = s.mer := rfl
@[simp] theorem conv_stage (e : StagedEntry) : (s.stage e).conv = s.conv := rfl
@[simp] theorem wing_stage (e : StagedEntry) : (s.stage e).wing = s.wing := rfl
@[simp] theorem grid_stage (e : StagedEntry) : (s.stage e).grid = s.grid := rfl
@[simp] theorem engine_stage (e : StagedEntry) : (s.stage e).engine = s.engine := rfl
@[simp] theorem cast_stage (e : StagedEntry) : (s.stage e).cast = s.cast := rfl
@[simp] theorem pwr_stage (e : StagedEntry) : (s.stage e).pwr = s.pwr := rfl
@[simp] theorem meter_stage (e : StagedEntry) : (s.stage e).meter = s.meter := rfl
@[simp] theorem curt_stage (e : StagedEntry) : (s.stage e).curt = s.curt := rfl
@[simp] theorem guard_stage (e : StagedEntry) : (s.stage e).guard = s.guard := rfl
@[simp] theorem pump_stage (e : StagedEntry) : (s.stage e).pump = s.pump := rfl
@[simp] theorem power_stage (e : StagedEntry) : (s.stage e).power = s.power := rfl
@[simp] theorem ghost_stage (e : StagedEntry) : (s.stage e).ghost = s.ghost := rfl
@[simp] theorem scrub_stage (e : StagedEntry) : (s.stage e).scrub = s.scrub := rfl
@[simp] theorem hwSets_stage (e : StagedEntry) : (s.stage e).hwSets = s.hwSets := rfl
@[simp] theorem hwCycle_stage (e : StagedEntry) : (s.stage e).hwCycle = s.hwCycle := rfl
@[simp] theorem free_stage (e : StagedEntry) : (s.stage e).free = s.free := rfl
@[simp] theorem pending_stage (e : StagedEntry) : (s.stage e).pending = s.pending := rfl
@[simp] theorem reg_stage (e : StagedEntry) (r : Nat) : (s.stage e).reg r = s.reg r := rfl
@[simp] theorem get_stage (e : StagedEntry) (g : FieldRef) : (s.stage e).get g = s.get g := rfl
@[simp] theorem bit_stage (e : StagedEntry) (g : FieldRef) : (s.stage e).bit g = s.bit g := rfl

/-! `mapHost` -/

@[simp] theorem elapsed_mapHost (f : HostIf → HostIf) : (s.mapHost f).elapsed = s.elapsed := rfl
@[simp] theorem datum_mapHost (f : HostIf → HostIf) : (s.mapHost f).datum = s.datum := rfl
@[simp] theorem regs_mapHost (f : HostIf → HostIf) : (s.mapHost f).regs = s.regs := rfl
@[simp] theorem latched_mapHost (f : HostIf → HostIf) : (s.mapHost f).latched = s.latched := rfl
@[simp] theorem tables_mapHost (f : HostIf → HostIf) : (s.mapHost f).tables = s.tables := rfl
@[simp] theorem disc_mapHost (f : HostIf → HostIf) : (s.mapHost f).disc = s.disc := rfl
@[simp] theorem router_mapHost (f : HostIf → HostIf) : (s.mapHost f).router = s.router := rfl
@[simp] theorem mer_mapHost (f : HostIf → HostIf) : (s.mapHost f).mer = s.mer := rfl
@[simp] theorem conv_mapHost (f : HostIf → HostIf) : (s.mapHost f).conv = s.conv := rfl
@[simp] theorem wing_mapHost (f : HostIf → HostIf) : (s.mapHost f).wing = s.wing := rfl
@[simp] theorem grid_mapHost (f : HostIf → HostIf) : (s.mapHost f).grid = s.grid := rfl
@[simp] theorem engine_mapHost (f : HostIf → HostIf) : (s.mapHost f).engine = s.engine := rfl
@[simp] theorem cast_mapHost (f : HostIf → HostIf) : (s.mapHost f).cast = s.cast := rfl
@[simp] theorem pwr_mapHost (f : HostIf → HostIf) : (s.mapHost f).pwr = s.pwr := rfl
@[simp] theorem meter_mapHost (f : HostIf → HostIf) : (s.mapHost f).meter = s.meter := rfl
@[simp] theorem curt_mapHost (f : HostIf → HostIf) : (s.mapHost f).curt = s.curt := rfl
@[simp] theorem guard_mapHost (f : HostIf → HostIf) : (s.mapHost f).guard = s.guard := rfl
@[simp] theorem pump_mapHost (f : HostIf → HostIf) : (s.mapHost f).pump = s.pump := rfl
@[simp] theorem power_mapHost (f : HostIf → HostIf) : (s.mapHost f).power = s.power := rfl
@[simp] theorem ghost_mapHost (f : HostIf → HostIf) : (s.mapHost f).ghost = s.ghost := rfl
@[simp] theorem scrub_mapHost (f : HostIf → HostIf) : (s.mapHost f).scrub = s.scrub := rfl
@[simp] theorem hwSets_mapHost (f : HostIf → HostIf) : (s.mapHost f).hwSets = s.hwSets := rfl
@[simp] theorem hwCycle_mapHost (f : HostIf → HostIf) : (s.mapHost f).hwCycle = s.hwCycle := rfl
@[simp] theorem free_mapHost (f : HostIf → HostIf) : (s.mapHost f).free = s.free := rfl
@[simp] theorem pending_mapHost (f : HostIf → HostIf) : (s.mapHost f).pending = s.pending := rfl
@[simp] theorem host_mapHost (f : HostIf → HostIf) : (s.mapHost f).host = f s.host := rfl
@[simp] theorem reg_mapHost (f : HostIf → HostIf) (r : Nat) : (s.mapHost f).reg r = s.reg r := rfl
@[simp] theorem get_mapHost (f : HostIf → HostIf) (g : FieldRef) : (s.mapHost f).get g = s.get g := rfl
@[simp] theorem bit_mapHost (f : HostIf → HostIf) (g : FieldRef) : (s.mapHost f).bit g = s.bit g := rfl

/-! `mapPower` -/

@[simp] theorem elapsed_mapPower (f : Power → Power) : (s.mapPower f).elapsed = s.elapsed := rfl
@[simp] theorem datum_mapPower (f : Power → Power) : (s.mapPower f).datum = s.datum := rfl
@[simp] theorem regs_mapPower (f : Power → Power) : (s.mapPower f).regs = s.regs := rfl
@[simp] theorem latched_mapPower (f : Power → Power) : (s.mapPower f).latched = s.latched := rfl
@[simp] theorem tables_mapPower (f : Power → Power) : (s.mapPower f).tables = s.tables := rfl
@[simp] theorem disc_mapPower (f : Power → Power) : (s.mapPower f).disc = s.disc := rfl
@[simp] theorem router_mapPower (f : Power → Power) : (s.mapPower f).router = s.router := rfl
@[simp] theorem mer_mapPower (f : Power → Power) : (s.mapPower f).mer = s.mer := rfl
@[simp] theorem host_mapPower (f : Power → Power) : (s.mapPower f).host = s.host := rfl
@[simp] theorem conv_mapPower (f : Power → Power) : (s.mapPower f).conv = s.conv := rfl
@[simp] theorem wing_mapPower (f : Power → Power) : (s.mapPower f).wing = s.wing := rfl
@[simp] theorem grid_mapPower (f : Power → Power) : (s.mapPower f).grid = s.grid := rfl
@[simp] theorem engine_mapPower (f : Power → Power) : (s.mapPower f).engine = s.engine := rfl
@[simp] theorem cast_mapPower (f : Power → Power) : (s.mapPower f).cast = s.cast := rfl
@[simp] theorem pwr_mapPower (f : Power → Power) : (s.mapPower f).pwr = s.pwr := rfl
@[simp] theorem meter_mapPower (f : Power → Power) : (s.mapPower f).meter = s.meter := rfl
@[simp] theorem curt_mapPower (f : Power → Power) : (s.mapPower f).curt = s.curt := rfl
@[simp] theorem guard_mapPower (f : Power → Power) : (s.mapPower f).guard = s.guard := rfl
@[simp] theorem pump_mapPower (f : Power → Power) : (s.mapPower f).pump = s.pump := rfl
@[simp] theorem ghost_mapPower (f : Power → Power) : (s.mapPower f).ghost = s.ghost := rfl
@[simp] theorem scrub_mapPower (f : Power → Power) : (s.mapPower f).scrub = s.scrub := rfl
@[simp] theorem hwSets_mapPower (f : Power → Power) : (s.mapPower f).hwSets = s.hwSets := rfl
@[simp] theorem hwCycle_mapPower (f : Power → Power) : (s.mapPower f).hwCycle = s.hwCycle := rfl
@[simp] theorem free_mapPower (f : Power → Power) : (s.mapPower f).free = s.free := rfl
@[simp] theorem pending_mapPower (f : Power → Power) : (s.mapPower f).pending = s.pending := rfl
@[simp] theorem power_mapPower (f : Power → Power) : (s.mapPower f).power = f s.power := rfl
@[simp] theorem reg_mapPower (f : Power → Power) (r : Nat) : (s.mapPower f).reg r = s.reg r := rfl
@[simp] theorem get_mapPower (f : Power → Power) (g : FieldRef) : (s.mapPower f).get g = s.get g := rfl
@[simp] theorem bit_mapPower (f : Power → Power) (g : FieldRef) : (s.mapPower f).bit g = s.bit g := rfl

/-! `mapScrub` -/

@[simp] theorem elapsed_mapScrub (f : Scrub → Scrub) : (s.mapScrub f).elapsed = s.elapsed := rfl
@[simp] theorem datum_mapScrub (f : Scrub → Scrub) : (s.mapScrub f).datum = s.datum := rfl
@[simp] theorem regs_mapScrub (f : Scrub → Scrub) : (s.mapScrub f).regs = s.regs := rfl
@[simp] theorem latched_mapScrub (f : Scrub → Scrub) : (s.mapScrub f).latched = s.latched := rfl
@[simp] theorem tables_mapScrub (f : Scrub → Scrub) : (s.mapScrub f).tables = s.tables := rfl
@[simp] theorem disc_mapScrub (f : Scrub → Scrub) : (s.mapScrub f).disc = s.disc := rfl
@[simp] theorem router_mapScrub (f : Scrub → Scrub) : (s.mapScrub f).router = s.router := rfl
@[simp] theorem mer_mapScrub (f : Scrub → Scrub) : (s.mapScrub f).mer = s.mer := rfl
@[simp] theorem host_mapScrub (f : Scrub → Scrub) : (s.mapScrub f).host = s.host := rfl
@[simp] theorem conv_mapScrub (f : Scrub → Scrub) : (s.mapScrub f).conv = s.conv := rfl
@[simp] theorem wing_mapScrub (f : Scrub → Scrub) : (s.mapScrub f).wing = s.wing := rfl
@[simp] theorem grid_mapScrub (f : Scrub → Scrub) : (s.mapScrub f).grid = s.grid := rfl
@[simp] theorem engine_mapScrub (f : Scrub → Scrub) : (s.mapScrub f).engine = s.engine := rfl
@[simp] theorem cast_mapScrub (f : Scrub → Scrub) : (s.mapScrub f).cast = s.cast := rfl
@[simp] theorem pwr_mapScrub (f : Scrub → Scrub) : (s.mapScrub f).pwr = s.pwr := rfl
@[simp] theorem meter_mapScrub (f : Scrub → Scrub) : (s.mapScrub f).meter = s.meter := rfl
@[simp] theorem curt_mapScrub (f : Scrub → Scrub) : (s.mapScrub f).curt = s.curt := rfl
@[simp] theorem guard_mapScrub (f : Scrub → Scrub) : (s.mapScrub f).guard = s.guard := rfl
@[simp] theorem pump_mapScrub (f : Scrub → Scrub) : (s.mapScrub f).pump = s.pump := rfl
@[simp] theorem power_mapScrub (f : Scrub → Scrub) : (s.mapScrub f).power = s.power := rfl
@[simp] theorem ghost_mapScrub (f : Scrub → Scrub) : (s.mapScrub f).ghost = s.ghost := rfl
@[simp] theorem hwSets_mapScrub (f : Scrub → Scrub) : (s.mapScrub f).hwSets = s.hwSets := rfl
@[simp] theorem hwCycle_mapScrub (f : Scrub → Scrub) : (s.mapScrub f).hwCycle = s.hwCycle := rfl
@[simp] theorem free_mapScrub (f : Scrub → Scrub) : (s.mapScrub f).free = s.free := rfl
@[simp] theorem pending_mapScrub (f : Scrub → Scrub) : (s.mapScrub f).pending = s.pending := rfl
@[simp] theorem scrub_mapScrub (f : Scrub → Scrub) : (s.mapScrub f).scrub = f s.scrub := rfl
@[simp] theorem reg_mapScrub (f : Scrub → Scrub) (r : Nat) : (s.mapScrub f).reg r = s.reg r := rfl
@[simp] theorem get_mapScrub (f : Scrub → Scrub) (g : FieldRef) : (s.mapScrub f).get g = s.get g := rfl
@[simp] theorem bit_mapScrub (f : Scrub → Scrub) (g : FieldRef) : (s.mapScrub f).bit g = s.bit g := rfl

/-! `mapCurt` -/

@[simp] theorem elapsed_mapCurt (f : Curt → Curt) : (s.mapCurt f).elapsed = s.elapsed := rfl
@[simp] theorem datum_mapCurt (f : Curt → Curt) : (s.mapCurt f).datum = s.datum := rfl
@[simp] theorem regs_mapCurt (f : Curt → Curt) : (s.mapCurt f).regs = s.regs := rfl
@[simp] theorem latched_mapCurt (f : Curt → Curt) : (s.mapCurt f).latched = s.latched := rfl
@[simp] theorem tables_mapCurt (f : Curt → Curt) : (s.mapCurt f).tables = s.tables := rfl
@[simp] theorem disc_mapCurt (f : Curt → Curt) : (s.mapCurt f).disc = s.disc := rfl
@[simp] theorem router_mapCurt (f : Curt → Curt) : (s.mapCurt f).router = s.router := rfl
@[simp] theorem mer_mapCurt (f : Curt → Curt) : (s.mapCurt f).mer = s.mer := rfl
@[simp] theorem host_mapCurt (f : Curt → Curt) : (s.mapCurt f).host = s.host := rfl
@[simp] theorem conv_mapCurt (f : Curt → Curt) : (s.mapCurt f).conv = s.conv := rfl
@[simp] theorem wing_mapCurt (f : Curt → Curt) : (s.mapCurt f).wing = s.wing := rfl
@[simp] theorem grid_mapCurt (f : Curt → Curt) : (s.mapCurt f).grid = s.grid := rfl
@[simp] theorem engine_mapCurt (f : Curt → Curt) : (s.mapCurt f).engine = s.engine := rfl
@[simp] theorem cast_mapCurt (f : Curt → Curt) : (s.mapCurt f).cast = s.cast := rfl
@[simp] theorem pwr_mapCurt (f : Curt → Curt) : (s.mapCurt f).pwr = s.pwr := rfl
@[simp] theorem meter_mapCurt (f : Curt → Curt) : (s.mapCurt f).meter = s.meter := rfl
@[simp] theorem guard_mapCurt (f : Curt → Curt) : (s.mapCurt f).guard = s.guard := rfl
@[simp] theorem pump_mapCurt (f : Curt → Curt) : (s.mapCurt f).pump = s.pump := rfl
@[simp] theorem power_mapCurt (f : Curt → Curt) : (s.mapCurt f).power = s.power := rfl
@[simp] theorem ghost_mapCurt (f : Curt → Curt) : (s.mapCurt f).ghost = s.ghost := rfl
@[simp] theorem scrub_mapCurt (f : Curt → Curt) : (s.mapCurt f).scrub = s.scrub := rfl
@[simp] theorem hwSets_mapCurt (f : Curt → Curt) : (s.mapCurt f).hwSets = s.hwSets := rfl
@[simp] theorem hwCycle_mapCurt (f : Curt → Curt) : (s.mapCurt f).hwCycle = s.hwCycle := rfl
@[simp] theorem free_mapCurt (f : Curt → Curt) : (s.mapCurt f).free = s.free := rfl
@[simp] theorem pending_mapCurt (f : Curt → Curt) : (s.mapCurt f).pending = s.pending := rfl
@[simp] theorem curt_mapCurt (f : Curt → Curt) : (s.mapCurt f).curt = f s.curt := rfl
@[simp] theorem reg_mapCurt (f : Curt → Curt) (r : Nat) : (s.mapCurt f).reg r = s.reg r := rfl
@[simp] theorem get_mapCurt (f : Curt → Curt) (g : FieldRef) : (s.mapCurt f).get g = s.get g := rfl
@[simp] theorem bit_mapCurt (f : Curt → Curt) (g : FieldRef) : (s.mapCurt f).bit g = s.bit g := rfl

/-! `mapEngine` -/

@[simp] theorem elapsed_mapEngine (f : Engine → Engine) : (s.mapEngine f).elapsed = s.elapsed := rfl
@[simp] theorem datum_mapEngine (f : Engine → Engine) : (s.mapEngine f).datum = s.datum := rfl
@[simp] theorem regs_mapEngine (f : Engine → Engine) : (s.mapEngine f).regs = s.regs := rfl
@[simp] theorem latched_mapEngine (f : Engine → Engine) : (s.mapEngine f).latched = s.latched := rfl
@[simp] theorem tables_mapEngine (f : Engine → Engine) : (s.mapEngine f).tables = s.tables := rfl
@[simp] theorem disc_mapEngine (f : Engine → Engine) : (s.mapEngine f).disc = s.disc := rfl
@[simp] theorem router_mapEngine (f : Engine → Engine) : (s.mapEngine f).router = s.router := rfl
@[simp] theorem mer_mapEngine (f : Engine → Engine) : (s.mapEngine f).mer = s.mer := rfl
@[simp] theorem host_mapEngine (f : Engine → Engine) : (s.mapEngine f).host = s.host := rfl
@[simp] theorem conv_mapEngine (f : Engine → Engine) : (s.mapEngine f).conv = s.conv := rfl
@[simp] theorem wing_mapEngine (f : Engine → Engine) : (s.mapEngine f).wing = s.wing := rfl
@[simp] theorem grid_mapEngine (f : Engine → Engine) : (s.mapEngine f).grid = s.grid := rfl
@[simp] theorem cast_mapEngine (f : Engine → Engine) : (s.mapEngine f).cast = s.cast := rfl
@[simp] theorem pwr_mapEngine (f : Engine → Engine) : (s.mapEngine f).pwr = s.pwr := rfl
@[simp] theorem meter_mapEngine (f : Engine → Engine) : (s.mapEngine f).meter = s.meter := rfl
@[simp] theorem curt_mapEngine (f : Engine → Engine) : (s.mapEngine f).curt = s.curt := rfl
@[simp] theorem guard_mapEngine (f : Engine → Engine) : (s.mapEngine f).guard = s.guard := rfl
@[simp] theorem pump_mapEngine (f : Engine → Engine) : (s.mapEngine f).pump = s.pump := rfl
@[simp] theorem power_mapEngine (f : Engine → Engine) : (s.mapEngine f).power = s.power := rfl
@[simp] theorem ghost_mapEngine (f : Engine → Engine) : (s.mapEngine f).ghost = s.ghost := rfl
@[simp] theorem scrub_mapEngine (f : Engine → Engine) : (s.mapEngine f).scrub = s.scrub := rfl
@[simp] theorem hwSets_mapEngine (f : Engine → Engine) : (s.mapEngine f).hwSets = s.hwSets := rfl
@[simp] theorem hwCycle_mapEngine (f : Engine → Engine) : (s.mapEngine f).hwCycle = s.hwCycle := rfl
@[simp] theorem free_mapEngine (f : Engine → Engine) : (s.mapEngine f).free = s.free := rfl
@[simp] theorem pending_mapEngine (f : Engine → Engine) : (s.mapEngine f).pending = s.pending := rfl
@[simp] theorem engine_mapEngine (f : Engine → Engine) : (s.mapEngine f).engine = f s.engine := rfl
@[simp] theorem reg_mapEngine (f : Engine → Engine) (r : Nat) : (s.mapEngine f).reg r = s.reg r := rfl
@[simp] theorem get_mapEngine (f : Engine → Engine) (g : FieldRef) : (s.mapEngine f).get g = s.get g := rfl
@[simp] theorem bit_mapEngine (f : Engine → Engine) (g : FieldRef) : (s.mapEngine f).bit g = s.bit g := rfl

/-! `mapGhost` -/

@[simp] theorem elapsed_mapGhost (f : Ghost → Ghost) : (s.mapGhost f).elapsed = s.elapsed := rfl
@[simp] theorem datum_mapGhost (f : Ghost → Ghost) : (s.mapGhost f).datum = s.datum := rfl
@[simp] theorem regs_mapGhost (f : Ghost → Ghost) : (s.mapGhost f).regs = s.regs := rfl
@[simp] theorem latched_mapGhost (f : Ghost → Ghost) : (s.mapGhost f).latched = s.latched := rfl
@[simp] theorem tables_mapGhost (f : Ghost → Ghost) : (s.mapGhost f).tables = s.tables := rfl
@[simp] theorem disc_mapGhost (f : Ghost → Ghost) : (s.mapGhost f).disc = s.disc := rfl
@[simp] theorem router_mapGhost (f : Ghost → Ghost) : (s.mapGhost f).router = s.router := rfl
@[simp] theorem mer_mapGhost (f : Ghost → Ghost) : (s.mapGhost f).mer = s.mer := rfl
@[simp] theorem host_mapGhost (f : Ghost → Ghost) : (s.mapGhost f).host = s.host := rfl
@[simp] theorem conv_mapGhost (f : Ghost → Ghost) : (s.mapGhost f).conv = s.conv := rfl
@[simp] theorem wing_mapGhost (f : Ghost → Ghost) : (s.mapGhost f).wing = s.wing := rfl
@[simp] theorem grid_mapGhost (f : Ghost → Ghost) : (s.mapGhost f).grid = s.grid := rfl
@[simp] theorem engine_mapGhost (f : Ghost → Ghost) : (s.mapGhost f).engine = s.engine := rfl
@[simp] theorem cast_mapGhost (f : Ghost → Ghost) : (s.mapGhost f).cast = s.cast := rfl
@[simp] theorem pwr_mapGhost (f : Ghost → Ghost) : (s.mapGhost f).pwr = s.pwr := rfl
@[simp] theorem meter_mapGhost (f : Ghost → Ghost) : (s.mapGhost f).meter = s.meter := rfl
@[simp] theorem curt_mapGhost (f : Ghost → Ghost) : (s.mapGhost f).curt = s.curt := rfl
@[simp] theorem guard_mapGhost (f : Ghost → Ghost) : (s.mapGhost f).guard = s.guard := rfl
@[simp] theorem pump_mapGhost (f : Ghost → Ghost) : (s.mapGhost f).pump = s.pump := rfl
@[simp] theorem power_mapGhost (f : Ghost → Ghost) : (s.mapGhost f).power = s.power := rfl
@[simp] theorem scrub_mapGhost (f : Ghost → Ghost) : (s.mapGhost f).scrub = s.scrub := rfl
@[simp] theorem hwSets_mapGhost (f : Ghost → Ghost) : (s.mapGhost f).hwSets = s.hwSets := rfl
@[simp] theorem hwCycle_mapGhost (f : Ghost → Ghost) : (s.mapGhost f).hwCycle = s.hwCycle := rfl
@[simp] theorem free_mapGhost (f : Ghost → Ghost) : (s.mapGhost f).free = s.free := rfl
@[simp] theorem pending_mapGhost (f : Ghost → Ghost) : (s.mapGhost f).pending = s.pending := rfl
@[simp] theorem ghost_mapGhost (f : Ghost → Ghost) : (s.mapGhost f).ghost = f s.ghost := rfl
@[simp] theorem reg_mapGhost (f : Ghost → Ghost) (r : Nat) : (s.mapGhost f).reg r = s.reg r := rfl
@[simp] theorem get_mapGhost (f : Ghost → Ghost) (g : FieldRef) : (s.mapGhost f).get g = s.get g := rfl
@[simp] theorem bit_mapGhost (f : Ghost → Ghost) (g : FieldRef) : (s.mapGhost f).bit g = s.bit g := rfl

/-! `mapGrid` -/

@[simp] theorem elapsed_mapGrid (f : Grid → Grid) : (s.mapGrid f).elapsed = s.elapsed := rfl
@[simp] theorem datum_mapGrid (f : Grid → Grid) : (s.mapGrid f).datum = s.datum := rfl
@[simp] theorem regs_mapGrid (f : Grid → Grid) : (s.mapGrid f).regs = s.regs := rfl
@[simp] theorem latched_mapGrid (f : Grid → Grid) : (s.mapGrid f).latched = s.latched := rfl
@[simp] theorem tables_mapGrid (f : Grid → Grid) : (s.mapGrid f).tables = s.tables := rfl
@[simp] theorem disc_mapGrid (f : Grid → Grid) : (s.mapGrid f).disc = s.disc := rfl
@[simp] theorem router_mapGrid (f : Grid → Grid) : (s.mapGrid f).router = s.router := rfl
@[simp] theorem mer_mapGrid (f : Grid → Grid) : (s.mapGrid f).mer = s.mer := rfl
@[simp] theorem host_mapGrid (f : Grid → Grid) : (s.mapGrid f).host = s.host := rfl
@[simp] theorem conv_mapGrid (f : Grid → Grid) : (s.mapGrid f).conv = s.conv := rfl
@[simp] theorem wing_mapGrid (f : Grid → Grid) : (s.mapGrid f).wing = s.wing := rfl
@[simp] theorem engine_mapGrid (f : Grid → Grid) : (s.mapGrid f).engine = s.engine := rfl
@[simp] theorem cast_mapGrid (f : Grid → Grid) : (s.mapGrid f).cast = s.cast := rfl
@[simp] theorem pwr_mapGrid (f : Grid → Grid) : (s.mapGrid f).pwr = s.pwr := rfl
@[simp] theorem meter_mapGrid (f : Grid → Grid) : (s.mapGrid f).meter = s.meter := rfl
@[simp] theorem curt_mapGrid (f : Grid → Grid) : (s.mapGrid f).curt = s.curt := rfl
@[simp] theorem guard_mapGrid (f : Grid → Grid) : (s.mapGrid f).guard = s.guard := rfl
@[simp] theorem pump_mapGrid (f : Grid → Grid) : (s.mapGrid f).pump = s.pump := rfl
@[simp] theorem power_mapGrid (f : Grid → Grid) : (s.mapGrid f).power = s.power := rfl
@[simp] theorem ghost_mapGrid (f : Grid → Grid) : (s.mapGrid f).ghost = s.ghost := rfl
@[simp] theorem scrub_mapGrid (f : Grid → Grid) : (s.mapGrid f).scrub = s.scrub := rfl
@[simp] theorem hwSets_mapGrid (f : Grid → Grid) : (s.mapGrid f).hwSets = s.hwSets := rfl
@[simp] theorem hwCycle_mapGrid (f : Grid → Grid) : (s.mapGrid f).hwCycle = s.hwCycle := rfl
@[simp] theorem free_mapGrid (f : Grid → Grid) : (s.mapGrid f).free = s.free := rfl
@[simp] theorem pending_mapGrid (f : Grid → Grid) : (s.mapGrid f).pending = s.pending := rfl
@[simp] theorem grid_mapGrid (f : Grid → Grid) : (s.mapGrid f).grid = f s.grid := rfl
@[simp] theorem reg_mapGrid (f : Grid → Grid) (r : Nat) : (s.mapGrid f).reg r = s.reg r := rfl
@[simp] theorem get_mapGrid (f : Grid → Grid) (g : FieldRef) : (s.mapGrid f).get g = s.get g := rfl
@[simp] theorem bit_mapGrid (f : Grid → Grid) (g : FieldRef) : (s.mapGrid f).bit g = s.bit g := rfl

/-! `mapGuard` -/

@[simp] theorem elapsed_mapGuard (f : Guard → Guard) : (s.mapGuard f).elapsed = s.elapsed := rfl
@[simp] theorem datum_mapGuard (f : Guard → Guard) : (s.mapGuard f).datum = s.datum := rfl
@[simp] theorem regs_mapGuard (f : Guard → Guard) : (s.mapGuard f).regs = s.regs := rfl
@[simp] theorem latched_mapGuard (f : Guard → Guard) : (s.mapGuard f).latched = s.latched := rfl
@[simp] theorem tables_mapGuard (f : Guard → Guard) : (s.mapGuard f).tables = s.tables := rfl
@[simp] theorem disc_mapGuard (f : Guard → Guard) : (s.mapGuard f).disc = s.disc := rfl
@[simp] theorem router_mapGuard (f : Guard → Guard) : (s.mapGuard f).router = s.router := rfl
@[simp] theorem mer_mapGuard (f : Guard → Guard) : (s.mapGuard f).mer = s.mer := rfl
@[simp] theorem host_mapGuard (f : Guard → Guard) : (s.mapGuard f).host = s.host := rfl
@[simp] theorem conv_mapGuard (f : Guard → Guard) : (s.mapGuard f).conv = s.conv := rfl
@[simp] theorem wing_mapGuard (f : Guard → Guard) : (s.mapGuard f).wing = s.wing := rfl
@[simp] theorem grid_mapGuard (f : Guard → Guard) : (s.mapGuard f).grid = s.grid := rfl
@[simp] theorem engine_mapGuard (f : Guard → Guard) : (s.mapGuard f).engine = s.engine := rfl
@[simp] theorem cast_mapGuard (f : Guard → Guard) : (s.mapGuard f).cast = s.cast := rfl
@[simp] theorem pwr_mapGuard (f : Guard → Guard) : (s.mapGuard f).pwr = s.pwr := rfl
@[simp] theorem meter_mapGuard (f : Guard → Guard) : (s.mapGuard f).meter = s.meter := rfl
@[simp] theorem curt_mapGuard (f : Guard → Guard) : (s.mapGuard f).curt = s.curt := rfl
@[simp] theorem pump_mapGuard (f : Guard → Guard) : (s.mapGuard f).pump = s.pump := rfl
@[simp] theorem power_mapGuard (f : Guard → Guard) : (s.mapGuard f).power = s.power := rfl
@[simp] theorem ghost_mapGuard (f : Guard → Guard) : (s.mapGuard f).ghost = s.ghost := rfl
@[simp] theorem scrub_mapGuard (f : Guard → Guard) : (s.mapGuard f).scrub = s.scrub := rfl
@[simp] theorem hwSets_mapGuard (f : Guard → Guard) : (s.mapGuard f).hwSets = s.hwSets := rfl
@[simp] theorem hwCycle_mapGuard (f : Guard → Guard) : (s.mapGuard f).hwCycle = s.hwCycle := rfl
@[simp] theorem free_mapGuard (f : Guard → Guard) : (s.mapGuard f).free = s.free := rfl
@[simp] theorem pending_mapGuard (f : Guard → Guard) : (s.mapGuard f).pending = s.pending := rfl
@[simp] theorem guard_mapGuard (f : Guard → Guard) : (s.mapGuard f).guard = f s.guard := rfl
@[simp] theorem reg_mapGuard (f : Guard → Guard) (r : Nat) : (s.mapGuard f).reg r = s.reg r := rfl
@[simp] theorem get_mapGuard (f : Guard → Guard) (g : FieldRef) : (s.mapGuard f).get g = s.get g := rfl
@[simp] theorem bit_mapGuard (f : Guard → Guard) (g : FieldRef) : (s.mapGuard f).bit g = s.bit g := rfl

/-! `mapMeter` -/

@[simp] theorem elapsed_mapMeter (f : Meter → Meter) : (s.mapMeter f).elapsed = s.elapsed := rfl
@[simp] theorem datum_mapMeter (f : Meter → Meter) : (s.mapMeter f).datum = s.datum := rfl
@[simp] theorem regs_mapMeter (f : Meter → Meter) : (s.mapMeter f).regs = s.regs := rfl
@[simp] theorem latched_mapMeter (f : Meter → Meter) : (s.mapMeter f).latched = s.latched := rfl
@[simp] theorem tables_mapMeter (f : Meter → Meter) : (s.mapMeter f).tables = s.tables := rfl
@[simp] theorem disc_mapMeter (f : Meter → Meter) : (s.mapMeter f).disc = s.disc := rfl
@[simp] theorem router_mapMeter (f : Meter → Meter) : (s.mapMeter f).router = s.router := rfl
@[simp] theorem mer_mapMeter (f : Meter → Meter) : (s.mapMeter f).mer = s.mer := rfl
@[simp] theorem host_mapMeter (f : Meter → Meter) : (s.mapMeter f).host = s.host := rfl
@[simp] theorem conv_mapMeter (f : Meter → Meter) : (s.mapMeter f).conv = s.conv := rfl
@[simp] theorem wing_mapMeter (f : Meter → Meter) : (s.mapMeter f).wing = s.wing := rfl
@[simp] theorem grid_mapMeter (f : Meter → Meter) : (s.mapMeter f).grid = s.grid := rfl
@[simp] theorem engine_mapMeter (f : Meter → Meter) : (s.mapMeter f).engine = s.engine := rfl
@[simp] theorem cast_mapMeter (f : Meter → Meter) : (s.mapMeter f).cast = s.cast := rfl
@[simp] theorem pwr_mapMeter (f : Meter → Meter) : (s.mapMeter f).pwr = s.pwr := rfl
@[simp] theorem curt_mapMeter (f : Meter → Meter) : (s.mapMeter f).curt = s.curt := rfl
@[simp] theorem guard_mapMeter (f : Meter → Meter) : (s.mapMeter f).guard = s.guard := rfl
@[simp] theorem pump_mapMeter (f : Meter → Meter) : (s.mapMeter f).pump = s.pump := rfl
@[simp] theorem power_mapMeter (f : Meter → Meter) : (s.mapMeter f).power = s.power := rfl
@[simp] theorem ghost_mapMeter (f : Meter → Meter) : (s.mapMeter f).ghost = s.ghost := rfl
@[simp] theorem scrub_mapMeter (f : Meter → Meter) : (s.mapMeter f).scrub = s.scrub := rfl
@[simp] theorem hwSets_mapMeter (f : Meter → Meter) : (s.mapMeter f).hwSets = s.hwSets := rfl
@[simp] theorem hwCycle_mapMeter (f : Meter → Meter) : (s.mapMeter f).hwCycle = s.hwCycle := rfl
@[simp] theorem free_mapMeter (f : Meter → Meter) : (s.mapMeter f).free = s.free := rfl
@[simp] theorem pending_mapMeter (f : Meter → Meter) : (s.mapMeter f).pending = s.pending := rfl
@[simp] theorem meter_mapMeter (f : Meter → Meter) : (s.mapMeter f).meter = f s.meter := rfl
@[simp] theorem reg_mapMeter (f : Meter → Meter) (r : Nat) : (s.mapMeter f).reg r = s.reg r := rfl
@[simp] theorem get_mapMeter (f : Meter → Meter) (g : FieldRef) : (s.mapMeter f).get g = s.get g := rfl
@[simp] theorem bit_mapMeter (f : Meter → Meter) (g : FieldRef) : (s.mapMeter f).bit g = s.bit g := rfl

/-! `mapPump` -/

@[simp] theorem elapsed_mapPump (f : Pump → Pump) : (s.mapPump f).elapsed = s.elapsed := rfl
@[simp] theorem datum_mapPump (f : Pump → Pump) : (s.mapPump f).datum = s.datum := rfl
@[simp] theorem regs_mapPump (f : Pump → Pump) : (s.mapPump f).regs = s.regs := rfl
@[simp] theorem latched_mapPump (f : Pump → Pump) : (s.mapPump f).latched = s.latched := rfl
@[simp] theorem tables_mapPump (f : Pump → Pump) : (s.mapPump f).tables = s.tables := rfl
@[simp] theorem disc_mapPump (f : Pump → Pump) : (s.mapPump f).disc = s.disc := rfl
@[simp] theorem router_mapPump (f : Pump → Pump) : (s.mapPump f).router = s.router := rfl
@[simp] theorem mer_mapPump (f : Pump → Pump) : (s.mapPump f).mer = s.mer := rfl
@[simp] theorem host_mapPump (f : Pump → Pump) : (s.mapPump f).host = s.host := rfl
@[simp] theorem conv_mapPump (f : Pump → Pump) : (s.mapPump f).conv = s.conv := rfl
@[simp] theorem wing_mapPump (f : Pump → Pump) : (s.mapPump f).wing = s.wing := rfl
@[simp] theorem grid_mapPump (f : Pump → Pump) : (s.mapPump f).grid = s.grid := rfl
@[simp] theorem engine_mapPump (f : Pump → Pump) : (s.mapPump f).engine = s.engine := rfl
@[simp] theorem cast_mapPump (f : Pump → Pump) : (s.mapPump f).cast = s.cast := rfl
@[simp] theorem pwr_mapPump (f : Pump → Pump) : (s.mapPump f).pwr = s.pwr := rfl
@[simp] theorem meter_mapPump (f : Pump → Pump) : (s.mapPump f).meter = s.meter := rfl
@[simp] theorem curt_mapPump (f : Pump → Pump) : (s.mapPump f).curt = s.curt := rfl
@[simp] theorem guard_mapPump (f : Pump → Pump) : (s.mapPump f).guard = s.guard := rfl
@[simp] theorem power_mapPump (f : Pump → Pump) : (s.mapPump f).power = s.power := rfl
@[simp] theorem ghost_mapPump (f : Pump → Pump) : (s.mapPump f).ghost = s.ghost := rfl
@[simp] theorem scrub_mapPump (f : Pump → Pump) : (s.mapPump f).scrub = s.scrub := rfl
@[simp] theorem hwSets_mapPump (f : Pump → Pump) : (s.mapPump f).hwSets = s.hwSets := rfl
@[simp] theorem hwCycle_mapPump (f : Pump → Pump) : (s.mapPump f).hwCycle = s.hwCycle := rfl
@[simp] theorem free_mapPump (f : Pump → Pump) : (s.mapPump f).free = s.free := rfl
@[simp] theorem pending_mapPump (f : Pump → Pump) : (s.mapPump f).pending = s.pending := rfl
@[simp] theorem pump_mapPump (f : Pump → Pump) : (s.mapPump f).pump = f s.pump := rfl
@[simp] theorem reg_mapPump (f : Pump → Pump) (r : Nat) : (s.mapPump f).reg r = s.reg r := rfl
@[simp] theorem get_mapPump (f : Pump → Pump) (g : FieldRef) : (s.mapPump f).get g = s.get g := rfl
@[simp] theorem bit_mapPump (f : Pump → Pump) (g : FieldRef) : (s.mapPump f).bit g = s.bit g := rfl

/-! `mapWing` -/

@[simp] theorem elapsed_mapWing (f : Wing → Wing) : (s.mapWing f).elapsed = s.elapsed := rfl
@[simp] theorem datum_mapWing (f : Wing → Wing) : (s.mapWing f).datum = s.datum := rfl
@[simp] theorem regs_mapWing (f : Wing → Wing) : (s.mapWing f).regs = s.regs := rfl
@[simp] theorem latched_mapWing (f : Wing → Wing) : (s.mapWing f).latched = s.latched := rfl
@[simp] theorem tables_mapWing (f : Wing → Wing) : (s.mapWing f).tables = s.tables := rfl
@[simp] theorem disc_mapWing (f : Wing → Wing) : (s.mapWing f).disc = s.disc := rfl
@[simp] theorem router_mapWing (f : Wing → Wing) : (s.mapWing f).router = s.router := rfl
@[simp] theorem mer_mapWing (f : Wing → Wing) : (s.mapWing f).mer = s.mer := rfl
@[simp] theorem host_mapWing (f : Wing → Wing) : (s.mapWing f).host = s.host := rfl
@[simp] theorem conv_mapWing (f : Wing → Wing) : (s.mapWing f).conv = s.conv := rfl
@[simp] theorem grid_mapWing (f : Wing → Wing) : (s.mapWing f).grid = s.grid := rfl
@[simp] theorem engine_mapWing (f : Wing → Wing) : (s.mapWing f).engine = s.engine := rfl
@[simp] theorem cast_mapWing (f : Wing → Wing) : (s.mapWing f).cast = s.cast := rfl
@[simp] theorem pwr_mapWing (f : Wing → Wing) : (s.mapWing f).pwr = s.pwr := rfl
@[simp] theorem meter_mapWing (f : Wing → Wing) : (s.mapWing f).meter = s.meter := rfl
@[simp] theorem curt_mapWing (f : Wing → Wing) : (s.mapWing f).curt = s.curt := rfl
@[simp] theorem guard_mapWing (f : Wing → Wing) : (s.mapWing f).guard = s.guard := rfl
@[simp] theorem pump_mapWing (f : Wing → Wing) : (s.mapWing f).pump = s.pump := rfl
@[simp] theorem power_mapWing (f : Wing → Wing) : (s.mapWing f).power = s.power := rfl
@[simp] theorem ghost_mapWing (f : Wing → Wing) : (s.mapWing f).ghost = s.ghost := rfl
@[simp] theorem scrub_mapWing (f : Wing → Wing) : (s.mapWing f).scrub = s.scrub := rfl
@[simp] theorem hwSets_mapWing (f : Wing → Wing) : (s.mapWing f).hwSets = s.hwSets := rfl
@[simp] theorem hwCycle_mapWing (f : Wing → Wing) : (s.mapWing f).hwCycle = s.hwCycle := rfl
@[simp] theorem free_mapWing (f : Wing → Wing) : (s.mapWing f).free = s.free := rfl
@[simp] theorem pending_mapWing (f : Wing → Wing) : (s.mapWing f).pending = s.pending := rfl
@[simp] theorem wing_mapWing (f : Wing → Wing) : (s.mapWing f).wing = f s.wing := rfl
@[simp] theorem reg_mapWing (f : Wing → Wing) (r : Nat) : (s.mapWing f).reg r = s.reg r := rfl
@[simp] theorem get_mapWing (f : Wing → Wing) (g : FieldRef) : (s.mapWing f).get g = s.get g := rfl
@[simp] theorem bit_mapWing (f : Wing → Wing) (g : FieldRef) : (s.mapWing f).bit g = s.bit g := rfl

/-! `setVec` -/

@[simp] theorem elapsed_setVec (v : Nat) (x : Vec) : (s.setVec v x).elapsed = s.elapsed := rfl
@[simp] theorem datum_setVec (v : Nat) (x : Vec) : (s.setVec v x).datum = s.datum := rfl
@[simp] theorem regs_setVec (v : Nat) (x : Vec) : (s.setVec v x).regs = s.regs := rfl
@[simp] theorem latched_setVec (v : Nat) (x : Vec) : (s.setVec v x).latched = s.latched := rfl
@[simp] theorem tables_setVec (v : Nat) (x : Vec) : (s.setVec v x).tables = s.tables := rfl
@[simp] theorem disc_setVec (v : Nat) (x : Vec) : (s.setVec v x).disc = s.disc := rfl
@[simp] theorem mer_setVec (v : Nat) (x : Vec) : (s.setVec v x).mer = s.mer := rfl
@[simp] theorem host_setVec (v : Nat) (x : Vec) : (s.setVec v x).host = s.host := rfl
@[simp] theorem conv_setVec (v : Nat) (x : Vec) : (s.setVec v x).conv = s.conv := rfl
@[simp] theorem wing_setVec (v : Nat) (x : Vec) : (s.setVec v x).wing = s.wing := rfl
@[simp] theorem grid_setVec (v : Nat) (x : Vec) : (s.setVec v x).grid = s.grid := rfl
@[simp] theorem engine_setVec (v : Nat) (x : Vec) : (s.setVec v x).engine = s.engine := rfl
@[simp] theorem cast_setVec (v : Nat) (x : Vec) : (s.setVec v x).cast = s.cast := rfl
@[simp] theorem pwr_setVec (v : Nat) (x : Vec) : (s.setVec v x).pwr = s.pwr := rfl
@[simp] theorem meter_setVec (v : Nat) (x : Vec) : (s.setVec v x).meter = s.meter := rfl
@[simp] theorem curt_setVec (v : Nat) (x : Vec) : (s.setVec v x).curt = s.curt := rfl
@[simp] theorem guard_setVec (v : Nat) (x : Vec) : (s.setVec v x).guard = s.guard := rfl
@[simp] theorem pump_setVec (v : Nat) (x : Vec) : (s.setVec v x).pump = s.pump := rfl
@[simp] theorem power_setVec (v : Nat) (x : Vec) : (s.setVec v x).power = s.power := rfl
@[simp] theorem ghost_setVec (v : Nat) (x : Vec) : (s.setVec v x).ghost = s.ghost := rfl
@[simp] theorem scrub_setVec (v : Nat) (x : Vec) : (s.setVec v x).scrub = s.scrub := rfl
@[simp] theorem hwSets_setVec (v : Nat) (x : Vec) : (s.setVec v x).hwSets = s.hwSets := rfl
@[simp] theorem hwCycle_setVec (v : Nat) (x : Vec) : (s.setVec v x).hwCycle = s.hwCycle := rfl
@[simp] theorem free_setVec (v : Nat) (x : Vec) : (s.setVec v x).free = s.free := rfl
@[simp] theorem pending_setVec (v : Nat) (x : Vec) : (s.setVec v x).pending = s.pending := rfl
@[simp] theorem reg_setVec (v : Nat) (x : Vec) (r : Nat) : (s.setVec v x).reg r = s.reg r := rfl
@[simp] theorem get_setVec (v : Nat) (x : Vec) (g : FieldRef) : (s.setVec v x).get g = s.get g := rfl
@[simp] theorem bit_setVec (v : Nat) (x : Vec) (g : FieldRef) : (s.setVec v x).bit g = s.bit g := rfl

/-! `setSink` -/

@[simp] theorem elapsed_setSink (k : Nat) (x : Sink) : (s.setSink k x).elapsed = s.elapsed := rfl
@[simp] theorem datum_setSink (k : Nat) (x : Sink) : (s.setSink k x).datum = s.datum := rfl
@[simp] theorem regs_setSink (k : Nat) (x : Sink) : (s.setSink k x).regs = s.regs := rfl
@[simp] theorem latched_setSink (k : Nat) (x : Sink) : (s.setSink k x).latched = s.latched := rfl
@[simp] theorem tables_setSink (k : Nat) (x : Sink) : (s.setSink k x).tables = s.tables := rfl
@[simp] theorem disc_setSink (k : Nat) (x : Sink) : (s.setSink k x).disc = s.disc := rfl
@[simp] theorem mer_setSink (k : Nat) (x : Sink) : (s.setSink k x).mer = s.mer := rfl
@[simp] theorem host_setSink (k : Nat) (x : Sink) : (s.setSink k x).host = s.host := rfl
@[simp] theorem conv_setSink (k : Nat) (x : Sink) : (s.setSink k x).conv = s.conv := rfl
@[simp] theorem wing_setSink (k : Nat) (x : Sink) : (s.setSink k x).wing = s.wing := rfl
@[simp] theorem grid_setSink (k : Nat) (x : Sink) : (s.setSink k x).grid = s.grid := rfl
@[simp] theorem engine_setSink (k : Nat) (x : Sink) : (s.setSink k x).engine = s.engine := rfl
@[simp] theorem cast_setSink (k : Nat) (x : Sink) : (s.setSink k x).cast = s.cast := rfl
@[simp] theorem pwr_setSink (k : Nat) (x : Sink) : (s.setSink k x).pwr = s.pwr := rfl
@[simp] theorem meter_setSink (k : Nat) (x : Sink) : (s.setSink k x).meter = s.meter := rfl
@[simp] theorem curt_setSink (k : Nat) (x : Sink) : (s.setSink k x).curt = s.curt := rfl
@[simp] theorem guard_setSink (k : Nat) (x : Sink) : (s.setSink k x).guard = s.guard := rfl
@[simp] theorem pump_setSink (k : Nat) (x : Sink) : (s.setSink k x).pump = s.pump := rfl
@[simp] theorem power_setSink (k : Nat) (x : Sink) : (s.setSink k x).power = s.power := rfl
@[simp] theorem ghost_setSink (k : Nat) (x : Sink) : (s.setSink k x).ghost = s.ghost := rfl
@[simp] theorem scrub_setSink (k : Nat) (x : Sink) : (s.setSink k x).scrub = s.scrub := rfl
@[simp] theorem hwSets_setSink (k : Nat) (x : Sink) : (s.setSink k x).hwSets = s.hwSets := rfl
@[simp] theorem hwCycle_setSink (k : Nat) (x : Sink) : (s.setSink k x).hwCycle = s.hwCycle := rfl
@[simp] theorem free_setSink (k : Nat) (x : Sink) : (s.setSink k x).free = s.free := rfl
@[simp] theorem pending_setSink (k : Nat) (x : Sink) : (s.setSink k x).pending = s.pending := rfl
@[simp] theorem reg_setSink (k : Nat) (x : Sink) (r : Nat) : (s.setSink k x).reg r = s.reg r := rfl
@[simp] theorem get_setSink (k : Nat) (x : Sink) (g : FieldRef) : (s.setSink k x).get g = s.get g := rfl
@[simp] theorem bit_setSink (k : Nat) (x : Sink) (g : FieldRef) : (s.setSink k x).bit g = s.bit g := rfl

/-! `setCauses` -/

@[simp] theorem elapsed_setCauses (k n : Nat) : (s.setCauses k n).elapsed = s.elapsed := rfl
@[simp] theorem datum_setCauses (k n : Nat) : (s.setCauses k n).datum = s.datum := rfl
@[simp] theorem regs_setCauses (k n : Nat) : (s.setCauses k n).regs = s.regs := rfl
@[simp] theorem latched_setCauses (k n : Nat) : (s.setCauses k n).latched = s.latched := rfl
@[simp] theorem tables_setCauses (k n : Nat) : (s.setCauses k n).tables = s.tables := rfl
@[simp] theorem disc_setCauses (k n : Nat) : (s.setCauses k n).disc = s.disc := rfl
@[simp] theorem mer_setCauses (k n : Nat) : (s.setCauses k n).mer = s.mer := rfl
@[simp] theorem host_setCauses (k n : Nat) : (s.setCauses k n).host = s.host := rfl
@[simp] theorem conv_setCauses (k n : Nat) : (s.setCauses k n).conv = s.conv := rfl
@[simp] theorem wing_setCauses (k n : Nat) : (s.setCauses k n).wing = s.wing := rfl
@[simp] theorem grid_setCauses (k n : Nat) : (s.setCauses k n).grid = s.grid := rfl
@[simp] theorem engine_setCauses (k n : Nat) : (s.setCauses k n).engine = s.engine := rfl
@[simp] theorem cast_setCauses (k n : Nat) : (s.setCauses k n).cast = s.cast := rfl
@[simp] theorem pwr_setCauses (k n : Nat) : (s.setCauses k n).pwr = s.pwr := rfl
@[simp] theorem meter_setCauses (k n : Nat) : (s.setCauses k n).meter = s.meter := rfl
@[simp] theorem curt_setCauses (k n : Nat) : (s.setCauses k n).curt = s.curt := rfl
@[simp] theorem guard_setCauses (k n : Nat) : (s.setCauses k n).guard = s.guard := rfl
@[simp] theorem pump_setCauses (k n : Nat) : (s.setCauses k n).pump = s.pump := rfl
@[simp] theorem power_setCauses (k n : Nat) : (s.setCauses k n).power = s.power := rfl
@[simp] theorem ghost_setCauses (k n : Nat) : (s.setCauses k n).ghost = s.ghost := rfl
@[simp] theorem scrub_setCauses (k n : Nat) : (s.setCauses k n).scrub = s.scrub := rfl
@[simp] theorem hwSets_setCauses (k n : Nat) : (s.setCauses k n).hwSets = s.hwSets := rfl
@[simp] theorem hwCycle_setCauses (k n : Nat) : (s.setCauses k n).hwCycle = s.hwCycle := rfl
@[simp] theorem free_setCauses (k n : Nat) : (s.setCauses k n).free = s.free := rfl
@[simp] theorem pending_setCauses (k n : Nat) : (s.setCauses k n).pending = s.pending := rfl
@[simp] theorem reg_setCauses (k n : Nat) (r : Nat) : (s.setCauses k n).reg r = s.reg r := rfl
@[simp] theorem get_setCauses (k n : Nat) (g : FieldRef) : (s.setCauses k n).get g = s.get g := rfl
@[simp] theorem bit_setCauses (k n : Nat) (g : FieldRef) : (s.setCauses k n).bit g = s.bit g := rfl

/-! `setTx` -/

@[simp] theorem elapsed_setTx (c : Nat) (x : CellTx) : (s.setTx c x).elapsed = s.elapsed := rfl
@[simp] theorem datum_setTx (c : Nat) (x : CellTx) : (s.setTx c x).datum = s.datum := rfl
@[simp] theorem regs_setTx (c : Nat) (x : CellTx) : (s.setTx c x).regs = s.regs := rfl
@[simp] theorem latched_setTx (c : Nat) (x : CellTx) : (s.setTx c x).latched = s.latched := rfl
@[simp] theorem tables_setTx (c : Nat) (x : CellTx) : (s.setTx c x).tables = s.tables := rfl
@[simp] theorem disc_setTx (c : Nat) (x : CellTx) : (s.setTx c x).disc = s.disc := rfl
@[simp] theorem router_setTx (c : Nat) (x : CellTx) : (s.setTx c x).router = s.router := rfl
@[simp] theorem mer_setTx (c : Nat) (x : CellTx) : (s.setTx c x).mer = s.mer := rfl
@[simp] theorem host_setTx (c : Nat) (x : CellTx) : (s.setTx c x).host = s.host := rfl
@[simp] theorem conv_setTx (c : Nat) (x : CellTx) : (s.setTx c x).conv = s.conv := rfl
@[simp] theorem grid_setTx (c : Nat) (x : CellTx) : (s.setTx c x).grid = s.grid := rfl
@[simp] theorem engine_setTx (c : Nat) (x : CellTx) : (s.setTx c x).engine = s.engine := rfl
@[simp] theorem cast_setTx (c : Nat) (x : CellTx) : (s.setTx c x).cast = s.cast := rfl
@[simp] theorem pwr_setTx (c : Nat) (x : CellTx) : (s.setTx c x).pwr = s.pwr := rfl
@[simp] theorem meter_setTx (c : Nat) (x : CellTx) : (s.setTx c x).meter = s.meter := rfl
@[simp] theorem curt_setTx (c : Nat) (x : CellTx) : (s.setTx c x).curt = s.curt := rfl
@[simp] theorem guard_setTx (c : Nat) (x : CellTx) : (s.setTx c x).guard = s.guard := rfl
@[simp] theorem pump_setTx (c : Nat) (x : CellTx) : (s.setTx c x).pump = s.pump := rfl
@[simp] theorem power_setTx (c : Nat) (x : CellTx) : (s.setTx c x).power = s.power := rfl
@[simp] theorem ghost_setTx (c : Nat) (x : CellTx) : (s.setTx c x).ghost = s.ghost := rfl
@[simp] theorem scrub_setTx (c : Nat) (x : CellTx) : (s.setTx c x).scrub = s.scrub := rfl
@[simp] theorem hwSets_setTx (c : Nat) (x : CellTx) : (s.setTx c x).hwSets = s.hwSets := rfl
@[simp] theorem hwCycle_setTx (c : Nat) (x : CellTx) : (s.setTx c x).hwCycle = s.hwCycle := rfl
@[simp] theorem free_setTx (c : Nat) (x : CellTx) : (s.setTx c x).free = s.free := rfl
@[simp] theorem pending_setTx (c : Nat) (x : CellTx) : (s.setTx c x).pending = s.pending := rfl
@[simp] theorem reg_setTx (c : Nat) (x : CellTx) (r : Nat) : (s.setTx c x).reg r = s.reg r := rfl
@[simp] theorem get_setTx (c : Nat) (x : CellTx) (g : FieldRef) : (s.setTx c x).get g = s.get g := rfl
@[simp] theorem bit_setTx (c : Nat) (x : CellTx) (g : FieldRef) : (s.setTx c x).bit g = s.bit g := rfl

/-! `setLoop` -/

@[simp] theorem elapsed_setLoop (n : Nat) (x : Loop) : (s.setLoop n x).elapsed = s.elapsed := rfl
@[simp] theorem datum_setLoop (n : Nat) (x : Loop) : (s.setLoop n x).datum = s.datum := rfl
@[simp] theorem regs_setLoop (n : Nat) (x : Loop) : (s.setLoop n x).regs = s.regs := rfl
@[simp] theorem latched_setLoop (n : Nat) (x : Loop) : (s.setLoop n x).latched = s.latched := rfl
@[simp] theorem tables_setLoop (n : Nat) (x : Loop) : (s.setLoop n x).tables = s.tables := rfl
@[simp] theorem disc_setLoop (n : Nat) (x : Loop) : (s.setLoop n x).disc = s.disc := rfl
@[simp] theorem router_setLoop (n : Nat) (x : Loop) : (s.setLoop n x).router = s.router := rfl
@[simp] theorem mer_setLoop (n : Nat) (x : Loop) : (s.setLoop n x).mer = s.mer := rfl
@[simp] theorem host_setLoop (n : Nat) (x : Loop) : (s.setLoop n x).host = s.host := rfl
@[simp] theorem conv_setLoop (n : Nat) (x : Loop) : (s.setLoop n x).conv = s.conv := rfl
@[simp] theorem grid_setLoop (n : Nat) (x : Loop) : (s.setLoop n x).grid = s.grid := rfl
@[simp] theorem engine_setLoop (n : Nat) (x : Loop) : (s.setLoop n x).engine = s.engine := rfl
@[simp] theorem cast_setLoop (n : Nat) (x : Loop) : (s.setLoop n x).cast = s.cast := rfl
@[simp] theorem pwr_setLoop (n : Nat) (x : Loop) : (s.setLoop n x).pwr = s.pwr := rfl
@[simp] theorem meter_setLoop (n : Nat) (x : Loop) : (s.setLoop n x).meter = s.meter := rfl
@[simp] theorem curt_setLoop (n : Nat) (x : Loop) : (s.setLoop n x).curt = s.curt := rfl
@[simp] theorem guard_setLoop (n : Nat) (x : Loop) : (s.setLoop n x).guard = s.guard := rfl
@[simp] theorem pump_setLoop (n : Nat) (x : Loop) : (s.setLoop n x).pump = s.pump := rfl
@[simp] theorem power_setLoop (n : Nat) (x : Loop) : (s.setLoop n x).power = s.power := rfl
@[simp] theorem ghost_setLoop (n : Nat) (x : Loop) : (s.setLoop n x).ghost = s.ghost := rfl
@[simp] theorem scrub_setLoop (n : Nat) (x : Loop) : (s.setLoop n x).scrub = s.scrub := rfl
@[simp] theorem hwSets_setLoop (n : Nat) (x : Loop) : (s.setLoop n x).hwSets = s.hwSets := rfl
@[simp] theorem hwCycle_setLoop (n : Nat) (x : Loop) : (s.setLoop n x).hwCycle = s.hwCycle := rfl
@[simp] theorem free_setLoop (n : Nat) (x : Loop) : (s.setLoop n x).free = s.free := rfl
@[simp] theorem pending_setLoop (n : Nat) (x : Loop) : (s.setLoop n x).pending = s.pending := rfl
@[simp] theorem reg_setLoop (n : Nat) (x : Loop) (r : Nat) : (s.setLoop n x).reg r = s.reg r := rfl
@[simp] theorem get_setLoop (n : Nat) (x : Loop) (g : FieldRef) : (s.setLoop n x).get g = s.get g := rfl
@[simp] theorem bit_setLoop (n : Nat) (x : Loop) (g : FieldRef) : (s.setLoop n x).bit g = s.bit g := rfl

/-! `setCastCell` -/

@[simp] theorem elapsed_setCastCell (c : Nat) (x : CastCell) : (s.setCastCell c x).elapsed = s.elapsed := rfl
@[simp] theorem datum_setCastCell (c : Nat) (x : CastCell) : (s.setCastCell c x).datum = s.datum := rfl
@[simp] theorem regs_setCastCell (c : Nat) (x : CastCell) : (s.setCastCell c x).regs = s.regs := rfl
@[simp] theorem latched_setCastCell (c : Nat) (x : CastCell) : (s.setCastCell c x).latched = s.latched := rfl
@[simp] theorem tables_setCastCell (c : Nat) (x : CastCell) : (s.setCastCell c x).tables = s.tables := rfl
@[simp] theorem disc_setCastCell (c : Nat) (x : CastCell) : (s.setCastCell c x).disc = s.disc := rfl
@[simp] theorem router_setCastCell (c : Nat) (x : CastCell) : (s.setCastCell c x).router = s.router := rfl
@[simp] theorem mer_setCastCell (c : Nat) (x : CastCell) : (s.setCastCell c x).mer = s.mer := rfl
@[simp] theorem host_setCastCell (c : Nat) (x : CastCell) : (s.setCastCell c x).host = s.host := rfl
@[simp] theorem conv_setCastCell (c : Nat) (x : CastCell) : (s.setCastCell c x).conv = s.conv := rfl
@[simp] theorem wing_setCastCell (c : Nat) (x : CastCell) : (s.setCastCell c x).wing = s.wing := rfl
@[simp] theorem grid_setCastCell (c : Nat) (x : CastCell) : (s.setCastCell c x).grid = s.grid := rfl
@[simp] theorem engine_setCastCell (c : Nat) (x : CastCell) : (s.setCastCell c x).engine = s.engine := rfl
@[simp] theorem pwr_setCastCell (c : Nat) (x : CastCell) : (s.setCastCell c x).pwr = s.pwr := rfl
@[simp] theorem meter_setCastCell (c : Nat) (x : CastCell) : (s.setCastCell c x).meter = s.meter := rfl
@[simp] theorem curt_setCastCell (c : Nat) (x : CastCell) : (s.setCastCell c x).curt = s.curt := rfl
@[simp] theorem guard_setCastCell (c : Nat) (x : CastCell) : (s.setCastCell c x).guard = s.guard := rfl
@[simp] theorem pump_setCastCell (c : Nat) (x : CastCell) : (s.setCastCell c x).pump = s.pump := rfl
@[simp] theorem power_setCastCell (c : Nat) (x : CastCell) : (s.setCastCell c x).power = s.power := rfl
@[simp] theorem ghost_setCastCell (c : Nat) (x : CastCell) : (s.setCastCell c x).ghost = s.ghost := rfl
@[simp] theorem scrub_setCastCell (c : Nat) (x : CastCell) : (s.setCastCell c x).scrub = s.scrub := rfl
@[simp] theorem hwSets_setCastCell (c : Nat) (x : CastCell) : (s.setCastCell c x).hwSets = s.hwSets := rfl
@[simp] theorem hwCycle_setCastCell (c : Nat) (x : CastCell) : (s.setCastCell c x).hwCycle = s.hwCycle := rfl
@[simp] theorem free_setCastCell (c : Nat) (x : CastCell) : (s.setCastCell c x).free = s.free := rfl
@[simp] theorem pending_setCastCell (c : Nat) (x : CastCell) : (s.setCastCell c x).pending = s.pending := rfl
@[simp] theorem reg_setCastCell (c : Nat) (x : CastCell) (r : Nat) : (s.setCastCell c x).reg r = s.reg r := rfl
@[simp] theorem get_setCastCell (c : Nat) (x : CastCell) (g : FieldRef) : (s.setCastCell c x).get g = s.get g := rfl
@[simp] theorem bit_setCastCell (c : Nat) (x : CastCell) (g : FieldRef) : (s.setCastCell c x).bit g = s.bit g := rfl

/-! `setPwrCell` -/

@[simp] theorem elapsed_setPwrCell (c : Nat) (x : PwrCell) : (s.setPwrCell c x).elapsed = s.elapsed := rfl
@[simp] theorem datum_setPwrCell (c : Nat) (x : PwrCell) : (s.setPwrCell c x).datum = s.datum := rfl
@[simp] theorem regs_setPwrCell (c : Nat) (x : PwrCell) : (s.setPwrCell c x).regs = s.regs := rfl
@[simp] theorem latched_setPwrCell (c : Nat) (x : PwrCell) : (s.setPwrCell c x).latched = s.latched := rfl
@[simp] theorem tables_setPwrCell (c : Nat) (x : PwrCell) : (s.setPwrCell c x).tables = s.tables := rfl
@[simp] theorem disc_setPwrCell (c : Nat) (x : PwrCell) : (s.setPwrCell c x).disc = s.disc := rfl
@[simp] theorem router_setPwrCell (c : Nat) (x : PwrCell) : (s.setPwrCell c x).router = s.router := rfl
@[simp] theorem mer_setPwrCell (c : Nat) (x : PwrCell) : (s.setPwrCell c x).mer = s.mer := rfl
@[simp] theorem host_setPwrCell (c : Nat) (x : PwrCell) : (s.setPwrCell c x).host = s.host := rfl
@[simp] theorem conv_setPwrCell (c : Nat) (x : PwrCell) : (s.setPwrCell c x).conv = s.conv := rfl
@[simp] theorem wing_setPwrCell (c : Nat) (x : PwrCell) : (s.setPwrCell c x).wing = s.wing := rfl
@[simp] theorem grid_setPwrCell (c : Nat) (x : PwrCell) : (s.setPwrCell c x).grid = s.grid := rfl
@[simp] theorem engine_setPwrCell (c : Nat) (x : PwrCell) : (s.setPwrCell c x).engine = s.engine := rfl
@[simp] theorem cast_setPwrCell (c : Nat) (x : PwrCell) : (s.setPwrCell c x).cast = s.cast := rfl
@[simp] theorem meter_setPwrCell (c : Nat) (x : PwrCell) : (s.setPwrCell c x).meter = s.meter := rfl
@[simp] theorem curt_setPwrCell (c : Nat) (x : PwrCell) : (s.setPwrCell c x).curt = s.curt := rfl
@[simp] theorem guard_setPwrCell (c : Nat) (x : PwrCell) : (s.setPwrCell c x).guard = s.guard := rfl
@[simp] theorem pump_setPwrCell (c : Nat) (x : PwrCell) : (s.setPwrCell c x).pump = s.pump := rfl
@[simp] theorem power_setPwrCell (c : Nat) (x : PwrCell) : (s.setPwrCell c x).power = s.power := rfl
@[simp] theorem ghost_setPwrCell (c : Nat) (x : PwrCell) : (s.setPwrCell c x).ghost = s.ghost := rfl
@[simp] theorem scrub_setPwrCell (c : Nat) (x : PwrCell) : (s.setPwrCell c x).scrub = s.scrub := rfl
@[simp] theorem hwSets_setPwrCell (c : Nat) (x : PwrCell) : (s.setPwrCell c x).hwSets = s.hwSets := rfl
@[simp] theorem hwCycle_setPwrCell (c : Nat) (x : PwrCell) : (s.setPwrCell c x).hwCycle = s.hwCycle := rfl
@[simp] theorem free_setPwrCell (c : Nat) (x : PwrCell) : (s.setPwrCell c x).free = s.free := rfl
@[simp] theorem pending_setPwrCell (c : Nat) (x : PwrCell) : (s.setPwrCell c x).pending = s.pending := rfl
@[simp] theorem reg_setPwrCell (c : Nat) (x : PwrCell) (r : Nat) : (s.setPwrCell c x).reg r = s.reg r := rfl
@[simp] theorem get_setPwrCell (c : Nat) (x : PwrCell) (g : FieldRef) : (s.setPwrCell c x).get g = s.get g := rfl
@[simp] theorem bit_setPwrCell (c : Nat) (x : PwrCell) (g : FieldRef) : (s.setPwrCell c x).bit g = s.bit g := rfl

/-! `setHand` -/

@[simp] theorem elapsed_setHand (g : Nat) (h : Handover) : (s.setHand g h).elapsed = s.elapsed := rfl
@[simp] theorem datum_setHand (g : Nat) (h : Handover) : (s.setHand g h).datum = s.datum := rfl
@[simp] theorem regs_setHand (g : Nat) (h : Handover) : (s.setHand g h).regs = s.regs := rfl
@[simp] theorem latched_setHand (g : Nat) (h : Handover) : (s.setHand g h).latched = s.latched := rfl
@[simp] theorem tables_setHand (g : Nat) (h : Handover) : (s.setHand g h).tables = s.tables := rfl
@[simp] theorem disc_setHand (g : Nat) (h : Handover) : (s.setHand g h).disc = s.disc := rfl
@[simp] theorem router_setHand (g : Nat) (h : Handover) : (s.setHand g h).router = s.router := rfl
@[simp] theorem mer_setHand (g : Nat) (h : Handover) : (s.setHand g h).mer = s.mer := rfl
@[simp] theorem host_setHand (g : Nat) (h : Handover) : (s.setHand g h).host = s.host := rfl
@[simp] theorem wing_setHand (g : Nat) (h : Handover) : (s.setHand g h).wing = s.wing := rfl
@[simp] theorem grid_setHand (g : Nat) (h : Handover) : (s.setHand g h).grid = s.grid := rfl
@[simp] theorem engine_setHand (g : Nat) (h : Handover) : (s.setHand g h).engine = s.engine := rfl
@[simp] theorem cast_setHand (g : Nat) (h : Handover) : (s.setHand g h).cast = s.cast := rfl
@[simp] theorem pwr_setHand (g : Nat) (h : Handover) : (s.setHand g h).pwr = s.pwr := rfl
@[simp] theorem meter_setHand (g : Nat) (h : Handover) : (s.setHand g h).meter = s.meter := rfl
@[simp] theorem curt_setHand (g : Nat) (h : Handover) : (s.setHand g h).curt = s.curt := rfl
@[simp] theorem guard_setHand (g : Nat) (h : Handover) : (s.setHand g h).guard = s.guard := rfl
@[simp] theorem pump_setHand (g : Nat) (h : Handover) : (s.setHand g h).pump = s.pump := rfl
@[simp] theorem power_setHand (g : Nat) (h : Handover) : (s.setHand g h).power = s.power := rfl
@[simp] theorem ghost_setHand (g : Nat) (h : Handover) : (s.setHand g h).ghost = s.ghost := rfl
@[simp] theorem scrub_setHand (g : Nat) (h : Handover) : (s.setHand g h).scrub = s.scrub := rfl
@[simp] theorem hwSets_setHand (g : Nat) (h : Handover) : (s.setHand g h).hwSets = s.hwSets := rfl
@[simp] theorem hwCycle_setHand (g : Nat) (h : Handover) : (s.setHand g h).hwCycle = s.hwCycle := rfl
@[simp] theorem free_setHand (g : Nat) (h : Handover) : (s.setHand g h).free = s.free := rfl
@[simp] theorem pending_setHand (g : Nat) (h : Handover) : (s.setHand g h).pending = s.pending := rfl
@[simp] theorem reg_setHand (g : Nat) (h : Handover) (r : Nat) : (s.setHand g h).reg r = s.reg r := rfl
@[simp] theorem get_setHand (g : Nat) (h : Handover) (f : FieldRef) : (s.setHand g h).get f = s.get f := rfl
@[simp] theorem bit_setHand (g : Nat) (h : Handover) (f : FieldRef) : (s.setHand g h).bit f = s.bit f := rfl

/-! `setSw` -/

@[simp] theorem elapsed_setSw (k : Nat) (w : Switch) : (s.setSw k w).elapsed = s.elapsed := rfl
@[simp] theorem datum_setSw (k : Nat) (w : Switch) : (s.setSw k w).datum = s.datum := rfl
@[simp] theorem regs_setSw (k : Nat) (w : Switch) : (s.setSw k w).regs = s.regs := rfl
@[simp] theorem latched_setSw (k : Nat) (w : Switch) : (s.setSw k w).latched = s.latched := rfl
@[simp] theorem tables_setSw (k : Nat) (w : Switch) : (s.setSw k w).tables = s.tables := rfl
@[simp] theorem disc_setSw (k : Nat) (w : Switch) : (s.setSw k w).disc = s.disc := rfl
@[simp] theorem router_setSw (k : Nat) (w : Switch) : (s.setSw k w).router = s.router := rfl
@[simp] theorem mer_setSw (k : Nat) (w : Switch) : (s.setSw k w).mer = s.mer := rfl
@[simp] theorem host_setSw (k : Nat) (w : Switch) : (s.setSw k w).host = s.host := rfl
@[simp] theorem conv_setSw (k : Nat) (w : Switch) : (s.setSw k w).conv = s.conv := rfl
@[simp] theorem wing_setSw (k : Nat) (w : Switch) : (s.setSw k w).wing = s.wing := rfl
@[simp] theorem grid_setSw (k : Nat) (w : Switch) : (s.setSw k w).grid = s.grid := rfl
@[simp] theorem engine_setSw (k : Nat) (w : Switch) : (s.setSw k w).engine = s.engine := rfl
@[simp] theorem cast_setSw (k : Nat) (w : Switch) : (s.setSw k w).cast = s.cast := rfl
@[simp] theorem pwr_setSw (k : Nat) (w : Switch) : (s.setSw k w).pwr = s.pwr := rfl
@[simp] theorem meter_setSw (k : Nat) (w : Switch) : (s.setSw k w).meter = s.meter := rfl
@[simp] theorem curt_setSw (k : Nat) (w : Switch) : (s.setSw k w).curt = s.curt := rfl
@[simp] theorem pump_setSw (k : Nat) (w : Switch) : (s.setSw k w).pump = s.pump := rfl
@[simp] theorem power_setSw (k : Nat) (w : Switch) : (s.setSw k w).power = s.power := rfl
@[simp] theorem ghost_setSw (k : Nat) (w : Switch) : (s.setSw k w).ghost = s.ghost := rfl
@[simp] theorem scrub_setSw (k : Nat) (w : Switch) : (s.setSw k w).scrub = s.scrub := rfl
@[simp] theorem hwSets_setSw (k : Nat) (w : Switch) : (s.setSw k w).hwSets = s.hwSets := rfl
@[simp] theorem hwCycle_setSw (k : Nat) (w : Switch) : (s.setSw k w).hwCycle = s.hwCycle := rfl
@[simp] theorem free_setSw (k : Nat) (w : Switch) : (s.setSw k w).free = s.free := rfl
@[simp] theorem pending_setSw (k : Nat) (w : Switch) : (s.setSw k w).pending = s.pending := rfl
@[simp] theorem reg_setSw (k : Nat) (w : Switch) (r : Nat) : (s.setSw k w).reg r = s.reg r := rfl
@[simp] theorem get_setSw (k : Nat) (w : Switch) (g : FieldRef) : (s.setSw k w).get g = s.get g := rfl
@[simp] theorem bit_setSw (k : Nat) (w : Switch) (g : FieldRef) : (s.setSw k w).bit g = s.bit g := rfl

/-! `setChan` -/

@[simp] theorem elapsed_setChan (c : Nat) (x : Chan) : (s.setChan c x).elapsed = s.elapsed := rfl
@[simp] theorem datum_setChan (c : Nat) (x : Chan) : (s.setChan c x).datum = s.datum := rfl
@[simp] theorem regs_setChan (c : Nat) (x : Chan) : (s.setChan c x).regs = s.regs := rfl
@[simp] theorem latched_setChan (c : Nat) (x : Chan) : (s.setChan c x).latched = s.latched := rfl
@[simp] theorem tables_setChan (c : Nat) (x : Chan) : (s.setChan c x).tables = s.tables := rfl
@[simp] theorem disc_setChan (c : Nat) (x : Chan) : (s.setChan c x).disc = s.disc := rfl
@[simp] theorem router_setChan (c : Nat) (x : Chan) : (s.setChan c x).router = s.router := rfl
@[simp] theorem mer_setChan (c : Nat) (x : Chan) : (s.setChan c x).mer = s.mer := rfl
@[simp] theorem host_setChan (c : Nat) (x : Chan) : (s.setChan c x).host = s.host := rfl
@[simp] theorem conv_setChan (c : Nat) (x : Chan) : (s.setChan c x).conv = s.conv := rfl
@[simp] theorem wing_setChan (c : Nat) (x : Chan) : (s.setChan c x).wing = s.wing := rfl
@[simp] theorem grid_setChan (c : Nat) (x : Chan) : (s.setChan c x).grid = s.grid := rfl
@[simp] theorem engine_setChan (c : Nat) (x : Chan) : (s.setChan c x).engine = s.engine := rfl
@[simp] theorem cast_setChan (c : Nat) (x : Chan) : (s.setChan c x).cast = s.cast := rfl
@[simp] theorem pwr_setChan (c : Nat) (x : Chan) : (s.setChan c x).pwr = s.pwr := rfl
@[simp] theorem meter_setChan (c : Nat) (x : Chan) : (s.setChan c x).meter = s.meter := rfl
@[simp] theorem curt_setChan (c : Nat) (x : Chan) : (s.setChan c x).curt = s.curt := rfl
@[simp] theorem guard_setChan (c : Nat) (x : Chan) : (s.setChan c x).guard = s.guard := rfl
@[simp] theorem power_setChan (c : Nat) (x : Chan) : (s.setChan c x).power = s.power := rfl
@[simp] theorem ghost_setChan (c : Nat) (x : Chan) : (s.setChan c x).ghost = s.ghost := rfl
@[simp] theorem scrub_setChan (c : Nat) (x : Chan) : (s.setChan c x).scrub = s.scrub := rfl
@[simp] theorem hwSets_setChan (c : Nat) (x : Chan) : (s.setChan c x).hwSets = s.hwSets := rfl
@[simp] theorem hwCycle_setChan (c : Nat) (x : Chan) : (s.setChan c x).hwCycle = s.hwCycle := rfl
@[simp] theorem free_setChan (c : Nat) (x : Chan) : (s.setChan c x).free = s.free := rfl
@[simp] theorem pending_setChan (c : Nat) (x : Chan) : (s.setChan c x).pending = s.pending := rfl
@[simp] theorem reg_setChan (c : Nat) (x : Chan) (r : Nat) : (s.setChan c x).reg r = s.reg r := rfl
@[simp] theorem get_setChan (c : Nat) (x : Chan) (g : FieldRef) : (s.setChan c x).get g = s.get g := rfl
@[simp] theorem bit_setChan (c : Nat) (x : Chan) (g : FieldRef) : (s.setChan c x).bit g = s.bit g := rfl

/-! `setPll` -/

@[simp] theorem elapsed_setPll (i : Nat) (p : Pll) : (s.setPll i p).elapsed = s.elapsed := rfl
@[simp] theorem datum_setPll (i : Nat) (p : Pll) : (s.setPll i p).datum = s.datum := rfl
@[simp] theorem regs_setPll (i : Nat) (p : Pll) : (s.setPll i p).regs = s.regs := rfl
@[simp] theorem latched_setPll (i : Nat) (p : Pll) : (s.setPll i p).latched = s.latched := rfl
@[simp] theorem tables_setPll (i : Nat) (p : Pll) : (s.setPll i p).tables = s.tables := rfl
@[simp] theorem disc_setPll (i : Nat) (p : Pll) : (s.setPll i p).disc = s.disc := rfl
@[simp] theorem router_setPll (i : Nat) (p : Pll) : (s.setPll i p).router = s.router := rfl
@[simp] theorem mer_setPll (i : Nat) (p : Pll) : (s.setPll i p).mer = s.mer := rfl
@[simp] theorem host_setPll (i : Nat) (p : Pll) : (s.setPll i p).host = s.host := rfl
@[simp] theorem conv_setPll (i : Nat) (p : Pll) : (s.setPll i p).conv = s.conv := rfl
@[simp] theorem wing_setPll (i : Nat) (p : Pll) : (s.setPll i p).wing = s.wing := rfl
@[simp] theorem grid_setPll (i : Nat) (p : Pll) : (s.setPll i p).grid = s.grid := rfl
@[simp] theorem engine_setPll (i : Nat) (p : Pll) : (s.setPll i p).engine = s.engine := rfl
@[simp] theorem cast_setPll (i : Nat) (p : Pll) : (s.setPll i p).cast = s.cast := rfl
@[simp] theorem pwr_setPll (i : Nat) (p : Pll) : (s.setPll i p).pwr = s.pwr := rfl
@[simp] theorem meter_setPll (i : Nat) (p : Pll) : (s.setPll i p).meter = s.meter := rfl
@[simp] theorem curt_setPll (i : Nat) (p : Pll) : (s.setPll i p).curt = s.curt := rfl
@[simp] theorem guard_setPll (i : Nat) (p : Pll) : (s.setPll i p).guard = s.guard := rfl
@[simp] theorem pump_setPll (i : Nat) (p : Pll) : (s.setPll i p).pump = s.pump := rfl
@[simp] theorem ghost_setPll (i : Nat) (p : Pll) : (s.setPll i p).ghost = s.ghost := rfl
@[simp] theorem scrub_setPll (i : Nat) (p : Pll) : (s.setPll i p).scrub = s.scrub := rfl
@[simp] theorem hwSets_setPll (i : Nat) (p : Pll) : (s.setPll i p).hwSets = s.hwSets := rfl
@[simp] theorem hwCycle_setPll (i : Nat) (p : Pll) : (s.setPll i p).hwCycle = s.hwCycle := rfl
@[simp] theorem free_setPll (i : Nat) (p : Pll) : (s.setPll i p).free = s.free := rfl
@[simp] theorem pending_setPll (i : Nat) (p : Pll) : (s.setPll i p).pending = s.pending := rfl
@[simp] theorem reg_setPll (i : Nat) (p : Pll) (r : Nat) : (s.setPll i p).reg r = s.reg r := rfl
@[simp] theorem get_setPll (i : Nat) (p : Pll) (g : FieldRef) : (s.setPll i p).get g = s.get g := rfl
@[simp] theorem bit_setPll (i : Nat) (p : Pll) (g : FieldRef) : (s.setPll i p).bit g = s.bit g := rfl

/-! Noting an event's fault class -/

@[simp] theorem elapsed_noteFault (num inst : Nat) : (s.noteFault num inst).elapsed = s.elapsed := by
  unfold State.noteFault; cases faultClass num inst with
  | none => rfl
  | some c => exact s.elapsed_noteClass c
@[simp] theorem datum_noteFault (num inst : Nat) : (s.noteFault num inst).datum = s.datum := by
  unfold State.noteFault; cases faultClass num inst with
  | none => rfl
  | some c => exact s.datum_noteClass c
@[simp] theorem latched_noteFault (num inst : Nat) : (s.noteFault num inst).latched = s.latched := by
  unfold State.noteFault; cases faultClass num inst with
  | none => rfl
  | some c => exact s.latched_noteClass c
@[simp] theorem tables_noteFault (num inst : Nat) : (s.noteFault num inst).tables = s.tables := by
  unfold State.noteFault; cases faultClass num inst with
  | none => rfl
  | some c => exact s.tables_noteClass c
@[simp] theorem disc_noteFault (num inst : Nat) : (s.noteFault num inst).disc = s.disc := by
  unfold State.noteFault; cases faultClass num inst with
  | none => rfl
  | some c => exact s.disc_noteClass c
@[simp] theorem router_noteFault (num inst : Nat) : (s.noteFault num inst).router = s.router := by
  unfold State.noteFault; cases faultClass num inst with
  | none => rfl
  | some c => exact s.router_noteClass c
@[simp] theorem mer_noteFault (num inst : Nat) : (s.noteFault num inst).mer = s.mer := by
  unfold State.noteFault; cases faultClass num inst with
  | none => rfl
  | some c => exact s.mer_noteClass c
@[simp] theorem host_noteFault (num inst : Nat) : (s.noteFault num inst).host = s.host := by
  unfold State.noteFault; cases faultClass num inst with
  | none => rfl
  | some c => exact s.host_noteClass c
@[simp] theorem conv_noteFault (num inst : Nat) : (s.noteFault num inst).conv = s.conv := by
  unfold State.noteFault; cases faultClass num inst with
  | none => rfl
  | some c => exact s.conv_noteClass c
@[simp] theorem wing_noteFault (num inst : Nat) : (s.noteFault num inst).wing = s.wing := by
  unfold State.noteFault; cases faultClass num inst with
  | none => rfl
  | some c => exact s.wing_noteClass c
@[simp] theorem grid_noteFault (num inst : Nat) : (s.noteFault num inst).grid = s.grid := by
  unfold State.noteFault; cases faultClass num inst with
  | none => rfl
  | some c => exact s.grid_noteClass c
@[simp] theorem engine_noteFault (num inst : Nat) : (s.noteFault num inst).engine = s.engine := by
  unfold State.noteFault; cases faultClass num inst with
  | none => rfl
  | some c => exact s.engine_noteClass c
@[simp] theorem cast_noteFault (num inst : Nat) : (s.noteFault num inst).cast = s.cast := by
  unfold State.noteFault; cases faultClass num inst with
  | none => rfl
  | some c => exact s.cast_noteClass c
@[simp] theorem pwr_noteFault (num inst : Nat) : (s.noteFault num inst).pwr = s.pwr := by
  unfold State.noteFault; cases faultClass num inst with
  | none => rfl
  | some c => exact s.pwr_noteClass c
@[simp] theorem meter_noteFault (num inst : Nat) : (s.noteFault num inst).meter = s.meter := by
  unfold State.noteFault; cases faultClass num inst with
  | none => rfl
  | some c => exact s.meter_noteClass c
@[simp] theorem curt_noteFault (num inst : Nat) : (s.noteFault num inst).curt = s.curt := by
  unfold State.noteFault; cases faultClass num inst with
  | none => rfl
  | some c => exact s.curt_noteClass c
@[simp] theorem guard_noteFault (num inst : Nat) : (s.noteFault num inst).guard = s.guard := by
  unfold State.noteFault; cases faultClass num inst with
  | none => rfl
  | some c => exact s.guard_noteClass c
@[simp] theorem pump_noteFault (num inst : Nat) : (s.noteFault num inst).pump = s.pump := by
  unfold State.noteFault; cases faultClass num inst with
  | none => rfl
  | some c => exact s.pump_noteClass c
@[simp] theorem power_noteFault (num inst : Nat) : (s.noteFault num inst).power = s.power := by
  unfold State.noteFault; cases faultClass num inst with
  | none => rfl
  | some c => exact s.power_noteClass c
@[simp] theorem ghost_noteFault (num inst : Nat) : (s.noteFault num inst).ghost = s.ghost := by
  unfold State.noteFault; cases faultClass num inst with
  | none => rfl
  | some c => exact s.ghost_noteClass c
@[simp] theorem scrub_noteFault (num inst : Nat) : (s.noteFault num inst).scrub = s.scrub := by
  unfold State.noteFault; cases faultClass num inst with
  | none => rfl
  | some c => exact s.scrub_noteClass c
@[simp] theorem free_noteFault (num inst : Nat) : (s.noteFault num inst).free = s.free := by
  unfold State.noteFault; cases faultClass num inst with
  | none => rfl
  | some c => exact s.free_noteClass c
@[simp] theorem pending_noteFault (num inst : Nat) : (s.noteFault num inst).pending = s.pending := by
  unfold State.noteFault; cases faultClass num inst with
  | none => rfl
  | some c => exact s.pending_noteClass c

/-! Raising an event -/

@[simp] theorem elapsed_raiseAt (stamp num inst : Nat) : (s.raiseAt stamp num inst).elapsed = s.elapsed := by
  unfold State.raiseAt; exact s.elapsed_noteFault ..
@[simp] theorem elapsed_raise (num inst : Nat) : (s.raise num inst).elapsed = s.elapsed := by
  unfold State.raise; exact s.elapsed_raiseAt ..
@[simp] theorem datum_raiseAt (stamp num inst : Nat) : (s.raiseAt stamp num inst).datum = s.datum := by
  unfold State.raiseAt; exact s.datum_noteFault ..
@[simp] theorem datum_raise (num inst : Nat) : (s.raise num inst).datum = s.datum := by
  unfold State.raise; exact s.datum_raiseAt ..
@[simp] theorem latched_raiseAt (stamp num inst : Nat) : (s.raiseAt stamp num inst).latched = s.latched := by
  unfold State.raiseAt; exact s.latched_noteFault ..
@[simp] theorem latched_raise (num inst : Nat) : (s.raise num inst).latched = s.latched := by
  unfold State.raise; exact s.latched_raiseAt ..
@[simp] theorem tables_raiseAt (stamp num inst : Nat) : (s.raiseAt stamp num inst).tables = s.tables := by
  unfold State.raiseAt; exact s.tables_noteFault ..
@[simp] theorem tables_raise (num inst : Nat) : (s.raise num inst).tables = s.tables := by
  unfold State.raise; exact s.tables_raiseAt ..
@[simp] theorem disc_raiseAt (stamp num inst : Nat) : (s.raiseAt stamp num inst).disc = s.disc := by
  unfold State.raiseAt; exact s.disc_noteFault ..
@[simp] theorem disc_raise (num inst : Nat) : (s.raise num inst).disc = s.disc := by
  unfold State.raise; exact s.disc_raiseAt ..
@[simp] theorem mer_raiseAt (stamp num inst : Nat) : (s.raiseAt stamp num inst).mer = s.mer := by
  unfold State.raiseAt; exact s.mer_noteFault ..
@[simp] theorem mer_raise (num inst : Nat) : (s.raise num inst).mer = s.mer := by
  unfold State.raise; exact s.mer_raiseAt ..
@[simp] theorem host_raiseAt (stamp num inst : Nat) : (s.raiseAt stamp num inst).host = s.host := by
  unfold State.raiseAt; exact s.host_noteFault ..
@[simp] theorem host_raise (num inst : Nat) : (s.raise num inst).host = s.host := by
  unfold State.raise; exact s.host_raiseAt ..
@[simp] theorem conv_raiseAt (stamp num inst : Nat) : (s.raiseAt stamp num inst).conv = s.conv := by
  unfold State.raiseAt; exact s.conv_noteFault ..
@[simp] theorem conv_raise (num inst : Nat) : (s.raise num inst).conv = s.conv := by
  unfold State.raise; exact s.conv_raiseAt ..
@[simp] theorem wing_raiseAt (stamp num inst : Nat) : (s.raiseAt stamp num inst).wing = s.wing := by
  unfold State.raiseAt; exact s.wing_noteFault ..
@[simp] theorem wing_raise (num inst : Nat) : (s.raise num inst).wing = s.wing := by
  unfold State.raise; exact s.wing_raiseAt ..
@[simp] theorem grid_raiseAt (stamp num inst : Nat) : (s.raiseAt stamp num inst).grid = s.grid := by
  unfold State.raiseAt; exact s.grid_noteFault ..
@[simp] theorem grid_raise (num inst : Nat) : (s.raise num inst).grid = s.grid := by
  unfold State.raise; exact s.grid_raiseAt ..
@[simp] theorem engine_raiseAt (stamp num inst : Nat) : (s.raiseAt stamp num inst).engine = s.engine := by
  unfold State.raiseAt; exact s.engine_noteFault ..
@[simp] theorem engine_raise (num inst : Nat) : (s.raise num inst).engine = s.engine := by
  unfold State.raise; exact s.engine_raiseAt ..
@[simp] theorem cast_raiseAt (stamp num inst : Nat) : (s.raiseAt stamp num inst).cast = s.cast := by
  unfold State.raiseAt; exact s.cast_noteFault ..
@[simp] theorem cast_raise (num inst : Nat) : (s.raise num inst).cast = s.cast := by
  unfold State.raise; exact s.cast_raiseAt ..
@[simp] theorem pwr_raiseAt (stamp num inst : Nat) : (s.raiseAt stamp num inst).pwr = s.pwr := by
  unfold State.raiseAt; exact s.pwr_noteFault ..
@[simp] theorem pwr_raise (num inst : Nat) : (s.raise num inst).pwr = s.pwr := by
  unfold State.raise; exact s.pwr_raiseAt ..
@[simp] theorem meter_raiseAt (stamp num inst : Nat) : (s.raiseAt stamp num inst).meter = s.meter := by
  unfold State.raiseAt; exact s.meter_noteFault ..
@[simp] theorem meter_raise (num inst : Nat) : (s.raise num inst).meter = s.meter := by
  unfold State.raise; exact s.meter_raiseAt ..
@[simp] theorem curt_raiseAt (stamp num inst : Nat) : (s.raiseAt stamp num inst).curt = s.curt := by
  unfold State.raiseAt; exact s.curt_noteFault ..
@[simp] theorem curt_raise (num inst : Nat) : (s.raise num inst).curt = s.curt := by
  unfold State.raise; exact s.curt_raiseAt ..
@[simp] theorem guard_raiseAt (stamp num inst : Nat) : (s.raiseAt stamp num inst).guard = s.guard := by
  unfold State.raiseAt; exact s.guard_noteFault ..
@[simp] theorem guard_raise (num inst : Nat) : (s.raise num inst).guard = s.guard := by
  unfold State.raise; exact s.guard_raiseAt ..
@[simp] theorem pump_raiseAt (stamp num inst : Nat) : (s.raiseAt stamp num inst).pump = s.pump := by
  unfold State.raiseAt; exact s.pump_noteFault ..
@[simp] theorem pump_raise (num inst : Nat) : (s.raise num inst).pump = s.pump := by
  unfold State.raise; exact s.pump_raiseAt ..
@[simp] theorem power_raiseAt (stamp num inst : Nat) : (s.raiseAt stamp num inst).power = s.power := by
  unfold State.raiseAt; exact s.power_noteFault ..
@[simp] theorem power_raise (num inst : Nat) : (s.raise num inst).power = s.power := by
  unfold State.raise; exact s.power_raiseAt ..
@[simp] theorem ghost_raiseAt (stamp num inst : Nat) : (s.raiseAt stamp num inst).ghost = s.ghost := by
  unfold State.raiseAt; exact s.ghost_noteFault ..
@[simp] theorem ghost_raise (num inst : Nat) : (s.raise num inst).ghost = s.ghost := by
  unfold State.raise; exact s.ghost_raiseAt ..
@[simp] theorem scrub_raiseAt (stamp num inst : Nat) : (s.raiseAt stamp num inst).scrub = s.scrub := by
  unfold State.raiseAt; exact s.scrub_noteFault ..
@[simp] theorem scrub_raise (num inst : Nat) : (s.raise num inst).scrub = s.scrub := by
  unfold State.raise; exact s.scrub_raiseAt ..
@[simp] theorem free_raiseAt (stamp num inst : Nat) : (s.raiseAt stamp num inst).free = s.free := by
  unfold State.raiseAt; exact s.free_noteFault ..
@[simp] theorem free_raise (num inst : Nat) : (s.raise num inst).free = s.free := by
  unfold State.raise; exact s.free_raiseAt ..
@[simp] theorem pending_raiseAt (stamp num inst : Nat) : (s.raiseAt stamp num inst).pending = s.pending := by
  unfold State.raiseAt; exact s.pending_noteFault ..
@[simp] theorem pending_raise (num inst : Nat) : (s.raise num inst).pending = s.pending := by
  unfold State.raise; exact s.pending_raiseAt ..

/-- An event raised is on its way to the router, after those that already are. -/
@[simp] theorem router_raiseAt (stamp num inst : Nat) : (s.raiseAt stamp num inst).router =
    { s.router with inflight := s.router.inflight ++ [{ stamp := stamp, num := num, inst := inst }] } := by
  unfold State.raiseAt; simp only [router_noteFault]

@[simp] theorem router_raise (num inst : Nat) : (s.raise num inst).router =
    { s.router with inflight := s.router.inflight ++ [{ stamp := s.datum, num := num, inst := inst }] } := by
  unfold State.raise; exact s.router_raiseAt ..

/-- Raising an event touches no register but SCRUB_FAULT_SEEN. -/
theorem reg_raiseAt {a : Nat} (stamp num inst : Nat) (h : F.SCRUB_FAULT_SEEN_SEEN.addr ≠ a) :
    (s.raiseAt stamp num inst).reg a = s.reg a := by
  change (s.noteFault num inst).reg a = s.reg a
  unfold State.noteFault
  cases faultClass num inst with
  | none => rfl
  | some c => exact s.reg_set_ne h

theorem reg_raise {a : Nat} (num inst : Nat) (h : F.SCRUB_FAULT_SEEN_SEEN.addr ≠ a) :
    (s.raise num inst).reg a = s.reg a := by
  unfold State.raise; exact s.reg_raiseAt _ _ _ h

theorem get_raise {g : FieldRef} (num inst : Nat) (h : F.SCRUB_FAULT_SEEN_SEEN.addr ≠ g.addr) :
    (s.raise num inst).get g = s.get g := by simp [State.get, s.reg_raise num inst h]

theorem bit_raise {g : FieldRef} (num inst : Nat) (h : F.SCRUB_FAULT_SEEN_SEEN.addr ≠ g.addr) :
    (s.raise num inst).bit g = s.bit g := by simp [State.bit, s.get_raise num inst h]

theorem when_true (f : State → State) : s.when true f = f s := rfl
theorem when_false (f : State → State) : s.when false f = s := rfl

end State

end Sys2Proof.Machine
end

