-- ==== Sys2Proof/Laws/Exec.lean ====
section
/-! SUPPORT. Sys2Proof/Laws/Exec.lean: every command acts by State.run. -/

namespace Sys2Proof.Machine

/-! Each arm of exec -/

theorem exec_registerWrite (t : Nat) (addr : Nat) (data : Word) (be : BitVec 4) (s : State) : exec (.registerWrite t addr data be) s = execRegisterWrite t addr data be s := rfl
theorem exec_loReadCapture (t : Nat) (addr : Nat) (s : State) : exec (.loReadCapture t addr) s = execLoReadCapture t addr s := rfl
theorem exec_datumSet (t : Nat) (d : Desc) (s : State) : exec (.datumSet t d) s = execDatumSet t d s := rfl
theorem exec_ppsinEdge (t : Nat) (s : State) : exec (.ppsinEdge t) s = execPpsinEdge t s := rfl
theorem exec_ppsWindowEnd (t : Nat) (s : State) : exec (.ppsWindowEnd t) s = execPpsWindowEnd t s := rfl
theorem exec_ppsPresentTimeout (t : Nat) (s : State) : exec (.ppsPresentTimeout t) s = execPpsPresentTimeout t s := rfl
theorem exec_referenceTimeout (t : Nat) (s : State) : exec (.referenceTimeout t) s = execReferenceTimeout t s := rfl
theorem exec_holdoverExpired (t : Nat) (s : State) : exec (.holdoverExpired t) s = execHoldoverExpired t s := rfl
theorem exec_roleChange (t : Nat) (data : Word) (s : State) : exec (.roleChange t data) s = execRoleChange t data s := rfl
theorem exec_eventArrival (t : Nat) (e : Event) (s : State) : exec (.eventArrival t e) s = execEventArrival t e s := rfl
theorem exec_eventRelease (t : Nat) (s : State) : exec (.eventRelease t) s = execEventRelease t s := rfl
theorem exec_meridianSlotSend (t : Nat) (s : State) : exec (.meridianSlotSend t) s = execMeridianSlotSend t s := rfl
theorem exec_meridianSlotReceived (t : Nat) (fields : List Byte) (crc : Word) (rx8 : Nat) (s : State) : exec (.meridianSlotReceived t fields crc rx8) s = execMeridianSlotReceived t fields crc rx8 s := rfl
theorem exec_meridianDown (t : Nat) (s : State) : exec (.meridianDown t) s = execMeridianDown t s := rfl
theorem exec_ackTimeout (t : Nat) (seq : Nat) (s : State) : exec (.ackTimeout t seq) s = execAckTimeout t seq s := rfl
theorem exec_meridianSend (t : Nat) (d : Desc) (payload : Option (List Byte)) (s : State) : exec (.meridianSend t d payload) s = execMeridianSend t d payload s := rfl
theorem exec_rxboxFree (t : Nat) (data : Word) (s : State) : exec (.rxboxFree t data) s = execRxboxFree t data s := rfl
theorem exec_ppsOutput (t : Nat) (pin : Fin 4) (s : State) : exec (.ppsOutput t pin) s = execPpsOutput t pin s := rfl
theorem exec_ppsOutputEnd (t : Nat) (pin : Fin 4) (s : State) : exec (.ppsOutputEnd t pin) s = execPpsOutputEnd t pin s := rfl
theorem exec_evioIn (t : Nat) (pin : Fin 4) (s : State) : exec (.evioIn t pin) s = execEvioIn t pin s := rfl
theorem exec_scheduledSample (t : Nat) (part : Fin 16) (s : State) : exec (.scheduledSample t part) s = execScheduledSample t part s := rfl
theorem exec_result (t : Nat) (slice : Fin 20) (raw : BitVec 12) (value : Int) (s : State) : exec (.result t slice raw value) s = execResult t slice raw value s := rfl
theorem exec_resultMissing (t : Nat) (slice : Fin 20) (s : State) : exec (.resultMissing t slice) s = execResultMissing t slice s := rfl
theorem exec_referenceMonitor (t : Nat) (microvolts : Nat) (s : State) : exec (.referenceMonitor t microvolts) s = execReferenceMonitor t microvolts s := rfl
theorem exec_handoverOpportunity (t : Nat) (group : Fin 4) (s : State) : exec (.handoverOpportunity t group) s = execHandoverOpportunity t group s := rfl
theorem exec_calComplete (t : Nat) (group : Fin 4) (fit : LadderFit) (s : State) : exec (.calComplete t group fit) s = execCalComplete t group fit s := rfl
theorem exec_overlapVerdict (t : Nat) (group : Fin 4) (s : State) : exec (.overlapVerdict t group) s = execOverlapVerdict t group s := rfl
theorem exec_overlapTimeout (t : Nat) (group : Fin 4) (s : State) : exec (.overlapTimeout t group) s = execOverlapTimeout t group s := rfl
theorem exec_swap (t : Nat) (group : Fin 4) (s : State) : exec (.swap t group) s = execSwap t group s := rfl
theorem exec_calStale (t : Nat) (group : Fin 4) (s : State) : exec (.calStale t group) s = execCalStale t group s := rfl
theorem exec_convUrgent (t : Nat) (data : Word) (s : State) : exec (.convUrgent t data) s = execConvUrgent t data s := rfl
theorem exec_convSlotWrite (t : Nat) (part : Fin 16) (data : Word) (s : State) : exec (.convSlotWrite t part data) s = execConvSlotWrite t part data s := rfl
theorem exec_readmit (t : Nat) (data : Word) (s : State) : exec (.readmit t data) s = execReadmit t data s := rfl
theorem exec_compTrip (t : Nat) (e : CompEdge) (s : State) : exec (.compTrip t e) s = execCompTrip t e s := rfl
theorem exec_compNormal (t : Nat) (k : Fin 32) (s : State) : exec (.compNormal t k) s = execCompNormal t k s := rfl
theorem exec_compCfgWrite (t : Nat) (k : Fin 32) (data : Word) (s : State) : exec (.compCfgWrite t k data) s = execCompCfgWrite t k data s := rfl
theorem exec_compTestStart (t : Nat) (data : Word) (s : State) : exec (.compTestStart t data) s = execCompTestStart t data s := rfl
theorem exec_compTestRead (t : Nat) (filtered : Word) (s : State) : exec (.compTestRead t filtered) s = execCompTestRead t filtered s := rfl
theorem exec_compTestDone (t : Nat) (after : Word) (s : State) : exec (.compTestDone t after) s = execCompTestDone t after s := rfl
theorem exec_frameFreeze (t : Nat) (s : State) : exec (.frameFreeze t) s = execFrameFreeze t s := rfl
theorem exec_frameStart (t : Nat) (s : State) : exec (.frameStart t) s = execFrameStart t s := rfl
theorem exec_returnedFrame (t : Nat) (loop : Fin 4) (r : Returned) (s : State) : exec (.returnedFrame t loop r) s = execReturnedFrame t loop r s := rfl
theorem exec_haltNow (t : Nat) (data : Word) (s : State) : exec (.haltNow t data) s = execHaltNow t data s := rfl
theorem exec_haltReturned (t : Nat) (loop : Fin 4) (s : State) : exec (.haltReturned t loop) s = execHaltReturned t loop s := rfl
theorem exec_resume (t : Nat) (data : Word) (s : State) : exec (.resume t data) s = execResume t data s := rfl
theorem exec_resumeTakesEffect (t : Nat) (loop : Fin 4) (s : State) : exec (.resumeTakesEffect t loop) s = execResumeTakesEffect t loop s := rfl
theorem exec_train (t : Nat) (data : Word) (s : State) : exec (.train t data) s = execTrain t data s := rfl
theorem exec_trainLinkTimeout (t : Nat) (loop : Fin 4) (s : State) : exec (.trainLinkTimeout t loop) s = execTrainLinkTimeout t loop s := rfl
theorem exec_delayRecompute (t : Nat) (loop : Fin 4) (s : State) : exec (.delayRecompute t loop) s = execDelayRecompute t loop s := rfl
theorem exec_evaluationTick (t : Nat) (s : State) : exec (.evaluationTick t) s = execEvaluationTick t s := rfl
theorem exec_clearExpiry (t : Nat) (s : State) : exec (.clearExpiry t) s = execClearExpiry t s := rfl
theorem exec_maxDurExpiry (t : Nat) (s : State) : exec (.maxDurExpiry t) s = execMaxDurExpiry t s := rfl
theorem exec_enterServiceDelay (t : Nat) (s : State) : exec (.enterServiceDelay t) s = execEnterServiceDelay t s := rfl
theorem exec_restoreDelayExpiry (t : Nat) (s : State) : exec (.restoreDelayExpiry t) s = execRestoreDelayExpiry t s := rfl
theorem exec_restoreRampEnd (t : Nat) (s : State) : exec (.restoreRampEnd t) s = execRestoreRampEnd t s := rfl
theorem exec_bearingLock (t : Nat) (s : State) : exec (.bearingLock t) s = execBearingLock t s := rfl
theorem exec_coastExpiry (t : Nat) (s : State) : exec (.coastExpiry t) s = execCoastExpiry t s := rfl
theorem exec_bearInput (t : Nat) (phase : Fin 3) (s : State) : exec (.bearInput t phase) s = execBearInput t phase s := rfl
theorem exec_chipEnd (t : Nat) (s : State) : exec (.chipEnd t) s = execChipEnd t s := rfl
theorem exec_suspectClear (t : Nat) (s : State) : exec (.suspectClear t) s = execSuspectClear t s := rfl
theorem exec_signatureMiss (t : Nat) (s : State) : exec (.signatureMiss t) s = execSignatureMiss t s := rfl
theorem exec_powerSet (t : Nat) (d : Desc) (s : State) : exec (.powerSet t d) s = execPowerSet t d s := rfl
theorem exec_fastDecision (t : Nat) (phase : Fin 3) (s : State) : exec (.fastDecision t phase) s = execFastDecision t phase s := rfl
theorem exec_followErr (t : Nat) (phase : Fin 3) (s : State) : exec (.followErr t phase) s = execFollowErr t phase s := rfl
theorem exec_curInput (t : Nat) (phase : Fin 3) (s : State) : exec (.curInput t phase) s = execCurInput t phase s := rfl
theorem exec_bandUpdate (t : Nat) (s : State) : exec (.bandUpdate t) s = execBandUpdate t s := rfl
theorem exec_zeroReached (t : Nat) (s : State) : exec (.zeroReached t) s = execZeroReached t s := rfl
theorem exec_rampFail (t : Nat) (s : State) : exec (.rampFail t) s = execRampFail t s := rfl
theorem exec_castingRequest (t : Nat) (s : State) : exec (.castingRequest t) s = execCastingRequest t s := rfl
theorem exec_bypassCheckTimeout (t : Nat) (cell : Fin 128) (s : State) : exec (.bypassCheckTimeout t cell) s = execBypassCheckTimeout t cell s := rfl
theorem exec_hotTime (t : Nat) (cell : Fin 128) (s : State) : exec (.hotTime t cell) s = execHotTime t cell s := rfl
theorem exec_uvTime (t : Nat) (cell : Fin 128) (s : State) : exec (.uvTime t cell) s = execUvTime t cell s := rfl
theorem exec_leavingTimeout (t : Nat) (cell : Fin 128) (s : State) : exec (.leavingTimeout t cell) s = execLeavingTimeout t cell s := rfl
theorem exec_preTime (t : Nat) (cell : Fin 128) (s : State) : exec (.preTime t cell) s = execPreTime t cell s := rfl
theorem exec_coolTo (t : Nat) (s : State) : exec (.coolTo t) s = execCoolTo t s := rfl
theorem exec_castReadmit (t : Nat) (data : Word) (s : State) : exec (.castReadmit t data) s = execCastReadmit t data s := rfl
theorem exec_trackerStep (t : Nat) (cell : Fin 128) (s : State) : exec (.trackerStep t cell) s = execTrackerStep t cell s := rfl
theorem exec_scanDue (t : Nat) (cell : Fin 128) (s : State) : exec (.scanDue t cell) s = execScanDue t cell s := rfl
theorem exec_probeDue (t : Nat) (cell : Fin 128) (s : State) : exec (.probeDue t cell) s = execProbeDue t cell s := rfl
theorem exec_dumpLimit (t : Nat) (cell : Fin 128) (s : State) : exec (.dumpLimit t cell) s = execDumpLimit t cell s := rfl
theorem exec_dumpHoldExpiry (t : Nat) (s : State) : exec (.dumpHoldExpiry t) s = execDumpHoldExpiry t s := rfl
theorem exec_dumpOffResend (t : Nat) (cell : Fin 128) (s : State) : exec (.dumpOffResend t cell) s = execDumpOffResend t cell s := rfl
theorem exec_cellpwrDumpClr (t : Nat) (data : Word) (s : State) : exec (.cellpwrDumpClr t data) s = execCellpwrDumpClr t data s := rfl
theorem exec_intervalClose (t : Nat) (s : State) : exec (.intervalClose t) s = execIntervalClose t s := rfl
theorem exec_demandSubPeriod (t : Nat) (s : State) : exec (.demandSubPeriod t) s = execDemandSubPeriod t s := rfl
theorem exec_snapshot (t : Nat) (d : Desc) (s : State) : exec (.snapshot t d) s = execSnapshot t d s := rfl
theorem exec_snapshotCapture (t : Nat) (s : State) : exec (.snapshotCapture t) s = execSnapshotCapture t s := rfl
theorem exec_pulseStart (t : Nat) (pin : Fin 4) (s : State) : exec (.pulseStart t pin) s = execPulseStart t pin s := rfl
theorem exec_pulseEnd (t : Nat) (pin : Fin 4) (s : State) : exec (.pulseEnd t pin) s = execPulseEnd t pin s := rfl
theorem exec_retentionRefresh (t : Nat) (s : State) : exec (.retentionRefresh t) s = execRetentionRefresh t s := rfl
theorem exec_exportEn (t : Nat) (data : Word) (s : State) : exec (.exportEn t data) s = execExportEn t data s := rfl
theorem exec_atlasExport (t : Nat) (s : State) : exec (.atlasExport t) s = execAtlasExport t s := rfl
theorem exec_atlasRead (t : Nat) (d : Desc) (s : State) : exec (.atlasRead t d) s = execAtlasRead t d s := rfl
theorem exec_meterCfgWrite (t : Nat) (data : Word) (s : State) : exec (.meterCfgWrite t data) s = execMeterCfgWrite t data s := rfl
theorem exec_channelACycle (t : Nat) (pins : CurtainIn) (s : State) : exec (.channelACycle t pins) s = execChannelACycle t pins s := rfl
theorem exec_syncTime (t : Nat) (s : State) : exec (.syncTime t) s = execSyncTime t s := rfl
theorem exec_contactorCheck (t : Nat) (s : State) : exec (.contactorCheck t) s = execContactorCheck t s := rfl
theorem exec_contactorRecheck (t : Nat) (s : State) : exec (.contactorRecheck t) s = execContactorRecheck t s := rfl
theorem exec_raisedRecheck (t : Nat) (s : State) : exec (.raisedRecheck t) s = execRaisedRecheck t s := rfl
theorem exec_estopDisc (t : Nat) (s : State) : exec (.estopDisc t) s = execEstopDisc t s := rfl
theorem exec_sresetStuck (t : Nat) (s : State) : exec (.sresetStuck t) s = execSresetStuck t s := rfl
theorem exec_paramCheck (t : Nat) (upsets : List TableUpset) (s : State) : exec (.paramCheck t upsets) s = execParamCheck t upsets s := rfl
theorem exec_romCheck (t : Nat) (ok : Bool) (s : State) : exec (.romCheck t ok) s = execRomCheck t ok s := rfl
theorem exec_channelBLatch (t : Nat) (edges : List PinEdge) (s : State) : exec (.channelBLatch t edges) s = execChannelBLatch t edges s := rfl
theorem exec_heartbeatLoss (t : Nat) (s : State) : exec (.heartbeatLoss t) s = execHeartbeatLoss t s := rfl
theorem exec_raiseGap (t : Nat) (s : State) : exec (.raiseGap t) s = execRaiseGap t s := rfl
theorem exec_sresetEdge (t : Nat) (edges : List PinEdge) (s : State) : exec (.sresetEdge t edges) s = execSresetEdge t edges s := rfl
theorem exec_curtainLower (t : Nat) (d : Desc) (s : State) : exec (.curtainLower t d) s = execCurtainLower t d s := rfl
theorem exec_curtainReset (t : Nat) (d : Desc) (s : State) : exec (.curtainReset t d) s = execCurtainReset t d s := rfl
theorem exec_periodStart (t : Nat) (chop : Bool) (s : State) : exec (.periodStart t chop) s = execPeriodStart t chop s := rfl
theorem exec_deadTimeEnd (t : Nat) (switch : Fin 6) (s : State) : exec (.deadTimeEnd t switch) s = execDeadTimeEnd t switch s := rfl
theorem exec_blankingEnd (t : Nat) (switch : Fin 6) (s : State) : exec (.blankingEnd t switch) s = execBlankingEnd t switch s := rfl
theorem exec_gdEn (t : Nat) (data : Word) (s : State) : exec (.gdEn t data) s = execGdEn t data s := rfl
theorem exec_loadAll (t : Nat) (data : Word) (s : State) : exec (.loadAll t data) s = execLoadAll t data s := rfl
theorem exec_shadowTransfer (t : Nat) (chop : Bool) (s : State) : exec (.shadowTransfer t chop) s = execShadowTransfer t chop s := rfl
theorem exec_pwmEvent (t : Nat) (channel : Fin 4) (kind : Fin 4) (s : State) : exec (.pwmEvent t channel kind) s = execPwmEvent t channel kind s := rfl
theorem exec_commutation (t : Nat) (s : State) : exec (.commutation t) s = execCommutation t s := rfl
theorem exec_observeEnd (t : Nat) (s : State) : exec (.observeEnd t) s = execObserveEnd t s := rfl
theorem exec_waitMax (t : Nat) (s : State) : exec (.waitMax t) s = execWaitMax t s := rfl
theorem exec_alignTime (t : Nat) (s : State) : exec (.alignTime t) s = execAlignTime t s := rfl
theorem exec_forcedCommutation (t : Nat) (s : State) : exec (.forcedCommutation t) s = execForcedCommutation t s := rfl
theorem exec_lockedRotor (t : Nat) (s : State) : exec (.lockedRotor t) s = execLockedRotor t s := rfl
theorem exec_lockRestart (t : Nat) (s : State) : exec (.lockRestart t) s = execLockRestart t s := rfl
theorem exec_chopCheck (t : Nat) (s : State) : exec (.chopCheck t) s = execChopCheck t s := rfl
theorem exec_busLow (t : Nat) (s : State) : exec (.busLow t) s = execBusLow t s := rfl
theorem exec_busRecovered (t : Nat) (s : State) : exec (.busRecovered t) s = execBusRecovered t s := rfl
theorem exec_pumpInputTimeout (t : Nat) (s : State) : exec (.pumpInputTimeout t) s = execPumpInputTimeout t s := rfl
theorem exec_pumpOrder (t : Nat) (d : Desc) (s : State) : exec (.pumpOrder t d) s = execPumpOrder t d s := rfl
theorem exec_pumpCtrlWrite (t : Nat) (data : Word) (s : State) : exec (.pumpCtrlWrite t data) s = execPumpCtrlWrite t data s := rfl
theorem exec_pumpFltTimeout (t : Nat) (s : State) : exec (.pumpFltTimeout t) s = execPumpFltTimeout t s := rfl
theorem exec_stageLoss (t : Nat) (s : State) : exec (.stageLoss t) s = execStageLoss t s := rfl
theorem exec_doorbell (t : Nat) (ring : Fin 6) (value : Word) (be : BitVec 4) (s : State) : exec (.doorbell t ring value be) s = execDoorbell t ring value be s := rfl
theorem exec_idleHint (t : Nat) (data : Word) (s : State) : exec (.idleHint t data) s = execIdleHint t data s := rfl
theorem exec_descriptorFetch (t : Nat) (s : State) : exec (.descriptorFetch t) s = execDescriptorFetch t s := rfl
theorem exec_descriptorReadComplete (t : Nat) (descs : List Desc) (s : State) : exec (.descriptorReadComplete t descs) s = execDescriptorReadComplete t descs s := rfl
theorem exec_payloadReadComplete (t : Nat) (d : Desc) (bytes : List Byte) (s : State) : exec (.payloadReadComplete t d bytes) s = execPayloadReadComplete t d bytes s := rfl
theorem exec_completionTimeout (t : Nat) (read : ReadId) (kind : BitVec 2) (s : State) : exec (.completionTimeout t read kind) s = execCompletionTimeout t read kind s := rfl
theorem exec_timedDispatch (t : Nat) (s : State) : exec (.timedDispatch t) s = execTimedDispatch t s := rfl
theorem exec_nop (t : Nat) (d : Desc) (s : State) : exec (.nop t d) s = execNop t d s := rfl
theorem exec_tableLoad (t : Nat) (d : Desc) (payload : Option (List Byte)) (s : State) : exec (.tableLoad t d payload) s = execTableLoad t d payload s := rfl
theorem exec_tableRead (t : Nat) (d : Desc) (s : State) : exec (.tableRead t d) s = execTableRead t d s := rfl
theorem exec_cellOrder (t : Nat) (d : Desc) (s : State) : exec (.cellOrder t d) s = execCellOrder t d s := rfl
theorem exec_selftest (t : Nat) (d : Desc) (upsets : List TableUpset) (s : State) : exec (.selftest t d upsets) s = execSelftest t d upsets s := rfl
theorem exec_statsRead (t : Nat) (d : Desc) (s : State) : exec (.statsRead t d) s = execStatsRead t d s := rfl
theorem exec_modeSet (t : Nat) (d : Desc) (s : State) : exec (.modeSet t d) s = execModeSet t d s := rfl
theorem exec_ringWrite (t : Nat) (ring : Fin 6) (s : State) : exec (.ringWrite t ring) s = execRingWrite t ring s := rfl
theorem exec_busMasterEnable (t : Nat) (bme : Bool) (d3hot : Bool) (s : State) : exec (.busMasterEnable t bme d3hot) s = execBusMasterEnable t bme d3hot s := rfl
theorem exec_linkDown (t : Nat) (s : State) : exec (.linkDown t) s = execLinkDown t s := rfl
theorem exec_linkUp (t : Nat) (gen2 : Bool) (s : State) : exec (.linkUp t gen2) s = execLinkUp t gen2 s := rfl
theorem exec_ringEnable (t : Nat) (ring : Fin 6) (data : Word) (s : State) : exec (.ringEnable t ring data) s = execRingEnable t ring data s := rfl
theorem exec_tableIntegrityCheck (t : Nat) (upsets : List TableUpset) (s : State) : exec (.tableIntegrityCheck t upsets) s = execTableIntegrityCheck t upsets s := rfl
theorem exec_holdoffExpiry (t : Nat) (vec : Fin 64) (s : State) : exec (.holdoffExpiry t vec) s = execHoldoffExpiry t vec s := rfl
theorem exec_vectorCommit (t : Nat) (s : State) : exec (.vectorCommit t) s = execVectorCommit t s := rfl
theorem exec_messageIssued (t : Nat) (s : State) : exec (.messageIssued t) s = execMessageIssued t s := rfl
theorem exec_irqEoi (t : Nat) (data : Word) (s : State) : exec (.irqEoi t data) s = execIrqEoi t data s := rfl
theorem exec_irqMaskWrite (t : Nat) (m : Fin 8) (data : Word) (s : State) : exec (.irqMaskWrite t m data) s = execIrqMaskWrite t m data s := rfl
theorem exec_sinkWindowClose (t : Nat) (sink : Fin 64) (s : State) : exec (.sinkWindowClose t sink) s = execSinkWindowClose t sink s := rfl
theorem exec_sinkPulseEnd (t : Nat) (pin : Fin 4) (s : State) : exec (.sinkPulseEnd t pin) s = execSinkPulseEnd t pin s := rfl
theorem exec_tableauEntry (t : Nat) (bits : BitVec 2) (s : State) : exec (.tableauEntry t bits) s = execTableauEntry t bits s := rfl
theorem exec_tableauExit (t : Nat) (bits : BitVec 2) (s : State) : exec (.tableauExit t bits) s = execTableauExit t bits s := rfl
theorem exec_por (t : Nat) (rails : BitVec 5) (s : State) : exec (.por t rails) s = execPor t rails s := rfl
theorem exec_brown (t : Nat) (rails : BitVec 5) (s : State) : exec (.brown t rails) s = execBrown t rails s := rfl
theorem exec_pinReset (t : Nat) (s : State) : exec (.pinReset t) s = execPinReset t s := rfl
theorem exec_softReset (t : Nat) (data : Word) (s : State) : exec (.softReset t data) s = execSoftReset t data s := rfl
theorem exec_perst (t : Nat) (s : State) : exec (.perst t) s = execPerst t s := rfl
theorem exec_testReset (t : Nat) (s : State) : exec (.testReset t) s = execTestReset t s := rfl
theorem exec_internalStart (t : Nat) (romOk : Bool) (s : State) : exec (.internalStart t romOk) s = execInternalStart t romOk s := rfl
theorem exec_crystalWindow (t : Nat) (count : Nat) (s : State) : exec (.crystalWindow t count) s = execCrystalWindow t count s := rfl
theorem exec_pllUnlock (t : Nat) (pll : Fin 3) (s : State) : exec (.pllUnlock t pll) s = execPllUnlock t pll s := rfl
theorem exec_pllRelock (t : Nat) (pll : Fin 3) (s : State) : exec (.pllRelock t pll) s = execPllRelock t pll s := rfl
theorem exec_relockAttempt (t : Nat) (pll : Fin 3) (s : State) : exec (.relockAttempt t pll) s = execRelockAttempt t pll s := rfl
theorem exec_coreReturn (t : Nat) (s : State) : exec (.coreReturn t) s = execCoreReturn t s := rfl
theorem exec_convRestart (t : Nat) (s : State) : exec (.convRestart t) s = execConvRestart t s := rfl
theorem exec_temperatureMeasurement (t : Nat) (temp : Int) (s : State) : exec (.temperatureMeasurement t temp) s = execTemperatureMeasurement t temp s := rfl
theorem exec_hotExit (t : Nat) (s : State) : exec (.hotExit t) s = execHotExit t s := rfl
theorem exec_tempTimeout (t : Nat) (s : State) : exec (.tempTimeout t) s = execTempTimeout t s := rfl
theorem exec_keyProg (t : Nat) (key : BitVec 256) (id : Word) (vddOk : Bool) (s : State) : exec (.keyProg t key id vddOk) s = execKeyProg t key id vddOk s := rfl
theorem exec_keyVerify (t : Nat) (stored : BitVec 256) (s : State) : exec (.keyVerify t stored) s = execKeyVerify t stored s := rfl
theorem exec_keyCheck (t : Nat) (s : State) : exec (.keyCheck t) s = execKeyCheck t s := rfl
theorem exec_testLogicReset (t : Nat) (s : State) : exec (.testLogicReset t) s = execTestLogicReset t s := rfl
theorem exec_pfWarn (t : Nat) (s : State) : exec (.pfWarn t) s = execPfWarn t s := rfl
theorem exec_pfRide (t : Nat) (s : State) : exec (.pfRide t) s = execPfRide t s := rfl
theorem exec_domainStop (t : Nat) (s : State) : exec (.domainStop t) s = execDomainStop t s := rfl
theorem exec_domainStart (t : Nat) (s : State) : exec (.domainStart t) s = execDomainStart t s := rfl
theorem exec_outageClose (t : Nat) (vstor : Nat) (s : State) : exec (.outageClose t vstor) s = execOutageClose t vstor s := rfl
theorem exec_storeCheck (t : Nat) (vstor : Nat) (s : State) : exec (.storeCheck t vstor) s = execStoreCheck t vstor s := rfl
theorem exec_sealComplete (t : Nat) (s : State) : exec (.sealComplete t) s = execSealComplete t s := rfl
theorem exec_keeperCalibration (t : Nat) (ticks : Nat) (s : State) : exec (.keeperCalibration t ticks) s = execKeeperCalibration t ticks s := rfl
theorem exec_mppSample (t : Nat) (mppset : Nat) (s : State) : exec (.mppSample t mppset) s = execMppSample t mppset s := rfl
theorem exec_vstorSample (t : Nat) (vstor : Nat) (vteg : Nat) (s : State) : exec (.vstorSample t vstor vteg) s = execVstorSample t vstor vteg s := rfl
theorem exec_tamperSample (t : Nat) (levels : BitVec 2) (s : State) : exec (.tamperSample t levels) s = execTamperSample t levels s := rfl
theorem exec_sweepStart (t : Nat) (s : State) : exec (.sweepStart t) s = execSweepStart t s := rfl
theorem exec_scrubRead (t : Nat) (found : WordRead) (s : State) : exec (.scrubRead t found) s = execScrubRead t found s := rfl
theorem exec_surveyPass (t : Nat) (s : State) : exec (.surveyPass t) s = execSurveyPass t s := rfl
theorem exec_surveyEntry (t : Nat) (s : State) : exec (.surveyEntry t) s = execSurveyEntry t s := rfl
theorem exec_surveyResume (t : Nat) (s : State) : exec (.surveyResume t) s = execSurveyResume t s := rfl
theorem exec_scrubWearSel (t : Nat) (data : Word) (s : State) : exec (.scrubWearSel t data) s = execScrubWearSel t data s := rfl
theorem exec_frameNotReturned (t : Nat) (loop : Fin 4) (s : State) : exec (.frameNotReturned t loop) s = execFrameNotReturned t loop s := rfl
theorem exec_msiEnableOrVectorMask (t : Nat) (w : MsiWrite) (s : State) : exec (.msiEnableOrVectorMask t w) s = execMsiEnableOrVectorMask t w s := rfl
theorem exec_rotorStandstill (t : Nat) (s : State) : exec (.rotorStandstill t) s = execRotorStandstill t s := rfl
theorem exec_sstatToggle (t : Nat) (s : State) : exec (.sstatToggle t) s = execSstatToggle t s := rfl
theorem exec_coarseSensorRead (t : Nat) (temp : Int) (s : State) : exec (.coarseSensorRead t temp) s = execCoarseSensorRead t temp s := rfl

/-- Every command acts by `State.run`: its meaning is an effect that happens once time has passed. -/
theorem exec_run (i : Instr) (s : State) : ∃ t f, exec i s = s.run t f := by
  cases i with
  | registerWrite t addr data be => unfold exec execRegisterWrite; exact ⟨_, _, rfl⟩
  | loReadCapture t addr => unfold exec execLoReadCapture; exact ⟨_, _, rfl⟩
  | datumSet t d => unfold exec execDatumSet; exact ⟨_, _, rfl⟩
  | ppsinEdge t => unfold exec execPpsinEdge; exact ⟨_, _, rfl⟩
  | ppsWindowEnd t => unfold exec execPpsWindowEnd; exact ⟨_, _, rfl⟩
  | ppsPresentTimeout t => unfold exec execPpsPresentTimeout; exact ⟨_, _, rfl⟩
  | referenceTimeout t => unfold exec execReferenceTimeout; exact ⟨_, _, rfl⟩
  | holdoverExpired t => unfold exec execHoldoverExpired; exact ⟨_, _, rfl⟩
  | roleChange t data => unfold exec execRoleChange; exact ⟨_, _, rfl⟩
  | eventArrival t e => unfold exec execEventArrival; exact ⟨_, _, rfl⟩
  | eventRelease t => unfold exec execEventRelease; exact ⟨_, _, rfl⟩
  | meridianSlotSend t => unfold exec execMeridianSlotSend; exact ⟨_, _, rfl⟩
  | meridianSlotReceived t fields crc rx8 => unfold exec execMeridianSlotReceived; exact ⟨_, _, rfl⟩
  | meridianDown t => unfold exec execMeridianDown; exact ⟨_, _, rfl⟩
  | ackTimeout t seq => unfold exec execAckTimeout; exact ⟨_, _, rfl⟩
  | meridianSend t d payload => unfold exec execMeridianSend; exact ⟨_, _, rfl⟩
  | rxboxFree t data => unfold exec execRxboxFree; exact ⟨_, _, rfl⟩
  | ppsOutput t pin => unfold exec execPpsOutput; exact ⟨_, _, rfl⟩
  | ppsOutputEnd t pin => unfold exec execPpsOutputEnd; exact ⟨_, _, rfl⟩
  | evioIn t pin => unfold exec execEvioIn; exact ⟨_, _, rfl⟩
  | scheduledSample t part => unfold exec execScheduledSample; exact ⟨_, _, rfl⟩
  | result t slice raw value => unfold exec execResult; exact ⟨_, _, rfl⟩
  | resultMissing t slice => unfold exec execResultMissing; exact ⟨_, _, rfl⟩
  | referenceMonitor t microvolts => unfold exec execReferenceMonitor; exact ⟨_, _, rfl⟩
  | handoverOpportunity t group => unfold exec execHandoverOpportunity; exact ⟨_, _, rfl⟩
  | calComplete t group fit => unfold exec execCalComplete; exact ⟨_, _, rfl⟩
  | overlapVerdict t group => unfold exec execOverlapVerdict; exact ⟨_, _, rfl⟩
  | overlapTimeout t group => unfold exec execOverlapTimeout; exact ⟨_, _, rfl⟩
  | swap t group => unfold exec execSwap; exact ⟨_, _, rfl⟩
  | calStale t group => unfold exec execCalStale; exact ⟨_, _, rfl⟩
  | convUrgent t data => unfold exec execConvUrgent; exact ⟨_, _, rfl⟩
  | convSlotWrite t part data => unfold exec execConvSlotWrite; exact ⟨_, _, rfl⟩
  | readmit t data => unfold exec execReadmit; exact ⟨_, _, rfl⟩
  | compTrip t e => unfold exec execCompTrip; exact ⟨_, _, rfl⟩
  | compNormal t k => unfold exec execCompNormal; exact ⟨_, _, rfl⟩
  | compCfgWrite t k data => unfold exec execCompCfgWrite; exact ⟨_, _, rfl⟩
  | compTestStart t data => unfold exec execCompTestStart; exact ⟨_, _, rfl⟩
  | compTestRead t filtered => unfold exec execCompTestRead; exact ⟨_, _, rfl⟩
  | compTestDone t after => unfold exec execCompTestDone; exact ⟨_, _, rfl⟩
  | frameFreeze t => unfold exec execFrameFreeze; exact ⟨_, _, rfl⟩
  | frameStart t => unfold exec execFrameStart; exact ⟨_, _, rfl⟩
  | returnedFrame t loop r => unfold exec execReturnedFrame; exact ⟨_, _, rfl⟩
  | haltNow t data => unfold exec execHaltNow; exact ⟨_, _, rfl⟩
  | haltReturned t loop => unfold exec execHaltReturned; exact ⟨_, _, rfl⟩
  | resume t data => unfold exec execResume; exact ⟨_, _, rfl⟩
  | resumeTakesEffect t loop => unfold exec execResumeTakesEffect; exact ⟨_, _, rfl⟩
  | train t data => unfold exec execTrain; exact ⟨_, _, rfl⟩
  | trainLinkTimeout t loop => unfold exec execTrainLinkTimeout; exact ⟨_, _, rfl⟩
  | delayRecompute t loop => unfold exec execDelayRecompute; exact ⟨_, _, rfl⟩
  | evaluationTick t => unfold exec execEvaluationTick; exact ⟨_, _, rfl⟩
  | clearExpiry t => unfold exec execClearExpiry; exact ⟨_, _, rfl⟩
  | maxDurExpiry t => unfold exec execMaxDurExpiry; exact ⟨_, _, rfl⟩
  | enterServiceDelay t => unfold exec execEnterServiceDelay; exact ⟨_, _, rfl⟩
  | restoreDelayExpiry t => unfold exec execRestoreDelayExpiry; exact ⟨_, _, rfl⟩
  | restoreRampEnd t => unfold exec execRestoreRampEnd; exact ⟨_, _, rfl⟩
  | bearingLock t => unfold exec execBearingLock; exact ⟨_, _, rfl⟩
  | coastExpiry t => unfold exec execCoastExpiry; exact ⟨_, _, rfl⟩
  | bearInput t phase => unfold exec execBearInput; exact ⟨_, _, rfl⟩
  | chipEnd t => unfold exec execChipEnd; exact ⟨_, _, rfl⟩
  | suspectClear t => unfold exec execSuspectClear; exact ⟨_, _, rfl⟩
  | signatureMiss t => unfold exec execSignatureMiss; exact ⟨_, _, rfl⟩
  | powerSet t d => unfold exec execPowerSet; exact ⟨_, _, rfl⟩
  | fastDecision t phase => unfold exec execFastDecision; exact ⟨_, _, rfl⟩
  | followErr t phase => unfold exec execFollowErr; exact ⟨_, _, rfl⟩
  | curInput t phase => unfold exec execCurInput; exact ⟨_, _, rfl⟩
  | bandUpdate t => unfold exec execBandUpdate; exact ⟨_, _, rfl⟩
  | zeroReached t => unfold exec execZeroReached; exact ⟨_, _, rfl⟩
  | rampFail t => unfold exec execRampFail; exact ⟨_, _, rfl⟩
  | castingRequest t => unfold exec execCastingRequest; exact ⟨_, _, rfl⟩
  | bypassCheckTimeout t cell => unfold exec execBypassCheckTimeout; exact ⟨_, _, rfl⟩
  | hotTime t cell => unfold exec execHotTime; exact ⟨_, _, rfl⟩
  | uvTime t cell => unfold exec execUvTime; exact ⟨_, _, rfl⟩
  | leavingTimeout t cell => unfold exec execLeavingTimeout; exact ⟨_, _, rfl⟩
  | preTime t cell => unfold exec execPreTime; exact ⟨_, _, rfl⟩
  | coolTo t => unfold exec execCoolTo; exact ⟨_, _, rfl⟩
  | castReadmit t data => unfold exec execCastReadmit; exact ⟨_, _, rfl⟩
  | trackerStep t cell => unfold exec execTrackerStep; exact ⟨_, _, rfl⟩
  | scanDue t cell => unfold exec execScanDue; exact ⟨_, _, rfl⟩
  | probeDue t cell => unfold exec execProbeDue; exact ⟨_, _, rfl⟩
  | dumpLimit t cell => unfold exec execDumpLimit; exact ⟨_, _, rfl⟩
  | dumpHoldExpiry t => unfold exec execDumpHoldExpiry; exact ⟨_, _, rfl⟩
  | dumpOffResend t cell => unfold exec execDumpOffResend; exact ⟨_, _, rfl⟩
  | cellpwrDumpClr t data => unfold exec execCellpwrDumpClr; exact ⟨_, _, rfl⟩
  | intervalClose t => unfold exec execIntervalClose; exact ⟨_, _, rfl⟩
  | demandSubPeriod t => unfold exec execDemandSubPeriod; exact ⟨_, _, rfl⟩
  | snapshot t d => unfold exec execSnapshot; exact ⟨_, _, rfl⟩
  | snapshotCapture t => unfold exec execSnapshotCapture; exact ⟨_, _, rfl⟩
  | pulseStart t pin => unfold exec execPulseStart; exact ⟨_, _, rfl⟩
  | pulseEnd t pin => unfold exec execPulseEnd; exact ⟨_, _, rfl⟩
  | retentionRefresh t => unfold exec execRetentionRefresh; exact ⟨_, _, rfl⟩
  | exportEn t data => unfold exec execExportEn; exact ⟨_, _, rfl⟩
  | atlasExport t => unfold exec execAtlasExport; exact ⟨_, _, rfl⟩
  | atlasRead t d => unfold exec execAtlasRead; exact ⟨_, _, rfl⟩
  | meterCfgWrite t data => unfold exec execMeterCfgWrite; exact ⟨_, _, rfl⟩
  | channelACycle t pins => unfold exec execChannelACycle; exact ⟨_, _, rfl⟩
  | syncTime t => unfold exec execSyncTime; exact ⟨_, _, rfl⟩
  | contactorCheck t => unfold exec execContactorCheck; exact ⟨_, _, rfl⟩
  | contactorRecheck t => unfold exec execContactorRecheck; exact ⟨_, _, rfl⟩
  | raisedRecheck t => unfold exec execRaisedRecheck; exact ⟨_, _, rfl⟩
  | estopDisc t => unfold exec execEstopDisc; exact ⟨_, _, rfl⟩
  | sresetStuck t => unfold exec execSresetStuck; exact ⟨_, _, rfl⟩
  | paramCheck t upsets => unfold exec execParamCheck; exact ⟨_, _, rfl⟩
  | romCheck t ok => unfold exec execRomCheck; exact ⟨_, _, rfl⟩
  | channelBLatch t edges => unfold exec execChannelBLatch; exact ⟨_, _, rfl⟩
  | heartbeatLoss t => unfold exec execHeartbeatLoss; exact ⟨_, _, rfl⟩
  | raiseGap t => unfold exec execRaiseGap; exact ⟨_, _, rfl⟩
  | sresetEdge t edges => unfold exec execSresetEdge; exact ⟨_, _, rfl⟩
  | curtainLower t d => unfold exec execCurtainLower; exact ⟨_, _, rfl⟩
  | curtainReset t d => unfold exec execCurtainReset; exact ⟨_, _, rfl⟩
  | periodStart t chop => unfold exec execPeriodStart; exact ⟨_, _, rfl⟩
  | deadTimeEnd t switch => unfold exec execDeadTimeEnd; exact ⟨_, _, rfl⟩
  | blankingEnd t switch => unfold exec execBlankingEnd; exact ⟨_, _, rfl⟩
  | gdEn t data => unfold exec execGdEn; exact ⟨_, _, rfl⟩
  | loadAll t data => unfold exec execLoadAll; exact ⟨_, _, rfl⟩
  | shadowTransfer t chop => unfold exec execShadowTransfer; exact ⟨_, _, rfl⟩
  | pwmEvent t channel kind => unfold exec execPwmEvent; exact ⟨_, _, rfl⟩
  | commutation t => unfold exec execCommutation; exact ⟨_, _, rfl⟩
  | observeEnd t => unfold exec execObserveEnd; exact ⟨_, _, rfl⟩
  | waitMax t => unfold exec execWaitMax; exact ⟨_, _, rfl⟩
  | alignTime t => unfold exec execAlignTime; exact ⟨_, _, rfl⟩
  | forcedCommutation t => unfold exec execForcedCommutation; exact ⟨_, _, rfl⟩
  | lockedRotor t => unfold exec execLockedRotor; exact ⟨_, _, rfl⟩
  | lockRestart t => unfold exec execLockRestart; exact ⟨_, _, rfl⟩
  | chopCheck t => unfold exec execChopCheck; exact ⟨_, _, rfl⟩
  | busLow t => unfold exec execBusLow; exact ⟨_, _, rfl⟩
  | busRecovered t => unfold exec execBusRecovered; exact ⟨_, _, rfl⟩
  | pumpInputTimeout t => unfold exec execPumpInputTimeout; exact ⟨_, _, rfl⟩
  | pumpOrder t d => unfold exec execPumpOrder; exact ⟨_, _, rfl⟩
  | pumpCtrlWrite t data => unfold exec execPumpCtrlWrite; exact ⟨_, _, rfl⟩
  | pumpFltTimeout t => unfold exec execPumpFltTimeout; exact ⟨_, _, rfl⟩
  | stageLoss t => unfold exec execStageLoss; exact ⟨_, _, rfl⟩
  | doorbell t ring value be => unfold exec execDoorbell; exact ⟨_, _, rfl⟩
  | idleHint t data => unfold exec execIdleHint; exact ⟨_, _, rfl⟩
  | descriptorFetch t => unfold exec execDescriptorFetch; exact ⟨_, _, rfl⟩
  | descriptorReadComplete t descs => unfold exec execDescriptorReadComplete; exact ⟨_, _, rfl⟩
  | payloadReadComplete t d bytes => unfold exec execPayloadReadComplete; exact ⟨_, _, rfl⟩
  | completionTimeout t read kind => unfold exec execCompletionTimeout; exact ⟨_, _, rfl⟩
  | timedDispatch t => unfold exec execTimedDispatch; exact ⟨_, _, rfl⟩
  | nop t d => unfold exec execNop; exact ⟨_, _, rfl⟩
  | tableLoad t d payload => unfold exec execTableLoad; exact ⟨_, _, rfl⟩
  | tableRead t d => unfold exec execTableRead; exact ⟨_, _, rfl⟩
  | cellOrder t d => unfold exec execCellOrder; exact ⟨_, _, rfl⟩
  | selftest t d upsets => unfold exec execSelftest; exact ⟨_, _, rfl⟩
  | statsRead t d => unfold exec execStatsRead; exact ⟨_, _, rfl⟩
  | modeSet t d => unfold exec execModeSet; exact ⟨_, _, rfl⟩
  | ringWrite t ring => unfold exec execRingWrite; exact ⟨_, _, rfl⟩
  | busMasterEnable t bme d3hot => unfold exec execBusMasterEnable; exact ⟨_, _, rfl⟩
  | linkDown t => unfold exec execLinkDown; exact ⟨_, _, rfl⟩
  | linkUp t gen2 => unfold exec execLinkUp; exact ⟨_, _, rfl⟩
  | ringEnable t ring data => unfold exec execRingEnable; exact ⟨_, _, rfl⟩
  | tableIntegrityCheck t upsets => unfold exec execTableIntegrityCheck; exact ⟨_, _, rfl⟩
  | holdoffExpiry t vec => unfold exec execHoldoffExpiry; exact ⟨_, _, rfl⟩
  | vectorCommit t => unfold exec execVectorCommit; exact ⟨_, _, rfl⟩
  | messageIssued t => unfold exec execMessageIssued; exact ⟨_, _, rfl⟩
  | irqEoi t data => unfold exec execIrqEoi; exact ⟨_, _, rfl⟩
  | irqMaskWrite t m data => unfold exec execIrqMaskWrite; exact ⟨_, _, rfl⟩
  | sinkWindowClose t sink => unfold exec execSinkWindowClose; exact ⟨_, _, rfl⟩
  | sinkPulseEnd t pin => unfold exec execSinkPulseEnd; exact ⟨_, _, rfl⟩
  | tableauEntry t bits => unfold exec execTableauEntry; exact ⟨_, _, rfl⟩
  | tableauExit t bits => unfold exec execTableauExit; exact ⟨_, _, rfl⟩
  | por t rails => unfold exec execPor; exact ⟨_, _, rfl⟩
  | brown t rails => unfold exec execBrown; exact ⟨_, _, rfl⟩
  | pinReset t => unfold exec execPinReset; exact ⟨_, _, rfl⟩
  | softReset t data => unfold exec execSoftReset; exact ⟨_, _, rfl⟩
  | perst t => unfold exec execPerst; exact ⟨_, _, rfl⟩
  | testReset t => unfold exec execTestReset; exact ⟨_, _, rfl⟩
  | internalStart t romOk => unfold exec execInternalStart; exact ⟨_, _, rfl⟩
  | crystalWindow t count => unfold exec execCrystalWindow; exact ⟨_, _, rfl⟩
  | pllUnlock t pll => unfold exec execPllUnlock; exact ⟨_, _, rfl⟩
  | pllRelock t pll => unfold exec execPllRelock; exact ⟨_, _, rfl⟩
  | relockAttempt t pll => unfold exec execRelockAttempt; exact ⟨_, _, rfl⟩
  | coreReturn t => unfold exec execCoreReturn; exact ⟨_, _, rfl⟩
  | convRestart t => unfold exec execConvRestart; exact ⟨_, _, rfl⟩
  | temperatureMeasurement t temp => unfold exec execTemperatureMeasurement; exact ⟨_, _, rfl⟩
  | hotExit t => unfold exec execHotExit; exact ⟨_, _, rfl⟩
  | tempTimeout t => unfold exec execTempTimeout; exact ⟨_, _, rfl⟩
  | keyProg t key id vddOk => unfold exec execKeyProg; exact ⟨_, _, rfl⟩
  | keyVerify t stored => unfold exec execKeyVerify; exact ⟨_, _, rfl⟩
  | keyCheck t => unfold exec execKeyCheck; exact ⟨_, _, rfl⟩
  | testLogicReset t => unfold exec execTestLogicReset; exact ⟨_, _, rfl⟩
  | pfWarn t => unfold exec execPfWarn; exact ⟨_, _, rfl⟩
  | pfRide t => unfold exec execPfRide; exact ⟨_, _, rfl⟩
  | domainStop t => unfold exec execDomainStop; exact ⟨_, _, rfl⟩
  | domainStart t => unfold exec execDomainStart; exact ⟨_, _, rfl⟩
  | outageClose t vstor => unfold exec execOutageClose; exact ⟨_, _, rfl⟩
  | storeCheck t vstor => unfold exec execStoreCheck; exact ⟨_, _, rfl⟩
  | sealComplete t => unfold exec execSealComplete; exact ⟨_, _, rfl⟩
  | keeperCalibration t ticks => unfold exec execKeeperCalibration; exact ⟨_, _, rfl⟩
  | mppSample t mppset => unfold exec execMppSample; exact ⟨_, _, rfl⟩
  | vstorSample t vstor vteg => unfold exec execVstorSample; exact ⟨_, _, rfl⟩
  | tamperSample t levels => unfold exec execTamperSample; exact ⟨_, _, rfl⟩
  | sweepStart t => unfold exec execSweepStart; exact ⟨_, _, rfl⟩
  | scrubRead t found => unfold exec execScrubRead; exact ⟨_, _, rfl⟩
  | surveyPass t => unfold exec execSurveyPass; exact ⟨_, _, rfl⟩
  | surveyEntry t => unfold exec execSurveyEntry; exact ⟨_, _, rfl⟩
  | surveyResume t => unfold exec execSurveyResume; exact ⟨_, _, rfl⟩
  | scrubWearSel t data => unfold exec execScrubWearSel; exact ⟨_, _, rfl⟩
  | frameNotReturned t loop => unfold exec execFrameNotReturned; exact ⟨_, _, rfl⟩
  | msiEnableOrVectorMask t w => unfold exec execMsiEnableOrVectorMask; exact ⟨_, _, rfl⟩
  | rotorStandstill t => unfold exec execRotorStandstill; exact ⟨_, _, rfl⟩
  | sstatToggle t => unfold exec execSstatToggle; exact ⟨_, _, rfl⟩
  | coarseSensorRead t temp => unfold exec execCoarseSensorRead; exact ⟨_, _, rfl⟩

/-- No command is refused and none ends in a fault. -/
theorem exec_next (i : Instr) (s : State) : ∃ s', exec i s = .next s' := by
  obtain ⟨t, f, h⟩ := exec_run i s
  exact h ▸ s.run_next t f

/-- A command that acts by an effect completes with whatever holds of the state that the effect leaves. -/
theorem completes_run {c : Instr} {s : State} {t : Nat} {f : State → State} {P : State → Prop} (h : exec c s = s.run t f)
    (hP : P (s.settle (s.advance t) (f (s.advance t)))) : Completes c s P := ⟨_, h, hP⟩

/-- What the effect keeps, the command keeps. -/
theorem kept_settle {regs : List Nat} {parts : List Part} {s x : State} {t : Nat} (h : Kept regs parts (s.advance t) x) :
    Kept regs parts (s.advance t) (s.settle (s.advance t) x) := by
  refine ⟨fun r hr => by simpa using h.1 r hr, fun p hp => ?_⟩
  have := h.2 p hp
  cases p <;> simp only [Part.same] at this ⊢ <;> try exact this
  · intro k; simpa using this k
  · exact s.tables_settle _ x this

theorem kept_refl (regs : List Nat) (parts : List Part) (a : State) : Kept regs parts a a :=
  ⟨fun _ _ => rfl, fun p _ => by cases p <;> simp [Part.same]⟩

theorem kept_trans {regs : List Nat} {parts : List Part} {a b c : State} (h1 : Kept regs parts a b) (h2 : Kept regs parts b c) :
    Kept regs parts a c := by
  refine ⟨fun r hr => (h2.1 r hr).trans (h1.1 r hr), fun p hp => ?_⟩
  have e1 := h1.2 p hp
  have e2 := h2.2 p hp
  cases p <;> simp only [Part.same] at e1 e2 ⊢ <;> first | exact e2.trans e1 | exact fun k => (e2 k).trans (e1 k)

/-- A longer list of exceptions keeps less. -/
theorem kept_mono {regs regs' : List Nat} {parts parts' : List Part} {a b : State} (hr : regs ⊆ regs') (hp : parts ⊆ parts')
    (h : Kept regs parts a b) : Kept regs' parts' a b :=
  ⟨fun r h' => h.1 r fun m => h' (hr m), fun p h' => h.2 p fun m => h' (hp m)⟩

end Sys2Proof.Machine
end

