-- ==== Sys2Proof/Tests/Slice0.lean ====
section
/-! SUPPORT. Sys2Proof/Tests/Slice0.lean: for each statement that has hypotheses, states and operands that meet them, clause by clause; the
checks of WellFormed; the spec's own examples and single steps. -/

open Sys2Proof Sys2Proof.Machine

set_option maxRecDepth 100000
set_option Elab.async false
set_option linter.unusedVariables false

namespace Sys2Proof.Tests

/-- The state after reset with some register fields given. -/
def given (l : List (FieldRef × Nat)) : State := l.foldl (fun s x => s.set x.1 x.2) State.reset

/-- A pin that has stood at a level since the start, recognised as such. -/
def still (level : Bool) : Watch := { raw := level, since := 0, out := some level }

/-- A channel's readings: E-stop, SRESET, both feedback inputs and both drives, each as `still` has it. -/
def pinsAt (estop sreset kfb kdrv : Bool) : Readings :=
  { estopA := still estop, estopB := still estop, sreset := still sreset, kfbA := still kfb, kfbB := still kfb, kdrvA := still kdrv,
    kdrvB := still kdrv }
/-! What meets the hypotheses of each statement -/

/-- A keeper that has had no edge since it was set stands at its value, here 0. -/
theorem keeper_stands (s : State) (n : Nat) (h : s.ghost.absent = true) (v : s.ghost.keeper.value = 0)
    (g : Config.ghostEdges s.elapsed = s.ghost.keeper.edge) : s.keeperNow < n + 1 := by
  simp [State.keeperNow, State.keeperCount, State.keeperFine, h, v, g]

/-- A grandmaster in LOCKED at which an edge of PPSIN, whatever the synchroniser latency, is stamped `x`. -/
def lockedAt (x : Nat) : State := { given [(F.DATUM_STATUS_DISC, 2)] with datum := x + 32 + 2 * Config.syncTicks }

theorem edge_lockedAt (x : Nat) : ((lockedAt x).advance 0).edgeStamp (((lockedAt x).advance 0).getInt F.DATUM_PPS_COMP_COMP) = x := by
  have h : ((lockedAt x).advance 0).getInt F.DATUM_PPS_COMP_COMP = 0 := by
    have r : ((lockedAt x).advance 0).reg F.DATUM_PPS_COMP_COMP.addr = (given [(F.DATUM_STATUS_DISC, 2)]).reg F.DATUM_PPS_COMP_COMP.addr := rfl
    simp only [State.getInt, State.get, r]; decide +kernel
  have d : ((lockedAt x).advance 0).datum = x + 32 + 2 * Config.syncTicks := rfl
  rw [State.edgeStamp, h, d]; omega

theorem meets_PpsEdgesJudged :
    (∃ (s : State) (t : Nat), let a := s.advance t; let x := a.edgeStamp (a.getInt F.DATUM_PPS_COMP_COMP); let e := nearestSecond x
      let w : Int := a.get F.DATUM_PPS_CFG_WIN * 100
      a.ppsActive = true ∧ a.discState = 2 ∧ e - w ≤ x ∧ x < e + w ∧ a.disc.accepted ≠ some e.toNat ∧ 0 ≤ x ∧ x < 2 ^ 64) ∧
    ∃ (s : State) (t : Nat), let a := s.advance t; let x := a.edgeStamp (a.getInt F.DATUM_PPS_COMP_COMP); let e := nearestSecond x
      let w : Int := a.get F.DATUM_PPS_CFG_WIN * 100
      a.ppsActive = true ∧ a.discState = 2 ∧ ¬(e - w ≤ x ∧ x < e + w) := by
  refine ⟨⟨lockedAt 4999999000, 0, ?_⟩, lockedAt 5000001000, 0, ?_⟩ <;> dsimp only <;> rw [edge_lockedAt] <;> decide +kernel

theorem meets_windowEnd :
    ∃ (s : State) (t : Nat), let a := s.advance t
      let e := a.ppsEnded (a.edgeStamp (a.getInt F.DATUM_PPS_COMP_COMP))
      a.ppsActive = true ∧ a.discState = 2 ∧ a.disc.judged < e ∧ a.disc.accepted ≠ some e := by
  refine ⟨lockedAt 5000001000, 0, ?_⟩; dsimp only; rw [edge_lockedAt]; decide +kernel


theorem meets_ReferenceLossAndDiscipline :
    (∃ (s : State) (t : Nat), let a := s.advance t; a.due a.disc.lastEdge 1500000000 = true) ∧
    (∃ (s : State) (t : Nat), let a := s.advance t; a.discState = 1 ∧ (if a.follower then a.bit F.DATUM_MER_STATUS_LINK_UP = false else a.disc.lastEdge = none ∨ a.due a.disc.lastEdge 1500000000 = true)) ∧
    (∃ (s : State) (t : Nat), let a := s.advance t; a.discState = 1 ∧ (if a.follower then a.bit F.DATUM_MER_STATUS_LINK_UP = false else a.disc.lastEdge = none ∨ a.due a.disc.lastEdge 1500000000 = true) ∧ (a.follower = true ∧ a.disc.holdover = some 0)) ∧
    (∃ (s : State) (t : Nat), let a := s.advance t; a.due a.disc.holdover (a.get F.DATUM_HOLD_MAX_SECONDS * second) = true) ∧
    (∃ (s : State) (t : Nat), let a := s.advance t; a.due a.disc.holdover (a.get F.DATUM_HOLD_MAX_SECONDS * second) = true ∧ a.discState ≠ 3) :=
  ⟨⟨{ given [] with elapsed := 1500000000, disc := { lastEdge := some 0 } }, 0, by decide +kernel⟩,
   ⟨given [(F.DATUM_STATUS_DISC, 1)], 0, by decide +kernel⟩,
   ⟨{ given [(F.DATUM_STATUS_DISC, 1), (F.DATUM_MER_CTRL_ROLE, 1)] with disc := { holdover := some 0 } }, 0, by decide +kernel⟩,
   ⟨{ given [(F.DATUM_STATUS_DISC, 3)] with elapsed := 3600 * second, disc := { holdover := some 0 } }, 0, by decide +kernel⟩,
   ⟨{ given [(F.DATUM_STATUS_DISC, 1)] with elapsed := 3600 * second, disc := { holdover := some 0 } }, 0, by decide +kernel⟩⟩

theorem meets_DatumSetTakesTheNewTime :
    (∃ (s : State) (t : Nat) (d : Desc), let a := s.advance t; let v := d.p0.toNat + 2 ^ 32 * d.p1.toNat; let off := signed 64 v; let rel := d.target.toNat = 1; d.target.toNat ≤ 1 ∧ d.len = 0 ∧ v % 2 = 0 ∧ a.curtainDown = true ∧ a.follower = false ∧ (¬rel → a.discState ≠ 2) ∧ (rel → a.discState = 2 → off % second = 0) ∧ (rel → 0 ≤ (a.datum : Int) + off ∧ (a.datum : Int) + off < 2 ^ 64)) ∧
    (∃ (s : State) (t : Nat) (d : Desc), let a := s.advance t; let v := d.p0.toNat + 2 ^ 32 * d.p1.toNat; let off := signed 64 v; let rel := d.target.toNat = 1; d.target.toNat ≤ 1 ∧ d.len = 0 ∧ v % 2 = 0 ∧ a.curtainDown = true ∧ a.follower = false ∧ (¬rel → a.discState ≠ 2) ∧ (rel → a.discState = 2 → off % second = 0) ∧ (rel → 0 ≤ (a.datum : Int) + off ∧ (a.datum : Int) + off < 2 ^ 64) ∧ d = { opc := 9, target := 1, p0 := 3294967296, p1 := 0xFFFFFFFF }) ∧
    (∃ (s : State) (t : Nat) (d : Desc) (status : Nat) (detail : Nat), let a := s.advance t; let v := d.p0.toNat + 2 ^ 32 * d.p1.toNat; let off := signed 64 v; let rel := d.target.toNat = 1; firstFail [(1 < d.target.toNat, st.targetRange, 0), (d.len ≠ 0, st.lenRange, 0), (v % 2 = 1, st.targetRange, 0x10), (a.curtainDown = false, st.stateRefused, 1), (a.follower = true, st.stateRefused, 2), (¬rel ∧ a.discState = 2, st.stateRefused, 3), (rel ∧ a.discState = 2 ∧ off % second ≠ 0, st.stateRefused, 4), (rel ∧ ((a.datum : Int) + off < 0 ∨ 2 ^ 64 ≤ (a.datum : Int) + off), st.targetRange, 0x20)] = some (status, detail) ∧ (detail = 0 ∧ d.len = 0)) ∧
    (∃ (s : State) (t : Nat) (d : Desc) (status : Nat) (detail : Nat), let a := s.advance t; let v := d.p0.toNat + 2 ^ 32 * d.p1.toNat; let off := signed 64 v; let rel := d.target.toNat = 1; firstFail [(1 < d.target.toNat, st.targetRange, 0), (d.len ≠ 0, st.lenRange, 0), (v % 2 = 1, st.targetRange, 0x10), (a.curtainDown = false, st.stateRefused, 1), (a.follower = true, st.stateRefused, 2), (¬rel ∧ a.discState = 2, st.stateRefused, 3), (rel ∧ a.discState = 2 ∧ off % second ≠ 0, st.stateRefused, 4), (rel ∧ ((a.datum : Int) + off < 0 ∨ 2 ^ 64 ≤ (a.datum : Int) + off), st.targetRange, 0x20)] = some (status, detail) ∧ (detail = 0 ∧ d.len = 1)) ∧
    (∃ (s : State) (t : Nat) (d : Desc) (status : Nat) (detail : Nat), let a := s.advance t; let v := d.p0.toNat + 2 ^ 32 * d.p1.toNat; let off := signed 64 v; let rel := d.target.toNat = 1; firstFail [(1 < d.target.toNat, st.targetRange, 0), (d.len ≠ 0, st.lenRange, 0), (v % 2 = 1, st.targetRange, 0x10), (a.curtainDown = false, st.stateRefused, 1), (a.follower = true, st.stateRefused, 2), (¬rel ∧ a.discState = 2, st.stateRefused, 3), (rel ∧ a.discState = 2 ∧ off % second ≠ 0, st.stateRefused, 4), (rel ∧ ((a.datum : Int) + off < 0 ∨ 2 ^ 64 ≤ (a.datum : Int) + off), st.targetRange, 0x20)] = some (status, detail) ∧ (detail = 0x10 ∧ d.len = 0)) ∧
    (∃ (s : State) (t : Nat) (d : Desc) (status : Nat) (detail : Nat), let a := s.advance t; let v := d.p0.toNat + 2 ^ 32 * d.p1.toNat; let off := signed 64 v; let rel := d.target.toNat = 1; firstFail [(1 < d.target.toNat, st.targetRange, 0), (d.len ≠ 0, st.lenRange, 0), (v % 2 = 1, st.targetRange, 0x10), (a.curtainDown = false, st.stateRefused, 1), (a.follower = true, st.stateRefused, 2), (¬rel ∧ a.discState = 2, st.stateRefused, 3), (rel ∧ a.discState = 2 ∧ off % second ≠ 0, st.stateRefused, 4), (rel ∧ ((a.datum : Int) + off < 0 ∨ 2 ^ 64 ≤ (a.datum : Int) + off), st.targetRange, 0x20)] = some (status, detail) ∧ (detail = 0x20 ∧ d.len = 0)) :=
  ⟨⟨given [], 0, { opc := 9, p0 := 1000000000 }, by decide +kernel⟩,
   ⟨{ given [(F.DATUM_STATUS_DISC, 2)] with datum := 1000000000 }, 0, { opc := 9, target := 1, p0 := 3294967296, p1 := 0xFFFFFFFF }, by decide +kernel⟩,
   ⟨given [], 0, { opc := 9, target := 2 }, st.targetRange, 0, by decide +kernel⟩,
   ⟨given [], 0, { opc := 9, len := 1 }, st.lenRange, 0, by decide +kernel⟩,
   ⟨given [], 0, { opc := 9, p0 := 1 }, st.targetRange, 0x10, by decide +kernel⟩,
   ⟨{ given [] with datum := 18446744073709551614 }, 0, { opc := 9, target := 1, p0 := 2 }, st.targetRange, 0x20, by decide +kernel⟩⟩

theorem meets_DatumSetTakesTheNewTime_2 :
    (∃ (s : State) (t : Nat) (d : Desc) (status : Nat) (detail : Nat), let a := s.advance t; let v := d.p0.toNat + 2 ^ 32 * d.p1.toNat; let off := signed 64 v; let rel := d.target.toNat = 1; firstFail [(1 < d.target.toNat, st.targetRange, 0), (d.len ≠ 0, st.lenRange, 0), (v % 2 = 1, st.targetRange, 0x10), (a.curtainDown = false, st.stateRefused, 1), (a.follower = true, st.stateRefused, 2), (¬rel ∧ a.discState = 2, st.stateRefused, 3), (rel ∧ a.discState = 2 ∧ off % second ≠ 0, st.stateRefused, 4), (rel ∧ ((a.datum : Int) + off < 0 ∨ 2 ^ 64 ≤ (a.datum : Int) + off), st.targetRange, 0x20)] = some (status, detail) ∧ detail = 1) ∧
    (∃ (s : State) (t : Nat) (d : Desc) (status : Nat) (detail : Nat), let a := s.advance t; let v := d.p0.toNat + 2 ^ 32 * d.p1.toNat; let off := signed 64 v; let rel := d.target.toNat = 1; firstFail [(1 < d.target.toNat, st.targetRange, 0), (d.len ≠ 0, st.lenRange, 0), (v % 2 = 1, st.targetRange, 0x10), (a.curtainDown = false, st.stateRefused, 1), (a.follower = true, st.stateRefused, 2), (¬rel ∧ a.discState = 2, st.stateRefused, 3), (rel ∧ a.discState = 2 ∧ off % second ≠ 0, st.stateRefused, 4), (rel ∧ ((a.datum : Int) + off < 0 ∨ 2 ^ 64 ≤ (a.datum : Int) + off), st.targetRange, 0x20)] = some (status, detail) ∧ detail = 2) ∧
    (∃ (s : State) (t : Nat) (d : Desc) (status : Nat) (detail : Nat), let a := s.advance t; let v := d.p0.toNat + 2 ^ 32 * d.p1.toNat; let off := signed 64 v; let rel := d.target.toNat = 1; firstFail [(1 < d.target.toNat, st.targetRange, 0), (d.len ≠ 0, st.lenRange, 0), (v % 2 = 1, st.targetRange, 0x10), (a.curtainDown = false, st.stateRefused, 1), (a.follower = true, st.stateRefused, 2), (¬rel ∧ a.discState = 2, st.stateRefused, 3), (rel ∧ a.discState = 2 ∧ off % second ≠ 0, st.stateRefused, 4), (rel ∧ ((a.datum : Int) + off < 0 ∨ 2 ^ 64 ≤ (a.datum : Int) + off), st.targetRange, 0x20)] = some (status, detail) ∧ detail = 3) ∧
    (∃ (s : State) (t : Nat) (d : Desc) (status : Nat) (detail : Nat), let a := s.advance t; let v := d.p0.toNat + 2 ^ 32 * d.p1.toNat; let off := signed 64 v; let rel := d.target.toNat = 1; firstFail [(1 < d.target.toNat, st.targetRange, 0), (d.len ≠ 0, st.lenRange, 0), (v % 2 = 1, st.targetRange, 0x10), (a.curtainDown = false, st.stateRefused, 1), (a.follower = true, st.stateRefused, 2), (¬rel ∧ a.discState = 2, st.stateRefused, 3), (rel ∧ a.discState = 2 ∧ off % second ≠ 0, st.stateRefused, 4), (rel ∧ ((a.datum : Int) + off < 0 ∨ 2 ^ 64 ≤ (a.datum : Int) + off), st.targetRange, 0x20)] = some (status, detail) ∧ detail = 4) :=
  ⟨⟨given [(F.CURTAIN_STATUS_STATE, 3)], 0, { opc := 9, p0 := 1000000000 }, st.stateRefused, 1, by decide +kernel⟩,
   ⟨given [(F.DATUM_MER_CTRL_ROLE, 1)], 0, { opc := 9, p0 := 1000000000 }, st.stateRefused, 2, by decide +kernel⟩,
   ⟨given [(F.DATUM_STATUS_DISC, 2)], 0, { opc := 9, p0 := 1000000000 }, st.stateRefused, 3, by decide +kernel⟩,
   ⟨given [(F.DATUM_STATUS_DISC, 2)], 0, { opc := 9, target := 1, p0 := 2 }, st.stateRefused, 4, by decide +kernel⟩⟩

theorem meets_RoleChangeNeedsTheCurtainDown :
    (∃ (s : State) (t : Nat), let a := s.advance t; a.tableau = false ∧ a.curtainDown = true) ∧
    (∃ (s : State) (t : Nat) (data : Word), let a := s.advance t; a.tableau = false ∧ a.curtainDown = false ∧ (bitsOf data.toNat 1 1 ≠ a.get F.DATUM_MER_CTRL_ROLE ∨ bitsOf data.toNat 16 16 ≠ a.get F.DATUM_MER_CTRL_ADDR)) ∧
    (∃ (s : State) (t : Nat) (data : Word), let a := s.advance t; a.tableau = false ∧ a.curtainDown = false ∧ (bitsOf data.toNat 1 1 ≠ a.get F.DATUM_MER_CTRL_ROLE ∨ bitsOf data.toNat 16 16 ≠ a.get F.DATUM_MER_CTRL_ADDR) ∧ data = 0x00050001#32) :=
  ⟨⟨given [(F.CURTAIN_STATUS_STATE, 1), (F.DATUM_STATUS_DISC, 2)], 0, by decide +kernel⟩,
   ⟨given [(F.CURTAIN_STATUS_STATE, 2)], 0, 0x00000003#32, by decide +kernel⟩,
   ⟨given [(F.CURTAIN_STATUS_STATE, 3)], 0, 0x00050001#32, by decide +kernel⟩⟩

theorem meets_MeridianSlotsAndMessages :
    (∃ (s : State) (t : Nat), let a := s.advance t; a.bit F.DATUM_MER_CTRL_ENABLE = true ∧ a.atSlot = true) ∧
    (∃ (s : State) (t : Nat), let a := s.advance t; (a.bit F.DATUM_MER_CTRL_ENABLE = false ∨ a.atSlot = false) ∧ a.bit F.DATUM_MER_CTRL_ENABLE = false) ∧
    (∃ (s : State) (t : Nat), let a := s.advance t; (a.bit F.DATUM_MER_CTRL_ENABLE = false ∨ a.atSlot = false) ∧ a.atSlot = false) ∧
    (∃ (s : State) (t : Nat) (fields : List Byte) (crc : Word), let a := s.advance t; let x := readSlot fields; crc32 fields = crc ∧ x.mlen ≤ 40 ∧ (x.level ≤ 8 ∨ x.level = 0xFF ∧ a.follower = false) ∧ x.tTx % 8000 = 0 ∧ x.slotNum = x.tTx / 8000 % 65536) ∧
    (∃ (s : State) (t : Nat) (fields : List Byte) (crc : Word), let a := s.advance t; let x := readSlot fields; crc32 fields = crc ∧ x.mlen ≤ 40 ∧ (x.level ≤ 8 ∨ x.level = 0xFF ∧ a.follower = false) ∧ x.tTx % 8000 = 0 ∧ x.slotNum = x.tTx / 8000 % 65536 ∧ (x.level = 0xFF ∧ a.slotFollows = true ∧ a.mer.run = 7)) ∧
    (∃ (s : State) (t : Nat) (fields : List Byte) (crc : Word), let a := s.advance t; let x := readSlot fields; (¬(crc32 fields = crc ∧ x.mlen ≤ 40 ∧ (x.level ≤ 8 ∨ x.level = 0xFF ∧ a.follower = false) ∧ x.tTx % 8000 = 0 ∧ x.slotNum = x.tTx / 8000 % 65536)) ∧ crc32 fields ≠ crc) :=
  ⟨⟨{ given [(F.DATUM_MER_CTRL_ENABLE, 1)] with datum := 24001 }, 0, by decide +kernel⟩,
   ⟨{ given [(F.DATUM_MER_CTRL_ENABLE, 0)] with datum := 24000 }, 0, by decide +kernel⟩,
   ⟨{ given [(F.DATUM_MER_CTRL_ENABLE, 1)] with datum := 24040 }, 0, by decide +kernel⟩,
   ⟨given [], 0, slotChars { slotNum := 3, src := 1, level := 8, disc := 0, follower := false, echoValid := false, tTx := 24000, tEcho := 0, echoSlot := 0, mtype := 0, mlen := 40, dest := 0, seq := 0, broadcast := false, payload := List.replicate 40 0 }, crc32 (slotChars { slotNum := 3, src := 1, level := 8, disc := 0, follower := false, echoValid := false, tTx := 24000, tEcho := 0, echoSlot := 0, mtype := 0, mlen := 40, dest := 0, seq := 0, broadcast := false, payload := List.replicate 40 0 }), by decide +kernel⟩,
   ⟨{ given [] with elapsed := 11999, mer := { lastValid := some 0, run := 7 } }, 0, slotChars { slotNum := 3, src := 1, level := 0xFF, disc := 0, follower := false, echoValid := false, tTx := 24000, tEcho := 0, echoSlot := 0, mtype := 0, mlen := 40, dest := 0, seq := 0, broadcast := false, payload := List.replicate 40 0 }, crc32 (slotChars { slotNum := 3, src := 1, level := 0xFF, disc := 0, follower := false, echoValid := false, tTx := 24000, tEcho := 0, echoSlot := 0, mtype := 0, mlen := 40, dest := 0, seq := 0, broadcast := false, payload := List.replicate 40 0 }), by decide +kernel⟩,
   ⟨given [], 0, slotChars { slotNum := 3, src := 1, level := 8, disc := 0, follower := false, echoValid := false, tTx := 24000, tEcho := 0, echoSlot := 0, mtype := 0, mlen := 40, dest := 0, seq := 0, broadcast := false, payload := List.replicate 40 0 }, 1#32, by decide +kernel⟩⟩

theorem meets_MeridianSlotsAndMessages_2 :
    (∃ (s : State) (t : Nat) (fields : List Byte) (crc : Word), let a := s.advance t; let x := readSlot fields; (¬(crc32 fields = crc ∧ x.mlen ≤ 40 ∧ (x.level ≤ 8 ∨ x.level = 0xFF ∧ a.follower = false) ∧ x.tTx % 8000 = 0 ∧ x.slotNum = x.tTx / 8000 % 65536)) ∧ (x.level = 9 ∧ crc32 fields = crc)) ∧
    (∃ (s : State) (t : Nat), let a := s.advance t; a.bit F.DATUM_MER_STATUS_LINK_UP = true ∧ a.due a.mer.lastValid 128000 = true ∧ a.follower = false) ∧
    (∃ (s : State) (t : Nat), let a := s.advance t; let v := if a.follower = true ∧ a.discState = 2 then 3 else if a.follower = true ∧ a.discState = 1 then (if a.disc.holdover.isSome then 3 else 0) else a.discState; a.bit F.DATUM_MER_STATUS_LINK_UP = true ∧ a.due a.mer.lastValid 128000 = true ∧ (v = 3 ∧ a.discState = 2)) ∧
    (∃ (s : State) (t : Nat) (d : Desc), let a := s.advance t; 1 ≤ d.len.toNat ∧ d.len.toNat ≤ 40 ∧ d.p1 = 0 ∧ 0x80 ≤ bitsOf d.p0.toNat 0 8 ∧ d.p0.toNat < 512 ∧ a.bit F.DATUM_MER_STATUS_LINK_UP = true ∧ a.awaitingAck < 8) ∧
    (∃ (s : State) (t : Nat) (d : Desc) (status : Nat) (detail : Nat), let a := s.advance t; firstFail [(d.len = 0 ∨ 40 < d.len.toNat, st.lenRange, 0), (d.p1 ≠ 0 ∨ bitsOf d.p0.toNat 0 8 < 0x80 ∨ 512 ≤ d.p0.toNat, st.targetRange, 0x10), (a.bit F.DATUM_MER_STATUS_LINK_UP = false, st.stateRefused, 1), (8 ≤ a.awaitingAck, st.stateRefused, 2)] = some (status, detail) ∧ detail = 0) ∧
    (∃ (s : State) (t : Nat) (d : Desc) (status : Nat) (detail : Nat), let a := s.advance t; firstFail [(d.len = 0 ∨ 40 < d.len.toNat, st.lenRange, 0), (d.p1 ≠ 0 ∨ bitsOf d.p0.toNat 0 8 < 0x80 ∨ 512 ≤ d.p0.toNat, st.targetRange, 0x10), (a.bit F.DATUM_MER_STATUS_LINK_UP = false, st.stateRefused, 1), (8 ≤ a.awaitingAck, st.stateRefused, 2)] = some (status, detail) ∧ detail = 0x10) :=
  ⟨⟨given [], 0, slotChars { slotNum := 3, src := 1, level := 9, disc := 0, follower := false, echoValid := false, tTx := 24000, tEcho := 0, echoSlot := 0, mtype := 0, mlen := 40, dest := 0, seq := 0, broadcast := false, payload := List.replicate 40 0 }, crc32 (slotChars { slotNum := 3, src := 1, level := 9, disc := 0, follower := false, echoValid := false, tTx := 24000, tEcho := 0, echoSlot := 0, mtype := 0, mlen := 40, dest := 0, seq := 0, broadcast := false, payload := List.replicate 40 0 }), by decide +kernel⟩,
   ⟨{ given [(F.DATUM_MER_STATUS_LINK_UP, 1)] with elapsed := 128000, mer := { lastValid := some 0 } }, 0, by decide +kernel⟩,
   ⟨{ given [(F.DATUM_MER_STATUS_LINK_UP, 1), (F.DATUM_MER_CTRL_ROLE, 1), (F.DATUM_STATUS_DISC, 2)] with elapsed := 128000, mer := { lastValid := some 0, outstanding := [{ desc := { opc := 12, target := 7, len := 1, p0 := 0x80 }, dest := 7, mtype := 0x80, seq := 5, broadcast := false, payload := [1], sentAt := some 0, retry := false, failed := false }] } }, 0, by decide +kernel⟩,
   ⟨{ given [(F.DATUM_MER_STATUS_LINK_UP, 1)] with mer := { nextSeq := 65535 } }, 0, { opc := 12, target := 7, len := 40, p0 := 0x1FF }, by decide +kernel⟩,
   ⟨given [], 0, { opc := 12, target := 7, len := 41, p0 := 0x80 }, st.lenRange, 0, by decide +kernel⟩,
   ⟨given [], 0, { opc := 12, target := 7, len := 40, p0 := 0x7F }, st.targetRange, 0x10, by decide +kernel⟩⟩

theorem meets_MeridianSlotsAndMessages_3 :
    (∃ (s : State) (t : Nat) (d : Desc) (status : Nat) (detail : Nat), let a := s.advance t; firstFail [(d.len = 0 ∨ 40 < d.len.toNat, st.lenRange, 0), (d.p1 ≠ 0 ∨ bitsOf d.p0.toNat 0 8 < 0x80 ∨ 512 ≤ d.p0.toNat, st.targetRange, 0x10), (a.bit F.DATUM_MER_STATUS_LINK_UP = false, st.stateRefused, 1), (8 ≤ a.awaitingAck, st.stateRefused, 2)] = some (status, detail) ∧ detail = 1) ∧
    (∃ (s : State) (t : Nat) (d : Desc) (status : Nat) (detail : Nat), let a := s.advance t; firstFail [(d.len = 0 ∨ 40 < d.len.toNat, st.lenRange, 0), (d.p1 ≠ 0 ∨ bitsOf d.p0.toNat 0 8 < 0x80 ∨ 512 ≤ d.p0.toNat, st.targetRange, 0x10), (a.bit F.DATUM_MER_STATUS_LINK_UP = false, st.stateRefused, 1), (8 ≤ a.awaitingAck, st.stateRefused, 2)] = some (status, detail) ∧ detail = 2) ∧
    (∃ (s : State) (t : Nat) (seq : Nat) (n : Nat) (m : MerMsg), let a := s.advance t; a.mer.outstanding.find? (fun m => m.seq == seq && m.sentAt.isSome) = some m ∧ m.sentAt = some n ∧ n + a.get F.DATUM_MER_ACK_TO_SLOTS * 8000 ≤ a.elapsed) ∧
    (∃ (s : State) (t : Nat) (seq : Nat) (n : Nat) (m : MerMsg), let a := s.advance t; a.mer.outstanding.find? (fun m => m.seq == seq && m.sentAt.isSome) = some m ∧ m.sentAt = some n ∧ n + a.get F.DATUM_MER_ACK_TO_SLOTS * 8000 ≤ a.elapsed ∧ m = { desc := { opc := 12, target := 7, len := 1, p0 := 0x80 }, dest := 7, mtype := 0x80, seq := 5, broadcast := false, payload := [1], sentAt := some 0, retry := false, failed := false }) :=
  ⟨⟨given [], 0, { opc := 12, target := 7, len := 1, p0 := 0x80 }, st.stateRefused, 1, by decide +kernel⟩,
   ⟨{ given [(F.DATUM_MER_STATUS_LINK_UP, 1)] with mer := { outstanding := List.replicate 8 ({ desc := { opc := 12, target := 7, len := 1, p0 := 0x80 }, dest := 7, mtype := 0x80, seq := 5, broadcast := false, payload := [1], sentAt := some 0, retry := false, failed := false }) } }, 0, { opc := 12, target := 7, len := 1, p0 := 0x80 }, st.stateRefused, 2, by decide +kernel⟩,
   ⟨{ given [] with elapsed := second, mer := { outstanding := [{ desc := { opc := 12, target := 7, len := 1, p0 := 0x80 }, dest := 7, mtype := 0x80, seq := 5, broadcast := false, payload := [1], sentAt := some 0, retry := true, failed := false }] } }, 0, 5, 0, { desc := { opc := 12, target := 7, len := 1, p0 := 0x80 }, dest := 7, mtype := 0x80, seq := 5, broadcast := false, payload := [1], sentAt := some 0, retry := true, failed := false }, by decide +kernel⟩,
   ⟨{ given [] with elapsed := second, mer := { outstanding := [{ desc := { opc := 12, target := 7, len := 1, p0 := 0x80 }, dest := 7, mtype := 0x80, seq := 5, broadcast := false, payload := [1], sentAt := some 0, retry := false, failed := false }] } }, 0, 5, 0, { desc := { opc := 12, target := 7, len := 1, p0 := 0x80 }, dest := 7, mtype := 0x80, seq := 5, broadcast := false, payload := [1], sentAt := some 0, retry := false, failed := false }, by decide +kernel⟩⟩

theorem meets_EvioAndReceiveBox :
    (∃ (s : State) (t : Nat) (pin : Fin 4), let a := s.advance t; a.evioFunc pin = 2 ∧ a.datum % second = 0 ∧ (a.bit F.DATUM_PPS_OUT_QUAL = false ∨ 2 ≤ a.discState)) ∧
    (∃ (s : State) (t : Nat) (pin : Fin 4), let a := s.advance t; a.evioFunc pin = 2 ∧ a.datum % second = 0 ∧ (a.bit F.DATUM_PPS_OUT_QUAL = false ∨ 2 ≤ a.discState) ∧ pin = 3) ∧
    (∃ (s : State) (t : Nat) (pin : Fin 4) (e : Nat), let a := s.advance t; Sparse.get (fun _ => none) a.router.ppsEnd pin = some e ∧ e ≤ a.elapsed ∧ a.tableau = false) ∧
    (∃ (s : State) (t : Nat) (pin : Fin 4), let a := s.advance t; let last := Sparse.get (fun _ => none) a.router.evioEdge pin; a.evioFunc pin = 3 ∧ (last = some 0 ∧ a.elapsed = 1000)) ∧
    (∃ (s : State) (t : Nat) (pin : Fin 4), let a := s.advance t; let last := Sparse.get (fun _ => none) a.router.evioEdge pin; a.evioFunc pin = 3 ∧ (last = some 0 ∧ a.elapsed = 998)) ∧
    (∃ (s : State) (t : Nat), let a := s.advance t; a.tableau = false) :=
  ⟨⟨{ given [(F.DATUM_EVIO_FUNC_FUNC0, 2), (F.DATUM_STATUS_DISC, 2)] with datum := second }, 0, 0, by decide +kernel⟩,
   ⟨{ given [(F.DATUM_EVIO_FUNC_FUNC3, 2), (F.DATUM_PPS_OUT_QUAL, 0)] with datum := second }, 0, 3, by decide +kernel⟩,
   ⟨{ given [] with elapsed := 500, router := { ppsEnd := [(2, some 500)], evioPin := [(2, .high)] } }, 0, 2, 500, by decide +kernel⟩,
   ⟨{ given [(F.DATUM_EVIO_FUNC_FUNC1, 3)] with elapsed := 1000, router := { evioEdge := [(1, some 0)] } }, 0, 1, by decide +kernel⟩,
   ⟨{ given [(F.DATUM_EVIO_FUNC_FUNC1, 3)] with elapsed := 998, router := { evioEdge := [(1, some 0)] } }, 0, 1, by decide +kernel⟩,
   ⟨given [(F.DATUM_MER_RXBOX_CTRL_FULL, 0xFF)], 0, by decide +kernel⟩⟩

theorem meets_ScheduledSamplesAndResults :
    (∃ (s : State) (t : Nat) (part : Fin 16), let a := s.advance t; let g := part.val / 4; let i := 5 * g + a.partSlice g (part.val % 4); let u := 5 * g + a.usSlice g; let us1 := a.usState g = us.overlap ∧ (a.hand g).part = part.val % 4 ∧ (a.hand g).urgent = none ∧ a.heldLately u = false; a.sampleDue part = true ∧ (¬(a.usState g = us.swap ∧ (a.hand g).part = part.val % 4)) ∧ a.heldLately i = false ∧ i ≠ u ∧ us1) ∧
    (∃ (s : State) (t : Nat) (part : Fin 16), let a := s.advance t; let g := part.val / 4; let i := 5 * g + a.partSlice g (part.val % 4); let u := 5 * g + a.usSlice g; let us1 := a.usState g = us.overlap ∧ (a.hand g).part = part.val % 4 ∧ (a.hand g).urgent = none ∧ a.heldLately u = false; a.sampleDue part = true ∧ (¬(a.usState g = us.swap ∧ (a.hand g).part = part.val % 4)) ∧ a.heldLately i = false ∧ i ≠ u ∧ (¬us1)) ∧
    (∃ (s : State) (t : Nat) (part : Fin 16), let a := s.advance t; let g := part.val / 4; let u := 5 * g + a.usSlice g; let h := a.hand g; a.sampleDue part = true ∧ a.usState g = us.swap ∧ h.part = part.val % 4 ∧ h.urgent = none ∧ a.heldLately u = false ∧ h.swapping = false) ∧
    (∃ (s : State) (t : Nat) (part : Fin 16), let a := s.advance t; let g := part.val / 4; let u := 5 * g + a.usSlice g; let h := a.hand g; a.sampleDue part = true ∧ a.usState g = us.swap ∧ h.part = part.val % 4 ∧ h.urgent = none ∧ a.heldLately u = false ∧ h.swapping = true) ∧
    (∃ (s : State) (t : Nat) (part : Fin 16), let a := s.advance t; a.sampleDue part = false) ∧
    (∃ (s : State) (t : Nat) (slice : Fin 20) (c : Conversion), let a := s.advance t; a.awaited slice = some c ∧ a.bit F.CLOCK_STATUS_CONV_STOP = false ∧ a.elapsed ≤ c.heldAt + 1500 ∧ (c.input = 12 ∧ c.part = some 12 ∧ c.use = .deliver ∧ a.tableau = false ∧ (Sparse.get (fun _ => ({} : InputLast)) a.conv.inputs 12).at_ = none)) :=
  ⟨⟨{ ((given [(F.CONV_CTRL_RUN, 1), (F.CONV_MAP_US_STATE 0, 2)]).setReg (Reg.CONV_SLOT 1) 0x80FA0001#32) with disc := { running := true }, power := { startDue := false, stageByp := false }, datum := 2500, conv := { hands := [(0, { part := 1 })] } }, 0, 1, by decide +kernel⟩,
   ⟨{ ((given [(F.CONV_CTRL_RUN, 1), (F.CONV_MAP_US_STATE 3, 2)]).setReg (Reg.CONV_SLOT 15) 0x81F30001#32) with disc := { running := true }, power := { startDue := false, stageByp := false }, datum := 2998 }, 0, 15, by decide +kernel⟩,
   ⟨{ ((given [(F.CONV_CTRL_RUN, 1), (F.CONV_MAP_US_STATE 0, 3)]).setReg (Reg.CONV_SLOT 1) 0x80FA0001#32) with disc := { running := true }, power := { startDue := false, stageByp := false }, datum := 2500, conv := { hands := [(0, { part := 1, swapping := false })] } }, 0, 1, by decide +kernel⟩,
   ⟨{ ((given [(F.CONV_CTRL_RUN, 1), (F.CONV_MAP_US_STATE 0, 3)]).setReg (Reg.CONV_SLOT 1) 0x80FA0001#32) with disc := { running := true }, power := { startDue := false, stageByp := false }, datum := 2500, conv := { hands := [(0, { part := 1, swapping := true })] } }, 0, 1, by decide +kernel⟩,
   ⟨{ ((given [(F.CONV_CTRL_RUN, 1)]).setReg (Reg.CONV_SLOT 1) 0x80FA0001#32) with disc := { running := true }, power := { startDue := false, stageByp := false }, datum := 2502 }, 0, 1, by decide +kernel⟩,
   ⟨{ given [] with elapsed := 1500, conv := { inflight := [({ slice := 15, part := some 12, input := 12, stamp := 0, heldAt := 0, refBad := false, stale := false, use := .deliver } : Conversion)] } }, 0, 15, ({ slice := 15, part := some 12, input := 12, stamp := 0, heldAt := 0, refBad := false, stale := false, use := .deliver } : Conversion), by decide +kernel⟩⟩

theorem meets_ScheduledSamplesAndResults_2 :
    ∃ (s : State) (t : Nat) (slice : Fin 20) (c : Conversion), let a := s.advance t; a.awaited slice = some c ∧ c.heldAt + 1500 ≤ a.elapsed ∧ (c.input = 12 ∧ c.part = some 12 ∧ c.use = .deliver ∧ a.tableau = false) :=
  ⟨{ given [] with elapsed := 1500, conv := { inflight := [({ slice := 15, part := some 12, input := 12, stamp := 0, heldAt := 0, refBad := false, stale := false, use := .deliver } : Conversion)] }, pump := { missI := 15 } }, 0, 15, ({ slice := 15, part := some 12, input := 12, stamp := 0, heldAt := 0, refBad := false, stale := false, use := .deliver } : Conversion), by decide +kernel⟩

theorem meets_HandoversAndTheirFailures :
    (∃ (s : State) (t : Nat) (g : Fin 4), let a := s.advance t; (a.hand g).endAt + a.get F.CONV_HAND_INTERVAL * second ≤ a.elapsed ∧ a.bit F.CONV_CTRL_HAND_EN = true ∧ a.bit F.SCRUB_STATUS_DEFERRED = false ∧ a.tableau = false ∧ a.usState g = us.idle ∧ a.usSlice g < 5) ∧
    (∃ (s : State) (t : Nat) (g : Fin 4) (fit : LadderFit), let a := s.advance t; a.usState g = us.cal ∧ (a.hand g).urgent = none ∧ a.ladderEnd g ≤ a.elapsed ∧ residual16 fit.sums ≤ 16 * a.get F.CONV_HAND_CAL_LIM) ∧
    (∃ (s : State) (t : Nat) (g : Fin 4), let a := s.advance t; a.usState g = us.overlap ∧ a.overlapNeed ≤ (a.hand g).pairs ∧ |(a.hand g).sum| ≤ a.get F.CONV_HAND_MEAN_LIM * ((a.hand g).pairs : Int) ∧ (a.hand g).peak ≤ 4 * a.get F.CONV_HAND_PEAK_LIM) ∧
    (∃ (s : State) (t : Nat) (g : Fin 4), let a := s.advance t; a.usState g = us.swap ∧ (a.hand g).swapDone = true ∧ (a.hand g).part < 4) ∧
    (∃ (s : State) (t : Nat) (g : Fin 4) (fit : LadderFit), let a := s.advance t; a.usState g = us.cal ∧ (a.hand g).urgent = none ∧ a.ladderEnd g ≤ a.elapsed ∧ 16 * a.get F.CONV_HAND_CAL_LIM < residual16 fit.sums ∧ (a.hand g).failed = true) ∧
    (∃ (s : State) (t : Nat) (g : Fin 4), let a := s.advance t; a.usState g = us.overlap ∧ (a.hand g).pairs < a.overlapNeed ∧ (a.hand g).urgent = none ∧ (a.hand g).start + (a.hand g).suspended + 64 * a.overlapNeed * 1000 ≤ a.elapsed ∧ (a.hand g).failed = true) :=
  ⟨⟨{ given [(F.CONV_CTRL_HAND_EN, 1)] with elapsed := second * 60, datum := 1 }, 0, 3, by decide +kernel⟩,
   ⟨{ given [(F.CONV_MAP_US_STATE 0, 1), (F.CONV_HAND_CAL_LIM, 16)] with elapsed := 1024064 }, 0, 0, ⟨[7], (List.range 64).map fun j => 16 * ((2 * (j : Int) + 1) * 512 - 32768) + 256⟩, by decide +kernel⟩,
   ⟨{ given [(F.CONV_MAP_US_STATE 1, 2)] with conv := { hands := [(1, { pairs := 256, sum := -2048, peak := 64 })] } }, 0, 1, by decide +kernel⟩,
   ⟨{ given [(F.CONV_MAP_US_STATE 2, 3)] with conv := { hands := [(2, { part := 3, swapDone := true, failed := true })] } }, 0, 2, by decide +kernel⟩,
   ⟨{ given [(F.CONV_MAP_US_STATE 0, 1), (F.CONV_HAND_CAL_LIM, 16)] with elapsed := 1026064, conv := { hands := [(0, { failed := true, lost := 2 })] } }, 0, 0, ⟨[7], (List.range 64).map fun j => 16 * ((2 * (j : Int) + 1) * 512 - 32768) + -257⟩, by decide +kernel⟩,
   ⟨{ given [(F.CONV_MAP_US_STATE 0, 2)] with elapsed := 16385000, conv := { hands := [(0, { pairs := 255, failed := true, suspended := 1000 })] } }, 0, 0, by decide +kernel⟩⟩

theorem meets_HandoversAndTheirFailures_2 :
    (∃ (s : State) (t : Nat) (g : Fin 4) (fit : LadderFit), let a := s.advance t; a.usState g = us.cal ∧ (a.hand g).urgent = none ∧ a.ladderEnd g ≤ a.elapsed ∧ 16 * a.get F.CONV_HAND_CAL_LIM < residual16 fit.sums ∧ (a.hand g).failed = false) ∧
    (∃ (s : State) (t : Nat) (g : Fin 4), let a := s.advance t; a.usState g = us.overlap ∧ (a.hand g).pairs < a.overlapNeed ∧ (a.hand g).urgent = none ∧ (a.hand g).start + (a.hand g).suspended + 64 * a.overlapNeed * 1000 ≤ a.elapsed ∧ (a.hand g).failed = false) ∧
    (∃ (s : State) (t : Nat) (g : Fin 4), let a := s.advance t; a.groupOld g = true ∧ a.ibit F.CONV_STATUS_CAL_STALE g = false) ∧
    (∃ (s : State) (t : Nat) (uv : Nat), let a := s.advance t; (uv < 2475000 ∨ 2525000 < uv) ∧ a.conv.refOut = 2 ∧ a.bit F.CONV_STATUS_REF_FAULT = false ∧ uv = 2474999) ∧
    (∃ (s : State) (t : Nat) (uv : Nat), let a := s.advance t; (uv < 2475000 ∨ 2525000 < uv) ∧ a.conv.refOut = 2 ∧ a.bit F.CONV_STATUS_REF_FAULT = false ∧ uv = 2525001) ∧
    (∃ (s : State) (t : Nat) (uv : Nat), let a := s.advance t; 2475000 ≤ uv ∧ uv ≤ 2525000 ∧ a.conv.refIn = 2 ∧ uv = 2475000) :=
  ⟨⟨{ given [(F.CONV_MAP_US_STATE 0, 1), (F.CONV_HAND_CAL_LIM, 16)] with elapsed := 1026064, conv := { hands := [(0, { failed := false, lost := 2 })] } }, 0, 0, ⟨[7], (List.range 64).map fun j => 16 * ((2 * (j : Int) + 1) * 512 - 32768) + -257⟩, by decide +kernel⟩,
   ⟨{ given [(F.CONV_MAP_US_STATE 0, 2)] with elapsed := 16385000, conv := { hands := [(0, { pairs := 255, failed := false, suspended := 1000 })] } }, 0, 0, by decide +kernel⟩,
   ⟨{ given [(F.CONV_STALE_SECONDS, 3600)] with elapsed := 3600 * second + 2 }, 0, 0, by decide +kernel⟩,
   ⟨{ given [] with conv := { refOut := 2 } }, 0, 2474999, by decide +kernel⟩,
   ⟨{ given [] with conv := { refOut := 2 } }, 0, 2525001, by decide +kernel⟩,
   ⟨{ given [(F.CONV_STATUS_REF_FAULT, 1)] with conv := { refIn := 2 } }, 0, 2475000, by decide +kernel⟩⟩

theorem meets_HandoversAndTheirFailures_3 :
    ∃ (s : State) (t : Nat) (uv : Nat), let a := s.advance t; 2475000 ≤ uv ∧ uv ≤ 2525000 ∧ a.conv.refIn = 2 ∧ uv = 2525000 :=
  ⟨{ given [(F.CONV_STATUS_REF_FAULT, 1)] with conv := { refIn := 2 } }, 0, 2525000, by decide +kernel⟩

theorem meets_UrgentSlotAndReadmitWrites :
    (∃ (s : State) (t : Nat) (data : Word) (k : Fin 4), let a := s.advance t; let n := bitsOf data.toNat 0 4; let gk := fun (j : Nat) => (a.servingGroup n + j) % 4; let g := gk k; a.tableau = false ∧ data.getLsbD 8 = true ∧ (∀ j < k.val, a.usState (gk j) = us.swap ∨ 4 < a.usSlice (gk j)) ∧ a.usState g ≠ us.swap ∧ a.usSlice g ≤ 4 ∧ (a.hand g).urgent = none) ∧
    (∃ (s : State) (t : Nat) (data : Word) (k : Fin 4), let a := s.advance t; let n := bitsOf data.toNat 0 4; let gk := fun (j : Nat) => (a.servingGroup n + j) % 4; let g := gk k; a.tableau = false ∧ data.getLsbD 8 = true ∧ (∀ j < k.val, a.usState (gk j) = us.swap ∨ 4 < a.usSlice (gk j)) ∧ a.usState g ≠ us.swap ∧ a.usSlice g ≤ 4 ∧ (a.hand g).urgent = none ∧ k = 2) ∧
    (∃ (s : State) (t : Nat) (data : Word) (x : Nat × Nat), let a := s.advance t; let g := a.servingGroup (bitsOf data.toNat 0 4); a.tableau = false ∧ data.getLsbD 8 = true ∧ a.usState g ≠ us.swap ∧ a.usSlice g ≤ 4 ∧ (a.hand g).urgent = some x ∧ x.1 < a.elapsed) ∧
    (∃ (s : State) (t : Nat) (data : Word), let a := s.advance t; a.tableau = false ∧ a.curtainDown = true ∧ bitsOf data.toNat 16 9 ≤ 499) ∧
    (∃ (s : State) (t : Nat) (part : Fin 16) (data : Word), let a := s.advance t; a.tableau = false ∧ a.curtainDown = true ∧ bitsOf data.toNat 16 9 ≤ 499 ∧ part = 15) ∧
    (∃ (s : State) (t : Nat), let a := s.advance t; a.tableau = false ∧ a.curtainDown = false) :=
  ⟨⟨given [], 0, 0x106#32, 0, by decide +kernel⟩,
   ⟨given [(F.CONV_MAP_US_STATE 0, 3), (F.CONV_MAP_US_SLICE 1, 7)], 0, 0x106#32, 2, by decide +kernel⟩,
   ⟨{ given [] with elapsed := 2, conv := { hands := [(0, { urgent := some (0, 32) })] } }, 0, 0x106#32, (0, 32), by decide +kernel⟩,
   ⟨given [(F.CONV_MAP_US_STATE 0, 1)], 0, 0x81F30006#32, by decide +kernel⟩,
   ⟨given [(F.CONV_MAP_US_STATE 3, 2)], 0, 15, 0#32, by decide +kernel⟩,
   ⟨given [(F.CURTAIN_STATUS_STATE, 4)], 0, by decide +kernel⟩⟩

theorem meets_UrgentSlotAndReadmitWrites_2 :
    (∃ (s : State) (t : Nat) (data : Word) (g : Fin 4) (i : Fin 5), let a := s.advance t; a.tableau = false ∧ a.curtainDown = true ∧ bitsOf data.toNat 8 4 = 2 ^ g.val ∧ a.get (F.CONV_MAP_OUT g) = 2 ^ i.val) ∧
    (∃ (s : State) (t : Nat) (data : Word) (g : Fin 4), let a := s.advance t; a.tableau = false ∧ a.curtainDown = true ∧ bitsOf data.toNat 8 4 = 2 ^ g.val ∧ a.get (F.CONV_MAP_OUT g) = 0) :=
  ⟨⟨given [(F.CONV_MAP_OUT 2, 16), (F.CONV_MAP_US_STATE 2, 4), (F.CONV_MAP_US_SLICE 2, 7), (F.CONV_STATUS_NO_US, 4)], 0, 0x403#32, 2, 4, by decide +kernel⟩,
   ⟨given [], 0, 0x803#32, 3, by decide +kernel⟩⟩

theorem meets_ComparatorsAndTheirSelfTest :
    (∃ (s : State) (t : Nat) (e : CompEdge) (delay : Nat), let a := s.advance t; let x := a.compCfg e.k; compEnable x = true ∧ a.ibit F.COMP_STATE_TRIPPED e.k = false ∧ a.compTesting e.k = false ∧ a.compHeld e.k = false ∧ tripDelay (compFilt x) e.window = some delay) ∧
    (∃ (s : State) (t : Nat) (e : CompEdge) (delay : Nat), let a := s.advance t; let x := a.compCfg e.k; compEnable x = true ∧ a.ibit F.COMP_STATE_TRIPPED e.k = false ∧ a.compTesting e.k = false ∧ a.compHeld e.k = false ∧ tripDelay (compFilt x) e.window = some delay ∧ delay = 12) ∧
    (∃ (s : State) (t : Nat) (k : Fin 32), let a := s.advance t; a.compHeld k = false) ∧
    (∃ (s : State) (t : Nat) (k : Fin 32), let a := s.advance t; a.compHeld k = true) ∧
    (∃ (s : State) (t : Nat) (k : Fin 32) (data : Word), let a := s.advance t; a.tableau = false ∧ bitsOf data.toNat 28 2 ≤ 2 ∧ (a.curtainDown = true ∨ routesOf (a.reg (Reg.COMP_CFG k)).toNat = 0)) ∧
    (∃ (s : State) (t : Nat) (k : Fin 32) (data : Word), let a := s.advance t; a.tableau = false ∧ bitsOf data.toNat 28 2 ≤ 2 ∧ (a.curtainDown = true ∨ routesOf (a.reg (Reg.COMP_CFG k)).toNat = 0) ∧ a.curtainDown = false) :=
  ⟨⟨{ given [(F.COMP_CFG_ENABLE 31, 1)] with datum := 1000 }, 0, ⟨31, 0x3⟩, 6, by decide +kernel⟩,
   ⟨{ given [(F.COMP_CFG_ENABLE 0, 1), (F.COMP_CFG_FILT 0, 1)] with datum := 1000 }, 0, ⟨0, 0x15⟩, 12, by decide +kernel⟩,
   ⟨given [(F.COMP_STATE_TRIPPED, 0x80000001)], 0, 31, by decide +kernel⟩,
   ⟨{ given [(F.COMP_STATE_TRIPPED, 0x80000001)] with conv := { compFill := [(31, some 0)] } }, 0, 31, by decide +kernel⟩,
   ⟨given [(F.COMP_STATE_TRIPPED, 1)], 0, 0, 0x20000000#32, by decide +kernel⟩,
   ⟨given [(F.CURTAIN_STATUS_STATE, 3), (F.COMP_STATE_TRIPPED, 1)], 0, 0, 0x20000000#32, by decide +kernel⟩⟩

theorem meets_ComparatorsAndTheirSelfTest_2 :
    (∃ (s : State) (t : Nat) (k : Fin 32) (data : Word), let a := s.advance t; let old := (a.reg (Reg.COMP_CFG k)).toNat; a.tableau = false ∧ a.curtainDown = false ∧ routesOf old ≠ 0 ∧ (coreOf old ≠ coreOf data.toNat ∨ ∃ i < 5, (bitsOf old 23 5).testBit i = true ∧ (bitsOf data.toNat 23 5).testBit i = false) ∧ a.bit (F.COMP_CFG_GATE k) = true) ∧
    (∃ (s : State) (t : Nat) (k : Fin 32) (data : Word), let a := s.advance t; let old := (a.reg (Reg.COMP_CFG k)).toNat; a.tableau = false ∧ a.curtainDown = false ∧ routesOf old ≠ 0 ∧ (coreOf old ≠ coreOf data.toNat ∨ ∃ i < 5, (bitsOf old 23 5).testBit i = true ∧ (bitsOf data.toNat 23 5).testBit i = false) ∧ a.bit (F.COMP_CFG_HALT k) = true) ∧
    (∃ (s : State) (t : Nat) (k : Fin 32) (data : Word), let a := s.advance t; let old := (a.reg (Reg.COMP_CFG k)).toNat; a.tableau = false ∧ a.curtainDown = false ∧ routesOf old ≠ 0 ∧ (coreOf old ≠ coreOf data.toNat ∨ ∃ i < 5, (bitsOf old 23 5).testBit i = true ∧ (bitsOf data.toNat 23 5).testBit i = false) ∧ a.bit (F.COMP_CFG_CURTAIN k) = true) ∧
    (∃ (s : State) (t : Nat) (data : Word), let a := s.advance t; data.getLsbD 31 = true ∧ a.testRefused = true) ∧
    (∃ (s : State) (t : Nat) (data : Word), let a := s.advance t; data.getLsbD 31 = true ∧ a.testRefused = false) ∧
    (∃ (s : State) (t : Nat) (x : CompTest), let a := s.advance t; a.conv.test = some x ∧ x.read = none ∧ x.start + 100 ≤ a.elapsed) :=
  ⟨⟨given [(F.CURTAIN_STATUS_STATE, 3), (F.COMP_CFG_GATE 4, 1)], 0, 4, 0x80000000#32, by decide +kernel⟩,
   ⟨given [(F.CURTAIN_STATUS_STATE, 2), (F.COMP_CFG_HALT 4, 1)], 0, 4, 0x80000000#32, by decide +kernel⟩,
   ⟨given [(F.CURTAIN_STATUS_STATE, 4), (F.COMP_CFG_CURTAIN 4, 1)], 0, 4, 0x80000000#32, by decide +kernel⟩,
   ⟨given [(F.COMP_STATUS_TEST_BUSY, 1)], 0, 0x80000000#32, by decide +kernel⟩,
   ⟨given [(F.COMP_TEST_SEL_SEL, 3)], 0, 0x80000001#32, by decide +kernel⟩,
   ⟨{ given [(F.COMP_STATUS_TEST_BUSY, 1)] with elapsed := 100, conv := { test := some ({ sel := 3, mode := 0, before := 1, start := 0, read := none } : CompTest) } }, 0, ({ sel := 3, mode := 0, before := 1, start := 0, read := none } : CompTest), by decide +kernel⟩⟩

theorem meets_ComparatorsAndTheirSelfTest_3 :
    ∃ (s : State) (t : Nat) (x : CompTest) (t0 : Nat), let a := s.advance t; a.conv.test = some x ∧ x.read = some t0 ∧ a.host.tests.comp = none :=
  ⟨{ given [(F.COMP_STATUS_TEST_BUSY, 1)] with elapsed := 200, conv := { test := some ({ sel := 3, mode := 0, before := 1, start := 0, read := some 100 } : CompTest) } }, 0, ({ sel := 3, mode := 0, before := 1, start := 0, read := some 100 } : CompTest), 100, by decide +kernel⟩

theorem meets_FramesAreFrozenAndSent :
    (∃ (s : State) (t : Nat), let a := s.advance t; let k := (a.datum + 40) / a.framePeriod; (a.datum + 40) % a.framePeriod = 0 ∧ a.freezeAllowed k = true ∧ (∀ c ∈ cellIds, a.cState c ≠ cs.leaving)) ∧
    (∃ (s : State) (t : Nat), let a := s.advance t; let k := a.datum / a.framePeriod; let fs := if a.tableau then a.enabledLoops.map (a.holdFrame k) else a.wing.frozen.filter fun f => f.k == k; a.datum % a.framePeriod = 0 ∧ a.startAllowed a.elapsed = true ∧ fs ≠ []) ∧
    (∃ (s : State) (t : Nat), let a := s.advance t; let k := a.datum / a.framePeriod; let fs := if a.tableau then a.enabledLoops.map (a.holdFrame k) else a.wing.frozen.filter fun f => f.k == k; a.datum % a.framePeriod = 0 ∧ a.startAllowed a.elapsed = true ∧ fs ≠ [] ∧ a.tableau = true) :=
  ⟨⟨{ given [(F.WING_CTRL_ENABLE, 5)] with datum := 960 }, 0, by decide +kernel⟩,
   ⟨{ given [(F.WING_CTRL_ENABLE, 1)] with datum := 1000, wing := { frozen := [{ loop := 0, k := 1, fn := 1, base := 0, hold := false, cues := [], orders := [] }], lastStart := some 0 }, elapsed := 1000 }, 0, by decide +kernel⟩,
   ⟨{ given [(F.WING_CTRL_ENABLE, 8), (F.POWER_STATUS_TABLEAU, 1)] with datum := 1000 }, 0, by decide +kernel⟩⟩

theorem meets_ReturnedFramesAndTheirFailures :
    (∃ (s : State) (t : Nat) (n : Fin 4) (r : Returned) (f : Frame) (fs : List Frame), let a := s.advance t; (a.loop n).sent = f :: fs ∧ f.count = false ∧ r.crcOk = true ∧ r.fn = f.fn ∧ r.base = f.base) ∧
    (∃ (s : State) (t : Nat) (n : Fin 4) (r : Returned) (f : Frame) (fs : List Frame), let a := s.advance t; (a.loop n).sent = f :: fs ∧ f.count = false ∧ r.crcOk = true ∧ r.fn = f.fn ∧ r.base = f.base ∧ a.loopTrained n = false ∧ (a.loop n).train = none ∧ (a.loop n).bad = false ∧ (∀ c ∈ a.loopCells n, (a.tx c).orders = [] ∧ slotGood (r.slots.getD (a.cellPos c) 0xFFFFFFFF#32) = false)) ∧
    (∃ (s : State) (t : Nat) (n : Fin 4) (r : Returned) (f : Frame) (fs : List Frame) (x : Train) (c : Nat), let a := s.advance t; (a.loop n).sent = f :: fs ∧ f.count = true ∧ r.count = some c ∧ (a.loop n).train = some x ∧ x.phase = 2 ∧ x.counts.length < 3) ∧
    (∃ (s : State) (t : Nat) (n : Fin 4) (r : Returned) (f : Frame) (fs : List Frame), let a := s.advance t; (a.loop n).sent = f :: fs ∧ f.count = false ∧ (r.crcOk = false ∨ r.fn ≠ f.fn ∨ r.base ≠ f.base) ∧ a.loopJudged n = true ∧ (a.loop n).bad = false) ∧
    (∃ (s : State) (t : Nat) (n : Fin 4) (r : Returned) (f : Frame) (fs : List Frame), let a := s.advance t; (a.loop n).sent = f :: fs ∧ f.count = false ∧ (r.crcOk = false ∨ r.fn ≠ f.fn ∨ r.base ≠ f.base) ∧ a.loopJudged n = true ∧ (a.loop n).bad = false ∧ r.fn = 2) ∧
    (∃ (s : State) (t : Nat) (n : Fin 4) (r : Returned) (f : Frame) (fs : List Frame), let a := s.advance t; (a.loop n).sent = f :: fs ∧ f.count = false ∧ (r.crcOk = false ∨ r.fn ≠ f.fn ∨ r.base ≠ f.base) ∧ a.loopJudged n = true ∧ (a.loop n).bad = true) :=
  ⟨⟨{ given [] with tables := [(tid.roster, { work := [(3, 1)] })], wing := { loops := [(0, { sent := [{ loop := 0, k := 1, fn := 1, base := 0, hold := false, cues := [], orders := [] }], bad := false, lats := List.replicate 64 801 })] } }, 0, 0, { fn := 1, base := 0, crcOk := true, slots := [0x00010400], latency := 800, codeErrs := 2 }, { loop := 0, k := 1, fn := 1, base := 0, hold := false, cues := [], orders := [] }, [], by decide +kernel⟩,
   ⟨{ given [] with tables := [(tid.roster, { work := [(3, 1)] })], wing := { loops := [(0, { sent := [{ loop := 0, k := 1, fn := 1, base := 0, hold := false, cues := [], orders := [] }], bad := false })] } }, 0, 0, { fn := 1, base := 0, crcOk := true, slots := [], latency := 800, codeErrs := 2 }, { loop := 0, k := 1, fn := 1, base := 0, hold := false, cues := [], orders := [] }, [], by decide +kernel⟩,
   ⟨{ given [] with wing := { loops := [(3, { sent := [{ loop := 0, k := 1, fn := 1, base := 0, hold := false, cues := [], orders := [], count := true }], train := some { phase := 2, counts := [5, 5] } })] } }, 0, 3, { fn := 1, base := 0, crcOk := true, slots := [0x00010400], latency := 800, codeErrs := 2, count := some 5 }, { loop := 0, k := 1, fn := 1, base := 0, hold := false, cues := [], orders := [], count := true }, [], { phase := 2, counts := [5, 5] }, 5, by decide +kernel⟩,
   ⟨{ given [(F.WING_STATUS_TRAINED, 1)] with wing := { loops := [(0, { sent := [{ loop := 0, k := 1, fn := 1, base := 0, hold := false, cues := [], orders := [] }], bad := false })] } }, 0, 0, { fn := 1, base := 0, crcOk := false, slots := [0x00010400], latency := 800, codeErrs := 2 }, { loop := 0, k := 1, fn := 1, base := 0, hold := false, cues := [], orders := [] }, [], by decide +kernel⟩,
   ⟨{ given [(F.WING_STATUS_TRAINED, 1)] with wing := { loops := [(0, { sent := [{ loop := 0, k := 1, fn := 1, base := 0, hold := false, cues := [], orders := [] }], bad := false })] } }, 0, 0, { fn := 2, base := 0, crcOk := true, slots := [0x00010400], latency := 800, codeErrs := 2 }, { loop := 0, k := 1, fn := 1, base := 0, hold := false, cues := [], orders := [] }, [], by decide +kernel⟩,
   ⟨{ given [(F.WING_STATUS_TRAINED, 1)] with wing := { loops := [(0, { sent := [{ loop := 0, k := 1, fn := 1, base := 0, hold := false, cues := [], orders := [] }], bad := true })] } }, 0, 0, { fn := 1, base := 0, crcOk := false, slots := [0x00010400], latency := 800, codeErrs := 2 }, { loop := 0, k := 1, fn := 1, base := 0, hold := false, cues := [], orders := [] }, [], by decide +kernel⟩⟩

theorem meets_ReturnedFramesAndTheirFailures_2 :
    (∃ (s : State) (t : Nat) (n : Fin 4) (f : Frame) (fs : List Frame), let a := s.advance t; (a.loop n).sent = f :: fs ∧ f.count = false ∧ a.loopJudged n = true ∧ (a.loop n).bad = false) ∧
    (∃ (s : State) (t : Nat) (n : Fin 4) (f : Frame) (fs : List Frame), let a := s.advance t; (a.loop n).sent = f :: fs ∧ f.count = false ∧ a.loopJudged n = true ∧ (a.loop n).bad = true) :=
  ⟨⟨{ given [(F.WING_STATUS_TRAINED, 1)] with wing := { loops := [(0, { sent := [{ loop := 0, k := 1, fn := 1, base := 0, hold := false, cues := [], orders := [] }], bad := false })] } }, 0, 0, { loop := 0, k := 1, fn := 1, base := 0, hold := false, cues := [], orders := [] }, [], by decide +kernel⟩,
   ⟨{ given [(F.WING_STATUS_TRAINED, 1)] with wing := { loops := [(0, { sent := [{ loop := 0, k := 1, fn := 1, base := 0, hold := false, cues := [], orders := [] }], bad := true })] } }, 0, 0, { loop := 0, k := 1, fn := 1, base := 0, hold := false, cues := [], orders := [] }, [], by decide +kernel⟩⟩

theorem meets_HaltsAndResumes :
    (∃ (s : State) (t : Nat) (data : Word), let a := s.advance t; a.tableau = false ∧ (wingSetup data.toNat = wingSetup (a.reg Reg.WING_CTRL).toNat ∨ a.curtainDown = true) ∧ bitsOf data.toNat 16 2 ≠ 3 ∧ bitsOf data.toNat 18 2 ≤ 1 ∧ data.getLsbD 23 = true) ∧
    (∃ (s : State) (t : Nat) (data : Word), let a := s.advance t; a.tableau = false ∧ (wingSetup data.toNat = wingSetup (a.reg Reg.WING_CTRL).toNat ∨ a.curtainDown = true) ∧ bitsOf data.toNat 16 2 ≠ 3 ∧ bitsOf data.toNat 18 2 ≤ 1 ∧ data.getLsbD 23 = true ∧ a.curtainDown = false) ∧
    (∃ (s : State) (t : Nat) (data : Word), let a := s.advance t; a.tableau = false ∧ wingSetup data.toNat = wingSetup (a.reg Reg.WING_CTRL).toNat ∧ bitsOf data.toNat 16 2 ≠ 3 ∧ bitsOf data.toNat 18 2 ≤ 1 ∧ data.getLsbD 23 = false ∧ bitsOf data.toNat 28 4 = 0 ∧ a.resumeAllowed 3 = true) ∧
    (∃ (s : State) (t : Nat) (data : Word), let a := s.advance t; a.tableau = false ∧ wingSetup data.toNat = wingSetup (a.reg Reg.WING_CTRL).toNat ∧ bitsOf data.toNat 16 2 ≠ 3 ∧ bitsOf data.toNat 18 2 ≤ 1 ∧ data.getLsbD 23 = false ∧ bitsOf data.toNat 28 4 = 0 ∧ a.resumeAllowed 0 = false) ∧
    (∃ (s : State) (t : Nat) (x : Nat) (n : Fin 4), let a := s.advance t; (a.loop n).resumeAt = some x ∧ x ≤ a.datum) :=
  ⟨⟨given [], 0, 0x00840000#32, by decide +kernel⟩,
   ⟨given [(F.WING_CTRL_ENABLE, 15), (F.CURTAIN_STATUS_STATE, 3)], 0, 0x0084000F#32, by decide +kernel⟩,
   ⟨{ given [(F.WING_STATUS_TRAINED, 8), (F.WING_STATUS_HALTED, 8)] with tables := [(tid.roster, { work := [(1, 0x60), (3, 1)] })] }, 0, 0x08040000#32, by decide +kernel⟩,
   ⟨given [], 0, 0x01040000#32, by decide +kernel⟩,
   ⟨{ given [(F.WING_STATUS_HALTED, 3)] with datum := 100, wing := { loops := [(0, { resumeAt := some 100 })] } }, 0, 100, 0, by decide +kernel⟩⟩

theorem meets_TrainingStartsAndFails :
    (∃ (s : State) (t : Nat) (n : Fin 4) (data : Word), let a := s.advance t; a.tableau = false ∧ bitsOf data.toNat 16 2 ≠ 3 ∧ bitsOf data.toNat 18 2 ≤ 1 ∧ a.curtainDown = true ∧ data.getLsbD (28 + n) = true ∧ data.getLsbD n = true) ∧
    (∃ (s : State) (t : Nat) (n : Fin 4) (data : Word), let a := s.advance t; a.tableau = false ∧ bitsOf data.toNat 16 2 ≠ 3 ∧ bitsOf data.toNat 18 2 ≤ 1 ∧ a.curtainDown = true ∧ data.getLsbD (28 + n) = true ∧ data.getLsbD n = true ∧ a.badPosition n = some 1) ∧
    (∃ (s : State) (t : Nat) (data : Word), let a := s.advance t; a.tableau = false ∧ wingSetup data.toNat = wingSetup (a.reg Reg.WING_CTRL).toNat ∧ bitsOf data.toNat 16 2 ≠ 3 ∧ bitsOf data.toNat 18 2 ≤ 1 ∧ bitsOf data.toNat 23 5 = 0 ∧ bitsOf data.toNat 28 4 ≠ 0 ∧ (a.curtainDown = false ∨ Nat.land (bitsOf data.toNat 28 4) (bitsOf data.toNat 0 4) = 0)) ∧
    (∃ (s : State) (t : Nat) (data : Word), let a := s.advance t; a.tableau = false ∧ wingSetup data.toNat = wingSetup (a.reg Reg.WING_CTRL).toNat ∧ bitsOf data.toNat 16 2 ≠ 3 ∧ bitsOf data.toNat 18 2 ≤ 1 ∧ bitsOf data.toNat 23 5 = 0 ∧ bitsOf data.toNat 28 4 ≠ 0 ∧ (a.curtainDown = false ∨ Nat.land (bitsOf data.toNat 28 4) (bitsOf data.toNat 0 4) = 0) ∧ a.curtainDown = true) ∧
    (∃ (s : State) (t : Nat) (n : Fin 4) (x : Train), let a := s.advance t; (a.loop n).train = some x ∧ x.phase = 1 ∧ x.start + 10000000 ≤ a.elapsed) :=
  ⟨⟨given [(F.WING_CTRL_ENABLE, 1), (F.WING_STATUS_TRAINED, 1)], 0, 0, 0x10040001#32, by decide +kernel⟩,
   ⟨{ given [(F.WING_CTRL_ENABLE, 1)] with tables := [(tid.roster, { work := [(1, 1), (3, 1)] })] }, 0, 0, 0x10040001#32, by decide +kernel⟩,
   ⟨given [(F.CURTAIN_STATUS_STATE, 3)], 0, 0x80040000#32, by decide +kernel⟩,
   ⟨given [], 0, 0x80040000#32, by decide +kernel⟩,
   ⟨{ given [(F.WING_STATUS_TRAIN_BUSY, 2)] with elapsed := 10000000, wing := { loops := [(1, { train := some { start := 0 } })] } }, 0, 1, { start := 0 }, by decide +kernel⟩⟩

theorem meets_DelaysAndHostOrders :
    (∃ (s : State) (t : Nat) (n : Fin 4), let a := s.advance t; a.loopTrained n = true ∧ 65536 ≤ (a.loop n).frames ∧ a.tableau = false ∧ (a.loop n).drift = true) ∧
    (∃ (s : State) (t : Nat) (n : Fin 4), let a := s.advance t; a.loopTrained n = true ∧ 65536 ≤ (a.loop n).frames ∧ a.tableau = false ∧ ((a.loop n).drift = false ∧ 160 < ((a.get (F.WING_LAT_L n) : Int) - (a.loop n).l0).natAbs)) ∧
    (∃ (s : State) (t : Nat) (n : Fin 4), let a := s.advance t; a.loopTrained n = true ∧ 65536 ≤ (a.loop n).frames ∧ a.tableau = false ∧ ((a.loop n).drift = false ∧ a.get (F.WING_LAT_L n) = 24001 ∧ (a.loop n).l0 = 24000)) ∧
    (∃ (s : State) (t : Nat) (n : Fin 4), let a := s.advance t; let lat := a.get (F.WING_LAT_L n); a.loopTrained n = true ∧ 65536 ≤ (a.loop n).frames ∧ a.tableau = false ∧ ((a.loop n).drift = false ∧ lat = 160 ∧ 0 ∈ a.loopCells n)) ∧
    (∃ (s : State) (t : Nat) (d : Desc) (codes : List Nat), let a := s.advance t; let c := d.target.toNat; c ≤ 127 ∧ d.len = 0 ∧ hostCodes d.p0.toNat d.p1.toNat = some codes ∧ a.present c = true ∧ a.loopTrained (a.cellLoop c) = true ∧ a.loopHalted (a.cellLoop c) = false ∧ a.linkFault c = false ∧ (¬(d.p0 = 5 ∧ a.bypassOpen c = true))) ∧
    (∃ (s : State) (t : Nat) (d : Desc) (status : Nat) (detail : Nat), let a := s.advance t; let c := d.target.toNat; let n := a.cellLoop c; firstFail [(127 < c, st.targetRange, 0), (d.len ≠ 0, st.lenRange, 0), (hostCodes d.p0.toNat d.p1.toNat = none, st.targetRange, 0x10), (a.present c = false, st.stateRefused, 1), (a.loopTrained n = false ∨ a.loopHalted n = true ∨ a.linkFault c = true, st.stateRefused, 2), (d.p0 = 5 ∧ a.bypassOpen c = true, st.stateRefused, 3)] = some (status, detail) ∧ 127 < c) :=
  ⟨⟨{ given [(F.WING_STATUS_TRAINED, 1)] with wing := { loops := [(0, { frames := 65536, drift := true })] } }, 0, 0, by decide +kernel⟩,
   ⟨{ given [(F.WING_STATUS_TRAINED, 1), (F.WING_LAT_L 0, 161)] with wing := { loops := [(0, { frames := 65536 })] } }, 0, 0, by decide +kernel⟩,
   ⟨{ given [(F.WING_STATUS_TRAINED, 1), (F.WING_LAT_L 0, 24001)] with wing := { loops := [(0, { frames := 65536, l0 := 24000 })] } }, 0, 0, by decide +kernel⟩,
   ⟨{ given [(F.WING_STATUS_TRAINED, 1), (F.WING_LAT_L 0, 160)] with tables := [(tid.roster, { work := [(3, 1)] })], wing := { loops := [(0, { frames := 65536 })], cells := [(0, { items := [(14, some 1), (15, some 0)] })] } }, 0, 0, by decide +kernel⟩,
   ⟨{ given [(F.WING_STATUS_TRAINED, 1)] with tables := [(tid.roster, { work := [(32 * 127 + 3, 1)] })] }, 0, { opc := 8, target := 127, p0 := 5 }, [5], by decide +kernel⟩,
   ⟨given [], 0, { opc := 8, target := 128, p0 := 5 }, st.targetRange, 0, by decide +kernel⟩⟩

theorem meets_DelaysAndHostOrders_2 :
    (∃ (s : State) (t : Nat) (d : Desc) (status : Nat) (detail : Nat), let a := s.advance t; let c := d.target.toNat; let n := a.cellLoop c; firstFail [(127 < c, st.targetRange, 0), (d.len ≠ 0, st.lenRange, 0), (hostCodes d.p0.toNat d.p1.toNat = none, st.targetRange, 0x10), (a.present c = false, st.stateRefused, 1), (a.loopTrained n = false ∨ a.loopHalted n = true ∨ a.linkFault c = true, st.stateRefused, 2), (d.p0 = 5 ∧ a.bypassOpen c = true, st.stateRefused, 3)] = some (status, detail) ∧ detail = 0x10) ∧
    (∃ (s : State) (t : Nat) (d : Desc) (status : Nat) (detail : Nat), let a := s.advance t; let c := d.target.toNat; let n := a.cellLoop c; firstFail [(127 < c, st.targetRange, 0), (d.len ≠ 0, st.lenRange, 0), (hostCodes d.p0.toNat d.p1.toNat = none, st.targetRange, 0x10), (a.present c = false, st.stateRefused, 1), (a.loopTrained n = false ∨ a.loopHalted n = true ∨ a.linkFault c = true, st.stateRefused, 2), (d.p0 = 5 ∧ a.bypassOpen c = true, st.stateRefused, 3)] = some (status, detail) ∧ detail = 2) ∧
    (∃ (s : State) (t : Nat) (d : Desc) (status : Nat) (detail : Nat), let a := s.advance t; let c := d.target.toNat; let n := a.cellLoop c; firstFail [(127 < c, st.targetRange, 0), (d.len ≠ 0, st.lenRange, 0), (hostCodes d.p0.toNat d.p1.toNat = none, st.targetRange, 0x10), (a.present c = false, st.stateRefused, 1), (a.loopTrained n = false ∨ a.loopHalted n = true ∨ a.linkFault c = true, st.stateRefused, 2), (d.p0 = 5 ∧ a.bypassOpen c = true, st.stateRefused, 3)] = some (status, detail) ∧ detail = 3) :=
  ⟨⟨given [], 0, { opc := 8, target := 127, p0 := 99 }, st.targetRange, 0x10, by decide +kernel⟩,
   ⟨{ given [] with tables := [(tid.roster, { work := [(32 * 127 + 3, 1)] })] }, 0, { opc := 8, target := 127, p0 := 5 }, st.stateRefused, 2, by decide +kernel⟩,
   ⟨{ given [(F.WING_STATUS_TRAINED, 1), (F.CAST_CELL_STATE 127, 3)] with tables := [(tid.roster, { work := [(32 * 127 + 3, 1)] })] }, 0, { opc := 8, target := 127, p0 := 5 }, st.stateRefused, 3, by decide +kernel⟩⟩

theorem meets_EvaluationTicks :
    (∃ (s : State) (t : Nat) (c : Instr), let a := s.advance t; a.tickDue = true ∧ c = .evaluationTick t) ∧
    (∃ (s : State) (t : Nat) (c : Instr), let a := s.advance t; let en := a.bit F.GRID_CTRL_RT_EN = true; let l := a.levels; let v := a.clearReached tid.contourV l.1 l.2.1 a.grid.cv || a.clearReached tid.contourF l.2.2 l.2.2 a.grid.cf; a.tickDue = true ∧ (c = .clearExpiry t ∧ en ∧ v = true)) ∧
    (∃ (s : State) (t : Nat) (c : Instr), let a := s.advance t; let en := a.bit F.GRID_CTRL_RT_EN = true; let l := a.levels; let dur := a.durReached tid.contourV l.1 l.2.1 a.grid.cv || a.durReached tid.contourF l.2.2 l.2.2 a.grid.cf; a.tickDue = true ∧ (c = .maxDurExpiry t ∧ en ∧ dur = true)) ∧
    (∃ (s : State) (t : Nat) (c : Instr), let a := s.advance t; a.tickDue = true ∧ (c = .enterServiceDelay t ∧ a.grid.enterSince = some 1 ∧ 1 + a.tbl16 tid.contourV 8 * 10000 ≤ a.grid.ticks + 1)) ∧
    (∃ (s : State) (t : Nat) (c : Instr), let a := s.advance t; a.tickDue = true ∧ (c = .restoreDelayExpiry t ∧ a.grid.restore = .hold 1 ∧ 1 + a.restoreDelay ≤ a.grid.ticks + 1)) ∧
    (∃ (s : State) (t : Nat) (c : Instr), let a := s.advance t; a.tickDue = true ∧ (c = .restoreRampEnd t ∧ a.grid.restore = .ramp 1 ∧ 1 + a.restoreRamp ≤ a.grid.ticks + 1)) :=
  ⟨⟨{ given [(F.GRID_CTRL_RT_EN, 1), (F.HOST_TABLE_OK_OK, 2), (F.GRID_VLEVEL_VMIN, 110), (F.GRID_VLEVEL_VMAX, 120), (F.GRID_STATUS_BEAR, 1)] with elapsed := 100000, tables := [(tid.contourV, { work := [(1, 2), (2, 1), (0x22, 100), (0x30, 100), (0x33, 0x80), (0x34, 1), (0x35, 3), (0x38, 7), (0x120, 50), (0x122, 1), (0x124, 7)] })], grid := { ticks := 7, cv := { dist := some 1, since := [(0, some 1)] }, enterSince := some 1, restore := .hold 1 } }, 0, .evaluationTick 0, by decide +kernel⟩,
   ⟨{ given [(F.GRID_CTRL_RT_EN, 1), (F.HOST_TABLE_OK_OK, 2), (F.GRID_VLEVEL_VMIN, 110), (F.GRID_VLEVEL_VMAX, 120), (F.GRID_STATUS_BEAR, 1)] with elapsed := 100000, tables := [(tid.contourV, { work := [(1, 2), (2, 1), (0x22, 100), (0x30, 100), (0x33, 0x80), (0x34, 1), (0x35, 3), (0x38, 7), (0x120, 50), (0x122, 1), (0x124, 7)] })], grid := { ticks := 7, cv := { dist := some 1, since := [(0, some 1)] }, enterSince := some 1, restore := .hold 1 } }, 0, .clearExpiry 0, by decide +kernel⟩,
   ⟨{ given [(F.GRID_CTRL_RT_EN, 1), (F.HOST_TABLE_OK_OK, 2), (F.GRID_VLEVEL_VMIN, 110), (F.GRID_VLEVEL_VMAX, 120), (F.GRID_STATUS_BEAR, 1)] with elapsed := 100000, tables := [(tid.contourV, { work := [(1, 2), (2, 1), (0x22, 100), (0x30, 100), (0x33, 0x80), (0x34, 1), (0x35, 3), (0x38, 7), (0x120, 50), (0x122, 1), (0x124, 7)] })], grid := { ticks := 7, cv := { dist := some 1, since := [(0, some 1)] }, enterSince := some 1, restore := .hold 1 } }, 0, .maxDurExpiry 0, by decide +kernel⟩,
   ⟨{ given [(F.GRID_CTRL_RT_EN, 1), (F.HOST_TABLE_OK_OK, 2), (F.GRID_VLEVEL_VMIN, 110), (F.GRID_VLEVEL_VMAX, 120), (F.GRID_STATUS_BEAR, 1)] with elapsed := 100000, tables := [(tid.contourV, { work := [(1, 2), (2, 1), (0x22, 100), (0x30, 100), (0x33, 0x80), (0x34, 1), (0x35, 3), (0x38, 7), (0x120, 50), (0x122, 1), (0x124, 7)] })], grid := { ticks := 7, cv := { dist := some 1, since := [(0, some 1)] }, enterSince := some 1, restore := .hold 1 } }, 0, .enterServiceDelay 0, by decide +kernel⟩,
   ⟨{ given [(F.GRID_CTRL_RT_EN, 1), (F.HOST_TABLE_OK_OK, 2), (F.GRID_VLEVEL_VMIN, 110), (F.GRID_VLEVEL_VMAX, 120), (F.GRID_STATUS_BEAR, 1)] with elapsed := 100000, tables := [(tid.contourV, { work := [(1, 2), (2, 1), (0x22, 100), (0x30, 100), (0x33, 0x80), (0x34, 1), (0x35, 3), (0x38, 7), (0x120, 50), (0x122, 1), (0x124, 7)] })], grid := { ticks := 7, cv := { dist := some 1, since := [(0, some 1)] }, enterSince := some 1, restore := .hold 1 } }, 0, .restoreDelayExpiry 0, by decide +kernel⟩,
   ⟨{ given [(F.GRID_CTRL_RT_EN, 1), (F.HOST_TABLE_OK_OK, 2), (F.GRID_VLEVEL_VMIN, 110), (F.GRID_VLEVEL_VMAX, 120), (F.GRID_STATUS_BEAR, 1)] with elapsed := 100000, tables := [(tid.contourV, { work := [(1, 2), (2, 1), (0x22, 100), (0x30, 100), (0x33, 0x80), (0x34, 1), (0x35, 3), (0x38, 7), (0x120, 50), (0x122, 1), (0x124, 7)] })], grid := { ticks := 7, cv := { dist := some 1, since := [(0, some 1)] }, enterSince := some 1, restore := .ramp 1 } }, 0, .restoreRampEnd 0, by decide +kernel⟩⟩

theorem meets_ExpiriesAtATick :
    (∃ (s : State) (t : Nat), let a := s.advance t; let l := a.levels; a.tickDue = true ∧ a.bit F.GRID_CTRL_RT_EN = true ∧ (a.clearReached tid.contourV l.1 l.2.1 a.grid.cv = true ∨ a.clearReached tid.contourF l.2.2 l.2.2 a.grid.cf = true)) ∧
    (∃ (s : State) (t : Nat) (t0 : Nat) (i : Nat), let a := s.advance t; let l := a.levels; let x := a.bandAt tid.contourV i; a.tickDue = true ∧ a.bit F.GRID_CTRL_RT_EN = true ∧ a.tableOk tid.contourV = true ∧ a.grid.cv.dist = some t0 ∧ (i = a.bandOfLevel tid.contourV l.1 ∨ i = a.bandOfLevel tid.contourV l.2.1) ∧ i ≠ a.normalBand tid.contourV ∧ x.maxDur ≠ 0xFFFFFFFF ∧ t0 + x.maxDur ≤ a.grid.ticks + 1) ∧
    (∃ (s : State) (t : Nat) (t0 : Nat) (i : Nat), let a := s.advance t; let x := a.bandAt tid.contourF i; a.tickDue = true ∧ a.bit F.GRID_CTRL_RT_EN = true ∧ a.tableOk tid.contourF = true ∧ a.bearEnable = a ∧ a.grid.cf.dist = some t0 ∧ i = a.bandOfLevel tid.contourF a.levels.2.2 ∧ i ≠ a.normalBand tid.contourF ∧ x.maxDur ≠ 0xFFFFFFFF ∧ t0 + x.maxDur ≤ a.grid.ticks + 1) ∧
    (∃ (s : State) (t : Nat) (t0 : Nat), let a := s.advance t; let k := a.bearEnable.contoursAt (a.grid.ticks + 1); let r := max k.1.region k.2.region; a.tickDue = true ∧ a.actsCessation a.region = false ∧ r < 8 ∧ r ≠ region.trip ∧ a.actsCessation r = false ∧ a.grid.restore = .hold t0 ∧ t0 + a.restoreDelay ≤ a.grid.ticks + 1) ∧
    (∃ (s : State) (t : Nat) (t0 : Nat), let a := s.advance t; let k := a.bearEnable.contoursAt (a.grid.ticks + 1); let r := max k.1.region k.2.region; a.tickDue = true ∧ a.actsCessation a.region = false ∧ r < 8 ∧ r ≠ region.trip ∧ a.actsCessation r = false ∧ a.grid.restore = .hold t0 ∧ t0 + a.restoreDelay ≤ a.grid.ticks + 1 ∧ t0 + a.restoreDelay + a.restoreRamp ≤ a.grid.ticks + 1) ∧
    (∃ (s : State) (t : Nat) (t0 : Nat), let a := s.advance t; let k := a.bearEnable.contoursAt (a.grid.ticks + 1); let r := max k.1.region k.2.region; a.tickDue = true ∧ a.actsCessation a.region = false ∧ r < 8 ∧ r ≠ region.trip ∧ a.actsCessation r = false ∧ a.grid.restore = .ramp t0 ∧ t0 + a.restoreRamp ≤ a.grid.ticks + 1) :=
  ⟨⟨{ given [(F.GRID_CTRL_RT_EN, 1), (F.HOST_TABLE_OK_OK, 2), (F.GRID_VLEVEL_VMIN, 110), (F.GRID_VLEVEL_VMAX, 120), (F.GRID_STATUS_BEAR, 1)] with elapsed := 100000, tables := [(tid.contourV, { work := [(1, 2), (2, 1), (0x22, 100), (0x30, 100), (0x33, 0x80), (0x34, 1), (0x35, 3), (0x38, 7), (0x120, 50), (0x122, 1), (0x124, 7)] })], grid := { ticks := 7, cv := { dist := some 1, since := [(0, some 1)] }, enterSince := some 1, restore := .hold 1 } }, 0, by decide +kernel⟩,
   ⟨{ given [(F.GRID_CTRL_RT_EN, 1), (F.HOST_TABLE_OK_OK, 2), (F.GRID_VLEVEL_VMIN, 110), (F.GRID_VLEVEL_VMAX, 120), (F.GRID_STATUS_BEAR, 1)] with elapsed := 100000, tables := [(tid.contourV, { work := [(1, 2), (2, 1), (0x22, 100), (0x30, 100), (0x33, 0x80), (0x34, 1), (0x35, 3), (0x38, 7), (0x120, 50), (0x122, 1), (0x124, 7)] })], grid := { ticks := 7, cv := { dist := some 1, since := [(0, some 1)] }, enterSince := some 1, restore := .hold 1 } }, 0, 1, 1, by decide +kernel⟩,
   ⟨{ given [(F.GRID_CTRL_RT_EN, 1), (F.HOST_TABLE_OK_OK, 4), (F.GRID_VLEVEL_VMIN, 110), (F.GRID_VLEVEL_VMAX, 120), (F.GRID_STATUS_BEAR, 1)] with elapsed := 100000, tables := [(tid.contourF, { work := [(1, 2), (2, 1), (0x22, 100), (0x30, 100), (0x33, 0x80), (0x34, 1), (0x35, 3), (0x38, 7), (0x120, 50), (0x122, 1), (0x124, 7)] })], grid := { ticks := 7, bear := { freq := 110 }, cf := { dist := some 1, since := [(0, some 1)] }, enterSince := some 1, restore := .hold 1 } }, 0, 1, 1, by decide +kernel⟩,
   ⟨{ given [(F.GRID_STATUS_BEAR, 1)] with elapsed := 100000, tables := [(tid.contourV, { work := [(0xA, 1), (0xC, 1)] })], grid := { ticks := 10, restore := .hold 1 } }, 0, 1, by decide +kernel⟩,
   ⟨{ given [(F.GRID_STATUS_BEAR, 1)] with elapsed := 100000, tables := [(tid.contourV, { work := [(0xA, 1), (0xC, 1)] })], grid := { ticks := 20, restore := .hold 1 } }, 0, 1, by decide +kernel⟩,
   ⟨{ given [(F.GRID_STATUS_BEAR, 1)] with elapsed := 100000, tables := [(tid.contourV, { work := [(0xA, 1), (0xC, 1)] })], grid := { ticks := 10, restore := .ramp 1 } }, 0, 1, by decide +kernel⟩⟩

theorem meets_ExpiriesAtATick_2 :
    ∃ (s : State) (t : Nat) (t0 : Nat), let a := s.advance t; a.tickDue = true ∧ a.grid.enterSince = some t0 ∧ t0 + a.tbl16 tid.contourV 8 * 10000 ≤ a.grid.ticks + 1 :=
  ⟨{ given [(F.GRID_CTRL_RT_EN, 1), (F.HOST_TABLE_OK_OK, 2), (F.GRID_VLEVEL_VMIN, 110), (F.GRID_VLEVEL_VMAX, 120), (F.GRID_STATUS_BEAR, 1)] with elapsed := 100000, tables := [(tid.contourV, { work := [(1, 2), (2, 1), (0x22, 100), (0x30, 100), (0x33, 0x80), (0x34, 1), (0x35, 3), (0x38, 7), (0x120, 50), (0x122, 1), (0x124, 7)] })], grid := { ticks := 7, cv := { dist := some 1, since := [(0, some 1)] }, enterSince := some 1, restore := .hold 1 } }, 0, 1, by decide +kernel⟩

theorem meets_BearingAndSetPoints :
    (∃ (s : State) (t : Nat), let a := s.advance t; a.bearState = bear.seeking ∧ a.due a.grid.bear.lockSince (a.get F.GRID_BEAR_CFG_LOCK_TIME * 1000000) = true ∧ a.tableau = false) ∧
    (∃ (s : State) (t : Nat), let a := s.advance t; a.bearState = bear.coast ∧ a.due a.grid.bear.coastSince (a.get F.GRID_BEAR_CFG_COAST_MAX * 100000000) = true ∧ a.tableau = false) ∧
    (∃ (s : State) (t : Nat) (x : Fin 3), let a := s.advance t; Sparse.get (fun _ => 0) a.grid.bear.missing x = 20 ∧ a.tableau = false ∧ a.bearState ≠ bear.off) ∧
    (∃ (s : State) (t : Nat) (d : Desc), let a := s.advance t; let p := signed 32 d.p0.toNat; let q := signed 16 (bitsOf d.p1.toNat 0 16); let n : Int := a.get F.GRID_NOM_P_NOM; d.target = 0 ∧ d.len = 0 ∧ -n ≤ p ∧ p ≤ n ∧ -n ≤ q ∧ q ≤ n ∧ d.p1.toNat < 2 ^ 17) ∧
    (∃ (s : State) (t : Nat) (d : Desc) (status : Nat) (detail : Nat), let a := s.advance t; let p := signed 32 d.p0.toNat; let q := signed 16 (bitsOf d.p1.toNat 0 16); let n : Int := a.get F.GRID_NOM_P_NOM; firstFail [(d.target ≠ 0, st.targetRange, 0), (d.len ≠ 0, st.lenRange, 0), (p < -n ∨ n < p, st.targetRange, 0x10), (q < -n ∨ n < q, st.targetRange, 0x11), (2 ^ 17 ≤ d.p1.toNat, st.targetRange, 0x12)] = some (status, detail) ∧ d.p0 = 501) ∧
    (∃ (s : State) (t : Nat) (d : Desc) (status : Nat) (detail : Nat), let a := s.advance t; let p := signed 32 d.p0.toNat; let q := signed 16 (bitsOf d.p1.toNat 0 16); let n : Int := a.get F.GRID_NOM_P_NOM; firstFail [(d.target ≠ 0, st.targetRange, 0), (d.len ≠ 0, st.lenRange, 0), (p < -n ∨ n < p, st.targetRange, 0x10), (q < -n ∨ n < q, st.targetRange, 0x11), (2 ^ 17 ≤ d.p1.toNat, st.targetRange, 0x12)] = some (status, detail) ∧ d.p0 = 0xFFFFFE0B) :=
  ⟨⟨{ given [(F.GRID_STATUS_BEAR, 1), (F.GRID_BEAR_CFG_LOCK_TIME, 100)] with elapsed := 100000000, grid := { bear := { lockSince := some 0 } } }, 0, by decide +kernel⟩,
   ⟨{ given [(F.GRID_STATUS_BEAR, 3), (F.GRID_BEAR_CFG_COAST_MAX, 5)] with elapsed := 500000000, grid := { bear := { coastSince := some 0 } } }, 0, by decide +kernel⟩,
   ⟨{ given [(F.GRID_STATUS_BEAR, 2)] with grid := { bear := { missing := [(2, 20)] } } }, 0, 2, by decide +kernel⟩,
   ⟨given [(F.GRID_NOM_P_NOM, 500)], 0, { opc := 4, p0 := 0xFFFFFE0C, p1 := 0x101F4 }, by decide +kernel⟩,
   ⟨given [(F.GRID_NOM_P_NOM, 500)], 0, { opc := 4, p0 := 501 }, st.targetRange, 0x10, by decide +kernel⟩,
   ⟨given [(F.GRID_NOM_P_NOM, 500)], 0, { opc := 4, p0 := 0xFFFFFE0B }, st.targetRange, 0x10, by decide +kernel⟩⟩

theorem meets_BearingAndSetPoints_2 :
    (∃ (s : State) (t : Nat) (d : Desc) (status : Nat) (detail : Nat), let a := s.advance t; let p := signed 32 d.p0.toNat; let q := signed 16 (bitsOf d.p1.toNat 0 16); let n : Int := a.get F.GRID_NOM_P_NOM; firstFail [(d.target ≠ 0, st.targetRange, 0), (d.len ≠ 0, st.lenRange, 0), (p < -n ∨ n < p, st.targetRange, 0x10), (q < -n ∨ n < q, st.targetRange, 0x11), (2 ^ 17 ≤ d.p1.toNat, st.targetRange, 0x12)] = some (status, detail) ∧ d.p1 = 501) ∧
    (∃ (s : State) (t : Nat) (d : Desc) (status : Nat) (detail : Nat), let a := s.advance t; let p := signed 32 d.p0.toNat; let q := signed 16 (bitsOf d.p1.toNat 0 16); let n : Int := a.get F.GRID_NOM_P_NOM; firstFail [(d.target ≠ 0, st.targetRange, 0), (d.len ≠ 0, st.lenRange, 0), (p < -n ∨ n < p, st.targetRange, 0x10), (q < -n ∨ n < q, st.targetRange, 0x11), (2 ^ 17 ≤ d.p1.toNat, st.targetRange, 0x12)] = some (status, detail) ∧ d.p1 = 0x20000) ∧
    (∃ (s : State) (t : Nat), let a := s.advance t; a.bit F.GRID_STATUS_SUSPECT = true ∧ a.grid.suspectAt + second ≤ a.elapsed ∧ a.tableau = false) ∧
    (∃ (s : State) (t : Nat), let a := s.advance t; a.bit F.DATUM_MER_CTRL_ROLE = true ∧ a.datum % second = 0 ∧ (∀ x ∈ a.grid.sigSeen, x + second < a.datum)) :=
  ⟨⟨given [(F.GRID_NOM_P_NOM, 500)], 0, { opc := 4, p1 := 501 }, st.targetRange, 0x11, by decide +kernel⟩,
   ⟨given [(F.GRID_NOM_P_NOM, 500)], 0, { opc := 4, p1 := 0x20000 }, st.targetRange, 0x12, by decide +kernel⟩,
   ⟨{ given [(F.GRID_STATUS_SUSPECT, 1)] with elapsed := second }, 0, by decide +kernel⟩,
   ⟨{ given [(F.DATUM_MER_CTRL_ROLE, 1)] with datum := 2 * second, grid := { sigSeen := some 999999999 } }, 0, by decide +kernel⟩⟩

theorem meets_ChipsAndSequences :
    (∃ (s : State) (t : Nat), let a := s.advance t; a.datum % chipLength = 0 ∧ a.tableau = false ∧ a.datum % sequenceLength ≠ 0) ∧
    (∃ (s : State) (t : Nat), let a := s.advance t; a.datum % chipLength = 0 ∧ a.tableau = false ∧ (a.datum % sequenceLength = 0 ∧ a.grid.next = some ({ seed := 1 }, 25500000000))) :=
  ⟨⟨{ given [] with datum := chipLength }, 0, by decide +kernel⟩,
   ⟨{ given [] with datum := sequenceLength, grid := { next := some ({ seed := 1 }, 25500000000) } }, 0, by decide +kernel⟩⟩

theorem meets_FastDecisionsAndBands :
    (∃ (s : State) (t : Nat) (x : Fin 3) (q : FastReq), let a := s.advance t; (a.eng x).fast = some q ∧ q.tf ≤ a.datum ∧ a.tableau = false ∧ a.deciding = true) ∧
    (∃ (s : State) (t : Nat) (x : Fin 3) (q : FastReq), let a := s.advance t; let ta := max (a.datum + a.pipeline true + a.cueLead) (a.actBase (a.frameFrom (a.datum + 200))); (a.eng x).fast = some q ∧ q.tf ≤ a.datum ∧ a.tableau = false ∧ a.deciding = true ∧ (∃ t0 ∈ (a.eng x).lastTa, ta ≤ t0)) ∧
    (∃ (s : State) (t : Nat) (x : Fin 3) (q : FastReq), let a := s.advance t; (a.eng x).fast = some q ∧ q.tf ≤ a.datum ∧ a.tableau = false ∧ a.deciding = false) ∧
    (∃ (s : State) (t : Nat), let a := s.advance t; let win := a.bandWin * 1000000; let lo := a.get F.CUR_BAND_LIM_B_MIN; let hi := a.get F.CUR_BAND_LIM_B_MAX; a.engine.winStart + win ≤ a.elapsed ∧ a.tableau = false ∧ lo ≤ hi) :=
  ⟨⟨{ given [(F.CUR_STATUS_STATE, 1)] with datum := 100, engine := { phases := [(1, { fast := some { input := 0, tc := 0, value := 0, tf := 100 } })] } }, 0, 1, { input := 0, tc := 0, value := 0, tf := 100 }, by decide +kernel⟩,
   ⟨{ given [(F.CUR_STATUS_STATE, 2)] with datum := 100, engine := { phases := [(1, { fast := some { input := 0, tc := 0, value := 0, tf := 100 }, lastTa := some 10000000 })] } }, 0, 1, { input := 0, tc := 0, value := 0, tf := 100 }, by decide +kernel⟩,
   ⟨{ given [] with datum := 100, engine := { phases := [(1, { fast := some { input := 0, tc := 0, value := 0, tf := 100 } })] } }, 0, 1, { input := 0, tc := 0, value := 0, tf := 100 }, by decide +kernel⟩,
   ⟨{ given [] with elapsed := 100000000, engine := { winBad := false, phases := [(0, { granted := 50 })] } }, 0, by decide +kernel⟩⟩

theorem meets_EngineSupervision :
    (∃ (s : State) (t : Nat) (x : Fin 3), let a := s.advance t; (a.eng x).feExpired = true ∧ a.deciding = true ∧ a.bit F.CUR_CTRL_FE_STOP = true) ∧
    (∃ (s : State) (t : Nat) (x : Fin 3), let a := s.advance t; (a.eng x).feExpired = true ∧ a.deciding = true ∧ a.bit F.CUR_CTRL_FE_STOP = false) ∧
    (∃ (s : State) (t : Nat) (x : Fin 3), let a := s.advance t; ((a.eng x).missIc = 4 ∨ (a.eng x).missIg = 8) ∧ a.tableau = false ∧ a.deciding = true) ∧
    (∃ (s : State) (t : Nat) (x : Fin 3), let a := s.advance t; ((a.eng x).missIc = 4 ∨ (a.eng x).missIg = 8) ∧ a.tableau = false ∧ a.deciding = false) ∧
    (∃ (s : State) (t : Nat), let a := s.advance t; a.engState = eng.ramping ∧ a.due a.engine.zeroSince 100000 = true) ∧
    (∃ (s : State) (t : Nat) (x : Nat) (t0 : Nat), let a := s.advance t; a.engState = eng.ramping ∧ a.engine.rampAt = some (x, t0) ∧ t0 + (a.get F.CUR_RAMPZ_TIME * 10000 + a.get F.CUR_RAMPZ_WAIT * 100000) ≤ a.elapsed) :=
  ⟨⟨{ given [(F.CUR_STATUS_STATE, 1), (F.CUR_CTRL_FE_STOP, 1)] with engine := { phases := [(2, { feExpired := true })] } }, 0, 2, by decide +kernel⟩,
   ⟨{ given [(F.CUR_STATUS_STATE, 2), (F.CUR_CTRL_FE_STOP, 0)] with engine := { phases := [(2, { feExpired := true })] } }, 0, 2, by decide +kernel⟩,
   ⟨{ given [(F.CUR_STATUS_STATE, 1)] with engine := { phases := [(0, { missIc := 4 })] } }, 0, 0, by decide +kernel⟩,
   ⟨{ given [] with engine := { phases := [(0, { missIg := 8 })] } }, 0, 0, by decide +kernel⟩,
   ⟨{ given [(F.CUR_STATUS_STATE, 2)] with elapsed := 100000, engine := { zeroSince := some 0 } }, 0, by decide +kernel⟩,
   ⟨{ given [(F.CUR_STATUS_STATE, 2)] with elapsed := second * 60, engine := { rampAt := some (0, 0) } }, 0, 0, 0, by decide +kernel⟩⟩

theorem meets_CastingRequestsServed :
    (∃ (s : State) (t : Nat) (r : Request), let a := s.advance t; a.tableau = false ∧ a.nextRequest = some r ∧ r.phase < 3 ∧ a.weightsOk = true) ∧
    (∃ (s : State) (t : Nat) (r : Request), let a := s.advance t; a.tableau = false ∧ a.nextRequest = some r ∧ r.phase < 3 ∧ a.weightsOk = false ∧ a.cast.zsDue = none) ∧
    (∃ (s : State) (t : Nat), let a := s.advance t; (a.tableau = true ∨ a.cast.requests = []) ∧ a.cast.requests = []) ∧
    (∃ (s : State) (t : Nat), let a := s.advance t; (a.tableau = true ∨ a.cast.requests = []) ∧ (a.tableau = true ∧ a.cast.requests.length = 2)) :=
  ⟨⟨{ given [(F.HOST_TABLE_OK_OK, 0xFFF)] with cast := { requests := [{ phase := 0, ta := 5000, k := 1, iHat := 0 }, ({ phase := 1, ta := 5000, k := -2, iHat := 3 } : Request)], turn := 1 } }, 0, ({ phase := 1, ta := 5000, k := -2, iHat := 3 } : Request), by decide +kernel⟩,
   ⟨{ given [] with cast := { requests := [{ phase := 0, ta := 5000, k := 1, iHat := 0 }, ({ phase := 1, ta := 5000, k := -2, iHat := 3 } : Request)], turn := 1 } }, 0, ({ phase := 1, ta := 5000, k := -2, iHat := 3 } : Request), by decide +kernel⟩,
   ⟨given [], 0, by decide +kernel⟩,
   ⟨{ given [(F.POWER_STATUS_TABLEAU, 1)] with cast := { requests := [{ phase := 0, ta := 5000, k := 1, iHat := 0 }, ({ phase := 1, ta := 5000, k := -2, iHat := 3 } : Request)], turn := 1 } }, 0, by decide +kernel⟩⟩

theorem meets_CellsLeaveService :
    (∃ (s : State) (t : Nat) (c : Fin 128), let a := s.advance t; a.tableau = false ∧ a.cState c = cs.active ∧ a.bit (F.CAST_CELL_HOT c) = true ∧ a.due (a.castCell c).hotSince a.hotTime = true) ∧
    (∃ (s : State) (t : Nat) (c : Fin 128), let a := s.advance t; a.tableau = false ∧ a.cState c = cs.active ∧ a.due (a.castCell c).uvSince a.uvTime = true) ∧
    (∃ (s : State) (t : Nat) (c : Fin 128), let a := s.advance t; let h := (a.tx c).hist; a.tableau = false ∧ a.cState c = cs.active ∧ a.bit (F.CAST_CELL_HOT c) = true ∧ a.due (a.castCell c).hotSince a.hotTime = true ∧ contribOf (lastLegs h) = some 0) ∧
    (∃ (s : State) (t : Nat) (c : Fin 128), let a := s.advance t; let h := (a.tx c).hist; a.tableau = false ∧ a.cState c = cs.active ∧ a.due (a.castCell c).uvSince a.uvTime = true ∧ contribOf (lastLegs h) = some 0) ∧
    (∃ (s : State) (t : Nat) (c : Fin 128), let a := s.advance t; a.tableau = false ∧ a.cState c = cs.leaving ∧ a.due (a.castCell c).leaveSince 20000000 = true) ∧
    (∃ (s : State) (t : Nat) (c : Fin 128), let a := s.advance t; a.tableau = false ∧ a.cState c = cs.precharge ∧ a.due (a.castCell c).preStart (a.preTime - (a.castCell c).preSpent) = true) :=
  ⟨⟨{ given [(F.CAST_CELL_STATE 127, 3), (F.CAST_CELL_HOT 127, 1)] with elapsed := second, cast := { cells := [(127, { hotSince := some 0 })] } }, 0, 127, by decide +kernel⟩,
   ⟨{ given [(F.CAST_CELL_STATE 127, 3)] with elapsed := second, cast := { cells := [(127, { uvSince := some 0 })] } }, 0, 127, by decide +kernel⟩,
   ⟨{ given [(F.CAST_CELL_STATE 127, 3), (F.CAST_CELL_HOT 127, 1)] with elapsed := second, cast := { cells := [(127, { hotSince := some 0 })] }, wing := { cells := [(127, { hist := [{ time := 0, legs := 5, placed := some 0 }] })] } }, 0, 127, by decide +kernel⟩,
   ⟨{ given [(F.CAST_CELL_STATE 127, 3)] with elapsed := second, cast := { cells := [(127, { uvSince := some 0 })] }, wing := { cells := [(127, { hist := [{ time := 0, legs := 5, placed := some 0 }] })] } }, 0, 127, by decide +kernel⟩,
   ⟨{ given [(F.CAST_CELL_STATE 127, 6)] with elapsed := 20000000, cast := { cells := [(127, { leaveSince := some 0, leaveCause := 5 })] } }, 0, 127, by decide +kernel⟩,
   ⟨{ given [(F.CAST_CELL_STATE 127, 5)] with elapsed := 60000000, cast := { cells := [(127, { preStart := some 0, preSpent := 40000000 })] } }, 0, 127, by decide +kernel⟩⟩

theorem meets_CellsLeaveService_2 :
    (∃ (s : State) (t : Nat) (c : Fin 128) (k : BypassCheck), let a := s.advance t; a.tableau = false ∧ (a.castCell c).check = some k ∧ a.due k.start a.bypTime = true ∧ a.cState c = 3) ∧
    (∃ (s : State) (t : Nat) (c : Fin 128) (k : BypassCheck), let a := s.advance t; a.tableau = false ∧ (a.castCell c).check = some k ∧ a.due k.start a.bypTime = true ∧ a.cState c = 7) ∧
    (∃ (s : State) (t : Nat) (c : Fin 128) (k : BypassCheck), let a := s.advance t; a.tableau = false ∧ (a.castCell c).check = some k ∧ a.due k.start a.bypTime = true ∧ a.cState c = 0) :=
  ⟨⟨{ given [(F.CAST_CELL_STATE 127, 3)] with elapsed := 100000000, cast := { cells := [(127, { check := some { close := true, start := some 0, own := true } })] } }, 0, 127, { close := true, start := some 0, own := true }, by decide +kernel⟩,
   ⟨{ given [(F.CAST_CELL_STATE 127, 7)] with elapsed := 100000000, cast := { cells := [(127, { check := some { close := false, start := some 0, own := false } })] } }, 0, 127, { close := false, start := some 0, own := false }, by decide +kernel⟩,
   ⟨{ given [(F.CAST_CELL_STATE 127, 0)] with elapsed := 100000000, cast := { cells := [(127, { check := some { close := true, start := some 0, own := true } })] } }, 0, 127, { close := true, start := some 0, own := true }, by decide +kernel⟩⟩

theorem meets_ReadmissionAndCoolant :
    (∃ (s : State) (t : Nat) (data : Word), let a := s.advance t; let c := bitsOf data.toNat 0 7; a.tableau = false ∧ data.getLsbD 31 = true ∧ a.curtainDown = true ∧ a.cState c = cs.out ∧ a.loopTrained (a.cellLoop c) = true ∧ a.linkFault c = false ∧ a.cellKind c = 1) ∧
    (∃ (s : State) (t : Nat) (data : Word), let a := s.advance t; let c := bitsOf data.toNat 0 7; a.tableau = false ∧ data.getLsbD 31 = true ∧ a.curtainDown = true ∧ a.cState c = cs.out ∧ a.loopTrained (a.cellLoop c) = true ∧ a.linkFault c = false ∧ a.cellKind c = 3) ∧
    (∃ (s : State) (t : Nat) (data : Word), let a := s.advance t; let c := bitsOf data.toNat 0 7; let r := a.get (F.CAST_CELL_PARTNER c); let back := a.bit (F.CAST_CELL_PARTNER_VALID c) = true ∧ a.cellKind r = kind.reserve ∧ (a.cState r = cs.active ∨ a.cState r = cs.ready); a.tableau = false ∧ data.getLsbD 31 = true ∧ a.curtainDown = true ∧ a.cState c = cs.out ∧ a.loopTrained (a.cellLoop c) = true ∧ a.linkFault c = false ∧ back) ∧
    (∃ (s : State) (t : Nat) (data : Word), let a := s.advance t; let c := bitsOf data.toNat 0 7; a.tableau = false ∧ (data.getLsbD 31 = false ∨ a.curtainDown = false ∨ a.cState c ≠ cs.out ∨ a.loopTrained (a.cellLoop c) = false ∨ a.linkFault c = true) ∧ a.curtainDown = false) ∧
    (∃ (s : State) (t : Nat) (data : Word), let a := s.advance t; let c := bitsOf data.toNat 0 7; a.tableau = false ∧ (data.getLsbD 31 = false ∨ a.curtainDown = false ∨ a.cState c ≠ cs.out ∨ a.loopTrained (a.cellLoop c) = false ∨ a.linkFault c = true) ∧ a.cState c = cs.leaving) ∧
    (∃ (s : State) (t : Nat) (data : Word), let a := s.advance t; let c := bitsOf data.toNat 0 7; a.tableau = false ∧ (data.getLsbD 31 = false ∨ a.curtainDown = false ∨ a.cState c ≠ cs.out ∨ a.loopTrained (a.cellLoop c) = false ∨ a.linkFault c = true) ∧ a.loopTrained (a.cellLoop c) = false) :=
  ⟨⟨{ given [(F.CAST_CELL_STATE 127, 7), (F.CAST_CELL_CAUSE 127, 5), (F.WING_STATUS_TRAINED, 1)] with tables := [(tid.roster, { work := [(32 * 127 + 3, 1)] })] }, 0, 0x8000007F#32, by decide +kernel⟩,
   ⟨{ given [(F.CAST_CELL_STATE 127, 7), (F.CAST_CELL_CAUSE 127, 5), (F.WING_STATUS_TRAINED, 1)] with tables := [(tid.roster, { work := [(32 * 127 + 3, 3)] })] }, 0, 0x8000007F#32, by decide +kernel⟩,
   ⟨{ given [(F.CAST_CELL_STATE 127, 7), (F.CAST_CELL_PARTNER 127, 1), (F.CAST_CELL_PARTNER_VALID 127, 1), (F.CAST_CELL_STATE 1, 3), (F.WING_STATUS_TRAINED, 1)] with tables := [(tid.roster, { work := [(32 + 3, 3), (32 * 127 + 3, 1)] })] }, 0, 0x8000007F#32, by decide +kernel⟩,
   ⟨given [(F.CURTAIN_STATUS_STATE, 3), (F.CAST_CELL_STATE 0, 7), (F.WING_STATUS_TRAINED, 1)], 0, 0x80000000#32, by decide +kernel⟩,
   ⟨given [(F.CAST_CELL_STATE 0, 6), (F.WING_STATUS_TRAINED, 1)], 0, 0x80000000#32, by decide +kernel⟩,
   ⟨given [(F.CAST_CELL_STATE 0, 7)], 0, 0x80000000#32, by decide +kernel⟩⟩

theorem meets_ReadmissionAndCoolant_2 :
    (∃ (s : State) (t : Nat) (data : Word), let a := s.advance t; let c := bitsOf data.toNat 0 7; a.tableau = false ∧ (data.getLsbD 31 = false ∨ a.curtainDown = false ∨ a.cState c ≠ cs.out ∨ a.loopTrained (a.cellLoop c) = false ∨ a.linkFault c = true) ∧ a.linkFault c = true) ∧
    (∃ (s : State) (t : Nat) (data : Word), let a := s.advance t; let c := bitsOf data.toNat 0 7; a.tableau = false ∧ (data.getLsbD 31 = false ∨ a.curtainDown = false ∨ a.cState c ≠ cs.out ∨ a.loopTrained (a.cellLoop c) = false ∨ a.linkFault c = true) ∧ data.getLsbD 31 = false) ∧
    (∃ (s : State) (t : Nat), let a := s.advance t; 64 ≤ a.cast.coolBad ∧ a.tableau = false) :=
  ⟨⟨given [(F.CAST_CELL_STATE 0, 7), (F.WING_STATUS_TRAINED, 1), (F.WING_CELL_LINK_FAULT 0, 1)], 0, 0x80000000#32, by decide +kernel⟩,
   ⟨given [(F.CAST_CELL_STATE 0, 7), (F.WING_STATUS_TRAINED, 1)], 0, 0#32, by decide +kernel⟩,
   ⟨{ given [] with cast := { coolBad := 64 } }, 0, by decide +kernel⟩⟩

theorem meets_TrackersStepAndExcursionsFallDue :
    (∃ (s : State) (t : Nat) (c : Fin 128), let a := s.advance t; let x := a.pwrCell c; let period := a.mp8 c 1 * 1000000; (a.trk c = trk.track ∨ a.trk c = trk.follow) ∧ a.tableau = false ∧ x.lastStep + period ≤ a.elapsed ∧ (x.readings ≠ [] ∧ a.trk c = trk.track ∧ a.cellVMin c ≤ a.cellVMax c)) ∧
    (∃ (s : State) (t : Nat) (c : Fin 128), let a := s.advance t; let x := a.pwrCell c; let period := a.mp8 c 1 * 1000000; (a.trk c = trk.track ∨ a.trk c = trk.follow) ∧ a.tableau = false ∧ x.lastStep + period ≤ a.elapsed ∧ (x.readings ≠ [] ∧ a.trk c = trk.follow)) ∧
    (∃ (s : State) (t : Nat) (c : Fin 128), let a := s.advance t; let x := a.pwrCell c; let period := a.mp8 c 1 * 1000000; (a.trk c = trk.track ∨ a.trk c = trk.follow) ∧ a.tableau = false ∧ x.lastStep + period ≤ a.elapsed ∧ x.readings = []) ∧
    (∃ (s : State) (t : Nat) (c : Fin 128), let a := s.advance t; let x := a.pwrCell c; a.trk c = trk.scan ∧ a.tableau = false ∧ x.lastStep + a.mp8 c 1 * 1000000 ≤ a.elapsed ∧ x.readings ≠ [] ∧ (¬(x.scan.length + 1 = 4))) ∧
    (∃ (s : State) (t : Nat) (c : Fin 128), let a := s.advance t; let x := a.pwrCell c; a.trk c = trk.scan ∧ a.tableau = false ∧ x.lastStep + a.mp8 c 1 * 1000000 ≤ a.elapsed ∧ x.readings ≠ [] ∧ x.scan.length + 1 = a.mp8 c 0xA) ∧
    (∃ (s : State) (t : Nat) (c : Fin 128), let a := s.advance t; let x := a.pwrCell c; a.trk c = trk.probe ∧ a.tableau = false ∧ x.lastStep + a.mp8 c 1 * 1000000 ≤ a.elapsed ∧ x.readings ≠ [] ∧ x.probe = 6) :=
  ⟨⟨{ given [(F.CELLPWR_CELL_TRK 5, 1), (F.HOST_TABLE_OK_OK, 0xFFF)] with elapsed := 10000000, tables := [(tid.roster, { work := [(32 * 5 + 0xC, 100)] }), (tid.mpptParam, { work := [(16 * 5, 2), (16 * 5 + 1, 10), (16 * 5 + 2, 3), (16 * 5 + 3, 9), (16 * 5 + 8, 60), (16 * 5 + 10, 4)] })], pwr := { cells := [(5, { v := 50, readings := [3] })] } }, 0, 5, by decide +kernel⟩,
   ⟨{ given [(F.CELLPWR_CELL_TRK 5, 2), (F.HOST_TABLE_OK_OK, 0xFFF)] with elapsed := 10000000, tables := [(tid.roster, { work := [(32 * 5 + 0xC, 100)] }), (tid.mpptParam, { work := [(16 * 5, 2), (16 * 5 + 1, 10), (16 * 5 + 2, 3), (16 * 5 + 3, 9), (16 * 5 + 8, 60), (16 * 5 + 10, 4)] })], pwr := { cells := [(5, { v := 50, readings := [3] })] } }, 0, 5, by decide +kernel⟩,
   ⟨{ given [(F.CELLPWR_CELL_TRK 5, 2), (F.HOST_TABLE_OK_OK, 0xFFF)] with elapsed := 10000000, tables := [(tid.roster, { work := [(32 * 5 + 0xC, 100)] }), (tid.mpptParam, { work := [(16 * 5, 2), (16 * 5 + 1, 10), (16 * 5 + 2, 3), (16 * 5 + 3, 9), (16 * 5 + 8, 60), (16 * 5 + 10, 4)] })], pwr := { cells := [(5, { v := 50, readings := [] })] } }, 0, 5, by decide +kernel⟩,
   ⟨{ given [(F.CELLPWR_CELL_TRK 5, 3), (F.HOST_TABLE_OK_OK, 0xFFF)] with elapsed := 10000000, tables := [(tid.roster, { work := [(32 * 5 + 0xC, 100)] }), (tid.mpptParam, { work := [(16 * 5, 2), (16 * 5 + 1, 10), (16 * 5 + 2, 3), (16 * 5 + 3, 9), (16 * 5 + 8, 60), (16 * 5 + 10, 4)] })], pwr := { cells := [(5, { v := 50, readings := [3], scan := [] })] } }, 0, 5, by decide +kernel⟩,
   ⟨{ given [(F.CELLPWR_CELL_TRK 5, 3), (F.HOST_TABLE_OK_OK, 0xFFF)] with elapsed := 10000000, tables := [(tid.roster, { work := [(32 * 5 + 0xC, 100)] }), (tid.mpptParam, { work := [(16 * 5, 2), (16 * 5 + 1, 10), (16 * 5 + 2, 3), (16 * 5 + 3, 9), (16 * 5 + 8, 60), (16 * 5 + 10, 4)] })], pwr := { cells := [(5, { v := 50, readings := [3], scan := [(1, 5), (9, 6), (3, 7)] })] } }, 0, 5, by decide +kernel⟩,
   ⟨{ given [(F.CELLPWR_CELL_TRK 5, 4), (F.HOST_TABLE_OK_OK, 0xFFF)] with elapsed := 10000000, tables := [(tid.roster, { work := [(32 * 5 + 0xC, 100)] }), (tid.mpptParam, { work := [(16 * 5, 2), (16 * 5 + 1, 10), (16 * 5 + 2, 3), (16 * 5 + 3, 9), (16 * 5 + 8, 60), (16 * 5 + 10, 4)] })], pwr := { cells := [(5, { v := 50, readings := [3], probe := 6 })] } }, 0, 5, by decide +kernel⟩⟩

theorem meets_TrackersStepAndExcursionsFallDue_2 :
    (∃ (s : State) (t : Nat) (c : Fin 128), let a := s.advance t; let x := a.pwrCell c; a.trk c = trk.probe ∧ a.tableau = false ∧ x.lastStep + a.mp8 c 1 * 1000000 ≤ a.elapsed ∧ x.readings ≠ [] ∧ x.probe = 7) ∧
    (∃ (s : State) (t : Nat) (c : Fin 128), let a := s.advance t; let x := a.pwrCell c; a.trk c ≠ trk.off ∧ (a.mp8 c 0).testBit 1 = true ∧ a.bit F.CELLPWR_CTRL_SCAN_EN = true ∧ a.tableau = false ∧ a.due x.scanBase (a.mp16 c 8 * second) = true ∧ (∀ d ∈ x.due, d.1 = false)) ∧
    (∃ (s : State) (t : Nat) (c : Fin 128), let a := s.advance t; let x := a.pwrCell c; a.trk c = trk.follow ∧ a.tableau = false ∧ x.due = none ∧ a.due x.probeBase (a.get F.CELLPWR_SCAN_PROBE_INT * second) = true) :=
  ⟨⟨{ given [(F.CELLPWR_CELL_TRK 5, 4), (F.HOST_TABLE_OK_OK, 0xFFF)] with elapsed := 10000000, tables := [(tid.roster, { work := [(32 * 5 + 0xC, 100)] }), (tid.mpptParam, { work := [(16 * 5, 2), (16 * 5 + 1, 10), (16 * 5 + 2, 3), (16 * 5 + 3, 9), (16 * 5 + 8, 60), (16 * 5 + 10, 4)] })], pwr := { cells := [(5, { v := 50, readings := [3], probe := 7 })] } }, 0, 5, by decide +kernel⟩,
   ⟨{ given [(F.CELLPWR_CELL_TRK 5, 1), (F.HOST_TABLE_OK_OK, 0xFFF), (F.CELLPWR_CTRL_SCAN_EN, 1)] with elapsed := 60 * second, tables := [(tid.roster, { work := [(32 * 5 + 0xC, 100)] }), (tid.mpptParam, { work := [(16 * 5, 2), (16 * 5 + 1, 10), (16 * 5 + 2, 3), (16 * 5 + 3, 9), (16 * 5 + 8, 60), (16 * 5 + 10, 4)] })], pwr := { cells := [(5, { scanBase := some 0, due := some (false, 3) })] } }, 0, 5, by decide +kernel⟩,
   ⟨{ given [(F.CELLPWR_CELL_TRK 5, 2), (F.CELLPWR_SCAN_PROBE_INT, 5)] with elapsed := 5 * second, pwr := { cells := [(5, { probeBase := some 0 })] } }, 0, 5, by decide +kernel⟩⟩

theorem meets_DumpSwitches :
    (∃ (s : State) (t : Nat) (t0 : Nat) (c : Fin 128), let a := s.advance t; (a.pwrCell c).onSince = some t0 ∧ a.dumpState c = dump.on ∧ a.tableau = false ∧ a.get F.CELLPWR_DUMP_TIME_MAX * 1000000 ≤ (a.pwrCell c).onTotal + (a.elapsed - t0)) ∧
    (∃ (s : State) (t : Nat), let a := s.advance t; a.tableau = false ∧ (a.bit F.CELLPWR_STATUS_DUMP_ARMED = true ∧ a.dumpArmed = false ∧ a.dumpState 127 = dump.on)) ∧
    (∃ (s : State) (t : Nat), let a := s.advance t; a.tableau = false ∧ a.bit F.CELLPWR_STATUS_DUMP_ARMED = a.dumpArmed) ∧
    (∃ (s : State) (t : Nat) (c : Fin 128), let a := s.advance t; a.dumpState c = dump.stuck ∧ (a.pwrCell c).lastResend + 1000000 ≤ a.elapsed ∧ a.tableau = false) ∧
    (∃ (s : State) (t : Nat) (data : Word), let a := s.advance t; let c := bitsOf data.toNat 0 7; a.tableau = false ∧ data.getLsbD 31 = true ∧ a.curtainDown = true ∧ (a.dumpState c = dump.dead ∨ a.dumpState c = dump.stuck) ∧ a.dumpState c = dump.dead) ∧
    (∃ (s : State) (t : Nat) (data : Word), let a := s.advance t; let c := bitsOf data.toNat 0 7; a.tableau = false ∧ data.getLsbD 31 = true ∧ a.curtainDown = true ∧ (a.dumpState c = dump.dead ∨ a.dumpState c = dump.stuck) ∧ a.dumpState c = dump.stuck) :=
  ⟨⟨{ given [(F.CELLPWR_CELL_DUMP 127, 1), (F.CELLPWR_DUMP_TIME_MAX, 1000)] with elapsed := second, pwr := { cells := [(127, { onSince := some 400000000, onTotal := 400000000 })] } }, 0, 400000000, 127, by decide +kernel⟩,
   ⟨given [(F.CELLPWR_STATUS_DUMP_ARMED, 1), (F.CELLPWR_CELL_DUMP 127, 1)], 0, by decide +kernel⟩,
   ⟨given [], 0, by decide +kernel⟩,
   ⟨{ given [(F.CELLPWR_CELL_DUMP 127, 3)] with elapsed := 1000000 }, 0, 127, by decide +kernel⟩,
   ⟨given [(F.CELLPWR_CELL_DUMP 127, 2)], 0, 0x8000007F#32, by decide +kernel⟩,
   ⟨given [(F.CELLPWR_CELL_DUMP 0, 3)], 0, 0x80000000#32, by decide +kernel⟩⟩

theorem meets_DumpSwitches_2 :
    (∃ (s : State) (t : Nat) (data : Word), let a := s.advance t; let c := bitsOf data.toNat 0 7; a.tableau = false ∧ (data.getLsbD 31 = false ∨ a.curtainDown = true ∧ ¬(a.dumpState c = dump.dead ∨ a.dumpState c = dump.stuck)) ∧ a.curtainDown = true) ∧
    (∃ (s : State) (t : Nat) (data : Word), let a := s.advance t; let c := bitsOf data.toNat 0 7; a.tableau = false ∧ (data.getLsbD 31 = false ∨ a.curtainDown = true ∧ ¬(a.dumpState c = dump.dead ∨ a.dumpState c = dump.stuck)) ∧ data.getLsbD 31 = false) ∧
    (∃ (s : State) (t : Nat) (data : Word), let a := s.advance t; a.tableau = false ∧ data.getLsbD 31 = true ∧ a.curtainDown = false) :=
  ⟨⟨given [], 0, 0x80000000#32, by decide +kernel⟩,
   ⟨given [(F.CELLPWR_CELL_DUMP 0, 3)], 0, 0#32, by decide +kernel⟩,
   ⟨given [(F.CURTAIN_STATUS_STATE, 2)], 0, 0x80000000#32, by decide +kernel⟩⟩

theorem meets_IntervalsCloseIntoSealedRecords :
    (∃ (s : State) (t : Nat) (h : MInterval) (rest : List MInterval), let a := s.advance t; a.meter.stepAt = none ∧ a.meter.core.ivals = h :: rest ∧ h.stop ≤ a.datum ∧ a.caughtUp h.stop = true ∧ a.tableau = false ∧ a.ghost.absent = false) ∧
    (∃ (s : State) (t : Nat) (h : MInterval) (rest : List MInterval) (u : SubPeriod) (us : List SubPeriod), let a := s.advance t; a.meter.core.ivals = h :: rest ∧ h.subs = u :: us ∧ u.stop ≤ a.meterNow ∧ a.caughtUp u.stop = true ∧ a.tableau = false ∧ a.ghost.absent = false ∧ ((∀ x < 3, (a.mPhase x).pend = none) ∧ a.meter.inst = none ∧ u.whole = true ∧ u.fin = none)) :=
  ⟨⟨{ given [] with datum := 900 * second, meter := { core := { ivals := [{ start := 0, stop := 900 * second, len := 900 * second, subs := [{ start := 0, stop := 900 * second }] }] } }, ghost := { absent := false } }, 0, { start := 0, stop := 900 * second, len := 900 * second, subs := [{ start := 0, stop := 900 * second }] }, [], by decide +kernel⟩,
   ⟨{ given [] with datum := 900 * second, meter := { core := { ivals := [{ start := 0, stop := 900 * second, len := 900 * second, subs := [{ start := 0, stop := 900 * second }] }] } }, ghost := { absent := false } }, 0, { start := 0, stop := 900 * second, len := 900 * second, subs := [{ start := 0, stop := 900 * second }] }, [], { start := 0, stop := 900 * second }, [], by decide +kernel⟩⟩

theorem meets_SnapshotsAreTakenAndWritten :
    (∃ (s : State) (t : Nat) (d : Desc), d.target = 0 ∧ d.p0.toNat ≤ 1 ∧ d.p1 = 0 ∧ d.len.toNat = (if d.p0.getLsbD 0 then 400 else 144) ∧ d.p0 = 0) ∧
    (∃ (s : State) (t : Nat) (d : Desc), d.target = 0 ∧ d.p0.toNat ≤ 1 ∧ d.p1 = 0 ∧ d.len.toNat = (if d.p0.getLsbD 0 then 400 else 144) ∧ d.p0 = 1) ∧
    (∃ (s : State) (t : Nat) (d : Desc) (status : Nat) (detail : Nat), let need := if d.p0.getLsbD 0 then 400 else 144; firstFail [(d.target ≠ 0, st.targetRange, 0), (1 < d.p0.toNat ∨ d.p1 ≠ 0, st.targetRange, 0x10), (d.len.toNat ≠ need, st.lenRange, need)] = some (status, detail) ∧ detail = 0) ∧
    (∃ (s : State) (t : Nat) (d : Desc) (status : Nat) (detail : Nat), let need := if d.p0.getLsbD 0 then 400 else 144; firstFail [(d.target ≠ 0, st.targetRange, 0), (1 < d.p0.toNat ∨ d.p1 ≠ 0, st.targetRange, 0x10), (d.len.toNat ≠ need, st.lenRange, need)] = some (status, detail) ∧ detail = 0x10) ∧
    (∃ (s : State) (t : Nat) (d : Desc) (status : Nat) (detail : Nat), let need := if d.p0.getLsbD 0 then 400 else 144; firstFail [(d.target ≠ 0, st.targetRange, 0), (1 < d.p0.toNat ∨ d.p1 ≠ 0, st.targetRange, 0x10), (d.len.toNat ≠ need, st.lenRange, need)] = some (status, detail) ∧ detail = 400) ∧
    (∃ (s : State) (t : Nat) (d : Desc) (status : Nat) (detail : Nat), let need := if d.p0.getLsbD 0 then 400 else 144; firstFail [(d.target ≠ 0, st.targetRange, 0), (1 < d.p0.toNat ∨ d.p1 ≠ 0, st.targetRange, 0x10), (d.len.toNat ≠ need, st.lenRange, need)] = some (status, detail) ∧ detail = 144) :=
  ⟨⟨given [], 0, { opc := 11, len := 144 }, by decide +kernel⟩,
   ⟨given [], 0, { opc := 11, p0 := 1, len := 400 }, by decide +kernel⟩,
   ⟨given [], 0, { opc := 11, target := 1, len := 144 }, st.targetRange, 0, by decide +kernel⟩,
   ⟨given [], 0, { opc := 11, p0 := 2, len := 144 }, st.targetRange, 0x10, by decide +kernel⟩,
   ⟨given [], 0, { opc := 11, p0 := 1, len := 144 }, st.lenRange, 400, by decide +kernel⟩,
   ⟨given [], 0, { opc := 11, len := 400 }, st.lenRange, 144, by decide +kernel⟩⟩

theorem meets_SnapshotsAreTakenAndWritten_2 :
    (∃ (s : State) (t : Nat) (stamp : Nat) (w : SnapWait) (acc : List Nat), let a := s.advance t; (a.meter.snaps.find? fun w => w.latch.isSome) = some w ∧ w.latch = some (stamp, acc) ∧ a.tableau = false ∧ (a.meter.quantumNew = true ∧ w.desc ∈ a.host.dispatched ∧ a.busOpen = true)) ∧
    (∃ (s : State) (t : Nat) (stamp : Nat) (w : SnapWait) (acc : List Nat), let a := s.advance t; (a.meter.snaps.find? fun w => w.latch.isSome) = some w ∧ w.latch = some (stamp, acc) ∧ a.tableau = false ∧ (a.meter.quantumNew = true ∧ w.desc ∈ a.host.dispatched ∧ a.busOpen = true ∧ w = ({ desc := { opc := 11, p0 := 1, len := 400, hostAddr := 4096 }, since := 0, latch := some (77, List.replicate 32 5000000) } : SnapWait))) :=
  ⟨⟨{ given [(F.HOST_STATUS_BME, 1)] with datum := 77, meter := { quantumNew := true, snaps := [({ desc := { opc := 11, p0 := 0, len := 144, hostAddr := 4096 }, since := 0, latch := some (77, List.replicate 32 5000000) } : SnapWait)] }, host := { dispatched := [({ desc := { opc := 11, p0 := 0, len := 144, hostAddr := 4096 }, since := 0, latch := some (77, List.replicate 32 5000000) } : SnapWait).desc] } }, 0, 77, ({ desc := { opc := 11, p0 := 0, len := 144, hostAddr := 4096 }, since := 0, latch := some (77, List.replicate 32 5000000) } : SnapWait), List.replicate 32 5000000, by decide +kernel⟩,
   ⟨{ given [(F.HOST_STATUS_BME, 1)] with datum := 77, meter := { quantumNew := true, snaps := [({ desc := { opc := 11, p0 := 1, len := 400, hostAddr := 4096 }, since := 0, latch := some (77, List.replicate 32 5000000) } : SnapWait)] }, host := { dispatched := [({ desc := { opc := 11, p0 := 1, len := 400, hostAddr := 4096 }, since := 0, latch := some (77, List.replicate 32 5000000) } : SnapWait).desc] } }, 0, 77, ({ desc := { opc := 11, p0 := 1, len := 400, hostAddr := 4096 }, since := 0, latch := some (77, List.replicate 32 5000000) } : SnapWait), List.replicate 32 5000000, by decide +kernel⟩⟩

theorem meets_PulsesAndRetention :
    (∃ (s : State) (t : Nat) (n : Fin 4), let a := s.advance t; let k := Sparse.get (fun _ => 0) a.meter.core.backlog n; a.pulseRuns n = true ∧ k ≠ 0 ∧ (a.pulseOut n).until_ = none ∧ (a.pulseOut n).idle + a.pulseWidth n ≤ a.elapsed ∧ a.tableau = false) ∧
    (∃ (s : State) (t : Nat) (e : Nat) (n : Fin 4), let a := s.advance t; (a.pulseOut n).until_ = some e ∧ e ≤ a.elapsed ∧ a.tableau = false) ∧
    (∃ (s : State) (t : Nat), let a := s.advance t; a.meter.lastRefresh + second ≤ a.elapsed ∧ a.bit F.GHOST_STATUS_PF_WARN = false ∧ a.meterLive = true) ∧
    (∃ (s : State) (t : Nat), let a := s.advance t; let gen := fun (c : Option (Nat × MeterCore)) => (c.map Prod.fst).getD 0; a.meter.lastRefresh + second ≤ a.elapsed ∧ a.bit F.GHOST_STATUS_PF_WARN = false ∧ a.meterLive = true ∧ gen a.ghost.copyB < gen a.ghost.copyA) :=
  ⟨⟨{ given [(F.HOST_TABLE_OK_OK, 256), (F.DATUM_EVIO_FUNC_FUNC3, 1)] with elapsed := 50000, tables := [(tid.pulseMap, { work := [(49, 3), (50, 5), (52, 1)] })], meter := { core := { backlog := [(3, 2)] } } }, 0, 3, by decide +kernel⟩,
   ⟨{ given [] with elapsed := 50000, tables := [(tid.pulseMap, { work := [(49, 3), (50, 5), (52, 1)] })], meter := { pulses := [(3, { until_ := some 50000 })] } }, 0, 50000, 3, by decide +kernel⟩,
   ⟨{ given [] with elapsed := second, power := { startDue := false }, ghost := { absent := false } }, 0, by decide +kernel⟩,
   ⟨{ given [] with elapsed := second, power := { startDue := false }, ghost := { absent := false, copyA := some (3, {}), copyB := some (2, {}) } }, 0, by decide +kernel⟩⟩

theorem meets_ExportReadAndMeterSettings :
    (∃ (s : State) (t : Nat) (data : Word), let a := s.advance t; a.tableau = false ∧ data = 1) ∧
    (∃ (s : State) (t : Nat) (data : Word), let a := s.advance t; a.tableau = false ∧ data = 0) ∧
    (∃ (s : State) (t : Nat) (r : Rec), let a := s.advance t; a.tableau = false ∧ a.bit F.METER_CTRL_EXPORT_EN = true ∧ (a.meter.atlas.find? fun r => !r.sent) = some r ∧ a.ringRoom 4 = true) ∧
    (∃ (s : State) (t : Nat) (r : Rec), let a := s.advance t; a.tableau = false ∧ a.bit F.METER_CTRL_EXPORT_EN = true ∧ (a.meter.atlas.find? fun r => !r.sent) = some r ∧ a.ringRoom 4 = false) ∧
    (∃ (s : State) (t : Nat), let a := s.advance t; (a.tableau = true ∨ a.bit F.METER_CTRL_EXPORT_EN = false ∨ ∀ r ∈ a.meter.atlas, r.sent = true) ∧ a.bit F.METER_CTRL_EXPORT_EN = false) ∧
    (∃ (s : State) (t : Nat) (d : Desc), let a := s.advance t; let n := d.p1.toNat; let l := a.meter.atlas.dropWhile fun r => r.seq != d.p0.toNat; d.target = 0 ∧ 1 ≤ n ∧ n ≤ 1023 ∧ d.len.toNat = 64 * n ∧ n ≤ l.length ∧ (d ∈ a.host.dispatched ∧ a.busOpen = true)) :=
  ⟨⟨given [], 0, 1#32, by decide +kernel⟩,
   ⟨given [(F.METER_CTRL_EXPORT_EN, 1)], 0, 0#32, by decide +kernel⟩,
   ⟨{ given [(F.METER_CTRL_EXPORT_EN, 1), (F.HOST_RING_CFG_EN 4, 1), (F.HOST_RING_CFG_LOG2 4, 4)] with meter := { atlas := [({ seq := 7, body := List.replicate 56 0, mac := some (List.replicate 8 0) } : Rec)] } }, 0, ({ seq := 7, body := List.replicate 56 0, mac := some (List.replicate 8 0) } : Rec), by decide +kernel⟩,
   ⟨{ given [(F.METER_CTRL_EXPORT_EN, 1)] with meter := { atlas := [({ seq := 7, body := List.replicate 56 0, mac := some (List.replicate 8 0) } : Rec)] } }, 0, ({ seq := 7, body := List.replicate 56 0, mac := some (List.replicate 8 0) } : Rec), by decide +kernel⟩,
   ⟨given [], 0, by decide +kernel⟩,
   ⟨{ given [(F.HOST_STATUS_BME, 1)] with meter := { atlas := [({ seq := 7, body := List.replicate 56 0, mac := some (List.replicate 8 0) } : Rec), ({ seq := 8, body := List.replicate 56 0, mac := some (List.replicate 8 0) } : Rec)] }, host := { dispatched := [{ opc := 7, p0 := 8, p1 := 1, len := 64 }] } }, 0, { opc := 7, p0 := 8, p1 := 1, len := 64 }, by decide +kernel⟩⟩

theorem meets_ExportReadAndMeterSettings_2 :
    (∃ (s : State) (t : Nat) (d : Desc) (status : Nat) (detail : Nat), let a := s.advance t; let n := d.p1.toNat; let l := a.meter.atlas.dropWhile fun r => r.seq != d.p0.toNat; firstFail [(d.target ≠ 0, st.targetRange, 0), (n = 0 ∨ 1023 < n, st.lenRange, 0), (d.len.toNat ≠ 64 * n, st.lenRange, 0), (a.meter.atlas = [], st.lenRange, 0), (l = [], st.targetRange, (a.meter.atlas.head?.map Rec.seq).getD 0), (l.length < n, st.lenRange, l.length)] = some (status, detail) ∧ (d.target = 1 ∧ a.meter.atlas.length = 0)) ∧
    (∃ (s : State) (t : Nat) (d : Desc) (status : Nat) (detail : Nat), let a := s.advance t; let n := d.p1.toNat; let l := a.meter.atlas.dropWhile fun r => r.seq != d.p0.toNat; firstFail [(d.target ≠ 0, st.targetRange, 0), (n = 0 ∨ 1023 < n, st.lenRange, 0), (d.len.toNat ≠ 64 * n, st.lenRange, 0), (a.meter.atlas = [], st.lenRange, 0), (l = [], st.targetRange, (a.meter.atlas.head?.map Rec.seq).getD 0), (l.length < n, st.lenRange, l.length)] = some (status, detail) ∧ (d.p1 = 0 ∧ a.meter.atlas.length = 0)) ∧
    (∃ (s : State) (t : Nat) (d : Desc) (status : Nat) (detail : Nat), let a := s.advance t; let n := d.p1.toNat; let l := a.meter.atlas.dropWhile fun r => r.seq != d.p0.toNat; firstFail [(d.target ≠ 0, st.targetRange, 0), (n = 0 ∨ 1023 < n, st.lenRange, 0), (d.len.toNat ≠ 64 * n, st.lenRange, 0), (a.meter.atlas = [], st.lenRange, 0), (l = [], st.targetRange, (a.meter.atlas.head?.map Rec.seq).getD 0), (l.length < n, st.lenRange, l.length)] = some (status, detail) ∧ (d.p1 = 1024 ∧ a.meter.atlas.length = 0)) ∧
    (∃ (s : State) (t : Nat) (d : Desc) (status : Nat) (detail : Nat), let a := s.advance t; let n := d.p1.toNat; let l := a.meter.atlas.dropWhile fun r => r.seq != d.p0.toNat; firstFail [(d.target ≠ 0, st.targetRange, 0), (n = 0 ∨ 1023 < n, st.lenRange, 0), (d.len.toNat ≠ 64 * n, st.lenRange, 0), (a.meter.atlas = [], st.lenRange, 0), (l = [], st.targetRange, (a.meter.atlas.head?.map Rec.seq).getD 0), (l.length < n, st.lenRange, l.length)] = some (status, detail) ∧ (d.p1 = 1 ∧ d.len = 128 ∧ a.meter.atlas.length = 0)) ∧
    (∃ (s : State) (t : Nat) (d : Desc) (status : Nat) (detail : Nat), let a := s.advance t; let n := d.p1.toNat; let l := a.meter.atlas.dropWhile fun r => r.seq != d.p0.toNat; firstFail [(d.target ≠ 0, st.targetRange, 0), (n = 0 ∨ 1023 < n, st.lenRange, 0), (d.len.toNat ≠ 64 * n, st.lenRange, 0), (a.meter.atlas = [], st.lenRange, 0), (l = [], st.targetRange, (a.meter.atlas.head?.map Rec.seq).getD 0), (l.length < n, st.lenRange, l.length)] = some (status, detail) ∧ (d.p1 = 1 ∧ d.len = 64 ∧ a.meter.atlas.length = 0)) ∧
    (∃ (s : State) (t : Nat) (d : Desc) (status : Nat) (detail : Nat), let a := s.advance t; let n := d.p1.toNat; let l := a.meter.atlas.dropWhile fun r => r.seq != d.p0.toNat; firstFail [(d.target ≠ 0, st.targetRange, 0), (n = 0 ∨ 1023 < n, st.lenRange, 0), (d.len.toNat ≠ 64 * n, st.lenRange, 0), (a.meter.atlas = [], st.lenRange, 0), (l = [], st.targetRange, (a.meter.atlas.head?.map Rec.seq).getD 0), (l.length < n, st.lenRange, l.length)] = some (status, detail) ∧ (d.p0 = 6 ∧ d.p1 = 1 ∧ d.len = 64 ∧ a.meter.atlas.length = 2)) :=
  ⟨⟨given [], 0, { opc := 7, target := 1 }, st.targetRange, 0, by decide +kernel⟩,
   ⟨given [], 0, { opc := 7, p1 := 0 }, st.lenRange, 0, by decide +kernel⟩,
   ⟨given [], 0, { opc := 7, p1 := 1024 }, st.lenRange, 0, by decide +kernel⟩,
   ⟨given [], 0, { opc := 7, p1 := 1, len := 128 }, st.lenRange, 0, by decide +kernel⟩,
   ⟨given [], 0, { opc := 7, p1 := 1, len := 64 }, st.lenRange, 0, by decide +kernel⟩,
   ⟨{ given [] with meter := { atlas := [({ seq := 7, body := List.replicate 56 0, mac := some (List.replicate 8 0) } : Rec), ({ seq := 8, body := List.replicate 56 0, mac := some (List.replicate 8 0) } : Rec)] } }, 0, { opc := 7, p0 := 6, p1 := 1, len := 64 }, st.targetRange, 7, by decide +kernel⟩⟩

theorem meets_ExportReadAndMeterSettings_3 :
    (∃ (s : State) (t : Nat) (d : Desc) (status : Nat) (detail : Nat), let a := s.advance t; let n := d.p1.toNat; let l := a.meter.atlas.dropWhile fun r => r.seq != d.p0.toNat; firstFail [(d.target ≠ 0, st.targetRange, 0), (n = 0 ∨ 1023 < n, st.lenRange, 0), (d.len.toNat ≠ 64 * n, st.lenRange, 0), (a.meter.atlas = [], st.lenRange, 0), (l = [], st.targetRange, (a.meter.atlas.head?.map Rec.seq).getD 0), (l.length < n, st.lenRange, l.length)] = some (status, detail) ∧ (d.p0 = 8 ∧ d.p1 = 2 ∧ d.len = 128 ∧ a.meter.atlas.length = 2)) ∧
    (∃ (s : State) (t : Nat) (data : Word), let a := s.advance t; let i := bitsOf data.toNat 0 12; let u := bitsOf data.toNat 16 12; a.tableau = false ∧ (a.curtainDown = true ∧ 1 ≤ i ∧ i ≤ 3600 ∧ 3600 % i = 0 ∧ 1 ≤ u ∧ u ≤ 3600 ∧ i % u = 0)) ∧
    (∃ (s : State) (t : Nat) (data : Word), let a := s.advance t; let i := bitsOf data.toNat 0 12; let u := bitsOf data.toNat 16 12; a.tableau = false ∧ i % u ≠ 0) :=
  ⟨⟨{ given [] with meter := { atlas := [({ seq := 7, body := List.replicate 56 0, mac := some (List.replicate 8 0) } : Rec), ({ seq := 8, body := List.replicate 56 0, mac := some (List.replicate 8 0) } : Rec)] } }, 0, { opc := 7, p0 := 8, p1 := 2, len := 128 }, st.lenRange, 1, by decide +kernel⟩,
   ⟨given [], 0, 0x83840E10#32, by decide +kernel⟩,
   ⟨given [], 0, 0x00070384#32, by decide +kernel⟩⟩

theorem meets_ChannelACycles :
    (∃ (s : State) (t : Nat), let a := s.advance t; (a.tableau = false ∧ a.power.startDue = false)) ∧
    (∃ (s : State) (t : Nat), let a := s.advance t; a.tableau = true) ∧
    (∃ (s : State) (t : Nat) (p : CurtainIn), let a := s.advance t; let m := a.takePins p.edges; a.tableau = false ∧ a.power.startDue = false ∧ m.curtain = cur.lowered ∧ p.selfOk = true ∧ m.curt.causes = [] ∧ m.curt.mismatchA = false ∧ m.curt.mismatchB = false ∧ m.curt.edgeA = false ∧ m.curt.released = none ∧ (m.holdBits.any id) = false) ∧
    (∃ (s : State) (t : Nat) (p : CurtainIn), let a := s.advance t; let m := a.takePins p.edges; a.tableau = false ∧ a.power.startDue = false ∧ m.curtain ≠ cur.locked ∧ m.curt.reaction < 3 ∧ (m.curt.causes.any fun c => classOf c.1 == 3) = true ∧ (m.curt.mismatchA = false ∧ m.curt.mismatchB = false ∧ p.selfOk = true ∧ m.btrip = false)) ∧
    (∃ (s : State) (t : Nat), let a := s.advance t; a.tableau = false ∧ a.power.startDue = false ∧ a.curtain ≠ cur.locked ∧ a.curt.reaction < 3 ∧ (∃ w ∈ [a.curt.a.estopA, a.curt.a.estopB], w.raw = false ∧ w.low = false ∧ w.since + 200000 ≤ a.elapsed) ∧ a.curt.a.estopA.raw = false) ∧
    (∃ (s : State) (t : Nat), let a := s.advance t; a.tableau = false ∧ a.power.startDue = false ∧ a.curtain ≠ cur.locked ∧ a.curt.reaction < 3 ∧ (∃ w ∈ [a.curt.a.estopA, a.curt.a.estopB], w.raw = false ∧ w.low = false ∧ w.since + 200000 ≤ a.elapsed) ∧ a.curt.a.estopB.raw = false) :=
  ⟨⟨{ given [] with power := { startDue := false }, elapsed := 200000 }, 0, by decide +kernel⟩,
   ⟨given [(F.POWER_STATUS_TABLEAU, 1)], 0, by decide +kernel⟩,
   ⟨{ given [(F.CURTAIN_STATUS_STATE, 1), (F.CURTAIN_STATUS_ARMED, 1), (F.CURTAIN_STATUS_BTRIP, 0), (F.CURTAIN_STATUS_PARAM_OK, 1), (F.CURTAIN_HOLD_GAP, 0), (F.GRID_STATUS_PERMIT, 1), (F.CUR_CTRL_EN, 1), (F.CAST_CTRL_EN, 1), (F.HOST_TABLE_OK_OK, 0xFFF), (F.WING_CTRL_ENABLE, 1), (F.WING_STATUS_TRAINED, 1)] with power := { startDue := false }, elapsed := 10 * ms, curt := { a := pinsAt true false true false, b := pinsAt true false true false } }, 0, { edges := [], selfOk := true }, by decide +kernel⟩,
   ⟨{ given [(F.CURTAIN_STATUS_STATE, 3), (F.CURTAIN_STATUS_BTRIP, 0), (F.CURTAIN_STATUS_PARAM_OK, 1)] with power := { startDue := false }, elapsed := 10 * ms, curt := { kdrva := true, kdrvb := true, enb := true, a := pinsAt true false false true, b := pinsAt true false false true, causes := [(4, 7), (15, 6)] } }, 0, { edges := [], selfOk := true }, by decide +kernel⟩,
   ⟨{ given [(F.CURTAIN_STATUS_STATE, 3), (F.CURTAIN_STATUS_BTRIP, 0), (F.CURTAIN_STATUS_PARAM_OK, 1)] with power := { startDue := false }, elapsed := 200000, curt := { kdrva := true, kdrvb := true, enb := true, a := { pinsAt true false false true with estopA := { raw := false, since := 0, out := some true } }, b := pinsAt true false false true } }, 0, by decide +kernel⟩,
   ⟨{ given [(F.CURTAIN_STATUS_STATE, 3), (F.CURTAIN_STATUS_BTRIP, 0), (F.CURTAIN_STATUS_PARAM_OK, 1)] with power := { startDue := false }, elapsed := 200000, curt := { kdrva := true, kdrvb := true, enb := true, a := { pinsAt true false false true with estopB := { raw := false, since := 0, out := some true } }, b := pinsAt true false false true } }, 0, by decide +kernel⟩⟩

theorem meets_ChannelACycles_2 :
    (∃ (s : State) (t : Nat) (p : CurtainIn), let a := s.advance t; let m := a.takePins p.edges; a.tableau = false ∧ a.power.startDue = false ∧ m.curtain = cur.raised ∧ m.curt.reaction = 0 ∧ m.engaged = true ∧ m.curt.mismatchA = false ∧ m.curt.mismatchB = false ∧ p.selfOk = true ∧ m.btrip = false ∧ m.curt.causes ≠ [] ∧ (∀ c ∈ m.curt.causes, classOf c.1 = 1)) ∧
    (∃ (s : State) (t : Nat) (p : CurtainIn), let a := s.advance t; let m := a.takePins p.edges; a.tableau = false ∧ a.power.startDue = false ∧ m.curtain = cur.raised ∧ m.curt.reaction < 2 ∧ m.curt.mismatchA = false ∧ m.curt.mismatchB = false ∧ p.selfOk = true ∧ m.btrip = false ∧ (m.curt.causes.any fun c => classOf c.1 == 2) = true ∧ (m.curt.causes.all fun c => classOf c.1 ≠ 3) = true) :=
  ⟨⟨{ given [(F.CURTAIN_STATUS_STATE, 3), (F.CURTAIN_STATUS_BTRIP, 0), (F.CURTAIN_STATUS_PARAM_OK, 1), (F.CUR_STATUS_STATE, 1)] with power := { startDue := false }, elapsed := 10 * ms, curt := { kdrva := true, kdrvb := true, enb := true, a := pinsAt true false false true, b := pinsAt true false false true, causes := [(20, 7), (17, 6)] } }, 0, { edges := [], selfOk := true }, by decide +kernel⟩,
   ⟨{ given [(F.CURTAIN_STATUS_STATE, 3), (F.CURTAIN_STATUS_BTRIP, 0), (F.CURTAIN_STATUS_PARAM_OK, 1), (F.CUR_STATUS_STATE, 1)] with power := { startDue := false }, elapsed := 10 * ms, curt := { kdrva := true, kdrvb := true, enb := true, a := pinsAt true false false true, b := pinsAt true false false true, causes := [(20, 7), (13, 6)], reaction := 1 } }, 0, { edges := [], selfOk := true }, by decide +kernel⟩⟩

theorem meets_ContactorSequence :
    (∃ (s : State) (t : Nat), let a := s.advance t; a.curtain = cur.raising ∧ a.curtStep = step.sync ∧ a.curt.raisingAt + a.syncTime ≤ a.curt.cycle ∧ a.tableau = false ∧ a.engaged = true) ∧
    (∃ (s : State) (t : Nat), let a := s.advance t; a.curtain = cur.raising ∧ a.curtStep = step.sync ∧ a.curt.raisingAt + a.syncTime ≤ a.curt.cycle ∧ a.tableau = false ∧ a.engaged = false ∧ a.curt.energised = false ∧ a.curt.reaction < 2) ∧
    (∃ (s : State) (t : Nat) (k : ContactCheck), let a := s.advance t; a.curt.check = some k ∧ k.failed = false ∧ a.tableau = false ∧ k.start + a.checkWindow k / 2 ≤ a.curt.cycle ∧ (a.feedbackReads false = true ∧ a.curtain = cur.raising ∧ k.closing = true)) ∧
    (∃ (s : State) (t : Nat) (k : ContactCheck), let a := s.advance t; a.curt.check = some k ∧ k.failed = false ∧ a.tableau = false ∧ k.start + a.checkWindow k / 2 ≤ a.curt.cycle ∧ (a.feedbackReads false = false ∧ k.closing = true)) ∧
    (∃ (s : State) (t : Nat) (k : ContactCheck), let a := s.advance t; a.curt.check = some k ∧ k.failed = false ∧ a.tableau = false ∧ k.start + a.checkWindow k / 2 ≤ a.curt.cycle ∧ (a.feedbackReads true = true ∧ k.closing = false ∧ a.curtain = cur.lowering ∧ a.curtStep = step.openCheck)) ∧
    (∃ (s : State) (t : Nat) (k : ContactCheck), let a := s.advance t; a.curt.check = some k ∧ k.failed = true ∧ a.tableau = false ∧ k.start + a.checkWindow k ≤ a.curt.cycle + 2 * ms ∧ (a.feedbackReads (!k.closing) = true ∧ k.closing = true ∧ a.curtain = cur.raising)) :=
  ⟨⟨{ given [(F.CURTAIN_STATUS_STATE, 2), (F.CURTAIN_STATUS_STEP, 1), (F.CUR_STATUS_STATE, 1)] with elapsed := 50000000, tables := [(tid.safetyParam, { work := [(2, 100), (4, 80), (6, 50), (8, 244), (9, 1), (12, 10), (14, 5)] })], curt := { cycle := 50000000 } }, 0, by decide +kernel⟩,
   ⟨{ given [(F.CURTAIN_STATUS_STATE, 2), (F.CURTAIN_STATUS_STEP, 1)] with elapsed := 50000000, tables := [(tid.safetyParam, { work := [(2, 100), (4, 80), (6, 50), (8, 244), (9, 1), (12, 10), (14, 5)] })], curt := { cycle := 50000000 } }, 0, by decide +kernel⟩,
   ⟨{ given [(F.CURTAIN_STATUS_STATE, 2), (F.CURTAIN_STATUS_STEP, 2)] with tables := [(tid.safetyParam, { work := [(2, 100), (4, 80), (6, 50), (8, 244), (9, 1), (12, 10), (14, 5)] })], curt := { cycle := 50000000, check := some { closing := true, start := 0, failed := false }, a := pinsAt true false false true }, elapsed := 50000000 }, 0, { closing := true, start := 0, failed := false }, by decide +kernel⟩,
   ⟨{ given [(F.CURTAIN_STATUS_STATE, 2), (F.CURTAIN_STATUS_STEP, 2)] with tables := [(tid.safetyParam, { work := [(2, 100), (4, 80), (6, 50), (8, 244), (9, 1), (12, 10), (14, 5)] })], curt := { cycle := 50000000, check := some { closing := true, start := 0, failed := false }, a := pinsAt true false true false }, elapsed := 50000000 }, 0, { closing := true, start := 0, failed := false }, by decide +kernel⟩,
   ⟨{ given [(F.CURTAIN_STATUS_STATE, 4), (F.CURTAIN_STATUS_STEP, 4)] with tables := [(tid.safetyParam, { work := [(2, 100), (4, 80), (6, 50), (8, 244), (9, 1), (12, 10), (14, 5)] })], curt := { cycle := 50000000, check := some { closing := false, start := 0, failed := false }, a := pinsAt true false true false }, elapsed := 50000000 }, 0, { closing := false, start := 0, failed := false }, by decide +kernel⟩,
   ⟨{ given [(F.CURTAIN_STATUS_STATE, 2), (F.CURTAIN_STATUS_STEP, 2)] with tables := [(tid.safetyParam, { work := [(2, 100), (4, 80), (6, 50), (8, 244), (9, 1), (12, 10), (14, 5)] })], curt := { cycle := 98000000, check := some { closing := true, start := 0, failed := true }, a := pinsAt true false false true }, elapsed := 98000000 }, 0, { closing := true, start := 0, failed := true }, by decide +kernel⟩⟩

theorem meets_ContactorSequence_2 :
    (∃ (s : State) (t : Nat) (k : ContactCheck), let a := s.advance t; a.curt.check = some k ∧ k.failed = true ∧ a.tableau = false ∧ k.start + a.checkWindow k ≤ a.curt.cycle + 2 * ms ∧ (a.feedbackReads (!k.closing) = false ∧ a.curt.reaction < 3 ∧ k.closing = true)) ∧
    (∃ (s : State) (t : Nat) (k : ContactCheck), let a := s.advance t; a.curt.check = some k ∧ k.failed = true ∧ a.tableau = false ∧ k.start + a.checkWindow k ≤ a.curt.cycle + 2 * ms ∧ (a.feedbackReads (!k.closing) = false ∧ a.curt.reaction < 3 ∧ k.closing = false)) ∧
    (∃ (s : State) (t : Nat) (k : ContactCheck), let a := s.advance t; a.curt.check = some k ∧ k.failed = true ∧ a.tableau = false ∧ k.start + a.checkWindow k ≤ a.curt.cycle + 2 * ms ∧ (a.feedbackReads (!k.closing) = true ∧ k.closing = false)) ∧
    (∃ (s : State) (t : Nat) (x : Nat), let a := s.advance t; a.curt.raisedFail = some x ∧ a.curtain = cur.raised ∧ a.tableau = false ∧ x + a.checkClose / 2 ≤ a.curt.cycle ∧ a.feedbackReads false = true) ∧
    (∃ (s : State) (t : Nat) (x : Nat), let a := s.advance t; a.curt.raisedFail = some x ∧ a.curtain = cur.raised ∧ a.tableau = false ∧ x + a.checkClose / 2 ≤ a.curt.cycle ∧ (a.feedbackReads false = false ∧ a.curt.reaction < 3)) ∧
    (∃ (s : State) (t : Nat), let a := s.advance t; a.due a.curt.opened a.raiseGap = true) :=
  ⟨⟨{ given [(F.CURTAIN_STATUS_STATE, 2), (F.CURTAIN_STATUS_STEP, 2)] with tables := [(tid.safetyParam, { work := [(2, 100), (4, 80), (6, 50), (8, 244), (9, 1), (12, 10), (14, 5)] })], curt := { cycle := 98000000, check := some { closing := true, start := 0, failed := true }, a := pinsAt true false true false }, elapsed := 98000000 }, 0, { closing := true, start := 0, failed := true }, by decide +kernel⟩,
   ⟨{ given [(F.CURTAIN_STATUS_STATE, 1)] with tables := [(tid.safetyParam, { work := [(2, 100), (4, 80), (6, 50), (8, 244), (9, 1), (12, 10), (14, 5)] })], curt := { cycle := 98000000, check := some { closing := false, start := 0, failed := true }, a := pinsAt true false false true }, elapsed := 98000000 }, 0, { closing := false, start := 0, failed := true }, by decide +kernel⟩,
   ⟨{ given [(F.CURTAIN_STATUS_STATE, 1)] with tables := [(tid.safetyParam, { work := [(2, 100), (4, 80), (6, 50), (8, 244), (9, 1), (12, 10), (14, 5)] })], curt := { cycle := 98000000, check := some { closing := false, start := 0, failed := true }, a := pinsAt true false true false }, elapsed := 98000000 }, 0, { closing := false, start := 0, failed := true }, by decide +kernel⟩,
   ⟨{ given [(F.CURTAIN_STATUS_STATE, 3)] with tables := [(tid.safetyParam, { work := [(2, 100), (4, 80), (6, 50), (8, 244), (9, 1), (12, 10), (14, 5)] })], curt := { cycle := 50000000, raisedFail := some 0, a := pinsAt true false false true }, elapsed := 50000000 }, 0, 0, by decide +kernel⟩,
   ⟨{ given [(F.CURTAIN_STATUS_STATE, 3)] with tables := [(tid.safetyParam, { work := [(2, 100), (4, 80), (6, 50), (8, 244), (9, 1), (12, 10), (14, 5)] })], curt := { cycle := 50000000, raisedFail := some 0, a := pinsAt true false true false }, elapsed := 50000000 }, 0, 0, by decide +kernel⟩,
   ⟨{ given [(F.CURTAIN_HOLD_GAP, 1)] with elapsed := second, tables := [(tid.safetyParam, { work := [(2, 100), (4, 80), (6, 50), (8, 244), (9, 1), (12, 10), (14, 5)] })], curt := { opened := some 0 } }, 0, by decide +kernel⟩⟩

theorem meets_CurtainChecksAndChannelB :
    (∃ (s : State) (t : Nat), let a := s.advance t; a.due a.estopDiff a.estopDisc = true ∧ a.paramOk = true ∧ a.curt.discRaised = false ∧ a.tableau = false) ∧
    (∃ (s : State) (t : Nat), let a := s.advance t; a.due a.sresetHigh a.sresetStuck = true ∧ a.paramOk = true ∧ a.service = false ∧ a.curt.stuckRaised = false ∧ a.tableau = false) ∧
    (∃ (s : State) (t : Nat) (us : List TableUpset), let a := s.advance t; let m := a.each (us.filter fun u => u.id == tid.safetyParam) State.upset; a.tableau = false ∧ (m.paramOk = true ∧ m.paramCrcOk = true)) ∧
    (∃ (s : State) (t : Nat) (us : List TableUpset), let a := s.advance t; let m := a.each (us.filter fun u => u.id == tid.safetyParam) State.upset; let mem := m.tableMem tid.safetyParam; let stored := m.setTableWork tid.safetyParam { mem with work := mem.stored }; a.tableau = false ∧ (m.paramOk = true ∧ m.paramCrcOk = false ∧ stored.paramCrcOk = true)) ∧
    (∃ (s : State) (t : Nat) (us : List TableUpset), let a := s.advance t; let m := a.each (us.filter fun u => u.id == tid.safetyParam) State.upset; let mem := m.tableMem tid.safetyParam; let stored := m.setTableWork tid.safetyParam { mem with work := mem.stored }; a.tableau = false ∧ (m.paramOk = true ∧ m.paramCrcOk = false ∧ stored.paramCrcOk = false)) ∧
    (∃ (s : State) (t : Nat) (ok : Bool), let a := s.advance t; a.tableau = false ∧ ok = true) :=
  ⟨⟨{ given [(F.CURTAIN_STATUS_STATE, 3), (F.CURTAIN_STATUS_PARAM_OK, 1)] with elapsed := 500000000, tables := [(tid.safetyParam, { work := [(2, 100), (4, 80), (6, 50), (8, 244), (9, 1), (12, 10), (14, 5)] })], curt := { a := { pinsAt true false false true with estopB := still false } } }, 0, by decide +kernel⟩,
   ⟨{ given [(F.CURTAIN_STATUS_PARAM_OK, 1)] with elapsed := 5 * second, tables := [(tid.safetyParam, { work := [(2, 100), (4, 80), (6, 50), (8, 244), (9, 1), (12, 10), (14, 5)] })], curt := { a := pinsAt true true true false } }, 0, by decide +kernel⟩,
   ⟨{ given [(F.CURTAIN_STATUS_PARAM_OK, 1)] with tables := [(tid.safetyParam, { work := [(252, 241), (253, 89), (254, 99), (255, 166)], stored := [(252, 241), (253, 89), (254, 99), (255, 166)] })] }, 0, [], by decide +kernel⟩,
   ⟨{ given [(F.CURTAIN_STATUS_PARAM_OK, 1)] with tables := [(tid.safetyParam, { work := [(2, 1), (252, 241), (253, 89), (254, 99), (255, 166)], stored := [(252, 241), (253, 89), (254, 99), (255, 166)] })] }, 0, [], by decide +kernel⟩,
   ⟨{ given [(F.CURTAIN_STATUS_PARAM_OK, 1)] with tables := [(tid.safetyParam, { work := [(2, 1), (252, 241), (253, 89), (254, 99), (255, 166)], stored := [(2, 2), (252, 241), (253, 89), (254, 99), (255, 166)] })] }, 0, [], by decide +kernel⟩,
   ⟨given [], 0, true, by decide +kernel⟩⟩

theorem meets_CurtainChecksAndChannelB_2 :
    (∃ (s : State) (t : Nat) (ok : Bool), let a := s.advance t; a.tableau = false ∧ (ok = false ∧ a.curt.reaction < 3)) ∧
    (∃ (s : State) (t : Nat) (edges : List PinEdge), let a := s.advance t; let m := a.takePins edges; let on := m.curt.b.estopA.low || m.curt.b.estopB.low || m.curtainRoute || m.curt.tripa; (on = true ∧ a.btrip = false)) ∧
    (∃ (s : State) (t : Nat) (edges : List PinEdge), let a := s.advance t; let m := a.takePins edges; let on := m.curt.b.estopA.low || m.curt.b.estopB.low || m.curtainRoute || m.curt.tripa; on = false) ∧
    (∃ (s : State) (t : Nat), let a := s.advance t; a.curt.lastHb + 3 * ms ≤ a.elapsed ∧ a.tableau = false ∧ a.power.startDue = false ∧ a.btrip = false) ∧
    (∃ (s : State) (t : Nat), let a := s.advance t; a.btrip = false ∧ a.power.startDue = false ∧ (a.elapsed = 950000 ∧ a.curt.sstatAt = 0)) ∧
    (∃ (s : State) (t : Nat), let a := s.advance t; a.btrip = false ∧ a.power.startDue = false ∧ (a.elapsed = 949998 ∧ a.curt.sstatAt = 0)) :=
  ⟨⟨given [(F.CURTAIN_STATUS_STATE, 3)], 0, false, by decide +kernel⟩,
   ⟨{ given [(F.CURTAIN_STATUS_STATE, 3), (F.CURTAIN_STATUS_BTRIP, 0)] with elapsed := 50000, curt := { tripa := false, enb := true, kdrvb := true, b := { pinsAt true false false true with estopA := { raw := false, since := 0, out := some true } } } }, 0, [], by decide +kernel⟩,
   ⟨{ given [] with curt := { tripa := false, b := pinsAt true false true false } }, 0, [], by decide +kernel⟩,
   ⟨{ given [(F.CURTAIN_STATUS_BTRIP, 0)] with elapsed := 3 * ms, power := { startDue := false } }, 0, by decide +kernel⟩,
   ⟨{ given [(F.CURTAIN_STATUS_BTRIP, 0)] with elapsed := 950000, power := { startDue := false } }, 0, by decide +kernel⟩,
   ⟨{ given [(F.CURTAIN_STATUS_BTRIP, 0)] with elapsed := 949998, power := { startDue := false } }, 0, by decide +kernel⟩⟩

theorem meets_CurtainChecksAndChannelB_3 :
    ∃ (s : State) (t : Nat), let a := s.advance t; (a.btrip = true ∨ a.power.startDue = true) ∧ a.btrip = true :=
  ⟨given [], 0, by decide +kernel⟩

theorem meets_CurtainCommandsAndResets :
    (∃ (s : State) (t : Nat) (d : Desc), let a := s.advance t; d.target.toNat ≤ 2 ∧ d.len = 0 ∧ d.p0 = 0 ∧ d.p1 = 0 ∧ (a.curtainDown = false ∧ d.target.toNat = 0)) ∧
    (∃ (s : State) (t : Nat) (d : Desc), let a := s.advance t; d.target.toNat ≤ 2 ∧ d.len = 0 ∧ d.p0 = 0 ∧ d.p1 = 0 ∧ (a.curtainDown = false ∧ d.target.toNat = 1)) ∧
    (∃ (s : State) (t : Nat) (d : Desc), let a := s.advance t; d.target.toNat ≤ 2 ∧ d.len = 0 ∧ d.p0 = 0 ∧ d.p1 = 0 ∧ (a.curtainDown = false ∧ d.target.toNat = 2)) ∧
    (∃ (s : State) (t : Nat) (d : Desc), let a := s.advance t; d.target.toNat ≤ 2 ∧ d.len = 0 ∧ d.p0 = 0 ∧ d.p1 = 0 ∧ (a.curtainDown = true ∧ d.target.toNat ≤ 1)) ∧
    (∃ (s : State) (t : Nat) (d : Desc) (status : Nat) (detail : Nat), firstFail [(2 < d.target.toNat, st.targetRange, 0), (d.len ≠ 0, st.lenRange, 0), (d.p0 ≠ 0 ∨ d.p1 ≠ 0, st.targetRange, 0x10)] = some (status, detail) ∧ d.target = 3) ∧
    (∃ (s : State) (t : Nat) (d : Desc) (status : Nat) (detail : Nat), firstFail [(2 < d.target.toNat, st.targetRange, 0), (d.len ≠ 0, st.lenRange, 0), (d.p0 ≠ 0 ∨ d.p1 ≠ 0, st.targetRange, 0x10)] = some (status, detail) ∧ d.len = 1) :=
  ⟨⟨given [(F.CURTAIN_STATUS_STATE, 3)], 0, { opc := 5, target := 0 }, by decide +kernel⟩,
   ⟨given [(F.CURTAIN_STATUS_STATE, 3)], 0, { opc := 5, target := 1 }, by decide +kernel⟩,
   ⟨given [(F.CURTAIN_STATUS_STATE, 3)], 0, { opc := 5, target := 2 }, by decide +kernel⟩,
   ⟨given [(F.CURTAIN_STATUS_STATE, 1)], 0, { opc := 5, target := 1 }, by decide +kernel⟩,
   ⟨given [], 0, { opc := 5, target := 3 }, st.targetRange, 0, by decide +kernel⟩,
   ⟨given [], 0, { opc := 5, len := 1 }, st.lenRange, 0, by decide +kernel⟩⟩

theorem meets_CurtainCommandsAndResets_2 :
    (∃ (s : State) (t : Nat) (d : Desc) (status : Nat) (detail : Nat), firstFail [(2 < d.target.toNat, st.targetRange, 0), (d.len ≠ 0, st.lenRange, 0), (d.p0 ≠ 0 ∨ d.p1 ≠ 0, st.targetRange, 0x10)] = some (status, detail) ∧ d.p0 = 1) ∧
    (∃ (s : State) (t : Nat) (d : Desc) (status : Nat) (detail : Nat), firstFail [(2 < d.target.toNat, st.targetRange, 0), (d.len ≠ 0, st.lenRange, 0), (d.p0 ≠ 0 ∨ d.p1 ≠ 0, st.targetRange, 0x10)] = some (status, detail) ∧ d.p1 = 1) ∧
    (∃ (s : State) (t : Nat) (d : Desc) (status : Nat) (detail : Nat), let a := s.advance t; firstFail [(d.target ≠ 0, st.targetRange, 0), (d.len ≠ 0, st.lenRange, 0), (d.p0 ≠ 0 ∨ d.p1 ≠ 0, st.targetRange, 0x10), (a.service = false, st.stateRefused, 1), (a.curtainDown = false, st.stateRefused, 2), (a.curt.a.sreset.high = false, st.stateRefused, 3)] = some (status, detail) ∧ detail = 0) ∧
    (∃ (s : State) (t : Nat) (d : Desc) (status : Nat) (detail : Nat), let a := s.advance t; firstFail [(d.target ≠ 0, st.targetRange, 0), (d.len ≠ 0, st.lenRange, 0), (d.p0 ≠ 0 ∨ d.p1 ≠ 0, st.targetRange, 0x10), (a.service = false, st.stateRefused, 1), (a.curtainDown = false, st.stateRefused, 2), (a.curt.a.sreset.high = false, st.stateRefused, 3)] = some (status, detail) ∧ detail = 1) ∧
    (∃ (s : State) (t : Nat) (d : Desc) (status : Nat) (detail : Nat), let a := s.advance t; firstFail [(d.target ≠ 0, st.targetRange, 0), (d.len ≠ 0, st.lenRange, 0), (d.p0 ≠ 0 ∨ d.p1 ≠ 0, st.targetRange, 0x10), (a.service = false, st.stateRefused, 1), (a.curtainDown = false, st.stateRefused, 2), (a.curt.a.sreset.high = false, st.stateRefused, 3)] = some (status, detail) ∧ detail = 2) ∧
    (∃ (s : State) (t : Nat) (d : Desc) (status : Nat) (detail : Nat), let a := s.advance t; firstFail [(d.target ≠ 0, st.targetRange, 0), (d.len ≠ 0, st.lenRange, 0), (d.p0 ≠ 0 ∨ d.p1 ≠ 0, st.targetRange, 0x10), (a.service = false, st.stateRefused, 1), (a.curtainDown = false, st.stateRefused, 2), (a.curt.a.sreset.high = false, st.stateRefused, 3)] = some (status, detail) ∧ detail = 3) :=
  ⟨⟨given [], 0, { opc := 5, p0 := 1 }, st.targetRange, 0x10, by decide +kernel⟩,
   ⟨given [], 0, { opc := 5, p1 := 1 }, st.targetRange, 0x10, by decide +kernel⟩,
   ⟨given [], 0, { opc := 6, target := 1 }, st.targetRange, 0, by decide +kernel⟩,
   ⟨given [], 0, { opc := 6 }, st.stateRefused, 1, by decide +kernel⟩,
   ⟨given [(F.CURTAIN_STATUS_MODE, 1), (F.CURTAIN_STATUS_STATE, 3)], 0, { opc := 6 }, st.stateRefused, 2, by decide +kernel⟩,
   ⟨given [(F.CURTAIN_STATUS_MODE, 1)], 0, { opc := 6 }, st.stateRefused, 3, by decide +kernel⟩⟩

theorem meets_CurtainCommandsAndResets_3 :
    (∃ (s : State) (t : Nat) (d : Desc), let a := s.advance t; d.target = 0 ∧ d.len = 0 ∧ d.p0 = 0 ∧ d.p1 = 0 ∧ a.service = true ∧ a.curtainDown = true ∧ a.curt.a.sreset.high = true ∧ a.resetOk = false) ∧
    (∃ (s : State) (t : Nat) (d : Desc), let a := s.advance t; d.target = 0 ∧ d.len = 0 ∧ d.p0 = 0 ∧ d.p1 = 0 ∧ a.service = true ∧ a.curt.a.sreset.high = true ∧ a.resetOk = true ∧ a.curtain = cur.lowered) ∧
    (∃ (s : State) (t : Nat) (d : Desc), let a := s.advance t; d.target = 0 ∧ d.len = 0 ∧ d.p0 = 0 ∧ d.p1 = 0 ∧ a.service = true ∧ a.curt.a.sreset.high = true ∧ a.resetOk = true ∧ (a.curtain = cur.locked ∧ a.refusesB = false ∧ a.curt.b.sreset.high = true ∧ a.curt.waiting = [])) ∧
    (∃ (s : State) (t : Nat) (d : Desc), let a := s.advance t; d.target = 0 ∧ d.len = 0 ∧ d.p0 = 0 ∧ d.p1 = 0 ∧ a.service = true ∧ a.curt.a.sreset.high = true ∧ a.resetOk = true ∧ (a.curtain = cur.locked ∧ a.curt.b.sreset.high = false)) ∧
    (∃ (s : State) (t : Nat) (t0 : Nat) (p : CurtainIn), let a := s.advance t; let m := a.takePins p.edges; a.tableau = false ∧ a.power.startDue = false ∧ m.curtain = cur.locked ∧ m.curt.released = some t0 ∧ m.curt.edgeA = false ∧ (m.fellInTime t0 = true ∧ m.curt.waiting = [])) ∧
    (∃ (s : State) (t : Nat) (t0 : Nat) (p : CurtainIn), let a := s.advance t; let m := a.takePins p.edges; a.tableau = false ∧ a.power.startDue = false ∧ m.curtain = cur.locked ∧ m.curt.released = some t0 ∧ m.curt.edgeA = false ∧ (m.fellInTime t0 = false ∧ t0 + 2 * ms ≤ a.elapsed ∧ m.btrip = true)) :=
  ⟨⟨{ given [(F.CURTAIN_STATUS_STATE, 1), (F.CURTAIN_STATUS_MODE, 1)] with elapsed := 10 * ms, curt := { a := pinsAt true true true false, b := pinsAt true true true false } }, 0, { opc := 6 }, by decide +kernel⟩,
   ⟨{ given [(F.CURTAIN_STATUS_STATE, 1), (F.CURTAIN_STATUS_MODE, 1), (F.CURTAIN_STATUS_PARAM_OK, 1)] with elapsed := 10 * ms, curt := { a := pinsAt true true true false, b := pinsAt true true true false } }, 0, { opc := 6 }, by decide +kernel⟩,
   ⟨{ given [(F.CURTAIN_STATUS_STATE, 0), (F.CURTAIN_STATUS_BTRIP, 1), (F.CURTAIN_STATUS_MODE, 1), (F.CURTAIN_STATUS_PARAM_OK, 1)] with elapsed := 10 * ms, curt := { a := pinsAt true true true false, b := pinsAt true true true false }, host := { dispatched := [{ opc := 6 }] } }, 0, { opc := 6 }, by decide +kernel⟩,
   ⟨{ given [(F.CURTAIN_STATUS_STATE, 0), (F.CURTAIN_STATUS_BTRIP, 1), (F.CURTAIN_STATUS_MODE, 1), (F.CURTAIN_STATUS_PARAM_OK, 1)] with elapsed := 10 * ms, curt := { a := pinsAt true true true false, b := pinsAt true false true false }, host := { dispatched := [{ opc := 6 }] } }, 0, { opc := 6 }, by decide +kernel⟩,
   ⟨{ given [(F.CURTAIN_STATUS_STATE, 0), (F.CURTAIN_STATUS_MODE, 1), (F.CURTAIN_STATUS_BTRIP, 0)] with elapsed := 10 * ms, power := { startDue := false }, curt := { tripa := false, released := some (9 * ms), resetCmd := some { opc := 6 }, a := pinsAt true true true false, b := pinsAt true true true false }, host := { dispatched := [{ opc := 6 }] } }, 0, 9 * ms, {}, by decide +kernel⟩,
   ⟨{ given [(F.CURTAIN_STATUS_STATE, 0), (F.CURTAIN_STATUS_MODE, 1), (F.CURTAIN_STATUS_BTRIP, 1)] with elapsed := 11 * ms, power := { startDue := false }, curt := { tripa := false, released := some (9 * ms), a := pinsAt true true true false, b := pinsAt true true true false } }, 0, 9 * ms, {}, by decide +kernel⟩⟩

theorem meets_CurtainCommandsAndResets_4 :
    (∃ (s : State) (t : Nat) (t0 : Nat) (p : CurtainIn), let a := s.advance t; let m := a.takePins p.edges; a.tableau = false ∧ a.power.startDue = false ∧ m.curtain = cur.locked ∧ m.curt.released = some t0 ∧ m.curt.edgeA = false ∧ (m.fellInTime t0 = false ∧ t0 + 2 * ms ≤ a.elapsed ∧ m.btrip = false)) ∧
    (∃ (s : State) (t : Nat) (t0 : Nat) (p : CurtainIn), let a := s.advance t; let m := a.takePins p.edges; a.tableau = false ∧ a.power.startDue = false ∧ m.curtain = cur.locked ∧ m.curt.released = some t0 ∧ m.curt.edgeA = false ∧ (m.fellInTime t0 = false ∧ a.elapsed < t0 + 2 * ms)) ∧
    (∃ (s : State) (t : Nat) (n : Nat), let a := s.advance t; a.curt.a.sreset.raw = false ∧ a.curt.b.sreset.raw = false ∧ n ≤ a.elapsed) ∧
    (∃ (s : State) (t : Nat), let a := s.advance t; a.curtainDown = true ∧ a.service = false ∧ a.tableau = false ∧ a.power.startDue = false ∧ a.curt.a.sreset.raw = true ∧ a.curt.a.sreset.low = true ∧ a.curt.a.sreset.since + a.filterA .sreset ≤ a.elapsed) ∧
    (∃ (s : State) (t : Nat), let a := s.advance t; let w := a.curt.b.sreset; w.raw = true ∧ w.low = true ∧ w.since + 10 * ms ≤ a.elapsed ∧ (a.curt.released.isSome = true ∧ a.curt.resetCmd = none ∧ a.refusesB = false ∧ a.btrip = true ∧ a.service = false ∧ a.curt.b.estopA.raw = true ∧ a.curtain = cur.locked)) :=
  ⟨⟨{ given [(F.CURTAIN_STATUS_STATE, 0), (F.CURTAIN_STATUS_MODE, 1), (F.CURTAIN_STATUS_BTRIP, 0)] with elapsed := 12 * ms, power := { startDue := false }, curt := { tripa := false, released := some (9 * ms), edgeB := some (11 * ms), a := pinsAt true true true false, b := pinsAt true true true false } }, 0, 9 * ms, {}, by decide +kernel⟩,
   ⟨{ given [(F.CURTAIN_STATUS_STATE, 0), (F.CURTAIN_STATUS_MODE, 1), (F.CURTAIN_STATUS_BTRIP, 1)] with elapsed := 10 * ms, power := { startDue := false }, curt := { tripa := false, released := some (9 * ms), a := pinsAt true true true false, b := pinsAt true true true false } }, 0, 9 * ms, {}, by decide +kernel⟩,
   ⟨{ given [] with elapsed := 70 }, 0, 70, by decide +kernel⟩,
   ⟨{ given [] with elapsed := second, power := { startDue := false }, curt := { a := { pinsAt true false true false with sreset := { raw := true, since := 0, out := some false } } } }, 0, by decide +kernel⟩,
   ⟨{ given [(F.CURTAIN_STATUS_BTRIP, 1)] with elapsed := 10 * ms, curt := { tripa := false, released := some 0, a := pinsAt true true true false, b := { pinsAt true false true false with sreset := { raw := true, since := 0, out := some false } } } }, 0, by decide +kernel⟩⟩

theorem meets_SwitchesAndPwmPeriods :
    (∃ (s : State) (t : Nat) (k : Fin 6), let a := s.advance t; let w := a.sw k; (a.heldOff k = false ∧ w.wait = some (500, 900) ∧ 500 ≤ a.pinTime)) ∧
    (∃ (s : State) (t : Nat) (k : Fin 6), let a := s.advance t; a.heldOff k = true) ∧
    (∃ (s : State) (t : Nat) (k : Fin 6), let a := s.advance t; let w := (a.sw k).settle a.pinTime; let due := a.bit F.GUARD_CTRL_DESAT_EN && w.onAt a.pinTime && !w.blanked && decide (w.from_ + 2 * a.get F.GUARD_BLANK_BLANK ≤ a.elapsed); (due = true ∧ a.compActive (26 + k) = false)) ∧
    (∃ (s : State) (t : Nat) (k : Fin 6), let a := s.advance t; let w := (a.sw k).settle a.pinTime; let due := a.bit F.GUARD_CTRL_DESAT_EN && w.onAt a.pinTime && !w.blanked && decide (w.from_ + 2 * a.get F.GUARD_BLANK_BLANK ≤ a.elapsed); (due = true ∧ a.compActive (26 + k) = true)) ∧
    (∃ (s : State) (t : Nat) (k : Fin 6), let a := s.advance t; let w := (a.sw k).settle a.pinTime; let due := a.bit F.GUARD_CTRL_DESAT_EN && w.onAt a.pinTime && !w.blanked && decide (w.from_ + 2 * a.get F.GUARD_BLANK_BLANK ≤ a.elapsed); due = false) ∧
    (∃ (s : State) (t : Nat) (data : Word), let a := s.advance t; let low := a.elapsed - a.guard.lowSince; let trip := (a.writeByAccess Reg.GUARD_CTRL data).tripActive; a.tableau = false ∧ (a.bit F.GUARD_CTRL_GD_EN = false ∧ data.getLsbD 0 = true ∧ 10000 ≤ low ∧ trip = false)) :=
  ⟨⟨{ given [] with elapsed := 500, guard := { switches := [(5, { wait := some (500, 900) })] } }, 0, 5, by decide +kernel⟩,
   ⟨{ given [(F.GUARD_STATUS_OC_TRIP, 1)] with elapsed := 500, guard := { switches := [(5, { wait := some (500, 900) })] } }, 0, 5, by decide +kernel⟩,
   ⟨{ given [(F.GUARD_CTRL_DESAT_EN, 1), (F.GUARD_BLANK_BLANK, 500)] with elapsed := 1000, guard := { switches := [(5, { lit := true, from_ := 0, to_ := 1000000 })] } }, 0, 5, by decide +kernel⟩,
   ⟨{ given [(F.GUARD_CTRL_DESAT_EN, 1), (F.GUARD_BLANK_BLANK, 500), (F.COMP_STATE_TRIPPED, 0x80000000)] with elapsed := 1000, guard := { switches := [(5, { lit := true, from_ := 0, to_ := 1000000 })] } }, 0, 5, by decide +kernel⟩,
   ⟨{ given [(F.GUARD_CTRL_DESAT_EN, 1), (F.GUARD_BLANK_BLANK, 500)] with elapsed := 998, guard := { switches := [(5, { lit := true, from_ := 0, to_ := 1000000 })] } }, 0, 5, by decide +kernel⟩,
   ⟨{ given [] with elapsed := 10000 }, 0, 1#32, by decide +kernel⟩⟩

theorem meets_SwitchesAndPwmPeriods_2 :
    (∃ (s : State) (t : Nat) (data : Word), let a := s.advance t; let low := a.elapsed - a.guard.lowSince; a.tableau = false ∧ (a.bit F.GUARD_CTRL_GD_EN = false ∧ data.getLsbD 0 = true ∧ low < 10000)) ∧
    (∃ (s : State) (t : Nat) (data : Word), let a := s.advance t; a.tableau = false ∧ (a.bit F.GUARD_CTRL_GD_EN = true ∧ data.getLsbD 0 = false)) ∧
    (∃ (s : State) (t : Nat), let a := s.advance t; a.bit F.GUARD_CTRL_GD_EN = true) ∧
    (∃ (s : State) (t : Nat), let a := s.advance t; a.tableau = false ∧ (a.bit F.PUMP_CTRL_MANUAL = true ∧ a.shadowsOk = true ∧ ∀ c ∈ List.range 4, (a.chan c).load = none)) ∧
    (∃ (s : State) (t : Nat), let a := s.advance t; a.tableau = false ∧ (a.bit F.PUMP_CTRL_MANUAL = true ∧ a.shadowsOk = true ∧ ∃ c ∈ List.range 4, (a.chan c).load ≠ none)) ∧
    (∃ (s : State) (t : Nat), let a := s.advance t; a.tableau = false ∧ a.bit F.PUMP_CTRL_MANUAL = false) :=
  ⟨⟨{ given [(F.GUARD_STATUS_OC_TRIP, 1)] with elapsed := 9999 }, 0, 1#32, by decide +kernel⟩,
   ⟨{ given [(F.GUARD_CTRL_GD_EN, 1)] with elapsed := 9999 }, 0, 0#32, by decide +kernel⟩,
   ⟨{ given [(F.GUARD_CTRL_GD_EN, 1), (F.PUMP_STATUS_STATE, 5)] with elapsed := 9999 }, 0, by decide +kernel⟩,
   ⟨given [(F.PUMP_CTRL_MANUAL, 1), (F.PUMP_PWM_PERIOD_PERIOD, 500), (F.PUMP_PWM_CHOP_PERIOD_PERIOD, 500), (F.PUMP_PWM_DUTY_DUTY 0, 500), (F.PUMP_PWM_DUTY_DUTY 1, 0), (F.PUMP_PWM_DUTY_DUTY 2, 0), (F.PUMP_PWM_DUTY_DUTY 3, 0), (F.PUMP_PWM_MARK_MARK 0, 0), (F.PUMP_PWM_MARK_MARK 1, 0), (F.PUMP_PWM_MARK_MARK 2, 0), (F.PUMP_PWM_MARK_MARK 3, 499)], 0, by decide +kernel⟩,
   ⟨{ given [(F.PUMP_CTRL_MANUAL, 1), (F.PUMP_PWM_PERIOD_PERIOD, 500), (F.PUMP_PWM_CHOP_PERIOD_PERIOD, 500), (F.PUMP_PWM_DUTY_DUTY 0, 500), (F.PUMP_PWM_DUTY_DUTY 1, 0), (F.PUMP_PWM_DUTY_DUTY 2, 0), (F.PUMP_PWM_DUTY_DUTY 3, 0), (F.PUMP_PWM_MARK_MARK 0, 0), (F.PUMP_PWM_MARK_MARK 1, 0), (F.PUMP_PWM_MARK_MARK 2, 0), (F.PUMP_PWM_MARK_MARK 3, 499)] with pump := { chans := [(1, { load := some (0, 500, 0, 0) })] } }, 0, by decide +kernel⟩,
   ⟨given [], 0, by decide +kernel⟩⟩

theorem meets_SwitchesAndPwmPeriods_3 :
    (∃ (s : State) (t : Nat) (data : Word), let a := s.advance t; a.tableau = false ∧ data = 0) ∧
    (∃ (s : State) (t : Nat) (chop : Bool), let a := s.advance t; let c := if chop then 3 else 0; (a.periodDue chop = true ∧ (a.chan c).load = some (49992, 500, 250, 0) ∧ (a.chan c).start + 2 * (a.chan c).period = 50000)) ∧
    (∃ (s : State) (t : Nat) (chop : Bool), let a := s.advance t; let c := if chop then 3 else 0; (a.periodDue chop = true ∧ (a.chan c).load = some (49993, 500, 250, 0) ∧ (a.chan c).start + 2 * (a.chan c).period = 50000)) ∧
    (∃ (s : State) (t : Nat) (chop : Bool), let a := s.advance t; let c := if chop then 3 else 0; let x := a.chan c; (x.start + 2 * x.period = a.elapsed ∧ a.bit F.PUMP_CTRL_MANUAL = true)) ∧
    (∃ (s : State) (t : Nat) (chop : Bool), let a := s.advance t; let c := if chop then 3 else 0; (a.periodDue chop = true ∧ (a.chan c).load = some (49992, 500, 250, 0) ∧ (a.chan c).start + 2 * (a.chan c).period = 50000 ∧ chop = true)) ∧
    (∃ (s : State) (t : Nat) (chop : Bool), let a := s.advance t; let c := if chop then 3 else 0; (a.periodDue chop = true ∧ (a.chan c).load = some (49993, 500, 250, 0) ∧ (a.chan c).start + 2 * (a.chan c).period = 50000 ∧ chop = true)) :=
  ⟨⟨given [], 0, 0#32, by decide +kernel⟩,
   ⟨{ given [] with elapsed := 50000, pump := { chans := [(0, { load := some (49992, 500, 250, 0) })] } }, 0, false, by decide +kernel⟩,
   ⟨{ given [] with elapsed := 50000, pump := { chans := [(0, { load := some (49993, 500, 250, 0) })] } }, 0, false, by decide +kernel⟩,
   ⟨{ given [(F.PUMP_STATUS_CHOP_ACTIVE, 1), (F.PUMP_CTRL_MANUAL, 1)] with elapsed := 50000, pump := { chans := [(0, { duty := 100 })] } }, 0, false, by decide +kernel⟩,
   ⟨{ given [] with elapsed := 50000, pump := { chans := [(3, { load := some (49992, 500, 250, 0) })] } }, 0, true, by decide +kernel⟩,
   ⟨{ given [] with elapsed := 50000, pump := { chans := [(3, { load := some (49993, 500, 250, 0) })] } }, 0, true, by decide +kernel⟩⟩

theorem meets_SwitchesAndPwmPeriods_4 :
    (∃ (s : State) (t : Nat) (chop : Bool), let a := s.advance t; let c := if chop then 3 else 0; let x := a.chan c; (x.start + 2 * x.period = a.elapsed ∧ a.bit F.PUMP_CTRL_MANUAL = true ∧ chop = true)) ∧
    (∃ (s : State) (t : Nat) (chop : Bool), let a := s.advance t; let c := if chop then 3 else 0; let x := a.chan c; a.elapsed < x.start + 2 * x.period) ∧
    (∃ (s : State) (t : Nat) (c : Fin 4) (k : Fin 4), let a := s.advance t; let x := a.chan c; let key := 4 * c.val + k.val; let n := Sparse.get (fun _ => 0) a.pump.presc key; (a.tableau = false ∧ Sparse.get (fun _ => none) x.taken k ≠ some x.start ∧ x.eventAt k = some 48000 ∧ a.elapsed = 48000 ∧ (a.reg (Reg.PUMP_PWM_EVT c)).getLsbD k = true ∧ a.get (F.PUMP_PWM_EVT_PRESC c) ≤ n)) ∧
    (∃ (s : State) (t : Nat) (c : Fin 4) (k : Fin 4), let a := s.advance t; let x := a.chan c; let key := 4 * c.val + k.val; let n := Sparse.get (fun _ => 0) a.pump.presc key; (a.tableau = false ∧ Sparse.get (fun _ => none) x.taken k ≠ some x.start ∧ x.eventAt k = some 48000 ∧ a.elapsed = 48000 ∧ (a.reg (Reg.PUMP_PWM_EVT c)).getLsbD k = true ∧ n < a.get (F.PUMP_PWM_EVT_PRESC c))) ∧
    (∃ (s : State) (t : Nat) (c : Fin 4) (k : Fin 4), let a := s.advance t; let x := a.chan c; (a.tableau = false ∧ Sparse.get (fun _ => none) x.taken k ≠ some x.start ∧ x.eventAt k = some 48000 ∧ a.elapsed = 48000 ∧ (a.reg (Reg.PUMP_PWM_EVT c)).getLsbD k = false)) :=
  ⟨⟨{ given [(F.PUMP_STATUS_CHOP_ACTIVE, 1), (F.PUMP_CTRL_MANUAL, 1)] with elapsed := 50000, pump := { chans := [(3, { duty := 100 })] } }, 0, true, by decide +kernel⟩,
   ⟨{ given [] with elapsed := 49998 }, 0, false, by decide +kernel⟩,
   ⟨{ given [(F.PUMP_PWM_EVT_MARK_EN 3, 1), (F.PUMP_PWM_EVT_PRESC 3, 2)] with elapsed := 48000, pump := { chans := [(3, { mark := 24000 })], presc := [(15, 2)] } }, 0, 3, 3, by decide +kernel⟩,
   ⟨{ given [(F.PUMP_PWM_EVT_MARK_EN 3, 1), (F.PUMP_PWM_EVT_PRESC 3, 2)] with elapsed := 48000, pump := { chans := [(3, { mark := 24000 })], presc := [(15, 1)] } }, 0, 3, 3, by decide +kernel⟩,
   ⟨{ given [] with elapsed := 48000, pump := { chans := [(3, { mark := 24000 })] } }, 0, 3, 3, by decide +kernel⟩⟩

theorem meets_PumpStartsAndCommutates :
    (∃ (s : State) (t : Nat), let a := s.advance t; a.pState = ps.observe ∧ a.pump.locked = none ∧ a.pump.entered + 200000000 ≤ a.elapsed ∧ a.rotorDir = none) ∧
    (∃ (s : State) (t : Nat), let a := s.advance t; a.pState = ps.observe ∧ a.pump.locked = none ∧ a.pump.entered + 200000000 ≤ a.elapsed ∧ (a.rotorDir = some (!a.pumpReverse) ∧ (a.pc16 0x1C : Rat) ≤ |a.pumpMeas|)) ∧
    (∃ (s : State) (t : Nat), let a := s.advance t; a.pState = ps.observe ∧ a.pump.locked = none ∧ a.pump.entered + 200000000 ≤ a.elapsed ∧ (a.rotorDir = some a.pumpReverse ∧ (a.pc16 0x14 : Rat) < |a.pumpMeas|)) ∧
    (∃ (s : State) (t : Nat), let a := s.advance t; a.pState = ps.wait ∧ a.pump.entered + a.pc16 0x2E * second ≤ a.elapsed) ∧
    (∃ (s : State) (t : Nat), let a := s.advance t; a.rotorDir = none ∧ max a.pump.entered a.pump.watchAt + 200000000 ≤ a.elapsed ∧ a.pState = ps.wait) ∧
    (∃ (s : State) (t : Nat), let a := s.advance t; a.rotorDir = none ∧ max a.pump.entered a.pump.watchAt + 200000000 ≤ a.elapsed ∧ (a.pState = ps.coast ∧ a.tableau = false ∧ a.runWanted = false)) :=
  ⟨⟨{ given [(F.PUMP_STATUS_STATE, 1)] with elapsed := 200000000, tables := [(tid.pumpCurve, { work := [(2, 4), (3, 6), (8, 244), (9, 1), (10, 136), (11, 19), (20, 232), (21, 3), (22, 232), (23, 3), (24, 100), (28, 244), (29, 1), (30, 100), (38, 20), (40, 100), (46, 2)] })] }, 0, by decide +kernel⟩,
   ⟨{ given [(F.PUMP_STATUS_STATE, 1)] with elapsed := 200000000, tables := [(tid.pumpCurve, { work := [(2, 4), (3, 6), (8, 244), (9, 1), (10, 136), (11, 19), (20, 232), (21, 3), (22, 232), (23, 3), (24, 100), (28, 244), (29, 1), (30, 100), (38, 20), (40, 100), (46, 2)] })], pump := { crossings := [{ leg := 2, rising := false, time := 190000000 }, { leg := 1, rising := true, time := 192000000 }, { leg := 0, rising := false, time := 194000000 }], retry := true } }, 0, by decide +kernel⟩,
   ⟨{ given [(F.PUMP_STATUS_STATE, 1)] with elapsed := 200000000, tables := [(tid.pumpCurve, { work := [(2, 4), (3, 6), (8, 244), (9, 1), (10, 136), (11, 19), (20, 232), (21, 3), (22, 232), (23, 3), (24, 100), (28, 244), (29, 1), (30, 100), (38, 20), (40, 100), (46, 2)] })], pump := { crossings := [{ leg := 0, rising := false, time := 190000000 }, { leg := 1, rising := true, time := 192000000 }, { leg := 2, rising := false, time := 194000000 }] } }, 0, by decide +kernel⟩,
   ⟨{ given [(F.PUMP_STATUS_STATE, 2)] with elapsed := 2 * second, tables := [(tid.pumpCurve, { work := [(2, 4), (3, 6), (8, 244), (9, 1), (10, 136), (11, 19), (20, 232), (21, 3), (22, 232), (23, 3), (24, 100), (28, 244), (29, 1), (30, 100), (38, 20), (40, 100), (46, 2)] })] }, 0, by decide +kernel⟩,
   ⟨{ given [(F.PUMP_STATUS_STATE, 2)] with elapsed := 200000000, tables := [(tid.pumpCurve, { work := [(2, 4), (3, 6), (8, 244), (9, 1), (10, 136), (11, 19), (20, 232), (21, 3), (22, 232), (23, 3), (24, 100), (28, 244), (29, 1), (30, 100), (38, 20), (40, 100), (46, 2)] })] }, 0, by decide +kernel⟩,
   ⟨{ given [(F.PUMP_STATUS_STATE, 6)] with elapsed := 200000000, tables := [(tid.pumpCurve, { work := [(2, 4), (3, 6), (8, 244), (9, 1), (10, 136), (11, 19), (20, 232), (21, 3), (22, 232), (23, 3), (24, 100), (28, 244), (29, 1), (30, 100), (38, 20), (40, 100), (46, 2)] })] }, 0, by decide +kernel⟩⟩

theorem meets_PumpStartsAndCommutates_2 :
    (∃ (s : State) (t : Nat), let a := s.advance t; a.rotorDir = none ∧ max a.pump.entered a.pump.watchAt + 200000000 ≤ a.elapsed ∧ (a.pState = ps.coast ∧ a.runWanted = true ∧ a.pump.coast ≠ .bus ∧ a.startOk = true ∧ a.bit F.PUMP_STATUS_CHOP_FAULT = false)) ∧
    (∃ (s : State) (t : Nat), let a := s.advance t; a.pState = ps.align ∧ a.pump.entered + a.pc16 0x18 * 1000000 ≤ a.elapsed) ∧
    (∃ (s : State) (t : Nat), let a := s.advance t; let n := a.overlapPeriods a.forcedLen; let good := if a.pump.zc.isSome then a.pump.good + 1 else 0; a.pState = ps.ramp ∧ a.pump.ovl = none ∧ a.pump.sectorAt + a.forcedLen ≤ a.elapsed + n * a.tPwm / 2 ∧ (¬(6 ≤ good ∧ (a.pc16 0x1C : Rat) ≤ a.forcedSpeed a.elapsed))) ∧
    (∃ (s : State) (t : Nat), let a := s.advance t; let n := a.overlapPeriods a.forcedLen; let good := if a.pump.zc.isSome then a.pump.good + 1 else 0; a.pState = ps.ramp ∧ a.pump.ovl = none ∧ a.pump.sectorAt + a.forcedLen ≤ a.elapsed + n * a.tPwm / 2 ∧ (6 ≤ good ∧ (a.pc16 0x1C : Rat) ≤ a.forcedSpeed a.elapsed)) ∧
    (∃ (s : State) (t : Nat), let a := s.advance t; (a.pState = ps.run ∧ a.tableau = false ∧ a.pump.ovl = none ∧ a.pSector ≠ 0 ∧ a.pump.tEst = some 2000000 ∧ ∃ c ∈ a.commutateAt, c ≤ a.elapsed + a.overlapPeriods 2000000 * a.tPwm / 2)) ∧
    (∃ (s : State) (t : Nat), let a := s.advance t; (a.pState = ps.run ∧ a.tableau = false ∧ a.pump.ovl = none ∧ a.pSector = 0 ∧ a.pump.crossings.getLast?.isSome = true ∧ ∃ c ∈ a.commutateAt, c ≤ a.elapsed)) :=
  ⟨⟨{ given [(F.PUMP_STATUS_STATE, 6), (F.PUMP_STATUS_CURVE_OK, 1), (F.PUMP_CTRL_EN, 1), (F.GUARD_CTRL_GD_EN, 1)] with elapsed := 200000000, tables := [(tid.pumpCurve, { work := [(2, 4), (3, 6), (8, 244), (9, 1), (10, 136), (11, 19), (20, 232), (21, 3), (22, 232), (23, 3), (24, 100), (28, 244), (29, 1), (30, 100), (38, 20), (40, 100), (46, 2)] })], pump := { coast := .slow, run := true, vbus := [20] } }, 0, by decide +kernel⟩,
   ⟨{ given [(F.PUMP_STATUS_STATE, 3), (F.PUMP_STATUS_SECTOR, 1)] with elapsed := 100000000, tables := [(tid.pumpCurve, { work := [(2, 4), (3, 6), (8, 244), (9, 1), (10, 136), (11, 19), (20, 232), (21, 3), (22, 232), (23, 3), (24, 100), (28, 244), (29, 1), (30, 100), (38, 20), (40, 100), (46, 2)] })] }, 0, by decide +kernel⟩,
   ⟨{ given [(F.PUMP_STATUS_STATE, 4), (F.PUMP_STATUS_SECTOR, 1)] with elapsed := second, tables := [(tid.pumpCurve, { work := [(2, 4), (3, 6), (8, 244), (9, 1), (10, 136), (11, 19), (20, 232), (21, 3), (22, 232), (23, 3), (24, 100), (28, 244), (29, 1), (30, 100), (38, 20), (40, 100), (46, 2)] })], pump := { zc := some 0, good := 5, sectorAt := 900000000 } }, 0, by decide +kernel⟩,
   ⟨{ given [(F.PUMP_STATUS_STATE, 4), (F.PUMP_STATUS_SECTOR, 1)] with elapsed := 10 * second, tables := [(tid.pumpCurve, { work := [(2, 4), (3, 6), (8, 244), (9, 1), (10, 136), (11, 19), (20, 232), (21, 3), (22, 232), (23, 3), (24, 100), (28, 244), (29, 1), (30, 100), (38, 20), (40, 100), (46, 2)] })], pump := { zc := some 0, good := 5, sectorAt := 9900000000 } }, 0, by decide +kernel⟩,
   ⟨{ given [(F.PUMP_STATUS_STATE, 5), (F.PUMP_STATUS_SECTOR, 2)] with elapsed := 3000000, tables := [(tid.pumpCurve, { work := [(2, 4), (3, 6), (8, 244), (9, 1), (10, 136), (11, 19), (20, 232), (21, 3), (22, 232), (23, 3), (24, 100), (28, 244), (29, 1), (30, 100), (38, 20), (40, 100), (46, 2)] })], pump := { tEst := some 2000000, zc := some 2000000 } }, 0, by decide +kernel⟩,
   ⟨{ given [(F.PUMP_STATUS_STATE, 5)] with elapsed := 3000000, tables := [(tid.pumpCurve, { work := [(2, 4), (3, 6), (8, 244), (9, 1), (10, 136), (11, 19), (20, 232), (21, 3), (22, 232), (23, 3), (24, 100), (28, 244), (29, 1), (30, 100), (38, 20), (40, 100), (46, 2)] })], pump := { tEst := some 2000000, zc := some 2000000, crossings := [{ leg := 0, rising := true, time := 2000000 }] } }, 0, by decide +kernel⟩⟩

theorem meets_PumpStartsAndCommutates_3 :
    ∃ (s : State) (t : Nat), let a := s.advance t; a.pState = ps.observe ∧ a.due a.pump.locked 2000000000 = true :=
  ⟨{ given [(F.PUMP_STATUS_STATE, 1)] with elapsed := 2 * second, pump := { locked := some 0 } }, 0, by decide +kernel⟩

theorem meets_PumpFaultsAndBus :
    (∃ (s : State) (t : Nat) (m : Int), let a := s.advance t; a.tableau = false ∧ a.vbus8 = some m ∧ (a.pump.act = some (0, 100) ∧ a.pump.verdict = none ∧ a.bit F.PUMP_STATUS_CHOP_ACTIVE = true ∧ 0 + a.pc16 0x28 * 1000 ≤ a.elapsed)) ∧
    (∃ (s : State) (t : Nat) (m : Int), let a := s.advance t; a.tableau = false ∧ a.vbus8 = some m ∧ (a.pump.act = some (0, 100) ∧ a.elapsed < a.pc16 0x28 * 1000)) ∧
    (∃ (s : State) (t : Nat) (m : Int), let a := s.advance t; a.tableau = false ∧ a.vbus8 = some m ∧ (a.pump.verdict = some (0, 99) ∧ a.pump.act = none ∧ a.pc16 0x28 * 1000 ≤ a.elapsed ∧ a.pState ≤ ps.coast)) ∧
    (∃ (s : State) (t : Nat) (m : Int), let a := s.advance t; a.tableau = false ∧ a.vbus8 = some m ∧ (a.pump.verdict = some (0, 100) ∧ a.pump.act = none ∧ a.pc16 0x28 * 1000 ≤ a.elapsed ∧ a.pState ≤ ps.coast)) ∧
    (∃ (s : State) (t : Nat), let a := s.advance t; a.pState = ps.run ∧ a.due (a.pump.lowSince.map (max a.pump.runAt)) 100000000 = true) ∧
    (∃ (s : State) (t : Nat), let a := s.advance t; a.pState = ps.coast ∧ a.pump.coast = .bus ∧ a.due a.pump.okSince 100000000 = true ∧ a.startOk = true) :=
  ⟨⟨{ given [(F.PUMP_STATUS_CHOP_ACTIVE, 1), (F.PUMP_STATUS_STATE, 5)] with elapsed := 100000, tables := [(tid.pumpCurve, { work := [(2, 4), (3, 6), (8, 244), (9, 1), (10, 136), (11, 19), (20, 232), (21, 3), (22, 232), (23, 3), (24, 100), (28, 244), (29, 1), (30, 100), (38, 20), (40, 100), (46, 2)] })], pump := { act := some (0, 100), vbus := [10, 15] } }, 0, 100, by decide +kernel⟩,
   ⟨{ given [(F.PUMP_STATUS_CHOP_ACTIVE, 1), (F.PUMP_STATUS_STATE, 5)] with elapsed := 99998, tables := [(tid.pumpCurve, { work := [(2, 4), (3, 6), (8, 244), (9, 1), (10, 136), (11, 19), (20, 232), (21, 3), (22, 232), (23, 3), (24, 100), (28, 244), (29, 1), (30, 100), (38, 20), (40, 100), (46, 2)] })], pump := { act := some (0, 100), vbus := [10, 15] } }, 0, 100, by decide +kernel⟩,
   ⟨{ given [(F.PUMP_STATUS_STATE, 6)] with elapsed := 100000, tables := [(tid.pumpCurve, { work := [(2, 4), (3, 6), (8, 244), (9, 1), (10, 136), (11, 19), (20, 232), (21, 3), (22, 232), (23, 3), (24, 100), (28, 244), (29, 1), (30, 100), (38, 20), (40, 100), (46, 2)] })], pump := { verdict := some (0, 99), vbus := [10, 15] } }, 0, 100, by decide +kernel⟩,
   ⟨{ given [(F.PUMP_STATUS_STATE, 6)] with elapsed := 100000, tables := [(tid.pumpCurve, { work := [(2, 4), (3, 6), (8, 244), (9, 1), (10, 136), (11, 19), (20, 232), (21, 3), (22, 232), (23, 3), (24, 100), (28, 244), (29, 1), (30, 100), (38, 20), (40, 100), (46, 2)] })], pump := { verdict := some (0, 100), vbus := [10, 15] } }, 0, 100, by decide +kernel⟩,
   ⟨{ given [(F.PUMP_STATUS_STATE, 5), (F.PUMP_STATUS_SECTOR, 2)] with elapsed := 100000000, pump := { lowSince := some 0 } }, 0, by decide +kernel⟩,
   ⟨{ given [(F.PUMP_STATUS_STATE, 6), (F.PUMP_STATUS_CURVE_OK, 1), (F.PUMP_CTRL_EN, 1), (F.GUARD_CTRL_GD_EN, 1)] with elapsed := 100000000, tables := [(tid.pumpCurve, { work := [(2, 4), (3, 6), (8, 244), (9, 1), (10, 136), (11, 19), (20, 232), (21, 3), (22, 232), (23, 3), (24, 100), (28, 244), (29, 1), (30, 100), (38, 20), (40, 100), (46, 2)] })], pump := { coast := .bus, okSince := some 0, run := true, vbus := [20] } }, 0, by decide +kernel⟩⟩

theorem meets_PumpFaultsAndBus_2 :
    (∃ (s : State) (t : Nat), let a := s.advance t; (16 ≤ a.pump.missV ∨ 16 ≤ a.pump.missI) ∧ a.tableau = false ∧ (16 ≤ a.pump.missV ∧ a.pState ≤ ps.coast)) ∧
    (∃ (s : State) (t : Nat), let a := s.advance t; (16 ≤ a.pump.missV ∨ 16 ≤ a.pump.missI) ∧ a.tableau = false ∧ (16 ≤ a.pump.missI ∧ ps.coast < a.pState)) ∧
    (∃ (s : State) (t : Nat), let a := s.advance t; let out := a.bit F.PUMP_CTRL_EN && a.pump.run && a.pState != ps.run; a.tableau = false ∧ (out = true ∧ a.due a.pump.outSince 10000000000 = true)) ∧
    (∃ (s : State) (t : Nat), let a := s.advance t; a.tableau = false ∧ a.bit F.PUMP_CTRL_EN = false) ∧
    (∃ (s : State) (t : Nat), let a := s.advance t; let lock := a.pc16 0x16 * 1000000; let last := match a.pump.crossings.getLast? with | some c => max a.pump.runAt c.time | none => a.pump.runAt; let on := (decide (a.pState = ps.run) && decide (last + lock ≤ a.elapsed)) || (decide (a.pState = ps.ramp) && decide (a.pump.forcedAt + lock ≤ a.elapsed) && decide ((a.pc16 0x1C : Rat) ≤ a.forcedSpeed (a.elapsed - lock))); a.tableau = false ∧ (on = true ∧ a.pump.retry = true)) ∧
    (∃ (s : State) (t : Nat), let a := s.advance t; let lock := a.pc16 0x16 * 1000000; let last := match a.pump.crossings.getLast? with | some c => max a.pump.runAt c.time | none => a.pump.runAt; let on := (decide (a.pState = ps.run) && decide (last + lock ≤ a.elapsed)) || (decide (a.pState = ps.ramp) && decide (a.pump.forcedAt + lock ≤ a.elapsed) && decide ((a.pc16 0x1C : Rat) ≤ a.forcedSpeed (a.elapsed - lock))); a.tableau = false ∧ (on = true ∧ a.pump.retry = false)) :=
  ⟨⟨{ given [(F.PUMP_STATUS_STATE, 5), (F.PUMP_STATUS_CHOP_ACTIVE, 1)] with pump := { missV := 16 } }, 0, by decide +kernel⟩,
   ⟨{ given [(F.PUMP_STATUS_STATE, 7)] with pump := { missI := 16 } }, 0, by decide +kernel⟩,
   ⟨{ given [(F.PUMP_STATUS_STATE, 4), (F.PUMP_CTRL_EN, 1)] with elapsed := 10 * second, pump := { run := true, outSince := some 0 } }, 0, by decide +kernel⟩,
   ⟨given [], 0, by decide +kernel⟩,
   ⟨{ given [(F.PUMP_STATUS_STATE, 5), (F.PUMP_STATUS_SECTOR, 2)] with elapsed := second, tables := [(tid.pumpCurve, { work := [(2, 4), (3, 6), (8, 244), (9, 1), (10, 136), (11, 19), (20, 232), (21, 3), (22, 232), (23, 3), (24, 100), (28, 244), (29, 1), (30, 100), (38, 20), (40, 100), (46, 2)] })], pump := { retry := true, crossings := [{ leg := 0, rising := true, time := 0 }] } }, 0, by decide +kernel⟩,
   ⟨{ given [(F.PUMP_STATUS_STATE, 5), (F.PUMP_STATUS_SECTOR, 2)] with elapsed := second, tables := [(tid.pumpCurve, { work := [(2, 4), (3, 6), (8, 244), (9, 1), (10, 136), (11, 19), (20, 232), (21, 3), (22, 232), (23, 3), (24, 100), (28, 244), (29, 1), (30, 100), (38, 20), (40, 100), (46, 2)] })], pump := { retry := false, crossings := [{ leg := 0, rising := true, time := 0 }] } }, 0, by decide +kernel⟩⟩

theorem meets_PumpFaultsAndBus_3 :
    ∃ (s : State) (t : Nat), let a := s.advance t; let lock := a.pc16 0x16 * 1000000; let last := match a.pump.crossings.getLast? with | some c => max a.pump.runAt c.time | none => a.pump.runAt; let on := (decide (a.pState = ps.run) && decide (last + lock ≤ a.elapsed)) || (decide (a.pState = ps.ramp) && decide (a.pump.forcedAt + lock ≤ a.elapsed) && decide ((a.pc16 0x1C : Rat) ≤ a.forcedSpeed (a.elapsed - lock))); a.tableau = false ∧ (on = false ∧ a.pState = ps.run) :=
  ⟨{ given [(F.PUMP_STATUS_STATE, 5), (F.PUMP_STATUS_SECTOR, 2)] with elapsed := 999999998, tables := [(tid.pumpCurve, { work := [(2, 4), (3, 6), (8, 244), (9, 1), (10, 136), (11, 19), (20, 232), (21, 3), (22, 232), (23, 3), (24, 100), (28, 244), (29, 1), (30, 100), (38, 20), (40, 100), (46, 2)] })], pump := { crossings := [{ leg := 0, rising := true, time := 0 }] } }, 0, by decide +kernel⟩

theorem meets_PumpOrdersAndControl :
    (∃ (s : State) (t : Nat) (data : Word), let a := s.advance t; a.tableau = false ∧ (data.getLsbD 2 ≠ a.bit F.PUMP_CTRL_MANUAL ∧ a.bit F.PUMP_CTRL_EN = false ∧ a.bit F.GUARD_CTRL_GD_EN = false ∧ a.curtainDown = true)) ∧
    (∃ (s : State) (t : Nat) (data : Word), let a := s.advance t; a.tableau = false ∧ (data.getLsbD 0 = true ∧ a.bit F.PUMP_CTRL_EN = false ∧ data.getLsbD 2 = false ∧ a.get F.GUARD_CFG_MODE ≠ 0)) ∧
    (∃ (s : State) (t : Nat) (data : Word), let a := s.advance t; a.tableau = false ∧ (data.getLsbD 2 ≠ a.bit F.PUMP_CTRL_MANUAL ∧ a.curtainDown = false)) ∧
    (∃ (s : State) (t : Nat) (data : Word), let a := s.advance t; a.tableau = false ∧ (a.bit F.PUMP_CTRL_MANUAL = true ∧ data = 0)) ∧
    (∃ (s : State) (t : Nat) (d : Desc), let a := s.advance t; let p0 := d.p0.toNat; let p1 := d.p1.toNat; let fixed := decide (d.target.toNat = 1); let table : List (Bool × Nat × Nat) := [(4 < d.target.toNat, st.targetRange, 0), (d.len ≠ 0, st.lenRange, 0), (if fixed then p0 < a.pc16 8 ∨ a.pc16 0xA < p0 ∨ 1 < p1 else p0 ≠ 0 ∨ p1 ≠ 0, st.targetRange, 0x10), (!a.curveOk, st.stateRefused, 1), (a.bit F.PUMP_CTRL_EN = false ∨ a.bit F.PUMP_CTRL_MANUAL = true, st.stateRefused, 2), (fixed ∧ (p1 == 1) ≠ a.pumpReverse ∧ (a.pc16 0x14 : Rat) < |a.pumpMeas|, st.stateRefused, 3), (d.target.toNat = 4 ∧ (a.pState ≠ ps.fault ∨ a.faultPresent = true), st.stateRefused, 4)]; firstFail table = none ∧ d.target.toNat = 1) ∧
    (∃ (s : State) (t : Nat) (d : Desc), let a := s.advance t; let p0 := d.p0.toNat; let p1 := d.p1.toNat; let fixed := decide (d.target.toNat = 1); let table : List (Bool × Nat × Nat) := [(4 < d.target.toNat, st.targetRange, 0), (d.len ≠ 0, st.lenRange, 0), (if fixed then p0 < a.pc16 8 ∨ a.pc16 0xA < p0 ∨ 1 < p1 else p0 ≠ 0 ∨ p1 ≠ 0, st.targetRange, 0x10), (!a.curveOk, st.stateRefused, 1), (a.bit F.PUMP_CTRL_EN = false ∨ a.bit F.PUMP_CTRL_MANUAL = true, st.stateRefused, 2), (fixed ∧ (p1 == 1) ≠ a.pumpReverse ∧ (a.pc16 0x14 : Rat) < |a.pumpMeas|, st.stateRefused, 3), (d.target.toNat = 4 ∧ (a.pState ≠ ps.fault ∨ a.faultPresent = true), st.stateRefused, 4)]; firstFail table = none ∧ (d.target.toNat = 0 ∨ d.target.toNat = 2 ∨ d.target.toNat = 3)) :=
  ⟨⟨given [(F.GUARD_CFG_MODE, 0)], 0, 5#32, by decide +kernel⟩,
   ⟨given [(F.GUARD_CFG_MODE, 1)], 0, 1#32, by decide +kernel⟩,
   ⟨given [(F.CURTAIN_STATUS_STATE, 3)], 0, 4#32, by decide +kernel⟩,
   ⟨given [(F.PUMP_CTRL_MANUAL, 1), (F.PUMP_STATUS_STATE, 9)], 0, 0#32, by decide +kernel⟩,
   ⟨{ given [(F.PUMP_STATUS_CURVE_OK, 1), (F.PUMP_CTRL_EN, 1)] with tables := [(tid.pumpCurve, { work := [(2, 4), (3, 6), (8, 244), (9, 1), (10, 136), (11, 19), (20, 232), (21, 3), (22, 232), (23, 3), (24, 100), (28, 244), (29, 1), (30, 100), (38, 20), (40, 100), (46, 2)] })] }, 0, { opc := 10, target := 1, p0 := 500, p1 := 1 }, by decide +kernel⟩,
   ⟨{ given [(F.PUMP_STATUS_CURVE_OK, 1), (F.PUMP_CTRL_EN, 1)] with tables := [(tid.pumpCurve, { work := [(2, 4), (3, 6), (8, 244), (9, 1), (10, 136), (11, 19), (20, 232), (21, 3), (22, 232), (23, 3), (24, 100), (28, 244), (29, 1), (30, 100), (38, 20), (40, 100), (46, 2)] })] }, 0, { opc := 10, target := 3 }, by decide +kernel⟩⟩

theorem meets_PumpOrdersAndControl_2 :
    (∃ (s : State) (t : Nat) (d : Desc), let a := s.advance t; let p0 := d.p0.toNat; let p1 := d.p1.toNat; let fixed := decide (d.target.toNat = 1); let table : List (Bool × Nat × Nat) := [(4 < d.target.toNat, st.targetRange, 0), (d.len ≠ 0, st.lenRange, 0), (if fixed then p0 < a.pc16 8 ∨ a.pc16 0xA < p0 ∨ 1 < p1 else p0 ≠ 0 ∨ p1 ≠ 0, st.targetRange, 0x10), (!a.curveOk, st.stateRefused, 1), (a.bit F.PUMP_CTRL_EN = false ∨ a.bit F.PUMP_CTRL_MANUAL = true, st.stateRefused, 2), (fixed ∧ (p1 == 1) ≠ a.pumpReverse ∧ (a.pc16 0x14 : Rat) < |a.pumpMeas|, st.stateRefused, 3), (d.target.toNat = 4 ∧ (a.pState ≠ ps.fault ∨ a.faultPresent = true), st.stateRefused, 4)]; firstFail table = none ∧ d.target.toNat = 4) ∧
    (∃ (s : State) (t : Nat) (d : Desc) (status : Nat) (detail : Nat), let a := s.advance t; let p0 := d.p0.toNat; let p1 := d.p1.toNat; let fixed := decide (d.target.toNat = 1); let table : List (Bool × Nat × Nat) := [(4 < d.target.toNat, st.targetRange, 0), (d.len ≠ 0, st.lenRange, 0), (if fixed then p0 < a.pc16 8 ∨ a.pc16 0xA < p0 ∨ 1 < p1 else p0 ≠ 0 ∨ p1 ≠ 0, st.targetRange, 0x10), (!a.curveOk, st.stateRefused, 1), (a.bit F.PUMP_CTRL_EN = false ∨ a.bit F.PUMP_CTRL_MANUAL = true, st.stateRefused, 2), (fixed ∧ (p1 == 1) ≠ a.pumpReverse ∧ (a.pc16 0x14 : Rat) < |a.pumpMeas|, st.stateRefused, 3), (d.target.toNat = 4 ∧ (a.pState ≠ ps.fault ∨ a.faultPresent = true), st.stateRefused, 4)]; firstFail table = some (status, detail) ∧ detail = 0) ∧
    (∃ (s : State) (t : Nat) (d : Desc) (status : Nat) (detail : Nat), let a := s.advance t; let p0 := d.p0.toNat; let p1 := d.p1.toNat; let fixed := decide (d.target.toNat = 1); let table : List (Bool × Nat × Nat) := [(4 < d.target.toNat, st.targetRange, 0), (d.len ≠ 0, st.lenRange, 0), (if fixed then p0 < a.pc16 8 ∨ a.pc16 0xA < p0 ∨ 1 < p1 else p0 ≠ 0 ∨ p1 ≠ 0, st.targetRange, 0x10), (!a.curveOk, st.stateRefused, 1), (a.bit F.PUMP_CTRL_EN = false ∨ a.bit F.PUMP_CTRL_MANUAL = true, st.stateRefused, 2), (fixed ∧ (p1 == 1) ≠ a.pumpReverse ∧ (a.pc16 0x14 : Rat) < |a.pumpMeas|, st.stateRefused, 3), (d.target.toNat = 4 ∧ (a.pState ≠ ps.fault ∨ a.faultPresent = true), st.stateRefused, 4)]; firstFail table = some (status, detail) ∧ detail = 0x10) ∧
    (∃ (s : State) (t : Nat) (d : Desc) (status : Nat) (detail : Nat), let a := s.advance t; let p0 := d.p0.toNat; let p1 := d.p1.toNat; let fixed := decide (d.target.toNat = 1); let table : List (Bool × Nat × Nat) := [(4 < d.target.toNat, st.targetRange, 0), (d.len ≠ 0, st.lenRange, 0), (if fixed then p0 < a.pc16 8 ∨ a.pc16 0xA < p0 ∨ 1 < p1 else p0 ≠ 0 ∨ p1 ≠ 0, st.targetRange, 0x10), (!a.curveOk, st.stateRefused, 1), (a.bit F.PUMP_CTRL_EN = false ∨ a.bit F.PUMP_CTRL_MANUAL = true, st.stateRefused, 2), (fixed ∧ (p1 == 1) ≠ a.pumpReverse ∧ (a.pc16 0x14 : Rat) < |a.pumpMeas|, st.stateRefused, 3), (d.target.toNat = 4 ∧ (a.pState ≠ ps.fault ∨ a.faultPresent = true), st.stateRefused, 4)]; firstFail table = some (status, detail) ∧ detail = 1) ∧
    (∃ (s : State) (t : Nat) (d : Desc) (status : Nat) (detail : Nat), let a := s.advance t; let p0 := d.p0.toNat; let p1 := d.p1.toNat; let fixed := decide (d.target.toNat = 1); let table : List (Bool × Nat × Nat) := [(4 < d.target.toNat, st.targetRange, 0), (d.len ≠ 0, st.lenRange, 0), (if fixed then p0 < a.pc16 8 ∨ a.pc16 0xA < p0 ∨ 1 < p1 else p0 ≠ 0 ∨ p1 ≠ 0, st.targetRange, 0x10), (!a.curveOk, st.stateRefused, 1), (a.bit F.PUMP_CTRL_EN = false ∨ a.bit F.PUMP_CTRL_MANUAL = true, st.stateRefused, 2), (fixed ∧ (p1 == 1) ≠ a.pumpReverse ∧ (a.pc16 0x14 : Rat) < |a.pumpMeas|, st.stateRefused, 3), (d.target.toNat = 4 ∧ (a.pState ≠ ps.fault ∨ a.faultPresent = true), st.stateRefused, 4)]; firstFail table = some (status, detail) ∧ detail = 2) ∧
    (∃ (s : State) (t : Nat) (d : Desc) (status : Nat) (detail : Nat), let a := s.advance t; let p0 := d.p0.toNat; let p1 := d.p1.toNat; let fixed := decide (d.target.toNat = 1); let table : List (Bool × Nat × Nat) := [(4 < d.target.toNat, st.targetRange, 0), (d.len ≠ 0, st.lenRange, 0), (if fixed then p0 < a.pc16 8 ∨ a.pc16 0xA < p0 ∨ 1 < p1 else p0 ≠ 0 ∨ p1 ≠ 0, st.targetRange, 0x10), (!a.curveOk, st.stateRefused, 1), (a.bit F.PUMP_CTRL_EN = false ∨ a.bit F.PUMP_CTRL_MANUAL = true, st.stateRefused, 2), (fixed ∧ (p1 == 1) ≠ a.pumpReverse ∧ (a.pc16 0x14 : Rat) < |a.pumpMeas|, st.stateRefused, 3), (d.target.toNat = 4 ∧ (a.pState ≠ ps.fault ∨ a.faultPresent = true), st.stateRefused, 4)]; firstFail table = some (status, detail) ∧ detail = 4) :=
  ⟨⟨{ given [(F.PUMP_STATUS_CURVE_OK, 1), (F.PUMP_CTRL_EN, 1), (F.PUMP_STATUS_STATE, 7), (F.PUMP_STATUS_FAULT, 2)] with tables := [(tid.pumpCurve, { work := [(2, 4), (3, 6), (8, 244), (9, 1), (10, 136), (11, 19), (20, 232), (21, 3), (22, 232), (23, 3), (24, 100), (28, 244), (29, 1), (30, 100), (38, 20), (40, 100), (46, 2)] })] }, 0, { opc := 10, target := 4 }, by decide +kernel⟩,
   ⟨given [], 0, { opc := 10, target := 5 }, st.targetRange, 0, by decide +kernel⟩,
   ⟨{ given [] with tables := [(tid.pumpCurve, { work := [(2, 4), (3, 6), (8, 244), (9, 1), (10, 136), (11, 19), (20, 232), (21, 3), (22, 232), (23, 3), (24, 100), (28, 244), (29, 1), (30, 100), (38, 20), (40, 100), (46, 2)] })] }, 0, { opc := 10, target := 1, p0 := 499 }, st.targetRange, 0x10, by decide +kernel⟩,
   ⟨given [], 0, { opc := 10 }, st.stateRefused, 1, by decide +kernel⟩,
   ⟨given [(F.PUMP_STATUS_CURVE_OK, 1)], 0, { opc := 10 }, st.stateRefused, 2, by decide +kernel⟩,
   ⟨given [(F.PUMP_STATUS_CURVE_OK, 1), (F.PUMP_CTRL_EN, 1)], 0, { opc := 10, target := 4 }, st.stateRefused, 4, by decide +kernel⟩⟩

theorem meets_PumpOrdersAndControl_3 :
    ∃ (s : State) (t : Nat) (d : Desc) (status : Nat) (detail : Nat), let a := s.advance t; let p0 := d.p0.toNat; let p1 := d.p1.toNat; let fixed := decide (d.target.toNat = 1); let table : List (Bool × Nat × Nat) := [(4 < d.target.toNat, st.targetRange, 0), (d.len ≠ 0, st.lenRange, 0), (if fixed then p0 < a.pc16 8 ∨ a.pc16 0xA < p0 ∨ 1 < p1 else p0 ≠ 0 ∨ p1 ≠ 0, st.targetRange, 0x10), (!a.curveOk, st.stateRefused, 1), (a.bit F.PUMP_CTRL_EN = false ∨ a.bit F.PUMP_CTRL_MANUAL = true, st.stateRefused, 2), (fixed ∧ (p1 == 1) ≠ a.pumpReverse ∧ (a.pc16 0x14 : Rat) < |a.pumpMeas|, st.stateRefused, 3), (d.target.toNat = 4 ∧ (a.pState ≠ ps.fault ∨ a.faultPresent = true), st.stateRefused, 4)]; firstFail table = some (status, detail) ∧ detail = 3 :=
  ⟨{ given [(F.PUMP_STATUS_CURVE_OK, 1), (F.PUMP_CTRL_EN, 1), (F.PUMP_STATUS_STATE, 5)] with elapsed := 200000000, tables := [(tid.pumpCurve, { work := [(2, 4), (3, 6), (8, 244), (9, 1), (10, 136), (11, 19), (20, 232), (21, 3), (22, 232), (23, 3), (24, 100), (28, 244), (29, 1), (30, 100), (38, 20), (40, 100), (46, 2)] })], pump := { crossings := [{ leg := 0, rising := false, time := 190000000 }, { leg := 1, rising := true, time := 192000000 }, { leg := 2, rising := false, time := 194000000 }] } }, 0, { opc := 10, target := 1, p0 := 500, p1 := 1 }, st.stateRefused, 3, by decide +kernel⟩

theorem meets_DoorbellsAndTheIdleHint :
    (∃ (s : State) (t : Nat) (n : Fin 6) (v : Word), let a := s.advance t; let ahead := (v.toNat + 2 ^ 32 - a.get (F.HOST_RING_CI_CI n)) % 2 ^ 32; a.tableau = false ∧ a.bit (F.HOST_RING_CFG_EN n) = true ∧ (if n = 0 then a.ringOcc 0 ≤ ahead ∧ ahead ≤ a.ringSize 0 else ahead ≤ a.ringOcc n) ∧ v = 16) ∧
    (∃ (s : State) (t : Nat) (n : Fin 6) (v : Word), let a := s.advance t; let ahead := (v.toNat + 2 ^ 32 - a.get (F.HOST_RING_CI_CI n)) % 2 ^ 32; a.tableau = false ∧ a.bit (F.HOST_RING_CFG_EN n) = true ∧ (if n = 0 then a.ringOcc 0 ≤ ahead ∧ ahead ≤ a.ringSize 0 else ahead ≤ a.ringOcc n) ∧ v = 3) ∧
    (∃ (s : State) (t : Nat) (n : Fin 6) (v : Word), let a := s.advance t; let ahead := (v.toNat + 2 ^ 32 - a.get (F.HOST_RING_CI_CI n)) % 2 ^ 32; a.tableau = false ∧ a.bit (F.HOST_RING_CFG_EN n) = true ∧ (if n = 0 then a.ringOcc 0 ≤ ahead ∧ ahead ≤ a.ringSize 0 else ahead ≤ a.ringOcc n)) ∧
    (∃ (s : State) (t : Nat) (n : Fin 6) (v : Word) (be : BitVec 4), let a := s.advance t; let ahead := (v.toNat + 2 ^ 32 - a.get (F.HOST_RING_CI_CI n)) % 2 ^ 32; (be ≠ 15 ∨ a.tableau = false ∧ (a.bit (F.HOST_RING_CFG_EN n) = false ∨ (if n = 0 then ahead < a.ringOcc 0 ∨ a.ringSize 0 < ahead else a.ringOcc n < ahead))) ∧ be ≠ 15) ∧
    (∃ (s : State) (t : Nat) (n : Fin 6) (v : Word) (be : BitVec 4), let a := s.advance t; let ahead := (v.toNat + 2 ^ 32 - a.get (F.HOST_RING_CI_CI n)) % 2 ^ 32; (be ≠ 15 ∨ a.tableau = false ∧ (a.bit (F.HOST_RING_CFG_EN n) = false ∨ (if n = 0 then ahead < a.ringOcc 0 ∨ a.ringSize 0 < ahead else a.ringOcc n < ahead))) ∧ a.bit (F.HOST_RING_CFG_EN n) = false) ∧
    (∃ (s : State) (t : Nat) (n : Fin 6) (v : Word) (be : BitVec 4), let a := s.advance t; let ahead := (v.toNat + 2 ^ 32 - a.get (F.HOST_RING_CI_CI n)) % 2 ^ 32; (be ≠ 15 ∨ a.tableau = false ∧ (a.bit (F.HOST_RING_CFG_EN n) = false ∨ (if n = 0 then ahead < a.ringOcc 0 ∨ a.ringSize 0 < ahead else a.ringOcc n < ahead))) ∧ ahead < a.ringOcc 0) :=
  ⟨⟨given [(F.HOST_RING_CFG_EN 0, 1), (F.HOST_RING_CFG_LOG2 0, 4), (F.HOST_RING_PI_PI 0, 3)], 0, 0, 16#32, by decide +kernel⟩,
   ⟨given [(F.HOST_RING_CFG_EN 0, 1), (F.HOST_RING_CFG_LOG2 0, 4), (F.HOST_RING_PI_PI 0, 3)], 0, 0, 3#32, by decide +kernel⟩,
   ⟨given [(F.HOST_RING_CFG_EN 5, 1), (F.HOST_RING_CFG_LOG2 5, 4), (F.HOST_RING_PI_PI 5, 3), (F.HOST_RING_CI_CI 5, 0xFFFFFFFE)], 0, 5, 3#32, by decide +kernel⟩,
   ⟨given [(F.HOST_RING_CFG_EN 0, 1), (F.HOST_RING_CFG_LOG2 0, 4)], 0, 0, 3#32, 7#4, by decide +kernel⟩,
   ⟨given [], 0, 4, 0#32, 15#4, by decide +kernel⟩,
   ⟨given [(F.HOST_RING_CFG_EN 0, 1), (F.HOST_RING_CFG_LOG2 0, 4), (F.HOST_RING_PI_PI 0, 3)], 0, 0, 2#32, 15#4, by decide +kernel⟩⟩

theorem meets_DoorbellsAndTheIdleHint_2 :
    (∃ (s : State) (t : Nat) (n : Fin 6) (v : Word) (be : BitVec 4), let a := s.advance t; let ahead := (v.toNat + 2 ^ 32 - a.get (F.HOST_RING_CI_CI n)) % 2 ^ 32; (be ≠ 15 ∨ a.tableau = false ∧ (a.bit (F.HOST_RING_CFG_EN n) = false ∨ (if n = 0 then ahead < a.ringOcc 0 ∨ a.ringSize 0 < ahead else a.ringOcc n < ahead))) ∧ (a.ringSize 0 < ahead ∧ n = 0)) ∧
    (∃ (s : State) (t : Nat) (n : Fin 6) (v : Word) (be : BitVec 4), let a := s.advance t; let ahead := (v.toNat + 2 ^ 32 - a.get (F.HOST_RING_CI_CI n)) % 2 ^ 32; (be ≠ 15 ∨ a.tableau = false ∧ (a.bit (F.HOST_RING_CFG_EN n) = false ∨ (if n = 0 then ahead < a.ringOcc 0 ∨ a.ringSize 0 < ahead else a.ringOcc n < ahead))) ∧ (a.ringOcc n < ahead ∧ n = 2)) ∧
    (∃ (s : State) (t : Nat), let a := s.advance t; a.tableau = true) ∧
    (∃ (s : State) (t : Nat), let a := s.advance t; ((a.vec 63).phase = .gather ∧ 1 ≤ a.commitCount 63 ∧ a.tableau = false)) :=
  ⟨⟨given [(F.HOST_RING_CFG_EN 0, 1), (F.HOST_RING_CFG_LOG2 0, 4)], 0, 0, 17#32, 15#4, by decide +kernel⟩,
   ⟨given [(F.HOST_RING_CFG_EN 2, 1), (F.HOST_RING_CFG_LOG2 2, 4), (F.HOST_RING_PI_PI 2, 3)], 0, 2, 4#32, 15#4, by decide +kernel⟩,
   ⟨{ given [(F.POWER_STATUS_TABLEAU, 1)] with host := { held := [.doorbell 3 1, .bar0 0x20 5, .doorbell 2 1] } }, 0, by decide +kernel⟩,
   ⟨{ given [(F.IRQ_TARGET_TGT0 16, 127), (F.IRQ_MASK_MASK 2, 0)] with router := { causes := [(64, 1)], vecs := [(63, { phase := .gather })] } }, 0, by decide +kernel⟩⟩

theorem meets_DescriptorsAreFetchedAndDispatched :
    (∃ (s : State) (t : Nat), let a := s.advance t; let flying := (a.host.reads.map DescRead.count).sum; let next := (a.get (F.HOST_RING_CI_CI 0) + flying) % 2 ^ 32; let k := min (min 4 (a.ringOcc 0 - flying)) (min (a.ringSize 0 - next % a.ringSize 0) a.reservable); (a.bit (F.HOST_RING_CFG_EN 0) = true ∧ a.bit (F.HOST_RING_STATE_STOPPED 0) = false ∧ a.busOpen = true ∧ a.tableau = false ∧ k = 3)) ∧
    (∃ (s : State) (t : Nat) (ds : List Desc) (r : DescRead) (rs : List DescRead), let a := s.advance t; a.host.reads = r :: rs ∧ ds.length = r.count) ∧
    (∃ (s : State) (t : Nat) (ds : List Desc) (r : DescRead) (rs : List DescRead), let a := s.advance t; a.host.reads = r :: rs ∧ ds.length = r.count ∧ a.host.fetched = [] ∧ a.tableau = false ∧ a.bit F.HOST_TRACE_CTRL_CMD_EN = false ∧ (∀ d ∈ ds, firstFail (commonChecks d) = none ∧ d.flags.getLsbD 1 = false ∧ d.flags.getLsbD 2 = false)) ∧
    (∃ (s : State) (t : Nat) (d : Desc) (r : DescRead) (rs : List DescRead), let a := s.advance t; a.host.reads = r :: rs ∧ r.count = 1 ∧ r.retried = false ∧ a.host.fetched = [] ∧ a.tableau = false ∧ a.bit (F.HOST_RING_CFG_EN 1) = true ∧ firstFail (commonChecks d) = some (st.opcUnknown, 16)) ∧
    (∃ (s : State) (t : Nat) (d : Desc) (r : DescRead) (rs : List DescRead), let a := s.advance t; a.host.reads = r :: rs ∧ r.count = 1 ∧ r.retried = false ∧ a.host.fetched = [] ∧ a.tableau = false ∧ a.bit (F.HOST_RING_CFG_EN 1) = true ∧ (firstFail (commonChecks d) = none ∧ d.flags.getLsbD 1 = true ∧ a.fenceMet = false)) ∧
    (∃ (s : State) (t : Nat) (d : Desc) (r : DescRead) (rs : List DescRead), let a := s.advance t; a.host.reads = r :: rs ∧ r.count = 1 ∧ r.retried = false ∧ a.host.fetched = [] ∧ a.tableau = false ∧ a.bit (F.HOST_RING_CFG_EN 1) = true ∧ (firstFail (commonChecks d) = none ∧ d.flags.getLsbD 1 = false ∧ d.flags.getLsbD 2 = true ∧ a.host.timed.length < 64 ∧ a.datum ≤ d.execTime.toNat)) :=
  ⟨⟨{ given [(F.HOST_RING_CFG_EN 0, 1), (F.HOST_RING_CFG_LOG2 0, 4), (F.HOST_RING_CFG_EN 1, 1), (F.HOST_RING_CFG_LOG2 1, 4), (F.HOST_STATUS_BME, 1), (F.HOST_RING_PI_PI 0, 20), (F.HOST_RING_CI_CI 0, 11)] with host := { reads := [{ idx := 11, count := 2, retried := false }] } }, 0, by decide +kernel⟩,
   ⟨{ given [(F.HOST_RING_CI_CI 0, 5)] with host := { reads := [{ idx := 5, count := 1, retried := true }] } }, 0, [({ opc := 1, tag := 3 } : Desc)], { idx := 5, count := 1, retried := true }, [], by decide +kernel⟩,
   ⟨{ given [(F.HOST_RING_CI_CI 0, 5)] with host := { reads := [{ idx := 5, count := 2, retried := true }] } }, 0, [({ opc := 1, tag := 3 } : Desc), { opc := 14 }], { idx := 5, count := 2, retried := true }, [], by decide +kernel⟩,
   ⟨{ given [(F.HOST_RING_CFG_EN 1, 1), (F.HOST_RING_CFG_LOG2 1, 4)] with datum := 1000, host := { reads := [{ idx := 5, count := 1, retried := false }] } }, 0, { opc := 16 }, { idx := 5, count := 1, retried := false }, [], by decide +kernel⟩,
   ⟨{ given [(F.HOST_RING_CFG_EN 1, 1), (F.HOST_RING_CFG_LOG2 1, 4)] with datum := 1000, host := { reads := [{ idx := 5, count := 1, retried := false }], dispatched := [({ opc := 1, tag := 3 } : Desc)] } }, 0, { opc := 1, flags := 2 }, { idx := 5, count := 1, retried := false }, [], by decide +kernel⟩,
   ⟨{ given [(F.HOST_RING_CFG_EN 1, 1), (F.HOST_RING_CFG_LOG2 1, 4)] with datum := 1000, host := { reads := [{ idx := 5, count := 1, retried := false }] } }, 0, { opc := 1, flags := 4, execTime := 1000 }, { idx := 5, count := 1, retried := false }, [], by decide +kernel⟩⟩

theorem meets_DescriptorsAreFetchedAndDispatched_2 :
    (∃ (s : State) (t : Nat) (d : Desc) (r : DescRead) (rs : List DescRead), let a := s.advance t; a.host.reads = r :: rs ∧ r.count = 1 ∧ r.retried = false ∧ a.host.fetched = [] ∧ a.tableau = false ∧ a.bit (F.HOST_RING_CFG_EN 1) = true ∧ (firstFail (commonChecks d) = none ∧ d.flags.getLsbD 1 = false ∧ d.flags.getLsbD 2 = true ∧ a.host.timed.length < 64 ∧ d.execTime.toNat < a.datum)) ∧
    (∃ (s : State) (t : Nat), let a := s.advance t; (a.tableau = false ∧ a.host.timed.length = 3)) :=
  ⟨⟨{ given [(F.HOST_RING_CFG_EN 1, 1), (F.HOST_RING_CFG_LOG2 1, 4)] with datum := 1000, host := { reads := [{ idx := 5, count := 1, retried := false }] } }, 0, { opc := 1, flags := 4, execTime := 998 }, { idx := 5, count := 1, retried := false }, [], by decide +kernel⟩,
   ⟨{ given [] with datum := 1000, host := { timed := [{ opc := 1, execTime := 1000 }, { opc := 1, tag := 2, execTime := 500 }, { opc := 1, execTime := 1002 }] } }, 0, by decide +kernel⟩⟩

theorem meets_ReadFailuresAndTheHostLost :
    (∃ (s : State) (t : Nat) (i : Nat) (r : DescRead), let a := s.advance t; a.host.reads.find? (fun r => r.idx == i) = some r ∧ r.retried = false) ∧
    (∃ (s : State) (t : Nat) (i : Nat) (r : DescRead), let a := s.advance t; a.host.reads.find? (fun r => r.idx == i) = some r ∧ r.retried = true) ∧
    (∃ (s : State) (t : Nat) (block : Nat) (d : Desc) (r : PayRead), let a := s.advance t; a.host.payloads.find? (fun r => r.desc == d) = some r ∧ 128 * block < d.len.toNat ∧ block ∈ r.retried) ∧
    (∃ (s : State) (t : Nat) (block : Nat) (d : Desc) (r : PayRead), let a := s.advance t; a.host.payloads.find? (fun r => r.desc == d) = some r ∧ 128 * block < d.len.toNat ∧ block ∉ r.retried) ∧
    (∃ (s : State) (t : Nat) (x : ReadId), let a := s.advance t; (match x with | .descr i => ∀ r ∈ a.host.reads, r.idx ≠ i | .payload d _ => ∀ r ∈ a.host.payloads, r.desc ≠ d) ∧ x = .descr 5) ∧
    (∃ (s : State) (t : Nat) (x : ReadId), let a := s.advance t; (match x with | .descr i => ∀ r ∈ a.host.reads, r.idx ≠ i | .payload d _ => ∀ r ∈ a.host.payloads, r.desc ≠ d) ∧ x ≠ .descr 5) :=
  ⟨⟨{ given [(F.HOST_RING_CFG_EN 0, 1), (F.HOST_RING_CFG_LOG2 0, 4)] with host := { reads := [{ idx := 3, count := 2, retried := false }, { idx := 5, count := 1, retried := false }] } }, 0, 5, { idx := 5, count := 1, retried := false }, by decide +kernel⟩,
   ⟨{ given [(F.HOST_RING_CFG_EN 0, 1), (F.HOST_RING_CFG_LOG2 0, 4)] with host := { reads := [{ idx := 3, count := 2, retried := false }, { idx := 5, count := 1, retried := true }] } }, 0, 5, { idx := 5, count := 1, retried := true }, by decide +kernel⟩,
   ⟨{ given [(F.HOST_RING_CFG_EN 1, 1), (F.HOST_RING_CFG_LOG2 1, 4)] with host := { payloads := [{ desc := { opc := 2, hostAddr := 4096, len := 129 }, retried := [1] }], dispatched := [{ opc := 2, hostAddr := 4096, len := 129 }] } }, 0, 1, { opc := 2, hostAddr := 4096, len := 129 }, { desc := { opc := 2, hostAddr := 4096, len := 129 }, retried := [1] }, by decide +kernel⟩,
   ⟨{ given [(F.HOST_RING_CFG_EN 1, 1), (F.HOST_RING_CFG_LOG2 1, 4)] with host := { payloads := [{ desc := { opc := 2, hostAddr := 4096, len := 129 }, retried := [0] }], dispatched := [{ opc := 2, hostAddr := 4096, len := 129 }] } }, 0, 1, { opc := 2, hostAddr := 4096, len := 129 }, { desc := { opc := 2, hostAddr := 4096, len := 129 }, retried := [0] }, by decide +kernel⟩,
   ⟨given [], 0, .descr 5, by decide +kernel⟩,
   ⟨given [], 0, .payload ({ opc := 1, tag := 3 } : Desc) 0, by decide +kernel⟩⟩

theorem meets_ReadFailuresAndTheHostLost_2 :
    (∃ (s : State) (t : Nat) (bme : Bool) (d3 : Bool), let a := s.advance t; (bme = true ∧ d3 = false ∧ a.host.outbox ≠ [])) ∧
    (∃ (s : State) (t : Nat), let a := s.advance t; (a.stagedFor 2).length = 1) ∧
    (∃ (s : State) (t : Nat), True) :=
  ⟨⟨{ given [] with host := { outbox := [⟨4, [1]⟩] } }, 0, true, false, by decide +kernel⟩,
   ⟨{ given [(F.HOST_RING_CFG_EN 2, 1), (F.HOST_RING_CFG_LOG2 2, 4), (F.EVENT_REC_SEQ_SEQ, 1), (F.HOST_RING_CFG_EN 4, 1), (F.HOST_STATUS_LINK_UP, 1)] with host := { staged := [⟨2, List.replicate 32 0, 5, false, none, 0⟩, ⟨0, [], 0, false, none, 0⟩, ⟨4, List.replicate 128 0, 5, false, none, 0⟩], dispatched := [({ opc := 1, tag := 3 } : Desc)] } }, 0, by decide +kernel⟩,
   ⟨given [], 0, by decide +kernel⟩⟩

theorem meets_TablesAreLoadedReadAndChecked :
    (∃ (s : State) (t : Nat) (d : Desc) (status : Nat) (detail : Nat), firstFail (tableChecks d) = some (status, detail)) ∧
    (∃ (s : State) (t : Nat) (d : Desc) (status : Nat) (detail : Nat), let a := s.advance t; (firstFail (tableChecks d) = none ∧ a.loadGate d.target.toNat d.p0.toNat d.len.toNat = some (status, detail))) ∧
    (∃ (s : State) (t : Nat) (d : Desc) (p : Option (List Byte)) (status : Nat) (detail : Nat), let a := s.advance t; (firstFail (tableChecks d) = none ∧ a.loadGate d.target.toNat d.p0.toNat d.len.toNat = none ∧ ∃ l ∈ p, l.length = d.len.toNat ∧ a.tableBad d.target.toNat d.p0.toNat l = some (0x40, 0xFF) ∧ status = st.tableCheck ∧ detail = 256 * 0x40 + 0xFF)) ∧
    (∃ (s : State) (t : Nat) (d : Desc), let a := s.advance t; firstFail (tableChecks d) = none ∧ a.loadGate d.target.toNat d.p0.toNat d.len.toNat = none) ∧
    (∃ (s : State) (t : Nat) (d : Desc) (l : List Byte), let a := s.advance t; let id := d.target.toNat; let off := d.p0.toNat; firstFail (tableChecks d) = none ∧ l.length = d.len.toNat ∧ a.loadGate id off l.length = none ∧ a.tableBad id off l = none ∧ id = tid.varCurve) ∧
    (∃ (s : State) (t : Nat) (d : Desc) (l : List Byte), let a := s.advance t; let id := d.target.toNat; let off := d.p0.toNat; firstFail (tableChecks d) = none ∧ l.length = d.len.toNat ∧ a.loadGate id off l.length = none ∧ a.tableBad id off l = none ∧ id = tid.pulseMap) :=
  ⟨⟨given [], 0, { opc := 2, target := 13, len := 4 }, st.targetRange, 0, by decide +kernel⟩,
   ⟨given [(F.CURTAIN_STATUS_STATE, 3)], 0, { opc := 2, target := 1, len := 4 }, st.stateRefused, 0, by decide +kernel⟩,
   ⟨given [], 0, { opc := 2, target := 5, len := 4 }, some [2, 0, 0, 0], st.tableCheck, 0x40FF, by decide +kernel⟩,
   ⟨given [], 0, { opc := 2, target := 4, len := 10 }, by decide +kernel⟩,
   ⟨given [], 0, { opc := 2, target := 4, len := 10 }, [0, 0, 0, 0, 0, 0, 10, 0, 0, 0], by decide +kernel⟩,
   ⟨given [], 0, { opc := 2, target := 9, len := 8 }, [31, 1, 5, 0, 1, 0, 0, 0], by decide +kernel⟩⟩

theorem meets_TablesAreLoadedReadAndChecked_2 :
    (∃ (s : State) (t : Nat) (d : Desc) (l : List Byte) (r : PayRead), let a := s.advance t; let id := d.target.toNat; let off := d.p0.toNat; a.host.payloads.find? (fun r => r.desc == d) = some r ∧ d.opc = 2 ∧ l.length = d.len.toNat ∧ (a.loadGate id off l.length = none ∧ a.tableBad id off l = none)) ∧
    (∃ (s : State) (t : Nat) (d : Desc) (l : List Byte) (r : PayRead), let a := s.advance t; let id := d.target.toNat; let off := d.p0.toNat; a.host.payloads.find? (fun r => r.desc == d) = some r ∧ d.opc = 2 ∧ l.length = d.len.toNat ∧ (a.loadGate id off l.length = none ∧ a.tableBad id off l = some (0x40, 0xFF))) ∧
    (∃ (s : State) (t : Nat) (d : Desc), let a := s.advance t; firstFail (tableChecks d) = none ∧ a.busOpen = true) ∧
    (∃ (s : State) (t : Nat) (d : Desc), let a := s.advance t; firstFail (tableChecks d) = none ∧ a.busOpen = false) ∧
    (∃ (s : State) (t : Nat) (d : Desc) (status : Nat) (detail : Nat), firstFail (tableChecks d) = some (status, detail)) ∧
    (∃ (s : State) (t : Nat) (us : List TableUpset), let a := s.advance t; let m := a.each us State.upset; (∀ id ∈ checkedIds, m.tableOk id = true → m.tableCrc id = (m.tableMem id).crc) ∧ a.tableOk tid.varCurve = true) :=
  ⟨⟨{ given [] with host := { payloads := [{ desc := { opc := 2, target := 4, len := 10 }, retried := [0] }], dispatched := [{ opc := 2, target := 4, len := 10 }] } }, 0, { opc := 2, target := 4, len := 10 }, [0, 0, 0, 0, 0, 0, 10, 0, 0, 0], { desc := { opc := 2, target := 4, len := 10 }, retried := [0] }, by decide +kernel⟩,
   ⟨{ given [] with host := { payloads := [{ desc := { opc := 2, target := 5, len := 4 }, retried := [0] }], dispatched := [{ opc := 2, target := 5, len := 4 }] } }, 0, { opc := 2, target := 5, len := 4 }, [2, 0, 0, 0], { desc := { opc := 2, target := 5, len := 4 }, retried := [0] }, by decide +kernel⟩,
   ⟨{ given [(F.HOST_STATUS_BME, 1)] with host := { dispatched := [{ opc := 3, target := 1, len := 32, p0 := 4064 }] } }, 0, { opc := 3, target := 1, len := 32, p0 := 4064 }, by decide +kernel⟩,
   ⟨given [], 0, { opc := 3, target := 1, len := 32, p0 := 4064 }, by decide +kernel⟩,
   ⟨given [], 0, { opc := 3, target := 13, len := 4 }, st.targetRange, 0, by decide +kernel⟩,
   ⟨{ given [(F.HOST_TABLE_OK_OK, 8)] with tables := [(tid.varCurve, { work := [(6, 10)], stored := [(6, 10)], crc := 0xC787B802#32 })] }, 0, [], by decide +kernel⟩⟩

theorem meets_TablesAreLoadedReadAndChecked_3 :
    (∃ (s : State) (t : Nat) (id : Nat) (us : List TableUpset), let a := s.advance t; let n := a.each us State.upset; let m := n.tableMem id; let crc := crc32 ((List.range (tableSize id)).map fun o => Sparse.get (tableReset id) m.stored o); id ∈ checkedIds ∧ n.tableOk id = true ∧ n.tableCrc id ≠ m.crc ∧ (∀ id' ∈ checkedIds, id' ≠ id → n.tableOk id' = true → n.tableCrc id' = (n.tableMem id').crc) ∧ crc = m.crc) ∧
    (∃ (s : State) (t : Nat) (id : Nat) (us : List TableUpset), let a := s.advance t; let n := a.each us State.upset; let m := n.tableMem id; let crc := crc32 ((List.range (tableSize id)).map fun o => Sparse.get (tableReset id) m.stored o); id ∈ checkedIds ∧ n.tableOk id = true ∧ n.tableCrc id ≠ m.crc ∧ (∀ id' ∈ checkedIds, id' ≠ id → n.tableOk id' = true → n.tableCrc id' = (n.tableMem id').crc) ∧ (crc = m.crc ∧ us ≠ [])) ∧
    (∃ (s : State) (t : Nat) (id : Nat) (us : List TableUpset), let a := s.advance t; let n := a.each us State.upset; let m := n.tableMem id; let crc := crc32 ((List.range (tableSize id)).map fun o => Sparse.get (tableReset id) m.stored o); id ∈ checkedIds ∧ n.tableOk id = true ∧ n.tableCrc id ≠ m.crc ∧ (∀ id' ∈ checkedIds, id' ≠ id → n.tableOk id' = true → n.tableCrc id' = (n.tableMem id').crc) ∧ crc ≠ m.crc) :=
  ⟨⟨{ given [(F.HOST_TABLE_OK_OK, 8)] with tables := [(tid.varCurve, { work := [(6, 11)], stored := [(6, 10)], crc := 0xC787B802#32 })] }, 0, tid.varCurve, [], by decide +kernel⟩,
   ⟨{ given [(F.HOST_TABLE_OK_OK, 8)] with tables := [(tid.varCurve, { work := [(6, 10)], stored := [(6, 10)], crc := 0xC787B802#32 })] }, 0, tid.varCurve, [⟨tid.varCurve, false, 6, 1⟩], by decide +kernel⟩,
   ⟨{ given [(F.HOST_TABLE_OK_OK, 8)] with tables := [(tid.varCurve, { work := [(6, 11)], stored := [(6, 12)], crc := 0xC787B802#32 })] }, 0, tid.varCurve, [], by decide +kernel⟩⟩

theorem meets_SmallCommandsComplete :
    (∃ (s : State) (t : Nat) (d : Desc), let a := s.advance t; let lo := d.p0.toNat; let len := d.len.toNat; let checks : List (Bool × Nat × Nat) := [(d.target ≠ 0, st.targetRange, 0), (d.p1 ≠ 0, st.targetRange, 0x10), (len = 0 ∨ 2048 < len ∨ len % 4 ≠ 0, st.lenRange, 0), (lo % 4 ≠ 0 ∨ oneBlock lo len = false, st.targetRange, 0x11)]; (firstFail checks = none ∧ a.busOpen = true)) ∧
    (∃ (s : State) (t : Nat) (d : Desc), let a := s.advance t; let lo := d.p0.toNat; let len := d.len.toNat; let checks : List (Bool × Nat × Nat) := [(d.target ≠ 0, st.targetRange, 0), (d.p1 ≠ 0, st.targetRange, 0x10), (len = 0 ∨ 2048 < len ∨ len % 4 ≠ 0, st.lenRange, 0), (lo % 4 ≠ 0 ∨ oneBlock lo len = false, st.targetRange, 0x11)]; (firstFail checks = none ∧ a.busOpen = false)) ∧
    (∃ (s : State) (t : Nat) (d : Desc) (status : Nat) (detail : Nat), let lo := d.p0.toNat; let len := d.len.toNat; let checks : List (Bool × Nat × Nat) := [(d.target ≠ 0, st.targetRange, 0), (d.p1 ≠ 0, st.targetRange, 0x10), (len = 0 ∨ 2048 < len ∨ len % 4 ≠ 0, st.lenRange, 0), (lo % 4 ≠ 0 ∨ oneBlock lo len = false, st.targetRange, 0x11)]; firstFail checks = some (status, detail)) ∧
    (∃ (s : State) (t : Nat) (d : Desc), d.target = 1 ∧ d.len = 0 ∧ d.p0 = 0 ∧ d.p1 = 0) ∧
    (∃ (s : State) (t : Nat) (d : Desc) (us : List TableUpset), let a := s.advance t; let m := a.each us State.upset; d.target = 2 ∧ d.len = 0 ∧ d.p0 = 0 ∧ d.p1 = 0 ∧ (∀ id ∈ checkedIds, m.tableOk id = true → m.tableCrc id = (m.tableMem id).crc) ∧ (m.paramOk = true → m.paramCrcOk = true)) ∧
    (∃ (s : State) (t : Nat) (d : Desc), let a := s.advance t; d.target = 3 ∧ d.len = 0 ∧ d.p0 = 0 ∧ d.p1 = 0 ∧ a.host.tests.sweep = []) :=
  ⟨⟨{ given [(F.HOST_STATUS_BME, 1)] with host := { dispatched := [{ opc := 15, p0 := 0x500, len := 32 }] } }, 0, { opc := 15, p0 := 0x500, len := 32 }, by decide +kernel⟩,
   ⟨given [], 0, { opc := 15, p0 := 0x1800, len := 1024 }, by decide +kernel⟩,
   ⟨given [], 0, { opc := 15, p0 := 0x1C00, len := 2048 }, st.targetRange, 0x11, by decide +kernel⟩,
   ⟨given [], 0, { opc := 13, target := 1 }, by decide +kernel⟩,
   ⟨given [], 0, { opc := 13, target := 2 }, [], by decide +kernel⟩,
   ⟨given [], 0, { opc := 13, target := 3 }, by decide +kernel⟩⟩

theorem meets_SmallCommandsComplete_2 :
    (∃ (s : State) (t : Nat) (d : Desc), let a := s.advance t; d.target = 3 ∧ d.len = 0 ∧ d.p0 = 0 ∧ d.p1 = 0 ∧ a.host.tests.sweep ≠ []) ∧
    (∃ (s : State) (t : Nat) (d : Desc) (status : Nat) (detail : Nat), firstFail [(3 < d.target.toNat, st.targetRange, 0), (d.len ≠ 0, st.lenRange, 0), (d.p0 ≠ 0 ∨ d.p1 ≠ 0, st.targetRange, 0x10)] = some (status, detail)) ∧
    (∃ (s : State) (t : Nat) (d : Desc), let a := s.advance t; let on := d.target == 1; let checks : List (Bool × Nat × Nat) := [(1 < d.target.toNat, st.targetRange, 0), (d.len ≠ 0, st.lenRange, 0), (d.p0 ≠ 0 ∨ d.p1 ≠ 0, st.targetRange, 0x10), (!a.curtainDown, st.stateRefused, 1), (on ∧ a.paramOk = false, st.stateRefused, 2)]; (firstFail checks = none ∧ a.service ≠ on ∧ on = false)) ∧
    (∃ (s : State) (t : Nat) (d : Desc), let a := s.advance t; let on := d.target == 1; let checks : List (Bool × Nat × Nat) := [(1 < d.target.toNat, st.targetRange, 0), (d.len ≠ 0, st.lenRange, 0), (d.p0 ≠ 0 ∨ d.p1 ≠ 0, st.targetRange, 0x10), (!a.curtainDown, st.stateRefused, 1), (on ∧ a.paramOk = false, st.stateRefused, 2)]; (firstFail checks = none ∧ a.service ≠ on ∧ on = true)) ∧
    (∃ (s : State) (t : Nat) (d : Desc), let a := s.advance t; let on := d.target == 1; let checks : List (Bool × Nat × Nat) := [(1 < d.target.toNat, st.targetRange, 0), (d.len ≠ 0, st.lenRange, 0), (d.p0 ≠ 0 ∨ d.p1 ≠ 0, st.targetRange, 0x10), (!a.curtainDown, st.stateRefused, 1), (on ∧ a.paramOk = false, st.stateRefused, 2)]; (firstFail checks = none ∧ a.service = on)) ∧
    (∃ (s : State) (t : Nat) (d : Desc) (status : Nat) (detail : Nat), let a := s.advance t; let on := d.target == 1; let checks : List (Bool × Nat × Nat) := [(1 < d.target.toNat, st.targetRange, 0), (d.len ≠ 0, st.lenRange, 0), (d.p0 ≠ 0 ∨ d.p1 ≠ 0, st.targetRange, 0x10), (!a.curtainDown, st.stateRefused, 1), (on ∧ a.paramOk = false, st.stateRefused, 2)]; (firstFail checks = some (status, detail) ∧ detail = 1)) :=
  ⟨⟨{ given [] with host := { tests := { sweep := [{ opc := 13, target := 3, tag := 1 }] } } }, 0, { opc := 13, target := 3 }, by decide +kernel⟩,
   ⟨given [], 0, { opc := 13, target := 4 }, st.targetRange, 0, by decide +kernel⟩,
   ⟨given [(F.CURTAIN_STATUS_PARAM_OK, 1), (F.CURTAIN_STATUS_MODE, 1)], 0, { opc := 14, target := 0 }, by decide +kernel⟩,
   ⟨given [(F.CURTAIN_STATUS_PARAM_OK, 1), (F.CURTAIN_STATUS_MODE, 0)], 0, { opc := 14, target := 1 }, by decide +kernel⟩,
   ⟨given [], 0, { opc := 14 }, by decide +kernel⟩,
   ⟨given [(F.CURTAIN_STATUS_STATE, 2)], 0, { opc := 14 }, st.stateRefused, 1, by decide +kernel⟩⟩

theorem meets_SmallCommandsComplete_3 :
    ∃ (s : State) (t : Nat) (d : Desc) (status : Nat) (detail : Nat), let a := s.advance t; let on := d.target == 1; let checks : List (Bool × Nat × Nat) := [(1 < d.target.toNat, st.targetRange, 0), (d.len ≠ 0, st.lenRange, 0), (d.p0 ≠ 0 ∨ d.p1 ≠ 0, st.targetRange, 0x10), (!a.curtainDown, st.stateRefused, 1), (on ∧ a.paramOk = false, st.stateRefused, 2)]; (firstFail checks = some (status, detail) ∧ detail = 2) :=
  ⟨given [], 0, { opc := 14, target := 1 }, st.stateRefused, 2, by decide +kernel⟩

theorem meets_RingsAreSetUpAndWritten :
    (∃ (s : State) (t : Nat) (n : Fin 6) (data : Word), let a := s.advance t; a.tableau = false ∧ a.ringCfgRefused n data = true) ∧
    (∃ (s : State) (t : Nat) (n : Fin 6) (data : Word), let a := s.advance t; a.tableau = false ∧ (a.ringCfgRefused n data = false ∧ a.bit (F.HOST_RING_CFG_EN n) = false ∧ data.getLsbD 31 = true)) ∧
    (∃ (s : State) (t : Nat) (n : Fin 6) (data : Word), let a := s.advance t; a.tableau = false ∧ (a.ringCfgRefused n data = false ∧ a.bit (F.HOST_RING_CFG_EN n) = true ∧ data.getLsbD 31 = true)) ∧
    (∃ (s : State) (t : Nat) (n : Fin 6) (data : Word), let a := s.advance t; a.tableau = false ∧ (a.ringCfgRefused n data = false ∧ data.getLsbD 31 = false ∧ n = 0)) ∧
    (∃ (s : State) (t : Nat) (n : Fin 6) (data : Word), let a := s.advance t; a.tableau = false ∧ (a.ringCfgRefused n data = false ∧ data.getLsbD 31 = false ∧ n = 2)) ∧
    (∃ (s : State) (t : Nat) (n : Fin 6) (data : Word), let a := s.advance t; a.tableau = false ∧ (a.ringCfgRefused n data = false ∧ data.getLsbD 31 = false ∧ n = 3)) :=
  ⟨⟨given [], 0, 0, 0x80000004#32, by decide +kernel⟩,
   ⟨given [], 0, 1, 0x80000010#32, by decide +kernel⟩,
   ⟨given [(F.HOST_RING_CFG_EN 1, 1), (F.HOST_RING_CFG_LOG2 1, 4)], 0, 1, 0x80000004#32, by decide +kernel⟩,
   ⟨{ given [(F.HOST_RING_CFG_EN 0, 1), (F.HOST_RING_CFG_LOG2 0, 4), (F.HOST_RING_CFG_EN 1, 1), (F.HOST_RING_CFG_LOG2 1, 4), (F.HOST_RING_CFG_EN 2, 1), (F.HOST_RING_CFG_LOG2 2, 4), (F.HOST_RING_CFG_EN 3, 1), (F.HOST_RING_CFG_LOG2 3, 4), (F.HOST_RING_CFG_EN 4, 1), (F.HOST_RING_CFG_LOG2 4, 4), (F.HOST_RING_CFG_EN 5, 1), (F.HOST_RING_CFG_LOG2 5, 4)] with host := { staged := [⟨0, [], 0, false, none, 0⟩, ⟨2, List.replicate 32 0, 0, false, none, 0⟩, ⟨3, List.replicate 64 0, 0, false, none, 0⟩, ⟨4, List.replicate 128 0, 0, false, none, 0⟩, ⟨5, List.replicate 32 0, 0, false, none, 0⟩] } }, 0, 0, 0x4#32, by decide +kernel⟩,
   ⟨{ given [(F.HOST_RING_CFG_EN 0, 1), (F.HOST_RING_CFG_LOG2 0, 4), (F.HOST_RING_CFG_EN 1, 1), (F.HOST_RING_CFG_LOG2 1, 4), (F.HOST_RING_CFG_EN 2, 1), (F.HOST_RING_CFG_LOG2 2, 4), (F.HOST_RING_CFG_EN 3, 1), (F.HOST_RING_CFG_LOG2 3, 4), (F.HOST_RING_CFG_EN 4, 1), (F.HOST_RING_CFG_LOG2 4, 4), (F.HOST_RING_CFG_EN 5, 1), (F.HOST_RING_CFG_LOG2 5, 4)] with host := { staged := [⟨0, [], 0, false, none, 0⟩, ⟨2, List.replicate 32 0, 0, false, none, 0⟩, ⟨3, List.replicate 64 0, 0, false, none, 0⟩, ⟨4, List.replicate 128 0, 0, false, none, 0⟩, ⟨5, List.replicate 32 0, 0, false, none, 0⟩] } }, 0, 2, 0x4#32, by decide +kernel⟩,
   ⟨{ given [(F.HOST_RING_CFG_EN 0, 1), (F.HOST_RING_CFG_LOG2 0, 4), (F.HOST_RING_CFG_EN 1, 1), (F.HOST_RING_CFG_LOG2 1, 4), (F.HOST_RING_CFG_EN 2, 1), (F.HOST_RING_CFG_LOG2 2, 4), (F.HOST_RING_CFG_EN 3, 1), (F.HOST_RING_CFG_LOG2 3, 4), (F.HOST_RING_CFG_EN 4, 1), (F.HOST_RING_CFG_LOG2 4, 4), (F.HOST_RING_CFG_EN 5, 1), (F.HOST_RING_CFG_LOG2 5, 4)] with host := { staged := [⟨0, [], 0, false, none, 0⟩, ⟨2, List.replicate 32 0, 0, false, none, 0⟩, ⟨3, List.replicate 64 0, 0, false, none, 0⟩, ⟨4, List.replicate 128 0, 0, false, none, 0⟩, ⟨5, List.replicate 32 0, 0, false, none, 0⟩] } }, 0, 3, 0x4#32, by decide +kernel⟩⟩

theorem meets_RingsAreSetUpAndWritten_2 :
    (∃ (s : State) (t : Nat) (n : Fin 6) (data : Word), let a := s.advance t; a.tableau = false ∧ (a.ringCfgRefused n data = false ∧ data.getLsbD 31 = false ∧ n = 4)) ∧
    (∃ (s : State) (t : Nat) (n : Fin 6) (data : Word), let a := s.advance t; a.tableau = false ∧ (a.ringCfgRefused n data = false ∧ data.getLsbD 31 = false ∧ n = 5)) ∧
    (∃ (s : State) (t : Nat) (n : Fin 6) (e : StagedEntry) (es : List StagedEntry), let a := s.advance t; 2 ≤ n.val ∧ a.stagedFor n = e :: es ∧ a.busOpen = true ∧ a.tableau = false ∧ a.bit (F.HOST_RING_CFG_EN n) = true ∧ e.cmd = none) ∧
    (∃ (s : State) (t : Nat) (n : Fin 6) (e : StagedEntry) (es : List StagedEntry), let a := s.advance t; 2 ≤ n.val ∧ a.stagedFor n = e :: es ∧ a.busOpen = true ∧ a.tableau = false ∧ a.bit (F.HOST_RING_CFG_EN n) = true ∧ e.cmd = none ∧ n = 4) ∧
    (∃ (s : State) (t : Nat) (n : Fin 6) (e : StagedEntry) (es : List StagedEntry), let a := s.advance t; 2 ≤ n.val ∧ a.stagedFor n = e :: es ∧ a.busOpen = true ∧ a.tableau = false ∧ a.bit (F.HOST_RING_CFG_EN n) = true ∧ e.cmd = none ∧ n = 3) ∧
    (∃ (s : State) (t : Nat) (e : StagedEntry) (es : List StagedEntry) (d : Desc), let a := s.advance t; a.stagedFor 1 = e :: es ∧ a.busOpen = true ∧ a.tableau = false ∧ a.bit (F.HOST_RING_CFG_EN 1) = true ∧ a.eventsWritten e.stamp = true ∧ e.cmd = some d) :=
  ⟨⟨{ given [(F.HOST_RING_CFG_EN 0, 1), (F.HOST_RING_CFG_LOG2 0, 4), (F.HOST_RING_CFG_EN 1, 1), (F.HOST_RING_CFG_LOG2 1, 4), (F.HOST_RING_CFG_EN 2, 1), (F.HOST_RING_CFG_LOG2 2, 4), (F.HOST_RING_CFG_EN 3, 1), (F.HOST_RING_CFG_LOG2 3, 4), (F.HOST_RING_CFG_EN 4, 1), (F.HOST_RING_CFG_LOG2 4, 4), (F.HOST_RING_CFG_EN 5, 1), (F.HOST_RING_CFG_LOG2 5, 4)] with host := { staged := [⟨0, [], 0, false, none, 0⟩, ⟨2, List.replicate 32 0, 0, false, none, 0⟩, ⟨3, List.replicate 64 0, 0, false, none, 0⟩, ⟨4, List.replicate 128 0, 0, false, none, 0⟩, ⟨5, List.replicate 32 0, 0, false, none, 0⟩] } }, 0, 4, 0x4#32, by decide +kernel⟩,
   ⟨{ given [(F.HOST_RING_CFG_EN 0, 1), (F.HOST_RING_CFG_LOG2 0, 4), (F.HOST_RING_CFG_EN 1, 1), (F.HOST_RING_CFG_LOG2 1, 4), (F.HOST_RING_CFG_EN 2, 1), (F.HOST_RING_CFG_LOG2 2, 4), (F.HOST_RING_CFG_EN 3, 1), (F.HOST_RING_CFG_LOG2 3, 4), (F.HOST_RING_CFG_EN 4, 1), (F.HOST_RING_CFG_LOG2 4, 4), (F.HOST_RING_CFG_EN 5, 1), (F.HOST_RING_CFG_LOG2 5, 4)] with host := { staged := [⟨0, [], 0, false, none, 0⟩, ⟨2, List.replicate 32 0, 0, false, none, 0⟩, ⟨3, List.replicate 64 0, 0, false, none, 0⟩, ⟨4, List.replicate 128 0, 0, false, none, 0⟩, ⟨5, List.replicate 32 0, 0, false, none, 0⟩] } }, 0, 5, 0x4#32, by decide +kernel⟩,
   ⟨{ given [(F.HOST_RING_CFG_EN 2, 1), (F.HOST_RING_CFG_LOG2 2, 4), (F.HOST_STATUS_BME, 1), (F.HOST_RING_PI_PI 2, 31), (F.HOST_RING_CI_CI 2, 20)] with host := { staged := [⟨2, List.replicate 32 7, 5, false, none, 0⟩] } }, 0, 2, ⟨2, List.replicate 32 7, 5, false, none, 0⟩, [], by decide +kernel⟩,
   ⟨{ given [(F.HOST_RING_CFG_EN 4, 1), (F.HOST_RING_CFG_LOG2 4, 4), (F.HOST_STATUS_BME, 1), (F.HOST_RING_PI_PI 4, 31), (F.HOST_RING_CI_CI 4, 20)] with host := { staged := [⟨4, List.replicate 128 7, 5, false, none, 0⟩] } }, 0, 4, ⟨4, List.replicate 128 7, 5, false, none, 0⟩, [], by decide +kernel⟩,
   ⟨{ given [(F.HOST_RING_CFG_EN 3, 1), (F.HOST_RING_CFG_LOG2 3, 4), (F.HOST_STATUS_BME, 1), (F.HOST_RING_PI_PI 3, 31), (F.HOST_RING_CI_CI 3, 20)] with host := { staged := [⟨3, List.replicate 64 7, 5, false, none, 0⟩] } }, 0, 3, ⟨3, List.replicate 64 7, 5, false, none, 0⟩, [], by decide +kernel⟩,
   ⟨{ given [(F.HOST_RING_CFG_EN 1, 1), (F.HOST_RING_CFG_LOG2 1, 4), (F.HOST_STATUS_BME, 1), (F.DATUM_MERGE_WINDOW, 50)] with datum := 5004, host := { staged := [⟨1, List.replicate 16 7, 5, false, some { opc := 1, flags := 1 }, 0⟩] } }, 0, ⟨1, List.replicate 16 7, 5, false, some { opc := 1, flags := 1 }, 0⟩, [], { opc := 1, flags := 1 }, by decide +kernel⟩⟩

theorem meets_RingsAreSetUpAndWritten_3 :
    (∃ (s : State) (t : Nat) (e : StagedEntry) (es : List StagedEntry) (d : Desc), let a := s.advance t; a.stagedFor 1 = e :: es ∧ a.busOpen = true ∧ a.tableau = false ∧ a.bit (F.HOST_RING_CFG_EN 1) = true ∧ a.eventsWritten e.stamp = true ∧ e.cmd = some d ∧ a.bit F.HOST_TRACE_CTRL_CMD_EN = true) ∧
    (∃ (s : State) (t : Nat) (n : Fin 6), let a := s.advance t; (a.tableau = true ∨ a.busOpen = false ∨ a.stagedFor n = [] ∨ a.bit (F.HOST_RING_CFG_EN n) = false ∨ (n = 1 ∧ ∃ e ∈ (a.stagedFor n).head?, a.eventsWritten e.stamp = false)) ∧ a.tableau = true) ∧
    (∃ (s : State) (t : Nat) (n : Fin 6), let a := s.advance t; (a.tableau = true ∨ a.busOpen = false ∨ a.stagedFor n = [] ∨ a.bit (F.HOST_RING_CFG_EN n) = false ∨ (n = 1 ∧ ∃ e ∈ (a.stagedFor n).head?, a.eventsWritten e.stamp = false)) ∧ a.busOpen = false) :=
  ⟨⟨{ given [(F.HOST_RING_CFG_EN 1, 1), (F.HOST_RING_CFG_LOG2 1, 4), (F.HOST_STATUS_BME, 1), (F.DATUM_MERGE_WINDOW, 50), (F.HOST_TRACE_CTRL_CMD_EN, 1), (F.HOST_RING_CFG_EN 5, 1), (F.HOST_RING_CFG_LOG2 5, 4)] with datum := 5006, host := { staged := [⟨1, List.replicate 16 7, 5, false, some { opc := 1, flags := 1 }, 0⟩] } }, 0, ⟨1, List.replicate 16 7, 5, false, some { opc := 1, flags := 1 }, 0⟩, [], { opc := 1, flags := 1 }, by decide +kernel⟩,
   ⟨given [(F.POWER_STATUS_TABLEAU, 1)], 0, 2, by decide +kernel⟩,
   ⟨given [], 0, 2, by decide +kernel⟩⟩

theorem meets_EventsAreReleasedAndTaken :
    (∃ (s : State) (t : Nat) (e : Event), let a := s.advance t; let known := a.router.inflight.find? fun x => x.stamp == e.stamp && x.num == e.num && x.inst == e.inst; let late := known.any Event.late; (a.tableau = false ∧ a.horizon ≤ e.stamp ∧ late = false)) ∧
    (∃ (s : State) (t : Nat), let a := s.advance t; (a.tableau = true ∧ a.router.tabArrivals < 256)) ∧
    (∃ (s : State) (t : Nat), let a := s.advance t; (a.tableau = true ∧ 256 ≤ a.router.tabArrivals)) ∧
    (∃ (s : State) (t : Nat) (e : Event), let a := s.advance t; (a.tableau = false ∧ e.stamp < a.horizon ∧ a.target e.num = 0 ∧ a.ibit (F.EVENT_RECORD_REC (e.num / 32)) (e.num % 32) = true)) ∧
    (∃ (s : State) (t : Nat) (e : Event), let a := s.advance t; (a.tableau = false ∧ e.stamp < a.horizon ∧ a.target e.num = 0x80 ∧ a.ibit (F.EVENT_RECORD_REC (e.num / 32)) (e.num % 32) = true)) ∧
    (∃ (s : State) (t : Nat) (e : Event), let a := s.advance t; (a.tableau = false ∧ e.stamp < a.horizon ∧ a.target e.num = 127 ∧ a.ibit (F.EVENT_RECORD_REC (e.num / 32)) (e.num % 32) = false)) :=
  ⟨⟨{ given [] with datum := 9998 }, 0, ({ stamp := 5000, num := 64, inst := 0 } : Event), by decide +kernel⟩,
   ⟨{ given [(F.POWER_STATUS_TABLEAU, 1)] with router := { tabArrivals := 255 } }, 0, by decide +kernel⟩,
   ⟨{ given [(F.POWER_STATUS_TABLEAU, 1)] with router := { tabArrivals := 256 } }, 0, by decide +kernel⟩,
   ⟨{ given [(F.HOST_RING_CFG_EN 2, 1), (F.HOST_RING_CFG_LOG2 2, 4), (F.EVENT_RECORD_REC 2, 1), (F.IRQ_TARGET_TGT0 16, 0)] with datum := 20000, router := { inflight := [({ stamp := 5000, num := 64, inst := 0 } : Event)] } }, 0, ({ stamp := 5000, num := 64, inst := 0 } : Event), by decide +kernel⟩,
   ⟨{ given [(F.EVENT_RECORD_REC 2, 1), (F.IRQ_TARGET_TGT0 16, 0x80)] with datum := 20000, router := { inflight := [({ stamp := 5000, num := 64, inst := 0 } : Event)] } }, 0, ({ stamp := 5000, num := 64, inst := 0 } : Event), by decide +kernel⟩,
   ⟨{ given [(F.EVENT_RECORD_REC 2, 0), (F.IRQ_TARGET_TGT0 16, 127)] with datum := 20000, router := { inflight := [({ stamp := 5000, num := 64, inst := 0 } : Event)] } }, 0, ({ stamp := 5000, num := 64, inst := 0 } : Event), by decide +kernel⟩⟩

theorem meets_EventsAreReleasedAndTaken_2 :
    (∃ (s : State) (t : Nat) (e : Event), let a := s.advance t; let known := a.router.inflight.find? fun x => x.stamp == e.stamp && x.num == e.num && x.inst == e.inst; let late := known.any Event.late; (a.tableau = false ∧ a.horizon ≤ e.stamp ∧ late = true ∧ a.sinkTakes 20 e = [1])) ∧
    (∃ (s : State) (t : Nat), let a := s.advance t; let out := a.router.held.filter fun e => e.stamp < a.horizon; (a.tableau = false ∧ out.length = 2)) ∧
    (∃ (s : State) (t : Nat), let a := s.advance t; let out := a.router.held.filter fun e => e.stamp < a.horizon; (a.tableau = false ∧ out = [({ stamp := 5000, num := 64, inst := 0 } : Event)] ∧ a.target 64 = 0 ∧ a.ibit (F.EVENT_RECORD_REC 2) 0 = true ∧ a.router.spQueue.length = 0)) ∧
    (∃ (s : State) (t : Nat), let a := s.advance t; let out := a.router.held.filter fun e => e.stamp < a.horizon; (a.tableau = false ∧ out = [({ stamp := 5000, num := 64, inst := 0 } : Event)] ∧ a.target 64 = 0x80 ∧ a.ibit (F.EVENT_RECORD_REC 2) 0 = true ∧ a.router.spQueue.length = 0)) ∧
    (∃ (s : State) (t : Nat), let a := s.advance t; let out := a.router.held.filter fun e => e.stamp < a.horizon; (a.tableau = false ∧ out = [({ stamp := 5000, num := 64, inst := 0 } : Event)] ∧ a.target 64 = 127 ∧ a.ibit (F.EVENT_RECORD_REC 2) 0 = false ∧ a.router.spQueue.length = 0)) ∧
    (∃ (s : State) (t : Nat), let a := s.advance t; let out := a.router.held.filter fun e => e.stamp < a.horizon; (a.tableau = false ∧ out = [({ stamp := 5000, num := 64, inst := 0 } : Event)] ∧ a.target 64 = 0x80 ∧ a.ibit (F.EVENT_RECORD_REC 2) 0 = false ∧ a.router.spQueue.length = 32)) :=
  ⟨⟨{ given [(F.EVENT_SINK_CFG_EN 20, 2), (F.EVENT_SINK_IN_IN1 20, 64)] with datum := 20000, router := { inflight := [{ stamp := 19998, num := 64, late := true }] } }, 0, { stamp := 19998, num := 64 }, by decide +kernel⟩,
   ⟨{ given [(F.HOST_RING_CFG_EN 2, 1), (F.HOST_RING_CFG_LOG2 2, 4), (F.EVENT_RECORD_REC 2, 1), (F.EVENT_RECORD_REC 0, 2)] with datum := 20000, router := { held := [({ stamp := 5000, num := 1, inst := 0 } : Event), ({ stamp := 5000, num := 64, inst := 0 } : Event)] } }, 0, by decide +kernel⟩,
   ⟨{ given [(F.HOST_RING_CFG_EN 2, 1), (F.HOST_RING_CFG_LOG2 2, 4), (F.EVENT_RECORD_REC 2, 1), (F.IRQ_TARGET_TGT0 16, 0)] with datum := 20000, router := { held := [({ stamp := 5000, num := 64, inst := 0 } : Event)] } }, 0, by decide +kernel⟩,
   ⟨{ given [(F.EVENT_RECORD_REC 2, 1), (F.IRQ_TARGET_TGT0 16, 0x80)] with datum := 20000, router := { held := [({ stamp := 5000, num := 64, inst := 0 } : Event)] } }, 0, by decide +kernel⟩,
   ⟨{ given [(F.EVENT_RECORD_REC 2, 0), (F.IRQ_TARGET_TGT0 16, 127)] with datum := 20000, router := { held := [({ stamp := 5000, num := 64, inst := 0 } : Event)] } }, 0, by decide +kernel⟩,
   ⟨{ given [(F.EVENT_RECORD_REC 2, 0), (F.IRQ_TARGET_TGT0 16, 0x80)] with datum := 20000, router := { held := [({ stamp := 5000, num := 64, inst := 0 } : Event)], spQueue := List.replicate 32 ({ stamp := 5000, num := 64, inst := 0 } : Event) } }, 0, by decide +kernel⟩⟩

theorem meets_EventsAreReleasedAndTaken_3 :
    (∃ (s : State) (t : Nat), let a := s.advance t; let out := a.router.held.filter fun e => e.stamp < a.horizon; a.tableau = false ∧ a.bit (F.HOST_RING_CFG_EN 2) = true ∧ a.router.dropped = 0 ∧ a.ringOcc 2 + (a.stagedFor 2).length + out.length ≤ a.ringSize 2 ∧ (∀ e ∈ out, e.num < 256 ∧ a.ibit (F.EVENT_RECORD_REC (e.num / 32)) (e.num % 32) = true ∧ a.target e.num = 0 ∧ ∀ k < 64, a.sinkTakes k e = [])) ∧
    (∃ (s : State) (t : Nat) (e : Event), let a := s.advance t; let rec1 := a.ibit (F.EVENT_RECORD_REC (e.num / 32)) (e.num % 32); a.tableau = false ∧ a.router.held.filter (fun e => e.stamp < a.horizon) = [e] ∧ e.num < 256 ∧ e.num ≠ 9 ∧ (∀ k < 64, a.sinkTakes k e = []) ∧ a.bit (F.HOST_RING_CFG_EN 2) = false ∧ a.router.spQueue.length < 32 ∧ (a.target e.num = 0 ∨ a.target e.num = 0x80) ∧ (a.target e.num = 0 ∧ rec1 = true)) ∧
    (∃ (s : State) (t : Nat) (e : Event), let a := s.advance t; let rec1 := a.ibit (F.EVENT_RECORD_REC (e.num / 32)) (e.num % 32); a.tableau = false ∧ a.router.held.filter (fun e => e.stamp < a.horizon) = [e] ∧ e.num < 256 ∧ e.num ≠ 9 ∧ (∀ k < 64, a.sinkTakes k e = []) ∧ a.bit (F.HOST_RING_CFG_EN 2) = false ∧ a.router.spQueue.length < 32 ∧ (a.target e.num = 0 ∨ a.target e.num = 0x80) ∧ (a.target e.num = 0x80 ∧ rec1 = false)) ∧
    (∃ (s : State) (t : Nat) (k : Fin 64), let a := s.advance t; (a.tableau = false ∧ (a.sink k).window = some 5000 ∧ 5000 + a.get (F.EVENT_SINK_CFG_PARAM k) * 1000 ≤ a.datum - a.mergeWindow)) ∧
    (∃ (s : State) (t : Nat) (k : Fin 64), let a := s.advance t; (a.tableau = false ∧ (a.sink k).window = some 5000 ∧ a.datum - a.mergeWindow < 5000 + a.get (F.EVENT_SINK_CFG_PARAM k) * 1000)) ∧
    (∃ (s : State) (t : Nat) (n : Fin 4), let a := s.advance t; (Sparse.get (fun _ => none) a.router.pulseEnd n = some 700 ∧ 700 ≤ a.elapsed ∧ a.tableau = false)) :=
  ⟨⟨{ given [(F.HOST_RING_CFG_EN 2, 1), (F.HOST_RING_CFG_LOG2 2, 4), (F.EVENT_RECORD_REC 2, 1), (F.EVENT_RECORD_REC 0, 2), (F.IRQ_TARGET_TGT0 16, 0), (F.IRQ_TARGET_TGT1 0, 0)] with datum := 20000, router := { held := [({ stamp := 5000, num := 1, inst := 0 } : Event), ({ stamp := 5000, num := 64, inst := 0 } : Event)] } }, 0, by decide +kernel⟩,
   ⟨{ given [(F.IRQ_TARGET_TGT0 16, 0), (F.EVENT_RECORD_REC 2, 1)] with datum := 20000, router := { held := [({ stamp := 5000, num := 64, inst := 0 } : Event)] } }, 0, ({ stamp := 5000, num := 64, inst := 0 } : Event), by decide +kernel⟩,
   ⟨{ given [(F.IRQ_TARGET_TGT0 16, 0x80), (F.EVENT_RECORD_REC 2, 0)] with datum := 20000, router := { held := [({ stamp := 5000, num := 64, inst := 0 } : Event)] } }, 0, ({ stamp := 5000, num := 64, inst := 0 } : Event), by decide +kernel⟩,
   ⟨{ given [(F.EVENT_SINK_CFG_PARAM 63, 10)] with datum := 20000, router := { sinks := [(63, { window := some 5000 })] } }, 0, 63, by decide +kernel⟩,
   ⟨{ given [(F.EVENT_SINK_CFG_PARAM 63, 10)] with datum := 19999, router := { sinks := [(63, { window := some 5000 })] } }, 0, 63, by decide +kernel⟩,
   ⟨{ given [] with elapsed := 700, router := { pulseEnd := [(3, some 700)], evioPin := [(3, .high)] } }, 0, 3, by decide +kernel⟩⟩

theorem meets_EventsAreReleasedAndTaken_4 :
    (∃ (s : State) (t : Nat) (n : Fin 4), let a := s.advance t; (Sparse.get (fun _ => none) a.router.pulseEnd n = some 700 ∧ a.elapsed < 700)) ∧
    (∃ (s : State) (t : Nat) (k : Nat) (e : Event), let a := s.advance t; a.tableau = false ∧ a.router.held.filter (fun e => e.stamp < a.horizon) = [e] ∧ a.target e.num = 0 ∧ e.num < 256 ∧ a.ibit (F.EVENT_RECORD_REC (e.num / 32)) (e.num % 32) = false ∧ 16 ≤ k ∧ k < 60 ∧ a.sinkTakes k e ≠ [] ∧ (∀ i < 64, i ≠ k → a.sinkTakes i e = []) ∧ a.get (F.EVENT_SINK_CFG_MODE k) = 0 ∧ (a.sink k).window = none) :=
  ⟨⟨{ given [] with elapsed := 699, router := { pulseEnd := [(3, some 700)], evioPin := [(3, .high)] } }, 0, 3, by decide +kernel⟩,
   ⟨{ given [(F.IRQ_TARGET_TGT0 16, 0), (F.EVENT_RECORD_REC 2, 0), (F.EVENT_SINK_CFG_EN 20, 2), (F.EVENT_SINK_IN_IN1 20, 64)] with datum := 20000, router := { held := [({ stamp := 5000, num := 64, inst := 0 } : Event)] } }, 0, 20, ({ stamp := 5000, num := 64, inst := 0 } : Event), by decide +kernel⟩⟩

theorem meets_VectorsGatherCommitAndSend :
    (∃ (s : State) (t : Nat) (v : Fin 64), let a := s.advance t; let past := decide ((a.vec v).start + a.get (F.IRQ_VEC_HOLDOFF v) * 1000 ≤ a.elapsed); (a.tableau = false ∧ (a.vec v).phase = .gather ∧ 1 ≤ a.commitCount v ∧ past = true)) ∧
    (∃ (s : State) (t : Nat) (v : Fin 64), let a := s.advance t; let past := decide ((a.vec v).start + a.get (F.IRQ_VEC_HOLDOFF v) * 1000 ≤ a.elapsed); (a.tableau = false ∧ (a.vec v).phase = .gather ∧ 1 ≤ a.commitCount v ∧ past = false ∧ a.commitCount v < a.get (F.IRQ_VEC_COUNT v))) ∧
    (∃ (s : State) (t : Nat), let a := s.advance t; let m := a.judgeAll; (a.tableau = false ∧ a.msiOn = true ∧ a.busOpen = true ∧ a.router.commit = none ∧ (m.vec 63).phase = .due)) ∧
    (∃ (s : State) (t : Nat) (c : Commit), let a := s.advance t; a.router.commit = some c ∧ a.busOpen = true ∧ a.tableau = false ∧ a.msiOn = false) ∧
    (∃ (s : State) (t : Nat) (c : Commit), let a := s.advance t; a.router.commit = some c ∧ a.busOpen = true ∧ a.tableau = false ∧ (a.msiOn = true ∧ ∃ m ∈ a.router.vecMask, m.1 = c.vec ∧ m.2 + 64 ≤ c.time)) ∧
    (∃ (s : State) (t : Nat) (c : Commit), let a := s.advance t; a.router.commit = some c ∧ a.busOpen = true ∧ a.tableau = false ∧ (a.msiOn = true ∧ (∀ m ∈ a.router.vecMask, m.1 = c.vec → c.time < m.2 + 64) ∧ a.bit F.IRQ_STATUS_MSIX = true ∧ a.bit (F.IRQ_VEC_EOI_MODE c.vec) = true ∧ a.causeCount c.vec = 0)) :=
  ⟨⟨{ given [(F.IRQ_TARGET_TGT0 16, 127), (F.IRQ_MASK_MASK 2, 0), (F.IRQ_VEC_HOLDOFF 63, 100)] with elapsed := 100000, router := { causes := [(64, 1)], vecs := [(63, { phase := .gather })] } }, 0, 63, by decide +kernel⟩,
   ⟨{ given [(F.IRQ_TARGET_TGT0 16, 127), (F.IRQ_MASK_MASK 2, 0), (F.IRQ_VEC_HOLDOFF 63, 100), (F.IRQ_VEC_COUNT 63, 2)] with elapsed := 99998, router := { causes := [(64, 1)], vecs := [(63, { phase := .gather })] } }, 0, 63, by decide +kernel⟩,
   ⟨{ given [(F.IRQ_TARGET_TGT0 16, 127), (F.IRQ_MASK_MASK 2, 0), (F.IRQ_TARGET_TGT1 16, 64), (F.IRQ_STATUS_MSIX, 1), (F.HOST_STATUS_BME, 1), (F.IRQ_VEC_PRIO 63, 3)] with router := { causes := [(64, 2), (65, 1)], vecs := [(0, { phase := .due }), (63, { phase := .due })] } }, 0, by decide +kernel⟩,
   ⟨{ given [(F.IRQ_TARGET_TGT0 16, 127), (F.IRQ_MASK_MASK 2, 0), (F.HOST_STATUS_BME, 1)] with router := { commit := some { vec := 63, taken := [(64, 2)], time := 64 }, vecs := [(63, { phase := .sending })] } }, 0, { vec := 63, taken := [(64, 2)], time := 64 }, by decide +kernel⟩,
   ⟨{ given [(F.IRQ_TARGET_TGT0 16, 127), (F.IRQ_MASK_MASK 2, 0), (F.HOST_STATUS_BME, 1), (F.IRQ_STATUS_MSIX, 1)] with router := { commit := some { vec := 63, taken := [(64, 2)], time := 64 }, vecs := [(63, { phase := .sending })], vecMask := [(63, 0)] } }, 0, { vec := 63, taken := [(64, 2)], time := 64 }, by decide +kernel⟩,
   ⟨{ given [(F.IRQ_TARGET_TGT0 16, 127), (F.IRQ_MASK_MASK 2, 0), (F.HOST_STATUS_BME, 1), (F.IRQ_STATUS_MSIX, 1), (F.IRQ_VEC_EOI_MODE 63, 1)] with router := { commit := some { vec := 63, taken := [(64, 2)], time := 64 }, vecs := [(63, { phase := .sending })], vecMask := [(63, 1)], msiCount := 32, msixTable := [(63, (4096, 5))] } }, 0, { vec := 63, taken := [(64, 2)], time := 64 }, by decide +kernel⟩⟩

theorem meets_VectorsGatherCommitAndSend_2 :
    (∃ (s : State) (t : Nat) (c : Commit), let a := s.advance t; a.router.commit = some c ∧ a.busOpen = true ∧ a.tableau = false ∧ (a.msiOn = true ∧ (∀ m ∈ a.router.vecMask, m.1 = c.vec → c.time < m.2 + 64) ∧ a.bit F.IRQ_STATUS_MSIX = false ∧ a.bit (F.IRQ_VEC_EOI_MODE c.vec) = false ∧ a.causeCount c.vec = 0)) ∧
    (∃ (s : State) (t : Nat), let a := s.advance t; let out := a.router.withheld.filter fun c => a.router.vecMask.all fun m => m.1 != c.vec; (a.router.commit = none ∨ a.busOpen = false ∨ a.tableau = true) ∧ (a.busOpen = true ∧ a.tableau = false ∧ out.length = 1)) ∧
    (∃ (s : State) (t : Nat), let a := s.advance t; (a.router.commit = none ∨ a.busOpen = false ∨ a.tableau = true) ∧ a.busOpen = false) ∧
    (∃ (s : State) (t : Nat) (data : Word), let a := s.advance t; let v := data.toNat % 64; a.tableau = false ∧ ((a.vec v).phase = .inService ∧ a.causeCount v = 0)) ∧
    (∃ (s : State) (t : Nat) (data : Word), let a := s.advance t; let v := data.toNat % 64; a.tableau = false ∧ ((a.vec v).phase = .inService ∧ 1 ≤ a.commitCount v ∧ a.causeCount v ≠ 0)) ∧
    (∃ (s : State) (t : Nat) (data : Word), let a := s.advance t; let v := data.toNat % 64; a.tableau = false ∧ (a.vec v).phase ≠ .inService) :=
  ⟨⟨{ given [(F.IRQ_TARGET_TGT0 16, 127), (F.IRQ_MASK_MASK 2, 0), (F.HOST_STATUS_BME, 1), (F.IRQ_STATUS_MSI, 1), (F.IRQ_VEC_EOI_MODE 63, 0)] with router := { commit := some { vec := 63, taken := [(64, 2)], time := 64 }, vecs := [(63, { phase := .sending })], vecMask := [(63, 1)], msiCount := 32, msixTable := [(63, (4096, 5))] } }, 0, { vec := 63, taken := [(64, 2)], time := 64 }, by decide +kernel⟩,
   ⟨{ given [(F.HOST_STATUS_BME, 1), (F.IRQ_STATUS_MSIX, 1)] with router := { withheld := [{ vec := 63, taken := [(64, 2)], time := 64 }, { vec := 2, taken := [(64, 2)], time := 64 }], vecMask := [(2, 0)] } }, 0, by decide +kernel⟩,
   ⟨given [], 0, by decide +kernel⟩,
   ⟨{ given [(F.IRQ_TARGET_TGT0 16, 127), (F.IRQ_MASK_MASK 2, 0)] with router := { vecs := [(63, { phase := .inService })] } }, 0, 63#32, by decide +kernel⟩,
   ⟨{ given [(F.IRQ_TARGET_TGT0 16, 127), (F.IRQ_MASK_MASK 2, 0)] with router := { causes := [(64, 1)], vecs := [(63, { phase := .inService })] } }, 0, 63#32, by decide +kernel⟩,
   ⟨given [], 0, 63#32, by decide +kernel⟩⟩

theorem meets_VectorsGatherCommitAndSend_3 :
    (∃ (s : State) (t : Nat), let a := s.advance t; a.tableau = false) ∧
    (∃ (s : State) (t : Nat) (w : MsiWrite), let a := s.advance t; (w = .msix true ∧ a.busOpen = true)) ∧
    (∃ (s : State) (t : Nat) (w : MsiWrite), let a := s.advance t; (w = .msi none ∧ a.busOpen = true)) ∧
    (∃ (s : State) (t : Nat) (w : MsiWrite), let a := s.advance t; (w = .msi (some 32) ∧ a.busOpen = true)) ∧
    (∃ (s : State) (t : Nat) (w : MsiWrite), let a := s.advance t; (w = .entry 63 4096 7 ∧ a.busOpen = true)) ∧
    (∃ (s : State) (t : Nat) (w : MsiWrite), let a := s.advance t; (w = .mask 63 true ∧ a.busOpen = true)) :=
  ⟨⟨{ given [(F.IRQ_TARGET_TGT0 16, 127), (F.IRQ_MASK_MASK 2, 1)] with router := { causes := [(64, 1)] } }, 0, by decide +kernel⟩,
   ⟨{ given [(F.HOST_STATUS_BME, 1), (F.IRQ_STATUS_MSIX, 1)] with router := { withheld := [{ vec := 63, taken := [(64, 2)], time := 64 }, { vec := 2, taken := [(64, 2)], time := 64 }], vecMask := [(63, 0), (2, 0)] } }, 0, .msix true, by decide +kernel⟩,
   ⟨{ given [(F.HOST_STATUS_BME, 1), (F.IRQ_STATUS_MSIX, 1)] with router := { withheld := [{ vec := 63, taken := [(64, 2)], time := 64 }, { vec := 2, taken := [(64, 2)], time := 64 }], vecMask := [(63, 0), (2, 0)] } }, 0, .msi none, by decide +kernel⟩,
   ⟨{ given [(F.HOST_STATUS_BME, 1), (F.IRQ_STATUS_MSIX, 1)] with router := { withheld := [{ vec := 63, taken := [(64, 2)], time := 64 }, { vec := 2, taken := [(64, 2)], time := 64 }], vecMask := [(63, 0), (2, 0)] } }, 0, .msi (some 32), by decide +kernel⟩,
   ⟨{ given [(F.HOST_STATUS_BME, 1), (F.IRQ_STATUS_MSIX, 1)] with router := { withheld := [{ vec := 63, taken := [(64, 2)], time := 64 }, { vec := 2, taken := [(64, 2)], time := 64 }], vecMask := [(63, 0), (2, 0)] } }, 0, .entry 63 4096 7, by decide +kernel⟩,
   ⟨{ given [(F.HOST_STATUS_BME, 1), (F.IRQ_STATUS_MSIX, 1)] with router := { withheld := [{ vec := 63, taken := [(64, 2)], time := 64 }, { vec := 2, taken := [(64, 2)], time := 64 }], vecMask := [(63, 0), (2, 0)] } }, 0, .mask 63 true, by decide +kernel⟩⟩

theorem meets_VectorsGatherCommitAndSend_4 :
    (∃ (s : State) (t : Nat) (w : MsiWrite), let a := s.advance t; (w = .mask 63 false ∧ a.busOpen = true)) ∧
    (∃ (s : State) (t : Nat) (w : MsiWrite), let a := s.advance t; (w = .mask 63 false ∧ a.busOpen = false)) :=
  ⟨⟨{ given [(F.HOST_STATUS_BME, 1), (F.IRQ_STATUS_MSIX, 1)] with router := { withheld := [{ vec := 63, taken := [(64, 2)], time := 64 }, { vec := 2, taken := [(64, 2)], time := 64 }], vecMask := [(63, 0), (2, 0)] } }, 0, .mask 63 false, by decide +kernel⟩,
   ⟨{ given [] with router := { withheld := [{ vec := 63, taken := [(64, 2)], time := 64 }, { vec := 2, taken := [(64, 2)], time := 64 }], vecMask := [(63, 0), (2, 0)] } }, 0, .mask 63 false, by decide +kernel⟩⟩

theorem meets_ResetsReachTheirParts :
    (∃ (s : State) (t : Nat) (rails : BitVec 5), let a := s.advance t; (rails ≠ 31 ∧ a.power.started = true)) ∧
    (∃ (s : State) (t : Nat) (rails : BitVec 5), let a := s.advance t; (rails ≠ 31 ∧ a.power.started = false)) ∧
    (∃ (s : State) (t : Nat), True) ∧
    (∃ (s : State) (t : Nat) (data : Word), let a := s.advance t; a.tableau = false ∧ data.toNat % 65536 ≠ 0x5AF0) ∧
    (∃ (s : State) (t : Nat) (data : Word), let a := s.advance t; a.tableau = false ∧ (data.toNat % 65536 = 0x5AF0 ∧ a.power.startDue = false)) ∧
    (∃ (s : State) (t : Nat) (data : Word), let a := s.advance t; a.tableau = false ∧ (data.toNat % 65536 = 0x5AF0 ∧ a.power.startDue = true)) :=
  ⟨⟨{ given [] with power := { startDue := false, started := true }, datum := 7 }, 0, 15, by decide +kernel⟩,
   ⟨given [], 0, 15, by decide +kernel⟩,
   ⟨{ given [] with power := { startDue := false }, datum := 7 }, 0, by decide +kernel⟩,
   ⟨given [], 0, 0x5AF1#32, by decide +kernel⟩,
   ⟨{ given [] with power := { startDue := false } }, 0, 0x5AF0#32, by decide +kernel⟩,
   ⟨given [], 0, 0x5AF0#32, by decide +kernel⟩⟩

theorem meets_ResetsReachTheirParts_2 :
    (∃ (s : State) (t : Nat), let a := s.advance t; a.power.startDue = false) ∧
    (∃ (s : State) (t : Nat), let a := s.advance t; 7 ∉ a.power.holds) ∧
    (∃ (s : State) (t : Nat), let a := s.advance t; 7 ∈ a.power.holds) ∧
    (∃ (s : State) (t : Nat), let a := s.advance t; a.tableau = true) ∧
    (∃ (s : State) (t : Nat) (n : Nat), (2250 ≤ n ∧ n ≤ 2750)) ∧
    (∃ (s : State) (t : Nat) (n : Nat), let a := s.advance t; (n ≤ 2750 ∧ 3 ∈ a.power.holds)) :=
  ⟨⟨{ given [(F.CURTAIN_STATUS_STATE, 3)] with power := { startDue := false } }, 0, by decide +kernel⟩,
   ⟨{ given [] with power := { startDue := false } }, 0, by decide +kernel⟩,
   ⟨{ given [] with power := { holds := [7] } }, 0, by decide +kernel⟩,
   ⟨{ given [(F.POWER_STATUS_TABLEAU, 1)] with power := { startDue := false }, host := { held := [.bar0 0x20 5] } }, 0, by decide +kernel⟩,
   ⟨{ given [] with power := { startDue := false } }, 0, 2250, by decide +kernel⟩,
   ⟨{ given [] with power := { holds := [3], goodWindows := 0 } }, 0, 2750, by decide +kernel⟩⟩

theorem meets_ResetsReachTheirParts_3 :
    (∃ (s : State) (t : Nat) (n : Nat), let a := s.advance t; ((n < 2250 ∨ 2750 < n) ∧ 3 ∉ a.power.holds ∧ a.power.startDue = false)) ∧
    (∃ (s : State) (t : Nat) (n : Nat), let a := s.advance t; (n < 2250 ∧ 3 ∈ a.power.holds)) :=
  ⟨⟨{ given [] with power := { startDue := false } }, 0, 2751, by decide +kernel⟩,
   ⟨{ given [] with power := { holds := [3] } }, 0, 2249, by decide +kernel⟩⟩

theorem meets_StartTableauAndTheTestPort :
    (∃ (s : State) (t : Nat), let a := s.advance t; (a.power.startDue = true ∧ a.power.holds = [] ∧ a.disc.running = false ∧ a.ghost.header = false)) ∧
    (∃ (s : State) (t : Nat), let a := s.advance t; (a.power.startDue = true ∧ a.power.holds = [] ∧ a.disc.running = true)) ∧
    (∃ (s : State) (t : Nat), let a := s.advance t; a.power.holds ≠ []) ∧
    (∃ (s : State) (t : Nat) (bits : BitVec 2), bits ≠ 1) ∧
    (∃ (s : State) (t : Nat) (bits : BitVec 2), let a := s.advance t; (bits = 1 ∧ a.tableau = false ∧ a.power.otp.debugLock = true)) ∧
    (∃ (s : State) (t : Nat) (bits : BitVec 2), let a := s.advance t; (bits = 1 ∧ a.tableau = false ∧ a.power.otp.debugLock = false ∧ a.power.startDue = false)) :=
  ⟨⟨given [], 0, by decide +kernel⟩,
   ⟨{ given [] with disc := { running := true } }, 0, by decide +kernel⟩,
   ⟨{ given [] with power := { holds := [7] } }, 0, by decide +kernel⟩,
   ⟨{ given [] with power := { startDue := false } }, 0, 2#2, by decide +kernel⟩,
   ⟨{ given [] with power := { startDue := false, otp := { debugLock := true } } }, 0, 1#2, by decide +kernel⟩,
   ⟨{ given [(F.CUR_STATUS_STATE, 1)] with power := { startDue := false }, datum := 20000 }, 0, 1#2, by decide +kernel⟩⟩

theorem meets_StartTableauAndTheTestPort_2 :
    (∃ (s : State) (t : Nat) (bits : BitVec 2), let a := s.advance t; (bits = 1 ∧ a.tableau = false ∧ a.power.otp.debugLock = false ∧ a.power.startDue = true)) ∧
    (∃ (s : State) (t : Nat) (bits : BitVec 2), let a := s.advance t; (bits = 0 ∧ a.tableau = true)) ∧
    (∃ (s : State) (t : Nat) (bits : BitVec 2), let a := s.advance t; (bits = 0 ∧ a.tableau = true ∧ a.host.held = [])) ∧
    (∃ (s : State) (t : Nat), let a := s.advance t; a.tableau = true) ∧
    (∃ (s : State) (t : Nat), let a := s.advance t; a.tableau = false) ∧
    (∃ (s : State) (t : Nat) (v : Bool), let a := s.advance t; let bad := (if a.power.otp.key.isSome then 2 else 0) + (if a.curtain = 0 ∧ v = true then 0 else 4); (a.power.keyJob = none ∧ a.power.otp.keyFailed = false ∧ bad = 0)) :=
  ⟨⟨given [], 0, 1#2, by decide +kernel⟩,
   ⟨{ given [(F.POWER_STATUS_TABLEAU, 1)] with power := { startDue := false }, host := { held := [.bar0 0x20 5] } }, 0, 0#2, by decide +kernel⟩,
   ⟨{ given [(F.POWER_STATUS_TABLEAU, 1)] with power := { startDue := false } }, 0, 0#2, by decide +kernel⟩,
   ⟨{ given [(F.POWER_STATUS_TABLEAU, 1)] with power := { startDue := false } }, 0, by decide +kernel⟩,
   ⟨{ given [] with power := { holds := [7] } }, 0, by decide +kernel⟩,
   ⟨given [], 0, true, by decide +kernel⟩⟩

theorem meets_StartTableauAndTheTestPort_3 :
    (∃ (s : State) (t : Nat) (v : Bool), let a := s.advance t; let bad := (if a.power.otp.key.isSome then 2 else 0) + (if a.curtain = 0 ∧ v = true then 0 else 4); (a.power.otp.key.isSome = true ∧ bad = 2)) ∧
    (∃ (s : State) (t : Nat), let a := s.advance t; a.power.otp.keyFailed = true) ∧
    (∃ (s : State) (t : Nat) (stored : BitVec 256) (key : List Byte) (id : Nat), let a := s.advance t; a.power.keyJob = some (key, id) ∧ id < 2 ^ 32 ∧ leBytes 32 stored.toNat = key) ∧
    (∃ (s : State) (t : Nat) (stored : BitVec 256) (key : List Byte) (id : Nat), let a := s.advance t; a.power.keyJob = some (key, id) ∧ id < 2 ^ 32 ∧ leBytes 32 stored.toNat ≠ key) ∧
    (∃ (s : State) (t : Nat), let a := s.advance t; a.power.otp.key = some [1]) :=
  ⟨⟨{ given [] with power := { otp := { key := some [] } } }, 0, true, by decide +kernel⟩,
   ⟨{ given [] with power := { otp := { keyFailed := true } } }, 0, by decide +kernel⟩,
   ⟨{ given [] with power := { keyJob := some (leBytes 32 5, 7) } }, 0, 5#256, leBytes 32 5, 7, by decide +kernel⟩,
   ⟨{ given [] with power := { keyJob := some (leBytes 32 5, 7) } }, 0, 4#256, leBytes 32 5, 7, by decide +kernel⟩,
   ⟨{ given [] with power := { otp := { key := some [1] } } }, 0, by decide +kernel⟩⟩

theorem meets_PllsAndTheGovernor :
    (∃ (s : State) (t : Nat) (i : Fin 3), let a := s.advance t; ((a.pll i).locked = true ∧ i = 0)) ∧
    (∃ (s : State) (t : Nat) (i : Fin 3), let a := s.advance t; ((a.pll i).locked = true ∧ i = 1 ∧ a.power.stageByp = false)) ∧
    (∃ (s : State) (t : Nat) (i : Fin 3), let a := s.advance t; ((a.pll i).locked = true ∧ i = 2)) ∧
    (∃ (s : State) (t : Nat) (i : Fin 3), let a := s.advance t; ((a.pll i).locked = true ∧ i = 1 ∧ a.power.stageByp = true)) ∧
    (∃ (s : State) (t : Nat) (i : Fin 3), let a := s.advance t; (¬((a.pll i).locked = true ∨ (a.pll i).off = false))) ∧
    (∃ (s : State) (t : Nat) (i : Fin 3), let a := s.advance t; ((a.pll i).locked = false ∧ (a.pll i).off = true ∧ (a.pll i).attempt + 10000000 ≤ a.elapsed)) :=
  ⟨⟨{ given [] with power := { plls := [(0, { locked := true })] } }, 0, 0, by decide +kernel⟩,
   ⟨{ given [] with power := { plls := [(1, { locked := true })] } }, 0, 1, by decide +kernel⟩,
   ⟨{ given [] with power := { plls := [(2, { locked := true })] } }, 0, 2, by decide +kernel⟩,
   ⟨{ given [] with power := { stageByp := true, plls := [(1, { locked := true })] } }, 0, 1, by decide +kernel⟩,
   ⟨{ given [(F.POWER_TEMP_TEMP, 250)] with power := { plls := [(2, { off := true })] } }, 0, 2, by decide +kernel⟩,
   ⟨{ given [] with elapsed := 10000000, power := { plls := [(1, { off := true })] } }, 0, 1, by decide +kernel⟩⟩

theorem meets_PllsAndTheGovernor_2 :
    (∃ (s : State) (t : Nat), let a := s.advance t; (¬((a.pll 0).locked = false ∨ (a.pll 0).off = false ∨ a.elapsed < (a.pll 0).since + 1000000))) ∧
    (∃ (s : State) (t : Nat), let a := s.advance t; (¬((a.pll 2).locked = false ∨ (a.pll 2).off = false ∨ a.elapsed < (a.pll 2).since + 100000 ∨ a.datum % 1000 ≠ 0))) ∧
    (∃ (s : State) (t : Nat) (temp : Int), let a := s.advance t; let l := (temp :: a.power.temps).take 8; let mean : Rat := (l.sum : Rat) / l.length; (∀ x ∈ l, -1000 ≤ x ∧ x ≤ 3000) ∧ (1400 < mean ∧ 4 ∉ a.power.holds)) ∧
    (∃ (s : State) (t : Nat) (temp : Int), let a := s.advance t; let l := (temp :: a.power.temps).take 8; let mean : Rat := (l.sum : Rat) / l.length; (∀ x ∈ l, -1000 ≤ x ∧ x ≤ 3000) ∧ (mean ≤ 1400 ∧ a.powerLive = true ∧ 1150 < mean ∧ a.bit F.POWER_STATUS_THERM = false ∧ a.bit F.CLOCK_STATUS_CORE_BYP = false)) ∧
    (∃ (s : State) (t : Nat) (temp : Int), let a := s.advance t; let l := (temp :: a.power.temps).take 8; let mean : Rat := (l.sum : Rat) / l.length; (∀ x ∈ l, -1000 ≤ x ∧ x ≤ 3000) ∧ (4 ∈ a.power.holds ∧ 1250 < mean)) ∧
    (∃ (s : State) (t : Nat) (temp : Int), let a := s.advance t; let l := (temp :: a.power.temps).take 8; let mean : Rat := (l.sum : Rat) / l.length; (∀ x ∈ l, -1000 ≤ x ∧ x ≤ 3000) ∧ (4 ∈ a.power.holds ∧ mean ≤ 1250)) :=
  ⟨⟨{ given [] with elapsed := 1000000, power := { plls := [(0, { locked := true, off := true })] } }, 0, by decide +kernel⟩,
   ⟨{ given [(F.CLOCK_STATUS_CONV_STOP, 1)] with elapsed := 100000, datum := 5000, power := { plls := [(2, { locked := true, off := true })] } }, 0, by decide +kernel⟩,
   ⟨{ given [] with power := { startDue := false, temps := [] } }, 0, 1401, by decide +kernel⟩,
   ⟨{ given [] with power := { startDue := false, temps := [] } }, 0, 1151, by decide +kernel⟩,
   ⟨{ given [] with power := { startDue := false, temps := [], holds := [4] } }, 0, 1251, by decide +kernel⟩,
   ⟨{ given [] with power := { startDue := false, temps := [], holds := [4] } }, 0, 1250, by decide +kernel⟩⟩

theorem meets_PllsAndTheGovernor_3 :
    (∃ (s : State) (t : Nat) (temp : Int), let a := s.advance t; let l := (temp :: a.power.temps).take 8; let mean : Rat := (l.sum : Rat) / l.length; (∀ x ∈ l, -1000 ≤ x ∧ x ≤ 3000) ∧ (mean ≤ 1400 ∧ a.powerLive = true ∧ mean ≤ 1150 ∧ a.bit F.POWER_STATUS_THERM = false)) ∧
    (∃ (s : State) (t : Nat) (temp : Int), let a := s.advance t; let l := (temp :: a.power.temps).take 8; let mean : Rat := (l.sum : Rat) / l.length; (∀ x ∈ l, -1000 ≤ x ∧ x ≤ 3000) ∧ (mean ≤ 1400 ∧ a.powerLive = true ∧ a.bit F.POWER_STATUS_THERM = true ∧ a.power.coolSince = some 0 ∧ mean ≤ 1100)) ∧
    (∃ (s : State) (t : Nat), let a := s.advance t; (¬(a.bit F.POWER_STATUS_THERM = false ∨ a.due a.power.coolSince second = false))) ∧
    (∃ (s : State) (t : Nat), let a := s.advance t; (¬(a.elapsed < a.power.lastTemp + 1000000 ∨ a.powerLive = false) ∧ a.bit F.POWER_STATUS_THERM = false)) ∧
    (∃ (s : State) (t : Nat), let a := s.advance t; (¬(a.elapsed < a.power.lastTemp + 1000000 ∨ a.powerLive = false) ∧ a.bit F.POWER_STATUS_THERM = true)) :=
  ⟨⟨{ given [] with power := { startDue := false, temps := [] } }, 0, 1150, by decide +kernel⟩,
   ⟨{ given [(F.POWER_STATUS_THERM, 1)] with power := { startDue := false, temps := [1100, 1100, 1100, 1100, 1100, 1100, 1100, 3000], coolSince := some 0 } }, 0, 1100, by decide +kernel⟩,
   ⟨{ given [(F.POWER_STATUS_THERM, 1)] with elapsed := second, power := { coolSince := some 0 } }, 0, by decide +kernel⟩,
   ⟨{ given [] with elapsed := 1000000, power := { startDue := false } }, 0, by decide +kernel⟩,
   ⟨{ given [(F.POWER_STATUS_THERM, 1)] with elapsed := 1000000, power := { startDue := false } }, 0, by decide +kernel⟩⟩

theorem meets_StoreHarvesterAndWarning :
    (∃ (s : State) (t : Nat) (v : Nat), let a := s.advance t; (a.ghost.running = true ∧ a.bit F.GHOST_STATUS_STORE_OK = true ∧ v < vSeal ∧ a.ghost.absent = false)) ∧
    (∃ (s : State) (t : Nat) (v : Nat) (g : Nat), let a := s.advance t; let m := a.harvestMode (min v 65535) (min g 65535); (a.ghost.running = true ∧ m ≠ a.get F.GHOST_STATUS_HARVEST ∧ a.ghost.absent = false)) ∧
    (∃ (s : State) (t : Nat) (v : Nat), let a := s.advance t; (a.ghost.running = true ∧ a.ghost.store = false ∧ 65535 < v)) ∧
    (∃ (s : State) (t : Nat), let a := s.advance t; a.ghost.running = true) ∧
    (∃ (s : State) (t : Nat), let a := s.advance t; (¬(a.ghost.running = false ∨ a.ghost.store = false ∨ vDead ≤ a.get F.GHOST_LEVELS_VSTOR))) ∧
    (∃ (s : State) (t : Nat), let a := s.advance t; a.ghost.running = false) :=
  ⟨⟨{ given [(F.GHOST_STATUS_STORE_OK, 1)] with ghost := { absent := false } }, 0, 1999, by decide +kernel⟩,
   ⟨{ given [] with ghost := { absent := false } }, 0, 1799, 3300, by decide +kernel⟩,
   ⟨{ given [(F.GHOST_STATUS_TRICKLING, 1)] with ghost := { absent := false } }, 0, 70000, by decide +kernel⟩,
   ⟨given [(F.GHOST_LEVELS_VSTOR, 1799), (F.GHOST_LEVELS_VTEG, 250)], 0, by decide +kernel⟩,
   ⟨{ given [(F.GHOST_LEVELS_VSTOR, 1799)] with ghost := { store := true } }, 0, by decide +kernel⟩,
   ⟨{ given [(F.GHOST_STATUS_PF_WARN, 1)] with ghost := { running := false } }, 0, by decide +kernel⟩⟩

theorem meets_StoreHarvesterAndWarning_2 :
    (∃ (s : State) (t : Nat), let a := s.advance t; (a.bit F.GHOST_STATUS_PF_WARN = false ∧ a.ghost.running = true ∧ a.meterLive = true)) ∧
    (∃ (s : State) (t : Nat), let a := s.advance t; (a.bit F.GHOST_STATUS_PF_WARN = false ∧ a.ghost.running = true ∧ a.meterLive = false)) ∧
    (∃ (s : State) (t : Nat), let a := s.advance t; (¬(a.bit F.GHOST_STATUS_PF_WARN = false ∨ a.ghost.absent = true))) :=
  ⟨⟨{ given [] with power := { startDue := false }, ghost := { absent := false } }, 0, by decide +kernel⟩,
   ⟨{ given [] with ghost := { absent := false } }, 0, by decide +kernel⟩,
   ⟨{ given [(F.GHOST_STATUS_PF_WARN, 1)] with ghost := { absent := false, store := true } }, 0, by decide +kernel⟩⟩

theorem meets_OutagesKeeperAndTamper :
    (∃ (s : State) (t : Nat) (v : Nat) (c : MeterCore) (h : MInterval) (l : List MInterval), let a := s.advance t; a.latestCopy = some c ∧ c.ivals = h :: l ∧ a.ghost.running = true ∧ a.ghost.absent = true ∧ a.ghost.closed = false ∧ (h.stop ≤ a.keeperNow ∧ v = 1999)) ∧
    (∃ (s : State) (t : Nat) (v : Nat) (c : MeterCore) (h : MInterval) (l : List MInterval), let a := s.advance t; a.latestCopy = some c ∧ c.ivals = h :: l ∧ a.ghost.running = true ∧ a.ghost.absent = true ∧ a.ghost.closed = false ∧ (h.stop ≤ a.keeperNow ∧ v = 2000)) ∧
    (∃ (s : State) (t : Nat) (c : MeterCore) (h : MInterval) (l : List MInterval), let a := s.advance t; a.latestCopy = some c ∧ c.ivals = h :: l ∧ a.ghost.running = true ∧ a.ghost.absent = true ∧ a.ghost.closed = false ∧ a.keeperNow < h.stop) ∧
    (∃ (s : State) (t : Nat), let a := s.advance t; (a.latestCopy = none ∨ a.ghost.running = false ∨ a.ghost.absent = false ∨ a.ghost.closed = true) ∧ a.latestCopy = none) ∧
    (∃ (s : State) (t : Nat), let a := s.advance t; (a.bit F.GHOST_STATUS_SEAL_PEND = false ∨ a.ghost.absent = false ∨ a.ghost.running = false ∨ a.ghost.job ≠ none ∨ a.elapsed < a.ghost.lastCheck + second) ∧ a.bit F.GHOST_STATUS_SEAL_PEND = false) ∧
    (∃ (s : State) (t : Nat), let a := s.advance t; (a.bit F.GHOST_STATUS_SEAL_PEND = false ∨ a.ghost.absent = false ∨ a.ghost.running = false ∨ a.ghost.job ≠ none ∨ a.elapsed < a.ghost.lastCheck + second) ∧ a.elapsed = second - 2) :=
  ⟨⟨{ given [] with ghost := { store := true, copyA := some (1, { ivals := [⟨0, 0, 0, 0, 0, 0, 0, 900, [], false, none⟩] }) } }, 0, 1999, { ivals := [⟨0, 0, 0, 0, 0, 0, 0, 900, [], false, none⟩] }, ⟨0, 0, 0, 0, 0, 0, 0, 900, [], false, none⟩, [], rfl, rfl, rfl, rfl, rfl, Nat.zero_le _, rfl⟩,
   ⟨{ given [] with ghost := { store := true, copyA := some (1, { ivals := [⟨0, 0, 0, 0, 0, 0, 0, 900, [], false, none⟩] }) } }, 0, 2000, { ivals := [⟨0, 0, 0, 0, 0, 0, 0, 900, [], false, none⟩] }, ⟨0, 0, 0, 0, 0, 0, 0, 900, [], false, none⟩, [], rfl, rfl, rfl, rfl, rfl, Nat.zero_le _, rfl⟩,
   ⟨{ given [] with ghost := { store := true, keeper := { edge := Config.ghostEdges 0 }, copyA := some (1, { ivals := [⟨0, 5, 0, 0, 0, 0, 0, 900, [], false, none⟩] }) } }, 0, { ivals := [⟨0, 5, 0, 0, 0, 0, 0, 900, [], false, none⟩] }, ⟨0, 5, 0, 0, 0, 0, 0, 900, [], false, none⟩, [], rfl, rfl, rfl, rfl, rfl, keeper_stands _ 4 rfl rfl rfl⟩,
   ⟨given [], 0, by decide +kernel⟩,
   ⟨given [], 0, by decide +kernel⟩,
   ⟨{ given [(F.GHOST_STATUS_SEAL_PEND, 1)] with elapsed := second - 2 }, 0, by decide +kernel⟩⟩

theorem meets_OutagesKeeperAndTamper_2 :
    (∃ (s : State) (t : Nat) (v : Nat), let a := s.advance t; a.bit F.GHOST_STATUS_SEAL_PEND = true ∧ a.ghost.absent = true ∧ a.ghost.running = true ∧ a.ghost.job = none ∧ a.ghost.lastCheck + second ≤ a.elapsed ∧ (a.ghost.store = true ∧ v < vSeal)) ∧
    (∃ (s : State) (t : Nat) (v : Nat), let a := s.advance t; a.bit F.GHOST_STATUS_SEAL_PEND = true ∧ a.ghost.absent = true ∧ a.ghost.running = true ∧ a.ghost.job = none ∧ a.ghost.lastCheck + second ≤ a.elapsed ∧ (¬(a.ghost.store = true ∧ v < vSeal))) ∧
    (∃ (s : State) (t : Nat) (r : Rec) (c : MeterCore) (store : Bool), let a := s.advance t; a.ghost.job = some store ∧ a.ghost.out = some r ∧ a.latestCopy = some c) ∧
    (∃ (s : State) (t : Nat) (d : Desc) (l : List Desc), let a := s.advance t; a.ghost.job = none ∧ a.host.tests.sealKat = d :: l) ∧
    (∃ (s : State) (t : Nat), let a := s.advance t; (¬(a.ghost.absent = true ∨ a.ghost.running = false))) ∧
    (∃ (s : State) (t : Nat), let a := s.advance t; (¬(a.ghost.absent = false ∨ a.ghost.running = false))) :=
  ⟨⟨{ given [(F.GHOST_STATUS_SEAL_PEND, 1)] with elapsed := second, ghost := { store := true } }, 0, 1999, by decide +kernel⟩,
   ⟨{ given [(F.GHOST_STATUS_SEAL_PEND, 1)] with elapsed := second, ghost := { store := true } }, 0, 2000, by decide +kernel⟩,
   ⟨{ given [(F.GHOST_STATUS_SEAL_PEND, 1)] with ghost := { job := some true, out := some ({ seq := 4, body := List.replicate 56 0 } : Rec), copyA := some (1, {}) } }, 0, ({ seq := 4, body := List.replicate 56 0 } : Rec), {}, true, by decide +kernel⟩,
   ⟨{ given [] with host := { tests := { sealKat := [{ opc := 13, target := 1 }] }, dispatched := [{ opc := 13, target := 1 }] } }, 0, { opc := 13, target := 1 }, [], by decide +kernel⟩,
   ⟨{ given [(F.POWER_TEMP_TEMP, 250)] with ghost := { absent := false, keeper := { stores := [(2, 15)] } } }, 0, by decide +kernel⟩,
   ⟨given [], 0, by decide +kernel⟩⟩

theorem meets_OutagesKeeperAndTamper_3 :
    (∃ (s : State) (t : Nat), let a := s.advance t; a.ghost.running = true) ∧
    (∃ (s : State) (t : Nat), let a := s.advance t; (a.ghost.running = true ∧ a.ghost.absent = false)) ∧
    (∃ (s : State) (t : Nat) (i : Fin 2), let a := s.advance t; let n := a.ghost.tlogNext; a.ghost.running = true ∧ a.get F.GHOST_STATUS_TAMP_NOW = 0 ∧ a.ghost.tampHigh = [i.val] ∧ n < 16 ∧ a.ghost.absent = false) ∧
    (∃ (s : State) (t : Nat) (i : Fin 2), let a := s.advance t; let n := a.ghost.tlogNext; a.ghost.running = true ∧ a.get F.GHOST_STATUS_TAMP_NOW = 0 ∧ a.ghost.tampHigh = [i.val] ∧ n < 16 ∧ a.ghost.absent = true) :=
  ⟨⟨{ given [(F.GHOST_STATUS_TAMP_NOW, 1)] with ghost := { tampHigh := [1] } }, 0, by decide +kernel⟩,
   ⟨{ given [(F.GHOST_STATUS_TAMP_NOW, 1)] with ghost := { absent := false, tampHigh := [] } }, 0, by decide +kernel⟩,
   ⟨{ given [] with ghost := { absent := false, tampHigh := [1], tlogNext := 15 } }, 0, 1, by decide +kernel⟩,
   ⟨{ given [] with ghost := { tampHigh := [0] } }, 0, 0, by decide +kernel⟩⟩

theorem meets_ScrubbingSurveyAndWear :
    (∃ (s : State) (t : Nat), let a := s.advance t; let p := (if a.deferred then 40 else 10) * second; a.elapsed < (a.scrub.lastEnd / p + 1) * p) ∧
    (∃ (s : State) (t : Nat), let a := s.advance t; let p := (if a.deferred then 40 else 10) * second; (a.bit F.SCRUB_CTRL_EN = true ∧ a.scrub.start = none ∧ (a.scrub.lastEnd / p + 1) * p ≤ a.elapsed)) ∧
    (∃ (s : State) (t : Nat) (t0 : Nat) (x : WordRead), let a := s.advance t; let test := !a.host.tests.sweep.isEmpty; let step := if a.deferred ∧ test = false then 244000 else 61000; a.scrub.start = some t0 ∧ (a.bit F.SCRUB_CTRL_EN = true ∨ test = true) ∧ a.scrub.word + 1 < sweepWords ∧ a.scrub.lastRead + step ≤ a.elapsed ∧ x = .clean) ∧
    (∃ (s : State) (t : Nat) (t0 : Nat) (x : WordRead), let a := s.advance t; let test := !a.host.tests.sweep.isEmpty; let step := if a.deferred ∧ test = false then 244000 else 61000; a.scrub.start = some t0 ∧ (a.bit F.SCRUB_CTRL_EN = true ∨ test = true) ∧ a.scrub.word + 1 < sweepWords ∧ a.scrub.lastRead + step ≤ a.elapsed ∧ x = .corrected false) ∧
    (∃ (s : State) (t : Nat) (t0 : Nat) (x : WordRead), let a := s.advance t; let test := !a.host.tests.sweep.isEmpty; let step := if a.deferred ∧ test = false then 244000 else 61000; a.scrub.start = some t0 ∧ (a.bit F.SCRUB_CTRL_EN = true ∨ test = true) ∧ a.scrub.word + 1 < sweepWords ∧ a.scrub.lastRead + step ≤ a.elapsed ∧ x = .corrected true) ∧
    (∃ (s : State) (t : Nat) (t0 : Nat) (x : WordRead), let a := s.advance t; let r := (regionOf regionWords 0 a.scrub.word).1; let w := (regionOf regionWords 0 a.scrub.word).2; let test := !a.host.tests.sweep.isEmpty; let step := if a.deferred ∧ test = false then 244000 else 61000; a.scrub.start = some t0 ∧ (a.bit F.SCRUB_CTRL_EN = true ∨ test = true) ∧ a.scrub.word + 1 < sweepWords ∧ a.scrub.lastRead + step ≤ a.elapsed ∧ (x = .uncorrectable .other ∧ (r, w) ∉ a.scrub.reported ∧ r = 7)) :=
  ⟨⟨{ given [(F.SCRUB_CTRL_EN, 1)] with elapsed := 10 * second - 2 }, 0, by decide +kernel⟩,
   ⟨{ given [(F.SCRUB_CTRL_EN, 1)] with elapsed := 10 * second }, 0, by decide +kernel⟩,
   ⟨{ given [(F.SCRUB_CTRL_EN, 1)] with elapsed := 61000, scrub := { start := some 0, lastRead := 0, word := 0 } }, 0, 0, .clean, by decide +kernel⟩,
   ⟨{ given [(F.SCRUB_CTRL_EN, 1)] with elapsed := 61000, scrub := { start := some 0, lastRead := 0, word := 65535 } }, 0, 0, .corrected false, by decide +kernel⟩,
   ⟨{ given [(F.SCRUB_CTRL_EN, 1)] with elapsed := 61000, scrub := { start := some 0, lastRead := 0, word := 65536 } }, 0, 0, .corrected true, by decide +kernel⟩,
   ⟨{ given [(F.SCRUB_CTRL_EN, 1)] with elapsed := 61000, scrub := { start := some 0, lastRead := 0, word := 151549 } }, 0, 0, .uncorrectable .other, by decide +kernel⟩⟩

theorem meets_ScrubbingSurveyAndWear_2 :
    (∃ (s : State) (t : Nat) (t0 : Nat) (x : WordRead), let a := s.advance t; let r := (regionOf regionWords 0 a.scrub.word).1; let w := (regionOf regionWords 0 a.scrub.word).2; let test := !a.host.tests.sweep.isEmpty; let step := if a.deferred ∧ test = false then 244000 else 61000; a.scrub.start = some t0 ∧ (a.bit F.SCRUB_CTRL_EN = true ∨ test = true) ∧ a.scrub.word + 1 < sweepWords ∧ a.scrub.lastRead + step ≤ a.elapsed ∧ (x = .uncorrectable (.event { stamp := 5, num := 64 }) ∧ (r, w) ∉ a.scrub.reported ∧ r = 1)) ∧
    (∃ (s : State) (t : Nat) (t0 : Nat) (x : WordRead), let a := s.advance t; let r := (regionOf regionWords 0 a.scrub.word).1; let w := (regionOf regionWords 0 a.scrub.word).2; let test := !a.host.tests.sweep.isEmpty; let step := if a.deferred ∧ test = false then 244000 else 61000; a.scrub.start = some t0 ∧ (a.bit F.SCRUB_CTRL_EN = true ∨ test = true) ∧ a.scrub.word + 1 < sweepWords ∧ a.scrub.lastRead + step ≤ a.elapsed ∧ (x = .uncorrectable .other ∧ (r, w) ∉ a.scrub.reported ∧ r = 3)) ∧
    (∃ (s : State) (t : Nat) (t0 : Nat) (x : WordRead), let a := s.advance t; let r := (regionOf regionWords 0 a.scrub.word).1; let w := (regionOf regionWords 0 a.scrub.word).2; let test := !a.host.tests.sweep.isEmpty; let step := if a.deferred ∧ test = false then 244000 else 61000; a.scrub.start = some t0 ∧ (a.bit F.SCRUB_CTRL_EN = true ∨ test = true) ∧ a.scrub.word + 1 < sweepWords ∧ a.scrub.lastRead + step ≤ a.elapsed ∧ (x = .uncorrectable .other ∧ (r, w) ∉ a.scrub.reported ∧ r = 6)) ∧
    (∃ (s : State) (t : Nat) (t0 : Nat) (x : WordRead), let a := s.advance t; let r := (regionOf regionWords 0 a.scrub.word).1; let w := (regionOf regionWords 0 a.scrub.word).2; let test := !a.host.tests.sweep.isEmpty; let step := if a.deferred ∧ test = false then 244000 else 61000; a.scrub.start = some t0 ∧ (a.bit F.SCRUB_CTRL_EN = true ∨ test = true) ∧ a.scrub.word + 1 < sweepWords ∧ a.scrub.lastRead + step ≤ a.elapsed ∧ (x = .uncorrectable .other ∧ (r, w) ∈ a.scrub.reported)) ∧
    (∃ (s : State) (t : Nat), let a := s.advance t; let test := !a.host.tests.sweep.isEmpty; let step := if a.deferred ∧ test = false then 244000 else 61000; (a.scrub.start = none ∨ (a.bit F.SCRUB_CTRL_EN = false ∧ test = false) ∨ a.elapsed < a.scrub.lastRead + step) ∧ (a.elapsed = 60998 ∧ a.scrub.start = some 0)) ∧
    (∃ (s : State) (t : Nat) (t0 : Nat), let a := s.advance t; let test := !a.host.tests.sweep.isEmpty; let step := if a.deferred ∧ test = false then 244000 else 61000; a.scrub.start = some t0 ∧ (a.bit F.SCRUB_CTRL_EN = true ∨ test = true) ∧ a.scrub.word + 1 = sweepWords ∧ a.scrub.lastRead + step ≤ a.elapsed ∧ a.host.tests.sweep = []) :=
  ⟨⟨{ given [(F.SCRUB_CTRL_EN, 1)] with elapsed := 61000, scrub := { start := some 0, lastRead := 0, word := 65536 } }, 0, 0, .uncorrectable (.event { stamp := 5, num := 64 }), by decide +kernel⟩,
   ⟨{ given [(F.SCRUB_CTRL_EN, 1)] with elapsed := 61000, scrub := { start := some 0, lastRead := 0, word := 69632 } }, 0, 0, .uncorrectable .other, by decide +kernel⟩,
   ⟨{ given [(F.SCRUB_CTRL_EN, 1)] with elapsed := 61000, scrub := { start := some 0, lastRead := 0, word := 126976 } }, 0, 0, .uncorrectable .other, by decide +kernel⟩,
   ⟨{ given [(F.SCRUB_CTRL_EN, 1)] with elapsed := 61000, scrub := { start := some 0, reported := [(0, 0)] } }, 0, 0, .uncorrectable .other, by decide +kernel⟩,
   ⟨{ given [(F.SCRUB_CTRL_EN, 1)] with elapsed := 60998, scrub := { start := some 0, lastRead := 0, word := 0 } }, 0, by decide +kernel⟩,
   ⟨{ given [(F.SCRUB_CTRL_EN, 1)] with elapsed := 61000, scrub := { start := some 0, lastRead := 0, word := 163839 } }, 0, 0, by decide +kernel⟩⟩

theorem meets_ScrubbingSurveyAndWear_3 :
    (∃ (s : State) (t : Nat) (t0 : Nat), let a := s.advance t; let test := !a.host.tests.sweep.isEmpty; let step := if a.deferred ∧ test = false then 244000 else 61000; a.scrub.start = some t0 ∧ (a.bit F.SCRUB_CTRL_EN = true ∨ test = true) ∧ a.scrub.word + 1 = sweepWords ∧ a.scrub.lastRead + step ≤ a.elapsed ∧ a.host.tests.sweep.length = 2) ∧
    (∃ (s : State) (t : Nat), let a := s.advance t; let due := a.scrub.passBase.elim a.elapsed (· + a.get F.SCRUB_SURVEY_PERIOD * second); (¬(a.bit F.SCRUB_CTRL_SURVEY_EN = false ∨ a.bit (F.HOST_RING_CFG_EN 3) = false ∨ a.elapsed < due) ∧ a.scrub.passNext.isSome = true)) ∧
    (∃ (s : State) (t : Nat), let a := s.advance t; let due := a.scrub.passBase.elim a.elapsed (· + a.get F.SCRUB_SURVEY_PERIOD * second); (¬(a.bit F.SCRUB_CTRL_SURVEY_EN = false ∨ a.bit (F.HOST_RING_CFG_EN 3) = false ∨ a.elapsed < due) ∧ a.scrub.passNext = none ∧ a.nextPresent 0 = some 0)) ∧
    (∃ (s : State) (t : Nat), let a := s.advance t; let due := a.scrub.passBase.elim a.elapsed (· + a.get F.SCRUB_SURVEY_PERIOD * second); (¬(a.bit F.SCRUB_CTRL_SURVEY_EN = false ∨ a.bit (F.HOST_RING_CFG_EN 3) = false ∨ a.elapsed < due) ∧ a.scrub.passNext = none ∧ a.nextPresent 0 = none)) ∧
    (∃ (s : State) (t : Nat) (c : Nat), let a := s.advance t; let room := !a.deferred && a.ringRoom 3; let last := a.nextPresent (c + 1) = none; (a.scrub.passNext = some c ∧ a.present c = true ∧ a.bit F.SCRUB_STATUS_SURVEY_PAUSED = false ∧ a.scrub.lastEntry + a.get F.SCRUB_SURVEY_SPACING * 1000000 ≤ a.elapsed ∧ room = true ∧ last ∧ a.scrub.passDue = true)) ∧
    (∃ (s : State) (t : Nat) (c : Nat), let a := s.advance t; let room := !a.deferred && a.ringRoom 3; let last := a.nextPresent (c + 1) = none; (a.scrub.passNext = some c ∧ a.present c = true ∧ a.bit F.SCRUB_STATUS_SURVEY_PAUSED = false ∧ a.scrub.lastEntry + a.get F.SCRUB_SURVEY_SPACING * 1000000 ≤ a.elapsed ∧ room = true ∧ last ∧ a.scrub.passDue = false)) :=
  ⟨⟨{ given [] with elapsed := 61000, scrub := { start := some 0, lastRead := 0, word := 163839 }, host := { tests := { sweep := [{ opc := 13, target := 3 }, { opc := 13, target := 3, tag := 1 }] }, dispatched := [{ opc := 13, target := 3 }] } }, 0, 0, by decide +kernel⟩,
   ⟨{ given [(F.SCRUB_CTRL_SURVEY_EN, 1), (F.HOST_RING_CFG_EN 3, 1), (F.HOST_RING_CFG_LOG2 3, 4)] with scrub := { passNext := some 0 } }, 0, by decide +kernel⟩,
   ⟨{ given [(F.SCRUB_CTRL_SURVEY_EN, 1), (F.HOST_RING_CFG_EN 3, 1), (F.HOST_RING_CFG_LOG2 3, 4)] with tables := [(tid.roster, { work := [(3, 1)] })] }, 0, by decide +kernel⟩,
   ⟨given [(F.SCRUB_CTRL_SURVEY_EN, 1), (F.HOST_RING_CFG_EN 3, 1), (F.HOST_RING_CFG_LOG2 3, 4)], 0, by decide +kernel⟩,
   ⟨{ given [(F.SCRUB_STATUS_SURVEY_PAUSED, 0), (F.HOST_RING_CFG_EN 3, 1), (F.HOST_RING_CFG_LOG2 3, 4)] with elapsed := 255000000, tables := [(tid.roster, { work := [(32 * 5 + 3, 1)] })], scrub := { passNext := some 5, passDue := true } }, 0, 5, by decide +kernel⟩,
   ⟨{ given [(F.SCRUB_STATUS_SURVEY_PAUSED, 0), (F.HOST_RING_CFG_EN 3, 1), (F.HOST_RING_CFG_LOG2 3, 4)] with elapsed := 255000000, tables := [(tid.roster, { work := [(32 * 5 + 3, 1)] })], scrub := { passNext := some 5, passDue := false } }, 0, 5, by decide +kernel⟩⟩

theorem meets_ScrubbingSurveyAndWear_4 :
    (∃ (s : State) (t : Nat) (c : Nat), let a := s.advance t; let room := !a.deferred && a.ringRoom 3; let last := a.nextPresent (c + 1) = none; (a.scrub.passNext = some c ∧ a.present c = true ∧ a.bit F.SCRUB_STATUS_SURVEY_PAUSED = false ∧ a.scrub.lastEntry + a.get F.SCRUB_SURVEY_SPACING * 1000000 ≤ a.elapsed ∧ room = false ∧ last ∧ a.scrub.passDue = true)) ∧
    (∃ (s : State) (t : Nat) (c : Nat), let a := s.advance t; let room := !a.deferred && a.ringRoom 3; let last := a.nextPresent (c + 1) = none; (a.scrub.passNext = some c ∧ a.present c = true ∧ a.bit F.SCRUB_STATUS_SURVEY_PAUSED = false ∧ a.scrub.lastEntry + a.get F.SCRUB_SURVEY_SPACING * 1000000 ≤ a.elapsed ∧ room = false ∧ last ∧ a.scrub.passDue = false)) ∧
    (∃ (s : State) (t : Nat) (c : Nat), let a := s.advance t; let room := !a.deferred && a.ringRoom 3; let last := a.nextPresent (c + 1) = none; (a.scrub.passNext = some c ∧ a.present c = true ∧ a.bit F.SCRUB_STATUS_SURVEY_PAUSED = true ∧ a.scrub.lastEntry + a.get F.SCRUB_SURVEY_SPACING * 1000000 ≤ a.elapsed ∧ room = true ∧ last ∧ a.scrub.passDue = true)) ∧
    (∃ (s : State) (t : Nat) (c : Nat), let a := s.advance t; let room := !a.deferred && a.ringRoom 3; let last := a.nextPresent (c + 1) = none; (a.scrub.passNext = some c ∧ a.present c = true ∧ a.bit F.SCRUB_STATUS_SURVEY_PAUSED = true ∧ a.scrub.lastEntry + a.get F.SCRUB_SURVEY_SPACING * 1000000 ≤ a.elapsed ∧ room = true ∧ last ∧ a.scrub.passDue = false)) ∧
    (∃ (s : State) (t : Nat) (c : Nat), let a := s.advance t; let room := !a.deferred && a.ringRoom 3; let last := a.nextPresent (c + 1) = none; (a.scrub.passNext = some c ∧ a.present c = true ∧ a.bit F.SCRUB_STATUS_SURVEY_PAUSED = true ∧ a.scrub.lastEntry + a.get F.SCRUB_SURVEY_SPACING * 1000000 ≤ a.elapsed ∧ room = false ∧ last ∧ a.scrub.passDue = true)) ∧
    (∃ (s : State) (t : Nat) (c : Nat), let a := s.advance t; let room := !a.deferred && a.ringRoom 3; let last := a.nextPresent (c + 1) = none; (a.scrub.passNext = some c ∧ a.present c = true ∧ a.bit F.SCRUB_STATUS_SURVEY_PAUSED = true ∧ a.scrub.lastEntry + a.get F.SCRUB_SURVEY_SPACING * 1000000 ≤ a.elapsed ∧ room = false ∧ last ∧ a.scrub.passDue = false)) :=
  ⟨⟨{ given [(F.SCRUB_STATUS_SURVEY_PAUSED, 0)] with elapsed := 255000000, tables := [(tid.roster, { work := [(32 * 5 + 3, 1)] })], scrub := { passNext := some 5, passDue := true } }, 0, 5, by decide +kernel⟩,
   ⟨{ given [(F.SCRUB_STATUS_SURVEY_PAUSED, 0)] with elapsed := 255000000, tables := [(tid.roster, { work := [(32 * 5 + 3, 1)] })], scrub := { passNext := some 5, passDue := false } }, 0, 5, by decide +kernel⟩,
   ⟨{ given [(F.SCRUB_STATUS_SURVEY_PAUSED, 1), (F.HOST_RING_CFG_EN 3, 1), (F.HOST_RING_CFG_LOG2 3, 4)] with elapsed := 255000000, tables := [(tid.roster, { work := [(32 * 5 + 3, 1)] })], scrub := { passNext := some 5, passDue := true } }, 0, 5, by decide +kernel⟩,
   ⟨{ given [(F.SCRUB_STATUS_SURVEY_PAUSED, 1), (F.HOST_RING_CFG_EN 3, 1), (F.HOST_RING_CFG_LOG2 3, 4)] with elapsed := 255000000, tables := [(tid.roster, { work := [(32 * 5 + 3, 1)] })], scrub := { passNext := some 5, passDue := false } }, 0, 5, by decide +kernel⟩,
   ⟨{ given [(F.SCRUB_STATUS_SURVEY_PAUSED, 1)] with elapsed := 255000000, tables := [(tid.roster, { work := [(32 * 5 + 3, 1)] })], scrub := { passNext := some 5, passDue := true } }, 0, 5, by decide +kernel⟩,
   ⟨{ given [(F.SCRUB_STATUS_SURVEY_PAUSED, 1)] with elapsed := 255000000, tables := [(tid.roster, { work := [(32 * 5 + 3, 1)] })], scrub := { passNext := some 5, passDue := false } }, 0, 5, by decide +kernel⟩⟩

theorem meets_ScrubbingSurveyAndWear_5 :
    (∃ (s : State) (t : Nat) (c : Nat), let a := s.advance t; let room := !a.deferred && a.ringRoom 3; let last := a.nextPresent (c + 1) = none; (a.scrub.passNext = some c ∧ a.present c = false ∧ room = true ∧ ¬last)) ∧
    (∃ (s : State) (t : Nat), let a := s.advance t; a.scrub.passNext = none) ∧
    (∃ (s : State) (t : Nat), let a := s.advance t; a.tableau = false) :=
  ⟨⟨{ given [(F.HOST_RING_CFG_EN 3, 1), (F.HOST_RING_CFG_LOG2 3, 4)] with elapsed := 255000000, tables := [(tid.roster, { work := [(32 * 5 + 3, 1)] })], scrub := { passNext := some 4 } }, 0, 4, by decide +kernel⟩,
   ⟨given [], 0, by decide +kernel⟩,
   ⟨{ given [] with tables := [(tid.roster, { work := [(3, 1)] })], scrub := { wear := [(0, { legA := 9, dump := 2000 })] } }, 0, by decide +kernel⟩⟩

theorem meets_RegistersAreReadAndWritten :
    (∃ (s : State) (t : Nat) (be : BitVec 4), be ≠ 15) ∧
    (∃ (s : State) (t : Nat) (addr : Nat) (data : Word), let a := s.advance t; let n := (a.host.held.filter fun w => match w with | .bar0 _ _ => true | .doorbell _ _ => false).length; a.tableau = true ∧ (addr ≠ Reg.COMP_TEST_CTRL ∨ data.getLsbD 31 = false) ∧ n < 64) ∧
    (∃ (s : State) (t : Nat) (addr : Nat) (data : Word), let a := s.advance t; let n := (a.host.held.filter fun w => match w with | .bar0 _ _ => true | .doorbell _ _ => false).length; a.tableau = true ∧ (addr ≠ Reg.COMP_TEST_CTRL ∨ data.getLsbD 31 = false) ∧ 64 ≤ n) ∧
    (∃ (s : State) (t : Nat), let a := s.advance t; let n := (a.host.held.filter fun w => match w with | .bar0 _ _ => true | .doorbell _ _ => false).length; (a.tableau = true ∧ n < 64)) ∧
    (∃ (s : State) (t : Nat), let a := s.advance t; let n := (a.host.held.filter fun w => match w with | .bar0 _ _ => true | .doorbell _ _ => false).length; (a.tableau = true ∧ 64 ≤ n)) ∧
    (∃ (s : State) (t : Nat) (addr : Nat), let a := s.advance t; a.tableau = false ∧ regRow addr = none) :=
  ⟨⟨given [], 0, 14#4, by decide +kernel⟩,
   ⟨given [(F.POWER_STATUS_TABLEAU, 1)], 0, 0x20, 5#32, by decide +kernel⟩,
   ⟨{ given [(F.POWER_STATUS_TABLEAU, 1)] with host := { held := List.replicate 64 (.bar0 0x20 1) } }, 0, 0x20, 5#32, by decide +kernel⟩,
   ⟨given [(F.POWER_STATUS_TABLEAU, 1)], 0, by decide +kernel⟩,
   ⟨{ given [(F.POWER_STATUS_TABLEAU, 1)] with host := { held := List.replicate 64 (.bar0 0x20 1) } }, 0, by decide +kernel⟩,
   ⟨given [], 0, 0x5FFC, by decide +kernel⟩⟩

theorem meets_RegistersAreReadAndWritten_2 :
    (∃ (s : State) (t : Nat) (addr : Nat) (data : Word), let a := s.advance t; a.tableau = false ∧ (∃ row ∈ regRow addr, row.fields.all (FieldRow.fits data.toNat) = false ∧ rejectBit addr = some F.DATUM_STATUS_CFG_REJECT)) ∧
    (∃ (s : State) (t : Nat) (addr : Nat) (data : Word), let a := s.advance t; a.tableau = false ∧ (∃ row ∈ regRow addr, row.fields.all (FieldRow.fits data.toNat) = true ∧ 0x400 ≤ addr ∧ addr < 0x440)) ∧
    (∃ (s : State) (t : Nat) (addr : Nat), addr ∈ capturePairs) ∧
    (∃ (s : State) (t : Nat) (addr : Nat), addr ∉ capturePairs) :=
  ⟨⟨given [], 0, 0x1814, 1000001#32, by decide +kernel⟩,
   ⟨given [], 0, 0x410, 0xFF#32, by decide +kernel⟩,
   ⟨{ given [(F.DATUM_STATUS_DISC, 2)] with datum := 5000000000 }, 0, Reg.DATUM_NOW_LO, by decide +kernel⟩,
   ⟨given [], 0, 0x20, by decide +kernel⟩⟩

theorem meets_RosterAfterReset :
    (∃ (s : State) (t : Nat) (rails : BitVec 5), rails ≠ 31) ∧
    (∃ (s : State) (t : Nat), 7 ∉ s.power.holds) ∧
    (∃ (s : State) (t : Nat) (n : Nat), ((n < 2250 ∨ 2750 < n) ∧ 3 ∉ s.power.holds)) ∧
    (∃ (s : State) (t : Nat) (temp : Int), (4 ∉ s.power.holds ∧ 1400 < (((temp :: s.power.temps).take 8).sum : Rat) / ((temp :: s.power.temps).take 8).length)) :=
  ⟨⟨given [], 0, 15, by decide +kernel⟩,
   ⟨given [], 0, by decide +kernel⟩,
   ⟨given [], 0, 2249, by decide +kernel⟩,
   ⟨given [], 0, 1401, by decide +kernel⟩⟩

theorem meets_RegistersAreReadAndWritten_reserved : ∃ addr i : Nat,
    (∀ row ∈ regRow addr, ∀ f ∈ row.fields, i < f.lo ∨ f.lo + f.w ≤ i) ∧ (regRow addr).isSome = true :=
  ⟨0x1000, 1, by decide +kernel⟩

theorem meets_ResetsReachTheirParts_and_RosterAfterReset : ∃ (s : State) (rails : BitVec 5),
    rails ≠ 31 ∧ s.power.started = true ∧ s.power.startDue = false ∧ 7 ∉ s.power.holds :=
  ⟨{ State.reset with power := { started := true, startDue := false } }, 15, by decide +kernel⟩

theorem meets_EntriesAsTheHostSeesThem : (∃ tag status detail done : Nat, tag < 2 ^ 16 ∧ status < 2 ^ 8 ∧ detail < 2 ^ 32 ∧ done < 2 ^ 64) ∧
    ∃ (e : Event) (seq dropped : Nat), e.stamp < 2 ^ 64 ∧ e.num < 2 ^ 8 ∧ e.inst < 2 ^ 16 ∧ seq < 2 ^ 32 ∧ dropped < 2 ^ 32 :=
  ⟨⟨65535, 255, 2 ^ 32 - 1, 2 ^ 64 - 1, by decide⟩, { stamp := 2 ^ 64 - 1, num := 255, inst := 65535 }, 2 ^ 32 - 1, 2 ^ 32 - 1, by decide⟩

theorem meets_StepRunsTheFrontCommand_and_InvariantKeptByEveryStep : ∃ s : State, s.pending = [] ∧ s.Inv = true ∧ s.elapsed % 2 = 0 :=
  ⟨State.reset, by decide +kernel⟩

theorem meets_QueuesAreServedInOrder : ∃ (s s' : State) (n : Nat), n = 1 ∧ s.pending = [.linkUp 5 true, .nop 6 { opc := 1 }] ∧
    (⟨State, Fault, Refusal, step, State.reset⟩ : Host.Core).run n s = .next s' :=
  ⟨{ State.reset with pending := [.linkUp 5 true, .nop 6 { opc := 1 }] }, _, 1, rfl, rfl, rfl⟩

/-! The checks of WellFormed: each refuses an ill-formed command -/

theorem test_wf_accepts : Instr.wf (.registerWrite 0 0x1000 0 15) = true ∧ Instr.wf (.nop 0 { opc := 1 }) = true ∧
    Instr.wf (.cellOrder 0 { opc := 8 }) = true := by decide

theorem test_wf_address : Instr.wf (.registerWrite 0 0x1002 0 15) = false ∧ Instr.wf (.loReadCapture 0 0x10000) = false := by decide

theorem test_wf_opcode : Instr.wf (.nop 0 { opc := 2 }) = false ∧ Instr.wf (.statsRead 0 { opc := 14 }) = false ∧
    Instr.wf (.tableRead 0 { opc := 2 }) = false := by decide

theorem test_wf_payload : Instr.wf (.tableLoad 0 { opc := 2, len := 8 } (some [0])) = false ∧
    Instr.wf (.meridianSend 0 { opc := 12, len := 2 } (some [0])) = false ∧
    Instr.wf (.payloadReadComplete 0 { opc := 2, len := 8 } [0]) = false := by decide

theorem test_wf_event : Instr.wf (.eventArrival 0 { stamp := 0, num := 256, inst := 0 }) = false ∧
    Instr.wf (.eventArrival 0 { stamp := 0, num := 1, inst := 0, late := true }) = false := by decide

theorem test_wf_slot : Instr.wf (.meridianSlotReceived 0 [0] 0 0) = false := by decide

theorem test_wf_fit : Instr.wf (.calComplete 0 0 { cal := [], sums := [] }) = false := by decide

theorem test_wf_returned : Instr.wf (.returnedFrame 0 0 { fn := 0, base := 0, crcOk := true, slots := List.replicate 33 0, latency := 0 }) = false := by
  decide

theorem test_wf_upsets : Instr.wf (.tableIntegrityCheck 0 [⟨13, false, 0, 0⟩]) = false ∧ Instr.wf (.paramCheck 0 [⟨1, false, 4096, 0⟩]) = false ∧
    Instr.wf (.selftest 0 { opc := 13 } [⟨0, true, 0, 0⟩]) = false := by decide

theorem test_wf_reads : Instr.wf (.descriptorReadComplete 0 (List.replicate 5 { opc := 1 })) = false ∧ Instr.wf (.completionTimeout 0 (.descr 0) 3) = false ∧
    Instr.wf (.completionTimeout 0 (.payload { opc := 2, len := 128 } 1) 0) = false := by decide

/-- The table gives no row any bits. -/
theorem test_no_word_spells_a_command : decodeTableWord 32 0xFFFFFFFF = none := rfl

/-! The spec's own examples -/

/-- The example after spec/03 R113: NUM 2 with inputs 13, 14, 15. -/
theorem test_slot_inputs : slotInput 0x84000FED 1000000 = 14 ∧ slotInput 0x84000FED 1000001 = 15 ∧ slotInput 0x84000FED 1000002 = 13 := by decide

/-- The example after spec/04 R171: frame 5 000 000 with Δ = 3 500 ns. -/
theorem test_act_base : State.reset.actBase 5000000 = 5000004444 := by decide +kernel

/-- The example at the end of spec/04: the seven header bytes of frame 5 000 000 on loop 2. -/
theorem test_frame_header : (frameBytes ⟨2, 5000000, 5000000 % 65536, frameBase 5000004444 2, false, [0x90AF], [0], false, false, 0, 0⟩).take 7 =
    [0x40, 0x4B, 0x5E, 0x03, 0x06, 0x2A, 0x01] := by decide +kernel

/-- The example of spec/05 R247: the first dip ends at 10.0000 s in CONTINUOUS; had it lasted, band 1 would be PERMISSIVE then, and TRIP at
21.0000 s. -/
def dipTable : State :=
  let band := fun (lo hi r a d : Nat) => leBytes 2 lo ++ leBytes 2 hi ++ leBytes 1 r ++ leBytes 1 a ++ leBytes 2 0 ++ leBytes 4 d ++ leBytes 4 0
  let s := State.reset.writeTable tid.contourV 0 [0, 4, 2, 0]
  let s := s.writeTable tid.contourV 0x20 (band 0 5000 3 4 10000 ++ band 5000 7000 1 2 100000 ++ band 7000 8800 1 2 200000 ++
    band 8800 11000 0 0 0xFFFFFFFF)
  s.writeTable tid.contourV 0x120 (leBytes 2 8800 ++ leBytes 2 0 ++ leBytes 4 210000 ++ leBytes 8 0 ++ leBytes 2 5000 ++ leBytes 2 0 ++ leBytes 4 20000)

theorem test_dip : ∃ c : Contour, dipTable.contourStep tid.contourV 6200 6200 0 {} = c ∧ c.region = region.mandatory ∧ c.dist = some 0 ∧
    (dipTable.contourStep tid.contourV 6200 6200 99999 c).region = region.mandatory ∧
    dipTable.contourStep tid.contourV 9700 9700 100000 c = {} ∧
    (dipTable.contourStep tid.contourV 6200 6200 100000 c).region = region.permissive ∧
    (dipTable.contourStep tid.contourV 6200 6200 210000 c).region = region.trip := ⟨_, rfl, by decide +kernel⟩

/-- The example of spec/06 R288: 840 changes of 42 cells in 20 ms take B from 1 000 mA to 1 125 mA, 760 more to 1 266 mA. -/
def bandState (granted band : Nat) : State :=
  { (given ((List.range 42).map (fun c => (F.CAST_CELL_STATE c, cs.active)) ++
      [(F.CUR_BAND_CFG_F_TARGET, 400), (F.CUR_BAND_CFG_WIN, 20), (F.CUR_BAND_LIM_B_MIN, 100), (F.CUR_BAND_LIM_B_MAX, 5000),
        (F.CUR_CTRL_ADAPT_EN, 1), (F.CUR_BAND_BAND 1, band)])).setEng 1 { granted := granted } with
    tables := [(tid.roster, { work := (List.range 42).flatMap fun c => [(32 * c + 2, 1), (32 * c + 3, 1)] })] }

theorem test_band : (State.bandPhase false 1 (bandState 840 1000)).get (F.CUR_BAND_BAND 1) = 1125 ∧
    (State.bandPhase false 1 (bandState 760 1125)).get (F.CUR_BAND_BAND 1) = 1266 := by decide +kernel

/-- The example of spec/08 R357: 60 kW taken from cells of 90, 80, 60 and 30 kW. -/
theorem test_curtail : curtail false [(1, 90), (2, 80), (3, 60), (4, 30)] 60 = [(1, 900 / 13), (2, 800 / 13), (3, 600 / 13), (4, 300 / 13)] ∧
    curtail true [(1, 90), (2, 80), (3, 60), (4, 30)] 60 = [(1, 170 / 3), (2, 170 / 3), (3, 170 / 3), (4, 30)] := by decide +kernel

/-- The example of spec/11 R480: a request of 150 ns is suppressed and carried, and the second is emitted as 100 ns. -/
def carryState : State :=
  { given [(F.GUARD_CFG_DEAD, 100), (F.GUARD_CFG_MIN_PULSE, 50)] with guard := { raised := true, switches := [(1, { lit := true, to_ := 40000 })] } }

theorem test_carry :
    let a := carryState.judgePulse ⟨40000, 40150, 80000⟩ true 0 (40000, 40150)
    let b := { carryState with guard := { carryState.guard with switches := [(0, { carry := 150, suppressed := true }), (1, { lit := true, to_ := 40000 })] } }
    (a.sw 0).carry = 150 ∧ (a.sw 0).wait = none ∧
      ((b.judgePulse ⟨40000, 40150, 80000⟩ true 0 (40000, 40150)).sw 0).wait = some (40200, 40300) := by decide +kernel

/-- The example of spec/12 R511: 833.33 us, an overlap of 10 degrees, periods of 50 us. -/
theorem test_overlap : ((State.reset.writeTable tid.pumpCurve 3 [10]).setChan 0 { period := 25000 }).overlapPeriods 833330 = 3 := by decide +kernel

/-- The example of spec/14 R594: two inputs within the window, and a second that comes as the window ends (ALL, PARAM 500 us). -/
theorem test_sink_all : sinkStep 1 500 [0, 1] 420000 [1] { window := some 0, seen := [0] } = ({}, true) ∧
    sinkStep 1 500 [0, 1] 0 [0] {} = ({ window := some 0, seen := [0] }, false) ∧
    (State.sinkClose 2 500000 ((given [(F.EVENT_SINK_CFG_PARAM 2, 500)]).setSink 2 { window := some 0, seen := [0] })).sink 2 = {} := by decide +kernel

/-- The example of spec/18: three ranges of STATS_READ. -/
theorem test_stats_ranges : oneBlock 0x3480 0x2C = true ∧ oneBlock 0x3780 64 = true ∧ oneBlock 0x37F0 32 = false := by decide +kernel

/-- The refusal of the third range of that example: TARGET_RANGE with DETAIL 0x11. -/
theorem test_stats_refused :
    let d : Desc := { opc := 15, tag := 5, len := 32, p0 := 0x37F0 }
    (match Machine.exec (.statsRead 0 d) { given [(F.HOST_RING_CFG_EN 1, 1)] with host := { dispatched := [d] } } with
      | .next s => s.host.staged.map fun e => (e.ring, e.body.take 8)
      | _ => []) = [(1, [5, 0, 3, 0, 0x11, 0, 0, 0])] := by decide +kernel

end Sys2Proof.Tests
end

/-! PROOFS. The roster after a reset: a reset that clears the tables leaves no written table byte (R624), and the roster then
describes a converter with no cells (R37). -/

namespace Sys2Proof.Machine

namespace State

variable (s : State)

/-! The roster that no load has written -/

/-- Every entry of the roster is as R37 says: a converter with no cells. -/
def RosterCleared : Prop := ∀ k < 128, ∀ o < 32,
  s.ros8 k o = if o = 0 then k else if o = 2 then 3 else if o = 4 then 0xFF else 0

/-- A table of which no byte is written reads as after a reset. -/
theorem tbl8_of_tables_nil {s : State} (h : s.tables = []) (id off : Nat) : s.tbl8 id off = (tableReset id off).toNat := by
  simp [State.tbl8, State.tableMem, h, Sparse.get_nil]

/-- Byte `o` of entry `k` of the roster after a reset. -/
theorem tableReset_roster {k o : Nat} (hk : k < 128) (ho : o < 32) : (tableReset tid.roster (32 * k + o)).toNat =
    if o = 0 then k else if o = 2 then 3 else if o = 4 then 0xFF else 0 := by
  have entry : (32 * k + o) / 32 = k := by omega
  have item : (32 * k + o) % 32 = o := by omega
  simp only [tableReset, entry, item, if_true]
  split_ifs
  · exact (BitVec.toNat_ofNat ..).trans (Nat.mod_eq_of_lt (by omega))
  all_goals rfl

theorem rosterCleared_of_tables_nil {s : State} (h : s.tables = []) : s.RosterCleared := fun k hk o ho => by
  rw [State.ros8, tbl8_of_tables_nil h, tableReset_roster hk ho]

/-! What a reset does around the tables -/

/-- What an effect keeps, the effect taken on a condition keeps. -/
theorem when_keeps {α : Type} (part : State → α) {f : State → State} (c : Bool) (h : part (f s) = part s) :
    part (s.when c f) = part s := by
  cases c with
  | false => rw [when_false]
  | true => rw [when_true, h]

theorem tables_each {α : Type} {f : α → State → State} (h : ∀ a x, (f a x).tables = x.tables) (l : List α) :
    (s.each l f).tables = s.tables := by
  induction l generalizing s with
  | nil => rfl
  | cons a l ih => exact (ih (f a s)).trans (h a s)

theorem tables_keepFields (old : State) (l : List FieldRef) : (l.foldl old.keepField s).tables = s.tables := by
  induction l generalizing s with
  | nil => rfl
  | cons f l ih => exact (ih (old.keepField s f)).trans (s.tables_set f _)

@[simp] theorem tables_castFromRoster : s.castFromRoster.tables = s.tables := by
  unfold State.castFromRoster
  rw [tables_each]
  exact fun _ x => ((State.tables_set ..).trans (State.tables_set ..)).trans (x.tables_setReg ..)

@[simp] theorem tables_keepGap (old : State) : (old.keepGap s).tables = s.tables := s.tables_setBit ..

@[simp] theorem tables_curtReset : s.curtReset.tables = s.tables := rfl

@[simp] theorem tables_railsLow (rails : BitVec 5) : (s.railsLow rails).tables = s.tables :=
  s.when_keeps State.tables _ (by simp)

/-! The resets -/

/-- A reset that reaches the blocks clears the table memories, but for SOFT (R624). -/
theorem tables_resetBlocks {k : Nat} (soft : k ≠ 5) : (s.resetBlocks k).tables = [] := by
  rw [State.resetBlocks, tables_castFromRoster, tables_curtReset, tables_keepGap, tables_keepFields]
  simp [soft]

/-- Every kind of reset but SOFT and PERST clears the table memories (R624). -/
theorem tables_assertReset {k : Nat} (soft : k ≠ 5) (perst : k ≠ 6) (refresh : Bool) :
    (s.assertReset k refresh).tables = [] := by
  unfold State.assertReset
  dsimp only
  rw [tables_set, tables_set, tables_setBit, tables_mapPower, if_neg perst, tables_resetBlocks _ soft]

/-- A reset that its condition does not hold already is asserted. -/
theorem holdReset_of_not_mem {k : Nat} (h : k ∉ s.power.holds) (refresh : Bool) :
    s.holdReset k refresh = (s.assertReset k refresh).mapPower fun p => { p with holds := k :: p.holds } := by
  simp [State.holdReset, h]

theorem tables_holdReset {k : Nat} (soft : k ≠ 5) (perst : k ≠ 6) (h : k ∉ s.power.holds) (refresh : Bool) :
    (s.holdReset k refresh).tables = [] := by
  rw [holdReset_of_not_mem s h, tables_mapPower, tables_assertReset s soft perst]

/-- Empty table memories are in canonical form. -/
theorem tables_settle_nil {a x : State} (h : x.tables = []) : (s.settle a x).tables = [] := by
  by_cases unchanged : x.tables = s.tables
  · rw [tables_settle s a x unchanged, ← unchanged, h]
  · simp [State.settle, h, canonTables, Sparse.canon]

end State

/-- A command whose effect leaves the table memories empty completes with a roster of no cells. -/
theorem completes_rosterCleared {c : Instr} {s : State} {t : Nat} {f : State → State} (act : exec c s = s.run t f)
    (h : (f (s.advance t)).tables = []) : Completes c s State.RosterCleared :=
  completes_run act (State.rosterCleared_of_tables_nil (s.tables_settle_nil h))

/-! The commands -/

theorem por_rosterCleared (t : Nat) (rails : BitVec 5) (s : State) : Completes (.por t rails) s State.RosterCleared :=
  completes_rosterCleared (exec_por t rails s) <| by
    rw [State.tables_railsLow, State.tables_set, State.tables_mapPower, State.tables_assertReset _ (by decide) (by decide)]

theorem brown_rosterCleared (t : Nat) {rails : BitVec 5} (low : rails ≠ 31) (s : State) :
    Completes (.brown t rails) s State.RosterCleared := by
  refine completes_rosterCleared (exec_brown t rails s) ?_
  rw [if_neg low, State.tables_railsLow, State.tables_set]
  exact State.tables_assertReset _ (by split <;> decide) (by split <;> decide) _

theorem pinReset_rosterCleared (t : Nat) (s : State) : Completes (.pinReset t) s State.RosterCleared :=
  completes_rosterCleared (exec_pinReset t s) (State.tables_assertReset _ (by decide) (by decide) _)

theorem testReset_rosterCleared (t : Nat) {s : State} (h : 7 ∉ s.power.holds) :
    Completes (.testReset t) s State.RosterCleared :=
  completes_rosterCleared (exec_testReset t s) ((s.advance t).tables_holdReset (by decide) (by decide) h _)

theorem crystalWindow_rosterCleared (t : Nat) {n : Nat} (out : n < 2250 ∨ 2750 < n) {s : State} (h : 3 ∉ s.power.holds) :
    Completes (.crystalWindow t n) s State.RosterCleared := by
  refine completes_rosterCleared (exec_crystalWindow t n s) ?_
  have bad : ¬(decide (2250 ≤ n) && decide (n ≤ 2750)) = true := by
    simp only [Bool.and_eq_true, decide_eq_true_eq]
    omega
  rw [if_neg bad, State.tables_mapPower]
  exact (s.advance t).tables_holdReset (by decide) (by decide) h _

/-- A mean of the measurements above 140.0 degrees, without the division. -/
theorem lt_sum_of_lt_mean {l : List Int} (h : (1400 : Rat) < (l.sum : Rat) / l.length) : 1400 * (l.length : Int) < l.sum := by
  have pos : (0 : Rat) < l.length := by
    rcases l.length.eq_zero_or_pos with zero | pos
    · norm_num [zero] at h
    · exact_mod_cast pos
  have scaled := (lt_div_iff₀ pos).1 h
  exact_mod_cast scaled

theorem temperatureMeasurement_rosterCleared (t : Nat) {temp : Int} {s : State} (h : 4 ∉ s.power.holds)
    (hot : 1400 < (((temp :: s.power.temps).take 8).sum : Rat) / ((temp :: s.power.temps).take 8).length) :
    Completes (.temperatureMeasurement t temp) s State.RosterCleared := by
  refine completes_rosterCleared (exec_temperatureMeasurement t temp s) ?_
  extract_lets l n sum mean top s1 s2 s3
  have hotter : 1400 * n < sum := lt_sum_of_lt_mean hot
  rw [if_pos hotter]
  have kept : s1.power = s.power := by
    refine (State.when_keeps _ State.power _ ?_).trans (State.power_setSat ..)
    exact State.power_setSat ..
  clear_value s1
  have free : 4 ∉ s2.power.holds := by rw [State.power_mapPower, kept]; exact h
  clear_value s2
  have unreleased : s3 = s2 := by simp [s3, free, State.when_false]
  exact s3.tables_holdReset (by decide) (by decide) (unreleased ▸ free) true

/-- Settles O54: each of these resets leaves the table memories empty, and an empty roster reads as R37 says. -/
theorem rosterAfterReset : Obligations.RosterAfterReset :=
  ⟨State.rosterCleared_of_tables_nil rfl,
   fun s t rails => ⟨por_rosterCleared t rails s, fun low => brown_rosterCleared t low s⟩,
   fun s t => ⟨pinReset_rosterCleared t s, testReset_rosterCleared t⟩,
   fun _ t _ out => crystalWindow_rosterCleared t out,
   fun _ t _ => temperatureMeasurement_rosterCleared t⟩

end Sys2Proof.Machine

/-! PROOFS. A write of DATUM_MER_CTRL (R104): what the operations of datum time keep, a change of the discipline (R54), and the write taken
and refused. -/

namespace Sys2Proof.Machine

/-! What the state's operations keep -/

section Keeps

variable {regs : List Nat} {parts : List Part} (s : State)

/-- An update that leaves every register and every part but the excepted ones where they are. -/
theorem kept_when {f : State → State} (c : Bool) (h : Kept regs parts s (f s)) : Kept regs parts s (s.when c f) := by
  cases c with
  | false => exact kept_refl ..
  | true => exact h

theorem kept_each {α : Type} {f : α → State → State} (h : ∀ a x, Kept regs parts x (f a x)) (l : List α) :
    Kept regs parts s (s.each l f) := by
  induction l generalizing s with
  | nil => exact kept_refl ..
  | cons a l ih => exact kept_trans (h a s) (ih (f a s))

theorem kept_set {f : FieldRef} (h : f.addr ∈ regs) (v : Nat) : Kept regs parts s (s.set f v) :=
  ⟨fun _ hr => s.reg_set_ne fun e => hr (e ▸ h), fun p _ => by cases p <;> simp [Part.same]⟩

theorem kept_setBit {f : FieldRef} (h : f.addr ∈ regs) (b : Bool) : Kept regs parts s (s.setBit f b) :=
  ⟨fun _ hr => (s.noteSet b f.addr (2 ^ f.lo)).reg_set_ne fun e => hr (e ▸ h),
   fun p _ => by cases p <;> simp [Part.same]⟩

theorem kept_router (h : .router ∈ parts) (x : Router) : Kept regs parts s { s with router := x } :=
  ⟨fun _ _ => rfl, fun p hp => by
    cases p with
    | router => exact absurd h hp
    | _ => simp [Part.same]⟩

theorem kept_disc (h : .disc ∈ parts) (x : Disc) : Kept regs parts s { s with disc := x } :=
  ⟨fun _ _ => rfl, fun p hp => by
    cases p with
    | disc => exact absurd h hp
    | _ => simp [Part.same]⟩

theorem kept_mer (h : .mer ∈ parts) (x : Meridian) : Kept regs parts s { s with mer := x } :=
  ⟨fun _ _ => rfl, fun p hp => by
    cases p with
    | mer => exact absurd h hp
    | _ => simp [Part.same]⟩

/-- An event of no fault class changes nothing but what is on its way to the router. -/
theorem kept_raise (h : .router ∈ parts) {num inst : Nat} (unclassed : faultClass num inst = none) :
    Kept regs parts s (s.raise num inst) := by
  have silent : s.noteFault num inst = s := by rw [State.noteFault, unclassed]
  rw [State.raise, State.raiseAt, silent]
  exact kept_router s h _

theorem kept_setDomainOk (h : Reg.DATUM_STATUS ∈ regs) : Kept regs parts s s.setDomainOk := kept_setBit s h _

theorem kept_ppsQualify (h : .router ∈ parts) : Kept regs parts s s.ppsQualify := by
  unfold State.ppsQualify
  split
  · refine kept_each s (fun n x => ?_) _
    split
    · exact kept_router x h _
    · exact kept_router x h _
  · exact kept_refl ..

end Keeps

/-- A field of a register that is kept reads as before. -/
theorem get_of_kept {regs : List Nat} {parts : List Part} {a b : State} (h : Kept regs parts a b) {f : FieldRef} (hf : f.addr ∉ regs) :
    b.get f = a.get f := by
  rw [State.get, State.get, h.1 _ hf]

namespace State

variable (s : State)

/-! The discipline -/

theorem discState_setDomainOk : s.setDomainOk.discState = s.discState :=
  State.get_set_disjoint _ (by decide) (by decide)

theorem discState_ppsQualify : s.ppsQualify.discState = s.discState :=
  get_of_kept (regs := []) (kept_ppsQualify s (List.mem_singleton_self _)) List.not_mem_nil

/-- A change of the discipline state reaches DATUM_STATUS, the discipline and the router alone. -/
theorem kept_setDisc (v : Nat) {regs : List Nat} {parts : List Part} (status : Reg.DATUM_STATUS ∈ regs)
    (disc : .disc ∈ parts) (router : .router ∈ parts) : Kept regs parts s (s.setDisc v) := by
  unfold State.setDisc
  extract_lets old s1 d s2 s3
  split
  · exact kept_refl ..
  · have raised : Kept regs parts s s1 := kept_trans (kept_set s status v) (kept_raise _ router rfl)
    have timed : Kept regs parts s1 s2 := kept_disc s1 disc _
    have origin : Kept regs parts s2 s3 :=
      kept_trans (kept_when s2 _ (kept_set s2 status _)) (kept_setDomainOk _ status)
    exact kept_trans (kept_trans (kept_trans raised timed) origin) (kept_ppsQualify s3 router)

/-- The discipline is in the state that it is brought to. -/
theorem discState_setDisc {v : Nat} (h : v < 4) : (s.setDisc v).discState = v := by
  unfold State.setDisc
  extract_lets old s1 d s2 s3
  split
  · assumption
  · have entered : s2.discState = v :=
      calc s2.discState = (s.set F.DATUM_STATUS_DISC v).discState := State.get_raise _ _ _ (by decide)
        _ = v % 4 := s.get_set_same (by decide)
        _ = v := Nat.mod_eq_of_lt h
    have origin : (s2.when (v == 2) fun s => s.set F.DATUM_STATUS_ORIGIN (if s.follower then 4 else 3)).discState = s2.discState :=
      s2.when_keeps State.discState _ (s2.get_set_disjoint (by decide) (by decide))
    rw [discState_ppsQualify, discState_setDomainOk, origin, entered]

/-! A write of DATUM_MER_CTRL -/

/-- The fields of DATUM_MER_CTRL as a write stores them. -/
def storeMerCtrl (data : Word) (s : State) : State :=
  ((s.set F.DATUM_MER_CTRL_ROLE (bitsOf data.toNat 1 1)).set F.DATUM_MER_CTRL_ADDR (bitsOf data.toNat 16 16)).set
    F.DATUM_MER_CTRL_ENABLE (bitsOf data.toNat 0 1)

/-- What a change of ROLE, where there is one, makes of the link and of the discipline (R54, R86); DOMAIN_OK follows (R85). -/
def takeRole (changed : Bool) (s : State) : State :=
  ((s.when changed fun s => { s with mer := { s.mer with announceDue := false, signatureDue := false } }).when changed fun s =>
    (s.setLockCount 0).setDisc 0).setDomainOk

theorem get_role_storeMerCtrl (data : Word) : (s.storeMerCtrl data).get F.DATUM_MER_CTRL_ROLE = bitsOf data.toNat 1 1 := by
  rw [storeMerCtrl, get_set_disjoint _ (by decide) (by decide), get_set_disjoint _ (by decide) (by decide),
    get_set_same _ (by decide)]
  exact Nat.mod_eq_of_lt (bitsOf_lt ..)

theorem get_addr_storeMerCtrl (data : Word) : (s.storeMerCtrl data).get F.DATUM_MER_CTRL_ADDR = bitsOf data.toNat 16 16 := by
  rw [storeMerCtrl, get_set_disjoint _ (by decide) (by decide), get_set_same _ (by decide)]
  exact Nat.mod_eq_of_lt (bitsOf_lt ..)

theorem get_enable_storeMerCtrl (data : Word) : (s.storeMerCtrl data).get F.DATUM_MER_CTRL_ENABLE = bitsOf data.toNat 0 1 := by
  rw [storeMerCtrl, get_set_same _ (by decide)]
  exact Nat.mod_eq_of_lt (bitsOf_lt ..)

theorem kept_storeMerCtrl (data : Word) {regs : List Nat} {parts : List Part} (h : Reg.DATUM_MER_CTRL ∈ regs) :
    Kept regs parts s (s.storeMerCtrl data) :=
  kept_trans (kept_trans (kept_set s h _) (kept_set _ h _)) (kept_set _ h _)

theorem kept_takeRole (changed : Bool) {regs : List Nat} {parts : List Part} (status : Reg.DATUM_STATUS ∈ regs)
    (disc : .disc ∈ parts) (router : .router ∈ parts) (mer : .mer ∈ parts) : Kept regs parts s (s.takeRole changed) := by
  have free (x : State) : Kept regs parts x ((x.setLockCount 0).setDisc 0) :=
    kept_trans (kept_disc x disc _) (kept_setDisc _ 0 status disc router)
  exact kept_trans (kept_trans (kept_when s _ (kept_mer s mer _)) (kept_when _ _ (free _))) (kept_setDomainOk _ status)

/-- A change of ROLE takes the discipline to FREE. -/
theorem discState_takeRole : (s.takeRole true).discState = 0 := by
  rw [takeRole, discState_setDomainOk]
  exact discState_setDisc _ (by decide)

/-- With the curtain LOWERED or LOCKED the write is taken. -/
theorem writeMerCtrl_of_curtainDown (data : Word) {s : State} (down : s.curtainDown = true) :
    s.writeMerCtrl data =
      ((s.storeMerCtrl data).when (bitsOf data.toNat 1 1 == 0) fun x =>
        x.set F.DATUM_MER_STATUS_GM_ADDR (bitsOf data.toNat 16 16)).takeRole
          (bitsOf data.toNat 1 1 ≠ s.get F.DATUM_MER_CTRL_ROLE) := by
  unfold State.writeMerCtrl
  extract_lets role addr changed s1 s2 s3 s4 s5
  rw [if_neg (by simp [down])]
  rfl

/-- With the curtain in another state a write that changes ROLE or ADDR is refused. -/
theorem writeMerCtrl_of_curtainUp {data : Word} {s : State} (up : s.curtainDown = false)
    (changes : bitsOf data.toNat 1 1 ≠ s.get F.DATUM_MER_CTRL_ROLE ∨ bitsOf data.toNat 16 16 ≠ s.get F.DATUM_MER_CTRL_ADDR) :
    s.writeMerCtrl data = s.setBit F.DATUM_STATUS_CFG_REJECT true := by
  unfold State.writeMerCtrl
  exact if_pos (by simpa [up] using changes)

/-- What follows a write that is taken leaves DATUM_MER_CTRL as the write stored it. -/
theorem kept_stored_writeMerCtrl (data : Word) {s : State} (down : s.curtainDown = true) :
    Kept [Reg.DATUM_MER_STATUS, Reg.DATUM_STATUS] [.disc, .router, .mer] (s.storeMerCtrl data) (s.writeMerCtrl data) := by
  rw [writeMerCtrl_of_curtainDown data down]
  exact kept_trans (kept_when _ _ (kept_set _ (by decide) _))
    (kept_takeRole _ _ (by decide) (by decide) (by decide) (by decide))

theorem kept_writeMerCtrl (data : Word) {s : State} (down : s.curtainDown = true) :
    Kept [Reg.DATUM_MER_CTRL, Reg.DATUM_MER_STATUS, Reg.DATUM_STATUS] [.disc, .router, .mer] s (s.writeMerCtrl data) :=
  kept_trans (s.kept_storeMerCtrl data (by decide))
    (kept_mono (List.subset_cons_self ..) (List.Subset.refl _) (kept_stored_writeMerCtrl data down))

theorem discState_writeMerCtrl {data : Word} {s : State} (down : s.curtainDown = true)
    (changes : bitsOf data.toNat 1 1 ≠ s.get F.DATUM_MER_CTRL_ROLE) : (s.writeMerCtrl data).discState = 0 := by
  rw [writeMerCtrl_of_curtainDown data down, decide_eq_true changes]
  exact discState_takeRole _

/-- Outside tableau a write takes effect at once. -/
theorem bar0_of_not_tableau {s : State} (h : s.tableau = false) (addr : Nat) (data : Word) (f : State → State) :
    s.bar0 addr data f = f s := by
  rw [State.bar0, h]
  rfl

end State

/-- Outside tableau ROLE_CHANGE completes with what holds once DATUM_MER_CTRL is written. -/
theorem completes_roleChange {s : State} {t : Nat} {data : Word} {P : State → Prop} (live : (s.advance t).tableau = false)
    (h : P (s.settle (s.advance t) ((s.advance t).writeMerCtrl data))) : Completes (.roleChange t data) s P :=
  completes_run (exec_roleChange t data s) <| by rwa [State.bar0_of_not_tableau live]

/-- Settles O4: a write taken stores its fields, and what follows it leaves them (R104); one that is refused sets CFG_REJECT alone. -/
theorem roleChangeNeedsTheCurtainDown : Obligations.RoleChangeNeedsTheCurtainDown := by
  refine ⟨?taken, ?refused⟩
  case taken =>
    intro s t data a live down
    refine completes_roleChange live ?_
    have stored := State.kept_stored_writeMerCtrl data down
    have kept := State.kept_writeMerCtrl data down
    refine ⟨?role, ?addr, ?enable, ?trim, fun changes => ?disc, kept_settle kept⟩
    case role => rw [State.get_settle, get_of_kept stored (by decide), State.get_role_storeMerCtrl]
    case addr => rw [State.get_settle, get_of_kept stored (by decide), State.get_addr_storeMerCtrl]
    case enable => rw [State.get_settle, get_of_kept stored (by decide), State.get_enable_storeMerCtrl]
    case trim => rw [State.reg_settle, kept.1 _ (by decide)]
    case disc => exact (State.get_settle ..).trans (State.discState_writeMerCtrl down changes)
  case refused =>
    intro s t data a live up changes
    refine completes_roleChange live ?_
    rw [State.writeMerCtrl_of_curtainUp up changes]
    have kept : Kept [Reg.DATUM_STATUS] [] a (a.setBit F.DATUM_STATUS_CFG_REJECT true) := kept_setBit a (by decide) true
    refine ⟨?rejected, ?unwritten, kept_settle kept⟩
    case rejected => exact (State.bit_settle ..).trans (State.bit_setBit_same _ (by decide) rfl)
    case unwritten => exact (State.reg_settle ..).trans (kept.1 _ (by decide))

end Sys2Proof.Machine

/-! PROOFS. The queue, the passing of time and the canonical form: what every command and every step keeps. -/

namespace Sys2Proof.Machine

namespace Sparse

variable {α : Type} [DecidableEq α]

theorem mem_of_mem_set {d : Nat → α} {m : SMap α} {k : Nat} {v : α} {e : Nat × α} (h : e ∈ Sparse.set d m k v) :
    e = (k, v) ∨ e ∈ m := by
  unfold Sparse.set at h
  split at h
  · exact .inr (List.mem_filter.1 h).1
  · exact Sparse.mem_insert h

/-- What is rebuilt lists no entry that was not there. -/
theorem mem_of_mem_canon {d : Nat → α} {m : SMap α} {e : Nat × α} (h : e ∈ Sparse.canon d m) : e ∈ m := by
  induction m with
  | nil => exact h
  | cons x m ih =>
    rcases mem_of_mem_set h with rfl | h
    · exact List.mem_cons_self ..
    · exact List.mem_cons_of_mem _ (ih h)

end Sparse

theorem TableMem.wf_canon (id : Nat) (m : TableMem) : (m.canon id).wf id = true := by
  simp [TableMem.wf, TableMem.canon, Sparse.wf_canon]

/-- Every table memory that is rebuilt is canonical. -/
theorem all_wf_canonTables (m : SMap TableMem) : (canonTables m).all (fun e => e.2.wf e.1) = true := by
  refine List.all_eq_true.2 fun e he => ?_
  obtain ⟨x, -, rfl⟩ := List.mem_map.1 (Sparse.mem_of_mem_canon he)
  exact TableMem.wf_canon ..

namespace State

variable (s : State)

theorem inv_iff : s.Inv = true ↔ Sparse.wf resetVal s.regs = true ∧ Sparse.wf (fun _ => (0 : Nat)) s.latched = true ∧
    Sparse.wf (fun _ => ({} : TableMem)) s.tables = true ∧ s.tables.all (fun e => e.2.wf e.1) = true := by
  simp [State.Inv, and_assoc]

/-- What a command leaves is canonical, where the state it came upon was. -/
theorem inv_settle (a x : State) (h : s.Inv = true) : (s.settle a x).Inv = true := by
  obtain ⟨-, -, tables, each⟩ := (inv_iff s).1 h
  obtain ⟨regs, latched⟩ := s.wf_settle a x
  refine (inv_iff _).2 ⟨regs, latched, ?_⟩
  change Sparse.wf _ (if x.tables = s.tables then s.tables else canonTables x.tables) = true ∧
    (if x.tables = s.tables then s.tables else canonTables x.tables).all _ = true
  split
  · exact ⟨tables, each⟩
  · exact ⟨Sparse.wf_canon .., all_wf_canonTables _⟩

/-- Time passes in whole STAGE ticks of 2 ns. -/
theorem timeAt_even (t : Nat) : s.timeAt t % 2 = 0 := by
  unfold State.timeAt
  split <;> omega

theorem advance_elapsed_even {s : State} (h : s.elapsed % 2 = 0) (t : Nat) : (s.advance t).elapsed % 2 = 0 := by
  have tick := s.timeAt_even t
  rw [advance_elapsed]
  omega

end State

/-- Every command answers a next state: the queue is kept, the canonical form too, and time passes in STAGE ticks. -/
theorem exec_keeps (c : Instr) (s : State) : ∃ s', exec c s = .next s' ∧ (s.Inv = true → s'.Inv = true) ∧
    s'.pending = s.pending ∧ s.elapsed ≤ s'.elapsed ∧ (s.elapsed % 2 = 0 → s'.elapsed % 2 = 0) := by
  obtain ⟨t, f, h⟩ := exec_run c s
  exact ⟨_, h, s.inv_settle _ _, rfl, s.le_advance t, fun even => State.advance_elapsed_even even t⟩

/-- Settles O57: every command acts by State.run, which keeps the queue and lets time pass in STAGE ticks. -/
theorem everyCommandCompletes : Obligations.EveryCommandCompletes := by
  intro c s
  obtain ⟨s', next, -, kept⟩ := exec_keeps c s
  exact ⟨s', next, kept⟩

/-- Settles O58: the file lists one register, which does not hold its reset value, and nothing else. -/
theorem invariantAtReset : Obligations.InvariantAtReset := by
  unfold Obligations.InvariantAtReset
  decide +kernel

/-- Settles O56: the step is defined by the queue's front. -/
theorem stepRunsTheFrontCommand : Obligations.StepRunsTheFrontCommand := by
  refine ⟨fun c cs s => rfl, fun s idle => ?_⟩
  rw [step, idle]

/-- A step with a command waiting is that command's, the rest of the queue left. -/
theorem step_cons {s : State} {c : Instr} {cs : List Instr} (h : s.pending = c :: cs) :
    step s = exec c { s with pending := cs } := by
  rw [step, h]

/-- Every step answers a next state, with the queue less its first command and time not before. -/
theorem step_next (s : State) : ∃ s', step s = .next s' ∧ (s.Inv = true → s'.Inv = true) ∧ s'.pending = s.pending.tail ∧
    s.elapsed ≤ s'.elapsed ∧ (s.elapsed % 2 = 0 → s'.elapsed % 2 = 0) := by
  cases queue : s.pending with
  | nil => exact ⟨s, stepRunsTheFrontCommand.2 s queue, id, queue, le_refl _, id⟩
  | cons c cs =>
    obtain ⟨s', next, inv, served, time⟩ := exec_keeps c { s with pending := cs }
    exact ⟨s', (step_cons queue).trans next, inv, served, time⟩

/-- Settles O59: what a command leaves is rebuilt in canonical form, and an idle step changes nothing. -/
theorem invariantKeptByEveryStep : Obligations.InvariantKeptByEveryStep := by
  intro s inv
  obtain ⟨s', next, kept, rest⟩ := step_next s
  exact ⟨s', next, kept inv, rest⟩

/-- A run of `n` steps answers a next state; the queue is the initial one less its first `n` commands. -/
theorem run_next (n : Nat) (s : State) : ∃ s', (⟨State, Fault, Refusal, step, State.reset⟩ : Host.Core).run n s = .next s' ∧
    s'.pending = s.pending.drop n ∧ s.elapsed ≤ s'.elapsed := by
  induction n generalizing s with
  | zero => exact ⟨s, rfl, rfl, le_refl _⟩
  | succ n ih =>
    obtain ⟨s1, next, -, queue, later, -⟩ := step_next s
    obtain ⟨s2, run, queue2, later2⟩ := ih s1
    refine ⟨s2, ?_, ?_, later.trans later2⟩
    · simp only [Host.Core.run, next]
      exact run
    · rw [queue2, queue, ← List.drop_one, List.drop_drop, Nat.add_comm]

/-- Settles O60: by induction on the number of steps. -/
theorem queuesAreServedInOrder : Obligations.QueuesAreServedInOrder := by
  constructor
  · intro s n
    obtain ⟨s', run, -⟩ := run_next n s
    exact ⟨s', run⟩
  · intro s s' n run
    obtain ⟨s2, run2, served⟩ := run_next n s
    obtain rfl : s2 = s' := by injection run2.symm.trans run
    exact served

/-! Entries as the host sees them -/

@[simp] theorem length_leBytes (n x : Nat) : (leBytes n x).length = n := by
  induction n generalizing x with
  | zero => rfl
  | succ n ih => simp [leBytes, ih]

/-- Bytes read little-endian spell the number that was written, as far as they hold it. -/
theorem ofLe_leBytes (n x : Nat) : ofLe (leBytes n x) = x % 256 ^ n := by
  induction n generalizing x with
  | zero => simp [leBytes, ofLe, Nat.mod_one]
  | succ n ih =>
    rw [leBytes, ofLe, ih, BitVec.toNat_ofNat, pow_succ' 256 n, Nat.mod_mul]

theorem ofLe_leBytes_of_lt {n x : Nat} (h : x < 256 ^ n) : ofLe (leBytes n x) = x := by
  rw [ofLe_leBytes, Nat.mod_eq_of_lt h]

/-- The bytes of a list between those before it and those after it. -/
theorem extract_append_append {α : Type} {a b c : List α} {i j : Nat} (hi : i = a.length) (hj : j = a.length + b.length) :
    (a ++ (b ++ c)).extract i j = b := by
  subst hi hj
  simp [List.extract_eq_take_drop]

/-- The fields of a completion stand one after the other. -/
theorem completionBytes_eq (tag status detail done : Nat) : completionBytes tag status detail done =
    leBytes 2 tag ++ (leBytes 1 status ++ ([0] ++ (leBytes 4 detail ++ leBytes 8 done))) := by
  simp [completionBytes, List.append_assoc]

theorem completion_fields {tag status detail done : Nat} (ht : tag < 2 ^ 16) (hs : status < 2 ^ 8) (hd : detail < 2 ^ 32)
    (ho : done < 2 ^ 64) : let l := completionBytes tag status detail done
    l.length = 16 ∧ ofLe (l.take 2) = tag ∧ ofLe (l.extract 2 3) = status ∧ ofLe (l.extract 3 4) = 0 ∧
    ofLe (l.extract 4 8) = detail ∧ ofLe (l.drop 8) = done := by
  intro l
  have parts : l = _ := completionBytes_eq tag status detail done
  refine ⟨by simp [parts], ?tag, ?status, ?phase, ?detail, ?done⟩
  case tag => rw [parts, List.take_left' (by simp), ofLe_leBytes_of_lt ht]
  case status => rw [parts, extract_append_append (by simp) (by simp), ofLe_leBytes_of_lt hs]
  case phase =>
    rw [parts, ← List.append_assoc, extract_append_append (by simp) (by simp)]
    rfl
  case detail =>
    rw [parts, ← List.append_assoc, ← List.append_assoc, extract_append_append (by simp) (by simp), ofLe_leBytes_of_lt hd]
  case done =>
    rw [parts, ← List.append_assoc, ← List.append_assoc, ← List.append_assoc, List.drop_left' (by simp), ofLe_leBytes_of_lt ho]

/-- FLAGS of an event record (R578). -/
def recordFlags (e : Event) (dropped : Nat) : Nat :=
  (if e.late then 1 else 0) + (if dropped ≠ 0 then 2 else 0) + (if e.held then 4 else 0)

theorem recordFlags_lt (e : Event) (dropped : Nat) : recordFlags e dropped < 256 := by
  unfold recordFlags
  split_ifs <;> omega

/-- The fields of an event record stand one after the other. -/
theorem recordBytes_eq (e : Event) (seq dropped : Nat) : recordBytes e seq dropped =
    leBytes 8 e.stamp ++ (leBytes 1 e.num ++ (leBytes 1 (recordFlags e dropped) ++ (leBytes 2 e.inst ++ (leBytes 4 seq ++
      (leBytes 4 dropped ++ leBytes 12 0))))) := by
  simp [recordBytes, recordFlags, List.append_assoc]

theorem record_fields {e : Event} {seq dropped : Nat} (hx : e.stamp < 2 ^ 64) (hn : e.num < 2 ^ 8) (hi : e.inst < 2 ^ 16)
    (hq : seq < 2 ^ 32) (hd : dropped < 2 ^ 32) : let l := recordBytes e seq dropped
    l.length = 32 ∧ ofLe (l.take 8) = e.stamp ∧ ofLe (l.extract 8 9) = e.num ∧ ofLe (l.extract 9 10) = recordFlags e dropped ∧
    ofLe (l.extract 10 12) = e.inst ∧ ofLe (l.extract 12 16) = seq ∧ ofLe (l.extract 16 20) = dropped ∧ ofLe (l.drop 20) = 0 := by
  intro l
  have parts : l = _ := recordBytes_eq e seq dropped
  refine ⟨by simp [parts], ?stamp, ?num, ?flags, ?inst, ?seq, ?dropped, ?rest⟩
  case stamp => rw [parts, List.take_left' (by simp), ofLe_leBytes_of_lt hx]
  case num => rw [parts, extract_append_append (by simp) (by simp), ofLe_leBytes_of_lt hn]
  case flags =>
    rw [parts, ← List.append_assoc, extract_append_append (by simp) (by simp), ofLe_leBytes_of_lt (recordFlags_lt e dropped)]
  case inst =>
    rw [parts, ← List.append_assoc, ← List.append_assoc, extract_append_append (by simp) (by simp), ofLe_leBytes_of_lt hi]
  case seq =>
    rw [parts, ← List.append_assoc, ← List.append_assoc, ← List.append_assoc, extract_append_append (by simp) (by simp),
      ofLe_leBytes_of_lt hq]
  case dropped =>
    rw [parts, ← List.append_assoc, ← List.append_assoc, ← List.append_assoc, ← List.append_assoc,
      extract_append_append (by simp) (by simp), ofLe_leBytes_of_lt hd]
  case rest =>
    rw [parts, ← List.append_assoc, ← List.append_assoc, ← List.append_assoc, ← List.append_assoc, ← List.append_assoc,
      List.drop_left' (by simp), ofLe_leBytes_of_lt (by decide)]

/-- Settles O55: each field is as many bytes of its number as R550 and R578 give it, at its place. -/
theorem entriesAsTheHostSeesThem : Obligations.EntriesAsTheHostSeesThem :=
  ⟨fun _ _ _ _ => completion_fields, fun _ _ _ => record_fields⟩

end Sys2Proof.Machine

/-! PROOFS. What operations on the state keep, as chains: what is kept up to a state is kept over one operation more. And fields read after
such operations. -/

namespace Sys2Proof.Machine

namespace Kept

variable {regs : List Nat} {parts : List Part} {a b c : State}

theorem rfl : Kept regs parts a a := kept_refl ..

theorem trans (h : Kept regs parts a b) (h' : Kept regs parts b c) : Kept regs parts a c := kept_trans h h'

/-- A longer list of exceptions keeps less. -/
theorem mono {regs' : List Nat} {parts' : List Part} (h : Kept regs parts a b) (hr : regs ⊆ regs' := by decide)
    (hp : parts ⊆ parts' := by decide) : Kept regs' parts' a b := kept_mono hr hp h

/-! Registers -/

theorem set (h : Kept regs parts a b) {f : FieldRef} {v : Nat} (hf : f.addr ∈ regs := by decide) : Kept regs parts a (b.set f v) :=
  h.trans (kept_set b hf v)

theorem setBit (h : Kept regs parts a b) {f : FieldRef} {v : Bool} (hf : f.addr ∈ regs := by decide) :
    Kept regs parts a (b.setBit f v) := h.trans (kept_setBit b hf v)

theorem setIbit (h : Kept regs parts a b) {f : FieldRef} {i : Nat} {v : Bool} (hf : f.addr ∈ regs := by decide) :
    Kept regs parts a (b.setIbit f i v) :=
  h.trans ⟨fun _ hr => (b.noteSet v f.addr (2 ^ (f.lo + i))).reg_set_ne fun e => hr (e ▸ hf), fun p _ => by
    cases p <;> simp [Part.same]⟩

theorem setInt (h : Kept regs parts a b) {f : FieldRef} {v : Int} (hf : f.addr ∈ regs := by decide) :
    Kept regs parts a (b.setInt f v) := h.set hf

theorem setSat (h : Kept regs parts a b) {f : FieldRef} {v : Int} (hf : f.addr ∈ regs := by decide) :
    Kept regs parts a (b.setSat f v) := h.set hf

theorem setTop (h : Kept regs parts a b) {f : FieldRef} {v : Nat} (hf : f.addr ∈ regs := by decide) :
    Kept regs parts a (b.setTop f v) := h.set hf

theorem count (h : Kept regs parts a b) {f : FieldRef} {n : Nat} (hf : f.addr ∈ regs := by decide) :
    Kept regs parts a (b.count f n) := h.set hf

theorem countWrap (h : Kept regs parts a b) {f : FieldRef} (hf : f.addr ∈ regs := by decide) :
    Kept regs parts a (b.countWrap f) := h.set hf

theorem setReg (h : Kept regs parts a b) {r : Nat} {v : Word} (hr : r ∈ regs := by decide) :
    Kept regs parts a (b.setReg r v) :=
  h.trans ⟨fun x hx => by rw [State.reg_setReg, if_neg]; rintro ⟨⟩; exact hx hr, fun p _ => by cases p <;> simp [Part.same]⟩

theorem setPair (h : Kept regs parts a b) {lo v : Nat} (hl : lo ∈ regs := by decide) (hh : lo + 4 ∈ regs := by decide) :
    Kept regs parts a (b.setPair lo v) := (h.setReg hl).setReg hh

theorem noteClass (h : Kept regs parts a b) {c : Nat} (hf : Reg.SCRUB_FAULT_SEEN ∈ regs := by decide) :
    Kept regs parts a (b.noteClass c) := h.setIbit hf

theorem noteFault (h : Kept regs parts a b) {num inst : Nat} (hf : Reg.SCRUB_FAULT_SEEN ∈ regs := by decide) :
    Kept regs parts a (b.noteFault num inst) := by
  unfold State.noteFault
  split
  · exact h
  · exact h.noteClass hf

theorem transient (h : Kept regs parts a b) {f : FieldRef} (hf : f.addr ∈ regs := by decide)
    (hs : Reg.SCRUB_FAULT_SEEN ∈ regs := by decide) : Kept regs parts a (b.transient f) := (h.count hf).noteClass hs

/-! Conditions and lists -/

theorem when (h : Kept regs parts a b) {f : State → State} {q : Bool} (hf : Kept regs parts a b → Kept regs parts a (f b)) :
    Kept regs parts a (b.when q f) := by
  cases q with
  | false => exact h
  | true => exact hf h

theorem ite {q : Prop} [Decidable q] {x y : State} (hx : Kept regs parts a x) (hy : Kept regs parts a y) :
    Kept regs parts a (if q then x else y) := by
  split
  · exact hx
  · exact hy

theorem each (h : Kept regs parts a b) {α : Type} {f : α → State → State} {l : List α}
    (hf : ∀ i ∈ l, ∀ x, Kept regs parts a x → Kept regs parts a (f i x)) : Kept regs parts a (b.each l f) := by
  induction l generalizing b with
  | nil => exact h
  | cons i l ih => exact ih (hf i (List.mem_cons_self ..) b h) fun j hj => hf j (List.mem_cons_of_mem _ hj)

/-! Parts of the state -/

/-- An update of one part. -/
theorem part (h : Kept regs parts a b) (p : Part) (hp : p ∈ parts) (hr : c.regs = b.regs) (hs : ∀ q, q ≠ p → q.same b c) :
    Kept regs parts a c :=
  h.trans ⟨fun r _ => congrArg (Sparse.get resetVal · r) hr, fun q hq => hs q fun e => hq (e ▸ hp)⟩

/-- The passing of a free value. -/
theorem nextFree (h : Kept regs parts a b) (hp : .free ∈ parts := by decide) : Kept regs parts a b.nextFree :=
  h.part .free hp (by simp) fun q hq => by cases q <;> simp_all [Part.same]

theorem datum (h : Kept regs parts a b) {x : Nat} (hp : .datum ∈ parts := by decide) :
    Kept regs parts a { b with datum := x } :=
  h.part .datum hp (Eq.refl _) fun q hq => by cases q <;> simp_all [Part.same]

theorem tables (h : Kept regs parts a b) {x : SMap TableMem} (hp : .tables ∈ parts := by decide) :
    Kept regs parts a { b with tables := x } :=
  h.part .tables hp (Eq.refl _) fun q hq => by cases q <;> simp_all [Part.same]

theorem disc (h : Kept regs parts a b) {x : Disc} (hp : .disc ∈ parts := by decide) :
    Kept regs parts a { b with disc := x } :=
  h.part .disc hp (Eq.refl _) fun q hq => by cases q <;> simp_all [Part.same]

theorem router (h : Kept regs parts a b) {x : Router} (hp : .router ∈ parts := by decide) :
    Kept regs parts a { b with router := x } :=
  h.part .router hp (Eq.refl _) fun q hq => by cases q <;> simp_all [Part.same]

theorem mer (h : Kept regs parts a b) {x : Meridian} (hp : .mer ∈ parts := by decide) :
    Kept regs parts a { b with mer := x } :=
  h.part .mer hp (Eq.refl _) fun q hq => by cases q <;> simp_all [Part.same]

theorem host (h : Kept regs parts a b) {x : HostIf} (hp : .host ∈ parts := by decide) :
    Kept regs parts a { b with host := x } :=
  h.part .host hp (Eq.refl _) fun q hq => by cases q <;> simp_all [Part.same]

theorem conv (h : Kept regs parts a b) {x : Conv} (hp : .conv ∈ parts := by decide) :
    Kept regs parts a { b with conv := x } :=
  h.part .conv hp (Eq.refl _) fun q hq => by cases q <;> simp_all [Part.same]

theorem wing (h : Kept regs parts a b) {x : Wing} (hp : .wing ∈ parts := by decide) :
    Kept regs parts a { b with wing := x } :=
  h.part .wing hp (Eq.refl _) fun q hq => by cases q <;> simp_all [Part.same]

theorem grid (h : Kept regs parts a b) {x : Grid} (hp : .grid ∈ parts := by decide) :
    Kept regs parts a { b with grid := x } :=
  h.part .grid hp (Eq.refl _) fun q hq => by cases q <;> simp_all [Part.same]

theorem engine (h : Kept regs parts a b) {x : Engine} (hp : .engine ∈ parts := by decide) :
    Kept regs parts a { b with engine := x } :=
  h.part .engine hp (Eq.refl _) fun q hq => by cases q <;> simp_all [Part.same]

theorem cast (h : Kept regs parts a b) {x : Cast} (hp : .cast ∈ parts := by decide) :
    Kept regs parts a { b with cast := x } :=
  h.part .cast hp (Eq.refl _) fun q hq => by cases q <;> simp_all [Part.same]

theorem pwr (h : Kept regs parts a b) {x : CellPwr} (hp : .pwr ∈ parts := by decide) :
    Kept regs parts a { b with pwr := x } :=
  h.part .pwr hp (Eq.refl _) fun q hq => by cases q <;> simp_all [Part.same]

theorem meter (h : Kept regs parts a b) {x : Meter} (hp : .meter ∈ parts := by decide) :
    Kept regs parts a { b with meter := x } :=
  h.part .meter hp (Eq.refl _) fun q hq => by cases q <;> simp_all [Part.same]

theorem curt (h : Kept regs parts a b) {x : Curt} (hp : .curt ∈ parts := by decide) :
    Kept regs parts a { b with curt := x } :=
  h.part .curt hp (Eq.refl _) fun q hq => by cases q <;> simp_all [Part.same]

theorem guard (h : Kept regs parts a b) {x : Guard} (hp : .guard ∈ parts := by decide) :
    Kept regs parts a { b with guard := x } :=
  h.part .guard hp (Eq.refl _) fun q hq => by cases q <;> simp_all [Part.same]

theorem pump (h : Kept regs parts a b) {x : Pump} (hp : .pump ∈ parts := by decide) :
    Kept regs parts a { b with pump := x } :=
  h.part .pump hp (Eq.refl _) fun q hq => by cases q <;> simp_all [Part.same]

theorem power (h : Kept regs parts a b) {x : Power} (hp : .power ∈ parts := by decide) :
    Kept regs parts a { b with power := x } :=
  h.part .power hp (Eq.refl _) fun q hq => by cases q <;> simp_all [Part.same]

theorem ghost (h : Kept regs parts a b) {x : Ghost} (hp : .ghost ∈ parts := by decide) :
    Kept regs parts a { b with ghost := x } :=
  h.part .ghost hp (Eq.refl _) fun q hq => by cases q <;> simp_all [Part.same]

theorem scrub (h : Kept regs parts a b) {x : Scrub} (hp : .scrub ∈ parts := by decide) :
    Kept regs parts a { b with scrub := x } :=
  h.part .scrub hp (Eq.refl _) fun q hq => by cases q <;> simp_all [Part.same]

theorem free (h : Kept regs parts a b) {x : Nat} (hp : .free ∈ parts := by decide) :
    Kept regs parts a { b with free := x } :=
  h.part .free hp (Eq.refl _) fun q hq => by cases q <;> simp_all [Part.same]

theorem mapScrub (h : Kept regs parts a b) {f : Scrub → Scrub} (hp : .scrub ∈ parts := by decide) :
    Kept regs parts a (b.mapScrub f) := h.scrub hp

theorem mapHost (h : Kept regs parts a b) {f : HostIf → HostIf} (hp : .host ∈ parts := by decide) :
    Kept regs parts a (b.mapHost f) := h.host hp

theorem mapWing (h : Kept regs parts a b) {f : Wing → Wing} (hp : .wing ∈ parts := by decide) :
    Kept regs parts a (b.mapWing f) := h.wing hp

theorem mapEngine (h : Kept regs parts a b) {f : Engine → Engine} (hp : .engine ∈ parts := by decide) :
    Kept regs parts a (b.mapEngine f) := h.engine hp

theorem mapMeter (h : Kept regs parts a b) {f : Meter → Meter} (hp : .meter ∈ parts := by decide) :
    Kept regs parts a (b.mapMeter f) := h.meter hp

theorem mapGrid (h : Kept regs parts a b) {f : Grid → Grid} (hp : .grid ∈ parts := by decide) :
    Kept regs parts a (b.mapGrid f) := h.grid hp

theorem mapGuard (h : Kept regs parts a b) {f : Guard → Guard} (hp : .guard ∈ parts := by decide) :
    Kept regs parts a (b.mapGuard f) := h.guard hp

theorem mapPump (h : Kept regs parts a b) {f : Pump → Pump} (hp : .pump ∈ parts := by decide) :
    Kept regs parts a (b.mapPump f) := h.pump hp

theorem mapCurt (h : Kept regs parts a b) {f : Curt → Curt} (hp : .curt ∈ parts := by decide) :
    Kept regs parts a (b.mapCurt f) := h.curt hp

theorem mapGhost (h : Kept regs parts a b) {f : Ghost → Ghost} (hp : .ghost ∈ parts := by decide) :
    Kept regs parts a (b.mapGhost f) := h.ghost hp

theorem mapPower (h : Kept regs parts a b) {f : Power → Power} (hp : .power ∈ parts := by decide) :
    Kept regs parts a (b.mapPower f) := h.power hp

/-! Events and completions -/

/-- An event of no fault class changes nothing but what is on its way to the router. -/
theorem raiseAt (h : Kept regs parts a b) {stamp num inst : Nat} (hp : .router ∈ parts := by decide)
    (unclassed : faultClass num inst = none := by exact Eq.refl none) : Kept regs parts a (b.raiseAt stamp num inst) := by
  have silent : b.noteFault num inst = b := by rw [State.noteFault, unclassed]
  rw [State.raiseAt, silent]
  exact h.router hp

theorem raise (h : Kept regs parts a b) {num inst : Nat} (hp : .router ∈ parts := by decide)
    (unclassed : faultClass num inst = none := by exact Eq.refl none) : Kept regs parts a (b.raise num inst) :=
  h.raiseAt hp unclassed

/-- Any event changes what is on its way to the router and SCRUB_FAULT_SEEN at most. -/
theorem raiseFaultAt (h : Kept regs parts a b) {stamp num inst : Nat} (hf : Reg.SCRUB_FAULT_SEEN ∈ regs := by decide)
    (hp : .router ∈ parts := by decide) : Kept regs parts a (b.raiseAt stamp num inst) :=
  (h.noteFault hf).router hp

theorem raiseFault (h : Kept regs parts a b) {num inst : Nat} (hf : Reg.SCRUB_FAULT_SEEN ∈ regs := by decide)
    (hp : .router ∈ parts := by decide) : Kept regs parts a (b.raise num inst) := h.raiseFaultAt hf hp

theorem stage (h : Kept regs parts a b) {e : StagedEntry} (hp : .host ∈ parts := by decide) : Kept regs parts a (b.stage e) :=
  h.host hp

theorem stageDone (h : Kept regs parts a b) {d : Desc} {status detail doneTime : Nat} (hp : .host ∈ parts := by decide) :
    Kept regs parts a (b.stageDone d status detail doneTime) := by
  unfold State.stageDone
  exact (h.stage hp).ite h

theorem complete (h : Kept regs parts a b) {d : Desc} {status detail doneTime : Nat} (hp : .host ∈ parts := by decide) :
    Kept regs parts a (b.complete d status detail doneTime) := by
  unfold State.complete
  exact ((h.host hp).stageDone hp).ite h

theorem refuse (h : Kept regs parts a b) {d : Desc} {status detail : Nat} (hp : .host ∈ parts := by decide) :
    Kept regs parts a (b.refuse d status detail) := h.complete hp

theorem finish (h : Kept regs parts a b) {d : Desc} {detail : Nat} (hp : .host ∈ parts := by decide) :
    Kept regs parts a (b.finish d detail) := h.complete hp

/-- What is kept as the effect leaves it, the command keeps. -/
theorem settle {s x : State} {t : Nat} (h : Kept regs parts (s.advance t) x) :
    Kept regs parts (s.advance t) (s.settle (s.advance t) x) := kept_settle h

/-! Reading what is kept -/

theorem reg (h : Kept regs parts a b) {r : Nat} (hr : r ∉ regs := by decide) : b.reg r = a.reg r := h.1 r hr

theorem get (h : Kept regs parts a b) {f : FieldRef} (hf : f.addr ∉ regs := by decide) : b.get f = a.get f :=
  get_of_kept h hf

theorem bit (h : Kept regs parts a b) {f : FieldRef} (hf : f.addr ∉ regs := by decide) : b.bit f = a.bit f := by
  rw [State.bit, h.get hf, State.bit]

theorem getInt (h : Kept regs parts a b) {f : FieldRef} (hf : f.addr ∉ regs := by decide) : b.getInt f = a.getInt f := by
  rw [State.getInt, h.get hf, State.getInt]

theorem ibit (h : Kept regs parts a b) {f : FieldRef} {i : Nat} (hf : f.addr ∉ regs := by decide) : b.ibit f i = a.ibit f i := by
  rw [State.ibit, h.get hf, State.ibit]

/-- One event raised, the router being otherwise as it was. -/
theorem raisedAt (h : Kept regs parts a b) {stamp num inst : Nat} (hp : .router ∉ parts := by decide) :
    Raised [(stamp, num, inst)] a (b.raiseAt stamp num inst) := by
  have same : b.router = a.router := h.2 .router hp
  rw [Raised, State.router_raiseAt, same]
  rfl

theorem raised (h : Kept regs parts a b) {num inst : Nat} (hp : .router ∉ parts := by decide)
    (hd : .datum ∉ parts := by decide) : Raised [(a.datum, num, inst)] a (b.raise num inst) := by
  have same : b.datum = a.datum := h.2 .datum hd
  rw [State.raise, same]
  exact h.raisedAt hp

end Kept

theorem Raised.settle {l : List (Nat × Nat × Nat)} {a b s c : State} (h : Raised l a b) : Raised l a (s.settle c b) := h

/-- What follows without touching the router leaves the events raised. -/
theorem Raised.kept {l : List (Nat × Nat × Nat)} {regs : List Nat} {parts : List Part} {a b c : State} (h : Raised l a b)
    (k : Kept regs parts b c) (hp : .router ∉ parts := by decide) : Raised l a c := by
  have same : c.router = b.router := k.2 .router hp
  rw [Raised, same]
  exact h

/-! A command whose checks are made -/

/-- A command completes with what holds of the state that its effect is shown to make. -/
theorem completes_of_eq {c : Instr} {s x : State} {t : Nat} {f : State → State} {P : State → Prop} (h : exec c s = s.run t f)
    (effect : f (s.advance t) = x) (hP : P (s.settle (s.advance t) x)) : Completes c s P :=
  completes_run h (effect ▸ hP)

namespace State

variable (s : State)

theorem checked_fail {d : Desc} {checks : List (Bool × Nat × Nat)} {status detail : Nat}
    (h : firstFail checks = some (status, detail)) (f : State → State) : s.checked d checks f = s.refuse d status detail := by
  rw [State.checked, h]

theorem checked_pass {d : Desc} {checks : List (Bool × Nat × Nat)} (h : firstFail checks = none) (f : State → State) :
    s.checked d checks f = f s := by
  rw [State.checked, h]

theorem kept_refuse (d : Desc) (status detail : Nat) : Kept [] [.host] s (s.refuse d status detail) := Kept.rfl.refuse

/-- A refusal at this instant is the command's end. -/
theorem ended_refuse (a : State) (d : Desc) (status detail : Nat) :
    Ended d status detail s.datum s (s.settle a (s.refuse d status detail)) := rfl

theorem ended_finish (a : State) (d : Desc) (detail : Nat) : Ended d st.done detail s.datum s (s.settle a (s.finish d detail)) := rfl

end State

/-- Every check of a list passes where none of them finds a fault. -/
theorem firstFail_eq_none {l : List (Bool × Nat × Nat)} : firstFail l = none ↔ ∀ c ∈ l, c.1 = false := by
  induction l with
  | nil => simp [firstFail]
  | cons c l ih =>
    obtain ⟨bad, status, detail⟩ := c
    cases bad <;> simp [firstFail, ih]

/-! Fields read after operations on others -/

/-- Two fields share no bit. -/
def apart (f g : FieldRef) : Bool :=
  f.addr != g.addr || (decide (g.lo + g.w ≤ 32) && (decide (g.lo + g.w ≤ f.lo) || decide (f.lo + f.w ≤ g.lo)))

namespace State

variable (s : State) {f g : FieldRef}

theorem get_set_apart {v : Nat} (h : apart f g = true) : (s.set f v).get g = s.get g := by
  unfold apart at h
  by_cases ha : f.addr = g.addr
  · simp only [ha, bne_self_eq_false, Bool.false_or, Bool.and_eq_true, Bool.or_eq_true, decide_eq_true_eq] at h
    exact s.get_set_disjoint h.1 h.2
  · exact s.get_set_addr ha

theorem get_setBit_apart {b : Bool} (h : apart f g = true) : (s.setBit f b).get g = s.get g :=
  (s.noteSet b f.addr (2 ^ f.lo)).get_set_apart h

theorem get_setIbit_apart {i : Nat} {b : Bool} (h : apart f g = true) : (s.setIbit f i b).get g = s.get g :=
  (s.noteSet b f.addr (2 ^ (f.lo + i))).get_set_apart h

theorem get_count_apart {n : Nat} (h : apart f g = true) : (s.count f n).get g = s.get g := s.get_set_apart h

theorem get_setInt_apart {v : Int} (h : apart f g = true) : (s.setInt f v).get g = s.get g := s.get_set_apart h

theorem bit_set_apart {v : Nat} (h : apart f g = true) : (s.set f v).bit g = s.bit g := by
  rw [State.bit, s.get_set_apart h, State.bit]

theorem bit_setBit_apart {b : Bool} (h : apart f g = true) : (s.setBit f b).bit g = s.bit g := by
  rw [State.bit, s.get_setBit_apart h, State.bit]

theorem bit_setIbit_apart {i : Nat} {b : Bool} (h : apart f g = true) : (s.setIbit f i b).bit g = s.bit g := by
  rw [State.bit, s.get_setIbit_apart h, State.bit]

theorem bit_count_apart {n : Nat} (h : apart f g = true) : (s.count f n).bit g = s.bit g := s.bit_set_apart h

theorem get_setPair_of_ne {lo v : Nat} (h : lo ≠ g.addr) (h' : lo + 4 ≠ g.addr) : (s.setPair lo v).get g = s.get g := by
  simp [State.setPair, State.get_setReg, h, h']

/-- A counter as wide as its register saturates. -/
theorem get_count_same {n : Nat} (h : f.lo + f.w ≤ 32) : (s.count f n).get f = min (s.get f + n) (2 ^ f.w - 1) := by
  have pos : 0 < 2 ^ f.w := by positivity
  rw [State.count, State.setTop, s.get_set_same h]
  exact Nat.mod_eq_of_lt (by omega)

/-- A field read after it is written with a value it holds. -/
theorem get_set_of_lt {v : Nat} (hf : f.lo + f.w ≤ 32) (hv : v < 2 ^ f.w) : (s.set f v).get f = v := by
  rw [s.get_set_same hf, Nat.mod_eq_of_lt hv]

theorem get_raiseAt_apart {stamp num inst : Nat} (h : apart F.SCRUB_FAULT_SEEN_SEEN g = true) :
    (s.raiseAt stamp num inst).get g = s.get g := by
  change (s.noteFault num inst).get g = s.get g
  unfold State.noteFault
  split
  · rfl
  · exact s.get_setIbit_apart h

theorem bit_raiseAt_apart {stamp num inst : Nat} (h : apart F.SCRUB_FAULT_SEEN_SEEN g = true) :
    (s.raiseAt stamp num inst).bit g = s.bit g := by
  rw [State.bit, s.get_raiseAt_apart h, State.bit]

theorem get_raise_apart {num inst : Nat} (h : apart F.SCRUB_FAULT_SEEN_SEEN g = true) : (s.raise num inst).get g = s.get g :=
  s.get_raiseAt_apart h

theorem bit_raise_apart {num inst : Nat} (h : apart F.SCRUB_FAULT_SEEN_SEEN g = true) : (s.raise num inst).bit g = s.bit g := by
  rw [State.bit, s.get_raise_apart h, State.bit]

/-- A register of 32 bits stored whole reads as the number stored. -/
theorem get_setReg_same {v : Word} (h : f.lo = 0) (hw : f.w = 32) : (s.setReg f.addr v).get f = v.toNat := by
  rw [State.get_setReg, if_pos rfl, h, hw, bitsOf, pow_zero, Nat.div_one]
  exact Nat.mod_eq_of_lt v.isLt

end State

end Sys2Proof.Machine

/-! PROOFS. Datum time and its discipline: PPS edges and windows, the loss of the reference, DATUM_SET (spec/02). -/

namespace Sys2Proof.Machine

namespace State

variable (s : State)

/-! PPS edges -/

/-- What an accepted edge of the active PPSIN records, before the servo acts (R62, R63). -/
def ppsRecorded (x : Int) (s : State) : State :=
  (((({ s with disc := { s.disc with lastEdge := some s.elapsed, accepted := some (nearestSecond x).toNat, missRun := 0 } } : State).setPair
    Reg.DATUM_PPS_LAST_LO x.toNat).setBit F.DATUM_STATUS_PPS_PRESENT true).raiseAt x.toNat 32 0).setInt F.DATUM_PHASE_ERR_ERR
      (x - nearestSecond x)

theorem discState_ppsRecorded (x : Int) : (s.ppsRecorded x).discState = s.discState := by
  simp (disch := decide) only [ppsRecorded, discState, get_setInt_apart, get_raiseAt_apart, get_setBit_apart, get_setPair_of_ne]
  exact (Kept.rfl.disc : Kept [] [.disc] s _).get

theorem measure_locked_pps {s : State} (locked : s.discState = 2) (err8 : Int) : s.measure err8 true = s.servoUpdate := by
  simp [measure, locked]

/-- In LOCKED an edge inside its window is recorded and steers the servo; nothing else follows. -/
theorem ppsAccept_locked {a : State} {x : Int} (active : a.ppsActive = true) (locked : a.discState = 2)
    (inside : a.ppsInside x = true) : a.ppsAccept x = (a.ppsRecorded x).servoUpdate := by
  have gm : a.follower = false := by
    simp only [ppsActive, Bool.and_eq_true, Bool.not_eq_true'] at active
    exact active.1
  have still := a.discState_ppsRecorded x
  unfold ppsAccept
  extract_lets e act lock d s1 s2 s3 s4 s5
  have record : s4 = a.ppsRecorded x := by
    have follower : s3.follower = false := by
      have kept : Kept [Reg.DATUM_STATUS, Reg.DATUM_PPS_LAST_LO, Reg.DATUM_PPS_LAST_HI] [.disc, .router] a s3 :=
        Kept.rfl.disc.setPair.setBit.raiseAt
      exact kept.bit.trans gm
    rw [show s4 = s3.setInt F.DATUM_PHASE_ERR_ERR (x - e) by simp only [s4, follower, Bool.not_false, when_true]]
    simp only [s3, s2, s1, inside, if_true]
    rfl
  have served : s5 = (a.ppsRecorded x).servoUpdate := by
    rw [← measure_locked_pps (still.trans locked) ((x - e) * 8), ← record]
    exact congrArg (s4.when · (measure ((x - e) * 8) true)) active
  simp only [lock, locked, beq_self_eq_true, Bool.not_true, Bool.false_and, when_false, served]

theorem kept_servoUpdate {regs : List Nat} {parts : List Part} (trim : Reg.DATUM_FREQ_TRIM ∈ regs) (free : .free ∈ parts) :
    Kept regs parts s s.servoUpdate := (Kept.rfl.setInt trim).nextFree free

theorem kept_ppsRecorded (x : Int) : Kept [Reg.DATUM_STATUS, Reg.DATUM_PPS_LAST_LO, Reg.DATUM_PPS_LAST_HI, Reg.DATUM_PHASE_ERR,
    Reg.DATUM_FREQ_TRIM] [.disc, .router, .free] s (s.ppsRecorded x) := Kept.rfl.disc.setPair.setBit.raiseAt.setInt

/-- The error of an edge from its second boundary is a number that DATUM_PHASE_ERR holds. -/
theorem phase_bounds (x : Int) : -500000000 ≤ x - nearestSecond x ∧ x - nearestSecond x < 500000000 := by
  unfold nearestSecond
  norm_num
  omega

theorem present_ppsRecorded (x : Int) : (s.ppsRecorded x).bit F.DATUM_STATUS_PPS_PRESENT = true := by
  rw [ppsRecorded, State.bit, get_setInt_apart _ (by decide), get_raiseAt_apart _ (by decide)]
  exact bit_setBit_same _ (by decide) rfl

theorem last_ppsRecorded {x : Int} (low : 0 ≤ x) (high : x < 2 ^ 64) :
    (s.ppsRecorded x).pair Reg.DATUM_PPS_LAST_LO = x.toNat := by
  have kept (y : State) : Kept [Reg.DATUM_STATUS, Reg.DATUM_PHASE_ERR] [.router] y
    (((y.setBit F.DATUM_STATUS_PPS_PRESENT true).raiseAt x.toNat 32 0).setInt F.DATUM_PHASE_ERR_ERR (x - nearestSecond x)) :=
      Kept.rfl.setBit.raiseAt.setInt
  rw [ppsRecorded, pair, (kept _).reg, (kept _).reg]
  exact pair_setPair _ (by omega)

theorem phase_ppsRecorded (x : Int) : (s.ppsRecorded x).getInt F.DATUM_PHASE_ERR_ERR = x - nearestSecond x :=
  have bounds := phase_bounds x
  getInt_setInt_same _ (by decide) (by decide) (by norm_num; omega) (by norm_num; omega)

end State

/-- Settles O1: in LOCKED the window judges the edge (R59), which is then recorded or counted (R62, R63). -/
theorem ppsEdgesJudged : Obligations.PpsEdgesJudged := by
  refine ⟨?accepted, ?rejected⟩
  case accepted =>
    intro s t a x e w active locked above below fresh low high
    have judged : (a.ppsActive && a.discState == 2) = true := by simp [active, locked]
    have inside : a.ppsInside x = true := Bool.and_eq_true_iff.2 ⟨decide_eq_true above, decide_eq_true below⟩
    have taken : (a.ppsInside x && a.disc.accepted != some e.toNat) = true := by simp [inside, fresh]
    refine completes_of_eq (exec_ppsinEdge t s) (x := (a.ppsRecorded x).servoUpdate)
      ((if_pos judged).trans ((if_pos taken).trans (State.ppsAccept_locked active locked inside))) ?_
    have trimmed : Kept [Reg.DATUM_FREQ_TRIM] [.free] (a.ppsRecorded x) (a.ppsRecorded x).servoUpdate :=
      State.kept_servoUpdate _ (by decide) (by decide)
    refine ⟨rfl, ?present, ?state, ?last, ?phase, rfl, ((a.kept_ppsRecorded x).trans trimmed.mono).settle⟩
    case present => rw [State.bit_settle, trimmed.bit, State.present_ppsRecorded]
    case state => exact (State.get_settle ..).trans (trimmed.get.trans ((a.discState_ppsRecorded x).trans locked))
    case last => rw [State.pair_settle, State.pair, trimmed.reg, trimmed.reg, ← State.pair, a.last_ppsRecorded low high]
    case phase => rw [State.getInt_settle, trimmed.getInt, State.phase_ppsRecorded]
  case rejected =>
    intro s t a x e w active locked outside
    have judged : (a.ppsActive && a.discState == 2) = true := by simp [active, locked]
    have missed : ¬(a.ppsInside x && a.disc.accepted != some e.toNat) = true := fun h => by
      obtain ⟨above, below⟩ := Bool.and_eq_true_iff.1 (Bool.and_eq_true_iff.1 h).1
      exact outside ⟨of_decide_eq_true above, of_decide_eq_true below⟩
    refine completes_of_eq (exec_ppsinEdge t s) (x := a.ppsReject x) ((if_pos judged).trans (if_neg missed)) ?_
    have counted : Kept [Reg.DATUM_PPS_REJECT] [] a (a.count F.DATUM_PPS_REJECT_COUNT) := Kept.rfl.count
    refine ⟨?counted, counted.raisedAt.settle, (Kept.rfl.count.raiseAt : Kept _ _ a (a.ppsReject x)).settle⟩
    case counted =>
      rw [State.get_settle, State.ppsReject, State.get_raiseAt_apart _ (by decide)]
      exact a.get_count_same (by decide)

end Sys2Proof.Machine

/-! PROOFS. The loss of the reference (spec/02 R54, R60, R62): what a change of the discipline does, and the timeouts that make one. -/

namespace Sys2Proof.Machine

namespace State

variable (s : State)

/-! A change of the discipline -/

/-- The discipline as a change of its state from `old` to `v` leaves it (R54). -/
def discEntered (old v : Nat) (s : State) : Disc :=
  { s.disc with
    bad := 0, missRun := 0
    holdover := if v = 2 || v = 0 then none else if old = 2 then some s.elapsed else s.disc.holdover }

/-- A change of the discipline state before the PPS outputs follow it. -/
def discTo (v : Nat) (s : State) : State :=
  (({ (s.set F.DATUM_STATUS_DISC v).raise 35 with disc := s.discEntered s.discState v } : State).when (v == 2) fun x =>
    x.set F.DATUM_STATUS_ORIGIN (if x.follower then 4 else 3)).setDomainOk

theorem setDisc_of_ne {s : State} {v : Nat} (change : s.discState ≠ v) : s.setDisc v = (s.discTo v).ppsQualify := by
  rw [setDisc, if_neg change]
  rfl

theorem kept_discTo (v : Nat) : Kept [Reg.DATUM_STATUS] [.disc, .router] s (s.discTo v) :=
  ((Kept.rfl.set.raise.disc : Kept [Reg.DATUM_STATUS] [.disc, .router] s _).when fun h => h.set).setBit

/-- But for DATUM_STATUS the change is that of the field, of the discipline and of the event. -/
theorem kept_set_discTo (v : Nat) : Kept [Reg.DATUM_STATUS] [.disc, .router] (s.set F.DATUM_STATUS_DISC v) (s.discTo v) :=
  ((Kept.rfl.raise.disc : Kept [Reg.DATUM_STATUS] [.disc, .router] (s.set F.DATUM_STATUS_DISC v) _).when fun h => h.set).setBit

theorem when_eq {α : Type} (read : State → α) {x : State} {f : State → State} (c : Bool) (h : read (f x) = read x) :
    read (x.when c f) = read x := x.when_keeps read c h

theorem discState_discTo (v : Nat) : (s.discTo v).discState = (s.set F.DATUM_STATUS_DISC v).discState := by
  rw [discTo, discState_setDomainOk]
  refine (when_eq discState _ ?_).trans ?_
  · exact get_set_apart _ (by decide)
  exact get_raise_apart _ (by decide)

theorem elapsed_discTo (v : Nat) : (s.discTo v).elapsed = s.elapsed := by
  rw [discTo, setDomainOk, elapsed_setBit, when_eq State.elapsed _ (elapsed_set ..)]
  exact elapsed_raise ..

theorem router_discTo (v : Nat) : (s.discTo v).router =
    { s.router with inflight := s.router.inflight ++ [{ stamp := s.datum, num := 35, inst := 0 }] } := by
  rw [discTo, setDomainOk, router_setBit, when_eq State.router _ (router_set ..)]
  exact router_raise ..

theorem disc_discTo (v : Nat) : (s.discTo v).disc = s.discEntered s.discState v := by
  rw [discTo, setDomainOk, disc_setBit, when_eq State.disc _ (disc_set ..)]

/-! The PPS outputs that QUAL governs -/

/-- What the end of a pulse that QUAL governs makes of its pin (R99, R596). -/
def qualifyPin (tableau : Bool) (now : Nat) (r : Router) (n : Nat) : Router :=
  if tableau then { r with ppsEnd := Sparse.set (fun _ => none) r.ppsEnd n (some now) }
  else { r with
    evioPin := Sparse.set (fun _ => .highZ) r.evioPin n .low
    ppsEnd := Sparse.set (fun _ => none) r.ppsEnd n none }

/-- The pins whose pulse under way ends where QUAL asks for a qualified discipline. -/
def qualifiedPins (s : State) : List Nat :=
  (List.range 4).filter fun n => s.evioFunc n == 2 && (Sparse.get (fun _ => none) s.router.ppsEnd n).isSome

theorem router_ppsQualify : s.ppsQualify.router =
    if s.bit F.DATUM_PPS_OUT_QUAL && s.discState < 2 then s.qualifiedPins.foldl (qualifyPin s.tableau s.elapsed) s.router
    else s.router := by
  have pins (l : List Nat) (x : State) (ht : x.tableau = s.tableau) (he : x.elapsed = s.elapsed) :
      (x.each l fun n x => if x.tableau then
          { x with router := { x.router with ppsEnd := Sparse.set (fun _ => none) x.router.ppsEnd n (some x.elapsed) } }
        else { x with router := { x.router with
          evioPin := Sparse.set (fun _ => .highZ) x.router.evioPin n .low
          ppsEnd := Sparse.set (fun _ => none) x.router.ppsEnd n none } }).router =
        l.foldl (qualifyPin s.tableau s.elapsed) x.router := by
    induction l generalizing x with
    | nil => rfl
    | cons n l ih =>
      rw [State.each, List.foldl_cons, List.foldl_cons, ← State.each]
      refine (ih _ ?_ ?_).trans ?_
      · split <;> exact ht
      · split <;> exact he
      · rw [ht, he]
        congr 1
        unfold qualifyPin
        split <;> rfl
  unfold ppsQualify
  split
  · exact pins _ s rfl rfl
  · rfl

theorem qualifyPin_inflight (tableau : Bool) (now n : Nat) (r : Router) (l : List Event) :
    qualifyPin tableau now { r with inflight := l } n = { qualifyPin tableau now r n with inflight := l } := by
  unfold qualifyPin
  split <;> rfl

theorem foldl_qualifyPin_inflight (tableau : Bool) (now : Nat) (pins : List Nat) (r : Router) (l : List Event) :
    pins.foldl (qualifyPin tableau now) { r with inflight := l } =
      { pins.foldl (qualifyPin tableau now) r with inflight := l } := by
  induction pins generalizing r with
  | nil => rfl
  | cons n pins ih => rw [List.foldl_cons, List.foldl_cons, qualifyPin_inflight, ih]

/-- The PPS outputs do not depend on the events on their way. -/
theorem router_ppsQualify_of_kept {regs : List Nat} {parts : List Part} {x y : State} (k : Kept regs parts y x)
    (disc : x.discState = y.discState) (now : x.elapsed = y.elapsed) {l : List Event}
    (router : x.router = { y.router with inflight := l })
    (hr : ∀ r ∈ [F.DATUM_PPS_OUT_QUAL.addr, Reg.DATUM_EVIO_FUNC, F.POWER_STATUS_TABLEAU.addr], r ∉ regs := by decide) :
    x.ppsQualify.router = { y.ppsQualify.router with inflight := l } := by
  have qual : x.bit F.DATUM_PPS_OUT_QUAL = y.bit F.DATUM_PPS_OUT_QUAL := k.bit (hr _ (by simp))
  have tableau : x.tableau = y.tableau := k.bit (hr _ (by simp))
  have pins : x.qualifiedPins = y.qualifiedPins := by
    simp only [qualifiedPins, evioFunc, router, k.reg (hr Reg.DATUM_EVIO_FUNC (by simp))]
  rw [router_ppsQualify, router_ppsQualify, qual, tableau, pins, disc, now, router]
  split
  · exact foldl_qualifyPin_inflight ..
  · rfl

theorem inflight_ppsQualify : s.ppsQualify.router.inflight = s.router.inflight := by
  have same := router_ppsQualify_of_kept (Kept.rfl : Kept [] [] s s) rfl rfl (l := s.router.inflight) rfl
  rw [same]

/-- A qualified discipline leaves the PPS outputs alone. -/
theorem ppsQualify_of_qualified {s : State} (h : 2 ≤ s.discState) : s.ppsQualify = s := by
  rw [ppsQualify, if_neg]
  simp only [Bool.and_eq_true, decide_eq_true_eq, not_and, not_lt]
  exact fun _ => h

/-- A change of the discipline after other events: DISC_STATE follows them, and a change to an unqualified state ends pulses that QUAL
governs. -/
theorem raised_setDisc {regs : List Nat} {parts : List Part} {a x : State} {l : List (Nat × Nat × Nat)} {v : Nat}
    (change : x.discState ≠ v) (k : Kept regs parts a x) (now : x.elapsed = a.elapsed) (raised : Raised l a x)
    (hd : .datum ∉ parts := by decide)
    (hr : ∀ r ∈ [F.DATUM_PPS_OUT_QUAL.addr, Reg.DATUM_EVIO_FUNC, F.POWER_STATUS_TABLEAU.addr], r ∉ Reg.DATUM_STATUS :: regs := by decide) :
    Raised (l ++ [(a.datum, 35, 0)]) (a.set F.DATUM_STATUS_DISC v).ppsQualify (x.setDisc v) := by
  have datum : x.datum = a.datum := k.2 .datum hd
  have kept : Kept (Reg.DATUM_STATUS :: regs) (.disc :: .router :: parts) (a.set F.DATUM_STATUS_DISC v) (x.discTo v) := by
    have outer : Kept (Reg.DATUM_STATUS :: regs) (.disc :: .router :: parts) a (x.discTo v) :=
      (k.mono (List.subset_cons_self ..) (fun _ h => by simp [h])).trans ((x.kept_discTo v).mono (by simp) (by simp))
    refine ⟨fun r hr' => (outer.1 r hr').trans (State.reg_set_ne _ fun e => hr' (by simp [← e])).symm, fun p hp => ?_⟩
    have same := outer.2 p hp
    cases p <;> simpa [Part.same] using same
  have disc : (x.discTo v).discState = (a.set F.DATUM_STATUS_DISC v).discState := by
    rw [discState_discTo, discState, discState, get_set_same _ (by decide), get_set_same _ (by decide)]
  have router : (x.discTo v).router = { (a.set F.DATUM_STATUS_DISC v).router with
      inflight := x.router.inflight ++ [{ stamp := x.datum, num := 35, inst := 0 }] } := by
    rw [router_discTo, show x.router = _ from raised]
    rfl
  rw [setDisc_of_ne change, Raised, router_ppsQualify_of_kept kept disc ((elapsed_discTo x v).trans now) router hr,
    inflight_ppsQualify, show x.router = _ from raised, datum]
  simp

/-- The same, into a qualified state. -/
theorem raised_setDisc_qualified {regs : List Nat} {parts : List Part} {a x : State} {l : List (Nat × Nat × Nat)} {v : Nat}
    (change : x.discState ≠ v) (qualified : 2 ≤ v) (hv : v < 4) (k : Kept regs parts a x) (now : x.elapsed = a.elapsed)
    (raised : Raised l a x) (hd : .datum ∉ parts := by decide)
    (hr : ∀ r ∈ [F.DATUM_PPS_OUT_QUAL.addr, Reg.DATUM_EVIO_FUNC, F.POWER_STATUS_TABLEAU.addr], r ∉ Reg.DATUM_STATUS :: regs := by decide) :
    Raised (l ++ [(a.datum, 35, 0)]) a (x.setDisc v) := by
  have high : 2 ≤ (a.set F.DATUM_STATUS_DISC v).discState := by
    rw [discState, get_set_of_lt _ (by decide) hv]
    exact qualified
  have after := raised_setDisc change k now raised hd hr
  rw [ppsQualify_of_qualified high] at after
  exact after

theorem disc_setDisc {s : State} {v : Nat} (change : s.discState ≠ v) : (s.setDisc v).disc = s.discEntered s.discState v := by
  have kept : Kept [] [.router] (s.discTo v) (s.discTo v).ppsQualify := kept_ppsQualify _ (by decide)
  have same : (s.discTo v).ppsQualify.disc = (s.discTo v).disc := kept.2 .disc (by decide)
  rw [setDisc_of_ne change, same, disc_discTo]

end State

/-! The timeouts -/

/-- Settles O2: each timeout acts under its condition; the changes of the discipline are as R54 says. -/
theorem referenceLossAndDiscipline : Obligations.ReferenceLossAndDiscipline := by
  refine ⟨?window, ?silent, ?reference, ?holdover⟩
  case window =>
    intro s t a e active locked judged unaccepted
    let x : State := { a with disc := { a.disc with judged := e } }
    let z : State := (x.count F.DATUM_PPS_MISS_COUNT).raise 34
    let y : State := { z with disc := { z.disc with missRun := z.disc.missRun + 1 } }
    have counted : Kept [Reg.DATUM_PPS_MISS] [.disc] a (x.count F.DATUM_PPS_MISS_COUNT) := Kept.rfl.disc.count
    have kept : Kept [Reg.DATUM_PPS_MISS] [.disc, .router] a y := (counted.mono.raise : Kept _ [.disc, .router] a _).disc
    have missed : y.get F.DATUM_PPS_MISS_COUNT = min (a.get F.DATUM_PPS_MISS_COUNT + 1) 0xFFFFFFFF :=
      (State.get_raise_apart _ (by decide)).trans (State.get_count_same _ (by decide))
    have raised : Raised [(a.datum, 34, 0)] a y := counted.raised.kept (Kept.rfl.disc : Kept [] [.disc] _ y)
    have state : y.discState = 2 := kept.get.trans locked
    have disc : y.disc = { a.disc with judged := e, missRun := a.disc.missRun + 1 } := by simp [y, z, x]
    have now : y.elapsed = a.elapsed := by simp [y, z, x]
    have due : (a.ppsActive && a.discState == 2 && a.disc.judged < e) = true := by simp [active, locked, judged]
    have fresh : ¬(a.disc.accepted == some e) = true := by simpa using unaccepted
    refine completes_of_eq (exec_ppsWindowEnd t s)
      (x := y.when (y.get F.DATUM_DISC_CTRL_PPS_LOSS ≤ y.disc.missRun) (State.setDisc 3)) ((if_pos due).trans (if_neg fresh)) ?_
    rw [kept.get, disc]
    clear_value y
    by_cases lost : a.get F.DATUM_DISC_CTRL_PPS_LOSS ≤ a.disc.missRun + 1
    · rw [decide_eq_true lost, State.when_true, if_pos lost]
      have change : y.discState ≠ 3 := by rw [state]; decide
      have held := y.kept_setDisc 3 (regs := [Reg.DATUM_STATUS]) (parts := [.disc, .router]) (by decide) (by decide) (by decide)
      have entered := State.disc_setDisc change
      refine ⟨?judged, ?missed, ⟨?state, ?started, ?raised⟩, (kept.mono.trans held.mono).settle⟩
      case judged => rw [State.disc_settle, entered, State.discEntered, disc]
      case missed => exact (State.get_settle ..).trans (held.get.trans missed)
      case state => exact (State.get_settle ..).trans (State.discState_setDisc _ (by decide))
      case started =>
        rw [State.disc_settle, entered, State.discEntered, state, now]
        rfl
      case raised => exact (State.raised_setDisc_qualified change (by decide) (by decide) kept now raised).settle
    · rw [decide_eq_false lost, State.when_false, if_neg lost]
      exact ⟨congrArg Disc.judged disc, (State.get_settle ..).trans missed,
        ⟨(State.get_settle ..).trans state, congrArg Disc.missRun disc, raised.settle⟩, kept.mono.settle⟩
  case silent =>
    intro s t a due
    refine completes_of_eq (exec_ppsPresentTimeout t s) (x := a.setBit F.DATUM_STATUS_PPS_PRESENT false) ?_ ?_
    · exact congrArg (a.when · fun s => s.setBit F.DATUM_STATUS_PPS_PRESENT false) due
    · exact ⟨(State.bit_settle ..).trans (State.bit_setBit_same _ (by decide) rfl),
        (State.get_settle ..).trans (State.get_setBit_apart _ (by decide)), Kept.rfl.setBit.settle⟩
  case reference =>
    intro s t a v acquire lost
    have change : a.discState ≠ v := by
      rw [acquire]
      simp only [v]
      split <;> decide
    have small : v < 4 := by
      simp only [v]
      split <;> decide
    refine completes_of_eq (exec_referenceTimeout t s) (x := a.setDisc v) ?effect ?_
    case effect =>
      have gone : (a.discState == 1 && if a.follower then !a.bit F.DATUM_MER_STATUS_LINK_UP else
          match a.disc.lastEdge with
          | none => true
          | some t0 => a.expired t0 1500000000) = true := by
        rw [acquire]
        cases follows : a.follower
        · rw [if_neg (by simp [follows])] at lost
          cases edge : a.disc.lastEdge <;> simp_all [State.due]
        · rw [if_pos follows] at lost
          simp [lost]
      exact congrArg (a.when · State.loseAcquire) gone
    exact ⟨(State.get_settle ..).trans (State.discState_setDisc _ small),
      (State.raised_setDisc change (Kept.rfl : Kept [] [] a a) rfl (l := []) (by simp [Raised])).settle,
      (a.kept_setDisc v (by decide) (by decide) (by decide)).settle⟩
  case holdover =>
    intro s t a due
    let x : State := { a with disc := { a.disc with holdover := none } }
    let y : State := x.raise 37
    have kept : Kept [Reg.SCRUB_FAULT_SEEN] [.disc, .router] a y := Kept.rfl.disc.raiseFault
    have raised : Raised [(a.datum, 37, 0)] a y := (Kept.rfl.disc : Kept [] [.disc] a x).raised
    have state : y.discState = a.discState := kept.get
    have disc : y.disc = { a.disc with holdover := none } := by simp [y, x]
    have now : y.elapsed = a.elapsed := by simp [y, x]
    refine completes_of_eq (exec_holdoverExpired t s) (x := y.when (y.discState == 3) (State.setDisc 0)) (if_pos due) ?_
    clear_value y
    rw [state]
    by_cases held : a.discState = 3
    · rw [held, beq_self_eq_true, State.when_true, if_pos rfl]
      have change : y.discState ≠ 0 := by rw [state, held]; decide
      have left := y.kept_setDisc 0 (regs := [Reg.DATUM_STATUS]) (parts := [.disc, .router]) (by decide) (by decide) (by decide)
      refine ⟨?stopped, ⟨?state, ?raised⟩, (kept.mono.trans left.mono).settle⟩
      case stopped => rw [State.disc_settle, State.disc_setDisc change, State.discEntered]; rfl
      case state => exact (State.get_settle ..).trans (State.discState_setDisc _ (by decide))
      case raised => exact (State.raised_setDisc change kept now raised).settle
    · rw [beq_eq_false_iff_ne.2 held, State.when_false, if_neg held]
      exact ⟨congrArg Disc.holdover disc, ⟨(State.get_settle ..).trans state, raised.settle⟩, kept.mono.settle⟩

end Sys2Proof.Machine

/-! PROOFS. EVIO pins and the receive box (spec/02 R97 to R100). -/

namespace Sys2Proof.Machine

/-- One bit of a field of 32-bit register after a write by access type to a W1C field that is the register's only one. -/
theorem writtenValue_w1c (w reset : Nat) (base : Nat) (old data setNow : Nat) :
    writtenValue ⟨base, 1, 4, reset, [⟨0, w, .w1c, none, false⟩]⟩ old data setNow =
      putBits old 0 w (Nat.land (bitsOf old 0 w) (Nat.lor (2 ^ w - 1 - bitsOf data 0 w) (bitsOf setNow 0 w))) := rfl

/-- Bit `i` of the ones' complement in `w` bits. -/
theorem testBit_complement {w x i : Nat} (hx : x < 2 ^ w) (hi : i < w) : (2 ^ w - 1 - x).testBit i = !x.testBit i := by
  have le : x + 1 ≤ 2 ^ w := hx
  rw [Nat.sub_sub, Nat.add_comm 1 x, Nat.testBit_two_pow_sub_succ hx]
  simp [hi]

namespace State

variable (s : State)

/-- A write of DATUM_MER_RXBOX_CTRL frees the entries written 1, but for those set in the same CORE cycle (R5, R97). -/
theorem full_writeByAccess (data : Word) {n : Nat} (h : n < 8) :
    (s.writeByAccess Reg.DATUM_MER_RXBOX_CTRL data).ibit F.DATUM_MER_RXBOX_CTRL_FULL n =
      (s.ibit F.DATUM_MER_RXBOX_CTRL_FULL n && (!data.getLsbD n || (s.setNow Reg.DATUM_MER_RXBOX_CTRL).testBit n)) := by
  have row : regRow Reg.DATUM_MER_RXBOX_CTRL = some ⟨Reg.DATUM_MER_RXBOX_CTRL, 1, 4, 0, [⟨0, 8, .w1c, none, false⟩]⟩ := by
    decide +kernel
  have stored : (s.writeByAccess Reg.DATUM_MER_RXBOX_CTRL data) = s.setReg Reg.DATUM_MER_RXBOX_CTRL (BitVec.ofNat 32
      (putBits (s.reg Reg.DATUM_MER_RXBOX_CTRL).toNat 0 8 (Nat.land (bitsOf (s.reg Reg.DATUM_MER_RXBOX_CTRL).toNat 0 8)
        (Nat.lor (2 ^ 8 - 1 - bitsOf data.toNat 0 8) (bitsOf (s.setNow Reg.DATUM_MER_RXBOX_CTRL) 0 8))))) := by
    rw [writeByAccess, row]
    exact congrArg (fun x => s.setReg _ (BitVec.ofNat 32 x)) (writtenValue_w1c ..)
  have full (x : State) : x.ibit F.DATUM_MER_RXBOX_CTRL_FULL n = (bitsOf (x.reg Reg.DATUM_MER_RXBOX_CTRL).toNat 0 8).testBit n := rfl
  rw [full, full, stored, reg_setReg, if_pos rfl, BitVec.toNat_ofNat, bitsOf_mod (by decide), bitsOf_putBits,
    Nat.testBit_mod_two_pow]
  change (_ && ((bitsOf (s.reg Reg.DATUM_MER_RXBOX_CTRL).toNat 0 8) &&& (_ ||| _)).testBit n) = _
  rw [Nat.testBit_and, Nat.testBit_or, testBit_complement (bitsOf_lt ..) h, testBit_bitsOf data.toNat,
    testBit_bitsOf (s.setNow _)]
  simp [h, BitVec.getLsbD]

theorem kept_writeByAccess (data : Word) (r : Nat) {regs : List Nat} {parts : List Part} (h : r ∈ regs) :
    Kept regs parts s (s.writeByAccess r data) := by
  unfold writeByAccess
  split
  · exact Kept.rfl
  · exact Kept.rfl.setReg h

end State

/-- Settles O6: each command acts on its own pin or entries (R97 to R100). -/
theorem evioAndReceiveBox : Obligations.EvioAndReceiveBox := by
  refine ⟨?start, ?stop, ?input, ?free⟩
  case start =>
    intro s t pin a output boundary qualified
    have due : (a.evioFunc pin = 2 && a.datum % second = 0 && (!a.bit F.DATUM_PPS_OUT_QUAL || 2 ≤ a.discState)) = true := by
      rcases qualified with h | h <;> simp [output, boundary, h]
    refine completes_of_eq (exec_ppsOutput t pin s) (if_pos due) ⟨?_, ?_, fun p hp => ?_, rfl, Kept.rfl.router.settle⟩
    · simp
    · simp [a]
    · simp [a, hp.symm]
  case stop =>
    intro s t pin e a running reached live
    have ends : (e ≤ a.elapsed && !a.tableau) = true := by simp [reached, live]
    refine completes_of_eq (exec_ppsOutputEnd t pin s) (x := { a with router := { a.router with
      evioPin := Sparse.set (fun _ => .highZ) a.router.evioPin pin .low
      ppsEnd := Sparse.set (fun _ => none) a.router.ppsEnd pin none } }) ?effect ?_
    case effect =>
      simp only [show Sparse.get (fun _ => none) (s.advance t).router.ppsEnd pin = some e from running]
      exact if_pos ends
    refine ⟨?_, ?_, fun p hp => ?_, rfl, Kept.rfl.router.settle⟩
    · simp [a]
    · simp [a]
    · simp [a, hp.symm]
  case input =>
    intro s t pin a last input
    let near : Bool := match last with
      | none => false
      | some t0 => a.elapsed < t0 + 1000
    have judged : (∀ e, last = some e → e + 1000 ≤ a.elapsed) ↔ near = false := by
      simp only [near]
      cases last <;> simp
    let r : Router := { a.router with evioEdge := Sparse.set (fun _ => none) a.router.evioEdge pin (some a.elapsed) }
    have silent : faultClass (44 + pin.val) pin.val = none := by
      fin_cases pin <;> rfl
    by_cases far : near = false
    · refine completes_of_eq (exec_evioIn t pin s) (if_pos (Bool.and_eq_true_iff.2 ⟨decide_eq_true input, congrArg not far⟩)) ?_
      rw [if_pos (judged.2 far)]
      refine ⟨?_, ?_, (Kept.raiseAt (Kept.rfl.router : Kept [] [.router] a { a with router := r }) (unclassed := silent)).settle⟩
      · simp [a]
      · rw [State.router_settle, State.router_raiseAt]
    · refine completes_of_eq (exec_evioIn t pin s) (x := a) (if_neg fun h =>
        far (Bool.not_eq_eq_eq_not.1 (Bool.and_eq_true_iff.1 h).2)) ?_
      rw [if_neg fun h => far (judged.1 h)]
      exact Kept.rfl.settle
  case free =>
    intro s t data a live
    refine completes_of_eq (exec_rxboxFree t data s) (a.bar0_of_not_tableau live _ _ _) ⟨fun n hn => ?_, ?_⟩
    · rw [State.ibit_settle]
      exact a.full_writeByAccess data hn
    · exact (a.kept_writeByAccess data _ (by decide)).settle

end Sys2Proof.Machine

/-! PROOFS. Vectors (spec/14 R585, R586): the holdoff of a vector that has sent its message runs on from the start it had. -/

namespace Sys2Proof.Machine

/-- The start of a vector's holdoff in the state that a command answers. -/
def holdoffStart (v : Nat) : Host.Outcome State Fault Refusal → Nat
  | .next b => (b.vec v).start
  | .fault _ => 0
  | .refused _ => 0

/-- The bus is open and MSI enabled, source 0, not masked, targets vector 0 and has one cause, and a message of vector 0 is committed, 100 ns after its
holdoff started. -/
def committedVector : State :=
  { (((State.reset.set F.HOST_STATUS_BME 1).set F.IRQ_STATUS_MSI 1).setReg (Reg.IRQ_TARGET 0) 64#32).setReg (Reg.IRQ_MASK 0) 0#32 with
    elapsed := 100
    router := { causes := [(0, 1)], commit := some { vec := 0, taken := [], time := 0 } } }

/-- Refutes O46: a vector in GATHER or DUE after its message left keeps the start of its holdoff (here 0), where the statement has the
present instant (here 100). -/
theorem not_vectorsGatherCommitAndSend : ¬ Obligations.VectorsGatherCommitAndSend := by
  rintro ⟨-, -, issued, -⟩
  obtain ⟨b, run, -, -, -, sent⟩ := issued committedVector 0 { vec := 0, taken := [], time := 0 } (by decide +kernel) (by decide +kernel)
    (by decide +kernel)
  obtain ⟨-, -, -, -, -, gathers, -⟩ := sent (by decide +kernel) (by decide +kernel)
  have stated : (b.vec 0).start = 100 := congrArg Vec.start (gathers (by decide +kernel) (by decide +kernel))
  have kept : holdoffStart 0 (exec (.messageIssued 0) committedVector) = 0 := by decide +kernel
  rw [run] at kept
  exact absurd (stated.symm.trans kept) (by decide)

end Sys2Proof.Machine

/-! PROOFS. The host interface (spec/13): doorbells and the idle hint, reads that fail, the loss of the host. -/

namespace Sys2Proof.Machine

namespace State

variable (s : State)

/-! Vectors judged anew -/

@[simp] theorem vec_setVec (v : Nat) (x : Vec) (w : Nat) : (s.setVec v x).vec w = if v = w then x else s.vec w := Sparse.get_set ..

theorem vec_settle (a x : State) (v : Nat) : (s.settle a x).vec v = x.vec v := rfl

/-- A vector judged anew changes at most its own state. -/
theorem judge_cases (v : Nat) : s.judge v = s ∨ ∃ x, s.judge v = s.setVec v x := by
  unfold judge
  dsimp only
  split
  · split
    · exact .inl rfl
    · exact .inr ⟨_, rfl⟩
  · split
    · exact .inr ⟨_, rfl⟩
    · split
      · exact .inr ⟨_, rfl⟩
      · exact .inl rfl
  · split
    · exact .inr ⟨_, rfl⟩
    · exact .inl rfl
  · exact .inl rfl
  · exact .inl rfl

/-- What a vector being judged leaves alone is read as before. -/
theorem judge_reads {α : Type} (read : State → α) (v : Nat) (h : ∀ x, read (s.setVec v x) = read s) : read (s.judge v) = read s := by
  rcases s.judge_cases v with same | ⟨x, set⟩
  · rw [same]
  · rw [set, h]

theorem vec_judge_of_ne {v w : Nat} (h : v ≠ w) : (s.judge v).vec w = s.vec w :=
  s.judge_reads (fun x => x.vec w) v fun x => by rw [vec_setVec, if_neg h]

theorem commitCount_judge (v w : Nat) : (s.judge v).commitCount w = s.commitCount w :=
  s.judge_reads (fun x => x.commitCount w) v fun _ => rfl

theorem bit_judge (v : Nat) (f : FieldRef) : (s.judge v).bit f = s.bit f := s.judge_reads (fun x => x.bit f) v fun _ => rfl

/-- The causes that a commit takes are those of the router, as the targets and masks have it. -/
theorem commitCount_congr {x y : State} (regs : ∀ r, 0x800 ≤ r → r < 0x920 → x.reg r = y.reg r) (router : x.router = y.router)
    (now : x.elapsed = y.elapsed) (v : Nat) : x.commitCount v = y.commitCount v := by
  have target (src : Nat) (h : src < 256) : x.target src = y.target src := by
    rw [target, target, regs (0x800 + 4 * (src / 4)) (by omega) (by omega)]
  have sources : x.sourcesOf v = y.sourcesOf v := List.filter_congr fun src hs => by rw [target src (List.mem_range.1 hs)]
  have masked (src : Nat) (h : src < 256) : x.maskedForCommit src = y.maskedForCommit src := by
    have mask : x.reg (0x900 + 4 * (src / 32)) = y.reg (0x900 + 4 * (src / 32)) := regs _ (by omega) (by omega)
    simp only [maskedForCommit, State.masked, ibit, State.get, router, now, mask]
  have unmasked : (y.sourcesOf v).filter (fun src => !x.maskedForCommit src) = (y.sourcesOf v).filter fun src => !y.maskedForCommit src :=
    List.filter_congr fun src hs => by rw [masked src (List.mem_range.1 (List.mem_filter.1 hs).1)]
  have causes : x.causes = y.causes := funext fun src => by rw [State.causes, State.causes, router]
  rw [commitCount, commitCount, sources, unmasked, causes]

theorem vec_each_judge_of_not_mem {l : List Nat} {w : Nat} (h : w ∉ l) : (s.each l judge).vec w = s.vec w := by
  induction l generalizing s with
  | nil => rfl
  | cons v l ih =>
    obtain ⟨ne, rest⟩ := List.ne_and_not_mem_of_not_mem_cons h
    exact (ih (s.judge v) rest).trans (s.vec_judge_of_ne ne.symm)

/-- A gathering vector with a cause is due while the idle hint is set (R585). -/
theorem vec_judge_of_idleHint {s : State} {v : Nat} (gather : (s.vec v).phase = .gather) (cause : 1 ≤ s.commitCount v)
    (idle : s.bit F.HOST_STATUS_IDLE = true) : ((s.judge v).vec v).phase = .due := by
  have due : s.vecDue v (s.vec v).start = true := by simp [vecDue, cause, idle]
  have some : s.commitCount v ≠ 0 := by omega
  simp [judge, gather, some, due]

theorem vec_each_judge_of_idleHint {l : List Nat} (once : l.Nodup) {v : Nat} (mem : v ∈ l) {s : State}
    (gather : (s.vec v).phase = .gather) (cause : 1 ≤ s.commitCount v) (idle : s.bit F.HOST_STATUS_IDLE = true) :
    ((s.each l judge).vec v).phase = .due := by
  induction l generalizing s with
  | nil => exact absurd mem List.not_mem_nil
  | cons w l ih =>
    obtain ⟨fresh, once⟩ := List.nodup_cons.1 once
    rw [each, List.foldl_cons, ← each]
    rcases List.mem_cons.1 mem with rfl | mem
    · rw [vec_each_judge_of_not_mem _ fresh]
      exact vec_judge_of_idleHint gather cause idle
    · have ne : w ≠ v := fun e => fresh (e ▸ mem)
      exact ih once mem (by rwa [vec_judge_of_ne _ ne]) (by rwa [commitCount_judge]) (by rwa [bit_judge])

end State

namespace Kept

variable {regs : List Nat} {parts : List Part} {a b : State}

theorem setVec (h : Kept regs parts a b) {v : Nat} {x : Vec} (hp : .router ∈ parts := by decide) : Kept regs parts a (b.setVec v x) :=
  h.router hp

theorem judge (h : Kept regs parts a b) {v : Nat} (hp : .router ∈ parts := by decide) : Kept regs parts a (b.judge v) := by
  rcases b.judge_cases v with same | ⟨x, set⟩
  · rwa [same]
  · rw [set]
    exact h.setVec hp

theorem judgeAll (h : Kept regs parts a b) (hp : .router ∈ parts := by decide) : Kept regs parts a b.judgeAll := by
  unfold State.judgeAll
  exact h.ite (h.each fun _ _ _ hx => hx.judge hp)

end Kept

/-! Doorbells -/

/-- A refused doorbell is reported (R544). -/
theorem State.doorbellBad_reported (a s c : State) (n : Nat) :
    (s.settle c (a.doorbellBad n)).bit F.HOST_STATUS_DB_REJECT = true ∧
      (s.settle c (a.doorbellBad n)).get F.HOST_DB_REJECT_COUNT = min (a.get F.HOST_DB_REJECT_COUNT + 1) 0xFFFFFFFF ∧
      Raised [(a.datum, 1, n)] a (s.settle c (a.doorbellBad n)) := by
  have kept : Kept [Reg.HOST_STATUS, Reg.HOST_DB_REJECT] [] a ((a.setBit F.HOST_STATUS_DB_REJECT true).count F.HOST_DB_REJECT_COUNT) :=
    Kept.rfl.setBit.count
  refine ⟨?_, ?_, kept.raised.settle⟩
  · rw [State.bit_settle, State.doorbellBad, State.bit_raise_apart _ (by decide), State.bit_count_apart _ (by decide)]
    exact State.bit_setBit_same _ (by decide) rfl
  · rw [State.get_settle, State.doorbellBad, State.get_raise_apart _ (by decide), State.get_count_same _ (by decide),
      State.get_setBit_apart _ (by decide)]
    rfl

/-- What R543 asks of a doorbell's value, its ring being enabled: PI up to a ring's size ahead of CI, another ring's CI up to its PI. -/
theorem State.doorbellFits_iff {a : State} {n : Fin 6} {v : Nat} : a.doorbellFits n v = true ↔
    a.bit (F.HOST_RING_CFG_EN n) = true ∧ if n = 0 then
      a.ringOcc 0 ≤ (v + 2 ^ 32 - a.get (F.HOST_RING_CI_CI n)) % 2 ^ 32 ∧ (v + 2 ^ 32 - a.get (F.HOST_RING_CI_CI n)) % 2 ^ 32 ≤ a.ringSize 0
      else (v + 2 ^ 32 - a.get (F.HOST_RING_CI_CI n)) % 2 ^ 32 ≤ a.ringOcc n := by
  by_cases first : n = 0
  · subst first
    simp [State.doorbellFits]
  · have other : n.val ≠ 0 := fun e => first (Fin.ext e)
    simp [State.doorbellFits, first, other]

/-- Settles O39: R543 decides on a doorbell, R569 holds it in tableau, and the idle hint has every vector judged. -/
theorem doorbellsAndTheIdleHint : Obligations.DoorbellsAndTheIdleHint := by
  refine ⟨?taken, ?refused, ?held, ?hint⟩
  case taken =>
    intro s t n v a ahead live enabled fits
    have ok : a.doorbellFits n v.toNat = true := State.doorbellFits_iff.2 ⟨enabled, fits⟩
    have whole : v.toNat < 2 ^ 32 := v.isLt
    have here : ¬a.tableau = true := by simp [live]
    refine completes_of_eq (exec_doorbell t n v 15 s)
      (x := if n.val = 0 then a.set (F.HOST_RING_PI_PI 0) v.toNat else a.set (F.HOST_RING_CI_CI n) v.toNat)
      ((if_neg (by decide)).trans ((if_neg here).trans (if_pos ok))) ?_
    by_cases first : n = 0
    · subst first
      exact ⟨(State.get_settle ..).trans (State.get_set_of_lt _ (by decide) whole), Kept.rfl.set.settle⟩
    · have other : n.val ≠ 0 := fun e => first (Fin.ext e)
      rw [if_neg first, if_neg other]
      exact ⟨(State.get_settle ..).trans (State.get_set_of_lt _ (le_refl 32) whole), (Kept.rfl.set (by simp)).settle⟩
  case refused =>
    intro s t n v be a ahead refused
    refine completes_of_eq (exec_doorbell t n v be s) (x := a.doorbellBad n) ?effect ?_
    case effect =>
      by_cases whole : be = 15
      · have unfit := refused.resolve_left (not_not.2 whole)
        have here : ¬a.tableau = true := by simp [unfit.1]
        refine (if_neg (not_not.2 whole)).trans ((if_neg here).trans (if_neg fun ok => ?_))
        obtain ⟨enabled, fits⟩ := (State.doorbellFits_iff (a := a)).1 ok
        have bad := unfit.2.resolve_left (by simp [enabled])
        by_cases first : n = 0
        · rw [if_pos first] at fits bad
          exact bad.elim (Nat.not_lt.2 fits.1) (Nat.not_lt.2 fits.2)
        · rw [if_neg first] at fits bad
          exact Nat.not_lt.2 fits bad
      · exact if_pos whole
    obtain ⟨bit, count, raised⟩ := a.doorbellBad_reported s (s.advance t) n
    exact ⟨bit, count, raised, (Kept.rfl.setBit.count.raise : Kept _ _ a (a.doorbellBad n)).settle⟩
  case held =>
    intro s t n v a tableau
    exact completes_of_eq (exec_doorbell t n v 15 s) ((if_neg (by decide)).trans (if_pos tableau)) ⟨rfl, Kept.rfl.mapHost.settle⟩
  case hint =>
    intro s t data a
    let x := a.setBit F.HOST_STATUS_IDLE (data.getLsbD 0)
    have set : x.bit F.HOST_STATUS_IDLE = data.getLsbD 0 := State.bit_setBit_same _ (by decide) rfl
    have judged : Kept [] [.router] x x.judgeAll := Kept.rfl.judgeAll
    refine completes_of_eq (exec_idleHint t data s) (x := x.judgeAll) rfl
      ⟨?idle, fun v hv on live gather cause => ?due, (Kept.rfl.setBit.judgeAll : Kept _ _ a _).settle, fun tableau => ?frozen⟩
    case idle => rw [State.bit_settle, judged.bit, set]
    case due =>
      have here : x.tableau = false := (State.bit_setBit_apart _ (by decide)).trans live
      have unchanged : x.commitCount v = a.commitCount v :=
        State.commitCount_congr (fun r low _ => (Kept.rfl.setBit : Kept [Reg.HOST_STATUS] [] a x).reg fun mem => by
          rw [List.mem_singleton.1 mem] at low; exact absurd low (by decide)) (State.router_setBit ..) (State.elapsed_setBit ..) v
      have vec : x.vec v = a.vec v := congrArg (fun r : Router => Sparse.get (fun _ => ({} : Vec)) r.vecs v) (State.router_setBit ..)
      rw [State.vec_settle, State.judgeAll, if_neg (by simp [here])]
      exact State.vec_each_judge_of_idleHint List.nodup_range (List.mem_range.2 hv) (by rwa [vec]) (by rwa [unchanged]) (by rw [set, on])
    case frozen =>
      have here : x.tableau = true := (State.bit_setBit_apart _ (by decide)).trans tableau
      rw [State.router_settle, State.judgeAll, if_pos here]
      exact State.router_setBit a F.HOST_STATUS_IDLE (data.getLsbD 0)

/-! Reads that fail -/

/-- A pair shows the low 64 bits of what is stored. -/
theorem State.pair_setPair_mod (s : State) (lo v : Nat) : (s.setPair lo v).pair lo = v % 2 ^ 64 := by
  unfold State.pair State.setPair
  simp only [State.reg_setReg]
  rw [if_neg (by omega)]
  simp only [if_true, BitVec.toNat_ofNat]
  omega

/-- What a lasting read failure records and raises (R567). -/
structure FaultRecorded (kind addr : Nat) (payload : Bool) (a b : State) : Prop where
  fault : b.bit F.HOST_STATUS_DMA_FAULT = true
  addr : b.pair Reg.HOST_FAULT_ADDR_LO = addr % 2 ^ 64
  kind : b.get F.HOST_FAULT_KIND = kind % 4
  ofPayload : b.bit F.HOST_FAULT_PAYLOAD = payload
  count : b.get F.HOST_DMA_FAULTS_COUNT = min (a.get F.HOST_DMA_FAULTS_COUNT + 1) 0xFFFFFFFF
  raised : Raised [(a.datum, 2, if payload then 7 else 0)] a b

/-- The registers in which a lasting read failure is recorded. -/
def dmaFaultRegs : List Nat :=
  [Reg.HOST_STATUS, Reg.HOST_FAULT, Reg.HOST_FAULT_ADDR_LO, Reg.HOST_FAULT_ADDR_HI, Reg.HOST_DMA_FAULTS, Reg.SCRUB_FAULT_SEEN]

theorem State.kept_dmaFault (a : State) (kind addr : Nat) (payload : Bool) :
    Kept dmaFaultRegs [.router] a (a.dmaFault kind addr payload) :=
  Kept.rfl.setPair.setBit.set.set.count.setBit.raiseFault

theorem State.dmaFault_recorded (a : State) (kind addr : Nat) (payload : Bool) :
    FaultRecorded kind addr payload a (a.dmaFault kind addr payload) := by
  let x := ((a.setPair Reg.HOST_FAULT_ADDR_LO addr).setBit F.HOST_FAULT_PAYLOAD payload)
  let y := ((x.set F.HOST_FAULT_RING 0).set F.HOST_FAULT_KIND kind).count F.HOST_DMA_FAULTS_COUNT
  let z := y.setBit F.HOST_STATUS_DMA_FAULT true
  have whole : a.dmaFault kind addr payload = z.raise 2 (if payload then 7 else 0) := rfl
  have kept : Kept dmaFaultRegs [] a z := Kept.rfl.setPair.setBit.set.set.count.setBit
  have later : Kept [Reg.HOST_FAULT, Reg.HOST_DMA_FAULTS, Reg.HOST_STATUS] [] (a.setPair Reg.HOST_FAULT_ADDR_LO addr) z :=
    Kept.rfl.setBit.set.set.count.setBit
  have silent : Kept [Reg.SCRUB_FAULT_SEEN] [.router] z (z.raise 2 (if payload then 7 else 0)) := Kept.rfl.raiseFault
  rw [whole]
  refine ⟨?fault, ?addr, ?kind, ?payload, ?count, kept.raised⟩
  case fault => exact silent.bit.trans (State.bit_setBit_same _ (by decide) rfl)
  case addr => rw [State.pair, silent.reg, silent.reg, later.reg, later.reg, ← State.pair, State.pair_setPair_mod]
  case kind =>
    rw [silent.get, State.get_setBit_apart _ (by decide), State.get_count_apart _ (by decide)]
    exact State.get_set_same _ (by decide)
  case payload =>
    rw [silent.bit, State.bit_setBit_apart _ (by decide), State.bit_count_apart _ (by decide), State.bit_set_apart _ (by decide),
      State.bit_set_apart _ (by decide)]
    exact State.bit_setBit_same _ (by decide) rfl
  case count =>
    have before : Kept [Reg.HOST_FAULT, Reg.HOST_FAULT_ADDR_LO, Reg.HOST_FAULT_ADDR_HI] [] a ((x.set F.HOST_FAULT_RING 0).set
      F.HOST_FAULT_KIND kind) := Kept.rfl.setPair.setBit.set.set
    rw [silent.get, State.get_setBit_apart _ (by decide)]
    exact (State.get_count_same _ (by decide)).trans (by rw [before.get]; rfl)

/-- What is recorded stays where the registers of the record stay. -/
theorem FaultRecorded.kept {kind addr : Nat} {payload : Bool} {a b c : State} {regs : List Nat} {parts : List Part}
    (h : FaultRecorded kind addr payload a b) (k : Kept regs parts b c) (hp : .router ∉ parts := by decide)
    (hr : ∀ r ∈ dmaFaultRegs, r ∉ regs := by decide) : FaultRecorded kind addr payload a c where
  fault := (k.bit (hr _ (by decide))).trans h.fault
  addr := by rw [State.pair, k.reg (hr _ (by decide)), k.reg (hr _ (by decide)), ← State.pair, h.addr]
  kind := (k.get (hr _ (by decide))).trans h.kind
  ofPayload := (k.bit (hr _ (by decide))).trans h.ofPayload
  count := (k.get (hr _ (by decide))).trans h.count
  raised := h.raised.kept k hp

theorem FaultRecorded.settle {kind addr : Nat} {payload : Bool} {a b s c : State} (h : FaultRecorded kind addr payload a b) :
    FaultRecorded kind addr payload a (s.settle c b) where
  fault := (State.bit_settle ..).trans h.fault
  addr := (State.pair_settle ..).trans h.addr
  kind := (State.get_settle ..).trans h.kind
  ofPayload := (State.bit_settle ..).trans h.ofPayload
  count := (State.get_settle ..).trans h.count
  raised := h.raised.settle

end Sys2Proof.Machine

/-! PROOFS. Staged entries dropped, and what follows a link down, a failed read and a write of a ring's configuration (spec/13 R535, R536,
R541, R542, R567, R579). -/

namespace Sys2Proof.Machine

/-! Staged entries dropped -/

/-- Entries of other rings than 2 stay as they are or go. -/
theorem filter_dropStaged {k : Nat} (other : k ≠ 2) (gone : StagedEntry → Bool) (l : List StagedEntry) (seq dropped : Nat) :
    (dropStaged gone l seq dropped).1.filter (fun e => e.ring == k) = l.filter fun e => e.ring == k && !gone e := by
  induction l generalizing seq dropped with
  | nil => rfl
  | cons e l ih =>
    unfold dropStaged
    by_cases two : e.ring = 2
    · have ne : (e.ring == k) = false := by rw [two]; exact beq_eq_false_iff_ne.2 other.symm
      rw [if_neg (not_not.2 two)]
      dsimp only
      split
      · rw [ih, List.filter_cons, ne]; rfl
      · rw [List.filter_cons, List.filter_cons, ne, ih]; rfl
    · rw [if_pos two]
      dsimp only
      cases drop : gone e <;> cases here : e.ring == k <;> simp [ih, drop, here]

/-- Records that stay are numbered on, none lost. -/
theorem length_filter_dropStaged (gone : StagedEntry → Bool) (l : List StagedEntry) (seq dropped : Nat) :
    ((dropStaged gone l seq dropped).1.filter fun e => e.ring == 2).length = (l.filter fun e => e.ring == 2 && !gone e).length := by
  induction l generalizing seq dropped with
  | nil => rfl
  | cons e l ih =>
    unfold dropStaged
    by_cases two : e.ring = 2
    · rw [if_neg (not_not.2 two)]
      dsimp only
      cases drop : gone e <;> simp [ih, drop, two]
    · rw [if_pos two]
      dsimp only
      cases drop : gone e <;> simp [ih, two]

/-- Where every entry goes, no record is numbered. -/
theorem dropStaged_all {gone : StagedEntry → Bool} (all : ∀ e, gone e = true) (l : List StagedEntry) (seq dropped : Nat) :
    (dropStaged gone l seq dropped).1 = [] ∧ (dropStaged gone l seq dropped).2.1 = seq := by
  induction l generalizing seq dropped with
  | nil => exact ⟨rfl, rfl⟩
  | cons e l ih =>
    unfold dropStaged
    split <;> simp [all, ih]

namespace State

variable (s : State)

/-- Events are raised, one after the other, and the router is otherwise as it was. -/
def Raises (a b : State) : Prop := ∃ l, b.router = { a.router with inflight := a.router.inflight ++ l }

theorem Raises.rfl {a : State} : Raises a a := ⟨[], by simp⟩

theorem Raises.of_router {a b c : State} (h : Raises a b) (same : c.router = b.router) : Raises a c := by
  rwa [Raises, same]

theorem Raises.trans {a b c : State} (h : Raises a b) (h' : Raises b c) : Raises a c := by
  obtain ⟨l, eq⟩ := h
  obtain ⟨l', eq'⟩ := h'
  exact ⟨l ++ l', by rw [eq', eq]; simp⟩

theorem Raises.raise {a b : State} (h : Raises a b) {num inst : Nat} : Raises a (b.raise num inst) :=
  h.trans ⟨_, b.router_raise num inst⟩

theorem Raises.when {a b : State} {f : State → State} {c : Bool} (h : Raises a b) (hf : Raises a b → Raises a (f b)) :
    Raises a (b.when c f) := by
  cases c with
  | false => exact h
  | true => exact hf h

theorem Raises.each {a b : State} {α : Type} {f : α → State → State} {l : List α} (h : Raises a b)
    (hf : ∀ i x, Raises a x → Raises a (f i x)) : Raises a (b.each l f) := by
  induction l generalizing b with
  | nil => exact h
  | cons i l ih => exact ih (hf i b h)

/-- A trace entry dropped is counted; the first one since an entry was written is reported (R571). -/
theorem traceDrop_eq : s.traceDrop = if (s.count F.HOST_TRACE_DROP_COUNT).host.traceArmed then
    ((({ s.count F.HOST_TRACE_DROP_COUNT with host := { (s.count F.HOST_TRACE_DROP_COUNT).host with traceArmed := false } } : State).setBit
      F.HOST_STATUS_TRACE_LOST true).raise 6) else s.count F.HOST_TRACE_DROP_COUNT := rfl

theorem kept_traceDrop : Kept [Reg.HOST_TRACE_DROP, Reg.HOST_STATUS] [.host, .router] s s.traceDrop := by
  rw [traceDrop_eq]
  exact (Kept.rfl.count.host.setBit.raise).ite Kept.rfl.count

theorem host_traceDrop : s.traceDrop.host = { s.host with traceArmed := s.traceDrop.host.traceArmed } := by
  rw [traceDrop_eq]
  split
  · let y : State := { s.count F.HOST_TRACE_DROP_COUNT with
      host := { (s.count F.HOST_TRACE_DROP_COUNT).host with traceArmed := false } }
    have kept : Kept [Reg.HOST_STATUS] [.router] y ((y.setBit F.HOST_STATUS_TRACE_LOST true).raise 6) := Kept.rfl.setBit.raise
    have host : y.host = { s.host with traceArmed := false } :=
      congrArg (fun h : HostIf => { h with traceArmed := false }) (State.host_count s F.HOST_TRACE_DROP_COUNT 1)
    have same : ((y.setBit F.HOST_STATUS_TRACE_LOST true).raise 6).host = y.host := kept.2 .host (by decide)
    rw [same, host]
  · rw [State.host_count]

theorem raises_traceDrop : Raises s s.traceDrop := by
  rw [traceDrop_eq]
  split
  · exact (Raises.rfl.of_router (State.router_count s F.HOST_TRACE_DROP_COUNT 1)).of_router
      (State.router_setBit { s.count F.HOST_TRACE_DROP_COUNT with
        host := { (s.count F.HOST_TRACE_DROP_COUNT).host with traceArmed := false } } F.HOST_STATUS_TRACE_LOST true) |>.raise
  · exact Raises.rfl.of_router (State.router_count ..)

/-- The trace entries among the dropped ones, counted. -/
def traceDrops (l : List StagedEntry) (s : State) : State := s.each l fun _ s => s.traceDrop

theorem kept_traceDrops (l : List StagedEntry) : Kept [Reg.HOST_TRACE_DROP, Reg.HOST_STATUS] [.host, .router] s (s.traceDrops l) :=
  Kept.rfl.each fun _ _ x h => h.trans x.kept_traceDrop

theorem raises_traceDrops (l : List StagedEntry) : Raises s (s.traceDrops l) :=
  Raises.rfl.each fun _ x h => h.trans x.raises_traceDrop

theorem host_traceDrops (l : List StagedEntry) : (s.traceDrops l).host = { s.host with traceArmed := (s.traceDrops l).host.traceArmed } := by
  induction l generalizing s with
  | nil => rfl
  | cons e l ih =>
    change (s.traceDrop.traceDrops l).host = { s.host with traceArmed := (s.traceDrop.traceDrops l).host.traceArmed }
    rw [ih s.traceDrop, host_traceDrop]

/-- The staged entries that go. -/
def goes (gone : StagedEntry → Bool) (s : State) : List StagedEntry := s.host.staged.filter gone

/-- The records that go. -/
def recordsGone (gone : StagedEntry → Bool) (s : State) : List StagedEntry := (s.goes gone).filter fun e => e.ring == 2

/-- What is left staged, with the next SEQ and the records dropped since the last one (R579). -/
def leftStaged (gone : StagedEntry → Bool) (s : State) : List StagedEntry × Nat × Nat :=
  dropStaged gone s.host.staged
    ((s.get F.EVENT_REC_SEQ_SEQ + 2 ^ 32 - (s.stagedFor 2).length % 2 ^ 32) % 2 ^ 32) 0

/-- The parts of the state once entries are dropped. -/
def entriesOut (gone : StagedEntry → Bool) (s : State) : State :=
  { s with
    host := { s.host with staged := (s.leftStaged gone).1 }
    router := { s.router with dropped := min 0xFFFFFFFF ((s.leftStaged gone).2.2 + s.router.dropped) }
    meter := { s.meter with atlas := s.meter.atlas.map fun (x : Rec) =>
      { x with sent := x.sent && !((s.goes gone).any fun (e : StagedEntry) => e.ring == 4 && e.body.take 56 == x.body) } } }

/-- Records that go are numbered and counted. -/
def recordsCounted (gone : StagedEntry → Bool) (s : State) : State :=
  ((s.entriesOut gone).set F.EVENT_REC_SEQ_SEQ (s.leftStaged gone).2.1).when (!(s.recordsGone gone).isEmpty) fun x =>
    (x.set F.EVENT_REC_DROP_COUNT (min 0xFFFFFFFF (x.get F.EVENT_REC_DROP_COUNT + (s.recordsGone gone).length))).setBit
      F.EVENT_STATUS_REC_LOST true

theorem dropEntries_eq (gone : StagedEntry → Bool) : s.dropEntries gone =
    (s.recordsCounted gone).traceDrops ((s.goes gone).filter fun e => e.ring == 5) := rfl

theorem kept_entriesOut (gone : StagedEntry → Bool) : Kept [] [.host, .router, .meter] s (s.entriesOut gone) :=
  Kept.meter (b := { s with
    host := { s.host with staged := (s.leftStaged gone).1 }
    router := { s.router with dropped := min 0xFFFFFFFF ((s.leftStaged gone).2.2 + s.router.dropped) } })
    (Kept.router (b := { s with host := { s.host with staged := (s.leftStaged gone).1 } }) Kept.rfl.host)

theorem kept_recordsCounted (gone : StagedEntry → Bool) : Kept [Reg.EVENT_REC_SEQ, Reg.EVENT_REC_DROP, Reg.EVENT_STATUS]
    [.host, .router, .meter] s (s.recordsCounted gone) :=
  ((s.kept_entriesOut gone).mono.set : Kept _ _ s _).when fun h => h.set.setBit

/-- The registers that a drop of staged entries reaches. -/
def dropRegs : List Nat := [Reg.EVENT_REC_SEQ, Reg.EVENT_REC_DROP, Reg.EVENT_STATUS, Reg.HOST_TRACE_DROP, Reg.HOST_STATUS]

theorem kept_dropEntries (gone : StagedEntry → Bool) : Kept dropRegs [.host, .router, .meter] s (s.dropEntries gone) :=
  (s.kept_recordsCounted gone).mono.trans ((State.kept_traceDrops _ _).mono)

/-- Counting the records changes registers only. -/
theorem kept_entriesOut_recordsCounted (gone : StagedEntry → Bool) : Kept [Reg.EVENT_REC_SEQ, Reg.EVENT_REC_DROP, Reg.EVENT_STATUS] []
    (s.entriesOut gone) (s.recordsCounted gone) :=
  (Kept.rfl.set : Kept _ _ (s.entriesOut gone) _).when fun h => h.set.setBit

theorem host_recordsCounted (gone : StagedEntry → Bool) : (s.recordsCounted gone).host = { s.host with staged := (s.leftStaged gone).1 } :=
  (s.kept_entriesOut_recordsCounted gone).2 .host (by decide)

theorem host_dropEntries (gone : StagedEntry → Bool) : (s.dropEntries gone).host =
    { s.host with staged := (s.leftStaged gone).1, traceArmed := (s.dropEntries gone).host.traceArmed } := by
  rw [dropEntries_eq, host_traceDrops, host_recordsCounted]

theorem inflight_dropEntries (gone : StagedEntry → Bool) : ∃ l, (s.dropEntries gone).router.inflight = s.router.inflight ++ l := by
  have same : (s.recordsCounted gone).router = (s.entriesOut gone).router :=
    (s.kept_entriesOut_recordsCounted gone).2 .router (by decide)
  have counted : (s.recordsCounted gone).router.inflight = s.router.inflight := by
    rw [same]
    rfl
  obtain ⟨l, eq⟩ := (s.recordsCounted gone).raises_traceDrops ((s.goes gone).filter fun e => e.ring == 5)
  exact ⟨l, by rw [dropEntries_eq, eq, counted]⟩

/-- Dropped records are counted (R579). -/
theorem dropCount_dropEntries (gone : StagedEntry → Bool) : (s.dropEntries gone).get F.EVENT_REC_DROP_COUNT =
    min (s.get F.EVENT_REC_DROP_COUNT + (s.recordsGone gone).length) 0xFFFFFFFF := by
  let x := (s.entriesOut gone).set F.EVENT_REC_SEQ_SEQ (s.leftStaged gone).2.1
  have bound : s.get F.EVENT_REC_DROP_COUNT < 2 ^ 32 := s.get_lt _
  have before : x.get F.EVENT_REC_DROP_COUNT = s.get F.EVENT_REC_DROP_COUNT :=
    (State.get_set_apart _ (by decide)).trans (s.kept_entriesOut gone).get
  rw [dropEntries_eq, (State.kept_traceDrops ..).get, recordsCounted]
  cases none : (s.recordsGone gone).isEmpty with
  | true =>
    rw [List.isEmpty_iff.1 none]
    change x.get F.EVENT_REC_DROP_COUNT = _
    rw [before, List.length_nil]
    omega
  | false =>
    change ((x.set F.EVENT_REC_DROP_COUNT (min 0xFFFFFFFF (x.get F.EVENT_REC_DROP_COUNT + _))).setBit _ true).get _ = _
    rw [get_setBit_apart _ (by decide), get_set_of_lt _ (by decide) (by change _ < 2 ^ 32; omega), before, min_comm]

theorem seq_dropEntries (gone : StagedEntry → Bool) : (s.dropEntries gone).get F.EVENT_REC_SEQ_SEQ = (s.leftStaged gone).2.1 % 2 ^ 32 := by
  rw [dropEntries_eq, (State.kept_traceDrops ..).get, recordsCounted]
  refine (when_eq (fun x => x.get F.EVENT_REC_SEQ_SEQ) _ ?_).trans (get_set_same _ (by decide))
  exact (get_setBit_apart _ (by decide)).trans (get_set_apart _ (by decide))

end State

end Sys2Proof.Machine

/-! PROOFS. Reads that fail, the bus and the link (spec/13 R531, R535, R536, R567). -/

namespace Sys2Proof.Machine

namespace State

variable (s : State)

/-- A completion makes the same of a host interface where ring 1 is enabled or not alike. -/
theorem host_complete_congr {x y : State} (host : x.host = y.host) (ring : x.bit (F.HOST_RING_CFG_EN 1) = y.bit (F.HOST_RING_CFG_EN 1))
    (d : Desc) (status detail doneTime : Nat) : (x.complete d status detail doneTime).host = (y.complete d status detail doneTime).host := by
  have stays (z : State) : ({ z with host := { z.host with dispatched := z.host.dispatched.erase d } } : State).bit (F.HOST_RING_CFG_EN 1) =
      z.bit (F.HOST_RING_CFG_EN 1) := rfl
  unfold complete stageDone
  rw [stays, stays, host, ring]
  split
  · split <;> rfl
  · exact host

theorem each_cons {α : Type} (f : α → State → State) (i : α) (l : List α) : s.each (i :: l) f = (f i s).each l f := rfl

/-- Every ring named is disabled. -/
def ringsOff (l : List Nat) (s : State) : State := s.each l fun n x => x.setBit (F.HOST_RING_CFG_EN n) false

theorem kept_ringsOff (l : List Nat) : Kept (l.map Reg.HOST_RING_CFG) [] s (s.ringsOff l) :=
  Kept.rfl.each fun _ hn _ h => h.setBit (List.mem_map_of_mem hn)

theorem enabled_ringsOff (l : List Nat) (n : Nat) : (s.ringsOff l).bit (F.HOST_RING_CFG_EN n) =
    (s.bit (F.HOST_RING_CFG_EN n) && !l.contains n) := by
  induction l generalizing s with
  | nil => simp [ringsOff, each]
  | cons m l ih =>
    rw [ringsOff, each_cons, ← ringsOff, ih]
    by_cases same : n = m
    · subst same
      rw [bit_setBit_same _ (Nat.le_refl 32) rfl]
      simp
    · have other : apart (F.HOST_RING_CFG_EN m) (F.HOST_RING_CFG_EN n) = true := by
        simp [apart]; omega
      rw [bit_setBit_apart _ other]
      simp [same]

theorem log2_ringsOff (l : List Nat) (n : Nat) : (s.ringsOff l).get (F.HOST_RING_CFG_LOG2 n) = s.get (F.HOST_RING_CFG_LOG2 n) := by
  induction l generalizing s with
  | nil => rfl
  | cons m l ih =>
    rw [ringsOff, each_cons, ← ringsOff, ih]
    exact get_setBit_apart _ (by simp [apart])

end State

/-- Settles O41: a failed read by whether it has had its retry (R567), the bus by what waits (R535), the link by what is lost (R536). -/
theorem readFailuresAndTheHostLost : Obligations.ReadFailuresAndTheHostLost := by
  refine ⟨?descr, ?payload, ?none, ?bus, ?down, ?up⟩
  case descr =>
    intro s t i k r a found
    have here : (s.advance t).host.reads.find? (fun r => r.idx == i) = some r := found
    by_cases again : r.retried = true
    · let x : State := a.dmaFault k.toNat (a.slotAddr 0 32 i) false
      let y : State := x.setBit (F.HOST_RING_STATE_STOPPED 0) true
      have faulted : FaultRecorded k.toNat (a.slotAddr 0 32 i) false a y :=
        (a.dmaFault_recorded k.toNat _ false).kept (Kept.rfl.setBit : Kept [Reg.HOST_RING_STATE 0] [] x y)
      have kept : Kept (Reg.HOST_RING_STATE 0 :: dmaFaultRegs) [.router] a y := (a.kept_dmaFault ..).mono.setBit
      have host : y.host = a.host := kept.2 .host (by decide)
      have stopped : y.bit (F.HOST_RING_STATE_STOPPED 0) = true := State.bit_setBit_same _ (by decide) rfl
      refine completes_of_eq (exec_completionTimeout t (.descr i) k s)
        (x := y.mapHost fun h => { h with reads := h.reads.takeWhile fun x => x.idx != i }) ?effect
        ⟨fun once => absurd (again.symm.trans once) (by decide), fun _ => ?_⟩
      case effect =>
        simp only [here]
        exact if_pos again
      clear_value y
      let z : State := y.mapHost fun h => { h with reads := h.reads.takeWhile fun x => x.idx != i }
      have silent : Kept [] [.host] y z := Kept.rfl.mapHost
      have after := (faulted.kept silent).settle (s := s) (c := s.advance t)
      refine ⟨?_, (State.bit_settle ..).trans (silent.bit.trans stopped), after.fault, after.addr, ?_, after.ofPayload, after.count, after.raised, (kept.mono.mapHost).settle⟩
      · rw [State.host_settle, State.mapHost, host]
      · exact after.kind.trans (Nat.mod_eq_of_lt k.isLt)
    · refine completes_of_eq (exec_completionTimeout t (.descr i) k s)
        (x := a.mapHost fun h => { h with reads := h.reads.map fun x => if x.idx == i then { x with retried := true } else x }) ?effect
        ⟨fun _ => ⟨rfl, Kept.rfl.mapHost.settle⟩, fun h => absurd h again⟩
      case effect =>
        simp only [here]
        exact if_neg again
  case payload =>
    intro s t block d k r a found inside
    have here : (s.advance t).host.payloads.find? (fun r => r.desc == d) = some r := found
    have within : ¬d.len.toNat ≤ 128 * block := Nat.not_le.2 inside
    by_cases again : block ∈ r.retried
    · let x : State := a.dmaFault k.toNat (d.hostAddr.toNat + 128 * block) true
      have faulted : FaultRecorded k.toNat (d.hostAddr.toNat + 128 * block) true a x := a.dmaFault_recorded ..
      have kept : Kept dmaFaultRegs [.router] a x := a.kept_dmaFault ..
      have host : x.host = a.host := kept.2 .host (by decide)
      let y : State := x.mapHost fun h => { h with payloads := h.payloads.erase r }
      refine completes_of_eq (exec_completionTimeout t (.payload d block) k s) (x := y.refuse d st.dmaFault k.toNat) ?effect
        ⟨fun fresh => absurd again fresh, fun _ => ?_⟩
      case effect =>
        simp only [here]
        exact (if_neg within).trans (if_pos (List.contains_iff_mem.2 again))
      clear_value x
      have inner : Kept dmaFaultRegs [.router, .host] a y := kept.mono.mapHost
      have datum : y.datum = a.datum := inner.2 .datum (by decide)
      let z : State := { a with host := { a.host with payloads := a.host.payloads.erase r } }
      have erased : y.host = z.host := congrArg (fun h : HostIf => { h with payloads := h.payloads.erase r }) host
      have ended : (y.refuse d st.dmaFault k.toNat).host = (z.complete d st.dmaFault k.toNat a.datum).host := by
        rw [State.refuse, datum]
        exact State.host_complete_congr erased inner.bit ..
      have after := (faulted.kept (Kept.rfl.mapHost.refuse : Kept [] [.host] x (y.refuse d st.dmaFault k.toNat))).settle
        (s := s) (c := s.advance t)
      exact ⟨ended, after.fault, after.addr, after.kind.trans (Nat.mod_eq_of_lt k.isLt), after.ofPayload, after.count, after.raised,
        (kept.mono.mapHost.refuse : Kept _ _ a (y.refuse d st.dmaFault k.toNat)).settle⟩
    · refine completes_of_eq (exec_completionTimeout t (.payload d block) k s)
        (x := a.mapHost fun h => { h with payloads := h.payloads.erase r ++ [{ r with retried := block :: r.retried }] }) ?effect
        ⟨fun _ => ⟨rfl, Kept.rfl.mapHost.settle⟩, fun h => absurd h again⟩
      case effect =>
        simp only [here]
        exact (if_neg within).trans (if_neg fun h => again (List.contains_iff_mem.1 h))
  case none =>
    intro s t x k a absent
    refine completes_of_eq (exec_completionTimeout t x k s) (x := a) ?effect Kept.rfl.settle
    cases x with
    | descr i =>
      have gone : (s.advance t).host.reads.find? (fun r => r.idx == i) = none := List.find?_eq_none.2 fun r hr => by simpa using absent r hr
      simp only [gone]
      rfl
    | payload d block =>
      have gone : (s.advance t).host.payloads.find? (fun r => r.desc == d) = none :=
        List.find?_eq_none.2 fun r hr => by simpa using absent r hr
      simp only [gone]
      rfl
  case bus =>
    intro s t bme d3 a
    let x : State := (a.setBit F.HOST_STATUS_BME bme).mapHost fun h => { h with d3hot := d3 }
    have kept : Kept [Reg.HOST_STATUS] [.host] a x := Kept.rfl.setBit.mapHost
    have master : x.bit F.HOST_STATUS_BME = bme := State.bit_setBit_same _ (by decide) rfl
    have host : x.host = { a.host with d3hot := d3 } := by
      rw [show x.host = { (a.setBit F.HOST_STATUS_BME bme).host with d3hot := d3 } from rfl, State.host_setBit]
    refine completes_of_eq (exec_busMasterEnable t bme d3 s)
      (x := x.when x.busOpen fun s => s.mapHost fun h => { h with writes := h.writes ++ h.outbox, outbox := [] }) rfl ?_
    have is_open : x.busOpen = (bme && !d3) := by rw [State.busOpen, master, host]
    clear_value x
    rw [is_open]
    refine ⟨?_, ?_, (kept.when fun h => h.mapHost).settle⟩
    · rw [State.bit_settle]
      cases bme && !d3 <;> exact master
    · rw [State.host_settle]
      cases bme && !d3
      · exact host
      · rw [State.when_true, State.mapHost, host]
        rfl
  case down =>
    intro s t a
    let r : State := a.ringsOff (List.range 6)
    let u : State := r.dropEntries fun _ => true
    let h : State := u.mapHost HostIf.lost
    let l : State := ((h.setBit F.HOST_STATUS_LINK_UP false).set F.HOST_STATUS_SPEED 0).setBit F.HOST_STATUS_LINK_LOST true
    let b : State := (l.noteClass 13).raise 5
    have off : Kept ((List.range 6).map Reg.HOST_RING_CFG) [] a r := a.kept_ringsOff _
    have dropped : Kept State.dropRegs [.host, .router, .meter] r u := r.kept_dropEntries _
    have down : Kept [Reg.HOST_STATUS] [] h l := Kept.rfl.setBit.set.setBit
    have told : Kept [Reg.SCRUB_FAULT_SEEN] [] l (l.noteClass 13) := Kept.rfl.noteClass
    have silent : Kept [Reg.HOST_STATUS, Reg.SCRUB_FAULT_SEEN] [.host, .router] u b :=
      (((Kept.rfl.mapHost : Kept [] [.host] u h).mono.trans down.mono).trans told.mono).raise
    have last : Kept [Reg.SCRUB_FAULT_SEEN] [.router] l b := told.mono.raise
    have host : b.host = u.host.lost := (last.2 .host (by decide)).trans (down.2 .host (by decide))
    have rest : Kept (Reg.SCRUB_FAULT_SEEN :: State.dropRegs) [.host, .router, .meter] r b := dropped.mono.trans silent.mono
    have same : r.host = a.host := off.2 .host (by decide)
    have gone : (r.recordsGone fun _ => true).length = (a.stagedFor 2).length := by
      rw [State.recordsGone, State.goes, State.stagedFor, same, List.filter_true]
    obtain ⟨empty, number⟩ := dropStaged_all (gone := fun _ => true) (fun _ => rfl) r.host.staged
      ((r.get F.EVENT_REC_SEQ_SEQ + 2 ^ 32 - (r.stagedFor 2).length % 2 ^ 32) % 2 ^ 32) 0
    refine completes_of_eq (exec_linkDown t s) (x := b) rfl
      ⟨fun n hn => ⟨?en, ?log2⟩, ?host, ?count, ?seq, ?linkUp, ?speed, ?lost, ?told, ?kept⟩
    case en =>
      rw [State.bit_settle, rest.bit (by interval_cases n <;> decide), State.enabled_ringsOff]
      simp [hn]
    case log2 =>
      rw [State.get_settle, rest.get (by interval_cases n <;> decide)]
      exact State.log2_ringsOff ..
    case host =>
      have left := r.host_dropEntries fun _ => true
      rw [State.leftStaged, empty, same] at left
      rw [State.host_settle, host, show u.host = _ from left]
      rfl
    case count =>
      rw [State.get_settle, silent.get]
      refine (r.dropCount_dropEntries _).trans ?_
      rw [gone, off.get]
    case seq =>
      rw [State.get_settle, silent.get]
      refine (r.seq_dropEntries _).trans ?_
      rw [State.leftStaged, number, off.get, State.stagedFor, same, ← State.stagedFor, Nat.mod_mod]
    case linkUp =>
      rw [State.bit_settle, last.bit, State.bit_setBit_apart _ (by decide), State.bit_set_apart _ (by decide)]
      exact State.bit_setBit_same _ (by decide) rfl
    case speed =>
      rw [State.get_settle, last.get, State.get_setBit_apart _ (by decide)]
      exact State.get_set_of_lt _ (by decide) (by decide)
    case lost =>
      rw [State.bit_settle, last.bit]
      exact State.bit_setBit_same _ (by decide) rfl
    case told =>
      obtain ⟨more, eq⟩ := r.inflight_dropEntries fun _ => true
      have quiet : Kept [Reg.HOST_STATUS, Reg.SCRUB_FAULT_SEEN] [.host] u (l.noteClass 13) :=
        ((Kept.rfl.mapHost : Kept [] [.host] u h).mono.trans down.mono).trans told.mono
      have first : r.router = a.router := off.2 .router (by decide)
      have before : (l.noteClass 13).router = u.router := quiet.2 .router (by decide)
      have at_ : (l.noteClass 13).datum = a.datum :=
        ((quiet.2 .datum (by decide)).trans (dropped.2 .datum (by decide))).trans (off.2 .datum (by decide))
      refine ⟨more, ?_⟩
      rw [State.router_settle, State.router_raise, before, show u.router.inflight = _ from eq, first, at_]
    case kept => exact (off.mono.trans rest.mono).settle
  case up =>
    intro s t g a
    let x : State := a.setBit F.HOST_STATUS_LINK_UP true
    let y : State := x.set F.HOST_STATUS_SPEED (if g then 2 else 1)
    have kept : Kept [Reg.HOST_STATUS] [] a y := Kept.rfl.setBit.set
    refine completes_of_eq (exec_linkUp t g s) (x := y.raise 5) rfl ⟨?_, ?_, kept.raised.settle, kept.mono.raise.settle⟩
    · rw [State.bit_settle, State.bit_raise_apart _ (by decide), State.bit_set_apart _ (by decide)]
      exact State.bit_setBit_same _ (by decide) rfl
    · rw [State.get_settle, State.get_raise_apart _ (by decide)]
      exact State.get_set_of_lt _ (by decide) (by cases g <;> decide)

end Sys2Proof.Machine

/-! PROOFS. Commands on their way (spec/13 R546, R549, R570, R573): what tracing, dispatch and the fences leave alone. -/

namespace Sys2Proof.Machine

/-- The registers that tracing reaches. -/
def traceRegs : List Nat := [Reg.HOST_TRACE_DROP, Reg.HOST_STATUS]

namespace State

variable (s : State)

theorem kept_foundFull (n : Nat) (unclassed : faultClass 3 n = none := by rfl) : Kept [] [.host, .router] s (s.foundFull n) := by
  unfold foundFull
  exact (Kept.rfl.host.raise (unclassed := unclassed)).ite Kept.rfl

theorem kept_trace (stamp : Nat) (bytes : List Byte) : Kept traceRegs [.host, .router] s (s.trace stamp bytes) := by
  unfold trace
  exact Kept.rfl.stage.ite ((s.kept_foundFull 5).mono.trans (kept_traceDrop _))

theorem kept_traceCmd (d : Desc) (status : Nat) : Kept traceRegs [.host, .router] s (s.traceCmd d status) :=
  Kept.rfl.when fun h => h.trans (kept_trace ..)

theorem kept_dispatch (d : Desc) : Kept traceRegs [.host, .router] s (s.dispatch d) :=
  (Kept.rfl.mapHost : Kept traceRegs [.host, .router] s _).trans (kept_traceCmd ..)

theorem kept_enterTimed (d : Desc) : Kept [] [.host] s (s.enterTimed d) := by
  unfold enterTimed
  exact Kept.rfl.stageDone.ite (Kept.rfl.stageDone.ite Kept.rfl.mapHost)

theorem kept_copied (d : Desc) : Kept [] [.host] s (s.copied d) := by
  unfold copied
  split
  · exact Kept.rfl.stageDone
  · exact Kept.rfl.mapHost

theorem kept_pumpList (l : List Desc) : Kept traceRegs [.host, .router] s (pumpList l s) := by
  induction l generalizing s with
  | nil => exact Kept.rfl.mapHost
  | cons d l ih =>
    unfold pumpList
    exact Kept.rfl.mapHost.ite (((s.kept_enterTimed d).mono.trans (ih _)).ite ((s.kept_dispatch d).trans (ih _)))

theorem kept_serveFetched : Kept traceRegs [.host, .router] s s.serveFetched := by
  unfold serveFetched
  exact Kept.rfl.ite (s.kept_pumpList _)

/-! What reaches host memory stays -/

/-- The reads in flight and the writes to host memory are as they were. -/
structure SameTraffic (a b : State) : Prop where
  reads : b.host.reads = a.host.reads
  payloads : b.host.payloads = a.host.payloads
  writes : b.host.writes = a.host.writes

namespace SameTraffic

variable {a b c : State}

theorem rfl : SameTraffic a a := ⟨Eq.refl _, Eq.refl _, Eq.refl _⟩

theorem trans (h : SameTraffic a b) (h' : SameTraffic b c) : SameTraffic a c :=
  ⟨h'.reads.trans h.reads, h'.payloads.trans h.payloads, h'.writes.trans h.writes⟩

/-- The host interface is as it was but for what it keeps on the way. -/
theorem of_host {fetched timed dispatched : List Desc} {staged : List StagedEntry} {full : List Nat} {trace : Bool}
    (h : b.host = { a.host with fetched, timed, dispatched, staged, fullArmed := full, traceArmed := trace }) : SameTraffic a b := by
  constructor <;> rw [h]

theorem of_kept {regs : List Nat} {parts : List Part} (h : Kept regs parts a b) (hp : .host ∉ parts := by decide) : SameTraffic a b := by
  have same : b.host = a.host := h.2 .host hp
  constructor <;> rw [same]

end SameTraffic

theorem sameTraffic_stageDone (d : Desc) (status detail doneTime : Nat) : SameTraffic s (s.stageDone d status detail doneTime) := by
  unfold stageDone
  split
  · exact .of_host rfl
  · exact .rfl

theorem host_foundFull (n : Nat) : (s.foundFull n).host = { s.host with fullArmed := (s.foundFull n).host.fullArmed } := by
  unfold foundFull
  split
  · rw [host_raise]
  · rfl

theorem sameTraffic_trace (stamp : Nat) (bytes : List Byte) : SameTraffic s (s.trace stamp bytes) := by
  unfold trace
  split
  · exact .of_host rfl
  · exact (SameTraffic.of_host (s.host_foundFull 5)).trans (.of_host (host_traceDrop _))

theorem sameTraffic_traceCmd (d : Desc) (status : Nat) : SameTraffic s (s.traceCmd d status) := by
  unfold traceCmd
  cases s.bit F.HOST_TRACE_CTRL_CMD_EN with
  | false => exact .rfl
  | true => exact s.sameTraffic_trace ..

theorem sameTraffic_dispatch (d : Desc) : SameTraffic s (s.dispatch d) :=
  (SameTraffic.of_host rfl : SameTraffic s (s.mapHost fun h => { h with dispatched := h.dispatched ++ [d] })).trans
    (sameTraffic_traceCmd ..)

theorem sameTraffic_enterTimed (d : Desc) : SameTraffic s (s.enterTimed d) := by
  unfold enterTimed
  split
  · exact s.sameTraffic_stageDone ..
  · split
    · exact s.sameTraffic_stageDone ..
    · exact .of_host rfl

theorem sameTraffic_copied (d : Desc) : SameTraffic s (s.copied d) := by
  unfold copied
  split
  · exact s.sameTraffic_stageDone ..
  · exact .of_host rfl

theorem sameTraffic_pumpList (l : List Desc) : SameTraffic s (pumpList l s) := by
  induction l generalizing s with
  | nil => exact .of_host rfl
  | cons d l ih =>
    unfold pumpList
    split
    · exact .of_host rfl
    · split
      · exact (s.sameTraffic_enterTimed d).trans (ih _)
      · exact (s.sameTraffic_dispatch d).trans (ih _)

theorem sameTraffic_serveFetched : SameTraffic s s.serveFetched := by
  unfold serveFetched
  split
  · exact .rfl
  · exact s.sameTraffic_pumpList _

/-- Nothing is traced where CMD_EN does not ask for it. -/
theorem traceCmd_of_off {s : State} (off : s.bit F.HOST_TRACE_CTRL_CMD_EN = false) (d : Desc) (status : Nat) : s.traceCmd d status = s := by
  rw [traceCmd, off]
  rfl

/-- With nothing fetched there is nothing to dispatch. -/
theorem serveFetched_of_nil {s : State} (none : s.host.fetched = []) : s.serveFetched = s := by
  unfold serveFetched
  split
  · rfl
  · rw [none, pumpList, mapHost, ← none]

end State

end Sys2Proof.Machine

/-! PROOFS. Rings set up and written (spec/13 R537 to R542, R552). -/

namespace Sys2Proof.Machine

/-- An event raised under a condition, the router being otherwise as it was. -/
theorem Kept.raisedWhen {regs : List Nat} {parts : List Part} {a b : State} (h : Kept regs parts a b) {q : Bool} {num inst : Nat}
    (hp : .router ∉ parts := by decide) (hd : .datum ∉ parts := by decide) :
    Raised (if q then [(a.datum, num, inst)] else []) a (b.when q fun x => x.raise num inst) := by
  cases q with
  | true => exact h.raised hp hd
  | false =>
    have same : b.router = a.router := h.2 .router hp
    rw [Raised, State.when_false, same]
    simp

namespace State

variable (s : State)

/-- A field written with what it holds changes no register. -/
theorem reg_set_get (f : FieldRef) (r : Nat) : (s.set f (s.get f)).reg r = s.reg r := by
  unfold set
  rw [reg_setReg]
  split
  next here =>
    apply BitVec.eq_of_toNat_eq
    have same : putBits (s.reg f.addr).toNat f.lo f.w (s.get f) = (s.reg f.addr).toNat := by
      apply Nat.eq_of_testBit_eq
      intro i
      rw [testBit_putBits, State.get]
      split
      · rfl
      · split
        · rw [testBit_bitsOf, decide_eq_true (by omega), Bool.true_and, Nat.sub_add_cancel (by omega)]
        · rfl
    rw [same, ← here]
    simp
  next => rfl

theorem kept_set_get {f : FieldRef} {v : Nat} (same : v = s.get f) : Kept [] [] s (s.set f v) :=
  ⟨fun r _ => same ▸ s.reg_set_get f r, fun p _ => by cases p <;> simp [Part.same]⟩

theorem kept_hostWrite (addr : Nat) (bytes : List Byte) : Kept [] [.host] s (s.hostWrite addr bytes) := by
  unfold hostWrite
  exact Kept.rfl.host.ite Kept.rfl.host

/-- More has been written to host memory. -/
def wrote (l : List HostWrite) (s : State) : State := { s with host := { s.host with writes := s.host.writes ++ l } }

theorem hostWrite_of_open {s : State} (bus : s.busOpen = true) (addr : Nat) (bytes : List Byte) :
    s.hostWrite addr bytes = s.wrote [{ addr, bytes }] := if_pos bus

theorem wrote_wrote (l l' : List HostWrite) : (s.wrote l).wrote l' = s.wrote (l ++ l') := by
  simp [wrote]

theorem busOpen_wrote (l : List HostWrite) : (s.wrote l).busOpen = s.busOpen := rfl

/-- An entry's writes, the phase dword last (R540). -/
def entryWrites (n : Nat) (body : List Byte) (s : State) : List HostWrite :=
  let pos := (ringEntry n).2
  let at0 := s.slotAddr n (ringEntry n).1 (s.get (F.HOST_RING_PI_PI n))
  (if pos = 0 then [{ addr := at0 + 4, bytes := body.drop 4 }]
    else { addr := at0, bytes := body.take pos } ::
      if pos + 4 < (ringEntry n).1 then [{ addr := at0 + pos + 4, bytes := body.drop (pos + 4) }] else []) ++
    [{ addr := at0 + pos, bytes := phaseDword n body (phaseBit (s.get (F.HOST_RING_PI_PI n)) (s.ringSize n)) }]

theorem putEntry_of_open {s : State} (bus : s.busOpen = true) (n : Nat) (body : List Byte) : s.putEntry n body =
    (s.wrote (s.entryWrites n body)).set (F.HOST_RING_PI_PI n) (s.get (F.HOST_RING_PI_PI n) + 1) := by
  have after (l : List HostWrite) : (s.wrote l).busOpen = true := bus
  unfold putEntry entryWrites
  dsimp only
  by_cases first : (ringEntry n).2 = 0
  · simp only [if_pos first]
    rw [hostWrite_of_open bus, hostWrite_of_open (after _), wrote_wrote]
  · simp only [if_neg first]
    by_cases more : (ringEntry n).2 + 4 < (ringEntry n).1
    · rw [decide_eq_true more, when_true, if_pos more, hostWrite_of_open bus, hostWrite_of_open (after _), wrote_wrote,
        hostWrite_of_open (after _), wrote_wrote]
      rfl
    · rw [decide_eq_false more, when_false, if_neg more, hostWrite_of_open bus, hostWrite_of_open (after _), wrote_wrote]

/-- The writes of an entry of another ring than 0 and 1: the bytes before its phase dword, those after it, and that dword. -/
theorem entryWrites_of_two_le (n : Fin 6) (h : 2 ≤ n.val) (body : List Byte) : s.entryWrites n body =
    let pos := if n = 3 then 0x3C else if n = 4 then 0x40 else 0x1C
    let at0 := s.pair (Reg.HOST_RING_BASE_LO n) + (if n = 3 then 64 else if n = 4 then 128 else 32) *
      (s.get (F.HOST_RING_PI_PI n) % s.ringSize n)
    [{ addr := at0, bytes := body.take pos }] ++ (if n = 4 then [{ addr := at0 + 0x44, bytes := body.drop 0x44 }] else []) ++
      [{ addr := at0 + pos
         bytes := BitVec.ofNat 8 (if s.get (F.HOST_RING_PI_PI n) / s.ringSize n % 2 = 0 then 1 else 0) ::
          (body.extract pos (pos + 4)).drop 1 }] :=
  match n, h with
  | 2, _ => rfl
  | 3, _ => rfl
  | 4, _ => rfl
  | 5, _ => rfl

/-- The writes of a completion: its bytes from 4 on, and its first dword with the phase bit. -/
theorem entryWrites_one (body : List Byte) : s.entryWrites 1 body =
    let at0 := s.pair (Reg.HOST_RING_BASE_LO 1) + 16 * (s.get (F.HOST_RING_PI_PI 1) % s.ringSize 1)
    [{ addr := at0 + 4, bytes := body.drop 4 },
      { addr := at0
        bytes := (body.extract 0 4).take 3 ++ [BitVec.ofNat 8 (if s.get (F.HOST_RING_PI_PI 1) / s.ringSize 1 % 2 = 0 then 1 else 0)] }] :=
  rfl

/-- No register of a ring's configuration is reached by a drop of staged entries. -/
theorem ringCfg_not_mem (n : Fin 6) : Reg.HOST_RING_CFG n ∉ dropRegs := by
  revert n
  decide

end State

namespace State

variable (s : State) (n : Fin 6) (data : Word)

/-- A ring's size and its enabling as written. -/
def ringSized : State :=
  (s.set (F.HOST_RING_CFG_LOG2 n) (bitsOf data.toNat 0 5)).setBit (F.HOST_RING_CFG_EN n) (data.getLsbD 31)

theorem kept_ringSized : Kept [Reg.HOST_RING_CFG n] [] s (s.ringSized n data) := (Kept.rfl.set (by simp)).setBit (by simp)

theorem enabled_ringSized : (s.ringSized n data).bit (F.HOST_RING_CFG_EN n) = data.getLsbD 31 :=
  bit_setBit_same _ (Nat.le_refl 32) rfl

theorem log2_ringSized : (s.ringSized n data).get (F.HOST_RING_CFG_LOG2 n) = data.toNat % 32 := by
  rw [ringSized, get_setBit_apart _ (by simp [apart]), get_set_same _ (show 0 + 5 ≤ 32 by decide)]
  simp [bitsOf]

/-- A write that leaves an enabled ring as it is changes no register. -/
theorem kept_ringSized_of_enabled {s : State} {n : Fin 6} {data : Word} (fits : s.ringCfgRefused n data = false)
    (on : s.bit (F.HOST_RING_CFG_EN n) = true) (stays : data.getLsbD 31 = true) : Kept [] [] s (s.ringSized n data) := by
  have size : bitsOf data.toNat 0 5 = s.get (F.HOST_RING_CFG_LOG2 n) := by
    by_contra other
    simp [ringCfgRefused, on, other] at fits
  have sized := s.kept_set_get size
  have bit : (s.set (F.HOST_RING_CFG_LOG2 n) (bitsOf data.toNat 0 5)).get (F.HOST_RING_CFG_EN n) = 1 := by
    have lt := s.get_lt (F.HOST_RING_CFG_EN n)
    have set : s.get (F.HOST_RING_CFG_EN n) ≠ 0 := by simpa [State.bit] using on
    rw [sized.get (by simp)]
    change _ < 2 at lt
    omega
  let x := (s.set (F.HOST_RING_CFG_LOG2 n) (bitsOf data.toNat 0 5))
  have noted : Kept [] [] x (x.noteSet true (F.HOST_RING_CFG_EN n).addr (2 ^ (F.HOST_RING_CFG_EN n).lo)) :=
    ⟨fun _ _ => rfl, fun p _ => by cases p <;> simp [Part.same, noteSet]⟩
  rw [ringSized, stays]
  exact sized.trans (noted.trans (kept_set_get _ (((noted.get (by simp)).trans bit).symm)))

theorem writeRingCfg_of_refused {s : State} {n : Fin 6} {data : Word} (refused : s.ringCfgRefused n data = true) :
    s.writeRingCfg n data = s.setBit F.HOST_STATUS_CFG_REJECT true := if_pos refused

theorem writeRingCfg_of_fits {s : State} {n : Fin 6} {data : Word} (fits : s.ringCfgRefused n data = false) : s.writeRingCfg n data =
    if data.getLsbD 31 then
      if s.bit (F.HOST_RING_CFG_EN n) then s.ringSized n data
      else (((s.ringSized n data).set (F.HOST_RING_PI_PI n) 0).set (F.HOST_RING_CI_CI n) 0).setReg (Reg.HOST_RING_STATE n) 0
    else ((s.ringSized n data).dropEntries fun e => e.ring == n.val).mapHost fun h =>
      { h with reads := if n.val = 0 then [] else h.reads } :=
  if_neg (by rw [fits]; decide)

end State

/-- Settles O44: a write of a ring's configuration by R541 and R542, an entry by the two writes of R540. -/
theorem ringsAreSetUpAndWritten : Obligations.RingsAreSetUpAndWritten := by
  refine ⟨?enable, ?entry, ?completion, ?still⟩
  case enable =>
    intro s t n data a live
    have effect : (a.bar0 (Reg.HOST_RING_CFG n) data (State.writeRingCfg n data)) = a.writeRingCfg n data := a.bar0_of_not_tableau live ..
    have kept := a.kept_ringSized n data
    have enabled := a.enabled_ringSized n data
    have log2 := a.log2_ringSized n data
    cases refused : a.ringCfgRefused n data with
    | true =>
      refine completes_of_eq (exec_ringEnable t n data s) (effect.trans (State.writeRingCfg_of_refused refused))
        ⟨fun _ => ⟨(State.bit_settle ..).trans (State.bit_setBit_same _ (by decide) rfl), Kept.rfl.setBit.settle⟩, ?_, ?_, ?_⟩ <;>
      exact fun h => absurd h (by decide)
    | false =>
      have taken := effect.trans (State.writeRingCfg_of_fits refused)
      cases new : data.getLsbD 31 with
      | true =>
        rw [new, if_pos rfl] at taken
        rw [new] at enabled
        cases was : a.bit (F.HOST_RING_CFG_EN n) with
        | true =>
          rw [was, if_pos rfl] at taken
          refine completes_of_eq (exec_ringEnable t n data s) taken ⟨nofun, nofun, fun _ _ _ => ?_, nofun⟩
          exact (State.kept_ringSized_of_enabled refused was new).settle
        | false =>
          rw [was, if_neg (by decide)] at taken
          let x : State := (a.ringSized n data).set (F.HOST_RING_PI_PI n) 0
          let y : State := x.set (F.HOST_RING_CI_CI n) 0
          let z : State := y.setReg (Reg.HOST_RING_STATE n) 0
          have last : Kept [Reg.HOST_RING_STATE n] [] y z := Kept.rfl.setReg (by simp)
          have mid : Kept [Reg.HOST_RING_CI n, Reg.HOST_RING_STATE n] [] x z :=
            (Kept.rfl.set (by simp) : Kept _ _ x y).trans (last.mono (by simp) (by simp))
          have all : Kept [Reg.HOST_RING_PI n, Reg.HOST_RING_CI n, Reg.HOST_RING_STATE n] [] (a.ringSized n data) z :=
            (Kept.rfl.set (by simp) : Kept _ _ _ x).trans (mid.mono (by simp) (by simp))
          refine completes_of_eq (exec_ringEnable t n data s) (x := z) taken
            ⟨nofun, fun _ _ _ => ⟨?_, ?_, ?_, ?_, ?_, ?_⟩, nofun, nofun⟩
          · rw [State.bit_settle, all.bit (by simp), enabled]
          · rw [State.get_settle, all.get (by simp), log2]
          · rw [State.get_settle, mid.get (by simp)]
            exact State.get_set_of_lt _ (Nat.le_refl 32) (Nat.two_pow_pos 32)
          · rw [State.get_settle, last.get (by simp)]
            exact State.get_set_of_lt _ (Nat.le_refl 32) (Nat.two_pow_pos 32)
          · rw [State.reg_settle, State.reg_setReg, if_pos rfl]
          · exact ((kept.mono (by simp) (by simp)).trans (all.mono (by simp) (by simp))).settle
      | false =>
        rw [new, if_neg (by decide)] at taken
        rw [new] at enabled
        let x : State := a.ringSized n data
        let y : State := x.dropEntries fun e => e.ring == n.val
        let z : State := y.mapHost fun h => { h with reads := if n.val = 0 then [] else h.reads }
        have dropped : Kept State.dropRegs [.host, .router, .meter] x y := x.kept_dropEntries _
        have silent : Kept [] [.host] y z := Kept.rfl.mapHost
        have rest : Kept State.dropRegs [.host, .router, .meter] x z := dropped.mapHost
        have host := x.host_dropEntries fun e => e.ring == n.val
        have before : x.host = a.host := kept.2 .host (by simp)
        rw [before] at host
        have staged (k : Nat) : z.stagedFor k = (x.leftStaged fun e => e.ring == n.val).1.filter fun e => e.ring == k :=
          congrArg (fun h : HostIf => h.staged.filter fun (e : StagedEntry) => e.ring == k) host
        refine completes_of_eq (exec_ringEnable t n data s) (x := z) taken ⟨nofun, nofun, nofun, fun _ _ =>
          ⟨?en, ?log2, ?gone, ?others, ?count, ?records, ?reads, ?fetched, ?dispatched, ?payloads, ?kept⟩⟩
        case en => rw [State.bit_settle, rest.bit (State.ringCfg_not_mem n), enabled]
        case log2 => rw [State.get_settle, rest.get (State.ringCfg_not_mem n), log2]
        case gone =>
          change z.stagedFor n = []
          rw [staged]
          by_cases two : n.val = 2
          · apply List.eq_nil_of_length_eq_zero
            rw [two]
            refine (length_filter_dropStaged ..).trans ?_
            simp
          · refine (filter_dropStaged two ..).trans ?_
            simp
        case others =>
          intro k other not2
          change z.stagedFor k = _
          rw [staged]
          refine (filter_dropStaged not2 ..).trans ?_
          rw [before, State.stagedFor]
          exact List.filter_congr fun e _ => by
            cases here : e.ring == k with
            | false => rfl
            | true => rw [eq_of_beq here, beq_eq_false_iff_ne.2 other]; rfl
        case count =>
          rintro rfl
          rw [State.get_settle, silent.get]
          refine (x.dropCount_dropEntries _).trans ?_
          rw [kept.get, State.recordsGone, State.goes, before, List.filter_filter, State.stagedFor]
          simp
        case records =>
          intro other
          have ne : n.val ≠ 2 := fun e => other (Fin.ext e)
          change (z.stagedFor 2).length = _
          rw [staged]
          refine (length_filter_dropStaged ..).trans ?_
          rw [before, State.stagedFor]
          congr 1
          exact List.filter_congr fun e _ => by
            cases here : e.ring == 2 with
            | false => rfl
            | true => rw [eq_of_beq here, beq_eq_false_iff_ne.2 ne.symm]; rfl
        case reads =>
          have same : z.host.reads = if n.val = 0 then [] else a.host.reads := by
            rw [show z.host.reads = if n.val = 0 then [] else y.host.reads from rfl, host]
          rw [State.host_settle, same]
          exact if_congr (Fin.ext_iff (b := 0)).symm rfl rfl
        case fetched => rw [State.host_settle, show z.host.fetched = y.host.fetched from rfl, host]
        case dispatched => rw [State.host_settle, show z.host.dispatched = y.host.dispatched from rfl, host]
        case payloads => rw [State.host_settle, show z.host.payloads = y.host.payloads from rfl, host]
        case kept => exact ((kept.mono (by simp) (by simp)).trans (rest.mono (by simp [State.dropRegs]) (by simp))).settle
  case entry =>
    intro s t n e es a p size pos at0 ring staged bus live on plain
    have first : n.val ≠ 1 := by omega
    have go : (a.busOpen && !a.tableau && a.bit (F.HOST_RING_CFG_EN n) && (n.val != 1 || a.eventsWritten e.stamp)) = true := by
      simp [bus, live, on, first]
    have here : (s.advance t).stagedFor n = e :: es := staged
    let y : State := a.mapHost fun h => { h with
      staged := h.staged.erase e
      fullArmed := if 2 ≤ n.val then n.val :: h.fullArmed.filter (· ≠ n.val) else h.fullArmed
      traceArmed := h.traceArmed || n.val == 5 }
    let w : State := y.wrote (y.entryWrites n e.body)
    refine completes_of_eq (exec_ringWrite t n s) (x := w.set (F.HOST_RING_PI_PI n) (p + 1)) ?effect ⟨?_, ?_, ?_, ?_⟩
    case effect =>
      simp only [here]
      refine (if_pos go).trans ?_
      simp only [plain]
      exact State.putEntry_of_open (s := y) bus n e.body
    · rw [State.host_settle, State.host_set]
      exact (congrArg (a.host.writes ++ ·) (a.entryWrites_of_two_le n ring e.body)).trans (by
        rw [← List.append_assoc, ← List.append_assoc])
    · rw [State.host_settle, State.host_set]
      rfl
    · rw [State.get_settle]
      exact State.get_set_same _ (Nat.le_refl 32)
    · exact ((Kept.rfl.host : Kept [Reg.HOST_RING_PI n] [.host] a w).set (by simp)).settle
  case completion =>
    intro s t e es d a p at0 staged bus live on written cmd
    have go : (a.busOpen && !a.tableau && a.bit (F.HOST_RING_CFG_EN (1 : Fin 6)) && ((1 : Fin 6).val != 1 || a.eventsWritten e.stamp)) =
        true := by
      rw [bus, live, written, show a.bit (F.HOST_RING_CFG_EN (1 : Fin 6)) = true from on]
      decide
    have here : (s.advance t).stagedFor (1 : Fin 6) = e :: es := staged
    let y : State := a.mapHost fun h => { h with staged := h.staged.erase e, traceArmed := h.traceArmed || (1 : Fin 6).val == 5 }
    let w : State := (y.wrote (y.entryWrites 1 e.body)).set (F.HOST_RING_PI_PI 1) (p + 1)
    let c : State := w.count F.HOST_CMDS_COUNT
    let d' : State := c.traceCmd d e.status
    let e' : State := d'.when (d.flags.getLsbD 0) fun s => s.raise 0
    have wrote : Kept [] [.host] a (y.wrote (y.entryWrites 1 e.body)) := (Kept.rfl.mapHost : Kept [] [.host] a y).host
    have pi : Kept [Reg.HOST_RING_PI 1] [.host] a w := wrote.mono.set
    have counted : Kept [Reg.HOST_RING_PI 1, Reg.HOST_CMDS] [.host] a c := pi.mono.count
    have traced : Kept traceRegs [.host, .router] c d' := c.kept_traceCmd ..
    have told : Kept [] [.router] d' e' := Kept.rfl.when fun h => h.raise
    have served : Kept traceRegs [.host, .router] e' e'.serveFetched := e'.kept_serveFetched
    have rest : Kept traceRegs [.host, .router] c e'.serveFetched := (traced.trans told.mono).trans served
    refine completes_of_eq (exec_ringWrite t 1 s) (x := e'.serveFetched) ?effect ⟨?writes, ?pi, ?count, ?quiet, ?kept⟩
    case effect =>
      simp only [here]
      refine (if_pos go).trans ?_
      simp only [cmd]
      exact congrArg (fun x : State => (((x.count F.HOST_CMDS_COUNT).traceCmd d e.status).when (d.flags.getLsbD 0) fun s => s.raise 0).serveFetched)
        (State.putEntry_of_open (s := y) bus 1 e.body)
    case writes =>
      have same : State.SameTraffic w e'.serveFetched :=
        (((State.SameTraffic.of_kept (Kept.rfl.count : Kept [Reg.HOST_CMDS] [] w c)).trans (c.sameTraffic_traceCmd ..)).trans
          (.of_kept told)).trans e'.sameTraffic_serveFetched
      rw [State.host_settle, same.writes, State.host_set]
      exact congrArg (a.host.writes ++ ·) (a.entryWrites_one e.body)
    case pi =>
      rw [State.get_settle, rest.get, State.get_count_apart _ (by decide)]
      exact State.get_set_same _ (by decide)
    case count =>
      rw [State.get_settle, rest.get, State.get_count_same _ (by decide), pi.get]
      rfl
    case quiet =>
      intro off none
      have untraced : d' = c := State.traceCmd_of_off (counted.bit.trans off) ..
      have host : e'.host = (y.wrote (y.entryWrites 1 e.body)).host := by
        have last : e'.host = d'.host := told.2 .host (by decide)
        rw [last, untraced]
        exact (State.host_count ..).trans (State.host_set ..)
      have nothing : e'.host.fetched = [] := by
        rw [host]
        exact none
      have unserved : e'.serveFetched = e' := State.serveFetched_of_nil nothing
      rw [unserved]
      refine ⟨?_, ?_, ?_⟩
      · rw [State.host_settle, host]
        rfl
      · exact (untraced ▸ counted : Kept [Reg.HOST_RING_PI 1, Reg.HOST_CMDS] [.host] a d').raisedWhen.settle
      · have whole : Kept [Reg.HOST_RING_PI 1, Reg.HOST_CMDS] [.host, .router] a d' := untraced ▸ counted.mono
        exact (whole.trans told.mono).settle
    case kept => exact (counted.mono.trans rest.mono).settle
  case still =>
    intro s t n a idle
    refine completes_of_eq (exec_ringWrite t n s) (x := a) ?effect Kept.rfl.settle
    cases staged : a.stagedFor n with
    | nil =>
      rfl
    | cons e es =>
      refine if_neg fun go => ?_
      simp only [Bool.and_eq_true, Bool.not_eq_true', Bool.or_eq_true, bne_iff_ne] at go
      obtain ⟨⟨⟨bus, live⟩, on⟩, written⟩ := go
      rcases idle with h | h | h | h | ⟨one, e', head, h⟩
      · exact absurd (h.symm.trans live) (by decide)
      · exact absurd (h.symm.trans bus) (by decide)
      · exact absurd (h.symm.trans staged) (by simp)
      · exact absurd (h.symm.trans on) (by decide)
      · rw [staged] at head
        obtain rfl : e = e' := by simpa using head
        rcases written with other | written
        · exact other (by rw [one]; rfl)
        · exact absurd (h.symm.trans written) (by decide)

end Sys2Proof.Machine

/-! PROOFS. Descriptors fetched and dispatched (spec/13 R545, R546, R549). -/

namespace Sys2Proof.Machine

/-! The order of due descriptors -/

theorem mem_insertTimed {d x : Desc} {l : List Desc} : x ∈ insertTimed d l ↔ x = d ∨ x ∈ l := by
  induction l with
  | nil => simp [insertTimed]
  | cons y l ih =>
    unfold insertTimed
    split
    · simp
    · simp only [List.mem_cons, ih]
      tauto

/-- An insertion keeps a list in EXEC_TIME order. -/
theorem pairwise_insertTimed {d : Desc} {l : List Desc} (h : l.Pairwise fun x y => x.execTime.toNat ≤ y.execTime.toNat) :
    (insertTimed d l).Pairwise fun x y => x.execTime.toNat ≤ y.execTime.toNat := by
  induction l with
  | nil => simp [insertTimed]
  | cons y l ih =>
    obtain ⟨head, tail⟩ := List.pairwise_cons.1 h
    unfold insertTimed
    split
    next le =>
      refine List.pairwise_cons.2 ⟨fun x hx => ?_, h⟩
      rcases List.mem_cons.1 hx with rfl | hx
      · exact le
      · exact le.trans (head x hx)
    next gt =>
      refine List.pairwise_cons.2 ⟨fun x hx => ?_, ih tail⟩
      rcases mem_insertTimed.1 hx with rfl | hx
      · omega
      · exact head x hx

/-- Of descriptors of one time the inserted one comes first. -/
theorem filter_insertTimed (τ : BitVec 64) (d : Desc) (l : List Desc) :
    (insertTimed d l).filter (fun x => x.execTime == τ) = (d :: l).filter fun x => x.execTime == τ := by
  induction l with
  | nil => rfl
  | cons y l ih =>
    unfold insertTimed
    split
    · rfl
    next gt =>
      have apart : ¬(y.execTime = τ ∧ d.execTime = τ) := fun ⟨hy, hd⟩ => gt (by rw [hy, hd])
      rw [List.filter_cons, ih]
      by_cases hy : y.execTime = τ
      · have hd : d.execTime ≠ τ := fun hd => apart ⟨hy, hd⟩
        simp [hy, hd]
      · simp [List.filter_cons, hy]

theorem pairwise_foldr_insertTimed (l : List Desc) :
    (l.foldr insertTimed []).Pairwise fun x y => x.execTime.toNat ≤ y.execTime.toNat := by
  induction l with
  | nil => exact List.Pairwise.nil
  | cons d l ih => exact pairwise_insertTimed ih

/-- Sorting keeps the ring order of equal times. -/
theorem filter_foldr_insertTimed (τ : BitVec 64) (l : List Desc) :
    (l.foldr insertTimed []).filter (fun x => x.execTime == τ) = l.filter fun x => x.execTime == τ := by
  induction l with
  | nil => rfl
  | cons d l ih => rw [List.foldr_cons, filter_insertTimed, List.filter_cons, List.filter_cons, ih]

namespace State

variable (s : State)

/-! What dispatch makes of the host interface -/

theorem host_trace (stamp : Nat) (bytes : List Byte) : (s.trace stamp bytes).host = { s.host with
    staged := (s.trace stamp bytes).host.staged
    fullArmed := (s.trace stamp bytes).host.fullArmed
    traceArmed := (s.trace stamp bytes).host.traceArmed } := by
  unfold trace
  split
  · rfl
  · rw [host_traceDrop, host_foundFull]

theorem host_traceCmd (d : Desc) (status : Nat) : (s.traceCmd d status).host = { s.host with
    staged := (s.traceCmd d status).host.staged
    fullArmed := (s.traceCmd d status).host.fullArmed
    traceArmed := (s.traceCmd d status).host.traceArmed } := by
  unfold traceCmd
  cases s.bit F.HOST_TRACE_CTRL_CMD_EN with
  | false => rfl
  | true => exact s.host_trace ..

theorem host_dispatch (d : Desc) : (s.dispatch d).host = { s.host with
    dispatched := s.host.dispatched ++ [d]
    staged := (s.dispatch d).host.staged
    fullArmed := (s.dispatch d).host.fullArmed
    traceArmed := (s.dispatch d).host.traceArmed } :=
  host_traceCmd (s.mapHost fun h => { h with dispatched := h.dispatched ++ [d] }) d 0xFF

theorem host_each_dispatch (l : List Desc) : (s.each l dispatch).host = { s.host with
    dispatched := s.host.dispatched ++ l
    staged := (s.each l dispatch).host.staged
    fullArmed := (s.each l dispatch).host.fullArmed
    traceArmed := (s.each l dispatch).host.traceArmed } := by
  induction l generalizing s with
  | nil => simp [each]
  | cons d l ih =>
    rw [each_cons]
    rw [ih (s.dispatch d), host_dispatch]
    simp

theorem kept_each_dispatch (l : List Desc) : Kept traceRegs [.host, .router] s (s.each l dispatch) :=
  Kept.rfl.each fun d _ x h => h.trans (x.kept_dispatch d)

/-- Without CMD_EN a dispatch only hands the descriptor to its owner. -/
theorem dispatch_of_off {s : State} (off : s.bit F.HOST_TRACE_CTRL_CMD_EN = false) (d : Desc) :
    s.dispatch d = s.mapHost fun h => { h with dispatched := h.dispatched ++ [d] } :=
  traceCmd_of_off (s := s.mapHost fun h => { h with dispatched := h.dispatched ++ [d] }) off d 0xFF

theorem each_dispatch_of_off {s : State} (off : s.bit F.HOST_TRACE_CTRL_CMD_EN = false) (l : List Desc) :
    s.each l dispatch = s.mapHost fun h => { h with dispatched := h.dispatched ++ l } := by
  induction l generalizing s with
  | nil => simp [each, mapHost]
  | cons d l ih =>
    rw [each_cons, dispatch_of_off off, ih (s := s.mapHost _) off]
    simp [mapHost]

/-- Descriptors that pass the common checks wait for dispatch. -/
theorem each_copied_of_pass (l : List Desc) (pass : ∀ d ∈ l, firstFail (commonChecks d) = none) :
    s.each l copied = s.mapHost fun h => { h with fetched := h.fetched ++ l } := by
  induction l generalizing s with
  | nil => simp [each, mapHost]
  | cons d l ih =>
    have first : s.copied d = s.mapHost fun h => { h with fetched := h.fetched ++ [d] } := by
      rw [copied, pass d (by simp)]
    rw [each_cons, first, ih _ fun x hx => pass x (by simp [hx])]
    simp [mapHost]

/-- Descriptors without fence and time all go to their owners. -/
theorem pumpList_of_plain {s : State} (off : s.bit F.HOST_TRACE_CTRL_CMD_EN = false) (l : List Desc)
    (plain : ∀ d ∈ l, d.flags.getLsbD 1 = false ∧ d.flags.getLsbD 2 = false) :
    pumpList l s = s.mapHost fun h => { h with dispatched := h.dispatched ++ l, fetched := [] } := by
  induction l generalizing s with
  | nil => simp [pumpList, mapHost]
  | cons d l ih =>
    obtain ⟨fence, time⟩ := plain d (by simp)
    rw [pumpList, fence, time, Bool.false_and, if_neg (by decide), if_neg (by decide), dispatch_of_off off,
      ih (s := s.mapHost _) off fun x hx => plain x (by simp [hx])]
    simp [mapHost]

/-- What every step over a list keeps. -/
theorem each_induction {α : Type} (P : State → Prop) {f : α → State → State} {l : List α} {s : State} (h : P s)
    (step : ∀ i x, P x → P (f i x)) : P (s.each l f) := by
  induction l generalizing s with
  | nil => exact h
  | cons i l ih => exact ih (step i s h)

/-- The oldest read has brought its descriptors: CI advances by them, and a retry is counted. -/
def brought (r : DescRead) (rs : List DescRead) (s : State) : State :=
  let x := (s.mapHost fun h => { h with reads := rs }).readDone r.retried
  x.set (F.HOST_RING_CI_CI 0) (x.get (F.HOST_RING_CI_CI 0) + r.count)

section
variable (r : DescRead) (rs : List DescRead)

theorem kept_mapHost_readDone : Kept [Reg.HOST_DMA_TRANSIENT, Reg.SCRUB_FAULT_SEEN] [.host] s
    ((s.mapHost fun h => { h with reads := rs }).readDone r.retried) :=
  (Kept.rfl.mapHost : Kept _ _ s (s.mapHost fun h => { h with reads := rs })).when fun h => h.transient

theorem kept_brought : Kept [Reg.HOST_RING_CI 0, Reg.HOST_DMA_TRANSIENT, Reg.SCRUB_FAULT_SEEN] [.host] s (s.brought r rs) :=
  (s.kept_mapHost_readDone r rs).mono.set

theorem host_brought : (s.brought r rs).host = { s.host with reads := rs } := by
  let y : State := s.mapHost fun h => { h with reads := rs }
  have counted : Kept [Reg.HOST_DMA_TRANSIENT, Reg.SCRUB_FAULT_SEEN] [] y (y.readDone r.retried) := Kept.rfl.when fun h => h.transient
  have same : (y.readDone r.retried).host = y.host := counted.2 .host (by decide)
  exact (State.host_set ..).trans same

theorem ci_brought : (s.brought r rs).get (F.HOST_RING_CI_CI 0) = (s.get (F.HOST_RING_CI_CI 0) + r.count) % 2 ^ 32 := by
  refine (get_set_same _ (by decide)).trans ?_
  rw [(s.kept_mapHost_readDone r rs).get]

theorem transient_brought : (s.brought r rs).get F.HOST_DMA_TRANSIENT_COUNT =
    min (s.get F.HOST_DMA_TRANSIENT_COUNT + if r.retried then 1 else 0) 0xFFFFFFFF := by
  let y : State := s.mapHost fun h => { h with reads := rs }
  have counted : (y.readDone r.retried).get F.HOST_DMA_TRANSIENT_COUNT =
      min (s.get F.HOST_DMA_TRANSIENT_COUNT + if r.retried then 1 else 0) 0xFFFFFFFF := by
    have bound : s.get F.HOST_DMA_TRANSIENT_COUNT < 2 ^ 32 := s.get_lt _
    cases r.retried with
    | false =>
      change s.get F.HOST_DMA_TRANSIENT_COUNT = _
      rw [if_neg (by decide)]
      omega
    | true =>
      have noted : Kept [Reg.SCRUB_FAULT_SEEN] [] (y.count F.HOST_DMA_TRANSIENT_COUNT) (y.transient F.HOST_DMA_TRANSIENT_COUNT) :=
        Kept.rfl.noteClass
      rw [readDone, when_true, noted.get, get_count_same _ (by decide)]
      rfl
  exact (get_set_apart _ (by decide)).trans counted

end

/-- As many descriptors as the oldest read asked for are copied and served. -/
theorem descriptorReadComplete_effect {a : State} {ds : List Desc} {r : DescRead} {rs : List DescRead} (reads : a.host.reads = r :: rs)
    (length : ds.length = r.count) : (match a.host.reads with
      | [] => a
      | r :: rs => if ds.length = r.count then ((a.brought r rs).each ds copied).serveFetched else a) =
        ((a.brought r rs).each ds copied).serveFetched := by
  simp only [reads]
  exact if_pos length

section
variable {s : State} {d : Desc}

/-- A copied descriptor that fails a common check completes with its code (R549). -/
theorem served_of_fails {status detail : Nat} (on : s.bit (F.HOST_RING_CFG_EN 1) = true) (nothing : s.host.fetched = [])
    (fails : firstFail (commonChecks d) = some (status, detail)) : (s.copied d).serveFetched.host = { s.host with
      staged := s.host.staged ++ [⟨1, completionBytes d.tag.toNat status detail s.datum, s.datum, false, some d, status⟩] } := by
  have staged : s.copied d = s.stage ⟨1, completionBytes d.tag.toNat status detail s.datum, s.datum, false, some d, status⟩ := by
    rw [copied, fails]
    exact if_pos on
  rw [staged, serveFetched_of_nil (s := s.stage _) nothing]
  rfl

/-- One copied descriptor that passes the common checks is served at once. -/
theorem served_of_pass (running : s.tableau = false) (nothing : s.host.fetched = []) (pass : firstFail (commonChecks d) = none) :
    (s.copied d).serveFetched = pumpList [d] (s.mapHost fun h => { h with fetched := [d] }) := by
  have waits : s.copied d = s.mapHost fun h => { h with fetched := [d] } := by
    rw [copied, pass, mapHost, mapHost, nothing, List.nil_append]
  have here : ¬(s.mapHost fun h => { h with fetched := [d] }).tableau = true := by
    rw [show (s.mapHost _).tableau = s.tableau from rfl, running]
    decide
  rw [waits, serveFetched, if_neg here]
  rfl

/-- An unmet fence holds its descriptor (R546). -/
theorem served_of_unmet (running : s.tableau = false) (nothing : s.host.fetched = []) (pass : firstFail (commonChecks d) = none)
    (fenced : d.flags.getLsbD 1 = true) (unmet : s.fenceMet = false) :
    (s.copied d).serveFetched.host = { s.host with fetched := [d] } := by
  rw [served_of_pass running nothing pass, pumpList, if_pos]
  · rfl
  · rw [fenced, show (s.mapHost _).fenceMet = s.fenceMet from rfl, unmet]
    rfl

theorem served_of_timed (running : s.tableau = false) (nothing : s.host.fetched = []) (pass : firstFail (commonChecks d) = none)
    (free : d.flags.getLsbD 1 = false) (timed : d.flags.getLsbD 2 = true) : (s.copied d).serveFetched =
      ((s.mapHost fun h => { h with fetched := [d] }).enterTimed d).mapHost fun h => { h with fetched := [] } := by
  rw [served_of_pass running nothing pass, pumpList, free, timed, Bool.false_and, if_neg Bool.false_ne_true, if_pos rfl, pumpList]

/-- A timed descriptor joins the queue (R546). -/
theorem served_of_ahead (running : s.tableau = false) (nothing : s.host.fetched = []) (pass : firstFail (commonChecks d) = none)
    (free : d.flags.getLsbD 1 = false) (timed : d.flags.getLsbD 2 = true) (room : s.host.timed.length < 64)
    (ahead : s.datum ≤ d.execTime.toNat) : (s.copied d).serveFetched.host = { s.host with timed := s.host.timed ++ [d] } := by
  let x : State := s.mapHost fun h => { h with fetched := [d] }
  have early : ¬64 ≤ x.host.timed.length := Nat.not_le.2 room
  have later : ¬d.execTime.toNat < x.datum := Nat.not_lt.2 ahead
  rw [served_of_timed running nothing pass free timed, enterTimed, if_neg early, if_neg later]
  simp [mapHost, nothing]

/-- A timed descriptor that comes too late completes with its lag (R549). -/
theorem served_of_past (on : s.bit (F.HOST_RING_CFG_EN 1) = true) (running : s.tableau = false) (nothing : s.host.fetched = [])
    (pass : firstFail (commonChecks d) = none) (free : d.flags.getLsbD 1 = false) (timed : d.flags.getLsbD 2 = true)
    (room : s.host.timed.length < 64) (past : d.execTime.toNat < s.datum) : (s.copied d).serveFetched.host = { s.host with
      staged := s.host.staged ++ [⟨1, completionBytes d.tag.toNat st.timePast (min 0xFFFFFFFF (s.datum - d.execTime.toNat)) s.datum,
        s.datum, false, some d, st.timePast⟩] } := by
  let x : State := s.mapHost fun h => { h with fetched := [d] }
  have early : ¬64 ≤ x.host.timed.length := Nat.not_le.2 room
  have late : d.execTime.toNat < x.datum := past
  have ring : x.bit (F.HOST_RING_CFG_EN 1) = true := on
  rw [served_of_timed running nothing pass free timed, enterTimed, if_neg early, if_pos late, stageDone, if_pos ring]
  simp [mapHost, stage, nothing]

end

end State

/-- Settles O40: a fetch by what may be reserved (R545), the descriptors brought by checks, fences and times (R546, R549), the timed queue by a
stable sort of what is due. -/
theorem descriptorsAreFetchedAndDispatched : Obligations.DescriptorsAreFetchedAndDispatched := by
  refine ⟨?fetch, ?complete, ?plain, ?single, ?timed⟩
  case fetch =>
    intro s t a flying next k
    let go : Prop := a.bit (F.HOST_RING_CFG_EN 0) = true ∧ a.bit (F.HOST_RING_STATE_STOPPED 0) = false ∧ a.busOpen = true ∧
      a.tableau = false ∧ a.host.reads.length + a.host.payloads.length < 16 ∧ k ≠ 0
    have judged : (a.bit (F.HOST_RING_CFG_EN 0) && !a.bit (F.HOST_RING_STATE_STOPPED 0) && a.busOpen && !a.tableau && decide (k ≠ 0) &&
        decide (a.host.reads.length + a.host.payloads.length < 16)) = true ↔ go := by
      simp only [go, Bool.and_eq_true, Bool.not_eq_true', decide_eq_true_eq]
      tauto
    by_cases issued : go
    · refine completes_of_eq (exec_descriptorFetch t s)
        (x := a.mapHost fun h => { h with reads := h.reads ++ [{ idx := next, count := k, retried := false }] }) (if_pos (judged.2 issued)) ?_
      rw [if_pos issued]
      exact ⟨rfl, Kept.rfl.mapHost.settle⟩
    · refine completes_of_eq (exec_descriptorFetch t s) (x := a) (if_neg fun h => issued (judged.1 h)) ?_
      rw [if_neg issued]
      exact Kept.rfl.settle
  case complete =>
    intro s t ds r rs a reads length
    let y : State := a.brought r rs
    let z : State := y.each ds State.copied
    have copied : Kept [] [.host] y z := Kept.rfl.each fun d _ x h => h.trans (x.kept_copied d)
    have served : Kept traceRegs [.host, .router] y z.serveFetched := copied.mono.trans z.kept_serveFetched
    have traffic : State.SameTraffic y z.serveFetched := by
      refine State.SameTraffic.trans ?_ z.sameTraffic_serveFetched
      exact State.each_induction (State.SameTraffic y) .rfl fun d x h => h.trans (x.sameTraffic_copied d)
    have host := a.host_brought r rs
    refine completes_of_eq (exec_descriptorReadComplete t ds s) (x := z.serveFetched) (State.descriptorReadComplete_effect reads length)
      ⟨?_, ?_, ?_, ?_, ?_, ((a.kept_brought r rs).mono.trans served.mono).settle⟩
    · rw [State.host_settle, traffic.reads, host]
    · rw [State.get_settle, served.get, a.ci_brought]
    · rw [State.get_settle, served.get, a.transient_brought]
    · rw [State.host_settle, traffic.writes, host]
    · rw [State.host_settle, traffic.payloads, host]
  case plain =>
    intro s t ds r rs a reads length none live off plain
    let y : State := a.brought r rs
    have kept := a.kept_brought r rs
    have host : y.host = { a.host with reads := rs } := a.host_brought r rs
    let z : State := y.mapHost fun h => { h with fetched := h.fetched ++ ds }
    have copied : y.each ds State.copied = z := y.each_copied_of_pass ds fun d hd => (plain d hd).1
    have held : Kept [] [.host] y z := Kept.rfl.mapHost
    have quiet : z.bit F.HOST_TRACE_CTRL_CMD_EN = false := (held.bit.trans kept.bit).trans off
    have running : ¬z.tableau = true := by
      rw [show z.tableau = a.tableau from held.bit.trans kept.bit, live]
      decide
    have fetched : z.host.fetched = ds := by
      rw [show z.host.fetched = y.host.fetched ++ ds from rfl, host, none, List.nil_append]
    have served : z.serveFetched = z.mapHost fun h => { h with dispatched := h.dispatched ++ ds, fetched := [] } := by
      rw [State.serveFetched, if_neg running, fetched, State.pumpList_of_plain quiet _ fun d hd => (plain d hd).2]
    refine completes_of_eq (exec_descriptorReadComplete t ds s) (x := z.serveFetched)
      ((State.descriptorReadComplete_effect reads length).trans (congrArg State.serveFetched copied)) ?_
    rw [served]
    refine ⟨?_, ((kept.trans held.mono).mapHost).settle⟩
    rw [State.host_settle, show (z.mapHost _).host = { y.host with dispatched := y.host.dispatched ++ ds, fetched := [] } from rfl, host, ← none]
  case single =>
    intro s t d r rs a reads one once none live on
    let y : State := a.brought r rs
    have kept := a.kept_brought r rs
    have host : y.host = { a.host with reads := rs } := a.host_brought r rs
    have datum : y.datum = a.datum := kept.2 .datum (by decide)
    have ring : y.bit (F.HOST_RING_CFG_EN 1) = true := kept.bit.trans on
    have running : y.tableau = false := kept.bit.trans live
    have nothing : y.host.fetched = [] := (congrArg HostIf.fetched host).trans none
    have fence : y.fenceMet = a.fenceMet := by
      rw [State.fenceMet, State.stagedFor, host]
      rfl
    refine completes_of_eq (exec_descriptorReadComplete t [d] s) (x := (y.copied d).serveFetched)
      (State.descriptorReadComplete_effect reads one.symm) ⟨fun status detail fails => ?_, fun pass fenced unmet => ?_,
        fun pass free timed room => ⟨fun ahead => ?_, fun past => ?_⟩⟩
    · rw [State.host_settle, State.served_of_fails ring nothing fails, host, datum]
    · rw [State.host_settle, State.served_of_unmet running nothing pass fenced (fence.trans unmet), host]
    · rw [State.host_settle, State.served_of_ahead running nothing pass free timed (by rw [host]; exact room) (by rw [datum]; exact ahead),
        host]
    · rw [State.host_settle, State.served_of_past ring running nothing pass free timed (by rw [host]; exact room)
        (by rw [datum]; exact past), host, datum]
  case timed =>
    intro s t a
    by_cases frozen : a.tableau = true
    · refine completes_of_eq (exec_timedDispatch t s) (x := a) (if_pos frozen) ?_
      rw [if_pos frozen]
      exact Kept.rfl.settle
    · let l : List Desc := (a.host.timed.filter fun d => d.execTime.toNat ≤ a.datum).foldr insertTimed []
      let x : State := a.mapHost fun h => { h with timed := h.timed.filter fun d => a.datum < d.execTime.toNat }
      have left : Kept [] [.host] a x := Kept.rfl.mapHost
      have host := x.host_each_dispatch l
      refine completes_of_eq (exec_timedDispatch t s) (x := x.each l State.dispatch) (if_neg frozen) ?_
      rw [if_neg frozen]
      refine ⟨(left.mono.trans (x.kept_each_dispatch l)).settle, by rw [State.host_settle, host]; rfl, fun off => ?_, l, congrArg HostIf.dispatched host,
        pairwise_foldr_insertTimed _, fun τ => ?_⟩
      · rw [State.each_dispatch_of_off (s := x) off]
        exact ⟨rfl, left.mapHost.settle⟩
      · refine (filter_foldr_insertTimed τ _).trans ?_
        rw [List.filter_filter]
        exact List.filter_congr fun d _ => by
          cases same : d.execTime == τ with
          | false => rfl
          | true => rw [eq_of_beq same]

end Sys2Proof.Machine

/-! PROOFS. The grid block at an evaluation tick (spec/05): the bearing, verdicts and the permit, contours and regions. What each of them changes. -/

namespace Sys2Proof.Machine

set_option Elab.async false

/-- What an evaluation tick's own bookkeeping consists of. -/
def Grid.core (g : Grid) : Nat × Nat × List Desc × Contour × Contour × Option Nat :=
  (g.ticks, g.nextTick, g.setWait, g.cv, g.cf, g.enterSince)

namespace State

variable (s : State)

/-! The permit (R266) -/

theorem kept_judgePermit : Kept [Reg.GRID_STATUS] [.router] s s.judgePermit := by
  unfold judgePermit
  exact Kept.rfl.ite Kept.rfl.setBit.raise

/-- The permit is a matter of the settings, the tables, the bearing, the verdicts and the enter windows. -/
theorem permitNow_congr {a b : State} {regs : List Nat} {parts : List Part} (k : Kept regs parts a b) (bear : b.bearState = a.bearState)
    (enter : b.grid.enterSince = a.grid.enterSince) (ticks : b.grid.ticks = a.grid.ticks) (ht : .tables ∉ parts := by decide)
    (hr : ∀ r ∈ [Reg.GRID_CTRL, Reg.GRID_NOM, Reg.GRID_VERDICT, Reg.HOST_TABLE_OK], r ∉ regs := by decide) :
    b.permitNow = a.permitNow := by
  have tables : b.tables = a.tables := k.2 .tables ht
  have bytes (id off : Nat) : b.tbl8 id off = a.tbl8 id off := by rw [tbl8, tbl8, tableMem, tableMem, tables]
  have ok (id : Nat) : b.tableOk id = a.tableOk id := k.ibit (hr _ (by simp))
  have ctrl (f : FieldRef) (hf : f.addr = Reg.GRID_CTRL) : b.bit f = a.bit f := k.bit (hf ▸ hr _ (by simp))
  have tone (x : Nat) : b.toneBad x = a.toneBad x := by
    rw [toneBad, toneBad, k.bit (hr Reg.GRID_NOM (by simp) : F.GRID_NOM_F_NOM.addr ∉ regs)]
  have verdicts : b.verdictBits = a.verdictBits := by rw [verdictBits, k.reg (hr _ (by simp)), ← verdictBits]
  have sig : b.sigOk = a.sigOk := by simp only [sigOk, ok, tone, bytes]
  have contours : b.contoursOk = a.contoursOk := by simp only [contoursOk, ok]
  have delay : b.tbl16 tid.contourV 8 = a.tbl16 tid.contourV 8 := by rw [tbl16, tbl16, bytes, bytes]
  have entered : b.entered = a.entered := by rw [State.entered, State.entered, enter, ticks, delay]
  rw [permitNow, permitNow, bear, ctrl _ rfl, ctrl _ rfl, verdicts, sig, contours, entered]

/-- No field but PERMIT follows. -/
theorem get_judgePermit_apart {f : FieldRef} (h : apart F.GRID_STATUS_PERMIT f = true) (hs : f.addr ≠ Reg.SCRUB_FAULT_SEEN) :
    s.judgePermit.get f = s.get f := by
  unfold judgePermit
  split
  · rfl
  · exact (get_raise_apart _ (by simp [apart, hs.symm])).trans (get_setBit_apart _ h)

theorem bearState_judgePermit : s.judgePermit.bearState = s.bearState := s.get_judgePermit_apart (by decide) (by decide)

theorem permitNow_judgePermit : s.judgePermit.permitNow = s.permitNow := by
  have kept := s.kept_judgePermit
  have grid : s.judgePermit.grid = s.grid := kept.2 .grid (by decide)
  exact permitNow_congr kept s.bearState_judgePermit (by rw [grid]) (by rw [grid])

/-- Judged, PERMIT is as R266 defines it. -/
theorem permit_judgePermit : s.judgePermit.bit F.GRID_STATUS_PERMIT = s.judgePermit.permitNow := by
  rw [permitNow_judgePermit, judgePermit]
  split
  next same => exact same.symm
  next => exact (bit_raise_apart _ (by decide)).trans (bit_setBit_same _ (by decide) rfl)

/-! Verdicts (R264) -/

/-- What a verdict records before the permit follows it. -/
def verdictSet (v cause : Nat) (s : State) : State :=
  let x := (s.when (v < 2 && bitsOf s.verdictBits 0 2 == 0) fun s => s.set F.GRID_VERDICT_CAUSE cause).setBit ⟨Reg.GRID_VERDICT, v, 1⟩ true
  (if v < 2 then (x.count F.GRID_TRIP_COUNT_COUNT).raise 119 else (x.count F.GRID_ISL_COUNT_COUNT).raise 121).curtCause (17 + v)

theorem verdict_eq (v cause : Nat) : s.verdict v cause = if !s.curtainUp then s else (s.verdictSet v cause).judgePermit := rfl

theorem kept_verdictSet (v cause : Nat) : Kept [Reg.GRID_VERDICT, Reg.GRID_TRIP_COUNT, Reg.GRID_ISL_COUNT, Reg.SCRUB_FAULT_SEEN]
    [.router, .curt] s (s.verdictSet v cause) := by
  have set : Kept [Reg.GRID_VERDICT, Reg.GRID_TRIP_COUNT, Reg.GRID_ISL_COUNT, Reg.SCRUB_FAULT_SEEN] [.router, .curt] s
      ((s.when (v < 2 && bitsOf s.verdictBits 0 2 == 0) fun s => s.set F.GRID_VERDICT_CAUSE cause).setBit ⟨Reg.GRID_VERDICT, v, 1⟩ true) :=
    (Kept.rfl.when fun h => h.set).setBit (by simp)
  unfold verdictSet
  exact (set.count.raiseFault.ite set.count.raiseFault).curt

theorem kept_verdict (v cause : Nat) : Kept [Reg.GRID_VERDICT, Reg.GRID_TRIP_COUNT, Reg.GRID_ISL_COUNT, Reg.GRID_STATUS,
    Reg.SCRUB_FAULT_SEEN] [.router, .curt] s (s.verdict v cause) := by
  rw [verdict_eq]
  exact Kept.rfl.ite ((s.kept_verdictSet v cause).mono.trans (State.kept_judgePermit _).mono)

/-- A verdict changes no field of GRID_STATUS but PERMIT. -/
theorem get_verdict_status {f : FieldRef} (hf : f.addr = Reg.GRID_STATUS) (apart' : apart F.GRID_STATUS_PERMIT f = true) (v cause : Nat) :
    (s.verdict v cause).get f = s.get f := by
  rw [verdict_eq]
  split
  · rfl
  · exact (get_judgePermit_apart _ apart' (hf ▸ by decide)).trans ((s.kept_verdictSet v cause).get (hf ▸ by decide))

/-! The bearing (R229) -/

theorem kept_bearGoto (v : Nat) : Kept [Reg.GRID_STATUS] [.grid, .router] s (s.bearGoto v) := by
  unfold bearGoto
  exact Kept.rfl.ite (((Kept.rfl.set.raise.grid : Kept [Reg.GRID_STATUS] [.grid, .router] s _).when fun h => h.mapGrid).trans
    (State.kept_judgePermit _).mono)

/-- A change of the bearing's state changes the estimator and what waits for it. -/
theorem grid_bearGoto (v : Nat) : ∃ bear wait, (s.bearGoto v).grid = { s.grid with bear := bear, waitLock := wait } := by
  unfold bearGoto
  split
  · exact ⟨s.grid.bear, s.grid.waitLock, rfl⟩
  · have still (x : State) : x.judgePermit.grid = x.grid := x.kept_judgePermit.2 .grid (by decide)
    have before : ((s.set F.GRID_STATUS_BEAR v).raise 112).grid = s.grid := (grid_raise ..).trans (grid_set ..)
    have now : ((s.set F.GRID_STATUS_BEAR v).raise 112).elapsed = s.elapsed := (elapsed_raise ..).trans (elapsed_set ..)
    rw [still]
    cases v == bear.locked with
    | false => exact ⟨_, _, by rw [when_false, mapBear, mapGrid, before]⟩
    | true => exact ⟨_, _, by rw [when_true, mapBear, mapGrid, mapGrid, before]⟩

theorem kept_bearEnable : Kept [Reg.GRID_STATUS] [.grid, .router] s s.bearEnable := by
  unfold bearEnable
  exact (s.kept_bearGoto _).ite ((Kept.trans Kept.rfl.grid (kept_bearGoto _ _)).ite Kept.rfl)

theorem grid_bearEnable : ∃ bear wait, s.bearEnable.grid = { s.grid with bear := bear, waitLock := wait } := by
  unfold bearEnable
  split
  · exact s.grid_bearGoto _
  · split
    · obtain ⟨bear, wait, eq⟩ := (s.mapBear fun b => { b with
        freq := 1000 * s.fNom, missing := [], sogi := [], seen := [] }).grid_bearGoto bear.seeking
      exact ⟨bear, wait, by rw [eq]; rfl⟩
    · exact ⟨s.grid.bear, s.grid.waitLock, rfl⟩

/-! The histories and suspicion (R227, R253) -/

/-- The histories of a tick, and ROCOF. -/
def histories (s : State) : State :=
  let h := s.mapGrid fun g => { g with
    fHist := (g.bear.freq :: g.fHist).take 5001, vHist := (g.bear.vpos :: g.vHist).take 10001
    rHist := (g.bear.residual :: g.rHist).take 201 }
  h.setSat F.GRID_ROCOF_ROCOF h.rocof

/-- Suspicion is noted now. -/
def suspected (s : State) : State := (s.mapGrid fun g => { g with suspectAt := s.elapsed }).setBit F.GRID_STATUS_SUSPECT true

theorem passive_eq : s.passive = if s.histories.suspectNow then
    if s.histories.bit F.GRID_STATUS_SUSPECT then s.histories.suspected
    else (s.histories.suspected.raise 120).when (s.histories.suspected.bit F.GRID_CTRL_PASSIVE_TRIP) (State.verdict 3 0)
    else s.histories := rfl

theorem kept_histories : Kept [Reg.GRID_ROCOF] [.grid] s s.histories := Kept.rfl.mapGrid.setSat

theorem kept_suspected : Kept [Reg.GRID_STATUS] [.grid] s s.suspected := Kept.rfl.mapGrid.setBit

theorem kept_passive : Kept [Reg.GRID_ROCOF, Reg.GRID_STATUS, Reg.GRID_VERDICT, Reg.GRID_TRIP_COUNT, Reg.GRID_ISL_COUNT, Reg.SCRUB_FAULT_SEEN]
    [.grid, .router, .curt] s s.passive := by
  have noted : Kept [Reg.GRID_ROCOF, Reg.GRID_STATUS, Reg.GRID_VERDICT, Reg.GRID_TRIP_COUNT, Reg.GRID_ISL_COUNT, Reg.SCRUB_FAULT_SEEN]
      [.grid, .router, .curt] s s.histories.suspected := s.kept_histories.mono.trans (kept_suspected _).mono
  rw [passive_eq]
  exact Kept.ite (Kept.ite noted (noted.raise.when fun h => h.trans (State.kept_verdict ..).mono)) s.kept_histories.mono

theorem grid_passive : ∃ f v r since, s.passive.grid = { s.grid with fHist := f, vHist := v, rHist := r, suspectAt := since } := by
  have judged (x : State) (c : Bool) : (x.when c (verdict 3 0)).grid = x.grid :=
    when_eq State.grid _ ((x.kept_verdict 3 0).2 .grid (by decide))
  have noted (x : State) : x.suspected.grid = { x.grid with suspectAt := x.elapsed } := grid_setBit ..
  obtain ⟨f, v, r, eq⟩ : ∃ f v r, s.histories.grid = { s.grid with fHist := f, vHist := v, rHist := r } := ⟨_, _, _, grid_setSat ..⟩
  rw [passive_eq]
  split
  · refine ⟨f, v, r, s.histories.elapsed, ?_⟩
    split
    · rw [noted, eq]
    · rw [judged, grid_raise, noted, eq]
  · exact ⟨f, v, r, s.grid.suspectAt, eq⟩

/-! Regions (R248, R251) -/

theorem kept_cessationEdge (acted was : Bool) : Kept [Reg.GRID_CESS_COUNT] [.grid, .router, .engine] s (s.cessationEdge acted was) := by
  unfold cessationEdge passCessation
  exact ((Kept.rfl.when fun h => h.count.raise.mapGrid).when fun h => h.raise.mapGrid).mapEngine

theorem core_cessationEdge (acted was : Bool) : (s.cessationEdge acted was).grid.core = s.grid.core := by
  unfold cessationEdge passCessation
  rw [grid_mapEngine]
  refine (when_eq (fun x => x.grid.core) _ ?_).trans (when_eq (fun x => x.grid.core) _ ?_)
  · rw [grid_mapGrid, grid_raise]
    rfl
  · rw [grid_mapGrid, grid_raise, grid_count]
    rfl

/-- Where the region neither has acted as CESSATION nor acts so, the restore goes on. -/
theorem restore_cessationEdge {s : State} {acted : Bool} (before : acted = false) (after : s.actsCessation s.region = false) (was : Bool) :
    (s.cessationEdge acted was).grid.restore = s.grid.restore := by
  unfold cessationEdge passCessation
  simp [before, after, when_false]

/-- The region's own field and event. -/
def regionSet (new : Nat) (s : State) : State := s.when (s.region != new) fun s => (s.set F.GRID_STATUS_REGION new).raise 116

theorem kept_regionSet (new : Nat) : Kept [Reg.GRID_STATUS] [.router] s (s.regionSet new) := Kept.rfl.when fun h => h.set.raise

theorem region_regionSet (new : Nat) : (s.regionSet new).region = new % 8 := by
  unfold regionSet
  by_cases same : s.region = new
  · have small : s.region < 2 ^ 3 := s.get_lt _
    rw [same, bne_self_eq_false, when_false, same]
    omega
  · rw [bne_iff_ne.2 same, when_true]
    exact (get_raise_apart _ (by decide)).trans (get_set_same _ (by decide))

/-- What a change of region brings about before its cessation edge. -/
def regionTaken (new : Nat) (s : State) : State :=
  let x := (s.regionSet new).when (s.region == region.continuous && new != region.continuous && (s.regionSet new).grid.frozen.isNone) fun s =>
    s.mapGrid fun g => { g with frozen := some (g.amps, meanRat g.vHist.tail) }
  let x := x.when (new == region.trip) fun s => s.mapGrid fun g => { g with restore := .none }
  x.when (s.region != region.continuous && new == region.continuous) fun s => { s with pwr := { s.pwr with contSince := some s.elapsed } }

theorem takeRegion_eq (new : Nat) : s.takeRegion new = (s.regionTaken new).cessationEdge (s.actsCessation s.region) s.ceased := rfl

theorem kept_regionTaken (new : Nat) : Kept [] [.grid, .pwr] (s.regionSet new) (s.regionTaken new) :=
  ((Kept.rfl.when fun h => h.mapGrid).when fun h => h.mapGrid).when fun h => h.pwr

theorem kept_takeRegion (new : Nat) : Kept [Reg.GRID_STATUS, Reg.GRID_CESS_COUNT] [.grid, .router, .pwr, .engine] s (s.takeRegion new) := by
  rw [takeRegion_eq]
  exact ((s.kept_regionSet new).mono.trans (s.kept_regionTaken new).mono).trans (kept_cessationEdge ..).mono

theorem region_takeRegion (new : Nat) : (s.takeRegion new).region = new % 8 := by
  rw [takeRegion_eq]
  exact ((kept_cessationEdge ..).get.trans (s.kept_regionTaken new).get).trans (s.region_regionSet new)

theorem core_takeRegion (new : Nat) : (s.takeRegion new).grid.core = s.grid.core := by
  have set : (s.regionSet new).grid = s.grid := (s.kept_regionSet new).2 .grid (by decide)
  rw [takeRegion_eq, core_cessationEdge, regionTaken]
  refine (when_eq (fun x => x.grid.core) _ rfl).trans ((when_eq (fun x => x.grid.core) _ rfl).trans ((when_eq (fun x => x.grid.core) _ rfl).trans ?_))
  rw [set]

/-- Between regions that do not act as CESSATION, TRIP apart, the restore goes on. -/
theorem restore_takeRegion {s : State} {new : Nat} (before : s.actsCessation s.region = false) (small : new < 8) (trip : new ≠ region.trip)
    (after : s.actsCessation new = false) : (s.takeRegion new).grid.restore = s.grid.restore := by
  have set : (s.regionSet new).grid = s.grid := (s.kept_regionSet new).2 .grid (by decide)
  have region : (s.regionTaken new).region = new := ((s.kept_regionTaken new).get.trans (s.region_regionSet new)).trans (Nat.mod_eq_of_lt small)
  have cease : (s.regionTaken new).bit F.GRID_CTRL_PERM_CEASE = s.bit F.GRID_CTRL_PERM_CEASE :=
    (s.kept_regionTaken new).bit.trans (s.kept_regionSet new).bit
  have acts : (s.regionTaken new).actsCessation (s.regionTaken new).region = false := by
    rw [region, actsCessation, cease, ← actsCessation, after]
  rw [takeRegion_eq, restore_cessationEdge before acts]
  dsimp only [regionTaken]
  rw [beq_eq_false_iff_ne.2 trip, when_false]
  refine (when_eq (fun x => x.grid.restore) _ rfl).trans ((when_eq (fun x => x.grid.restore) _ rfl).trans ?_)
  rw [set]

/-! Both tables judged (R247, R248, R264) -/

theorem kept_tripVerdict (v was : Nat) (c : Contour) : Kept [Reg.GRID_VERDICT, Reg.GRID_TRIP_COUNT, Reg.GRID_ISL_COUNT, Reg.GRID_STATUS,
    Reg.SCRUB_FAULT_SEEN] [.router, .curt] s (s.tripVerdict v was c) := Kept.rfl.when fun h => h.trans (kept_verdict ..)

/-- Both tables as evaluated, and how long their disturbances have lasted. -/
def contoursTaken (s : State) : State :=
  let c := s.contoursAt s.grid.ticks
  let x := s.mapGrid fun g => { g with cv := c.1, cf := c.2 }
  let x := x.setTop F.GRID_DIST_V_TIME (x.disturbedFor c.1)
  x.setTop F.GRID_DIST_F_TIME (x.disturbedFor c.2)

/-- The larger of the two regions. -/
def regionAt (s : State) : Nat := max (s.contoursAt s.grid.ticks).1.region (s.contoursAt s.grid.ticks).2.region

theorem judgeContours_eq : s.judgeContours = ((s.contoursTaken.takeRegion s.regionAt).tripVerdict 0 s.grid.cv.region
    (s.contoursAt s.grid.ticks).1).tripVerdict 1 s.grid.cf.region (s.contoursAt s.grid.ticks).2 := rfl

theorem kept_contoursTaken : Kept [Reg.GRID_DIST_V, Reg.GRID_DIST_F] [.grid] s s.contoursTaken := Kept.rfl.mapGrid.setTop.setTop

theorem grid_contoursTaken : s.contoursTaken.grid =
    { s.grid with cv := (s.contoursAt s.grid.ticks).1, cf := (s.contoursAt s.grid.ticks).2 } :=
  (grid_setTop ..).trans (grid_setTop ..)

/-- After a region the verdicts of the two tables. -/
theorem kept_tripVerdicts (x : State) (was : Nat × Nat) (c : Contour × Contour) :
    Kept [Reg.GRID_VERDICT, Reg.GRID_TRIP_COUNT, Reg.GRID_ISL_COUNT, Reg.GRID_STATUS, Reg.SCRUB_FAULT_SEEN] [.router, .curt] x
      ((x.tripVerdict 0 was.1 c.1).tripVerdict 1 was.2 c.2) := (kept_tripVerdict ..).trans (kept_tripVerdict ..)

theorem kept_judgeContours : Kept [Reg.GRID_DIST_V, Reg.GRID_DIST_F, Reg.GRID_STATUS, Reg.GRID_CESS_COUNT, Reg.GRID_VERDICT,
    Reg.GRID_TRIP_COUNT, Reg.GRID_ISL_COUNT, Reg.SCRUB_FAULT_SEEN] [.grid, .router, .pwr, .engine, .curt] s s.judgeContours := by
  rw [judgeContours_eq]
  exact (s.kept_contoursTaken.mono.trans (kept_takeRegion ..).mono).trans
    (kept_tripVerdicts _ (s.grid.cv.region, s.grid.cf.region) (s.contoursAt s.grid.ticks)).mono

theorem grid_judgeContours : s.judgeContours.grid = (s.contoursTaken.takeRegion s.regionAt).grid := by
  rw [judgeContours_eq]
  exact (kept_tripVerdicts _ (s.grid.cv.region, s.grid.cf.region) (s.contoursAt s.grid.ticks)).2 .grid (by decide)

/-- A verdict leaves the region alone. -/
theorem region_verdict (v cause : Nat) : (s.verdict v cause).region = s.region := s.get_verdict_status rfl (by decide) ..

theorem region_judgeContours : s.judgeContours.region = s.regionAt % 8 := by
  have judged (x : State) (v was : Nat) (c : Contour) : (x.tripVerdict v was c).region = x.region := when_eq State.region _ (region_verdict ..)
  rw [judgeContours_eq, judged, judged, region_takeRegion]

end State

end Sys2Proof.Machine

/-! PROOFS. The cells and the metrology path at an evaluation tick (spec/08, spec/09 R381): what they change. -/

namespace Sys2Proof.Machine

set_option Elab.async false

/-- The registers of per-cell power. -/
def cellPwrRegs : List Nat := List.range' 0x3800 0x400

theorem cellPwrRegs_cell {c : Nat} (h : c < 128) : Reg.CELLPWR_CELL c ∈ cellPwrRegs :=
  List.mem_range'_1.2 (by unfold Reg.CELLPWR_CELL; omega)

theorem cellPwrRegs_phase {x : Nat} (h : x < 3) : Reg.CELLPWR_PHASE x ∈ cellPwrRegs :=
  List.mem_range'_1.2 (by unfold Reg.CELLPWR_PHASE; omega)

theorem cellPwrRegs_of {r : Nat} (h : 0x3800 ≤ r ∧ r < 0x3C00) : r ∈ cellPwrRegs := List.mem_range'_1.2 h

theorem lt_of_mem_cellIds {c : Nat} {p : Nat → Bool} (h : c ∈ cellIds.filter p) : c < 128 :=
  List.mem_range.1 (List.mem_filter.1 h).1

theorem Kept.setPwrCell {regs : List Nat} {parts : List Part} {a b : State} (h : Kept regs parts a b) {c : Nat} {x : PwrCell}
    (hp : .pwr ∈ parts := by decide) : Kept regs parts a (b.setPwrCell c x) := h.pwr hp

theorem Kept.giveOrder {regs : List Nat} {parts : List Part} {a b : State} (h : Kept regs parts a b) {c : Nat} {o : Owner} {codes : List Nat}
    (hp : .wing ∈ parts := by decide) : Kept regs parts a (b.giveOrder c o codes) := h.wing hp

namespace State

variable (s : State)

/-! The plan (R350 to R358) -/

theorem kept_setPlans (l : List (Nat × Rat)) : Kept [] [.pwr] s (s.setPlans l) := Kept.rfl.each fun _ _ _ h => h.setPwrCell

theorem kept_setHis (l : List (Nat × Rat)) : Kept [] [.pwr] s (s.setHis l) := Kept.rfl.each fun _ _ _ h => h.setPwrCell

theorem kept_judgeBatStop (c : Nat) : Kept [Reg.CELLPWR_CELL c] [.router] s (s.judgeBatStop c) :=
  (Kept.rfl.setBit (by simp) : Kept [Reg.CELLPWR_CELL c] [.router] s _).when fun h => h.raise

theorem kept_capPhase (x : Nat) (cap : Rat) : Kept [Reg.CELLPWR_PHASE x] [.pwr] s (s.capPhase x cap) := by
  have set : Kept [Reg.CELLPWR_PHASE x] [.pwr] s (s.setTop (F.CELLPWR_PHASE_CAP x) (roundAway (cap / 1000)).toNat) := Kept.rfl.setTop (by simp)
  have his {y : State} (l : List (Nat × Rat)) (h : Kept [Reg.CELLPWR_PHASE x] [.pwr] s y) : Kept [Reg.CELLPWR_PHASE x] [.pwr] s (y.setHis l) :=
    h.trans ((y.kept_setHis l).mono (by simp) (by simp))
  unfold capPhase
  exact Kept.ite (Kept.ite (his _ (his _ set)) (his _ set)) set

theorem kept_capPhases : Kept cellPwrRegs [.pwr, .router] s s.capPhases := by
  unfold capPhases
  refine Kept.when (Kept.setBit (Kept.each Kept.rfl fun xc hx y h => ?_) (cellPwrRegs_of (by decide))) fun h => h.raise
  obtain ⟨x, hx', rfl⟩ := List.mem_map.1 hx
  refine h.trans ((y.kept_capPhase ..).mono (fun r hr => ?_) (by simp))
  rw [List.mem_singleton.1 hr]
  exact cellPwrRegs_phase (List.mem_range.1 hx')

theorem kept_planDemand (inc : Rat) (limit : Option Rat) : Kept cellPwrRegs [.pwr, .router] s (s.planDemand inc limit) := by
  have planned (c : Nat) (hc : c ∈ s.planned) : c < 128 := by
    unfold State.planned at hc
    split at hc
    · exact lt_of_mem_cellIds hc
    · exact absurd hc List.not_mem_nil
  unfold planDemand
  refine Kept.pwr (Kept.setBit (Kept.setSat (Kept.setSat (Kept.setSat (Kept.trans (Kept.each (Kept.each Kept.rfl fun _ _ _ h => h.setPwrCell)
    fun c hc y h => ?_) (kept_capPhases _)) ?_) ?_) ?_) ?_)
  · refine h.trans ((y.kept_judgeBatStop c).mono (fun r hr => ?_) (by simp))
    rw [List.mem_singleton.1 hr]
    exact cellPwrRegs_cell (lt_of_mem_cellIds hc)
  all_goals exact cellPwrRegs_of (by decide)

theorem kept_planShare : Kept cellPwrRegs [.pwr, .router] s s.planShare := by
  have plans {x y : State} (l : List (Nat × Rat)) (h : Kept cellPwrRegs [.pwr, .router] x y) :
      Kept cellPwrRegs [.pwr, .router] x (y.setPlans l) := h.trans ((y.kept_setPlans l).mono (by simp) (by simp))
  unfold planShare
  refine Kept.each (Kept.when (Kept.setBit (Kept.setTop (Kept.pwr ?_) ?_) ?_) fun h => h.raise) fun x hx _ h => h.setSat ?_
  · split
    · exact plans _ (plans _ Kept.rfl)
    · exact (plans _ (plans _ (plans _ Kept.rfl))).ite (plans _ (plans _ Kept.rfl))
  · exact cellPwrRegs_of (by decide)
  · exact cellPwrRegs_of (by decide)
  · exact cellPwrRegs_phase (List.mem_range.1 hx)

theorem kept_planZero (prev : Amps) : Kept cellPwrRegs [.pwr] s (s.planZero prev) := by
  unfold planZero
  refine Kept.set (Kept.setTop (Kept.pwr Kept.rfl) ?_) ?_ <;> exact cellPwrRegs_of (by decide)

/-! Trackers (R362 to R365) -/

theorem kept_trackOrFollow (c : Nat) : Kept [Reg.CELLPWR_CELL c] [.pwr] s (s.trackOrFollow c) := by
  have held : Kept [Reg.CELLPWR_CELL c] [.pwr] s
      (s.when (s.trk c == trk.hold) fun s => s.setPwrCell c { s.pwrCell c with lastStep := s.elapsed, readings := [] }) :=
    Kept.rfl.when fun h => h.setPwrCell
  unfold trackOrFollow
  exact Kept.ite (Kept.ite held (Kept.setPwrCell (Kept.set held (by simp)))) (Kept.set held (by simp))

theorem kept_abortExcursion (c next : Nat) : Kept [Reg.CELLPWR_CELL c, Reg.CELLPWR_ABORTS] [.pwr, .router] s (s.abortExcursion c next) := by
  unfold abortExcursion
  exact Kept.raise (Kept.count (Kept.set (Kept.setPwrCell Kept.rfl) (by simp)) (by simp))

theorem kept_judgeTracker (c : Nat) : Kept [Reg.CELLPWR_CELL c, Reg.CELLPWR_ABORTS] [.pwr, .router] s (s.judgeTracker c) := by
  have aborted (next : Nat) : Kept [Reg.CELLPWR_CELL c, Reg.CELLPWR_ABORTS] [.pwr, .router] s (s.abortExcursion c next) :=
    s.kept_abortExcursion c next
  have set {x : State} (h : Kept [Reg.CELLPWR_CELL c, Reg.CELLPWR_ABORTS] [.pwr, .router] s x) (v : Nat) :
      Kept [Reg.CELLPWR_CELL c, Reg.CELLPWR_ABORTS] [.pwr, .router] s (x.setTrk c v) := Kept.set h (by simp)
  unfold judgeTracker
  refine Kept.ite ?_ (Kept.ite (set (Kept.setPwrCell Kept.rfl) _) (Kept.ite (Kept.rfl.ite (aborted _)) (Kept.ite (set Kept.rfl _)
    ((s.kept_trackOrFollow c).mono (by simp) (by simp)))))
  have off : Kept [Reg.CELLPWR_CELL c, Reg.CELLPWR_ABORTS] [.pwr, .router] s
      (if s.excursion c then s.abortExcursion c trk.off else s.setTrk c trk.off) := (aborted _).ite (set Kept.rfl _)
  exact off.ite off.setPwrCell

/-- The request that a token goes to is one of those due. -/
theorem earliest_mem (l : List (Nat × Nat × Bool)) (b : Option (Nat × Nat × Bool)) {P : Nat × Nat × Bool → Prop} (hb : ∀ e ∈ b, P e)
    (hl : ∀ e ∈ l, P e) : ∀ e ∈ l.foldl (fun (b : Option (Nat × Nat × Bool)) d => match b with
      | none => some d
      | some e => if d.1 < e.1 then some d else some e) b, P e := by
  induction l generalizing b with
  | nil => exact hb
  | cons d l ih =>
    refine ih _ ?_ fun e he => hl e (List.mem_cons_of_mem _ he)
    have first := hl d (List.mem_cons_self ..)
    cases b with
    | none => simpa using first
    | some x =>
      dsimp only
      split
      · simpa using first
      · exact hb

theorem kept_grantTokens (x n : Nat) : Kept cellPwrRegs [.pwr] s (grantTokens x n s) := by
  induction n generalizing s with
  | zero => exact Kept.rfl
  | succ n ih =>
    unfold grantTokens
    dsimp only
    split
    · exact Kept.rfl
    next c scan best =>
      have small : c < 128 := by
        refine earliest_mem _ none (P := fun e => e.2.1 < 128) nofun (fun e he => ?_) _ best
        obtain ⟨k, hk, eq⟩ := List.mem_filterMap.1 he
        split at eq
        · obtain ⟨d, -, rfl⟩ := Option.map_eq_some_iff.1 eq
          exact lt_of_mem_cellIds hk
        · contradiction
      exact Kept.rfl.ite (Kept.trans (Kept.set (Kept.setPwrCell Kept.rfl) (cellPwrRegs_cell small)) (ih _))

theorem kept_tokens : Kept cellPwrRegs [.pwr] s s.tokens := by
  unfold tokens
  exact (Kept.rfl.each fun x _ y h => h.trans (y.kept_grantTokens x 8)).ite Kept.rfl

/-! References (R348, R366) -/

theorem kept_steer (c : Nat) : Kept [] [.pwr] s (s.steer c) := by
  unfold steer batteryLoop
  exact (Kept.rfl.setPwrCell.ite Kept.rfl.setPwrCell).ite (Kept.rfl.setPwrCell.ite Kept.rfl.setPwrCell)

theorem kept_showRef (c : Nat) : Kept [Reg.CELLPWR_CELL c] [] s (s.showRef c) := (Kept.rfl.setTop (by simp)).setBit (by simp)

/-! Dump switches (R369, R370) -/

theorem kept_dumpOrder (c : Nat) (on : Bool) : Kept [] [.pwr, .wing] s (s.dumpOrder c on) := Kept.rfl.giveOrder.setPwrCell

theorem kept_dumpOff (c : Nat) : Kept [Reg.CELLPWR_CELL c] [.pwr, .wing] s (s.dumpOff c) := by
  unfold dumpOff
  exact Kept.set (Kept.trans (Kept.setPwrCell Kept.rfl) ((kept_dumpOrder _ c false).mono (by simp) (by simp))) (by simp)

/-- The registers of the dump switches. -/
def dumpRegs : List Nat := Reg.CELLPWR_STATUS :: cellIds.map Reg.CELLPWR_CELL

theorem dumpRegs_cell {c : Nat} (h : c < 128) : Reg.CELLPWR_CELL c ∈ dumpRegs :=
  List.mem_cons_of_mem _ (List.mem_map_of_mem (List.mem_range.2 h))

theorem kept_judgeArmed : Kept dumpRegs [.pwr, .wing] s s.judgeArmed := by
  have set : Kept dumpRegs [.pwr, .wing] s (s.setBit F.CELLPWR_STATUS_DUMP_ARMED s.dumpArmed) := Kept.setBit Kept.rfl (List.mem_cons_self ..)
  unfold judgeArmed
  refine Kept.ite (set.each fun c hc x h => h.ite (Kept.setPwrCell (h.setBit (dumpRegs_cell (List.mem_range.1 hc))))) (Kept.ite
    (set.each fun c hc x h => h.trans ((x.kept_dumpOff c).mono (fun r hr => ?_) (by simp))) set)
  rw [List.mem_singleton.1 hr]
  exact dumpRegs_cell (lt_of_mem_cellIds hc)

theorem kept_dumpTick (c : Nat) : Kept [Reg.CELLPWR_CELL c, Reg.CELLPWR_DUMP_ONS] [.pwr, .wing, .router] s (s.dumpTick c) := by
  unfold dumpTick
  refine Kept.ite (Kept.ite ?_ Kept.rfl) (Kept.ite ((s.kept_dumpOff c).mono (by simp) (by simp)) Kept.rfl)
  exact Kept.count (Kept.raise (Kept.setPwrCell (Kept.set ((s.kept_dumpOrder c true).mono (by simp) (by simp)) (by simp)))) (by simp)

/-- The part of a tick that follows the references changes per-cell power, the cells' orders, and events. -/
theorem kept_cellPowerTick (prev : Amps) : Kept cellPwrRegs [.pwr, .wing, .router] s (s.cellPowerTick prev) := by
  have one {x : State} {regs : List Nat} {parts : List Part} {y : State} (h : Kept cellPwrRegs [.pwr, .wing, .router] s x)
      (k : Kept regs parts x y) (hr : ∀ r ∈ regs, r ∈ cellPwrRegs) (hp : parts ⊆ [.pwr, .wing, .router] := by simp) :
      Kept cellPwrRegs [.pwr, .wing, .router] s y := h.trans (k.mono hr hp)
  unfold cellPowerTick
  dsimp only
  refine Kept.each (one (Kept.each (Kept.each (one (Kept.each (one (one Kept.rfl (kept_planShare _) fun _ h => h) (kept_planZero ..) fun _ h => h)
    fun c hc x h => one h (x.kept_judgeTracker c) fun r hr => ?tracker) (kept_tokens _) fun _ h => h)
    fun c hc x h => one h (x.kept_steer c) nofun) fun c hc x h => one h (x.kept_showRef c) fun r hr => ?shown)
    (kept_judgeArmed _) fun r hr => ?armed) fun c hc x h => one h (x.kept_dumpTick c) fun r hr => ?dump
  case tracker =>
    simp only [List.mem_cons, List.not_mem_nil, or_false] at hr
    rcases hr with rfl | rfl
    · exact cellPwrRegs_cell (lt_of_mem_cellIds hc)
    · exact cellPwrRegs_of (by decide)
  case shown =>
    rw [List.mem_singleton.1 hr]
    exact cellPwrRegs_cell (lt_of_mem_cellIds hc)
  case armed =>
    rcases List.mem_cons.1 hr with rfl | hr
    · exact cellPwrRegs_of (by decide)
    · obtain ⟨c, hc, rfl⟩ := List.mem_map.1 hr
      exact cellPwrRegs_cell (List.mem_range.1 hc)
  case dump =>
    simp only [List.mem_cons, List.not_mem_nil, or_false] at hr
    rcases hr with rfl | rfl
    · exact cellPwrRegs_cell (lt_of_mem_cellIds hc)
    · exact cellPwrRegs_of (by decide)

/-! The metrology windows (R381) -/

theorem kept_meterTick : Kept [Reg.METER_STATUS] [.meter] s s.meterTick :=
  (Kept.rfl.setBit : Kept [Reg.METER_STATUS] [.meter] s _).each fun _ _ _ h => h.mapMeter

end State

end Sys2Proof.Machine

/-! PROOFS. An evaluation tick (spec/05 R243): its stages, and what each leaves to the next. -/

namespace Sys2Proof.Machine

set_option Elab.async false

/-- What the stages of a tick after the regions leave alone. -/
def Grid.later (g : Grid) : (Nat × Nat × List Desc × Contour × Contour × Option Nat) × Restore := (g.core, g.restore)

/-- The parts of the bookkeeping of a tick. -/
theorem Grid.core_eq {g : Grid} {ticks next : Nat} {wait : List Desc} {cv cf : Contour} {enter : Option Nat} :
    g.core = (ticks, next, wait, cv, cf, enter) ↔
      g.ticks = ticks ∧ g.nextTick = next ∧ g.setWait = wait ∧ g.cv = cv ∧ g.cf = cf ∧ g.enterSince = enter := by
  simp [Grid.core]

namespace State

variable (s : State)

/-! The evaluation of the tables depends on the levels, the tables and what has been judged before (R247) -/

theorem freq_bearGoto (v : Nat) : (s.bearGoto v).grid.bear.freq = s.grid.bear.freq := by
  unfold bearGoto
  split
  · rfl
  · have still (x : State) : x.judgePermit.grid = x.grid := x.kept_judgePermit.2 .grid (by decide)
    rw [still]
    refine (when_eq (fun x => x.grid.bear.freq) _ rfl).trans ?_
    rw [mapBear, grid_mapGrid, grid_raise, grid_set]

/-- Out of OFF the frequency starts at F_NOM. -/
theorem freq_bearEnable : s.bearEnable.grid.bear.freq =
    if s.bit F.GRID_CTRL_BEAR_EN = true ∧ s.bearState = bear.off then 1000 * s.fNom else s.grid.bear.freq := by
  unfold bearEnable
  cases s.bit F.GRID_CTRL_BEAR_EN with
  | false => simp [freq_bearGoto]
  | true =>
    by_cases off : s.bearState = bear.off
    · simp [off, freq_bearGoto, mapBear, mapGrid]
    · simp [off]

section
variable {a b : State}

theorem bandAt_congr (h : b.tables = a.tables) : b.bandAt = a.bandAt := by
  have bytes : b.tbl8 = a.tbl8 := by funext id off; rw [tbl8, tbl8, tableMem, tableMem, h]
  funext id i
  simp only [bandAt, tbl16, tbl32, bytes]

theorem bandOfLevel_congr (h : b.tables = a.tables) : b.bandOfLevel = a.bandOfLevel := by
  have bytes : b.tbl8 = a.tbl8 := by funext id off; rw [tbl8, tbl8, tableMem, tableMem, h]
  have normal : b.normalBand = a.normalBand := by funext id; simp only [normalBand, bandsIn, bytes, bandAt_congr h]
  have inside : b.inBand = a.inBand := by funext id v i; simp only [inBand, normal, bandAt_congr h]
  funext id v
  simp only [bandOfLevel, bandsIn, bytes, inside, normal]

theorem contourStep_congr (h : b.tables = a.tables) : b.contourStep = a.contourStep := by
  have bytes : b.tbl8 = a.tbl8 := by funext id off; rw [tbl8, tbl8, tableMem, tableMem, h]
  have trip : b.tripStep = a.tripStep := by
    funext id lo hi now c j
    have holds : b.tripHolds id lo hi j = a.tripHolds id lo hi j := by
      unfold tripHolds tbl16
      rw [bytes]
    have clear : b.tbl32 id (0x120 + 16 * j + 4) = a.tbl32 id (0x120 + 16 * j + 4) := by simp only [tbl32, tbl16, bytes]
    rw [tripStep, tripStep, holds, clear]
  have band : b.bandStep = a.bandStep := by
    funext id now c i
    simp only [bandStep, bandAt_congr h]
  have normal : b.normalBand = a.normalBand := by funext id; simp only [normalBand, bandsIn, bytes, bandAt_congr h]
  funext id lo hi now c
  simp only [contourStep, bandOfLevel_congr h, normal, trip, band, bytes]

/-- What both tables are evaluated from, in two states that come from one. -/
theorem contoursAt_congr {s : State} {regs regs' : List Nat} {parts parts' : List Part} (k : Kept regs parts s a) (k' : Kept regs' parts' s b)
    (cv : b.grid.cv = a.grid.cv) (cf : b.grid.cf = a.grid.cf) (freq : b.grid.bear.freq = a.grid.bear.freq)
    (ht : .tables ∉ parts := by decide) (ht' : .tables ∉ parts' := by decide)
    (hr : ∀ r ∈ [Reg.GRID_CTRL, Reg.GRID_VLEVEL, Reg.HOST_TABLE_OK], r ∉ regs := by decide)
    (hr' : ∀ r ∈ [Reg.GRID_CTRL, Reg.GRID_VLEVEL, Reg.HOST_TABLE_OK], r ∉ regs' := by decide) : b.contoursAt = a.contoursAt := by
  have tables : b.tables = a.tables := Eq.trans (b := s.tables) (k'.2 .tables ht') (Eq.symm (k.2 .tables ht))
  have same (f : FieldRef) (hf : f.addr ∈ [Reg.GRID_CTRL, Reg.GRID_VLEVEL, Reg.HOST_TABLE_OK]) : b.get f = a.get f :=
    (k'.get (hr' _ hf)).trans (k.get (hr _ hf)).symm
  have ok (id : Nat) : b.tableOk id = a.tableOk id := by rw [tableOk, ibit, same _ (by simp), ← ibit, ← tableOk]
  have levels : b.levels = a.levels := by rw [State.levels, State.levels, same _ (by simp), same _ (by simp), freq]
  have en : b.bit F.GRID_CTRL_RT_EN = a.bit F.GRID_CTRL_RT_EN := by rw [State.bit, same _ (by simp), ← State.bit]
  funext now
  rw [contoursAt, contoursAt, levels, en, ok, ok, contourStep_congr tables, cv, cf]

end

/-! The stages of a tick -/

/-- A tick as it begins. -/
def tickBegun (s : State) : State :=
  let x := s.mapGrid fun g => { g with ticks := g.ticks + 1, nextTick := g.nextTick + 100000 }
  { x with pwr := { x.pwr with mpWait := none } }

/-- The bearing and the histories of a tick. -/
def tickSeen (s : State) : State := s.tickBegun.bearEnable.passive

/-- The restore as it stands at a tick. -/
def goesOn (s : State) : State := s.mapGrid fun g => { g with restore := s.restoreAt g.ticks }

theorem core_goesOn : s.goesOn.grid.core = s.grid.core := rfl

theorem kept_goesOn : Kept [] [.grid] s s.goesOn := Kept.rfl.mapGrid

/-- The regions and the restore of a tick. -/
def tickJudged (s : State) : State :=
  s.tickSeen.judgeContours.goesOn

/-- The references of a tick. -/
def tickFormed (s : State) : State := s.tickJudged.judgeInject.setsDone.powerRefs.formAmps.judgeEnter

theorem evaluationTick_eq : s.evaluationTick = (s.tickFormed.judgePermit.cellPowerTick s.tickJudged.grid.amps).meterTick := rfl

/-- The registers that the first stage reaches. -/
def seenRegs : List Nat :=
  [Reg.GRID_ROCOF, Reg.GRID_STATUS, Reg.GRID_VERDICT, Reg.GRID_TRIP_COUNT, Reg.GRID_ISL_COUNT, Reg.SCRUB_FAULT_SEEN]

theorem kept_tickBegun : Kept [] [.grid, .pwr] s s.tickBegun := (Kept.rfl.mapGrid : Kept [] [.grid, .pwr] s _).pwr

theorem region_bearGoto (v : Nat) : (s.bearGoto v).region = s.region := by
  unfold bearGoto
  split
  · rfl
  · let x : State := (s.set F.GRID_STATUS_BEAR v).raise 112
    have told : x.region = s.region := (get_raise_apart _ (by decide)).trans (get_set_apart _ (by decide))
    let y : State := x.mapBear fun b => { b with lockSince := none, coastSince := if v = bear.coast then some x.elapsed else none }
    have noted : Kept [] [.grid] x (y.when (v == bear.locked) fun s => s.mapGrid fun g => { g with waitLock := false }) :=
      (Kept.rfl.mapGrid : Kept [] [.grid] x y).when fun h => h.mapGrid
    exact (get_judgePermit_apart _ (by decide) (by decide)).trans (noted.get.trans told)

theorem region_bearEnable : s.bearEnable.region = s.region := by
  unfold bearEnable
  split
  · exact s.region_bearGoto _
  · split
    · exact region_bearGoto _ _
    · rfl

theorem region_passive : s.passive.region = s.region := by
  have noted : s.histories.suspected.region = s.region :=
    ((get_setBit_apart _ (by decide)).trans (Kept.rfl.mapGrid : Kept [] [.grid] s.histories _).get).trans s.kept_histories.get
  rw [passive_eq]
  split
  · split
    · exact noted
    · exact (when_eq State.region _ (region_verdict ..)).trans ((get_raise_apart _ (by decide)).trans noted)
  · exact s.kept_histories.get

/-- The first stage leaves the region. -/
theorem region_tickSeen : s.tickSeen.region = s.region :=
  (region_passive _).trans ((region_bearEnable _).trans s.kept_tickBegun.get)

theorem restoreAt_congr {a b : State} (restore : b.grid.restore = a.grid.restore) (delay : b.tbl16 tid.contourV 0xA = a.tbl16 tid.contourV 0xA)
    (ramp : b.tbl16 tid.contourV 0xC = a.tbl16 tid.contourV 0xC) : b.restoreAt = a.restoreAt := by
  funext now
  rw [restoreAt, restoreAt, restore, restoreDelay, restoreDelay, restoreRamp, restoreRamp, delay, ramp]

theorem kept_tickSeen : Kept seenRegs [.grid, .router, .curt, .pwr] s s.tickSeen :=
  (s.kept_tickBegun.mono.trans (kept_bearEnable _).mono).trans (kept_passive _).mono

/-- What the first stage leaves of the grid block. -/
theorem grid_tickSeen : ∃ bear wait f v r since, s.tickSeen.grid = { s.grid with
    ticks := s.grid.ticks + 1, nextTick := s.grid.nextTick + 100000, bear := bear, waitLock := wait
    fHist := f, vHist := v, rHist := r, suspectAt := since } := by
  obtain ⟨f, v, r, since, seen⟩ := s.tickBegun.bearEnable.grid_passive
  obtain ⟨bear, wait, on⟩ := s.tickBegun.grid_bearEnable
  exact ⟨bear, wait, f, v, r, since, seen.trans (by rw [on]; rfl)⟩

theorem freq_tickSeen : s.tickSeen.grid.bear.freq = s.bearEnable.grid.bear.freq := by
  obtain ⟨f, v, r, since, seen⟩ := s.tickBegun.bearEnable.grid_passive
  have begun := s.kept_tickBegun
  have nom : s.tickBegun.fNom = s.fNom := by rw [fNom, fNom, begun.bit]
  rw [tickSeen, seen, freq_bearEnable, freq_bearEnable, begun.bit, bearState, begun.get, ← bearState, nom]
  rfl

/-- Both tables of a tick are evaluated from the state before it, but for an estimator that leaves OFF (R247). -/
theorem contoursAt_tickSeen : s.tickSeen.contoursAt = s.bearEnable.contoursAt := by
  obtain ⟨bear, wait, f, v, r, since, seen⟩ := s.grid_tickSeen
  obtain ⟨bear', wait', on⟩ := s.grid_bearEnable
  exact contoursAt_congr s.kept_bearEnable s.kept_tickSeen (by rw [seen, on]) (by rw [seen, on]) s.freq_tickSeen

theorem ticks_tickSeen : s.tickSeen.grid.ticks = s.grid.ticks + 1 := by
  obtain ⟨bear, wait, f, v, r, since, seen⟩ := s.grid_tickSeen
  rw [seen]

/-- The tables as a tick evaluates them (R247). -/
def tickContours (s : State) : Contour × Contour := s.bearEnable.contoursAt (s.grid.ticks + 1)

theorem regionAt_tickSeen : s.tickSeen.regionAt = max s.tickContours.1.region s.tickContours.2.region := by
  rw [regionAt, contoursAt_tickSeen, ticks_tickSeen]
  rfl

theorem kept_tickJudged : Kept ([Reg.GRID_DIST_V, Reg.GRID_DIST_F, Reg.GRID_CESS_COUNT] ++ seenRegs) [.grid, .router, .curt, .pwr, .engine] s
    s.tickJudged := (s.kept_tickSeen.mono.trans (kept_judgeContours _).mono).trans (kept_goesOn _).mono

theorem core_tickJudged : s.tickJudged.grid.core =
    (s.grid.ticks + 1, s.grid.nextTick + 100000, s.grid.setWait, s.tickContours.1, s.tickContours.2, s.grid.enterSince) := by
  obtain ⟨bear, wait, f, v, r, since, seen⟩ := s.grid_tickSeen
  refine (core_goesOn s.tickSeen.judgeContours).trans ?_
  rw [grid_judgeContours, core_takeRegion, grid_contoursTaken, contoursAt_tickSeen, ticks_tickSeen, seen]
  rfl

theorem region_tickJudged : s.tickJudged.region = max s.tickContours.1.region s.tickContours.2.region % 8 :=
  (kept_goesOn _).get.trans ((region_judgeContours _).trans (by rw [regionAt_tickSeen]))

/-- The restore goes on by its own time where no region of cessation is left or entered, nor TRIP entered (R251). -/
theorem restore_tickJudged {s : State} (before : s.actsCessation s.region = false)
    (small : max s.tickContours.1.region s.tickContours.2.region < 8) (trip : max s.tickContours.1.region s.tickContours.2.region ≠ region.trip)
    (after : s.actsCessation (max s.tickContours.1.region s.tickContours.2.region) = false) :
    s.tickJudged.grid.restore = s.restoreAt (s.grid.ticks + 1) := by
  let x : State := s.tickSeen.contoursTaken
  have kept : Kept ([Reg.GRID_DIST_V, Reg.GRID_DIST_F] ++ seenRegs) [.grid, .router, .curt, .pwr] s x :=
    s.kept_tickSeen.mono.trans (kept_contoursTaken _).mono
  have cease : x.bit F.GRID_CTRL_PERM_CEASE = s.bit F.GRID_CTRL_PERM_CEASE := kept.bit
  have acts (r : Nat) : x.actsCessation r = s.actsCessation r := by rw [actsCessation, actsCessation, cease]
  have region : x.region = s.region := (kept_contoursTaken _).get.trans s.region_tickSeen
  have restored : s.tickSeen.judgeContours.grid.restore = s.grid.restore := by
    obtain ⟨bear, wait, f, v, r, since, seen⟩ := s.grid_tickSeen
    rw [grid_judgeContours, regionAt_tickSeen, restore_takeRegion (by rw [acts]; exact region ▸ before) small trip (by rw [acts, after]),
      grid_contoursTaken, seen]
  have ticks : s.tickSeen.judgeContours.grid.ticks = s.grid.ticks + 1 := by
    have core := s.core_tickJudged
    rw [tickJudged, core_goesOn, Grid.core_eq] at core
    exact core.1
  have tables : s.tickSeen.judgeContours.tables = s.tables :=
    Eq.trans (b := s.tickSeen.tables) ((kept_judgeContours _).2 .tables (by decide)) (s.kept_tickSeen.2 .tables (by decide))
  have word (off : Nat) : s.tickSeen.judgeContours.tbl16 tid.contourV off = s.tbl16 tid.contourV off := by
    rw [tbl16, tbl16, tbl8, tbl8, tbl8, tbl8, tableMem, tableMem, tables]
  rw [tickJudged, goesOn, grid_mapGrid, ticks, restoreAt_congr restored (word _) (word _)]

/-! From the references to the permit -/

theorem later_judgeInject : s.judgeInject.grid.later = s.grid.later := rfl

theorem kept_judgeInject : Kept [] [.grid] s s.judgeInject := Kept.rfl.mapGrid

theorem kept_setsDone : Kept [] [.grid, .host] s s.setsDone :=
  (Kept.rfl.mapGrid : Kept [] [.grid, .host] s _).each fun _ _ _ h => h.finish

theorem grid_setsDone : s.setsDone.grid = { s.grid with setWait := [] } := by
  have finished : Kept [] [.host] (s.mapGrid fun g => { g with setWait := [] }) s.setsDone := Kept.rfl.each fun _ _ _ h => h.finish
  exact finished.2 .grid (by decide)

/-- Commands that complete at one instant, as the host interface sees them. -/
theorem host_each_finish {x y : State} {l : List Desc} {now : Nat} (host : x.host = y.host)
    (ring : x.bit (F.HOST_RING_CFG_EN 1) = y.bit (F.HOST_RING_CFG_EN 1)) (datum : x.datum = now) :
    (x.each l fun d s => s.finish d).host = (l.foldl (fun s d => s.complete d st.done 0 now) y).host := by
  induction l generalizing x y with
  | nil => exact host
  | cons d l ih =>
    have here : Kept [] [.host] x (x.finish d) := Kept.rfl.finish
    have there : Kept [] [.host] y (y.complete d st.done 0 now) := Kept.rfl.complete
    rw [each_cons, List.foldl_cons]
    refine ih ?_ ((here.bit.trans ring).trans there.bit.symm) (Eq.trans (here.2 .datum (by decide)) datum)
    rw [finish, datum]
    exact host_complete_congr host ring ..

theorem kept_powerRefs : Kept (Reg.GRID_PQ_REF :: cellPwrRegs) [.grid, .pwr, .router] s s.powerRefs := by
  unfold powerRefs
  refine Kept.setSat (Kept.setSat (Kept.mapGrid (Kept.mapGrid (Kept.trans (Kept.mapGrid Kept.rfl)
    ((kept_planDemand ..).mono (by simp) (by simp))))) ?_) ?_ <;> simp

/-- References set aside, a tick's bookkeeping is as it was. -/
theorem later_refs (g : Grid) (p q : Rat) : ({ g with pRef := p } : Grid).later = g.later ∧ ({ g with qRef := q } : Grid).later = g.later := ⟨rfl, rfl⟩

theorem later_powerRefs : s.powerRefs.grid.later = s.grid.later := by
  have planned (x : State) (inc : Rat) (l : Option Rat) : (x.planDemand inc l).grid = x.grid := (x.kept_planDemand inc l).2 .grid (by decide)
  unfold powerRefs
  dsimp only
  rw [grid_setSat, grid_setSat, grid_mapGrid, (later_refs _ 0 _).2, grid_mapGrid, (later_refs _ _ 0).1, planned]
  rfl

theorem kept_formAmps : Kept [Reg.GRID_STATUS] [.grid, .router, .free] s s.formAmps := by
  unfold formAmps
  exact Kept.mapGrid (Kept.when (Kept.setBit (Kept.nextFree Kept.rfl)) fun h => h.raise)

theorem later_formAmps : s.formAmps.grid.later = s.grid.later := by
  unfold formAmps
  dsimp only
  rw [grid_mapGrid]
  change ((State.when _ _ _).grid.later) = _
  refine (when_eq (fun x => x.grid.later) _ (by rw [grid_raise])).trans ?_
  rw [grid_setBit]
  rfl

theorem kept_judgeEnter : Kept [] [.grid] s s.judgeEnter := Kept.rfl.mapGrid

end State

end Sys2Proof.Machine

/-! PROOFS. Evaluation ticks and the expiries that make them (spec/05 R243, R247, R251, R266). -/

namespace Sys2Proof.Machine

set_option Elab.async false

namespace State

variable (s : State)

/-- The registers that references and limits reach. -/
def formedRegs : List Nat := Reg.GRID_STATUS :: Reg.GRID_PQ_REF :: cellPwrRegs

theorem kept_tickFormed_setsDone : Kept formedRegs [.grid, .pwr, .router, .free] s.tickJudged.judgeInject.setsDone s.tickFormed :=
  ((kept_powerRefs _).mono (by simp [formedRegs]) (by simp)).trans
    (((kept_formAmps _).mono (by simp [formedRegs]) (by simp)).trans ((kept_judgeEnter _).mono (by simp) (by simp)))

theorem kept_tickFormed : Kept formedRegs [.grid, .host, .pwr, .router, .free] s.tickJudged s.tickFormed :=
  (((kept_judgeInject _).mono (by simp) (by simp)).trans ((kept_setsDone _).mono (by simp) (by simp))).trans
    (s.kept_tickFormed_setsDone.mono (by simp) (by simp))

/-- The enter windows as a tick leaves them: outside, or inside since then or since before (R266). -/
def enters (old : Option Nat) (now : Nat) (e : Option Nat) : Prop := e = none ∨ e = some (old.getD now)

theorem later_judgeEnter {x : State} {ticks next : Nat} {wait : List Desc} {cv cf : Contour} {enter : Option Nat} {r : Restore}
    (h : x.grid.later = ((ticks, next, wait, cv, cf, enter), r)) :
    ∃ e, x.judgeEnter.grid.later = ((ticks, next, wait, cv, cf, e), r) ∧ enters enter ticks e := by
  obtain ⟨core, rfl⟩ := Prod.mk.injEq .. ▸ h
  obtain ⟨rfl, rfl, rfl, rfl, rfl, rfl⟩ := Grid.core_eq.1 core
  refine ⟨_, rfl, ?_⟩
  unfold enters judgeEnter
  dsimp only [mapGrid]
  split
  · exact .inr rfl
  · exact .inl rfl

theorem later_setsDone {x : State} {ticks next : Nat} {wait : List Desc} {cv cf : Contour} {enter : Option Nat} {r : Restore}
    (h : x.grid.later = ((ticks, next, wait, cv, cf, enter), r)) : x.setsDone.grid.later = ((ticks, next, [], cv, cf, enter), r) := by
  obtain ⟨core, rfl⟩ := Prod.mk.injEq .. ▸ h
  obtain ⟨rfl, rfl, rfl, rfl, rfl, rfl⟩ := Grid.core_eq.1 core
  rw [grid_setsDone]
  rfl

theorem later_tickFormed : ∃ e, s.tickFormed.grid.later = ((s.grid.ticks + 1, s.grid.nextTick + 100000, [], s.tickContours.1, s.tickContours.2,
    e), s.tickJudged.grid.restore) ∧ enters s.grid.enterSince (s.grid.ticks + 1) e := by
  refine later_judgeEnter ?_
  rw [later_formAmps, later_powerRefs]
  refine later_setsDone (wait := s.grid.setWait) ?_
  rw [later_judgeInject, Grid.later, core_tickJudged]

theorem region_formAmps : s.formAmps.region = s.region := by
  have shown (x : State) (f : Grid → Grid) : (x.mapGrid f).region = x.region := rfl
  have told (x : State) (c : Bool) : (x.when c fun s => s.raise 124).region = x.region := when_eq State.region _ (get_raise_apart _ (by decide))
  have set (x : State) (c : Bool) : (x.setBit F.GRID_STATUS_ILIM c).region = x.region := get_setBit_apart _ (by decide)
  have next (x : State) : x.nextFree.region = x.region := rfl
  unfold formAmps
  rw [shown, told, set, next]

theorem region_tickFormed : s.tickFormed.region = s.tickJudged.region := by
  have far : F.GRID_STATUS_REGION.addr ∉ Reg.GRID_PQ_REF :: cellPwrRegs := by simp [cellPwrRegs]
  have before : s.tickJudged.judgeInject.setsDone.region = s.tickJudged.region := (kept_setsDone _).get.trans (kept_judgeInject _).get
  exact (kept_judgeEnter _).get.trans ((region_formAmps _).trans (((kept_powerRefs _).get far).trans before))

theorem setWait_judgeInject : s.judgeInject.grid.setWait = s.grid.setWait := rfl

/-- The commands that waited for this tick have completed, and nothing else reaches the host interface (R233). -/
theorem host_tickFormed : s.tickFormed.host = (s.grid.setWait.foldl (fun x d => x.complete d st.done 0 s.datum) s).host := by
  have judged : Kept ([Reg.GRID_DIST_V, Reg.GRID_DIST_F, Reg.GRID_CESS_COUNT] ++ seenRegs) [.grid, .router, .curt, .pwr, .engine] s
      s.tickJudged.judgeInject := s.kept_tickJudged.trans (kept_judgeInject _).mono
  have cleared : Kept [] [.grid] s.tickJudged.judgeInject (s.tickJudged.judgeInject.mapGrid fun g => { g with setWait := [] }) := Kept.rfl.mapGrid
  have before := judged.trans cleared.mono
  have later : s.tickFormed.host = s.tickJudged.judgeInject.setsDone.host := s.kept_tickFormed_setsDone.2 .host (by decide)
  obtain ⟨-, -, wait, -⟩ := Grid.core_eq.1 s.core_tickJudged
  rw [later, setsDone, setWait_judgeInject, wait]
  exact host_each_finish (before.2 .host (by decide)) before.bit (before.2 .datum (by decide))

/-! A tick as a whole -/

/-- What follows the permit leaves the grid block. -/
theorem kept_evaluationTick_permit : Kept (Reg.METER_STATUS :: cellPwrRegs) [.pwr, .wing, .router, .meter] s.tickFormed.judgePermit
    s.evaluationTick := by
  rw [evaluationTick_eq]
  exact ((kept_cellPowerTick _ _).mono (by simp) (by simp)).trans ((kept_meterTick _).mono (by simp) (by simp))

/-- What an evaluation tick leaves of the grid block and makes of the commands that waited. -/
structure Ticked (a b : State) : Prop where
  tables : b.tables = a.tables
  ticks : b.grid.ticks = a.grid.ticks + 1
  next : b.grid.nextTick = a.grid.nextTick + 100000
  cv : b.grid.cv = a.tickContours.1
  cf : b.grid.cf = a.tickContours.2
  wait : b.grid.setWait = []
  restore : b.grid.restore = a.tickJudged.grid.restore
  enter : enters a.grid.enterSince (a.grid.ticks + 1) b.grid.enterSince
  region : b.region = max a.tickContours.1.region a.tickContours.2.region % 8
  host : b.host = (a.grid.setWait.foldl (fun x d => x.complete d st.done 0 a.datum) a).host
  permit : b.bit F.GRID_STATUS_PERMIT = b.permitNow

/-- A state whose tables are as the command found them reads as settled. -/
theorem kept_settle_self {s a x : State} (tables : x.tables = s.tables) : Kept [] [] x (s.settle a x) := by
  refine ⟨fun r _ => reg_settle .., fun p _ => ?_⟩
  cases p <;> simp only [Part.same] <;> try rfl
  · intro k
    simp
  · rw [settle]
    exact (if_pos tables).trans tables.symm

theorem Ticked.settle {s x : State} {t : Nat} (h : Ticked (s.advance t) x) : Ticked (s.advance t) (s.settle (s.advance t) x) where
  tables := (kept_settle_self h.tables).2 .tables (by decide) |>.trans h.tables
  ticks := h.ticks
  next := h.next
  cv := h.cv
  cf := h.cf
  wait := h.wait
  restore := h.restore
  enter := h.enter
  region := (get_settle ..).trans h.region
  host := h.host
  permit := (bit_settle ..).trans (h.permit.trans (permitNow_congr (kept_settle_self h.tables) (get_settle ..) rfl rfl).symm)

theorem ticked_evaluationTick : Ticked s s.evaluationTick := by
  have last := s.kept_evaluationTick_permit
  have permit := s.tickFormed.kept_judgePermit
  have grid : s.evaluationTick.grid = s.tickFormed.grid :=
    Eq.trans (b := s.tickFormed.judgePermit.grid) (last.2 .grid (by decide)) (permit.2 .grid (by decide))
  have host : s.evaluationTick.host = s.tickFormed.host :=
    Eq.trans (b := s.tickFormed.judgePermit.host) (last.2 .host (by decide)) (permit.2 .host (by decide))
  obtain ⟨e, formed, enter⟩ := s.later_tickFormed
  rw [← grid, Grid.later, Prod.mk.injEq, Grid.core_eq] at formed
  obtain ⟨⟨ticks, next, wait, cv, cf, rfl⟩, restore⟩ := formed
  have far : F.GRID_STATUS_REGION.addr ∉ Reg.METER_STATUS :: cellPwrRegs := by simp [cellPwrRegs]
  have tables : s.evaluationTick.tables = s.tables :=
    Eq.trans (b := s.tickFormed.judgePermit.tables) (last.2 .tables (by decide)) (Eq.trans (b := s.tickFormed.tables) (permit.2 .tables (by decide))
      (Eq.trans (b := s.tickJudged.tables) (s.kept_tickFormed.2 .tables (by decide)) (s.kept_tickJudged.2 .tables (by decide))))
  refine ⟨tables, ticks, next, cv, cf, wait, restore, enter, ?_, host.trans s.host_tickFormed, ?_⟩
  · exact ((last.get far).trans (get_judgePermit_apart _ (by decide) (by decide))).trans (s.region_tickFormed.trans s.region_tickJudged)
  · have same : s.evaluationTick.grid = s.tickFormed.judgePermit.grid := last.2 .grid (by decide)
    rw [last.bit (by simp [cellPwrRegs]), permit_judgePermit]
    refine (permitNow_congr last (last.get (by simp [cellPwrRegs])) (by rw [same]) (by rw [same]) (by decide) ?_).symm
    simp [cellPwrRegs, Reg.GRID_NOM, Reg.GRID_VERDICT, Reg.HOST_TABLE_OK]

end State

theorem ticked_run {s : State} {t : Nat} {c : Instr} {f : State → State} (run : exec c s = s.run t f) (effect : f (s.advance t) = (s.advance t).evaluationTick) :
    Completes c s fun b => State.Ticked (s.advance t) b := completes_of_eq run effect (State.ticked_evaluationTick _).settle

section
variable {s : State} {t : Nat} (due : (s.advance t).tickDue = true)
include due

/-- A trip point whose condition has held for CLEAR makes the tick. -/
theorem ticked_clearExpiry (on : (s.advance t).bit F.GRID_CTRL_RT_EN = true)
    (reached : ((s.advance t).clearReached tid.contourV (s.advance t).levels.1 (s.advance t).levels.2.1 (s.advance t).grid.cv ||
      (s.advance t).clearReached tid.contourF (s.advance t).levels.2.2 (s.advance t).levels.2.2 (s.advance t).grid.cf) = true) :
    Completes (.clearExpiry t) s fun b => State.Ticked (s.advance t) b :=
  ticked_run (exec_clearExpiry t s) (congrArg ((s.advance t).when · State.evaluationTick)
    (Bool.and_eq_true_iff.2 ⟨Bool.and_eq_true_iff.2 ⟨due, on⟩, reached⟩))

/-- A disturbance that has lasted a band's MAX_DUR makes the tick. -/
theorem ticked_maxDurExpiry (on : (s.advance t).bit F.GRID_CTRL_RT_EN = true)
    (reached : ((s.advance t).durReached tid.contourV (s.advance t).levels.1 (s.advance t).levels.2.1 (s.advance t).grid.cv ||
      (s.advance t).durReached tid.contourF (s.advance t).levels.2.2 (s.advance t).levels.2.2 (s.advance t).grid.cf) = true) :
    Completes (.maxDurExpiry t) s fun b => State.Ticked (s.advance t) b :=
  ticked_run (exec_maxDurExpiry t s) (congrArg ((s.advance t).when · State.evaluationTick)
    (Bool.and_eq_true_iff.2 ⟨Bool.and_eq_true_iff.2 ⟨due, on⟩, reached⟩))

theorem ticked_enterServiceDelay {t0 : Nat} (since : (s.advance t).grid.enterSince = some t0)
    (passed : t0 + (s.advance t).tbl16 tid.contourV 8 * 10000 ≤ (s.advance t).grid.ticks + 1) :
    Completes (.enterServiceDelay t) s fun b => State.Ticked (s.advance t) b := by
  refine ticked_run (exec_enterServiceDelay t s) ?_
  simp only [since]
  exact congrArg ((s.advance t).when · State.evaluationTick) (Bool.and_eq_true_iff.2 ⟨due, decide_eq_true passed⟩)

theorem ticked_restoreDelayExpiry {t0 : Nat} (restore : (s.advance t).grid.restore = .hold t0)
    (passed : t0 + (s.advance t).restoreDelay ≤ (s.advance t).grid.ticks + 1) :
    Completes (.restoreDelayExpiry t) s fun b => State.Ticked (s.advance t) b := by
  refine ticked_run (exec_restoreDelayExpiry t s) ?_
  simp only [restore]
  exact congrArg ((s.advance t).when · State.evaluationTick) (Bool.and_eq_true_iff.2 ⟨due, decide_eq_true passed⟩)

theorem ticked_restoreRampEnd {t0 : Nat} (restore : (s.advance t).grid.restore = .ramp t0)
    (passed : t0 + (s.advance t).restoreRamp ≤ (s.advance t).grid.ticks + 1) :
    Completes (.restoreRampEnd t) s fun b => State.Ticked (s.advance t) b := by
  refine ticked_run (exec_restoreRampEnd t s) ?_
  simp only [restore]
  exact congrArg ((s.advance t).when · State.evaluationTick) (Bool.and_eq_true_iff.2 ⟨due, decide_eq_true passed⟩)

end

/-- Settles O16: each of the commands makes the whole tick when its timer has run out. -/
theorem evaluationTicks : Obligations.EvaluationTicks := by
  intro s t c a en l v dur k due named
  have ticked : Completes c s fun b => State.Ticked a b := by
    rcases named with rfl | ⟨rfl, on, hv⟩ | ⟨rfl, on, hd⟩ | ⟨t0, rfl, since, passed⟩ | ⟨t0, rfl, restore, passed⟩ | ⟨t0, rfl, restore, passed⟩
    · exact ticked_run (exec_evaluationTick t s) (congrArg (a.when · State.evaluationTick) due)
    · exact ticked_clearExpiry due on hv
    · exact ticked_maxDurExpiry due on hd
    · exact ticked_enterServiceDelay due since passed
    · exact ticked_restoreDelayExpiry due restore passed
    · exact ticked_restoreRampEnd due restore passed
  obtain ⟨b, run, h⟩ := ticked
  exact ⟨b, run, h.ticks, h.next, h.cv, h.cf, h.region, h.wait, h.host, h.permit⟩

/-! The expiries of a table's evaluation (R247) -/

namespace State

variable (s : State)

theorem tripStep_dist (id lo hi now : Nat) (c : Contour) (j : Nat) : (s.tripStep id lo hi now c j).dist = c.dist := by
  unfold tripStep
  dsimp only
  split
  · rfl
  · split <;> rfl

/-- A trip point leaves the region as it is or makes it TRIP. -/
theorem tripStep_region (id lo hi now : Nat) (c : Contour) (j : Nat) :
    (s.tripStep id lo hi now c j).region = c.region ∨ (s.tripStep id lo hi now c j).region = region.trip := by
  unfold tripStep
  dsimp only
  split
  · exact .inl rfl
  · split
    · exact .inr rfl
    · exact .inl rfl

theorem foldl_tripStep_of_trip (id lo hi now : Nat) (l : List Nat) (c : Contour) (trip : c.region = region.trip) :
    (l.foldl (s.tripStep id lo hi now) c).region = region.trip := by
  induction l generalizing c with
  | nil => exact trip
  | cons j l ih =>
    refine ih _ ?_
    rcases s.tripStep_region id lo hi now c j with same | now
    · exact same.trans trip
    · exact now

/-- A trip point whose condition has held for CLEAR makes the region TRIP. -/
theorem foldl_tripStep_of_held {id lo hi now j t0 : Nat} (holds : s.tripHolds id lo hi j = true)
    (passed : t0 + s.tbl32 id (0x120 + 16 * j + 4) ≤ now) (l : List Nat) (mem : j ∈ l) (c : Contour)
    (since : Sparse.get (fun _ => none) c.since j = some t0) : (l.foldl (s.tripStep id lo hi now) c).region = region.trip := by
  induction l generalizing c with
  | nil => exact absurd mem List.not_mem_nil
  | cons i l ih =>
    by_cases here : i = j
    · subst here
      refine s.foldl_tripStep_of_trip id lo hi now l _ ?_
      simp [tripStep, sinceNow, holds, since, passed]
    · refine ih ((List.mem_cons.1 mem).resolve_left (Ne.symm here)) _ ?_
      have kept : (s.tripStep id lo hi now c i).since = Sparse.set (fun _ => none) c.since i
          (sinceNow now (s.tripHolds id lo hi i) (Sparse.get (fun _ => none) c.since i)) := by
        unfold tripStep
        dsimp only
        split
        · rfl
        · split <;> rfl
      rw [kept, Sparse.get_set, if_neg here, since]

theorem foldl_tripStep_dist (id lo hi now : Nat) (l : List Nat) (c : Contour) :
    (l.foldl (s.tripStep id lo hi now) c).dist = c.dist := by
  induction l generalizing c with
  | nil => rfl
  | cons j l ih => exact (ih _).trans (s.tripStep_dist ..)

/-- A band raises the region at most. -/
theorem bandStep_region (id now : Nat) (c : Contour) (i : Nat) : c.region ≤ (s.bandStep id now c i).region := le_max_left ..

theorem bandStep_dist (id now : Nat) (c : Contour) (i : Nat) : (s.bandStep id now c i).dist = c.dist := rfl

/-- A band whose MAX_DUR has passed gives its AFTER region. -/
theorem after_bandStep {id now t0 i : Nat} {c : Contour} (dist : c.dist = some t0) (limited : (s.bandAt id i).maxDur ≠ 0xFFFFFFFF)
    (passed : t0 + (s.bandAt id i).maxDur ≤ now) : (s.bandAt id i).after ≤ (s.bandStep id now c i).region := by
  unfold bandStep
  simp [dist, limited, passed]

/-- A trip point that has held for CLEAR (R247). -/
theorem trip_contourStep {id lo hi : Nat} {c : Contour} (reached : s.clearReached id lo hi c = true) :
    region.trip ≤ (s.contourStep id lo hi (s.grid.ticks + 1) c).region := by
  obtain ⟨-, j, hj, held⟩ : s.tableOk id = true ∧ ∃ j ∈ List.range (s.tbl8 id 2), s.tripHolds id lo hi j = true ∧ _ = true := by
    simpa only [clearReached, Bool.and_eq_true, List.any_eq_true] using reached
  obtain ⟨holds, passed⟩ := held
  split at passed
  · contradiction
  next t0 since =>
    unfold contourStep
    refine le_trans ?_ ((s.bandStep_region ..).trans (s.bandStep_region ..))
    refine Eq.ge (s.foldl_tripStep_of_held holds (of_decide_eq_true passed) _ hj _ ?_)
    exact since

/-- A band, other than the normal one, that the disturbance has stayed in for MAX_DUR (R247). -/
theorem after_contourStep {id lo hi now t0 i : Nat} {c : Contour} (dist : c.dist = some t0)
    (band : i = s.bandOfLevel id lo ∨ i = s.bandOfLevel id hi) (other : i ≠ s.normalBand id)
    (limited : (s.bandAt id i).maxDur ≠ 0xFFFFFFFF) (passed : t0 + (s.bandAt id i).maxDur ≤ now) :
    (s.bandAt id i).after ≤ (s.contourStep id lo hi now c).region := by
  unfold contourStep
  dsimp only
  have lasting : (if s.bandOfLevel id lo = s.normalBand id && s.bandOfLevel id hi = s.normalBand id then none else some (c.dist.getD now)) =
      some t0 := by
    rw [dist, if_neg]
    · rfl
    · simp only [Bool.and_eq_true, decide_eq_true_eq]
      rintro ⟨hl, hh⟩
      rcases band with rfl | rfl
      · exact other hl
      · exact other hh
  rw [lasting]
  have still := s.foldl_tripStep_dist id lo hi now (List.range (s.tbl8 id 2))
    { c with dist := some t0, region := region.continuous, cause := none }
  rcases band with rfl | rfl
  · exact (s.after_bandStep still limited passed).trans (s.bandStep_region ..)
  · exact s.after_bandStep still limited passed

theorem tableOk_bearEnable (id : Nat) : s.bearEnable.tableOk id = s.tableOk id := s.kept_bearEnable.ibit

theorem grid_bearEnable_contours : s.bearEnable.grid.cv = s.grid.cv ∧ s.bearEnable.grid.cf = s.grid.cf := by
  obtain ⟨bear, wait, eq⟩ := s.grid_bearEnable
  rw [eq]
  exact ⟨rfl, rfl⟩

/-- The voltage table of a tick, where it is evaluated. -/
theorem tickContours_volts {s : State} (on : s.bit F.GRID_CTRL_RT_EN = true) (ok : s.tableOk tid.contourV = true) : s.tickContours.1 =
    s.contourStep tid.contourV s.levels.1 s.levels.2.1 (s.grid.ticks + 1) s.grid.cv := by
  have tables : s.bearEnable.tables = s.tables := s.kept_bearEnable.2 .tables (by decide)
  rw [tickContours, contoursAt, State.levels, s.kept_bearEnable.get, s.kept_bearEnable.get, s.kept_bearEnable.bit, tableOk_bearEnable, on, ok,
    contourStep_congr tables, s.grid_bearEnable_contours.1]
  rfl

/-- The frequency table of a tick, where it is evaluated. -/
theorem tickContours_freq {s : State} (on : s.bit F.GRID_CTRL_RT_EN = true) (ok : s.tableOk tid.contourF = true) : s.tickContours.2 =
    s.contourStep tid.contourF s.bearEnable.levels.2.2 s.bearEnable.levels.2.2 (s.grid.ticks + 1) s.grid.cf := by
  have tables : s.bearEnable.tables = s.tables := s.kept_bearEnable.2 .tables (by decide)
  rw [tickContours, contoursAt, State.levels, s.kept_bearEnable.bit, tableOk_bearEnable, tableOk_bearEnable, on, ok, contourStep_congr tables,
    s.grid_bearEnable_contours.2]
  rfl

/-- A band reached is reached for its table (R247). -/
theorem durReached_of {s : State} {id lo hi t0 i : Nat} {c : Contour} (ok : s.tableOk id = true) (dist : c.dist = some t0)
    (band : i = s.bandOfLevel id lo ∨ i = s.bandOfLevel id hi) (limited : (s.bandAt id i).maxDur ≠ 0xFFFFFFFF)
    (passed : t0 + (s.bandAt id i).maxDur ≤ s.grid.ticks + 1) : s.durReached id lo hi c = true := by
  unfold durReached
  rw [ok, dist, Bool.true_and]
  refine List.any_eq_true.2 ⟨i, by simpa using band, ?_⟩
  exact Bool.and_eq_true_iff.2 ⟨decide_eq_true limited, decide_eq_true passed⟩

end State

/-- Settles O17: what each expiry means to the tick that it makes. -/
theorem expiriesAtATick : Obligations.ExpiriesAtATick := by
  refine ⟨?clear, ?volts, ?freq, ?delay, ?ramp, ?enter⟩
  case clear =>
    intro s t a l f due on reached
    obtain ⟨b, run, h⟩ := ticked_clearExpiry due on (Bool.or_eq_true_iff.2 reached)
    have valid {id lo hi : Nat} {c : Contour} (held : a.clearReached id lo hi c = true) : a.tableOk id = true := (Bool.and_eq_true_iff.1 held).1
    refine ⟨b, run, fun held => ?_, fun held => ?_⟩
    · rw [h.cv, State.tickContours_volts on (valid held)]
      exact a.trip_contourStep held
    · rw [h.cf, State.tickContours_freq on (valid held)]
      exact a.trip_contourStep held
  case volts =>
    intro s t t0 i a l x due on ok dist band other limited passed
    obtain ⟨b, run, h⟩ := ticked_maxDurExpiry due on
      (Bool.or_eq_true_iff.2 (.inl (State.durReached_of ok dist band limited passed)))
    refine ⟨b, run, ?_⟩
    change x.after ≤ b.grid.cv.region
    rw [h.cv, State.tickContours_volts on ok]
    exact a.after_contourStep dist band other limited passed
  case freq =>
    intro s t t0 i a x due on ok still dist band other limited passed
    obtain ⟨b, run, h⟩ := ticked_maxDurExpiry due on
      (Bool.or_eq_true_iff.2 (.inr (State.durReached_of ok dist (.inl band) limited passed)))
    refine ⟨b, run, ?_⟩
    have level : a.bearEnable.levels.2.2 = a.levels.2.2 := by rw [still]
    change x.after ≤ b.grid.cf.region
    rw [h.cf, State.tickContours_freq on ok, level]
    exact a.after_contourStep dist (.inl band) other limited passed
  case delay =>
    intro s t t0 a k r due before small trip after restore passed
    obtain ⟨b, run, h⟩ := ticked_restoreDelayExpiry due restore passed
    refine ⟨b, run, h.restore.trans ((State.restore_tickJudged before small trip after).trans ?_)⟩
    rw [State.restoreAt, show a.grid.restore = _ from restore]
    exact if_pos passed
  case ramp =>
    intro s t t0 a k r due before small trip after restore passed
    obtain ⟨b, run, h⟩ := ticked_restoreRampEnd due restore passed
    refine ⟨b, run, h.restore.trans ((State.restore_tickJudged before small trip after).trans ?_)⟩
    rw [State.restoreAt, show a.grid.restore = _ from restore]
    exact if_pos passed
  case enter =>
    intro s t t0 a due since passed
    obtain ⟨b, run, h⟩ := ticked_enterServiceDelay due since passed
    refine ⟨b, run, h.ticks, h.permit, ?_⟩
    have enter := h.enter
    rw [show (s.advance t).grid.enterSince = some t0 from since] at enter
    exact enter.symm

end Sys2Proof.Machine

/-! PROOFS. The bearing's own commands, POWER_SET, suspicion and the missing SIGNATURE (spec/05 R229 to R233, R253, R259). -/

namespace Sys2Proof.Machine

set_option Elab.async false

/-- A command completes with what holds of the state that its effect makes of the state `a` at its instant. -/
theorem completes_at {c : Instr} {s a x : State} {t : Nat} {f : State → State} {P : State → Prop} (h : exec c s = s.run t f)
    (now : s.advance t = a) (effect : f a = x) (hP : P (s.settle a x)) : Completes c s P :=
  completes_of_eq h (now ▸ effect) (now ▸ hP)

/-- What the effect keeps of the state at the command's instant, the command keeps. -/
theorem Kept.settled {regs : List Nat} {parts : List Part} {s a x : State} {t : Nat} (now : s.advance t = a)
    (h : Kept regs parts a x) : Kept regs parts a (s.settle a x) := by
  subst now
  exact h.settle

/-- A refusal at this instant is the command's end. -/
theorem Ended.refuse (s a : State) (d : Desc) (status detail : Nat) :
    Ended d status detail a.datum a (s.settle a (a.refuse d status detail)) := rfl

theorem Ended.finish (s a : State) (d : Desc) (detail : Nat) : Ended d st.done detail a.datum a (s.settle a (a.finish d detail)) := rfl

namespace State

variable (s : State)

/-- PERMIT's change is told, and nothing else. -/
theorem inflight_judgePermit : ∃ l, s.judgePermit.router.inflight = s.router.inflight ++ l := by
  unfold judgePermit
  split
  · exact ⟨[], (List.append_nil _).symm⟩
  · exact ⟨_, congrArg Router.inflight (router_raise ..)⟩

theorem bearState_bearGoto {v : Nat} (h : v < 8) : (s.bearGoto v).bearState = v := by
  unfold bearGoto
  split
  next same => exact same
  next =>
    rw [bearState_judgePermit]
    refine Eq.trans (Kept.get (parts := [.grid]) (regs := []) ((Kept.rfl.grid).when fun h => h.mapGrid)) ?_
    exact (get_raise_apart _ (by decide)).trans (get_set_of_lt _ (by decide) h)

/-- A change of the bearing's state is told first (R229). -/
theorem inflight_bearGoto {s : State} {v : Nat} (change : s.bearState ≠ v) :
    ∃ l, (s.bearGoto v).router.inflight = s.router.inflight ++ { stamp := s.datum, num := 112 } :: l := by
  obtain ⟨l, told⟩ := inflight_judgePermit ((((s.set F.GRID_STATUS_BEAR v).raise 112).mapBear fun b => { b with
      lockSince := none, coastSince := if v = bear.coast then some ((s.set F.GRID_STATUS_BEAR v).raise 112).elapsed else none }).when
    (v == bear.locked) fun s => s.mapGrid fun g => { g with waitLock := false })
  refine ⟨l, ?_⟩
  rw [bearGoto, if_neg change]
  refine told.trans ?_
  have router : ((s.set F.GRID_STATUS_BEAR v).raise 112).router =
      { s.router with inflight := s.router.inflight ++ [{ stamp := s.datum, num := 112, inst := 0 }] } := by
    rw [router_raise, router_set, datum_set]
  rw [when_eq (fun x => x.router.inflight) _ rfl]
  change ((s.set F.GRID_STATUS_BEAR v).raise 112).router.inflight ++ l = _
  rw [router]
  simp

/-- Locked, no reference waits for the bearing. -/
theorem waitLock_bearGoto {s : State} (change : s.bearState ≠ bear.locked) : (s.bearGoto bear.locked).grid.waitLock = false := by
  rw [bearGoto, if_neg change]
  exact congrArg Grid.waitLock ((State.kept_judgePermit _).2 .grid (by decide))

end State

/-- Settles O18: a change of the bearing's state is told, then PERMIT follows it (R229, R266). -/
theorem bearingAndSetPoints : Obligations.BearingAndSetPoints := by
  refine ⟨?lock, ?coast, ?input, ?stored, ?refused, ?suspicion, ?missing⟩
  case lock =>
    intro s t a
    have now : s.advance t = a := rfl
    clear_value a
    intro seeking due free
    have change : a.bearState ≠ bear.locked := by rw [seeking]; decide
    refine completes_at (exec_bearingLock ..) now (if_pos (by simp [seeking, due, free])) ?_
    exact ⟨(State.get_settle ..).trans (a.bearState_bearGoto (by decide)), State.waitLock_bearGoto change, State.inflight_bearGoto change,
      (a.kept_bearGoto _).settled now⟩
  case coast =>
    intro s t a
    have now : s.advance t = a := rfl
    clear_value a
    intro coast due free
    have still : (a.raise 113).bearState = bear.coast := (State.get_raise_apart _ (by decide)).trans coast
    obtain ⟨l, told⟩ := State.inflight_bearGoto (s := a.raise 113) (v := bear.lost) (by rw [still]; decide)
    refine completes_at (exec_coastExpiry ..) now (if_pos (by simp [coast, due, free])) ?_
    refine ⟨(State.get_settle ..).trans (State.bearState_bearGoto _ (by decide)), ⟨l, told.trans ?_⟩,
      ((Kept.rfl.raiseFault : Kept [Reg.GRID_STATUS, Reg.SCRUB_FAULT_SEEN] [.grid, .router] a _).trans (State.kept_bearGoto _ _).mono).settled now⟩
    rw [State.router_raise, State.datum_raise, List.append_assoc]
    rfl
  case input =>
    intro s t x a
    have now : s.advance t = a := rfl
    clear_value a
    intro missing free on
    obtain ⟨y, hy⟩ : ∃ y, y = (a.mapBear fun b => { b with missing := Sparse.set (fun _ => 0) b.missing x 21 }).raise 115 := ⟨_, rfl⟩
    have first : y.router.inflight = a.router.inflight ++ [{ stamp := a.datum, num := 115 }] := by
      rw [hy]
      exact congrArg Router.inflight (State.router_raise ..)
    have kept : Kept [Reg.GRID_STATUS] [.grid, .router] a y := by
      rw [hy]
      exact Kept.rfl.mapGrid.raise
    have told : ∃ l, (y.bearGoto bear.lost).router.inflight = a.router.inflight ++ { stamp := a.datum, num := 115 } :: l := by
      by_cases lost : y.bearState = bear.lost
      · exact ⟨[], by rw [State.bearGoto, if_pos lost, first]⟩
      · obtain ⟨l, told⟩ := State.inflight_bearGoto lost
        exact ⟨_ :: l, by rw [told, first, List.append_assoc]; rfl⟩
    refine completes_at (x := y.bearGoto bear.lost) (exec_bearInput ..) now (hy ▸ if_pos (by simp [missing, free, on])) ?_
    exact ⟨(State.get_settle ..).trans (State.bearState_bearGoto _ (by decide)), told, (kept.trans (State.kept_bearGoto _ _)).settled now⟩
  case stored =>
    intro s t d a p q n
    have now : s.advance t = a := rfl
    clear_value a
    intro target len low high qlow qhigh bits
    refine completes_at (exec_powerSet ..) now (State.checked_pass _ (firstFail_eq_none.2 ?_) _) ⟨rfl, Kept.rfl.mapGrid.settled now⟩
    simp only [List.forall_mem_cons, target, len]
    simpa using And.intro (And.intro low high) (And.intro (And.intro qlow qhigh) bits)
  case refused =>
    intro s t d status detail a p q n
    have now : s.advance t = a := rfl
    clear_value a
    intro fail
    refine completes_at (exec_powerSet ..) now (State.checked_fail _ ?_ _) ⟨Ended.refuse .., (a.kept_refuse ..).settled now⟩
    simpa only [Bool.decide_or] using fail
  case suspicion =>
    intro s t a
    have now : s.advance t = a := rfl
    clear_value a
    intro suspect due free
    refine completes_at (exec_suspectClear ..) now (if_pos (by simp [State.expired, suspect, due, free])) ⟨?_, Kept.rfl.setBit.settled now⟩
    exact (State.bit_settle ..).trans (State.bit_setBit_same _ (by decide) rfl)
  case missing =>
    intro s t a
    have now : s.advance t = a := rfl
    clear_value a
    intro role ends none
    have came : (match a.grid.sigSeen with | Option.none => false | some x => decide (a.datum ≤ x + second)) = false := by
      cases seen : a.grid.sigSeen with
      | none => rfl
      | some x => exact decide_eq_false (by have := none x seen; omega)
    refine completes_at (exec_signatureMiss ..) now (if_pos ?_) ⟨(State.get_settle ..).trans (State.get_count_same _ (by decide)), Kept.rfl.count.settled now⟩
    exact Bool.and_eq_true_iff.2 ⟨Bool.and_eq_true_iff.2 ⟨role, decide_eq_true ends⟩, congrArg not came⟩

end Sys2Proof.Machine

/-! PROOFS. Dump switches in ride-through (spec/08 R369 to R371, R376). -/

namespace Sys2Proof.Machine

set_option Elab.async false

namespace State

variable (s : State)

theorem pwrCell_setPwrCell (c : Nat) (x : PwrCell) : (s.setPwrCell c x).pwrCell c = x := by
  simp [pwrCell, setPwrCell]

/-- An order given to a cell is among those it is to have. -/
theorem order_giveOrder (c : Nat) (o : Owner) (codes : List Nat) :
    ({ owner := o, codes := codes } : Order) ∈ ((s.giveOrder c o codes).tx c).orders := by
  simp [giveOrder, tx, setTx]

/-- A switch turned off is OFF, its on-time kept, its order given. -/
theorem dumpState_dumpOff (c : Nat) : (s.dumpOff c).dumpState c = dump.off := get_set_of_lt _ (Nat.le_of_ble_eq_true rfl) (Nat.le_of_ble_eq_true rfl)

/-- Only the switch's own field changes. -/
theorem dumpState_dumpOff_ne {c k : Nat} (h : k ≠ c) : (s.dumpOff c).dumpState k = s.dumpState k :=
  (s.kept_dumpOff c).get (by simpa [Reg.CELLPWR_CELL] using h)

theorem onSince_dumpOff (c : Nat) : ((s.dumpOff c).pwrCell c).onSince = none := by
  have ordered (x : State) : ((x.dumpOrder c false).pwrCell c).onSince = (x.pwrCell c).onSince := by
    unfold dumpOrder
    rw [pwrCell_setPwrCell]
    rfl
  unfold dumpOff
  rw [pwrCell, pwr_set, ← pwrCell, ordered, pwrCell_setPwrCell]

theorem order_dumpOff (c : Nat) : ({ owner := .dump false, codes := [order.dumpOff] } : Order) ∈ ((s.dumpOff c).tx c).orders := by
  unfold dumpOff dumpOrder
  rw [tx, wing_set, wing_setPwrCell, ← tx]
  exact order_giveOrder ..

/-- Every switch of a list is turned off. -/
theorem dumpState_each_dumpOff (l : List Nat) (c : Nat) :
    (s.each l dumpOff).dumpState c = if c ∈ l then dump.off else s.dumpState c := by
  induction l generalizing s with
  | nil => rfl
  | cons k l ih =>
    rw [each_cons, ih]
    by_cases h : c = k
    · subst h
      simp [dumpState_dumpOff]
    · simp [h, s.dumpState_dumpOff_ne h]

/-- ARMED follows its definition (R369). -/
theorem armed_judgeArmed : s.judgeArmed.bit F.CELLPWR_STATUS_DUMP_ARMED = s.dumpArmed := by
  have set : (s.setBit F.CELLPWR_STATUS_DUMP_ARMED s.dumpArmed).bit F.CELLPWR_STATUS_DUMP_ARMED = s.dumpArmed :=
    bit_setBit_same _ (by decide) rfl
  have cells : Reg.CELLPWR_STATUS ∉ cellIds.map Reg.CELLPWR_CELL := by decide
  have cell {c : Nat} (hc : c < 128) : Reg.CELLPWR_CELL c ∈ cellIds.map Reg.CELLPWR_CELL := List.mem_map_of_mem (List.mem_range.2 hc)
  unfold judgeArmed
  dsimp only
  split
  · refine Eq.trans (Kept.bit (regs := cellIds.map Reg.CELLPWR_CELL) (parts := [.pwr, .wing]) ?_ cells) set
    exact Kept.rfl.each fun c hc x h => h.ite ((h.setBit (cell (List.mem_range.1 hc))).setPwrCell)
  · split
    · refine Eq.trans (Kept.bit (regs := cellIds.map Reg.CELLPWR_CELL) (parts := [.pwr, .wing]) ?_ cells) set
      exact Kept.rfl.each fun c hc x h => h.trans ((x.kept_dumpOff c).mono (by simpa using cell (lt_of_mem_cellIds hc)) (by simp))
    · exact set

/-- At the end of the armed period every switch that is ON goes off. -/
theorem dumpState_judgeArmed {s : State} {c : Nat} (was : s.bit F.CELLPWR_STATUS_DUMP_ARMED = true) (ends : s.dumpArmed = false) (small : c < 128)
    (on : s.dumpState c = dump.on) : s.judgeArmed.dumpState c = dump.off := by
  have still : (s.setBit F.CELLPWR_STATUS_DUMP_ARMED false).dumpState c = dump.on :=
    (get_setBit_apart _ (by simp [apart])).trans on
  have listed : c ∈ cellIds.filter fun c => (s.setBit F.CELLPWR_STATUS_DUMP_ARMED false).dumpState c == dump.on :=
    List.mem_filter.2 ⟨List.mem_range.2 small, beq_iff_eq.2 still⟩
  rw [judgeArmed, was, ends]
  refine (dumpState_each_dumpOff ..).trans (if_pos listed)

/-- A bit set as it stands changes nothing. -/
theorem kept_setBit_same {s : State} {f : FieldRef} {b : Bool} (one : f.w = 1) (same : s.bit f = b) : Kept [] [] s (s.setBit f b) := by
  have noted : Kept [] [] s (s.noteSet b f.addr (2 ^ f.lo)) := ⟨fun _ _ => rfl, fun p _ => by cases p <;> simp [Part.same, noteSet]⟩
  have small := (s.noteSet b f.addr (2 ^ f.lo)).get_lt f
  have shown : (s.noteSet b f.addr (2 ^ f.lo)).bit f = b := same
  rw [one] at small
  refine noted.trans (kept_set_get (s := s.noteSet b f.addr (2 ^ f.lo)) ?_)
  rw [bit_eq] at shown
  cases b <;> simp at shown <;> simp <;> omega

/-- ARMED as it is, nothing changes. -/
theorem kept_judgeArmed_same {s : State} (same : s.bit F.CELLPWR_STATUS_DUMP_ARMED = s.dumpArmed) : Kept [] [] s s.judgeArmed := by
  have set : Kept [] [] s (s.setBit F.CELLPWR_STATUS_DUMP_ARMED s.dumpArmed) := kept_setBit_same rfl same
  unfold judgeArmed
  rw [same]
  cases armed : s.dumpArmed <;> simpa [armed] using set

/-- A write of DUMP_CLR clears a dead or stuck switch (R371). -/
theorem writeDumpClr_held {s : State} {data : Word} {c : Nat} (cell : bitsOf data.toNat 0 7 = c) (go : data.getLsbD 31 = true)
    (down : s.curtainDown = true) (held : s.dumpState c = dump.dead ∨ s.dumpState c = dump.stuck) :
    s.writeDumpClr data = (s.set (F.CELLPWR_CELL_DUMP c) dump.off).setPwrCell c { s.pwrCell c with stuckRun := 0, order := none } := by
  unfold writeDumpClr
  simp only [cell, go, down, Bool.not_true, Bool.false_eq_true, if_false, if_true]
  exact if_pos (by simpa using held)

end State

/-- Settles O26: a switch that goes off is OFF with its order given (R370); what the end of the armed period turns off is a list of them. -/
theorem dumpSwitches : Obligations.DumpSwitches := by
  refine ⟨?limit, ?hold, ?resend, ?cleared, ?nothing, ?up⟩
  case limit =>
    intro s t t0 c a
    have now : s.advance t = a := rfl
    clear_value a
    intro since0 on free reached
    obtain ⟨y, hy⟩ : ∃ y, y = (a.dumpOff c).setBit (F.CELLPWR_CELL_LOCKED c) true := ⟨_, rfl⟩
    have kept : Kept [Reg.CELLPWR_CELL c] [.pwr, .wing] a y := by
      rw [hy]
      exact (a.kept_dumpOff c).setBit (by simp)
    have off : y.dumpState c = dump.off := by
      rw [hy]
      exact (State.get_setBit_apart _ (by simp [apart])).trans (a.dumpState_dumpOff c)
    have locked : y.bit (F.CELLPWR_CELL_LOCKED c) = true := by
      rw [hy]
      exact State.bit_setBit_same _ (Nat.le_of_ble_eq_true rfl) rfl
    have since : (y.pwrCell c).onSince = none := by
      rw [hy, State.pwrCell, State.pwr_setBit]
      exact a.onSince_dumpOff c
    have ordered : ({ owner := .dump false, codes := [order.dumpOff] } : Order) ∈ (y.tx c).orders := by
      rw [hy, State.tx, State.wing_setBit]
      exact a.order_dumpOff c
    have raised : Raised [(a.datum, 155, c.val)] a (y.raise 155 c) := kept.raised
    have all : Kept [Reg.CELLPWR_CELL c] [.wing, .pwr, .router] a (y.raise 155 c) := (kept.mono (by simp) (by decide)).raise
    refine completes_at (x := y.raise 155 c) (exec_dumpLimit ..) now ?_ ?_
    · simp only [since0]
      exact (if_pos (by simp [on, free, reached])).trans (hy ▸ rfl)
    refine ⟨?_, ?_, ?_, ?_, raised, all.settled now⟩
    · exact (State.get_settle ..).trans (((Kept.rfl.raise : Kept [] [.router] y _).get (by simp)).trans off)
    · exact (State.bit_settle ..).trans (((Kept.rfl.raise : Kept [] [.router] y _).bit (by simp)).trans locked)
    · rw [State.pwrCell, State.pwr_settle, State.pwr_raise]
      exact since
    · rw [State.tx, State.wing_settle, State.wing_raise]
      exact ordered
  case hold =>
    intro s t a
    have now : s.advance t = a := rfl
    clear_value a
    intro free
    refine completes_at (x := a.judgeArmed) (exec_dumpHoldExpiry ..) now (if_neg (by simp [free])) ⟨?_, fun was ends c small on => ?_, fun same => ?_,
      (a.kept_judgeArmed.mono (fun _ h => h) (by decide)).settled now⟩
    · exact (State.bit_settle ..).trans a.armed_judgeArmed
    · refine (State.get_settle ..).trans (State.dumpState_judgeArmed was ends small on)
    · exact (State.kept_judgeArmed_same same).settled now
  case resend =>
    intro s t c a
    have now : s.advance t = a := rfl
    clear_value a
    intro stuck due free
    refine completes_at (x := (a.setPwrCell c { a.pwrCell c with lastResend := a.elapsed }).giveOrder c (.dump false) [order.dumpOff])
      (exec_dumpOffResend ..) now (if_pos (by simp [stuck, State.expired, due, free])) ⟨?_, ?_, Kept.rfl.setPwrCell.giveOrder.settled now⟩
    · exact congrArg PwrCell.lastResend (a.pwrCell_setPwrCell c _)
    · exact State.order_giveOrder ..
  case cleared =>
    intro s t data a c
    have now : s.advance t = a := rfl
    have cell : bitsOf data.toNat 0 7 = c := rfl
    clear_value a c
    intro free go down held
    refine completes_at (exec_cellpwrDumpClr ..) now ((a.bar0_of_not_tableau free _ _ _).trans (State.writeDumpClr_held cell go down held)) ⟨?_,
      (Kept.rfl.set (by simp)).setPwrCell.settled now⟩
    exact (State.get_settle ..).trans (a.get_set_of_lt (f := F.CELLPWR_CELL_DUMP c) (Nat.le_of_ble_eq_true rfl) (Nat.le_of_ble_eq_true rfl))
  case nothing =>
    intro s t data a c
    have now : s.advance t = a := rfl
    have cell : bitsOf data.toNat 0 7 = c := rfl
    clear_value a c
    intro free other
    refine completes_at (exec_cellpwrDumpClr ..) now ((a.bar0_of_not_tableau free _ _ _).trans ?_) (Kept.rfl.settled now)
    rcases other with idle | ⟨down, other⟩
    · rw [State.writeDumpClr, idle]
      rfl
    · rw [State.writeDumpClr, down]
      have still : ¬ (decide (a.dumpState c = dump.dead) || decide (a.dumpState c = dump.stuck)) = true := by simpa using other
      simp only [cell, if_true, if_neg still, ite_self]
  case up =>
    intro s t data a
    have now : s.advance t = a := rfl
    clear_value a
    intro free go up
    refine completes_at (x := a.setBit F.CELLPWR_STATUS_CFG_REJECT true) (exec_cellpwrDumpClr ..) now
      ((a.bar0_of_not_tableau free _ _ _).trans ?_) ⟨?_, Kept.rfl.setBit.settled now⟩
    · rw [State.writeDumpClr, go, up]
      rfl
    · exact (State.bit_settle ..).trans (State.bit_setBit_same _ (by decide) rfl)

end Sys2Proof.Machine

/-! PROOFS. Trackers (spec/08 R362 to R365): steps, scans and probes. -/

namespace Sys2Proof.Machine

set_option Elab.async false

/-- The cells' registers lie beyond those of all cells. -/
theorem cellReg_ne {r c : Nat} (h : r < 0x3A00) : r ≠ Reg.CELLPWR_CELL c := by
  unfold Reg.CELLPWR_CELL
  omega

namespace State

variable (s : State)

theorem pwrCell_setPwrCell_ne {c k : Nat} (x : PwrCell) (h : k ≠ c) : (s.setPwrCell c x).pwrCell k = s.pwrCell k := by
  simp [pwrCell, setPwrCell, h.symm]

theorem trk_setPwrCell (c k : Nat) (x : PwrCell) : (s.setPwrCell c x).trk k = s.trk k := rfl

theorem pwrCell_settle (a x : State) (c : Nat) : (s.settle a x).pwrCell c = x.pwrCell c := by
  rw [pwrCell, pwr_settle, ← pwrCell]

theorem trk_settle (a x : State) (c : Nat) : (s.settle a x).trk c = x.trk c := get_settle ..

theorem pwrCell_setTrk (c v k : Nat) : (s.setTrk c v).pwrCell k = s.pwrCell k := by
  rw [pwrCell, setTrk, pwr_set, ← pwrCell]

theorem trk_setTrk (c : Nat) {v : Nat} (small : v < 2 ^ 3) : (s.setTrk c v).trk c = v := get_set_of_lt _ (Nat.le_of_ble_eq_true rfl) small

/-- The tracker's step is taken up: the next is due a PERIOD later, the readings start anew (R362). -/
def stepTaken (c : Nat) (s : State) : State :=
  s.setPwrCell c { s.pwrCell c with lastStep := (s.pwrCell c).lastStep + s.mp8 c 1 * 1000000, readings := [] }

theorem pwrCell_stepTaken (c : Nat) : (s.stepTaken c).pwrCell c =
    { s.pwrCell c with lastStep := (s.pwrCell c).lastStep + s.mp8 c 1 * 1000000, readings := [] } := s.pwrCell_setPwrCell ..

theorem pwrCell_stepTaken_ne {c k : Nat} (h : k ≠ c) : (s.stepTaken c).pwrCell k = s.pwrCell k := s.pwrCell_setPwrCell_ne _ h

theorem kept_stepTaken (c : Nat) : Kept [] [.pwr] s (s.stepTaken c) := Kept.rfl.setPwrCell

theorem mp8_stepTaken (c k off : Nat) : (s.stepTaken c).mp8 k off = s.mp8 k off := rfl

theorem pDead_stepTaken (c k : Nat) : (s.stepTaken c).pDead k = s.pDead k := by
  simp only [pDead, mp16, mp8_stepTaken]

theorem cellVMin_stepTaken (c k : Nat) : (s.stepTaken c).cellVMin k = s.cellVMin k := rfl

theorem cellVMax_stepTaken (c k : Nat) : (s.stepTaken c).cellVMax k = s.cellVMax k := rfl

theorem scanPoint_stepTaken (c k i : Nat) : (s.stepTaken c).scanPoint k i = s.scanPoint k i := by
  simp only [scanPoint, mp8_stepTaken, cellVMin_stepTaken, cellVMax_stepTaken]


/-- What a step in hand does with the mean of its readings, by the tracker's state. -/
def stepBy (c : Nat) (p : Rat) (s : State) : State :=
  if s.trk c = trk.track then s.perturb c p
  else if s.trk c = trk.follow then s.followStep c p
  else if s.trk c = trk.scan then s.scanStep c p
  else s.probeStep c p

end State

/-- Where a tracker that runs takes up its step, its PERIOD over. -/
theorem completes_trackerStep {s a : State} {t : Nat} {c : Fin 128} {P : State → Prop} (now : s.advance t = a)
    (running : a.trk c ≠ trk.off ∧ a.trk c ≠ trk.hold) (free : a.tableau = false)
    (due : (a.pwrCell c).lastStep + a.mp8 c 1 * 1000000 ≤ a.elapsed)
    (idle : (a.pwrCell c).readings = [] → P (s.settle a (a.stepTaken c)))
    (busy : (a.pwrCell c).readings ≠ [] → P (s.settle a ((a.stepTaken c).stepBy c (meanOf (a.pwrCell c).readings)))) :
    Completes (.trackerStep t c) s P := by
  have act : ¬ (decide (a.trk c = trk.off) || decide (a.trk c = trk.hold) || a.tableau || !a.expired (a.pwrCell c).lastStep (a.mp8 c 1 * 1000000)) = true := by
    simp [running.1, running.2, free, State.expired, due]
  by_cases read : (a.pwrCell c).readings = []
  · exact completes_at (exec_trackerStep ..) now ((if_neg act).trans (if_pos (List.isEmpty_iff.2 read))) (idle read)
  · exact completes_at (exec_trackerStep ..) now ((if_neg act).trans (if_neg fun none => read (List.isEmpty_iff.1 none))) (busy read)

namespace State

variable (s : State)

/-- The step size of R362 for the power `p`. -/
def stepSize (s : State) (c : Nat) (p : Rat) : Nat :=
  if (p - (s.pwrCell c).pLast ≤ s.pDead c ∧ -s.pDead c ≤ p - (s.pwrCell c).pLast) ∨ p < (s.pwrCell c).pLast then
    max (s.mp8 c 2) ((s.pwrCell c).step / 2)
  else min (s.mp8 c 3) (2 * (s.pwrCell c).step)

/-- The direction of R362: it turns where the power has fallen. -/
def stepDir (s : State) (c : Nat) (p : Rat) : Int :=
  if ¬(p - (s.pwrCell c).pLast ≤ s.pDead c ∧ -s.pDead c ≤ p - (s.pwrCell c).pLast) ∧ p < (s.pwrCell c).pLast then -(s.pwrCell c).dir
  else (s.pwrCell c).dir

/-- What a step of R362 makes of its cell. -/
theorem perturb_eq (c : Nat) (p : Rat) : ∃ y, s.perturb c p = s.setPwrCell c y ∧ y.lastStep = (s.pwrCell c).lastStep ∧
    y.readings = (s.pwrCell c).readings ∧ y.probe = (s.pwrCell c).probe ∧ y.pLast = p ∧ y.step = s.stepSize c p ∧
    y.v = (max (s.cellVMin c : Int) (min (s.cellVMax c) ((s.pwrCell c).v + s.stepDir c p * (10 * s.stepSize c p : Nat)))).toNat := by
  refine ⟨_, rfl, rfl, rfl, rfl, rfl, ?_, ?_⟩
  · simp only [stepSize, Bool.or_eq_true, Bool.and_eq_true, decide_eq_true_eq]
  · simp only [stepSize, stepDir, Bool.or_eq_true, Bool.and_eq_true, decide_eq_true_eq, Bool.not_eq_true', ← Bool.not_eq_true]

/-- Where a step of R363 leads. -/
def followDir (s : State) (c : Nat) (p : Rat) : Int :=
  if (s.pwrCell c).plan + s.pDead c < p then 1 else if p < (s.pwrCell c).plan - s.pDead c then -1 else 0

/-- The step size of R363. -/
def followSize (s : State) (c : Nat) (p : Rat) : Nat :=
  if s.followDir c p ≠ 0 ∧ s.followDir c p = (s.pwrCell c).dir then min (s.mp8 c 3) (2 * (s.pwrCell c).step)
  else max (s.mp8 c 2) ((s.pwrCell c).step / 2)

/-- What a step of R363 makes of its cell. -/
theorem followStep_eq (c : Nat) (p : Rat) : ∃ y, s.followStep c p = s.setPwrCell c y ∧ y.lastStep = (s.pwrCell c).lastStep ∧
    y.readings = (s.pwrCell c).readings ∧ y.step = s.followSize c p ∧
    y.v = if s.followDir c p = 0 then (s.pwrCell c).v
      else (max ((s.pwrCell c).vMpp : Int) (min (s.cellVMax c) ((s.pwrCell c).v + s.followDir c p * (10 * s.followSize c p : Nat)))).toNat := by
  unfold followStep
  change ∃ y, (if s.followDir c p = 0 then _ else _) = _ ∧ _
  by_cases still : s.followDir c p = 0
  · refine ⟨_, if_pos still, rfl, rfl, ?_, (if_pos still).symm⟩
    simp [followSize, still]
  · have size : (if s.followDir c p = (s.pwrCell c).dir then min (s.mp8 c 3) (2 * (s.pwrCell c).step)
        else max (s.mp8 c 2) ((s.pwrCell c).step / 2)) = s.followSize c p := by simp [followSize, still]
    refine ⟨_, if_neg still, rfl, rfl, size, ?_⟩
    rw [if_neg still, ← size]
    rfl

/-- A point of a scan that is not the last. -/
theorem scanStep_more {s : State} {c : Nat} {p : Rat} (more : ((s.pwrCell c).scan ++ [(p, (s.pwrCell c).v)]).length < s.mp8 c 0xA) :
    s.scanStep c p = s.setPwrCell c { s.pwrCell c with
      scan := (s.pwrCell c).scan ++ [(p, (s.pwrCell c).v)]
      v := s.scanPoint c ((s.pwrCell c).scan ++ [(p, (s.pwrCell c).v)]).length } := if_pos more

/-- After the last point the best one's voltage is taken; the scan is told (R364). -/
theorem scanStep_last {s : State} {c : Nat} {p : Rat} (last : ¬ ((s.pwrCell c).scan ++ [(p, (s.pwrCell c).v)]).length < s.mp8 c 0xA) :
    ∃ x, s.scanStep c p = (x.count F.CELLPWR_SCANS_COUNT).raise 150 c ∧ x.trk c = trk.track ∧
      (x.pwrCell c).v = (bestOf ((s.pwrCell c).scan ++ [(p, (s.pwrCell c).v)])).2 ∧ (x.pwrCell c).due = none ∧
      (x.pwrCell c).scanBase = some s.elapsed ∧ Kept [Reg.CELLPWR_CELL c] [.pwr] s x := by
  obtain ⟨y, step, v, due, base⟩ : ∃ y, s.scanStep c p = (((s.setPwrCell c y).setTrk c trk.track).count F.CELLPWR_SCANS_COUNT).raise 150 c ∧
      y.v = (bestOf ((s.pwrCell c).scan ++ [(p, (s.pwrCell c).v)])).2 ∧ y.due = none ∧ y.scanBase = some s.elapsed :=
    ⟨_, if_neg last, rfl, rfl, rfl⟩
  have cell : ((s.setPwrCell c y).setTrk c trk.track).pwrCell c = y := by rw [pwrCell_setTrk, pwrCell_setPwrCell]
  exact ⟨_, step, trk_setTrk _ c (by decide), by rw [cell, v], by rw [cell, due], by rw [cell, base],
    (Kept.rfl.setPwrCell : Kept [Reg.CELLPWR_CELL c] [.pwr] s _).set (by simp)⟩

/-- TRACK or FOLLOW, nothing of the cell but its dates and readings changes. -/
theorem trackOrFollow_mode (c : Nat) : (s.trackOrFollow c).trk c = trk.track ∨ (s.trackOrFollow c).trk c = trk.follow := by
  unfold trackOrFollow
  extract_lets x
  by_cases cut : x.curtailed c = true
  · rw [if_pos cut]
    by_cases same : x.trk c = trk.follow
    · rw [if_pos same]
      exact .inr same
    · rw [if_neg same]
      exact .inr ((trk_setPwrCell ..).trans (trk_setTrk _ c (by decide)))
  · rw [if_neg cut]
    exact .inl (trk_setTrk _ c (by decide))

/-- The step of a probe counts as before. -/
theorem probe_trackOrFollow (c : Nat) : ((s.trackOrFollow c).pwrCell c).probe = (s.pwrCell c).probe := by
  unfold trackOrFollow
  extract_lets x
  have held : (x.pwrCell c).probe = (s.pwrCell c).probe := by
    refine when_eq (fun x => (x.pwrCell c).probe) _ ?_
    rw [pwrCell_setPwrCell]
  split
  · split
    · exact held
    · rw [pwrCell_setPwrCell]
      exact held
  · rw [pwrCell_setTrk, held]

/-- A step of a probe that is not the last. -/
theorem probeStep_more {s : State} {c : Nat} (p : Rat) (more : (s.pwrCell c).probe + 1 < 8) :
    (((s.probeStep c p).pwrCell c).probe = (s.pwrCell c).probe + 1) ∧ Kept [] [.pwr] s (s.probeStep c p) := by
  obtain ⟨y, step, -, -, probe, -⟩ := s.perturb_eq c p
  have eq : s.probeStep c p = (s.setPwrCell c y).setPwrCell c { y with probe := y.probe + 1 } := by
    have here := s.pwrCell_setPwrCell c y
    simp only [probeStep, step, here]
    exact if_pos (by rw [probe]; exact more)
  rw [eq, pwrCell_setPwrCell]
  exact ⟨congrArg (· + 1) probe, Kept.rfl.setPwrCell.setPwrCell⟩

/-- After the eighth step of a probe the tracker goes on, and the probe is told (R364). -/
theorem probeStep_last {s : State} {c : Nat} (p : Rat) (last : ¬ (s.pwrCell c).probe + 1 < 8) :
    ∃ x, s.probeStep c p = ((State.trackOrFollow c x).count F.CELLPWR_PROBES_COUNT).raise 152 c ∧ (x.pwrCell c).probe = 0 ∧
      Kept [] [.pwr] s x := by
  obtain ⟨y, step, -, -, probe, -⟩ := s.perturb_eq c p
  have here := s.pwrCell_setPwrCell c y
  refine ⟨(s.setPwrCell c y).setPwrCell c { y with probe := 0, due := y.due.filter fun d => d.1, probeBase := some s.elapsed }, ?_,
    by rw [pwrCell_setPwrCell], Kept.rfl.setPwrCell.setPwrCell⟩
  simp only [probeStep, step, here]
  exact if_neg (by rw [probe]; exact last)

end State

/-- Settles O25: a step in hand acts by the tracker's state, and each way of acting changes its cell alone (R362 to R365). -/
theorem trackersStepAndExcursionsFallDue : Obligations.TrackersStepAndExcursionsFallDue := by
  refine ⟨?steps, ?scan, ?probe, ?scanDue, ?probeDue⟩
  case steps =>
    intro s t c a x period
    have now : s.advance t = a := rfl
    clear_value a
    intro mode free due
    have running : a.trk c ≠ trk.off ∧ a.trk c ≠ trk.hold := by rcases mode with h | h <;> simp [h]
    have taken := a.pwrCell_stepTaken c
    refine completes_trackerStep now running free due (fun read => ?_) fun read => ?_
    · exact ⟨congrArg PwrCell.lastStep taken, congrArg PwrCell.readings taken, fun _ => by rw [State.pwrCell_settle, taken], (absurd read ·), (absurd read ·),
        fun e other => a.pwrCell_stepTaken_ne other, (a.kept_stepTaken c).settled now⟩
    rcases mode with track | follow
    · obtain ⟨y, step, last, readings, -, power, size, v⟩ := (a.stepTaken c).perturb_eq c (meanOf x.readings)
      have act : (a.stepTaken c).stepBy c (meanOf x.readings) = (a.stepTaken c).setPwrCell c y := (if_pos track).trans step
      have here := (a.stepTaken c).pwrCell_setPwrCell c y
      rw [taken] at last readings
      rw [act]
      simp only [State.pwrCell_settle, here]
      refine ⟨last, readings, (absurd · read), fun _ _ => ⟨power, ?_, ?_⟩, fun _ follow => ?_, fun e other => ?_, ?_⟩
      · simp only [size, State.stepSize, taken, State.mp8_stepTaken, State.pDead_stepTaken]
        rfl
      · simp only [v, State.stepSize, State.stepDir, taken, State.mp8_stepTaken, State.pDead_stepTaken, State.cellVMin_stepTaken,
          State.cellVMax_stepTaken]
        rfl
      · exact absurd (track.symm.trans follow) (by decide)
      · rw [State.pwrCell_setPwrCell_ne _ _ other, a.pwrCell_stepTaken_ne other]
      · exact (a.kept_stepTaken c).setPwrCell.settled now
    · obtain ⟨y, step, last, readings, size, v⟩ := (a.stepTaken c).followStep_eq c (meanOf x.readings)
      have other : (a.stepTaken c).trk c ≠ trk.track := by rw [show (a.stepTaken c).trk c = trk.follow from follow]; decide
      have act : (a.stepTaken c).stepBy c (meanOf x.readings) = (a.stepTaken c).setPwrCell c y := ((if_neg other).trans (if_pos follow)).trans step
      have here := (a.stepTaken c).pwrCell_setPwrCell c y
      rw [taken] at last readings
      rw [act]
      simp only [State.pwrCell_settle, here]
      refine ⟨last, readings, (absurd · read), fun _ track => ?_, fun _ _ => ⟨?_, ?_⟩, fun e other => ?_, ?_⟩
      · exact absurd (track.symm.trans follow) (by decide)
      · simp only [size, State.followSize, State.followDir, taken, State.mp8_stepTaken, State.pDead_stepTaken]
        rfl
      · simp only [v, State.followSize, State.followDir, taken, State.mp8_stepTaken, State.pDead_stepTaken, State.cellVMax_stepTaken]
        rfl
      · rw [State.pwrCell_setPwrCell_ne _ _ other, a.pwrCell_stepTaken_ne other]
      · exact (a.kept_stepTaken c).setPwrCell.settled now
  case scan =>
    intro s t c a x
    have now : s.advance t = a := rfl
    clear_value a
    intro mode free due readings
    have taken := a.pwrCell_stepTaken c
    refine completes_trackerStep now (by simp [mode]) free due (absurd · readings) fun _ => ?_
    have act : (a.stepTaken c).stepBy c (meanOf x.readings) = (a.stepTaken c).scanStep c (meanOf x.readings) := by
      rw [State.stepBy, show (a.stepTaken c).trk c = trk.scan from mode]
      exact (if_neg (by decide)).trans ((if_neg (by decide)).trans (if_pos rfl))
    have points : ((a.stepTaken c).pwrCell c).scan ++ [(meanOf x.readings, ((a.stepTaken c).pwrCell c).v)] = x.scan ++ [(meanOf x.readings, x.v)] := by
      rw [taken]
    rw [act]
    extract_lets pts
    split
    next more =>
      rw [State.scanStep_more (by rw [points, State.mp8_stepTaken]; exact more), points]
      simp only [State.pwrCell_settle, State.pwrCell_setPwrCell, State.scanPoint_stepTaken]
      exact ⟨rfl, rfl, (a.kept_stepTaken c).setPwrCell.settled now⟩
    next last =>
      obtain ⟨y, done, track, v, due, base, kept⟩ := State.scanStep_last (s := a.stepTaken c) (c := c) (p := meanOf x.readings)
        (by rw [points, State.mp8_stepTaken]; exact last)
      have goes : Kept [Reg.CELLPWR_CELL c] [.pwr] a y := ((a.kept_stepTaken c).mono (by simp) (by simp)).trans kept
      have before : Kept [Reg.CELLPWR_CELL c, Reg.CELLPWR_SCANS] [.pwr] a (y.count F.CELLPWR_SCANS_COUNT) :=
        (goes.mono (by simp) (by simp)).count (by simp)
      have countApart : apart F.CELLPWR_SCANS_COUNT (F.CELLPWR_CELL_TRK c) = true :=
        Bool.or_eq_true_iff.2 (.inl (bne_iff_ne.2 (cellReg_ne (by decide))))
      have told (z : State) : Kept [] [.router] z (z.raise 150 c) := Kept.rfl.raise
      have cell : ((y.count F.CELLPWR_SCANS_COUNT).raise 150 c).pwrCell c = y.pwrCell c := by
        rw [State.pwrCell, State.pwr_raise, State.pwr_count, ← State.pwrCell]
      rw [done]
      simp only [State.pwrCell_settle, cell]
      refine ⟨?_, by rw [v, points], due, base, ?_, before.raised.settle, ((before.mono (by simp) (by simp)).raise).settled now⟩
      · exact (State.trk_settle ..).trans ((told _).get (by simp) |>.trans ((State.get_count_apart _ countApart).trans track))
      · exact (State.get_settle ..).trans ((told _).get.trans ((State.get_count_same _ (by decide)).trans
          (by rw [goes.get (by simpa using cellReg_ne (by decide))]; rfl)))
  case probe =>
    intro s t c a x
    have now : s.advance t = a := rfl
    clear_value a
    intro mode free due readings
    have taken := a.pwrCell_stepTaken c
    have probe : ((a.stepTaken c).pwrCell c).probe = x.probe := by rw [taken]
    refine completes_trackerStep now (by simp [mode]) free due (absurd · readings) fun _ => ?_
    have act : (a.stepTaken c).stepBy c (meanOf x.readings) = (a.stepTaken c).probeStep c (meanOf x.readings) := by
      rw [State.stepBy, show (a.stepTaken c).trk c = trk.probe from mode]
      exact (if_neg (by decide)).trans ((if_neg (by decide)).trans (if_neg (by decide)))
    rw [act]
    split
    next more =>
      obtain ⟨steps, kept⟩ := State.probeStep_more (s := a.stepTaken c) (meanOf x.readings) (by rw [probe]; exact more)
      exact ⟨steps.trans (congrArg (· + 1) probe), ((a.kept_stepTaken c).trans kept).settled now⟩
    next last =>
      obtain ⟨y, done, zero, kept⟩ := State.probeStep_last (s := a.stepTaken c) (meanOf x.readings) (by rw [probe]; exact last)
      have goes : Kept [Reg.CELLPWR_CELL c] [.pwr] a (State.trackOrFollow c y) :=
        ((a.kept_stepTaken c).trans kept |>.mono (by simp) (by simp)).trans (y.kept_trackOrFollow c)
      have before : Kept [Reg.CELLPWR_CELL c, Reg.CELLPWR_PROBES] [.pwr] a ((State.trackOrFollow c y).count F.CELLPWR_PROBES_COUNT) :=
        (goes.mono (by simp) (by simp)).count (by simp)
      have countApart : apart F.CELLPWR_PROBES_COUNT (F.CELLPWR_CELL_TRK c) = true :=
        Bool.or_eq_true_iff.2 (.inl (bne_iff_ne.2 (cellReg_ne (by decide))))
      have told (z : State) : Kept [] [.router] z (z.raise 152 c) := Kept.rfl.raise
      have mode : (((State.trackOrFollow c y).count F.CELLPWR_PROBES_COUNT).raise 152 c).trk c = (State.trackOrFollow c y).trk c :=
        ((told _).get (by simp)).trans (State.get_count_apart _ countApart)
      rw [done]
      refine ⟨?_, ?_, ?_, before.raised.settle, ((before.mono (by simp) (by simp)).raise).settled now⟩
      · rw [State.trk_settle, mode]
        exact y.trackOrFollow_mode c
      · rw [State.pwrCell_settle, State.pwrCell, State.pwr_raise, State.pwr_count, ← State.pwrCell, State.probe_trackOrFollow, zero]
      · exact (State.get_settle ..).trans ((told _).get.trans ((State.get_count_same _ (by decide)).trans (by rw [goes.get (by simpa using cellReg_ne (by decide))]; rfl)))
  case scanDue =>
    intro s t c a x
    have now : s.advance t = a := rfl
    clear_value a
    intro on scans enabled free due none
    refine completes_at (exec_scanDue ..) now (if_pos ?_) ⟨a.pwrCell_setPwrCell .., Kept.rfl.setPwrCell.settled now⟩
    have idle : x.due.all (fun d => !d.1) = true := by
      cases h : x.due with
      | none => rfl
      | some d => exact congrArg not (none d h)
    simp [on, scans, enabled, free, due, x, idle]
  case probeDue =>
    intro s t c a x
    have now : s.advance t = a := rfl
    clear_value a
    intro follow free none due
    refine completes_at (exec_probeDue ..) now (if_pos ?_) ⟨a.pwrCell_setPwrCell .., Kept.rfl.setPwrCell.settled now⟩
    simp [follow, free, x, none, due]

end Sys2Proof.Machine

/-! PROOFS. What a command makes of a state whose table memories list an entry that reads as an unlisted one does. -/

namespace Sys2Proof.Machine

set_option Elab.async false

/-- The table memories in the state that a command answers. -/
def tablesAfter : Host.Outcome State Fault Refusal → SMap TableMem
  | .next b => b.tables
  | .fault _ => []
  | .refused _ => []

/-- The reset state, but that a table which the device does not have is listed with the memory of an unlisted one. -/
def listedTable : State := { State.reset with tables := [(20, {})] }

/-- An upset of the first byte of the roster's working copy. -/
def rosterUpset : TableUpset := { id := 1, stored := false, off := 0, val := 0xFF }

/-- A SELFTEST of every table. -/
def tablesTest : Desc := { opc := 8, target := 2 }

/-- The upset leaves the entry listed in vain. -/
theorem upset_listedTable : (((listedTable.advance 0).each [rosterUpset] State.upset).tables).length = 2 := by decide +kernel

/-- Refutes O43: of a state whose table memories are not in canonical form a SELFTEST 2 that changes one leaves them in canonical form (here
without the entry listed in vain), where the statement has them as the upsets alone leave them. -/
theorem not_smallCommandsComplete : ¬ Obligations.SmallCommandsComplete := by
  rintro ⟨-, -, -, tables, -⟩
  obtain ⟨b, run, stated, -⟩ := tables listedTable 0 tablesTest [rosterUpset] rfl rfl rfl rfl (by decide +kernel) (by decide +kernel)
  have canonical : (tablesAfter (exec (.selftest 0 tablesTest [rosterUpset]) listedTable)).length = 1 := by decide +kernel
  rw [run] at canonical
  exact absurd (canonical.symm.trans ((congrArg List.length stated).trans upset_listedTable)) (by decide)

/-- Refutes O42: so does TABLE_INTEGRITY_CHECK. -/
theorem not_tablesAreLoadedReadAndChecked : ¬ Obligations.TablesAreLoadedReadAndChecked := by
  rintro ⟨-, -, -, -, -, -, check, -⟩
  obtain ⟨b, run, stated, -⟩ := check listedTable 0 [rosterUpset] (by decide +kernel)
  have canonical : (tablesAfter (exec (.tableIntegrityCheck 0 [rosterUpset]) listedTable)).length = 1 := by decide +kernel
  rw [run] at canonical
  exact absurd (canonical.symm.trans ((congrArg List.length stated).trans upset_listedTable)) (by decide)

end Sys2Proof.Machine

/-! PROOFS. The pump drive's changes of state (spec/12 R503, R507, R512, R514, R517 to R520, R523, R524): what each of them sets and leaves alone. -/

namespace Sys2Proof.Machine

set_option Elab.async false

theorem mem_blockRegs {r base n : Nat} (h : base ≤ r ∧ r % 4 = base % 4 ∧ (r - base) / 4 < n / 4) : r ∈ blockRegs base n := by
  refine List.mem_map.2 ⟨(r - base) / 4, List.mem_range.2 h.2.2, ?_⟩
  omega

/-- The registers that the drive reaches: those of the pump, of casting, and SCRUB_FAULT_SEEN. -/
def pumpRegs : List Nat := Reg.SCRUB_FAULT_SEEN :: (blockRegs 0x5000 0x400 ++ blockRegs 0x3400 0x400)

/-- The parts that the drive reaches. -/
abbrev pumpParts : List Part := [.pump, .cast, .curt, .router]

theorem mem_pumpRegs_pump {r : Nat} (h : 0x5000 ≤ r ∧ r % 4 = 0 ∧ r < 0x5400 := by decide) : r ∈ pumpRegs :=
  List.mem_cons_of_mem _ (List.mem_append_left _ (mem_blockRegs (by omega)))

theorem mem_pumpRegs_cast {r : Nat} (h : 0x3400 ≤ r ∧ r % 4 = 0 ∧ r < 0x3800 := by decide) : r ∈ pumpRegs :=
  List.mem_cons_of_mem _ (List.mem_append_right _ (mem_blockRegs (by omega)))

theorem mem_pumpRegs_seen : Reg.SCRUB_FAULT_SEEN ∈ pumpRegs := List.mem_cons_self ..

/-- No other register is reached. -/
theorem not_mem_pumpRegs {r : Nat} (h : (r < 0x3400 ∨ 0x3800 ≤ r) ∧ (r < 0x5000 ∨ 0x5400 ≤ r) ∧ r ≠ Reg.SCRUB_FAULT_SEEN) : r ∉ pumpRegs := by
  unfold pumpRegs blockRegs
  simp only [List.mem_cons, List.mem_append, List.mem_map, List.mem_range, not_or, not_exists, not_and]
  refine ⟨h.2.2, fun i hi => ?_, fun i hi => ?_⟩ <;> omega

theorem Raised.append {l l' : List (Nat × Nat × Nat)} {a b c : State} (h : Raised l a b) (h' : Raised l' b c) : Raised (l ++ l') a c := by
  rw [Raised] at *
  rw [h', h]
  simp

/-- Events raised, and more after them. -/
theorem Raised.more {l : List (Nat × Nat × Nat)} {a b c : State} (h : Raised l a b) (h' : State.Raises b c) :
    ∃ m, c.router.inflight = a.router.inflight ++ l.map (fun e => ({ stamp := e.1, num := e.2.1, inst := e.2.2 } : Event)) ++ m := by
  obtain ⟨m, eq⟩ := h'
  exact ⟨m, by rw [eq, h]⟩

theorem Raised.raises {l : List (Nat × Nat × Nat)} {a b : State} (h : Raised l a b) : State.Raises a b := ⟨_, h⟩

/-- What the drive's changes of state reach, in its own block. -/
abbrev driveRegs : List Nat := [Reg.PUMP_STATUS, Reg.PUMP_SECTOR]

theorem driveRegs_subset : driveRegs ⊆ pumpRegs := by
  simp only [List.cons_subset, List.nil_subset, and_true]
  exact ⟨mem_pumpRegs_pump, mem_pumpRegs_pump⟩

namespace State

variable (s : State)

/-! Casting's derating (R328) -/

/-- The registers that a change of the derating level reaches. -/
abbrev derateRegs : List Nat := [Reg.CAST_STATUS, Reg.CAST_PHASE 0, Reg.CAST_PHASE 1, Reg.CAST_PHASE 2]

theorem derateRegs_subset : derateRegs ⊆ pumpRegs := by
  simp only [List.cons_subset, List.nil_subset, and_true]
  exact ⟨mem_pumpRegs_cast, mem_pumpRegs_cast, mem_pumpRegs_cast, mem_pumpRegs_cast⟩

theorem kept_clampDwell : Kept derateRegs [.router] s s.clampDwell := by
  unfold clampDwell
  refine Kept.rfl.each fun x hx y h => Kept.when (Kept.setIbit (Kept.set h ?_)) fun h => h.raise
  have small := List.mem_range.1 hx
  interval_cases x <;> decide

theorem kept_judgeDerate : Kept derateRegs [.router, .curt] s s.judgeDerate := by
  unfold judgeDerate
  refine Kept.ite Kept.rfl (Kept.when (Kept.raise (Kept.trans ?_ (kept_clampDwell _).mono)) fun h => h.curt)
  exact Kept.rfl.set

/-! PUMP_FLT (R524) -/

/-- The pump after PUMP_FLT has been judged: since when the drive has been out of RUN. -/
def outSince (s : State) : Option Nat :=
  if s.bit F.PUMP_CTRL_EN && s.pump.run && s.pState != ps.run then some (s.pump.outSince.getD s.elapsed) else none

/-- PUMP_FLT as R524 defines it. -/
def pumpFltNow (timeout : Bool) (s : State) : Bool :=
  s.bit F.PUMP_CTRL_EN && (s.get F.PUMP_STATUS_FAULT != 0 ||
    (s.bit F.PUMP_CTRL_EN && s.pump.run && s.pState != ps.run) && (timeout || s.bit F.PUMP_STATUS_PUMP_FLT) && s.due s.outSince 10000000000)

theorem showPumpFlt_eq (timeout : Bool) : s.showPumpFlt timeout =
    if s.pumpFltNow timeout == s.bit F.PUMP_STATUS_PUMP_FLT then s.mapPump fun p => { p with outSince := s.outSince }
    else ((s.mapPump fun p => { p with outSince := s.outSince }).setBit F.PUMP_STATUS_PUMP_FLT (s.pumpFltNow timeout)).judgeDerate := rfl

theorem kept_showPumpFlt (timeout : Bool) : Kept (Reg.PUMP_STATUS :: derateRegs) [.pump, .router, .curt] s (s.showPumpFlt timeout) := by
  rw [showPumpFlt_eq]
  exact Kept.ite Kept.rfl.mapPump (Kept.trans Kept.rfl.mapPump.setBit (kept_judgeDerate _).mono)

theorem pump_showPumpFlt (timeout : Bool) : (s.showPumpFlt timeout).pump = { s.pump with outSince := s.outSince } := by
  rw [showPumpFlt_eq]
  split
  · rfl
  · exact ((kept_judgeDerate _).2 .pump (by decide)).trans (pump_setBit ..)

/-- No other field of PUMP_STATUS follows. -/
theorem get_showPumpFlt {f : FieldRef} (apart' : apart F.PUMP_STATUS_PUMP_FLT f = true) (cast : f.addr ∉ derateRegs := by decide)
    (timeout : Bool) : (s.showPumpFlt timeout).get f = s.get f := by
  rw [showPumpFlt_eq]
  split
  · rfl
  · exact ((kept_judgeDerate _).get cast).trans (get_setBit_apart _ apart')

theorem flt_showPumpFlt (timeout : Bool) : (s.showPumpFlt timeout).bit F.PUMP_STATUS_PUMP_FLT = s.pumpFltNow timeout := by
  rw [showPumpFlt_eq]
  split
  next same => exact (beq_iff_eq.1 same).symm
  next => exact (kept_judgeDerate _).bit.trans (bit_setBit_same _ (by decide) rfl)

theorem raises_clampDwell : Raises s s.clampDwell := by
  unfold clampDwell
  exact Raises.rfl.each fun x y h => Raises.when ((h.of_router (router_set y _ _)).of_router (router_setIbit ..)) fun h => h.raise

theorem raises_engineFault : Raises s s.engineFault := Raises.rfl.of_router rfl

theorem raises_judgeDerate : Raises s s.judgeDerate := by
  unfold judgeDerate
  extract_lets old up new x
  have before : Raises s (s.set F.CAST_STATUS_DERATE new) := Raises.rfl.of_router (router_set ..)
  split
  · exact Raises.rfl
  · exact Raises.when ((before.trans (raises_clampDwell _)).raise) fun h => h.trans (raises_engineFault _)

theorem raises_showPumpFlt (timeout : Bool) : Raises s (s.showPumpFlt timeout) := by
  rw [showPumpFlt_eq]
  split
  · exact Raises.rfl
  · refine Raises.trans ?_ (raises_judgeDerate _)
    exact (Raises.rfl : Raises s (s.mapPump fun p => { p with outSince := s.outSince })).of_router (router_setBit ..)

/-! Entering a state (R520) -/

theorem kept_goPump (st : Nat) : Kept [Reg.PUMP_STATUS] [.pump, .router] s (s.goPump st) := by
  unfold goPump
  exact Kept.rfl.ite (Kept.rfl.set.mapPump.raise)

theorem goPump_same {s : State} {st : Nat} (here : s.pState = st) : s.goPump st = s := if_pos here

/-- A drive that enters another state says so. -/
theorem raised_goPump {s : State} {st : Nat} (change : s.pState ≠ st) : Raised [(s.datum, 200, 0)] s (s.goPump st) := by
  rw [goPump, if_neg change]
  exact (Kept.rfl.set.mapPump : Kept [Reg.PUMP_STATUS] [.pump] s _).raised

theorem pump_goPump {s : State} {st : Nat} (change : s.pState ≠ st) : (s.goPump st).pump = { s.pump with entered := s.elapsed } := by
  rw [goPump, if_neg change, pump_raise]
  change { (s.set F.PUMP_STATUS_STATE st).pump with entered := (s.set F.PUMP_STATUS_STATE st).elapsed } = _
  rw [pump_set, elapsed_set]

theorem pState_goPump {st : Nat} (small : st < 16) : (s.goPump st).pState = st := by
  unfold goPump
  split
  next here => exact here
  next => exact (get_raise_apart _ (by decide)).trans (get_set_of_lt (f := F.PUMP_STATUS_STATE) _ (by decide) small)

/-- No other field of PUMP_STATUS follows. -/
theorem get_goPump {f : FieldRef} (apart' : apart F.PUMP_STATUS_STATE f = true) (st : Nat) :
    (s.goPump st).get f = s.get f := by
  unfold goPump
  split
  · rfl
  · exact ((Kept.rfl.mapPump.raise : Kept [] [.pump, .router] _ _).get (by simp)).trans (get_set_apart _ apart')

/-! All legs floating (R475, R503) -/

theorem kept_floatLegs : Kept driveRegs [.pump] s s.floatLegs := Kept.rfl.set.set.mapPump

theorem pump_floatLegs : s.floatLegs.pump = { s.pump with ovl := none, zc := none, duty := 0, brake := false } := by
  unfold floatLegs
  change { ((s.set F.PUMP_STATUS_SECTOR 0).set F.PUMP_SECTOR_OVL 0).pump with ovl := none, zc := none, duty := 0, brake := false } = _
  rw [pump_set, pump_set]

theorem get_floatLegs {f : FieldRef} (apart' : apart F.PUMP_STATUS_SECTOR f = true) (other : f.addr ≠ Reg.PUMP_SECTOR) :
    s.floatLegs.get f = s.get f := by
  have last : Kept [Reg.PUMP_SECTOR] [.pump] (s.set F.PUMP_STATUS_SECTOR 0) s.floatLegs := Kept.rfl.set.mapPump
  exact (last.get (by simpa using other)).trans (get_set_apart _ apart')

theorem pState_floatLegs : s.floatLegs.pState = s.pState := s.get_floatLegs (by decide) (by decide)

theorem pSector_floatLegs : s.floatLegs.pSector = 0 := by
  have last : Kept [Reg.PUMP_SECTOR] [.pump] (s.set F.PUMP_STATUS_SECTOR 0) s.floatLegs := Kept.rfl.set.mapPump
  exact last.get.trans (get_set_of_lt _ (by decide) (by decide))

/-! OBSERVE, COAST and FAULT (R512, R517 to R520, R523) -/

/-- A start's own settings, all legs floating. -/
def observed (s : State) : State :=
  s.floatLegs.mapPump fun p => { p with
    crossings := [], legs := [], spread := [], tEst := none, good := 0, entered := s.elapsed }

theorem observe_eq : s.observe = s.observed.goPump ps.observe := rfl

theorem kept_observed : Kept driveRegs [.pump] s s.observed := s.kept_floatLegs.mapPump

theorem kept_observe : Kept driveRegs [.pump, .router] s s.observe := s.kept_observed.mono.trans (kept_goPump _ _).mono

theorem pState_observed : s.observed.pState = s.pState := s.pState_floatLegs

theorem pState_observe : s.observe.pState = ps.observe := pState_goPump _ (by decide)

theorem get_observe {f : FieldRef} (sector : apart F.PUMP_STATUS_SECTOR f = true) (state : apart F.PUMP_STATUS_STATE f = true)
    (other : f.addr ≠ Reg.PUMP_SECTOR) : s.observe.get f = s.get f :=
  (get_goPump _ state _).trans (s.get_floatLegs sector other)

theorem pSector_observe : s.observe.pSector = 0 := (get_goPump _ (by decide) _).trans s.pSector_floatLegs

theorem pump_observe : s.observe.pump = { s.pump with
    ovl := none, zc := none, duty := 0, brake := false
    crossings := [], legs := [], spread := [], tEst := none, good := 0, entered := s.elapsed } := by
  have observed : s.observed.pump = { s.pump with
      ovl := none, zc := none, duty := 0, brake := false
      crossings := [], legs := [], spread := [], tEst := none, good := 0, entered := s.elapsed } := by
    rw [observed, pump_mapPump, pump_floatLegs]
  have time : s.observed.elapsed = s.elapsed := by
    rw [State.observed, elapsed_mapPump, floatLegs, elapsed_mapPump, elapsed_set, elapsed_set]
  rw [observe_eq]
  by_cases here : s.observed.pState = ps.observe
  · rw [goPump_same here, observed]
  · rw [pump_goPump here, observed, time]

theorem raises_goPump (st : Nat) : Raises s (s.goPump st) := by
  by_cases here : s.pState = st
  · rw [goPump_same here]
    exact Raises.rfl
  · exact (raised_goPump here).raises

theorem raises_floatLegs : Raises s s.floatLegs := Raises.rfl.of_router (s.kept_floatLegs.2 .router (by decide))

theorem raises_observed : Raises s s.observed := Raises.rfl.of_router (s.kept_observed.2 .router (by decide))

theorem raises_observe : Raises s s.observe := s.raises_observed.trans (raises_goPump _ _)

/-- A drive that observes from another state says so. -/
theorem raised_observe {s : State} (change : s.pState ≠ ps.observe) : Raised [(s.datum, 200, 0)] s s.observe := by
  have goes : Raised [(s.observed.datum, 200, 0)] s.observed s.observe := raised_goPump (by rwa [pState_observed])
  have router : s.observed.router = s.router := s.kept_observed.2 .router (by decide)
  have time : s.observed.datum = s.datum := s.kept_observed.2 .datum (by decide)
  rw [Raised] at *
  rw [goes, router, time]

/-- What a coast sets before the state changes. -/
def coasted (why : Coast) (s : State) : State := s.floatLegs.mapPump fun p => { p with coast := why, locked := none, retry := false }

theorem coastFor_eq (why : Coast) : s.coastFor why = (s.coasted why).goPump ps.coast := rfl

theorem kept_coasted (why : Coast) : Kept driveRegs [.pump] s (s.coasted why) := s.kept_floatLegs.mapPump

theorem kept_coastFor (why : Coast) : Kept driveRegs [.pump, .router] s (s.coastFor why) :=
  (s.kept_coasted why).mono.trans (kept_goPump _ _).mono

theorem pState_coasted (why : Coast) : (s.coasted why).pState = s.pState := s.pState_floatLegs

theorem pState_coastFor (why : Coast) : (s.coastFor why).pState = ps.coast := pState_goPump _ (by decide)

theorem pSector_coastFor (why : Coast) : (s.coastFor why).pSector = 0 := (get_goPump _ (by decide) _).trans s.pSector_floatLegs

theorem get_coastFor {f : FieldRef} (sector : apart F.PUMP_STATUS_SECTOR f = true) (state : apart F.PUMP_STATUS_STATE f = true)
    (other : f.addr ≠ Reg.PUMP_SECTOR) (why : Coast) : (s.coastFor why).get f = s.get f :=
  (get_goPump _ state _).trans (s.get_floatLegs sector other)

theorem raised_coastFor {s : State} (change : s.pState ≠ ps.coast) (why : Coast) : Raised [(s.datum, 200, 0)] s (s.coastFor why) := by
  have goes : Raised [((s.coasted why).datum, 200, 0)] (s.coasted why) (s.coastFor why) := raised_goPump (by rwa [pState_coasted])
  have router : (s.coasted why).router = s.router := (s.kept_coasted why).2 .router (by decide)
  have time : (s.coasted why).datum = s.datum := (s.kept_coasted why).2 .datum (by decide)
  rw [Raised] at *
  rw [goes, router, time]

theorem raises_coastFor (why : Coast) : Raises s (s.coastFor why) :=
  (Raises.rfl.of_router ((s.kept_coasted why).2 .router (by decide))).trans (raises_goPump _ _)

/-- Of the pump, a coast changes what it sets and the instant of entry. -/
theorem pump_coastFor (why : Coast) : ∃ at_, (s.coastFor why).pump = { s.pump with
    ovl := none, zc := none, duty := 0, brake := false, coast := why, locked := none, retry := false, entered := at_ } := by
  have coasted : (s.coasted why).pump = { s.pump with
      ovl := none, zc := none, duty := 0, brake := false, coast := why, locked := none, retry := false } := by
    rw [coasted, pump_mapPump, pump_floatLegs]
  rw [coastFor_eq]
  by_cases here : (s.coasted why).pState = ps.coast
  · exact ⟨s.pump.entered, by rw [goPump_same here, coasted]⟩
  · exact ⟨_, by rw [pump_goPump here, coasted]⟩

theorem kept_chopOff : Kept [Reg.PUMP_STATUS] [.pump] s s.chopOff := Kept.rfl.setBit.mapPump

theorem get_chopOff {f : FieldRef} (apart' : apart F.PUMP_STATUS_CHOP_ACTIVE f = true) : s.chopOff.get f = s.get f := by
  refine ((Kept.rfl.mapPump : Kept [] [.pump] (s.setBit F.PUMP_STATUS_CHOP_ACTIVE false) s.chopOff).get (by simp)).trans ?_
  exact get_setBit_apart _ apart'

theorem pump_chopOff : s.chopOff.pump = { s.pump with act := none } := by
  unfold chopOff
  rw [pump_mapPump, pump_setBit]

theorem active_chopOff : s.chopOff.bit F.PUMP_STATUS_CHOP_ACTIVE = false := by
  refine ((Kept.rfl.mapPump : Kept [] [.pump] (s.setBit F.PUMP_STATUS_CHOP_ACTIVE false) s.chopOff).bit (by simp)).trans ?_
  exact bit_setBit_same _ (by decide) rfl

theorem raises_chopOff : Raises s s.chopOff := Raises.rfl.of_router (s.kept_chopOff.2 .router (by decide))

/-- What a fault sets before the state changes. -/
def faulted (code : Nat) (s : State) : State :=
  (s.floatLegs.mapPump fun p => { p with locked := none, retry := false, verdict := none }).set F.PUMP_STATUS_FAULT code

/-- The fault entered and told (R523). -/
def faultTold (code : Nat) (s : State) : State := (((s.faulted code).goPump ps.fault).raise 201).when (code == 6) chopOff

theorem pumpFaultAs_eq (code : Nat) : s.pumpFaultAs code = (s.faultTold code).showPumpFlt false := rfl

theorem kept_faulted (code : Nat) : Kept driveRegs [.pump] s (s.faulted code) := s.kept_floatLegs.mapPump.set

theorem pState_faulted (code : Nat) : (s.faulted code).pState = s.pState := (get_set_apart _ (by decide)).trans s.pState_floatLegs

theorem kept_faultTold (code : Nat) : Kept (Reg.SCRUB_FAULT_SEEN :: driveRegs) [.pump, .router] s (s.faultTold code) := by
  refine Kept.when (Kept.raiseFault (((s.kept_faulted code).mono.trans (kept_goPump _ _).mono))) fun h => h.trans (kept_chopOff _).mono

theorem driveRegs_flt : Reg.PUMP_STATUS :: derateRegs ⊆ pumpRegs := List.cons_subset.2 ⟨mem_pumpRegs_pump, derateRegs_subset⟩

theorem kept_pumpFaultAs (code : Nat) : Kept pumpRegs pumpParts s (s.pumpFaultAs code) := by
  rw [pumpFaultAs_eq]
  exact ((s.kept_faultTold code).mono (List.cons_subset.2 ⟨mem_pumpRegs_seen, driveRegs_subset⟩)).trans
    ((kept_showPumpFlt _ _).mono driveRegs_flt)

/-- The fields that a fault sets, read before casting's derating follows. -/
theorem get_pumpFaultAs {f : FieldRef} (flt : apart F.PUMP_STATUS_PUMP_FLT f = true) (active : apart F.PUMP_STATUS_CHOP_ACTIVE f = true)
    (state : apart F.PUMP_STATUS_STATE f = true) (seen : apart F.SCRUB_FAULT_SEEN_SEEN f = true) (cast : f.addr ∉ derateRegs := by decide)
    (code : Nat) : (s.pumpFaultAs code).get f = (s.faulted code).get f := by
  rw [pumpFaultAs_eq, get_showPumpFlt _ flt cast]
  have told : (((s.faulted code).goPump ps.fault).raise 201).get f = (s.faulted code).get f :=
    (get_raise_apart _ seen).trans (get_goPump _ state _)
  exact (when_eq (fun x => x.get f) _ (get_chopOff _ active)).trans told

theorem pState_pumpFaultAs (code : Nat) : (s.pumpFaultAs code).pState = ps.fault := by
  refine (get_showPumpFlt (s.faultTold code) (f := F.PUMP_STATUS_STATE) (by decide) (by decide) false).trans ?_
  refine (when_eq State.pState _ (get_chopOff _ (by decide))).trans ?_
  exact (get_raise_apart _ (by decide)).trans (pState_goPump _ (by decide))

theorem pSector_pumpFaultAs (code : Nat) : (s.pumpFaultAs code).pSector = 0 := by
  refine (s.get_pumpFaultAs (f := F.PUMP_STATUS_SECTOR) (by decide) (by decide) (by decide) (by decide) (by decide) code).trans ?_
  exact (get_set_apart _ (by decide)).trans s.pSector_floatLegs

theorem fault_pumpFaultAs {code : Nat} (small : code < 16) : (s.pumpFaultAs code).get F.PUMP_STATUS_FAULT = code := by
  refine (s.get_pumpFaultAs (f := F.PUMP_STATUS_FAULT) (by decide) (by decide) (by decide) (by decide) (by decide) code).trans ?_
  exact get_set_of_lt _ (by decide) small

theorem active_pumpFaultAs : (s.pumpFaultAs 6).bit F.PUMP_STATUS_CHOP_ACTIVE = false := by
  rw [State.bit, pumpFaultAs_eq, get_showPumpFlt _ (by decide) (by decide), ← State.bit]
  exact active_chopOff _

/-- Of the pump, a fault changes what it sets, and the instants of entry and since when the drive is out of RUN. -/
theorem pump_pumpFaultAs {code : Nat} (other : code ≠ 6) : ∃ at_ out, (s.pumpFaultAs code).pump = { s.pump with
    ovl := none, zc := none, duty := 0, brake := false, locked := none, retry := false, verdict := none, entered := at_, outSince := out } := by
  have set : (s.faulted code).pump = { s.pump with
      ovl := none, zc := none, duty := 0, brake := false, locked := none, retry := false, verdict := none } := by
    rw [faulted, pump_set, pump_mapPump, pump_floatLegs]
  rw [pumpFaultAs_eq, pump_showPumpFlt, faultTold, beq_eq_false_iff_ne.2 other, when_false, pump_raise]
  by_cases here : (s.faulted code).pState = ps.fault
  · exact ⟨s.pump.entered, _, by rw [goPump_same here, set]⟩
  · exact ⟨_, _, by rw [pump_goPump here, set]⟩

theorem raises_faultTold (code : Nat) : Raises s (s.faultTold code) := by
  have faulted : Raises s (s.faulted code) := Raises.rfl.of_router ((s.kept_faulted code).2 .router (by decide))
  exact Raises.when ((faulted.trans (raises_goPump _ _)).raise) fun h => h.trans (raises_chopOff _)

theorem raises_pumpFaultAs (code : Nat) : Raises s (s.pumpFaultAs code) := (s.raises_faultTold code).trans (raises_showPumpFlt _ _)

/-- A fault out of another state says that the state changes, then that it is a fault. -/
theorem told_pumpFaultAs {s : State} (change : s.pState ≠ ps.fault) (code : Nat) : ∃ l,
    (s.pumpFaultAs code).router.inflight = s.router.inflight ++ { stamp := s.datum, num := 200 } :: { stamp := s.datum, num := 201 } :: l := by
  have goes : Raised [((s.faulted code).datum, 200, 0)] (s.faulted code) ((s.faulted code).goPump ps.fault) :=
    raised_goPump (by rwa [pState_faulted])
  have router : (s.faulted code).router = s.router := (s.kept_faulted code).2 .router (by decide)
  have time : (s.faulted code).datum = s.datum := (s.kept_faulted code).2 .datum (by decide)
  have later : ((s.faulted code).goPump ps.fault).datum = (s.faulted code).datum := (kept_goPump _ _).2 .datum (by decide)
  have rest : Raises (((s.faulted code).goPump ps.fault).raise 201) (s.pumpFaultAs code) :=
    (Raises.when Raises.rfl fun h => h.trans (raises_chopOff _)).trans (raises_showPumpFlt _ _)
  obtain ⟨l, eq⟩ := rest
  refine ⟨l, ?_⟩
  rw [eq, router_raise, goes, router, later, time]
  simp

end State

end Sys2Proof.Machine

/-! PROOFS. The pump drive's reactions to demand, guard latches, starts and stops (spec/12 R507, R520, R523). -/

namespace Sys2Proof.Machine

set_option Elab.async false

/-- The registers that the drive's reactions reach. -/
abbrev reactRegs : List Nat := [Reg.PUMP_STATUS, Reg.PUMP_SECTOR, Reg.PUMP_SPEED, Reg.SCRUB_FAULT_SEEN] ++ State.derateRegs

theorem reactRegs_subset : reactRegs ⊆ pumpRegs :=
  List.append_subset.2 ⟨by
    simp only [List.cons_subset, List.nil_subset, and_true]
    exact ⟨mem_pumpRegs_pump, mem_pumpRegs_pump, mem_pumpRegs_pump, mem_pumpRegs_seen⟩, State.derateRegs_subset⟩

/-- A chain's step. -/
theorem Kept.react {a x y : State} {regs : List Nat} {parts : List Part} (h : Kept reactRegs pumpParts a x)
    (k : Kept regs parts x y) (hr : regs ⊆ reactRegs := by decide) (hp : parts ⊆ pumpParts := by decide) : Kept reactRegs pumpParts a y :=
  h.trans (k.mono hr hp)

namespace State

variable (s : State)

theorem kept_pumpFaultAs_react (code : Nat) : Kept reactRegs pumpParts s (s.pumpFaultAs code) := by
  rw [pumpFaultAs_eq]
  exact (Kept.rfl.react (s.kept_faultTold code)).react (kept_showPumpFlt _ _)

theorem kept_pumpFaultIf (code : Nat) : Kept reactRegs pumpParts s (s.pumpFaultIf code) := by
  unfold pumpFaultIf
  exact (s.kept_pumpFaultAs_react code).ite Kept.rfl

/-! The stages of a reaction -/

/-- The demand noted and shown (R507). -/
def demanded (s : State) : State :=
  let x := (s.mapPump fun p => { p with run := s.runRequest }).setBit F.PUMP_STATUS_REQ s.runRequest
  x.setTop F.PUMP_SPEED_TARGET (roundAway x.pumpTarget).toNat

/-- A guard latch is a fault (R523). -/
def latchTaken (s : State) : State := s.when (s.bit F.PUMP_CTRL_EN && s.guardLatched) (pumpFaultIf 1)

/-- A chopper that may not act is inactive (R516). -/
def chopChecked (s : State) : State :=
  s.when (!(s.bit F.PUMP_CTRL_CHOP_EN && s.bit F.GUARD_CTRL_GD_EN) && s.bit F.PUMP_STATUS_CHOP_ACTIVE) chopOff

/-- What the drive's state makes of it (R520). -/
def moved (s : State) : State :=
  if s.pState = ps.off then s.when s.startOk observe
  else if ps.observe ≤ s.pState && s.pState ≤ ps.run then
    s.when (!s.runWanted && !(s.pState == ps.run && s.pump.brake && s.bit F.PUMP_CTRL_EN && s.bit F.GUARD_CTRL_GD_EN)) (coastFor .request)
  else if s.pState = ps.coast then
    if !s.runWanted then
      let x := s.mapPump fun p => { p with coast := .request }
      x.when (x.rotorDir.isSome && |x.pumpMeas| ≤ x.pc16 0x14) fun s => s.floatLegs.goPump ps.off
    else s.when (s.restartAllowed && s.startOk) observe
  else s

theorem pumpReact_eq : s.pumpReact = if s.tableau || s.pState == ps.frozen then s
    else s.demanded.latchTaken.chopChecked.moved.showPumpFlt false := rfl

theorem kept_demanded : Kept [Reg.PUMP_STATUS, Reg.PUMP_SPEED] [.pump] s s.demanded := Kept.rfl.mapPump.setBit.setTop

theorem kept_latchTaken : Kept reactRegs pumpParts s s.latchTaken := Kept.rfl.when fun h => h.trans (kept_pumpFaultIf _ _)

theorem kept_chopChecked : Kept [Reg.PUMP_STATUS] [.pump] s s.chopChecked := Kept.rfl.when fun h => h.trans (kept_chopOff _)

theorem kept_moved : Kept driveRegs [.pump, .router] s s.moved := by
  unfold moved
  refine Kept.ite (Kept.rfl.when fun h => h.trans (kept_observe _)) (Kept.ite (Kept.rfl.when fun h => h.trans (kept_coastFor _ _)) (Kept.ite
    (Kept.ite (Kept.rfl.mapPump.when fun h => (h.trans (kept_floatLegs _).mono).trans (kept_goPump _ _).mono)
      (Kept.rfl.when fun h => h.trans (kept_observe _))) Kept.rfl))

theorem kept_pumpReact : Kept reactRegs pumpParts s s.pumpReact := by
  rw [pumpReact_eq]
  refine Kept.rfl.ite ?_
  exact ((((Kept.rfl.react s.kept_demanded).trans (kept_latchTaken _)).react (kept_chopChecked _)).react (kept_moved _)).react
    (kept_showPumpFlt _ _)

theorem raises_moved : Raises s s.moved := by
  unfold moved
  have off (x : State) : Raises x (x.floatLegs.goPump ps.off) := x.raises_floatLegs.trans (raises_goPump _ _)
  have request : Raises s (s.mapPump fun p => { p with coast := .request }) := Raises.rfl
  split
  · exact Raises.rfl.when fun h => h.trans (raises_observe _)
  · split
    · exact Raises.rfl.when fun h => h.trans (raises_coastFor _ _)
    · split
      · split
        · exact request.when fun h => h.trans (off _)
        · exact Raises.rfl.when fun h => h.trans (raises_observe _)
      · exact Raises.rfl

theorem raises_pumpFaultIf (code : Nat) : Raises s (s.pumpFaultIf code) := by
  unfold pumpFaultIf
  split
  · exact s.raises_pumpFaultAs code
  · exact Raises.rfl

theorem raises_pumpReact : Raises s s.pumpReact := by
  rw [pumpReact_eq]
  split
  · exact Raises.rfl
  · have demanded : Raises s s.demanded := Raises.rfl.of_router (s.kept_demanded.2 .router (by decide))
    have latched : Raises s s.demanded.latchTaken := demanded.when fun h => h.trans (raises_pumpFaultIf _ _)
    exact ((latched.of_router ((kept_chopChecked _).2 .router (by decide))).trans (raises_moved _)).trans (raises_showPumpFlt _ _)

/-! What the stages leave of PUMP_STATUS -/

theorem get_demanded {f : FieldRef} (req : apart F.PUMP_STATUS_REQ f = true) (target : f.addr ≠ Reg.PUMP_SPEED) : s.demanded.get f = s.get f := by
  have last : Kept [Reg.PUMP_SPEED] [.pump] ((s.mapPump fun p => { p with run := s.runRequest }).setBit F.PUMP_STATUS_REQ s.runRequest) s.demanded :=
    Kept.rfl.setTop
  exact (last.get (by simpa using target)).trans ((get_setBit_apart _ req).trans ((Kept.rfl.mapPump : Kept [] [.pump] s _).get (by simp)))

theorem get_chopChecked {f : FieldRef} (active : apart F.PUMP_STATUS_CHOP_ACTIVE f = true) : s.chopChecked.get f = s.get f :=
  when_eq (fun x => x.get f) _ (get_chopOff _ active)

theorem run_demanded : s.demanded.pump.run = s.runRequest := by
  unfold demanded
  rw [setTop, pump_set, pump_setBit]
  rfl

/-- Without a guard latch, with the drive not enabled, or in a state that takes no fault, none is taken. -/
theorem latchTaken_none {s : State} (none : (s.bit F.PUMP_CTRL_EN && s.guardLatched) = false ∨ ps.coast < s.pState) : s.latchTaken = s := by
  unfold latchTaken
  rcases none with none | above
  · rw [none, when_false]
  · cases s.bit F.PUMP_CTRL_EN && s.guardLatched with
    | false => exact when_false ..
    | true => rw [when_true, pumpFaultIf, if_neg (by omega)]

theorem pState_chopChecked : s.chopChecked.pState = s.pState := s.get_chopChecked (by decide)

theorem pSector_chopChecked : s.chopChecked.pSector = s.pSector := s.get_chopChecked (by decide)

theorem pState_demanded : s.demanded.pState = s.pState := s.get_demanded (by decide) (by decide)

theorem run_chopChecked : s.chopChecked.pump.run = s.pump.run := by
  refine when_eq (fun x => x.pump.run) _ ?_
  rw [pump_chopOff]

theorem latchTaken_some {s : State} (some : (s.bit F.PUMP_CTRL_EN && s.guardLatched) = true) : s.latchTaken = s.pumpFaultIf 1 := by
  rw [latchTaken, some, when_true]

/-! What a reaction reads stands as it did (R507, R520) -/

/-- What the drive's demand and its start conditions read beside its own block. -/
structure SameInputs (a b : State) : Prop where
  en : b.bit F.PUMP_CTRL_EN = a.bit F.PUMP_CTRL_EN
  manual : b.bit F.PUMP_CTRL_MANUAL = a.bit F.PUMP_CTRL_MANUAL
  gdEn : b.bit F.GUARD_CTRL_GD_EN = a.bit F.GUARD_CTRL_GD_EN
  latched : b.guardLatched = a.guardLatched

/-- What reaches no register of the guard and not PUMP_CTRL leaves these. -/
theorem SameInputs.of_kept {a b : State} {regs : List Nat} {parts : List Part} (k : Kept regs parts a b)
    (hr : ∀ r ∈ [Reg.PUMP_CTRL, Reg.GUARD_CTRL, Reg.GUARD_STATUS], r ∉ regs := by decide) : SameInputs a b := by
  have status {f : FieldRef} (hf : f.addr = Reg.GUARD_STATUS) : b.get f = a.get f := k.get (hf ▸ hr _ (by simp))
  refine ⟨k.bit (hr _ (by simp)), k.bit (hr _ (by simp)), k.bit (hr _ (by simp)), ?_⟩
  unfold guardLatched
  rw [status rfl, State.bit, status rfl, State.bit, status rfl]
  rfl

/-- The run request is a matter of the order, the curve, casting's θ_c, and what was requested before. -/
theorem runRequest_congr {a b : State} {regs : List Nat} {parts : List Part} (k : Kept regs parts a b)
    (curve : b.curveOk = a.curveOk) (run : b.pump.run = a.pump.run) (ht : .tables ∉ parts := by decide)
    (hr : ∀ r ∈ [Reg.PUMP_CMD, Reg.CAST_STATUS, Reg.CAST_COOL], r ∉ regs := by decide) : b.runRequest = a.runRequest := by
  have tables : b.tables = a.tables := k.2 .tables ht
  have item (off : Nat) : b.pcS off = a.pcS off := by rw [pcS, pcS, tblS16, tblS16, tbl16, tbl16, tbl8, tbl8, tbl8, tbl8, tableMem, tableMem, tables]
  have order : b.get F.PUMP_CMD_ORDER = a.get F.PUMP_CMD_ORDER := k.get (hr _ (by simp))
  have cool : b.bit F.CAST_STATUS_COOL_TO = a.bit F.CAST_STATUS_COOL_TO := k.bit (hr _ (by simp))
  have theta : b.thetaC = a.thetaC := k.getInt (hr _ (by simp))
  rw [runRequest, runRequest, order, cool, curve, theta, run, item, item]

/-- A latched guard of an enabled drive, the drive in a state that takes a fault: FAULT 1 (R523). -/
theorem latchTaken_fault {s : State} (latched : (s.bit F.PUMP_CTRL_EN && s.guardLatched) = true) (state : s.pState ≤ ps.coast) :
    s.latchTaken.pState = ps.fault ∧ s.latchTaken.get F.PUMP_STATUS_FAULT = 1 ∧ s.latchTaken.pSector = 0 := by
  rw [latchTaken_some latched, pumpFaultIf, if_pos state]
  exact ⟨s.pState_pumpFaultAs 1, s.fault_pumpFaultAs (by decide), s.pSector_pumpFaultAs 1⟩

/-- In FAULT and MANUAL nothing moves the drive. -/
theorem moved_above {s : State} (state : ps.coast < s.pState) : s.moved = s := by
  unfold moved
  have off : s.pState ≠ ps.off := by rw [ps.coast] at state; unfold ps.off; omega
  have run : ¬ (decide (ps.observe ≤ s.pState) && decide (s.pState ≤ ps.run)) = true := by
    simp only [Bool.and_eq_true, decide_eq_true_eq, not_and]
    intro
    rw [ps.coast] at state
    unfold ps.run
    omega
  have coast : s.pState ≠ ps.coast := by omega
  rw [if_neg off, if_neg run, if_neg coast]

/-- The stages before the drive moves. -/
def readied (s : State) : State := s.demanded.latchTaken.chopChecked

theorem pumpReact_moved {s : State} (free : s.tableau = false) (state : s.pState ≠ ps.frozen) :
    s.pumpReact = s.readied.moved.showPumpFlt false := by
  rw [pumpReact_eq, if_neg (by simp [free, state]), readied]

theorem inputs_demanded : SameInputs s s.demanded := .of_kept s.kept_demanded

theorem kept_readied : Kept reactRegs pumpParts s s.readied :=
  ((Kept.rfl.react s.kept_demanded).trans (kept_latchTaken _)).react (kept_chopChecked _)

/-- Where a guard latch makes a fault of it. -/
theorem readied_fault {s : State} (latched : (s.bit F.PUMP_CTRL_EN && s.guardLatched) = true) (state : s.pState ≤ ps.coast) :
    s.readied.pState = ps.fault ∧ s.readied.get F.PUMP_STATUS_FAULT = 1 ∧ s.readied.pSector = 0 := by
  have same := s.inputs_demanded
  obtain ⟨fault, code, sector⟩ := latchTaken_fault (s := s.demanded) (by rw [same.en, same.latched]; exact latched)
    (by rw [pState_demanded]; exact state)
  rw [readied, pState_chopChecked, pSector_chopChecked, get_chopChecked _ (by decide)]
  exact ⟨fault, code, sector⟩

/-- Where it makes none, the fields of PUMP_STATUS but REQ and CHOP_ACTIVE stand, and the request is noted. -/
theorem readied_none {s : State} (latched : (s.bit F.PUMP_CTRL_EN && s.guardLatched) = false ∨ ps.coast < s.pState) :
    s.readied = s.demanded.chopChecked := by
  have same := s.inputs_demanded
  rw [readied, latchTaken_none (by rw [same.en, same.latched, pState_demanded]; exact latched)]

theorem get_readied {s : State} (latched : (s.bit F.PUMP_CTRL_EN && s.guardLatched) = false ∨ ps.coast < s.pState) {f : FieldRef}
    (req : apart F.PUMP_STATUS_REQ f = true) (active : apart F.PUMP_STATUS_CHOP_ACTIVE f = true) (target : f.addr ≠ Reg.PUMP_SPEED) :
    s.readied.get f = s.get f := by
  rw [readied_none latched, get_chopChecked _ active, s.get_demanded req target]

theorem pState_readied {s : State} (latched : (s.bit F.PUMP_CTRL_EN && s.guardLatched) = false ∨ ps.coast < s.pState) :
    s.readied.pState = s.pState := get_readied latched (by decide) (by decide) (by decide)

theorem pSector_readied {s : State} (latched : (s.bit F.PUMP_CTRL_EN && s.guardLatched) = false ∨ ps.coast < s.pState) :
    s.readied.pSector = s.pSector := get_readied latched (by decide) (by decide) (by decide)

theorem run_readied {s : State} (latched : (s.bit F.PUMP_CTRL_EN && s.guardLatched) = false) : s.readied.pump.run = s.runRequest := by
  rw [readied_none (.inl latched), run_chopChecked, run_demanded]

/-- The drive in FAULT, with or without its latch, shows so after its reactions. -/
theorem fields_pumpReact {s : State} (free : s.tableau = false) (state : s.pState ≠ ps.frozen) {f : FieldRef}
    (flt : apart F.PUMP_STATUS_PUMP_FLT f = true) (cast : f.addr ∉ derateRegs := by decide) : s.pumpReact.get f = s.readied.moved.get f := by
  rw [pumpReact_moved free state]
  exact get_showPumpFlt _ flt cast false

theorem pState_pumpReact {s : State} (free : s.tableau = false) (state : s.pState ≠ ps.frozen) : s.pumpReact.pState = s.readied.moved.pState :=
  fields_pumpReact free state (by decide)

theorem pSector_pumpReact {s : State} (free : s.tableau = false) (state : s.pState ≠ ps.frozen) : s.pumpReact.pSector = s.readied.moved.pSector :=
  fields_pumpReact free state (by decide)

/-- OFF, a drive reacts by staying there, by a start, or by the fault of a guard latch (R520, R523). -/
theorem pumpReact_off {s : State} (free : s.tableau = false) (off : s.pState = ps.off) :
    (s.pumpReact.pState = ps.off ∧ s.pumpReact.pSector = s.pSector ∧ s.pumpReact.get F.PUMP_STATUS_FAULT = s.get F.PUMP_STATUS_FAULT) ∨
    (s.pumpReact.pState = ps.fault ∧ s.pumpReact.pSector = 0 ∧ s.pumpReact.get F.PUMP_STATUS_FAULT = 1 ∧ s.guardLatched = true) ∨
    (s.pumpReact.pState = ps.observe ∧ s.pumpReact.pSector = 0 ∧ s.pumpReact.get F.PUMP_STATUS_FAULT = s.get F.PUMP_STATUS_FAULT ∧
      s.runRequest = true) := by
  have frozen : s.pState ≠ ps.frozen := by rw [off]; decide
  rw [pState_pumpReact free frozen, pSector_pumpReact free frozen, fields_pumpReact (f := F.PUMP_STATUS_FAULT) free frozen (by decide)]
  cases latched : s.bit F.PUMP_CTRL_EN && s.guardLatched with
  | true =>
    obtain ⟨fault, one, none⟩ := readied_fault latched (by rw [off]; decide)
    rw [moved_above (by rw [fault]; decide)]
    exact .inr (.inl ⟨fault, none, one, (Bool.and_eq_true_iff.1 latched).2⟩)
  | false =>
    have here := (pState_readied (.inl latched)).trans off
    have sector := pSector_readied (s := s) (.inl latched)
    have code : s.readied.get F.PUMP_STATUS_FAULT = s.get F.PUMP_STATUS_FAULT := get_readied (.inl latched) (by decide) (by decide) (by decide)
    rw [moved, if_pos here]
    cases start : s.readied.startOk with
    | false =>
      rw [when_false]
      exact .inl ⟨here, sector, code⟩
    | true =>
      rw [when_true]
      have run : s.runRequest = true := by
        rw [startOk, runWanted, run_readied latched] at start
        simp only [Bool.and_eq_true] at start
        exact start.1.1.1.1.1.1.1
      exact .inr (.inr ⟨pState_observe _, pSector_observe _, (get_observe _ (by decide) (by decide) (by decide)).trans code, run⟩)

/-- In OBSERVE with a request, a drive reacts by staying there, by a coast where it is not enabled, or by the fault of a guard latch. -/
theorem pumpReact_observe {s : State} (free : s.tableau = false) (observe : s.pState = ps.observe) :
    (s.pumpReact.pState = ps.observe ∧ s.pumpReact.pSector = s.pSector) ∨
    (s.pumpReact.pState = ps.fault ∧ s.pumpReact.pSector = 0 ∧ s.guardLatched = true) ∨
    (s.pumpReact.pState = ps.coast ∧ s.pumpReact.pSector = 0 ∧
      (s.runRequest && s.bit F.PUMP_CTRL_EN && !s.bit F.PUMP_CTRL_MANUAL && s.bit F.GUARD_CTRL_GD_EN) = false) := by
  have frozen : s.pState ≠ ps.frozen := by rw [observe]; decide
  rw [pState_pumpReact free frozen, pSector_pumpReact free frozen]
  cases latched : s.bit F.PUMP_CTRL_EN && s.guardLatched with
  | true =>
    obtain ⟨fault, -, none⟩ := readied_fault latched (by rw [observe]; decide)
    rw [moved_above (by rw [fault]; decide)]
    exact .inr (.inl ⟨fault, none, (Bool.and_eq_true_iff.1 latched).2⟩)
  | false =>
    have here := (pState_readied (.inl latched)).trans observe
    have sector := pSector_readied (s := s) (.inl latched)
    have same : SameInputs s s.readied := .of_kept s.kept_readied
    have wanted : s.readied.runWanted = (s.runRequest && s.bit F.PUMP_CTRL_EN && !s.bit F.PUMP_CTRL_MANUAL && s.bit F.GUARD_CTRL_GD_EN) := by
      rw [runWanted, run_readied latched, same.en, same.manual, same.gdEn]
    rw [moved, if_neg (by rw [here]; decide), if_pos (by rw [here]; decide), wanted]
    have run : (s.readied.pState == ps.run) = false := by rw [here]; rfl
    rw [run, Bool.false_and, Bool.false_and, Bool.false_and, Bool.not_false, Bool.and_true]
    cases s.runRequest && s.bit F.PUMP_CTRL_EN && !s.bit F.PUMP_CTRL_MANUAL && s.bit F.GUARD_CTRL_GD_EN with
    | true =>
      rw [Bool.not_true, when_false]
      exact .inl ⟨here, sector⟩
    | false =>
      rw [Bool.not_false, when_true]
      exact .inr (.inr ⟨pState_coastFor .., pSector_coastFor .., rfl⟩)

/-- In MANUAL the drive's state and sector stand. -/
theorem pumpReact_above {s : State} (free : s.tableau = false) (above : ps.coast < s.pState) {f : FieldRef}
    (flt : apart F.PUMP_STATUS_PUMP_FLT f = true) (req : apart F.PUMP_STATUS_REQ f = true) (active : apart F.PUMP_STATUS_CHOP_ACTIVE f = true)
    (target : f.addr ≠ Reg.PUMP_SPEED) (cast : f.addr ∉ derateRegs := by decide) : s.pumpReact.get f = s.get f := by
  by_cases frozen : s.pState = ps.frozen
  · rw [pumpReact_eq, free, frozen]
    rfl
  · have still : ps.coast < s.readied.pState := by rwa [pState_readied (.inr above)]
    rw [fields_pumpReact free frozen flt cast, moved_above still]
    exact get_readied (.inr above) req active target

end State

end Sys2Proof.Machine

/-! PROOFS. Starting and commutation of the pump drive (spec/12 R511 to R515). -/

namespace Sys2Proof.Machine

set_option Elab.async false

/-- Sectors are numbered 1 to 6. -/
theorem nextSector_lt (reverse : Bool) (n : Nat) : nextSector reverse n < 8 := by
  unfold nextSector
  split <;> omega

namespace State

variable (s : State)

theorem kept_beginSector (n at_ : Nat) : Kept driveRegs [.pump] s (s.beginSector n at_) := by
  unfold beginSector
  exact Kept.rfl.mapPump.set.set

theorem pState_beginSector (n at_ : Nat) : (s.beginSector n at_).pState = s.pState := by
  unfold beginSector
  exact (get_set_apart _ (by decide)).trans ((get_set_apart _ (by decide)).trans ((Kept.rfl.mapPump : Kept [] [.pump] s _).get (by simp)))

theorem pSector_beginSector {n : Nat} (small : n < 8) (at_ : Nat) : (s.beginSector n at_).pSector = n := by
  unfold beginSector
  exact (get_set_apart _ (by decide)).trans (get_set_of_lt _ (by decide) small)

theorem sectorAt_beginSector (n at_ : Nat) : (s.beginSector n at_).pump.sectorAt = at_ := by
  unfold beginSector
  dsimp only
  rw [pump_set, pump_set, pump_mapPump]

theorem elapsed_beginSector (n at_ : Nat) : (s.beginSector n at_).elapsed = s.elapsed := by
  unfold beginSector
  dsimp only
  rw [elapsed_set, elapsed_set, elapsed_mapPump]

/-- The first sector of ALIGN (R514). -/
def firstSector (s : State) : Nat := if s.pumpReverse then 6 else 1

theorem align_eq : s.align = (s.beginSector s.firstSector s.elapsed).goPump ps.align := rfl

theorem kept_align : Kept driveRegs [.pump, .router] s s.align := (s.kept_beginSector _ _).mono.trans (kept_goPump _ _).mono

theorem pState_align : s.align.pState = ps.align := pState_goPump _ (by decide)

theorem pSector_align : s.align.pSector = s.firstSector := by
  have small : s.firstSector < 8 := by
    unfold firstSector
    split <;> omega
  exact (get_goPump _ (by decide) _).trans (s.pSector_beginSector small _)

theorem raised_align {s : State} (change : s.pState ≠ ps.align) : Raised [(s.datum, 200, 0)] s s.align := by
  have goes : Raised [((s.beginSector s.firstSector s.elapsed).datum, 200, 0)] (s.beginSector s.firstSector s.elapsed) s.align :=
    raised_goPump (by rwa [pState_beginSector])
  have router := (s.kept_beginSector s.firstSector s.elapsed).2 .router (by decide)
  have time := (s.kept_beginSector s.firstSector s.elapsed).2 .datum (by decide)
  rw [Raised] at *
  rw [goes, router, time]

theorem sectorAt_align {s : State} (change : s.pState ≠ ps.align) : s.align.pump.sectorAt = s.elapsed := by
  rw [align_eq, pump_goPump (by rwa [pState_beginSector])]
  exact s.sectorAt_beginSector s.firstSector s.elapsed

/-! RUN (R514, R515) -/

/-- The count of a start, and of one after a lock that has succeeded. -/
def runCounted (s : State) : State :=
  ((s.goPump ps.run).count F.PUMP_STARTS_COUNT).when ((s.goPump ps.run).count F.PUMP_STARTS_COUNT).pump.retry fun s =>
    s.transient F.PUMP_TRANSIENT_COUNT

theorem enterRun_eq : s.enterRun = (s.runCounted.mapPump fun p => { p with retry := false, runAt := s.runCounted.elapsed }).showPumpFlt false := rfl

/-- The registers that a start reaches. -/
abbrev startRegs : List Nat := [Reg.PUMP_STATUS, Reg.PUMP_STARTS, Reg.PUMP_TRANSIENT, Reg.SCRUB_FAULT_SEEN]

theorem startRegs_subset : startRegs ⊆ pumpRegs := by
  simp only [List.cons_subset, List.nil_subset, and_true]
  exact ⟨mem_pumpRegs_pump, mem_pumpRegs_pump, mem_pumpRegs_pump, mem_pumpRegs_seen⟩

theorem kept_runCounted : Kept startRegs [.pump, .router] s s.runCounted :=
  Kept.when ((s.kept_goPump _).mono.count) fun h => h.transient

theorem kept_enterRun : Kept pumpRegs pumpParts s s.enterRun := by
  rw [enterRun_eq]
  exact ((s.kept_runCounted.mono startRegs_subset).mapPump).trans ((kept_showPumpFlt _ _).mono driveRegs_flt)

theorem pState_enterRun : s.enterRun.pState = ps.run := by
  rw [enterRun_eq]
  refine (get_showPumpFlt _ (f := F.PUMP_STATUS_STATE) (by decide) (by decide) false).trans ?_
  refine ((Kept.rfl.mapPump : Kept [] [.pump] s.runCounted _).get (by simp)).trans ?_
  have counted : Kept [Reg.PUMP_STARTS, Reg.PUMP_TRANSIENT, Reg.SCRUB_FAULT_SEEN] [] (s.goPump ps.run) s.runCounted :=
    Kept.when Kept.rfl.count fun h => h.transient
  exact counted.get.trans (s.pState_goPump (by decide))

theorem elapsed_goPump (st : Nat) : (s.goPump st).elapsed = s.elapsed := by
  unfold goPump
  split
  · rfl
  · rw [elapsed_raise, elapsed_mapPump, elapsed_set]

/-- Of the pump, a start changes its instants and RETRY. -/
theorem pump_enterRun {s : State} (change : s.pState ≠ ps.run) : ∃ out, s.enterRun.pump = { s.pump with
    entered := s.elapsed, retry := false, runAt := s.elapsed, outSince := out } := by
  have counted : s.runCounted.pump = { s.pump with entered := s.elapsed } := by
    refine (when_eq State.pump _ ?_).trans ?_
    · rw [transient, noteClass, pump_setIbit, pump_count]
    · rw [pump_count, pump_goPump change]
  have time : s.runCounted.elapsed = s.elapsed := by
    refine (when_eq State.elapsed _ ?_).trans ?_
    · rw [transient, noteClass, elapsed_setIbit, elapsed_count]
    · rw [elapsed_count, elapsed_goPump]
  rw [enterRun_eq, pump_showPumpFlt, pump_mapPump, counted, time]
  exact ⟨_, rfl⟩

theorem starts_enterRun : s.enterRun.get F.PUMP_STARTS_COUNT = min (s.get F.PUMP_STARTS_COUNT + 1) 0xFFFFFFFF := by
  have rest : Kept (Reg.PUMP_TRANSIENT :: Reg.SCRUB_FAULT_SEEN :: Reg.PUMP_STATUS :: derateRegs) [.pump, .router, .curt]
      ((s.goPump ps.run).count F.PUMP_STARTS_COUNT) s.enterRun := by
    rw [enterRun_eq]
    exact Kept.trans (Kept.mapPump (Kept.when Kept.rfl fun h => h.transient)) ((kept_showPumpFlt _ _).mono)
  exact rest.get.trans ((get_count_same _ (by decide)).trans (by rw [(s.kept_goPump ps.run).get]; rfl))

theorem catches_enterRun : s.enterRun.get F.PUMP_CATCHES_COUNT = s.get F.PUMP_CATCHES_COUNT := by
  have all : Kept (startRegs ++ derateRegs) [.pump, .router, .curt] s s.enterRun := by
    rw [enterRun_eq]
    exact ((s.kept_runCounted.mono).mapPump).trans ((kept_showPumpFlt _ _).mono)
  exact all.get

theorem transient_enterRun {s : State} (change : s.pState ≠ ps.run) (retry : s.pump.retry = true) :
    s.enterRun.get F.PUMP_TRANSIENT_COUNT = min (s.get F.PUMP_TRANSIENT_COUNT + 1) 0xFFFFFFFF := by
  have again : ((s.goPump ps.run).count F.PUMP_STARTS_COUNT).pump.retry = true := by
    rw [pump_count, pump_goPump change]
    exact retry
  have rest : Kept (Reg.SCRUB_FAULT_SEEN :: Reg.PUMP_STATUS :: derateRegs) [.pump, .router, .curt]
      (((s.goPump ps.run).count F.PUMP_STARTS_COUNT).count F.PUMP_TRANSIENT_COUNT) s.enterRun := by
    rw [enterRun_eq, runCounted, again, when_true]
    exact Kept.trans (Kept.mapPump (Kept.noteClass Kept.rfl)) ((kept_showPumpFlt _ _).mono)
  refine rest.get.trans ((get_count_same _ (by decide)).trans ?_)
  rw [get_count_apart _ (by decide), (s.kept_goPump ps.run).get]
  rfl

theorem raises_enterRun {s : State} (change : s.pState ≠ ps.run) : ∃ l,
    s.enterRun.router.inflight = s.router.inflight ++ { stamp := s.datum, num := 200 } :: l := by
  have rest : Raises (s.goPump ps.run) s.enterRun := by
    rw [enterRun_eq]
    refine Raises.trans (Raises.of_router ?_ (router_mapPump ..)) (raises_showPumpFlt _ _)
    exact Raises.rfl.of_router (Kept.when (parts := []) (regs := [Reg.PUMP_STARTS, Reg.PUMP_TRANSIENT, Reg.SCRUB_FAULT_SEEN]) Kept.rfl.count
      (fun h => h.transient) |>.2 .router (by decide))
  obtain ⟨l, eq⟩ := (raised_goPump change).more rest
  exact ⟨l, by rw [eq]; simp⟩

/-- A rotor caught, before RUN is entered (R513). -/
def caught (s : State) : State :=
  ((s.count F.PUMP_CATCHES_COUNT).raise 205).mapPump fun p => { p with duty := s.syncDuty, integ := s.syncDuty, ref := |s.pumpMeas| }

theorem kept_caught : Kept [Reg.PUMP_CATCHES] [.pump, .router] s s.caught := Kept.rfl.count.raise.mapPump

theorem pump_caught : s.caught.pump = { s.pump with duty := s.syncDuty, integ := s.syncDuty, ref := |s.pumpMeas| } := by
  rw [caught, pump_mapPump, pump_raise, pump_count]

theorem elapsed_caught : s.caught.elapsed = s.elapsed := by
  rw [caught, elapsed_mapPump, elapsed_raise, elapsed_count]

theorem catches_caught : s.caught.get F.PUMP_CATCHES_COUNT = min (s.get F.PUMP_CATCHES_COUNT + 1) 0xFFFFFFFF := by
  have rest : Kept [] [.router, .pump] (s.count F.PUMP_CATCHES_COUNT) s.caught := Kept.rfl.raise.mapPump
  exact (rest.get (by simp)).trans (s.get_count_same (by decide))

theorem router_caught : s.caught.router = { s.router with inflight := s.router.inflight ++ [{ stamp := s.datum, num := 205 }] } := by
  rw [caught, router_mapPump, router_raise, router_count, datum_count]

theorem pc16_congr {a b : State} (tables : b.tables = a.tables) (off : Nat) : b.pc16 off = a.pc16 off := by
  rw [pc16, pc16, tbl16, tbl16, tbl8, tbl8, tbl8, tbl8, tableMem, tableMem, tables]

theorem run_floatLegs_goPump (st : Nat) : (s.floatLegs.goPump st).pump.run = s.pump.run := by
  by_cases here : s.floatLegs.pState = st
  · rw [goPump_same here, pump_floatLegs]
  · rw [pump_goPump here, pump_floatLegs]

/-- A drive that is turned off keeps its request. -/
theorem runRequest_floatLegs_goPump {st : Nat} : (s.floatLegs.goPump st).runRequest = s.runRequest := by
  have kept : Kept driveRegs [.pump, .router] s (s.floatLegs.goPump st) := (s.kept_floatLegs.mono).trans (kept_goPump _ _).mono
  have curve : (s.floatLegs.goPump st).get F.PUMP_STATUS_CURVE_OK = s.get F.PUMP_STATUS_CURVE_OK :=
    (get_goPump _ (by decide) _).trans (s.get_floatLegs (by decide) (by decide))
  exact runRequest_congr kept (by rw [curveOk, State.bit, curve]; rfl) (s.run_floatLegs_goPump st)

/-- No direction for 200 ms: the crossings are forgotten (R512). -/
def stoodStill (s : State) : State := (s.mapPump fun p => { p with crossings := [] }).showMeas

theorem kept_stoodStill : Kept [Reg.PUMP_SPEED] [.pump] s s.stoodStill := Kept.rfl.mapPump.setSat

theorem pump_stoodStill : s.stoodStill.pump = { s.pump with crossings := [] } := by
  unfold stoodStill showMeas
  rw [setSat, setInt, pump_set, pump_mapPump]

theorem elapsed_stoodStill : s.stoodStill.elapsed = s.elapsed := by
  unfold stoodStill showMeas
  rw [elapsed_setSat, elapsed_mapPump]

end State

/-- Settles O36: each command enters a state of the drive, whose settings, events and reach are known (R511 to R515, R520). -/
theorem pumpStartsAndCommutates : Obligations.PumpStartsAndCommutates := by
  refine ⟨?observeEnd, ?waitMax, ?standstill, ?alignTime, ?forced, ?commutation, ?restart⟩
  case observeEnd =>
    intro s t a v
    have now : s.advance t = a := rfl
    clear_value a
    intro observing free due
    have act : (decide (a.pState = ps.observe) && a.pump.locked.isNone && a.expired a.pump.entered 200000000) = true := by
      simp [observing, free, State.expired, due]
    have change : a.pState ≠ ps.align := by rw [observing]; decide
    have aligned : (s.settle a a.align).pState = ps.align ∧ (s.settle a a.align).pSector = (if a.pumpReverse then 6 else 1) ∧
        (s.settle a a.align).pump.sectorAt = a.elapsed ∧ Raised [(a.datum, 200, 0)] a (s.settle a a.align) ∧
        Kept [Reg.PUMP_STATUS, Reg.PUMP_SECTOR] [.pump, .router] a (s.settle a a.align) :=
      ⟨(State.get_settle ..).trans a.pState_align, (State.get_settle ..).trans a.pSector_align, State.sectorAt_align change,
        (State.raised_align change).settle, a.kept_align.settled now⟩
    have run := exec_observeEnd t s
    cases dir : a.rotorDir with
    | none => exact completes_at (x := a.align) run now ((if_pos act).trans (by simp only [dir])) ⟨fun _ => aligned, nofun, nofun⟩
    | some fwd =>
      by_cases ahead : fwd = !a.pumpReverse
      · have not_back : ¬ some fwd = some a.pumpReverse := by rw [ahead]; cases a.pumpReverse <;> decide
        by_cases fast : (a.pc16 0x1C : Rat) ≤ v
        · obtain ⟨y, hy⟩ : ∃ y, y = a.caught := ⟨_, rfl⟩
          refine completes_at (x := y.enterRun) run now ((if_pos act).trans ?_) ⟨?_, fun _ _ => ?_, (absurd · not_back)⟩
          · simp only [dir]
            rw [if_pos (beq_iff_eq.2 ahead), if_pos fast, hy]
            rfl
          · rintro (none | ⟨-, slow⟩ | ⟨back, -⟩)
            · exact absurd none nofun
            · exact absurd fast (not_le.2 slow)
            · exact absurd back not_back
          · have kept : Kept [Reg.PUMP_CATCHES] [.pump, .router] a y := hy ▸ a.kept_caught
            have pump := a.pump_caught
            have time := a.elapsed_caught
            have catches := a.catches_caught
            have router := a.router_caught
            rw [← hy] at pump time catches router
            have here : y.pState ≠ ps.run := by rw [State.pState, kept.get, ← State.pState, observing]; decide
            obtain ⟨out, started⟩ := State.pump_enterRun here
            obtain ⟨l, told⟩ := State.raises_enterRun here
            have retry : y.pump.retry = a.pump.retry := by rw [pump]
            have catchesLater : y.enterRun.get F.PUMP_CATCHES_COUNT = y.get F.PUMP_CATCHES_COUNT := by
              exact y.catches_enterRun
            refine ⟨(State.get_settle ..).trans y.pState_enterRun, ?_, ?_, ?_, ?_, ?_, ?_, fun again => ?_, ⟨l, ?_⟩, ?_⟩
            · rw [State.pump_settle, started, pump]
            · rw [State.pump_settle, started, time]
            · rw [State.pump_settle, started, pump]
            · rw [State.pump_settle, started, pump]
            · rw [State.get_settle, catchesLater, catches]
            · rw [State.get_settle, State.starts_enterRun, kept.get]
            · rw [State.get_settle, State.transient_enterRun here (by rw [retry]; exact again), kept.get]
            · rw [State.router_settle, told, router, show y.datum = a.datum from kept.2 .datum (by decide)]
              simp
            · exact ((kept.mono (List.cons_subset.2 ⟨mem_pumpRegs_pump, List.nil_subset _⟩) (by decide)).trans y.kept_enterRun).settled now
        · refine completes_at (x := a.align) run now ((if_pos act).trans ?_) ⟨fun _ => aligned, fun _ h => absurd h fast, (absurd · not_back)⟩
          simp only [dir]
          rw [if_pos (beq_iff_eq.2 ahead), if_neg fast]
      · have back : fwd = a.pumpReverse := by revert ahead; cases fwd <;> cases a.pumpReverse <;> decide
        have not_ahead : ¬ some fwd = some (!a.pumpReverse) := fun h => ahead (Option.some.inj h)
        by_cases slow : v ≤ (a.pc16 0x14 : Rat)
        · refine completes_at (x := a.align) run now ((if_pos act).trans ?_)
            ⟨fun _ => aligned, fun h => absurd h not_ahead, fun _ fast => absurd slow (not_le.2 fast)⟩
          simp only [dir]
          rw [if_neg (by simpa using ahead), if_pos slow]
        · refine completes_at (x := (a.raise 204).goPump ps.wait) run now ((if_pos act).trans ?_) ⟨?_, fun h => absurd h not_ahead, fun _ _ => ?_⟩
          · simp only [dir]
            rw [if_neg (by simpa using ahead), if_neg slow]
          · rintro (none | ⟨ahead, -⟩ | ⟨-, h⟩)
            · exact absurd none nofun
            · exact absurd ahead not_ahead
            · exact absurd h slow
          · have told : Kept [] [.router] a (a.raise 204) := Kept.rfl.raise
            have here : (a.raise 204).pState ≠ ps.wait := by
              rw [State.pState, told.get (by simp), ← State.pState, observing]
              decide
            have time : (a.raise 204).datum = a.datum := told.2 .datum (by decide)
            have second : Raised [(a.datum, 200, 0)] (a.raise 204) ((a.raise 204).goPump ps.wait) := time ▸ State.raised_goPump here
            have first : Raised [(a.datum, 204, 0)] a (a.raise 204) := Kept.rfl.raised (parts := [])  (regs := [])
            exact ⟨(State.get_settle ..).trans (State.pState_goPump _ (by decide)), (first.append second).settle,
              ((told.mono (by simp) (by decide)).trans ((State.kept_goPump _ _).mono)).settled now⟩
  case waitMax =>
    intro s t a
    have now : s.advance t = a := rfl
    clear_value a
    intro waiting due
    have takes : a.pumpFaultIf 5 = a.pumpFaultAs 5 := if_pos (by rw [waiting]; decide)
    refine completes_at (x := a.pumpFaultAs 5) (exec_waitMax ..) now ((if_pos (by simp [waiting, State.expired, due])).trans takes) ⟨?_, ?_, ?_, ?_⟩
    · exact (State.get_settle ..).trans (a.pState_pumpFaultAs 5)
    · exact (State.get_settle ..).trans (a.fault_pumpFaultAs (by decide))
    · exact (a.kept_pumpFaultAs 5).settled now
    · exact State.told_pumpFaultAs (by rw [waiting]; decide) 5
  case standstill =>
    intro s t a
    have now : s.advance t = a := rfl
    clear_value a
    intro still due
    have act : (a.rotorDir.isNone && a.expired (max a.pump.entered a.pump.watchAt) 200000000) = true := by simp [still, State.expired, due]
    obtain ⟨y, hy⟩ : ∃ y, y = a.stoodStill := ⟨_, rfl⟩
    have kept : Kept [Reg.PUMP_SPEED] [.pump] a y := hy ▸ a.kept_stoodStill
    have reach : Kept pumpRegs pumpParts a y := kept.mono (List.cons_subset.2 ⟨mem_pumpRegs_pump, List.nil_subset _⟩) (by decide)
    have pump : y.pump = { a.pump with crossings := [] } := hy ▸ a.pump_stoodStill
    have state : y.pState = a.pState := kept.get
    have run := exec_rotorStandstill t s
    by_cases waiting : a.pState = ps.wait
    · refine completes_at (x := y.align) run now ((if_pos act).trans ((if_pos waiting).trans (by rw [hy]; rfl))) ⟨fun _ => ⟨?_, ?_⟩, ?_, ?_, ?_, ?_⟩
      · exact (State.get_settle ..).trans y.pState_align
      · refine (State.get_settle ..).trans (y.pSector_align.trans ?_)
        rw [State.firstSector, show y.pumpReverse = a.pumpReverse from kept.bit]
      · intro coast
        exact absurd (waiting.symm.trans coast) (by decide)
      · intro coast
        exact absurd (waiting.symm.trans coast) (by decide)
      · exact fun other => absurd waiting other
      · exact (reach.trans (y.kept_align.mono driveRegs_subset (by decide))).settled now
    by_cases coast : a.pState = ps.coast
    · have wanted : y.runWanted = a.runWanted := by
        rw [State.runWanted, kept.bit, kept.bit, kept.bit, show y.pump.run = a.pump.run by rw [pump], ← State.runWanted]
      cases want : a.runWanted with
      | false =>
        obtain ⟨z, hz⟩ : ∃ z, z = y.floatLegs.goPump ps.off := ⟨_, rfl⟩
        have toOff : Kept driveRegs [.pump, .router] y z := by
          rw [hz]
          exact (y.kept_floatLegs.mono).trans (State.kept_goPump _ _).mono
        have off : z.pState = ps.off := by rw [hz]; exact State.pState_goPump _ (by decide)
        have sector : z.pSector = 0 := by rw [hz]; exact (State.get_goPump _ (by decide) _).trans y.pSector_floatLegs
        refine completes_at (x := z.pumpReact) run now ((if_pos act).trans ((if_neg waiting).trans ((if_pos coast).trans ?_)))
          ⟨(absurd · waiting), fun _ _ free => ?_, ?_, fun _ h => absurd coast h, ?_⟩
        · rw [if_pos (by rw [want]; rfl), hz, hy]
          rfl
        · have frees : z.tableau = false := (toOff.bit.trans kept.bit).trans free
          have latched : z.guardLatched = a.guardLatched := (State.SameInputs.of_kept toOff).latched.trans (State.SameInputs.of_kept kept).latched
          have request : z.runRequest = a.runRequest := by
            rw [hz]
            exact y.runRequest_floatLegs_goPump.trans (State.runRequest_congr kept kept.bit (by rw [pump]))
          have fields (f : FieldRef) : (s.settle a z.pumpReact).get f = z.pumpReact.get f := State.get_settle ..
          rw [State.pState, State.pSector, fields, fields, fields, ← State.pState, ← State.pSector]
          rcases State.pumpReact_off frees off with ⟨stays, none, -⟩ | ⟨fault, none, code, latch⟩ | ⟨observe, none, -, req⟩
          · exact ⟨.inl stays, none.trans sector⟩
          · exact ⟨.inr (.inl ⟨fault, code, latched.symm.trans latch⟩), none⟩
          · exact ⟨.inr (.inr ⟨observe, request.symm.trans req⟩), none⟩
        · exact fun _ => nofun
        · exact ((reach.trans (toOff.mono driveRegs_subset (by decide))).trans (z.kept_pumpReact.mono reactRegs_subset fun _ h => h)).settled now
      | true =>
        refine completes_at (x := y.when (a.pump.coast != .bus && y.startOk) State.observe) run now
          ((if_pos act).trans ((if_neg waiting).trans ((if_pos coast).trans ?_))) ⟨(absurd · waiting), fun _ => nofun, fun _ _ bus start chop => ?_,
            fun _ h => absurd coast h, ?_⟩
        · rw [if_neg (by rw [want]; exact nofun), hy]
          rfl
        · have starts : y.startOk = true := by
            have vbus : y.busOk = a.busOk := by
              have tables : y.tables = a.tables := kept.2 .tables (by decide)
              rw [State.busOk, State.busOk, State.vbus8, State.vbus8, State.pcS, State.pcS, State.tblS16, State.tblS16, State.tbl16, State.tbl16,
                State.tbl8, State.tbl8, State.tbl8, State.tbl8, State.tableMem, State.tableMem, tables, pump]
            have noFault : y.bit F.PUMP_STATUS_CHOP_FAULT = false := kept.bit.trans chop
            rw [State.startOk, want, chop] at start
            rw [State.startOk, wanted, want, show y.curveOk = a.curveOk from kept.bit, (State.SameInputs.of_kept kept).latched, vbus, noFault]
            simpa using start
          rw [starts, bne_iff_ne.2 bus, Bool.and_true, State.when_true]
          exact ⟨(State.get_settle ..).trans y.pState_observe, by rw [State.pump_settle, y.pump_observe],
            by rw [State.pump_settle, y.pump_observe, hy, a.elapsed_stoodStill]⟩
        · exact (reach.when fun h => h.trans ((State.kept_observe _).mono driveRegs_subset (by decide))).settled now
    · exact completes_at (x := a) run now ((if_pos act).trans ((if_neg waiting).trans (if_neg coast)))
        ⟨(absurd · waiting), (absurd · coast), (absurd · coast), fun _ _ => Kept.rfl.settled now, Kept.rfl.settled now⟩
  case alignTime =>
    intro s t a
    have now : s.advance t = a := rfl
    clear_value a
    intro aligned due
    obtain ⟨y, hy⟩ : ∃ y, y = a.mapPump fun p => { p with forcedAt := a.elapsed, sectorAt := a.elapsed, good := 0 } := ⟨_, rfl⟩
    have kept : Kept [] [.pump] a y := hy ▸ Kept.rfl.mapPump
    have change : y.pState ≠ ps.ramp := by rw [State.pState, kept.get (by simp), ← State.pState, aligned]; decide
    have pump : y.pump = { a.pump with forcedAt := a.elapsed, sectorAt := a.elapsed, good := 0 } := by rw [hy, State.pump_mapPump]
    have told : Raised [(a.datum, 200, 0)] a (y.goPump ps.ramp) := by
      have goes := State.raised_goPump change
      rw [Raised] at *
      rw [goes, show y.router = a.router from kept.2 .router (by decide), show y.datum = a.datum from kept.2 .datum (by decide)]
    refine completes_at (x := y.goPump ps.ramp) (exec_alignTime ..) now ((if_pos (by simp [aligned, State.expired, due])).trans (by rw [hy]))
      ⟨(State.get_settle ..).trans (y.pState_goPump (by decide)), ?_, ?_, ?_, told.settle,
        ((kept.mono (by simp) (by decide)).trans (y.kept_goPump _)).settled now⟩
    all_goals rw [State.pump_settle, State.pump_goPump change, pump]
  case forced =>
    intro s t a n good
    have now : s.advance t = a := rfl
    clear_value a
    intro ramp none due
    obtain ⟨y, hy⟩ : ∃ y, y = (a.mapPump fun p => { p with good := good }).startOverlap n := ⟨_, rfl⟩
    have kept : Kept [] [.pump] a y := hy ▸ Kept.rfl.mapPump.mapPump
    have pump : y.pump = { a.pump with good := good, ovl := some (n, 0, a.pump.duty) } := by
      rw [hy, State.startOverlap, State.pump_mapPump, State.pump_mapPump]
    have act : (decide (a.pState = ps.ramp) && a.pump.ovl.isNone && decide (a.pump.sectorAt + a.forcedLen ≤ a.elapsed + n * a.tPwm / 2)) = true := by
      simp [ramp, none, due]
    have tables : y.tables = a.tables := kept.2 .tables (by decide)
    have time : y.elapsed = a.elapsed := by rw [hy, State.startOverlap, State.elapsed_mapPump, State.elapsed_mapPump]
    have item (off : Nat) : y.pc16 off = a.pc16 off := State.pc16_congr tables off
    have speed : y.forcedSpeed y.elapsed = a.forcedSpeed a.elapsed := by rw [State.forcedSpeed, State.forcedSpeed, item, item, pump, time]
    have run := exec_forcedCommutation t s
    by_cases enters : 6 ≤ good ∧ (a.pc16 0x1C : Rat) ≤ a.forcedSpeed a.elapsed
    · obtain ⟨z, hz⟩ : ∃ z, z = y.mapPump fun p => { p with integ := p.duty, ref := y.pc16 0x1C } := ⟨_, rfl⟩
      have keptz : Kept [] [.pump] y z := hz ▸ Kept.rfl.mapPump
      have pumpz : z.pump = { y.pump with integ := y.pump.duty, ref := y.pc16 0x1C } := by rw [hz, State.pump_mapPump]
      have timez : z.elapsed = y.elapsed := by rw [hz, State.elapsed_mapPump]
      have here : z.pState ≠ ps.run := by rw [State.pState, keptz.get (by simp), kept.get (by simp), ← State.pState, ramp]; decide
      obtain ⟨out, started⟩ := State.pump_enterRun here
      refine completes_at (x := z.enterRun) run now ((if_pos act).trans ?_) ⟨?_, ?_, ?_⟩
      · refine (if_pos ?_).trans (by rw [hz, hy])
        rw [← hy, speed, item]
        simpa using enters
      · rw [State.pump_settle, started, pumpz, pump]
      · rw [State.pump_settle, started, pumpz, pump]
      rw [if_pos enters]
      refine ⟨(State.get_settle ..).trans z.pState_enterRun, ?_, ?_, ?_, ?_, fun again => ?_, ?_⟩
      · rw [State.pump_settle, started, pumpz, pump]
      · rw [State.pump_settle, started, pumpz, item]
      · rw [State.pump_settle, started, timez, time]
      · rw [State.get_settle, State.starts_enterRun, keptz.get (by simp), kept.get (by simp)]
      · rw [State.get_settle, State.transient_enterRun here (by rw [pumpz, pump]; exact again), keptz.get (by simp), kept.get (by simp)]
      · exact (((kept.trans keptz).mono (List.nil_subset _) (by decide)).trans z.kept_enterRun).settled now
    · refine completes_at (x := y) run now ((if_pos act).trans ?_) ⟨by rw [State.pump_settle, pump], by rw [State.pump_settle, pump], ?_⟩
      · refine (if_neg ?_).trans hy.symm
        rw [← hy, speed, item]
        simpa using enters
      rw [if_neg enters]
      exact ⟨(State.get_settle ..).trans ((kept.get (by simp)).trans ramp), kept.settled now⟩
  case commutation =>
    intro s t a
    have now : s.advance t = a := rfl
    clear_value a
    have run := exec_commutation t s
    by_cases idle : a.pState ≠ ps.run ∨ a.tableau = true ∨ a.pump.ovl ≠ none
    · have stop : (decide (a.pState ≠ ps.run) || a.tableau || a.pump.ovl.isSome) = true := by
        simpa [Option.isSome_iff_ne_none, or_assoc] using idle
      refine completes_at (x := a) run now (if_pos stop) ⟨fun _ => Kept.rfl.settled now, fun c e _ _ state free none => ?_⟩
      rcases idle with h | h | h
      · exact absurd state h
      · exact absurd (free.symm.trans h) (by decide)
      · exact absurd none h
    · simp only [not_or, not_not, Bool.not_eq_true] at idle
      obtain ⟨state, free, none⟩ := idle
      have go : ¬ (decide (a.pState ≠ ps.run) || a.tableau || a.pump.ovl.isSome) = true := by simp [state, free, none]
      cases est : a.pump.tEst with
      | none =>
        have at_ : a.commutateAt = Option.none := by rw [State.commutateAt, est]
        refine completes_at (x := a) run now ((if_neg go).trans (by simp only [at_])) ⟨fun _ => Kept.rfl.settled now, nofun⟩
      | some e =>
        obtain ⟨c, at_⟩ : ∃ c, a.commutateAt = some c := ⟨_, by rw [State.commutateAt, est]⟩
        have busy {Q : Prop} : (a.pState ≠ ps.run ∨ a.tableau = true ∨ a.pump.ovl ≠ Option.none ∨ some e = Option.none) → Q := by
          rintro (h | h | h | h)
          · exact absurd state h
          · exact absurd (free.symm.trans h) (by decide)
          · exact absurd none h
          · exact absurd h nofun
        by_cases undriven : a.pSector = 0
        · cases last : a.pump.crossings.getLast? with
          | none =>
            refine completes_at (x := a) run now ((if_neg go).trans ?_) ⟨busy, fun _ _ _ _ _ _ _ =>
              ⟨fun h => absurd undriven h, fun h => absurd undriven h, nofun⟩⟩
            simp only [at_, est]
            rw [if_pos undriven, last]
          | some z =>
            by_cases due : c ≤ a.elapsed
            · refine completes_at (x := a.beginSector (nextSector a.pumpReverse (crossingSector a.pumpReverse z)) a.elapsed) run now
                ((if_neg go).trans ?_) ⟨busy, fun c' e' hc he _ _ _ => ?_⟩
              · simp only [at_, est]
                rw [if_pos undriven, last]
                exact if_pos due
              · refine ⟨fun h => absurd undriven h, fun h => absurd undriven h, fun z' hz _ _ => ?_⟩
                obtain rfl : z = z' := Option.some.inj hz
                exact ⟨(State.get_settle ..).trans (a.pSector_beginSector (nextSector_lt ..) _),
                  by rw [State.pump_settle, State.sectorAt_beginSector], (a.kept_beginSector _ _).settled now⟩
            · refine completes_at (x := a) run now ((if_neg go).trans ?_) ⟨busy, fun c' e' hc he _ _ _ => ?_⟩
              · simp only [at_, est]
                rw [if_pos undriven, last]
                exact if_neg due
              · obtain rfl : c = c' := Option.some.inj (at_.symm.trans hc)
                exact ⟨fun h => absurd undriven h, fun h => absurd undriven h, fun _ _ _ h => absurd h due⟩
        · by_cases due : c ≤ a.elapsed + a.overlapPeriods e * a.tPwm / 2
          · refine completes_at (x := a.startOverlap (a.overlapPeriods e)) run now ((if_neg go).trans ?_) ⟨busy, fun c' e' hc he _ _ _ => ?_⟩
            · simp only [at_, est]
              rw [if_neg undriven, if_pos due]
            · obtain rfl : c = c' := Option.some.inj (at_.symm.trans hc)
              obtain rfl : e = e' := Option.some.inj he
              exact ⟨fun _ _ => ⟨rfl, Kept.rfl.mapPump.settled now⟩, fun _ late => absurd due (not_le.2 late), fun z _ h => absurd h undriven⟩
          · refine completes_at (x := a) run now ((if_neg go).trans ?_) ⟨busy, fun c' e' hc he _ _ _ => ?_⟩
            · simp only [at_, est]
              rw [if_neg undriven, if_neg due]
            · obtain rfl : c = c' := Option.some.inj (at_.symm.trans hc)
              obtain rfl : e = e' := Option.some.inj he
              exact ⟨fun _ h => absurd h due, fun _ _ => Kept.rfl.settled now, fun z _ h => absurd h undriven⟩
  case restart =>
    intro s t a
    have now : s.advance t = a := rfl
    clear_value a
    intro observing due
    refine completes_at (x := a.observe.mapPump fun p => { p with locked := none, retry := true }) (exec_lockRestart ..) now
      (if_pos (by simp [observing, due])) ⟨?_, ?_, ?_, ?_, ?_⟩
    · exact (State.get_settle ..).trans (((Kept.rfl.mapPump : Kept [] [.pump] a.observe _).get (by simp)).trans a.pState_observe)
    · rw [State.pump_settle, State.pump_mapPump]
    · rw [State.pump_settle, State.pump_mapPump]
    · rw [State.pump_settle, State.pump_mapPump, State.pump_observe]
    · rw [State.observe_eq, State.goPump_same (a.pState_observed.trans observing)]
      exact a.kept_observed.mapPump.settled now

end Sys2Proof.Machine

/-! PROOFS. The pump drive's faults, the bus and the chopper (spec/12 R515 to R518, R523, R524). -/

namespace Sys2Proof.Machine

set_option Elab.async false

/-- One event raised, and more after it. -/
theorem Raised.first {stamp num inst : Nat} {a b c : State} (h : Raised [(stamp, num, inst)] a b) (h' : State.Raises b c) :
    ∃ l, c.router.inflight = a.router.inflight ++ ({ stamp := stamp, num := num, inst := inst } : Event) :: l := by
  obtain ⟨l, eq⟩ := h.more h'
  exact ⟨l, by simpa using eq⟩

namespace State

variable (s : State)

theorem vbus8_congr {a b : State} (pump : b.pump.vbus = a.pump.vbus) : b.vbus8 = a.vbus8 := by
  rw [vbus8, vbus8, pump]

/-- What each step of a loop leaves as it is, the loop does. -/
theorem each_eq {α β : Type} (read : State → α) {f : β → State → State} (h : ∀ i x, read (f i x) = read x) (l : List β) :
    read (s.each l f) = read s := by
  induction l generalizing s with
  | nil => rfl
  | cons i l ih => rw [each_cons, ih, h]

/-! Elapsed time stands -/

theorem elapsed_clampDwell : s.clampDwell.elapsed = s.elapsed :=
  each_eq s elapsed (fun _ _ => (when_eq elapsed _ (elapsed_raise ..)).trans ((elapsed_setIbit ..).trans (elapsed_set ..))) _

theorem elapsed_judgeDerate : s.judgeDerate.elapsed = s.elapsed := by
  unfold judgeDerate
  extract_lets old up new x
  split
  · rfl
  · exact (when_eq elapsed _ rfl).trans ((elapsed_raise ..).trans ((elapsed_clampDwell _).trans (elapsed_set ..)))

theorem elapsed_showPumpFlt (timeout : Bool) : (s.showPumpFlt timeout).elapsed = s.elapsed := by
  rw [showPumpFlt_eq]
  split
  · rfl
  · exact (elapsed_judgeDerate _).trans (elapsed_setBit ..)

theorem elapsed_floatLegs : s.floatLegs.elapsed = s.elapsed := by
  unfold floatLegs
  rw [elapsed_mapPump, elapsed_set, elapsed_set]

theorem elapsed_observe : s.observe.elapsed = s.elapsed := (elapsed_goPump ..).trans s.elapsed_floatLegs

theorem elapsed_pumpFaultAs (code : Nat) : (s.pumpFaultAs code).elapsed = s.elapsed := by
  rw [pumpFaultAs_eq, elapsed_showPumpFlt, faultTold]
  refine (when_eq elapsed _ rfl).trans ?_
  rw [elapsed_raise, elapsed_goPump, faulted, elapsed_set, elapsed_mapPump, elapsed_floatLegs]

theorem elapsed_pumpFaultIf (code : Nat) : (s.pumpFaultIf code).elapsed = s.elapsed := by
  unfold pumpFaultIf
  split
  · exact s.elapsed_pumpFaultAs code
  · rfl

/-! The chopper (R517) -/

theorem expired_iff (t0 d : Nat) : s.expired t0 d = true ↔ t0 + d ≤ s.elapsed := decide_eq_true_iff

/-- A verdict whose wait is not over, or none. -/
theorem judgeRise_waits {s : State} {m : Int} (h : ∀ tv vf, s.pump.verdict = some (tv, vf) → s.elapsed < tv + s.pc16 0x28 * 1000) :
    s.judgeRise m = s := by
  unfold judgeRise
  cases verdict : s.pump.verdict with
  | none => rfl
  | some v =>
    obtain ⟨tv, vf⟩ := v
    have late := h tv vf verdict
    dsimp only
    rw [if_neg (by rw [expired_iff]; exact not_le.2 late)]

/-- A verdict whose wait is over is done with; a bus that has risen is FAULT 4. -/
theorem judgeRise_passed {s : State} {m : Int} {tv : Nat} {vf : Int} (verdict : s.pump.verdict = some (tv, vf))
    (passed : tv + s.pc16 0x28 * 1000 ≤ s.elapsed) :
    s.judgeRise m = (s.mapPump fun p => { p with verdict := none }).when (vf < m) (pumpFaultIf 4) := by
  unfold judgeRise
  rw [verdict]
  exact if_pos ((expired_iff _ _ _).2 passed)

theorem kept_judgeRise (m : Int) : Kept pumpRegs pumpParts s (s.judgeRise m) := by
  unfold judgeRise
  split
  · exact Kept.rfl
  · exact Kept.ite (Kept.rfl.mapPump.when fun h => h.trans ((kept_pumpFaultIf _ _).mono reactRegs_subset fun _ h => h)) Kept.rfl

/-- An activation whose wait is not over, or none. -/
theorem judgeChop_waits {s : State} {m : Int} (h : ∀ ta va, s.pump.act = some (ta, va) → s.elapsed < ta + s.pc16 0x28 * 1000) :
    s.judgeChop m = s := by
  unfold judgeChop
  cases act : s.pump.act with
  | none => rfl
  | some v =>
    obtain ⟨ta, va⟩ := v
    have late := h ta va act
    dsimp only
    rw [if_neg (by rw [expired_iff]; exact not_le.2 late)]

/-- An activation whose wait is over is done with. -/
def actDone (s : State) : State := s.mapPump fun p => { p with act := none }

theorem kept_actDone : Kept [] [.pump] s s.actDone := Kept.rfl.mapPump

theorem pump_actDone : s.actDone.pump = { s.pump with act := none } := by rw [actDone, pump_mapPump]

/-- A chopper that does not hold the bus (R517). -/
def chopFailed (m : Int) (s : State) : State :=
  ((s.setBit F.PUMP_STATUS_CHOP_FAULT true).raise 203).mapPump fun p => { p with verdict := some (s.elapsed, m) }

theorem kept_chopFailed (m : Int) : Kept [Reg.PUMP_STATUS, Reg.SCRUB_FAULT_SEEN] [.pump, .router] s (s.chopFailed m) :=
  Kept.rfl.setBit.raiseFault.mapPump

theorem pump_chopFailed (m : Int) : (s.chopFailed m).pump = { s.pump with verdict := some (s.elapsed, m) } := by
  rw [chopFailed, pump_mapPump, pump_raise, pump_setBit]

theorem get_chopFailed {f : FieldRef} (chop : apart F.PUMP_STATUS_CHOP_FAULT f = true) (seen : apart F.SCRUB_FAULT_SEEN_SEEN f = true) (m : Int) :
    (s.chopFailed m).get f = s.get f := by
  refine ((Kept.rfl.mapPump : Kept [] [.pump] ((s.setBit F.PUMP_STATUS_CHOP_FAULT true).raise 203) (s.chopFailed m)).get (by simp)).trans ?_
  exact (get_raise_apart _ seen).trans (get_setBit_apart _ chop)

theorem fault_chopFailed (m : Int) : (s.chopFailed m).bit F.PUMP_STATUS_CHOP_FAULT = true := by
  refine ((Kept.rfl.mapPump : Kept [] [.pump] ((s.setBit F.PUMP_STATUS_CHOP_FAULT true).raise 203) (s.chopFailed m)).bit (by simp)).trans ?_
  exact (bit_raise_apart _ (by decide)).trans (bit_setBit_same _ (by decide) rfl)

theorem router_chopFailed (m : Int) : (s.chopFailed m).router =
    { s.router with inflight := s.router.inflight ++ [{ stamp := s.datum, num := 203 }] } := by
  rw [chopFailed, router_mapPump, router_raise, router_setBit, datum_setBit]

theorem judgeChop_passed {s : State} {m : Int} {ta : Nat} {va : Int} (act : s.pump.act = some (ta, va))
    (passed : ta + s.pc16 0x28 * 1000 ≤ s.elapsed) : s.judgeChop m =
      if s.actDone.bit F.PUMP_STATUS_CHOP_ACTIVE && va ≤ m then
        (s.actDone.chopFailed m).when (ps.observe ≤ (s.actDone.chopFailed m).pState && (s.actDone.chopFailed m).pState ≤ ps.run) (coastFor .chopper)
      else s.actDone := by
  unfold judgeChop
  rw [act]
  exact if_pos ((expired_iff _ _ _).2 passed)

theorem kept_judgeChop (m : Int) : Kept pumpRegs pumpParts s (s.judgeChop m) := by
  have failed : Kept pumpRegs pumpParts s.actDone (s.actDone.chopFailed m) := (s.actDone.kept_chopFailed m).mono
    (by
      simp only [List.cons_subset, List.nil_subset, and_true]
      exact ⟨mem_pumpRegs_pump, mem_pumpRegs_seen⟩)
  have done : Kept pumpRegs pumpParts s s.actDone := s.kept_actDone.mono (List.nil_subset _)
  cases act : s.pump.act with
  | none =>
    rw [judgeChop_waits (by rw [act]; exact nofun)]
    exact Kept.rfl
  | some v =>
    obtain ⟨ta, va⟩ := v
    by_cases passed : ta + s.pc16 0x28 * 1000 ≤ s.elapsed
    · rw [judgeChop_passed act passed]
      exact Kept.ite (Kept.when (done.trans failed) fun h => h.trans ((kept_coastFor _ _).mono driveRegs_subset)) done
    · rw [judgeChop_waits fun ta' va' h => by
        obtain ⟨rfl, rfl⟩ := Prod.mk.inj (Option.some.inj (act.symm.trans h))
        omega]
      exact Kept.rfl

/-- What a mean of the bus that holds does: nothing but the end of the activation. -/
theorem judgeChop_held {s : State} {m : Int} {ta : Nat} {va : Int} (act : s.pump.act = some (ta, va))
    (passed : ta + s.pc16 0x28 * 1000 ≤ s.elapsed) (held : s.bit F.PUMP_STATUS_CHOP_ACTIVE = false ∨ m < va) : s.judgeChop m = s.actDone := by
  rw [judgeChop_passed act passed, if_neg]
  rw [s.kept_actDone.bit (by simp)]
  rcases held with idle | lower
  · simp [idle]
  · simp [not_le.2 lower]

/-- What a chopper that does not hold the bus leads to. -/
theorem judgeChop_failed {s : State} {m : Int} {ta : Nat} {va : Int} (act : s.pump.act = some (ta, va))
    (passed : ta + s.pc16 0x28 * 1000 ≤ s.elapsed) (active : s.bit F.PUMP_STATUS_CHOP_ACTIVE = true) (rises : va ≤ m) :
    s.judgeChop m = (s.actDone.chopFailed m).when (ps.observe ≤ s.pState && s.pState ≤ ps.run) (coastFor .chopper) := by
  have state : (s.actDone.chopFailed m).pState = s.pState := (get_chopFailed _ (by decide) (by decide) m).trans (s.kept_actDone.get (by simp))
  rw [judgeChop_passed act passed, if_pos, state]
  rw [s.kept_actDone.bit (by simp)]
  simp [active, rises]

/-- The end of an activation, whatever is judged besides. -/
theorem act_judgeChop {s : State} {m : Int} {ta : Nat} {va : Int} (act : s.pump.act = some (ta, va))
    (passed : ta + s.pc16 0x28 * 1000 ≤ s.elapsed) : (s.judgeChop m).pump.act = none := by
  rw [judgeChop_passed act passed]
  split
  · refine (when_eq (fun x => x.pump.act) _ ?_).trans (by rw [pump_chopFailed, pump_actDone])
    obtain ⟨at_, coast⟩ := pump_coastFor (s.actDone.chopFailed m) .chopper
    simp only [coast]
  · rw [pump_actDone]

/-- A rising bus leaves the activation as it is. -/
theorem act_judgeRise (m : Int) : (s.judgeRise m).pump.act = s.pump.act := by
  unfold judgeRise
  split
  · rfl
  next v eq =>
  split
  · refine (when_eq (fun x => x.pump.act) _ ?_).trans (by rw [pump_mapPump])
    unfold pumpFaultIf
    split
    · obtain ⟨at_, out, fault⟩ := pump_pumpFaultAs (s.mapPump fun p => { p with verdict := none }) (code := 4) (by decide)
      simp only [fault]
    · rfl
  · rfl

theorem elapsed_judgeRise (m : Int) : (s.judgeRise m).elapsed = s.elapsed := by
  unfold judgeRise
  split
  · rfl
  next v eq =>
  split
  · exact (when_eq elapsed _ (elapsed_pumpFaultIf ..)).trans (elapsed_mapPump ..)
  · rfl

end State

/-- Settles O37, event by event. -/
theorem pumpFaultsAndBus : Obligations.PumpFaultsAndBus := by
  unfold Obligations.PumpFaultsAndBus
  refine ⟨?chop, ?low, ?recovered, ?input, ?flt, ?locked⟩
  case chop =>
    intro s t m a
    have now : s.advance t = a := rfl
    clear_value a
    intro free vbus
    refine completes_at (x := (a.judgeRise m).judgeChop m) (exec_chopCheck t s) now ?_ ⟨?_, ?_, ?_, ?_⟩
    · refine (if_neg (by simp [free])).trans ?_
      rw [vbus]
    · exact ((a.kept_judgeRise m).trans (State.kept_judgeChop _ m)).settled now
    · intro ta va act passed
      have item : (a.judgeRise m).pc16 0x28 = a.pc16 0x28 := State.pc16_congr ((a.kept_judgeRise m).2 .tables (by decide)) _
      have act' : (a.judgeRise m).pump.act = some (ta, va) := (a.act_judgeRise m).trans act
      have passed' : ta + (a.judgeRise m).pc16 0x28 * 1000 ≤ (a.judgeRise m).elapsed := by rwa [item, a.elapsed_judgeRise]
      refine ⟨by rw [State.pump_settle, State.act_judgeChop act' passed'], fun active rises none => ?_, fun held none => ?_⟩
      · rw [State.judgeRise_waits (by rw [none]; exact nofun), State.judgeChop_failed act passed active rises]
        obtain ⟨y, hy⟩ : ∃ y, y = a.actDone.chopFailed m := ⟨_, rfl⟩
        have failed : y.bit F.PUMP_STATUS_CHOP_FAULT = true := hy ▸ State.fault_chopFailed _ m
        have told : Raised [(a.datum, 203, 0)] a y := by rw [hy, Raised, State.router_chopFailed]; rfl
        have pump : y.pump.verdict = some (a.elapsed, m) := by rw [hy, State.pump_chopFailed]; rfl
        rw [← hy]
        refine ⟨?_, ?_, fun low high => ?_, ?_⟩
        · rw [State.bit_settle]
          exact (State.when_eq (fun x => x.bit F.PUMP_STATUS_CHOP_FAULT) _ (congrArg (· != 0) (y.get_coastFor (by decide) (by decide) (by decide) _))).trans failed
        · rw [State.pump_settle]
          refine (State.when_eq (fun x => x.pump.verdict) _ ?_).trans pump
          obtain ⟨at_, coast⟩ := y.pump_coastFor .chopper
          simp only [coast]
        · have inside : (decide (ps.observe ≤ a.pState) && decide (a.pState ≤ ps.run)) = true := by simp [low, high]
          rw [inside, State.when_true]
          obtain ⟨at_, coast⟩ := y.pump_coastFor .chopper
          exact ⟨(State.get_settle ..).trans (y.pState_coastFor _), by rw [State.pump_settle, coast],
            (State.get_settle ..).trans (y.pSector_coastFor _)⟩
        · rw [State.router_settle]
          exact told.first (State.Raises.when State.Raises.rfl fun h => h.trans (State.raises_coastFor _ _))
      · rw [State.judgeRise_waits (by rw [none]; exact nofun), State.judgeChop_held act passed held]
        exact a.kept_actDone.settled now
    · intro ta va act late none
      rw [State.judgeRise_waits (by rw [none]; exact nofun), State.judgeChop_waits (by rw [act]; rintro _ _ ⟨⟩; exact late)]
      exact Kept.rfl.settled now
    · intro tv vf verdict none
      have stays : (a.judgeRise m).judgeChop m = a.judgeRise m := State.judgeChop_waits (by rw [a.act_judgeRise, none]; exact nofun)
      rw [stays]
      refine ⟨fun passed => ?_, fun late => ?_⟩
      · rw [State.judgeRise_passed verdict passed]
        obtain ⟨y, hy⟩ : ∃ y, y = a.mapPump fun p => { p with verdict := Option.none } := ⟨_, rfl⟩
        have kept : Kept [] [.pump] a y := hy ▸ Kept.rfl.mapPump
        have done : y.pump.verdict = Option.none := by rw [hy, State.pump_mapPump]
        have state : y.pState = a.pState := kept.get (by simp)
        rw [← hy]
        refine ⟨?_, fun rises low => ?_, fun stands => ?_⟩
        · rw [State.pump_settle]
          refine (State.when_eq (fun x => x.pump.verdict) _ ?_).trans done
          rw [State.pumpFaultIf]
          split
          · obtain ⟨at_, out, fault⟩ := y.pump_pumpFaultAs (code := 4) (by decide)
            simp only [fault, done]
          · rfl
        · rw [decide_eq_true rises, State.when_true, State.pumpFaultIf, if_pos (state ▸ low)]
          exact ⟨(State.get_settle ..).trans (y.pState_pumpFaultAs 4), (State.get_settle ..).trans (y.fault_pumpFaultAs (by decide)),
            (State.get_settle ..).trans (y.pSector_pumpFaultAs 4)⟩
        · rw [decide_eq_false (not_lt.2 stands), State.when_false]
          exact kept.settled now
      · rw [State.judgeRise_waits (by rw [verdict]; rintro _ _ ⟨⟩; exact late)]
        exact Kept.rfl.settled now
  case low =>
    intro s t a
    have now : s.advance t = a := rfl
    clear_value a
    intro run due
    have coast : a.pState ≠ ps.coast := by rw [run]; decide
    obtain ⟨at_, pump⟩ := a.pump_coastFor .bus
    have time : (a.coastFor .bus).datum = a.datum := (a.kept_coastFor .bus).2 .datum (by decide)
    have again : Raised [(a.datum, 207, 0)] (a.coastFor .bus) ((a.coastFor .bus).raise 207) :=
      time ▸ (Kept.rfl : Kept [] [] _ (a.coastFor .bus)).raised
    refine completes_at (x := (a.coastFor .bus).raise 207) (exec_busLow t s) now (if_pos (by simp [run, due])) ⟨?_, ?_, ?_, ?_, ?_⟩
    · exact (State.get_settle ..).trans ((State.get_raise_apart _ (by decide)).trans (a.pState_coastFor .bus))
    · rw [State.pump_settle, State.pump_raise, pump]
    · exact (State.get_settle ..).trans ((State.get_raise_apart _ (by decide)).trans (a.pSector_coastFor .bus))
    · exact ((State.raised_coastFor coast .bus).append again).settle
    · exact ((a.kept_coastFor .bus).mono.raise).settled now
  case recovered =>
    intro s t a
    have now : s.advance t = a := rfl
    clear_value a
    intro coast bus due ok
    have other : a.pState ≠ ps.observe := by rw [coast]; decide
    refine completes_at (x := a.observe) (exec_busRecovered t s) now (if_pos (by simp [coast, bus, due, ok])) ⟨?_, ?_, ?_, ?_, ?_⟩
    · exact (State.get_settle ..).trans a.pState_observe
    · rw [State.pump_settle, State.pump_observe]
    · rw [State.pump_settle, State.pump_observe]
    · exact (State.raised_observe other).settle
    · exact a.kept_observe.settled now
  case input =>
    intro s t a
    have now : s.advance t = a := rfl
    clear_value a
    intro miss free
    refine completes_at (x := a.pumpFaultIf 6) (exec_pumpInputTimeout t s) now (if_pos (by simpa [free] using miss)) ⟨fun low => ?_, fun high => ?_⟩
    · have other : a.pState ≠ ps.fault := fun h => absurd (h ▸ low) (by decide)
      rw [State.pumpFaultIf, if_pos low]
      refine ⟨(State.get_settle ..).trans (a.pState_pumpFaultAs 6), (State.get_settle ..).trans (a.fault_pumpFaultAs (by decide)),
        (State.bit_settle ..).trans a.active_pumpFaultAs, (State.get_settle ..).trans (a.pSector_pumpFaultAs 6),
        (a.kept_pumpFaultAs 6).settled now, ?_⟩
      rw [State.router_settle]
      exact State.told_pumpFaultAs other 6
    · rw [State.pumpFaultIf, if_neg (not_le.2 high)]
      exact Kept.rfl.settled now
  case flt =>
    intro s t a out
    have now : s.advance t = a := rfl
    clear_value a
    intro free
    refine completes_at (x := a.showPumpFlt true) (exec_pumpFltTimeout t s) now (if_neg (by simp [free])) ⟨?_, ?_, ?_⟩
    · exact (State.get_settle ..).trans (a.get_showPumpFlt (by decide) (by decide) true)
    · exact ((a.kept_showPumpFlt true).mono State.driveRegs_flt).settled now
    · rw [State.bit_settle, State.flt_showPumpFlt, State.pumpFltNow]
      have since : a.due a.outSince 10000000000 =
          ((a.bit F.PUMP_CTRL_EN && a.pump.run && a.pState != ps.run) && a.due a.pump.outSince 10000000000) := by
        rw [State.outSince]
        split
        next out =>
          rw [out, Bool.true_and]
          cases a.pump.outSince with
          | none => exact decide_eq_false (by simp)
          | some _ => rfl
        next inside => rw [Bool.not_eq_true _ |>.mp inside]; rfl
      rw [since]
      simp [out]
  case locked =>
    intro s t a lock last on
    have now : s.advance t = a := rfl
    intro free
    let model := decide (a.pState = ps.ramp) && (decide ((a.pc16 0x1C : Rat) ≤ a.forcedSpeed (a.elapsed - lock)) &&
      decide (a.pump.forcedAt + lock ≤ a.elapsed)) || decide (a.pState = ps.run) && a.expired (max a.pump.runAt (match a.pump.crossings.getLast? with
      | some c => c.time
      | none => 0)) lock
    have same : model = on := by
      have at_ : max a.pump.runAt (match a.pump.crossings.getLast? with
          | some c => c.time
          | none => 0) = last := by
        dsimp only [last]
        cases a.pump.crossings.getLast? with
        | none => exact max_eq_left (Nat.zero_le _)
        | some c => rfl
      dsimp only [model, on]
      rw [at_, State.expired, Bool.or_comm, Bool.and_comm (decide ((a.pc16 0x1C : Rat) ≤ _)), Bool.and_assoc]
    obtain ⟨y, hy⟩ : ∃ y, y = (a.count F.PUMP_LOCKS_COUNT).raise 202 := ⟨_, rfl⟩
    have kept : Kept [Reg.PUMP_LOCKS, Reg.SCRUB_FAULT_SEEN] [.router] a y := hy ▸ Kept.rfl.count.raiseFault
    have told : Raised [(a.datum, 202, 0)] a y := hy ▸ (Kept.rfl.count : Kept [Reg.PUMP_LOCKS] [] a (a.count F.PUMP_LOCKS_COUNT)).raised
    have locks : y.get F.PUMP_LOCKS_COUNT = min (a.get F.PUMP_LOCKS_COUNT + 1) 0xFFFFFFFF := by
      rw [hy]
      exact (State.get_raise_apart _ (by decide)).trans (a.get_count_same (by decide))
    have pump : y.pump = a.pump := kept.2 .pump (by decide)
    have time : y.elapsed = a.elapsed := by rw [hy, State.elapsed_raise, State.elapsed_count]
    have run := exec_lockedRotor t s
    by_cases locks' : on = true
    · have keptAll : Kept pumpRegs pumpParts a y := kept.mono (List.cons_subset.2 ⟨mem_pumpRegs_pump, List.cons_subset.2
        ⟨mem_pumpRegs_seen, List.nil_subset _⟩⟩)
      cases again : a.pump.retry with
      | true =>
        refine completes_at (x := y.pumpFaultAs 2) run now ((if_neg (by simp [free])).trans ((if_pos (same.trans locks')).trans ?_))
          ⟨fun off => absurd (locks'.symm.trans off) (by decide), fun _ => ⟨?_, ?_, ?_, ?_, nofun, ?_⟩⟩
        · rw [← hy]
          exact if_pos (by rw [pump, again])
        · exact (State.get_settle ..).trans (((y.kept_pumpFaultAs_react 2).get (by decide)).trans locks)
        · exact (State.get_settle ..).trans (y.pSector_pumpFaultAs 2)
        · exact (keptAll.trans (y.kept_pumpFaultAs 2)).settled now
        · exact fun _ => ⟨(State.get_settle ..).trans (y.pState_pumpFaultAs 2), (State.get_settle ..).trans (y.fault_pumpFaultAs (by decide))⟩
        · rw [State.router_settle]
          exact told.first (y.raises_pumpFaultAs 2)
      | false =>
        obtain ⟨z, hz⟩ : ∃ z, z = y.observe.mapPump fun p => { p with locked := some y.elapsed } := ⟨_, rfl⟩
        have keptz : Kept driveRegs [.pump, .router] y z := hz ▸ y.kept_observe.mapPump
        have step : Kept [] [.pump] y.observe z := hz ▸ Kept.rfl.mapPump
        have lockedz : z.pump.locked = some a.elapsed := by rw [hz, State.pump_mapPump, time]
        refine completes_at (x := z.showPumpFlt false) run now ((if_neg (by simp [free])).trans ((if_pos (same.trans locks')).trans ?_))
          ⟨fun off => absurd (locks'.symm.trans off) (by decide), fun _ => ⟨?_, ?_, ?_, nofun, ?_, ?_⟩⟩
        · rw [← hy, hz]
          have fresh : ¬ y.pump.retry = true := by rw [pump, again]; exact Bool.false_ne_true
          exact if_neg fresh
        · exact (State.get_settle ..).trans ((z.get_showPumpFlt (by decide) (by decide) false).trans ((keptz.get (by decide)).trans locks))
        · exact (State.get_settle ..).trans ((z.get_showPumpFlt (by decide) (by decide) false).trans ((step.get (by simp)).trans y.pSector_observe))
        · exact ((keptAll.trans (keptz.mono driveRegs_subset)).trans ((z.kept_showPumpFlt false).mono State.driveRegs_flt)).settled now
        · refine fun _ => ⟨(State.get_settle ..).trans ((z.get_showPumpFlt (by decide) (by decide) false).trans
            ((step.get (by simp)).trans y.pState_observe)), ?_⟩
          rw [State.pump_settle, State.pump_showPumpFlt, lockedz]
        · rw [State.router_settle]
          exact told.first ((y.raises_observe.of_router (step.2 .router (by decide))).trans (z.raises_showPumpFlt false))
    · refine completes_at (x := a) run now ((if_neg (by simp [free])).trans (if_neg (by rw [← same] at locks'; exact locks')))
        ⟨fun _ => Kept.rfl.settled now, fun h => absurd h locks'⟩

end Sys2Proof.Machine

/-! PROOFS. Host writes of registers, field by field (spec/00 R3 to R5): what `writeByAccess` leaves in each field of a register. -/

namespace Sys2Proof.Machine

set_option Elab.async false

theorem bitsOf_one (x i : Nat) : (bitsOf x i 1 != 0) = x.testBit i := by
  have small := bitsOf_lt x i 1
  have bit := testBit_bitsOf x i 1 0
  simp only [zero_lt_one, decide_true, Bool.true_and, zero_add] at bit
  rw [← bit]
  interval_cases bitsOf x i 1 <;> rfl

/-- Two fields of a register share no bit. -/
def FieldRow.apart (f g : FieldRow) : Bool := f.lo + f.w ≤ g.lo || g.lo + g.w ≤ f.lo

/-- A register's fields share no bit and lie in its 32. -/
def RegRow.tidy (r : RegRow) : Bool := decide (r.fields.Pairwise fun f g => f.apart g = true) && r.fields.all fun f => f.lo + f.w ≤ 32

theorem tidy_blockTable : (blockTable.all fun b => b.rows.all RegRow.tidy) = true := by decide +kernel

/-- Every register's fields share no bit and lie in its 32 (R689). -/
theorem tidy_of_regRow {a : Nat} {row : RegRow} (h : regRow a = some row) :
    row.fields.Pairwise (fun f g => f.apart g = true) ∧ ∀ f ∈ row.fields, f.lo + f.w ≤ 32 := by
  unfold regRow at h
  split at h
  · cases h
  next b block =>
    have all := tidy_blockTable
    simp only [List.all_eq_true] at all
    have tidy := all b (List.mem_of_find?_eq_some block) row (List.mem_of_find?_eq_some h)
    simpa [RegRow.tidy] using tidy

/-- A field written by its access type (R4, R5). -/
def FieldRow.written (data setNow old : Nat) (f : FieldRow) : Nat :=
  match f.access with
  | .rw => bitsOf data f.lo f.w
  | .w1c => Nat.land (bitsOf old f.lo f.w) (Nat.lor (2 ^ f.w - 1 - bitsOf data f.lo f.w) (bitsOf setNow f.lo f.w))
  | .ro | .wo => bitsOf old f.lo f.w

theorem bitsOf_writeField_same (data setNow old : Nat) (f : FieldRow) :
    bitsOf (writeField data setNow old f) f.lo f.w = f.written data setNow old := by
  unfold writeField FieldRow.written
  have small {v : Nat} (h : v < 2 ^ f.w) : bitsOf (putBits old f.lo f.w v) f.lo f.w = v := by
    rw [bitsOf_putBits, Nat.mod_eq_of_lt h]
  cases f.access with
  | rw => exact small (bitsOf_lt ..)
  | w1c => exact small (lt_of_le_of_lt Nat.and_le_left (bitsOf_lt ..))
  | ro | wo => rfl

theorem bitsOf_writeField_apart (data setNow old : Nat) {f g : FieldRow} (h : g.apart f = true) :
    bitsOf (writeField data setNow old g) f.lo f.w = bitsOf old f.lo f.w := by
  have disjoint : f.lo + f.w ≤ g.lo ∨ g.lo + g.w ≤ f.lo := by simpa [FieldRow.apart, or_comm] using h
  unfold writeField
  cases g.access with
  | rw | w1c => exact bitsOf_putBits_of_disjoint disjoint
  | ro | wo => rfl

/-- Fields apart from one leave it as it is. -/
theorem bitsOf_foldl_writeField_apart (data setNow old : Nat) {f : FieldRow} {l : List FieldRow} (h : ∀ g ∈ l, g.apart f = true) :
    bitsOf (l.foldl (writeField data setNow) old) f.lo f.w = bitsOf old f.lo f.w := by
  induction l generalizing old with
  | nil => rfl
  | cons g l ih =>
    rw [List.foldl_cons, ih _ fun x hx => h x (List.mem_cons_of_mem _ hx)]
    exact bitsOf_writeField_apart _ _ _ (h g (List.mem_cons_self ..))

theorem FieldRow.apart_comm {f g : FieldRow} (h : f.apart g = true) : g.apart f = true := by
  simpa [FieldRow.apart, or_comm] using h

/-- Of a register written, every field is as its access type has it. -/
theorem bitsOf_writtenValue (data setNow : Nat) {row : RegRow} (apart : row.fields.Pairwise fun f g => f.apart g = true)
    {f : FieldRow} (hf : f ∈ row.fields) (old : Nat) :
    bitsOf (writtenValue row old data setNow) f.lo f.w = f.written data setNow old := by
  unfold writtenValue
  generalize row.fields = l at apart hf
  induction l generalizing old with
  | nil => cases hf
  | cons g l ih =>
    obtain ⟨first, rest⟩ := List.pairwise_cons.1 apart
    rw [List.foldl_cons]
    rcases List.mem_cons.1 hf with rfl | later
    · rw [bitsOf_foldl_writeField_apart _ _ _ fun x hx => FieldRow.apart_comm (first x hx), bitsOf_writeField_same]
    · have stays := bitsOf_writeField_apart data setNow old (first f later)
      rw [ih _ rest later]
      unfold FieldRow.written
      rw [stays]

namespace State

variable (s : State)

/-- A host write of a register, field by field. -/
theorem field_writeByAccess {a : Nat} {row : RegRow} (h : regRow a = some row) {f : FieldRow} (hf : f ∈ row.fields) (data : Word) :
    bitsOf ((s.writeByAccess a data).reg a).toNat f.lo f.w = f.written data.toNat (s.setNow a) (s.reg a).toNat := by
  obtain ⟨apart, inside⟩ := tidy_of_regRow h
  unfold writeByAccess
  rw [h]
  dsimp only
  rw [reg_setReg, if_pos rfl, BitVec.toNat_ofNat, bitsOf_mod (inside f hf), bitsOf_writtenValue _ _ apart hf]

end State

/-- A field of the register at its address with this access type. -/
def FieldRef.hasAccess (f : FieldRef) (acc : Access) : Bool :=
  (regRow f.addr).any fun row => row.fields.any fun g => g.lo == f.lo && g.w == f.w && g.access == acc

namespace State

variable (s : State)

theorem get_writeByAccess {f : FieldRef} {acc : Access} (h : f.hasAccess acc = true) (data : Word) : ∃ g : FieldRow,
    g.lo = f.lo ∧ g.w = f.w ∧ g.access = acc ∧
    (s.writeByAccess f.addr data).get f = g.written data.toNat (s.setNow f.addr) (s.reg f.addr).toNat := by
  obtain ⟨row, row_eq, any⟩ := (Option.any_eq_true _ _).1 h
  obtain ⟨g, mem, same⟩ := List.any_eq_true.1 any
  simp only [Bool.and_eq_true, beq_iff_eq] at same
  obtain ⟨⟨lo, w⟩, access⟩ := same
  exact ⟨g, lo, w, access, by rw [← s.field_writeByAccess row_eq mem data, lo, w]; rfl⟩

/-- RW fields take the written bits (R4). -/
theorem get_writeByAccess_rw {f : FieldRef} (h : f.hasAccess .rw = true) (data : Word) :
    (s.writeByAccess f.addr data).get f = bitsOf data.toNat f.lo f.w := by
  obtain ⟨g, lo, w, access, eq⟩ := s.get_writeByAccess h data
  rw [eq, FieldRow.written, access, lo, w]

/-- RO and WO fields keep what they hold (R4). -/
theorem get_writeByAccess_ro {f : FieldRef} (h : f.hasAccess .ro = true) (data : Word) :
    (s.writeByAccess f.addr data).get f = s.get f := by
  obtain ⟨g, lo, w, access, eq⟩ := s.get_writeByAccess h data
  rw [eq, FieldRow.written, access, lo, w]
  rfl

theorem bit_writeByAccess_rw {f : FieldRef} (h : f.hasAccess .rw = true) (one : f.w = 1) (data : Word) :
    (s.writeByAccess f.addr data).bit f = data.getLsbD f.lo := by
  rw [State.bit, s.get_writeByAccess_rw h, one, bitsOf_one]
  rfl

end State

end Sys2Proof.Machine

/-! PROOFS. The pump's control register and its orders (spec/12 R503, R504, R520 to R522). -/

namespace Sys2Proof.Machine

set_option Elab.async false

namespace State

variable (s : State)

/-! The drive's reactions leave CHOP_FAULT as it is (R517) -/

theorem chopFault_pumpFaultIf (code : Nat) : (s.pumpFaultIf code).get F.PUMP_STATUS_CHOP_FAULT = s.get F.PUMP_STATUS_CHOP_FAULT := by
  unfold pumpFaultIf
  split
  · refine (s.get_pumpFaultAs (by decide) (by decide) (by decide) (by decide) (by decide) code).trans ?_
    rw [faulted, get_set_apart _ (by decide)]
    exact ((Kept.rfl.mapPump : Kept [] [.pump] s.floatLegs _).get (by simp)).trans (s.get_floatLegs (by decide) (by decide))
  · rfl

theorem chopFault_moved : s.moved.get F.PUMP_STATUS_CHOP_FAULT = s.get F.PUMP_STATUS_CHOP_FAULT := by
  have observe (x : State) : x.observe.get F.PUMP_STATUS_CHOP_FAULT = x.get F.PUMP_STATUS_CHOP_FAULT :=
    get_observe _ (by decide) (by decide) (by decide)
  unfold moved
  split
  · exact when_eq (fun x => x.get F.PUMP_STATUS_CHOP_FAULT) _ (observe _)
  split
  · exact when_eq (fun x => x.get F.PUMP_STATUS_CHOP_FAULT) _ (get_coastFor _ (by decide) (by decide) (by decide) _)
  split
  · split
    · refine (when_eq (fun x => x.get F.PUMP_STATUS_CHOP_FAULT) _ ?_).trans ((Kept.rfl.mapPump : Kept [] [.pump] s _).get (by simp))
      exact (get_goPump _ (by decide) _).trans (get_floatLegs _ (by decide) (by decide))
    · exact when_eq (fun x => x.get F.PUMP_STATUS_CHOP_FAULT) _ (observe _)
  · rfl

theorem chopFault_pumpReact : s.pumpReact.get F.PUMP_STATUS_CHOP_FAULT = s.get F.PUMP_STATUS_CHOP_FAULT := by
  by_cases still : (s.tableau || s.pState == ps.frozen) = true
  · rw [pumpReact_eq, if_pos still]
  · simp only [Bool.or_eq_true, beq_iff_eq, not_or, Bool.not_eq_true] at still
    obtain ⟨free, frozen⟩ := still
    refine (fields_pumpReact free frozen (by decide)).trans ((chopFault_moved _).trans ?_)
    refine (get_chopChecked _ (by decide)).trans ?_
    refine (when_eq (fun x => x.get F.PUMP_STATUS_CHOP_FAULT) _ (chopFault_pumpFaultIf _ _)).trans ?_
    exact get_demanded _ (by decide) (by decide)

/-- The checks of R522, each as its rule has it. -/
def pumpOrderTable (d : Desc) (s : State) : List (Bool × Nat × Nat) :=
  [(4 < d.target.toNat, st.targetRange, 0), (d.len ≠ 0, st.lenRange, 0),
    (if decide (d.target.toNat = 1) then d.p0.toNat < s.pc16 8 ∨ s.pc16 0xA < d.p0.toNat ∨ 1 < d.p1.toNat else d.p0.toNat ≠ 0 ∨ d.p1.toNat ≠ 0,
      st.targetRange, 0x10), (!s.curveOk, st.stateRefused, 1),
    (s.bit F.PUMP_CTRL_EN = false ∨ s.bit F.PUMP_CTRL_MANUAL = true, st.stateRefused, 2),
    (decide (d.target.toNat = 1) ∧ (d.p1.toNat == 1) ≠ s.pumpReverse ∧ (s.pc16 0x14 : Rat) < |s.pumpMeas|, st.stateRefused, 3),
    (d.target.toNat = 4 ∧ (s.pState ≠ ps.fault ∨ s.faultPresent = true), st.stateRefused, 4)]

theorem pumpOrderChecks_eq (d : Desc) : s.pumpOrderChecks d = s.pumpOrderTable d := by
  have len : (d.len.toNat != 0) = decide (d.len ≠ 0) := by
    rw [Bool.eq_iff_iff]
    simp [BitVec.toNat_eq]
  have order : (if d.target.toNat = 1 then decide (d.p0.toNat < s.pc16 8) || decide (s.pc16 0xA < d.p0.toNat) || decide (1 < d.p1.toNat)
      else d.p0.toNat != 0 || d.p1.toNat != 0) =
      (if decide (d.target.toNat = 1) then decide (d.p0.toNat < s.pc16 8 ∨ s.pc16 0xA < d.p0.toNat ∨ 1 < d.p1.toNat)
        else decide (d.p0.toNat ≠ 0 ∨ d.p1.toNat ≠ 0)) := by
    rw [Bool.eq_iff_iff]
    by_cases fixed : d.target.toNat = 1 <;> simp [fixed, or_assoc]
  have turn : (d.target.toNat == 1 && (d.p1.toNat == 1) != s.pumpReverse && decide ((s.pc16 0x14 : Rat) < |s.pumpMeas|)) =
      decide (decide (d.target.toNat = 1) = true ∧ (d.p1.toNat == 1) ≠ s.pumpReverse ∧ (s.pc16 0x14 : Rat) < |s.pumpMeas|) := by
    rw [Bool.eq_iff_iff]
    simp [and_assoc]
  have clear : (d.target.toNat == 4 && (s.pState != ps.fault || s.faultPresent)) =
      decide (d.target.toNat = 4 ∧ (s.pState ≠ ps.fault ∨ s.faultPresent = true)) := by
    rw [Bool.eq_iff_iff]
    simp
  have able : (!s.bit F.PUMP_CTRL_EN || s.bit F.PUMP_CTRL_MANUAL) =
      decide (s.bit F.PUMP_CTRL_EN = false ∨ s.bit F.PUMP_CTRL_MANUAL = true) := by
    rw [Bool.eq_iff_iff]
    simp
  unfold pumpOrderChecks pumpOrderTable
  rw [← len, ← order, ← turn, ← clear, ← able]

/-- TARGET 4 (R522). -/
def faultCleared (s : State) : State :=
  ((((s.set F.PUMP_STATUS_FAULT 0).setBit F.PUMP_STATUS_CHOP_FAULT false).floatLegs).goPump ps.off)

theorem get_faultCleared {f : FieldRef} (sector : apart F.PUMP_STATUS_SECTOR f = true) (state : apart F.PUMP_STATUS_STATE f = true)
    (other : f.addr ≠ Reg.PUMP_SECTOR) :
    s.faultCleared.get f = ((s.set F.PUMP_STATUS_FAULT 0).setBit F.PUMP_STATUS_CHOP_FAULT false).get f := by
  rw [faultCleared, get_goPump _ state, get_floatLegs _ sector other]

theorem pState_faultCleared : s.faultCleared.pState = ps.off := by
  rw [faultCleared]
  exact pState_goPump _ (by decide)

theorem pSector_faultCleared : s.faultCleared.pSector = 0 := by
  rw [faultCleared]
  exact (get_goPump _ (by decide) _).trans (pSector_floatLegs _)

theorem fault_faultCleared : s.faultCleared.get F.PUMP_STATUS_FAULT = 0 := by
  rw [s.get_faultCleared (by decide) (by decide) (by decide), get_setBit_apart _ (by decide)]
  exact get_set_of_lt _ (by decide) (by decide)

theorem chopFault_faultCleared : s.faultCleared.bit F.PUMP_STATUS_CHOP_FAULT = false := by
  rw [State.bit, s.get_faultCleared (by decide) (by decide) (by decide), ← State.bit]
  exact bit_setBit_same _ (by decide) rfl

theorem ring_not_mem_pumpRegs : Reg.HOST_RING_CFG 1 ∉ pumpRegs := not_mem_pumpRegs (by decide)

/-- The order FIXED, taken (R522). -/
def orderFixed (d : Desc) (s : State) : State :=
  (((s.set F.PUMP_CMD_ORDER po.fixed).set F.PUMP_CMD_SPEED d.p0.toNat).setBit F.PUMP_CMD_DIR (d.p1.toNat == 1)).mapPump fun p => { p with brake := false }

/-- An order that gives neither speed nor direction (R522). -/
def orderTaken (n : Nat) (s : State) : State := (s.set F.PUMP_CMD_ORDER n).mapPump fun p => { p with brake := n == po.brake }

theorem takePumpOrder_clear {s : State} {d : Desc} (h : d.target.toNat = 4) : s.takePumpOrder d = s.faultCleared.pumpReact := by
  unfold takePumpOrder
  rw [h]
  rfl

theorem takePumpOrder_fixed {s : State} {d : Desc} (h : d.target.toNat = 1) : s.takePumpOrder d =
    ((s.orderFixed d).when ((d.p1.toNat == 1) != s.pumpReverse && ps.observe ≤ (s.orderFixed d).pState && (s.orderFixed d).pState ≤ ps.coast)
      fun s => s.observe.mapPump fun p => { p with locked := none }).pumpReact := by
  unfold takePumpOrder
  rw [h]
  rfl

theorem takePumpOrder_other {s : State} {d : Desc} (h : d.target.toNat ≠ 4) (h' : d.target.toNat ≠ 1) :
    s.takePumpOrder d = (s.orderTaken d.target.toNat).pumpReact := by
  unfold takePumpOrder
  split
  next eq => exact absurd eq h
  next eq => exact absurd eq h'
  next => rfl

theorem kept_orderFixed (d : Desc) : Kept [Reg.PUMP_CMD] [.pump] s (s.orderFixed d) := Kept.rfl.set.set.setBit.mapPump

theorem kept_orderTaken (n : Nat) : Kept [Reg.PUMP_CMD] [.pump] s (s.orderTaken n) := Kept.rfl.set.mapPump

theorem kept_faultCleared : Kept driveRegs [.pump, .router] s s.faultCleared :=
  (Kept.rfl.set.setBit.trans (kept_floatLegs _).mono).trans (kept_goPump _ _).mono

theorem order_orderFixed (d : Desc) : (s.orderFixed d).get F.PUMP_CMD_ORDER = 1 := by
  refine ((Kept.rfl.mapPump : Kept [] [.pump] _ (s.orderFixed d)).get (by simp)).trans ?_
  rw [get_setBit_apart _ (by decide), get_set_apart _ (by decide)]
  exact get_set_of_lt _ (by decide) (by decide)

theorem speed_orderFixed (d : Desc) : (s.orderFixed d).get F.PUMP_CMD_SPEED = d.p0.toNat % 65536 := by
  refine ((Kept.rfl.mapPump : Kept [] [.pump] _ (s.orderFixed d)).get (by simp)).trans ?_
  rw [get_setBit_apart _ (by decide)]
  exact get_set_same _ (by decide)

theorem dir_orderFixed {d : Desc} (one : d.p1.toNat < 2) : (s.orderFixed d).get F.PUMP_CMD_DIR = d.p1.toNat := by
  refine ((Kept.rfl.mapPump : Kept [] [.pump] _ (s.orderFixed d)).get (by simp)).trans ?_
  refine (get_set_same _ (by decide)).trans ?_
  interval_cases d.p1.toNat <;> rfl

theorem order_orderTaken {n : Nat} (small : n < 4) : (s.orderTaken n).get F.PUMP_CMD_ORDER = n := by
  refine ((Kept.rfl.mapPump : Kept [] [.pump] _ (s.orderTaken n)).get (by simp)).trans ?_
  exact get_set_of_lt _ (by decide) small

theorem get_orderTaken {f : FieldRef} (other : apart F.PUMP_CMD_ORDER f = true) (n : Nat) : (s.orderTaken n).get f = s.get f :=
  ((Kept.rfl.mapPump : Kept [] [.pump] _ (s.orderTaken n)).get (by simp)).trans (get_set_apart _ other)

/-- A change of direction starts the drive anew (R522). -/
def turned (turn : Bool) (s : State) : State := s.when turn fun s => s.observe.mapPump fun p => { p with locked := none }

theorem kept_turned (turn : Bool) : Kept driveRegs [.pump, .router] s (s.turned turn) :=
  Kept.rfl.when fun h => (h.trans (kept_observe _)).mapPump

/-- What a change of MANUAL does to the drive (R520). -/
def manualSwitched (man was : Bool) (s : State) : State :=
  if man && !was then s.floatLegs.goPump ps.manual else if was && !man then s.floatLegs.goPump ps.off else s

theorem kept_manualSwitched (man was : Bool) : Kept driveRegs [.pump, .router] s (s.manualSwitched man was) := by
  have shifted (st : Nat) : Kept driveRegs [.pump, .router] s (s.floatLegs.goPump st) := s.kept_floatLegs.mono.trans (kept_goPump _ _).mono
  exact Kept.ite (shifted _) (Kept.ite (shifted _) Kept.rfl)

/-- An order that passes is taken and its command ends with DONE. -/
theorem ended_finish_of_kept {a x : State} {regs : List Nat} {parts : List Part} (k : Kept regs parts a x)
    (host : .host ∉ parts := by decide) (datum : .datum ∉ parts := by decide) (ring : Reg.HOST_RING_CFG 1 ∉ regs := by decide)
    (s : State) (d : Desc) : Ended d st.done 0 a.datum a (s.settle a (x.finish d)) := by
  rw [Ended, host_settle, finish, k.2 .datum datum]
  exact host_complete_congr (k.2 .host host) (k.bit ring) ..

end State

/-- Settles O38, write by write and order by order. -/
theorem pumpOrdersAndControl : Obligations.PumpOrdersAndControl := by
  unfold Obligations.PumpOrdersAndControl
  refine ⟨?control, ?taken, ?refused⟩
  case control =>
    intro s t data a
    have now : s.advance t = a := rfl
    clear_value a
    intro free
    have run := exec_pumpCtrlWrite t data s
    have open_ := State.bar0_of_not_tableau free Reg.PUMP_CTRL data (State.writePumpCtrl data)
    have same : ((data.getLsbD 0 && !a.bit F.PUMP_CTRL_EN && !data.getLsbD 2 && a.get F.GUARD_CFG_MODE != 0) ||
        (data.getLsbD 2 != a.bit F.PUMP_CTRL_MANUAL && (a.bit F.PUMP_CTRL_EN || a.bit F.GUARD_CTRL_GD_EN || !a.curtainDown))) = true ↔
        ((data.getLsbD 0 = true ∧ a.bit F.PUMP_CTRL_EN = false ∧ data.getLsbD 2 = false ∧ a.get F.GUARD_CFG_MODE ≠ 0) ∨
          (data.getLsbD 2 ≠ a.bit F.PUMP_CTRL_MANUAL ∧
            (a.bit F.PUMP_CTRL_EN = true ∨ a.bit F.GUARD_CTRL_GD_EN = true ∨ a.curtainDown = false))) := by
      simp only [Bool.or_eq_true, Bool.and_eq_true, Bool.not_eq_true', bne_iff_ne, and_assoc, or_assoc]
    by_cases bad : (data.getLsbD 0 = true ∧ a.bit F.PUMP_CTRL_EN = false ∧ data.getLsbD 2 = false ∧ a.get F.GUARD_CFG_MODE ≠ 0) ∨
          (data.getLsbD 2 ≠ a.bit F.PUMP_CTRL_MANUAL ∧
            (a.bit F.PUMP_CTRL_EN = true ∨ a.bit F.GUARD_CTRL_GD_EN = true ∨ a.curtainDown = false))
    · refine completes_at run now (open_.trans (if_pos (same.2 bad))) ?_
      rw [if_pos bad]
      exact ⟨(State.bit_settle ..).trans (State.bit_setBit_same _ (by decide) rfl), Kept.rfl.setBit.settled now⟩
    · obtain ⟨y, hy⟩ : ∃ y, y = a.writeByAccess Reg.PUMP_CTRL data := ⟨_, rfl⟩
      have kept : Kept [Reg.PUMP_CTRL] [] a y := hy ▸ a.kept_writeByAccess data _ (by decide)
      have en : y.bit F.PUMP_CTRL_EN = data.getLsbD 0 := hy ▸ a.bit_writeByAccess_rw (f := F.PUMP_CTRL_EN) (by decide +kernel) rfl data
      have chop : y.bit F.PUMP_CTRL_CHOP_EN = data.getLsbD 1 := hy ▸ a.bit_writeByAccess_rw (f := F.PUMP_CTRL_CHOP_EN) (by decide +kernel) rfl data
      have manual : y.bit F.PUMP_CTRL_MANUAL = data.getLsbD 2 := hy ▸ a.bit_writeByAccess_rw (f := F.PUMP_CTRL_MANUAL) (by decide +kernel) rfl data
      obtain ⟨z, hz⟩ : ∃ z, z = y.manualSwitched (data.getLsbD 2) (a.bit F.PUMP_CTRL_MANUAL) := ⟨_, rfl⟩
      have keptz : Kept driveRegs [.pump, .router] y z := hz ▸ y.kept_manualSwitched ..
      have freez : z.tableau = false := (keptz.bit (by decide)).trans ((kept.bit (by decide)).trans free)
      refine completes_at (x := z.pumpReact) run now (open_.trans ((if_neg (mt same.1 bad)).trans (by rw [hz, hy]; rfl))) ?_
      rw [if_neg bad]
      have ctrl {f : FieldRef} (hf : f.addr = Reg.PUMP_CTRL) : z.pumpReact.get f = y.get f :=
        (z.kept_pumpReact.get (by rw [hf]; decide)).trans (keptz.get (by rw [hf]; decide))
      refine ⟨?_, ?_, ?_, ?_, fun up was => ?_, fun down was => ?_⟩
      · rw [State.bit_settle, State.bit, ctrl rfl, ← State.bit, en]
      · rw [State.bit_settle, State.bit, ctrl rfl, ← State.bit, chop]
      · rw [State.bit_settle, State.bit, ctrl rfl, ← State.bit, manual]
      · exact (((kept.mono (List.cons_subset.2 ⟨mem_pumpRegs_pump, List.nil_subset _⟩)).trans (keptz.mono driveRegs_subset)).trans
          (z.kept_pumpReact.mono reactRegs_subset)).settled now
      · have shift : z = y.floatLegs.goPump ps.manual := by rw [hz, up, was]; rfl
        have state : z.pState = ps.manual := shift ▸ State.pState_goPump _ (by decide)
        have sector : z.pSector = 0 := shift ▸ (State.get_goPump _ (by decide) _).trans y.pSector_floatLegs
        have above : ps.coast < z.pState := by rw [state]; decide
        exact ⟨(State.get_settle ..).trans ((State.pumpReact_above freez above (by decide) (by decide) (by decide) (by decide)).trans state),
          (State.get_settle ..).trans ((State.pumpReact_above freez above (by decide) (by decide) (by decide) (by decide)).trans sector)⟩
      · have shift : z = y.floatLegs.goPump ps.off := by rw [hz, down, was]; rfl
        have state : z.pState = ps.off := shift ▸ State.pState_goPump _ (by decide)
        have sector : z.pSector = 0 := shift ▸ (State.get_goPump _ (by decide) _).trans y.pSector_floatLegs
        have ends : z.pumpReact.pState ≠ ps.manual ∧ z.pumpReact.pSector = 0 := by
          rcases State.pumpReact_off freez state with ⟨off, same, -⟩ | ⟨fault, none, -⟩ | ⟨observe, none, -⟩
          · exact ⟨by rw [off]; decide, same.trans sector⟩
          · exact ⟨by rw [fault]; decide, none⟩
          · exact ⟨by rw [observe]; decide, none⟩
        exact ⟨fun h => ends.1 ((State.get_settle ..).symm.trans h), (State.get_settle ..).trans ends.2⟩
  case taken =>
    intro s t d a p0 p1 fixed table
    have now : s.advance t = a := rfl
    clear_value a
    intro pass
    have passed : firstFail (a.pumpOrderTable d) = none := pass
    have run := exec_pumpOrder t d s
    have checked := State.checked_pass a (d := d) ((congrArg firstFail (a.pumpOrderChecks_eq d)).trans passed) fun s => (s.takePumpOrder d).finish d
    have checks := firstFail_eq_none.1 passed
    simp only [State.pumpOrderTable, List.forall_mem_cons] at checks
    obtain ⟨range, -, operands, -, able, -, present, -⟩ := checks
    have small : d.target.toNat ≤ 4 := by simpa using range
    by_cases clears : d.target.toNat = 4
    · obtain ⟨y, hy⟩ : ∃ y, y = a.faultCleared := ⟨_, rfl⟩
      have kept : Kept driveRegs [.pump, .router] a y := hy ▸ a.kept_faultCleared
      have all : Kept pumpRegs pumpParts a y.pumpReact := (kept.mono driveRegs_subset).trans (y.kept_pumpReact.mono reactRegs_subset)
      have fin : Kept [] [.host] y.pumpReact (y.pumpReact.finish d) := Kept.rfl.finish
      have effect : (a.takePumpOrder d).finish d = y.pumpReact.finish d := by rw [State.takePumpOrder_clear clears, hy]
      refine completes_at (x := y.pumpReact.finish d) run now (checked.trans effect)
        ⟨State.ended_finish_of_kept all (by decide) (by decide) State.ring_not_mem_pumpRegs s d, ?_,
          fun h => absurd (clears.symm.trans h) (by decide), fun h => ?_, fun _ => ⟨?_, ?_, fun clear => ?_⟩⟩
      · exact ((all.mono (List.Subset.refl _) (by decide)).trans (fin.mono (List.nil_subset _) (by decide))).settled now
      · omega
      · exact (State.reg_settle ..).trans ((fin.reg (by simp)).trans ((y.kept_pumpReact.reg (by decide)).trans (kept.reg (by decide))))
      · rw [State.bit_settle, fin.bit (by simp), State.bit, State.chopFault_pumpReact, ← State.bit, hy]
        exact a.chopFault_faultCleared
      · have state : y.pState = ps.off := hy ▸ a.pState_faultCleared
        have sector : y.pSector = 0 := hy ▸ a.pSector_faultCleared
        have code : y.get F.PUMP_STATUS_FAULT = 0 := hy ▸ a.fault_faultCleared
        have latched : y.guardLatched = a.guardLatched := (State.SameInputs.of_kept kept).latched
        have ends : y.pumpReact.get F.PUMP_STATUS_FAULT = 0 ∧ y.pumpReact.pSector = 0 ∧
            (y.pumpReact.pState = ps.off ∨ y.pumpReact.pState = ps.observe) := by
          cases held : y.tableau with
          | true => rw [State.pumpReact_eq, held, Bool.true_or, if_pos rfl]; exact ⟨code, sector, .inl state⟩
          | false =>
            rcases State.pumpReact_off held state with ⟨off, none, same⟩ | ⟨-, -, -, latch⟩ | ⟨observe, none, same, -⟩
            · exact ⟨same.trans code, none.trans sector, .inl off⟩
            · exact absurd (latch.symm.trans (latched.trans clear)) (by decide)
            · exact ⟨same.trans code, none, .inr observe⟩
        obtain ⟨fault, none, at_⟩ := ends
        have same {f : FieldRef} : (s.settle a (y.pumpReact.finish d)).get f = y.pumpReact.get f :=
          (State.get_settle ..).trans (fin.get (by simp))
        exact ⟨same.trans fault, same.trans none, at_.imp same.trans same.trans⟩
    by_cases fixes : d.target.toNat = 1
    · obtain ⟨y, hy⟩ : ∃ y, y = a.orderFixed d := ⟨_, rfl⟩
      have kepty : Kept [Reg.PUMP_CMD] [.pump] a y := hy ▸ a.kept_orderFixed d
      have one : d.p1.toNat < 2 := by
        rw [fixes] at operands
        simp at operands
        omega
      have order : y.get F.PUMP_CMD_ORDER = 1 := hy ▸ a.order_orderFixed d
      have speed : y.get F.PUMP_CMD_SPEED = d.p0.toNat % 65536 := hy ▸ a.speed_orderFixed d
      have dir : y.get F.PUMP_CMD_DIR = d.p1.toNat := hy ▸ a.dir_orderFixed one
      have statey : y.pState = a.pState := kepty.get (by decide)
      obtain ⟨z, hz⟩ : ∃ z, z = y.turned ((d.p1.toNat == 1) != a.pumpReverse && decide (ps.observe ≤ a.pState) && decide (a.pState ≤ ps.coast)) := ⟨_, rfl⟩
      have keptz : Kept driveRegs [.pump, .router] y z := hz ▸ y.kept_turned _
      have kept : Kept (Reg.PUMP_CMD :: driveRegs) [.pump, .router] a z := kepty.mono.trans keptz.mono
      have all : Kept pumpRegs pumpParts a z.pumpReact :=
        (kept.mono (List.cons_subset.2 ⟨mem_pumpRegs_pump, driveRegs_subset⟩)).trans (z.kept_pumpReact.mono reactRegs_subset)
      have fin : Kept [] [.host] z.pumpReact (z.pumpReact.finish d) := Kept.rfl.finish
      have effect : (a.takePumpOrder d).finish d = z.pumpReact.finish d := by
        rw [State.takePumpOrder_fixed fixes, hz, hy, ← hy, statey]
        rfl
      have same {f : FieldRef} : (s.settle a (z.pumpReact.finish d)).get f = z.pumpReact.get f := (State.get_settle ..).trans (fin.get (by simp))
      have cmd {f : FieldRef} (hf : f.addr = Reg.PUMP_CMD) : (s.settle a (z.pumpReact.finish d)).get f = y.get f :=
        same.trans ((z.kept_pumpReact.get (by rw [hf]; decide)).trans (keptz.get (by rw [hf]; decide)))
      refine completes_at (x := z.pumpReact.finish d) run now (checked.trans effect)
        ⟨State.ended_finish_of_kept all (by decide) (by decide) State.ring_not_mem_pumpRegs s d, ?_,
          fun _ => ⟨(cmd rfl).trans order, (cmd rfl).trans speed, (cmd rfl).trans dir, fun turn free low high => ?_⟩, fun h => ?_,
          fun h => absurd h clears⟩
      · exact ((all.mono (List.Subset.refl _) (by decide)).trans (fin.mono (List.nil_subset _) (by decide))).settled now
      · have turns : ((d.p1.toNat == 1) != a.pumpReverse && decide (ps.observe ≤ a.pState) && decide (a.pState ≤ ps.coast)) = true := by
          have p1 : (d.p1 = 1) ↔ d.p1.toNat = 1 := by rw [← BitVec.toNat_inj]; rfl
          rw [p1] at turn
          simp only [Bool.and_eq_true, decide_eq_true_eq, bne_iff_ne, ne_eq]
          refine ⟨⟨fun eq => ?_, low⟩, high⟩
          rw [← eq] at turn
          simp at turn
        have shift : z = y.observe.mapPump fun p => { p with locked := none } := by rw [hz, turns]; rfl
        have last : Kept [] [.pump] y.observe z := shift ▸ Kept.rfl.mapPump
        have state : z.pState = ps.observe := (last.get (by simp)).trans y.pState_observe
        have sector : z.pSector = 0 := (last.get (by simp)).trans y.pSector_observe
        have freez : z.tableau = false := (kept.bit (by decide)).trans free
        have asked : z.runRequest = true := by
          rw [State.runRequest, keptz.get (by decide), order]
          rfl
        have inputs : State.SameInputs a z := .of_kept kept
        obtain ⟨en, manual⟩ : a.bit F.PUMP_CTRL_EN = true ∧ a.bit F.PUMP_CTRL_MANUAL = false := by simpa using able
        refine ⟨same.trans ?_, ?_⟩
        · rcases State.pumpReact_observe freez state with ⟨-, stays⟩ | ⟨-, none, -⟩ | ⟨-, none, -⟩
          · exact stays.trans sector
          · exact none
          · exact none
        · rcases State.pumpReact_observe freez state with ⟨observe, -⟩ | ⟨fault, -, latch⟩ | ⟨coast, -, stop⟩
          · exact .inl (same.trans observe)
          · exact .inr (.inr ⟨same.trans fault, inputs.latched ▸ latch⟩)
          · rw [asked, inputs.en, inputs.manual, inputs.gdEn, en, manual] at stop
            exact .inr (.inl ⟨same.trans coast, by simpa using stop⟩)
      · omega
    · obtain ⟨y, hy⟩ : ∃ y, y = a.orderTaken d.target.toNat := ⟨_, rfl⟩
      have kept : Kept [Reg.PUMP_CMD] [.pump] a y := hy ▸ a.kept_orderTaken _
      have all : Kept pumpRegs pumpParts a y.pumpReact :=
        (kept.mono (List.cons_subset.2 ⟨mem_pumpRegs_pump, List.nil_subset _⟩)).trans (y.kept_pumpReact.mono reactRegs_subset)
      have fin : Kept [] [.host] y.pumpReact (y.pumpReact.finish d) := Kept.rfl.finish
      have effect : (a.takePumpOrder d).finish d = y.pumpReact.finish d := by rw [State.takePumpOrder_other clears fixes, hy]
      have cmd {f : FieldRef} (hf : f.addr = Reg.PUMP_CMD) : (s.settle a (y.pumpReact.finish d)).get f = y.get f :=
        (State.get_settle ..).trans ((fin.get (by simp)).trans (y.kept_pumpReact.get (by rw [hf]; decide)))
      refine completes_at (x := y.pumpReact.finish d) run now (checked.trans effect)
        ⟨State.ended_finish_of_kept all (by decide) (by decide) State.ring_not_mem_pumpRegs s d, ?_, fun h => absurd h fixes,
          fun h => ⟨(cmd rfl).trans ?_, (cmd rfl).trans ?_, (cmd rfl).trans ?_⟩, fun h => absurd h clears⟩
      · exact ((all.mono (List.Subset.refl _) (by decide)).trans (fin.mono (List.nil_subset _) (by decide))).settled now
      · rw [hy]
        exact a.order_orderTaken (by omega)
      · rw [hy]
        exact a.get_orderTaken (by decide) _
      · rw [hy]
        exact a.get_orderTaken (by decide) _
  case refused =>
    intro s t d status detail a p0 p1 fixed table
    have now : s.advance t = a := rfl
    clear_value a
    intro fail
    exact completes_at (exec_pumpOrder ..) now (State.checked_fail _ ((a.pumpOrderChecks_eq d).symm ▸ fail) _) ⟨Ended.refuse .., (a.kept_refuse ..).settled now⟩

end Sys2Proof.Machine

/-! PROOFS. The host's reads and writes of BAR0 registers (spec/00 R3 to R5, R44, spec/13 R569, spec/18 R688). -/

namespace Sys2Proof.Machine

set_option Elab.async false

/-- The captures replaced. -/
theorem Kept.latched {regs : List Nat} {parts : List Part} {a b : State} (h : Kept regs parts a b) {x : SMap Nat}
    (hp : .latched ∈ parts := by decide) : Kept regs parts a { b with latched := x } :=
  h.part .latched hp (Eq.refl _) fun q hq => by cases q <;> simp_all [Part.same]

namespace State

/-! What registers show, between states that agree in all but the captures (R44) -/

section
variable {a b : State} (k : Kept [] [.latched] a b) (time : b.elapsed = a.elapsed)
include k

theorem reg_congr : b.reg = a.reg := funext fun r => k.1 r (List.not_mem_nil)

theorem get_congr : b.get = a.get := by
  funext f
  rw [State.get, State.get, reg_congr k]

theorem bit_congr : b.bit = a.bit := by
  funext f
  rw [State.bit, State.bit, get_congr k]

theorem ibit_congr : b.ibit = a.ibit := by
  funext f i
  rw [State.ibit, State.ibit, get_congr k]

theorem tbl8_congr : b.tbl8 = a.tbl8 := by
  funext id off
  rw [tbl8, tbl8, tableMem, tableMem, k.2 .tables (by decide)]

theorem tableOk_congr : b.tableOk = a.tableOk := by
  funext id
  rw [tableOk, tableOk, ibit_congr k]

theorem present_congr : b.present = a.present := by
  funext c
  rw [present, present, cellKind, cellKind, ros8, ros8, tbl8_congr k]

theorem phaseCells_congr : b.phaseCells = a.phaseCells := by
  funext x
  simp only [phaseCells, cellPhase, ros8, present_congr k, tbl8_congr k]

theorem activeCells_congr : b.activeCells = a.activeCells := by
  have active : b.isActive = a.isActive := by
    funext c
    simp only [isActive, cState, get_congr k]
  funext x
  rw [activeCells, activeCells, phaseCells_congr k, active]

theorem castReady_congr : b.castReady = a.castReady := by
  simp only [castReady, weightsOk, tableOk_congr k, phaseCells_congr k, cellKind, ros8, tbl8_congr k, cState, get_congr k, bit_congr k]

theorem engReady_congr : b.engReady = a.engReady := by
  rw [engReady, engReady, bit_congr k, tableOk_congr k]

include time

theorem compTesting_congr : b.compTesting = a.compTesting := by
  have conv : b.conv = a.conv := k.2 .conv (by decide)
  funext n
  simp only [compTesting, conv, get_congr k, time]

theorem compCfg_congr : b.compCfg = a.compCfg := by
  have conv : b.conv = a.conv := k.2 .conv (by decide)
  funext n
  simp only [compCfg, conv, reg_congr k, time]

theorem holdBits_congr : b.holdBits = a.holdBits := by
  have curt : b.curt = a.curt := k.2 .curt (by decide)
  have loops : b.enabledLoops = a.enabledLoops := by
    have enabled : b.loopEnabled = a.loopEnabled := by
      funext n
      rw [loopEnabled, loopEnabled, ibit_congr k]
    rw [enabledLoops, enabledLoops, enabled]
  have route : b.curtainRoute = a.curtainRoute := by
    simp only [curtainRoute, ibit_congr k, compCfg_congr k time, compTesting_congr k time]
  simp only [holdBits, armed, engReady_congr k, engState, castReady_congr k, loops, loopTrained, loopHalted, loopFault, btrip, paramOk,
    route, tableau, curt, time, bit_congr k, get_congr k, ibit_congr k]

theorem swOn_congr : b.swOn = a.swOn := by
  have guard : b.guard = a.guard := k.2 .guard (by decide)
  have power : b.power = a.power := k.2 .power (by decide)
  have pin : b.pinTime = a.pinTime := by rw [pinTime, pinTime, tableau, tableau, bit_congr k, power, time]
  funext n
  rw [swOn, swOn, sw, sw, guard, pin]

theorem tripActive_congr : b.tripActive = a.tripActive := by
  have guard : b.guard = a.guard := k.2 .guard (by decide)
  have pump : b.pump = a.pump := k.2 .pump (by decide)
  have requested : b.requestedNow = a.requestedNow := by
    funext n
    rw [requestedNow, requestedNow, chan, chan, sw, sw, guard, pump, time]
  simp only [tripActive, compActive, ibit_congr k, compTesting_congr k time, compCfg_congr k time, bit_congr k, requested]

theorem shown_congr (r : Nat) (x : Word) : b.shown r x = a.shown r x := by
  have router : b.router = a.router := k.2 .router (by decide)
  have host : b.host = a.host := k.2 .host (by decide)
  have datum : b.datum = a.datum := k.2 .datum (by decide)
  have grid : b.grid = a.grid := k.2 .grid (by decide)
  have engine : b.engine = a.engine := k.2 .engine (by decide)
  have filter : b.filt8 = a.filt8 := by
    funext off
    simp only [filt8, engine, datum, tbl8_congr k]
  have star : b.starOff = a.starOff := by simp only [starOff, filt32, filt16, filter]
  have tone : b.toneBad = a.toneBad := by
    funext x
    rw [toneBad, toneBad, bit_congr k]
  simp only [shown, host, datum, grid, engReady_congr k, star, tbl8_congr k, castReady_congr k, sigOk, contoursOk,
    tone, disturbedFor, calOk, tableOk_congr k, holdBits_congr k time, tripActive_congr k time, guardLatched,
    swOn_congr k time, ringOcc, ringSize, vecBits, vec, causes, router, activeCells_congr k, bit_congr k, get_congr k]

theorem liveReg_congr (r : Nat) : b.liveReg r = a.liveReg r := by
  have router : b.router = a.router := k.2 .router (by decide)
  have datum : b.datum = a.datum := k.2 .datum (by decide)
  have pair : b.livePair = a.livePair := by
    have horizon' : b.horizon = a.horizon := by
      rw [horizon, horizon, tableau, tableau, mergeWindow, mergeWindow, datum, router, bit_congr k, get_congr k]
    funext lo
    simp only [livePair, State.pair, datum, horizon', reg_congr k]
  simp only [liveReg, pair, shown_congr k time, reg_congr k]

end

variable (s : State)

/-! Writes (R4, R688) -/

theorem kept_rejectWrite {r : Nat} {f : FieldRef} (h : rejectBit r = some f) : Kept [f.addr] [] s (s.rejectWrite r) := by
  rw [rejectWrite, h]
  exact Kept.rfl.setBit (List.mem_singleton.2 rfl)

theorem all_ite {α : Type} {p : α → Bool} {c : Prop} [Decidable c] {x y : Option α} (hx : x.all p = true) (hy : y.all p = true) :
    (if c then x else y).all p = true := by
  split
  · exact hx
  · exact hy

/-- Every block's CFG_REJECT is one bit. -/
theorem oneBit_rejectBit (r : Nat) : (rejectBit r).all (fun f => f.lo + 1 ≤ 32 && f.w == 1) = true := by
  unfold rejectBit
  iterate 19 refine all_ite rfl ?_
  rfl

theorem bit_rejectWrite {r : Nat} {f : FieldRef} (h : rejectBit r = some f) : (s.rejectWrite r).bit f = true := by
  have inside : f.lo + 1 ≤ 32 ∧ f.w = 1 := by simpa [h] using oneBit_rejectBit r
  rw [rejectWrite, h]
  exact bit_setBit_same _ inside.1 inside.2

/-- Held in tableau, in its place among the host's writes, 64 at most (R569). -/
theorem host_bar0 {s : State} (held : s.tableau = true) (r : Nat) (data : Word) (f : State → State)
    (room : (s.host.held.filter fun w => match w with | .bar0 _ _ => true | .doorbell _ _ => false).length < 64) :
    s.bar0 r data f = { s with host := { s.host with held := s.host.held ++ [.bar0 r data] } } := by
  rw [bar0, if_pos held]
  exact if_pos room

theorem bar0_full {s : State} (held : s.tableau = true) (r : Nat) (data : Word) (f : State → State)
    (full : 64 ≤ (s.host.held.filter fun w => match w with | .bar0 _ _ => true | .doorbell _ _ => false).length) :
    s.bar0 r data f = s.count F.HOST_TABLEAU_DROP_COUNT := by
  rw [bar0, if_pos held]
  exact if_neg (not_lt.2 full)

theorem applyBar0_none {s : State} {r : Nat} (h : regRow r = none) (data : Word) : s.applyBar0 r data = s := by
  rw [applyBar0, h]

theorem applyBar0_rejected {s : State} {r : Nat} {data : Word} {row : RegRow} (h : regRow r = some row)
    (bad : row.fields.all (FieldRow.fits data.toNat) = false) : s.applyBar0 r data = s.rejectWrite r := by
  rw [applyBar0, h]
  exact if_neg (by rw [bad]; exact Bool.false_ne_true)

/-- A write in range of a register that no rule of its block is about is taken by access types. -/
theorem applyBar0_plain {s : State} {r : Nat} {data : Word} {row : RegRow} (h : regRow r = some row)
    (fits : row.fields.all (FieldRow.fits data.toNat) = true)
    (block : 0x400 ≤ r ∧ r < 0x440 ∨ 0x500 ≤ r ∧ r < 0x800 ∨ 0x1400 ≤ r ∧ r < 0x1800 ∧ r ≠ Reg.POWER_RESET ∨
      0x4800 ≤ r ∧ r < 0x4C00 ∧ r ≠ Reg.CURTAIN_CAUSE ∨ 0x5400 ≤ r ∧ r < 0x5800 ∧ r ≠ Reg.GHOST_CFG) :
    s.applyBar0 r data = s.writeByAccess r data := by
  have host (inside : 0x400 ≤ r ∧ r < 0x800) (outside : ¬ (0x440 ≤ r ∧ r < 0x500)) : s.blockWrite r data = s.writeByAccess r data := by
    unfold blockWrite writeHost
    rw [if_neg (by omega), if_pos (by omega)]
    exact if_neg (by simpa using outside)
  rw [applyBar0, h]
  refine (if_pos fits).trans ?_
  rcases block with low | high | power | curtain | ghost
  · exact host (by omega) (by omega)
  · exact host (by omega) (by omega)
  · unfold blockWrite
    rw [if_neg (by omega), if_neg (by omega), if_neg (by omega), if_neg (by omega), if_neg (by omega), if_pos (by omega)]
    exact if_neg power.2.2
  · unfold blockWrite
    iterate 15 rw [if_neg (by omega)]
    rw [if_pos (by omega)]
    exact if_neg curtain.2.2
  · unfold blockWrite
    iterate 18 rw [if_neg (by omega)]
    rw [if_pos (by omega)]
    exact if_neg ghost.2.2

/-! Reads (R3, R4) -/

theorem getLsbD_readMask {row : RegRow} {i : Nat} (h : ∀ f ∈ row.fields, i < f.lo ∨ f.lo + f.w ≤ i) :
    (BitVec.ofNat 32 row.readMask).getLsbD i = false := by
  have clear (l : List FieldRow) (hl : ∀ f ∈ l, i < f.lo ∨ f.lo + f.w ≤ i) (m : Nat) (hm : m.testBit i = false) :
      (l.foldl (fun m f => putBits m f.lo f.w (2 ^ f.w - 1)) m).testBit i = false := by
    induction l generalizing m with
    | nil => exact hm
    | cons f l ih =>
      refine ih (fun g hg => hl g (List.mem_cons_of_mem _ hg)) _ ?_
      rw [testBit_putBits]
      rcases hl f (List.mem_cons_self ..) with below | above
      · rw [if_pos below, hm]
      · rw [if_neg (by omega), if_neg (by omega), hm]
  have zero : row.readMask.testBit i = false :=
    clear _ (fun f hf => h f (List.mem_filter.1 hf).1) 0 (Nat.zero_testBit i)
  rw [BitVec.getLsbD, BitVec.toNat_ofNat, Nat.testBit_mod_two_pow, zero, Bool.and_false]

/-- The registers of the pairs that a read captures have no reserved bits. -/
theorem full_of_capturePair {r : Nat} (h : r ∈ capturePairs ∨ 4 ≤ r ∧ r - 4 ∈ capturePairs) {i : Nat}
    (outside : ∀ row, regRow r = some row → ∀ f ∈ row.fields, i < f.lo ∨ f.lo + f.w ≤ i) : 32 ≤ i := by
  have full : ∀ lo ∈ capturePairs, ∀ r ∈ [lo, lo + 4], ∃ row, regRow r = some row ∧ ∃ f ∈ row.fields, f.lo = 0 ∧ f.w = 32 := by
    have found : (capturePairs.all fun lo => [lo, lo + 4].all fun r => (regRow r).any fun row => row.fields.any fun f => f.lo == 0 && f.w == 32) = true := by
      decide +kernel
    simpa only [List.all_eq_true, Option.any_eq_true, List.any_eq_true, Bool.and_eq_true, beq_iff_eq] using found
  have whole : ∃ row, regRow r = some row ∧ ∃ f ∈ row.fields, f.lo = 0 ∧ f.w = 32 := by
    rcases h with low | ⟨four, high⟩
    · exact full r low r (by simp)
    · exact full _ high r (by simp; omega)
  obtain ⟨row, row_eq, f, mem, lo, w⟩ := whole
  have := outside row row_eq f mem
  omega

/-- No register of a pair is the next pair's. -/
theorem apart_capturePairs : ∀ r ∈ capturePairs, (regRow r).isSome = true ∧ (4 ≤ r → r - 4 ∉ capturePairs) := by decide +kernel

theorem liveReg_pair {s : State} {r : Nat} (h : r ∈ capturePairs) : s.liveReg r = BitVec.ofNat 32 (s.livePair r) := by
  obtain ⟨row, row_eq⟩ := Option.isSome_iff_exists.1 (apart_capturePairs r h).1
  rw [liveReg, row_eq]
  exact if_pos (by simpa using h)

/-- A read shows 0 in every bit of no field (R3). -/
theorem getLsbD_liveReg {r i : Nat} (outside : ∀ row, regRow r = some row → ∀ f ∈ row.fields, i < f.lo ∨ f.lo + f.w ≤ i) :
    (s.liveReg r).getLsbD i = false := by
  unfold liveReg
  split
  · simp
  next row row_eq =>
  split
  next pair => exact BitVec.getLsbD_of_ge _ _ (full_of_capturePair (.inl (by simpa using pair)) outside)
  split
  next pair => exact BitVec.getLsbD_of_ge _ _ (full_of_capturePair (.inr (by simpa using pair)) outside)
  next => rw [BitVec.getLsbD_and, getLsbD_readMask (outside row row_eq), Bool.and_false]

theorem getLsbD_readReg {r i : Nat} (outside : ∀ row, regRow r = some row → ∀ f ∈ row.fields, i < f.lo ∨ f.lo + f.w ≤ i) :
    (s.readReg r).getLsbD i = false := by
  unfold readReg
  split
  next pair => exact BitVec.getLsbD_of_ge _ _ (full_of_capturePair (.inr (by simpa using pair)) outside)
  next => exact s.getLsbD_liveReg outside

end State

/-- Settles O53, by where a write is held, refused or taken, and by what a read shows. -/
theorem registersAreReadAndWritten : Obligations.RegistersAreReadAndWritten := by
  unfold Obligations.RegistersAreReadAndWritten
  refine ⟨?enables, ?held, ?named, ?write, ?reserved, ?capture⟩
  case enables =>
    intro s t addr data be a
    have now : s.advance t = a := rfl
    clear_value a
    intro part
    exact completes_at (exec_registerWrite ..) now (if_pos part)
      ⟨(State.bit_settle ..).trans (State.bit_setBit_same _ (by decide) rfl), Kept.rfl.setBit.settled now⟩
  case held =>
    intro s t addr data a n
    have now : s.advance t = a := rfl
    clear_value a
    intro held other
    have run := exec_registerWrite t addr data 15 s
    have waits {x : State} (h : a.bar0 addr data (State.applyBar0 addr data) = x) :
        (if (15 : BitVec 4) ≠ 15 then a.setBit F.HOST_STATUS_CFG_REJECT true
          else if addr = Reg.COMP_TEST_CTRL && a.tableau && data.getLsbD 31 then a.setBit F.COMP_STATUS_TEST_REFUSED true
          else a.bar0 addr data (State.applyBar0 addr data)) = x := by
      refine (if_neg (by decide)).trans ((if_neg ?_).trans h)
      rcases other with addr' | bit
      · simp [addr']
      · rw [bit, Bool.and_false]
        exact Bool.false_ne_true
    by_cases room : n < 64
    · exact completes_at run now (waits (State.host_bar0 held addr data _ room)) ⟨fun _ => ⟨State.host_settle .., Kept.rfl.host.settled now⟩,
        fun full => absurd room (not_lt.2 full)⟩
    · exact completes_at run now (waits (State.bar0_full held addr data _ (not_lt.1 room))) ⟨fun h => absurd h room,
        fun _ => ⟨(State.get_settle ..).trans (a.get_count_same (by decide)), Kept.rfl.count.settled now⟩⟩
  case named =>
    intro s t data part k m ring a n named
    have now : s.advance t = a := rfl
    clear_value a
    intro held p mem
    have waits {c : Instr} {r : Nat} {f : State → State} (run : exec c s = s.run t fun s => s.bar0 r data f) : Completes c s fun b =>
        (n < 64 → b.host = { a.host with held := a.host.held ++ [.bar0 r data] } ∧ Kept [] [.host] a b) ∧
        (64 ≤ n → b.get F.HOST_TABLEAU_DROP_COUNT = min (a.get F.HOST_TABLEAU_DROP_COUNT + 1) 0xFFFFFFFF ∧ Kept [Reg.HOST_TABLEAU_DROP] [] a b) := by
      by_cases room : n < 64
      · exact completes_at run now (State.host_bar0 held r data f room) ⟨fun _ => ⟨State.host_settle .., Kept.rfl.host.settled now⟩,
          fun full => absurd room (not_lt.2 full)⟩
      · exact completes_at run now (State.bar0_full held r data f (not_lt.1 room)) ⟨fun h => absurd h room,
          fun _ => ⟨(State.get_settle ..).trans (a.get_count_same (by decide)), Kept.rfl.count.settled now⟩⟩
    revert p
    simp only [named, List.forall_mem_cons, List.not_mem_nil, false_imp_iff, implies_true, and_true]
    exact ⟨waits rfl, waits rfl, waits rfl, waits rfl, waits rfl, waits rfl, waits rfl, waits rfl, waits rfl, waits rfl, waits rfl, waits rfl, waits rfl,
      waits rfl, waits rfl, waits rfl, waits rfl, waits rfl, waits rfl, waits rfl, waits rfl⟩
  case write =>
    intro s t addr data a
    have now : s.advance t = a := rfl
    clear_value a
    intro free
    have effect : (if (15 : BitVec 4) ≠ 15 then a.setBit F.HOST_STATUS_CFG_REJECT true
          else if addr = Reg.COMP_TEST_CTRL && a.tableau && data.getLsbD 31 then a.setBit F.COMP_STATUS_TEST_REFUSED true
          else a.bar0 addr data (State.applyBar0 addr data)) = a.applyBar0 addr data := by
      refine (if_neg (by decide)).trans ((if_neg ?_).trans (State.bar0_of_not_tableau free ..))
      rw [free, Bool.and_false, Bool.false_and]
      exact Bool.false_ne_true
    refine completes_at (exec_registerWrite t addr data 15 s) now effect ⟨fun none => ?_, fun row f row_eq bad reject => ?_, fun row row_eq fits block => ?_⟩
    · rw [State.applyBar0_none none]
      exact Kept.rfl.settled now
    · rw [State.applyBar0_rejected row_eq bad]
      exact ⟨(State.bit_settle ..).trans (a.bit_rejectWrite reject), (a.kept_rejectWrite reject).settled now⟩
    · rw [State.applyBar0_plain row_eq fits block]
      refine ⟨fun f mem => ?_, (a.kept_writeByAccess data addr (List.mem_singleton.2 rfl)).settled now⟩
      rw [State.reg_settle]
      exact a.field_writeByAccess row_eq mem data
  case reserved => exact fun s addr i outside => ⟨s.getLsbD_readReg outside, s.getLsbD_liveReg outside⟩
  case capture =>
    intro s t addr a
    have now : s.advance t = a := rfl
    clear_value a
    have run := exec_loReadCapture t addr s
    by_cases pair : addr ∈ capturePairs
    · obtain ⟨x, hx⟩ : ∃ x, x = { a with latched := Sparse.set (fun _ => 0) a.latched addr (a.livePair addr) } := ⟨_, rfl⟩
      have kept : Kept [] [.latched] a (s.settle a x) := Kept.settled now (hx ▸ Kept.rfl.latched)
      have live (r : Nat) : (s.settle a x).liveReg r = a.liveReg r := State.liveReg_congr kept rfl r
      have latched (r : Nat) : Sparse.get (fun _ => 0) (s.settle a x).latched r = if addr = r then a.livePair addr else Sparse.get (fun _ => 0) a.latched r := by
        refine (Sparse.get_canon ..).trans ?_
        rw [hx, Sparse.get_set]
      refine completes_at (x := x) run now ((if_pos (by simpa using pair)).trans hx.symm) ⟨fun _ => ⟨?_, ?_, fun r other => ?_, kept⟩, fun h => absurd pair h⟩
      · rw [State.readReg, if_neg (by simpa using (State.apart_capturePairs addr pair).2), live, State.liveReg_pair pair]
      · rw [State.readReg, if_pos (by simpa using pair), Nat.add_sub_cancel, latched, if_pos rfl]
      · rw [State.readReg, State.readReg, live, latched]
        split
        next high =>
          have four : 4 ≤ r := by simp at high; exact high.1
          rw [if_neg (by omega)]
        next => rfl
    · exact completes_at (x := a) run now (if_neg (by simpa using pair)) ⟨fun h => absurd h pair, fun _ => Kept.rfl.settled now⟩

end Sys2Proof.Machine

/-! PROOFS. The tamper log (spec/16 R662) of a state whose next entry lies past its 16. -/

namespace Sys2Proof.Machine

set_option Elab.async false

/-- A register in the state that a command answers. -/
def regAfter (r : Nat) : Host.Outcome State Fault Refusal → Word
  | .next b => b.reg r
  | .fault _ => 0
  | .refused _ => 0

namespace State

/-- An entry's third dword is written as the log has it. -/
theorem reg_writeTlog (s : State) (n x y z w : Nat) : (s.writeTlog n [x, y, z, w]).reg (Reg.GHOST_TLOG (4 * n + 2)) = BitVec.ofNat 32 z := by
  change (State.setReg (State.setReg (State.setReg (State.setReg s _ _) _ _) _ _) _ _).reg _ = _
  rw [reg_setReg, if_neg (by simp), reg_setReg]
  exact if_pos rfl

/-- What of the domain decides whether an interval takes note of a tampered input. -/
def noted (s : State) : Bool × Option (Nat × MeterCore) × Option (Nat × MeterCore) := (s.ghost.absent, s.ghost.copyA, s.ghost.copyB)

theorem tamperFlag_none {s : State} (none : s.noted = (true, Option.none, Option.none)) : s.tamperFlag = s := by
  obtain ⟨absent, rest⟩ := Prod.mk.inj none
  obtain ⟨first, second⟩ := Prod.mk.inj rest
  have live : s.meterLive = false := by rw [meterLive, absent]; rfl
  rw [tamperFlag, live, latestCopy, first, second]
  rfl

/-- Without main power and without a retained interval, the log's entry of a tampered input ends with its third dword open. -/
theorem reg_tamper {s : State} (none : s.noted = (true, Option.none, Option.none)) (i : Nat) :
    (s.tamper i).reg (Reg.GHOST_TLOG (4 * s.ghost.tlogNext + 2)) = 0xFFFFFFFF#32 := by
  unfold tamper
  extract_lets k n x y z w v u
  have logged : z.reg (Reg.GHOST_TLOG (4 * n + 2)) = 0xFFFFFFFF#32 := reg_writeTlog ..
  have written : z.ghost = y.ghost := each_eq y ghost (fun j x => ghost_setReg ..) _
  have before : y.ghost = s.ghost := (ghost_count ..).trans ((ghost_setIbit ..).trans (ghost_setIbit ..))
  clear_value z
  have entries : Kept [] [.ghost] z w := Kept.rfl.each fun _ _ _ h => h.mapGhost
  have cleared : w.noted = z.noted := each_eq z noted (fun j x => by
    rw [noted, noted, ghost_mapGhost]
    split <;> rfl) _
  clear_value w
  have same : v.noted = (true, Option.none, Option.none) := by
    have after : v.noted = w.noted := by
      change (w.mapGhost _).noted = w.noted
      rw [noted, noted, ghost_mapGhost]
    rw [after, cleared, noted, written, before, ← noted, none]
  have flag : u = v := tamperFlag_none same
  have absent : u.ghost.absent = true := flag ▸ congrArg Prod.fst same
  rw [if_pos absent, flag]
  exact (entries.mapGhost.mapGhost : Kept [] [.ghost] z _).reg (by simp) |>.trans logged

end State

/-- The reset state, its domain running, both tamper inputs high at the latest sample, but the next entry of the log is entry 48. -/
def strayLog : State := { State.reset with ghost := { tampHigh := [0, 1], tlogNext := 48 } }

/-- Refutes O51: entry 48 of the log would stand at 0x5800, past the GHOST block; of a state that has it next, the second high sample writes
there (here the entry's third dword, at 0x5808), where the statement has every register outside the block as it was. -/
theorem not_outagesKeeperAndTamper : ¬ Obligations.OutagesKeeperAndTamper := by
  rintro ⟨-, -, -, -, -, -, -, -, tamper, -⟩
  obtain ⟨b, run, -, tampered⟩ := tamper strayLog 0 2#2
  obtain ⟨-, -, kept⟩ := tampered (by decide +kernel)
  have stated : b.reg 0x5808 = (strayLog.advance 0).reg 0x5808 := kept.reg (by decide +kernel)
  have written : regAfter 0x5808 (exec (.tamperSample 0 2#2) strayLog) = 0xFFFFFFFF#32 := by
    have tampered : exec (.tamperSample 0 2#2) strayLog = .next (strayLog.settle (strayLog.advance 0)
        (((strayLog.advance 0).tamper 1).mapGhost fun g => { g with tampHigh := [0, 1].filter fun i => (2#2).getLsbD i })) := by
      have first : (if ((2#2).getLsbD 0 == (strayLog.advance 0).ghost.tampHigh.contains 0 &&
          (2#2).getLsbD 0 != (strayLog.advance 0).ibit F.GHOST_STATUS_TAMP_NOW 0) = true then
          (if (2#2).getLsbD 0 = true then (strayLog.advance 0).tamper 0 else (strayLog.advance 0).tamperEnd 0) else strayLog.advance 0) =
          strayLog.advance 0 := if_neg (by decide +kernel)
      rw [exec_tamperSample, execTamperSample, State.run, if_neg (by decide +kernel)]
      dsimp only
      rw [State.each_cons, first, State.each_cons, if_pos (by decide +kernel), if_pos (by decide)]
      rfl
    have third : ((strayLog.advance 0).tamper 1).reg (Reg.GHOST_TLOG (4 * (strayLog.advance 0).ghost.tlogNext + 2)) = 0xFFFFFFFF#32 :=
      State.reg_tamper (by decide +kernel) 1
    have place : Reg.GHOST_TLOG (4 * (strayLog.advance 0).ghost.tlogNext + 2) = 0x5808 := by decide +kernel
    rw [place] at third
    rw [tampered, regAfter, State.reg_settle, State.reg_mapGhost, third]
  have before : (strayLog.advance 0).reg 0x5808 ≠ 0xFFFFFFFF#32 := by decide +kernel
  rw [run] at written
  exact before (stated.symm.trans written)

end Sys2Proof.Machine

/-! PROOFS. Metering (spec/09 R377 to R403): what the metrology path leaves as it was, whatever it meters. -/

namespace Sys2Proof.Machine

set_option Elab.async false

/-- What metering writes. -/
abbrev meterRegs : List Nat := Reg.SCRUB_FAULT_SEEN :: blockRegs 0x4000 0x400

theorem mem_meterRegs {r : Nat} (h : 0x4000 ≤ r ∧ r % 4 = 0 ∧ r < 0x4400 := by decide) : r ∈ meterRegs :=
  List.mem_cons_of_mem _ (mem_blockRegs (by omega))

/-- Intervals as metering leaves them: the first one is there still with its edges and its demand, its sub-periods with more after them. -/
def Grown (l l' : List MInterval) : Prop :=
  ∀ h rest, l = h :: rest → ∃ h' rest', l' = h' :: rest' ∧ h'.start = h.start ∧ h'.stop = h.stop ∧ h'.maxDemand = h.maxDemand ∧
    h.subs.map SubPeriod.start <+: h'.subs.map SubPeriod.start

theorem Grown.refl (l : List MInterval) : Grown l l := fun h rest eq => ⟨h, rest, eq, rfl, rfl, rfl, List.prefix_refl _⟩

theorem Grown.trans {l l' l'' : List MInterval} (h : Grown l l') (h' : Grown l' l'') : Grown l l'' := by
  intro x rest eq
  obtain ⟨y, rest', eq', start, stop, best, subs⟩ := h x rest eq
  obtain ⟨z, rest'', eq'', start', stop', best', subs'⟩ := h' y rest' eq'
  exact ⟨z, rest'', eq'', start'.trans start, stop'.trans stop, best'.trans best, subs.trans subs'⟩

/-- An interval changed in what the first one may change in. -/
def Mild (f : MInterval → MInterval) : Prop :=
  ∀ i, (f i).start = i.start ∧ (f i).stop = i.stop ∧ (f i).maxDemand = i.maxDemand ∧ i.subs.map SubPeriod.start <+: (f i).subs.map SubPeriod.start

theorem Grown.head {f : MInterval → MInterval} (mild : Mild f) (h : MInterval) (rest rest' : List MInterval) :
    Grown (h :: rest) (f h :: rest') := by
  rintro x l ⟨⟩
  exact ⟨f h, rest', rfl, mild h⟩

theorem Grown.inInterval {f : MInterval → MInterval} (mild : Mild f) (t : Nat) (l : List MInterval) : Grown l (inInterval t f l) := by
  match l with
  | [] => exact nofun
  | [x] => exact Grown.head mild x [] []
  | x :: y :: l =>
    unfold Machine.inInterval
    split
    · exact Grown.head mild x _ _
    · exact Grown.head (f := id) (fun i => ⟨rfl, rfl, rfl, List.prefix_refl _⟩) x _ _

theorem Grown.mapLast {f : MInterval → MInterval} (mild : Mild f) (l : List MInterval) : Grown l (mapLast f l) := by
  match l with
  | [] => exact nofun
  | [x] => exact Grown.head mild x [] []
  | x :: y :: l => exact Grown.head (f := id) (fun i => ⟨rfl, rfl, rfl, List.prefix_refl _⟩) x _ _

theorem Grown.map {f : MInterval → MInterval} (mild : Mild f) (l : List MInterval) : Grown l (l.map f) := by
  match l with
  | [] => exact nofun
  | x :: l => exact Grown.head mild x _ _

theorem Grown.append (l l' : List MInterval) : Grown l (l ++ l') := by
  rintro h rest rfl
  exact ⟨h, rest ++ l', rfl, rfl, rfl, rfl, List.prefix_refl _⟩

/-- What metering does: the METER block and the metering state change, and events are raised, but the chain and a step that waits stand, and
the first interval is open still. -/
structure Metered (a b : State) : Prop where
  kept : Kept meterRegs [.meter, .router] a b
  time : b.elapsed = a.elapsed
  raises : State.Raises a b
  seal_ : b.meter.core.prevSeal = a.meter.core.prevSeal
  seq : b.meter.core.nextSeq = a.meter.core.nextSeq
  step : b.meter.stepAt = a.meter.stepAt
  refresh : b.meter.lastRefresh = a.meter.lastRefresh
  grown : Grown a.meter.core.ivals b.meter.core.ivals

namespace Metered

variable {a b c : State}

theorem rfl' : Metered a a := ⟨Kept.rfl, rfl, State.Raises.rfl, rfl, rfl, rfl, rfl, Grown.refl _⟩

theorem trans (h : Metered a b) (h' : Metered b c) : Metered a c :=
  ⟨h.kept.trans h'.kept, h'.time.trans h.time, h.raises.trans h'.raises, h'.seal_.trans h.seal_, h'.seq.trans h.seq, h'.step.trans h.step,
    h'.refresh.trans h.refresh, h.grown.trans h'.grown⟩

theorem when {f : State → State} {p : Bool} (h : Metered a b) (hf : Metered b (f b)) : Metered a (b.when p f) := by
  cases p with
  | false => exact h
  | true => exact h.trans hf

theorem each {α : Type} {f : α → State → State} {l : List α} (h : Metered a b) (hf : ∀ i ∈ l, ∀ x, Metered x (f i x)) :
    Metered a (b.each l f) := by
  induction l generalizing b with
  | nil => exact h
  | cons i l ih => exact ih (h.trans (hf i (List.mem_cons_self ..) b)) fun j hj => hf j (List.mem_cons_of_mem _ hj)

/-- Registers of the METER block written. -/
theorem regs (h : Metered a b) (k : Kept meterRegs [] b c) (time : c.elapsed = b.elapsed) : Metered a c := by
  have meter : c.meter = b.meter := k.2 .meter (by simp)
  exact h.trans ⟨k.mono (List.Subset.refl _) (by decide), time, State.Raises.rfl.of_router (k.2 .router (by simp)), by rw [meter], by rw [meter],
    by rw [meter], by rw [meter], meter ▸ Grown.refl _⟩

/-- The metering state changed in what is neither the core nor a step that waits. -/
theorem meter (h : Metered a b) {f : Meter → Meter} (core : (f b.meter).core = b.meter.core) (step : (f b.meter).stepAt = b.meter.stepAt)
    (refresh : (f b.meter).lastRefresh = b.meter.lastRefresh) : Metered a (b.mapMeter f) :=
  h.trans ⟨Kept.rfl.mapMeter, rfl, State.Raises.rfl.of_router rfl, congrArg MeterCore.prevSeal core, congrArg MeterCore.nextSeq core, step, refresh,
    (congrArg MeterCore.ivals core) ▸ Grown.refl _⟩

/-- The core changed but for the chain, its intervals grown. -/
theorem core (h : Metered a b) {f : MeterCore → MeterCore} (seal_ : (f b.meter.core).prevSeal = b.meter.core.prevSeal)
    (seq : (f b.meter.core).nextSeq = b.meter.core.nextSeq) (grown : Grown b.meter.core.ivals (f b.meter.core).ivals) :
    Metered a (b.mapCore f) :=
  h.trans ⟨Kept.rfl.mapMeter, rfl, State.Raises.rfl.of_router rfl, seal_, seq, rfl, rfl, grown⟩

theorem raiseAt (h : Metered a b) (stamp num inst : Nat) : Metered a (b.raiseAt stamp num inst) :=
  h.trans ⟨Kept.rfl.raiseFaultAt (List.mem_cons_self ..), State.elapsed_raiseAt .., ⟨_, State.router_raiseAt ..⟩, by rw [State.meter_raiseAt],
    by rw [State.meter_raiseAt], by rw [State.meter_raiseAt], by rw [State.meter_raiseAt], by rw [State.meter_raiseAt]; exact Grown.refl _⟩

theorem raise (h : Metered a b) (num inst : Nat) : Metered a (b.raise num inst) := h.raiseAt ..

end Metered

namespace State

variable (s : State)

theorem metered_extendTo (t n : Nat) : Metered s (s.extendTo t n) := by
  induction n generalizing s with
  | zero => exact .rfl'
  | succ n ih =>
    unfold extendTo
    split
    · exact .rfl'
    split
    · exact (Metered.rfl'.core rfl rfl (Grown.append _ _)).trans (ih _)
    split
    · split
      · refine (Metered.rfl'.core rfl rfl ?_).trans (ih _)
        refine Grown.mapLast ?_ _
        exact fun i => ⟨rfl, rfl, rfl, by simp⟩
      · exact .rfl'
    · exact .rfl'

theorem metered_extend (t : Nat) : Metered s (s.extend t) := by
  unfold extend
  split
  · exact .rfl'
  · exact s.metered_extendTo ..

/-- Sub-periods changed in what is not their start. -/
theorem starts_map {f : SubPeriod → SubPeriod} (h : ∀ u, (f u).start = u.start) (l : List SubPeriod) :
    l.map SubPeriod.start <+: (l.map f).map SubPeriod.start := by
  have same : (l.map f).map SubPeriod.start = l.map SubPeriod.start := by
    rw [List.map_map]
    exact List.map_congr_left fun u _ => h u
  rw [same]

theorem mild_spoil (t : Nat) : Mild (spoil t) := fun i => ⟨rfl, rfl, rfl, starts_map (fun u => by split <;> rfl) _⟩

theorem metered_quality (t q : Nat) : Metered s (s.quality t q) := by
  unfold quality
  extract_lets y
  refine Metered.core (b := y) (s.metered_extend t) ?_ ?_ ?_
  · rfl
  · rfl
  refine Grown.inInterval ?_ _ _
  intro i
  dsimp only
  split
  · exact mild_spoil _ { i with quality := setBitOf i.quality q }
  · exact ⟨rfl, rfl, rfl, List.prefix_refl _⟩

theorem metered_freezeEnds (t : Nat) : Metered s (s.freezeEnds t) := by
  refine Metered.rfl'.core rfl rfl ?_
  refine Grown.map ?_ _
  refine fun i => ⟨rfl, rfl, rfl, ?_⟩
  exact starts_map (fun u => by split <;> rfl) _

/-! Accumulators and pulses (R385 to R387, R395 to R397) -/

theorem metered_setBacklog {n : Nat} (small : n < 4) (v : Nat) : Metered s (s.setBacklog n v) :=
  (Metered.rfl'.core rfl rfl (Grown.refl _)).regs (Kept.rfl.set (mem_meterRegs (by dsimp only; omega))) (elapsed_set ..)

theorem metered_pulseAdvance (x d : Nat) {n : Nat} (small : n < 4) : Metered s (s.pulseAdvance x d n) := by
  unfold pulseAdvance
  split
  · extract_lets q r b y z
    have backlog : Metered s z := (Metered.rfl'.core rfl rfl (Grown.refl _)).trans (metered_setBacklog _ small _)
    split
    · refine Metered.when (backlog.regs (Kept.setBit (Kept.rfl) ?_ |>.count ?_) ?_) (Metered.rfl'.raise _ _)
      · exact mem_meterRegs (by dsimp only; omega)
      · exact mem_meterRegs (by dsimp only; omega)
      · exact (elapsed_count ..).trans (elapsed_setBit ..)
    · exact backlog
  · exact .rfl'

theorem metered_addAcc (n d : Nat) : Metered s (s.addAcc n d) := by
  unfold addAcc
  refine (Metered.rfl'.core rfl rfl (Grown.refl _)).each fun i mem x => x.metered_pulseAdvance _ _ (List.mem_range.1 mem)

theorem metered_accumulate (g : Nat) (p q sv ts : Rat) : Metered s (s.accumulate g p q sv ts) :=
  ((s.metered_addAcc ..).trans (metered_addAcc ..)).trans (metered_addAcc ..)

/-! The sample instant of all phases (R383, R389) -/

theorem metered_reversal (t : Nat) : Metered s (s.reversal t) := by
  refine (Metered.when (Metered.rfl'.core rfl rfl ?_) (metered_quality ..)).raiseAt ..
  refine Grown.inInterval ?_ _ _
  exact fun i => ⟨rfl, rfl, rfl, List.prefix_refl _⟩

theorem metered_judgeDir (t : Nat) (mean : Rat) : Metered s (s.judgeDir t mean) := by
  unfold judgeDir
  extract_lets h old new
  split
  · exact .rfl'
  · exact ((Metered.rfl'.core rfl rfl (Grown.refl _)).regs (Kept.rfl.setBit mem_meterRegs) (elapsed_setBit ..)).trans (metered_reversal ..)

theorem metered_closeInstant : Metered s s.closeInstant := by
  unfold closeInstant
  split
  · exact .rfl'
  next i eq =>
  extract_lets a b c d e l n mean meanQ f g h
  have instant : Metered s a := Metered.rfl'.meter rfl rfl rfl
  have ends : Metered s b := (instant.trans (metered_extend ..)).trans (metered_freezeEnds ..)
  have totals : Metered s e := (ends.trans (metered_accumulate ..)).meter rfl rfl rfl
  have shown : Metered e h := Metered.rfl'.regs (((Kept.rfl.setSat mem_meterRegs).setSat mem_meterRegs).setTop mem_meterRegs)
    ((elapsed_setTop ..).trans ((elapsed_setSat ..).trans (elapsed_setSat ..)))
  exact (totals.trans shown).trans (metered_judgeDir ..)

theorem metered_turnInstant (a : MSample) : Metered s (s.turnInstant a) := by
  unfold turnInstant
  split
  · split
    · exact .rfl'
    · exact metered_closeInstant _
  · exact .rfl'

theorem metered_joinInstant (x : Nat) (a : MSample) (p q sv : Rat) : Metered s (s.joinInstant x a p q sv) := by
  unfold joinInstant
  extract_lets b i j c
  have turned : Metered s b := (s.metered_turnInstant a).when (metered_quality ..)
  have joined : Metered s c := turned.meter rfl rfl rfl
  split
  · exact joined.trans (metered_closeInstant _)
  · exact joined

/-! One sample of a phase (R379 to R384, R388) -/

theorem metered_setMPhase (x : Nat) (p : MPhase) : Metered s (s.setMPhase x p) := Metered.rfl'.meter rfl rfl rfl

theorem metered_meterSample {x : Nat} (small : x < 3) (a : MSample) (amps : Rat) : Metered s (s.meterSample x a amps) := by
  unfold meterSample
  extract_lets b w ph
  have turned : Metered s b := s.metered_turnInstant a
  split
  split
  split
  extract_lets win win' refill c p q vr ir d e f g h low
  have shown : Metered c h := by
    refine Metered.rfl'.regs (Kept.rfl.setSat ?_ |>.setSat ?_ |>.setTop ?_ |>.setTop ?_ |>.setTop ?_) ?_
    iterate 5 exact mem_meterRegs (by dsimp only; omega)
    exact (elapsed_setTop ..).trans ((elapsed_setTop ..).trans ((elapsed_setTop ..).trans ((elapsed_setSat ..).trans (elapsed_setSat ..))))
  have metered : Metered s h := (turned.trans (metered_setMPhase ..)).trans shown
  split
  · exact metered.trans (metered_joinInstant ..)
  split
  · exact metered.trans (metered_joinInstant ..)
  · exact (metered.trans (metered_accumulate ..)).trans (metered_joinInstant ..)

theorem metered_meterPend {x : Nat} (small : x < 3) (prev : Option MSample) (a b : MSample) : Metered s (s.meterPend x prev a b) := by
  unfold meterPend
  split
  · exact metered_joinInstant ..
  · exact metered_meterSample _ small ..

theorem metered_flushPhase {x : Nat} (small : x < 3) : Metered s (s.flushPhase x) := by
  unfold flushPhase
  extract_lets ph
  split
  · exact .rfl'
  · exact (s.metered_setMPhase ..).trans (metered_meterPend _ small ..)

theorem metered_meterUpTo (e : Nat) : Metered s (s.meterUpTo e) := by
  unfold meterUpTo
  extract_lets y
  have flushed : Metered s y := Metered.rfl'.each fun x mem z => by
    split
    · split
      · exact z.metered_flushPhase (List.mem_range.1 mem)
      · exact .rfl'
    · exact .rfl'
  split
  · split
    · exact flushed.trans (metered_closeInstant _)
    · exact flushed
  · exact flushed

/-! Records and intervals that close (R400, R403, R404 to R409, R415) -/

end State

/-- What the closing of intervals does: the METER block, the metering state, and what the domain retains of it change, and events are raised; without a
power-fail warning the retained copies stand. -/
structure Closing (a b : State) : Prop where
  kept : Kept meterRegs [.meter, .router, .ghost] a b
  time : b.elapsed = a.elapsed
  raises : State.Raises a b
  refresh : b.meter.lastRefresh = a.meter.lastRefresh
  copies : a.bit F.GHOST_STATUS_PF_WARN = false → b.ghost.copyA = a.ghost.copyA ∧ b.ghost.copyB = a.ghost.copyB

theorem pfWarn_not_mem_meterRegs : Reg.GHOST_STATUS ∉ meterRegs := by
  intro mem
  rcases List.mem_cons.1 mem with eq | block
  · exact absurd eq (by decide)
  · obtain ⟨i, inside, eq⟩ := List.mem_map.1 block
    have : i < 256 := by simpa using inside
    have : (0x4000 : Nat) + 4 * i = 0x5404 := eq
    omega

namespace Closing

variable {a b c : State}

theorem rfl' : Closing a a := ⟨Kept.rfl, rfl, State.Raises.rfl, rfl, fun _ => ⟨rfl, rfl⟩⟩

theorem trans (h : Closing a b) (h' : Closing b c) : Closing a c := by
  refine ⟨h.kept.trans h'.kept, h'.time.trans h.time, h.raises.trans h'.raises, h'.refresh.trans h.refresh, fun live => ?_⟩
  obtain ⟨first, second⟩ := h.copies live
  obtain ⟨first', second'⟩ := h'.copies ((h.kept.bit pfWarn_not_mem_meterRegs).trans live)
  exact ⟨first'.trans first, second'.trans second⟩

theorem of_metered (h : Metered a b) : Closing a b := by
  have ghost : b.ghost = a.ghost := h.kept.2 .ghost (by decide)
  exact ⟨h.kept.mono (List.Subset.refl _) (by decide), h.time, h.raises, h.refresh, fun _ => by rw [ghost]; exact ⟨rfl, rfl⟩⟩

theorem when {f : State → State} {p : Bool} (h : Closing a b) (hf : Closing b (f b)) : Closing a (b.when p f) := by
  cases p with
  | false => exact h
  | true => exact h.trans hf

/-- The metering state changed in what is not the instant of its latest refresh. -/
theorem meter (h : Closing a b) {f : Meter → Meter} (refresh : (f b.meter).lastRefresh = b.meter.lastRefresh) : Closing a (b.mapMeter f) :=
  h.trans ⟨Kept.rfl.mapMeter, rfl, State.Raises.rfl.of_router rfl, refresh, fun _ => ⟨rfl, rfl⟩⟩

theorem regs (h : Closing a b) (k : Kept meterRegs [] b c) (time : c.elapsed = b.elapsed) : Closing a c :=
  h.trans (of_metered (Metered.rfl'.regs k time))

theorem raise (h : Closing a b) (num inst : Nat) : Closing a (b.raise num inst) := h.trans (of_metered (Metered.rfl'.raise num inst))

end Closing

namespace State

variable (s : State)

theorem kept_showAtlas : Kept [Reg.METER_SEQ, Reg.METER_OLDEST, Reg.METER_ATLAS, Reg.METER_OPEN_LO, Reg.METER_OPEN_HI] [] s s.showAtlas := by
  unfold showAtlas
  exact Kept.rfl.set.set.set.set.setPair

theorem elapsed_showAtlas : s.showAtlas.elapsed = s.elapsed := by
  unfold showAtlas
  rw [elapsed_setPair, elapsed_set, elapsed_set, elapsed_set, elapsed_set]

theorem atlasRegs_subset : [Reg.METER_SEQ, Reg.METER_OLDEST, Reg.METER_ATLAS, Reg.METER_OPEN_LO, Reg.METER_OPEN_HI] ⊆ meterRegs := by
  simp only [List.cons_subset, List.nil_subset, and_true]
  exact ⟨mem_meterRegs, mem_meterRegs, mem_meterRegs, mem_meterRegs, mem_meterRegs⟩

theorem closing_showAtlas : Closing s s.showAtlas :=
  Closing.rfl'.regs (s.kept_showAtlas.mono atlasRegs_subset) s.elapsed_showAtlas

theorem closing_enterAtlas (r : Rec) : Closing s (s.enterAtlas r) := by
  unfold enterAtlas
  extract_lets y
  have room : Closing s y := by
    dsimp only [y]
    split
    · exact .rfl'
    split
    · exact .rfl'
    · refine Closing.when (Closing.rfl'.meter rfl) ?_
      exact (((Closing.rfl'.regs (Kept.rfl.count mem_meterRegs) (elapsed_count ..)).raise ..).meter rfl)
  exact (room.meter rfl).trans (closing_showAtlas _)

theorem kept_retain : Kept [] [.ghost] s s.retain := Kept.rfl.ghost

/-- After a power-fail warning the copies change. -/
theorem closing_retain {s : State} (warn : s.bit F.GHOST_STATUS_PF_WARN = true) : Closing s s.retain :=
  ⟨s.kept_retain.mono (List.nil_subset _) (by decide), rfl, Raises.rfl.of_router rfl, rfl, fun live => absurd (warn.symm.trans live) (by decide)⟩

theorem closing_fileRecord (body : List Byte) : Closing s (s.fileRecord body) := by
  unfold fileRecord
  extract_lets mac r y g z
  have core : Closing s y := Closing.rfl'.meter rfl
  have last : Closing y z := ⟨Kept.rfl.ghost, rfl, Raises.rfl.of_router rfl, rfl, fun _ => ⟨rfl, rfl⟩⟩
  have filed : Closing s (z.enterAtlas r) := (core.trans last).trans (closing_enterAtlas ..)
  cases warn : z.bit F.GHOST_STATUS_PF_WARN with
  | false => exact filed
  | true =>
    have still : (z.enterAtlas r).bit F.GHOST_STATUS_PF_WARN = true := ((closing_enterAtlas z r).kept.bit pfWarn_not_mem_meterRegs).trans warn
    exact filed.trans (closing_retain still)

theorem closing_closeFirst (t extra : Nat) : Closing s (s.closeFirst t extra) := by
  unfold closeFirst
  extract_lets y
  have frozen : Closing s y := .of_metered (s.metered_freezeEnds t)
  split
  · exact frozen
  · exact ((frozen.meter rfl).trans (closing_fileRecord ..)).raise ..

theorem closing_closeEnded (now n : Nat) : Closing s (s.closeEnded now n) := by
  induction n generalizing s with
  | zero => exact .rfl'
  | succ n ih =>
    unfold closeEnded
    split
    · exact .rfl'
    split
    · exact (s.closing_closeFirst ..).trans (ih _)
    · exact .rfl'

theorem closing_openInterval (t flags quality : Nat) : Closing s (s.openInterval t flags quality) := by
  unfold openInterval
  extract_lets from_ i j y z w
  have opened : Closing s y := Closing.rfl'.meter rfl
  have extended : Closing s z := opened.trans (.of_metered (metered_extendTo ..))
  exact (extended.when (Closing.rfl'.meter rfl)).trans (closing_showAtlas _)

theorem closing_finishStep : Closing s s.finishStep := by
  unfold finishStep
  split
  · exact .rfl'
  next w step =>
  extract_lets y z owed v
  have flushed : Closing s y := .of_metered (((Metered.rfl'.each fun x mem u => u.metered_flushPhase (List.mem_range.1 mem)).trans
    (metered_closeInstant _)).trans (metered_extend ..))
  have ended : Closing s v := (flushed.trans (closing_closeEnded ..)).trans (closing_closeFirst ..)
  exact (ended.meter rfl).trans (closing_openInterval ..)

theorem finishStep_none {s : State} (h : s.meter.stepAt = none) : s.finishStep = s := by
  rw [finishStep, h]

end State

end Sys2Proof.Machine

/-! PROOFS. The ghost-light domain's store, its harvester and the power-fail warning (spec/16 R639, R640, R643, R644, R647, R657). -/

namespace Sys2Proof.Machine

set_option Elab.async false

/-- What is kept from a state on whose tables are this instant's is kept in the state that the command answers. -/
theorem Kept.settled_from {regs : List Nat} {parts : List Part} {s a x y : State} {t : Nat} (now : s.advance t = a) (tables : y.tables = a.tables)
    (k : Kept regs parts y x) (ht : .tables ∉ parts := by decide) : Kept regs parts y (s.settle a x) := by
  have same : x.tables = s.tables := (k.2 .tables ht).trans (tables.trans (now ▸ s.tables_advance t))
  refine ⟨fun r hr => (State.reg_settle ..).trans (k.1 r hr), fun p hp => ?_⟩
  have here := k.2 p hp
  cases p
  case latched => exact fun i => (Sparse.get_canon ..).trans (here i)
  case tables => exact (if_pos same).trans (same.symm.trans here)
  all_goals exact here

namespace State

variable (s : State)

/-! The store and the harvester (R639, R640, R643) -/

theorem kept_judgeHarvest : Kept [Reg.GHOST_STATUS] [.router] s s.judgeHarvest := by
  unfold judgeHarvest
  exact Kept.when Kept.rfl.set fun h => h.raise

/-- The mode judged on the latest levels. -/
def harvestNow (s : State) : Nat := s.harvestMode (s.get F.GHOST_LEVELS_VSTOR) (s.get F.GHOST_LEVELS_VTEG)

theorem harvestMode_lt (v g : Nat) : s.harvestMode v g < 8 := by
  unfold harvestMode
  repeat' split
  all_goals decide

theorem harvest_judgeHarvest : s.judgeHarvest.get F.GHOST_STATUS_HARVEST = s.harvestNow := by
  refine (when_eq (fun x => x.get F.GHOST_STATUS_HARVEST) _ (get_raise_apart _ (by decide))).trans ?_
  exact get_set_of_lt _ (by decide) (s.harvestMode_lt ..)

theorem get_judgeHarvest {f : FieldRef} (other : apart F.GHOST_STATUS_HARVEST f = true) (seen : apart F.SCRUB_FAULT_SEEN_SEEN f = true) :
    s.judgeHarvest.get f = s.get f :=
  (when_eq (fun x => x.get f) _ (get_raise_apart _ seen)).trans (get_set_apart _ other)

/-- An event raised where a condition holds, the router being otherwise as it was. -/
theorem raised_when {a x : State} {regs : List Nat} {parts : List Part} (k : Kept regs parts a x) {p : Bool} {q : Prop} [Decidable q]
    (same : p = decide q) (num : Nat) (hp : .router ∉ parts := by decide) (hd : .datum ∉ parts := by decide) :
    Raised (if q then [(a.datum, num, 0)] else []) a (x.when p fun s => s.raise num) := by
  subst same
  by_cases h : q
  · rw [if_pos h, decide_eq_true h, when_true]
    exact k.raised hp hd
  · rw [if_neg h, decide_eq_false h, when_false, Raised, k.2 .router hp]
    simp

/-- A change of mode is told with main power present (R643). -/
theorem raised_judgeHarvest : Raised (if s.harvestNow ≠ s.get F.GHOST_STATUS_HARVEST ∧ s.ghost.absent = false then [(s.datum, 29, 0)] else [])
    s s.judgeHarvest := by
  refine raised_when (Kept.rfl.set : Kept [Reg.GHOST_STATUS] [] s (s.set F.GHOST_STATUS_HARVEST s.harvestNow)) ?_ 29
  rw [Bool.eq_iff_iff, decide_eq_true_iff]
  simp [harvestNow]

/-- The levels and the store's state that a sample of VSTOR shows (R639, R640). -/
def levelled (v : Nat) (s : State) : State :=
  ((s.setTop F.GHOST_LEVELS_VSTOR v).setBit F.GHOST_STATUS_STORE_OK (vSeal ≤ v)).setBit F.GHOST_STATUS_TRICKLING
    (!s.ghost.store && v < s.vMaxStore && (s.bit F.GHOST_STATUS_TRICKLING || v + 50 < s.vMaxStore))

theorem kept_levelled (v : Nat) : Kept [Reg.GHOST_LEVELS, Reg.GHOST_STATUS] [] s (s.levelled v) := Kept.rfl.setTop.setBit.setBit

theorem storeSample_eq (v : Nat) : s.storeSample v =
    (s.levelled v).when (s.bit F.GHOST_STATUS_STORE_OK && v < vSeal && !s.ghost.absent) fun s => s.raise 28 := by
  have trickling : ((s.setTop F.GHOST_LEVELS_VSTOR v).setBit F.GHOST_STATUS_STORE_OK (vSeal ≤ v)).bit F.GHOST_STATUS_TRICKLING =
      s.bit F.GHOST_STATUS_TRICKLING := (bit_setBit_apart _ (by decide)).trans (bit_set_apart _ (by decide))
  have vmax : ((s.setTop F.GHOST_LEVELS_VSTOR v).setBit F.GHOST_STATUS_STORE_OK (vSeal ≤ v)).vMaxStore = s.vMaxStore :=
    congrArg (10 * ·) ((get_setBit_apart _ (by decide)).trans (get_set_apart _ (by decide)))
  unfold storeSample
  extract_lets was x y charge z
  have same : charge = (!s.ghost.store && v < s.vMaxStore && (s.bit F.GHOST_STATUS_TRICKLING || v + 50 < s.vMaxStore)) := by
    dsimp only [charge]
    rw [trickling, vmax]
    rfl
  have levels : z = s.levelled v := congrArg (setBit y F.GHOST_STATUS_TRICKLING) same
  rw [levels, (s.kept_levelled v).2 .ghost (by simp)]

theorem kept_storeSample (v : Nat) : Kept [Reg.GHOST_LEVELS, Reg.GHOST_STATUS] [.router] s (s.storeSample v) := by
  rw [storeSample_eq]
  exact (s.kept_levelled v).mono.when fun h => h.raise

theorem get_levelled {f : FieldRef} (vstor : apart F.GHOST_LEVELS_VSTOR f = true) (ok : apart F.GHOST_STATUS_STORE_OK f = true)
    (trickle : apart F.GHOST_STATUS_TRICKLING f = true) (v : Nat) : (s.levelled v).get f = s.get f := by
  rw [levelled, get_setBit_apart _ trickle, get_setBit_apart _ ok]
  exact get_set_apart _ vstor

theorem vstor_levelled (v : Nat) : (s.levelled v).get F.GHOST_LEVELS_VSTOR = min v 65535 := by
  rw [levelled, get_setBit_apart _ (by decide), get_setBit_apart _ (by decide)]
  exact get_set_of_lt _ (by decide) (by simp)

theorem storeOk_levelled (v : Nat) : (s.levelled v).bit F.GHOST_STATUS_STORE_OK = decide (vSeal ≤ v) := by
  rw [levelled, bit_setBit_apart _ (by decide)]
  exact bit_setBit_same _ (by decide) rfl

theorem trickling_levelled (v : Nat) : (s.levelled v).bit F.GHOST_STATUS_TRICKLING =
    (!s.ghost.store && v < s.vMaxStore && (s.bit F.GHOST_STATUS_TRICKLING || v + 50 < s.vMaxStore)) := by
  rw [levelled]
  exact bit_setBit_same _ (by decide) rfl

/-- Of a sample's fields, the event that it raises changes none. -/
theorem get_storeSample {f : FieldRef} (seen : apart F.SCRUB_FAULT_SEEN_SEEN f = true) (v : Nat) : (s.storeSample v).get f = (s.levelled v).get f := by
  rw [storeSample_eq]
  exact when_eq (fun x => x.get f) _ (get_raise_apart _ seen)

theorem raised_storeSample (v : Nat) : Raised (if s.bit F.GHOST_STATUS_STORE_OK = true ∧ v < vSeal ∧ s.ghost.absent = false then [(s.datum, 28, 0)] else [])
    s (s.storeSample v) := by
  rw [storeSample_eq]
  refine raised_when (s.kept_levelled v) ?_ 28
  exact Bool.eq_iff_iff.2 (by simp [and_assoc])

/-- The mode by the table of R643 is a matter of GHOST_CFG and of the levels. -/
theorem harvestMode_congr {a b : State} (cfg : b.reg Reg.GHOST_CFG = a.reg Reg.GHOST_CFG) (v g : Nat) : b.harvestMode v g = a.harvestMode v g := by
  have field {f : FieldRef} (hf : f.addr = Reg.GHOST_CFG) : b.get f = a.get f := by rw [State.get, State.get, hf, cfg]
  rw [harvestMode, harvestMode, vMaxStore, vMaxStore, State.bit, State.bit, field rfl, field rfl]

/-- Every register of the GHOST block is at its power-up value after the domain's start, and no other has changed (R644). -/
theorem reg_domainStart (r : Nat) : s.domainStart.reg r = if 0x5400 ≤ r ∧ r < 0x5800 then resetVal r else s.reg r := by
  have filtered (m : SMap Word) : Sparse.get resetVal (m.filter fun e => e.1 < 0x5400 || 0x5800 ≤ e.1) r =
      if 0x5400 ≤ r ∧ r < 0x5800 then resetVal r else Sparse.get resetVal m r := by
    induction m with
    | nil => simp [Sparse.get]
    | cons e m ih =>
      obtain ⟨k, v⟩ := e
      by_cases block : 0x5400 ≤ k ∧ k < 0x5800
      · rw [List.filter_cons_of_neg (by simp; omega), ih, Sparse.get_cons]
        split
        · rfl
        · rw [if_neg (by rintro rfl; contradiction)]
      · rw [List.filter_cons_of_pos (by simp; omega), Sparse.get_cons, ih, Sparse.get_cons]
        by_cases same : k = r
        · rw [if_pos same, if_pos same, if_neg (same ▸ block)]
        · rw [if_neg same, if_neg same]
  exact filtered s.regs

theorem kept_domainStart : Kept (List.range 0x5800) [.ghost, .latched] s s.domainStart := by
  refine ⟨fun r hr => ?_, fun p hp => ?_⟩
  · rw [reg_domainStart, if_neg (by simp at hr; omega)]
  · cases p with
    | ghost | latched => exact absurd (by simp) hp
    | _ => exact Eq.refl _

/-- What the power-fail warning and a refresh retain (R410, R647). -/
def refreshed (s : State) : State := s.when s.meterLive fun s => s.finishStep.retain

/-- The warning gone (R647). -/
def ridden (s : State) : State :=
  ((s.setBit F.GHOST_STATUS_PF_WARN false).mapGhost fun g => { g with store := false }).mapMeter fun m => { m with lastRefresh := s.elapsed }

/-- What is retained is the latest copy (R657). -/
theorem latestCopy_retain : s.retain.latestCopy = some s.meter.core := by
  unfold retain
  extract_lets gen a b core
  by_cases older : a ≤ b
  · rw [latestCopy]
    simp only [older, if_true]
    cases copy : s.ghost.copyB with
    | none => rfl
    | some y => 
      have : b = y.1 := by simp [b, gen, copy]
      simp [core]
      omega
  · rw [latestCopy]
    simp only [older, if_false]
    cases copy : s.ghost.copyA with
    | none => rfl
    | some y => 
      have : a = y.1 := by simp [a, gen, copy]
      simp [core]
      omega

end State

/-- Settles O50, event by event of the domain. -/
theorem storeHarvesterAndWarning : Obligations.StoreHarvesterAndWarning := by
  unfold Obligations.StoreHarvesterAndWarning
  refine ⟨?store, ?mpp, ?mode, ?stop, ?start, ?warn, ?ride⟩
  case store =>
    intro s t v g a m max0
    have now : s.advance t = a := rfl
    clear_value a
    have run := exec_vstorSample t v g s
    cases on : a.ghost.running with
    | false => exact completes_at (x := a) run now (if_neg (by simp [on])) ⟨fun _ => Kept.rfl.settled now, nofun⟩
    | true =>
      obtain ⟨x, hx⟩ : ∃ x, x = a.setTop F.GHOST_LEVELS_VTEG g := ⟨_, rfl⟩
      have keptx : Kept [Reg.GHOST_LEVELS] [] a x := hx ▸ Kept.rfl.setTop
      have same {f : FieldRef} (hf : apart F.GHOST_LEVELS_VTEG f = true) : x.get f = a.get f := hx ▸ State.get_set_apart _ hf
      have ghost : x.ghost = a.ghost := keptx.2 .ghost (by simp)
      have datum : x.datum = a.datum := keptx.2 .datum (by simp)
      obtain ⟨y, hy⟩ : ∃ y, y = x.storeSample v := ⟨_, rfl⟩
      have kepty : Kept [Reg.GHOST_LEVELS, Reg.GHOST_STATUS] [.router] a y := hy ▸ keptx.mono.trans (x.kept_storeSample v)
      have vteg : y.get F.GHOST_LEVELS_VTEG = min g 65535 := by
        rw [hy, State.get_storeSample _ (by decide), State.get_levelled _ (by decide) (by decide) (by decide), hx]
        exact State.get_set_of_lt _ (by decide) (by simp)
      have vstor : y.get F.GHOST_LEVELS_VSTOR = min v 65535 := by
        rw [hy, State.get_storeSample _ (by decide), State.vstor_levelled]
      have mode : y.harvestNow = m := by
        rw [State.harvestNow, vteg, vstor]
        exact State.harvestMode_congr (kepty.reg (by decide)) ..
      have harvest : y.get F.GHOST_STATUS_HARVEST = a.get F.GHOST_STATUS_HARVEST := by
        rw [hy, State.get_storeSample _ (by decide), State.get_levelled _ (by decide) (by decide) (by decide), same (by decide)]
      have absent : y.ghost.absent = a.ghost.absent := congrArg Ghost.absent (kepty.2 .ghost (by decide))
      have time : y.datum = a.datum := kepty.2 .datum (by decide)
      have told : Raised (if a.bit F.GHOST_STATUS_STORE_OK = true ∧ v < vSeal ∧ a.ghost.absent = false then [(a.datum, 28, 0)] else []) a y := by
        have first := x.raised_storeSample v
        rw [State.bit, same (by decide), ← State.bit, ghost, datum, ← hy] at first
        rw [Raised, keptx.2 .router (by simp)] at first
        exact first
      have again := y.raised_judgeHarvest
      rw [mode, harvest, absent, time] at again
      have field {f : FieldRef} (hf : apart F.GHOST_STATUS_HARVEST f = true) (seen : apart F.SCRUB_FAULT_SEEN_SEEN f = true) :
          (s.settle a y.judgeHarvest).get f = y.get f := (State.get_settle ..).trans (y.get_judgeHarvest hf seen)
      refine completes_at (x := y.judgeHarvest) run now ((if_pos on).trans (by rw [hy, hx])) ⟨nofun, fun _ => ⟨?_, ?_, ?_, ?_, ?_, ?_, ?_⟩⟩
      · exact (field (by decide) (by decide)).trans vstor
      · exact (field (by decide) (by decide)).trans vteg
      · rw [State.bit, field (by decide) (by decide), hy, State.get_storeSample _ (by decide), ← State.bit, State.storeOk_levelled, decide_eq_true_iff]
      · exact (State.get_settle ..).trans (y.harvest_judgeHarvest.trans mode)
      · rw [State.bit, field (by decide) (by decide), hy, State.get_storeSample _ (by decide), ← State.bit, State.trickling_levelled, ghost, State.vMaxStore,
          State.bit, same (by decide), same (by decide), ← State.bit]
        simp [max0, and_assoc]
      · exact (told.append again).settle
      · exact (kepty.trans y.kept_judgeHarvest.mono).settled now
  case mpp =>
    intro s t x a m
    have now : s.advance t = a := rfl
    clear_value a
    have run := exec_mppSample t x s
    cases on : a.ghost.running with
    | false => exact completes_at (x := a) run now (if_neg (by simp [on])) ⟨fun _ => Kept.rfl.settled now, nofun⟩
    | true =>
      obtain ⟨y, hy⟩ : ∃ y, y = a.setTop F.GHOST_MPP_VMPP (max 250 x) := ⟨_, rfl⟩
      have kept : Kept [Reg.GHOST_MPP] [] a y := hy ▸ Kept.rfl.setTop
      have vmpp : y.get F.GHOST_MPP_VMPP = min (max 250 x) 65535 := hy ▸ State.get_set_of_lt _ (by decide) (by simp)
      have mode : y.harvestNow = m := by
        rw [State.harvestNow, kept.get, kept.get]
        exact State.harvestMode_congr kept.reg ..
      have harvest : y.get F.GHOST_STATUS_HARVEST = a.get F.GHOST_STATUS_HARVEST := kept.get
      have told := y.raised_judgeHarvest
      rw [mode, harvest, kept.2 .ghost (by simp), kept.2 .datum (by simp), Raised, kept.2 .router (by simp)] at told
      refine completes_at (x := y.judgeHarvest) run now ((if_pos on).trans (by rw [hy])) ⟨nofun, fun _ => ⟨?_, ?_, ?_, ?_⟩⟩
      · exact (State.get_settle ..).trans ((y.get_judgeHarvest (by decide) (by decide)).trans vmpp)
      · exact (State.get_settle ..).trans (y.harvest_judgeHarvest.trans mode)
      · exact told
      · exact (kept.mono.trans y.kept_judgeHarvest.mono).settled now
  case mode =>
    intro s v g
    unfold State.harvestMode State.vMaxStore
    simp only [Bool.not_eq_true', Bool.eq_false_iff]
  case stop =>
    intro s t a
    have now : s.advance t = a := rfl
    clear_value a
    have run := exec_domainStop t s
    by_cases still : a.ghost.running = false ∨ a.ghost.store = false ∨ vDead ≤ a.get F.GHOST_LEVELS_VSTOR
    · refine completes_at (x := a) run now (if_neg ?_) ?_
      · simp only [Bool.and_eq_true, decide_eq_true_eq, not_and, not_lt]
        grind
      · rw [if_pos still]
        exact Kept.rfl.settled now
    · refine completes_at run now (if_pos ?_) ?_
      · simp only [not_or, Bool.not_eq_false, not_le] at still
        simp [still]
      · rw [if_neg still]
        exact ⟨rfl, rfl, rfl, rfl, Kept.rfl.ghost.settled now⟩
  case start =>
    intro s t a
    have now : s.advance t = a := rfl
    clear_value a
    have run := exec_domainStart t s
    by_cases on : a.ghost.running = true
    · refine completes_at (x := a) run now (if_pos on) ?_
      rw [if_pos on]
      exact Kept.rfl.settled now
    · refine completes_at (x := a.domainStart) run now (if_neg on) ?_
      rw [if_neg on]
      have block (r : Nat) (low : 0x5400 ≤ r) (high : r < 0x5800) : (s.settle a a.domainStart).reg r = resetVal r := by
        rw [State.reg_settle, State.reg_domainStart, if_pos ⟨low, high⟩]
      have other (r : Nat) (out : r < 0x5400 ∨ 0x5800 ≤ r) : (s.settle a a.domainStart).reg r = a.reg r := by
        rw [State.reg_settle, State.reg_domainStart, if_neg (by omega)]
      refine ⟨?_, ?_, block, ?_, other, fun p ghost latched => ?_⟩
      · have rails : (a.resetRange 0x5400 0x5800).get F.POWER_STATUS_RAIL_OK = a.get F.POWER_STATUS_RAIL_OK := by
          have reg : (a.resetRange 0x5400 0x5800).reg Reg.POWER_STATUS = a.reg Reg.POWER_STATUS :=
            (a.reg_domainStart Reg.POWER_STATUS).trans (if_neg (by decide))
          rw [State.get, State.get, reg]
        rw [State.ghost_settle, State.domainStart, rails]
        rfl
      · rfl
      · rw [State.bit, State.get, block _ (by decide) (by decide)]
        decide +kernel
      · have kept : Kept (List.range 0x5800) [.ghost, .latched] a a.domainStart := a.kept_domainStart
        exact (kept.settled now).2 p (by simp [ghost, latched])
  case warn =>
    intro s t a
    have now : s.advance t = a := rfl
    clear_value a
    have run := exec_pfWarn t s
    by_cases done : a.bit F.GHOST_STATUS_PF_WARN = true ∨ a.ghost.running = false
    · refine completes_at (x := a) run now (if_pos (by simpa using done)) ⟨fun none on => ?_, fun _ => Kept.rfl.settled now⟩
      rcases done with warned | off
      · exact absurd (none.symm.trans warned) (by decide)
      · exact absurd (on.symm.trans off) (by decide)
    · obtain ⟨y, hy⟩ : ∃ y, y = a.refreshed := ⟨_, rfl⟩
      obtain ⟨base, copy, live, gone⟩ : Kept [] [.ghost] (if a.meterLive then a.finishStep else a) y ∧ True ∧
          (a.meterLive = true → y.latestCopy = some a.finishStep.meter.core) ∧ (a.meterLive = false → y.latestCopy = a.latestCopy) := by
        rw [hy, State.refreshed]
        cases a.meterLive with
        | true => exact ⟨State.kept_retain _, trivial, fun _ => State.latestCopy_retain _, nofun⟩
        | false => exact ⟨Kept.rfl, trivial, nofun, fun _ => rfl⟩
      have tables : (if a.meterLive then a.finishStep else a).tables = a.tables := by
        split
        · exact a.closing_finishStep.kept.2 .tables (by decide)
        · rfl
      obtain ⟨z, hz⟩ : ∃ z, z = (y.setBit F.GHOST_STATUS_PF_WARN true).setBit F.GHOST_STATUS_TRICKLING false := ⟨_, rfl⟩
      have keptz : Kept [Reg.GHOST_STATUS] [] y z := hz ▸ Kept.rfl.setBit.setBit
      have ghost : z.ghost = y.ghost := keptz.2 .ghost (by simp)
      have warned : z.bit F.GHOST_STATUS_PF_WARN = true := by
        rw [hz, State.bit_setBit_apart _ (by decide)]
        exact State.bit_setBit_same _ (by decide) rfl
      have trickle : z.bit F.GHOST_STATUS_TRICKLING = false := hz ▸ State.bit_setBit_same _ (by decide) rfl
      have copies : (z.mapGhost fun g => { g with store := true }).latestCopy = y.latestCopy := by
        rw [State.latestCopy, State.latestCopy, State.ghost_mapGhost, ghost]
      have last : Kept [] [.ghost] z (z.mapGhost fun g => { g with store := true }) := Kept.rfl.mapGhost
      refine completes_at (x := z.mapGhost fun g => { g with store := true }) run now
        ((if_neg (by simpa using done)).trans (by rw [hz, hy]; rfl)) ⟨fun _ _ => ⟨?_, ?_, ?_, fun on => ?_, fun off => ?_, ?_⟩, fun h => absurd h done⟩
      · exact (State.bit_settle ..).trans ((last.bit (by simp)).trans warned)
      · exact (State.bit_settle ..).trans ((last.bit (by simp)).trans trickle)
      · rw [State.ghost_settle, State.ghost_mapGhost]
      · exact (show (s.settle a (z.mapGhost fun g => { g with store := true })).latestCopy = (z.mapGhost fun g => { g with store := true }).latestCopy from rfl).trans
          (copies.trans (live on))
      · exact (show (s.settle a (z.mapGhost fun g => { g with store := true })).latestCopy = (z.mapGhost fun g => { g with store := true }).latestCopy from rfl).trans
          (copies.trans (gone off))
      · exact Kept.settled_from now tables ((base.mono.trans keptz.mono).trans last.mono)
  case ride =>
    intro s t a
    have now : s.advance t = a := rfl
    clear_value a
    have run := exec_pfRide t s
    by_cases still : a.bit F.GHOST_STATUS_PF_WARN = false ∨ a.ghost.absent = true
    · refine completes_at (x := a) run now (if_neg ?_) ?_
      · rcases still with h | h <;> simp [h]
      · rw [if_pos still]
        exact Kept.rfl.settled now
    · simp only [not_or, Bool.not_eq_false, Bool.not_eq_true] at still
      obtain ⟨y, hy⟩ : ∃ y, y = a.ridden := ⟨_, rfl⟩
      have kept : Kept [Reg.GHOST_STATUS] [.ghost, .meter] a y := hy ▸ Kept.rfl.setBit.mapGhost.mapMeter
      have clear : y.bit F.GHOST_STATUS_PF_WARN = false := by
        rw [hy, State.ridden]
        exact ((Kept.rfl.mapGhost.mapMeter : Kept [] [.ghost, .meter] (a.setBit F.GHOST_STATUS_PF_WARN false) _).bit (by simp)).trans
          (State.bit_setBit_same _ (by decide) rfl)
      have ghost : y.ghost = { a.ghost with store := false } := by
        rw [hy, State.ridden, State.ghost_mapMeter, State.ghost_mapGhost, State.ghost_setBit]
      have meter : y.meter = { a.meter with lastRefresh := a.elapsed } := by
        rw [hy, State.ridden, State.meter_mapMeter, State.meter_mapGhost, State.meter_setBit]
      refine completes_at (x := (y.count F.GHOST_PF_RIDES_COUNT).raise 27) run now ((if_pos (by simp [still])).trans (by rw [hy]; rfl)) ?_
      rw [if_neg (by simp [still])]
      refine ⟨?_, ?_, ?_, ?_, ?_, ?_⟩
      · exact (State.bit_settle ..).trans ((State.bit_raise_apart _ (by decide)).trans ((State.bit_set_apart _ (by decide)).trans clear))
      · rw [State.ghost_settle, State.ghost_raise, State.ghost_count, ghost]
      · rw [State.get_settle, State.get_raise_apart _ (by decide), State.get_count_same _ (by decide), kept.get (by decide)]
        rfl
      · rw [State.meter_settle, State.meter_raise, State.meter_count, meter]
      · exact (kept.mono.count : Kept [Reg.GHOST_STATUS, Reg.GHOST_PF_RIDES] [.ghost, .meter] a _).raised.settle
      · exact (kept.mono.count.raise).settled now

end Sys2Proof.Machine

/-! PROOFS. Pulses and the refresh of the retained state (spec/09 R395, R396, R410, spec/16 R657). -/

namespace Sys2Proof.Machine

set_option Elab.async false

namespace State

variable (s : State)

theorem kept_pulseLevel (n : Nat) (active : Bool) : Kept [] [.router] s (s.pulseLevel n active) := Kept.rfl.router

/-- The pin of an output that has no pulse or one (R395). -/
theorem evioPin_pulseLevel (n : Nat) (active : Bool) : Sparse.get (fun _ => .highZ) (s.pulseLevel n active).router.evioPin n =
    if active != (s.tbl8 tid.pulseMap (16 * n + 1)).testBit 1 then EvioLevel.high else .low := by
  refine (Sparse.get_set ..).trans (if_pos rfl)

theorem router_pulseLevel (n : Nat) (active : Bool) :
    (s.pulseLevel n active).router = { s.router with evioPin := (s.pulseLevel n active).router.evioPin } := rfl

theorem kept_setBacklog (n v : Nat) : Kept [Reg.METER_PULSE n] [.meter] s (s.setBacklog n v) :=
  Kept.rfl.mapMeter.set (List.mem_singleton.2 rfl)

theorem backlog_setBacklog (n v : Nat) : Sparse.get (fun _ => 0) (s.setBacklog n v).meter.core.backlog n = v := by
  rw [setBacklog, meter_set]
  exact (Sparse.get_set ..).trans (if_pos rfl)

theorem pulseOut_setPulseOut (n : Nat) (p : PulseOut) : (s.setPulseOut n p).pulseOut n = p :=
  (Sparse.get_set ..).trans (if_pos rfl)

theorem tbl8_congr' {a b : State} (tables : b.tables = a.tables) (id off : Nat) : b.tbl8 id off = a.tbl8 id off := by
  rw [tbl8, tbl8, tableMem, tableMem, tables]

/-- The copy written longer ago takes the metering state, with the newer generation (R657). -/
theorem ghost_retain : s.retain.ghost =
    if (s.ghost.copyA.map Prod.fst).getD 0 ≤ (s.ghost.copyB.map Prod.fst).getD 0 then
      { s.ghost with copyA := some ((s.ghost.copyB.map Prod.fst).getD 0 + 1, s.meter.core) }
    else { s.ghost with copyB := some ((s.ghost.copyA.map Prod.fst).getD 0 + 1, s.meter.core) } := by
  unfold retain
  extract_lets gen a b core
  have first : a = (s.ghost.copyA.map Prod.fst).getD 0 := by
    dsimp only [a, gen]
    cases s.ghost.copyA <;> rfl
  have second' : b = (s.ghost.copyB.map Prod.fst).getD 0 := by
    dsimp only [b, gen]
    cases s.ghost.copyB <;> rfl
  rw [first, second']

end State

/-- Settles O29, by a pulse's start, its end, and the refresh. -/
theorem pulsesAndRetention : Obligations.PulsesAndRetention := by
  unfold Obligations.PulsesAndRetention
  refine ⟨?start, ?ends, ?refresh⟩
  case start =>
    intro s t n a k
    have now : s.advance t = a := rfl
    clear_value a
    intro runs some none idle free
    obtain ⟨y, hy⟩ : ∃ y, y = (a.setBacklog n (k - 1)).setPulseOut n
        { a.pulseOut n with until_ := Option.some (a.elapsed + a.pulseWidth n) } := ⟨_, rfl⟩
    have kept : Kept [Reg.METER_PULSE n] [.meter] a y := hy ▸ (a.kept_setBacklog ..).mapMeter
    have backlog : Sparse.get (fun _ => 0) y.meter.core.backlog n = k - 1 := hy ▸ a.backlog_setBacklog ..
    have shown : y.get (F.METER_PULSE_BACKLOG n) = (k - 1) % 65536 := by
      have last : Kept [] [.meter] (a.setBacklog n (k - 1)) y := hy ▸ Kept.rfl.mapMeter
      exact (last.get (by simp)).trans (State.get_set_same _ (Nat.le_of_ble_eq_true rfl))
    have out : y.pulseOut n = { a.pulseOut n with until_ := Option.some (a.elapsed + a.pulseWidth n) } := hy ▸ State.pulseOut_setPulseOut ..
    have meter : (s.settle a (y.pulseLevel n true)).meter = y.meter := (State.meter_settle ..).trans ((y.kept_pulseLevel n true).2 .meter (by simp))
    refine completes_at (x := y.pulseLevel n true) (exec_pulseStart t n s) now ((if_pos ?_).trans (by rw [hy])) ⟨?_, ?_, ?_, ?_, ?_, ?_⟩
    · simp [State.expired, runs, none, idle, free]
      exact some
    · rw [meter, backlog]
    · exact (State.get_settle ..).trans (((y.kept_pulseLevel n true).get (by simp)).trans shown)
    · rw [State.pulseOut, meter, ← State.pulseOut, out]
    · rw [State.router_settle, State.evioPin_pulseLevel, State.tbl8_congr' (kept.2 .tables (by simp))]
      cases (a.tbl8 tid.pulseMap (16 * n + 1)).testBit 1 <;> rfl
    · rw [State.router_settle, State.router_pulseLevel, kept.2 .router (by simp)]
    · exact (kept.mono (List.Subset.refl _) (by decide) |>.trans ((y.kept_pulseLevel n true).mono (List.nil_subset _) (by decide))).settled now
  case ends =>
    intro s t e n a
    have now : s.advance t = a := rfl
    clear_value a
    intro some past free
    obtain ⟨y, hy⟩ : ∃ y, y = a.setPulseOut n { idle := a.elapsed } := ⟨_, rfl⟩
    have kept : Kept [] [.meter] a y := hy ▸ Kept.rfl.mapMeter
    have meter : (s.settle a (y.pulseLevel n false)).meter = y.meter := (State.meter_settle ..).trans ((y.kept_pulseLevel n false).2 .meter (by simp))
    refine completes_at (x := y.pulseLevel n false) (exec_pulseEnd t n s) now ?_ ⟨?_, ?_, ?_, ?_, ?_⟩
    · simp only [some]
      exact (if_pos (by simp [past, free])).trans (by rw [hy])
    · rw [State.pulseOut, meter, ← State.pulseOut, hy, State.pulseOut_setPulseOut]
    · rw [State.router_settle, State.evioPin_pulseLevel, State.tbl8_congr' (kept.2 .tables (by simp))]
      cases (a.tbl8 tid.pulseMap (16 * n + 1)).testBit 1 <;> rfl
    · rw [State.router_settle, State.router_pulseLevel, kept.2 .router (by simp)]
    · rw [meter, hy]
      rfl
    · exact (kept.mono (List.Subset.refl _) (by decide) |>.trans ((y.kept_pulseLevel n false).mono (List.nil_subset _) (by decide))).settled now
  case refresh =>
    intro s t a m gen
    have now : s.advance t = a := rfl
    clear_value a
    intro due warn live
    have closing := a.closing_finishStep
    have step : m = a.finishStep := rfl
    clear_value m
    rw [← step] at closing
    obtain ⟨first, second'⟩ := closing.copies warn
    obtain ⟨x, hx⟩ : ∃ x, x = m.mapMeter fun b => { b with lastRefresh := b.lastRefresh + second } := ⟨_, rfl⟩
    have kept : Kept [] [.meter] m x := hx ▸ Kept.rfl.mapMeter
    have ghost : x.ghost = m.ghost := kept.2 .ghost (by simp)
    have whole : Kept [] [.meter, .ghost] m x.retain := kept.mono.trans (x.kept_retain.mono (List.Subset.refl _) (by decide))
    have settled : Kept [] [.meter, .ghost] m (s.settle a x.retain) := Kept.settled_from now (closing.kept.2 .tables (by decide)) whole
    refine completes_at (x := x.retain) (exec_retentionRefresh t s) now ((if_pos ?_).trans (by rw [hx, step])) ⟨?_, ?_, settled, fun none => ?_⟩
    · simp [State.expired, due, warn, live]
    · rw [State.meter_settle, x.kept_retain.2 .meter (by simp), hx, State.meter_mapMeter, closing.refresh]
    · have core : x.meter.core = m.meter.core := by rw [hx, State.meter_mapMeter]
      have copies : x.retain.ghost = _ := x.ghost_retain
      rw [ghost, first, second', core] at copies
      by_cases older : gen a.ghost.copyA ≤ gen a.ghost.copyB
      · rw [if_pos older]
        exact copies.trans (if_pos older)
      · rw [if_neg older]
        exact copies.trans (if_neg older)
    · have same : m = a := step.trans (State.finishStep_none none)
      rw [← same] at settled ⊢
      exact settled

end Sys2Proof.Machine

/-! PROOFS. Intervals close into sealed records, and sub-periods into demands (spec/09 R400, R401, R404 to R408). -/

namespace Sys2Proof.Machine

set_option Elab.async false

/-! The record of the first interval (R400, R404) -/

/-- Of the metering core, judging sub-periods changes the first interval's demand and its sub-periods, and the base. -/
structure Judged (c d : MeterCore) : Prop where
  seq : d.nextSeq = c.nextSeq
  seal_ : d.prevSeal = c.prevSeal
  head : ∀ h rest, c.ivals = h :: rest → ∃ h', d.ivals = h' :: rest ∧ h'.start = h.start ∧ h'.stop = h.stop

theorem judged_judgeSub (c : MeterCore) (cut : Bool) : Judged c (judgeSub c cut) := by
  unfold judgeSub
  split
  · exact ⟨rfl, rfl, fun h rest eq => ⟨h, eq, rfl, rfl⟩⟩
  next h rest ivals =>
  split
  · exact ⟨rfl, rfl, fun h rest eq => ⟨h, eq, rfl, rfl⟩⟩
  · refine ⟨rfl, rfl, fun h' rest' eq => ?_⟩
    obtain ⟨rfl, rfl⟩ := List.cons.inj (ivals.symm.trans eq)
    exact ⟨_, rfl, rfl, rfl⟩

theorem Judged.trans {c d e : MeterCore} (h : Judged c d) (h' : Judged d e) : Judged c e := by
  refine ⟨h'.seq.trans h.seq, h'.seal_.trans h.seal_, fun x rest eq => ?_⟩
  obtain ⟨y, eq', start, stop⟩ := h.head x rest eq
  obtain ⟨z, eq'', start', stop'⟩ := h'.head y rest eq'
  exact ⟨z, eq'', start'.trans start, stop'.trans stop⟩

theorem Judged.refl (c : MeterCore) : Judged c c := ⟨rfl, rfl, fun h _ eq => ⟨h, eq, rfl, rfl⟩⟩

theorem judged_judgeSubs (t n : Nat) (c : MeterCore) : Judged c (judgeSubs t n c) := by
  induction n generalizing c with
  | zero => exact .refl c
  | succ n ih =>
    unfold judgeSubs
    split
    · exact .refl c
    split
    · exact .refl c
    · exact (judged_judgeSub ..).trans (ih _)

/-- A record's bytes: 56, that begin with the interval's start, the SEQ and its length. -/
structure Recorded (start seq len : Nat) (body : List Byte) : Prop where
  length : body.length = 56
  first : body.take 14 = leBytes 8 start ++ leBytes 4 seq ++ leBytes 2 len

theorem recorded_recordBody (start seq len flags : Nat) {values : List Nat} (eight : values.length = 8) (demand reversals quality : Nat) :
    Recorded start seq len (recordBody start seq len flags values demand reversals quality) := by
  have words : (values.flatMap (leBytes 4)).length = 32 := by
    simp [List.length_flatMap, eight]
  constructor
  · simp [recordBody, words]
  · unfold recordBody
    simp only [List.append_assoc]
    have head : (leBytes 8 start ++ (leBytes 4 seq ++ leBytes 2 len)).length = 14 := by simp
    rw [← List.append_assoc (leBytes 4 seq), ← List.append_assoc (leBytes 8 start), List.take_left' head]

/-- The first interval closes with a record of it, its end the last one. -/
theorem closeCore_cons {c : MeterCore} {h : MInterval} {rest : List MInterval} (ivals : c.ivals = h :: rest) (t extra : Nat) :
    ∃ body d, closeCore t extra c = some (body, d) ∧ Recorded h.start c.nextSeq (upSeconds (t - h.start)) body ∧ d.nextSeq = c.nextSeq ∧
      d.prevSeal = c.prevSeal ∧ d.lastEnd = t := by
  have judged := judged_judgeSubs t 4000 c
  obtain ⟨h', first, start, -⟩ := judged.head h rest ivals
  unfold closeCore
  extract_lets e
  have ivals' : e.ivals = h' :: rest := first
  rw [ivals']
  refine ⟨_, _, rfl, ?_, judged.seq, judged.seal_, rfl⟩
  rw [← judged.seq, ← start]
  exact recorded_recordBody _ _ _ _ (by simp) ..

namespace State

variable (s : State)

/-- What the chain and the domain's LAST are. -/
def chain (s : State) : Nat × List Byte × Nat × Option Rec :=
  (s.meter.core.nextSeq, s.meter.core.prevSeal, s.meter.core.lastEnd, s.ghost.last)

theorem chain_showAtlas : s.showAtlas.chain = s.chain := by
  have kept := s.kept_showAtlas
  rw [chain, chain, kept.2 .meter (by decide), kept.2 .ghost (by decide)]

theorem chain_raise (num : Nat) : (s.raise num).chain = s.chain := by
  rw [chain, meter_raise, ghost_raise, chain]

/-- Telling a lost record is no link of the chain. -/
theorem chain_lost (c : Bool) : (s.when c fun s => ((s.count F.METER_ATLAS_LOST_COUNT).raise 166).mapCore fun c => { c with exportLost := true }).chain =
    s.chain := by
  refine when_eq chain c ?_
  have dropped (x : State) : (x.mapCore fun c => { c with exportLost := true }).chain = x.chain := rfl
  rw [dropped, chain_raise, chain, meter_count, ghost_count, chain]

theorem chain_atlas (f : List Rec → List Rec) : (s.mapMeter fun m => { m with atlas := f m.atlas }).chain = s.chain := rfl

theorem chain_enterAtlas (r : Rec) : (s.enterAtlas r).chain = s.chain := by
  have entered (x : State) : (x.mapMeter fun m => { m with atlas := m.atlas ++ [{ r with sent := false, waited := false }] }).showAtlas.chain =
      x.chain := (chain_showAtlas _).trans (chain_atlas x fun l => l ++ [{ r with sent := false, waited := false }])
  cases eq : s.meter.atlas with
  | nil => simp only [enterAtlas, eq, entered]
  | cons o rest =>
    simp only [enterAtlas, eq]
    rw [entered]
    split
    · rfl
    · exact (chain_lost ..).trans (chain_atlas s fun _ => rest)

/-- A record filed: kept as LAST with its SEQ and its seal over the one before it, and the chain goes on from that seal (R407, R408). -/
theorem chain_fileRecord (body : List Byte) : (s.fileRecord body).chain =
    ((s.meter.core.nextSeq + 1) % 2 ^ 32, s.sealOf body s.meter.core.prevSeal, s.meter.core.lastEnd,
      some { seq := s.meter.core.nextSeq, body := body, mac := some (s.sealOf body s.meter.core.prevSeal) }) := by
  unfold fileRecord
  extract_lets mac r y g z
  refine (when_eq chain _ ?_).trans ?_
  · have retained (x : State) : x.retain.chain = x.chain := by
      rw [chain, x.kept_retain.2 .meter (by simp), ghost_retain, chain]
      split <;> rfl
    exact retained _
  · exact (chain_enterAtlas z r).trans rfl

/-- The first interval closed: its record filed, INTERVAL_CLOSED raised last (R64, R400). -/
theorem closeFirst_cons {s : State} {h : MInterval} {rest : List MInterval} (ivals : s.meter.core.ivals = h :: rest) (t extra : Nat) :
    ∃ body, Recorded h.start s.meter.core.nextSeq (upSeconds (t - h.start)) body ∧
      (s.closeFirst t extra).chain = ((s.meter.core.nextSeq + 1) % 2 ^ 32, s.sealOf body s.meter.core.prevSeal, t,
        some { seq := s.meter.core.nextSeq, body := body, mac := some (s.sealOf body s.meter.core.prevSeal) }) ∧
      ∃ l, (s.closeFirst t extra).router.inflight = s.router.inflight ++ l ++ [{ stamp := s.datum, num := 160 }] := by
  obtain ⟨y, hy⟩ : ∃ y, y = s.freezeEnds t := ⟨_, rfl⟩
  have frozen : Metered s y := hy ▸ s.metered_freezeEnds t
  obtain ⟨h', rest', ivals', start, -⟩ := frozen.grown h rest ivals
  obtain ⟨body, d, close, recorded, seq, seal_, last⟩ := closeCore_cons ivals' t (Nat.lor extra (y.closeFlags y.meter.core))
  have effect : s.closeFirst t extra = ((y.mapCore fun _ => d).fileRecord body).raise 160 := by
    rw [closeFirst, ← hy]
    simp only [close]
  obtain ⟨z, hz⟩ : ∃ z, z = y.mapCore fun _ => d := ⟨_, rfl⟩
  have core : z.meter.core = d := by rw [hz, mapCore, meter_mapMeter]
  have keptz : Kept [] [.meter] y z := hz ▸ Kept.rfl.mapMeter
  have key : z.sealOf body z.meter.core.prevSeal = s.sealOf body s.meter.core.prevSeal := by
    rw [sealOf, sealOf, sealKey, sealKey, keptz.2 .ghost (by simp), frozen.kept.2 .ghost (by decide), core, seal_, frozen.seal_]
  have nextSeq : z.meter.core.nextSeq = s.meter.core.nextSeq := by rw [core, seq, frozen.seq]
  refine ⟨body, ?_, ?_, ?_⟩
  · rw [← frozen.seq, ← start]
    exact recorded
  · rw [effect, ← hz, chain_raise, chain_fileRecord, key, nextSeq, core, last]
  · have closing := closing_fileRecord z body
    obtain ⟨l, first⟩ := frozen.raises
    obtain ⟨l', second'⟩ := closing.raises
    have datum : (z.fileRecord body).datum = s.datum := (closing.kept.2 .datum (by decide)).trans
      ((keptz.2 .datum (by simp)).trans (frozen.kept.2 .datum (by decide)))
    refine ⟨l ++ l', ?_⟩
    rw [effect, ← hz, router_raise, second', keptz.2 .router (by simp), first, datum]
    simp

end State

/-- An interval's core lengthened: more sub-periods in it, more intervals after it. -/
def Lengthened (c d : MeterCore) : Prop :=
  ∃ l, d = { c with ivals := l } ∧ ∀ h rest, c.ivals = h :: rest → ∃ more rest', l = { h with subs := h.subs ++ more } :: rest'

theorem Lengthened.refl (c : MeterCore) : Lengthened c c :=
  ⟨c.ivals, rfl, fun h rest eq => ⟨[], rest, by simpa using eq⟩⟩

theorem Lengthened.trans {c d e : MeterCore} (h : Lengthened c d) (h' : Lengthened d e) : Lengthened c e := by
  obtain ⟨l, rfl, first⟩ := h
  obtain ⟨l', rfl, then_⟩ := h'
  refine ⟨l', rfl, fun x rest eq => ?_⟩
  obtain ⟨more, rest', rfl⟩ := first x rest eq
  obtain ⟨more', rest'', rfl⟩ := then_ _ rest' rfl
  exact ⟨more ++ more', rest'', by simp⟩

namespace State

variable (s : State)

theorem lengthened_extendTo (t n : Nat) : Lengthened s.meter.core (s.extendTo t n).meter.core := by
  induction n generalizing s with
  | zero => exact .refl _
  | succ n ih =>
    unfold extendTo
    split
    · exact .refl _
    next latest eq =>
    split
    · refine Lengthened.trans ?_ (ih _)
      exact ⟨_, rfl, fun h rest eq => ⟨[], rest ++ _, by rw [eq]; simp; rfl⟩⟩
    split
    · split
      · refine Lengthened.trans ?_ (ih _)
        refine ⟨_, rfl, fun h rest eq => ?_⟩
        rw [eq]
        cases rest with
        | nil => exact ⟨_, [], rfl⟩
        | cons y l => exact ⟨[], _, by rw [List.append_nil]; rfl⟩
      · exact .refl _
    · exact .refl _

theorem lengthened_extend (t : Nat) : Lengthened s.meter.core (s.extend t).meter.core := by
  unfold extend
  split
  · exact .refl _
  · exact s.lengthened_extendTo ..

/-- With nothing at hand there is nothing to meter. -/
theorem meterUpTo_idle {s : State} (none : ∀ x, x < 3 → (s.mPhase x).pend = Option.none) (inst : s.meter.inst = Option.none) (e : Nat) :
    s.meterUpTo e = s := by
  have stays (l : List Nat) (small : ∀ x ∈ l, x < 3) : (s.each l fun x s => match (s.mPhase x).pend with
      | Option.some a => if a.stamp < e then s.flushPhase x else s
      | Option.none => s) = s := by
    induction l with
    | nil => rfl
    | cons x l ih =>
      rw [each_cons, none x (small x (List.mem_cons_self ..))]
      exact ih fun y hy => small y (List.mem_cons_of_mem _ hy)
  unfold meterUpTo
  extract_lets y
  have same : y = s := stays _ fun x hx => List.mem_range.1 hx
  rw [same, inst]

end State

/-- The first interval with its first sub-period judged (R401). -/
def judgedFirst (c : MeterCore) (h : MInterval) (u : SubPeriod) (us : List SubPeriod) : MInterval :=
  { h with
    subs := us
    maxDemand := if u.whole && !false then max h.maxDemand ((u.fin.getD (c.raw 24) / mjUnit - c.subBase / mjUnit) / (1000 * h.demandSub))
      else h.maxDemand }

theorem ivals_judgeSub {c : MeterCore} {h : MInterval} {rest : List MInterval} {u : SubPeriod} {us : List SubPeriod} (ivals : c.ivals = h :: rest)
    (subs : h.subs = u :: us) : (judgeSub c false).ivals = judgedFirst c h u us :: rest := by
  simp only [judgeSub, ivals, subs]
  rfl

theorem le_maxDemand_judgedFirst (c : MeterCore) (h : MInterval) (u : SubPeriod) (us : List SubPeriod) :
    h.maxDemand ≤ (judgedFirst c h u us).maxDemand := by
  unfold judgedFirst
  dsimp only
  split
  · exact le_max_left ..
  · exact Nat.le_refl _

/-- A first sub-period stays where more follow. -/
theorem subs_cons {h h' : MInterval} {u : SubPeriod} {us : List SubPeriod} (subs : h.subs = u :: us)
    (starts : h.subs.map SubPeriod.start <+: h'.subs.map SubPeriod.start) :
    ∃ u' us', h'.subs = u' :: us' ∧ us.map SubPeriod.start <+: us'.map SubPeriod.start := by
  rw [subs] at starts
  cases eq : h'.subs with
  | nil =>
    rw [eq] at starts
    exact absurd starts.length_le (by simp)
  | cons u' us' =>
    rw [eq] at starts
    exact ⟨u', us', rfl, (List.cons_prefix_cons.1 starts).2⟩

/-- What freezing ends does to the core. -/
theorem State.core_freezeEnds (t : Nat) (s : State) : (s.freezeEnds t).meter.core = { s.meter.core with
    ivals := s.meter.core.ivals.map fun i => { i with
      totals := if i.stop ≤ t && i.totals.isNone then some s.meter.core.totalsNow else i.totals
      subs := i.subs.map fun u => if u.stop ≤ t && u.fin.isNone then { u with fin := some (s.meter.core.raw 24) } else u } } := rfl

/-- Settles O27, by the close of an interval and of a sub-period. -/
theorem intervalsCloseIntoSealedRecords : Obligations.IntervalsCloseIntoSealedRecords := by
  unfold Obligations.IntervalsCloseIntoSealedRecords
  refine ⟨?interval, ?period⟩
  case interval =>
    intro s t h rest a
    have now : s.advance t = a := rfl
    clear_value a
    intro step ivals past caught free present
    obtain ⟨y, hy⟩ : ∃ y, y = (a.meterUpTo h.stop).extend h.stop := ⟨_, rfl⟩
    have metered : Metered a y := hy ▸ (a.metered_meterUpTo h.stop).trans (State.metered_extend ..)
    obtain ⟨h', rest', ivals', start, -⟩ := metered.grown h rest ivals
    obtain ⟨body, recorded, chain, l, inflight⟩ := State.closeFirst_cons ivals' h.stop 0
    have key : y.sealOf body y.meter.core.prevSeal = a.sealOf body a.meter.core.prevSeal := by
      rw [State.sealOf, State.sealOf, State.sealKey, State.sealKey, metered.kept.2 .ghost (by decide), metered.seal_]
    rw [key, metered.seq] at chain
    obtain ⟨z, hz⟩ : ∃ z, z = y.closeFirst h.stop 0 := ⟨_, rfl⟩
    have shown := z.kept_showAtlas
    have last : z.showAtlas.chain = _ := z.chain_showAtlas.trans (hz ▸ chain)
    obtain ⟨seq, rest⟩ := Prod.mk.inj last
    obtain ⟨seal_, rest⟩ := Prod.mk.inj rest
    obtain ⟨end_, record⟩ := Prod.mk.inj rest
    refine completes_at (x := z.showAtlas) (exec_intervalClose t s) now ?_ ⟨⟨body, ?_, recorded.length, ?_, ?_⟩, ?_, ?_, ?_, ?_⟩
    · refine (if_neg (by simp [free, present])).trans ((if_neg (by simp [step])).trans ?_)
      simp only [ivals]
      exact (if_pos (by simp [past, caught])).trans (by rw [hz, hy]; rfl)
    · rw [State.ghost_settle, State.meter_settle, record, seal_]
    · rw [recorded.first, metered.seq, start]
    · rw [State.meter_settle, seal_]
    · rw [State.meter_settle, seq]
    · rw [State.meter_settle, end_]
    · obtain ⟨l', first⟩ := metered.raises
      refine ⟨l' ++ l, ?_⟩
      rw [State.router_settle, shown.2 .router (by decide), hz, inflight, first, metered.kept.2 .datum (by decide)]
      simp
    · have closing : Closing a z.showAtlas := ((Closing.of_metered metered).trans (hz ▸ State.closing_closeFirst ..)).trans (State.closing_showAtlas z)
      exact (closing.kept.mono (List.Subset.refl _) (by decide)).settled now
  case period =>
    intro s t h rest u us a
    have now : s.advance t = a := rfl
    clear_value a
    intro ivals subs past caught free present
    obtain ⟨y, hy⟩ : ∃ y, y = ((a.meterUpTo u.stop).extend a.meterNow).freezeEnds u.stop := ⟨_, rfl⟩
    have metered : Metered a y := hy ▸ ((a.metered_meterUpTo u.stop).trans (State.metered_extend ..)).trans (State.metered_freezeEnds ..)
    obtain ⟨h', rest', ivals', start, stop, best, starts⟩ := metered.grown h rest ivals
    obtain ⟨u', us', subs', later⟩ := subs_cons subs starts
    obtain ⟨x, hx⟩ : ∃ x, x = y.mapCore fun c => judgeSub c false := ⟨_, rfl⟩
    have core : x.meter.core.ivals = judgedFirst y.meter.core h' u' us' :: rest' := by
      rw [hx, State.mapCore, State.meter_mapMeter, ivals_judgeSub ivals' subs']
    refine completes_at (x := x) (exec_demandSubPeriod t s) now ?_
      ⟨judgedFirst y.meter.core h' u' us', rest', ?_, start, stop, later, ?_, fun none inst whole fin => ?_, ?_⟩
    · simp only [ivals, subs]
      exact (if_pos (by simp [past, caught, free, present])).trans (by rw [hx, hy])
    · rw [State.meter_settle, core]
    · exact best ▸ le_maxDemand_judgedFirst ..
    · have lengthened : Lengthened a.meter.core (((a.meterUpTo u.stop).extend a.meterNow)).meter.core := by
        rw [State.meterUpTo_idle none inst]
        exact State.lengthened_extend ..
      obtain ⟨l, eq, first⟩ := lengthened
      obtain ⟨more, rest'', rfl⟩ := first h rest ivals
      have frozen : y.meter.core = _ := hy ▸ State.core_freezeEnds ..
      rw [eq] at frozen
      rw [frozen] at ivals' ⊢
      obtain ⟨rfl, rfl⟩ := List.cons.inj ivals'
      simp [subs, fin] at subs'
      obtain ⟨rfl, -⟩ := subs'
      simp [judgedFirst, whole, MeterCore.raw]
    · exact ((metered.kept.mono (List.Subset.refl _) (by decide)).trans (hx ▸ Kept.rfl.mapMeter)).settled now

end Sys2Proof.Machine

/-! PROOFS. Export, ATLAS_READ and the meter's settings (spec/09 R402, R416 to R418, R426). -/

namespace Sys2Proof.Machine

set_option Elab.async false

namespace State

variable (s : State)

theorem kept_extendTo (t n : Nat) : Kept [] [.meter] s (s.extendTo t n) := by
  induction n generalizing s with
  | zero => exact .rfl
  | succ n ih =>
    unfold extendTo
    split
    · exact .rfl
    split
    · exact Kept.rfl.mapMeter.trans (ih _)
    split
    · split
      · exact Kept.rfl.mapMeter.trans (ih _)
      · exact .rfl
    · exact .rfl

theorem kept_meterCfgChanged : Kept [] [.meter] s s.meterCfgChanged := by
  have extended : Kept [] [.meter] s (s.extend s.meterNow) := by
    unfold extend
    split
    · exact .rfl
    · exact s.kept_extendTo ..
  exact extended.mapMeter

theorem host_showAtlas : s.showAtlas.host = s.host := s.kept_showAtlas.2 .host (by decide)

theorem meter_showAtlas : s.showAtlas.meter = s.meter := s.kept_showAtlas.2 .meter (by decide)

/-- A write of METER_CTRL sets EXPORT_EN; 1 starts the export from the oldest record (R416). -/
theorem kept_writeMeterCtrl (data : Word) : Kept [Reg.METER_CTRL, Reg.METER_SEQ, Reg.METER_OLDEST, Reg.METER_ATLAS, Reg.METER_OPEN_LO,
    Reg.METER_OPEN_HI] [.meter] s (s.writeMeterCtrl data) := by
  unfold writeMeterCtrl
  have set : Kept [Reg.METER_CTRL, Reg.METER_SEQ, Reg.METER_OLDEST, Reg.METER_ATLAS, Reg.METER_OPEN_LO, Reg.METER_OPEN_HI] [.meter] s
      (s.setBit F.METER_CTRL_EXPORT_EN (data.getLsbD 0)) := Kept.rfl.setBit
  exact set.when fun k => k.mapMeter.trans ((kept_showAtlas _).mono (by decide) (by decide))

/-- The atlas as an export that has begun anew finds it. -/
def restarted (s : State) : State := s.mapMeter fun m => { m with atlas := m.atlas.map fun r => { r with sent := false, waited := false } }

theorem writeMeterCtrl_on {data : Word} (on : data.getLsbD 0 = true) :
    s.writeMeterCtrl data = (s.setBit F.METER_CTRL_EXPORT_EN true).restarted.showAtlas := by
  rw [writeMeterCtrl, on]
  rfl

theorem writeMeterCtrl_off {data : Word} (off : data.getLsbD 0 = false) :
    s.writeMeterCtrl data = s.setBit F.METER_CTRL_EXPORT_EN false := by
  rw [writeMeterCtrl, off]
  rfl

theorem exportEn_writeMeterCtrl (data : Word) : (s.writeMeterCtrl data).bit F.METER_CTRL_EXPORT_EN = data.getLsbD 0 := by
  cases value : data.getLsbD 0 with
  | true =>
    have kept : Kept [] [.meter] (s.setBit F.METER_CTRL_EXPORT_EN true) (s.setBit F.METER_CTRL_EXPORT_EN true).restarted := Kept.rfl.mapMeter
    rw [writeMeterCtrl_on _ value, (kept_showAtlas _).bit (by decide), kept.bit (by simp)]
    exact bit_setBit_same _ (by decide) rfl
  | false =>
    rw [writeMeterCtrl_off _ value]
    exact bit_setBit_same _ (by decide) rfl

/-- The oldest unsent record staged for ring 4, before the atlas is shown. -/
def exported (r : Rec) (s : State) : State :=
  ((s.stage { ring := 4, body := r.bytes ++ List.replicate 64 0, stamp := s.datum, late := false, cmd := none, status := 0 }).setBit
    F.METER_STATUS_EXPORT_STALL false).mapMeter fun m => { m with atlas := replaceFirst r { r with sent := true } m.atlas }

theorem kept_exported (r : Rec) : Kept [Reg.METER_STATUS] [.meter, .host] s (s.exported r) := by
  unfold exported
  exact Kept.rfl.stage.setBit.mapMeter

theorem stall_exported (r : Rec) : (s.exported r).bit F.METER_STATUS_EXPORT_STALL = false :=
  (bit_setBit_same (s.stage _) (f := F.METER_STATUS_EXPORT_STALL) (by decide) rfl :)

theorem host_exported (r : Rec) : (s.exported r).host = { s.host with staged := s.host.staged ++
    [{ ring := 4, body := r.bytes ++ List.replicate 64 0, stamp := s.datum, late := false, cmd := none, status := 0 }] } := by
  unfold exported
  rw [host_mapMeter, host_setBit]
  rfl

theorem meter_exported (r : Rec) : (s.exported r).meter = { s.meter with atlas := replaceFirst r { r with sent := true } s.meter.atlas } := by
  unfold exported
  rw [meter_mapMeter, meter_setBit]
  rfl

/-- Export without room: the stall is shown and every unsent record counts once as having waited. -/
def stalled (s : State) : State :=
  (((s.foundFull 4).setBit F.METER_STATUS_EXPORT_STALL true).count F.METER_EXPORT_WAIT_COUNT
    (((s.foundFull 4).setBit F.METER_STATUS_EXPORT_STALL true).meter.atlas.filter fun x => !x.sent && !x.waited).length).mapMeter
      fun m => { m with atlas := m.atlas.map fun x => if x.sent then x else { x with waited := true } }

theorem kept_stalled : Kept [Reg.METER_STATUS, Reg.METER_EXPORT_WAIT] [.meter, .host, .router] s s.stalled := by
  unfold stalled
  exact ((kept_foundFull s 4).mono (by decide) (by decide)).setBit.count.mapMeter

end State

/-- The records from the one that ATLAS_READ names on. -/
def State.atlasFrom (a : State) (d : Desc) : List Rec := a.meter.atlas.dropWhile fun r => r.seq != d.p0.toNat

/-- The checks of ATLAS_READ (R417, R418). -/
def State.atlasChecks (a : State) (d : Desc) : List (Bool × Nat × Nat) :=
  [(d.target ≠ 0, st.targetRange, 0), (d.p1.toNat = 0 ∨ 1023 < d.p1.toNat, st.lenRange, 0), (d.len.toNat ≠ 64 * d.p1.toNat, st.lenRange, 0),
    (a.meter.atlas = [], st.lenRange, 0), (a.atlasFrom d = [], st.targetRange, (a.meter.atlas.head?.map Rec.seq).getD 0),
    ((a.atlasFrom d).length < d.p1.toNat, st.lenRange, (a.atlasFrom d).length)]

theorem execAtlasRead_eq (t : Nat) (d : Desc) (s : State) : execAtlasRead t d s = s.run t fun a =>
    a.checked d (a.atlasChecks d) fun x => (x.hostWrite d.hostAddr.toNat (((a.atlasFrom d).take d.p1.toNat).flatMap Rec.bytes)).finish d := by
  have empty (l : List Rec) : l.isEmpty = decide (l = []) := by cases l <;> rfl
  have oldest (l : List Rec) : (match l.head? with | some r => r.seq | none => 0) = (l.head?.map Rec.seq).getD 0 := by cases l <;> rfl
  have same (a : State) : a.atlasChecks d = [(decide (d.target ≠ 0), st.targetRange, 0),
      (decide (d.p1.toNat = 0) || decide (1023 < d.p1.toNat), st.lenRange, 0), (decide (d.len.toNat ≠ 64 * d.p1.toNat), st.lenRange, 0),
      (a.meter.atlas.isEmpty, st.lenRange, 0), ((a.atlasFrom d).isEmpty, st.targetRange, match a.meter.atlas.head? with | some r => r.seq | none => 0),
      (decide ((a.atlasFrom d).length < d.p1.toNat), st.lenRange, (a.atlasFrom d).length)] := by
    rw [oldest, empty, empty, ← Bool.decide_or]
    rfl
  unfold execAtlasRead
  simp only [same]
  rfl

/-- What a command that writes to the host leaves of the host interface, with the bus open. -/
theorem State.host_finish_hostWrite {s : State} {d : Desc} (waits : d ∈ s.host.dispatched) (bus : s.busOpen = true) (addr : Nat) (bytes : List Byte) :
    ((s.hostWrite addr bytes).finish d).host.writes = s.host.writes ++ [{ addr := addr, bytes := bytes }] ∧
      ((s.hostWrite addr bytes).finish d).host.dispatched = s.host.dispatched.erase d := by
  rw [hostWrite_of_open bus]
  have same : (s.wrote [{ addr := addr, bytes := bytes }]).host.dispatched = s.host.dispatched := rfl
  rw [finish, complete, same, if_pos (List.contains_iff_mem.2 waits), stageDone]
  split <;> exact ⟨rfl, rfl⟩

/-- Settles O30, by the export's steps, by the checks of ATLAS_READ, and by the settings' one condition. -/
theorem exportReadAndMeterSettings : Obligations.ExportReadAndMeterSettings := by
  unfold Obligations.ExportReadAndMeterSettings
  refine ⟨?enable, ?exports, ?rest, ?read, ?unread, ?settings⟩
  case enable =>
    intro s t data a
    have now : s.advance t = a := rfl
    clear_value a
    intro free
    refine completes_at (exec_exportEn t data s) now (State.bar0_of_not_tableau free ..) ⟨?_, fun on => ?_, fun off => ?_, ?_⟩
    · exact (State.bit_settle ..).trans (a.exportEn_writeMeterCtrl data)
    · rw [State.meter_settle, State.writeMeterCtrl_on _ on, State.meter_showAtlas, State.restarted, State.meter_mapMeter, State.meter_setBit]
    · rw [State.writeMeterCtrl_off _ off]
      exact Kept.rfl.setBit.settled now
    · exact (a.kept_writeMeterCtrl data).settled now
  case exports =>
    intro s t r a
    have now : s.advance t = a := rfl
    clear_value a
    intro free enabled first
    by_cases room : a.ringRoom 4 = true
    · refine completes_at (x := (a.exported r).showAtlas) (exec_atlasExport t s) now ?_ ?_
      · simp only [first, enabled, free, room]
        rfl
      rw [if_pos room]
      refine ⟨⟨_, (State.host_settle ..).trans ((State.host_showAtlas _).trans (a.host_exported r)), rfl, rfl, rfl⟩, ?_, ?_, ?_⟩
      · exact (State.meter_settle ..).trans ((State.meter_showAtlas _).trans (a.meter_exported r))
      · exact (State.bit_settle ..).trans (((State.kept_showAtlas _).bit (by decide)).trans (a.stall_exported r))
      · exact (((a.kept_exported r).mono (by decide) (List.Subset.refl _)).trans ((State.kept_showAtlas _).mono (by decide) (by decide))).settled now
    · refine completes_at (x := a.stalled) (exec_atlasExport t s) now ?_ ?_
      · simp only [first, enabled, free, room]
        rfl
      rw [if_neg room]
      obtain ⟨x, hx⟩ : ∃ x, x = (a.foundFull 4).setBit F.METER_STATUS_EXPORT_STALL true := ⟨_, rfl⟩
      have found := a.kept_foundFull 4
      have kept : Kept [Reg.METER_STATUS] [.host, .router] a x := hx ▸ (found.mono (by decide) (List.Subset.refl _)).setBit
      have meter : x.meter = a.meter := kept.2 .meter (by decide)
      have stall : x.bit F.METER_STATUS_EXPORT_STALL = true := hx ▸ State.bit_setBit_same _ (by decide) rfl
      have staged : x.host.staged = a.host.staged := by rw [hx, State.host_setBit, State.host_foundFull]
      obtain ⟨y, hy⟩ : ∃ y, y = x.count F.METER_EXPORT_WAIT_COUNT (x.meter.atlas.filter fun x => !x.sent && !x.waited).length := ⟨_, rfl⟩
      have effect : a.stalled = y.mapMeter fun m => { m with atlas := m.atlas.map fun x => if x.sent then x else { x with waited := true } } := by
        rw [hy, hx, State.stalled]
      have last : Kept [] [.meter] y a.stalled := effect ▸ Kept.rfl.mapMeter
      have counted : Kept [Reg.METER_EXPORT_WAIT] [] x y := hy ▸ Kept.rfl.count
      refine ⟨?_, ?_, ?_, ?_, a.kept_stalled.settled now⟩
      · rw [State.host_settle, last.2 .host (by simp), counted.2 .host (by simp), staged]
      · rw [State.bit_settle, last.bit (by simp), counted.bit (by decide), stall]
      · rw [State.meter_settle, effect, State.meter_mapMeter, counted.2 .meter (by simp), meter]
      · rw [State.get_settle, last.get (by simp), hy, State.get_count_same _ (by decide), meter, kept.get (by decide)]
        rfl
  case rest =>
    intro s t a
    have now : s.advance t = a := rfl
    clear_value a
    intro nothing
    refine completes_at (x := a) (exec_atlasExport t s) now ?_ (Kept.rfl.settled now)
    cases unsent : a.meter.atlas.find? fun r => !r.sent with
    | none => rfl
    | some r =>
      refine if_pos ?_
      rcases nothing with held | off | sent
      · simp [held]
      · simp [off]
      · exact absurd (List.find?_some unsent) (by simp [sent r (List.mem_of_find?_eq_some unsent)])
  case read =>
    intro s t d a n l bytes
    have now : s.advance t = a := rfl
    clear_value a
    intro target some_ most len enough
    have kept : Kept [] [.host] a (a.hostWrite d.hostAddr.toNat (((a.atlasFrom d).take d.p1.toNat).flatMap Rec.bytes)) := a.kept_hostWrite ..
    have filled : a.atlasFrom d ≠ [] := by
      intro none
      have none' : l = [] := none
      rw [none'] at enough
      exact absurd (Nat.le_trans some_ enough) (by simp)
    have atlas : a.meter.atlas ≠ [] := fun none => filled (by rw [State.atlasFrom, none]; rfl)
    have pass : firstFail (a.atlasChecks d) = none := by
      refine firstFail_eq_none.2 ?_
      have range : ¬ (d.p1.toNat = 0 ∨ 1023 < d.p1.toNat) := by omega
      have enough' : ¬ (a.atlasFrom d).length < d.p1.toNat := Nat.not_lt.2 enough
      simp only [State.atlasChecks, List.forall_mem_cons, decide_eq_false_iff_not, not_not]
      exact ⟨target, range, len, atlas, filled, enough', fun _ none => absurd none List.not_mem_nil⟩
    refine completes_at ((exec_atlasRead t d s).trans (execAtlasRead_eq t d s)) now (State.checked_pass _ pass _) ⟨?_, fun waits bus => ?_, ?_⟩
    · rw [State.host_settle, State.finish, kept.2 .datum (by simp)]
      rfl
    · rw [State.host_settle]
      exact State.host_finish_hostWrite waits bus ..
    · exact (kept.trans Kept.rfl.finish).settled now
  case unread =>
    intro s t d status detail a n l
    have now : s.advance t = a := rfl
    clear_value a
    intro fail
    exact completes_at ((exec_atlasRead t d s).trans (execAtlasRead_eq t d s)) now (State.checked_fail _ fail _)
      ⟨Ended.refuse .., (a.kept_refuse ..).settled now⟩
  case settings =>
    intro s t data a i u
    have now : s.advance t = a := rfl
    clear_value a
    intro free
    have run := exec_meterCfgWrite t data s
    have open_ := State.bar0_of_not_tableau free Reg.METER_CFG data (State.writeMeterCfg data)
    have same : (a.curtainDown && 1 ≤ i && i ≤ 3600 && 3600 % i = 0 && 1 ≤ u && u ≤ 3600 && i % u = 0) = true ↔
        (a.curtainDown = true ∧ 1 ≤ i ∧ i ≤ 3600 ∧ 3600 % i = 0 ∧ 1 ≤ u ∧ u ≤ 3600 ∧ i % u = 0) := by
      simp only [Bool.and_eq_true, decide_eq_true_eq, and_assoc]
    by_cases good : a.curtainDown = true ∧ 1 ≤ i ∧ i ≤ 3600 ∧ 3600 % i = 0 ∧ 1 ≤ u ∧ u ≤ 3600 ∧ i % u = 0
    · obtain ⟨y, hy⟩ : ∃ y, y = a.writeByAccess Reg.METER_CFG data := ⟨_, rfl⟩
      have kept : Kept [Reg.METER_CFG] [] a y := hy ▸ a.kept_writeByAccess data _ (by decide)
      have changed := y.kept_meterCfgChanged
      refine completes_at (x := y.meterCfgChanged) run now (open_.trans ((if_pos (same.2 good)).trans (by rw [hy]))) ?_
      rw [if_pos good]
      refine ⟨?_, ?_, ?_, ((kept.mono (List.Subset.refl _) (by decide)).trans (changed.mono (by decide) (List.Subset.refl _))).settled now⟩
      · rw [State.get_settle, changed.get (by simp), hy]
        exact a.get_writeByAccess_rw (f := F.METER_CFG_INTERVAL) (by decide +kernel) data
      · rw [State.get_settle, changed.get (by simp), hy]
        exact a.get_writeByAccess_rw (f := F.METER_CFG_DEMAND_SUB) (by decide +kernel) data
      · rw [State.bit_settle, changed.bit (by simp), hy]
        exact a.bit_writeByAccess_rw (f := F.METER_CFG_ALIGN_UTC) (by decide +kernel) rfl data
    · refine completes_at run now (open_.trans (if_neg (mt same.1 good))) ?_
      rw [if_neg good]
      exact ⟨(State.bit_settle ..).trans (State.bit_setBit_same _ (by decide) rfl), Kept.rfl.setBit.settled now⟩

end Sys2Proof.Machine

/-! PROOFS. Readmission and the coolant sensor (spec/07 R328, R329, R338). -/

namespace Sys2Proof.Machine

set_option Elab.async false

namespace State

variable (s : State)

theorem tx_setTx (c : Nat) (x : CellTx) : (s.setTx c x).tx c = x := by
  simp [tx, setTx]

theorem kept_setTx (c : Nat) (x : CellTx) : Kept [] [.wing] s (s.setTx c x) := Kept.rfl.mapWing

/-! A cell blocked (R338) -/

theorem kept_block (c : Nat) : Kept [] [.wing] s (s.block c) := by
  unfold block blockNow command
  exact Kept.ite (kept_setTx ..) ((kept_setTx ..).trans (kept_setTx ..))

theorem lastLegs_block (c : Nat) : lastLegs ((s.block c).tx c).hist = legs.blocked := by
  unfold block blockNow command
  split <;> simp [tx_setTx, lastLegs]

theorem orders_block (c : Nat) : ((s.block c).tx c).orders = (s.tx c).orders := by
  unfold block blockNow command
  split <;> simp [tx_setTx]

theorem kept_castBlock (c : Nat) : Kept [Reg.CAST_CELL c] [.wing] s (s.castBlock c) :=
  ((s.kept_block c).mono (by simp)).set (hf := List.mem_singleton.2 rfl)

theorem tx_castBlock (c : Nat) : (s.castBlock c).tx c = (s.block c).tx c := by
  rw [castBlock, showContrib, tx, wing_set, ← tx]

theorem cState_castBlock (c : Nat) : (s.castBlock c).cState c = s.cState c := by
  refine (get_set_apart _ ?_).trans ((s.kept_block c).get (by simp))
  simp [apart]

theorem kept_bypass (c : Nat) (close : Bool) : Kept [] [.cast, .wing] s (s.bypass c close) := Kept.rfl.giveOrder.cast

/-- A cell given BYPASS_CLOSE, put on STANDBY and blocked (R338). -/
def steppedDown (r : Nat) (s : State) : State := ((s.bypass r true).setCState r cs.standby).castBlock r

theorem kept_steppedDown (r : Nat) : Kept [Reg.CAST_CELL r] [.cast, .wing] s (s.steppedDown r) :=
  Kept.trans (b := (s.bypass r true).setCState r cs.standby) (((s.kept_bypass r true).mono (by simp) (List.Subset.refl _)).set
    (hf := List.mem_singleton.2 rfl)) ((kept_castBlock _ r).mono (List.Subset.refl _) (by decide))

theorem cState_steppedDown (r : Nat) : (s.steppedDown r).cState r = cs.standby :=
  (cState_castBlock _ r).trans (get_set_of_lt _ (Nat.le_of_ble_eq_true rfl) (Nat.le_of_ble_eq_true rfl))

theorem lastLegs_steppedDown (r : Nat) : lastLegs ((s.steppedDown r).tx r).hist = legs.blocked := by
  rw [steppedDown, tx_castBlock, lastLegs_block]

theorem order_steppedDown (r : Nat) : ({ owner := .bypass true, codes := [order.bypassClose] } : Order) ∈ ((s.steppedDown r).tx r).orders := by
  rw [steppedDown, tx_castBlock, orders_block, setCState, tx, wing_set, ← tx, bypass, tx, wing_setCastCell, ← tx]
  exact order_giveOrder ..

/-- A cell back in service: IDLE, a reserve STANDBY, with cause 0. -/
def readmitted (c : Nat) (s : State) : State := (s.setCState c (if s.cellKind c = kind.reserve then cs.standby else cs.idle)).set (F.CAST_CELL_CAUSE c) 0

theorem kept_readmitted (c : Nat) : Kept [Reg.CAST_CELL c] [] s (s.readmitted c) :=
  Kept.trans (b := s.setCState c (if s.cellKind c = kind.reserve then cs.standby else cs.idle)) (Kept.rfl.set (hf := List.mem_singleton.2 rfl))
    (Kept.rfl.set (hf := List.mem_singleton.2 rfl))

theorem cState_readmitted (c : Nat) : (s.readmitted c).cState c = if s.cellKind c = kind.reserve then cs.standby else cs.idle := by
  refine (get_set_apart _ (by simp [apart])).trans (get_set_of_lt _ (Nat.le_of_ble_eq_true rfl) ?_)
  split <;> exact Nat.le_of_ble_eq_true rfl

theorem cause_readmitted (c : Nat) : (s.readmitted c).get (F.CAST_CELL_CAUSE c) = 0 :=
  get_set_of_lt _ (Nat.le_of_ble_eq_true rfl) (Nat.le_of_ble_eq_true rfl)

theorem get_readmitted {c : Nat} {f : FieldRef} (state : apart (F.CAST_CELL_STATE c) f = true) (cause : apart (F.CAST_CELL_CAUSE c) f = true) :
    (s.readmitted c).get f = s.get f :=
  (get_set_apart _ cause).trans (get_set_apart _ state)

/-- The partner that stood in for a cell steps down (R338). -/
def partnerBack (c : Nat) (s : State) : State :=
  if s.bit (F.CAST_CELL_PARTNER_VALID c) then
    if s.cellKind (s.get (F.CAST_CELL_PARTNER c)) = kind.reserve &&
        (s.cState (s.get (F.CAST_CELL_PARTNER c)) == cs.active || s.cState (s.get (F.CAST_CELL_PARTNER c)) == cs.ready) then
      s.steppedDown (s.get (F.CAST_CELL_PARTNER c))
    else s
  else s

/-- The conditions of R338. -/
def readmits (c : Nat) (s : State) : Bool :=
  s.curtainDown && s.cState c == cs.out && s.loopTrained (s.cellLoop c) && !s.linkFault c

theorem writeCastReadmit_eq (data : Word) : s.writeCastReadmit data =
    if data.getLsbD 31 && s.readmits (bitsOf data.toNat 0 7) then (s.readmitted (bitsOf data.toNat 0 7)).partnerBack (bitsOf data.toNat 0 7)
    else s.setBit F.CAST_STATUS_CFG_REJECT true := by
  rw [readmits, ← Bool.and_assoc, ← Bool.and_assoc, ← Bool.and_assoc]
  rfl

/-- The cell's partner is one that stands in for it. -/
def standsIn (c r : Nat) (s : State) : Prop :=
  s.bit (F.CAST_CELL_PARTNER_VALID c) = true ∧ s.cellKind r = kind.reserve ∧ (s.cState r = cs.active ∨ s.cState r = cs.ready)

theorem partnerBack_of_standsIn {s : State} {c r : Nat} (partner : s.get (F.CAST_CELL_PARTNER c) = r) (h : s.standsIn c r) :
    s.partnerBack c = s.steppedDown r := by
  obtain ⟨valid, kind_, state⟩ := h
  rw [partnerBack, partner, if_pos valid, if_pos]
  simpa [kind_] using state

theorem partnerBack_of_not {s : State} {c r : Nat} (partner : s.get (F.CAST_CELL_PARTNER c) = r) (h : ¬ s.standsIn c r) : s.partnerBack c = s := by
  rw [partnerBack, partner]
  split
  next valid =>
    refine if_neg fun back => h ⟨valid, ?_⟩
    simpa using back
  · rfl

/-- A readmission leaves who stands in for the cell as it was. -/
theorem standsIn_readmitted {s : State} {c r : Nat} (out : s.cState c = cs.out) : (s.readmitted c).standsIn c r ↔ s.standsIn c r := by
  have valid : (s.readmitted c).bit (F.CAST_CELL_PARTNER_VALID c) = s.bit (F.CAST_CELL_PARTNER_VALID c) := by
    rw [bit, bit, s.get_readmitted (by simp [apart]) (by simp [apart])]
  have kind_ : (s.readmitted c).cellKind r = s.cellKind r := tbl8_congr' ((s.kept_readmitted c).2 .tables (by simp)) ..
  rw [standsIn, standsIn, valid, kind_]
  by_cases same : r = c
  · subst same
    rw [out, cState_readmitted]
    split <;> simp [cs.standby, cs.idle, cs.out, cs.active, cs.ready]
  · have stays : (s.readmitted c).cState r = s.cState r := (s.kept_readmitted c).get (by simpa [Reg.CAST_CELL] using same)
    rw [stays]

/-! The derating (R328) -/

theorem get_clampDwell {f : FieldRef} (relaxed : apart F.CAST_STATUS_RELAXED f = true) (here : f.addr = Reg.CAST_STATUS) :
    s.clampDwell.get f = s.get f := by
  unfold clampDwell
  refine each_eq s (fun x => x.get f) (fun i x => ?_) _
  have dwell : apart (F.CAST_PHASE_D_EFF i) f = true := by
    simp only [apart, here]
    exact Bool.or_eq_true_iff.2 (.inl (by simp [Reg.CAST_STATUS]; omega))
  refine (when_eq (fun x => x.get f) _ rfl).trans ?_
  exact (get_setIbit_apart _ relaxed).trans (get_set_apart _ dwell)

/-- What a judgement makes of the level. -/
def derateJudged (s : State) : Nat :=
  if s.derate < (List.range 4).foldl (fun best l => if s.derateHolds l 0 then l else best) 0 then
    (List.range 4).foldl (fun best l => if s.derateHolds l 0 then l else best) 0
  else if 0 < s.derate && !s.derateHolds s.derate (s.wt16 0x1A) then s.derate - 1 else s.derate

theorem derateHolds_two {s : State} (cool : s.bit F.CAST_STATUS_COOL_TO = true) (hyst : Int) : s.derateHolds 2 hyst = true := by
  simp [derateHolds, cool]

theorem derateJudged_le {s : State} (cool : s.bit F.CAST_STATUS_COOL_TO = true) : 2 ≤ s.derateJudged ∧ s.derateJudged ≤ 3 := by
  have small : s.derate < 4 := s.get_lt F.CAST_STATUS_DERATE
  have up : (List.range 4).foldl (fun best l => if s.derateHolds l 0 then l else best) 0 = if s.derateHolds 3 0 then 3 else 2 := by
    simp [show List.range 4 = [0, 1, 2, 3] from rfl, derateHolds_two cool]
  obtain ⟨u, hu, lo, hi⟩ : ∃ u, (if s.derateHolds 3 0 then 3 else 2) = u ∧ 2 ≤ u ∧ u ≤ 3 := by
    split
    · exact ⟨3, rfl, by decide, by decide⟩
    · exact ⟨2, rfl, by decide, by decide⟩
  unfold derateJudged
  rw [up, hu]
  split
  · exact ⟨lo, hi⟩
  split
  next falls =>
    have other : s.derate ≠ 2 := fun same => by simp [same, derateHolds_two cool] at falls
    omega
  · omega

/-- COOL_TO set, and the level 2 or 3 (R329). -/
structure Cooled (s : State) : Prop where
  lost : s.bit F.CAST_STATUS_COOL_TO = true
  level : 2 ≤ s.derate

theorem cooled_judgeDerate (cool : s.bit F.CAST_STATUS_COOL_TO = true) : s.judgeDerate.Cooled := by
  obtain ⟨least, most⟩ := derateJudged_le cool
  have shown : s.judgeDerate = if s.derateJudged = s.derate then s else
      (((s.set F.CAST_STATUS_DERATE s.derateJudged).clampDwell).raise 146).when (s.derateJudged == 3 && s.derate < 3) engineFault := rfl
  rw [shown]
  split
  next same => exact ⟨cool, same ▸ least⟩
  · generalize hx : (s.set F.CAST_STATUS_DERATE s.derateJudged).clampDwell = x
    have told (f : FieldRef) : ((x.raise 146).when (s.derateJudged == 3 && s.derate < 3) engineFault).get f = x.get f :=
      (when_eq (fun y => y.get f) _ (rfl : (x.raise 146).engineFault.get f = (x.raise 146).get f)).trans rfl
    constructor
    · rw [bit, told, ← hx, get_clampDwell _ (by decide) rfl, ← bit, bit_set_apart _ (by decide), cool]
    · rw [derate, told, ← hx, get_clampDwell _ (by decide) rfl, get_set_of_lt _ (Nat.le_of_ble_eq_true rfl) (Nat.lt_succ_of_le most)]
      exact least

variable {s}

theorem kept_showPumpFlt_cast (s : State) (timeout : Bool) : Kept reactRegs [.pump, .router, .curt] s (s.showPumpFlt timeout) :=
  (s.kept_showPumpFlt timeout).mono

/-- The drive's reactions leave casting's own state (R507, R520, R523, R524). -/
theorem kept_pumpReact_cast (s : State) : Kept reactRegs [.pump, .router, .curt] s s.pumpReact := by
  have fault (x : State) (code : Nat) : Kept reactRegs [.pump, .router, .curt] x (x.pumpFaultIf code) := by
    unfold pumpFaultIf
    refine Kept.ite ?_ Kept.rfl
    rw [pumpFaultAs_eq]
    exact (x.kept_faultTold code).mono.trans (kept_showPumpFlt_cast _ _)
  rw [pumpReact_eq]
  refine Kept.rfl.ite ?_
  have latch : Kept reactRegs [.pump, .router, .curt] s s.demanded.latchTaken := s.kept_demanded.mono.when fun h => h.trans (fault _ _)
  exact ((latch.trans (kept_chopChecked _).mono).trans (kept_moved _).mono).trans (kept_showPumpFlt_cast _ _)

theorem Cooled.kept {regs : List Nat} {parts : List Part} {t : State} (h : s.Cooled) (k : Kept regs parts s t)
    (apart' : Reg.CAST_STATUS ∉ regs := by decide) : t.Cooled :=
  ⟨(k.bit apart').trans h.lost, h.level.trans_eq (k.get (f := F.CAST_STATUS_DERATE) apart').symm⟩

theorem Cooled.showPumpFlt (h : s.Cooled) (timeout : Bool) : (s.showPumpFlt timeout).Cooled := by
  have noted : Kept [] [.pump] s (s.mapPump fun p => { p with outSince := s.outSince }) := Kept.rfl.mapPump
  rw [showPumpFlt_eq]
  split
  · exact h.kept noted
  · refine cooled_judgeDerate _ ?_
    exact (bit_setBit_apart _ (by decide)).trans (h.kept noted).lost

theorem Cooled.pumpReact (h : s.Cooled) : s.pumpReact.Cooled := by
  rw [pumpReact_eq]
  split
  · exact h
  have latch : s.demanded.latchTaken.Cooled := by
    have h := h.kept s.kept_demanded
    unfold latchTaken
    cases s.demanded.bit F.PUMP_CTRL_EN && s.demanded.guardLatched with
    | false => exact h
    | true =>
      rw [when_true, pumpFaultIf]
      split
      · rw [pumpFaultAs_eq]
        exact (h.kept (kept_faultTold ..)).showPumpFlt _
      · exact h
  exact ((latch.kept (kept_chopChecked _)).kept (kept_moved _)).showPumpFlt _

end State

/-- Settles O24, by what a readmission changes and by the level that COOL_TO holds. -/
theorem readmissionAndCoolant : Obligations.ReadmissionAndCoolant := by
  unfold Obligations.ReadmissionAndCoolant
  refine ⟨?back, ?refused, ?coolant⟩
  case back =>
    intro s t data a c r back
    have now : s.advance t = a := rfl
    clear_value a
    intro free go down out trained link
    have run := (State.bar0_of_not_tableau free Reg.CAST_READMIT data (State.writeCastReadmit data))
    have allowed : (data.getLsbD 31 && a.readmits c) = true := by
      simp [State.readmits, go, down, out, trained, link]
    obtain ⟨y, hy⟩ : ∃ y, y = a.readmitted c := ⟨_, rfl⟩
    have kept : Kept [Reg.CAST_CELL c] [] a y := hy ▸ a.kept_readmitted c
    have state : y.cState c = _ := hy ▸ a.cState_readmitted c
    have cause : y.get (F.CAST_CELL_CAUSE c) = 0 := hy ▸ a.cause_readmitted c
    have age : y.get (F.CAST_CELL_AGE c) = a.get (F.CAST_CELL_AGE c) := hy ▸ a.get_readmitted (by simp [apart]) (by simp [apart])
    have partner : y.get (F.CAST_CELL_PARTNER c) = r := hy ▸ a.get_readmitted (by simp [apart]) (by simp [apart])
    have stands : y.standsIn c r ↔ back := hy ▸ State.standsIn_readmitted out
    have effect : a.bar0 Reg.CAST_READMIT data (State.writeCastReadmit data) = y.partnerBack c :=
      run.trans ((a.writeCastReadmit_eq data).trans ((if_pos allowed).trans (by rw [hy])))
    by_cases steps : back
    · have other : c ≠ r := by
        rintro same
        obtain ⟨-, -, up⟩ := steps
        rw [← same, out] at up
        exact absurd up (by decide)
      have down := y.kept_steppedDown r
      have away {f : FieldRef} (hf : f.addr = Reg.CAST_CELL c) : (y.steppedDown r).get f = y.get f :=
        down.get (by simpa [hf, Reg.CAST_CELL] using other)
      refine completes_at (exec_castReadmit t data s) now (effect.trans (State.partnerBack_of_standsIn partner (stands.2 steps)))
        ⟨?_, ?_, ?_, fun _ => ⟨?_, ?_, ?_, ?_⟩, fun no => absurd steps no⟩
      · exact (State.get_settle ..).trans ((away rfl).trans state)
      · exact (State.get_settle ..).trans ((away rfl).trans cause)
      · exact (State.get_settle ..).trans ((away rfl).trans age)
      · exact (State.get_settle ..).trans (y.cState_steppedDown r)
      · rw [State.tx, State.wing_settle, ← State.tx, y.lastLegs_steppedDown r]
      · rw [State.tx, State.wing_settle, ← State.tx]
        exact y.order_steppedDown r
      · exact ((kept.mono (by simp) (by simp)).trans (down.mono (by simp) (List.Subset.refl _))).settled now
    · refine completes_at (exec_castReadmit t data s) now (effect.trans (State.partnerBack_of_not partner (mt stands.1 steps)))
        ⟨?_, ?_, ?_, fun yes => absurd yes steps, fun _ => kept.settled now⟩
      · exact (State.get_settle ..).trans state
      · exact (State.get_settle ..).trans cause
      · exact (State.get_settle ..).trans age
  case refused =>
    intro s t data a c
    have now : s.advance t = a := rfl
    clear_value a
    intro free fails
    have run := (State.bar0_of_not_tableau free Reg.CAST_READMIT data (State.writeCastReadmit data))
    refine completes_at (exec_castReadmit t data s) now (run.trans ((a.writeCastReadmit_eq data).trans (if_neg ?_))) ⟨?_, Kept.rfl.setBit.settled now⟩
    · simp only [State.readmits, Bool.and_eq_true, Bool.not_eq_true', beq_iff_eq]
      rintro ⟨go, ⟨⟨down, out⟩, trained⟩, link⟩
      rcases fails with h | h | h | h | h
      · exact absurd (go.symm.trans h) (by decide)
      · exact absurd (down.symm.trans h) (by decide)
      · exact h out
      · exact absurd (trained.symm.trans h) (by decide)
      · exact absurd (link.symm.trans h) (by decide)
    · exact (State.bit_settle ..).trans (State.bit_setBit_same _ (by decide) rfl)
  case coolant =>
    intro s t a
    have now : s.advance t = a := rfl
    clear_value a
    intro bad free
    obtain ⟨x, hx⟩ : ∃ x, x = (a.setBit F.CAST_STATUS_COOL_TO true).judgeDerate := ⟨_, rfl⟩
    have cooled : x.Cooled := hx ▸ State.cooled_judgeDerate _ (State.bit_setBit_same _ (by decide) rfl)
    have set : Kept State.derateRegs [.router, .curt] a (a.setBit F.CAST_STATUS_COOL_TO true) := Kept.rfl.setBit
    have kept : Kept State.derateRegs [.router, .curt] a x := hx ▸ set.trans (State.kept_judgeDerate _)
    have all : Kept reactRegs [.pump, .router, .curt] a x.pumpReact := kept.mono.trans x.kept_pumpReact_cast
    have final := cooled.pumpReact
    refine completes_at (x := x.pumpReact) (exec_coolTo t s) now ((if_pos (by simp [bad, free])).trans (by rw [hx])) ⟨?_, ?_, ?_, ?_, ?_, ?_, fun c small => ?_⟩
    · exact (State.bit_settle ..).trans final.lost
    · exact final.level.trans_eq (State.get_settle ..).symm
    · exact (State.cast_settle ..).trans (all.2 .cast (by decide))
    · exact (State.wing_settle ..).trans (all.2 .wing (by decide))
    · exact (State.engine_settle ..).trans (all.2 .engine (by decide))
    · have same : a.tables = s.tables := now ▸ rfl
      have tables : x.pumpReact.tables = s.tables := Eq.trans (all.2 .tables (by decide)) same
      exact (State.tables_settle s a _ tables).trans same.symm
    · refine (State.reg_settle ..).trans (all.reg ?_)
      have far : ∀ r ∈ reactRegs, r < 0x3600 ∨ 0x3800 ≤ r := by decide
      intro mem
      have cell : Reg.CAST_CELL c = 0x3600 + 4 * c := rfl
      have := far _ mem
      omega

end Sys2Proof.Machine

/-! PROOFS. The survey (spec/17 R674 to R676). -/

namespace Sys2Proof.Machine

set_option Elab.async false

/-- The bodies of the entries that a command leaves staged. -/
def stagedBodies (o : Host.Outcome State Fault Refusal) : List (List Byte) :=
  match o with
  | .next b => b.host.staged.map StagedEntry.body
  | _ => []

/-- The reset state with ring 3 enabled and a paused survey that is to go on with cell 2177, which its roster has as present. -/
def straySurvey : State :=
  let s := { State.reset with
    scrub := { State.reset.scrub with passNext := some 2177 }
    tables := [(tid.roster, { work := [(32 * 2177 + 3, 1)] })] }
  ((s.setReg Reg.SCRUB_STATUS 4#32).setBit (F.HOST_RING_CFG_EN 3) true)

/-- Refutes O52: of a state whose survey is to go on with cell 2177, CAST_CELL 2177 would stand at 0x5804, which is SCRUB_STATUS. SURVEY_RESUME
clears SURVEY_PAUSED there before the entry is made, so byte 9, the cell's STATE, is 0 where the statement has the state's own entry with 4. -/
theorem not_scrubbingSurveyAndWear : ¬ Obligations.ScrubbingSurveyAndWear := by
  rintro ⟨-, -, -, -, -, survey, -, -⟩
  obtain ⟨-, resumed⟩ := survey straySurvey 0 2177 (by decide +kernel)
  obtain ⟨b, run, -, room, -⟩ := resumed (by decide +kernel)
  obtain ⟨-, host, -⟩ := room (by decide +kernel)
  have stated : b.host.staged.map StagedEntry.body = [(straySurvey.advance 0).surveyEntry 2177] := by
    rw [host, if_pos (by decide +kernel)]
    rfl
  have written : (stagedBodies (exec (.surveyResume 0) straySurvey)).map (fun l => l.getD 9 7) = [0] := by decide +kernel
  have entry : ((straySurvey.advance 0).surveyEntry 2177).getD 9 7 = 4 := by decide +kernel
  rw [run, stagedBodies, stated, List.map_singleton, entry] at written
  exact absurd written (by decide)

end Sys2Proof.Machine

/-! PROOFS. Handovers, the reference monitor and urgent conversions (spec/03 R114, R120, R125 to R143). -/

namespace Sys2Proof.Machine

set_option Elab.async false

namespace State

variable (s : State)

/-! One bit of a field -/

theorem ibit_setIbit_same {f : FieldRef} {i : Nat} {b : Bool} (h : f.lo + f.w ≤ 32) (hi : i < f.w) : (s.setIbit f i b).ibit f i = b := by
  rw [ibit, setIbit, get_set_same _ h, Nat.testBit_mod_two_pow, testBit_putBits]
  cases b <;> simp [hi]

theorem ibit_setIbit_apart {f g : FieldRef} {i j : Nat} {b : Bool} (h : apart f g = true) : (s.setIbit f i b).ibit g j = s.ibit g j := by
  rw [ibit, get_setIbit_apart _ h, ibit]

theorem ibit_set_apart {f g : FieldRef} {v j : Nat} (h : apart f g = true) : (s.set f v).ibit g j = s.ibit g j := by
  rw [ibit, get_set_apart _ h, ibit]

/-! The state of a group's understudy -/

theorem hand_setHand (g : Nat) (h : Handover) : (s.setHand g h).hand g = h := (Sparse.get_set ..).trans (if_pos rfl)

theorem hand_of_conv {a b : State} (h : b.conv = a.conv) (g : Nat) : b.hand g = a.hand g := by
  rw [hand, hand, h]

theorem kept_setHand (g : Nat) (h : Handover) : Kept [] [.conv] s (s.setHand g h) := Kept.rfl.conv

theorem usState_set {v g : Nat} (hv : v < 8) : (s.set (F.CONV_MAP_US_STATE g) v).usState g = v :=
  get_set_of_lt _ (Nat.le_of_ble_eq_true rfl) hv

theorem usSlice_setState (v g : Nat) : (s.set (F.CONV_MAP_US_STATE g) v).usSlice g = s.usSlice g :=
  get_set_apart _ (by simp [apart])

/-- A handover's shadows given up. -/
def unshadowed (g : Nat) (s : State) : State := { s with conv := { s.conv with
  inflight := s.conv.inflight.filter fun c => !(c.use == Use.shadow && c.slice / 5 == g) } }

/-- A first failure waits for its retry (R131). -/
def firstFail (g : Nat) (s : State) : State := (s.unshadowed g).set (F.CONV_MAP_US_STATE g) us.idle

/-- A lasting failure takes the slice out (R132). -/
def lastFail (g : Nat) (overlap : Bool) (s : State) : State :=
  ((((((s.unshadowed g).setIbit (F.CONV_MAP_OUT g) (s.usSlice g) true).set (F.CONV_MAP_US_SLICE g) 7).set (F.CONV_MAP_US_STATE g)
    us.out).setIbit F.CONV_STATUS_NO_US g true).when overlap fun x => x.setIbit F.CONV_STATUS_SUSPECT g true)

theorem failHand_eq (g : Nat) (overlap : Bool) : s.failHand g overlap = if (s.hand g).failed then
    ((s.lastFail g overlap).setHand g { part := (s.hand g).part, endAt := (s.lastFail g overlap).elapsed }).raise 53
    else ((s.firstFail g).setHand g { part := (s.hand g).part, failed := true, endAt := (s.firstFail g).elapsed, urgent := (s.hand g).urgent }).raise
      52 := rfl

/-! A failed attempt (R131, R132) -/

theorem kept_unshadowed (g : Nat) : Kept [] [.conv] s (s.unshadowed g) := Kept.rfl.conv

theorem kept_firstFail (g : Nat) : Kept [Reg.CONV_MAP g] [.conv] s (s.firstFail g) :=
  ((s.kept_unshadowed g).mono (by simp)).set (hf := List.mem_singleton.2 rfl)

theorem kept_lastFail (g : Nat) (overlap : Bool) : Kept [Reg.CONV_MAP g, Reg.CONV_STATUS] [.conv] s (s.lastFail g overlap) := by
  have map : Reg.CONV_MAP g ∈ [Reg.CONV_MAP g, Reg.CONV_STATUS] := List.mem_cons_self ..
  have status : Reg.CONV_STATUS ∈ [Reg.CONV_MAP g, Reg.CONV_STATUS] := by simp
  have k := (s.kept_unshadowed g).mono (regs' := [Reg.CONV_MAP g, Reg.CONV_STATUS]) (by simp) (List.Subset.refl _)
  exact ((((k.setIbit (hf := map)).set (hf := map)).set (hf := map)).setIbit (hf := status)).when fun k => k.setIbit (hf := status)

theorem out_lastFail {g : Nat} (small : g < 4) (overlap : Bool) : (s.lastFail g overlap).usState g = us.out ∧ (s.lastFail g overlap).usSlice g = 7 ∧
    (s.lastFail g overlap).ibit F.CONV_STATUS_NO_US g = true ∧ (overlap = true → (s.lastFail g overlap).ibit F.CONV_STATUS_SUSPECT g = true) := by
  unfold lastFail
  generalize (s.unshadowed g).setIbit (F.CONV_MAP_OUT g) (s.usSlice g) true = x
  have far : ∀ f : FieldRef, f.addr = Reg.CONV_MAP g → apart F.CONV_STATUS_NO_US f = true ∧ apart F.CONV_STATUS_SUSPECT f = true := by
    intro f hf
    have other : Reg.CONV_STATUS ≠ Reg.CONV_MAP g := by simp [Reg.CONV_MAP, Reg.CONV_STATUS]; omega
    simp [apart, hf, other]
  have after (f : FieldRef) (hf : f.addr = Reg.CONV_MAP g) (z : State) :
      ((z.setIbit F.CONV_STATUS_NO_US g true).when overlap fun y => y.setIbit F.CONV_STATUS_SUSPECT g true).get f = z.get f :=
    (when_eq (fun y => y.get f) _ (get_setIbit_apart _ (far f hf).2)).trans (get_setIbit_apart _ (far f hf).1)
  refine ⟨?_, ?_, ?_, fun on => ?_⟩
  · exact (after (F.CONV_MAP_US_STATE g) rfl _).trans (usState_set _ (by decide))
  · exact (after (F.CONV_MAP_US_SLICE g) rfl _).trans ((usSlice_setState ..).trans (get_set_of_lt _ (Nat.le_of_ble_eq_true rfl)
      (Nat.le_of_ble_eq_true rfl)))
  · generalize ((x.set (F.CONV_MAP_US_SLICE g) 7).set (F.CONV_MAP_US_STATE g) us.out) = z
    have set : (z.setIbit F.CONV_STATUS_NO_US g true).ibit F.CONV_STATUS_NO_US g = true := ibit_setIbit_same z (by decide) small
    generalize z.setIbit F.CONV_STATUS_NO_US g true = y at set
    have stays : (y.setIbit F.CONV_STATUS_SUSPECT g true).ibit F.CONV_STATUS_NO_US g = y.ibit F.CONV_STATUS_NO_US g := ibit_setIbit_apart y (by decide)
    cases overlap with
    | false => exact set
    | true => exact stays.trans set
  · rw [on, when_true]
    exact ibit_setIbit_same _ (by decide) small

theorem elapsed_firstFail (g : Nat) : (s.firstFail g).elapsed = s.elapsed := elapsed_set ..

theorem kept_failHand (g : Nat) (overlap : Bool) :
    Kept [Reg.CONV_MAP g, Reg.CONV_STATUS, Reg.SCRUB_FAULT_SEEN] [.conv, .router] s (s.failHand g overlap) := by
  have seen : Reg.SCRUB_FAULT_SEEN ∈ [Reg.CONV_MAP g, Reg.CONV_STATUS, Reg.SCRUB_FAULT_SEEN] := by simp
  rw [failHand_eq]
  refine Kept.ite ?_ ?_
  · exact ((((s.kept_lastFail g overlap).trans ((kept_setHand ..).mono (by simp) (by simp))).mono (by simp) (by simp)).raiseFault (hf := seen))
  · exact ((((s.kept_firstFail g).trans ((kept_setHand ..).mono (by simp) (by simp))).mono (by simp) (by simp)).raiseFault (hf := seen))

/-- What a failed attempt leaves of its group. -/
theorem failed_failHand {g : Nat} (small : g < 4) (overlap : Bool) :
    if (s.hand g).failed then
      (s.failHand g overlap).usState g = us.out ∧ (s.failHand g overlap).usSlice g = 7 ∧ (s.failHand g overlap).ibit F.CONV_STATUS_NO_US g = true ∧
        (overlap = true → (s.failHand g overlap).ibit F.CONV_STATUS_SUSPECT g = true) ∧ Raised [(s.datum, 53, 0)] s (s.failHand g overlap)
    else (s.failHand g overlap).usState g = us.idle ∧ (s.failHand g overlap).usSlice g = s.usSlice g ∧
      ((s.failHand g overlap).hand g).failed = true ∧ ((s.failHand g overlap).hand g).endAt = s.elapsed ∧
      Raised [(s.datum, 52, 0)] s (s.failHand g overlap) := by
  rw [failHand_eq]
  split
  next last =>
    obtain ⟨state, slice, none, suspect⟩ := s.out_lastFail small overlap
    have kept := s.kept_lastFail g overlap
    generalize s.lastFail g overlap = x at state slice none suspect kept
    have noted := x.kept_setHand g { part := (s.hand g).part, endAt := x.elapsed }
    generalize x.setHand g { part := (s.hand g).part, endAt := x.elapsed } = y at noted
    have told (f : FieldRef) (h : apart F.SCRUB_FAULT_SEEN_SEEN f = true) : (y.raise 53).get f = x.get f :=
      (get_raise_apart _ h).trans (noted.get (by simp))
    have map {f : FieldRef} (hf : f.addr = Reg.CONV_MAP g) : (y.raise 53).get f = x.get f := by
      refine told f ?_
      simp [apart, hf, Reg.CONV_MAP]
      omega
    refine ⟨(map rfl).trans state, (map rfl).trans slice, ?_, fun on => ?_, (kept.trans (noted.mono (by simp) (by simp))).raised⟩
    · rw [ibit, told _ (by decide), ← ibit, none]
    · rw [ibit, told _ (by decide), ← ibit, suspect on]
  next first =>
    have kept := s.kept_firstFail g
    have elapsed := s.elapsed_firstFail g
    have state : (s.firstFail g).usState g = us.idle := usState_set _ (by decide)
    have slice : (s.firstFail g).usSlice g = s.usSlice g := (usSlice_setState ..).trans ((s.kept_unshadowed g).get (by simp))
    generalize s.firstFail g = x at kept elapsed state slice
    have noted := x.kept_setHand g { part := (s.hand g).part, failed := true, endAt := x.elapsed, urgent := (s.hand g).urgent }
    have held : (x.setHand g { part := (s.hand g).part, failed := true, endAt := x.elapsed, urgent := (s.hand g).urgent }).hand g = _ :=
      x.hand_setHand ..
    generalize x.setHand g { part := (s.hand g).part, failed := true, endAt := x.elapsed, urgent := (s.hand g).urgent } = y at noted held
    have silent : Kept [] [.router] y (y.raise 52) := Kept.rfl.raise
    have same : (y.raise 52).hand g = y.hand g := hand_of_conv (silent.2 .conv (by decide)) g
    refine ⟨(silent.get (by simp)).trans ((noted.get (by simp)).trans state), (silent.get (by simp)).trans ((noted.get (by simp)).trans slice), ?_, ?_,
      (kept.trans (noted.mono (by simp) (by simp))).raised⟩
    · rw [same, held]
    · rw [same, held, elapsed]

/-! A set fitted, and an overlap's verdict (R127, R129) -/

/-- A fitted set in force, its age starting anew (R127, R134). -/
def calibrated (g : Nat) (fit : LadderFit) (s : State) : State := { s with conv := { s.conv with
  calAt := Sparse.set (fun _ => 0) s.conv.calAt (5 * g + s.usSlice g) s.elapsed
  cals := Sparse.set (fun _ => []) s.conv.cals (5 * g + s.usSlice g) fit.cal } }

theorem kept_calibrated (g : Nat) (fit : LadderFit) : Kept [] [.conv] s (s.calibrated g fit) := Kept.rfl.conv

theorem kept_showOverlap (g : Nat) : Kept [Reg.CONV_OVL g] [] s (s.showOverlap g) := by
  unfold showOverlap
  exact (Kept.rfl.setSat (f := F.CONV_OVL_MEAN g) (hf := List.mem_singleton.2 rfl)).setTop (f := F.CONV_OVL_PEAK g) (hf := List.mem_singleton.2 rfl)

theorem elapsed_showOverlap (g : Nat) : (s.showOverlap g).elapsed = s.elapsed := by
  unfold showOverlap
  rw [setTop, elapsed_set, setSat, setInt, elapsed_set]

/-! A swap (R130, R131) -/

/-- The relieved slice as the understudy, the part with the slice that was it. -/
def relieved (g p : Nat) (s : State) : State :=
  ((s.set ⟨Reg.CONV_MAP g, 4 * p, 3⟩ (s.usSlice g)).set (F.CONV_MAP_US_SLICE g) (s.partSlice g p)).set (F.CONV_MAP_US_STATE g) us.idle

theorem kept_relieved (g p : Nat) : Kept [Reg.CONV_MAP g] [] s (s.relieved g p) :=
  ((Kept.rfl.set (f := ⟨Reg.CONV_MAP g, 4 * p, 3⟩) (hf := List.mem_singleton.2 rfl)).set (f := F.CONV_MAP_US_SLICE g)
    (hf := List.mem_singleton.2 rfl)).set (f := F.CONV_MAP_US_STATE g) (hf := List.mem_singleton.2 rfl)

theorem usState_relieved (g p : Nat) : (s.relieved g p).usState g = us.idle := usState_set _ (by decide)

theorem usSlice_relieved (g p : Nat) : (s.relieved g p).usSlice g = s.partSlice g p :=
  (usSlice_setState ..).trans (get_set_of_lt _ (Nat.le_of_ble_eq_true rfl) (bitsOf_lt ..))

theorem partSlice_relieved (g : Nat) {p : Nat} (small : p < 4) : (s.relieved g p).partSlice g p = s.usSlice g := by
  have state : apart (F.CONV_MAP_US_STATE g) ⟨Reg.CONV_MAP g, 4 * p, 3⟩ = true := by
    simp [apart]
    omega
  have slice : apart (F.CONV_MAP_US_SLICE g) ⟨Reg.CONV_MAP g, 4 * p, 3⟩ = true := by
    simp [apart]
    omega
  have fits : (⟨Reg.CONV_MAP g, 4 * p, 3⟩ : FieldRef).lo + 3 ≤ 32 := by
    show 4 * p + 3 ≤ 32
    omega
  exact (get_set_apart _ state).trans ((get_set_apart _ slice).trans (get_set_of_lt _ fits (s.get_lt (F.CONV_MAP_US_SLICE g))))

/-- The flag of a group whose calibration has aged, and the slot writes that waited for its swap (R114, R134). -/
def groupFreed (g : Nat) (s : State) : State :=
  (s.setIbit F.CONV_STATUS_CAL_STALE g (s.ibit F.CONV_STATUS_CAL_STALE g && s.groupOld g)).flagsNow.releaseSlots g

theorem kept_groupFreed (g : Nat) : Kept [Reg.CONV_STATUS] [.conv] s (s.groupFreed g) := Kept.rfl.setIbit.conv.conv

theorem elapsed_groupFreed (g : Nat) : (s.groupFreed g).elapsed = s.elapsed := by
  have freed (x : State) : (x.flagsNow.releaseSlots g).elapsed = x.elapsed := rfl
  exact (freed _).trans (elapsed_setIbit ..)

theorem elapsed_relieved (g p : Nat) : (s.relieved g p).elapsed = s.elapsed := by
  rw [relieved, elapsed_set, elapsed_set, elapsed_set]

/-- A retry that has succeeded is counted (R132). -/
def retried (failed : Bool) (s : State) : State := s.when failed fun x => x.transient F.CONV_TRANSIENT_COUNT

theorem kept_retried (failed : Bool) : Kept [Reg.CONV_TRANSIENT, Reg.SCRUB_FAULT_SEEN] [] s (s.retried failed) := Kept.rfl.when fun k => k.transient

theorem count_retried (failed : Bool) : (s.retried failed).get F.CONV_TRANSIENT_COUNT =
    min (s.get F.CONV_TRANSIENT_COUNT + if failed then 1 else 0) 0xFFFFFFFF := by
  cases failed with
  | false =>
    have small := s.get_lt F.CONV_TRANSIENT_COUNT
    exact (Nat.min_eq_left (Nat.le_of_lt_succ small)).symm
  | true => exact (get_setIbit_apart _ (by decide)).trans (get_count_same _ (by decide))

theorem elapsed_retried (failed : Bool) : (s.retried failed).elapsed = s.elapsed := by
  cases failed with
  | false => rfl
  | true => exact (elapsed_setIbit ..).trans (elapsed_set ..)

theorem kept_flagsNow : Kept [] [.conv] s s.flagsNow := Kept.rfl.conv

end State

/-- What happens to a state that is as another in all that is raised and read is as if it happened to that. -/
theorem Raised.of_kept {regs : List Nat} {parts : List Part} {l : List (Nat × Nat × Nat)} {a x b : State} (k : Kept regs parts a x)
    (h : Raised l x b) (hp : .router ∉ parts := by decide) : Raised l a b := by
  have same : x.router = a.router := k.2 .router hp
  rw [Raised, ← same]
  exact h

/-- Settles O8, by the steps of a handover and by what a failed attempt leaves. -/
theorem handoversAndTheirFailures : Obligations.HandoversAndTheirFailures := by
  unfold Obligations.HandoversAndTheirFailures
  refine ⟨?begins, ?fitted, ?swaps, ?swapped, ?misfit, ?late, ?stale, ?outside, ?inside⟩
  case begins =>
    intro s t g a
    have now : s.advance t = a := rfl
    clear_value a
    intro due on busy free idle slice
    obtain ⟨y, hy⟩ : ∃ y, y = a.setHand g { a.hand g with ladder := a.elapsed + (1000 - a.datum % 1000) % 1000, lost := 0 } := ⟨_, rfl⟩
    have kept : Kept [] [.conv] a y := hy ▸ a.kept_setHand ..
    refine completes_at (x := y.set (F.CONV_MAP_US_STATE g) us.cal) (exec_handoverOpportunity t g s) now
      ((if_pos (by simp [State.expired, due, on, busy, free, idle, slice])).trans (by rw [hy])) ⟨?_, ?_, ?_, ?_⟩
    · exact (State.get_settle ..).trans (State.usState_set _ (by decide))
    · exact (State.get_settle ..).trans ((State.usSlice_setState ..).trans (kept.get (by simp)))
    · rw [State.hand, State.conv_settle, State.conv_set, ← State.hand, hy, State.hand_setHand]
    · exact ((kept.mono (by simp) (List.Subset.refl _)).set (f := F.CONV_MAP_US_STATE g) (hf := List.mem_singleton.2 rfl)).settled now
  case fitted =>
    intro s t g fit a
    have now : s.advance t = a := rfl
    clear_value a
    intro state free ready good
    obtain ⟨y, hy⟩ : ∃ y, y = a.calibrated g fit := ⟨_, rfl⟩
    have kept : Kept [] [.conv] a y := hy ▸ a.kept_calibrated g fit
    have slice : y.usSlice g = a.usSlice g := kept.get (by simp)
    obtain ⟨h, hh⟩ : ∃ h : Handover, h = { a.hand g with
      start := y.elapsed, suspended := 0, waiting := [], pairs := 0, sum := 0, peak := 0, swapping := false, swapDone := false } := ⟨_, rfl⟩
    obtain ⟨z, hz⟩ : ∃ z, z = y.setHand g h := ⟨_, rfl⟩
    have noted : Kept [] [.conv] y z := hz ▸ y.kept_setHand ..
    have hand : (z.set (F.CONV_MAP_US_STATE g) us.overlap).hand g = h := by
      rw [State.hand, State.conv_set, ← State.hand, hz, State.hand_setHand]
    have conv : z.conv = { y.conv with hands := z.conv.hands } := hz ▸ rfl
    refine completes_at (x := z.set (F.CONV_MAP_US_STATE g) us.overlap) (exec_calComplete t g fit s) now
      ((if_pos (by simp [state, free, ready])).trans ((if_pos good).trans (by rw [hz, hh, hy]; rfl))) ⟨?_, ?_, ?_, ?_, ?_, ?_, ?_, ?_, ?_⟩
    · exact (State.get_settle ..).trans (State.usState_set _ (by decide))
    · exact (State.get_settle ..).trans ((State.usSlice_setState ..).trans ((noted.get (by simp)).trans slice))
    · rw [State.hand, State.conv_settle, ← State.hand, hand, hh]
    · rw [State.hand, State.conv_settle, ← State.hand, hand, hh, hy]
      rfl
    · rw [State.hand, State.conv_settle, ← State.hand, hand, hh]
    · rw [State.conv_settle, State.conv_set, conv, hy]
      exact (Sparse.get_set ..).trans (if_pos rfl)
    · rw [State.conv_settle, State.conv_set, conv, hy]
      exact (Sparse.get_set ..).trans (if_pos rfl)
    · rw [State.conv_settle, State.conv_set, conv, hy]
      rfl
    · exact (((kept.trans noted).mono (by simp) (List.Subset.refl _)).set (f := F.CONV_MAP_US_STATE g) (hf := List.mem_singleton.2 rfl)).settled now
  case swaps =>
    intro s t g a
    have now : s.advance t = a := rfl
    clear_value a
    intro state pairs mean peak
    obtain ⟨y, hy⟩ : ∃ y, y = a.showOverlap g := ⟨_, rfl⟩
    have kept : Kept [Reg.CONV_OVL g] [] a y := hy ▸ a.kept_showOverlap g
    have limits {f : FieldRef} (hf : f.addr = Reg.CONV_HAND) : y.get f = a.get f := kept.get (by simp [hf, Reg.CONV_OVL, Reg.CONV_HAND]; omega)
    obtain ⟨z, hz⟩ : ∃ z, z = y.setHand g { a.hand g with waiting := [], swapping := false, swapDone := false } := ⟨_, rfl⟩
    have noted : Kept [] [.conv] y z := hz ▸ y.kept_setHand ..
    have all : Kept [Reg.CONV_MAP g, Reg.CONV_OVL g] [.conv] a (z.set (F.CONV_MAP_US_STATE g) us.swap) :=
      ((kept.mono (by simp) (by simp)).trans (noted.mono (by simp) (List.Subset.refl _))).set (f := F.CONV_MAP_US_STATE g) (hf := List.mem_cons_self ..)
    have conv : (z.set (F.CONV_MAP_US_STATE g) us.swap).conv = { a.conv with hands := z.conv.hands } := by
      rw [State.conv_set, hz, ← (kept.2 .conv (by simp) : y.conv = a.conv)]
      rfl
    refine completes_at (x := z.set (F.CONV_MAP_US_STATE g) us.swap) (exec_overlapVerdict t g s) now ?_ ⟨?_, ?_, ?_, ?_, all.settled now⟩
    · refine (if_pos (by simp [state, pairs])).trans ((if_pos ?_).trans (by rw [hz, hy]))
      rw [← hy, limits rfl, limits rfl]
      simpa using ⟨mean, peak⟩
    · exact (State.get_settle ..).trans (State.usState_set _ (by decide))
    · refine (State.get_settle ..).trans ((State.usSlice_setState ..).trans ((noted.get (by simp)).trans (kept.get ?_)))
      simp [Reg.CONV_OVL]
    · rw [State.hand, State.conv_settle, State.conv_set, ← State.hand, hz, State.hand_setHand]
    · rw [State.conv_settle, conv]
  case swapped =>
    intro s t g a
    have now : s.advance t = a := rfl
    clear_value a
    intro state delivered small
    obtain ⟨h, hh⟩ : ∃ h, h = a.hand g := ⟨_, rfl⟩
    rw [← hh] at small delivered ⊢
    obtain ⟨x, hx⟩ : ∃ x, x = a.relieved g h.part := ⟨_, rfl⟩
    obtain ⟨y, hy⟩ : ∃ y, y = x.groupFreed g := ⟨_, rfl⟩
    obtain ⟨z, hz⟩ : ∃ z, z = y.retried h.failed := ⟨_, rfl⟩
    obtain ⟨w, hw⟩ : ∃ w, w = z.setHand g { part := (h.part + 1) % 4, endAt := z.elapsed, urgent := h.urgent } := ⟨_, rfl⟩
    obtain ⟨v, hv⟩ : ∃ v, v = w.count F.CONV_HANDOVERS_COUNT := ⟨_, rfl⟩
    have keptx : Kept [Reg.CONV_MAP g] [] a x := hx ▸ a.kept_relieved ..
    have kepty : Kept [Reg.CONV_STATUS] [.conv] x y := hy ▸ x.kept_groupFreed g
    have keptz : Kept [Reg.CONV_TRANSIENT, Reg.SCRUB_FAULT_SEEN] [] y z := hz ▸ y.kept_retried _
    have keptw : Kept [] [.conv] z w := hw ▸ z.kept_setHand ..
    have keptv : Kept [Reg.CONV_HANDOVERS] [] w v := hv ▸ Kept.rfl.count
    have told : Kept [] [.router] v (v.raise 51) := Kept.rfl.raise
    have elapsed : z.elapsed = a.elapsed := by
      rw [hz, State.elapsed_retried, hy, State.elapsed_groupFreed, hx, State.elapsed_relieved]
    have hand : (v.raise 51).hand g = _ := (State.hand_of_conv (told.2 .conv (by decide)) g).trans
      ((State.hand_of_conv (keptv.2 .conv (by decide)) g).trans (hw ▸ z.hand_setHand ..))
    have map {f : FieldRef} (hf : f.addr = Reg.CONV_MAP g) : (v.raise 51).get f = x.get f :=
      (told.get (by simp)).trans ((keptv.get (by simp [hf, Reg.CONV_MAP, Reg.CONV_HANDOVERS]; omega)).trans ((keptw.get (by simp)).trans
        ((keptz.get (by simp [hf, Reg.CONV_MAP, Reg.CONV_TRANSIENT, Reg.SCRUB_FAULT_SEEN]; omega)).trans
          (kepty.get (by simp [hf, Reg.CONV_MAP, Reg.CONV_STATUS]; omega)))))
    have all : Kept [Reg.CONV_MAP g, Reg.CONV_STATUS, Reg.CONV_HANDOVERS, Reg.CONV_TRANSIENT, Reg.SCRUB_FAULT_SEEN] [.conv] a v :=
      ((((keptx.mono (by simp) (by simp)).trans (kepty.mono (by simp) (by simp))).trans (keptz.mono (by simp) (by simp))).trans
        (keptw.mono (by simp) (by simp))).trans (keptv.mono (by simp) (by simp))
    refine completes_at (x := v.raise 51) (exec_swap t g s) now ?_ ⟨?_, ?_, ?_, ?_, ?_, ?_, ?_, ?_, all.raised.settle, ?_⟩
    · refine (if_pos ?_).trans ?_
      · rw [← hh]
        simp [state, delivered]
      · rw [hv, hw, hz, hy, hx, hh]
        rfl
    · exact (State.get_settle ..).trans ((map (f := ⟨Reg.CONV_MAP g, 4 * h.part, 3⟩) rfl).trans (hx ▸ a.partSlice_relieved g small))
    · exact (State.get_settle ..).trans ((map rfl).trans (hx ▸ a.usSlice_relieved ..))
    · exact (State.get_settle ..).trans ((map rfl).trans (hx ▸ a.usState_relieved ..))
    · rw [State.hand, State.conv_settle, ← State.hand, hand]
    · rw [State.hand, State.conv_settle, ← State.hand, hand, elapsed]
    · rw [State.hand, State.conv_settle, ← State.hand, hand]
    · have before : w.get F.CONV_HANDOVERS_COUNT = a.get F.CONV_HANDOVERS_COUNT :=
        (keptw.get (by simp)).trans ((keptz.get (by decide)).trans ((kepty.get (by decide)).trans (keptx.get (by simp [Reg.CONV_MAP]; omega))))
      rw [State.get_settle, told.get (by simp), hv, State.get_count_same _ (by decide), before]
      rfl
    · have before : y.get F.CONV_TRANSIENT_COUNT = a.get F.CONV_TRANSIENT_COUNT :=
        (kepty.get (by decide)).trans (keptx.get (by simp [Reg.CONV_MAP]; omega))
      rw [State.get_settle, told.get (by simp), keptv.get (by decide), keptw.get (by simp), hz, State.count_retried, before]
    · exact ((all.mono (List.Subset.refl _) (by simp)).raise).settled now
  case misfit =>
    intro s t g fit a
    have now : s.advance t = a := rfl
    clear_value a
    intro state free ready bad
    refine completes_at (x := a.failHand g false) (exec_calComplete t g fit s) now
      ((if_pos (by simp [state, free, ready])).trans (if_neg (Nat.not_le.2 bad))) ⟨?_, (a.kept_failHand g false).settled now⟩
    have left := a.failed_failHand g.isLt false
    split at left
    next last =>
      rw [if_pos last]
      obtain ⟨out, slice, none, -, raised⟩ := left
      exact ⟨(State.get_settle ..).trans out, (State.get_settle ..).trans slice, (State.ibit_settle ..).trans none, raised.settle⟩
    next first =>
      rw [if_neg first]
      obtain ⟨idle, slice, failed, ends, raised⟩ := left
      exact ⟨(State.get_settle ..).trans idle, (State.get_settle ..).trans slice, failed, ends, raised.settle⟩
  case late =>
    intro s t g a
    have now : s.advance t = a := rfl
    clear_value a
    intro state pairs free late
    obtain ⟨y, hy⟩ : ∃ y, y = a.showOverlap g := ⟨_, rfl⟩
    have kept : Kept [Reg.CONV_OVL g] [] a y := hy ▸ a.kept_showOverlap g
    have elapsed : y.elapsed = a.elapsed := hy ▸ a.elapsed_showOverlap g
    have hand : y.hand g = a.hand g := State.hand_of_conv (kept.2 .conv (by simp)) g
    have datum : y.datum = a.datum := kept.2 .datum (by simp)
    refine completes_at (x := y.failHand g true) (exec_overlapTimeout t g s) now
      ((if_pos (by simp [state, pairs, free, late])).trans (by rw [hy])) ⟨?_, ?_⟩
    · have left := y.failed_failHand g.isLt true
      rw [hand, elapsed, datum] at left
      split at left
      next last =>
        rw [if_pos last]
        obtain ⟨out, slice, none, suspect, raised⟩ := left
        exact ⟨(State.get_settle ..).trans out, (State.get_settle ..).trans slice, (State.ibit_settle ..).trans none,
          (State.ibit_settle ..).trans (suspect rfl), (raised.of_kept kept).settle⟩
      next first =>
        rw [if_neg first]
        obtain ⟨idle, -, failed, ends, raised⟩ := left
        exact ⟨(State.get_settle ..).trans idle, failed, ends, (raised.of_kept kept).settle⟩
    · exact ((kept.mono (by simp) (by simp)).trans ((y.kept_failHand g true).mono (by simp) (List.Subset.refl _))).settled now
  case stale =>
    intro s t g a
    have now : s.advance t = a := rfl
    clear_value a
    intro old fresh
    obtain ⟨y, hy⟩ : ∃ y, y = (a.setIbit F.CONV_STATUS_CAL_STALE g true).flagsNow := ⟨_, rfl⟩
    have kept : Kept [Reg.CONV_STATUS] [.conv] a y := hy ▸ Kept.rfl.setIbit.conv
    have set : y.ibit F.CONV_STATUS_CAL_STALE g = true := by
      rw [hy, (State.kept_flagsNow _).ibit (by simp)]
      exact State.ibit_setIbit_same _ (by decide) g.isLt
    refine completes_at (x := y.raise 56) (exec_calStale t g s) now ((if_pos (by simp [old, fresh])).trans (by rw [hy]))
      ⟨?_, kept.raised.settle, ((kept.mono (List.Subset.refl _) (by simp)).raise).settled now⟩
    have told : Kept [] [.router] y (y.raise 56) := Kept.rfl.raise
    exact (State.ibit_settle ..).trans ((told.ibit (by simp)).trans set)
  case outside =>
    intro s t uv a
    have now : s.advance t = a := rfl
    clear_value a
    intro out second clear
    obtain ⟨x, hx⟩ : ∃ x : State, x = { a with conv := { a.conv with refIn := 0, refOut := min 3 (a.conv.refOut + 1) } } := ⟨_, rfl⟩
    have counted : Kept [] [.conv] a x := hx ▸ Kept.rfl.conv
    have third : x.conv.refOut = 3 := by rw [hx]; simp [second]
    obtain ⟨y, hy⟩ : ∃ y, y = (x.setBit F.CONV_STATUS_REF_FAULT true).flagsNow := ⟨_, rfl⟩
    have kept : Kept [Reg.CONV_STATUS] [.conv] a y := hy ▸ (counted.mono (by simp) (List.Subset.refl _)).setBit.conv
    have set : y.bit F.CONV_STATUS_REF_FAULT = true := by
      rw [hy, (State.kept_flagsNow _).bit (by simp)]
      exact State.bit_setBit_same _ (by decide) rfl
    have zero : y.conv.refIn = 0 := by
      have same : y.conv.refIn = (x.setBit F.CONV_STATUS_REF_FAULT true).conv.refIn := hy ▸ rfl
      rw [same, State.conv_setBit, hx]
    refine completes_at (x := y.raise 54) (exec_referenceMonitor t uv s) now ?_ ⟨?_, ?_, kept.raised.settle, ?_⟩
    · refine (if_neg (by simp; omega)).trans ?_
      rw [← hx]
      dsimp only
      rw [third, (counted.bit (by simp) : x.bit F.CONV_STATUS_REF_FAULT = _), clear, hy]
      rfl
    · exact (State.bit_settle ..).trans ((State.bit_raise_apart _ (by decide)).trans set)
    · rw [State.conv_settle, State.conv_raise, zero]
    · exact ((kept.mono (by simp) (by simp)).raiseFault).settled now
  case inside =>
    intro s t uv a
    have now : s.advance t = a := rfl
    clear_value a
    intro least most second
    obtain ⟨x, hx⟩ : ∃ x : State, x = { a with conv := { a.conv with refOut := 0, refIn := min 3 (a.conv.refIn + 1) } } := ⟨_, rfl⟩
    have counted : Kept [] [.conv] a x := hx ▸ Kept.rfl.conv
    have third : x.conv.refIn = 3 := by rw [hx]; simp [second]
    obtain ⟨y, hy⟩ : ∃ y, y = (x.setBit F.CONV_STATUS_REF_FAULT false).flagsNow := ⟨_, rfl⟩
    have kept : Kept [Reg.CONV_STATUS] [.conv] a y := hy ▸ (counted.mono (by simp) (List.Subset.refl _)).setBit.conv
    refine completes_at (x := y) (exec_referenceMonitor t uv s) now ?_ ⟨?_, ?_, kept.settled now⟩
    · refine (if_pos (by simp [least, most])).trans ?_
      rw [← hx]
      dsimp only
      rw [third, hy]
      rfl
    · rw [State.bit_settle, hy, (State.kept_flagsNow _).bit (by simp)]
      exact State.bit_setBit_same _ (by decide) rfl
    · have same : y.conv.refOut = (x.setBit F.CONV_STATUS_REF_FAULT false).conv.refOut := hy ▸ rfl
      rw [State.conv_settle, same, State.conv_setBit, hx]

end Sys2Proof.Machine

/-! PROOFS. Urgent requests, slot writes and READMIT (spec/03 R114, R133, R137 to R143). -/

namespace Sys2Proof.Machine

set_option Elab.async false

namespace State

variable (s : State)

/-! Urgent requests (R137 to R140) -/

theorem servingGroup_lt (n : Nat) : s.servingGroup n < 4 := by
  unfold servingGroup
  split
  next part eq =>
    have small := List.mem_range.1 (List.mem_of_find?_eq_some eq)
    omega
  · decide

/-- A group that cannot serve a request: it is in SWAP or without understudy (R139). -/
def passedOver (g : Nat) (s : State) : Bool := s.usState g = us.swap || 4 < s.usSlice g

/-- A request goes on past every group that cannot serve it. -/
theorem tryUrgent_passed (n delay who : Nat) {l : List Nat} (passed : ∀ g ∈ l, s.passedOver g = true) (rest : List Nat) :
    s.tryUrgent n delay who (l ++ rest) = s.tryUrgent n delay who rest := by
  induction l with
  | nil => rfl
  | cons g l ih =>
    rw [List.cons_append, tryUrgent]
    exact (if_pos (passed g (List.mem_cons_self ..))).trans (ih fun k hk => passed k (List.mem_cons_of_mem _ hk))

theorem tryUrgent_free {g : Nat} (n delay who : Nat) (here : s.passedOver g = false) (free : (s.hand g).urgent = none) (rest : List Nat) :
    s.tryUrgent n delay who (g :: rest) = s.serveUrgent g n delay who := by
  rw [tryUrgent]
  refine (if_neg (by rw [← passedOver, here]; decide)).trans ?_
  simp only [free]

theorem tryUrgent_busy {g : Nat} {x : Nat × Nat} (n delay who : Nat) (here : s.passedOver g = false) (busy : (s.hand g).urgent = some x)
    (older : x.1 ≠ s.elapsed + delay - 200) (rest : List Nat) : s.tryUrgent n delay who (g :: rest) = s.dropUrgent := by
  rw [tryUrgent]
  refine (if_neg (by rw [← passedOver, here]; decide)).trans ?_
  simp only [busy]
  exact if_neg (by simp [older])

/-- The groups that a request tries, from the serving group on. -/
theorem groups_eq (g : Nat) (small : g < 4) : [g, (g + 1) % 4, (g + 2) % 4, (g + 3) % 4] = (List.range 4).map fun j => (g + j) % 4 := by
  simp [List.range_succ, Nat.mod_eq_of_lt small]

theorem urgentRequest_eq (n delay who : Nat) : s.urgentRequest n delay who =
    s.tryUrgent n delay who ((List.range 4).map fun j => (s.servingGroup n + j) % 4) := by
  rw [urgentRequest, groups_eq _ (s.servingGroup_lt n)]

theorem range_cut (k : Fin 4) : List.range 4 = List.range k ++ k.val :: (List.range (3 - k)).map (· + (k + 1)) := by
  revert k
  decide

/-- A request is served by the first group that can serve it, where that is free. -/
theorem urgentRequest_served (n delay who : Nat) (k : Fin 4) (passed : ∀ j < k.val, s.passedOver ((s.servingGroup n + j) % 4) = true)
    (here : s.passedOver ((s.servingGroup n + k) % 4) = false) (free : (s.hand ((s.servingGroup n + k) % 4)).urgent = none) :
    s.urgentRequest n delay who = s.serveUrgent ((s.servingGroup n + k) % 4) n delay who := by
  rw [urgentRequest_eq, range_cut k, List.map_append, List.map_cons, tryUrgent_passed, tryUrgent_free _ _ _ _ here free]
  simpa using passed

/-- The understudy's shadow given up for the request, the request noted, its conversion held. -/
theorem serveUrgent_eq (g n who : Nat) : ∃ y, Kept [Reg.CONV_REQUEUE] [] s y ∧ y.elapsed = s.elapsed ∧ s.serveUrgent g n 200 who =
    ((({ y with conv := { y.conv with
      inflight := y.conv.inflight.filter fun c => !(c.use == Use.shadow && c.slice == 5 * g + s.usSlice g) } } : State)).setHand g
        { y.hand g with urgent := some (y.elapsed + 200 - 200, who) }).hold (y.conversion (5 * g + s.usSlice g) none n 200 .deliver) := by
  refine ⟨s.when ((s.usState g == us.cal && (s.hand g).ladder ≤ s.elapsed && s.elapsed < s.ladderEnd g) ||
    (s.usState g == us.overlap && s.conv.inflight.any fun c => c.use == Use.shadow && c.slice == 5 * g + s.usSlice g)) fun s =>
      s.count F.CONV_REQUEUE_COUNT, Kept.rfl.when fun k => k.count, when_eq elapsed _ (elapsed_set ..), rfl⟩

theorem conversion_of_kept {regs : List Nat} {parts : List Part} {a y : State} (k : Kept regs parts a y) (elapsed : y.elapsed = a.elapsed)
    (status : Reg.CONV_STATUS ∉ regs := by decide) (datum : .datum ∉ parts := by decide) (i : Nat) (part : Option Nat) (input delay : Nat) (use : Use) :
    y.conversion i part input delay use = a.conversion i part input delay use := by
  have now : y.datum = a.datum := k.2 .datum datum
  rw [conversion, conversion, k.bit (f := F.CONV_STATUS_REF_FAULT) status, k.ibit (f := F.CONV_STATUS_CAL_STALE) status, now, elapsed]

/-! A handover given up (R135) -/

/-- The understudy of a handover in CAL or OVERLAP idle again. -/
def understudyIdle (g : Nat) (s : State) : State := s.set (F.CONV_MAP_US_STATE g) us.idle

theorem abandonHand_eq (g : Nat) : s.abandonHand g =
    if s.usState g = us.cal || s.usState g = us.overlap then
      ((s.understudyIdle g).unshadowed g).setHand g
        { part := ((s.understudyIdle g).hand g).part
          endAt := ((s.understudyIdle g).unshadowed g).elapsed
          urgent := ((s.understudyIdle g).hand g).urgent }
    else if s.usState g = us.swap then s
    else s.setHand g { s.hand g with failed := false } := rfl

theorem kept_abandonHand (g : Nat) : Kept [Reg.CONV_MAP g] [.conv] s (s.abandonHand g) := by
  rw [abandonHand_eq]
  have idle : Kept [Reg.CONV_MAP g] [.conv] s (s.understudyIdle g) :=
    Kept.rfl.set (f := F.CONV_MAP_US_STATE g) (hf := List.mem_singleton.2 rfl)
  refine Kept.ite ?_ (Kept.ite Kept.rfl ((kept_setHand ..).mono (by simp) (List.Subset.refl _)))
  exact (idle.trans ((kept_unshadowed ..).mono (by simp) (List.Subset.refl _))).trans ((kept_setHand ..).mono (by simp) (List.Subset.refl _))

theorem slotWait_abandonHand (g : Nat) : (s.abandonHand g).conv.slotWait = s.conv.slotWait := by
  have held (x : State) (h : Handover) : (x.setHand g h).conv.slotWait = x.conv.slotWait := rfl
  have given (x : State) : (x.unshadowed g).conv.slotWait = x.conv.slotWait := rfl
  rw [abandonHand_eq]
  split
  · rw [held, given, understudyIdle, conv_set]
  · split
    · rfl
    · rw [held]

theorem get_abandonHand (g : Nat) {f : FieldRef} (other : apart (F.CONV_MAP_US_STATE g) f = true) : (s.abandonHand g).get f = s.get f := by
  rw [abandonHand_eq]
  split
  · exact ((kept_setHand ..).get (by simp)).trans (((kept_unshadowed ..).get (by simp)).trans (get_set_apart _ other))
  · split
    · rfl
    · exact (kept_setHand ..).get (by simp)

theorem usState_abandonHand {g : Nat} (busy : s.usState g = us.cal ∨ s.usState g = us.overlap) : (s.abandonHand g).usState g = us.idle := by
  rw [abandonHand_eq, if_pos (by simpa using busy)]
  exact ((kept_setHand ..).get (by simp)).trans (((kept_unshadowed ..).get (by simp)).trans (usState_set _ (by decide)))

theorem slotNow_lt (n : Nat) : s.slotNow n < 2 ^ 32 := by
  unfold slotNow
  repeat' split
  all_goals exact BitVec.isLt _

/-- A slot write's wait for the round boundary, or in SWAP for the swap (R114). -/
def slotWaitOf (n : Nat) (s : State) : SlotWait :=
  { old := BitVec.ofNat 32 (s.slotNow n), until_ := if s.usState (n / 4) = us.swap then none else some ((s.datum / 1000 + 1) * 1000) }

/-- A slot write taken (R114). -/
def slotStored (n : Nat) (data : Word) (s : State) : State :=
  ({ s with conv := { s.conv with slotWait := Sparse.set (fun _ => none) s.conv.slotWait n (some (s.slotWaitOf n)) } } : State).setReg
    (Reg.CONV_SLOT n) data

theorem kept_slotStored (n : Nat) (data : Word) : Kept [Reg.CONV_SLOT n] [.conv] s (s.slotStored n data) :=
  Kept.setReg Kept.rfl.conv (List.mem_singleton.2 rfl)

theorem writeSlot_eq (n : Nat) (data : Word) : s.writeSlot n data = if !s.curtainDown || 499 < bitsOf data.toNat 16 9 then
    s.setBit F.CONV_STATUS_CFG_REJECT true else (s.slotStored n data).abandonHand (n / 4) := rfl

/-- The slot in force while a write waits is the old one. -/
theorem slotNow_of_wait {a b : State} {n : Nat} (wait : Sparse.get (fun _ => none) b.conv.slotWait n = some (a.slotWaitOf n)) (now : b.datum = a.datum) :
    b.slotNow n = a.slotNow n := by
  have old : (a.slotWaitOf n).old.toNat = a.slotNow n := by
    rw [slotWaitOf, BitVec.toNat_ofNat, Nat.mod_eq_of_lt (a.slotNow_lt n)]
  rw [slotNow, wait]
  dsimp only
  by_cases swap : a.usState (n / 4) = us.swap
  · have open_ : (a.slotWaitOf n).until_ = none := if_pos swap
    rw [open_]
    exact old
  · have boundary : (a.slotWaitOf n).until_ = some ((a.datum / 1000 + 1) * 1000) := if_neg swap
    rw [boundary]
    exact (if_pos (by omega)).trans old

/-! READMIT (R133) -/

/-- A write of CONV_CTRL stored (R116). -/
def ctrlStored (data : Word) (s : State) : State :=
  (({ s with conv := { s.conv with runWait := some (s.runNow, (s.datum / 1000 + 1) * 1000) } } : State).setBit F.CONV_CTRL_RUN (data.getLsbD 0)).setBit
    F.CONV_CTRL_HAND_EN (data.getLsbD 1)

/-- With HAND_EN clear every handover in CAL or OVERLAP is given up (R135). -/
def handsCleared (data : Word) (s : State) : State := s.when (!data.getLsbD 1) fun s => s.each (List.range 4) abandonHand

theorem writeConvCtrl_eq (data : Word) : s.writeConvCtrl data =
    if s.bit F.CONV_CTRL_RUN && !data.getLsbD 0 && !s.curtainDown then s.setBit F.CONV_STATUS_CFG_REJECT true
    else ((s.ctrlStored data).handsCleared data).each ((List.range 4).filter fun g => data.getLsbD (8 + g)) readmitGroup := rfl

abbrev ctrlRegs : List Nat := [Reg.CONV_CTRL, Reg.CONV_STATUS, Reg.CONV_MAP 0, Reg.CONV_MAP 1, Reg.CONV_MAP 2, Reg.CONV_MAP 3]

theorem map_mem_ctrlRegs {g : Nat} (small : g < 4) : Reg.CONV_MAP g ∈ ctrlRegs := by
  interval_cases g <;> decide

theorem kept_ctrlStored (data : Word) : Kept [Reg.CONV_CTRL] [.conv] s (s.ctrlStored data) := Kept.rfl.conv.setBit.setBit

theorem run_ctrlStored (data : Word) : (s.ctrlStored data).bit F.CONV_CTRL_RUN = data.getLsbD 0 :=
  (bit_setBit_apart _ (by decide)).trans (bit_setBit_same _ (by decide) rfl)

theorem handEn_ctrlStored (data : Word) : (s.ctrlStored data).bit F.CONV_CTRL_HAND_EN = data.getLsbD 1 := bit_setBit_same _ (by decide) rfl

theorem kept_handsCleared (data : Word) : Kept ctrlRegs [.conv] s (s.handsCleared data) :=
  Kept.rfl.when fun h => h.each fun g hg x k => k.trans ((x.kept_abandonHand g).mono
    (List.cons_subset.2 ⟨map_mem_ctrlRegs (List.mem_range.1 hg), List.nil_subset _⟩) (List.Subset.refl _))

/-- READMIT leaves RUN and HAND_EN to the write, and the fields of other groups' understudies. -/
theorem get_handsCleared (data : Word) {f : FieldRef} (other : ∀ g, apart (F.CONV_MAP_US_STATE g) f = true) :
    (s.handsCleared data).get f = s.get f := by
  unfold handsCleared
  exact when_eq (fun x => x.get f) _ (each_eq s (fun x => x.get f) (fun g x => x.get_abandonHand g (other g)) _)

/-- The out slice of a group as its understudy (R133). -/
def outBack (g i : Nat) (s : State) : State :=
  (((s.set (F.CONV_MAP_OUT g) 0).set (F.CONV_MAP_US_SLICE g) i).set (F.CONV_MAP_US_STATE g) us.idle).setIbit F.CONV_STATUS_NO_US g false

theorem kept_outBack (g i : Nat) : Kept [Reg.CONV_MAP g, Reg.CONV_STATUS] [] s (s.outBack g i) := by
  have map : Reg.CONV_MAP g ∈ [Reg.CONV_MAP g, Reg.CONV_STATUS] := List.mem_cons_self ..
  exact (((Kept.rfl.set (f := F.CONV_MAP_OUT g) (hf := map)).set (f := F.CONV_MAP_US_SLICE g) (hf := map)).set (f := F.CONV_MAP_US_STATE g)
    (hf := map)).setIbit (hf := by simp)

theorem fields_outBack {g i : Nat} (small : g < 4) (slice : i < 5) : (s.outBack g i).get (F.CONV_MAP_OUT g) = 0 ∧ (s.outBack g i).usSlice g = i ∧
    (s.outBack g i).usState g = us.idle ∧ (s.outBack g i).ibit F.CONV_STATUS_NO_US g = false := by
  have far {f : FieldRef} (hf : f.addr = Reg.CONV_MAP g) : apart F.CONV_STATUS_NO_US f = true := by
    simp [apart, hf, Reg.CONV_MAP]
    omega
  refine ⟨?_, ?_, ?_, ibit_setIbit_same _ (by decide) small⟩
  · refine (get_setIbit_apart _ (far rfl)).trans ((get_set_apart _ (by simp [apart])).trans ((get_set_apart _ (by simp [apart])).trans ?_))
    exact get_set_of_lt _ (Nat.le_of_ble_eq_true rfl) (Nat.le_of_ble_eq_true rfl)
  · refine (get_setIbit_apart _ (far rfl)).trans ((usSlice_setState ..).trans (get_set_of_lt _ (Nat.le_of_ble_eq_true rfl) ?_))
    exact Nat.lt_of_lt_of_le slice (Nat.le_of_ble_eq_true rfl)
  · exact (get_setIbit_apart _ (far rfl)).trans (usState_set _ (by decide))

/-- The slice out of a group, where there is one. -/
def outSlice (g : Nat) (s : State) : Option Nat := (List.range 5).find? fun i => s.ibit (F.CONV_MAP_OUT g) i

theorem readmitGroup_some {g i : Nat} (out : s.outSlice g = some i) (down : s.curtainDown = true) :
    s.readmitGroup g = (s.outBack g i).setHand g { (s.outBack g i).hand g with failed := false } := by
  unfold outSlice at out
  unfold readmitGroup
  rw [out]
  exact if_pos down

theorem readmitGroup_none {g : Nat} (none : s.outSlice g = none) : s.readmitGroup g = s.setBit F.CONV_STATUS_CFG_REJECT true := by
  unfold outSlice at none
  unfold readmitGroup
  rw [none]

theorem outSlice_of_pow {g : Nat} (i : Fin 5) (one : s.get (F.CONV_MAP_OUT g) = 2 ^ i.val) : s.outSlice g = some i.val := by
  have first : ∀ i : Fin 5, (List.range 5).find? (fun j => decide (i.val = j)) = some i.val := by decide
  simpa only [outSlice, ibit, one, Nat.testBit_two_pow] using first i

theorem outSlice_of_zero {g : Nat} (zero : s.get (F.CONV_MAP_OUT g) = 0) : s.outSlice g = none := by
  simp [outSlice, ibit, zero]

/-- The group of a READMIT mask of one. -/
theorem readmitGroups_eq {data : Word} {g : Fin 4} (one : bitsOf data.toNat 8 4 = 2 ^ g.val) :
    ((List.range 4).filter fun k => data.getLsbD (8 + k)) = [g.val] := by
  have bit (k : Nat) (small : k < 4) : data.getLsbD (8 + k) = decide (g.val = k) := by
    have shown : (bitsOf data.toNat 8 4).testBit k = data.getLsbD (8 + k) := by
      rw [testBit_bitsOf, BitVec.getLsbD, Nat.add_comm, decide_eq_true small, Bool.true_and]
    rw [← shown, one, Nat.testBit_two_pow]
  have only : ∀ g : Fin 4, (List.range 4).filter (fun k => decide (g.val = k)) = [g.val] := by decide
  rw [List.filter_congr fun k hk => bit k (List.mem_range.1 hk), only g]

/-- What READMIT finds once the write is stored and the handovers are given up. -/
structure CtrlWritten (data : Word) (a y : State) : Prop where
  kept : Kept ctrlRegs [.conv] a y
  run : y.bit F.CONV_CTRL_RUN = data.getLsbD 0
  handEn : y.bit F.CONV_CTRL_HAND_EN = data.getLsbD 1
  out : ∀ g < 4, y.get (F.CONV_MAP_OUT g) = a.get (F.CONV_MAP_OUT g)

theorem ctrlWritten (data : Word) : CtrlWritten data s ((s.ctrlStored data).handsCleared data) := by
  have other {f : FieldRef} (hf : f.addr = Reg.CONV_CTRL) (g : Nat) : apart (F.CONV_MAP_US_STATE g) f = true := by
    simp [apart, hf, Reg.CONV_CTRL]
    omega
  refine ⟨(s.kept_ctrlStored data).mono.trans (kept_handsCleared ..), ?_, ?_, fun g small => ?_⟩
  · rw [bit, get_handsCleared _ _ (other rfl), ← bit, run_ctrlStored]
  · rw [bit, get_handsCleared _ _ (other rfl), ← bit, handEn_ctrlStored]
  · rw [get_handsCleared _ _ fun k => by simp [apart]]
    refine (s.kept_ctrlStored data).get ?_
    simp [Reg.CONV_CTRL]
    omega

end State

/-- Settles O9, by the groups a request tries, and by what writes of the sequencer's registers change. -/
theorem urgentSlotAndReadmitWrites : Obligations.UrgentSlotAndReadmitWrites := by
  unfold Obligations.UrgentSlotAndReadmitWrites
  refine ⟨?served, ?dropped, ?slot, ?slotRefused, ?readmitted, ?none⟩
  case served =>
    intro s t data k a n gk g u
    have now : s.advance t = a := rfl
    clear_value a
    intro free go passed state slice idle
    obtain ⟨y, kept, elapsed, effect⟩ := a.serveUrgent_eq g n 32
    have same : y.conv = a.conv := kept.2 .conv (by decide)
    have served : a.urgentRequest n 200 32 = a.serveUrgent g n 200 32 := by
      refine a.urgentRequest_served n 200 32 k (fun j hj => ?_) ?_ idle
      · simpa [State.passedOver] using passed j hj
      · have slice' : ¬ 4 < a.usSlice g := Nat.not_lt.2 slice
        simpa [State.passedOver] using And.intro state slice
    obtain ⟨x, hx⟩ : ∃ x : State, x = { y with conv := { y.conv with
      inflight := y.conv.inflight.filter fun c => !(c.use == Use.shadow && c.slice == u) } } := ⟨_, rfl⟩
    have filtered : Kept [] [.conv] y x := hx ▸ Kept.rfl.conv
    obtain ⟨z, hz⟩ : ∃ z, z = x.setHand g { y.hand g with urgent := some (y.elapsed + 200 - 200, 32) } := ⟨_, rfl⟩
    have noted : Kept [] [.conv] x z := hz ▸ x.kept_setHand ..
    refine completes_at (x := z.hold (y.conversion u none n 200 .deliver)) (exec_convUrgent t data s) now ?_ ⟨?_, ?_, ?_⟩
    · refine (State.bar0_of_not_tableau free ..).trans ?_
      rw [State.writeUrgent, go, State.when_true]
      exact served.trans (effect.trans (by rw [hz, hx]))
    · rw [State.conv_settle, ← State.conversion_of_kept kept elapsed, ← same]
      show z.conv.inflight ++ _ = _
      rw [hz, hx]
      rfl
    · have hand : (z.hold (y.conversion u none n 200 .deliver)).hand g = z.hand g := rfl
      rw [State.hand, State.conv_settle, ← State.hand, hand, hz, State.hand_setHand, elapsed, Nat.add_sub_cancel]
    · exact (((kept.mono (List.Subset.refl _) (by simp)).trans (filtered.mono (by simp) (List.Subset.refl _))).trans
        (noted.mono (by simp) (List.Subset.refl _))).conv.settled now
  case dropped =>
    intro s t data x a g
    have now : s.advance t = a := rfl
    clear_value a
    intro free go state slice busy older
    have slice' : ¬ 4 < a.usSlice g := Nat.not_lt.2 slice
    have here : a.passedOver g = false := by simpa [State.passedOver] using And.intro state slice'
    have dropped : a.urgentRequest (bitsOf data.toNat 0 4) 200 32 = a.dropUrgent := by
      rw [State.urgentRequest]
      exact a.tryUrgent_busy _ _ _ here busy (by omega) _
    have counted : Kept [Reg.CONV_URGENT_DROP] [] a (a.count F.CONV_URGENT_DROP_COUNT) := Kept.rfl.count
    refine completes_at (x := a.dropUrgent) (exec_convUrgent t data s) now ?_ ⟨?_, counted.raised.settle, ?_⟩
    · refine (State.bar0_of_not_tableau free ..).trans ?_
      rw [State.writeUrgent, go, State.when_true, dropped]
    · refine (State.get_settle ..).trans ((State.get_raise_apart _ (by decide)).trans (State.get_count_same _ (by decide)))
    · exact ((counted.mono (List.Subset.refl _) (by simp)).raise).settled now
  case slot =>
    intro s t part data a
    have now : s.advance t = a := rfl
    clear_value a
    intro free down small
    obtain ⟨y, hy⟩ : ∃ y, y = a.slotStored part data := ⟨_, rfl⟩
    have stored : Kept [Reg.CONV_SLOT part] [.conv] a y := hy ▸ a.kept_slotStored ..
    have written : y.reg (Reg.CONV_SLOT part) = data := by
      rw [hy, State.slotStored, State.reg_setReg, if_pos rfl]
    have wait : y.conv.slotWait = Sparse.set (fun _ => none) a.conv.slotWait part (some (a.slotWaitOf part)) := by
      rw [hy, State.slotStored, State.conv_setReg]
    have given := y.kept_abandonHand (part.val / 4)
    have apart' : Reg.CONV_SLOT part ∉ [Reg.CONV_MAP (part.val / 4)] := by
      simp [Reg.CONV_SLOT, Reg.CONV_MAP]
      omega
    have far : Reg.CONV_MAP (part.val / 4) ∉ [Reg.CONV_SLOT part] := by
      simp [Reg.CONV_SLOT, Reg.CONV_MAP]
      omega
    refine completes_at (x := y.abandonHand (part.val / 4)) (exec_convSlotWrite t part data s) now ?_ ⟨?_, ?_, fun busy => ?_, ?_⟩
    · exact (State.bar0_of_not_tableau free ..).trans ((a.writeSlot_eq ..).trans ((if_neg (by simp [down]; omega)).trans (by rw [hy])))
    · exact (State.reg_settle ..).trans ((given.reg apart').trans written)
    · refine State.slotNow_of_wait ?_ ?_
      · rw [State.conv_settle, State.slotWait_abandonHand, wait]
        exact (Sparse.get_set ..).trans (if_pos rfl)
      · exact (State.datum_settle ..).trans ((given.2 .datum (by simp)).trans (stored.2 .datum (by simp)))
    · have same : y.usState (part.val / 4) = a.usState (part.val / 4) := stored.get far
      exact (State.get_settle ..).trans (y.usState_abandonHand (same ▸ busy))
    · exact ((stored.mono (by simp) (List.Subset.refl _)).trans (given.mono (by simp) (List.Subset.refl _))).settled now
  case slotRefused =>
    intro s t part data a
    have now : s.advance t = a := rfl
    clear_value a
    intro free up
    refine completes_at (exec_convSlotWrite t part data s) now ((State.bar0_of_not_tableau free ..).trans (if_pos (by simp [up])))
      ⟨(State.bit_settle ..).trans (State.bit_setBit_same _ (by decide) rfl), Kept.rfl.setBit.settled now⟩
  case readmitted =>
    intro s t data g i a
    have now : s.advance t = a := rfl
    clear_value a
    intro free down one out
    obtain ⟨y, hy⟩ : ∃ y, y = (a.ctrlStored data).handsCleared data := ⟨_, rfl⟩
    obtain ⟨kept, run, en, outs⟩ : State.CtrlWritten data a y := hy ▸ a.ctrlWritten data
    have down' : y.curtainDown = true := by
      rw [State.curtainDown, State.curtain, kept.get (by decide), ← State.curtain, ← State.curtainDown, down]
    obtain ⟨x, hx⟩ : ∃ x, x = y.outBack g i := ⟨_, rfl⟩
    have back : Kept [Reg.CONV_MAP g, Reg.CONV_STATUS] [] y x := hx ▸ y.kept_outBack ..
    obtain ⟨none, slice, state, noUs⟩ : x.get (F.CONV_MAP_OUT g) = 0 ∧ x.usSlice g = i ∧ x.usState g = us.idle ∧ x.ibit F.CONV_STATUS_NO_US g = false :=
      hx ▸ y.fields_outBack g.isLt i.isLt
    obtain ⟨z, hz⟩ : ∃ z, z = x.setHand g { x.hand g with failed := false } := ⟨_, rfl⟩
    have noted : Kept [] [.conv] x z := hz ▸ x.kept_setHand ..
    have ctrl : Reg.CONV_CTRL ∉ [Reg.CONV_MAP g, Reg.CONV_STATUS] := by
      simp [Reg.CONV_CTRL, Reg.CONV_STATUS, Reg.CONV_MAP]
      omega
    refine completes_at (x := z) (exec_readmit t data s) now ?_ ⟨?_, ?_, ?_, ?_, ?_, ?_, ?_, ?_⟩
    · refine (State.bar0_of_not_tableau free ..).trans ((a.writeConvCtrl_eq data).trans ((if_neg (by simp [down])).trans ?_))
      rw [State.readmitGroups_eq one, ← hy, State.each_cons, hz, hx, ← y.readmitGroup_some (y.outSlice_of_pow i ((outs g g.isLt).trans out)) down']
      rfl
    · exact (State.get_settle ..).trans ((noted.get (by simp)).trans none)
    · exact (State.get_settle ..).trans ((noted.get (by simp)).trans slice)
    · exact (State.get_settle ..).trans ((noted.get (by simp)).trans state)
    · exact (State.ibit_settle ..).trans ((noted.ibit (by simp)).trans noUs)
    · rw [State.hand, State.conv_settle, ← State.hand, hz, State.hand_setHand]
    · exact (State.bit_settle ..).trans ((noted.bit (by simp)).trans ((back.bit ctrl).trans run))
    · exact (State.bit_settle ..).trans ((noted.bit (by simp)).trans ((back.bit ctrl).trans en))
    · have part : [Reg.CONV_MAP g, Reg.CONV_STATUS] ⊆ State.ctrlRegs :=
        List.cons_subset.2 ⟨State.map_mem_ctrlRegs g.isLt, by decide⟩
      exact ((kept.trans (back.mono part (by simp))).trans (noted.mono (by simp) (List.Subset.refl _))).settled now
  case none =>
    intro s t data g a
    have now : s.advance t = a := rfl
    clear_value a
    intro free down one out
    obtain ⟨y, hy⟩ : ∃ y, y = (a.ctrlStored data).handsCleared data := ⟨_, rfl⟩
    obtain ⟨kept, run, en, outs⟩ : State.CtrlWritten data a y := hy ▸ a.ctrlWritten data
    refine completes_at (x := y.setBit F.CONV_STATUS_CFG_REJECT true) (exec_readmit t data s) now ?_ ⟨?_, ?_, ?_, kept.setBit.settled now⟩
    · refine (State.bar0_of_not_tableau free ..).trans ((a.writeConvCtrl_eq data).trans ((if_neg (by simp [down])).trans ?_))
      rw [State.readmitGroups_eq one, ← hy, State.each_cons, y.readmitGroup_none (y.outSlice_of_zero ((outs g g.isLt).trans out))]
      rfl
    · exact (State.bit_settle ..).trans (State.bit_setBit_same _ (by decide) rfl)
    · exact (State.bit_settle ..).trans ((State.bit_setBit_apart _ (by decide)).trans run)
    · exact (State.bit_settle ..).trans ((State.bit_setBit_apart _ (by decide)).trans en)

end Sys2Proof.Machine

/-! PROOFS. Delay recomputation and host orders to cells (spec/04 R209, R211; spec/13 R562, R563). -/

namespace Sys2Proof.Machine

set_option Elab.async false

namespace State

variable (s : State)

/-! A loop's and a cell's record after it is set -/

theorem loop_setLoop (n m : Nat) (x : Loop) : (s.setLoop n x).loop m = if m = n then x else s.loop m := by
  simp [loop, setLoop, eq_comm]

theorem loop_setLoop_same (n : Nat) (x : Loop) : (s.setLoop n x).loop n = x := by rw [loop_setLoop, if_pos rfl]

theorem loop_setTx (c n : Nat) (x : CellTx) : (s.setTx c x).loop n = s.loop n := rfl

theorem tx_setTx_of_ne {c e : Nat} (h : e ≠ c) (x : CellTx) : (s.setTx c x).tx e = s.tx e := by
  simp [tx, setTx, h.symm]

theorem tx_setLoop (c n : Nat) (x : Loop) : (s.setLoop n x).tx c = s.tx c := rfl

theorem kept_setLoop (n : Nat) (x : Loop) : Kept [] [.wing] s (s.setLoop n x) := Kept.rfl.mapWing

/-! An order given -/

theorem tx_giveOrder_of_ne {c e : Nat} (h : e ≠ c) (o : Owner) (codes : List Nat) : (s.giveOrder c o codes).tx e = s.tx e :=
  tx_setTx_of_ne s h _

theorem get_giveOrder (c : Nat) (o : Owner) (codes : List Nat) (f : FieldRef) : (s.giveOrder c o codes).get f = s.get f := rfl

theorem loop_giveOrder (c n : Nat) (o : Owner) (codes : List Nat) : (s.giveOrder c o codes).loop n = s.loop n := rfl

/-- An order that is neither of the bypass nor of the dump switch waits behind the cell's others. -/
theorem orders_giveOrder {o : Owner} (bypass : o.isBypass = false) (dump : o.isDump = false) (c : Nat) (codes : List Nat) :
    ((s.giveOrder c o codes).tx c).orders = (s.tx c).orders ++ [{ owner := o, codes := codes }] := by
  simp [giveOrder, tx_setTx, bypass, dump]

/-! The roster reads the tables only -/

section
variable {a b : State} (tables : b.tables = a.tables)
include tables

theorem present_of_tables (c : Nat) : b.present c = a.present c := by
  rw [present, present, cellKind, cellKind, ros8, ros8, tbl8_congr' tables]

theorem cellLoop_of_tables (c : Nat) : b.cellLoop c = a.cellLoop c := by
  rw [cellLoop, cellLoop, ros8, ros8, tbl8_congr' tables]

theorem cellPos_of_tables (c : Nat) : b.cellPos c = a.cellPos c := by
  rw [cellPos, cellPos, ros8, ros8, tbl8_congr' tables]

theorem loopCells_of_tables (n : Nat) : b.loopCells n = a.loopCells n := by
  simp only [loopCells, present_of_tables tables, cellLoop_of_tables tables]

theorem delayOf_of_tables {n : Nat} (replies : (b.loop n).replies = (a.loop n).replies) (lat p u : Nat) : b.delayOf n lat p u = a.delayOf n lat p u := by
  simp only [delayOf, loopCells_of_tables tables, cellPos_of_tables tables, reply, replies]

end

theorem lt_of_mem_loopCells {n c : Nat} (h : c ∈ s.loopCells n) : c < 128 := lt_of_mem_cellIds h

theorem nodup_loopCells (n : Nat) : (s.loopCells n).Nodup := List.nodup_range.filter _

/-- Where each item's step leaves what a relation tells of another item as it is, the whole run over distinct items does to an item what
its own step does. -/
theorem each_once {R : Nat → State → State → Prop} {f : Nat → State → State} (refl : ∀ i x, R i x x)
    (trans : ∀ {i x y z}, R i x y → R i y z → R i x z) (others : ∀ {i j : Nat} (x : State), i ≠ j → R j x (f i x)) {l : List Nat}
    (once : l.Nodup) {c : Nat} (mem : c ∈ l) : ∃ y, R c s y ∧ R c (f c y) (s.each l f) := by
  have rest (l : List Nat) (h : c ∉ l) (x : State) : R c x (x.each l f) := by
    induction l generalizing x with
    | nil => exact refl ..
    | cons i l ih =>
      rw [List.mem_cons, not_or] at h
      exact trans (others x (Ne.symm h.1)) (ih h.2 _)
  induction l generalizing s with
  | nil => cases mem
  | cons i l ih =>
    rw [List.nodup_cons] at once
    by_cases h : c = i
    · subst h
      exact ⟨s, refl .., rest l once.1 _⟩
    · obtain ⟨y, before, after⟩ := ih (f i s) once.2 ((List.mem_cons.1 mem).resolve_left h)
      exact ⟨y, trans (others s (Ne.symm h)) before, after⟩

/-! One cell's delay computed anew (R211) -/

/-- A delay shown and its halves ordered to be written, or the cell as it is (R211). -/
def renewTo (c d : Nat) (s : State) : State :=
  if 8 ≤ ((d : Int) - s.get (F.WING_DELAY_D c)).natAbs then
    ((s.set (F.WING_DELAY_D c) d).giveOrder c .delay (orderWrite 8 (d % 4096))).giveOrder c .delay (orderWrite 9 (d / 4096))
  else s

/-- A cell's delay computed anew from the u it has reported (R209, R211). -/
def renewDelay (n lat c : Nat) (s : State) : State :=
  match Sparse.get (fun _ => none) (s.tx c).items 14, Sparse.get (fun _ => none) (s.tx c).items 15 with
  | some lo, some hi => renewTo c (s.delayOf n lat (s.cellPos c) (lo + 4096 * hi)).toNat s
  | _, _ => s

/-- What the recomputation of one cell's delay reads and writes is alike in two states. -/
def SameDelay (n c : Nat) (x y : State) : Prop :=
  y.tx c = x.tx c ∧ y.get (F.WING_DELAY_D c) = x.get (F.WING_DELAY_D c) ∧ (y.loop n).replies = (x.loop n).replies ∧ y.tables = x.tables

theorem SameDelay.trans {n c : Nat} {x y z : State} (h : SameDelay n c x y) (k : SameDelay n c y z) : SameDelay n c x z :=
  ⟨k.1.trans h.1, k.2.1.trans h.2.1, k.2.2.1.trans h.2.2.1, k.2.2.2.trans h.2.2.2⟩

theorem kept_renewTo (c d : Nat) : Kept [Reg.WING_DELAY c] [.wing] s (s.renewTo c d) :=
  Kept.ite ((Kept.rfl.set (f := F.WING_DELAY_D c) (hf := List.mem_singleton.2 rfl)).giveOrder.giveOrder) Kept.rfl

theorem kept_renewDelay (n lat c : Nat) : Kept [Reg.WING_DELAY c] [.wing] s (s.renewDelay n lat c) := by
  unfold renewDelay
  split
  · exact kept_renewTo ..
  · exact Kept.rfl

theorem loop_renewTo (c d n : Nat) : (s.renewTo c d).loop n = s.loop n := by
  unfold renewTo
  split
  · rw [loop_giveOrder, loop_giveOrder, loop, wing_set, loop]
  · rfl

theorem tx_renewTo_of_ne {c e : Nat} (h : e ≠ c) (d : Nat) : (s.renewTo c d).tx e = s.tx e := by
  unfold renewTo
  split
  · rw [tx_giveOrder_of_ne _ h, tx_giveOrder_of_ne _ h, tx, wing_set, tx]
  · rfl

/-- One cell's delay leaves another's as it is. -/
theorem sameDelay_renewDelay {n lat i j : Nat} (x : State) (h : i ≠ j) : SameDelay n j x (x.renewDelay n lat i) := by
  have kept := kept_renewDelay x n lat i
  have moved : (x.renewDelay n lat i).tx j = x.tx j ∧ (x.renewDelay n lat i).loop n = x.loop n := by
    unfold renewDelay
    split
    · exact ⟨tx_renewTo_of_ne x h.symm _, loop_renewTo ..⟩
    · exact ⟨rfl, rfl⟩
  exact ⟨moved.1, kept.get (by simp; omega), congrArg _ moved.2, kept.2 .tables (by decide)⟩

/-- A delay off by 1 ns or more: shown, and its halves written in a sequence of their own each (R211). -/
theorem renewTo_of_far {c d : Nat} {s : State} (far : 8 ≤ ((d : Int) - s.get (F.WING_DELAY_D c)).natAbs) :
    (s.renewTo c d).get (F.WING_DELAY_D c) = d % 2 ^ 24 ∧ ((s.renewTo c d).tx c).orders = (s.tx c).orders ++
      [({ owner := .delay, codes := orderWrite 8 (d % 4096) } : Order), { owner := .delay, codes := orderWrite 9 (d / 4096) }] := by
  rw [renewTo, if_pos far]
  refine ⟨(get_giveOrder _ ..).trans ((get_giveOrder _ ..).trans (get_set_same s (Nat.le_of_ble_eq_true rfl))), ?_⟩
  rw [orders_giveOrder _ rfl rfl, orders_giveOrder _ rfl rfl, tx, wing_set, ← tx, List.append_assoc]
  rfl

theorem renewTo_of_near {c d : Nat} {s : State} (near : ¬8 ≤ ((d : Int) - s.get (F.WING_DELAY_D c)).natAbs) : s.renewTo c d = s := if_neg near

/-- A cell that has reported u. -/
theorem renewDelay_of_some {n lat c lo hi : Nat} {s : State} (hlo : Sparse.get (fun _ => none) (s.tx c).items 14 = some lo)
    (hhi : Sparse.get (fun _ => none) (s.tx c).items 15 = some hi) :
    s.renewDelay n lat c = s.renewTo c (s.delayOf n lat (s.cellPos c) (lo + 4096 * hi)).toNat := by
  rw [renewDelay, hlo, hhi]

theorem renewDelay_of_none {n lat c : Nat} {s : State} (h : ∀ lo hi, Sparse.get (fun _ => none) (s.tx c).items 14 = some lo →
    Sparse.get (fun _ => none) (s.tx c).items 15 ≠ some hi) : s.renewDelay n lat c = s := by
  unfold renewDelay
  split
  · next lo hi hlo hhi => exact absurd hhi (h lo hi hlo)
  · rfl

/-! The recomputation -/

/-- The loop's delays recomputed where nothing has drifted (R211). -/
def renewDelays (n : Nat) (s : State) : State :=
  if (s.loop n).drift || (s.loop n).drifted (s.get (F.WING_LAT_L n)) then loopDrift n (s.setLoop n { s.loop n with frames := 0 })
  else (s.setLoop n { s.loop n with frames := 0 }).each (s.loopCells n) (renewDelay n (s.get (F.WING_LAT_L n)))

theorem execDelayRecompute_eq (t : Nat) (n : Fin 4) : execDelayRecompute t n s = s.run t fun s =>
    if s.loopTrained n && 65536 ≤ (s.loop n).frames && !s.tableau then renewDelays n s else s := rfl

/-- What the recomputation leaves of a loop's record: all but its frame count, and the drift noted. -/
theorem frames_loop_each_renewDelay (n lat : Nat) (l : List Nat) : (s.each l (renewDelay n lat)).loop n = s.loop n :=
  each_eq s (fun x => x.loop n) (fun i x => by
    unfold renewDelay
    split
    · exact loop_renewTo ..
    · rfl) l

theorem kept_each_renewDelay (n lat : Nat) (l : List Nat) : Kept (l.map Reg.WING_DELAY) [.wing] s (s.each l (renewDelay n lat)) :=
  Kept.rfl.each fun c mem _ h => h.trans ((kept_renewDelay _ n lat c).mono (List.cons_subset.2 ⟨List.mem_map_of_mem mem, List.nil_subset _⟩) (List.Subset.refl _))

/-! CELL_ORDER (R562, R563) -/

/-- The checks of R562 and R563. -/
def orderChecks (d : Desc) : List (Bool × Nat × Nat) :=
  [(127 < d.target.toNat, st.targetRange, 0), (d.len ≠ 0, st.lenRange, 0),
    (hostCodes d.p0.toNat d.p1.toNat = none, st.targetRange, 0x10), (s.present d.target.toNat = false, st.stateRefused, 1),
    (s.loopTrained (s.cellLoop d.target.toNat) = false ∨ s.loopHalted (s.cellLoop d.target.toNat) = true ∨
      s.linkFault d.target.toNat = true, st.stateRefused, 2),
    (d.p0 = 5 ∧ s.bypassOpen d.target.toNat = true, st.stateRefused, 3)]

theorem bypassOpen_eq (c : Nat) : s.bypassOpen c = [cs.ready, cs.active, cs.leaving, cs.precharge].contains (s.cState c) := by
  simp only [bypassOpen, List.contains_eq_mem, decide_eq_decide, List.mem_cons, List.not_mem_nil, or_false]
  tauto

theorem execCellOrder_eq (t : Nat) (d : Desc) : execCellOrder t d s = s.run t fun s =>
    s.checked d (s.orderChecks d) fun s => s.giveOrder d.target.toNat (.host d) ((hostCodes d.p0.toNat d.p1.toNat).getD []) := by
  unfold execCellOrder orderChecks
  simp only [bypassOpen_eq]
  congr 1
  funext s
  simp only [Bool.decide_eq_true, Bool.decide_or, Bool.or_assoc, Bool.decide_eq_false]
  cases hostCodes d.p0.toNat d.p1.toNat <;> simp

end State

/-- Settles O15: a delay is renewed cell by cell, each cell once and none by another's step; an order given goes last. -/
theorem delaysAndHostOrders : Obligations.DelaysAndHostOrders := by
  unfold Obligations.DelaysAndHostOrders
  refine ⟨?_, ?_, ?_⟩
  · intro s t n a
    have now : s.advance t = a := rfl
    clear_value a
    intro lat trained due live
    have latIs : a.get (F.WING_LAT_L n) = lat := rfl
    clear_value lat
    have effect : (if a.loopTrained n && 65536 ≤ (a.loop n).frames && !a.tableau then a.renewDelays n else a) = a.renewDelays n :=
      if_pos (by simp [trained, due, live])
    refine completes_at (x := a.renewDelays n) (exec_delayRecompute t n s) now effect ?_
    obtain ⟨z, hz⟩ : ∃ z, a.setLoop n { a.loop n with frames := 0 } = z := ⟨_, rfl⟩
    have loopz : z.loop n = { a.loop n with frames := 0 } := hz ▸ a.loop_setLoop_same ..
    have keptz : Kept [] [.wing] a z := hz ▸ a.kept_setLoop ..
    have cellsz : z.wing.cells = a.wing.cells := hz ▸ rfl
    have is : a.renewDelays n = if (a.loop n).drift || (a.loop n).drifted lat then z.loopDrift n
        else z.each (a.loopCells n) (State.renewDelay n lat) := by rw [State.renewDelays, hz, latIs]
    have once (drift : (a.loop n).drift = false) (near : ¬(160 < ((lat : Int) - (a.loop n).l0).natAbs ∨ 24000 < lat)) :
        a.renewDelays n = z.each (a.loopCells n) (State.renewDelay n lat) := by
      rw [is, drift, Bool.false_or, if_neg]
      simpa [Loop.drifted] using near
    have frames : ((a.renewDelays n).loop n).frames = 0 := by
      rw [is]
      split
      · unfold State.loopDrift
        split
        · rw [loopz]
        · rw [State.loop, State.wing_raise, ← State.loop, State.loop_setLoop_same, loopz]
      · rw [State.frames_loop_each_renewDelay, loopz]
    refine ⟨frames, fun drift => ?_, fun still far => ?_, fun still near => ?_⟩
    · have stays : a.renewDelays n = z := by
        rw [is, drift, Bool.true_or, if_pos rfl, State.loopDrift, if_pos (by rw [loopz]; exact drift)]
      rw [stays]
      exact ⟨cellsz, keptz.settled now⟩
    · have drifts : a.renewDelays n = (z.setLoop n { z.loop n with drift := true }).raise 108 n := by
        rw [is, if_pos (by simpa [Loop.drifted] using Or.inr far), State.loopDrift, if_neg (by rw [loopz, still]; decide)]
      have kept := keptz.trans (z.kept_setLoop n { z.loop n with drift := true })
      obtain ⟨y, hy⟩ : ∃ y, z.setLoop n { z.loop n with drift := true } = y := ⟨_, rfl⟩
      have loopy : (y.loop n).drift = true := by rw [← hy, State.loop_setLoop_same]
      have cellsy : y.wing.cells = a.wing.cells := hy ▸ cellsz
      rw [hy] at drifts kept
      rw [drifts]
      exact ⟨loopy, cellsy, (kept.raised).settle, ((kept.mono (by decide) (by decide)).raise).settled now⟩
    · rw [once still near]
      have kept := (z.kept_each_renewDelay n lat (a.loopCells n))
      refine ⟨fun c mem => ?_, ((keptz.mono (List.nil_subset _) (List.Subset.refl _)).trans kept).settled now⟩
      obtain ⟨y, before, after⟩ := State.each_once z (R := State.SameDelay n) (f := State.renewDelay n lat) (fun _ _ => ⟨rfl, rfl, rfl, rfl⟩)
        State.SameDelay.trans (fun x h => x.sameDelay_renewDelay h) (a.nodup_loopCells n) mem
      have setup : State.SameDelay n c a z := ⟨hz ▸ a.tx_setLoop c n _, keptz.get (by simp), by rw [loopz], keptz.2 .tables (by decide)⟩
      obtain ⟨tx, get, replies, tables⟩ := setup.trans before
      obtain ⟨txb, getb, -, -⟩ := after
      have delay (u : Nat) : y.delayOf n lat (y.cellPos c) u = a.delayOf n lat (a.cellPos c) u := by
        rw [State.delayOf_of_tables tables replies, State.cellPos_of_tables tables]
      rw [State.get_settle, ← get]
      change match Sparse.get (fun _ => none) (a.tx c).items 14, Sparse.get (fun _ => none) (a.tx c).items 15 with
        | some lo, some hi => _
        | _, _ => _ ∧ (z.each (a.loopCells n) (State.renewDelay n lat)).tx c = a.tx c
      rw [← tx]
      split
      · next lo hi hlo hhi =>
        rw [State.renewDelay_of_some hlo hhi, delay] at getb txb
        obtain ⟨e, he⟩ : ∃ e, (a.delayOf n lat (a.cellPos c) (lo + 4096 * hi)).toNat = e := ⟨_, rfl⟩
        simp only [he] at getb txb ⊢
        split
        · next far =>
          obtain ⟨shown, written⟩ := State.renewTo_of_far far
          exact ⟨getb.trans shown, (congrArg CellTx.orders txb).trans written⟩
        · next near =>
          rw [State.renewTo_of_near near] at getb txb
          exact ⟨getb, txb⟩
      · next none =>
        rw [State.renewDelay_of_none fun lo hi hlo hhi => none lo hi hlo hhi] at getb txb
        exact ⟨getb, txb⟩
  · intro s t d codes a
    have now : s.advance t = a := rfl
    clear_value a
    intro c small len known present trained live link free
    have cIs : d.target.toNat = c := rfl
    clear_value c
    have pass : firstFail (a.orderChecks d) = none := by
      rw [firstFail_eq_none]
      simpa [State.orderChecks, cIs, small, len, known, present, trained, live, link] using free
    have effect : a.checked d (a.orderChecks d) (fun s => s.giveOrder d.target.toNat (.host d) ((hostCodes d.p0.toNat d.p1.toNat).getD [])) =
        a.giveOrder c (.host d) codes := by rw [State.checked_pass a pass, known, Option.getD_some, cIs]
    refine completes_at (x := a.giveOrder c (.host d) codes) ((exec_cellOrder t d s).trans (s.execCellOrder_eq t d)) now effect ?_
    exact ⟨State.orders_giveOrder a rfl rfl c codes, fun e ne => State.tx_giveOrder_of_ne a ne _ _, (Kept.rfl.giveOrder).settled now⟩
  · intro s t d status detail a
    have now : s.advance t = a := rfl
    clear_value a
    intro c n fails
    exact completes_at (x := a.refuse d status detail) ((exec_cellOrder t d s).trans (s.execCellOrder_eq t d)) now
      (State.checked_fail a fails _) ⟨Ended.refuse s a d status detail, (State.kept_refuse a d status detail).settled now⟩

end Sys2Proof.Machine

/-! PROOFS. Cells that go OUT and their takeover (spec/07 R312, R330, R332 to R334). -/

namespace Sys2Proof.Machine

set_option Elab.async false

/-- The registers a cell that goes OUT and its takeover change. -/
def outRegs : List Nat := [Reg.CAST_OUT, Reg.CAST_STATUS, Reg.SCRUB_FAULT_SEEN] ++ cellIds.map Reg.CAST_CELL

/-- The registers a takeover changes. -/
def takeRegs : List Nat := Reg.CAST_STATUS :: cellIds.map Reg.CAST_CELL

theorem cell_mem_takeRegs {c : Nat} (h : c < 128) : Reg.CAST_CELL c ∈ takeRegs :=
  List.mem_cons_of_mem _ (List.mem_map_of_mem (List.mem_range.2 h))

theorem takeRegs_subset_outRegs : takeRegs ⊆ outRegs := by decide +kernel

theorem cell_mem_outRegs {c : Nat} (h : c < 128) : Reg.CAST_CELL c ∈ outRegs :=
  List.mem_append_right _ (List.mem_map_of_mem (List.mem_range.2 h))

theorem out_mem_outRegs : Reg.CAST_OUT ∈ outRegs ∧ Reg.CAST_STATUS ∈ outRegs ∧ Reg.SCRUB_FAULT_SEEN ∈ outRegs := by simp [outRegs]

namespace State

variable (s : State)

theorem castCell_setCastCell (c e : Nat) (x : CastCell) : (s.setCastCell c x).castCell e = if e = c then x else s.castCell e := by
  simp [castCell, setCastCell, eq_comm]

theorem castCell_setCastCell_of_ne {c e : Nat} (h : e ≠ c) (x : CastCell) : (s.setCastCell c x).castCell e = s.castCell e := by
  rw [castCell_setCastCell, if_neg h]

theorem castCell_setCastCell_same (c : Nat) (x : CastCell) : (s.setCastCell c x).castCell c = x := by rw [castCell_setCastCell, if_pos rfl]

theorem castCell_of_kept {regs : List Nat} {parts : List Part} {a b : State} (h : Kept regs parts a b) (hp : .cast ∉ parts := by decide) (c : Nat) :
    b.castCell c = a.castCell c := by
  rw [castCell, castCell, (h.2 .cast hp : b.cast = a.cast)]

theorem kept_setCastCell (c : Nat) (x : CastCell) : Kept [] [.cast] s (s.setCastCell c x) := Kept.rfl.cast

/-! A bypass ordered and a cell blocked leave every register -/

theorem get_bypass (c : Nat) (close : Bool) (g : FieldRef) : (s.bypass c close).get g = s.get g := (s.kept_bypass c close).get (by simp)

theorem get_block (c : Nat) (g : FieldRef) : (s.block c).get g = s.get g := (s.kept_block c).get (by simp)

theorem router_of_kept {regs : List Nat} {parts : List Part} {a b : State} (h : Kept regs parts a b) (hp : .router ∉ parts := by decide) :
    b.router = a.router := h.2 .router hp

theorem kept_blockNow (c : Nat) : Kept [] [.wing] s (s.blockNow c) := s.kept_setTx ..

theorem castCell_giveOrder (c e : Nat) (o : Owner) (codes : List Nat) : (s.giveOrder c o codes).castCell e = s.castCell e := rfl

theorem castCell_setCState (c e v : Nat) : (s.setCState c v).castCell e = s.castCell e := by
  rw [setCState, castCell, cast_set, castCell]

/-! A takeover (R334) -/

/-- The cell whose place a reserve takes: that of the reserve's own partner where the cell is one in use (R334). -/
def replaced (c : Nat) (s : State) : Nat :=
  if s.cellKind c = kind.reserve && s.bit (F.CAST_CELL_PARTNER_VALID c) then s.get (F.CAST_CELL_PARTNER c) else c

/-- A reserve in use that fails is no partner any more. -/
def parted (c : Nat) (s : State) : State := s.when (s.replaced c != c) fun s => s.setBit (F.CAST_CELL_PARTNER_VALID c) false

/-- A reserve paired with the cell it replaces. -/
def paired (r orig : Nat) (s : State) : State :=
  (((s.set (F.CAST_CELL_PARTNER r) orig).setBit (F.CAST_CELL_PARTNER_VALID r) true).set (F.CAST_CELL_PARTNER orig) r).setBit
    (F.CAST_CELL_PARTNER_VALID orig) true

/-- A reserve's precharge begins: its bypass is ordered open, its time runs where it may (R335). -/
def precharging (r : Nat) (s : State) : State :=
  let runs := ((s.setCState r cs.precharge).bypass r false).cellReserveSrc r != 0 || ((s.setCState r cs.precharge).bypass r false).engaged
  ((s.setCState r cs.precharge).bypass r false).setCastCell r { ((s.setCState r cs.precharge).bypass r false).castCell r with
    preStart := if runs then some ((s.setCState r cs.precharge).bypass r false).elapsed else none, preSpent := 0 }

theorem takeover_cases (x c : Nat) : s.takeover x c = s ∨
    s.takeover x c = ((s.parted c).setIbit F.CAST_STATUS_NO_RESERVE x true).raise 140 ∨
    ∃ r, r < 128 ∧ (s.parted c).cState r = cs.standby ∧
      s.takeover x c = (((s.parted c).paired r (s.replaced c)).precharging r).castBlock r := by
  unfold takeover
  split
  · exact .inl rfl
  · dsimp only
    split
    · exact .inr (.inl rfl)
    · next r found =>
      have mem := List.mem_of_find?_eq_some found
      have is := List.find?_some found
      exact .inr (.inr ⟨r, lt_of_mem_cellIds mem, eq_of_beq (Bool.and_eq_true_iff.1 is).2, rfl⟩)

theorem replaced_lt {c : Nat} (h : c < 128) : s.replaced c < 128 := by
  unfold replaced
  split
  · exact s.get_lt _
  · exact h

theorem kept_parted (c : Nat) : Kept [Reg.CAST_CELL c] [] s (s.parted c) := Kept.rfl.when fun h => h.setBit (hf := List.mem_singleton.2 rfl)

theorem kept_paired (r orig : Nat) : Kept [Reg.CAST_CELL r, Reg.CAST_CELL orig] [] s (s.paired r orig) :=
  (((Kept.rfl.set (by simp)).setBit (by simp)).set (by simp)).setBit (by simp)

theorem kept_precharging (r : Nat) : Kept [Reg.CAST_CELL r] [.cast, .wing] s (s.precharging r) :=
  (((Kept.rfl.set (f := F.CAST_CELL_STATE r) (hf := List.mem_singleton.2 rfl)).trans
    ((kept_bypass _ r false).mono (by simp))).cast : Kept [Reg.CAST_CELL r] [.cast, .wing] s _)

theorem kept_takeover {x c : Nat} (h : c < 128) : Kept takeRegs [.cast, .wing, .router] s (s.takeover x c) := by
  have cell {r : Nat} (h : r < 128) : [Reg.CAST_CELL r] ⊆ takeRegs := List.cons_subset.2 ⟨cell_mem_takeRegs h, List.nil_subset _⟩
  have parted : Kept takeRegs [.cast, .wing, .router] s (s.parted c) := (s.kept_parted c).mono (cell h) (List.nil_subset _)
  obtain same | missing | ⟨r, hr, -, found⟩ := s.takeover_cases x c
  · rw [same]; exact Kept.rfl
  · rw [missing]
    exact (parted.setIbit (hf := List.mem_cons_self ..)).raise
  · rw [found]
    have paired := (s.parted c).kept_paired r (s.replaced c)
    have precharging := ((s.parted c).paired r (s.replaced c)).kept_precharging r
    exact ((parted.trans (paired.mono (List.cons_subset.2 ⟨cell_mem_takeRegs hr, cell (s.replaced_lt h)⟩) (List.nil_subset _))).trans
      (precharging.mono (cell hr) (by decide))).trans ((kept_castBlock _ r).mono (cell hr) (by decide))

/-! What a takeover leaves of the other cells -/

theorem get_parted_apart {c : Nat} {g : FieldRef} (h : apart (F.CAST_CELL_PARTNER_VALID c) g = true) : (s.parted c).get g = s.get g := by
  unfold parted
  cases s.replaced c != c
  · rfl
  · exact s.get_setBit_apart h

theorem get_paired_apart {r orig : Nat} {g : FieldRef} (partner : ∀ k, apart (F.CAST_CELL_PARTNER k) g = true)
    (valid : ∀ k, apart (F.CAST_CELL_PARTNER_VALID k) g = true) : (s.paired r orig).get g = s.get g := by
  rw [paired, get_setBit_apart _ (valid _), get_set_apart _ (partner _), get_setBit_apart _ (valid _), get_set_apart _ (partner _)]

theorem get_precharging_apart {r : Nat} {g : FieldRef} (state : apart (F.CAST_CELL_STATE r) g = true) :
    (s.precharging r).get g = s.get g :=
  ((kept_setCastCell _ r _).get (by simp)).trans ((get_bypass ..).trans (get_set_apart _ state))

theorem get_castBlock_apart {c : Nat} {g : FieldRef} (h : apart (F.CAST_CELL_CONTRIB c) g = true) : (s.castBlock c).get g = s.get g :=
  (get_set_apart _ h).trans (get_block ..)

/-- A takeover leaves a field that is neither a partner, a contribution, NO_RESERVE nor the state of a reserve on standby. -/
theorem get_takeover_apart {x c : Nat} {g : FieldRef} (partner : ∀ k, apart (F.CAST_CELL_PARTNER k) g = true)
    (valid : ∀ k, apart (F.CAST_CELL_PARTNER_VALID k) g = true) (contrib : ∀ k, apart (F.CAST_CELL_CONTRIB k) g = true)
    (noReserve : apart F.CAST_STATUS_NO_RESERVE g = true) (state : ∀ r, s.cState r = cs.standby → apart (F.CAST_CELL_STATE r) g = true) :
    (s.takeover x c).get g = s.get g := by
  have parted := s.get_parted_apart (valid c)
  obtain same | missing | ⟨r, -, standby, found⟩ := s.takeover_cases x c
  · rw [same]
  · rw [missing]
    exact (((Kept.rfl (regs := []) (parts := [.router])).raise).get (by simp)).trans ((get_setIbit_apart _ noReserve).trans parted)
  · rw [found, get_castBlock_apart _ (contrib r), get_precharging_apart, get_paired_apart _ partner valid, parted]
    refine state r ?_
    rwa [cState, get_parted_apart _ (by simp [apart])] at standby

theorem cState_takeover {x c e : Nat} (h : s.cState e ≠ cs.standby) : (s.takeover x c).cState e = s.cState e :=
  s.get_takeover_apart (fun _ => by simp [apart]) (fun _ => by simp [apart]) (fun _ => by simp [apart]) (by simp [apart])
    fun r standby => by
      have ne : r ≠ e := fun eq => h (eq ▸ standby)
      simp [apart, ne]

theorem castCell_takeover {x c e : Nat} (h : s.cState e ≠ cs.standby) : (s.takeover x c).castCell e = s.castCell e := by
  have parted := castCell_of_kept (s.kept_parted c) (by decide) e
  obtain same | missing | ⟨r, -, standby, found⟩ := s.takeover_cases x c
  · rw [same]
  · rw [missing]
    exact (castCell_of_kept (((Kept.rfl (regs := [Reg.CAST_STATUS]) (parts := [.router])).setIbit).raise) (by decide) e).trans parted
  · have ne : e ≠ r := fun eq => by
      rw [cState, get_parted_apart _ (by simp [apart]), ← cState, ← eq] at standby
      exact h standby
    have paired := castCell_of_kept ((s.parted c).kept_paired r (s.replaced c)) (by decide) e
    rw [found, castCell_of_kept (kept_castBlock _ r) (by decide) e, precharging, castCell_setCastCell_of_ne _ ne, bypass,
      castCell_setCastCell_of_ne _ ne, castCell_giveOrder, castCell_setCState, paired, parted]

theorem raises_takeover (x c : Nat) : Raises s (s.takeover x c) := by
  have parted : Raises s (s.parted c) := Raises.rfl.of_router (router_of_kept (s.kept_parted c))
  obtain same | missing | ⟨r, -, -, found⟩ := s.takeover_cases x c
  · rw [same]; exact Raises.rfl
  · rw [missing]
    exact (parted.of_router (router_setIbit ..)).raise
  · rw [found]
    exact ((parted.of_router (router_of_kept (kept_paired _ r (s.replaced c)))).of_router
      (router_of_kept (kept_precharging _ r))).of_router (router_of_kept (kept_castBlock _ r))

/-! A cell goes OUT (R312, R330) -/

/-- A cell recorded as OUT, with its cause, its timers stopped. -/
def markedOut (c cause : Nat) (s : State) : State :=
  (((((s.setCState c cs.out).set (F.CAST_CELL_CAUSE c) cause).count F.CAST_OUT_COUNT).raise 136 c).setCastCell c
    { ((((s.setCState c cs.out).set (F.CAST_CELL_CAUSE c) cause).count F.CAST_OUT_COUNT).raise 136 c).castCell c with
      uvSince := none, leaveSince := none, preStart := none, gone := !s.bypassOpen c })

/-- A cell that is OUT closed and blocked: by the wing loop itself for causes 1 and 2, else by orders of casting's own. -/
def shutOut (c cause : Nat) (s : State) : State :=
  if cause = 1 || cause = 2 then
    (s.giveOrder c (.bypass true) [order.bypassClose]).setCastCell c { s.castCell c with
      check := some { close := true, start := none, own := false } }
  else (s.bypass c true).block c

/-- A cell as it goes OUT, before any takeover. -/
def takenOut (c cause : Nat) (s : State) : State := ((s.markedOut c cause).shutOut c cause).showContrib c

theorem goOut_of_gone {c cause : Nat} {s : State} (h : s.cState c = cs.absent ∨ s.cState c = cs.out) : s.goOut c cause = s := by
  rw [goOut, if_pos]
  simpa using h

theorem goOut_eq {c cause : Nat} {s : State} (h : s.cState c ≠ cs.absent ∧ s.cState c ≠ cs.out) :
    s.goOut c cause = (s.takenOut c cause).when
      ([cs.ready, cs.active, cs.leaving].contains (s.cState c) || (s.cellKind c == kind.reserve && s.cState c == cs.precharge))
      (takeover ((s.takenOut c cause).cellPhase c) c) := by
  have on : ¬(decide (s.cState c = cs.absent) || decide (s.cState c = cs.out)) = true := by simpa using h
  rw [goOut, if_neg on]
  rfl

theorem goOut_cases {c cause : Nat} {s : State} (h : s.cState c ≠ cs.absent ∧ s.cState c ≠ cs.out) :
    s.goOut c cause = s.takenOut c cause ∨ ∃ x, s.goOut c cause = (s.takenOut c cause).takeover x c := by
  rw [goOut_eq h]
  cases [cs.ready, cs.active, cs.leaving].contains (s.cState c) || (s.cellKind c == kind.reserve && s.cState c == cs.precharge)
  · exact .inl (when_false ..)
  · exact .inr ⟨_, when_true ..⟩

theorem kept_markedOut (c cause : Nat) :
    Kept [Reg.CAST_OUT, Reg.SCRUB_FAULT_SEEN, Reg.CAST_CELL c] [.cast, .router] s (s.markedOut c cause) :=
  ((((Kept.rfl.set (f := F.CAST_CELL_STATE c) (by simp)).set (f := F.CAST_CELL_CAUSE c) (by simp)).count (by simp)).raiseFault (by simp)).cast

theorem kept_shutOut (c cause : Nat) : Kept [] [.cast, .wing] s (s.shutOut c cause) :=
  Kept.ite Kept.rfl.giveOrder.cast ((kept_bypass s c true).trans ((kept_block _ c).mono (by simp)))

theorem kept_showContrib (c : Nat) : Kept [Reg.CAST_CELL c] [] s (s.showContrib c) := Kept.rfl.set (hf := List.mem_singleton.2 rfl)

theorem kept_takenOut {c cause : Nat} (h : c < 128) : Kept outRegs [.cast, .wing, .router] s (s.takenOut c cause) := by
  obtain ⟨out, -, seen⟩ := out_mem_outRegs
  exact (((s.kept_markedOut c cause).mono (by simp [out, seen, cell_mem_outRegs h]) (by decide)).trans
    ((kept_shutOut _ c cause).mono (List.nil_subset _) (by decide))).trans
    ((kept_showContrib _ c).mono (by simp [cell_mem_outRegs h]) (List.nil_subset _))

theorem kept_goOut {c : Nat} (cause : Nat) (h : c < 128) : Kept outRegs [.cast, .wing, .router] s (s.goOut c cause) := by
  by_cases gone : s.cState c = cs.absent ∨ s.cState c = cs.out
  · rw [goOut_of_gone gone]; exact Kept.rfl
  · have taken := s.kept_takenOut (cause := cause) h
    obtain eq | ⟨x, eq⟩ := goOut_cases (cause := cause) (not_or.1 gone)
    · rwa [eq]
    · rw [eq]
      exact taken.trans ((kept_takeover _ h).mono takeRegs_subset_outRegs (List.Subset.refl _))

theorem get_takenOut_apart {c cause : Nat} {g : FieldRef} (contrib : apart (F.CAST_CELL_CONTRIB c) g = true) :
    (s.takenOut c cause).get g = (s.markedOut c cause).get g :=
  (get_set_apart _ contrib).trans ((kept_shutOut ..).get (by simp))

theorem cState_takenOut {c : Nat} (h : c < 128) (cause : Nat) : (s.takenOut c cause).cState c = cs.out :=
  calc (s.takenOut c cause).cState c
    _ = (s.markedOut c cause).get (F.CAST_CELL_STATE c) := s.get_takenOut_apart (by simp [apart])
    _ = (((s.setCState c cs.out).set (F.CAST_CELL_CAUSE c) cause).count F.CAST_OUT_COUNT).get (F.CAST_CELL_STATE c) :=
      ((kept_setCastCell ..).get (by simp)).trans (get_raise_apart _ (by simp [apart]; omega))
    _ = (s.setCState c cs.out).get (F.CAST_CELL_STATE c) :=
      (get_count_apart _ (by simp [apart]; omega)).trans (get_set_apart _ (by simp [apart]))
    _ = cs.out := get_set_of_lt _ (Nat.le_of_ble_eq_true rfl) (Nat.le_of_ble_eq_true rfl)

theorem cause_takenOut {c : Nat} (h : c < 128) (cause : Nat) : (s.takenOut c cause).get (F.CAST_CELL_CAUSE c) = cause % 16 :=
  calc (s.takenOut c cause).get (F.CAST_CELL_CAUSE c)
    _ = (s.markedOut c cause).get (F.CAST_CELL_CAUSE c) := s.get_takenOut_apart (by simp [apart])
    _ = (((s.setCState c cs.out).set (F.CAST_CELL_CAUSE c) cause).count F.CAST_OUT_COUNT).get (F.CAST_CELL_CAUSE c) :=
      ((kept_setCastCell ..).get (by simp)).trans (get_raise_apart _ (by simp [apart]))
    _ = ((s.setCState c cs.out).set (F.CAST_CELL_CAUSE c) cause).get (F.CAST_CELL_CAUSE c) := get_count_apart _ (by simp [apart]; omega)
    _ = cause % 16 := get_set_same _ (Nat.le_of_ble_eq_true rfl)

theorem count_takenOut {c cause : Nat} (h : c < 128) :
    (s.takenOut c cause).get F.CAST_OUT_COUNT = min (s.get F.CAST_OUT_COUNT + 1) 0xFFFFFFFF := by
  calc (s.takenOut c cause).get F.CAST_OUT_COUNT
    _ = (s.markedOut c cause).get F.CAST_OUT_COUNT := s.get_takenOut_apart (by simp [apart]; omega)
    _ = (((s.setCState c cs.out).set (F.CAST_CELL_CAUSE c) cause).count F.CAST_OUT_COUNT).get F.CAST_OUT_COUNT :=
      ((kept_setCastCell ..).get (by simp)).trans (get_raise_apart _ (by decide))
    _ = min (((s.setCState c cs.out).set (F.CAST_CELL_CAUSE c) cause).get F.CAST_OUT_COUNT + 1) 0xFFFFFFFF := get_count_same _ (by decide)
    _ = min (s.get F.CAST_OUT_COUNT + 1) 0xFFFFFFFF := by
      rw [get_set_apart _ (by simp [apart]; omega), setCState, get_set_apart _ (by simp [apart]; omega)]

theorem leaveSince_takenOut (c cause : Nat) : ((s.takenOut c cause).castCell c).leaveSince = none := by
  have marked : ((s.markedOut c cause).castCell c).leaveSince = none := by rw [markedOut, castCell_setCastCell_same]
  have shown : (s.takenOut c cause).castCell c = ((s.markedOut c cause).shutOut c cause).castCell c :=
    castCell_of_kept (kept_showContrib _ c) (by decide) c
  rw [shown, shutOut]
  split
  · rw [castCell_setCastCell_same]
    exact marked
  · rw [castCell_of_kept (kept_block _ c) (by decide) c, bypass, castCell_setCastCell_same]
    dsimp only
    rw [castCell_giveOrder, marked]

theorem raised_takenOut (c cause : Nat) : Raised [(s.datum, 136, c)] s (s.takenOut c cause) := by
  have before : Kept [Reg.CAST_OUT, Reg.CAST_CELL c] [] s (((s.setCState c cs.out).set (F.CAST_CELL_CAUSE c) cause).count F.CAST_OUT_COUNT) :=
    ((Kept.rfl.set (f := F.CAST_CELL_STATE c) (by simp)).set (f := F.CAST_CELL_CAUSE c) (by simp)).count (by simp)
  have marked : Raised [(s.datum, 136, c)] s (s.markedOut c cause) := before.raised.kept (kept_setCastCell _ c _)
  exact (marked.kept (kept_shutOut _ c cause)).kept (kept_showContrib _ c)

/-! What holds of a cell that has gone OUT, after any takeover -/

section
variable {s : State} {c cause : Nat} (small : c < 128) (h : s.cState c ≠ cs.absent ∧ s.cState c ≠ cs.out)
include small h

theorem cState_goOut : (s.goOut c cause).cState c = cs.out := by
  have out := s.cState_takenOut small cause
  obtain eq | ⟨x, eq⟩ := goOut_cases (cause := cause) h
  · rw [eq, out]
  · rw [eq, cState_takeover _ (by rw [out]; decide), out]

theorem cause_goOut : (s.goOut c cause).get (F.CAST_CELL_CAUSE c) = cause % 16 := by
  obtain eq | ⟨x, eq⟩ := goOut_cases (cause := cause) h
  · rw [eq, cause_takenOut _ small]
  · rw [eq, get_takeover_apart _ (fun _ => by simp [apart]) (fun _ => by simp [apart]) (fun _ => by simp [apart]) (by simp [apart])
      (fun _ _ => by simp [apart]), cause_takenOut _ small]

theorem count_goOut : (s.goOut c cause).get F.CAST_OUT_COUNT = min (s.get F.CAST_OUT_COUNT + 1) 0xFFFFFFFF := by
  obtain eq | ⟨x, eq⟩ := goOut_cases (cause := cause) h
  · rw [eq, s.count_takenOut small]
  · rw [eq, (kept_takeover _ small).get (by decide), s.count_takenOut small]

theorem leaveSince_goOut : ((s.goOut c cause).castCell c).leaveSince = none := by
  have none := s.leaveSince_takenOut c cause
  obtain eq | ⟨x, eq⟩ := goOut_cases (cause := cause) h
  · rw [eq, none]
  · rw [eq, castCell_takeover _ (by rw [cState_takenOut _ small]; decide), none]

omit small in
/-- OUT is reported first, then what a takeover has to report. -/
theorem raised_goOut : ∃ l, (s.goOut c cause).router.inflight = s.router.inflight ++ { stamp := s.datum, num := 136, inst := c } :: l := by
  have first := s.raised_takenOut c cause
  obtain eq | ⟨x, eq⟩ := goOut_cases (cause := cause) h
  · exact ⟨[], by rw [eq, first]; rfl⟩
  · obtain ⟨l, more⟩ := (s.takenOut c cause).raises_takeover x c
    exact ⟨l, by rw [eq, more, first]; simp⟩

end

end State
end Sys2Proof.Machine

/-! PROOFS. Cells leave service (spec/07 R312, R327, R331 to R335). -/

namespace Sys2Proof.Machine

set_option Elab.async false

namespace State

variable (s : State)

/-- A removal begun: the cell is LEAVING, with its cause and its instant (R312, R333). -/
def removing (c cause : Nat) (s : State) : State :=
  ((s.setCState c cs.leaving).setCastCell c { (s.setCState c cs.leaving).castCell c with
    leaveSince := some (s.setCState c cs.leaving).elapsed, leaveCause := cause }).raise 137 c

theorem startLeaving_eq (c cause : Nat) : s.startLeaving c cause = (s.removing c cause).leavingDone c := rfl

theorem kept_removing (c cause : Nat) : Kept [Reg.CAST_CELL c] [.cast, .router] s (s.removing c cause) :=
  ((Kept.rfl.set (f := F.CAST_CELL_STATE c) (hf := List.mem_singleton.2 rfl)).cast).raise

theorem raised_removing (c cause : Nat) : Raised [(s.datum, 137, c)] s (s.removing c cause) :=
  ((Kept.rfl.set (f := F.CAST_CELL_STATE c) (hf := List.mem_singleton.2 rfl)).cast : Kept [Reg.CAST_CELL c] [.cast] s _).raised

theorem cState_removing {c : Nat} (h : c < 128) (cause : Nat) : (s.removing c cause).cState c = cs.leaving :=
  (get_raise_apart _ (by simp [apart]; omega)).trans ((kept_setCastCell ..).get (by simp) |>.trans
    (get_set_of_lt _ (Nat.le_of_ble_eq_true rfl) (Nat.le_of_ble_eq_true rfl)))

theorem castCell_removing (c cause : Nat) :
    (s.removing c cause).castCell c = { s.castCell c with leaveSince := some s.elapsed, leaveCause := cause } := by
  rw [removing, castCell_of_kept (Kept.raise (regs := []) (parts := [.router]) Kept.rfl) (by decide) c, castCell_setCastCell_same,
    castCell_setCState, setCState, elapsed_set]

/-- A cell in LEAVING ends it where it contributes 0 with no change ahead, and else stays (R333). -/
theorem leavingDone_eq {c : Nat} {s : State} (leaving : s.cState c = cs.leaving) : s.leavingDone c =
    if contribOf (lastLegs (s.tx c).hist) = some 0 ∧ contribOf (legsAt s.datum (s.tx c).hist) = some 0 then s.endLeaving c else s := by
  unfold leavingDone
  split
  · next at0 =>
    dsimp only
    rw [leaving, at0.1, at0.2]
    exact when_true ..
  · next not0 =>
    have off : (s.cState c == cs.leaving && contribOf (lastLegs (s.tx c).hist) == some 0 &&
        contribOf (legsAt s.datum (s.tx c).hist) == some 0) = false := by
      rw [leaving, beq_self_eq_true, Bool.true_and, Bool.eq_false_iff]
      simpa using not0
    dsimp only
    rw [off]
    exact when_false ..

theorem execHotTime_eq (t : Nat) (c : Fin 128) : execHotTime t c s = s.run t fun s =>
    if !s.tableau && s.cState c == cs.active && s.bit (F.CAST_CELL_HOT c) && s.due (s.castCell c).hotSince s.hotTime then
      s.startLeaving c 6 else s := rfl

theorem execUvTime_eq (t : Nat) (c : Fin 128) : execUvTime t c s = s.run t fun s =>
    if !s.tableau && s.cState c == cs.active && s.due (s.castCell c).uvSince s.uvTime then s.startLeaving c 5 else s := rfl

theorem execPreTime_eq (t : Nat) (c : Fin 128) : execPreTime t c s = s.run t fun s =>
    if !s.tableau && s.cState c == cs.precharge && s.due (s.castCell c).preStart (s.preTime - (s.castCell c).preSpent) then
      (s.goOut c 7).raise 139 c else s := rfl

/-- What an orderly removal does to the cell that it takes: it leaves, or is OUT at once. -/
def LeavesService (c : Fin 128) (cause : Nat) (a b : State) : Prop :=
  if contribOf (lastLegs (a.tx c).hist) = some 0 ∧ contribOf (legsAt a.datum (a.tx c).hist) = some 0 then
    b.cState c = cs.out ∧ b.get (F.CAST_CELL_CAUSE c) = cause ∧
    (∃ l, b.router.inflight = a.router.inflight ++ { stamp := a.datum, num := 137, inst := c } ::
      { stamp := a.datum, num := 136, inst := c } :: l) ∧
    Kept ([Reg.CAST_OUT, Reg.CAST_STATUS, Reg.SCRUB_FAULT_SEEN] ++ cellIds.map Reg.CAST_CELL) [.cast, .wing, .router] a b
  else b.cState c = cs.leaving ∧ (b.castCell c).leaveCause = cause ∧ (b.castCell c).leaveSince = some a.elapsed ∧
    Raised [(a.datum, 137, c)] a b ∧ Kept [Reg.CAST_CELL c] [.cast, .router] a b

theorem leavesService_startLeaving {s a : State} {t : Nat} (now : s.advance t = a) (c : Fin 128) {cause : Nat} (small : cause < 16) :
    LeavesService c cause a (s.settle a (a.startLeaving c cause)) := by
  obtain ⟨y, hy⟩ : ∃ y, a.removing c cause = y := ⟨_, rfl⟩
  have kept : Kept [Reg.CAST_CELL c] [.cast, .router] a y := hy ▸ a.kept_removing c cause
  have raised : Raised [(a.datum, 137, (c : Nat))] a y := hy ▸ a.raised_removing c cause
  have state : y.cState c = cs.leaving := hy ▸ a.cState_removing c.isLt cause
  have cell : y.castCell c = { a.castCell c with leaveSince := some a.elapsed, leaveCause := cause } := hy ▸ a.castCell_removing c cause
  have hist : (y.tx c).hist = (a.tx c).hist := by rw [tx, (kept.2 .wing (by decide) : y.wing = a.wing), tx]
  have datum : y.datum = a.datum := kept.2 .datum (by decide)
  rw [startLeaving_eq, hy, leavingDone_eq state, hist, datum]
  unfold LeavesService
  split
  · have inUse : y.cState c ≠ cs.absent ∧ y.cState c ≠ cs.out := by rw [state]; decide
    rw [endLeaving, cell]
    refine ⟨(get_settle ..).trans (cState_goOut c.isLt inUse), ?_, ?_, ?_⟩
    · rw [get_settle, cause_goOut c.isLt inUse]
      exact Nat.mod_eq_of_lt small
    · obtain ⟨l, more⟩ := raised_goOut (cause := cause) inUse
      refine ⟨l, more.trans ?_⟩
      rw [raised, datum, List.append_assoc]
      rfl
    · exact ((kept.mono (List.cons_subset.2 ⟨cell_mem_outRegs c.isLt, List.nil_subset _⟩) (by decide)).trans
        (y.kept_goOut cause c.isLt)).settled now
  · refine ⟨(get_settle ..).trans state, ?_, ?_, raised.settle, kept.settled now⟩
    · exact congrArg CastCell.leaveCause cell
    · exact congrArg CastCell.leaveSince cell

/-! A bypass that is not confirmed (R332) -/

/-- The check of casting's own order ends: the cell is OUT, and a close that has not been confirmed is BYPASS_STUCK. -/
def checkFailed (c : Nat) (close : Bool) (s : State) : State :=
  (if s.cState c = cs.out then s else s.goOut c 8).when close fun s =>
    ((s.setBit F.CAST_STATUS_BYPASS_STUCK true).raise 147 c).engineFault

/-- The check of a bypass order ends unconfirmed; the loop's own orders have no more to it. -/
def unconfirmed (c : Nat) (k : BypassCheck) (s : State) : State :=
  if k.own then (s.setCastCell c { s.castCell c with check := none, gone := (s.castCell c).gone || k.close }).checkFailed c k.close
  else s.setCastCell c { s.castCell c with check := none, gone := (s.castCell c).gone || k.close }

theorem completes_bypassCheckTimeout {t : Nat} {c : Fin 128} {k : BypassCheck} {a : State} {P : State → Prop} (now : s.advance t = a)
    (live : a.tableau = false) (check : (a.castCell c).check = some k) (due : a.due k.start a.bypTime = true)
    (hP : P (s.settle a (a.unconfirmed c k))) : Completes (.bypassCheckTimeout t c) s P := by
  refine completes_at (x := a.unconfirmed c k) (exec_bypassCheckTimeout ..) now ?_ hP
  dsimp only
  rw [check]
  exact if_pos (by simp [live, due])

theorem kept_checkFailed {c : Nat} (close : Bool) (h : c < 128) : Kept outRegs [.cast, .wing, .router, .curt] s (s.checkFailed c close) := by
  have out : Kept outRegs [.cast, .wing, .router, .curt] s (if s.cState c = cs.out then s else s.goOut c 8) :=
    Kept.rfl.ite ((s.kept_goOut 8 h).mono (List.Subset.refl _) (by decide))
  exact out.when fun h => ((h.setBit (hf := out_mem_outRegs.2.1)).raise).curt

/-- What a failed check leaves of a field that is neither BYPASS_STUCK nor a fault seen is what the cell's going OUT leaves. -/
theorem get_checkFailed {c : Nat} {close : Bool} {g : FieldRef} (stuck : apart F.CAST_STATUS_BYPASS_STUCK g = true) :
    (s.checkFailed c close).get g = (if s.cState c = cs.out then s else s.goOut c 8).get g := by
  unfold checkFailed
  cases close
  · rw [when_false]
  · rw [when_true]
    exact ((Kept.rfl (regs := []) (parts := [.router, .curt])).raise.curt.get (by simp)).trans (get_setBit_apart _ stuck)

theorem cState_checkFailed {c : Nat} (h : c < 128) (close : Bool) :
    (s.checkFailed c close).cState c = if s.cState c = cs.absent then cs.absent else cs.out := by
  rw [cState, get_checkFailed _ (by simp [apart]), ← cState]
  by_cases absent : s.cState c = cs.absent
  · rw [goOut_of_gone (.inl absent), ite_self, if_pos absent, absent]
  · rw [if_neg absent]
    by_cases out : s.cState c = cs.out
    · rw [if_pos out, out]
    · rw [if_neg out, cState_goOut h ⟨absent, out⟩]

theorem cause_checkFailed {c : Nat} (h : c < 128) (close : Bool) : (s.checkFailed c close).get (F.CAST_CELL_CAUSE c) =
    if s.cState c = cs.absent ∨ s.cState c = cs.out then s.get (F.CAST_CELL_CAUSE c) else 8 := by
  rw [get_checkFailed _ (by simp [apart])]
  by_cases gone : s.cState c = cs.absent ∨ s.cState c = cs.out
  · rw [goOut_of_gone gone, ite_self, if_pos gone]
  · rw [if_neg gone, if_neg fun out => gone (.inr out), cause_goOut h (not_or.1 gone)]

theorem stuck_checkFailed {c : Nat} (h : c < 128) {a : State} (curt : s.curt = a.curt) (datum : s.datum = a.datum) :
    (s.checkFailed c true).bit F.CAST_STATUS_BYPASS_STUCK = true ∧
      (s.checkFailed c true).curt = { a.curt with causes := a.curt.causes ++ [(13, a.datum)] } := by
  obtain ⟨y, hy⟩ : ∃ y, (if s.cState c = cs.out then s else s.goOut c 8) = y := ⟨_, rfl⟩
  have out : Kept outRegs [.cast, .wing, .router] s y := hy ▸ Kept.rfl.ite (s.kept_goOut 8 h)
  have eq : s.checkFailed c true = ((y.setBit F.CAST_STATUS_BYPASS_STUCK true).raise 147 c).engineFault := by
    rw [checkFailed, hy]
    exact when_true ..
  have before : Kept [Reg.CAST_STATUS] [.router] y ((y.setBit F.CAST_STATUS_BYPASS_STUCK true).raise 147 c) := Kept.rfl.setBit.raise
  rw [eq]
  refine ⟨?_, ?_⟩
  · refine ((Kept.rfl (regs := []) (parts := [.router, .curt])).raise.curt.bit (by simp)).trans (bit_setBit_same _ (by decide) rfl)
  · have now : ((y.setBit F.CAST_STATUS_BYPASS_STUCK true).raise 147 c).datum = a.datum :=
      (before.2 .datum (by decide)).trans ((out.2 .datum (by decide) : y.datum = s.datum).trans datum)
    have was : ((y.setBit F.CAST_STATUS_BYPASS_STUCK true).raise 147 c).curt = a.curt :=
      (before.2 .curt (by decide)).trans ((out.2 .curt (by decide) : y.curt = s.curt).trans curt)
    rw [engineFault, curtCause, now, was]

end State

/-- Settles O23: each timer's end is one cell leaving or going OUT, and what going OUT does is said once. -/
theorem cellsLeaveService : Obligations.CellsLeaveService := by
  unfold Obligations.CellsLeaveService
  refine ⟨?_, ?_, ?_, ?_, ?_⟩
  · intro s t c a
    have now : s.advance t = a := rfl
    clear_value a
    intro h live active hot due
    exact completes_at (x := a.startLeaving c 6) ((exec_hotTime ..).trans (s.execHotTime_eq t c)) now
      (if_pos (by simp [live, active, hot, due])) (State.leavesService_startLeaving now c (by decide))
  · intro s t c a
    have now : s.advance t = a := rfl
    clear_value a
    intro h live active due
    exact completes_at (x := a.startLeaving c 5) ((exec_uvTime ..).trans (s.execUvTime_eq t c)) now
      (if_pos (by simp [live, active, due])) (State.leavesService_startLeaving now c (by decide))
  · intro s t c a
    have now : s.advance t = a := rfl
    clear_value a
    intro live leaving due
    have inUse : a.cState c ≠ cs.absent ∧ a.cState c ≠ cs.out := by rw [leaving]; decide
    refine completes_at (x := a.endLeaving c) (exec_leavingTimeout ..) now (if_pos (by simp [live, leaving, due])) ?_
    rw [State.endLeaving]
    exact ⟨(State.get_settle ..).trans (State.cState_goOut c.isLt inUse), (State.get_settle ..).trans (State.cause_goOut c.isLt inUse),
      State.leaveSince_goOut c.isLt inUse, (State.get_settle ..).trans (State.count_goOut c.isLt inUse), State.raised_goOut inUse,
      (a.kept_goOut _ c.isLt).settled now⟩
  · intro s t c a
    have now : s.advance t = a := rfl
    clear_value a
    intro live precharge due
    have inUse : a.cState c ≠ cs.absent ∧ a.cState c ≠ cs.out := by rw [precharge]; decide
    refine completes_at (x := (a.goOut c 7).raise 139 c) ((exec_preTime ..).trans (s.execPreTime_eq t c)) now
      (if_pos (by simp [live, precharge, due])) ?_
    obtain ⟨y, hy⟩ : ∃ y, a.goOut c 7 = y := ⟨_, rfl⟩
    have kept : Kept outRegs [.cast, .wing, .router] a y := hy ▸ a.kept_goOut 7 c.isLt
    have state : y.cState c = cs.out := hy ▸ State.cState_goOut c.isLt inUse
    have cause : y.get (F.CAST_CELL_CAUSE c) = 7 := hy ▸ State.cause_goOut c.isLt inUse
    obtain ⟨l, raised⟩ : ∃ l, y.router.inflight = a.router.inflight ++ { stamp := a.datum, num := 136, inst := c } :: l :=
      hy ▸ State.raised_goOut inUse
    have datum : y.datum = a.datum := kept.2 .datum (by decide)
    rw [hy]
    have after : Kept [] [.router] y (y.raise 139 c) := Kept.rfl.raise
    refine ⟨(State.get_settle ..).trans ((after.get (by simp)).trans state), (State.get_settle ..).trans ((after.get (by simp)).trans cause),
      ⟨{ stamp := a.datum, num := 136, inst := c } :: l, ?_⟩, (kept.trans (after.mono (List.nil_subset _) (by decide))).settled now⟩
    have last : (y.raise 139 c).router.inflight = y.router.inflight ++ [{ stamp := y.datum, num := 139, inst := c }] := by
      rw [State.router_raise]
    exact last.trans (by rw [raised, datum])
  · intro s t c k a
    have now : s.advance t = a := rfl
    clear_value a
    intro live check due
    refine State.completes_bypassCheckTimeout s now live check due ?_
    obtain ⟨y, hy⟩ : ∃ y, a.setCastCell c { a.castCell c with check := none, gone := (a.castCell c).gone || k.close } = y := ⟨_, rfl⟩
    have kept : Kept [] [.cast] a y := hy ▸ a.kept_setCastCell ..
    have ended : (y.castCell c).check = none := by rw [← hy, State.castCell_setCastCell_same]
    rw [State.unconfirmed, hy]
    refine ⟨fun own => ?_, fun other => ?_⟩
    · rw [if_pos own]
      have stateIs : y.cState c = a.cState c := kept.get (by simp)
      refine ⟨?_, ?_, fun close => ?_, ?_⟩
      · rw [State.cState, State.get_settle, ← State.cState, y.cState_checkFailed c.isLt, stateIs]
      · rw [State.get_settle, y.cause_checkFailed c.isLt, stateIs, kept.get (by simp)]
      · rw [close]
        obtain ⟨stuck, curt⟩ := y.stuck_checkFailed c.isLt (kept.2 .curt (by decide)) (kept.2 .datum (by decide))
        exact ⟨(State.bit_settle ..).trans stuck, curt⟩
      · exact ((kept.mono (List.nil_subset _) (by decide)).trans (y.kept_checkFailed k.close c.isLt)).settled now
    · rw [other]
      exact ⟨ended, kept.settled now⟩

end Sys2Proof.Machine

/-! PROOFS. The halt of a loop: on the wire, at the engine and at the curtain (spec/04 R196, R197; spec/06 R300; spec/10 R444). -/

namespace Sys2Proof.Machine

set_option Elab.async false

/-- The registers that the engine's stop changes: its state, and the cells that are blocked. -/
def endRegs : List Nat := Reg.CUR_STATUS :: cellIds.map Reg.CAST_CELL

theorem cell_mem_endRegs {c : Nat} (h : c < 128) : Reg.CAST_CELL c ∈ endRegs :=
  List.mem_cons_of_mem _ (List.mem_map_of_mem (List.mem_range.2 h))

/-- The registers that a halt changes. -/
def haltRegs : List Nat := Reg.WING_STATUS :: endRegs

namespace State

variable (s : State)

/-! What a halt leaves of the state -/

theorem kept_dropOrders (c : Nat) : Kept [] [.wing, .cast, .host] s (s.dropOrders c) := by
  unfold dropOrders
  exact (Kept.rfl.wing.cast).each fun _ _ _ h => h.refuse

theorem kept_cutFrame (n : Nat) : Kept [] [.wing] s (s.cutFrame n) := by
  unfold cutFrame
  dsimp only
  split
  · exact Kept.rfl
  · exact Kept.rfl.ite Kept.rfl.wing.mapWing

theorem kept_haltWire (n : Nat) : Kept [Reg.WING_STATUS] [.wing, .cast, .host, .router] s (s.haltWire n) := by
  unfold haltWire
  refine Kept.rfl.ite ?_
  have cells := (Kept.rfl.setIbit (f := F.WING_STATUS_HALTED) (i := n) (v := true) : Kept [Reg.WING_STATUS] [.wing, .cast, .host, .router] s _).each
    (l := (s.setIbit F.WING_STATUS_HALTED n true).loopCells n) (f := fun c s => (s.dropOrders c).blockNow c)
    fun c _ x h => h.trans (((x.kept_dropOrders c).mono (List.nil_subset _) (by decide)).trans ((kept_blockNow _ c).mono (List.nil_subset _) (by decide)))
  exact (((cells.trans ((kept_cutFrame _ n).mono (List.nil_subset _) (by decide))).mapWing).wing).when fun h => h.mapWing.raiseAt

theorem kept_engGoto (v : Nat) : Kept [Reg.CUR_STATUS] [.router] s (s.engGoto v) := Kept.rfl.ite Kept.rfl.set.raise

theorem kept_holdPrecharge (run : Bool) : Kept [] [.cast] s (s.holdPrecharge run) := by
  unfold holdPrecharge
  exact Kept.rfl.each fun _ _ _ h => h.trans (by cases run <;> exact kept_setCastCell ..)

theorem kept_castDisengage : Kept (cellIds.map Reg.CAST_CELL) [.cast, .wing] s s.castDisengage := by
  unfold castDisengage
  refine Kept.rfl.cast.each fun c mem x h => h.trans ?_
  have cell : [Reg.CAST_CELL c] ⊆ cellIds.map Reg.CAST_CELL :=
    List.cons_subset.2 ⟨List.mem_map_of_mem (List.mem_filter.1 mem).1, List.nil_subset _⟩
  exact ((Kept.rfl.set (f := F.CAST_CELL_STATE c) (hf := cell (List.mem_cons_self ..))).trans ((kept_block _ c).mono (List.nil_subset _)
    (by decide))).trans ((kept_showContrib _ c).mono cell (List.nil_subset _))

theorem kept_engEnd (v : Nat) : Kept endRegs [.engine, .router, .cast, .wing] s (s.engEnd v) := by
  unfold engEnd
  refine Kept.rfl.ite ?_
  exact (((Kept.rfl.mapEngine).trans ((kept_engGoto _ v).mono (by decide) (by decide))).when fun h =>
    h.trans ((kept_holdPrecharge _ false).mono (List.nil_subset _) (by decide))).when fun h =>
      h.trans ((kept_castDisengage _).mono (List.subset_cons_self ..) (by decide))

theorem kept_engHalt : Kept endRegs [.engine, .router, .cast, .wing] s s.engHalt := (s.kept_engEnd _).ite Kept.rfl

theorem kept_haltLoop (n : Nat) : Kept haltRegs [.wing, .cast, .host, .router, .engine, .curt] s (s.haltLoop n) := by
  unfold haltLoop
  exact (((s.kept_haltWire n).mono (List.cons_subset.2 ⟨List.mem_cons_self .., List.nil_subset _⟩) (by decide)).trans ((kept_engHalt _).mono (List.subset_cons_self ..) (by decide))).when fun h => h.curt

theorem kept_haltAll : Kept haltRegs [.wing, .cast, .host, .router, .engine, .curt] s s.haltAll :=
  Kept.rfl.each fun n _ x h => h.trans (x.kept_haltLoop n)

/-! What another operation leaves of a loop's halt -/

/-- Two states are alike in what concerns the halt of loop `n`, or the second reports more. -/
structure SameHalt (n : Nat) (x y : State) : Prop where
  halted : y.loopHalted n = x.loopHalted n
  sent : y.wing.wire.count (.halt n) = x.wing.wire.count (.halt n)
  enabled : y.loopEnabled n = x.loopEnabled n
  start : y.wing.lastStart = x.wing.lastStart
  datum : y.datum = x.datum
  elapsed : y.elapsed = x.elapsed
  raises : Raises x y

namespace SameHalt

variable {n : Nat} {x y z : State}

theorem refl (n : Nat) (x : State) : SameHalt n x x := ⟨rfl, rfl, rfl, rfl, rfl, rfl, Raises.rfl⟩

theorem trans (h : SameHalt n x y) (k : SameHalt n y z) : SameHalt n x z :=
  ⟨k.halted.trans h.halted, k.sent.trans h.sent, k.enabled.trans h.enabled, k.start.trans h.start, k.datum.trans h.datum,
    k.elapsed.trans h.elapsed, h.raises.trans k.raises⟩

theorem of_kept {regs : List Nat} {parts : List Part} (k : Kept regs parts x y) (elapsed : y.elapsed = x.elapsed)
    (status : Reg.WING_STATUS ∉ regs := by decide) (ctrl : Reg.WING_CTRL ∉ regs := by decide) (wing : .wing ∉ parts := by decide)
    (router : .router ∉ parts := by decide) (datum : .datum ∉ parts := by decide) : SameHalt n x y := by
  have same : y.wing = x.wing := k.2 .wing wing
  exact ⟨k.ibit status, by rw [same], k.ibit ctrl, by rw [same], k.2 .datum datum, elapsed,
    Raises.rfl.of_router (k.2 .router router)⟩

/-- An operation on the loops' records that leaves the wire. -/
theorem of_wing {parts : List Part} (k : Kept [] parts x y) (elapsed : y.elapsed = x.elapsed) (wire : y.wing.wire = x.wing.wire)
    (start : y.wing.lastStart = x.wing.lastStart) (router : .router ∉ parts := by decide) (datum : .datum ∉ parts := by decide) :
    SameHalt n x y :=
  ⟨k.ibit (by simp), by rw [wire], k.ibit (by simp), start, k.2 .datum datum, elapsed, Raises.rfl.of_router (k.2 .router router)⟩

theorem each {α : Type} {f : α → State → State} {l : List α} (h : SameHalt n x y) (hf : ∀ i ∈ l, ∀ z, SameHalt n z (f i z)) :
    SameHalt n x (y.each l f) := by
  induction l generalizing y with
  | nil => exact h
  | cons i l ih => exact ih (h.trans (hf i (List.mem_cons_self ..) y)) fun j hj => hf j (List.mem_cons_of_mem _ hj)

theorem when {f : State → State} {q : Bool} (h : SameHalt n x y) (hf : ∀ z, SameHalt n z (f z)) : SameHalt n x (y.when q f) := by
  cases q
  · rwa [when_false]
  · rw [when_true]
    exact h.trans (hf y)

theorem ite {q : Prop} [Decidable q] (h : SameHalt n x y) (k : SameHalt n x z) : SameHalt n x (if q then y else z) := by
  split
  · exact h
  · exact k

theorem setTx (h : SameHalt n x y) (c : Nat) (t : CellTx) : SameHalt n x (y.setTx c t) :=
  h.trans (of_wing (y.kept_setTx c t) rfl rfl rfl)

theorem setLoop (h : SameHalt n x y) (m : Nat) (l : Loop) : SameHalt n x (y.setLoop m l) :=
  h.trans (of_wing (y.kept_setLoop m l) rfl rfl rfl)

theorem raise (h : SameHalt n x y) (num inst : Nat) : SameHalt n x (y.raise num inst) :=
  h.trans ⟨congrArg (Nat.testBit · n) (get_raise_apart _ (by decide)), by rw [wing_raise], congrArg (Nat.testBit · n) (get_raise_apart _ (by decide)),
    by rw [wing_raise], datum_raise .., elapsed_raise .., Raises.rfl.raise⟩

theorem cast (h : SameHalt n x y) (c : Cast) : SameHalt n x { y with cast := c } :=
  h.trans (of_kept (regs := []) (parts := [.cast]) Kept.rfl.cast rfl)

theorem setCastCell (h : SameHalt n x y) (c : Nat) (t : CastCell) : SameHalt n x (y.setCastCell c t) := h.cast _

theorem curt (h : SameHalt n x y) (c : Curt) : SameHalt n x { y with curt := c } :=
  h.trans (of_kept (regs := []) (parts := [.curt]) Kept.rfl.curt rfl)

theorem mapEngine (h : SameHalt n x y) (f : Engine → Engine) : SameHalt n x (y.mapEngine f) :=
  h.trans (of_kept (regs := []) (parts := [.engine]) Kept.rfl.mapEngine rfl)

theorem set (h : SameHalt n x y) {f : FieldRef} (v : Nat) (status : f.addr ≠ Reg.WING_STATUS) (ctrl : f.addr ≠ Reg.WING_CTRL) :
    SameHalt n x (y.set f v) :=
  h.trans (of_kept (regs := [f.addr]) (parts := []) (Kept.rfl.set (hf := List.mem_singleton.2 rfl)) (elapsed_set ..)
    (by simpa using status.symm) (by simpa using ctrl.symm))

theorem refuse (h : SameHalt n x y) (d : Desc) (status detail : Nat) : SameHalt n x (y.refuse d status detail) := by
  refine h.trans (of_kept (y.kept_refuse d status detail) ?_)
  unfold State.refuse complete stageDone
  split
  · split <;> rfl
  · rfl

/-- A bit of another field of WING_STATUS, or another loop's HALTED. -/
theorem setIbit (h : SameHalt n x y) {f : FieldRef} {m : Nat} (v : Bool) (addr : f.addr = Reg.WING_STATUS)
    (other : (y.setIbit f m v).loopHalted n = y.loopHalted n) : SameHalt n x (y.setIbit f m v) := by
  have kept : Kept [Reg.WING_STATUS] [] y (y.setIbit f m v) := Kept.rfl.setIbit (hf := List.mem_singleton.2 addr)
  have same : (y.setIbit f m v).wing = y.wing := kept.2 .wing (by decide)
  exact h.trans ⟨other, by rw [same], kept.ibit, by rw [same], kept.2 .datum (by decide), elapsed_setIbit ..,
    Raises.rfl.of_router (kept.2 .router (by decide))⟩

end SameHalt

theorem ibit_setIbit_of_ne {f : FieldRef} {i j : Nat} {b : Bool} (h : f.lo + f.w ≤ 32) (ne : i ≠ j) :
    (s.setIbit f i b).ibit f j = s.ibit f j := by
  have lt := s.get_lt f
  rw [ibit, setIbit, get_set_same _ h, Nat.testBit_mod_two_pow, testBit_putBits, ibit]
  have same : (if j < i then (s.get f).testBit j else if j < i + 1 then (if b then 1 else 0 : Nat).testBit (j - i) else (s.get f).testBit j) =
      (s.get f).testBit j := by
    split
    · rfl
    · rw [if_neg (by omega)]
  rw [same]
  by_cases small : j < f.w
  · simp [small]
  · have big : 2 ^ f.w ≤ 2 ^ j := Nat.pow_le_pow_right (by decide) (by omega)
    simp [small, Nat.testBit_lt_two_pow (lt.trans_le big)]

theorem loopHalted_setHalted_of_ne {m n : Nat} (ne : m ≠ n) (v : Bool) : (s.setIbit F.WING_STATUS_HALTED m v).loopHalted n = s.loopHalted n :=
  s.ibit_setIbit_of_ne (by decide) ne

/-! Orders dropped, cells blocked, a frame cut short -/

theorem sameHalt_dropOrders (n c : Nat) : SameHalt n s (s.dropOrders c) := by
  unfold dropOrders
  exact ((((SameHalt.refl n s).setTx ..).setCastCell ..).each fun _ _ z => (SameHalt.refl n z).refuse ..)

theorem sameHalt_blockNow (n c : Nat) : SameHalt n s (s.blockNow c) := (SameHalt.refl n s).setTx ..

theorem sameHalt_block (n c : Nat) : SameHalt n s (s.block c) := by
  unfold block
  exact (s.sameHalt_blockNow n c).ite (((SameHalt.refl n s).setTx ..).setTx ..)

/-- A cut takes no HALT from the wire. -/
theorem count_cutLast (m chars n : Nat) (l : List WireItem) : (cutLast m chars l).count (.halt n) = l.count (.halt n) := by
  induction l with
  | nil => rfl
  | cons i l ih =>
    cases i with
    | frame j hold bs =>
      unfold cutLast
      split
      · simp [ih]
      · split <;> simp
    | halt j => simp [cutLast, List.count_cons, ih]
    | count j =>
      unfold cutLast
      split <;> simp [ih]

theorem sameHalt_cutFrame (n m : Nat) : SameHalt n s (s.cutFrame m) := by
  unfold cutFrame
  dsimp only
  split
  · exact SameHalt.refl n s
  · refine SameHalt.ite (SameHalt.refl n s) ⟨rfl, ?_, rfl, rfl, rfl, rfl, Raises.rfl.of_router rfl⟩
    change (cutLast m _ s.wing.wire.reverse).reverse.count _ = s.wing.wire.count _
    rw [List.count_reverse, count_cutLast, List.count_reverse]

/-! The halt on the wire -/

/-- A loop's transmitter stopped: its cells blocked, its orders given up, what is frozen changed (R197). -/
def stopped (n : Nat) (s : State) : State :=
  let s := s.each (s.loopCells n) fun c s => (s.dropOrders c).blockNow c
  let s := s.cutFrame n
  let s := s.mapWing fun w => { w with
    frozen := w.frozen.map fun f => if f.loop = n then f.halted (s.loopFault n) else f }
  s.setLoop n { s.loop n with resumeAt := none, resumeDue := false }

/-- Three HALT sets leave, and the halt is reported as it is at the pin. -/
def haltSent (n : Nat) (s : State) : State :=
  (s.mapWing fun w => { w with wire := w.wire ++ List.replicate 3 (WireItem.halt n) }).raiseAt (s.charBoundary + pinDelay) 99 n

theorem haltWire_eq (n : Nat) : s.haltWire n = if s.loopHalted n && (s.loop n).resumeAt.isNone && !(s.loop n).resumeDue then s
    else ((s.setIbit F.WING_STATUS_HALTED n true).stopped n).when
      (((s.setIbit F.WING_STATUS_HALTED n true).stopped n).loopEnabled n) (haltSent n) := rfl

theorem sameHalt_stopped (n m : Nat) : SameHalt n s (s.stopped m) := by
  unfold stopped
  have cells : SameHalt n s (s.each (s.loopCells m) fun c s => (s.dropOrders c).blockNow c) :=
    (SameHalt.refl n s).each fun c _ z => (z.sameHalt_dropOrders n c).trans (sameHalt_blockNow _ n c)
  refine ((cells.trans (sameHalt_cutFrame _ n m)).trans ?_).setLoop ..
  exact SameHalt.of_wing (parts := [.wing]) Kept.rfl.mapWing rfl rfl rfl

/-- Another loop's HALT sets are not this one's. -/
theorem sameHalt_haltSent {m n : Nat} (ne : m ≠ n) : SameHalt n s (s.haltSent m) := by
  have kept : Kept [] [.wing, .router] s (s.haltSent m) := Kept.rfl.mapWing.raiseAt
  have wire : (s.haltSent m).wing.wire = s.wing.wire ++ List.replicate 3 (WireItem.halt m) := by rw [haltSent, wing_raiseAt]; rfl
  refine ⟨kept.ibit (by simp), ?_, kept.ibit (by simp), by rw [haltSent, wing_raiseAt]; rfl, kept.2 .datum (by decide),
    elapsed_raiseAt .., ⟨_, router_raiseAt ..⟩⟩
  rw [wire, List.count_append, List.count_replicate]
  simp [ne]

theorem sameHalt_haltWire {m n : Nat} (ne : m ≠ n) : SameHalt n s (s.haltWire m) := by
  rw [haltWire_eq]
  have stops : SameHalt n s ((s.setIbit F.WING_STATUS_HALTED m true).stopped m) :=
    ((SameHalt.refl n s).setIbit true rfl (s.loopHalted_setHalted_of_ne ne true)).trans (sameHalt_stopped _ n m)
  exact (SameHalt.refl n s).ite (stops.when fun z => z.sameHalt_haltSent ne)

/-! The engine's stop -/

theorem sameHalt_engGoto (n v : Nat) : SameHalt n s (s.engGoto v) :=
  (SameHalt.refl n s).ite (((SameHalt.refl n s).set v (by decide) (by decide)).raise ..)

theorem sameHalt_holdPrecharge (n : Nat) (run : Bool) : SameHalt n s (s.holdPrecharge run) := by
  unfold holdPrecharge
  refine (SameHalt.refl n s).each fun c _ z => ?_
  cases run <;> exact (SameHalt.refl n z).setCastCell ..

theorem sameHalt_castDisengage (n : Nat) : SameHalt n s s.castDisengage := by
  unfold castDisengage
  refine ((SameHalt.refl n s).cast _).each fun c mem z => ?_
  have small := lt_of_mem_cellIds mem
  have ne : (F.CAST_CELL_STATE c).addr ≠ Reg.WING_STATUS ∧ (F.CAST_CELL_STATE c).addr ≠ Reg.WING_CTRL := by
    simp only [Reg.WING_STATUS, Reg.WING_CTRL]
    omega
  exact (((SameHalt.refl n z).set cs.ready ne.1 ne.2).trans (sameHalt_block _ n c)).set _ ne.1 ne.2

theorem sameHalt_engEnd (n v : Nat) : SameHalt n s (s.engEnd v) := by
  unfold engEnd
  refine (SameHalt.refl n s).ite ?_
  exact ((((SameHalt.refl n s).mapEngine _).trans (sameHalt_engGoto _ n v)).when fun z => z.sameHalt_holdPrecharge n false).when
    fun z => z.sameHalt_castDisengage n

theorem sameHalt_engHalt (n : Nat) : SameHalt n s s.engHalt := (s.sameHalt_engEnd n _).ite (SameHalt.refl n s)

/-! The halt of a loop -/

theorem haltLoop_eq (n : Nat) : s.haltLoop n = ((s.haltWire n).engHalt).when
    (!s.loopHalted n && ((s.haltWire n).engHalt).loopHalted n && ((s.haltWire n).engHalt).curtainUp) fun s => s.curtCause 16 := rfl

theorem sameHalt_haltLoop {m n : Nat} (ne : m ≠ n) : SameHalt n s (s.haltLoop m) := by
  rw [haltLoop_eq]
  exact ((s.sameHalt_haltWire ne).trans (sameHalt_engHalt _ n)).when fun z => (SameHalt.refl n z).curt _

/-- What follows the halt on the wire. -/
theorem sameHalt_haltLoop_haltWire (n : Nat) : SameHalt n (s.haltWire n) (s.haltLoop n) := by
  rw [haltLoop_eq]
  exact (sameHalt_engHalt _ n).when fun z => (SameHalt.refl n z).curt _

theorem loopHalted_haltWire {n : Nat} (small : n < 4) : (s.haltWire n).loopHalted n = true := by
  rw [haltWire_eq]
  split
  · next quiet =>
    rw [Bool.and_eq_true, Bool.and_eq_true] at quiet
    exact quiet.1.1
  · have set : (s.setIbit F.WING_STATUS_HALTED n true).loopHalted n = true := s.ibit_setIbit_same (by decide) small
    have stops := (sameHalt_stopped (s.setIbit F.WING_STATUS_HALTED n true) n n).halted.trans set
    obtain ⟨y, hy⟩ : ∃ y, (s.setIbit F.WING_STATUS_HALTED n true).stopped n = y := ⟨_, rfl⟩
    rw [hy] at stops ⊢
    cases y.loopEnabled n
    · rw [when_false, stops]
    · rw [when_true]
      exact (Kept.ibit (Kept.rfl.mapWing.raiseAt : Kept [] [.wing, .router] y (y.haltSent n)) (by simp)).trans stops

theorem loopHalted_haltLoop {n : Nat} (small : n < 4) : (s.haltLoop n).loopHalted n = true :=
  (s.sameHalt_haltLoop_haltWire n).halted.trans (s.loopHalted_haltWire small)

theorem charBoundary_of_same {x y : State} (start : y.wing.lastStart = x.wing.lastStart) (datum : y.datum = x.datum)
    (elapsed : y.elapsed = x.elapsed) : y.charBoundary = x.charBoundary := by
  rw [charBoundary, charBoundary, start, datum, elapsed]

/-- A loop not halted yet, and enabled, is sent three HALT sets, and the halt is reported. -/
theorem sent_haltLoop {n : Nat} {s : State} (free : s.loopHalted n = false) (enabled : s.loopEnabled n = true) :
    (s.haltLoop n).wing.wire.count (.halt n) = s.wing.wire.count (.halt n) + 3 ∧
      ({ stamp := s.charBoundary + pinDelay, num := 99, inst := n } : Event) ∈ (s.haltLoop n).router.inflight := by
  have keptSet : Kept [Reg.WING_STATUS] [] s (s.setIbit F.WING_STATUS_HALTED n true) := Kept.rfl.setIbit
  obtain ⟨y, hy⟩ : ∃ y, (s.setIbit F.WING_STATUS_HALTED n true).stopped n = y := ⟨_, rfl⟩
  have stops : SameHalt n (s.setIbit F.WING_STATUS_HALTED n true) y := hy ▸ sameHalt_stopped _ n n
  have wing : (s.setIbit F.WING_STATUS_HALTED n true).wing = s.wing := keptSet.2 .wing (by decide)
  have wire : (s.haltWire n) = y.haltSent n := by
    rw [haltWire_eq, free, Bool.false_and, Bool.false_and, if_neg (by decide), hy, stops.enabled.trans (keptSet.ibit.trans enabled), when_true]
  have boundary : y.charBoundary = s.charBoundary := charBoundary_of_same (stops.start.trans (by rw [wing]))
    (stops.datum.trans (keptSet.2 .datum (by decide))) (stops.elapsed.trans (elapsed_setIbit ..))
  have after := s.sameHalt_haltLoop_haltWire n
  rw [wire] at after
  refine ⟨after.sent.trans ?_, ?_⟩
  · have appended : (y.haltSent n).wing.wire = y.wing.wire ++ List.replicate 3 (WireItem.halt n) := by rw [haltSent, wing_raiseAt]; rfl
    rw [appended, List.count_append, stops.sent, wing, List.count_replicate, if_pos (by simp)]
  · obtain ⟨l, more⟩ := after.raises
    rw [more, ← boundary, haltSent, router_raiseAt]
    simp

/-- A halt of all loops, as loop `n` sees it: its own halt, and no other's. -/
theorem haltAll_of_loop {n : Nat} (small : n < 4) : ∃ y, SameHalt n s y ∧ SameHalt n (y.haltLoop n) s.haltAll :=
  s.each_once (R := SameHalt) SameHalt.refl SameHalt.trans (fun x ne => x.sameHalt_haltLoop ne) List.nodup_range (List.mem_range.2 small)

end State
end Sys2Proof.Machine

/-! PROOFS. Writes of WING_CTRL: what is taken, then the halt, training and RESUME they ask for (spec/04 R196, R201, R202, R223). -/

namespace Sys2Proof.Machine

set_option Elab.async false

theorem wingSetup_eq_iff {x y : Nat} : wingSetup x = wingSetup y ↔ bitsOf x 16 4 = bitsOf y 16 4 ∧ bitsOf x 0 4 = bitsOf y 0 4 := by
  simp [wingSetup]

theorem bitsOf_of_wider {x y lo w lo' w' : Nat} (h : bitsOf x lo w = bitsOf y lo w) (low : lo ≤ lo') (high : lo' + w' ≤ lo + w) :
    bitsOf x lo' w' = bitsOf y lo' w' := by
  apply Nat.eq_of_testBit_eq
  intro i
  rw [testBit_bitsOf, testBit_bitsOf]
  by_cases small : i < w'
  · have bit := congrArg (Nat.testBit · (i + lo' - lo)) h
    simp only [testBit_bitsOf] at bit
    rw [show i + lo' - lo + lo = i + lo' by omega, decide_eq_true (by omega : i + lo' - lo < w), Bool.true_and, Bool.true_and] at bit
    rw [bit]
  · simp [small]

theorem testBit_of_bitsOf {x y lo w i : Nat} (h : bitsOf x lo w = bitsOf y lo w) (low : lo ≤ i) (high : i < lo + w) :
    x.testBit i = y.testBit i := by
  have bit := congrArg (Nat.testBit · (i - lo)) h
  simp only [testBit_bitsOf] at bit
  rwa [show i - lo + lo = i by omega, decide_eq_true (by omega : i - lo < w), Bool.true_and, Bool.true_and] at bit

theorem putBits_of_bitsOf {x lo w v : Nat} (h : v = bitsOf x lo w) : putBits x lo w v = x := by
  subst h
  apply Nat.eq_of_testBit_eq
  intro i
  rw [testBit_putBits, testBit_bitsOf]
  split
  · rfl
  · split
    · rw [decide_eq_true (by omega : i - lo < w), Bool.true_and, show i - lo + lo = i by omega]
    · rfl

namespace State

variable (s : State)

theorem writeField_wo (data setNow old lo w : Nat) (range : Option (Int × Int)) (set : Bool) :
    writeField data setNow old ⟨lo, w, .wo, range, set⟩ = old := rfl

theorem writeField_rw (data setNow old lo w : Nat) (range : Option (Int × Int)) (set : Bool) :
    writeField data setNow old ⟨lo, w, .rw, range, set⟩ = putBits old lo w (bitsOf data lo w) := rfl

/-- WING_CTRL's row of the register index. -/
def wingCtrlRow : RegRow := ⟨0x2800, 1, 4, 0x40000, [⟨28, 4, .wo, none, false⟩, ⟨24, 4, .wo, none, false⟩,
    ⟨23, 1, .wo, none, false⟩, ⟨18, 2, .rw, some (0, 1), false⟩, ⟨16, 2, .rw, some (0, 2), false⟩, ⟨0, 4, .rw, none, false⟩]⟩

theorem regRow_wingCtrl : regRow Reg.WING_CTRL = some wingCtrlRow := by decide +kernel

theorem writtenValue_wingCtrl {old data : Nat} (setNow : Nat) (same : wingSetup data = wingSetup old) :
    writtenValue wingCtrlRow old data setNow = old := by
  obtain ⟨setup, enable⟩ := wingSetup_eq_iff.1 same
  have safe : bitsOf data 18 2 = bitsOf old 18 2 := bitsOf_of_wider setup (by decide) (by decide)
  have period : bitsOf data 16 2 = bitsOf old 16 2 := bitsOf_of_wider setup (by decide) (by decide)
  unfold writtenValue wingCtrlRow
  rw [List.foldl_cons, List.foldl_cons, List.foldl_cons, List.foldl_cons, List.foldl_cons, List.foldl_cons, List.foldl_nil,
    writeField_wo, writeField_wo, writeField_wo, writeField_rw, writeField_rw, writeField_rw, putBits_of_bitsOf safe,
    putBits_of_bitsOf period, putBits_of_bitsOf enable]

/-- A write of WING_CTRL that leaves ENABLE, PERIOD and SAFE_STATE leaves the register. -/
theorem reg_wingCtrl_written {data : Word} {s : State} (same : wingSetup data.toNat = wingSetup (s.reg Reg.WING_CTRL).toNat) :
    (s.writeByAccess Reg.WING_CTRL data).reg Reg.WING_CTRL = s.reg Reg.WING_CTRL := by
  have eq : s.writeByAccess Reg.WING_CTRL data = s.setReg Reg.WING_CTRL
      (BitVec.ofNat 32 (writtenValue wingCtrlRow (s.reg Reg.WING_CTRL).toNat data.toNat (s.setNow Reg.WING_CTRL))) := by
    rw [writeByAccess, regRow_wingCtrl]
  rw [eq, reg_setReg, if_pos (Eq.refl _), writtenValue_wingCtrl _ same, BitVec.ofNat_toNat, BitVec.setWidth_eq]

/-- Such a write leaves everything. -/
theorem kept_wingCtrl_written {data : Word} {s : State} (same : wingSetup data.toNat = wingSetup (s.reg Reg.WING_CTRL).toNat) :
    Kept [] [] s (s.writeByAccess Reg.WING_CTRL data) := by
  have kept := s.kept_writeByAccess data Reg.WING_CTRL (regs := [Reg.WING_CTRL]) (parts := []) (List.mem_singleton.2 rfl)
  refine ⟨fun r _ => ?_, kept.2⟩
  by_cases ctrl : r = Reg.WING_CTRL
  · rw [ctrl]
    exact reg_wingCtrl_written same
  · exact kept.1 r (by simpa using ctrl)

theorem elapsed_writeByAccess (a : Nat) (data : Word) : (s.writeByAccess a data).elapsed = s.elapsed := by
  unfold writeByAccess
  split <;> rfl

/-! The write in three steps -/

/-- The write is refused (R223). -/
def ctrlRefused (data : Word) (s : State) : Bool :=
  decide (bitsOf data.toNat 16 2 = 3) || decide (1 < bitsOf data.toNat 18 2) ||
    (wingSetup data.toNat != wingSetup (s.reg Reg.WING_CTRL).toNat && !s.curtainDown)

/-- ENABLE, PERIOD and SAFE_STATE taken (R223). -/
def ctrlTaken (data : Word) (s : State) : State :=
  ((s.when (bitsOf data.toNat 16 2 != bitsOf (s.reg Reg.WING_CTRL).toNat 16 2) fun s =>
    (s.set F.WING_STATUS_TRAINED 0).mapWing fun w => { w with frozen := [] }).each
      ((List.range 4).filter fun n => (s.reg Reg.WING_CTRL).toNat.testBit n && !data.toNat.testBit n) loopOff).writeByAccess Reg.WING_CTRL data

/-- The loops of a group of four bits of the write. -/
def named (data : Word) (lo : Nat) : List Nat := (List.range 4).filter fun n => data.getLsbD (lo + n)

theorem writeWingCtrl_eq (data : Word) : s.writeWingCtrl data =
    if s.ctrlRefused data then s.setBit F.WING_STATUS_CFG_REJECT true
    else (((s.ctrlTaken data).when (data.getLsbD 23) haltAll).each (named data 28) trainLoop).each (named data 24) resumeLoop := rfl

theorem mem_named {data : Word} {lo n : Nat} : n ∈ named data lo ↔ n < 4 ∧ data.getLsbD (lo + n) = true := by
  simp [named]

theorem nodup_named (data : Word) (lo : Nat) : (named data lo).Nodup := List.nodup_range.filter _

theorem named_eq_nil {data : Word} {lo w : Nat} (h : bitsOf data.toNat lo w = 0) (wide : 4 ≤ w) : named data lo = [] := by
  rw [named, List.filter_eq_nil_iff]
  intro n mem
  have small := List.mem_range.1 mem
  have bit := testBit_of_bitsOf (x := data.toNat) (y := 0) (lo := lo) (w := w) (i := lo + n) (by rw [h]; simp [bitsOf]) (by omega) (by omega)
  rw [BitVec.getLsbD, bit]
  simp

theorem getLsbD_of_bitsOf {data : Word} {lo w i : Nat} (h : bitsOf data.toNat lo w = 0) (low : lo ≤ i) (high : i < lo + w) :
    data.getLsbD i = false := by
  have bit := testBit_of_bitsOf (x := data.toNat) (y := 0) (lo := lo) (w := w) (i := i) (by rw [h]; simp [bitsOf]) low high
  rw [BitVec.getLsbD, bit]
  simp

/-- A write that leaves ENABLE, PERIOD and SAFE_STATE takes nothing. -/
theorem kept_ctrlTaken {data : Word} {s : State} (same : wingSetup data.toNat = wingSetup (s.reg Reg.WING_CTRL).toNat) :
    Kept [] [] s (s.ctrlTaken data) ∧ (s.ctrlTaken data).elapsed = s.elapsed := by
  obtain ⟨setup, enable⟩ := wingSetup_eq_iff.1 same
  have period : (bitsOf data.toNat 16 2 != bitsOf (s.reg Reg.WING_CTRL).toNat 16 2) = false := by
    rw [bitsOf_of_wider setup (by decide) (by decide)]
    simp
  have off : (List.range 4).filter (fun n => (s.reg Reg.WING_CTRL).toNat.testBit n && !data.toNat.testBit n) = [] := by
    rw [List.filter_eq_nil_iff]
    intro n mem
    rw [testBit_of_bitsOf enable (Nat.zero_le n) (by simpa using mem)]
    simp
  have eq : s.ctrlTaken data = s.writeByAccess Reg.WING_CTRL data := by
    rw [ctrlTaken, period, off, when_false]
    rfl
  rw [eq]
  exact ⟨kept_wingCtrl_written same, elapsed_writeByAccess ..⟩

theorem kept_loopOff (n : Nat) : Kept [Reg.WING_STATUS] [.wing] s (s.loopOff n) := by
  unfold loopOff
  exact ((Kept.rfl.setIbit.setIbit).mapWing).wing

theorem kept_ctrlTaken_any (data : Word) : Kept [Reg.WING_CTRL, Reg.WING_STATUS] [.wing] s (s.ctrlTaken data) := by
  unfold ctrlTaken
  have period : Kept [Reg.WING_CTRL, Reg.WING_STATUS] [.wing] s (s.when (bitsOf data.toNat 16 2 != bitsOf (s.reg Reg.WING_CTRL).toNat 16 2) fun s =>
      (s.set F.WING_STATUS_TRAINED 0).mapWing fun w => { w with frozen := [] }) := Kept.rfl.when fun h => h.set.mapWing
  exact (period.each fun n _ x h => h.trans ((x.kept_loopOff n).mono (by decide) (by decide))).trans (kept_writeByAccess _ data _ (by decide))

/-- ENABLE is what is written. -/
theorem loopEnabled_ctrlTaken (data : Word) {n : Nat} (h : n < 4) : (s.ctrlTaken data).loopEnabled n = data.getLsbD n := by
  rw [loopEnabled, ibit, ctrlTaken, get_writeByAccess_rw _ (f := F.WING_CTRL_ENABLE) (by decide +kernel) data, testBit_bitsOf]
  simp [h, BitVec.getLsbD]

end State
end Sys2Proof.Machine

/-! PROOFS. The halt held and the RESUME that ends it (spec/04 R196, R197, R200, R201, R223). -/

namespace Sys2Proof.Machine

set_option Elab.async false

namespace State

variable (s : State)

theorem loop_settle (a x : State) (n : Nat) : (s.settle a x).loop n = x.loop n := rfl

theorem tx_settle (a x : State) (c : Nat) : (s.settle a x).tx c = x.tx c := rfl

/-! Training's start in steps (R202, R204) -/

/-- The loop's bits as training starts. -/
def trainBits (n : Nat) (s : State) : State :=
  (((s.setIbit F.WING_STATUS_TRAINED n false).setIbit F.WING_STATUS_LOOP_FAULT n false).setIbit F.WING_STATUS_HALTED n false).setIbit
    F.WING_STATUS_TRAIN_BUSY n true

/-- A cell's orders given up, its LINK_FAULT cleared. -/
def trainCell (c : Nat) (s : State) : State :=
  ((s.dropOrders c).setTx c { (s.dropOrders c).tx c with orders := ((s.dropOrders c).tx c).orders.filter fun o => !o.owner.isTrain }).setBit
    (F.WING_CELL_LINK_FAULT c) false

/-- The loop's record as training starts. -/
def trainRecord (n : Nat) (s : State) : State :=
  (s.setReg (Reg.WING_TRAIN n) 0).setLoop n { (s.setReg (Reg.WING_TRAIN n) 0).loop n with
    train := some { start := (s.setReg (Reg.WING_TRAIN n) 0).elapsed }, bad := false, short := 0, drift := false
    resumeAt := none, resumeDue := false, replies := [] }

/-- Everything of a start of training but its verdict on the positions. -/
def trainOpened (n : Nat) (s : State) : State :=
  let s := s.trainBits n
  let s := s.each (s.loopCells n) trainCell
  let s := s.trainRecord n
  s.each (s.loopCells n) blockNow

theorem trainLoop_refused {n : Nat} {s : State} (h : ¬(s.curtainDown = true ∧ s.loopEnabled n = true)) :
    s.trainLoop n = s.setBit F.WING_STATUS_CFG_REJECT true := if_neg (by simpa using h)

theorem trainLoop_cases {n : Nat} {s : State} (h : s.curtainDown = true ∧ s.loopEnabled n = true) :
    ((s.trainOpened n).badPosition n = none ∧ s.trainLoop n = (s.trainOpened n).set (F.WING_TRAIN_PHASE n) 1) ∨
    ∃ p, (s.trainOpened n).badPosition n = some p ∧ s.trainLoop n = (s.trainOpened n).trainFail n 0xB p := by
  have eq : s.trainLoop n = match (s.trainOpened n).badPosition n with
      | some p => (s.trainOpened n).trainFail n 0xB p
      | none => (s.trainOpened n).set (F.WING_TRAIN_PHASE n) 1 := if_pos (by simpa using h)
  rw [eq]
  cases (s.trainOpened n).badPosition n with
  | none => exact .inl ⟨rfl, rfl⟩
  | some p => exact .inr ⟨p, rfl, rfl⟩

theorem resumeLoop_allowed {n : Nat} {s : State} (h : s.resumeAllowed n = true) : s.resumeLoop n =
    (s.each (s.loopCells n) fun c s => s.giveOrder c .resume [order.resume]).setLoop n
      { (s.each (s.loopCells n) fun c s => s.giveOrder c .resume [order.resume]).loop n with resumeDue := true } := if_pos h

theorem resumeLoop_refused {n : Nat} {s : State} (h : s.resumeAllowed n = false) :
    s.resumeLoop n = s.setBit F.WING_STATUS_CFG_REJECT true := if_neg (by rw [h]; decide)

/-! What training and RESUME leave of a loop's halt -/

namespace SameHalt

variable {n : Nat} {x y : State}

theorem setBit (h : SameHalt n x y) {f : FieldRef} (v : Bool) (addr : f.addr ≠ Reg.WING_STATUS) (ctrl : f.addr ≠ Reg.WING_CTRL) :
    SameHalt n x (y.setBit f v) :=
  h.trans (of_kept (regs := [f.addr]) (parts := []) (Kept.rfl.setBit (hf := List.mem_singleton.2 rfl)) (elapsed_setBit ..)
    (by simpa using addr.symm) (by simpa using ctrl.symm))

theorem setReg (h : SameHalt n x y) {r : Nat} (v : Word) (addr : r ≠ Reg.WING_STATUS) (ctrl : r ≠ Reg.WING_CTRL) :
    SameHalt n x (y.setReg r v) :=
  h.trans (of_kept (regs := [r]) (parts := []) (Kept.rfl.setReg (hr := List.mem_singleton.2 rfl)) (elapsed_setReg ..)
    (by simpa using addr.symm) (by simpa using ctrl.symm))

theorem cfgReject (h : SameHalt n x y) : SameHalt n x (y.setBit F.WING_STATUS_CFG_REJECT true) := by
  have kept : Kept [Reg.WING_STATUS] [] y (y.setBit F.WING_STATUS_CFG_REJECT true) := Kept.rfl.setBit
  have same : (y.setBit F.WING_STATUS_CFG_REJECT true).wing = y.wing := kept.2 .wing (by decide)
  exact h.trans ⟨congrArg (Nat.testBit · n) (get_setBit_apart _ (by decide)), by rw [same], kept.ibit, by rw [same], kept.2 .datum (by decide),
    elapsed_setBit .., Raises.rfl.of_router (kept.2 .router (by decide))⟩

theorem frozen (h : SameHalt n x y) (f : Wing → List Frame) : SameHalt n x (y.mapWing fun w => { w with frozen := f w }) :=
  h.trans (of_wing (parts := [.wing]) Kept.rfl.mapWing rfl rfl rfl)

theorem otherBit (h : SameHalt n x y) {f : FieldRef} (m : Nat) (v : Bool) (addr : f.addr = Reg.WING_STATUS)
    (other : apart f F.WING_STATUS_HALTED = true) : SameHalt n x (y.setIbit f m v) := h.setIbit v addr (ibit_setIbit_apart _ other)

end SameHalt

theorem sameHalt_trainFail (n m code pos : Nat) : SameHalt n s (s.trainFail m code pos) := by
  have addr : Reg.WING_TRAIN m ≠ Reg.WING_STATUS ∧ Reg.WING_TRAIN m ≠ Reg.WING_CTRL := by
    simp only [Reg.WING_TRAIN, Reg.WING_STATUS, Reg.WING_CTRL]
    omega
  unfold trainFail
  exact (((((SameHalt.refl n s).set code addr.1 addr.2).set pos addr.1 addr.2).otherBit m false rfl (by decide)).each
    fun _ _ z => (SameHalt.refl n z).setTx ..).setLoop .. |>.raise ..

theorem sameHalt_trainCell {n c : Nat} : SameHalt n s (s.trainCell c) :=
  ((s.sameHalt_dropOrders n c).setTx ..).setBit false
    (by simp only [Reg.WING_STATUS]; omega) (by simp only [Reg.WING_CTRL]; omega)

theorem sameHalt_trainOpened {n m : Nat} (ne : m ≠ n) : SameHalt n s (s.trainOpened m) := by
  have addr : Reg.WING_TRAIN m ≠ Reg.WING_STATUS ∧ Reg.WING_TRAIN m ≠ Reg.WING_CTRL := by
    simp only [Reg.WING_TRAIN, Reg.WING_STATUS, Reg.WING_CTRL]
    omega
  have bits : SameHalt n s (s.trainBits m) :=
    ((((SameHalt.refl n s).otherBit m false rfl (by decide)).otherBit m false rfl (by decide)).setIbit false rfl
      (loopHalted_setHalted_of_ne _ ne false)).otherBit m true rfl (by decide)
  unfold trainOpened
  exact ((bits.each fun c _ z => z.sameHalt_trainCell).trans (((SameHalt.refl n _).setReg 0 addr.1 addr.2).setLoop ..)).each
    fun c _ z => z.sameHalt_blockNow n c

theorem sameHalt_trainLoop {n m : Nat} (ne : m ≠ n) : SameHalt n s (s.trainLoop m) := by
  by_cases start : s.curtainDown = true ∧ s.loopEnabled m = true
  · obtain ⟨-, eq⟩ | ⟨p, -, eq⟩ := trainLoop_cases start
    · rw [eq]
      exact (s.sameHalt_trainOpened ne).set 1 (by simp only [Reg.WING_STATUS]; omega) (by simp only [Reg.WING_CTRL]; omega)
    · rw [eq]
      exact (s.sameHalt_trainOpened ne).trans (sameHalt_trainFail ..)
  · rw [trainLoop_refused start]
    exact (SameHalt.refl n s).cfgReject

theorem sameHalt_resumeLoop (n m : Nat) : SameHalt n s (s.resumeLoop m) := by
  cases allowed : s.resumeAllowed m
  · rw [resumeLoop_refused allowed]
    exact (SameHalt.refl n s).cfgReject
  · rw [resumeLoop_allowed allowed]
    exact ((SameHalt.refl n s).each fun c _ z => (SameHalt.refl n z).setTx ..).setLoop ..

theorem sameHalt_loopOff (n m : Nat) : SameHalt n s (s.loopOff m) := by
  unfold loopOff
  have bits : SameHalt n s ((s.setIbit F.WING_STATUS_TRAINED m false).setIbit F.WING_STATUS_TRAIN_BUSY m false) :=
    ((SameHalt.refl n s).otherBit m false rfl (by decide)).otherBit m false rfl (by decide)
  exact (bits.frozen _).setLoop ..

/-- Taking ENABLE, PERIOD and SAFE_STATE leaves a loop's halt and the wire. -/
theorem ctrlTaken_halt (data : Word) (n : Nat) : (s.ctrlTaken data).loopHalted n = s.loopHalted n ∧
    (s.ctrlTaken data).wing.wire.count (.halt n) = s.wing.wire.count (.halt n) ∧ (s.ctrlTaken data).charBoundary = s.charBoundary ∧
    Raises s (s.ctrlTaken data) := by
  have period : SameHalt n s (s.when (bitsOf data.toNat 16 2 != bitsOf (s.reg Reg.WING_CTRL).toNat 16 2) fun s =>
      (s.set F.WING_STATUS_TRAINED 0).mapWing fun w => { w with frozen := [] }) := by
    refine (SameHalt.refl n s).when fun z => ?_
    have kept : Kept [Reg.WING_STATUS] [] z (z.set F.WING_STATUS_TRAINED 0) := Kept.rfl.set
    have same : (z.set F.WING_STATUS_TRAINED 0).wing = z.wing := kept.2 .wing (by decide)
    refine SameHalt.frozen (y := z.set F.WING_STATUS_TRAINED 0) ⟨congrArg (Nat.testBit · n) (get_set_apart _ (by decide)), by rw [same],
      kept.ibit, by rw [same], kept.2 .datum (by decide), elapsed_set .., Raises.rfl.of_router (kept.2 .router (by decide))⟩ _
  obtain ⟨y, hy⟩ : ∃ y, (s.when (bitsOf data.toNat 16 2 != bitsOf (s.reg Reg.WING_CTRL).toNat 16 2) fun s =>
      (s.set F.WING_STATUS_TRAINED 0).mapWing fun w => { w with frozen := [] }).each
        ((List.range 4).filter fun n => (s.reg Reg.WING_CTRL).toNat.testBit n && !data.toNat.testBit n) loopOff = y := ⟨_, rfl⟩
  have before : SameHalt n s y := hy ▸ period.each fun m _ z => z.sameHalt_loopOff n m
  have kept : Kept [Reg.WING_CTRL] [] y (y.writeByAccess Reg.WING_CTRL data) := kept_writeByAccess _ data _ (List.mem_singleton.2 rfl)
  have wing : (y.writeByAccess Reg.WING_CTRL data).wing = y.wing := kept.2 .wing (by decide)
  rw [ctrlTaken, hy]
  exact ⟨kept.ibit.trans before.halted, by rw [wing, before.sent],
    charBoundary_of_same (by rw [wing, before.start]) ((kept.2 .datum (by decide)).trans before.datum)
      ((elapsed_writeByAccess ..).trans before.elapsed), before.raises.of_router (kept.2 .router (by decide))⟩

/-! RESUME (R201) -/

theorem resumeAllowed_of_kept {x y : State} {parts : List Part} (k : Kept [Reg.WING_STATUS] parts x y)
    (trained : ∀ n, y.loopTrained n = x.loopTrained n) (fault : ∀ n, y.loopFault n = x.loopFault n) (n : Nat) :
    y.resumeAllowed n = x.resumeAllowed n := by
  have cfg (i : Nat) (h : i < 32) : Reg.COMP_CFG i ≠ Reg.WING_STATUS := by
    simp only [Reg.COMP_CFG, Reg.WING_STATUS]
    omega
  have route : y.haltRouteActive = x.haltRouteActive := by
    unfold haltRouteActive
    rw [Bool.eq_iff_iff]
    simp only [List.any_eq_true, List.mem_range]
    refine exists_congr fun i => and_congr_right fun small => ?_
    have ne := cfg i small
    rw [k.bit (f := F.COMP_CFG_HALT i) (by simpa using ne), k.bit (f := F.COMP_CFG_ENABLE i) (by simpa using ne),
      k.ibit (f := F.COMP_STATE_TRIPPED)]
  rw [resumeAllowed, resumeAllowed, curtainDown, curtainDown, curtain, curtain, k.get, route, trained, fault]

/-- Two states are alike in what RESUME of loop `n` is about: its record, its permission, its cells' orders; a rejection stays. -/
structure SameResume (n : Nat) (x y : State) : Prop where
  loop : y.loop n = x.loop n
  allowed : y.resumeAllowed n = x.resumeAllowed n
  tables : y.tables = x.tables
  orders : ∀ c, x.cellLoop c = n → y.tx c = x.tx c
  rejected : x.bit F.WING_STATUS_CFG_REJECT = true → y.bit F.WING_STATUS_CFG_REJECT = true

theorem SameResume.refl (n : Nat) (x : State) : SameResume n x x := ⟨rfl, rfl, rfl, fun _ _ => rfl, id⟩

theorem SameResume.trans {n : Nat} {x y z : State} (h : SameResume n x y) (k : SameResume n y z) : SameResume n x z :=
  ⟨k.loop.trans h.loop, k.allowed.trans h.allowed, k.tables.trans h.tables,
    fun c is => (k.orders c ((cellLoop_of_tables h.tables c).trans is)).trans (h.orders c is), k.rejected ∘ h.rejected⟩

/-- RESUME ordered to the loop's cells. -/
def resumeOrdered (n : Nat) (s : State) : State := s.each (s.loopCells n) fun c s => s.giveOrder c .resume [order.resume]

theorem kept_resumeOrdered (n : Nat) : Kept [] [.wing] s (s.resumeOrdered n) := Kept.rfl.each fun _ _ _ h => h.giveOrder

theorem tx_resumeOrdered_of_not_mem {n c : Nat} (h : c ∉ s.loopCells n) : (s.resumeOrdered n).tx c = s.tx c := by
  have rest (l : List Nat) (x : State) (h : c ∉ l) : (x.each l fun c s => s.giveOrder c .resume [order.resume]).tx c = x.tx c := by
    induction l generalizing x with
    | nil => rfl
    | cons i l ih =>
      rw [List.mem_cons, not_or] at h
      rw [each_cons, ih _ h.2, tx_giveOrder_of_ne _ h.1]
  exact rest _ s h

theorem loop_resumeOrdered (n m : Nat) : (s.resumeOrdered n).loop m = s.loop m := 
  each_eq s (fun x => x.loop m) (f := fun c s => s.giveOrder c .resume [order.resume]) (fun _ _ => rfl) _

theorem orders_resumeOrdered {n c : Nat} (h : c ∈ s.loopCells n) :
    ((s.resumeOrdered n).tx c).orders = (s.tx c).orders ++ [{ owner := .resume, codes := [order.resume] }] := by
  obtain ⟨y, before, after⟩ := s.each_once (R := fun c x y => y.tx c = x.tx c) (f := fun c s => s.giveOrder c .resume [order.resume])
    (fun _ _ => rfl) (fun h k => k.trans h) (fun x ne => tx_giveOrder_of_ne x ne.symm _ _) (s.nodup_loopCells n) h
  rw [resumeOrdered, after, orders_giveOrder y rfl rfl, before]

theorem cellLoop_of_mem_loopCells {n c : Nat} (h : c ∈ s.loopCells n) : s.cellLoop c = n := by
  rw [loopCells, List.mem_filter, Bool.and_eq_true, beq_iff_eq] at h
  exact h.2.2

theorem kept_resumeLoop (n : Nat) : Kept [Reg.WING_STATUS] [.wing] s (s.resumeLoop n) := by
  cases allowed : s.resumeAllowed n
  · rw [resumeLoop_refused allowed]
    exact Kept.rfl.setBit
  · rw [resumeLoop_allowed allowed]
    exact ((s.kept_resumeOrdered n).trans (kept_setLoop ..)).mono (by decide)

theorem get_resumeLoop {n : Nat} {f : FieldRef} (h : apart F.WING_STATUS_CFG_REJECT f = true) : (s.resumeLoop n).get f = s.get f := by
  cases allowed : s.resumeAllowed n
  · rw [resumeLoop_refused allowed, get_setBit_apart _ h]
  · rw [resumeLoop_allowed allowed]
    exact ((s.kept_resumeOrdered n).trans (kept_setLoop ..)).get (by simp)

theorem sameResume_resumeLoop {m n : Nat} (ne : m ≠ n) : SameResume n s (s.resumeLoop m) := by
  have kept := s.kept_resumeLoop m
  refine ⟨?_, resumeAllowed_of_kept kept (fun _ => congrArg (Nat.testBit · _) (s.get_resumeLoop (by decide)))
    (fun _ => congrArg (Nat.testBit · _) (s.get_resumeLoop (by decide))) n, kept.2 .tables (by decide), fun c is => ?_, fun set => ?_⟩ <;>
    cases allowed : s.resumeAllowed m
  · rw [resumeLoop_refused allowed, loop, wing_setBit, loop]
  · rw [resumeLoop_allowed allowed, loop_setLoop, if_neg ne.symm]
    exact s.loop_resumeOrdered m n
  · rw [resumeLoop_refused allowed, tx, wing_setBit, tx]
  · rw [resumeLoop_allowed allowed, tx_setLoop]
    exact s.tx_resumeOrdered_of_not_mem fun mem => ne ((s.cellLoop_of_mem_loopCells mem).symm.trans is)
  · rw [resumeLoop_refused allowed]
    exact bit_setBit_same _ (by decide) rfl
  · rw [resumeLoop_allowed allowed]
    exact (((s.kept_resumeOrdered m).trans (kept_setLoop ..)).bit (by simp)).trans set

/-- The command is the same for the three forms of a write of WING_CTRL. -/
theorem wingCtrl_run {a : State} {data : Word} (live : a.tableau = false) : a.bar0 Reg.WING_CTRL data (writeWingCtrl data) = a.writeWingCtrl data :=
  bar0_of_not_tableau live ..

theorem ctrlRefused_eq_false {data : Word} {s : State} (setup : wingSetup data.toNat = wingSetup (s.reg Reg.WING_CTRL).toNat ∨ s.curtainDown = true)
    (period : bitsOf data.toNat 16 2 ≠ 3) (safe : bitsOf data.toNat 18 2 ≤ 1) : s.ctrlRefused data = false := by
  rw [ctrlRefused, decide_eq_false period, decide_eq_false (by omega : ¬1 < bitsOf data.toNat 18 2)]
  obtain same | down := setup
  · simp [same]
  · simp [down]

/-- A write of HALT_NOW halts every loop that it does not train; one enabled and not halted before is sent HALT. -/
theorem writeWingCtrl_halts {a : State} {data : Word} (setup : wingSetup data.toNat = wingSetup (a.reg Reg.WING_CTRL).toNat ∨ a.curtainDown = true)
    (period : bitsOf data.toNat 16 2 ≠ 3) (safe : bitsOf data.toNat 18 2 ≤ 1) (halt : data.getLsbD 23 = true) {n : Nat} (small : n < 4)
    (untrained : data.getLsbD (28 + n) = false) : (a.writeWingCtrl data).loopHalted n = true ∧
      (data.getLsbD n = true → a.loopHalted n = false →
        (a.writeWingCtrl data).wing.wire.count (.halt n) = a.wing.wire.count (.halt n) + 3 ∧
        ({ stamp := a.charBoundary + pinDelay, num := 99, inst := n } : Event) ∈ (a.writeWingCtrl data).router.inflight) := by
  have run : a.writeWingCtrl data =
      ((a.ctrlTaken data).haltAll.each (named data 28) trainLoop).each (named data 24) resumeLoop := by
    rw [writeWingCtrl_eq, ctrlRefused_eq_false setup period safe, if_neg (by decide), halt, when_true]
  obtain ⟨halted, wire, boundary, before⟩ := a.ctrlTaken_halt data n
  have enabled := a.loopEnabled_ctrlTaken data small
  obtain ⟨p, hp⟩ : ∃ p, a.ctrlTaken data = p := ⟨_, rfl⟩
  rw [hp] at halted wire boundary before enabled run
  obtain ⟨y, first, rest⟩ := p.haltAll_of_loop small
  have trains : SameHalt n p.haltAll (p.haltAll.each (named data 28) trainLoop) :=
    (SameHalt.refl n _).each fun m mem z => z.sameHalt_trainLoop fun eq => by
      rw [mem_named, eq, untrained] at mem
      exact absurd mem.2 (by decide)
  have after := (rest.trans trains).each (l := named data 24) fun m _ z => z.sameHalt_resumeLoop n m
  rw [← run] at after
  refine ⟨after.halted.trans (y.loopHalted_haltLoop small), fun enable free => ?_⟩
  obtain ⟨sent, reported⟩ := sent_haltLoop (first.halted.trans (halted.trans free)) (first.enabled.trans (enabled.trans enable))
  obtain ⟨l, more⟩ := after.raises
  rw [charBoundary_of_same first.start first.datum first.elapsed, boundary] at reported
  refine ⟨after.sent.trans (by rw [sent, first.sent, wire]), ?_⟩
  rw [more]
  exact List.mem_append_left _ reported

theorem SameResume.of_kept {x y : State} (k : Kept [] [] x y) (n : Nat) : SameResume n x y := by
  have wing : y.wing = x.wing := k.2 .wing (by simp)
  have loops : y.loop n = x.loop n := by rw [State.loop, wing, State.loop]
  refine ⟨loops, ?_, k.2 .tables (by simp), fun c _ => by rw [State.tx, wing, State.tx], fun set => (k.bit (by simp)).trans set⟩
  exact resumeAllowed_of_kept (k.mono (List.nil_subset _) (List.Subset.refl _)) (fun _ => k.ibit (by simp)) (fun _ => k.ibit (by simp)) n

/-- A RESUME that is allowed is due, and ordered to every cell of its loop. -/
theorem resumeLoop_of_allowed {n : Nat} {s : State} (may : s.resumeAllowed n = true) : ((s.resumeLoop n).loop n).resumeDue = true ∧
    ∀ c ∈ s.loopCells n, ((s.resumeLoop n).tx c).orders = (s.tx c).orders ++ [{ owner := .resume, codes := [order.resume] }] := by
  rw [resumeLoop_allowed may]
  refine ⟨by rw [loop_setLoop_same], fun c mem => ?_⟩
  rw [tx_setLoop]
  exact s.orders_resumeOrdered mem

/-- A write of RESUME alone: each loop named is resumed or rejected by itself (R201). -/
theorem writeWingCtrl_resumes {a : State} {data : Word} (setup : wingSetup data.toNat = wingSetup (a.reg Reg.WING_CTRL).toNat)
    (period : bitsOf data.toNat 16 2 ≠ 3) (safe : bitsOf data.toNat 18 2 ≤ 1) (calm : data.getLsbD 23 = false)
    (untrained : bitsOf data.toNat 28 4 = 0) :
    (∀ n, n < 4 → data.getLsbD (24 + n) = true → a.resumeAllowed n = true → ((a.writeWingCtrl data).loop n).resumeDue = true ∧
      ∀ c ∈ a.loopCells n, ((a.writeWingCtrl data).tx c).orders = (a.tx c).orders ++ [{ owner := .resume, codes := [order.resume] }]) ∧
    (∀ n, n < 4 → data.getLsbD (24 + n) = true → a.resumeAllowed n = false → (a.writeWingCtrl data).bit F.WING_STATUS_CFG_REJECT = true) ∧
    (∀ n, (a.writeWingCtrl data).loopHalted n = a.loopHalted n) ∧ Kept [Reg.WING_STATUS] [.wing] a (a.writeWingCtrl data) := by
  obtain ⟨taken, -⟩ := kept_ctrlTaken setup
  have run : a.writeWingCtrl data = (a.ctrlTaken data).each (named data 24) resumeLoop := by
    rw [writeWingCtrl_eq, ctrlRefused_eq_false (.inl setup) period safe, if_neg (by decide), calm, when_false,
      named_eq_nil untrained (by decide)]
    rfl
  obtain ⟨p, hp⟩ : ∃ p, a.ctrlTaken data = p := ⟨_, rfl⟩
  rw [hp] at taken run
  have once {n : Nat} (small : n < 4) (bit : data.getLsbD (24 + n) = true) :
      ∃ y, SameResume n a y ∧ SameResume n (y.resumeLoop n) (a.writeWingCtrl data) := by
    obtain ⟨y, before, after⟩ := p.each_once (R := SameResume) SameResume.refl SameResume.trans (fun x ne => x.sameResume_resumeLoop ne)
      (nodup_named data 24) (mem_named.2 ⟨small, bit⟩)
    exact ⟨y, (SameResume.of_kept taken n).trans before, run ▸ after⟩
  refine ⟨fun n small bit may => ?_, fun n small bit refused => ?_, fun n => ?_, ?_⟩
  · obtain ⟨y, before, after⟩ := once small bit
    obtain ⟨due, ordered⟩ := resumeLoop_of_allowed (before.allowed.trans may)
    refine ⟨by rw [after.loop, due], fun c mem => ?_⟩
    have is := a.cellLoop_of_mem_loopCells mem
    have tables : (y.resumeLoop n).tables = a.tables := ((y.kept_resumeLoop n).2 .tables (by decide)).trans before.tables
    rw [after.orders c ((cellLoop_of_tables tables c).trans is), ordered c (loopCells_of_tables before.tables n ▸ mem), before.orders c is]
  · obtain ⟨y, before, after⟩ := once small bit
    refine after.rejected ?_
    rw [resumeLoop_refused (before.allowed.trans refused)]
    exact bit_setBit_same _ (by decide) rfl
  · rw [run, loopHalted, ibit, each_eq p (fun x => x.get F.WING_STATUS_HALTED) (fun i x => x.get_resumeLoop (by decide)), taken.get (by simp)]
    rfl
  · rw [run]
    exact (taken.mono (List.nil_subset _) (List.nil_subset _)).each fun n _ x h => h.trans (x.kept_resumeLoop n)

/-- RESUME takes effect at its instant (R201). -/
def resumed (n : Nat) (s : State) : State := (s.setIbit F.WING_STATUS_HALTED n false).setLoop n { s.loop n with resumeAt := none }

theorem kept_resumed (n : Nat) : Kept [Reg.WING_STATUS] [.wing] s (s.resumed n) :=
  (Kept.rfl.setIbit : Kept [Reg.WING_STATUS] [.wing] s _).trans ((kept_setLoop _ n _).mono (List.nil_subset _))

theorem resumeAt_resumed (n : Nat) : ((s.resumed n).loop n).resumeAt = none := by rw [resumed, loop_setLoop_same]

theorem loopHalted_resumed (n : Fin 4) (m : Nat) : (s.resumed n).loopHalted m = if m = n.val then false else s.loopHalted m := by
  have same : (s.resumed n).loopHalted m = (s.setIbit F.WING_STATUS_HALTED n false).loopHalted m := (kept_setLoop _ _ _).ibit (by simp)
  rw [same]
  split
  · next is => rw [is]; exact s.ibit_setIbit_same (by decide) n.isLt
  · next ne => exact s.loopHalted_setHalted_of_ne (Ne.symm ne) false

theorem execResumeTakesEffect_eq (t : Nat) (n : Fin 4) : execResumeTakesEffect t n s = s.run t fun s =>
    match (s.loop n).resumeAt with
    | none => s
    | some a => if a ≤ s.datum then s.resumed n else s := rfl

end State

/-- Settles O13: each write of WING_CTRL goes loop by loop, and no loop's step touches another loop's halt. -/
theorem haltsAndResumes : Obligations.HaltsAndResumes := by
  unfold Obligations.HaltsAndResumes
  refine ⟨?_, ?_, ?_, ?_⟩
  · intro s t data a
    have now : s.advance t = a := rfl
    clear_value a
    intro live setup period safe halt
    refine completes_at (exec_haltNow t data s) now (State.wingCtrl_run live) fun n small untrained => ?_
    obtain ⟨halted, sent⟩ := State.writeWingCtrl_halts setup period safe halt small untrained
    exact ⟨(congrArg (Nat.testBit · n) (State.get_settle ..)).trans halted, sent⟩
  · intro s t n a
    have now : s.advance t = a := rfl
    clear_value a
    refine completes_at (exec_haltReturned t n s) now (Eq.refl _) ⟨?_, ?_, ?_⟩
    · exact (congrArg (Nat.testBit · n) ((State.get_settle ..).trans (State.get_raise_apart _ (by decide)))).trans
        (a.ibit_setIbit_same (by decide) n.isLt)
    · exact ((Kept.rfl.setIbit : Kept [Reg.WING_STATUS] [] a _).raised).settle
    · exact (Kept.rfl.setIbit.raise).settled now
  · intro s t data a named
    have now : s.advance t = a := rfl
    clear_value a
    intro live setup period safe calm untrained
    obtain ⟨allowed, rejected, halted, kept⟩ := State.writeWingCtrl_resumes setup period safe calm untrained
    refine completes_at (exec_resume t data s) now (State.wingCtrl_run live) ⟨fun n small bit may => ?_, fun some => ?_, fun n => ?_,
      kept.settled now⟩
    · rw [State.loop_settle]
      exact allowed n small bit may
    · rw [State.bit_settle]
      simp only [List.any_eq_true, List.mem_range, Bool.and_eq_true, Bool.not_eq_true'] at some
      obtain ⟨n, small, bit, refused⟩ := some
      exact rejected n small bit refused
    · rw [State.loopHalted, State.ibit_settle]
      exact halted n
  · intro s t x n a
    have now : s.advance t = a := rfl
    clear_value a
    intro at_ due
    refine completes_at (x := a.resumed n) ((exec_resumeTakesEffect t n s).trans (s.execResumeTakesEffect_eq t n)) now ?_ ⟨fun m => ?_, ?_,
      (a.kept_resumed n).settled now⟩
    · rw [at_]
      exact if_pos due
    · exact (congrArg (Nat.testBit · m) (State.get_settle ..)).trans (a.loopHalted_resumed n m)
    · rw [State.loop_settle]
      exact a.resumeAt_resumed n

end Sys2Proof.Machine

/-! PROOFS. Training starts and fails (spec/04 R202 to R204, R223). -/

namespace Sys2Proof.Machine

set_option Elab.async false

/-- The registers that a start of training changes. -/
def trainRegs : List Nat :=
  [Reg.WING_CTRL, Reg.WING_STATUS] ++ (List.range 4).map Reg.WING_TRAIN ++ cellIds.map Reg.WING_CELL

theorem cell_mem_trainRegs {c : Nat} (h : c < 128) : Reg.WING_CELL c ∈ trainRegs :=
  List.mem_append_right _ (List.mem_map_of_mem (List.mem_range.2 h))

theorem train_mem_trainRegs {n : Nat} (h : n < 4) : Reg.WING_TRAIN n ∈ trainRegs :=
  List.mem_append_left _ (List.mem_append_right _ (List.mem_map_of_mem (List.mem_range.2 h)))

theorem status_mem_trainRegs : Reg.WING_STATUS ∈ trainRegs := by simp [trainRegs]

namespace State

variable (s : State)

/-! What training changes -/

theorem kept_trainFail (n code pos : Nat) : Kept [Reg.WING_STATUS, Reg.WING_TRAIN n] [.wing, .router] s (s.trainFail n code pos) := by
  unfold trainFail
  have told : Kept [Reg.WING_STATUS, Reg.WING_TRAIN n] [.wing, .router] s
      (((s.set (F.WING_TRAIN_FAIL_CODE n) code).set (F.WING_TRAIN_FAIL_POS n) pos).setIbit F.WING_STATUS_TRAIN_BUSY n false) :=
    ((Kept.rfl.set (by simp)).set (by simp)).setIbit (by simp)
  exact ((told.each fun _ _ _ h => h.wing).wing).raise

theorem kept_trainBits (n : Nat) : Kept [Reg.WING_STATUS] [] s (s.trainBits n) := Kept.rfl.setIbit.setIbit.setIbit.setIbit

theorem kept_trainCell (c : Nat) : Kept [Reg.WING_CELL c] [.wing, .cast, .host] s (s.trainCell c) :=
  (((s.kept_dropOrders c).trans ((kept_setTx ..).mono (List.nil_subset _) (by decide))).mono (List.nil_subset _) (List.Subset.refl _)).setBit
    (hf := List.mem_singleton.2 rfl)

theorem kept_trainRecord (n : Nat) : Kept [Reg.WING_TRAIN n] [.wing] s (s.trainRecord n) :=
  (Kept.rfl.setReg (hr := List.mem_singleton.2 rfl)).trans ((kept_setLoop ..).mono (List.nil_subset _))

theorem kept_trainCells (l : List Nat) : Kept (l.map Reg.WING_CELL) [.wing, .cast, .host] s (s.each l trainCell) :=
  Kept.rfl.each fun c mem _ h => h.trans ((kept_trainCell _ c).mono
    (List.cons_subset.2 ⟨List.mem_map_of_mem mem, List.nil_subset _⟩) (List.Subset.refl _))

theorem kept_blocked (l : List Nat) : Kept [] [.wing] s (s.each l blockNow) := Kept.rfl.each fun c _ _ h => h.trans (kept_blockNow _ c)

/-- The stages of a start of training, each from the one before. -/
theorem trainOpened_stages (n : Nat) : ∃ x y z, s.trainBits n = x ∧ x.each (x.loopCells n) trainCell = y ∧ y.trainRecord n = z ∧
    s.trainOpened n = z.each (z.loopCells n) blockNow := ⟨_, _, _, rfl, rfl, rfl, rfl⟩

theorem kept_trainOpened {n : Nat} (h : n < 4) : Kept trainRegs [.wing, .cast, .host] s (s.trainOpened n) := by
  obtain ⟨x, y, z, hx, hy, hz, eq⟩ := s.trainOpened_stages n
  rw [eq]
  have bits : Kept trainRegs [.wing, .cast, .host] s x :=
    hx ▸ (s.kept_trainBits n).mono (List.cons_subset.2 ⟨status_mem_trainRegs, List.nil_subset _⟩) (List.nil_subset _)
  have cells : Kept trainRegs [.wing, .cast, .host] x y := hy ▸ (x.kept_trainCells _).mono (fun r mem => by
    obtain ⟨c, inLoop, rfl⟩ := List.mem_map.1 mem
    exact cell_mem_trainRegs (x.lt_of_mem_loopCells inLoop)) (List.Subset.refl _)
  have record : Kept trainRegs [.wing, .cast, .host] y z :=
    hz ▸ (y.kept_trainRecord n).mono (List.cons_subset.2 ⟨train_mem_trainRegs h, List.nil_subset _⟩) (by decide)
  exact ((bits.trans cells).trans record).trans ((z.kept_blocked _).mono (List.nil_subset _) (by decide))

theorem kept_trainLoop {n : Nat} (h : n < 4) : Kept trainRegs [.wing, .cast, .host, .router] s (s.trainLoop n) := by
  by_cases start : s.curtainDown = true ∧ s.loopEnabled n = true
  · have opened := (s.kept_trainOpened h).mono (List.Subset.refl _) (by decide : _ ⊆ [Part.wing, .cast, .host, .router])
    obtain ⟨-, eq⟩ | ⟨p, -, eq⟩ := trainLoop_cases start
    · rw [eq]
      exact opened.set (hf := train_mem_trainRegs h)
    · rw [eq]
      exact opened.trans ((kept_trainFail _ n 0xB p).mono
        (List.cons_subset.2 ⟨status_mem_trainRegs, List.cons_subset.2 ⟨train_mem_trainRegs h, List.nil_subset _⟩⟩) (by decide))
  · rw [trainLoop_refused start]
    exact Kept.rfl.setBit (hf := status_mem_trainRegs)

/-! What other steps leave of a loop's training -/

/-- Two states are alike in what training of loop `n` is about. -/
structure SameTrain (n : Nat) (x y : State) : Prop where
  bits : ∀ f ∈ [F.WING_STATUS_TRAINED, F.WING_STATUS_LOOP_FAULT, F.WING_STATUS_HALTED, F.WING_STATUS_TRAIN_BUSY], y.ibit f n = x.ibit f n
  shown : y.reg (Reg.WING_TRAIN n) = x.reg (Reg.WING_TRAIN n)
  train : (y.loop n).train = (x.loop n).train
  links : ∀ c, c < 128 → x.cellLoop c = n → y.linkFault c = x.linkFault c
  tables : y.tables = x.tables
  ctrl : y.reg Reg.WING_CTRL = x.reg Reg.WING_CTRL
  down : y.curtainDown = x.curtainDown
  elapsed : y.elapsed = x.elapsed

namespace SameTrain

variable {n : Nat} {x y z : State}

theorem refl (n : Nat) (x : State) : SameTrain n x x := ⟨fun _ _ => rfl, rfl, rfl, fun _ _ _ => rfl, rfl, rfl, rfl, rfl⟩

theorem trans (h : SameTrain n x y) (k : SameTrain n y z) : SameTrain n x z :=
  ⟨fun f mem => (k.bits f mem).trans (h.bits f mem), k.shown.trans h.shown, k.train.trans h.train,
    fun c small is => (k.links c small ((cellLoop_of_tables h.tables c).trans is)).trans (h.links c small is), k.tables.trans h.tables,
    k.ctrl.trans h.ctrl, k.down.trans h.down, k.elapsed.trans h.elapsed⟩

/-- A step that changes registers of training for other loops and cells only. -/
theorem of_kept {regs : List Nat} {parts : List Part} (k : Kept regs parts x y)
    (bits : ∀ f ∈ [F.WING_STATUS_TRAINED, F.WING_STATUS_LOOP_FAULT, F.WING_STATUS_HALTED, F.WING_STATUS_TRAIN_BUSY], y.ibit f n = x.ibit f n)
    (train : (y.loop n).train = (x.loop n).train) (elapsed : y.elapsed = x.elapsed) (shown : Reg.WING_TRAIN n ∉ regs)
    (links : ∀ c, c < 128 → x.cellLoop c = n → Reg.WING_CELL c ∉ regs) (ctrl : Reg.WING_CTRL ∉ regs) (down : Reg.CURTAIN_STATUS ∉ regs)
    (tables : .tables ∉ parts := by decide) : SameTrain n x y :=
  ⟨bits, k.reg shown, train, fun c small is => k.bit (f := F.WING_CELL_LINK_FAULT c) (links c small is), k.2 .tables tables, k.reg ctrl,
    by rw [curtainDown, curtainDown, curtain, curtain, k.get down], elapsed⟩

end SameTrain

/-! The loop's record and time through the steps of training -/

theorem loop_refuse (d : Desc) (status detail n : Nat) : (s.refuse d status detail).loop n = s.loop n := by
  rw [loop, ((s.kept_refuse d status detail).2 .wing (by decide) : _ = s.wing), loop]

theorem loop_dropOrders (c n : Nat) : (s.dropOrders c).loop n = s.loop n :=
  each_eq (read := fun x => x.loop n) (h := fun d x => x.loop_refuse d st.aborted 0x00020000 n) ..

theorem loop_setBit (f : FieldRef) (v : Bool) (n : Nat) : (s.setBit f v).loop n = s.loop n := by rw [loop, wing_setBit, loop]

theorem loop_trainCell (c n : Nat) : (s.trainCell c).loop n = s.loop n := by
  rw [trainCell, loop_setBit, loop_setTx, loop_dropOrders]

theorem loop_trainCells (l : List Nat) (n : Nat) : (s.each l trainCell).loop n = s.loop n :=
  each_eq s (fun x => x.loop n) (fun c x => x.loop_trainCell c n) l

theorem loop_blocked (l : List Nat) (n : Nat) : (s.each l blockNow).loop n = s.loop n :=
  each_eq s (fun x => x.loop n) (fun c x => x.loop_setTx c n _) l

theorem elapsed_trainCells (l : List Nat) : (s.each l trainCell).elapsed = s.elapsed :=
  each_eq s (fun x => x.elapsed) (fun _ x => (x.sameHalt_trainCell (n := 0)).elapsed) l

theorem elapsed_blocked (l : List Nat) : (s.each l blockNow).elapsed = s.elapsed := 
  each_eq s (fun x => x.elapsed) (f := blockNow) (fun _ _ => rfl) l

theorem loop_of_kept {regs : List Nat} {parts : List Part} {a b : State} (h : Kept regs parts a b) (hp : .wing ∉ parts := by decide) (n : Nat) :
    b.loop n = a.loop n := by
  rw [loop, loop, (h.2 .wing hp : b.wing = a.wing)]

/-! Another loop's training -/

theorem trainBits_apart : ∀ f ∈ [F.WING_STATUS_TRAINED, F.WING_STATUS_LOOP_FAULT, F.WING_STATUS_HALTED, F.WING_STATUS_TRAIN_BUSY],
    ∀ g ∈ [F.WING_STATUS_TRAINED, F.WING_STATUS_LOOP_FAULT, F.WING_STATUS_HALTED, F.WING_STATUS_TRAIN_BUSY],
      (g = f ∨ apart g f = true) ∧ f.lo + f.w ≤ 32 ∧ f.addr = Reg.WING_STATUS := by decide

/-- A bit of another loop in one of the fields of training. -/
theorem ibit_setIbit_otherLoop {f g : FieldRef} {m n : Nat} {v : Bool} (ne : m ≠ n)
    (hf : f ∈ [F.WING_STATUS_TRAINED, F.WING_STATUS_LOOP_FAULT, F.WING_STATUS_HALTED, F.WING_STATUS_TRAIN_BUSY])
    (hg : g ∈ [F.WING_STATUS_TRAINED, F.WING_STATUS_LOOP_FAULT, F.WING_STATUS_HALTED, F.WING_STATUS_TRAIN_BUSY]) :
    (s.setIbit g m v).ibit f n = s.ibit f n := by
  obtain ⟨eq | other, wide, -⟩ := trainBits_apart f hf g hg
  · rw [eq, s.ibit_setIbit_of_ne wide ne]
  · exact s.ibit_setIbit_apart other

namespace SameTrain

variable {n : Nat} {x y : State}

/-- A step on registers that training does not read. -/
theorem apart_kept {regs : List Nat} {parts : List Part} (h : SameTrain n x y) {z : State} (k : Kept regs parts y z)
    (loop : z.loop n = y.loop n) (elapsed : z.elapsed = y.elapsed) (status : Reg.WING_STATUS ∉ regs) (shown : Reg.WING_TRAIN n ∉ regs)
    (links : ∀ c, c < 128 → y.cellLoop c = n → Reg.WING_CELL c ∉ regs) (ctrl : Reg.WING_CTRL ∉ regs) (down : Reg.CURTAIN_STATUS ∉ regs)
    (tables : .tables ∉ parts := by decide) : SameTrain n x z :=
  h.trans (of_kept k (fun f mem => k.ibit (by rw [(trainBits_apart f mem f mem).2.2]; exact status)) (by rw [loop]) elapsed shown links ctrl down tables)

theorem otherBit (h : SameTrain n x y) {g : FieldRef} {m : Nat} (ne : m ≠ n) (small : n < 4)
    (hg : g ∈ [F.WING_STATUS_TRAINED, F.WING_STATUS_LOOP_FAULT, F.WING_STATUS_HALTED, F.WING_STATUS_TRAIN_BUSY]) (v : Bool) :
    SameTrain n x (y.setIbit g m v) := by
  have kept : Kept [Reg.WING_STATUS] [] y (y.setIbit g m v) := Kept.rfl.setIbit (hf := List.mem_singleton.2 (trainBits_apart g hg g hg).2.2)
  refine h.trans (of_kept kept (fun f mem => y.ibit_setIbit_otherLoop ne mem hg) (by rw [loop_of_kept kept]) (elapsed_setIbit ..) ?_
    (fun c small _ => ?_) (by decide) (by decide)) <;> simp only [List.mem_singleton, Reg.WING_TRAIN, Reg.WING_CELL, Reg.WING_STATUS] <;> omega

theorem cfgReject (h : SameTrain n x y) (small : n < 4) : SameTrain n x (y.setBit F.WING_STATUS_CFG_REJECT true) := by
  have kept : Kept [Reg.WING_STATUS] [] y (y.setBit F.WING_STATUS_CFG_REJECT true) := Kept.rfl.setBit
  have others : ∀ f ∈ [F.WING_STATUS_TRAINED, F.WING_STATUS_LOOP_FAULT, F.WING_STATUS_HALTED, F.WING_STATUS_TRAIN_BUSY],
      apart F.WING_STATUS_CFG_REJECT f = true := by decide
  refine h.trans (of_kept kept (fun f mem => congrArg (Nat.testBit · n) (get_setBit_apart _ (others f mem))) (by rw [loop_of_kept kept])
    (elapsed_setBit ..) ?_ (fun c small _ => ?_) (by decide) (by decide)) <;>
    simp only [List.mem_singleton, Reg.WING_TRAIN, Reg.WING_CELL, Reg.WING_STATUS] <;> omega

end SameTrain

/-- A register of training of another loop. -/
theorem train_apart {m n : Nat} (ne : m ≠ n) (hm : m < 4) : Reg.WING_STATUS ∉ [Reg.WING_TRAIN m] ∧ Reg.WING_TRAIN n ∉ [Reg.WING_TRAIN m] ∧
    (∀ c : Nat, Reg.WING_CELL c ∉ [Reg.WING_TRAIN m]) ∧ Reg.WING_CTRL ∉ [Reg.WING_TRAIN m] ∧ Reg.CURTAIN_STATUS ∉ [Reg.WING_TRAIN m] := by
  refine ⟨?_, ?_, fun c => ?_, ?_, ?_⟩ <;>
    simp only [List.mem_singleton, Reg.WING_STATUS, Reg.WING_TRAIN, Reg.WING_CELL, Reg.WING_CTRL, Reg.CURTAIN_STATUS] <;> omega

theorem sameTrain_trainOpened {m n : Nat} (ne : m ≠ n) (hm : m < 4) (hn : n < 4) : SameTrain n s (s.trainOpened m) := by
  obtain ⟨x, y, z, hx, hy, hz, eq⟩ := s.trainOpened_stages m
  rw [eq]
  obtain ⟨status, train, cell, ctrl, curtain⟩ := train_apart ne hm
  have bits : SameTrain n s x := hx ▸ ((((SameTrain.refl n s).otherBit ne hn (by simp) false).otherBit ne hn (by simp) false).otherBit ne hn
    (by simp) false).otherBit ne hn (by simp) true
  have cells : SameTrain n s y := by
    refine hy ▸ bits.apart_kept (x.kept_trainCells _) (x.loop_trainCells ..) (x.elapsed_trainCells _) ?_ ?_ (fun c small is mem => ?_) ?_ ?_
    · exact fun mem => by
        obtain ⟨c, -, eq⟩ := List.mem_map.1 mem
        simp only [Reg.WING_CELL, Reg.WING_STATUS] at eq
        omega
    · exact fun mem => by
        obtain ⟨c, -, eq⟩ := List.mem_map.1 mem
        simp only [Reg.WING_CELL, Reg.WING_TRAIN] at eq
        omega
    · obtain ⟨d, inLoop, eq⟩ := List.mem_map.1 mem
      have same : d = c := by simp only [Reg.WING_CELL] at eq; omega
      exact ne ((x.cellLoop_of_mem_loopCells (same ▸ inLoop)).symm.trans is)
    · exact fun mem => by
        obtain ⟨c, -, eq⟩ := List.mem_map.1 mem
        simp only [Reg.WING_CELL, Reg.WING_CTRL] at eq
        omega
    · exact fun mem => by
        obtain ⟨c, inLoop, eq⟩ := List.mem_map.1 mem
        have small := x.lt_of_mem_loopCells inLoop
        simp only [Reg.WING_CELL, Reg.CURTAIN_STATUS] at eq
        omega
  have record : SameTrain n s z := by
    refine hz ▸ cells.apart_kept (y.kept_trainRecord m) ?_ ?_ status train (fun c _ _ => cell c) ctrl curtain
    · rw [trainRecord, loop_setLoop, if_neg ne.symm, loop, wing_setReg, loop]
    · rw [trainRecord, elapsed_setLoop, elapsed_setReg]
  exact record.apart_kept (z.kept_blocked _) (z.loop_blocked ..) (z.elapsed_blocked _) (by simp) (by simp) (by simp) (by simp) (by simp)

/-! A failure of training in steps (R204) -/

/-- The failure shown. -/
def failShown (n code pos : Nat) (s : State) : State :=
  ((s.set (F.WING_TRAIN_FAIL_CODE n) code).set (F.WING_TRAIN_FAIL_POS n) pos).setIbit F.WING_STATUS_TRAIN_BUSY n false

/-- A cell's orders of training given up. -/
def trainOrdersDropped (c : Nat) (s : State) : State :=
  s.setTx c { s.tx c with orders := (s.tx c).orders.filter fun o => !o.owner.isTrain }

/-- Training ended, its orders given up. -/
def trainEnded (n : Nat) (s : State) : State :=
  (s.each (s.loopCells n) trainOrdersDropped).setLoop n { (s.each (s.loopCells n) trainOrdersDropped).loop n with train := none }

theorem trainFail_eq (n code pos : Nat) : s.trainFail n code pos = ((s.failShown n code pos).trainEnded n).raise 97 n := rfl

theorem kept_trainEnded (n : Nat) : Kept [] [.wing] s (s.trainEnded n) :=
  (Kept.rfl.each (f := trainOrdersDropped) fun c _ _ h => h.trans (kept_setTx _ c _)).trans (kept_setLoop ..)

theorem loop_trainEnded (n m : Nat) : (s.trainEnded n).loop m = if m = n then { s.loop n with train := none } else s.loop m := by
  have same (k : Nat) : (s.each (s.loopCells n) trainOrdersDropped).loop k = s.loop k :=
    each_eq s (fun x => x.loop k) (f := trainOrdersDropped) (fun _ _ => rfl) _
  rw [trainEnded, loop_setLoop, same, same]

theorem elapsed_trainEnded (n : Nat) : (s.trainEnded n).elapsed = s.elapsed :=
  each_eq s (fun x => x.elapsed) (f := trainOrdersDropped) (fun _ _ => rfl) _

theorem sameTrain_trainFail {m n : Nat} (ne : m ≠ n) (hm : m < 4) (hn : n < 4) (code pos : Nat) : SameTrain n s (s.trainFail m code pos) := by
  obtain ⟨status, train, cell, ctrl, curtain⟩ := train_apart ne hm
  have set {y : State} {f : FieldRef} (v : Nat) (hf : f.addr = Reg.WING_TRAIN m) (h : SameTrain n s y) : SameTrain n s (y.set f v) := by
    have kept : Kept [Reg.WING_TRAIN m] [] y (y.set f v) := Kept.rfl.set (hf := List.mem_singleton.2 hf)
    exact h.apart_kept kept (loop_of_kept kept (by decide) n) (elapsed_set ..) status train (fun c _ _ => cell c) ctrl curtain
  obtain ⟨y, hy⟩ : ∃ y, s.failShown m code pos = y := ⟨_, rfl⟩
  have shown : SameTrain n s y := hy ▸ (set pos rfl (set code rfl (SameTrain.refl n s))).otherBit ne hn (by simp) false
  obtain ⟨z, hz⟩ : ∃ z, y.trainEnded m = z := ⟨_, rfl⟩
  have ended : SameTrain n s z := hz ▸ shown.apart_kept (y.kept_trainEnded m) (by rw [loop_trainEnded, if_neg ne.symm])
    (elapsed_trainEnded ..) (by simp) (by simp) (by simp) (by simp) (by simp)
  have kept : Kept [] [.router] z (z.raise 97 m) := Kept.rfl.raise
  rw [trainFail_eq, hy, hz]
  exact ended.apart_kept kept (loop_of_kept kept (by decide) n) (elapsed_raise ..) (by simp) (by simp) (by simp) (by simp) (by simp)

theorem sameTrain_trainLoop {m n : Nat} (ne : m ≠ n) (hm : m < 4) (hn : n < 4) : SameTrain n s (s.trainLoop m) := by
  by_cases start : s.curtainDown = true ∧ s.loopEnabled m = true
  · have opened := s.sameTrain_trainOpened ne hm hn
    obtain ⟨-, eq⟩ | ⟨p, -, eq⟩ := trainLoop_cases start
    · obtain ⟨status, train, cell, ctrl, curtain⟩ := train_apart ne hm
      have kept {y : State} : Kept [Reg.WING_TRAIN m] [] y (y.set (F.WING_TRAIN_PHASE m) 1) := Kept.rfl.set (hf := List.mem_singleton.2 rfl)
      rw [eq]
      exact opened.apart_kept kept (loop_of_kept kept (by decide) n) (elapsed_set ..) status train (fun c _ _ => cell c) ctrl curtain
    · rw [eq]
      exact opened.trans (sameTrain_trainFail _ ne hm hn 0xB p)
  · rw [trainLoop_refused start]
    exact (SameTrain.refl n s).cfgReject hn

/-- A failure of training, as it is told (R204). -/
theorem trainFail_spec {n : Nat} (h : n < 4) (code pos : Nat) :
    (s.trainFail n code pos).ibit F.WING_STATUS_TRAIN_BUSY n = false ∧ ((s.trainFail n code pos).loop n).train = none ∧
    (s.trainFail n code pos).get (F.WING_TRAIN_FAIL_CODE n) = code % 256 ∧ (s.trainFail n code pos).get (F.WING_TRAIN_FAIL_POS n) = pos % 256 ∧
    Raised [(s.datum, 97, n)] s (s.trainFail n code pos) := by
  have apartBusy {f : FieldRef} (hf : f.addr = Reg.WING_TRAIN n) : apart F.WING_STATUS_TRAIN_BUSY f = true := by
    simp only [apart, hf, Reg.WING_TRAIN, bne_iff_ne, Bool.or_eq_true]
    left
    omega
  have code_ : (s.failShown n code pos).get (F.WING_TRAIN_FAIL_CODE n) = code % 256 :=
    (get_setIbit_apart _ (apartBusy rfl)).trans ((get_set_apart _ (by simp [apart])).trans (get_set_same _ (Nat.le_of_ble_eq_true rfl)))
  have pos_ : (s.failShown n code pos).get (F.WING_TRAIN_FAIL_POS n) = pos % 256 :=
    (get_setIbit_apart _ (apartBusy rfl)).trans (get_set_same _ (Nat.le_of_ble_eq_true rfl))
  have busy : (s.failShown n code pos).ibit F.WING_STATUS_TRAIN_BUSY n = false := ibit_setIbit_same _ (by decide) h
  have kepty : Kept [Reg.WING_STATUS, Reg.WING_TRAIN n] [] s (s.failShown n code pos) :=
    ((Kept.rfl.set (by simp)).set (by simp)).setIbit (by simp)
  obtain ⟨y, hy⟩ : ∃ y, s.failShown n code pos = y := ⟨_, rfl⟩
  rw [hy] at code_ pos_ busy kepty
  have keptz := y.kept_trainEnded n
  have ended : ((y.trainEnded n).loop n).train = none := by rw [loop_trainEnded, if_pos (Eq.refl _)]
  obtain ⟨z, hz⟩ : ∃ z, y.trainEnded n = z := ⟨_, rfl⟩
  rw [hz] at keptz ended
  have last : Kept [] [.router] z (z.raise 97 n) := Kept.rfl.raise
  rw [trainFail_eq, hy, hz]
  refine ⟨(last.ibit (by simp)).trans ((keptz.ibit (by simp)).trans busy), by rw [loop_of_kept last, ended],
    (last.get (by simp)).trans ((keptz.get (by simp)).trans code_), (last.get (by simp)).trans ((keptz.get (by simp)).trans pos_), ?_⟩
  exact ((kepty.mono (List.Subset.refl _) (List.nil_subset [Part.wing])).trans (keptz.mono (List.nil_subset _) (List.Subset.refl _))).raised

/-- The failure leaves the loop's other bits. -/
theorem ibit_trainFail {n : Nat} {f : FieldRef} (addr : f.addr = Reg.WING_STATUS) (busy : apart F.WING_STATUS_TRAIN_BUSY f = true)
    (m code pos : Nat) : (s.trainFail n code pos).ibit f m = s.ibit f m := by
  have shown : (s.failShown n code pos).ibit f m = s.ibit f m := by
    have ne {v : Nat} {g : FieldRef} {y : State} (hg : g.addr = Reg.WING_TRAIN n) : (y.set g v).ibit f m = y.ibit f m :=
      ibit_set_apart _ (by
        simp only [apart, hg, addr, Reg.WING_TRAIN, Reg.WING_STATUS, bne_iff_ne, Bool.or_eq_true]
        left
        omega)
    exact (ibit_setIbit_apart _ busy).trans ((ne rfl).trans (ne rfl))
  rw [trainFail_eq]
  have rest {y : State} : Kept [] [.wing, .router] y ((y.trainEnded n).raise 97 n) :=
    ((y.kept_trainEnded n).mono (List.nil_subset _) (by decide)).raise
  exact (rest.ibit (by simp)).trans shown

/-! RESUME leaves training -/

theorem sameTrain_resumeLoop (m : Nat) {n : Nat} (hn : n < 4) : SameTrain n s (s.resumeLoop m) := by
  cases allowed : s.resumeAllowed m
  · rw [resumeLoop_refused allowed]
    exact (SameTrain.refl n s).cfgReject hn
  · obtain ⟨y, hy⟩ : ∃ y, s.resumeOrdered m = y := ⟨_, rfl⟩
    have kept : Kept [] [.wing] s y := hy ▸ s.kept_resumeOrdered m
    have ordered : SameTrain n s y := (SameTrain.refl n s).apart_kept kept (hy ▸ s.loop_resumeOrdered m n)
      (hy ▸ each_eq s (fun x => x.elapsed) (f := fun c s => s.giveOrder c .resume [order.resume]) (fun _ _ => rfl) _)
      (by simp) (by simp) (by simp) (by simp) (by simp)
    have eq : s.resumeLoop m = y.setLoop m { y.loop m with resumeDue := true } := by
      rw [resumeLoop_allowed allowed, ← hy]
      rfl
    rw [eq]
    refine ordered.trans (SameTrain.of_kept (kept_setLoop ..) (fun f mem => (kept_setLoop ..).ibit (by simp)) ?_ rfl (by simp) (by simp)
      (by simp) (by simp))
    rw [loop_setLoop]
    split
    · next is => rw [is]
    · rfl

/-! The loop that is trained -/

/-- A loop whose training has just begun, or has failed for its positions (R202 to R204). -/
structure JustTrained (n e : Nat) (b : State) : Prop where
  trained : b.loopTrained n = false
  fault : b.loopFault n = false
  halted : b.loopHalted n = false
  links : ∀ c ∈ b.loopCells n, b.linkFault c = false
  begun : b.badPosition n = none → b.ibit F.WING_STATUS_TRAIN_BUSY n = true ∧ b.get (F.WING_TRAIN_PHASE n) = 1 ∧
    (b.loop n).train = some { start := e }
  failed : ∀ p, b.badPosition n = some p → b.ibit F.WING_STATUS_TRAIN_BUSY n = false ∧ (b.loop n).train = none ∧
    b.get (F.WING_TRAIN_FAIL_CODE n) = 0xB ∧ b.get (F.WING_TRAIN_FAIL_POS n) = p % 256

theorem badPosition_of {x y : State} (tables : y.tables = x.tables) (ctrl : y.reg Reg.WING_CTRL = x.reg Reg.WING_CTRL) (n : Nat) :
    y.badPosition n = x.badPosition n := by
  have at_ (p : Nat) : y.cellAt n p = x.cellAt n p := by
    simp only [cellAt, present_of_tables tables, cellLoop_of_tables tables, cellPos_of_tables tables]
  have period : y.get F.WING_CTRL_PERIOD = x.get F.WING_CTRL_PERIOD := congrArg (fun w : Word => bitsOf w.toNat 16 2) ctrl
  simp only [badPosition, loopCells_of_tables tables, at_, period]

theorem JustTrained.of_same {n e : Nat} {x y : State} (h : JustTrained n e x) (k : SameTrain n x y) : JustTrained n e y := by
  have get (f : FieldRef) (hf : f.addr = Reg.WING_TRAIN n) : y.get f = x.get f := by rw [State.get, hf, k.shown, ← hf, ← State.get]
  have bad := badPosition_of k.tables k.ctrl n
  refine ⟨(k.bits _ (by simp)).trans h.trained, (k.bits _ (by simp)).trans h.fault, (k.bits _ (by simp)).trans h.halted, fun c mem => ?_,
    fun none => ?_, fun p some => ?_⟩
  · rw [loopCells_of_tables k.tables] at mem
    exact (k.links c (x.lt_of_mem_loopCells mem) (x.cellLoop_of_mem_loopCells mem)).trans (h.links c mem)
  · obtain ⟨busy, phase, train⟩ := h.begun (bad.symm.trans none)
    exact ⟨(k.bits _ (by simp)).trans busy, (get _ rfl).trans phase, k.train.trans train⟩
  · obtain ⟨busy, train, code, pos⟩ := h.failed p (bad.symm.trans some)
    exact ⟨(k.bits _ (by simp)).trans busy, k.train.trans train, (get _ rfl).trans code, (get _ rfl).trans pos⟩

/-- The bits of a loop as its training starts. -/
theorem ibits_trainBits {n : Nat} (h : n < 4) : (s.trainBits n).loopTrained n = false ∧ (s.trainBits n).loopFault n = false ∧
    (s.trainBits n).loopHalted n = false ∧ (s.trainBits n).ibit F.WING_STATUS_TRAIN_BUSY n = true := by
  refine ⟨?_, ?_, ?_, ibit_setIbit_same _ (by decide) h⟩
  · exact (ibit_setIbit_apart _ (by decide)).trans ((ibit_setIbit_apart _ (by decide)).trans ((ibit_setIbit_apart _ (by decide)).trans
      (ibit_setIbit_same _ (by decide) h)))
  · exact (ibit_setIbit_apart _ (by decide)).trans ((ibit_setIbit_apart _ (by decide)).trans (ibit_setIbit_same _ (by decide) h))
  · exact (ibit_setIbit_apart _ (by decide)).trans (ibit_setIbit_same _ (by decide) h)

theorem linkFault_trainCells {n c : Nat} (h : c ∈ s.loopCells n) : (s.each (s.loopCells n) trainCell).linkFault c = false := by
  obtain ⟨y, -, after⟩ := s.each_once (R := fun c x y => y.linkFault c = x.linkFault c) (f := trainCell) (fun _ _ => rfl)
    (fun h k => k.trans h) (fun {i j} x ne => (x.kept_trainCell i).bit (by
      simp only [List.mem_singleton, Reg.WING_CELL]
      omega)) (s.nodup_loopCells n) h
  exact after.trans (bit_setBit_same _ (Nat.le_of_ble_eq_true rfl) rfl)

/-- What a start of training has made before its verdict on the positions. -/
theorem trainOpened_spec {n : Nat} (h : n < 4) :
    ((s.trainOpened n).loopTrained n = false ∧ (s.trainOpened n).loopFault n = false ∧ (s.trainOpened n).loopHalted n = false ∧
      (s.trainOpened n).ibit F.WING_STATUS_TRAIN_BUSY n = true) ∧
    (∀ c ∈ (s.trainOpened n).loopCells n, (s.trainOpened n).linkFault c = false) ∧
    ((s.trainOpened n).loop n).train = some { start := s.elapsed } := by
  have tables := (s.kept_trainOpened h).2 .tables (by decide)
  obtain ⟨x, y, z, hx, hy, hz, eq⟩ := s.trainOpened_stages n
  have bitsx : x.loopTrained n = false ∧ x.loopFault n = false ∧ x.loopHalted n = false ∧ x.ibit F.WING_STATUS_TRAIN_BUSY n = true :=
    hx ▸ s.ibits_trainBits h
  have keptx : Kept [Reg.WING_STATUS] [] s x := hx ▸ s.kept_trainBits n
  have elapsedx : x.elapsed = s.elapsed := by rw [← hx, trainBits, elapsed_setIbit, elapsed_setIbit, elapsed_setIbit, elapsed_setIbit]
  have kepty : Kept (x.loopCells n |>.map Reg.WING_CELL) [.wing, .cast, .host] x y := hy ▸ x.kept_trainCells _
  have statusy : Reg.WING_STATUS ∉ (x.loopCells n).map Reg.WING_CELL := fun mem => by
    obtain ⟨c, -, eq⟩ := List.mem_map.1 mem
    simp only [Reg.WING_CELL, Reg.WING_STATUS] at eq
    omega
  have linksy : ∀ c ∈ x.loopCells n, y.linkFault c = false := fun c mem => hy ▸ x.linkFault_trainCells mem
  have elapsedy : y.elapsed = s.elapsed := (hy ▸ x.elapsed_trainCells _ : y.elapsed = x.elapsed).trans elapsedx
  have keptz : Kept [Reg.WING_TRAIN n] [.wing] y z := hz ▸ y.kept_trainRecord n
  have trainz : (z.loop n).train = some { start := s.elapsed } := by
    rw [← hz, trainRecord, loop_setLoop_same, elapsed_setReg, elapsedy]
  have keptb : Kept [] [.wing] z (s.trainOpened n) := eq ▸ z.kept_blocked _
  have status {f : FieldRef} (hf : f.addr = Reg.WING_STATUS) : (s.trainOpened n).ibit f n = x.ibit f n :=
    (keptb.ibit (by simp)).trans ((keptz.ibit (by
      simp only [hf, List.mem_singleton, Reg.WING_STATUS, Reg.WING_TRAIN]
      omega)).trans (kepty.ibit (hf ▸ statusy)))
  refine ⟨⟨(status rfl).trans bitsx.1, (status rfl).trans bitsx.2.1, (status rfl).trans bitsx.2.2.1, (status rfl).trans bitsx.2.2.2⟩,
    fun c mem => ?_, ?_⟩
  · have inLoop : c ∈ x.loopCells n := by
      rw [loopCells_of_tables (keptx.2 .tables (by decide))]
      rwa [loopCells_of_tables tables] at mem
    refine (keptb.bit (by simp)).trans ((keptz.bit ?_).trans (linksy c inLoop))
    simp only [List.mem_singleton, Reg.WING_TRAIN]
    omega
  · rw [eq, loop_blocked, trainz]

theorem justTrained_trainLoop {n : Nat} {s : State} (h : n < 4) (down : s.curtainDown = true) (enabled : s.loopEnabled n = true) :
    JustTrained n s.elapsed (s.trainLoop n) := by
  obtain ⟨⟨trained, fault, halted, busy⟩, links, train⟩ := s.trainOpened_spec h
  obtain ⟨positions, eq⟩ | ⟨p, positions, eq⟩ := trainLoop_cases ⟨down, enabled⟩ <;> rw [eq] <;>
    obtain ⟨y, hy⟩ : ∃ y, s.trainOpened n = y := ⟨_, rfl⟩ <;> rw [hy] at trained fault halted busy links train positions ⊢
  · have kept : Kept [Reg.WING_TRAIN n] [] y (y.set (F.WING_TRAIN_PHASE n) 1) := Kept.rfl.set (hf := List.mem_singleton.2 rfl)
    have same := badPosition_of (kept.2 .tables (by simp)) (kept.reg (by simp only [List.mem_singleton, Reg.WING_TRAIN, Reg.WING_CTRL]; omega)) n
    have status : Reg.WING_STATUS ∉ [Reg.WING_TRAIN n] := by
      simp only [List.mem_singleton, Reg.WING_STATUS, Reg.WING_TRAIN]
      omega
    refine ⟨(kept.ibit status).trans trained, (kept.ibit status).trans fault, (kept.ibit status).trans halted, fun c mem => ?_, fun _ => ?_,
      fun p some => ?_⟩
    · rw [loopCells_of_tables (kept.2 .tables (by simp))] at mem
      exact (kept.bit (by simp only [List.mem_singleton, Reg.WING_TRAIN]; omega)).trans (links c mem)
    · exact ⟨(kept.ibit status).trans busy, get_set_of_lt _ (Nat.le_of_ble_eq_true rfl) (Nat.le_of_ble_eq_true rfl), by rw [loop_of_kept kept, train]⟩
    · rw [same, positions] at some
      cases some
  · have kept := y.kept_trainFail n 0xB p
    have same := badPosition_of (kept.2 .tables (by decide)) (kept.reg (by
      simp only [List.mem_cons, List.not_mem_nil, or_false, not_or, Reg.WING_TRAIN, Reg.WING_CTRL, Reg.WING_STATUS]
      omega)) n
    obtain ⟨busy, ended, code, pos, -⟩ := y.trainFail_spec h 0xB p
    refine ⟨(y.ibit_trainFail rfl (by decide) ..).trans trained, (y.ibit_trainFail rfl (by decide) ..).trans fault,
      (y.ibit_trainFail rfl (by decide) ..).trans halted, fun c mem => ?_, fun none => ?_, fun q some => ?_⟩
    · rw [loopCells_of_tables (kept.2 .tables (by decide))] at mem
      refine (kept.bit ?_).trans (links c mem)
      simp only [List.mem_cons, List.not_mem_nil, or_false, not_or, Reg.WING_TRAIN, Reg.WING_STATUS]
      omega
    · rw [same, positions] at none
      cases none
    · rw [same, positions] at some
      cases some
      exact ⟨busy, ended, code, pos⟩

/-- The command's end leaves what training is about. -/
theorem JustTrained.settle {n e t : Nat} {s a b : State} (now : s.advance t = a) (tables : b.tables = a.tables) (h : JustTrained n e b) :
    JustTrained n e (s.settle a b) := by
  have home : a.tables = s.tables := now ▸ rfl
  have same : (s.settle a b).tables = b.tables := (tables_settle s a b (tables.trans home)).trans (home.symm.trans tables.symm)
  have bad := badPosition_of same (reg_settle ..) n
  refine ⟨(ibit_settle ..).trans h.trained, (ibit_settle ..).trans h.fault, (ibit_settle ..).trans h.halted, fun c mem => ?_,
    fun none => ?_, fun p some => ?_⟩
  · rw [loopCells_of_tables same] at mem
    exact (bit_settle ..).trans (h.links c mem)
  · obtain ⟨busy, phase, train⟩ := h.begun (bad.symm.trans none)
    exact ⟨(ibit_settle ..).trans busy, (get_settle ..).trans phase, train⟩
  · obtain ⟨busy, train, code, pos⟩ := h.failed p (bad.symm.trans some)
    exact ⟨(ibit_settle ..).trans busy, train, (get_settle ..).trans code, (get_settle ..).trans pos⟩

/-! The whole write -/

/-- Where the steps for other items leave what a relation tells, a run over distinct items does what one item's own step does. -/
theorem each_at {R : State → State → Prop} {f : Nat → State → State} (refl : ∀ x, R x x) (trans : ∀ {x y z}, R x y → R y z → R x z)
    {l : List Nat} {c : Nat} (others : ∀ i ∈ l, i ≠ c → ∀ x, R x (f i x)) (once : l.Nodup) (mem : c ∈ l) :
    ∃ y, R s y ∧ R (f c y) (s.each l f) := by
  have rest (l : List Nat) (others : ∀ i ∈ l, i ≠ c → ∀ x, R x (f i x)) (h : c ∉ l) (x : State) : R x (x.each l f) := by
    induction l generalizing x with
    | nil => exact refl x
    | cons i l ih =>
      rw [List.mem_cons, not_or] at h
      exact trans (others i (List.mem_cons_self ..) (Ne.symm h.1) x) (ih (fun j hj => others j (List.mem_cons_of_mem _ hj)) h.2 _)
  induction l generalizing s with
  | nil => cases mem
  | cons i l ih =>
    rw [List.nodup_cons] at once
    by_cases h : c = i
    · subst h
      exact ⟨s, refl s, rest l (fun j hj => others j (List.mem_cons_of_mem _ hj)) once.1 _⟩
    · obtain ⟨y, before, after⟩ := ih (f i s) (fun j hj => others j (List.mem_cons_of_mem _ hj)) once.2 ((List.mem_cons.1 mem).resolve_left h)
      exact ⟨y, trans (others i (List.mem_cons_self ..) (Ne.symm h) s) before, after⟩

theorem elapsed_ctrlTaken (data : Word) : (s.ctrlTaken data).elapsed = s.elapsed := by
  rw [ctrlTaken, elapsed_writeByAccess, each_eq _ (fun x => x.elapsed) (f := loopOff) (fun n x => (x.sameHalt_loopOff 0 n).elapsed)]
  cases bitsOf data.toNat 16 2 != bitsOf (s.reg Reg.WING_CTRL).toNat 16 2
  · rw [when_false]
  · rw [when_true]
    rw [elapsed_mapWing, elapsed_set]

theorem elapsed_haltAll : s.haltAll.elapsed = s.elapsed :=
  ((SameHalt.refl 4 s).each (l := List.range 4) (f := haltLoop) fun m mem z => z.sameHalt_haltLoop (by
    have := List.mem_range.1 mem
    omega)).elapsed

theorem down_of_kept {regs : List Nat} {parts : List Part} {x y : State} (k : Kept regs parts x y)
    (h : Reg.CURTAIN_STATUS ∉ regs := by decide) : y.curtainDown = x.curtainDown := by
  rw [curtainDown, curtainDown, curtain, curtain, k.get h]

theorem ctrl_not_mem_haltRegs : Reg.WING_CTRL ∉ haltRegs ∧ Reg.CURTAIN_STATUS ∉ haltRegs := by decide +kernel

/-- A write of TRAIN of a loop that it leaves enabled starts its training, whatever else it asks for. -/
theorem writeWingCtrl_trains {a : State} {data : Word} {n : Nat} (h : n < 4) (period : bitsOf data.toNat 16 2 ≠ 3)
    (safe : bitsOf data.toNat 18 2 ≤ 1) (down : a.curtainDown = true) (train : data.getLsbD (28 + n) = true) (enable : data.getLsbD n = true) :
    JustTrained n a.elapsed (a.writeWingCtrl data) ∧ (a.writeWingCtrl data).tables = a.tables ∧
      (data.getLsbD 23 = false → Kept trainRegs [.wing, .cast, .host, .router] a (a.writeWingCtrl data)) := by
  have run : a.writeWingCtrl data =
      (((a.ctrlTaken data).when (data.getLsbD 23) haltAll).each (named data 28) trainLoop).each (named data 24) resumeLoop := by
    rw [writeWingCtrl_eq, ctrlRefused_eq_false (.inr down) period safe, if_neg (by decide)]
  have takes : Kept trainRegs [.wing, .cast, .host, .router] a (a.ctrlTaken data) :=
    (a.kept_ctrlTaken_any data).mono (by simp [trainRegs]) (by decide)
  have downp : (a.ctrlTaken data).curtainDown = true := (down_of_kept (a.kept_ctrlTaken_any data)).trans down
  have enabledp := (a.loopEnabled_ctrlTaken data h).trans enable
  have tablesp : (a.ctrlTaken data).tables = a.tables := takes.2 .tables (by decide)
  have elapsedp := a.elapsed_ctrlTaken data
  obtain ⟨p, hp⟩ : ∃ p, a.ctrlTaken data = p := ⟨_, rfl⟩
  rw [hp] at run takes downp enabledp tablesp elapsedp
  obtain ⟨q, hq⟩ : ∃ q, p.when (data.getLsbD 23) haltAll = q := ⟨_, rfl⟩
  have halts : Kept haltRegs [.wing, .cast, .host, .router, .engine, .curt] p q := hq ▸ Kept.rfl.when fun _ => p.kept_haltAll
  have elapsedq : q.elapsed = p.elapsed := by
    rw [← hq]
    cases data.getLsbD 23
    · rw [when_false]
    · rw [when_true, elapsed_haltAll]
  rw [hq] at run
  obtain ⟨y, before, after⟩ := q.each_at (R := SameTrain n) (f := trainLoop) (SameTrain.refl n) SameTrain.trans
    (fun i mem ne x => x.sameTrain_trainLoop ne (mem_named.1 mem).1 h) (nodup_named data 28) (mem_named.2 ⟨h, train⟩)
  have resumes : SameTrain n (q.each (named data 28) trainLoop) (a.writeWingCtrl data) := by
    rw [run]
    exact each_induction (SameTrain n (q.each (named data 28) trainLoop)) (SameTrain.refl n _) fun m x hx => hx.trans (x.sameTrain_resumeLoop m h)
  have downy : y.curtainDown = true := before.down.trans ((down_of_kept halts ctrl_not_mem_haltRegs.2).trans downp)
  have enabledy : y.loopEnabled n = true := by
    rw [loopEnabled, ibit, State.get, show F.WING_CTRL_ENABLE.addr = Reg.WING_CTRL from rfl, before.ctrl,
      halts.reg ctrl_not_mem_haltRegs.1]
    exact enabledp
  have trained := justTrained_trainLoop h downy enabledy
  rw [before.elapsed, elapsedq, elapsedp] at trained
  have trains : Kept trainRegs [.wing, .cast, .host, .router] q (a.writeWingCtrl data) := by
    rw [run]
    exact (Kept.rfl.each fun m mem _ hx => hx.trans (kept_trainLoop _ (mem_named.1 mem).1)).each fun m _ x hx =>
      hx.trans ((x.kept_resumeLoop m).mono (List.cons_subset.2 ⟨status_mem_trainRegs, List.nil_subset _⟩) (by decide))
  refine ⟨(trained.of_same after).of_same resumes, ?_, fun calm => ?_⟩
  · exact (trains.2 .tables (by decide)).trans ((halts.2 .tables (by decide)).trans tablesp)
  · have same : q = p := by rw [← hq, calm, when_false]
    exact takes.trans (same ▸ trains)

/-- A write of TRAIN alone, of loops that it may not train, is rejected and changes nothing else (R202, R223). -/
theorem writeWingCtrl_rejects {a : State} {data : Word} (setup : wingSetup data.toNat = wingSetup (a.reg Reg.WING_CTRL).toNat)
    (period : bitsOf data.toNat 16 2 ≠ 3) (safe : bitsOf data.toNat 18 2 ≤ 1) (calm : bitsOf data.toNat 23 5 = 0)
    (some : bitsOf data.toNat 28 4 ≠ 0)
    (off : a.curtainDown = false ∨ Nat.land (bitsOf data.toNat 28 4) (bitsOf data.toNat 0 4) = 0) :
    (a.writeWingCtrl data).bit F.WING_STATUS_CFG_REJECT = true ∧ Kept [Reg.WING_STATUS] [] a (a.writeWingCtrl data) := by
  obtain ⟨taken, -⟩ := kept_ctrlTaken setup
  have resumes : named data 24 = [] := named_eq_nil (lo := 24) (w := 4)
    (by rw [bitsOf_of_wider (y := 0) (lo := 23) (w := 5) (by rw [calm]; simp [bitsOf]) (by decide) (by decide)]; simp [bitsOf]) (by decide)
  have run : a.writeWingCtrl data = (a.ctrlTaken data).each (named data 28) trainLoop := by
    rw [writeWingCtrl_eq, ctrlRefused_eq_false (.inl setup) period safe, if_neg (by decide), getLsbD_of_bitsOf calm (by decide) (by decide),
      when_false, resumes]
    rfl
  obtain ⟨p, hp⟩ : ∃ p, a.ctrlTaken data = p := ⟨_, rfl⟩
  rw [hp] at taken run
  have refused (m : Nat) (mem : m ∈ named data 28) (x : State) (kept : Kept [Reg.WING_STATUS] [] a x) :
      x.trainLoop m = x.setBit F.WING_STATUS_CFG_REJECT true := by
    obtain ⟨small, bit⟩ := mem_named.1 mem
    refine trainLoop_refused fun ⟨down, enabled⟩ => ?_
    rw [down_of_kept kept] at down
    obtain up | none := off
    · rw [up] at down
      cases down
    · have enable := testBit_of_bitsOf (wingSetup_eq_iff.1 setup).2 (Nat.zero_le m) small
      have here := congrArg (Nat.testBit · m) none
      have wanted : a.loopEnabled m = true := (kept.ibit).symm.trans enabled
      rw [loopEnabled, ibit, State.get, testBit_bitsOf, Bool.and_eq_true] at wanted
      have set : data.toNat.testBit m = true := enable.trans wanted.2
      have asked : data.toNat.testBit (m + 28) = true := by
        rw [Nat.add_comm]
        exact bit
      change (Nat.testBit (bitsOf data.toNat 28 4 &&& bitsOf data.toNat 0 4) m) = Nat.testBit 0 m at here
      rw [Nat.testBit_land, testBit_bitsOf, testBit_bitsOf, asked, decide_eq_true small, Nat.add_zero m, set] at here
      simp at here
  have all (l : List Nat) (sub : ∀ m ∈ l, m ∈ named data 28) (x : State) (kept : Kept [Reg.WING_STATUS] [] a x)
      (told : l ≠ [] ∨ x.bit F.WING_STATUS_CFG_REJECT = true) :
      (x.each l trainLoop).bit F.WING_STATUS_CFG_REJECT = true ∧ Kept [Reg.WING_STATUS] [] a (x.each l trainLoop) := by
    induction l generalizing x with
    | nil => exact ⟨told.resolve_left (fun h => h rfl), kept⟩
    | cons m l ih =>
      rw [each_cons, refused m (sub m (List.mem_cons_self ..)) x kept]
      exact ih (fun j hj => sub j (List.mem_cons_of_mem _ hj)) _ kept.setBit (.inr (bit_setBit_same _ (by decide) rfl))
  rw [run]
  refine all _ (fun _ mem => mem) p (taken.mono (List.nil_subset _) (List.nil_subset _)) (.inl fun empty => some ?_)
  apply Nat.eq_of_testBit_eq
  intro i
  rw [testBit_bitsOf, Nat.zero_testBit]
  by_cases small : i < 4
  · have out : i ∉ named data 28 := by rw [empty]; exact List.not_mem_nil
    have clear : data.getLsbD (28 + i) = false := by
      rw [mem_named, not_and, Bool.not_eq_true] at out
      exact out small
    rw [BitVec.getLsbD, Nat.add_comm] at clear
    rw [clear, Bool.and_false]
  · simp [small]

end State

/-- Settles O14: a loop's start of training is its own step of the write, and no other loop's step touches it. -/
theorem trainingStartsAndFails : Obligations.TrainingStartsAndFails := by
  unfold Obligations.TrainingStartsAndFails
  refine ⟨?_, ?_, ?_⟩
  · intro s t n data a
    have now : s.advance t = a := rfl
    clear_value a
    intro live period safe down train enable
    obtain ⟨trained, tables, kept⟩ := State.writeWingCtrl_trains n.isLt period safe down train enable
    refine completes_at (exec_train t data s) now (State.wingCtrl_run live) ?_
    obtain ⟨b, hb⟩ : ∃ b, a.writeWingCtrl data = b := ⟨_, rfl⟩
    rw [hb] at trained tables kept ⊢
    have home : a.tables = s.tables := now ▸ rfl
    have cells : (s.settle a b).loopCells n = a.loopCells n :=
      State.loopCells_of_tables ((State.tables_settle s a b (tables.trans home)).trans home.symm) n
    have settled := trained.settle now tables
    refine ⟨settled.trained, settled.fault, settled.halted, fun c mem => settled.links c (cells ▸ mem), ?_, fun calm => (kept calm).settled now⟩
    split
    · next none => exact settled.begun none
    · next p some => exact settled.failed p some
  · intro s t data a
    have now : s.advance t = a := rfl
    clear_value a
    intro live setup period safe calm some off
    obtain ⟨rejected, kept⟩ := State.writeWingCtrl_rejects setup period safe calm some off
    exact completes_at (exec_train t data s) now (State.wingCtrl_run live) ⟨(State.bit_settle ..).trans rejected, kept.settled now⟩
  · intro s t n x a
    have now : s.advance t = a := rfl
    clear_value a
    intro training phase late
    refine completes_at (x := a.trainFail n 1 0xFF) (exec_trainLinkTimeout t n s) now ?_ ?_
    · rw [training]
      exact if_pos (by simpa [State.expired, phase] using late)
    · obtain ⟨busy, ended, code, pos, raised⟩ := a.trainFail_spec n.isLt 1 0xFF
      refine ⟨?_, (State.get_settle ..).trans code, (State.get_settle ..).trans pos, (State.ibit_settle ..).trans busy, raised.settle,
        (a.kept_trainFail n 1 0xFF).settled now⟩
      rw [State.loop_settle]
      exact ended

end Sys2Proof.Machine

/-! PROOFS. The guard of the local switches (spec/11): what a switch's pulse, latch and request is after each of its operations. -/

namespace Sys2Proof.Machine

set_option Elab.async false

/-- The registers that the guard, the drive and casting's derating reach. -/
abbrev gateRegs : List Nat := Reg.SCRUB_FAULT_SEEN :: (blockRegs 0x4C00 0x400 ++ blockRegs 0x5000 0x400 ++ blockRegs 0x3400 0x400)

abbrev gateParts : List Part := [.guard, .pump, .cast, .curt, .router]

theorem mem_gateRegs {r : Nat} (h : 0x4C00 ≤ r ∧ r % 4 = 0 ∧ r < 0x5000 := by decide) : r ∈ gateRegs :=
  List.mem_cons_of_mem _ (List.mem_append_left _ (List.mem_append_left _ (mem_blockRegs (by omega))))

theorem mem_gateRegs_seen : Reg.SCRUB_FAULT_SEEN ∈ gateRegs := List.mem_cons_self ..

/-- No other register is reached. -/
theorem not_mem_gateRegs {r : Nat} (h : (r < 0x3400 ∨ 0x3800 ≤ r) ∧ (r < 0x4C00 ∨ 0x5400 ≤ r) ∧ r ≠ Reg.SCRUB_FAULT_SEEN) : r ∉ gateRegs := by
  unfold gateRegs blockRegs
  simp only [List.mem_cons, List.mem_append, List.mem_map, List.mem_range, not_or, not_exists, not_and]
  refine ⟨h.2.2, ⟨fun i hi => ?_, fun i hi => ?_⟩, fun i hi => ?_⟩ <;> omega

theorem pumpRegs_gate : pumpRegs ⊆ gateRegs := by
  intro r hr
  rcases List.mem_cons.1 hr with rfl | h
  · exact mem_gateRegs_seen
  · rcases List.mem_append.1 h with h | h
    · exact List.mem_cons_of_mem _ (List.mem_append_left _ (List.mem_append_right _ h))
    · exact List.mem_cons_of_mem _ (List.mem_append_right _ h)

theorem reactRegs_gate : reactRegs ⊆ gateRegs := fun _ h => pumpRegs_gate (reactRegs_subset h)

namespace State

variable (s : State)

/-! Switches and channels -/

theorem sw_setSw (k : Nat) (w : Switch) (j : Nat) : (s.setSw k w).sw j = if j = k then w else s.sw j :=
  (Sparse.get_set ..).trans (if_congr eq_comm rfl rfl)

theorem sw_setSw_same (k : Nat) (w : Switch) : (s.setSw k w).sw k = w := (s.sw_setSw k w k).trans (if_pos rfl)

theorem sw_setSw_of_ne {k j : Nat} (w : Switch) (h : j ≠ k) : (s.setSw k w).sw j = s.sw j := (s.sw_setSw k w j).trans (if_neg h)

theorem sw_congr {a b : State} (guard : b.guard = a.guard) (k : Nat) : b.sw k = a.sw k := by
  rw [State.sw, State.sw, guard]

theorem chan_setChan (c : Nat) (x : Chan) (j : Nat) : (s.setChan c x).chan j = if j = c then x else s.chan j :=
  (Sparse.get_set ..).trans (if_congr eq_comm rfl rfl)

theorem chan_setChan_same (c : Nat) (x : Chan) : (s.setChan c x).chan c = x := (s.chan_setChan c x c).trans (if_pos rfl)

theorem chan_setChan_of_ne {c j : Nat} (x : Chan) (h : j ≠ c) : (s.setChan c x).chan j = s.chan j := (s.chan_setChan c x j).trans (if_neg h)

theorem chan_congr {a b : State} (chans : b.pump.chans = a.pump.chans) (c : Nat) : b.chan c = a.chan c := by
  rw [State.chan, State.chan, chans]

theorem kept_setSw (k : Nat) (w : Switch) : Kept [] [.guard] s (s.setSw k w) := Kept.rfl.mapGuard

theorem kept_setChan (c : Nat) (x : Chan) : Kept [] [.pump] s (s.setChan c x) := Kept.rfl.pump

theorem pinTime_of_kept {a b : State} {regs : List Nat} {parts : List Part} (k : Kept regs parts a b) (elapsed : b.elapsed = a.elapsed)
    (status : Reg.POWER_STATUS ∉ regs := by decide) (power : .power ∉ parts := by decide) : b.pinTime = a.pinTime := by
  have tableau : b.tableau = a.tableau := k.bit (f := F.POWER_STATUS_TABLEAU) status
  rw [pinTime, pinTime, tableau, elapsed, k.2 .power power]

/-! Each switch of a list in turn -/

/-- What a run over the switches keeps beside the switches themselves. -/
structure SameClock (x y : State) : Prop where
  kept : Kept [] [.guard] x y
  elapsed : y.elapsed = x.elapsed
  cmdErr : y.guard.cmdErr = x.guard.cmdErr
  raised : y.guard.raised = x.guard.raised
  lowSince : y.guard.lowSince = x.guard.lowSince

theorem SameClock.refl (x : State) : SameClock x x := ⟨Kept.rfl, rfl, rfl, rfl, rfl⟩

theorem SameClock.trans {x y z : State} (h : SameClock x y) (h' : SameClock y z) : SameClock x z :=
  ⟨h.kept.trans h'.kept, h'.elapsed.trans h.elapsed, h'.cmdErr.trans h.cmdErr, h'.raised.trans h.raised, h'.lowSince.trans h.lowSince⟩

theorem SameClock.pinTime {x y : State} (h : SameClock x y) : y.pinTime = x.pinTime := pinTime_of_kept h.kept h.elapsed

theorem sameClock_setSw (k : Nat) (w : Switch) : SameClock s (s.setSw k w) := ⟨s.kept_setSw k w, rfl, rfl, rfl, rfl⟩

theorem SameClock.each {f : Nat → State → State} (h : ∀ k x, SameClock x (f k x)) (l : List Nat) : SameClock s (s.each l f) :=
  each_induction (fun y => SameClock s y) (SameClock.refl s) fun k y same => same.trans (h k y)

/-- Each switch of a list as a function makes it of what it is, at the pins' instant and at this one. -/
def mapSwitches (l : List Nat) (g : Nat → Nat → Switch → Switch) (s : State) : State :=
  s.each l fun k s => s.setSw k (g s.pinTime s.elapsed (s.sw k))

theorem sameClock_mapSwitches (l : List Nat) (g : Nat → Nat → Switch → Switch) : SameClock s (s.mapSwitches l g) :=
  SameClock.each s (fun k x => x.sameClock_setSw k _) l

theorem sw_mapSwitches {l : List Nat} (once : l.Nodup) {k : Nat} (mem : k ∈ l) (g : Nat → Nat → Switch → Switch) :
    (s.mapSwitches l g).sw k = g s.pinTime s.elapsed (s.sw k) := by
  obtain ⟨y, ⟨before, sw⟩, after⟩ := each_once s (R := fun i x y => SameClock x y ∧ y.sw i = x.sw i)
    (f := fun k s => s.setSw k (g s.pinTime s.elapsed (s.sw k))) (fun i x => ⟨SameClock.refl x, rfl⟩)
    (fun h h' => ⟨h.1.trans h'.1, h'.2.trans h.2⟩) (fun x h => ⟨x.sameClock_setSw _ _, x.sw_setSw_of_ne _ (Ne.symm h)⟩) once mem
  refine after.2.trans ((sw_setSw_same ..).trans ?_)
  rw [before.pinTime, before.elapsed, sw]

theorem sw_mapSwitches_of_not_mem {l : List Nat} {k : Nat} (mem : k ∉ l) (g : Nat → Nat → Switch → Switch) :
    (s.mapSwitches l g).sw k = s.sw k := by
  induction l generalizing s with
  | nil => rfl
  | cons i l ih =>
    rw [List.mem_cons, not_or] at mem
    exact (ih _ mem.2).trans (s.sw_setSw_of_ne _ mem.1)

theorem mem_allSwitches {k : Nat} (h : k < 7) : k ∈ allSwitches := List.mem_range.2 h

theorem nodup_allSwitches : allSwitches.Nodup := List.nodup_range

/-! Switches brought up to the present instant -/

theorem settleSwitches_eq : s.settleSwitches = s.mapSwitches allSwitches fun h _ w => w.settle h := rfl

theorem sameClock_settleSwitches : SameClock s s.settleSwitches := by
  rw [settleSwitches_eq]
  exact s.sameClock_mapSwitches _ _

theorem kept_settleSwitches : Kept [] [.guard] s s.settleSwitches := s.sameClock_settleSwitches.kept

theorem sw_settleSwitches {k : Nat} (h : k < 7) : s.settleSwitches.sw k = (s.sw k).settle s.pinTime := by
  rw [settleSwitches_eq, s.sw_mapSwitches nodup_allSwitches (mem_allSwitches h)]

theorem req_settle (h : Nat) (w : Switch) : (w.settle h).req = w.req := by
  unfold Switch.settle
  split
  · split <;> rfl
  · rfl

/-- A settled switch waits only for a later instant. -/
theorem wait_settle {h : Nat} {w : Switch} {x y : Nat} (wait : (w.settle h).wait = some (x, y)) : h < x := by
  unfold Switch.settle at wait
  split at wait
  next p q eq =>
    split at wait
    · cases wait
    next later =>
      rw [eq] at wait
      cases wait
      omega
  next eq =>
    rw [eq] at wait
    cases wait

theorem req_settleSwitches (k : Nat) : (s.settleSwitches.sw k).req = (s.sw k).req := by
  by_cases h : k < 7
  · rw [s.sw_settleSwitches h, req_settle]
  · rw [settleSwitches_eq, s.sw_mapSwitches_of_not_mem fun mem : k ∈ allSwitches => h (List.mem_range.1 mem)]

/-! Carries cleared (R480) -/

theorem clearCarries_eq : s.clearCarries = s.mapSwitches allSwitches fun _ _ w => { w with carry := 0 } := rfl

theorem sameClock_clearCarries : SameClock s s.clearCarries := by
  rw [clearCarries_eq]
  exact s.sameClock_mapSwitches _ _

theorem sw_clearCarries {k : Nat} (h : k < 7) : s.clearCarries.sw k = { s.sw k with carry := 0 } := by
  rw [clearCarries_eq, s.sw_mapSwitches nodup_allSwitches (mem_allSwitches h)]

/-! A switch turned off -/

/-- A switch turned off at an instant, whatever waits. -/
def turnedOff (h now : Nat) (w : Switch) : Switch :=
  let w := w.settle h
  { w with
    lit := w.lit && !w.onAt h && w.to_ ≤ h, wait := none, carry := 0, offAt := if w.onAt h then some now else w.offAt }

theorem turnOff_eq (k : Nat) : s.turnOff k = s.setSw k (turnedOff s.pinTime s.elapsed (s.sw k)) := rfl

/-- A switch turned off stays off at its pin. -/
theorem onAt_turnedOff (h now : Nat) (w : Switch) : (turnedOff h now w).onAt h = false := by
  unfold turnedOff Switch.onAt
  simp only [Bool.or_false, Bool.and_eq_false_iff, decide_eq_false_iff_not]
  by_cases off : (w.settle h).to_ ≤ h
  · exact .inr (by omega)
  · exact .inl (.inl (by simp [off]))

theorem onAt_carry (h : Nat) (w : Switch) (n : Nat) : ({ w with carry := n } : Switch).onAt h = w.onAt h := rfl

/-! A desaturation fault (R483) -/

/-- The switch off, and every bridge switch's carry gone. -/
def desatOff (k : Nat) (s : State) : State := (s.turnOff k).mapSwitches bridge fun _ _ w => { w with carry := 0 }

theorem desatFault_eq (k : Nat) : s.desatFault k =
    (((s.desatOff k).setIbit F.GUARD_STATUS_FAULT k true).count F.GUARD_DESAT_COUNT).raise 192 k := rfl

theorem sameClock_desatOff (k : Nat) : SameClock s (s.desatOff k) :=
  (s.sameClock_setSw k _).trans (sameClock_mapSwitches ..)

theorem onAt_desatOff {k : Nat} (h : k < 6) : ((s.desatOff k).sw k).onAt s.pinTime = false := by
  have carry := (s.turnOff k).sw_mapSwitches (l := bridge) List.nodup_range (List.mem_range.2 h) fun _ _ w => { w with carry := 0 }
  rw [desatOff, carry, turnOff_eq, sw_setSw_same]
  exact onAt_turnedOff ..

abbrev desatRegs : List Nat := [Reg.GUARD_STATUS, Reg.GUARD_DESAT, Reg.SCRUB_FAULT_SEEN]

theorem kept_desatFault (k : Nat) : Kept desatRegs [.guard, .router] s (s.desatFault k) := by
  rw [desatFault_eq]
  exact (((s.sameClock_desatOff k).kept.mono : Kept desatRegs [.guard, .router] s _).setIbit.count).raiseFault

theorem elapsed_desatFault (k : Nat) : (s.desatFault k).elapsed = s.elapsed := by
  rw [desatFault_eq, elapsed_raise, elapsed_count, elapsed_setIbit, (s.sameClock_desatOff k).elapsed]

theorem onAt_desatFault {k : Nat} (h : k < 6) : ((s.desatFault k).sw k).onAt s.pinTime = false := by
  have guard : (s.desatFault k).guard = (s.desatOff k).guard := by
    rw [desatFault_eq, guard_raise, guard_count, guard_setIbit]
  rw [sw_congr guard]
  exact s.onAt_desatOff h

theorem faulted_desatFault {k : Nat} (h : k < 6) : (s.desatFault k).swFaulted k = true := by
  have last : Kept [Reg.GUARD_DESAT, Reg.SCRUB_FAULT_SEEN] [.router] ((s.desatOff k).setIbit F.GUARD_STATUS_FAULT k true) (s.desatFault k) := by
    rw [desatFault_eq]
    exact Kept.rfl.count.raiseFault
  exact last.ibit.trans (ibit_setIbit_same _ (by decide) (h.trans (by decide)))

theorem count_desatFault (k : Nat) : (s.desatFault k).get F.GUARD_DESAT_COUNT = min (s.get F.GUARD_DESAT_COUNT + 1) 0xFFFFFFFF := by
  rw [desatFault_eq, get_raise_apart _ (by decide), get_count_same _ (by decide), get_setIbit_apart _ (by decide),
    (s.sameClock_desatOff k).kept.get]
  rfl

theorem raised_desatFault (k : Nat) : Raised [(s.datum, 192, k)] s (s.desatFault k) := by
  rw [desatFault_eq]
  exact (((s.sameClock_desatOff k).kept.mono : Kept [Reg.GUARD_STATUS, Reg.GUARD_DESAT] [.guard] s _).setIbit.count).raised

end State

end Sys2Proof.Machine

/-! PROOFS. The requests of a period taken by the guard, a period's start and its shadows (spec/11 R474 to R480, spec/12 R499, R502). -/

namespace Sys2Proof.Machine

set_option Elab.async false

abbrev legRegs : List Nat := [Reg.GUARD_STATUS, Reg.GUARD_SUPPRESS, Reg.GUARD_CMD_ERR]

/-- What the judging of pulses keeps: every switch's request among it. -/
structure SameReq (x y : State) : Prop where
  kept : Kept [Reg.GUARD_SUPPRESS] [.guard, .router] x y
  req : ∀ k, (y.sw k).req = (x.sw k).req

namespace SameReq

variable {x y z : State}

theorem refl (x : State) : SameReq x x := ⟨Kept.rfl, fun _ => rfl⟩

theorem trans (h : SameReq x y) (h' : SameReq y z) : SameReq x z := ⟨h.kept.trans h'.kept, fun k => (h'.req k).trans (h.req k)⟩

theorem of_guard (kept : Kept [Reg.GUARD_SUPPRESS] [.guard, .router] x y) (switches : y.guard.switches = x.guard.switches) : SameReq x y :=
  ⟨kept, fun k => by rw [State.sw, State.sw, switches]⟩

/-- A switch with the same request in its place. -/
theorem setSw {k : Nat} {w : Switch} (h : SameReq x y) (same : w.req = (x.sw k).req) : SameReq x (y.setSw k w) := by
  refine ⟨h.kept.trans (y.kept_setSw k w).mono, fun j => ?_⟩
  rw [State.sw_setSw]
  split
  next eq =>
    rw [same, eq]
  next => exact h.req j

theorem each {α : Type} {f : α → State → State} (h : ∀ i x, SameReq x (f i x)) (l : List α) : SameReq x (x.each l f) :=
  State.each_induction (fun y => SameReq x y) (refl x) fun i y same => same.trans (h i y)

end SameReq

namespace State

variable (s : State)

theorem req_through (c : Switch) (iv : Nat × Nat) : (c.through iv).req = c.req := by
  unfold Switch.through
  split
  · split <;> rfl
  · split <;> rfl

theorem sameReq_settleSwitches : SameReq s s.settleSwitches := ⟨s.kept_settleSwitches.mono, s.req_settleSwitches⟩

/-- A pulse judged leaves every request. -/
theorem sameReq_judgePulse (p : Window) (commutation : Bool) (k : Nat) (iv : Nat × Nat) : SameReq s (s.judgePulse p commutation k iv) := by
  unfold judgePulse
  extract_lets w c stop free begin_ counted src marked
  have refl := SameReq.refl s
  split
  · exact refl.setSw rfl
  · split
    · exact refl.setSw rfl
    · split
      · have told : SameReq s counted := .of_guard (Kept.rfl.count.when fun h => h.raise) (by
          refine (when_eq (fun x => x.guard.switches) _ ?_).trans ?_
          · rw [guard_raise]
          · rw [guard_count])
        have mark : SameReq s marked := told.setSw (told.req k)
        cases commutation && k < 6
        · exact mark
        · exact mark.setSw (req_through ..)
      · exact (SameReq.of_guard (Kept.rfl.mapGuard) rfl : SameReq s (s.noteEdges k)).setSw rfl

/-! A leg's requests taken (R474, R476) -/

theorem kept_cmdErrAt (leg at_ : Nat) : Kept legRegs [.guard, .router] s (s.cmdErrAt leg at_) := Kept.rfl.setBit.count.raiseAt

theorem kept_judged {x y : State} (h : SameReq x y) : Kept legRegs [.guard, .router] x y := h.kept.mono

/-- The command errors of a period noted. -/
def errNoted (p : Window) (leg : Nat) (up lo : Bool × Bool) (s : State) : State :=
  let s := s.settleSwitches
  let e1 := up.1 && lo.1 && p.start < p.mid
  let e2 := up.2 && lo.2 && p.mid < p.stop
  let was := s.guard.cmdErr.contains leg
  let s := s.when (e1 && !was) (State.cmdErrAt leg p.start)
  let mid := if p.start < p.mid then e1 else was
  let s := s.when (e2 && !mid) (State.cmdErrAt leg p.mid)
  let last := if p.mid < p.stop then e2 else mid
  s.mapGuard fun g => { g with cmdErr := g.cmdErr.filter (· ≠ leg) ++ if last then [leg] else [] }

/-- Both switches' requests of a leg as they stand. -/
def asked (leg : Nat) (u l : Bool × Bool) (s : State) : State :=
  let s := s.setSw (2 * leg) { s.sw (2 * leg) with req := u }
  s.setSw (2 * leg + 1) { s.sw (2 * leg + 1) with req := l }

/-- The pulses of a leg's requests judged. -/
def pulsed (p : Window) (commutation : Bool) (leg : Nat) (u l : Bool × Bool) (s : State) : State :=
  if !s.guard.raised then s
  else
    let ivs := ((p.intervals u).map fun i => (2 * leg, i.1, i.2)) ++ ((p.intervals l).map fun i => (2 * leg + 1, i.1, i.2))
    let s := s.each (earlierFirst ivs) fun x s => s.judgePulse p commutation x.1 (x.2.1, x.2.2)
    let s := s.when (ivs.isEmpty) fun s =>
      (s.setSw (2 * leg) { s.sw (2 * leg) with carry := 0 }).setSw (2 * leg + 1) { s.sw (2 * leg + 1) with carry := 0 }
    s.settleSwitches

theorem takeLeg_eq (p : Window) (commutation : Bool) (leg : Nat) (up lo : Bool × Bool) : s.takeLeg p commutation leg up lo =
    ((s.errNoted p leg up lo).asked leg (up.1 && !lo.1, up.2 && !lo.2) (lo.1 && !up.1, lo.2 && !up.2)).pulsed p commutation leg
      (up.1 && !lo.1, up.2 && !lo.2) (lo.1 && !up.1, lo.2 && !up.2) := rfl

theorem kept_errNoted (p : Window) (leg : Nat) (up lo : Bool × Bool) : Kept legRegs [.guard, .router] s (s.errNoted p leg up lo) := by
  unfold errNoted
  extract_lets x e1 e2 was y mid z last
  have settled : Kept legRegs [.guard, .router] s x := s.kept_settleSwitches.mono
  have first : Kept legRegs [.guard, .router] s y := settled.when fun h => h.trans (kept_cmdErrAt ..)
  have second : Kept legRegs [.guard, .router] s z := first.when fun h => h.trans (kept_cmdErrAt ..)
  exact second.mapGuard

theorem switches_errNoted (p : Window) (leg : Nat) (up lo : Bool × Bool) (k : Nat) : ((s.errNoted p leg up lo).sw k).req = (s.sw k).req := by
  have err (leg at_ : Nat) (x : State) : (x.cmdErrAt leg at_).guard.switches = x.guard.switches := by
    rw [cmdErrAt, guard_raiseAt, guard_count, guard_setBit]
  have switches : (s.errNoted p leg up lo).guard.switches = s.settleSwitches.guard.switches := by
    unfold errNoted
    extract_lets x e1 e2 was y mid z last
    have first : y.guard.switches = x.guard.switches := when_eq (fun x => x.guard.switches) _ (err ..)
    have second : z.guard.switches = y.guard.switches := when_eq (fun x => x.guard.switches) _ (err ..)
    exact second.trans first
  rw [State.sw, switches]
  exact s.req_settleSwitches k

theorem kept_asked (leg : Nat) (u l : Bool × Bool) : Kept [] [.guard] s (s.asked leg u l) :=
  (s.kept_setSw ..).trans (kept_setSw ..)

theorem req_asked (leg : Nat) (u l : Bool × Bool) (k : Nat) : ((s.asked leg u l).sw k).req =
    if k = 2 * leg + 1 then l else if k = 2 * leg then u else (s.sw k).req := by
  rw [asked, sw_setSw]
  split
  · rfl
  · rw [sw_setSw]
    split <;> rfl

theorem sameReq_pulsed (p : Window) (commutation : Bool) (leg : Nat) (u l : Bool × Bool) : SameReq s (s.pulsed p commutation leg u l) := by
  unfold pulsed
  extract_lets ivs y z
  split
  · exact SameReq.refl s
  · have judged : SameReq s y := SameReq.each (fun i x => x.sameReq_judgePulse ..) _
    have cleared : SameReq s z := by
      cases h : ivs.isEmpty
      · simpa only [z, h, when_false] using judged
      · simp only [z, h, when_true]
        refine judged.trans (.setSw (.setSw (SameReq.refl y) rfl) rfl)
    exact cleared.trans z.sameReq_settleSwitches

theorem kept_takeLeg (p : Window) (commutation : Bool) (leg : Nat) (up lo : Bool × Bool) :
    Kept legRegs [.guard, .router] s (s.takeLeg p commutation leg up lo) := by
  rw [takeLeg_eq]
  exact ((s.kept_errNoted p leg up lo).trans (kept_asked ..).mono).trans (kept_judged (sameReq_pulsed ..))

theorem req_takeLeg (p : Window) (commutation : Bool) (leg : Nat) (up lo : Bool × Bool) (k : Nat) :
    ((s.takeLeg p commutation leg up lo).sw k).req =
      if k = 2 * leg + 1 then (lo.1 && !up.1, lo.2 && !up.2) else if k = 2 * leg then (up.1 && !lo.1, up.2 && !lo.2) else (s.sw k).req := by
  rw [takeLeg_eq, (sameReq_pulsed ..).req, req_asked, switches_errNoted]

/-- The CHOP line taken: its request alone changes. -/
theorem takeChop_spec (p : Window) (line : Bool × Bool) : Kept [Reg.GUARD_SUPPRESS] [.guard, .router] s (s.takeChop p line) ∧
    ((s.takeChop p line).sw 6).req = line ∧ ∀ k, k < 6 → ((s.takeChop p line).sw k).req = (s.sw k).req := by
  unfold takeChop
  extract_lets x src y z
  have settled : SameReq s x := s.sameReq_settleSwitches
  have taken : Kept [Reg.GUARD_SUPPRESS] [.guard, .router] s y := settled.kept.trans (x.kept_setSw ..).mono
  have six : (y.sw 6).req = line := congrArg Switch.req (x.sw_setSw_same ..)
  have others (k : Nat) (h : k < 6) : (y.sw k).req = (s.sw k).req :=
    (congrArg Switch.req (x.sw_setSw_of_ne _ (by omega))).trans (settled.req k)
  split
  · exact ⟨taken, six, others⟩
  · have judged : SameReq y z.settleSwitches := (SameReq.each (fun i x => x.sameReq_judgePulse ..) _).trans z.sameReq_settleSwitches
    exact ⟨taken.trans judged.kept, (judged.req 6).trans six, fun k h => (judged.req k).trans (others k h)⟩

/-! Each channel of a list in turn -/

/-- What a run over the channels keeps: everything but the channels. -/
structure SameChan (c : Nat) (x y : State) : Prop where
  kept : Kept [] [.pump] x y
  elapsed : y.elapsed = x.elapsed
  chan : y.chan c = x.chan c

theorem SameChan.refl (c : Nat) (x : State) : SameChan c x x := ⟨Kept.rfl, rfl, rfl⟩

theorem SameChan.trans {c : Nat} {x y z : State} (h : SameChan c x y) (h' : SameChan c y z) : SameChan c x z :=
  ⟨h.kept.trans h'.kept, h'.elapsed.trans h.elapsed, h'.chan.trans h.chan⟩

/-- Each channel of a list as a function of the registers and of what it is makes it. -/
def mapChans (l : List Nat) (g : Nat → State → Chan → Chan) (s : State) : State := s.each l fun c s => s.setChan c (g c s (s.chan c))

theorem sameChan_step {c i : Nat} (h : i ≠ c) (w : Chan) : SameChan c s (s.setChan i w) :=
  ⟨s.kept_setChan i w, rfl, s.chan_setChan_of_ne w (Ne.symm h)⟩

theorem kept_mapChans (l : List Nat) (g : Nat → State → Chan → Chan) : Kept [] [.pump] s (s.mapChans l g) :=
  Kept.rfl.each fun _ _ x h => h.trans (x.kept_setChan ..)

theorem elapsed_mapChans (l : List Nat) (g : Nat → State → Chan → Chan) : (s.mapChans l g).elapsed = s.elapsed :=
  each_eq s (fun x => x.elapsed) (f := fun c s => s.setChan c (g c s (s.chan c))) (fun _ _ => rfl) l

theorem chan_mapChans {l : List Nat} (once : l.Nodup) {c : Nat} (mem : c ∈ l) (g : Nat → State → Chan → Chan) :
    ∃ y, SameChan c s y ∧ (s.mapChans l g).chan c = g c y (s.chan c) := by
  obtain ⟨y, before, after⟩ := each_once s (R := SameChan) (f := fun c s => s.setChan c (g c s (s.chan c))) SameChan.refl SameChan.trans
    (fun x h => x.sameChan_step h _) once mem
  exact ⟨y, before, after.chan.trans ((chan_setChan_same ..).trans (by rw [before.chan]))⟩

theorem chan_mapChans_of_not_mem {l : List Nat} {c : Nat} (mem : c ∉ l) (g : Nat → State → Chan → Chan) :
    (s.mapChans l g).chan c = s.chan c := by
  induction l generalizing s with
  | nil => rfl
  | cons i l ih =>
    rw [List.mem_cons, not_or] at mem
    exact (ih _ mem.2).trans (s.chan_setChan_of_ne _ mem.1)

end State

/-! A period start (R497, R499) -/

/-- The next period of a channel, marked shadows in force where they were marked in time. -/
def Chan.next (x : Chan) : Chan :=
  match x.load with
  | some (t0, p, d, m) =>
    if t0 + 8 ≤ x.start + 2 * x.period then
      { x with start := x.start + 2 * x.period, fresh := true, period := p, duty := d, mark := m, load := none }
    else { x with start := x.start + 2 * x.period, fresh := true }
  | none => { x with start := x.start + 2 * x.period, fresh := true }

theorem Chan.start_next (x : Chan) : x.next.start = x.start + 2 * x.period := by
  unfold Chan.next
  split
  · split <;> rfl
  · rfl

theorem Chan.fresh_next (x : Chan) : x.next.fresh = true := by
  unfold Chan.next
  split
  · split <;> rfl
  · rfl

namespace State

variable (s : State)

theorem nodup_channelsOf (chop : Bool) : (channelsOf chop).Nodup := by cases chop <;> decide

theorem first_mem_channelsOf (chop : Bool) : (if chop then 3 else 0) ∈ channelsOf chop := by cases chop <;> decide

theorem beginPeriod_eq (chop : Bool) : s.beginPeriod chop = if s.periodDue chop then s.mapChans (channelsOf chop) fun _ _ x => x.next else s := by
  unfold beginPeriod mapChans
  refine if_congr Iff.rfl (congrArg (s.each (channelsOf chop)) ?_) rfl
  funext c y
  unfold Chan.next
  generalize y.chan c = x
  obtain ⟨start, period, duty, mark, load, fresh, taken⟩ := x
  cases load with
  | none => rfl
  | some v =>
    dsimp only
    split <;> rfl

theorem kept_beginPeriod (chop : Bool) : Kept [] [.pump] s (s.beginPeriod chop) := by
  rw [beginPeriod_eq]
  exact (s.kept_mapChans ..).ite Kept.rfl

theorem beginPeriod_idle {s : State} {chop : Bool} (idle : s.periodDue chop = false) : s.beginPeriod chop = s := by
  rw [beginPeriod_eq, idle]
  rfl

theorem chan_beginPeriod {s : State} {chop : Bool} (due : s.periodDue chop = true) {c : Nat} (mem : c ∈ channelsOf chop) :
    (s.beginPeriod chop).chan c = (s.chan c).next := by
  obtain ⟨y, -, eq⟩ := s.chan_mapChans (nodup_channelsOf chop) mem fun _ _ x => x.next
  rw [beginPeriod_eq, if_pos due, eq]

theorem chan_beginPeriod_of_not_mem (chop : Bool) {c : Nat} (mem : c ∉ channelsOf chop) : (s.beginPeriod chop).chan c = s.chan c := by
  rw [beginPeriod_eq]
  split
  · exact s.chan_mapChans_of_not_mem mem _
  · rfl

end State

end Sys2Proof.Machine

/-! PROOFS. The drive's own values of a period, the rise and fall of GD_EN, and the loss of STAGE (spec/11 R487, R488, spec/12 R502, R509, R526). -/

namespace Sys2Proof.Machine

set_option Elab.async false

namespace State

variable (s : State)

/-! The channels stand through what the drive does -/

theorem chans_floatLegs : s.floatLegs.pump.chans = s.pump.chans := by rw [pump_floatLegs]

theorem chans_goPump (st : Nat) : (s.goPump st).pump.chans = s.pump.chans := by
  by_cases here : s.pState = st
  · rw [goPump_same here]
  · rw [pump_goPump here]

theorem chans_observe : s.observe.pump.chans = s.pump.chans := by rw [pump_observe]

theorem chans_coastFor (why : Coast) : (s.coastFor why).pump.chans = s.pump.chans := by
  obtain ⟨at_, eq⟩ := s.pump_coastFor why
  rw [eq]

theorem chans_pumpFaultIf : (s.pumpFaultIf 1).pump.chans = s.pump.chans := by
  unfold pumpFaultIf
  split
  · obtain ⟨at_, out, eq⟩ := s.pump_pumpFaultAs (code := 1) (by decide)
    rw [eq]
  · rfl

theorem chans_demanded : s.demanded.pump.chans = s.pump.chans := by
  rw [demanded, pump_setTop, pump_setBit, pump_mapPump]

theorem chans_chopOff : s.chopOff.pump.chans = s.pump.chans := by rw [pump_chopOff]

theorem chans_chopChecked : s.chopChecked.pump.chans = s.pump.chans :=
  when_eq (fun x => x.pump.chans) _ (chans_chopOff _)

theorem chans_moved : s.moved.pump.chans = s.pump.chans := by
  unfold moved
  split
  · exact when_eq (fun x => x.pump.chans) _ (chans_observe _)
  split
  · exact when_eq (fun x => x.pump.chans) _ (chans_coastFor _ _)
  split
  · split
    · refine (when_eq (fun x => x.pump.chans) _ ?_).trans (by rw [pump_mapPump])
      rw [chans_goPump, chans_floatLegs]
    · exact when_eq (fun x => x.pump.chans) _ (chans_observe _)
  · rfl

theorem chans_latchTaken : s.latchTaken.pump.chans = s.pump.chans := by
  unfold latchTaken
  cases s.bit F.PUMP_CTRL_EN && s.guardLatched
  · rw [when_false]
  · rw [when_true, chans_pumpFaultIf]

theorem chans_showPumpFlt (timeout : Bool) : (s.showPumpFlt timeout).pump.chans = s.pump.chans := by rw [pump_showPumpFlt]

theorem chans_pumpReact : s.pumpReact.pump.chans = s.pump.chans := by
  rw [pumpReact_eq]
  split
  · rfl
  · rw [chans_showPumpFlt, chans_moved, chans_chopChecked, chans_latchTaken, chans_demanded]

/-! The drive at a period start (R509, R511) -/

theorem kept_dutyUpdate : Kept [] [.pump] s s.dutyUpdate := Kept.rfl.mapPump

theorem chans_dutyUpdate : s.dutyUpdate.pump.chans = s.pump.chans := by
  unfold dutyUpdate
  rw [pump_mapPump]
  split
  · rfl
  · split
    · rfl
    · split <;> rfl

theorem chans_overlapStep (at_ : Nat) : (s.overlapStep at_).pump.chans = s.pump.chans := by
  unfold overlapStep
  split
  · rfl
  · split
    · unfold beginSector
      dsimp only
      rw [pump_set, pump_set, pump_mapPump]
    · rw [pump_setTop, pump_mapPump]

theorem kept_overlapStep (at_ : Nat) : Kept driveRegs [.pump] s (s.overlapStep at_) := by
  unfold overlapStep
  split
  · exact Kept.rfl
  · split
    · exact kept_beginSector ..
    · exact Kept.rfl.mapPump.setTop

/-- The drive's controller, and the stops that its reference brings. -/
def controlled (s : State) : State :=
  let st := s.pState
  if st = ps.run && s.pSector ≠ 0 then
    let s := s.dutyUpdate
    if s.bit F.PUMP_STATUS_CHOP_FAULT && s.pump.ref < s.pumpMeas * 95 / 100 then s.coastFor .slow
    else if s.pump.brake && s.pump.ref ≤ s.pc16 8 then s.coastFor .request
    else s
  else if st = ps.align || st = ps.ramp then s.mapPump fun p => { p with duty := s.forcedDuty }
  else s

theorem kept_controlled : Kept driveRegs [.pump, .router] s s.controlled := by
  unfold controlled
  extract_lets st x
  have duty : Kept driveRegs [.pump, .router] s x := s.kept_dutyUpdate.mono
  refine Kept.ite (Kept.ite (duty.trans (kept_coastFor ..)) (Kept.ite (duty.trans (kept_coastFor ..)) duty)) (Kept.ite Kept.rfl.mapPump Kept.rfl)

theorem chans_controlled : s.controlled.pump.chans = s.pump.chans := by
  unfold controlled
  extract_lets st x
  have duty : x.pump.chans = s.pump.chans := s.chans_dutyUpdate
  split
  · split
    · exact (chans_coastFor ..).trans duty
    · split
      · exact (chans_coastFor ..).trans duty
      · exact duty
  · split
    · rw [pump_mapPump]
    · rfl

/-- The mean of the bus current shown. -/
def shuntShown (s : State) : State :=
  let n := s.pump.ishunt.length
  s.when (n != 0) fun s => s.setSat F.PUMP_BUS_ISHUNT (roundAway ((s.pump.ishunt.sum : Rat) / (n : Rat)))

theorem drivePeriod_eq (at_ : Nat) : s.drivePeriod at_ =
    let x := s.shuntShown.controlled.mapPump fun p => { p with ishunt := [] }
    if x.driven then x.overlapStep at_ else x := rfl

theorem kept_shuntShown : Kept [Reg.PUMP_BUS] [] s s.shuntShown := Kept.rfl.when fun h => h.setSat

theorem driveBus_subset : [Reg.PUMP_BUS] ⊆ gateRegs := List.cons_subset.2 ⟨pumpRegs_gate mem_pumpRegs_pump, List.nil_subset _⟩

theorem driveRegs_gate : driveRegs ⊆ gateRegs := fun _ h => pumpRegs_gate (driveRegs_subset h)

theorem kept_drivePeriod (at_ : Nat) : Kept gateRegs gateParts s (s.drivePeriod at_) := by
  rw [drivePeriod_eq]
  extract_lets x
  have control : Kept gateRegs gateParts s x :=
    ((s.kept_shuntShown.mono driveBus_subset).trans ((kept_controlled _).mono driveRegs_gate)).mapPump
  exact (control.trans ((kept_overlapStep _ _).mono driveRegs_gate)).ite control

theorem chans_drivePeriod (at_ : Nat) : (s.drivePeriod at_).pump.chans = s.pump.chans := by
  rw [drivePeriod_eq]
  extract_lets x
  have control : x.pump.chans = s.pump.chans := by
    refine (chans_controlled _).trans ?_
    rw [s.kept_shuntShown.2 .pump (by decide)]
  split
  · exact (chans_overlapStep ..).trans control
  · exact control

/-! The drive's own LOAD_ALL (R502) -/

/-- The period of a channel that the guard is at. -/
def periodAt (c : Nat) (s : State) : Nat × Bool := ((s.chan c).start, (s.chan c).fresh)

theorem periodAt_congr {a b : State} (chans : b.pump.chans = a.pump.chans) (c : Nat) : b.periodAt c = a.periodAt c := by
  rw [periodAt, periodAt, chan_congr chans]

/-- New values for a channel's period leave the period. -/
theorem periodAt_setChan {c i : Nat} {x : Chan} (same : x.start = (s.chan i).start ∧ x.fresh = (s.chan i).fresh) :
    (s.setChan i x).periodAt c = s.periodAt c := by
  unfold periodAt
  rw [chan_setChan]
  split
  next h => rw [same.1, same.2, h]
  next => rfl

/-- The duties as the legs need them. -/
def dutiesSet (per : Nat) (s : State) : State :=
  let s := s.each [0, 1, 2] fun leg s =>
    let d := if s.driven then (s.legDrive leg).2 else 0
    s.setTop (F.PUMP_PWM_DUTY_DUTY leg) (roundAway (d * (per : Rat))).toNat
  s.setTop F.PUMP_SECTOR_DUTY (if s.driven then (roundAway (s.pump.duty * (per : Rat))).toNat else 0)

/-- A bridge channel's settings in force at once. -/
def inForce (per c : Nat) (s : State) : State :=
  s.setChan c { s.chan c with
    period := per, duty := s.get (F.PUMP_PWM_DUTY_DUTY c), mark := s.get (F.PUMP_PWM_MARK_MARK c) }

theorem driveLoad_eq : s.driveLoad =
    let x := s.dutiesSet (s.get F.PUMP_PWM_PERIOD_PERIOD)
    if x.shadowsOk then (x.each [0, 1, 2] (inForce (s.get F.PUMP_PWM_PERIOD_PERIOD))).when
      (!(x.each [0, 1, 2] (inForce (s.get F.PUMP_PWM_PERIOD_PERIOD))).shadowTaken 3) (markShadow 3)
    else x.setBit F.PUMP_STATUS_CFG_REJECT true := rfl

theorem kept_dutiesSet (per : Nat) : Kept gateRegs gateParts s (s.dutiesSet per) := by
  unfold dutiesSet
  refine (Kept.rfl.each fun leg hleg y h => h.setTop (pumpRegs_gate (mem_pumpRegs_pump ?_))).setTop (pumpRegs_gate (mem_pumpRegs_pump (by decide)))
  have small : leg < 3 := by
    simp only [List.mem_cons, List.not_mem_nil, or_false] at hleg
    omega
  change 0x5000 ≤ 0x5030 + 0x4 * leg ∧ (0x5030 + 0x4 * leg) % 4 = 0 ∧ 0x5030 + 0x4 * leg < 0x5400
  omega

theorem chans_dutiesSet (per : Nat) : (s.dutiesSet per).pump.chans = s.pump.chans := by
  unfold dutiesSet
  rw [pump_setTop]
  exact each_eq s (fun x => x.pump.chans) (fun i x => by rw [pump_setTop]) _

theorem kept_markShadow (c : Nat) : Kept [] [.pump] s (s.markShadow c) := Kept.rfl.pump

theorem kept_driveLoad : Kept gateRegs gateParts s s.driveLoad := by
  rw [driveLoad_eq]
  extract_lets x
  have duties : Kept gateRegs gateParts s x := s.kept_dutiesSet _
  refine Kept.ite (Kept.when (duties.trans (Kept.rfl.each fun c hc y h => h.trans (Kept.pump Kept.rfl)))
    fun h => h.trans ((kept_markShadow _ 3).mono (List.nil_subset _)))
    (duties.setBit (pumpRegs_gate (mem_pumpRegs_pump (by decide))))

theorem periodAt_markShadow (i c : Nat) : (s.markShadow i).periodAt c = s.periodAt c := s.periodAt_setChan ⟨rfl, rfl⟩

theorem periodAt_inForce (per i c : Nat) : (s.inForce per i).periodAt c = s.periodAt c := s.periodAt_setChan ⟨rfl, rfl⟩

theorem periodAt_driveLoad (c : Nat) : s.driveLoad.periodAt c = s.periodAt c := by
  rw [driveLoad_eq]
  extract_lets x
  have duties : x.periodAt c = s.periodAt c := periodAt_congr (s.chans_dutiesSet _) c
  split
  · refine (when_eq (periodAt c) _ (periodAt_markShadow ..)).trans ?_
    exact (each_eq x (periodAt c) (f := inForce _) (fun i y => y.periodAt_inForce _ i c) _).trans duties
  · exact (periodAt_congr (by rw [pump_setBit]) c).trans duties

/-! Latches (R487) -/

theorem any_congr_mem {l : List Nat} {p q : Nat → Bool} (h : ∀ k ∈ l, p k = q k) : l.any p = l.any q := by
  induction l with
  | nil => rfl
  | cons k l ih => rw [List.any_cons, List.any_cons, h k (List.mem_cons_self ..), ih fun j hj => h j (List.mem_cons_of_mem _ hj)]

theorem latched_of_kept {a b : State} {regs : List Nat} {parts : List Part} (k : Kept regs parts a b)
    (status : Reg.GUARD_STATUS ∉ regs := by decide) : b.guardLatched = a.guardLatched := by
  have fault : b.get F.GUARD_STATUS_FAULT = a.get F.GUARD_STATUS_FAULT := k.get (f := F.GUARD_STATUS_FAULT) status
  have oc : b.bit F.GUARD_STATUS_OC_TRIP = a.bit F.GUARD_STATUS_OC_TRIP := k.bit (f := F.GUARD_STATUS_OC_TRIP) status
  have dt : b.bit F.GUARD_STATUS_DT_TRIP = a.bit F.GUARD_STATUS_DT_TRIP := k.bit (f := F.GUARD_STATUS_DT_TRIP) status
  rw [guardLatched, guardLatched, fault, oc, dt]

theorem guardLatched_settle {a x : State} : (s.settle a x).guardLatched = x.guardLatched := by
  rw [guardLatched, guardLatched, get_settle, bit_settle, bit_settle]

/-- A trip is judged by the comparators, DESAT_EN and the requests. -/
theorem tripActive_of_same {x y : State} (regs : ∀ r, r ∉ [Reg.GUARD_CTRL, Reg.GUARD_LOW] → y.reg r = x.reg r) (conv : y.conv = x.conv)
    (elapsed : y.elapsed = x.elapsed) (pump : y.pump = x.pump) (req : ∀ k, (y.sw k).req = (x.sw k).req)
    (desat : y.bit F.GUARD_CTRL_DESAT_EN = x.bit F.GUARD_CTRL_DESAT_EN) : y.tripActive = x.tripActive := by
  have field (f : FieldRef) (h : f.addr ∉ [Reg.GUARD_CTRL, Reg.GUARD_LOW]) : y.get f = x.get f := by rw [State.get, State.get, regs _ h]
  have testing (k : Nat) (h : k < 32) : y.compTesting k = x.compTesting k := by
    have filt : y.get (F.COMP_CFG_FILT k) = x.get (F.COMP_CFG_FILT k) := field _ (by
      simp only [Reg.GUARD_CTRL, Reg.GUARD_LOW, List.mem_cons, List.not_mem_nil, or_false, not_or]
      omega)
    rw [compTesting, compTesting, conv, elapsed, filt]
  have active (k : Nat) (h : k < 32) : y.compActive k = x.compActive k := by
    have tripped : y.ibit F.COMP_STATE_TRIPPED k = x.ibit F.COMP_STATE_TRIPPED k := by rw [State.ibit, State.ibit, field _ (by decide)]
    rw [compActive, compActive, tripped, testing k h]
  have cfg (k : Nat) (h : k < 32) : y.compCfg k = x.compCfg k := by
    rw [compCfg, compCfg, conv, elapsed, regs (Reg.COMP_CFG k) (by
      simp only [Reg.COMP_CFG, Reg.GUARD_CTRL, Reg.GUARD_LOW, List.mem_cons, List.not_mem_nil, or_false, not_or]
      omega)]
  have requested (k : Nat) : y.requestedNow k = x.requestedNow k := by
    rw [requestedNow, requestedNow, chan_congr (congrArg Pump.chans pump), elapsed, req]
  have first : ((List.range 32).any fun k => y.compActive k && (y.compCfg k).testBit (F.COMP_CFG_GATE k).lo) =
      ((List.range 32).any fun k => x.compActive k && (x.compCfg k).testBit (F.COMP_CFG_GATE k).lo) :=
    any_congr_mem fun k hk => by rw [active k (List.mem_range.1 hk), cfg k (List.mem_range.1 hk)]
  have second : (bridge.any fun k => y.compActive (26 + k) && y.requestedNow k) = (bridge.any fun k => x.compActive (26 + k) && x.requestedNow k) :=
    any_congr_mem fun k hk => by
      have small : k < 6 := List.mem_range.1 hk
      rw [active (26 + k) (by omega), requested]
  rw [tripActive, tripActive, first, second, desat]

/-! GD_EN (R487, R488) -/

/-- GUARD_CTRL as written, the switches brought up to now. -/
def gateWritten (data : Word) (s : State) : State := s.settleSwitches.writeByAccess Reg.GUARD_CTRL data

/-- GD_EN has risen: the low time is shown. -/
def rose (s : State) : State := (s.setTop F.GUARD_LOW_TIME (s.elapsed - s.guard.lowSince)).mapGuard fun g => { g with raised := true }

/-- Every latch cleared, before it is counted. -/
def unlatched (s : State) : State :=
  (((s.set F.GUARD_STATUS_FAULT 0).setBit F.GUARD_STATUS_OC_TRIP false).setBit F.GUARD_STATUS_DT_TRIP false).clearCarries

def latchesCleared (s : State) : State := (s.unlatched.count F.GUARD_CLEARS_COUNT).raise 196

def clearRefused (s : State) : State :=
  ((s.setBit F.GUARD_STATUS_CLEAR_REFUSED true).count F.GUARD_CLEAR_REFUSED_COUNT).raise 197

/-- GD_EN has fallen. -/
def fell (s : State) : State := s.clearCarries.mapGuard fun g => { g with lowSince := s.elapsed }

theorem writeGuardCtrl_eq (data : Word) : s.writeGuardCtrl data =
    if data.getLsbD 0 && !s.bit F.GUARD_CTRL_GD_EN then
      if 10000 ≤ (s.gateWritten data).elapsed - (s.gateWritten data).guard.lowSince && !(s.gateWritten data).rose.tripActive then
        (s.gateWritten data).rose.latchesCleared
      else (s.gateWritten data).rose.clearRefused
    else if s.bit F.GUARD_CTRL_GD_EN && !data.getLsbD 0 then
      (s.gateWritten data).fell
    else s.gateWritten data := rfl

end State

end Sys2Proof.Machine

/-! PROOFS. The commands of the local gates and of the PWM unit (O35). -/

namespace Sys2Proof.Machine

set_option Elab.async false

namespace State

variable (s : State)

/-! GD_EN, its cases -/

theorem kept_gateWritten (data : Word) : Kept [Reg.GUARD_CTRL] [.guard] s (s.gateWritten data) :=
  s.kept_settleSwitches.mono.trans (kept_writeByAccess (regs := [Reg.GUARD_CTRL]) _ data _ (by decide))

theorem sameClock_settled : SameClock s s.settleSwitches := s.sameClock_settleSwitches

theorem elapsed_gateWritten (data : Word) : (s.gateWritten data).elapsed = s.elapsed :=
  (elapsed_writeByAccess ..).trans s.sameClock_settleSwitches.elapsed

theorem guard_gateWritten (data : Word) : (s.gateWritten data).guard = s.settleSwitches.guard :=
  (kept_writeByAccess _ data _ (by decide) : Kept [Reg.GUARD_CTRL] [] s.settleSwitches _).2 .guard (by decide)

theorem lowSince_gateWritten (data : Word) : (s.gateWritten data).guard.lowSince = s.guard.lowSince := by
  rw [guard_gateWritten, s.sameClock_settleSwitches.lowSince]

theorem gdEn_gateWritten (data : Word) : (s.gateWritten data).bit F.GUARD_CTRL_GD_EN = data.getLsbD 0 :=
  bit_writeByAccess_rw _ (f := F.GUARD_CTRL_GD_EN) (by decide +kernel) rfl data

theorem desatEn_gateWritten (data : Word) : (s.gateWritten data).bit F.GUARD_CTRL_DESAT_EN = data.getLsbD 1 :=
  bit_writeByAccess_rw _ (f := F.GUARD_CTRL_DESAT_EN) (by decide +kernel) rfl data

theorem kept_rose : Kept [Reg.GUARD_LOW] [.guard] s s.rose := Kept.rfl.setTop.mapGuard

theorem kept_unlatched : Kept [Reg.GUARD_STATUS] [.guard] s s.unlatched :=
  (Kept.rfl.set.setBit.setBit : Kept [Reg.GUARD_STATUS] [.guard] s _).trans (sameClock_clearCarries _).kept.mono

theorem kept_latchesCleared : Kept [Reg.GUARD_STATUS, Reg.GUARD_CLEARS] [.guard, .router] s s.latchesCleared :=
  (s.kept_unlatched.mono : Kept [Reg.GUARD_STATUS, Reg.GUARD_CLEARS] [.guard, .router] s _).count.raise

theorem kept_clearRefused : Kept [Reg.GUARD_STATUS, Reg.GUARD_CLEAR_REFUSED] [.router] s s.clearRefused := Kept.rfl.setBit.count.raise

theorem kept_fell : Kept [] [.guard] s s.fell := s.sameClock_clearCarries.kept.mapGuard

/-- What a trip is judged by stands through the write. -/
theorem tripActive_rose (data : Word) : (s.gateWritten data).rose.tripActive = (s.writeByAccess Reg.GUARD_CTRL data).tripActive := by
  obtain ⟨x, hx⟩ : ∃ x, s.writeByAccess Reg.GUARD_CTRL data = x := ⟨_, rfl⟩
  obtain ⟨y, hy⟩ : ∃ y, s.gateWritten data = y := ⟨_, rfl⟩
  have kx : Kept [Reg.GUARD_CTRL] [] s x := hx ▸ kept_writeByAccess _ data _ (by decide)
  have ky : Kept [Reg.GUARD_CTRL] [.guard] s y := hy ▸ s.kept_gateWritten data
  have desat (z : State) : (z.writeByAccess Reg.GUARD_CTRL data).bit F.GUARD_CTRL_DESAT_EN = data.getLsbD 1 :=
    bit_writeByAccess_rw z (f := F.GUARD_CTRL_DESAT_EN) (by decide +kernel) rfl data
  have time : y.rose.elapsed = x.elapsed := by
    rw [rose, elapsed_mapGuard, elapsed_setTop, ← hx, ← hy, elapsed_gateWritten, elapsed_writeByAccess]
  have switches : y.rose.guard.switches = s.settleSwitches.guard.switches := by
    rw [rose, guard_mapGuard, guard_setTop, ← hy, guard_gateWritten]
  rw [hx, hy]
  refine tripActive_of_same (fun r hr => ?_) ?_ time ?_ (fun k => ?_) ?_
  · have other : r ∉ [Reg.GUARD_CTRL] ∧ r ∉ [Reg.GUARD_LOW] := by simpa using hr
    rw [y.kept_rose.reg other.2, ky.reg other.1, kx.reg other.1]
  · rw [y.kept_rose.2 .conv (by decide), ky.2 .conv (by decide), kx.2 .conv (by decide)]
  · rw [y.kept_rose.2 .pump (by decide), ky.2 .pump (by decide), kx.2 .pump (by decide)]
  · have guard : x.guard = s.guard := kx.2 .guard (by decide)
    rw [sw_congr guard, State.sw, switches]
    exact s.req_settleSwitches k
  · rw [y.kept_rose.bit, ← hy, desatEn_gateWritten, ← hx, desat]

/-- Cleared latches. -/
theorem unlatched_spec : s.unlatched.guardLatched = false ∧ ∀ k, k < 7 → (s.unlatched.sw k).carry = 0 := by
  obtain ⟨y, hy⟩ : ∃ y, ((s.set F.GUARD_STATUS_FAULT 0).setBit F.GUARD_STATUS_OC_TRIP false).setBit F.GUARD_STATUS_DT_TRIP false = y := ⟨_, rfl⟩
  have fault : y.get F.GUARD_STATUS_FAULT = 0 := by
    rw [← hy, get_setBit_apart _ (by decide), get_setBit_apart _ (by decide), get_set_of_lt _ (by decide) (by decide)]
  have oc : y.bit F.GUARD_STATUS_OC_TRIP = false := by
    rw [← hy, bit_setBit_apart _ (by decide), bit_setBit_same _ (by decide) rfl]
  have dt : y.bit F.GUARD_STATUS_DT_TRIP = false := by
    rw [← hy, bit_setBit_same _ (by decide) rfl]
  have eq : s.unlatched = y.clearCarries := by rw [unlatched, hy]
  rw [eq]
  refine ⟨(latched_of_kept y.sameClock_clearCarries.kept).trans ?_, fun k h => by rw [y.sw_clearCarries h]⟩
  rw [guardLatched, fault, oc, dt]
  rfl

/-! STAGE lost (R526) -/

/-- Every gate pin inactive. -/
def gatesOff (s : State) : State := s.settleSwitches.each allSwitches turnOff

theorem gatesOff_eq : s.gatesOff = s.settleSwitches.mapSwitches allSwitches turnedOff := rfl

/-- GD_EN low. -/
def gdLow (s : State) : State :=
  s.when (s.bit F.GUARD_CTRL_GD_EN) fun s => (s.setBit F.GUARD_CTRL_GD_EN false).clearCarries.mapGuard fun g => { g with lowSince := s.elapsed }

theorem stageLoss_eq : s.stageLoss = (s.gatesOff.gdLow.pumpFaultAs 7).chopOff := by
  unfold stageLoss gdLow gatesOff
  obtain ⟨y, hy⟩ : ∃ y, s.settleSwitches.each allSwitches turnOff = y := ⟨_, rfl⟩
  rw [hy]

theorem sameClock_gatesOff : SameClock s s.gatesOff := by
  rw [gatesOff_eq]
  exact s.sameClock_settleSwitches.trans (sameClock_mapSwitches ..)

theorem onAt_gatesOff {k : Nat} (h : k < 7) : (s.gatesOff.sw k).onAt s.pinTime = false := by
  rw [gatesOff_eq, sw_mapSwitches _ nodup_allSwitches (mem_allSwitches h), s.sameClock_settleSwitches.pinTime]
  exact onAt_turnedOff ..

/-- GD_EN fallen with the switches as they are. -/
def gdDropped (s : State) : State := (s.setBit F.GUARD_CTRL_GD_EN false).clearCarries.mapGuard fun g => { g with lowSince := s.elapsed }

theorem gdLow_eq : s.gdLow = s.when (s.bit F.GUARD_CTRL_GD_EN) gdDropped := rfl

theorem kept_gdDropped : Kept [Reg.GUARD_CTRL] [.guard] s s.gdDropped :=
  (Kept.rfl.setBit.trans (sameClock_clearCarries _).kept.mono).mapGuard

theorem kept_gdLow : Kept [Reg.GUARD_CTRL] [.guard] s s.gdLow := by
  rw [gdLow_eq]
  exact Kept.rfl.when fun h => h.trans (kept_gdDropped _)

theorem sw_gdDropped {k : Nat} (h : k < 7) : s.gdDropped.sw k = { s.sw k with carry := 0 } := by
  have switches : s.gdDropped.guard.switches = (s.setBit F.GUARD_CTRL_GD_EN false).clearCarries.guard.switches := by
    rw [gdDropped, guard_mapGuard]
  rw [State.sw, switches]
  refine ((s.setBit F.GUARD_CTRL_GD_EN false).sw_clearCarries h).trans ?_
  rw [sw_congr (guard_setBit ..)]

theorem onAt_gdLow {k : Nat} (h : k < 7) (t : Nat) : (s.gdLow.sw k).onAt t = (s.sw k).onAt t := by
  rw [gdLow_eq]
  cases s.bit F.GUARD_CTRL_GD_EN
  · rw [when_false]
  · rw [when_true, s.sw_gdDropped h, onAt_carry]

theorem gdEn_gdLow : s.gdLow.bit F.GUARD_CTRL_GD_EN = false := by
  rw [gdLow_eq]
  cases high : s.bit F.GUARD_CTRL_GD_EN
  · rw [when_false, high]
  · have last : Kept [] [.guard] (s.setBit F.GUARD_CTRL_GD_EN false) s.gdDropped := (sameClock_clearCarries _).kept.mapGuard
    rw [when_true, last.bit, bit_setBit_same _ (by decide) rfl]

theorem lowSince_gdLow {s : State} (high : s.bit F.GUARD_CTRL_GD_EN = true) : s.gdLow.guard.lowSince = s.elapsed := by
  rw [gdLow_eq, high, when_true, gdDropped, guard_mapGuard]

/-! A period's legs (R474) -/

/-- A leg's lines taken by the guard. -/
def legTaken (leg : Nat) (s : State) : State :=
  let per := s.ibit F.GUARD_CFG_MODE leg
  let ab := s.legLines leg
  let ul := requestsOf per ab.1 ab.2
  s.takeLeg (s.chan leg).window (!per) leg ul.1 ul.2

/-- What the guard makes of a leg's lines. -/
def legRequests (leg : Nat) (s : State) : (Bool × Bool) × (Bool × Bool) :=
  requestsOf (s.ibit F.GUARD_CFG_MODE leg) (s.legLines leg).1 (s.legLines leg).2

theorem kept_legTaken (leg : Nat) : Kept legRegs [.guard, .router] s (s.legTaken leg) := kept_takeLeg ..

theorem req_legTaken (leg k : Nat) : ((s.legTaken leg).sw k).req =
    if k = 2 * leg + 1 then ((s.legRequests leg).2.1 && !(s.legRequests leg).1.1, (s.legRequests leg).2.2 && !(s.legRequests leg).1.2)
    else if k = 2 * leg then ((s.legRequests leg).1.1 && !(s.legRequests leg).2.1, (s.legRequests leg).1.2 && !(s.legRequests leg).2.2)
    else (s.sw k).req := req_takeLeg ..

/-- A leg's requests are what its own lines make of them at some state of the same registers. -/
theorem req_legsTaken {leg : Nat} (h : leg < 3) : ∃ y, Kept legRegs [.guard, .router] s y ∧
    ((s.each [0, 1, 2] legTaken).sw (2 * leg)).req =
      ((y.legRequests leg).1.1 && !(y.legRequests leg).2.1, (y.legRequests leg).1.2 && !(y.legRequests leg).2.2) ∧
    ((s.each [0, 1, 2] legTaken).sw (2 * leg + 1)).req =
      ((y.legRequests leg).2.1 && !(y.legRequests leg).1.1, (y.legRequests leg).2.2 && !(y.legRequests leg).1.2) := by
  obtain ⟨y, before, -, upper, lower⟩ := each_once s
    (R := fun i x y => Kept legRegs [.guard, .router] x y ∧ (y.sw (2 * i)).req = (x.sw (2 * i)).req ∧ (y.sw (2 * i + 1)).req = (x.sw (2 * i + 1)).req)
    (f := legTaken) (l := [0, 1, 2]) (c := leg) (fun _ _ => ⟨Kept.rfl, rfl, rfl⟩)
    (fun h h' => ⟨h.1.trans h'.1, h'.2.1.trans h.2.1, h'.2.2.trans h.2.2⟩)
    (fun {i j} x ne => ⟨x.kept_legTaken i, by rw [req_legTaken, if_neg (by omega), if_neg (by omega)],
      by rw [req_legTaken, if_neg (by omega), if_neg (by omega)]⟩) (by decide)
    (by interval_cases leg <;> decide)
  refine ⟨y, before.1, upper.trans ?_, lower.trans ?_⟩
  · rw [req_legTaken, if_neg (by omega), if_pos rfl]
  · rw [req_legTaken, if_pos rfl]

theorem legRequests_manual {a y : State} {regs : List Nat} {parts : List Part} (k : Kept regs parts a y) (manual : a.bit F.PUMP_CTRL_MANUAL = true)
    (leg : Nat) (ctrl : Reg.PUMP_CTRL ∉ regs := by decide) (lines : Reg.PUMP_MANUAL ∉ regs := by decide)
    (cfg : Reg.GUARD_CFG ∉ regs := by decide) : y.legRequests leg = a.legRequests leg := by
  have man : y.bit F.PUMP_CTRL_MANUAL = a.bit F.PUMP_CTRL_MANUAL := k.bit (f := F.PUMP_CTRL_MANUAL) ctrl
  have en : y.bit F.PUMP_CTRL_EN = a.bit F.PUMP_CTRL_EN := k.bit (f := F.PUMP_CTRL_EN) ctrl
  have mode : y.ibit F.GUARD_CFG_MODE leg = a.ibit F.GUARD_CFG_MODE leg := k.ibit (f := F.GUARD_CFG_MODE) cfg
  have same : y.legLines leg = a.legLines leg := by
    rw [legLines, legLines, man, if_pos manual, if_pos manual, en, k.reg lines]
  rw [legRequests, legRequests, mode, same]

end State

end Sys2Proof.Machine

/-! PROOFS. PERIOD_START and the statement on the local switches and the PWM unit (O35). -/

namespace Sys2Proof.Machine

set_option Elab.async false

namespace State

variable (s : State)

theorem legRegs_gate : legRegs ⊆ gateRegs := by
  simp only [List.cons_subset, List.nil_subset, and_true]
  exact ⟨mem_gateRegs, mem_gateRegs, mem_gateRegs⟩

theorem kept_reacted : Kept gateRegs gateParts s s.pumpReact := s.kept_pumpReact.mono reactRegs_gate

/-- The bridge's period from its start on. -/
def bridgeStarted (at_ : Nat) (s : State) : State :=
  let s := s.when (!s.bit F.PUMP_CTRL_MANUAL) fun s => (s.drivePeriod at_).driveLoad
  (s.each [0, 1, 2] legTaken).pumpReact.showMeas

/-- The drive's own values, where the operation is automatic. -/
def driven1 (at_ : Nat) (s : State) : State := s.when (!s.bit F.PUMP_CTRL_MANUAL) fun s => (s.drivePeriod at_).driveLoad

/-- The channels' period taken by the guard. -/
def taken (chop : Bool) (s : State) : State := s.mapChans (channelsOf chop) fun _ _ x => { x with fresh := false }

/-- CHOP's line in the period. -/
def chopStarted (s : State) : State := s.takeChop (s.chan 3).window (if s.bit F.PUMP_STATUS_CHOP_ACTIVE then lineOf 2 else lineOf 0)

/-- A period start, after its shadows (R475, R509). -/
def periodStarted (chop : Bool) (s : State) : State :=
  if !(s.chan (if chop then 3 else 0)).fresh || s.tableau then s
  else if chop then (s.taken chop).chopStarted
  else (s.taken chop).bridgeStarted (s.chan (if chop then 3 else 0)).start

theorem execPeriodStart_eq (t : Nat) (chop : Bool) : execPeriodStart t chop s = s.run t fun s => (s.beginPeriod chop).periodStarted chop := rfl

theorem kept_driven1 (at_ : Nat) : Kept gateRegs gateParts s (s.driven1 at_) :=
  Kept.rfl.when fun h => (h.trans (kept_drivePeriod ..)).trans (kept_driveLoad _)

theorem periodAt_driven1 (at_ c : Nat) : (s.driven1 at_).periodAt c = s.periodAt c :=
  when_eq (periodAt c) _ ((periodAt_driveLoad ..).trans (periodAt_congr (chans_drivePeriod ..) c))

theorem kept_legsTaken : Kept legRegs [.guard, .router] s (s.each [0, 1, 2] legTaken) :=
  Kept.rfl.each fun _ _ _ h => h.trans (kept_legTaken ..)

theorem kept_showMeas : Kept [Reg.PUMP_SPEED] [] s s.showMeas := Kept.rfl.setSat

theorem kept_bridgeStarted (at_ : Nat) : Kept gateRegs gateParts s (s.bridgeStarted at_) := by
  change Kept gateRegs gateParts s ((s.driven1 at_).each [0, 1, 2] legTaken).pumpReact.showMeas
  exact (((s.kept_driven1 at_).trans ((kept_legsTaken _).mono legRegs_gate)).trans (kept_reacted _)).trans
    ((kept_showMeas _).mono (List.cons_subset.2 ⟨pumpRegs_gate mem_pumpRegs_pump, List.nil_subset _⟩) (List.nil_subset _))

theorem kept_lastSteps : Kept (Reg.PUMP_SPEED :: reactRegs) pumpParts s s.pumpReact.showMeas :=
  (s.kept_pumpReact.mono (List.subset_cons_self ..)).trans ((kept_showMeas _).mono (by decide) (List.nil_subset _))

theorem periodAt_bridgeStarted (at_ c : Nat) : (s.bridgeStarted at_).periodAt c = s.periodAt c := by
  change (((s.driven1 at_).each [0, 1, 2] legTaken).pumpReact.showMeas).periodAt c = _
  obtain ⟨x, hx⟩ : ∃ x, (s.driven1 at_).each [0, 1, 2] legTaken = x := ⟨_, rfl⟩
  have legs : x.pump = (s.driven1 at_).pump := hx ▸ (kept_legsTaken _).2 .pump (by decide)
  have last : x.pumpReact.showMeas.pump.chans = x.pump.chans := by
    rw [(kept_showMeas _).2 .pump (by decide), chans_pumpReact]
  rw [hx, periodAt_congr last, periodAt_congr (congrArg Pump.chans legs), periodAt_driven1]

/-- A leg's requests at a bridge period start. -/
theorem req_bridgeStarted (at_ : Nat) {leg : Nat} (h : leg < 3) : ∃ y, Kept gateRegs gateParts s y ∧
    (s.bit F.PUMP_CTRL_MANUAL = true → y.legRequests leg = s.legRequests leg) ∧
    ((s.bridgeStarted at_).sw (2 * leg)).req =
      ((y.legRequests leg).1.1 && !(y.legRequests leg).2.1, (y.legRequests leg).1.2 && !(y.legRequests leg).2.2) ∧
    ((s.bridgeStarted at_).sw (2 * leg + 1)).req =
      ((y.legRequests leg).2.1 && !(y.legRequests leg).1.1, (y.legRequests leg).2.2 && !(y.legRequests leg).1.2) := by
  obtain ⟨x, hx⟩ : ∃ x, s.driven1 at_ = x := ⟨_, rfl⟩
  obtain ⟨y, before, upper, lower⟩ := x.req_legsTaken h
  obtain ⟨z, hz⟩ : ∃ z, x.each [0, 1, 2] legTaken = z := ⟨_, rfl⟩
  have eq : s.bridgeStarted at_ = z.pumpReact.showMeas := by
    change ((s.driven1 at_).each [0, 1, 2] legTaken).pumpReact.showMeas = _
    rw [hx, hz]
  have guard : (s.bridgeStarted at_).guard = z.guard := by
    rw [eq]
    exact z.kept_lastSteps.2 .guard (by decide)
  rw [hz] at upper lower
  refine ⟨y, (hx ▸ s.kept_driven1 at_).trans (before.mono legRegs_gate), fun manual => ?_, ?_, ?_⟩
  · have same : x = s := by
      rw [← hx, driven1, manual]
      exact s.when_false _
    subst same
    exact legRequests_manual before manual leg
  · rw [sw_congr guard, upper]
  · rw [sw_congr guard, lower]

theorem kept_taken (chop : Bool) : Kept [] [.pump] s (s.taken chop) := s.kept_mapChans ..

theorem periodAt_taken {chop : Bool} {c : Nat} (mem : c ∈ channelsOf chop) : (s.taken chop).periodAt c = ((s.chan c).start, false) := by
  obtain ⟨y, -, eq⟩ := s.chan_mapChans (nodup_channelsOf chop) mem fun _ _ x => { x with fresh := false }
  rw [periodAt, taken, eq]

end State

/-- No two switches of a leg in one part. -/
theorem requests_apart (u l : Bool × Bool) :
    ¬((u.1 && !l.1) = true ∧ (l.1 && !u.1) = true) ∧ ¬((u.2 && !l.2) = true ∧ (l.2 && !u.2) = true) := by
  obtain ⟨a, b⟩ := u
  obtain ⟨c, d⟩ := l
  cases a <;> cases b <;> cases c <;> cases d <;> simp

/-- The events of a channel are unclassed. -/
theorem pwm_unclassed : ∀ key < 16, faultClass (208 + key) 0 = none := by decide

namespace State

variable (s : State)

/-- A PERIOD_START that the guard takes (R475, R479, R480). -/
theorem started_spec (chop : Bool) {x : Chan} (hx : s.chan (if chop then 3 else 0) = x) (live : s.tableau = false)
    (due : x.fresh = true ∨ x.start + 2 * x.period ≤ s.elapsed) :
    ∃ y, (s.beginPeriod chop).periodStarted chop = y.periodStarted chop ∧ Kept [] [.pump] s y ∧
      (y.chan (if chop then 3 else 0)).fresh = true ∧ y.tableau = false ∧
      (y.chan (if chop then 3 else 0)).start = if x.fresh then x.start else x.start + 2 * x.period := by
  refine ⟨_, rfl, s.kept_beginPeriod chop, ?_⟩
  have tableau : (s.beginPeriod chop).tableau = false := (s.kept_beginPeriod chop).bit.trans live
  by_cases fresh : x.fresh = true
  · have idle : s.periodDue chop = false := by
      unfold periodDue
      simp only [hx, fresh]
      simp
    rw [beginPeriod_idle idle, hx, fresh]
    exact ⟨rfl, live, rfl⟩
  · have now : s.periodDue chop = true := by
      unfold periodDue
      simp only [hx, live]
      simpa [fresh] using due.resolve_left fresh
    rw [chan_beginPeriod now (first_mem_channelsOf chop), hx, if_neg fresh]
    exact ⟨x.fresh_next, tableau, x.start_next⟩

end State

namespace State

variable (s : State)

/-- A switch whose blanking is over judged (R483). -/
def blankingJudged (switch : Fin 6) (s : State) : State :=
  let s := s.settleSwitches
  let w := s.sw switch
  if s.bit F.GUARD_CTRL_DESAT_EN && s.swOn switch && !w.blanked && w.from_ + 2 * s.get F.GUARD_BLANK_BLANK ≤ s.elapsed then
    let s := s.setSw switch { w with blanked := true }
    if s.compActive (26 + switch) then (s.desatFault switch).pumpReact else s
  else s

theorem execBlankingEnd_eq (t : Nat) (k : Fin 6) : execBlankingEnd t k s = s.run t (blankingJudged k) := rfl

theorem blankingJudged_of {s y z : State} {k : Fin 6} (hy : s.settleSwitches = y) (hz : y.setSw k { y.sw k with blanked := true } = z) :
    s.blankingJudged k =
      if y.bit F.GUARD_CTRL_DESAT_EN && y.swOn k && !(y.sw k).blanked && decide ((y.sw k).from_ + 2 * y.get F.GUARD_BLANK_BLANK ≤ y.elapsed) then
        if z.compActive (26 + k) then (z.desatFault k).pumpReact else z
      else y := by
  subst hy hz
  rfl

/-- A prescaler's count put. -/
def presced (key n : Nat) (s : State) : State := s.mapPump fun p => { p with presc := Sparse.set (fun _ => 0) p.presc key n }

/-- An occurrence of a PWM event taken (R501). -/
def pwmTaken (channel kind : Fin 4) (h : Nat) (s : State) : State :=
  let x := s.chan channel
  let s := s.setChan channel { x with taken := Sparse.set (fun _ => none) x.taken kind (some x.start) }
  if !(s.reg (Reg.PUMP_PWM_EVT channel)).getLsbD kind then s
  else
    let key := 4 * channel.val + kind.val
    let n := Sparse.get (fun _ => 0) s.pump.presc key
    let fire := s.get (F.PUMP_PWM_EVT_PRESC channel) ≤ n
    let s := s.presced key (if fire then 0 else n + 1)
    s.when fire fun s => s.raiseAt (s.datum - (s.elapsed - h)) (208 + key) 0

/-- An event taken counts once, and each (PRESC + 1)-th of an enabled type is raised with its own stamp. -/
theorem pwmTaken_spec (c k : Fin 4) (h : Nat) :
    Sparse.get (fun _ => none) ((s.pwmTaken c k h).chan c).taken k = some (s.chan c).start ∧ Kept [] [.pump, .router] s (s.pwmTaken c k h) ∧
    if (s.reg (Reg.PUMP_PWM_EVT c)).getLsbD k then
      (if s.get (F.PUMP_PWM_EVT_PRESC c) ≤ Sparse.get (fun _ => 0) s.pump.presc (4 * c.val + k.val) then
        Raised [(s.datum - (s.elapsed - h), 208 + (4 * c.val + k.val), 0)] s (s.pwmTaken c k h) ∧
          Sparse.get (fun _ => 0) (s.pwmTaken c k h).pump.presc (4 * c.val + k.val) = 0
      else (s.pwmTaken c k h).router = s.router ∧
        Sparse.get (fun _ => 0) (s.pwmTaken c k h).pump.presc (4 * c.val + k.val) =
          Sparse.get (fun _ => 0) s.pump.presc (4 * c.val + k.val) + 1)
    else (s.pwmTaken c k h).router = s.router ∧ (s.pwmTaken c k h).pump.presc = s.pump.presc := by
  obtain ⟨y, hy⟩ : ∃ y, s.setChan c { s.chan c with taken := Sparse.set (fun _ => none) (s.chan c).taken k (some (s.chan c).start) } = y := ⟨_, rfl⟩
  have noted : Kept [] [.pump] s y := hy ▸ s.kept_setChan ..
  have takenAt : y.chan c = { s.chan c with taken := Sparse.set (fun _ => none) (s.chan c).taken k (some (s.chan c).start) } := by
    rw [← hy, chan_setChan_same]
  have presc : y.pump.presc = s.pump.presc := by
    rw [← hy]
    rfl
  have time : y.elapsed = s.elapsed := by rw [← hy, elapsed_setChan]
  have last (b : State) (chans : b.pump.chans = y.pump.chans) : Sparse.get (fun _ => none) (b.chan c).taken k = some (s.chan c).start := by
    rw [chan_congr chans, takenAt, Sparse.get_set, if_pos rfl]
  obtain ⟨n, hn⟩ : ∃ n, Sparse.get (fun _ => 0) s.pump.presc (4 * c.val + k.val) = n := ⟨_, rfl⟩
  have eq : s.pwmTaken c k h = if !(y.reg (Reg.PUMP_PWM_EVT c)).getLsbD k then y
      else (y.presced (4 * c.val + k.val)
          (if y.get (F.PUMP_PWM_EVT_PRESC c) ≤ Sparse.get (fun _ => 0) y.pump.presc (4 * c.val + k.val) then 0
            else Sparse.get (fun _ => 0) y.pump.presc (4 * c.val + k.val) + 1)).when
        (y.get (F.PUMP_PWM_EVT_PRESC c) ≤ Sparse.get (fun _ => 0) y.pump.presc (4 * c.val + k.val))
        fun s => s.raiseAt (s.datum - (s.elapsed - h)) (208 + (4 * c.val + k.val)) 0 := by
    rw [← hy]
    rfl
  rw [presc, hn, noted.reg (List.not_mem_nil), noted.get (List.not_mem_nil)] at eq
  rw [hn]
  cases enabled : (s.reg (Reg.PUMP_PWM_EVT c)).getLsbD k
  · rw [enabled] at eq
    have eq : s.pwmTaken c k h = y := eq
    rw [eq, if_neg (by decide)]
    exact ⟨last y rfl, noted.mono, noted.2 .router (by decide), presc⟩
  · rw [enabled] at eq
    obtain ⟨z, hz⟩ : ∃ z, y.presced (4 * c.val + k.val) (if s.get (F.PUMP_PWM_EVT_PRESC c) ≤ n then 0 else n + 1) = z := ⟨_, rfl⟩
    have eq : s.pwmTaken c k h = z.when (s.get (F.PUMP_PWM_EVT_PRESC c) ≤ n)
        fun s => s.raiseAt (s.datum - (s.elapsed - h)) (208 + (4 * c.val + k.val)) 0 := hz ▸ eq
    have kept : Kept [] [.pump] s z := hz ▸ noted.mapPump
    have chans : z.pump.chans = y.pump.chans := by rw [← hz, presced, pump_mapPump]
    have count : Sparse.get (fun _ => 0) z.pump.presc (4 * c.val + k.val) = if s.get (F.PUMP_PWM_EVT_PRESC c) ≤ n then 0 else n + 1 := by
      rw [← hz, presced, pump_mapPump, Sparse.get_set, if_pos rfl]
    rw [if_pos rfl]
    by_cases fire : s.get (F.PUMP_PWM_EVT_PRESC c) ≤ n
    · rw [decide_eq_true fire, when_true] at eq
      rw [if_pos fire] at count ⊢
      have unclassed : faultClass (208 + (4 * c.val + k.val)) 0 = none := pwm_unclassed _ (by omega)
      have clock : z.elapsed = s.elapsed := by rw [← hz, presced, elapsed_mapPump, time]
      have datum : z.datum = s.datum := kept.2 .datum (by decide)
      rw [eq]
      refine ⟨last _ (by rw [pump_raiseAt, chans]), Kept.raiseAt kept.mono (unclassed := unclassed), ?_, by rw [pump_raiseAt, count]⟩
      rw [clock, datum]
      exact kept.raisedAt
    · rw [decide_eq_false fire, when_false] at eq
      rw [if_neg fire] at count ⊢
      rw [eq]
      exact ⟨last z chans, kept.mono, kept.2 .router (by decide), count⟩

/-- Every channel's shadows marked (R500). -/
theorem chan_markAll {c : Nat} (h : c < 4) : (s.each (List.range 4) markShadow).chan c = { s.chan c with load := some (s.elapsed,
    (if c = 3 then s.get F.PUMP_PWM_CHOP_PERIOD_PERIOD else s.get F.PUMP_PWM_PERIOD_PERIOD),
    s.get (F.PUMP_PWM_DUTY_DUTY c), s.get (F.PUMP_PWM_MARK_MARK c)) } := by
  obtain ⟨y, before, after⟩ := each_once s (R := SameChan) (f := markShadow) SameChan.refl SameChan.trans
    (fun x h => x.sameChan_step h _) List.nodup_range (List.mem_range.2 h)
  rw [after.chan, markShadow, chan_setChan_same, before.chan, before.elapsed, before.kept.get (List.not_mem_nil), before.kept.get (List.not_mem_nil),
    before.kept.get (List.not_mem_nil), before.kept.get (List.not_mem_nil)]

end State

/-- Settles O35: switches are told apart by their places, requests survive the judging of pulses, and what follows at the drive leaves the guard. -/
theorem switchesAndPwmPeriods : Obligations.SwitchesAndPwmPeriods := by
  refine ⟨?deadTime, ?blanking, ?gdEn, ?stageLoss, ?loadAll, ?shadow, ?period, ?event⟩
  case deadTime =>
    intro s t k a w
    have now : s.advance t = a := rfl
    clear_value a
    refine completes_at (x := a.setSw k (if a.heldOff k then { w with wait := none } else w.settle a.pinTime)) (exec_deadTimeEnd t k s) now ?_
      ⟨(a.kept_setSw ..).settled now, fun j hj => ?_, fun held => ?_, fun free => ⟨fun x y wait past => ?_, fun x y wait later => ?_, fun idle => ?_⟩⟩
    · dsimp only
      split <;> rfl
    · exact (State.sw_congr (State.guard_settle ..) j).trans (a.sw_setSw_of_ne _ hj)
    all_goals
      refine (State.sw_congr (State.guard_settle ..) k).trans ((a.sw_setSw_same ..).trans ?_)
    · rw [if_pos held]
    all_goals
      rw [if_neg (by simp [free]), Switch.settle]
    · rw [wait]
      exact if_pos past
    · rw [wait]
      exact if_neg (by omega)
    · rw [idle]
  case blanking =>
    intro s t k a w due
    have now : s.advance t = a := rfl
    clear_value a
    obtain ⟨y, hy⟩ : ∃ y, a.settleSwitches = y := ⟨_, rfl⟩
    have clock : State.SameClock a y := hy ▸ a.sameClock_settleSwitches
    have sw : y.sw k = w := hy ▸ a.sw_settleSwitches (k.isLt.trans (by decide))
    have pin : y.pinTime = a.pinTime := clock.pinTime
    have same : (y.bit F.GUARD_CTRL_DESAT_EN && y.swOn k && !(y.sw k).blanked &&
        decide ((y.sw k).from_ + 2 * y.get F.GUARD_BLANK_BLANK ≤ y.elapsed)) = due := by
      rw [State.swOn, sw, pin, clock.kept.bit, clock.kept.get, clock.elapsed]
    have effect : exec (.blankingEnd t k) s = s.run t (State.blankingJudged k) := (exec_blankingEnd t k s).trans (s.execBlankingEnd_eq t k)
    obtain ⟨z, hz⟩ : ∃ z, y.setSw k { y.sw k with blanked := true } = z := ⟨_, rfl⟩
    have noted : State.SameClock a z := hz ▸ clock.trans (y.sameClock_setSw ..)
    have comp : z.compActive (26 + k) = a.compActive (26 + k) := by
      have tripped : z.ibit F.COMP_STATE_TRIPPED (26 + k) = a.ibit F.COMP_STATE_TRIPPED (26 + k) := noted.kept.ibit
      have filt : z.get (F.COMP_CFG_FILT (26 + k)) = a.get (F.COMP_CFG_FILT (26 + k)) := noted.kept.get (by simp)
      rw [State.compActive, State.compActive, tripped, State.compTesting, State.compTesting, noted.kept.2 .conv (by decide), noted.elapsed, filt]
    have blanked : z.sw k = { w with blanked := true } := by
      rw [← hz, State.sw_setSw_same, sw]
    cases hdue : due
    · refine completes_at (x := y) effect now ?_ ⟨fun _ => ⟨(State.sw_congr (State.guard_settle ..) k).trans sw, clock.kept.settled now⟩,
        fun h => absurd h (by decide), fun h => absurd h (by decide)⟩
      rw [State.blankingJudged_of hy hz, same, hdue]
      rfl
    · cases act : a.compActive (26 + k)
      · refine completes_at (x := z) effect now ?_ ⟨fun h => absurd h (by decide),
          fun _ _ => ⟨(State.sw_congr (State.guard_settle ..) k).trans blanked, noted.kept.settled now⟩, fun _ h => absurd h (by decide)⟩
        rw [State.blankingJudged_of hy hz, same, hdue, comp, act]
        rfl
      · obtain ⟨f, hf⟩ : ∃ f, z.desatFault k = f := ⟨_, rfl⟩
        have fault : Kept gateRegs gateParts a f := by
          refine (noted.kept.mono (List.nil_subset _)).trans (hf ▸ (z.kept_desatFault k).mono ?_)
          simp only [List.cons_subset, List.nil_subset, and_true]
          exact ⟨mem_gateRegs, mem_gateRegs, mem_gateRegs_seen⟩
        have reacted : Kept gateRegs gateParts a f.pumpReact := fault.trans (State.kept_reacted f)
        have guard : f.pumpReact.guard = f.guard := f.kept_pumpReact.2 .guard (by decide)
        refine completes_at (x := f.pumpReact) effect now ?_ ⟨fun h => absurd h (by decide), fun _ h => absurd h (by decide),
          fun _ _ => ⟨?_, ?_, ?_, reacted.settled now, ?_⟩⟩
        · rw [State.blankingJudged_of hy hz, same, hdue, comp, act, hf, if_pos rfl, if_pos rfl]
        · have pinTime : (s.settle a f.pumpReact).pinTime = z.pinTime := by
            rw [noted.pinTime]
            exact State.pinTime_of_kept (reacted.settled now) rfl (not_mem_gateRegs (by decide)) (by decide)
          rw [State.swOn, State.sw_congr ((State.guard_settle ..).trans guard), pinTime, ← hf]
          exact z.onAt_desatFault k.isLt
        · refine (State.ibit_settle ..).trans (f.kept_pumpReact.ibit.trans ?_)
          rw [← hf]
          exact z.faulted_desatFault k.isLt
        · refine (State.get_settle ..).trans (f.kept_pumpReact.get.trans ?_)
          rw [← hf, z.count_desatFault, noted.kept.get]
        · have told : Raised [(z.datum, 192, k.val)] z f := hf ▸ z.raised_desatFault k
          rw [noted.kept.2 .datum (by decide)] at told
          exact (told.of_kept noted.kept).first f.raises_pumpReact
  case gdEn =>
    intro s t data a low trip live
    have now : s.advance t = a := rfl
    clear_value a
    obtain ⟨y, hy⟩ : ∃ y, a.gateWritten data = y := ⟨_, rfl⟩
    have written : Kept [Reg.GUARD_CTRL] [.guard] a y := hy ▸ a.kept_gateWritten data
    have time : y.elapsed = a.elapsed := hy ▸ a.elapsed_gateWritten data
    have since : y.guard.lowSince = a.guard.lowSince := hy ▸ a.lowSince_gateWritten data
    have judged : y.rose.tripActive = trip := hy ▸ a.tripActive_rose data
    obtain ⟨x, hx⟩ : ∃ x, a.writeGuardCtrl data = x := ⟨_, rfl⟩
    have cases_ := hx ▸ a.writeGuardCtrl_eq data
    rw [hy, time, since, judged] at cases_
    have rose : Kept [Reg.GUARD_CTRL, Reg.GUARD_LOW] [.guard] a y.rose := written.mono.trans (y.kept_rose).mono
    have lowTime : y.rose.get F.GUARD_LOW_TIME = min low 0xFFFFFFFF := by
      rw [State.rose, (Kept.rfl.mapGuard : Kept [] [.guard] _ _).get, time, since]
      exact State.get_set_of_lt (f := F.GUARD_LOW_TIME) _ (by decide) (by change min low 0xFFFFFFFF < 2 ^ 32; omega)
    have kept : Kept [Reg.GUARD_CTRL, Reg.GUARD_LOW, Reg.GUARD_STATUS, Reg.GUARD_CLEARS, Reg.GUARD_CLEAR_REFUSED] [.guard, .router] a x := by
      rw [cases_]
      exact Kept.ite (Kept.ite (rose.mono.trans (State.kept_latchesCleared _).mono) (rose.mono.trans (State.kept_clearRefused _).mono))
        (Kept.ite (written.mono.trans (State.kept_fell _).mono) written.mono)
    have ctrl (f : FieldRef) (addr : f.addr = Reg.GUARD_CTRL) : x.bit f = y.bit f := by
      have keep {r : List Nat} {p : List Part} {z : State} (k : Kept r p y z) (h : Reg.GUARD_CTRL ∉ r) : z.bit f = y.bit f := k.bit (addr ▸ h)
      have up : y.rose.bit f = y.bit f := keep y.kept_rose (by decide)
      rw [cases_]
      split
      · split
        · exact (Kept.bit (State.kept_latchesCleared _) (addr ▸ (by decide))).trans up
        · exact (Kept.bit (State.kept_clearRefused _) (addr ▸ (by decide))).trans up
      · split
        · exact keep y.kept_fell (by decide)
        · rfl
    have react : Kept reactRegs pumpParts x x.pumpReact := x.kept_pumpReact
    have guard : x.pumpReact.guard = x.guard := react.2 .guard (by decide)
    have latched : x.pumpReact.guardLatched = x.guardLatched := State.latched_of_kept react
    have effect : exec (.gdEn t data) s = s.run t fun s => s.bar0 Reg.GUARD_CTRL data fun s => (s.writeGuardCtrl data).pumpReact := exec_gdEn t data s
    refine completes_at (x := x.pumpReact) effect now ((State.bar0_of_not_tableau live ..).trans (by rw [hx])) ⟨?_, ?_, ?_, fun was up => ⟨?_, fun long quiet => ?_, fun short => ?_⟩,
      fun was down => ?_, fun same => ?_⟩
    · rw [State.bit_settle, react.bit, ctrl _ rfl, ← hy, State.gdEn_gateWritten]
    · rw [State.bit_settle, react.bit, ctrl _ rfl, ← hy, State.desatEn_gateWritten]
    · refine Kept.settled now ((kept.mono ?_).trans (State.kept_reacted x))
      simp only [List.cons_subset, List.nil_subset, and_true]
      exact ⟨mem_gateRegs, mem_gateRegs, mem_gateRegs, mem_gateRegs, mem_gateRegs⟩
    · rw [State.get_settle, react.get, ← lowTime, cases_, up, was]
      simp only [Bool.not_false, Bool.and_self, if_true]
      split
      · exact (State.kept_latchesCleared _).get
      · exact (State.kept_clearRefused _).get
    · have eq : x = y.rose.latchesCleared := by
        rw [cases_, up, was, quiet, decide_eq_true long]
        rfl
      obtain ⟨clear, carry⟩ := y.rose.unlatched_spec
      have last : Kept [Reg.GUARD_CLEARS] [.router] y.rose.unlatched x := eq ▸ Kept.rfl.count.raise
      refine ⟨?_, fun k hk => ?_, ?_, ?_⟩
      · exact s.guardLatched_settle.trans (latched.trans ((State.latched_of_kept last).trans clear))
      · rw [State.sw_congr ((State.guard_settle ..).trans (guard.trans (last.2 .guard (by decide)))), carry k hk]
      · rw [State.get_settle, react.get, eq, State.latchesCleared, State.get_raise_apart _ (by decide), State.get_count_same _ (by decide),
          (State.kept_unlatched _).get, rose.get]
        rfl
      · have told : Raised [(y.rose.unlatched.datum, 196, 0)] y.rose.unlatched x := by
          rw [eq, State.latchesCleared]
          exact (Kept.rfl.count : Kept [Reg.GUARD_CLEARS] [] _ _).raised
        have before : Kept [Reg.GUARD_CTRL, Reg.GUARD_LOW, Reg.GUARD_STATUS] [.guard] a y.rose.unlatched := rose.mono.trans (State.kept_unlatched _).mono
        rw [before.2 .datum (by decide)] at told
        exact (told.of_kept before).first x.raises_pumpReact
    · have eq : x = y.rose.clearRefused := by
        have no : (decide (10000 ≤ a.elapsed - a.guard.lowSince) && !trip) = false := by
          rw [Bool.and_eq_false_iff]
          by_cases long : 10000 ≤ low
          · right
            simpa using fun h => short ⟨long, h⟩
          · exact .inl (decide_eq_false long)
        rw [cases_, up, was, no]
        rfl
      have last : Kept [Reg.GUARD_CLEAR_REFUSED] [.router] (y.rose.setBit F.GUARD_STATUS_CLEAR_REFUSED true) x := eq ▸ Kept.rfl.count.raise
      refine ⟨?_, ?_, ?_, ?_⟩
      · rw [State.bit_settle, react.bit, last.bit, State.bit_setBit_same _ (by decide) rfl]
      · have fields (f : FieldRef) (h : apart F.GUARD_STATUS_CLEAR_REFUSED f = true) (addr : f.addr = Reg.GUARD_STATUS) : x.get f = a.get f := by
          rw [last.get (addr ▸ (by decide)), State.get_setBit_apart _ h, rose.get (addr ▸ (by decide))]
        refine s.guardLatched_settle.trans (latched.trans ?_)
        rw [State.guardLatched, State.guardLatched, State.bit, State.bit, State.bit, State.bit, fields _ (by decide) rfl, fields _ (by decide) rfl,
          fields _ (by decide) rfl]
      · rw [State.get_settle, react.get, eq, State.clearRefused, State.get_raise_apart _ (by decide), State.get_count_same _ (by decide),
          State.get_setBit_apart _ (by decide), rose.get]
        rfl
      · have told : Raised [(y.rose.datum, 197, 0)] y.rose x := by
          rw [eq, State.clearRefused]
          exact (Kept.rfl.setBit.count : Kept [Reg.GUARD_STATUS, Reg.GUARD_CLEAR_REFUSED] [] _ _).raised
        rw [rose.2 .datum (by decide)] at told
        exact (told.of_kept rose).first x.raises_pumpReact
    · have eq : x = y.fell := by
        rw [cases_, down, was]
        rfl
      have same : x.pumpReact.guard = y.fell.guard := by rw [guard, eq]
      refine ⟨?_, ?_, fun k hk => ?_⟩
      · rw [State.guard_settle, same, State.fell, State.guard_mapGuard, time]
      · refine s.guardLatched_settle.trans (latched.trans ?_)
        rw [eq]
        exact (State.latched_of_kept y.kept_fell).trans (State.latched_of_kept written)
      · have switches : y.fell.guard.switches = y.clearCarries.guard.switches := by rw [State.fell, State.guard_mapGuard]
        rw [State.sw_congr ((State.guard_settle ..).trans same), State.sw, switches]
        exact congrArg Switch.carry (y.sw_clearCarries hk)
    · have eq : x = y := by
        rw [cases_, same]
        cases data.getLsbD 0 <;> rfl
      refine ⟨?_, ?_, ?_⟩
      · refine s.guardLatched_settle.trans (latched.trans ?_)
        rw [eq]
        exact State.latched_of_kept written
      · rw [State.guard_settle, guard, eq, since]
      · rw [State.get_settle, react.get, eq, written.get]
  case stageLoss =>
    intro s t a
    have now : s.advance t = a := rfl
    clear_value a
    obtain ⟨y, hy⟩ : ∃ y, a.gatesOff = y := ⟨_, rfl⟩
    have clock : State.SameClock a y := hy ▸ a.sameClock_gatesOff
    have off (k : Nat) (h : k < 7) : (y.sw k).onAt a.pinTime = false := hy ▸ a.onAt_gatesOff h
    obtain ⟨z, hz⟩ : ∃ z, y.gdLow = z := ⟨_, rfl⟩
    have low : Kept [Reg.GUARD_CTRL] [.guard] a z := clock.kept.mono.trans (hz ▸ y.kept_gdLow)
    obtain ⟨f, hf⟩ : ∃ f, z.pumpFaultAs 7 = f := ⟨_, rfl⟩
    have fault : Kept reactRegs pumpParts z f := hf ▸ z.kept_pumpFaultAs_react 7
    have last : Kept reactRegs pumpParts z f.chopOff := fault.trans (f.kept_chopOff.mono)
    have kept : Kept gateRegs gateParts a f.chopOff :=
      (low.mono (List.cons_subset.2 ⟨mem_gateRegs, List.nil_subset _⟩)).trans (last.mono reactRegs_gate)
    have guard : f.chopOff.guard = z.guard := last.2 .guard (by decide)
    refine completes_at (x := f.chopOff) (exec_stageLoss t s) now (by rw [State.stageLoss_eq, hy, hz, hf])
      ⟨fun k hk => ?_, ?_, ?_, ?_, ?_, ?_, fun high => ?_, kept.settled now⟩
    · have pinTime : (s.settle a f.chopOff).pinTime = a.pinTime :=
        State.pinTime_of_kept (kept.settled now) rfl (not_mem_gateRegs (by decide)) (by decide)
      rw [State.swOn, State.sw_congr ((State.guard_settle ..).trans guard), pinTime, ← hz, y.onAt_gdLow hk, off k hk]
    · rw [State.bit_settle, last.bit, ← hz, State.gdEn_gdLow]
    · refine (State.get_settle ..).trans ((f.get_chopOff (by decide)).trans ?_)
      rw [← hf]
      exact z.pState_pumpFaultAs 7
    · rw [State.get_settle, f.get_chopOff (by decide), ← hf, State.fault_pumpFaultAs _ (by decide)]
    · rw [State.bit_settle, State.active_chopOff]
    · refine (State.get_settle ..).trans ((f.get_chopOff (by decide)).trans ?_)
      rw [← hf]
      exact z.pSector_pumpFaultAs 7
    · rw [State.guard_settle, guard, ← hz, State.lowSince_gdLow (clock.kept.bit.trans high), clock.elapsed]
  case loadAll =>
    intro s t data a live
    have now : s.advance t = a := rfl
    clear_value a
    have effect : exec (.loadAll t data) s = s.run t fun s => s.bar0 Reg.PUMP_PWM_LOAD data (State.writeLoadAll data) := exec_loadAll t data s
    have run {x : State} (h : a.writeLoadAll data = x) : a.bar0 Reg.PUMP_PWM_LOAD data (State.writeLoadAll data) = x :=
      (State.bar0_of_not_tableau live ..).trans h
    cases go : data.getLsbD 0
    · refine completes_at (x := a) effect now (run (by rw [State.writeLoadAll, go]; rfl)) ?_
      rw [if_pos rfl]
      exact Kept.rfl.settled now
    by_cases ok : a.bit F.PUMP_CTRL_MANUAL = true ∧ a.shadowsOk = true
    · obtain ⟨y, hy⟩ : ∃ y, a.each (List.range 4) State.markShadow = y := ⟨_, rfl⟩
      have marked : Kept [] [.pump] a y := hy ▸ Kept.rfl.each fun c _ x h => h.trans (x.kept_markShadow c)
      have pending : ((List.range 4).any fun c => (a.chan c).load.isSome) = true ↔ ∃ c ∈ List.range 4, (a.chan c).load ≠ none := by
        rw [List.any_eq_true]
        exact exists_congr fun c => and_congr_right fun _ => by rw [Option.isSome_iff_ne_none]
      have written : a.writeLoadAll data =
          y.when ((List.range 4).any fun c => (a.chan c).load.isSome) fun s => (s.count F.PUMP_LOAD_OVERRUN_COUNT).raise 206 := by
        rw [State.writeLoadAll, go, ok.1, ok.2, ← hy]
        rfl
      have chans (x : State) (h : x.pump = y.pump) (c : Nat) (hc : c < 4) : (s.settle a x).chan c = { a.chan c with load := some (a.elapsed,
          (if c = 3 then a.get F.PUMP_PWM_CHOP_PERIOD_PERIOD else a.get F.PUMP_PWM_PERIOD_PERIOD),
          a.get (F.PUMP_PWM_DUTY_DUTY c), a.get (F.PUMP_PWM_MARK_MARK c)) } := by
        rw [State.chan_congr (congrArg Pump.chans ((State.pump_settle ..).trans h)), ← hy, a.chan_markAll hc]
      cases any : (List.range 4).any fun c => (a.chan c).load.isSome
      · have none_ : ¬∃ c ∈ List.range 4, (a.chan c).load ≠ none := fun h => by
          rw [← pending, any] at h
          cases h
        rw [any, State.when_false] at written
        refine completes_at (x := y) effect now (run written) ?_
        rw [if_neg (by decide), if_pos ok, if_neg none_]
        exact ⟨chans y rfl, marked.settled now, marked.mono.settled now⟩
      · have some_ : ∃ c ∈ List.range 4, (a.chan c).load ≠ none := pending.1 any
        rw [any, State.when_true] at written
        refine completes_at (x := (y.count F.PUMP_LOAD_OVERRUN_COUNT).raise 206) effect now (run written) ?_
        rw [if_neg (by decide), if_pos ok, if_pos some_]
        have counted : Kept [Reg.PUMP_LOAD_OVERRUN] [.pump] a (y.count F.PUMP_LOAD_OVERRUN_COUNT) := marked.mono.count
        refine ⟨chans _ (by rw [State.pump_raise, State.pump_count]), ⟨counted.raised.settle, ?_⟩, counted.mono.raise.settled now⟩
        rw [State.get_settle, State.get_raise_apart _ (by decide), State.get_count_same _ (by decide), marked.get]
        rfl
    · refine completes_at (x := a.setBit F.PUMP_STATUS_CFG_REJECT true) effect now (run ?_) ?_
      · rw [State.writeLoadAll, go]
        refine (if_neg (by decide)).trans (if_pos ?_)
        rw [Bool.or_eq_true, Bool.not_eq_true', Bool.not_eq_true']
        by_cases man : a.bit F.PUMP_CTRL_MANUAL = true
        · exact .inr (by simpa [man] using ok)
        · exact .inl (by simpa using man)
      · rw [if_neg (by decide), if_neg ok]
        exact ⟨(State.bit_settle ..).trans (State.bit_setBit_same _ (by decide) rfl), Kept.rfl.setBit.settled now⟩
  case shadow =>
    intro s t chop a c
    have now : s.advance t = a := rfl
    clear_value a
    have effect : exec (.shadowTransfer t chop) s = s.run t fun s =>
        match (s.chan (if chop then 3 else 0)).load with
        | some _ => s.beginPeriod chop
        | none => s := exec_shadowTransfer t chop s
    cases load : (a.chan c).load with
    | none =>
      refine completes_at (x := a) effect now ?_ ⟨fun _ => Kept.rfl.settled now, fun _ h => absurd rfl h⟩
      rw [show (a.chan (if chop = true then 3 else 0)).load = none from load]
    | some v =>
      refine completes_at (x := a.beginPeriod chop) effect now ?_ ⟨fun idle => ?_, fun due _ =>
        ⟨(a.kept_beginPeriod chop).settled now, fun i mem => ?_, fun i mem => ?_⟩⟩
      · rw [show (a.chan (if chop = true then 3 else 0)).load = some v from load]
      · rw [State.beginPeriod_idle (idle.resolve_right (by simp))]
        exact Kept.rfl.settled now
      · have eq : (s.settle a (a.beginPeriod chop)).chan i = (a.chan i).next :=
          (State.chan_congr (congrArg Pump.chans (State.pump_settle ..)) i).trans (State.chan_beginPeriod due mem)
        refine ⟨fun t0 p d m h early => ?_, fun t0 p d m h late => ?_, fun h => ?_⟩
        · rw [eq, Chan.next, h]
          exact if_pos early
        · rw [eq, Chan.next, h]
          exact if_neg (by omega)
        · rw [eq, Chan.next, h]
      · exact (State.chan_congr (congrArg Pump.chans (State.pump_settle ..)) i).trans (a.chan_beginPeriod_of_not_mem chop mem)
  case period =>
    intro s t chop a c x
    have now : s.advance t = a := rfl
    clear_value a
    have effect : exec (.periodStart t chop) s = s.run t fun s => (s.beginPeriod chop).periodStarted chop :=
      (exec_periodStart t chop s).trans (s.execPeriodStart_eq t chop)
    by_cases idle : a.tableau = true ∨ (x.fresh = false ∧ a.elapsed < x.start + 2 * x.period)
    · refine completes_at (x := a) effect now ?_ ⟨fun _ => Kept.rfl.settled now, fun live due => ?_⟩
      · have none_ : a.periodDue chop = false := by
          unfold State.periodDue
          rcases idle with held | ⟨taken, early⟩
          · simp [held]
          · change (_ && _ && decide (x.start + 2 * x.period ≤ a.elapsed)) = false
            rw [decide_eq_false (by omega), Bool.and_false]
        rw [State.beginPeriod_idle none_, State.periodStarted]
        refine if_pos ?_
        rcases idle with held | ⟨taken, -⟩
        · rw [held, Bool.or_true]
        · change (!x.fresh || a.tableau) = true
          rw [taken]
          rfl
      · rcases idle with held | ⟨taken, early⟩
        · rw [held] at live
          cases live
        · rcases due with h | h
          · rw [taken] at h
            cases h
          · omega
    · rw [not_or] at idle
      have live : a.tableau = false := by simpa using idle.1
      have due : x.fresh = true ∨ x.start + 2 * x.period ≤ a.elapsed := by
        by_contra h
        rw [not_or] at h
        exact idle.2 ⟨by simpa using h.1, by omega⟩
      obtain ⟨y, eq, begun, fresh, free, start⟩ := a.started_spec chop (x := x) rfl live due
      obtain ⟨z, hz⟩ : ∃ z, y.taken chop = z := ⟨_, rfl⟩
      have took : Kept [] [.pump] a z := begun.trans (hz ▸ y.kept_taken chop)
      have at_ : z.periodAt c = (if x.fresh then x.start else x.start + 2 * x.period, false) := by
        rw [← hz, y.periodAt_taken (State.first_mem_channelsOf chop), start]
      have go : y.periodStarted chop = if chop then z.chopStarted else z.bridgeStarted (y.chan c).start := by
        rw [State.periodStarted, fresh, free, hz]
        rfl
      cases chop
      · obtain ⟨b, hb⟩ : ∃ b, z.bridgeStarted (y.chan c).start = b := ⟨_, rfl⟩
        have period : (s.settle a b).periodAt c = z.periodAt c := by
          rw [State.periodAt_congr (congrArg Pump.chans (State.pump_settle ..)), ← hb, z.periodAt_bridgeStarted]
        rw [at_] at period
        refine completes_at (x := b) effect now (eq.trans (go.trans hb)) ⟨fun h => absurd h (not_or.2 idle), fun _ _ =>
          ⟨congrArg Prod.fst period, congrArg Prod.snd period, fun h => absurd h (by decide), fun _ =>
            ⟨((took.mono (List.nil_subset _)).trans (hb ▸ z.kept_bridgeStarted _)).settled now, fun manual leg hleg => ?_, fun leg hleg => ?_⟩⟩⟩
        all_goals
          obtain ⟨w, -, same, upper, lower⟩ := z.req_bridgeStarted (y.chan c).start hleg
          rw [hb] at upper lower
          have guard : (s.settle a b).guard = b.guard := State.guard_settle ..
        · have requests : w.legRequests leg = a.legRequests leg := by
            rw [same (took.bit.trans manual)]
            exact State.legRequests_manual took manual leg
          rw [State.sw_congr guard, State.sw_congr guard, upper, lower, requests]
          exact ⟨rfl, rfl⟩
        · rw [State.sw_congr guard, State.sw_congr guard, upper, lower]
          exact requests_apart ..
      · obtain ⟨b, hb⟩ : ∃ b, z.chopStarted = b := ⟨_, rfl⟩
        obtain ⟨kept, six, others⟩ := z.takeChop_spec (z.chan 3).window (if z.bit F.PUMP_STATUS_CHOP_ACTIVE then lineOf 2 else lineOf 0)
        have same : z.takeChop (z.chan 3).window (if z.bit F.PUMP_STATUS_CHOP_ACTIVE then lineOf 2 else lineOf 0) = b := hb
        rw [same] at kept six others
        have active : z.bit F.PUMP_STATUS_CHOP_ACTIVE = a.bit F.PUMP_STATUS_CHOP_ACTIVE := took.bit
        have pump : (s.settle a b).pump = z.pump := (State.pump_settle ..).trans (kept.2 .pump (by decide))
        have period : (s.settle a b).periodAt c = z.periodAt c := State.periodAt_congr (congrArg Pump.chans pump) c
        rw [at_] at period
        have guard : (s.settle a b).guard = b.guard := State.guard_settle ..
        refine completes_at (x := b) effect now (eq.trans (go.trans hb)) ⟨fun h => absurd h (not_or.2 idle), fun _ _ =>
          ⟨congrArg Prod.fst period, congrArg Prod.snd period, fun _ => ⟨?_, fun k hk => ?_, ?_⟩, fun h => absurd h (by decide)⟩⟩
        · rw [State.sw_congr guard, six, active]
          cases a.bit F.PUMP_STATUS_CHOP_ACTIVE <;> rfl
        · rw [State.sw_congr guard, others k hk, State.sw_congr (took.2 .guard (by decide))]
        · exact (took.mono.trans kept.mono).settled now
  case event =>
    intro s t c k a x key n
    have now : s.advance t = a := rfl
    clear_value a
    have effect : exec (.pwmEvent t c k) s = execPwmEvent t c k s := exec_pwmEvent t c k s
    have small : key < 16 := by omega
    by_cases idle : a.tableau = true ∨ Sparse.get (fun _ => none) x.taken k = some x.start ∨ ∀ h, x.eventAt k = some h → a.elapsed < h
    · refine completes_at (x := a) effect now ?_ ⟨fun _ => Kept.rfl.settled now, fun h occurs past live fresh => ?_⟩
      · change (match x.eventAt k with | none => a | some h => _) = a
        cases occurs : x.eventAt k with
        | none => rfl
        | some h =>
          refine if_pos ?_
          rw [Bool.or_eq_true, Bool.or_eq_true, beq_iff_eq, decide_eq_true_iff]
          rcases idle with held | taken | later
          · exact .inl (.inl held)
          · exact .inr taken
          · exact .inl (.inr (later h occurs))
      · rcases idle with held | taken | later
        · rw [held] at live
          cases live
        · exact absurd taken fresh
        · have := later h occurs
          omega
    · simp only [not_or, Bool.not_eq_true] at idle
      obtain ⟨live, fresh, some_⟩ := idle
      obtain ⟨h, occurs, past⟩ : ∃ h, x.eventAt k = some h ∧ h ≤ a.elapsed := by simpa using some_
      have go : (a.tableau || decide (a.elapsed < h) || Sparse.get (fun _ => none) x.taken k == some x.start) = false := by
        rw [live, decide_eq_false (by omega), beq_eq_false_iff_ne.2 fresh]
        rfl
      obtain ⟨taken, kept, rest⟩ := a.pwmTaken_spec c k h
      refine completes_at (x := a.pwmTaken c k h) effect now ?_ ⟨fun idle => ?_, fun h' occurs' _ _ _ => ?_⟩
      · change (match x.eventAt k with | none => a | some h => _) = _
        rw [occurs]
        exact if_neg (by rw [go]; decide)
      · rcases idle with held | taken | later
        · rw [live] at held
          cases held
        · exact absurd taken fresh
        · have := later h occurs
          omega
      · rw [occurs] at occurs'
        cases occurs'
        exact ⟨taken, kept.settled now, rest⟩

end Sys2Proof.Machine

/-! PROOFS. PLLs, the speed of CORE, the thermal governor, and what a THERMAL reset leaves (spec/15 R614 to R622). -/

namespace Sys2Proof.Machine

set_option Elab.async false

/-! Registers after a reset that reaches them -/

/-- A register outside the ones a reset keeps is back at its reset value. -/
theorem Sparse.get_filter_of_not {α : Type} (d : Nat → α) (m : SMap α) {p : Nat → Bool} {r : Nat} (out : p r = false) :
    Sparse.get d (m.filter fun e => p e.1) r = d r := by
  induction m with
  | nil => rfl
  | cons e m ih =>
    rw [List.filter_cons]
    split
    next keep =>
      rw [Sparse.get_cons, if_neg, ih]
      intro same
      rw [same, out] at keep
      cases keep
    next => exact ih

namespace State

variable (s : State)

theorem kept_keepFields (old : State) {l : List FieldRef} {regs : List Nat} (h : ∀ f ∈ l, f.addr ∈ regs) : Kept regs [] s (l.foldl old.keepField s) := by
  induction l generalizing s with
  | nil => exact Kept.rfl
  | cons f l ih =>
    exact (Kept.rfl.set (h f (List.mem_cons_self ..))).trans (ih _ fun g hg => h g (List.mem_cons_of_mem _ hg))

/-- Casting's cell registers. -/
def rosterRegs : List Nat := cellIds.map Reg.CAST_CELL

theorem kept_castFromRoster : Kept rosterRegs [.cast] s s.castFromRoster := by
  unfold castFromRoster
  extract_lets src x
  have cleared : Kept rosterRegs [.cast] s x := Kept.rfl.cast
  refine cleared.each fun c hc y h => ?_
  have mem : Reg.CAST_CELL c ∈ rosterRegs := List.mem_map_of_mem hc
  exact ((h.setReg mem).set mem).set mem

theorem not_mem_rosterRegs {r : Nat} (h : r < 0x3400 ∨ 0x3800 ≤ r) : r ∉ rosterRegs := by
  rw [rosterRegs, List.mem_map]
  rintro ⟨c, hc, rfl⟩
  have small : c < 128 := List.mem_range.1 hc
  simp only [Reg.CAST_CELL] at h
  omega

theorem kept_keepGap (old : State) : Kept [Reg.CURTAIN_HOLD] [] s (old.keepGap s) := Kept.rfl.setBit

theorem kept_curtReset : Kept [] [.curt] s s.curtReset := Kept.rfl.curt

/-- The registers of the fields that a reset leaves. -/
abbrev keptRegs : List Nat := [Reg.CLOCK_MEMO, Reg.POWER_TEMP, Reg.POWER_RESET_CAUSE, Reg.POWER_STATUS, Reg.DATUM_STATUS]

theorem reg_resetBlocks {k r : Nat} (soft : k ≠ 5) (out : (decide (0x5400 ≤ r) && decide (r < 0x5800)) = false) (kept : r ∉ keptRegs)
    (hold : r ≠ Reg.CURTAIN_HOLD) (roster : r < 0x3400 ∨ 0x3800 ≤ r) : (s.resetBlocks k).reg r = resetVal r := by
  unfold resetBlocks
  extract_lets soft' new new'
  have fields : Kept keptRegs [] new new' := kept_keepFields new s fun f hf => by
    unfold keptFields at hf
    rw [if_neg soft, List.append_nil] at hf
    split at hf <;> split at hf <;> revert f <;> decide
  rw [(kept_castFromRoster _).reg (not_mem_rosterRegs roster), (kept_curtReset _).reg (List.not_mem_nil), (kept_keepGap _ s).reg (by simpa using hold),
    fields.reg kept]
  exact Sparse.get_filter_of_not resetVal s.regs (p := fun r => decide (0x5400 ≤ r) && decide (r < 0x5800)) out

/-- A reset of the blocks: the curtain at its reset state, the start not done. -/
theorem assertReset_spec {k : Nat} (soft : k ≠ 5) (perst : k ≠ 6) (refresh : Bool) :
    (s.assertReset k refresh).curtain = 0 ∧ (s.assertReset k refresh).bit F.POWER_STATUS_START_DONE = false := by
  unfold assertReset
  extract_lets x y period whole z w v u
  have blocks : z = y.resetBlocks k := if_neg perst
  have curtain : z.get F.CURTAIN_STATUS_STATE = 0 := by
    rw [blocks, State.get, y.reg_resetBlocks soft (by decide) (by decide) (by decide) (by decide)]
    decide +kernel
  constructor
  · have last : Kept [Reg.POWER_STATUS, Reg.POWER_RESET_CAUSE] [.power] z (u.set F.POWER_RESET_CAUSE_LAST (period.foldl min 7)) :=
      Kept.rfl.mapPower.setBit.set.set
    exact last.get.trans curtain
  · have last : Kept [Reg.POWER_RESET_CAUSE] [] v (u.set F.POWER_RESET_CAUSE_LAST (period.foldl min 7)) := Kept.rfl.set.set
    exact last.bit.trans (bit_setBit_same _ (by decide) rfl)

/-! What a change of discipline and a stop report -/

theorem inflight_qualifyPin (tableau : Bool) (now : Nat) (pins : List Nat) (r : Router) :
    (pins.foldl (qualifyPin tableau now) r).inflight = r.inflight := by
  induction pins generalizing r with
  | nil => rfl
  | cons n pins ih =>
    rw [List.foldl_cons, ih]
    unfold qualifyPin
    split <;> rfl

/-- Events are on their way in their order, with more after them. -/
def Reports (x y : State) : Prop := ∃ l, y.router.inflight = x.router.inflight ++ l

theorem Reports.trans {x y z : State} (h : Reports x y) (h' : Reports y z) : Reports x z := by
  obtain ⟨l, eq⟩ := h
  obtain ⟨l', eq'⟩ := h'
  exact ⟨l ++ l', by rw [eq', eq, List.append_assoc]⟩

theorem Raises.reports {x y : State} (h : Raises x y) : Reports x y := by
  obtain ⟨l, eq⟩ := h
  exact ⟨_, by rw [eq]⟩

theorem reports_setDisc (v : Nat) : Reports s (s.setDisc v) := by
  by_cases same : s.discState = v
  · rw [setDisc, if_pos same]
    exact Raises.rfl.reports
  · rw [setDisc_of_ne same]
    refine ⟨[{ stamp := s.datum, num := 35, inst := 0 }], ?_⟩
    have told : (s.discTo v).router.inflight = s.router.inflight ++ [{ stamp := s.datum, num := 35, inst := 0 }] := by rw [router_discTo]
    rw [router_ppsQualify, ← told]
    split
    · exact inflight_qualifyPin ..
    · rfl

theorem raises_haltAll : Raises s s.haltAll :=
  ((SameHalt.refl 4 s).each (l := List.range 4) (f := haltLoop) fun m mem z => z.sameHalt_haltLoop (by
    have := List.mem_range.1 mem
    omega)).raises

theorem loopHalted_haltAll {n : Nat} (small : n < 4) : s.haltAll.loopHalted n = true := by
  obtain ⟨y, -, after⟩ := s.haltAll_of_loop small
  rw [after.halted, y.loopHalted_haltLoop small]

theorem raises_stageLoss : Raises s s.stageLoss := by
  rw [stageLoss_eq]
  have low : Raises s s.gatesOff.gdLow := by
    refine Raises.rfl.of_router ?_
    rw [s.gatesOff.kept_gdLow.2 .router (by decide), s.sameClock_gatesOff.kept.2 .router (by decide)]
  exact (low.trans (raises_pumpFaultAs _ 7)).trans (raises_chopOff _)

theorem kept_stageLoss : Kept gateRegs gateParts s s.stageLoss := by
  rw [stageLoss_eq]
  have low : Kept [Reg.GUARD_CTRL] [.guard] s s.gatesOff.gdLow := s.sameClock_gatesOff.kept.mono.trans (kept_gdLow _)
  exact ((low.mono (List.cons_subset.2 ⟨mem_gateRegs, List.nil_subset _⟩)).trans ((kept_pumpFaultAs_react _ 7).mono reactRegs_gate)).trans
    ((kept_chopOff _).mono (List.cons_subset.2 ⟨pumpRegs_gate mem_pumpRegs_pump, List.nil_subset _⟩))

/-! PLLs -/

theorem pll_setPll_same (i : Nat) (p : Pll) : (s.setPll i p).pll i = p :=
  (Sparse.get_set ..).trans (if_pos rfl)

theorem pll_congr {a b : State} (plls : b.power.plls = a.power.plls) (i : Nat) : b.pll i = a.pll i := by
  rw [pll, pll, plls]

theorem kept_setPll (i : Nat) (p : Pll) : Kept [] [.power] s (s.setPll i p) := Kept.rfl.mapPower

theorem kept_judgeDeferred : Kept [Reg.SCRUB_STATUS] [] s s.judgeDeferred := Kept.rfl.setBit

theorem deferred_judgeDeferred : s.judgeDeferred.bit F.SCRUB_STATUS_DEFERRED = (s.bit F.POWER_STATUS_THERM || s.bit F.CLOCK_STATUS_CORE_BYP) :=
  bit_setBit_same _ (by decide) rfl

abbrev speedRegs : List Nat := [Reg.CLOCK_STATUS, Reg.CLOCK_PLL 0, Reg.CLOCK_HOPS]

theorem kept_judgeSpeed : Kept speedRegs [] s s.judgeSpeed := by
  unfold judgeSpeed
  exact Kept.rfl.ite Kept.rfl.setBit.set.count

theorem byp_judgeSpeed : s.judgeSpeed.bit F.CLOCK_STATUS_CORE_BYP = s.bit F.CLOCK_STATUS_CORE_BYP := by
  unfold judgeSpeed
  extract_lets slow
  split
  · rfl
  · rw [bit_count_apart _ (by decide), bit_set_apart _ (by decide), bit_setBit_apart _ (by decide)]

theorem slow_judgeSpeed {s : State} (clocked : s.bit F.CLOCK_STATUS_CORE_BYP = false) :
    s.judgeSpeed.bit F.CLOCK_STATUS_CORE_SLOW = (s.bit F.POWER_STATUS_THERM || s.bit F.CLOCK_CTRL_FORCE_SLOW) := by
  unfold judgeSpeed
  extract_lets slow
  rw [clocked, Bool.false_or]
  split
  next same => exact (beq_iff_eq.1 same).symm
  next => rw [bit_count_apart _ (by decide), bit_set_apart _ (by decide), bit_setBit_same _ (by decide) rfl]

theorem elapsed_judgeSpeed : s.judgeSpeed.elapsed = s.elapsed := by
  unfold judgeSpeed
  extract_lets slow
  split
  · rfl
  · rw [elapsed_count, elapsed_set, elapsed_setBit]

/-! The governor -/

/-- HOT noted, before it is counted. -/
def hotNoted (s : State) : State :=
  (s.setBit F.POWER_STATUS_THERM true).mapPower fun p => { p with hotSince := some s.elapsed, coolSince := none }

theorem enterHot_eq : s.enterHot = (((s.hotNoted).count F.POWER_HOT_ENTRIES_COUNT).raise 18).judgeSpeed.judgeDeferred := by
  unfold enterHot hotNoted
  rfl

abbrev hotRegs : List Nat := [Reg.POWER_STATUS, Reg.POWER_HOT_ENTRIES, Reg.CLOCK_STATUS, Reg.CLOCK_PLL 0, Reg.CLOCK_HOPS, Reg.SCRUB_STATUS]

theorem kept_hotCounted : Kept [Reg.POWER_STATUS, Reg.POWER_HOT_ENTRIES] [.power] s (s.hotNoted.count F.POWER_HOT_ENTRIES_COUNT) :=
  Kept.rfl.setBit.mapPower.count

theorem kept_enterHot : Kept hotRegs [.power, .router] s s.enterHot := by
  rw [enterHot_eq]
  exact (((s.kept_hotCounted.mono : Kept hotRegs [.power, .router] s _).raise).trans (kept_judgeSpeed _).mono).trans (kept_judgeDeferred _).mono

/-- The governor in HOT (R621, R622). -/
theorem enterHot_spec : s.enterHot.bit F.POWER_STATUS_THERM = true ∧
    s.enterHot.get F.POWER_HOT_ENTRIES_COUNT = min (s.get F.POWER_HOT_ENTRIES_COUNT + 1) 0xFFFFFFFF ∧
    (s.bit F.CLOCK_STATUS_CORE_BYP = false → s.enterHot.bit F.CLOCK_STATUS_CORE_SLOW = true) ∧
    s.enterHot.bit F.SCRUB_STATUS_DEFERRED = true ∧ Raised [(s.datum, 18, 0)] s s.enterHot ∧
    s.enterHot.power = { s.power with hotSince := some s.elapsed, coolSince := none } := by
  obtain ⟨x, hx⟩ : ∃ x, (s.hotNoted.count F.POWER_HOT_ENTRIES_COUNT).raise 18 = x := ⟨_, rfl⟩
  have eq : s.enterHot = x.judgeSpeed.judgeDeferred := by rw [enterHot_eq, hx]
  have noted : Kept [Reg.POWER_STATUS, Reg.POWER_HOT_ENTRIES] [.power, .router] s x := hx ▸ s.kept_hotCounted.mono.raise
  have therm : x.bit F.POWER_STATUS_THERM = true := by
    have last : Kept [Reg.POWER_HOT_ENTRIES] [.power, .router] (s.setBit F.POWER_STATUS_THERM true) x := hx ▸ Kept.rfl.mapPower.count.raise
    exact last.bit.trans (bit_setBit_same _ (by decide) rfl)
  have speed : x.judgeSpeed.bit F.POWER_STATUS_THERM = true := x.kept_judgeSpeed.bit.trans therm
  have last : Kept (Reg.SCRUB_STATUS :: speedRegs) [] x s.enterHot := eq ▸ x.kept_judgeSpeed.mono.trans (kept_judgeDeferred _).mono
  refine ⟨last.bit.trans therm, last.get.trans ?_, fun clocked => ?_, ?_, ?_, ?_⟩
  · rw [← hx, get_raise_apart _ (by decide), get_count_same _ (by decide)]
    have before : Kept [Reg.POWER_STATUS] [.power] s s.hotNoted := Kept.rfl.setBit.mapPower
    rw [before.get]
    rfl
  · rw [eq, (kept_judgeDeferred _).bit, slow_judgeSpeed (noted.bit.trans clocked), therm, Bool.true_or]
  · rw [eq, deferred_judgeDeferred, speed, Bool.true_or]
  · have told : Raised [(s.datum, 18, 0)] s x := hx ▸ s.kept_hotCounted.raised
    exact told.kept last
  · rw [last.2 .power (by decide), ← hx, power_raise, power_count, hotNoted, power_mapPower, power_setBit]

theorem kept_showHot : Kept [Reg.POWER_HOT_TIME] [] s s.showHot := Kept.rfl.setTop

end State

end Sys2Proof.Machine

/-! PROOFS. The statement on the PLLs and the thermal governor (O49). -/

namespace Sys2Proof.Machine

set_option Elab.async false

namespace State

variable (s : State)

/-! A lock lost (R615, R616) -/

/-- A PLL's lock gone, counted and told. -/
def lockLost (i : Nat) (s : State) : State :=
  (((s.setPll i { locked := false, since := s.elapsed, attempt := s.elapsed, off := true }).setBit (lockBit i) false).count
    F.CLOCK_UNLOCKS_COUNT).raise 19 i

/-- CORE on the crystal. -/
def coreBypassed (s : State) : State := (((s.setBit F.CLOCK_STATUS_CORE_BYP true).raise 21 0).judgeDeferred).engineFault

/-- STAGE on the crystal, the loops halted. -/
def stageBypassed (s : State) : State := (s.haltAll.setBit F.CLOCK_STATUS_STAGE_BYP true).mapPower fun p => { p with stageByp := true }

theorem execPllUnlock_eq (t : Nat) (i : Fin 3) : execPllUnlock t i s = s.run t fun s =>
    if !(s.pll i).locked then s
    else if i.val = 0 then (s.lockLost i).coreBypassed
    else if i.val = 1 then
      if (s.lockLost i).power.stageByp then s.lockLost i
      else (((s.lockLost i).stageBypassed.raiseAt ((s.lockLost i).stageBypassed.datum + 100) 21 1).stageLoss.setDisc 0).engineFault
    else (s.lockLost i).setBit F.CLOCK_STATUS_CONV_STOP true := rfl

abbrev lostRegs : List Nat := [Reg.CLOCK_STATUS, Reg.CLOCK_UNLOCKS, Reg.SCRUB_FAULT_SEEN]

theorem kept_lockLost (i : Nat) : Kept lostRegs [.power, .router] s (s.lockLost i) := by
  unfold lockLost
  exact ((Kept.rfl.mapPower : Kept lostRegs [.power, .router] s (s.setPll i _)).setBit (by simp [lockBit])).count.raiseFault

theorem lockLost_spec {i : Nat} (small : i < 3) : (s.lockLost i).bit (lockBit i) = false ∧
    (s.lockLost i).pll i = { locked := false, since := s.elapsed, attempt := s.elapsed, off := true } ∧
    (s.lockLost i).get F.CLOCK_UNLOCKS_COUNT = min (s.get F.CLOCK_UNLOCKS_COUNT + 1) 0xFFFFFFFF ∧
    Raised [(s.datum, 19, i)] s (s.lockLost i) ∧ (s.lockLost i).power.stageByp = s.power.stageByp := by
  obtain ⟨x, hx⟩ : ∃ x, s.setPll i { locked := false, since := s.elapsed, attempt := s.elapsed, off := true } = x := ⟨_, rfl⟩
  obtain ⟨y, hy⟩ : ∃ y, x.setBit (lockBit i) false = y := ⟨_, rfl⟩
  have eq : s.lockLost i = (y.count F.CLOCK_UNLOCKS_COUNT).raise 19 i := by rw [lockLost, hx, hy]
  have put : Kept [] [.power] s x := hx ▸ s.kept_setPll ..
  have cleared : Kept [Reg.CLOCK_STATUS] [.power] s y := hy ▸ (put.mono : Kept [Reg.CLOCK_STATUS] [.power] s x).setBit (by simp [lockBit])
  have last : Kept [Reg.CLOCK_UNLOCKS, Reg.SCRUB_FAULT_SEEN] [.router] y (s.lockLost i) := eq ▸ Kept.rfl.count.raiseFault
  have power : (s.lockLost i).power = x.power := by rw [last.2 .power (by decide), ← hy, power_setBit]
  refine ⟨?_, ?_, ?_, ?_, ?_⟩
  · have same : y.bit (lockBit i) = false := hy ▸ bit_setBit_same _ (f := lockBit i) (by simp [lockBit]; omega) rfl
    exact (last.bit (by simp [lockBit])).trans same
  · rw [pll_congr (congrArg Power.plls power), ← hx, pll_setPll_same]
  · rw [eq, get_raise_apart _ (by decide), get_count_same _ (by decide), cleared.get]
    rfl
  · rw [eq]
    exact (cleared.mono.count : Kept [Reg.CLOCK_STATUS, Reg.CLOCK_UNLOCKS] [.power] s _).raised
  · rw [power, ← hx]
    rfl

theorem engineFault_eq : s.engineFault = { s with curt := { s.curt with causes := s.curt.causes ++ [(13, s.datum)] } } := rfl

theorem kept_engineFault : Kept [] [.curt] s s.engineFault := Kept.rfl.curt

theorem kept_coreBypassed : Kept [Reg.CLOCK_STATUS, Reg.SCRUB_STATUS, Reg.SCRUB_FAULT_SEEN] [.router, .curt] s s.coreBypassed := by
  unfold coreBypassed
  exact ((Kept.rfl.setBit.raiseFault.trans (kept_judgeDeferred _).mono).trans (kept_engineFault _).mono)

theorem coreBypassed_spec : s.coreBypassed.bit F.CLOCK_STATUS_CORE_BYP = true ∧ s.coreBypassed.bit F.SCRUB_STATUS_DEFERRED = true ∧
    s.coreBypassed.curt = { s.curt with causes := s.curt.causes ++ [(13, s.datum)] } ∧ Raised [(s.datum, 21, 0)] s s.coreBypassed ∧
    ∀ i, i < 3 → s.coreBypassed.bit (lockBit i) = s.bit (lockBit i) := by
  obtain ⟨x, hx⟩ : ∃ x, s.setBit F.CLOCK_STATUS_CORE_BYP true = x := ⟨_, rfl⟩
  have eq : s.coreBypassed = ((x.raise 21 0).judgeDeferred).engineFault := by rw [coreBypassed, hx]
  have set : Kept [Reg.CLOCK_STATUS] [] s x := hx ▸ Kept.rfl.setBit
  have told : Raised [(s.datum, 21, 0)] s (x.raise 21 0) := set.raised
  have last : Kept [Reg.SCRUB_STATUS] [.curt] (x.raise 21 0) s.coreBypassed := eq ▸ (kept_judgeDeferred _).mono.trans (kept_engineFault _).mono
  have whole : Kept [Reg.SCRUB_STATUS, Reg.SCRUB_FAULT_SEEN] [.curt, .router] x s.coreBypassed := Kept.rfl.raiseFault.trans last.mono
  have byp : x.bit F.CLOCK_STATUS_CORE_BYP = true := hx ▸ bit_setBit_same _ (by decide) rfl
  refine ⟨whole.bit.trans byp, ?_, ?_, told.kept last, fun i hi => ?_⟩
  · have deferred : (x.raise 21 0).judgeDeferred.bit F.SCRUB_STATUS_DEFERRED = true := by
      rw [deferred_judgeDeferred, (Kept.rfl.raiseFault : Kept [Reg.SCRUB_FAULT_SEEN] [.router] x (x.raise 21 0)).bit (f := F.CLOCK_STATUS_CORE_BYP), byp,
        Bool.or_true]
    rw [eq]
    exact (kept_engineFault _).bit.trans deferred
  · obtain ⟨y, hy⟩ : ∃ y, (x.raise 21 0).judgeDeferred = y := ⟨_, rfl⟩
    have same : Kept (Reg.SCRUB_STATUS :: Reg.SCRUB_FAULT_SEEN :: [Reg.CLOCK_STATUS]) [.router] s y :=
      hy ▸ (set.mono.raiseFault.trans (kept_judgeDeferred _).mono)
    rw [eq, hy, engineFault_eq, same.2 .curt (by decide), same.2 .datum (by decide)]
  · rw [whole.bit (by simp [lockBit]), ← hx]
    refine bit_setBit_apart _ ?_
    interval_cases i <;> decide

/-- STAGE lost with PLL-B: what it leaves. -/
def stageFailed (s : State) : State := ((s.stageBypassed.raiseAt (s.stageBypassed.datum + 100) 21 1).stageLoss.setDisc 0).engineFault

theorem stageFailed_spec {i : Nat} (small : i < 3) : s.stageFailed.bit F.CLOCK_STATUS_STAGE_BYP = true ∧ s.stageFailed.power.stageByp = true ∧
    (∀ n < 4, s.stageFailed.loopHalted n = true) ∧ s.stageFailed.discState = 0 ∧ Reports s s.stageFailed ∧
    s.stageFailed.bit (lockBit i) = s.bit (lockBit i) ∧ s.stageFailed.pll i = s.pll i ∧
    s.stageFailed.get F.CLOCK_UNLOCKS_COUNT = s.get F.CLOCK_UNLOCKS_COUNT := by
  obtain ⟨h, hh⟩ : ∃ h, s.haltAll = h := ⟨_, rfl⟩
  have halts : Kept haltRegs [.wing, .cast, .host, .router, .engine, .curt] s h := hh ▸ s.kept_haltAll
  have halted (n : Nat) (hn : n < 4) : h.loopHalted n = true := hh ▸ s.loopHalted_haltAll hn
  obtain ⟨p, hp⟩ : ∃ p, h.setBit F.CLOCK_STATUS_STAGE_BYP true = p := ⟨_, rfl⟩
  have marked : Kept [Reg.CLOCK_STATUS] [] h p := hp ▸ Kept.rfl.setBit
  obtain ⟨y, hy⟩ : ∃ y, s.stageBypassed = y := ⟨_, rfl⟩
  have put : y = p.mapPower fun p => { p with stageByp := true } := by rw [← hy, stageBypassed, hh, hp]
  have bypassed : Kept [] [.power] p y := put ▸ Kept.rfl.mapPower
  obtain ⟨z, hz⟩ : ∃ z, y.raiseAt (y.datum + 100) 21 1 = z := ⟨_, rfl⟩
  have told : Kept [Reg.SCRUB_FAULT_SEEN] [.router] y z := hz ▸ Kept.rfl.raiseFaultAt
  obtain ⟨w, hw⟩ : ∃ w, z.stageLoss = w := ⟨_, rfl⟩
  have lost : Kept gateRegs gateParts z w := hw ▸ z.kept_stageLoss
  obtain ⟨v, hv⟩ : ∃ v, w.setDisc 0 = v := ⟨_, rfl⟩
  have free : Kept [Reg.DATUM_STATUS] [.disc, .router] w v := hv ▸ kept_setDisc _ 0 (by decide) (by decide) (by decide)
  have eq : s.stageFailed = v.engineFault := by rw [stageFailed, hy, hz, hw, hv]
  have last : Kept [] [.curt] v s.stageFailed := eq ▸ v.kept_engineFault
  have field (f : FieldRef) (hf : f.addr = Reg.CLOCK_STATUS ∨ f.addr = Reg.CLOCK_UNLOCKS ∨ f.addr = Reg.WING_STATUS) : s.stageFailed.get f = p.get f := by
    have gate : f.addr ∉ gateRegs := not_mem_gateRegs (by rcases hf with h | h | h <;> rw [h] <;> decide)
    have disc : f.addr ∉ [Reg.DATUM_STATUS] := by rcases hf with h | h | h <;> rw [h] <;> decide
    have seen : f.addr ∉ [Reg.SCRUB_FAULT_SEEN] := by rcases hf with h | h | h <;> rw [h] <;> decide
    rw [last.get (List.not_mem_nil), free.get disc, lost.get gate, told.get seen, bypassed.get (List.not_mem_nil)]
  have power : s.stageFailed.power = y.power := by
    rw [last.2 .power (by decide), free.2 .power (by decide), lost.2 .power (by decide), told.2 .power (by decide)]
  have reported : Reports s h := hh ▸ s.raises_haltAll.reports
  have told' : Reports y z := ⟨_, by rw [← hz, router_raiseAt]⟩
  have reports : Reports s s.stageFailed := by
    refine (((reported.trans ?_).trans told').trans (hw ▸ z.raises_stageLoss.reports)).trans
      ((hv ▸ w.reports_setDisc 0 : Reports w v).trans ⟨[], by rw [last.2 .router (by decide), List.append_nil]⟩)
    exact ⟨[], by rw [bypassed.2 .router (by decide), marked.2 .router (by decide), List.append_nil]⟩
  refine ⟨?_, ?_, fun n hn => ?_, ?_, reports, ?_, ?_, ?_⟩
  · rw [State.bit, field _ (.inl rfl), ← hp]
    exact bit_setBit_same _ (by decide) rfl
  · rw [power, put, power_mapPower]
  · have same : p.loopHalted n = true := marked.ibit.trans (halted n hn)
    rw [loopHalted, ibit, field _ (.inr (.inr rfl))]
    exact same
  · exact last.get.trans (hv ▸ discState_setDisc w (by decide))
  · have lock : (lockBit i).addr ∉ haltRegs := by
      simp only [lockBit]
      decide +kernel
    rw [State.bit, field _ (.inl rfl), ← hp, get_setBit_apart _ (by interval_cases i <;> decide), halts.get lock]
    rfl
  · have plls : s.stageFailed.power.plls = s.power.plls := by
      rw [power, put, power_mapPower, marked.2 .power (by decide), halts.2 .power (by decide)]
    exact pll_congr plls i
  · rw [field _ (.inr (.inl rfl)), marked.get, halts.get (by decide +kernel)]

/-! A lock found (R614) -/

theorem bandOf_lt (temp : Int) : bandOf temp < 8 := by
  unfold bandOf clamp
  split
  · decide
  · omega

abbrev lockRegs (i : Nat) : List Nat := [Reg.CLOCK_STATUS, Reg.CLOCK_RELOCKS, Reg.CLOCK_PLL i, Reg.CLOCK_MEMO]

/-- A lock found, counted and told. -/
def lockFound (i : Nat) (s : State) : State :=
  (((s.setPll i { s.pll i with locked := true, since := s.elapsed }).setBit (lockBit i) true).count F.CLOCK_RELOCKS_COUNT).raise 20 i

theorem execPllRelock_eq (t : Nat) (i : Fin 3) : execPllRelock t i s = s.run t fun s => if !s.hunting i then s else (s.lockFound i).lockMemo i := rfl

theorem lockFound_spec {i : Nat} (small : i < 3) : (s.lockFound i).bit (lockBit i) = true ∧
    (s.lockFound i).pll i = { s.pll i with locked := true, since := s.elapsed } ∧
    (s.lockFound i).get F.CLOCK_RELOCKS_COUNT = min (s.get F.CLOCK_RELOCKS_COUNT + 1) 0xFFFFFFFF ∧
    Raised [(s.datum, 20, i)] s (s.lockFound i) ∧ Kept [Reg.CLOCK_STATUS, Reg.CLOCK_RELOCKS] [.power, .router] s (s.lockFound i) := by
  obtain ⟨x, hx⟩ : ∃ x, s.setPll i { s.pll i with locked := true, since := s.elapsed } = x := ⟨_, rfl⟩
  obtain ⟨y, hy⟩ : ∃ y, x.setBit (lockBit i) true = y := ⟨_, rfl⟩
  have eq : s.lockFound i = (y.count F.CLOCK_RELOCKS_COUNT).raise 20 i := by rw [lockFound, hx, hy]
  have put : Kept [] [.power] s x := hx ▸ s.kept_setPll ..
  have marked : Kept [Reg.CLOCK_STATUS] [.power] s y := hy ▸ (put.mono : Kept [Reg.CLOCK_STATUS] [.power] s x).setBit (by simp [lockBit])
  have last : Kept [Reg.CLOCK_RELOCKS] [.router] y (s.lockFound i) := eq ▸ Kept.rfl.count.raise
  refine ⟨?_, ?_, ?_, ?_, marked.mono.trans last.mono⟩
  · have same : y.bit (lockBit i) = true := hy ▸ bit_setBit_same _ (f := lockBit i) (by simp [lockBit]; omega) rfl
    exact (last.bit (by simp [lockBit])).trans same
  · have power : (s.lockFound i).power = x.power := by rw [last.2 .power (by decide), ← hy, power_setBit]
    rw [pll_congr (congrArg Power.plls power), ← hx, pll_setPll_same]
  · rw [eq, get_raise_apart _ (by decide), get_count_same _ (by decide), marked.get]
    rfl
  · rw [eq]
    exact (marked.mono.count : Kept [Reg.CLOCK_STATUS, Reg.CLOCK_RELOCKS] [.power] s _).raised

theorem kept_lockMemo (i : Nat) : Kept [Reg.CLOCK_PLL i, Reg.CLOCK_MEMO] [] s (s.lockMemo i) := by
  unfold lockMemo
  extract_lets b x
  exact ((Kept.rfl.set (by simp)).setBit (by simp)).setIbit (by simp [memoField])

theorem lockMemo_spec {i : Nat} (small : i < 3) :
    (s.lockMemo i).get (F.CLOCK_PLL_MEMO i) = bandOf (s.getInt F.POWER_TEMP_TEMP) ∧
    (s.lockMemo i).bit (F.CLOCK_PLL_HIT i) = s.ibit (memoField i) (bandOf (s.getInt F.POWER_TEMP_TEMP)) ∧
    (s.lockMemo i).ibit (memoField i) (bandOf (s.getInt F.POWER_TEMP_TEMP)) = true := by
  unfold lockMemo
  extract_lets b x
  have band : b < 8 := bandOf_lt _
  have other : (F.CLOCK_PLL_MEMO i).addr ∉ [Reg.CLOCK_MEMO] := by interval_cases i <;> decide
  have last : Kept [Reg.CLOCK_MEMO] [] x (x.setIbit (memoField i) b true) := Kept.rfl.setIbit (by simp [memoField])
  refine ⟨?_, ?_, ?_⟩
  · refine (last.get other).trans ((get_setBit_apart _ ?_).trans (get_set_of_lt (f := F.CLOCK_PLL_MEMO i) _ (Nat.le_of_ble_eq_true rfl) band))
    interval_cases i <;> decide
  · exact (last.bit (f := F.CLOCK_PLL_HIT i) other).trans (bit_setBit_same _ (f := F.CLOCK_PLL_HIT i) (Nat.le_of_ble_eq_true rfl) rfl)
  · exact ibit_setIbit_same _ (by simp [memoField]; omega) band

/-! A measurement (R620, R621) -/

/-- The measurement shown and noted. -/
def measured (temp : Int) (s : State) : State :=
  let l := (temp :: s.power.temps).take 8
  let n : Int := l.length
  let sum := l.sum
  let mean := roundAway ((sum : Rat) / n)
  let top := s.getInt F.POWER_TEMP_MAX
  let s := (s.setSat F.POWER_TEMP_TEMP mean).when (!s.power.tempSeen || top < mean) fun s => s.setSat F.POWER_TEMP_MAX mean
  s.mapPower fun p => { p with temps := l, lastTemp := s.elapsed, tempSeen := true }

/-- The THERMAL reset's hold ends. -/
def released (go : Bool) (s : State) : State := s.when go fun s => s.mapPower fun p => { p with holds := p.holds.filter (· ≠ 4) }

/-- What the governor makes of a measurement. -/
def governed (n sum : Int) (s : State) : State :=
  let s := s.showHot
  if s.bit F.POWER_STATUS_THERM then
    s.mapPower fun p => { p with coolSince := if sum ≤ 1100 * n then some (p.coolSince.getD s.elapsed) else none }
  else s.when (1150 * n < sum) State.enterHot

theorem execTemperatureMeasurement_eq (t : Nat) (temp : Int) : execTemperatureMeasurement t temp s = s.run t fun s =>
    let l := (temp :: s.power.temps).take 8
    let x := s.measured temp
    let y := x.released (x.power.holds.contains 4 && l.sum ≤ 1250 * (l.length : Int))
    if 1400 * (l.length : Int) < l.sum then y.holdReset 4 true else if !y.powerLive then y else y.governed l.length l.sum := rfl

theorem kept_measured (temp : Int) : Kept [Reg.POWER_TEMP] [.power] s (s.measured temp) := by
  unfold measured
  extract_lets l n sum mean top x
  have shown : Kept [Reg.POWER_TEMP] [.power] s x := Kept.rfl.setSat.when fun h => h.setSat
  exact shown.mapPower

theorem power_measured (temp : Int) : (s.measured temp).power =
    { s.power with temps := (temp :: s.power.temps).take 8, lastTemp := s.elapsed, tempSeen := true } := by
  unfold measured
  extract_lets l n sum mean top x
  have power : x.power = s.power := (when_eq power _ (power_setSat ..)).trans (power_setSat ..)
  have time : x.elapsed = s.elapsed := (when_eq elapsed _ (elapsed_setSat ..)).trans (elapsed_setSat ..)
  rw [power_mapPower, power, time]

theorem elapsed_measured (temp : Int) : (s.measured temp).elapsed = s.elapsed := by
  unfold measured
  extract_lets l n sum mean top x
  rw [elapsed_mapPower]
  exact (when_eq elapsed _ (elapsed_setSat ..)).trans (elapsed_setSat ..)

/-- A value that its field holds is shown as it is. -/
theorem temp_measured {temp : Int} (low : -2 ^ 15 ≤ roundAway ((((temp :: s.power.temps).take 8).sum : Rat) / ((temp :: s.power.temps).take 8).length))
    (high : roundAway ((((temp :: s.power.temps).take 8).sum : Rat) / ((temp :: s.power.temps).take 8).length) < 2 ^ 15) :
    (s.measured temp).getInt F.POWER_TEMP_TEMP =
      roundAway ((((temp :: s.power.temps).take 8).sum : Rat) / ((temp :: s.power.temps).take 8).length) := by
  unfold measured
  extract_lets l n sum mean top x
  have cast : (sum : Rat) / n = (sum : Rat) / (l.length : Rat) := by
    rw [show n = (l.length : Int) from rfl, Int.cast_natCast]
  have same : mean = roundAway ((sum : Rat) / (l.length : Rat)) := congrArg roundAway cast
  have low : -2 ^ 15 ≤ mean := same ▸ low
  have high : mean < 2 ^ 15 := same ▸ high
  have clamped : clamp (-(2 : Int) ^ (F.POWER_TEMP_TEMP.w - 1)) (2 ^ (F.POWER_TEMP_TEMP.w - 1) - 1) mean = mean := by
    unfold clamp
    simp only
    omega
  have shown : (s.setSat F.POWER_TEMP_TEMP mean).getInt F.POWER_TEMP_TEMP = mean := by
    rw [setSat, clamped]
    exact getInt_setInt_same _ (by decide) (by decide) low high
  have last : Kept [] [.power] x (x.mapPower fun p => { p with temps := l, lastTemp := x.elapsed, tempSeen := true }) := Kept.rfl.mapPower
  rw [last.getInt]
  refine ((when_eq (fun x => x.getInt F.POWER_TEMP_TEMP) _ ?_).trans shown).trans same
  rw [State.getInt, State.getInt, setSat, get_setInt_apart _ (by decide)]

theorem kept_released (go : Bool) : Kept [] [.power] s (s.released go) := Kept.rfl.when fun h => h.mapPower

theorem power_released (go : Bool) : (s.released go).power = { s.power with holds := if go then s.power.holds.filter (· ≠ 4) else s.power.holds } := by
  unfold released
  cases go
  · rw [when_false]
    rfl
  · rw [when_true, power_mapPower]
    rfl

theorem elapsed_released (go : Bool) : (s.released go).elapsed = s.elapsed := when_eq elapsed _ (elapsed_mapPower ..)

theorem powerLive_congr {a b : State} (due : b.power.startDue = a.power.startDue) (whole : b.power.whole = a.power.whole) :
    b.powerLive = a.powerLive := by
  rw [powerLive, powerLive, due, whole]

end State

/-- The mean lies between its bounds where every measurement does. -/
theorem mean_between {l : List Int} {low high : Int} (ne : l ≠ []) (h : ∀ x ∈ l, low ≤ x ∧ x ≤ high) :
    (low : Rat) ≤ (l.sum : Rat) / l.length ∧ (l.sum : Rat) / l.length ≤ high := by
  have pos : (0 : Rat) < l.length := by exact_mod_cast List.length_pos_iff.2 ne
  have sums : low * l.length ≤ l.sum ∧ l.sum ≤ high * l.length := by
    clear ne pos
    induction l with
    | nil => simp
    | cons x l ih =>
      obtain ⟨hx, hl⟩ := List.forall_mem_cons.1 h
      obtain ⟨lower, upper⟩ := ih hl
      rw [List.sum_cons, List.length_cons]
      push_cast
      constructor <;> linarith
  rw [le_div_iff₀ pos, div_le_iff₀ pos]
  exact ⟨by exact_mod_cast sums.1, by exact_mod_cast sums.2⟩

/-- Rounding stays within whole bounds. -/
theorem roundAway_between {x : Rat} {n : Int} (pos : 0 ≤ n) (low : -(n : Rat) ≤ x) (high : x ≤ n) : -n - 1 ≤ roundAway x ∧ roundAway x ≤ n + 1 := by
  unfold roundAway
  split
  next nonneg =>
    have upper : (x + 1 / 2).floor ≤ n + 1 := by
      have : ((x + 1 / 2).floor : Rat) ≤ x + 1 / 2 := Rat.floor_le _
      have : ((x + 1 / 2).floor : Rat) ≤ ((n + 1 : Int) : Rat) := by push_cast; linarith
      exact_mod_cast this
    have lower : (0 : Int) ≤ (x + 1 / 2).floor := Rat.le_floor_iff.2 (by push_cast; linarith)
    omega
  next neg =>
    have upper : (-x + 1 / 2).floor ≤ n + 1 := by
      have : ((-x + 1 / 2).floor : Rat) ≤ -x + 1 / 2 := Rat.floor_le _
      have : ((-x + 1 / 2).floor : Rat) ≤ ((n + 1 : Int) : Rat) := by push_cast; linarith
      exact_mod_cast this
    have lower : (0 : Int) ≤ (-x + 1 / 2).floor := Rat.le_floor_iff.2 (by push_cast; linarith)
    omega

end Sys2Proof.Machine

/-! PROOFS. The commands of the PLLs and of the thermal governor (O49). -/

namespace Sys2Proof.Machine

set_option Elab.async false

theorem mean_lt_iff {l : List Int} (ne : l ≠ []) (k : Int) : k < (l.sum : Rat) / l.length ↔ k * (l.length : Int) < l.sum := by
  have pos : (0 : Rat) < l.length := by exact_mod_cast List.length_pos_iff.2 ne
  rw [lt_div_iff₀ pos]
  exact_mod_cast Iff.rfl

theorem mean_le_iff {l : List Int} (ne : l ≠ []) (k : Int) : (l.sum : Rat) / l.length ≤ k ↔ l.sum ≤ k * (l.length : Int) := by
  rw [← not_lt, mean_lt_iff ne, not_lt]

namespace State

variable (s : State)

/-! HOT at its end (R621) -/

/-- The time in HOT so far. -/
def timeInHot (s : State) : Nat :=
  match s.power.hotSince with
  | some t0 => s.power.hotSpent + (s.elapsed - t0)
  | none => s.power.hotSpent

/-- HOT left, before it is told. -/
def hotLeft (s : State) : State :=
  (s.setBit F.POWER_STATUS_THERM false).mapPower fun p => { p with hotSince := none, coolSince := none, hotSpent := s.timeInHot }

theorem execHotExit_eq (t : Nat) : execHotExit t s = s.run t fun s =>
    if s.bit F.POWER_STATUS_THERM && s.due s.power.coolSince second then (s.showHot.hotLeft.raise 18).judgeSpeed.judgeDeferred else s := rfl

/-- The measurement missed (R620). -/
def tempLost (s : State) : State := (s.set F.POWER_TEMP_TEMP 0x7FFF).mapPower fun p => { p with coolSince := none }

theorem execTempTimeout_eq (t : Nat) : execTempTimeout t s = s.run t fun s =>
    if s.expired s.power.lastTemp 1000000 && s.powerLive then s.tempLost.when (!s.tempLost.bit F.POWER_STATUS_THERM) enterHot else s := rfl

theorem kept_hotLeft : Kept [Reg.POWER_STATUS] [.power] s s.hotLeft := Kept.rfl.setBit.mapPower

theorem hotLeft_spec : s.hotLeft.bit F.POWER_STATUS_THERM = false ∧ s.hotLeft.power.hotSince = none := by
  have last : Kept [] [.power] (s.setBit F.POWER_STATUS_THERM false) s.hotLeft := Kept.rfl.mapPower
  exact ⟨last.bit.trans (bit_setBit_same _ (by decide) rfl), by rw [hotLeft, power_mapPower]⟩

/-- What the governor makes of a measurement: HOT entered, or its second begun or dropped (R621). -/
theorem governed_spec (n sum : Int) : (s.governed n sum).power.temps = s.power.temps ∧ (s.governed n sum).power.holds = s.power.holds ∧
    (s.governed n sum).getInt F.POWER_TEMP_TEMP = s.getInt F.POWER_TEMP_TEMP ∧
    (s.bit F.POWER_STATUS_THERM = true → Kept [Reg.POWER_HOT_TIME] [.power] s (s.governed n sum) ∧
      (s.governed n sum).power.coolSince = if sum ≤ 1100 * n then some (s.power.coolSince.getD s.showHot.elapsed) else none) ∧
    (s.bit F.POWER_STATUS_THERM = false → sum ≤ 1150 * n → Kept [Reg.POWER_HOT_TIME] [.power] s (s.governed n sum)) ∧
    (s.bit F.POWER_STATUS_THERM = false → 1150 * n < sum → s.governed n sum = s.showHot.enterHot) := by
  obtain ⟨x, hx⟩ : ∃ x, s.showHot = x := ⟨_, rfl⟩
  have shown : Kept [Reg.POWER_HOT_TIME] [] s x := hx ▸ s.kept_showHot
  have power : x.power = s.power := shown.2 .power (by decide)
  have therm : x.bit F.POWER_STATUS_THERM = s.bit F.POWER_STATUS_THERM := shown.bit
  have temp : x.getInt F.POWER_TEMP_TEMP = s.getInt F.POWER_TEMP_TEMP := shown.getInt
  have eq : s.governed n sum = if x.bit F.POWER_STATUS_THERM then
      x.mapPower fun p => { p with coolSince := if sum ≤ 1100 * n then some (p.coolSince.getD x.elapsed) else none }
    else x.when (1150 * n < sum) enterHot := by rw [governed, hx]
  rw [hx]
  cases hot : s.bit F.POWER_STATUS_THERM
  · rw [therm, hot, if_neg (by decide)] at eq
    by_cases above : 1150 * n < sum
    · rw [decide_eq_true above, when_true] at eq
      obtain ⟨-, -, -, -, -, entered⟩ := x.enterHot_spec
      refine ⟨by rw [eq, entered, power], by rw [eq, entered, power], by rw [eq, x.kept_enterHot.getInt, temp], fun h => absurd h (by decide),
        fun _ h => absurd above (by omega), fun _ _ => eq⟩
    · rw [decide_eq_false above, when_false] at eq
      exact ⟨by rw [eq, power], by rw [eq, power], by rw [eq, temp], fun h => absurd h (by decide), fun _ _ => eq ▸ shown.mono,
        fun _ h => absurd h above⟩
  · rw [therm, hot, if_pos rfl] at eq
    obtain ⟨y, hy⟩ : ∃ y, x.mapPower (fun p => { p with coolSince := if sum ≤ 1100 * n then some (p.coolSince.getD x.elapsed) else none }) = y := ⟨_, rfl⟩
    have last : Kept [] [.power] x y := hy ▸ Kept.rfl.mapPower
    have after : y.power = { s.power with coolSince := if sum ≤ 1100 * n then some (s.power.coolSince.getD x.elapsed) else none } := by
      rw [← hy, power_mapPower, power]
    rw [eq, hy]
    exact ⟨by rw [after], by rw [after], by rw [last.getInt, temp], fun _ => ⟨shown.mono.trans last.mono, by rw [after]⟩,
      fun h => absurd h (by decide), fun h => absurd h (by decide)⟩

end State

/-- What a THERMAL reset and what the governor leave, by the sum of the latest eight measurements. -/
theorem temperatureMeasured (s : State) (t : Nat) (temp : Int) : let a := s.advance t; let l := (temp :: a.power.temps).take 8
    let mean : Rat := (l.sum : Rat) / l.length
    (∀ x ∈ l, -1000 ≤ x ∧ x ≤ 3000) →
    Completes (.temperatureMeasurement t temp) s fun b => b.power.temps = (if 1400 < mean ∧ 4 ∉ a.power.holds then b.power.temps else l) ∧
      (4 ∈ a.power.holds → (4 ∈ b.power.holds ↔ 1250 < mean)) ∧
      (1400 < mean → 4 ∉ a.power.holds → 4 ∈ b.power.holds ∧ b.bit F.POWER_STATUS_START_DONE = false ∧ b.curtain = 0) ∧
      (mean ≤ 1400 → a.powerLive = true → b.getInt F.POWER_TEMP_TEMP = roundAway mean ∧
        (1150 < mean → a.bit F.POWER_STATUS_THERM = false → b.bit F.POWER_STATUS_THERM = true ∧
          b.get F.POWER_HOT_ENTRIES_COUNT = min (a.get F.POWER_HOT_ENTRIES_COUNT + 1) 0xFFFFFFFF ∧
          (a.bit F.CLOCK_STATUS_CORE_BYP = false → b.bit F.CLOCK_STATUS_CORE_SLOW = true) ∧
          b.bit F.SCRUB_STATUS_DEFERRED = true ∧ Raised [(a.datum, 18, 0)] a b) ∧
        (mean ≤ 1150 → a.bit F.POWER_STATUS_THERM = false → Kept [Reg.POWER_TEMP, Reg.POWER_HOT_TIME] [.power] a b) ∧
        (a.bit F.POWER_STATUS_THERM = true → (b.power.coolSince.isSome = true ↔ mean ≤ 1100) ∧
          (∀ t0, a.power.coolSince = some t0 → mean ≤ 1100 → b.power.coolSince = some t0) ∧
          Kept [Reg.POWER_TEMP, Reg.POWER_HOT_TIME] [.power] a b)) := by
  intro a l mean bounds
  have now : s.advance t = a := rfl
  clear_value a
  have effect := (exec_temperatureMeasurement t temp s).trans (s.execTemperatureMeasurement_eq t temp)
  have ne : l ≠ [] := by simp [l]
  have over_ (k : Int) : (k : Rat) < mean ↔ k * (l.length : Int) < l.sum := mean_lt_iff ne k
  have upto (k : Int) : mean ≤ (k : Rat) ↔ l.sum ≤ k * (l.length : Int) := mean_le_iff ne k
  have pos : 0 < (l.length : Int) := by exact_mod_cast List.length_pos_iff.2 ne
  have over1400 : 1400 < mean ↔ 1400 * (l.length : Int) < l.sum := by exact_mod_cast over_ 1400
  have over1250 : 1250 < mean ↔ 1250 * (l.length : Int) < l.sum := by exact_mod_cast over_ 1250
  have over1150 : 1150 < mean ↔ 1150 * (l.length : Int) < l.sum := by exact_mod_cast over_ 1150
  have upto1400 : mean ≤ 1400 ↔ l.sum ≤ 1400 * (l.length : Int) := by exact_mod_cast upto 1400
  have upto1150 : mean ≤ 1150 ↔ l.sum ≤ 1150 * (l.length : Int) := by exact_mod_cast upto 1150
  have upto1100 : mean ≤ 1100 ↔ l.sum ≤ 1100 * (l.length : Int) := by exact_mod_cast upto 1100
  have rounded : -3001 ≤ roundAway mean ∧ roundAway mean ≤ 3001 := by
    obtain ⟨low, high⟩ := mean_between ne bounds
    have := roundAway_between (x := mean) (n := 3000) (by decide) (le_trans (by norm_num) (show ((-1000 : Int) : Rat) ≤ mean from low)) high
    omega
  obtain ⟨x, hx⟩ : ∃ x, a.measured temp = x := ⟨_, rfl⟩
  have measured : Kept [Reg.POWER_TEMP] [.power] a x := hx ▸ a.kept_measured temp
  have noted : x.power = { a.power with temps := l, lastTemp := a.elapsed, tempSeen := true } := hx ▸ a.power_measured temp
  have shown : x.getInt F.POWER_TEMP_TEMP = roundAway mean := hx ▸ a.temp_measured
    (show -2 ^ 15 ≤ roundAway mean by omega) (show roundAway mean < 2 ^ 15 by omega)
  obtain ⟨go, hgo⟩ : ∃ go, (x.power.holds.contains 4 && decide (l.sum ≤ 1250 * (l.length : Int))) = go := ⟨_, rfl⟩
  obtain ⟨y, hy⟩ : ∃ y, x.released go = y := ⟨_, rfl⟩
  have released : Kept [] [.power] x y := hy ▸ x.kept_released go
  have kept : Kept [Reg.POWER_TEMP] [.power] a y := measured.trans released.mono
  have power : y.power = { a.power with
      temps := l, lastTemp := a.elapsed, tempSeen := true, holds := if go then a.power.holds.filter (· ≠ 4) else a.power.holds } := by
    rw [← hy, State.power_released, noted]
  have held : 4 ∈ a.power.holds → (4 ∈ y.power.holds ↔ 1250 < mean) := fun mem => by
    have contains : x.power.holds.contains 4 = true := by
      rw [noted]
      exact List.elem_eq_true_of_mem mem
    rw [contains, Bool.true_and] at hgo
    rw [power, over1250, ← not_le, ← decide_eq_true_iff (p := l.sum ≤ _), hgo]
    cases go <;> simp [mem]
  have run {b : State} (h : (if 1400 * (l.length : Int) < l.sum then y.holdReset 4 true else if !y.powerLive then y else y.governed l.length l.sum) = b) :
      (let x := a.measured temp
        let y := x.released (x.power.holds.contains 4 && l.sum ≤ 1250 * (l.length : Int))
        if 1400 * (l.length : Int) < l.sum then y.holdReset 4 true else if !y.powerLive then y else y.governed l.length l.sum) = b := by
    rw [hx]
    dsimp only
    rw [hgo, hy]
    exact h
  by_cases hot : 1400 * (l.length : Int) < l.sum
  · by_cases mem : 4 ∈ a.power.holds
    · have still : y.holdReset 4 true = y := by
        have contains : y.power.holds.contains 4 = true := List.elem_eq_true_of_mem ((held mem).2 (over1250.2 (by omega)))
        rw [State.holdReset, contains]
        rfl
      refine completes_at (x := y) effect now (run ((if_pos hot).trans still)) ⟨?_, fun _ => ?_, fun _ h => absurd mem h, fun h => ?_⟩
      · rw [if_neg (fun h => h.2 mem), State.power_settle, power]
      · rw [State.power_settle]
        exact held mem
      · exact absurd (upto1400.1 h) (by omega)
    · have free : 4 ∉ y.power.holds := by
        rw [power]
        dsimp only
        split
        · exact fun h => mem (List.mem_of_mem_filter h)
        · exact mem
      obtain ⟨down, start⟩ := y.assertReset_spec (k := 4) (by decide) (by decide) true
      obtain ⟨z, hz⟩ : ∃ z, y.assertReset 4 true = z := ⟨_, rfl⟩
      rw [hz] at down start
      have last : Kept [] [.power] z (z.mapPower fun p => { p with holds := 4 :: p.holds }) := Kept.rfl.mapPower
      refine completes_at (x := z.mapPower fun p => { p with holds := 4 :: p.holds }) effect now
        (run ((if_pos hot).trans (by rw [y.holdReset_of_not_mem free, hz]))) ⟨?_, fun h => absurd h mem, fun _ _ => ⟨?_, ?_, ?_⟩, fun h => ?_⟩
      · rw [if_pos ⟨over1400.2 hot, mem⟩]
      · rw [State.power_settle, State.power_mapPower]
        exact List.mem_cons_self ..
      · rw [State.bit_settle, last.bit, start]
      · exact (State.get_settle ..).trans (last.get.trans down)
      · exact absurd (upto1400.1 h) (by omega)
  · have cold : ¬(1400 < mean ∧ 4 ∉ a.power.holds) := fun h => hot (over1400.1 h.1)
    have live : y.powerLive = a.powerLive := State.powerLive_congr (by rw [power]) (by rw [power])
    cases awake : a.powerLive
    · refine completes_at (x := y) effect now (run ((if_neg hot).trans (if_pos (by rw [live, awake]; rfl))))
        ⟨?_, fun mem => ?_, fun h => absurd (over1400.1 h) hot, fun _ h => absurd h (by decide)⟩
      · rw [if_neg cold, State.power_settle, power]
      · rw [State.power_settle]
        exact held mem
    · obtain ⟨temps, holds, tempShown, inHot, cool, enters⟩ := y.governed_spec l.length l.sum
      have therm : y.bit F.POWER_STATUS_THERM = a.bit F.POWER_STATUS_THERM := kept.bit
      refine completes_at (x := y.governed l.length l.sum) effect now (run ((if_neg hot).trans (if_neg (by rw [live, awake]; decide))))
        ⟨?_, fun mem => ?_, fun h => absurd (over1400.1 h) hot, fun _ _ => ⟨?_, fun above was => ?_, fun below was => ?_, fun was => ?_⟩⟩
      · rw [if_neg cold, State.power_settle, temps, power]
      · rw [State.power_settle, holds]
        exact held mem
      · rw [State.getInt_settle, tempShown, released.getInt, shown]
      · rw [enters (therm.trans was) (over1150.1 above)]
        have timed : Kept [Reg.POWER_TEMP, Reg.POWER_HOT_TIME] [.power] a y.showHot := kept.mono.trans y.kept_showHot.mono
        obtain ⟨entered, count, slow, deferred, told, -⟩ := y.showHot.enterHot_spec
        have datum : y.showHot.datum = a.datum := timed.2 .datum (by decide)
        refine ⟨?_, ?_, fun clocked => ?_, ?_, ((datum ▸ told).of_kept timed).settle⟩
        · rw [State.bit_settle, entered]
        · rw [State.get_settle, count, timed.get]
        · rw [State.bit_settle, slow (timed.bit.trans clocked)]
        · rw [State.bit_settle, deferred]
      · exact (kept.mono.trans (cool (therm.trans was) (upto1150.1 below)).mono).settled now
      · obtain ⟨govern, since⟩ := inHot (therm.trans was)
        refine ⟨?_, fun t0 h below => ?_, (kept.mono.trans govern.mono).settled now⟩
        · rw [State.power_settle, since, upto1100]
          split <;> simp [*]
        · rw [State.power_settle, since, if_pos (upto1100.1 below), power, h]
          rfl

/-- Settles O49: each domain's loss and return by what its operations keep, the governor by the sum of its measurements. -/
theorem pllsAndTheGovernor : Obligations.PllsAndTheGovernor := by
  refine ⟨?unlock, ?relock, ?attempt, ?core, ?conv, ?temperature, ?exit, ?timeout⟩
  case unlock =>
    intro s t i a
    have now : s.advance t = a := rfl
    clear_value a
    have effect := (exec_pllUnlock t i s).trans (s.execPllUnlock_eq t i)
    cases locked : (a.pll i).locked
    · exact completes_at (x := a) effect now (if_pos (by rw [locked]; rfl)) ⟨fun _ => Kept.rfl.settled now, fun h => absurd h (by decide)⟩
    have go : ¬(!(a.pll i).locked) = true := by rw [locked]; decide
    obtain ⟨lock, pll, count, told, byp⟩ := a.lockLost_spec i.isLt
    have lost := a.kept_lockLost i
    obtain ⟨x, hx⟩ : ∃ x, a.lockLost i = x := ⟨_, rfl⟩
    rw [hx] at lock pll count told byp lost
    have datum : x.datum = a.datum := lost.2 .datum (by decide)
    have power {y : State} (same : y.power.plls = x.power.plls) : ((s.settle a y).pll i).locked = false ∧ ((s.settle a y).pll i).off = true := by
      have eq : (s.settle a y).pll i = x.pll i := State.pll_congr ((congrArg Power.plls (State.power_settle ..)).trans same) i
      rw [eq, pll]
      exact ⟨rfl, rfl⟩
    have key : i.val = 0 ∨ i.val = 1 ∨ i.val = 2 := by omega
    rcases key with hi | hi | hi
    · have core := x.kept_coreBypassed
      obtain ⟨crystal, deferred, causes, more, locks⟩ := x.coreBypassed_spec
      obtain ⟨y, hy⟩ : ∃ y, x.coreBypassed = y := ⟨_, rfl⟩
      rw [hy] at core crystal deferred causes more locks
      have unlocks : y.get F.CLOCK_UNLOCKS_COUNT = x.get F.CLOCK_UNLOCKS_COUNT := core.get
      refine completes_at (x := y) effect now ((if_neg go).trans ((if_pos hi).trans (by rw [hx, hy]))) ⟨fun h => absurd h (by decide), fun _ =>
        ⟨?_, (power (by rw [core.2 .power (by decide)])).1, (power (by rw [core.2 .power (by decide)])).2, ?_, fun _ => ⟨?_, ?_, ?_, ?_, ?_⟩,
          fun h => ?_, fun h => ?_, fun h => ?_⟩⟩
      · rw [State.bit_settle, locks i i.isLt, lock]
      · rw [State.get_settle, unlocks, count]
      · rw [State.bit_settle, crystal]
      · rw [State.bit_settle, deferred]
      · rw [State.curt_settle, causes, lost.2 .curt (by decide), datum]
      · have first : Raised [(a.datum, 19, 0)] a x := hi ▸ told
        have second : Raised [(a.datum, 21, 0)] x y := datum ▸ more
        exact (first.append second).settle
      · exact (lost.mono.trans core.mono).settled now
      all_goals
        rw [h] at hi
        exact absurd hi (by decide)
    · cases already : a.power.stageByp
      · have spec := x.stageFailed_spec i.isLt
        obtain ⟨y, hy⟩ : ∃ y, x.stageFailed = y := ⟨_, rfl⟩
        rw [hy] at spec
        obtain ⟨stage, mark, halted, free, reports, locks, pll', unlocks⟩ := spec
        have again : ¬x.power.stageByp = true := by
          rw [byp, already]
          decide
        refine completes_at (x := y) effect now ((if_neg go).trans ((if_neg (by omega)).trans ((if_pos hi).trans ?_))) ⟨fun h => absurd h (by decide), fun _ =>
          ⟨?_, ?_, ?_, ?_, fun h => ?_, fun _ _ => ⟨?_, ?_, fun n hn => ?_, ?_, ?_⟩, fun _ h => absurd h (by decide), fun h => ?_⟩⟩
        · rw [hx]
          exact (if_neg again).trans hy
        · rw [State.bit_settle, locks, lock]
        all_goals try
          have same : (s.settle a y).pll i = y.pll i := State.pll_congr (congrArg Power.plls (State.power_settle ..)) i
        · rw [same, pll', pll]
        · rw [same, pll', pll]
        · rw [State.get_settle, unlocks, count]
        · rw [h] at hi
          exact absurd hi (by decide)
        · rw [State.bit_settle, stage]
        · rw [State.power_settle, mark]
        · exact (State.ibit_settle ..).trans (halted n hn)
        · exact (State.get_settle ..).trans free
        · obtain ⟨l, eq⟩ := reports
          refine ⟨l, ?_⟩
          have first : x.router.inflight = a.router.inflight ++ [{ stamp := a.datum, num := 19, inst := 1 }] := by
            rw [Raised] at told
            rw [told, hi]
            rfl
          rw [State.router_settle, eq, first, List.append_assoc]
          rfl
        · rw [h] at hi
          exact absurd hi (by decide)
      · refine completes_at (x := x) effect now ((if_neg go).trans ((if_neg (by omega)).trans ((if_pos hi).trans ?_))) ⟨fun h => absurd h (by decide), fun _ =>
          ⟨?_, (power rfl).1, (power rfl).2, ?_, fun h => ?_, fun _ h => absurd h (by decide), fun _ _ => ⟨?_, lost.settled now⟩, fun h => ?_⟩⟩
        · rw [hx]
          exact if_pos (byp.trans already)
        · rw [State.bit_settle, lock]
        · rw [State.get_settle, count]
        · rw [h] at hi
          exact absurd hi (by decide)
        · exact (hi ▸ told : Raised [(a.datum, 19, 1)] a x).settle
        · rw [h] at hi
          exact absurd hi (by decide)
    · have stopped : Kept [Reg.CLOCK_STATUS] [] x (x.setBit F.CLOCK_STATUS_CONV_STOP true) := Kept.rfl.setBit
      refine completes_at (x := x.setBit F.CLOCK_STATUS_CONV_STOP true) effect now ((if_neg go).trans ((if_neg (by omega)).trans ((if_neg (by omega)).trans (by rw [hx]))))
        ⟨fun h => absurd h (by decide), fun _ =>
          ⟨?_, (power (by rw [State.power_setBit])).1, (power (by rw [State.power_setBit])).2, ?_, fun h => ?_, fun h => ?_, fun h => ?_, fun _ => ⟨?_, ?_, ?_⟩⟩⟩
      · rw [State.bit_settle, State.bit_setBit_apart _ (by rw [hi]; decide), lock]
      · rw [State.get_settle, stopped.get, count]
      any_goals
        rw [h] at hi
        exact absurd hi (by decide)
      · rw [State.bit_settle, State.bit_setBit_same _ (by decide) rfl]
      · exact ((hi ▸ told : Raised [(a.datum, 19, 2)] a x).kept stopped).settle
      · exact (lost.trans stopped.mono).settled now
  case relock =>
    intro s t i a band
    have now : s.advance t = a := rfl
    clear_value a
    have effect := (exec_pllRelock t i s).trans (s.execPllRelock_eq t i)
    by_cases idle : (a.pll i).locked = true ∨ (a.pll i).off = false
    · refine completes_at (x := a) effect now (if_pos ?_) ?_
      · rw [State.hunting]
        rcases idle with h | h <;> simp [h]
      · rw [if_pos idle]
        exact Kept.rfl.settled now
    · have hunting : ¬(!a.hunting i) = true := by
        simp only [not_or, Bool.not_eq_true, Bool.not_eq_false] at idle
        rw [State.hunting, idle.1, idle.2]
        decide
      obtain ⟨lock, pll, count, told, found⟩ := a.lockFound_spec i.isLt
      obtain ⟨x, hx⟩ : ∃ x, a.lockFound i = x := ⟨_, rfl⟩
      rw [hx] at lock pll count told found
      obtain ⟨memo, hit, valid⟩ := x.lockMemo_spec i.isLt
      have last := x.kept_lockMemo i
      have temp : x.getInt F.POWER_TEMP_TEMP = a.getInt F.POWER_TEMP_TEMP := found.getInt
      have memos : x.ibit (memoField i) (bandOf (a.getInt F.POWER_TEMP_TEMP)) = a.ibit (memoField i) band := found.ibit (by simp [memoField])
      rw [temp] at memo hit valid
      have apart' {f : FieldRef} (h : f.addr < 0x1008 ∨ 0x1080 ≤ f.addr) : f.addr ∉ [Reg.CLOCK_PLL i, Reg.CLOCK_MEMO] := by
        have small := i.isLt
        simp only [Reg.CLOCK_PLL, Reg.CLOCK_MEMO, List.mem_cons, List.not_mem_nil, or_false, not_or]
        omega
      refine completes_at (x := x.lockMemo i) effect now ((if_neg hunting).trans (by rw [hx])) ?_
      rw [if_neg idle]
      have pll' : (s.settle a (x.lockMemo i)).pll i = x.pll i :=
        State.pll_congr (congrArg Power.plls ((State.power_settle ..).trans (last.2 .power (by decide)))) i
      refine ⟨?_, ?_, ?_, ?_, ?_, ?_, ?_, (told.kept last).settle, ?_⟩
      · rw [pll', pll]
      · rw [pll', pll]
      · rw [State.bit_settle, last.bit (apart' (.inl (show Reg.CLOCK_STATUS < 0x1008 by decide))), lock]
      · rw [State.get_settle, last.get (apart' (.inr (by decide))), count]
      · rw [State.get_settle, memo]
      · rw [State.bit_settle, hit, memos]
      · rw [State.ibit_settle, valid]
      · refine ((found.mono (by intro r hr; simp only [List.mem_cons, List.not_mem_nil, or_false] at hr ⊢; tauto) (by decide)).trans
          (last.mono ?_ (by decide))).settled now
        intro r hr
        simp only [List.mem_cons, List.not_mem_nil, or_false] at hr ⊢
        tauto
  case attempt =>
    intro s t i a
    have now : s.advance t = a := rfl
    clear_value a
    have effect : exec (.relockAttempt t i) s = s.run t fun s =>
        if s.hunting i && s.expired (s.pll i).attempt 10000000 then s.setPll i { s.pll i with attempt := s.elapsed } else s := exec_relockAttempt t i s
    by_cases due : (a.pll i).locked = false ∧ (a.pll i).off = true ∧ (a.pll i).attempt + 10000000 ≤ a.elapsed
    · refine completes_at (x := a.setPll i { a.pll i with attempt := a.elapsed }) effect now (if_pos ?_) ?_
      · rw [State.hunting, due.1, due.2.1, (State.expired_iff ..).2 due.2.2]
        rfl
      · rw [if_pos due]
        exact ⟨(State.pll_congr (congrArg Power.plls (State.power_settle ..)) i).trans (a.pll_setPll_same ..), (a.kept_setPll ..).settled now⟩
    · refine completes_at (x := a) effect now (if_neg ?_) ?_
      · rw [State.hunting, Bool.and_eq_true, Bool.and_eq_true, State.expired_iff, Bool.not_eq_true', and_assoc]
        exact due
      · rw [if_neg due]
        exact Kept.rfl.settled now
  case core =>
    intro s t a
    have now : s.advance t = a := rfl
    clear_value a
    have effect : exec (.coreReturn t) s = s.run t fun s =>
        if (s.pll 0).locked && (s.pll 0).off && s.expired (s.pll 0).since 1000000 then
          (((s.setPll 0 { s.pll 0 with off := false }).setBit F.CLOCK_STATUS_CORE_BYP false).judgeSpeed).judgeDeferred
        else s := exec_coreReturn t s
    by_cases idle : (a.pll 0).locked = false ∨ (a.pll 0).off = false ∨ a.elapsed < (a.pll 0).since + 1000000
    · refine completes_at (x := a) effect now (if_neg ?_) ?_
      · rw [Bool.and_eq_true, Bool.and_eq_true, State.expired_iff]
        rintro ⟨⟨h1, h2⟩, h3⟩
        rw [h1, h2] at idle
        simp at idle
        omega
      · rw [if_pos idle]
        exact Kept.rfl.settled now
    · have due : ((a.pll 0).locked && (a.pll 0).off && a.expired (a.pll 0).since 1000000) = true := by
        simp only [not_or, Bool.not_eq_false, not_lt] at idle
        obtain ⟨h1, h2, h3⟩ := idle
        rw [h1, h2, (State.expired_iff ..).2 h3]
        rfl
      obtain ⟨y, hy⟩ : ∃ y, a.setPll 0 { a.pll 0 with off := false } = y := ⟨_, rfl⟩
      obtain ⟨x, hx⟩ : ∃ x, y.setBit F.CLOCK_STATUS_CORE_BYP false = x := ⟨_, rfl⟩
      have put : Kept [Reg.CLOCK_STATUS] [.power] a x := by
        rw [← hx, ← hy]
        exact ((a.kept_setPll ..).mono).setBit
      have byp : x.bit F.CLOCK_STATUS_CORE_BYP = false := hx ▸ State.bit_setBit_same _ (by decide) rfl
      have therm : x.bit F.POWER_STATUS_THERM = a.bit F.POWER_STATUS_THERM := put.bit
      have last : Kept [Reg.SCRUB_STATUS] [] x.judgeSpeed x.judgeSpeed.judgeDeferred := x.judgeSpeed.kept_judgeDeferred
      refine completes_at (x := x.judgeSpeed.judgeDeferred) effect now ((if_pos due).trans (by rw [hy, hx])) ?_
      rw [if_neg idle]
      refine ⟨?_, ?_, ?_, ?_, ((put.mono.trans x.kept_judgeSpeed.mono).trans last.mono).settled now⟩
      · rw [State.bit_settle, last.bit, State.byp_judgeSpeed, byp]
      · have slow : x.bit F.CLOCK_CTRL_FORCE_SLOW = a.bit F.CLOCK_CTRL_FORCE_SLOW := put.bit
        rw [State.bit_settle, last.bit, State.slow_judgeSpeed byp, therm, slow]
      · rw [State.bit_settle, State.deferred_judgeDeferred, State.byp_judgeSpeed, byp, x.kept_judgeSpeed.bit, therm, Bool.or_false]
      · have power : (s.settle a x.judgeSpeed.judgeDeferred).power = y.power := by
          rw [State.power_settle, last.2 .power (by decide), x.kept_judgeSpeed.2 .power (by decide), ← hx, State.power_setBit]
        rw [State.pll_congr (congrArg Power.plls power), ← hy, State.pll_setPll_same]
  case conv =>
    intro s t a
    have now : s.advance t = a := rfl
    clear_value a
    have effect : exec (.convRestart t) s = s.run t fun s =>
        if (s.pll 2).locked && (s.pll 2).off && s.expired (s.pll 2).since 100000 && decide (s.datum % 1000 = 0) then
          (s.setPll 2 { s.pll 2 with off := false }).setBit F.CLOCK_STATUS_CONV_STOP false
        else s := exec_convRestart t s
    by_cases idle : (a.pll 2).locked = false ∨ (a.pll 2).off = false ∨ a.elapsed < (a.pll 2).since + 100000 ∨ a.datum % 1000 ≠ 0
    · refine completes_at (x := a) effect now (if_neg ?_) ?_
      · rw [Bool.and_eq_true, Bool.and_eq_true, Bool.and_eq_true, State.expired_iff, decide_eq_true_iff]
        rintro ⟨⟨⟨h1, h2⟩, h3⟩, h4⟩
        rw [h1, h2] at idle
        simp at idle
        omega
      · rw [if_pos idle]
        exact Kept.rfl.settled now
    · have due : ((a.pll 2).locked && (a.pll 2).off && a.expired (a.pll 2).since 100000 && decide (a.datum % 1000 = 0)) = true := by
        simp only [not_or, Bool.not_eq_false, not_lt, not_not] at idle
        obtain ⟨h1, h2, h3, h4⟩ := idle
        rw [h1, h2, (State.expired_iff ..).2 h3, h4]
        rfl
      obtain ⟨y, hy⟩ : ∃ y, a.setPll 2 { a.pll 2 with off := false } = y := ⟨_, rfl⟩
      have put : Kept [] [.power] a y := hy ▸ a.kept_setPll ..
      refine completes_at (x := y.setBit F.CLOCK_STATUS_CONV_STOP false) effect now ((if_pos due).trans (by rw [hy])) ?_
      rw [if_neg idle]
      refine ⟨?_, ?_, Kept.settled now (Kept.setBit put.mono)⟩
      · rw [State.bit_settle, State.bit_setBit_same _ (by decide) rfl]
      · have power : (s.settle a (y.setBit F.CLOCK_STATUS_CONV_STOP false)).power = y.power := by rw [State.power_settle, State.power_setBit]
        rw [State.pll_congr (congrArg Power.plls power), ← hy, State.pll_setPll_same]
  case temperature => exact temperatureMeasured
  case exit =>
    intro s t a
    have now : s.advance t = a := rfl
    clear_value a
    have effect := (exec_hotExit t s).trans (s.execHotExit_eq t)
    by_cases idle : a.bit F.POWER_STATUS_THERM = false ∨ a.due a.power.coolSince second = false
    · refine completes_at (x := a) effect now (if_neg ?_) ?_
      · rcases idle with h | h <;> simp [h]
      · rw [if_pos idle]
        exact Kept.rfl.settled now
    · have due : (a.bit F.POWER_STATUS_THERM && a.due a.power.coolSince second) = true := by
        simpa using idle
      obtain ⟨y, hy⟩ : ∃ y, a.showHot.hotLeft = y := ⟨_, rfl⟩
      have left : Kept [Reg.POWER_STATUS, Reg.POWER_HOT_TIME] [.power] a y := hy ▸ a.kept_showHot.mono.trans (State.kept_hotLeft _).mono
      obtain ⟨therm, since⟩ := a.showHot.hotLeft_spec
      rw [hy] at therm since
      obtain ⟨x, hx⟩ : ∃ x, y.raise 18 = x := ⟨_, rfl⟩
      have noted : Kept [] [.router] y x := hx ▸ Kept.rfl.raise
      have told : Raised [(a.datum, 18, 0)] a x := hx ▸ left.raised
      have speed : Kept State.speedRegs [] x x.judgeSpeed := x.kept_judgeSpeed
      have last : Kept [Reg.SCRUB_STATUS] [] x.judgeSpeed x.judgeSpeed.judgeDeferred := x.judgeSpeed.kept_judgeDeferred
      refine completes_at (x := x.judgeSpeed.judgeDeferred) effect now ((if_pos due).trans (by rw [hy, hx])) ?_
      rw [if_neg idle]
      have cold : x.judgeSpeed.bit F.POWER_STATUS_THERM = false := speed.bit.trans (noted.bit.trans therm)
      refine ⟨(State.bit_settle ..).trans (last.bit.trans cold), ?_, ?_, ((told.kept speed).kept last).settle, (((left.mono.trans noted.mono).trans speed.mono).trans last.mono).settled now⟩
      · rw [State.power_settle, last.2 .power (by decide), speed.2 .power (by decide), noted.2 .power (by decide), since]
      · have byp : x.bit F.CLOCK_STATUS_CORE_BYP = a.bit F.CLOCK_STATUS_CORE_BYP := noted.bit.trans left.bit
        rw [State.bit_settle, State.deferred_judgeDeferred, cold, State.byp_judgeSpeed, byp, Bool.false_or]
  case timeout =>
    intro s t a
    have now : s.advance t = a := rfl
    clear_value a
    have effect := (exec_tempTimeout t s).trans (s.execTempTimeout_eq t)
    by_cases idle : a.elapsed < a.power.lastTemp + 1000000 ∨ a.powerLive = false
    · refine completes_at (x := a) effect now (if_neg ?_) ?_
      · rw [Bool.and_eq_true, State.expired_iff]
        rintro ⟨h1, h2⟩
        rw [h2] at idle
        simp at idle
        omega
      · rw [if_pos idle]
        exact Kept.rfl.settled now
    · have due : (a.expired a.power.lastTemp 1000000 && a.powerLive) = true := by
        simp only [not_or, Bool.not_eq_false, not_lt] at idle
        rw [(State.expired_iff ..).2 idle.1, idle.2]
        rfl
      obtain ⟨x, hx⟩ : ∃ x, a.tempLost = x := ⟨_, rfl⟩
      have shown : Kept [Reg.POWER_TEMP] [.power] a x := hx ▸ Kept.rfl.set.mapPower
      have temp : x.get F.POWER_TEMP_TEMP = 0x7FFF := by
        have last : Kept [] [.power] (a.set F.POWER_TEMP_TEMP 0x7FFF) x := hx ▸ Kept.rfl.mapPower
        rw [last.get, State.get_set_of_lt _ (by decide) (by decide)]
      have cool : x.power.coolSince = none := by rw [← hx, State.tempLost, State.power_mapPower]
      have therm : x.bit F.POWER_STATUS_THERM = a.bit F.POWER_STATUS_THERM := shown.bit
      cases hot : a.bit F.POWER_STATUS_THERM
      · obtain ⟨entered, -, -, -, told, power⟩ := x.enterHot_spec
        have enter := x.kept_enterHot
        refine completes_at (x := x.enterHot) effect now ((if_pos due).trans ?_) ?_
        · rw [hx, therm, hot]
          exact x.when_true _
        rw [if_neg idle]
        refine ⟨?_, ?_, ?_, fun h => absurd h (by decide), fun _ => ?_⟩
        · rw [State.get_settle, enter.get, temp]
        · rw [State.bit_settle, entered]
        · rw [State.power_settle, power]
        · have first : Raised [(a.datum, 18, 0)] x x.enterHot := (shown.2 .datum (by decide) : x.datum = a.datum) ▸ told
          exact (first.of_kept shown).settle
      · refine completes_at (x := x) effect now ((if_pos due).trans ?_) ?_
        · rw [hx, therm, hot]
          exact x.when_false _
        rw [if_neg idle]
        exact ⟨by rw [State.get_settle, temp], by rw [State.bit_settle, therm, hot], by rw [State.power_settle, cool], fun _ => shown.settled now,
          fun h => absurd h (by decide)⟩

end Sys2Proof.Machine

/-! PROOFS. What a loop's transmitter sends and has frozen, through the operations on its cells (spec/04 R171 to R174, R204). -/

namespace Sys2Proof.Machine

set_option Elab.async false

namespace State

variable (s : State)

/-- The wing loops but for what is sent to the cells. -/
def rest (s : State) : Wing := { s.wing with cells := [] }

theorem rest_of_wing {x y : State} (wing : y.wing = x.wing) : y.rest = x.rest := by rw [rest, rest, wing]

theorem rest_of_kept {regs : List Nat} {parts : List Part} {x y : State} (k : Kept regs parts x y) (wing : .wing ∉ parts := by decide) :
    y.rest = x.rest := rest_of_wing (k.2 .wing wing)

theorem rest_setTx (c : Nat) (x : CellTx) : (s.setTx c x).rest = s.rest := rfl

theorem rest_giveOrder (c : Nat) (o : Owner) (codes : List Nat) : (s.giveOrder c o codes).rest = s.rest := s.rest_setTx ..

theorem rest_each {α : Type} {f : α → State → State} (h : ∀ i x, (f i x).rest = x.rest) (l : List α) : (s.each l f).rest = s.rest := by
  induction l generalizing s with
  | nil => rfl
  | cons i l ih => rw [each_cons, ih, h]

/-! A cell that goes OUT -/

theorem rest_bypass (c : Nat) (close : Bool) : (s.bypass c close).rest = s.rest :=
  (rest_of_kept (kept_setCastCell _ c _)).trans (s.rest_giveOrder ..)

theorem rest_block (c : Nat) : (s.block c).rest = s.rest := by
  unfold block
  split
  · exact s.rest_setTx ..
  · exact (rest_setTx ..).trans (s.rest_setTx ..)

theorem rest_takeover (x c : Nat) : (s.takeover x c).rest = s.rest := by
  have parted : (s.parted c).rest = s.rest := rest_of_kept (s.kept_parted c)
  obtain same | missing | ⟨r, -, -, found⟩ := s.takeover_cases x c
  · rw [same]
  · rw [missing]
    exact (rest_of_kept (Kept.rfl.setIbit.raise : Kept [Reg.CAST_STATUS] [.router] _ _)).trans parted
  · have paired : ((s.parted c).paired r (s.replaced c)).rest = s.rest := (rest_of_kept (kept_paired _ r _)).trans parted
    have charging (y : State) : (y.precharging r).rest = y.rest := by
      rw [precharging]
      exact (rest_of_kept (kept_setCastCell _ r _)).trans ((rest_bypass _ r false).trans (rest_of_wing (wing_set ..)))
    rw [found, castBlock]
    exact (rest_of_wing (wing_set ..)).trans ((rest_block _ r).trans ((charging _).trans paired))

theorem rest_goOut (c cause : Nat) : (s.goOut c cause).rest = s.rest := by
  by_cases gone : s.cState c = cs.absent ∨ s.cState c = cs.out
  · rw [goOut_of_gone gone]
  · have shut (y : State) : (y.shutOut c cause).rest = y.rest := by
      unfold shutOut
      split
      · exact (rest_of_kept (kept_setCastCell _ c _)).trans (y.rest_giveOrder ..)
      · exact (rest_block _ c).trans (y.rest_bypass c true)
    have taken : (s.takenOut c cause).rest = s.rest :=
      (rest_of_kept (kept_showContrib _ c)).trans ((shut _).trans (rest_of_kept (s.kept_markedOut c cause)))
    obtain eq | ⟨x, eq⟩ := goOut_cases (cause := cause) (not_or.1 gone)
    · rw [eq, taken]
    · rw [eq, rest_takeover, taken]

theorem rest_leavingDone (c : Nat) : (s.leavingDone c).rest = s.rest :=
  when_eq rest _ (rest_goOut ..)

/-- What the transmitters have sent and hold frozen, and the latest frame start. -/
def line (s : State) : List WireItem × List Frame × Option Nat := (s.wing.wire, s.wing.frozen, s.wing.lastStart)

theorem line_of_rest {x y : State} (h : y.rest = x.rest) : y.line = x.line :=
  show (y.rest.wire, y.rest.frozen, y.rest.lastStart) = (x.rest.wire, x.rest.frozen, x.rest.lastStart) by rw [h]

theorem loops_of_rest {x y : State} (h : y.rest = x.rest) : y.wing.loops = x.wing.loops :=
  show y.rest.loops = x.rest.loops by rw [h]

theorem line_of_kept {regs : List Nat} {parts : List Part} {x y : State} (k : Kept regs parts x y) (wing : .wing ∉ parts := by decide) :
    y.line = x.line := line_of_rest (rest_of_kept k wing)

theorem line_setLoop (n : Nat) (x : Loop) : (s.setLoop n x).line = s.line := rfl

theorem kept_leavingDone {c : Nat} (h : c < 128) : Kept outRegs [.cast, .wing, .router] s (s.leavingDone c) :=
  Kept.rfl.when fun k => k.trans (kept_goOut _ _ h)

theorem leavingDone_of_not_leaving {c : Nat} {s : State} (h : s.cState c ≠ cs.leaving) : s.leavingDone c = s := by
  rw [leavingDone, beq_eq_false_iff_ne.2 h]
  exact s.when_false _

/-- Every cell's removal judged (R333). -/
def removalsJudged (s : State) : State := s.each cellIds leavingDone

theorem kept_removalsJudged : Kept outRegs [.cast, .wing, .router] s s.removalsJudged :=
  Kept.rfl.each fun _ hc x h => h.trans (x.kept_leavingDone (List.mem_range.1 hc))

theorem line_removalsJudged : s.removalsJudged.line = s.line := line_of_rest (s.rest_each (fun c x => x.rest_leavingDone c) _)

theorem removalsJudged_of_none (h : ∀ c ∈ cellIds, s.cState c ≠ cs.leaving) : s.removalsJudged = s := by
  unfold removalsJudged
  generalize cellIds = l at h
  induction l with
  | nil => rfl
  | cons c l ih => rw [each_cons, leavingDone_of_not_leaving (h c (List.mem_cons_self ..)), ih fun e he => h e (List.mem_cons_of_mem _ he)]

/-! A frame frozen (R171, R176) -/

theorem kept_bypassSent (c a code : Nat) : Kept [] [.cast] s (s.bypassSent c a code) := by
  unfold bypassSent
  extract_lets x
  split
  · exact (Kept.rfl.cast).ite Kept.rfl
  · exact Kept.rfl

theorem kept_dumpSent (c a code : Nat) : Kept [] [.pwr] s (s.dumpSent c a code) := by
  unfold dumpSent
  exact Kept.rfl.pwr.ite Kept.rfl

abbrev cueRegs (n : Nat) : List Nat := [Reg.WING_LATE_CUE n]

/-- What a cell's slot leaves: the registers but the count of late cues, and the transmitters. -/
structure SameLine (n : Nat) (x y : State) : Prop where
  kept : Kept (cueRegs n) [.wing, .cast, .pwr] x y
  line : y.line = x.line

theorem SameLine.refl (n : Nat) (x : State) : SameLine n x x := ⟨Kept.rfl, rfl⟩

theorem SameLine.trans {n : Nat} {x y z : State} (h : SameLine n x y) (h' : SameLine n y z) : SameLine n x z :=
  ⟨h.kept.trans h'.kept, h'.line.trans h.line⟩

theorem SameLine.of_kept {n : Nat} {regs : List Nat} {parts : List Part} {x y : State} (k : Kept regs parts x y) (hr : regs ⊆ cueRegs n)
    (wing : .wing ∉ parts := by decide) (hp : parts ⊆ [.wing, .cast, .pwr] := by decide) : SameLine n x y :=
  ⟨k.mono hr hp, line_of_kept k wing⟩

theorem sameLine_setTx (n c : Nat) (x : CellTx) : SameLine n s (s.setTx c x) := ⟨(s.kept_setTx c x).mono (List.nil_subset _), rfl⟩

theorem sameLine_cellSlot (n k a c : Nat) : SameLine n s (s.cellSlot n k a c).1 := by
  unfold cellSlot
  extract_lets x halted silent r late cue closing pick
  have counted : SameLine n s late := .of_kept (regs := cueRegs n) (parts := []) (Kept.rfl.when fun h => h.count (hf := List.mem_singleton.2 rfl)) (List.Subset.refl _)
  cases pick with
  | none => exact (counted.trans (sameLine_setTx _ n c _)).trans (.of_kept (kept_bypassSent _ c a _) (List.nil_subset _))
  | some o =>
    exact ((counted.trans (sameLine_setTx _ n c _)).trans (.of_kept (kept_bypassSent _ c a _) (List.nil_subset _))).trans (.of_kept (kept_dumpSent _ c a _) (List.nil_subset _))

/-- The slots of a frame in their places. -/
def slotsFrozen (n k a : Nat) (l : List Nat) (acc : State × List Nat × List Nat) : State × List Nat × List Nat :=
  l.foldl (fun acc p =>
    match acc.1.cellAt n p with
    | none => (acc.1, acc.2.1 ++ [0xFFFF], acc.2.2 ++ [0])
    | some c =>
      let q := acc.1.cellSlot n k a c
      (q.1, acc.2.1 ++ [q.2.1], acc.2.2 ++ [q.2.2])) acc

theorem sameLine_slotsFrozen (n k a : Nat) (l : List Nat) (acc : State × List Nat × List Nat) : SameLine n acc.1 (slotsFrozen n k a l acc).1 := by
  induction l generalizing acc with
  | nil => exact SameLine.refl ..
  | cons p l ih =>
    unfold slotsFrozen at ih ⊢
    rw [List.foldl_cons]
    refine SameLine.trans ?_ (ih _)
    split
    · exact SameLine.refl ..
    · exact sameLine_cellSlot ..

/-- What a frame says of itself beside its content. -/
def frameHead (f : Frame) : Nat × Nat × Nat × Nat × Bool := (f.loop, f.k, f.fn, f.base, f.hold)

/-- The loop's frame, `r` the state and the content its slots have left. -/
def frozenFrame (a k n : Nat) (r : State × List Nat × List Nat) : Frame :=
  let l := r.1.loop n
  let (cnt, idle) := match l.train with
    | some t => (t.phase == 2 && t.frames < 4, t.phase == 2 && 4 ≤ t.frames)
    | none => (false, false)
  { loop := n, k := k, fn := k % 65536, base := frameBase a n, hold := false
    cues := r.2.1, orders := r.2.2, count := cnt, idle := idle
    phase := match l.train with
      | some t => t.phase
      | none => 0 }

/-- The loop once its frame is frozen. -/
def frozenLoop (a n : Nat) (x : State) : Loop :=
  let l := x.loop n
  let resumed := l.resumeDue && x.loopHalted n
  { l with resumeAt := if resumed then some (l.resumeAt.getD a) else l.resumeAt, resumeDue := l.resumeDue && !resumed }

/-- The frame added to those frozen. -/
def frameAdded (f : Frame) (s : State) : State := s.mapWing fun w => { w with frozen := w.frozen ++ [f] }

/-- The state with its frame, `r` the state and the content its slots have left. -/
def loopFrozen (a k n : Nat) (r : State × List Nat × List Nat) : State :=
  let x := r.1.frameAdded (frozenFrame a k n r)
  x.setLoop n (frozenLoop a n x)

theorem freezeLoop_eq (k n : Nat) :
    s.freezeLoop k n = loopFrozen (s.actBase k) k n (slotsFrozen n k (s.actBase k) (List.range s.frameSlots) (s, [], [])) := rfl

theorem head_frozenFrame (a k n : Nat) (r : State × List Nat × List Nat) :
    frameHead (frozenFrame a k n r) = (n, k, k % 65536, frameBase a n, false) := by
  unfold frozenFrame frameHead
  cases (r.1.loop n).train <;> rfl

/-- One loop's frame frozen: registers, what is sent and the frames frozen. -/
theorem freezeLoop_spec (k n : Nat) :
    Kept (cueRegs n) [.wing, .cast, .pwr] s (s.freezeLoop k n) ∧ (s.freezeLoop k n).wing.wire = s.wing.wire ∧
    (s.freezeLoop k n).wing.lastStart = s.wing.lastStart ∧
    ∃ f, frameHead f = (n, k, k % 65536, frameBase (s.actBase k) n, false) ∧ (s.freezeLoop k n).wing.frozen = s.wing.frozen ++ [f] := by
  have same := sameLine_slotsFrozen n k (s.actBase k) (List.range s.frameSlots) (s, [], [])
  rw [freezeLoop_eq]
  generalize slotsFrozen n k (s.actBase k) (List.range s.frameSlots) (s, [], []) = r at same ⊢
  obtain ⟨kept, line⟩ := same
  obtain ⟨wire, frozen, last⟩ : r.1.wing.wire = s.wing.wire ∧ r.1.wing.frozen = s.wing.frozen ∧ r.1.wing.lastStart = s.wing.lastStart := by
    simpa only [State.line, Prod.mk.injEq] using line
  exact ⟨kept.wing.wing, wire, last, _, head_frozenFrame .., congrArg (· ++ [_]) frozen⟩

theorem actBase_of_kept {regs : List Nat} {parts : List Part} {x y : State} (k : Kept regs parts x y) (ctrl : Reg.WING_CTRL ∉ regs := by decide)
    (delta : Reg.WING_DELTA ∉ regs := by decide) (n : Nat) : y.actBase n = x.actBase n := by
  have ctrlSame : y.get F.WING_CTRL_PERIOD = x.get F.WING_CTRL_PERIOD := k.get ctrl
  have deltaSame : y.get F.WING_DELTA_DELTA = x.get F.WING_DELTA_DELTA := k.get delta
  simp only [actBase, framePeriod, frameTime, cueLead, ctrlSame, deltaSame]

theorem enabledLoops_of_kept {regs : List Nat} {parts : List Part} {x y : State} (k : Kept regs parts x y)
    (ctrl : Reg.WING_CTRL ∉ regs := by decide) : y.enabledLoops = x.enabledLoops := by
  have same : y.loopEnabled = x.loopEnabled := funext fun n => k.ibit ctrl
  rw [enabledLoops, enabledLoops, same]

abbrev lateRegs : List Nat := (List.range 4).map Reg.WING_LATE_CUE

theorem lt_of_mem_enabledLoops {n : Nat} (h : n ∈ s.enabledLoops) : n < 4 := List.mem_range.1 (List.mem_filter.1 h).1

/-- The frames of some loops frozen, one after the other. -/
theorem each_freezeLoop (k : Nat) {l : List Nat} (small : ∀ n ∈ l, n < 4) :
    Kept lateRegs [.wing, .cast, .pwr] s (s.each l (freezeLoop k)) ∧ (s.each l (freezeLoop k)).wing.wire = s.wing.wire ∧
    (s.each l (freezeLoop k)).wing.lastStart = s.wing.lastStart ∧
    (s.each l (freezeLoop k)).wing.frozen.map frameHead =
      s.wing.frozen.map frameHead ++ l.map fun n => (n, k, k % 65536, frameBase (s.actBase k) n, false) := by
  induction l generalizing s with
  | nil => exact ⟨Kept.rfl, rfl, rfl, (List.append_nil _).symm⟩
  | cons n l ih =>
    rw [each_cons]
    obtain ⟨kept, wire, last, f, head, frozen⟩ := s.freezeLoop_spec k n
    have late : cueRegs n ⊆ lateRegs := List.cons_subset.2
      ⟨List.mem_map.2 ⟨n, List.mem_range.2 (small n (List.mem_cons_self ..)), rfl⟩, List.nil_subset _⟩
    obtain ⟨y, hy⟩ : ∃ y, s.freezeLoop k n = y := ⟨_, rfl⟩
    rw [hy] at kept wire last frozen ⊢
    have here : Kept lateRegs [.wing, .cast, .pwr] s y := kept.mono late (List.Subset.refl _)
    obtain ⟨kept', wire', last', frozen'⟩ := ih y fun m hm => small m (List.mem_cons_of_mem _ hm)
    refine ⟨here.trans kept', wire'.trans wire, last'.trans last, ?_⟩
    rw [frozen', frozen, List.map_append, List.map_cons, List.map_nil, head, List.append_assoc, actBase_of_kept here]
    rfl

/-- What was frozen before is given up. -/
def unfrozen (s : State) : State := s.mapWing fun w => { w with frozen := [] }

theorem freezeFrame_eq (k : Nat) : s.freezeFrame k = s.unfrozen.each s.enabledLoops (freezeLoop k) := rfl

theorem freezeFrame_spec (k : Nat) :
    Kept lateRegs [.wing, .cast, .pwr] s (s.freezeFrame k) ∧ (s.freezeFrame k).wing.wire = s.wing.wire ∧
    (s.freezeFrame k).wing.lastStart = s.wing.lastStart ∧
    (s.freezeFrame k).wing.frozen.map frameHead = s.enabledLoops.map fun n => (n, k, k % 65536, frameBase (s.actBase k) n, false) := by
  have given : Kept lateRegs [.wing, .cast, .pwr] s s.unfrozen := Kept.rfl.wing
  have wire : s.unfrozen.wing.wire = s.wing.wire := rfl
  have last : s.unfrozen.wing.lastStart = s.wing.lastStart := rfl
  have frozen : s.unfrozen.wing.frozen = [] := rfl
  rw [freezeFrame_eq]
  obtain ⟨y, hy⟩ : ∃ y, s.unfrozen = y := ⟨_, rfl⟩
  rw [hy] at given wire last frozen ⊢
  obtain ⟨kept', wire', last', frozen'⟩ := y.each_freezeLoop k fun n hn => s.lt_of_mem_enabledLoops hn
  refine ⟨given.trans kept', wire'.trans wire, last'.trans last, ?_⟩
  rw [frozen', frozen, actBase_of_kept given]
  rfl

/-! A frame sent (R167, R204) -/

/-- What a transmitter's training leaves: everything but the loop's training, its orders and their records. -/
structure SameWire (n : Nat) (x y : State) : Prop where
  kept : Kept [Reg.WING_STATUS, Reg.WING_TRAIN n] [.wing, .router] x y
  line : y.line = x.line

theorem SameWire.refl (n : Nat) (x : State) : SameWire n x x := ⟨Kept.rfl, rfl⟩

theorem SameWire.trans {n : Nat} {x y z : State} (h : SameWire n x y) (h' : SameWire n y z) : SameWire n x z :=
  ⟨h.kept.trans h'.kept, h'.line.trans h.line⟩

theorem SameWire.each {n : Nat} {α : Type} {f : α → State → State} (h : ∀ i x, SameWire n x (f i x)) (x : State) (l : List α) :
    SameWire n x (x.each l f) := by
  induction l generalizing x with
  | nil => exact SameWire.refl n x
  | cons i l ih => exact (h i x).trans (ih _)

theorem sameWire_setTx (n c : Nat) (x : CellTx) : SameWire n s (s.setTx c x) := ⟨(s.kept_setTx c x).mono (List.nil_subset _), rfl⟩

theorem sameWire_setLoop (n m : Nat) (x : Loop) : SameWire n s (s.setLoop m x) := ⟨(s.kept_setLoop m x).mono (List.nil_subset _), rfl⟩

theorem sameWire_giveOrder (n c : Nat) (o : Owner) (codes : List Nat) : SameWire n s (s.giveOrder c o codes) := s.sameWire_setTx n ..

theorem sameWire_set (n : Nat) (f : FieldRef) (v : Nat) (h : f.addr = Reg.WING_TRAIN n) : SameWire n s (s.set f v) :=
  ⟨Kept.rfl.set (by simp [h]), rfl⟩

theorem SameWire.of_kept {n : Nat} {regs : List Nat} {parts : List Part} {x y : State} (k : Kept regs parts x y)
    (hr : regs ⊆ [Reg.WING_STATUS, Reg.WING_TRAIN n]) (wing : .wing ∉ parts := by decide) (hp : parts ⊆ [.wing, .router] := by decide) :
    SameWire n x y := ⟨k.mono hr hp, line_of_kept k wing⟩

theorem line_trainEnded (n : Nat) : (s.trainEnded n).line = s.line :=
  (line_setLoop ..).trans (line_of_rest (s.rest_each (fun _ x => x.rest_setTx ..) _))

theorem sameWire_trainFail (n code pos : Nat) : SameWire n s (s.trainFail n code pos) := by
  have shown : SameWire n s (s.failShown n code pos) :=
    .of_kept (((Kept.rfl.set (by simp)).set (by simp)).setIbit (by simp)) (List.Subset.refl _) (hp := List.nil_subset _)
  obtain ⟨y, hy⟩ : ∃ y, s.failShown n code pos = y := ⟨_, rfl⟩
  rw [trainFail_eq, hy]
  rw [hy] at shown
  have ended : SameWire n y (y.trainEnded n) := ⟨(y.kept_trainEnded n).mono (List.nil_subset _), y.line_trainEnded n⟩
  have told (z : State) : SameWire n z (z.raise 97 n) := .of_kept (regs := []) (parts := [.router]) Kept.rfl.raise (List.nil_subset _)
  exact shown.trans (ended.trans (told _))

theorem sameWire_judgeCounts (n : Nat) (t : Train) : SameWire n s (s.judgeCounts n t) := by
  have set (f : FieldRef) (v : Nat) (x : State) (h : f.addr = Reg.WING_TRAIN n) : SameWire n x (x.set f v) := x.sameWire_set n f v h
  unfold judgeCounts
  extract_lets want x y src z
  split
  · exact (set (F.WING_TRAIN_COUNT n) _ s rfl).trans (sameWire_trainFail _ n ..)
  · split
    · have begun : SameWire n s z :=
        ((set (F.WING_TRAIN_COUNT n) _ s rfl).trans (set (F.WING_TRAIN_PHASE n) _ x rfl)).trans (sameWire_setLoop y n n _)
      clear_value z
      exact begun.trans <| SameWire.each (fun c x => SameWire.each (fun i y => y.sameWire_giveOrder n ..) x _) _ _
    · exact (set (F.WING_TRAIN_COUNT n) _ s rfl).trans (sameWire_trainFail _ n ..)

theorem sameWire_trainAsk (n : Nat) (regs : Nat → List Nat) : SameWire n s (s.trainAsk n regs) :=
  (SameWire.each (fun _ x => SameWire.each (fun _ y => y.sameWire_giveOrder n ..) x _) s _).trans (sameWire_setLoop _ n n _)

theorem sameWire_trainFrame (f : Frame) : SameWire f.loop s (s.trainFrame f) := by
  unfold trainFrame
  extract_lets n
  split
  · exact SameWire.refl ..
  · split
    · exact SameWire.refl ..
    · extract_lets x
      have counted : SameWire n s x := s.sameWire_setLoop n n _
      clear_value x
      refine counted.trans ?_
      split
      · exact SameWire.each (fun c x => (x.sameWire_giveOrder n ..).trans (sameWire_giveOrder _ n ..)) _ _
      · split
        · exact sameWire_judgeCounts _ n _
        · split
          · exact sameWire_trainAsk _ n _
          · exact SameWire.refl ..

/-- The item of a frame that leaves. -/
def frameItem (f : Frame) : WireItem := if f.count then WireItem.count f.loop else WireItem.frame f.loop f.hold (frameBytes f)

abbrev frameRegs (fs : List Frame) : List Nat := Reg.WING_STATUS :: fs.map fun f => Reg.WING_TRAIN f.loop

theorem sendFrame_spec (f : Frame) :
    Kept [Reg.WING_STATUS, Reg.WING_TRAIN f.loop] [.wing, .router] s (s.sendFrame f) ∧
    (s.sendFrame f).line = (s.wing.wire ++ ([f].filter fun f => !f.idle).map frameItem, s.wing.frozen, s.wing.lastStart) := by
  unfold sendFrame
  cases idle : f.idle with
  | true =>
    obtain ⟨kept, line⟩ := s.sameWire_trainFrame f
    exact ⟨kept, by rw [if_pos rfl, line]; simp [idle, State.line]⟩
  | false =>
    rw [if_neg (by decide)]
    extract_lets item x l
    have left : x.line = (s.wing.wire ++ [frameItem f], s.wing.frozen, s.wing.lastStart) := rfl
    have kept : Kept [Reg.WING_STATUS, Reg.WING_TRAIN f.loop] [.wing, .router] s x := Kept.rfl.wing
    clear_value x
    have sent (l : Loop) : SameWire f.loop x ((x.setLoop f.loop l).trainFrame f) :=
      (x.sameWire_setLoop f.loop f.loop l).trans (sameWire_trainFrame _ f)
    exact ⟨kept.trans (sent _).kept, (sent _).line.trans (by rw [left]; simp [idle])⟩

theorem each_sendFrame (fs : List Frame) :
    Kept (frameRegs fs) [.wing, .router] s (s.each fs sendFrame) ∧
    (s.each fs sendFrame).line = (s.wing.wire ++ (fs.filter fun f => !f.idle).map frameItem, s.wing.frozen, s.wing.lastStart) := by
  induction fs generalizing s with
  | nil => exact ⟨Kept.rfl, by rw [List.filter_nil, List.map_nil, List.append_nil]; rfl⟩
  | cons f fs ih =>
    obtain ⟨kept, line⟩ := s.sendFrame_spec f
    rw [each_cons]
    obtain ⟨y, hy⟩ : ∃ y, s.sendFrame f = y := ⟨_, rfl⟩
    rw [hy] at kept line ⊢
    obtain ⟨kept', line'⟩ := ih y
    obtain ⟨wire, frozen, last⟩ : y.wing.wire = _ ∧ y.wing.frozen = _ ∧ y.wing.lastStart = _ := by
      simpa only [State.line, Prod.mk.injEq] using line
    refine ⟨(kept.mono (by simp) (List.Subset.refl _)).trans (kept'.mono (by simp) (List.Subset.refl _)), ?_⟩
    rw [line', wire, frozen, last, List.append_assoc, ← List.map_append, ← List.filter_append, List.singleton_append]

/-- The start noted, and nothing frozen any more. -/
def started (s : State) : State := s.mapWing fun w => { w with frozen := [], lastStart := some s.elapsed }

end State

theorem execFrameFreeze_eq (t : Nat) (s : State) : execFrameFreeze t s = s.run t fun s =>
    if (s.datum + 40) % s.framePeriod = 0 && s.freezeAllowed ((s.datum + 40) / s.framePeriod) then
      s.removalsJudged.freezeFrame ((s.datum + 40) / s.framePeriod) else s := rfl

/-- The frames that leave at a start. -/
def State.framesDue (s : State) : List Frame :=
  if s.tableau then s.enabledLoops.map (s.holdFrame (s.datum / s.framePeriod)) else s.wing.frozen.filter fun f => f.k == s.datum / s.framePeriod

theorem execFrameStart_eq (t : Nat) (s : State) : execFrameStart t s = s.run t fun s =>
    if s.datum % s.framePeriod = 0 && s.startAllowed s.elapsed then
      if s.framesDue.isEmpty then s else s.started.each s.framesDue State.sendFrame else s := rfl

/-- Settles O11: each loop's frame is frozen whole, and a removal judged before it keeps what is sent and frozen; a frame that leaves adds its own item. -/
theorem framesAreFrozenAndSent : Obligations.FramesAreFrozenAndSent := by
  unfold Obligations.FramesAreFrozenAndSent
  refine ⟨?_, ?_⟩
  · intro s t a k
    have now : s.advance t = a := rfl
    clear_value a
    intro due allowed
    have judged := a.kept_removalsJudged
    have line := a.line_removalsJudged
    have removed : (∀ c ∈ cellIds, a.cState c ≠ cs.leaving) → a.removalsJudged = a := State.removalsJudged_of_none a
    obtain ⟨y, hy⟩ : ∃ y, a.removalsJudged = y := ⟨_, rfl⟩
    rw [hy] at judged line removed
    obtain ⟨kept, wire, last, frozen⟩ := y.freezeFrame_spec k
    have effect : (if (a.datum + 40) % a.framePeriod = 0 && a.freezeAllowed k then a.removalsJudged.freezeFrame k else a) = y.freezeFrame k := by
      rw [due, allowed, hy]
      exact if_pos rfl
    obtain ⟨wire', frozen', last'⟩ : y.wing.wire = a.wing.wire ∧ y.wing.frozen = a.wing.frozen ∧ y.wing.lastStart = a.wing.lastStart := by
      simpa only [State.line, Prod.mk.injEq] using line
    refine completes_at (x := y.freezeFrame k) ((exec_frameFreeze t s).trans (execFrameFreeze_eq t s)) now effect
      ⟨?_, wire.trans wire', last.trans last', fun none => ?_⟩
    · refine frozen.trans ?_
      rw [State.enabledLoops_of_kept judged (by decide +kernel), State.actBase_of_kept judged (by decide +kernel) (by decide +kernel)]
    · rw [removed none] at kept ⊢
      exact kept.settled now
  · intro s t a k fs
    have now : s.advance t = a := rfl
    clear_value a
    intro due allowed some
    have dueNow : a.framesDue = fs := rfl
    have holds : a.tableau = true → ∀ f ∈ fs, f.hold = true ∧ f.orders = List.replicate a.frameSlots 0 := by
      intro tableau f hf
      rw [← dueNow, State.framesDue, if_pos tableau, List.mem_map] at hf
      obtain ⟨n, -, rfl⟩ := hf
      exact ⟨rfl, rfl⟩
    clear_value fs
    have started : Kept [] [.wing] a a.started := Kept.rfl.wing
    have line : a.started.line = (a.wing.wire, [], Option.some a.elapsed) := rfl
    obtain ⟨y, hy⟩ : ∃ y, a.started = y := ⟨_, rfl⟩
    rw [hy] at started line
    obtain ⟨kept, line'⟩ := y.each_sendFrame fs
    obtain ⟨z, hz⟩ : ∃ z, y.each fs State.sendFrame = z := ⟨_, rfl⟩
    rw [hz] at kept line'
    have effect : (if a.datum % a.framePeriod = 0 && a.startAllowed a.elapsed then
        if a.framesDue.isEmpty then a else a.started.each a.framesDue State.sendFrame else a) = z := by
      rw [due, allowed, dueNow, hy]
      exact ((if_pos rfl).trans (if_neg (by rwa [List.isEmpty_iff]))).trans hz
    simp only [State.line, Prod.mk.injEq] at line line'
    obtain ⟨wire, frozen, last⟩ := line
    obtain ⟨wire', frozen', last'⟩ := line'
    refine completes_at (x := z) ((exec_frameStart t s).trans (execFrameStart_eq t s)) now effect
      ⟨wire'.trans (by rw [wire]; rfl), frozen'.trans frozen, last'.trans last, holds, ?_⟩
    exact ((started.mono (List.nil_subset _) (by decide)).trans kept).settled now

end Sys2Proof.Machine

/-! PROOFS. What is shown of a loop's returned frames, through everything else that a returned frame brings (spec/04 R181, R192 to R195). -/

namespace Sys2Proof.Machine

set_option Elab.async false

/-- The register shows a loop's latency, its code violations or a cell's latest slot. -/
def shownReg (r : Nat) : Bool := (0x2820 ≤ r && r < 0x2830) || (0x2840 ≤ r && r < 0x2850) || (0x2C00 ≤ r && r < 0x2E00)

namespace State

variable (s : State)

/-- Two states are alike in what is shown of loop `n`'s latency and code violations and of cell `c`'s latest slot; a loop not in training stays
so. -/
structure SameShown (n c : Nat) (x y : State) : Prop where
  tables : y.tables = x.tables
  lats : (y.loop n).lats = (x.loop n).lats
  train : (x.loop n).train = none → (y.loop n).train = none ∧ (n < 4 → y.get (F.WING_LAT_L n) = x.get (F.WING_LAT_L n))
  code : n < 4 → y.get (F.WING_CODE_ERR_COUNT n) = x.get (F.WING_CODE_ERR_COUNT n)
  cell : c < 128 → y.get (F.WING_CELL_VDC c) = x.get (F.WING_CELL_VDC c) ∧ y.get (F.WING_CELL_NIBBLE c) = x.get (F.WING_CELL_NIBBLE c)

namespace SameShown

variable {n c : Nat} {x y z : State}

theorem refl (n c : Nat) (x : State) : SameShown n c x x := ⟨rfl, rfl, fun h => ⟨h, fun _ => rfl⟩, fun _ => rfl, fun _ => ⟨rfl, rfl⟩⟩

theorem trans (h : SameShown n c x y) (k : SameShown n c y z) : SameShown n c x z := by
  refine ⟨k.tables.trans h.tables, k.lats.trans h.lats, fun none => ?_, fun hn => (k.code hn).trans (h.code hn), fun hc =>
    ⟨(k.cell hc).1.trans (h.cell hc).1, (k.cell hc).2.trans (h.cell hc).2⟩⟩
  obtain ⟨still, lat⟩ := h.train none
  exact ⟨(k.train still).1, fun hn => ((k.train still).2 hn).trans (lat hn)⟩

/-- An operation that leaves the registers shown and, of the loop's record, the latencies and that it is not in training. -/
theorem of_loop {regs : List Nat} {parts : List Part} (k : Kept regs parts x y) (lats : (y.loop n).lats = (x.loop n).lats)
    (train : (x.loop n).train = none → (y.loop n).train = none) (apart : ∀ r ∈ regs, shownReg r = false) (tables : .tables ∉ parts := by decide) :
    SameShown n c x y := by
  have out {r : Nat} (h : shownReg r = true) : r ∉ regs := fun mem => by rw [apart r mem] at h; cases h
  have lat (hn : n < 4) : y.get (F.WING_LAT_L n) = x.get (F.WING_LAT_L n) := k.get (out (by simp [shownReg]; omega))
  have code (hn : n < 4) : y.get (F.WING_CODE_ERR_COUNT n) = x.get (F.WING_CODE_ERR_COUNT n) := k.get (out (by simp [shownReg]; omega))
  have cell (hc : c < 128) : Reg.WING_CELL c ∉ regs := out (by simp [shownReg, Reg.WING_CELL]; omega)
  exact ⟨k.2 .tables tables, lats, fun none => ⟨train none, lat⟩, code, fun hc => ⟨k.get (cell hc), k.get (cell hc)⟩⟩

theorem of_loops {regs : List Nat} {parts : List Part} (k : Kept regs parts x y) (loops : y.wing.loops = x.wing.loops)
    (apart : ∀ r ∈ regs, shownReg r = false) (tables : .tables ∉ parts := by decide) : SameShown n c x y := by
  have same : y.loop n = x.loop n := by rw [loop, loop, loops]
  exact of_loop k (by rw [same]) (fun h => by rw [same, h]) apart tables

theorem of_kept {regs : List Nat} {parts : List Part} (k : Kept regs parts x y) (apart : ∀ r ∈ regs, shownReg r = false := by simp)
    (wing : .wing ∉ parts := by decide) (tables : .tables ∉ parts := by decide) : SameShown n c x y :=
  of_loops k (by rw [k.2 .wing wing]) apart tables

theorem each {α : Type} {f : α → State → State} {l : List α} (h : SameShown n c x y) (hf : ∀ i ∈ l, ∀ z, SameShown n c z (f i z)) :
    SameShown n c x (y.each l f) := by
  induction l generalizing y with
  | nil => exact h
  | cons i l ih => exact ih (h.trans (hf i (List.mem_cons_self ..) y)) fun j hj => hf j (List.mem_cons_of_mem _ hj)

theorem when {f : State → State} {q : Bool} (h : SameShown n c x y) (hf : ∀ z, SameShown n c z (f z)) : SameShown n c x (y.when q f) := by
  cases q
  · rwa [when_false]
  · rw [when_true]
    exact h.trans (hf y)

theorem ite {q : Prop} [Decidable q] (h : SameShown n c x y) (k : SameShown n c x z) : SameShown n c x (if q then y else z) := by
  split
  · exact h
  · exact k

theorem setTx (h : SameShown n c x y) (e : Nat) (t : CellTx) : SameShown n c x (y.setTx e t) :=
  h.trans (of_loops (y.kept_setTx e t) rfl (by simp))

theorem giveOrder (h : SameShown n c x y) (e : Nat) (o : Owner) (codes : List Nat) : SameShown n c x (y.giveOrder e o codes) := h.setTx ..

theorem setCastCell (h : SameShown n c x y) (e : Nat) (t : CastCell) : SameShown n c x (y.setCastCell e t) := h.trans (of_kept (kept_setCastCell y e t))

theorem setLoop (h : SameShown n c x y) (m : Nat) (l : Loop) (lats : l.lats = (y.loop m).lats := by rfl)
    (train : (y.loop m).train = none → l.train = none := by exact id) : SameShown n c x (y.setLoop m l) := by
  refine h.trans (of_loop (y.kept_setLoop m l) ?_ ?_ (by simp))
  · rw [loop_setLoop]
    split
    · next e => rw [lats, e]
    · rfl
  · intro none
    rw [loop_setLoop]
    split
    · next e => exact train (e ▸ none)
    · exact none

theorem mapWing (h : SameShown n c x y) (f : Wing → Wing) (loops : (f y.wing).loops = y.wing.loops := by rfl) : SameShown n c x (y.mapWing f) :=
  h.trans (of_loops (parts := [.wing]) (regs := []) Kept.rfl.mapWing loops (by simp))

theorem raiseAt (h : SameShown n c x y) (stamp num inst : Nat) : SameShown n c x (y.raiseAt stamp num inst) :=
  h.trans (of_kept (regs := [Reg.SCRUB_FAULT_SEEN]) (parts := [.router]) Kept.rfl.raiseFaultAt (by decide))

theorem raise (h : SameShown n c x y) (num inst : Nat) : SameShown n c x (y.raise num inst) := h.raiseAt ..

theorem refuse (h : SameShown n c x y) (d : Desc) (status detail : Nat) : SameShown n c x (y.refuse d status detail) :=
  h.trans (of_kept (y.kept_refuse d status detail))

theorem complete (h : SameShown n c x y) (d : Desc) (status detail time : Nat) : SameShown n c x (y.complete d status detail time) :=
  h.trans (of_kept (regs := []) (parts := [.host]) Kept.rfl.complete)

theorem set (h : SameShown n c x y) {f : FieldRef} (v : Nat) (apart : shownReg f.addr = false) : SameShown n c x (y.set f v) :=
  h.trans (of_kept (regs := [f.addr]) (parts := []) (Kept.rfl.set (hf := List.mem_singleton.2 rfl)) (by simpa using apart))

theorem setBit (h : SameShown n c x y) {f : FieldRef} (v : Bool) (apart : shownReg f.addr = false) : SameShown n c x (y.setBit f v) :=
  h.trans (of_kept (regs := [f.addr]) (parts := []) (Kept.rfl.setBit (hf := List.mem_singleton.2 rfl)) (by simpa using apart))

theorem setIbit (h : SameShown n c x y) {f : FieldRef} {i : Nat} (v : Bool) (apart : shownReg f.addr = false) : SameShown n c x (y.setIbit f i v) :=
  h.trans (of_kept (regs := [f.addr]) (parts := []) (Kept.rfl.setIbit (hf := List.mem_singleton.2 rfl)) (by simpa using apart))

theorem count (h : SameShown n c x y) {f : FieldRef} (v : Nat) (apart : shownReg f.addr = false) : SameShown n c x (y.count f v) := h.set _ apart

theorem transient (h : SameShown n c x y) {f : FieldRef} (apart : shownReg f.addr = false) : SameShown n c x (y.transient f) :=
  (h.count 1 apart).setIbit _ (by decide)

theorem cast (h : SameShown n c x y) (v : Cast) : SameShown n c x { y with cast := v } :=
  h.trans (of_kept (regs := []) (parts := [.cast]) Kept.rfl.cast)

theorem pwr (h : SameShown n c x y) (v : CellPwr) : SameShown n c x { y with pwr := v } :=
  h.trans (of_kept (regs := []) (parts := [.pwr]) Kept.rfl.pwr)

theorem curt (h : SameShown n c x y) (v : Curt) : SameShown n c x { y with curt := v } :=
  h.trans (of_kept (regs := []) (parts := [.curt]) Kept.rfl.curt)

/-- A cell's LINK_FAULT stands beside its slot. -/
theorem linkFault (h : SameShown n c x y) (e : Nat) (v : Bool) : SameShown n c x (y.setBit (F.WING_CELL_LINK_FAULT e) v) := by
  have kept : Kept [Reg.WING_CELL e] [] y (y.setBit (F.WING_CELL_LINK_FAULT e) v) := Kept.rfl.setBit (hf := List.mem_singleton.2 rfl)
  have same : (y.setBit (F.WING_CELL_LINK_FAULT e) v).loop n = y.loop n := loop_of_kept kept (by decide) n
  refine h.trans ⟨kept.2 .tables (by decide), by rw [same], fun none => ⟨by rw [same, none], fun hn => kept.get (by simp [Reg.WING_CELL]; omega)⟩,
    fun hn => kept.get (by simp [Reg.WING_CELL]; omega), fun _ => ⟨get_setBit_apart _ ?_, get_setBit_apart _ ?_⟩⟩ <;> simp [apart]

end SameShown

/-! The cells of casting -/

theorem sameShown_block (n c e : Nat) : SameShown n c s (s.block e) :=
  .of_loops (s.kept_block e) (loops_of_rest (s.rest_block e)) (by simp)

theorem sameShown_showContrib (n c : Nat) {e : Nat} (he : e < 128) : SameShown n c s (s.showContrib e) :=
  .of_kept (s.kept_showContrib e) (by simp [shownReg, Reg.CAST_CELL]; omega)

theorem sameShown_bypass (n c e : Nat) (close : Bool) : SameShown n c s (s.bypass e close) := ((SameShown.refl n c s).giveOrder ..).setCastCell ..

theorem sameShown_setCState (n c : Nat) {e : Nat} (he : e < 128) (v : Nat) : SameShown n c s (s.setCState e v) :=
  (SameShown.refl n c s).set v (by simp [shownReg]; omega)

theorem shownReg_outRegs : ∀ r ∈ outRegs, shownReg r = false := by decide +kernel

theorem sameShown_goOut (n c : Nat) {e : Nat} (he : e < 128) (cause : Nat) : SameShown n c s (s.goOut e cause) :=
  .of_loops (s.kept_goOut cause he) (loops_of_rest (s.rest_goOut e cause)) shownReg_outRegs

theorem sameShown_leavingDone (n c : Nat) {e : Nat} (he : e < 128) : SameShown n c s (s.leavingDone e) :=
  (SameShown.refl n c s).when fun z => z.sameShown_goOut n c he _

/-! The halt of a loop -/

theorem sameShown_dropOrders (n c e : Nat) : SameShown n c s (s.dropOrders e) := by
  unfold dropOrders
  exact (((SameShown.refl n c s).setTx ..).setCastCell ..).each fun _ _ z => (SameShown.refl n c z).refuse ..

theorem sameShown_cutFrame (n c m : Nat) : SameShown n c s (s.cutFrame m) := by
  unfold cutFrame
  extract_lets l
  split
  · exact SameShown.refl ..
  · exact (SameShown.refl n c s).ite (((SameShown.refl n c s).setLoop m _).mapWing _)

theorem sameShown_haltWire (n c m : Nat) : SameShown n c s (s.haltWire m) := by
  unfold haltWire
  refine (SameShown.refl n c s).ite ?_
  extract_lets w x y z l v
  have halted : SameShown n c s w := (SameShown.refl n c s).setIbit true (by decide)
  have blocked : SameShown n c s x := halted.each fun e _ u => (u.sameShown_dropOrders n c e).setTx ..
  have cut : SameShown n c s y := blocked.trans (sameShown_cutFrame _ n c m)
  have frozen : SameShown n c s z := cut.mapWing _
  have resumed : SameShown n c s v := frozen.setLoop m _
  exact resumed.when fun u => ((SameShown.refl n c u).mapWing _).raiseAt ..

theorem rest_castDisengage : s.castDisengage.rest = s.rest := by
  unfold castDisengage
  exact (rest_each _ (fun c x => (rest_of_wing (wing_set ..)).trans ((rest_block _ c).trans (rest_of_wing (wing_set ..)))) _).trans (rest_of_wing rfl)

theorem rest_engEnd (v : Nat) : (s.engEnd v).rest = s.rest := by
  unfold engEnd
  split
  · rfl
  · refine (when_eq rest _ (rest_castDisengage _)).trans ((when_eq rest _ (rest_of_kept (kept_holdPrecharge _ false))).trans ?_)
    exact rest_of_kept ((Kept.rfl.mapEngine).trans ((kept_engGoto _ v).mono (List.Subset.refl _) (by decide)) : Kept _ [.engine, .router] s _)

theorem sameShown_engHalt (n c : Nat) : SameShown n c s s.engHalt := by
  have loops : s.engHalt.rest = s.rest := by
    unfold engHalt
    split
    · exact s.rest_engEnd _
    · rfl
  exact .of_loops s.kept_engHalt (loops_of_rest loops) (by decide +kernel)

theorem sameShown_haltLoop (n c m : Nat) : SameShown n c s (s.haltLoop m) :=
  ((s.sameShown_haltWire n c m).trans (sameShown_engHalt _ n c)).when fun z => (SameShown.refl n c z).curt _

/-! Verdicts on a loop and on its frames -/

theorem shownReg_transient {n : Nat} (h : n < 4) : shownReg (F.WING_TRANSIENT_COUNT n).addr = false := by simp [shownReg]; omega

theorem shownReg_train {n : Nat} (h : n < 4) : shownReg (Reg.WING_TRAIN n) = false := by simp [shownReg, Reg.WING_TRAIN]; omega

theorem shownReg_castCell {e : Nat} (h : e < 128) : shownReg (Reg.CAST_CELL e) = false := by simp [shownReg, Reg.CAST_CELL]; omega

theorem shownReg_guardCell {e : Nat} (h : e < 128) : shownReg (Reg.GUARD_CELL e) = false := by simp [shownReg, Reg.GUARD_CELL]; omega

theorem shownReg_pwrCell {e : Nat} (h : e < 128) : shownReg (Reg.CELLPWR_CELL e) = false := by simp [shownReg, Reg.CELLPWR_CELL]; omega

theorem shownReg_delay {e : Nat} (h : e < 128) : shownReg (Reg.WING_DELAY e) = false := by simp [shownReg, Reg.WING_DELAY]; omega

theorem sameShown_loopFail (n c m : Nat) : SameShown n c s (s.loopFail m) := by
  unfold loopFail
  extract_lets x y
  have told : SameShown n c s x := ((SameShown.refl n c s).setIbit true (by decide)).raise ..
  have halted : SameShown n c s y := told.trans (x.sameShown_haltLoop n c m)
  clear_value y
  exact halted.each fun e mem z => z.sameShown_goOut n c (y.lt_of_mem_loopCells mem) 2

theorem sameShown_loopDrift (n c m : Nat) : SameShown n c s (s.loopDrift m) :=
  (SameShown.refl n c s).ite (((SameShown.refl n c s).setLoop m _).raise ..)

theorem sameShown_frameGood (c : Nat) {n : Nat} (hn : n < 4) : SameShown n c s (s.frameGood n) :=
  (((SameShown.refl n c s).setLoop n _).transient (shownReg_transient hn)).ite (SameShown.refl n c s)

theorem sameShown_linkLost (n c : Nat) {e : Nat} (he : e < 128) : SameShown n c s (s.linkLost e) := by
  unfold linkLost
  refine (SameShown.refl n c s).ite ?_
  extract_lets x t y
  have told : SameShown n c s x := ((SameShown.refl n c s).linkFault e true).raise ..
  have dropped : SameShown n c s y := (told.setTx ..).each fun o _ z => by
    split
    · exact (SameShown.refl n c z).refuse ..
    · exact SameShown.refl ..
  exact ((dropped.giveOrder ..).setTx ..).trans (sameShown_goOut _ n c he 1)

theorem sameShown_cueVerdict {n : Nat} (hn : n < 4) (c k : Nat) {e : Nat} (he : e < 128) (ok : Bool) : SameShown n c s (s.cueVerdict n k e ok) := by
  unfold cueVerdict
  have tr := shownReg_transient hn
  exact (SameShown.refl n c s).ite <| ((((SameShown.refl n c s).setTx ..).when fun z => (SameShown.refl n c z).transient tr)).ite <|
    (((SameShown.refl n c s).setTx ..).trans (sameShown_linkLost _ n c he)).ite ((SameShown.refl n c s).setTx ..)

theorem sameShown_trainFail (c : Nat) {n : Nat} (hn : n < 4) (code pos : Nat) : SameShown n c s (s.trainFail n code pos) := by
  unfold trainFail
  extract_lets x y z w src
  have tr := shownReg_train hn
  have shown : SameShown n c s z := (((SameShown.refl n c s).set code tr).set pos tr).setIbit false (by decide)
  have dropped : SameShown n c s w := shown.each fun e _ u => (SameShown.refl n c u).setTx ..
  have ended : SameShown n c s (w.setLoop n { src with train := none }) := dropped.setLoop n _ rfl fun _ => rfl
  exact ended.raise ..

theorem sameShown_orderLost {n : Nat} (hn : n < 4) (c : Nat) {e : Nat} (he : e < 128) (o : Order) : SameShown n c s (s.orderLost n e o) := by
  have dropped : SameShown n c s (s.dropOrder e o) := (SameShown.refl n c s).setTx ..
  unfold orderLost
  obtain ⟨y, hy⟩ : ∃ y, s.dropOrder e o = y := ⟨_, rfl⟩
  rw [hy] at dropped
  simp only [hy]
  refine dropped.trans ?_
  split
  · exact y.sameShown_trainFail c hn ..
  · exact (y.sameShown_linkLost n c he).refuse ..
  · exact y.sameShown_linkLost n c he

theorem sameShown_orderDone (n c e : Nat) (o : Order) (reply : Nat) : SameShown n c s (s.orderDone n e o reply) := by
  have dropped : SameShown n c s (s.dropOrder e o) := (SameShown.refl n c s).setTx ..
  unfold orderDone
  obtain ⟨y, hy⟩ : ∃ y, s.dropOrder e o = y := ⟨_, rfl⟩
  rw [hy] at dropped
  simp only [hy]
  refine dropped.trans ?_
  split
  · exact ((SameShown.refl n c y).setLoop n _).ite ((SameShown.refl n c y).setLoop n _ rfl fun none => by rw [none]; rfl)
  · exact ((SameShown.refl n c y).when fun z => (SameShown.refl n c z).setTx ..).complete ..
  · exact SameShown.refl ..

theorem sameShown_sendAgain (n c e : Nat) (o : Order) (i : Nat) : SameShown n c s (s.sendAgain e o i) :=
  ((SameShown.refl n c s).setTx ..).ite ((SameShown.refl n c s).setTx ..)

theorem sameShown_orderVerdict {n : Nat} (hn : n < 4) (c : Nat) {e : Nat} (he : e < 128) (o : Order) (i : Nat) (verdict : Option Bool) (reply : Nat) :
    SameShown n c s (s.orderVerdict n e o i verdict reply) := by
  unfold orderVerdict
  split
  · extract_lets o' x
    have judged : SameShown n c s x :=
      ((SameShown.refl n c s).setTx ..).when fun z => (SameShown.refl n c z).transient (shownReg_transient hn)
    exact (judged.trans (sameShown_orderDone _ n c e o' reply)).ite judged
  · exact (s.sameShown_orderLost hn c he o).ite (s.sameShown_sendAgain n c e o i)
  · exact s.sameShown_sendAgain n c e o i

theorem sameShown_orderVerdicts {n : Nat} (hn : n < 4) (k c : Nat) {e : Nat} (he : e < 128) (verdict : Option Bool) (slot : BitVec 32) :
    SameShown n c s (s.orderVerdicts n k e verdict slot) := by
  unfold orderVerdicts
  refine (SameShown.refl n c s).each fun o _ z => ?_
  split
  · exact SameShown.refl ..
  · exact z.sameShown_orderVerdict hn c he ..

/-! Telemetry delivered -/

theorem sameShown_safeReport (n c : Nat) {e : Nat} (he : e < 128) (stamp : Nat) (safe : Bool) : SameShown n c s (s.safeReport e stamp safe) := by
  unfold safeReport
  have noted : SameShown n c s (s.setTx e { s.tx e with safe := safe }) := (SameShown.refl n c s).setTx ..
  exact ((noted.raiseAt ..).when fun z => z.sameShown_linkLost n c he).ite noted

theorem sameShown_bypassReport (n c : Nat) {e : Nat} (he : e < 128) (closed : Bool) : SameShown n c s (s.bypassReport e closed) := by
  unfold bypassReport
  have noted : SameShown n c s (s.setCastCell e { s.castCell e with closed := closed }) := (SameShown.refl n c s).setCastCell ..
  obtain ⟨y, hy⟩ : ∃ y, s.setCastCell e { s.castCell e with closed := closed } = y := ⟨_, rfl⟩
  rw [hy] at noted
  simp only [hy]
  refine noted.trans ?_
  split
  · split
    · exact SameShown.refl ..
    · have confirmed (x : CastCell) : SameShown n c y (y.setCastCell e x) := (SameShown.refl n c y).setCastCell ..
      exact (SameShown.ite (SameShown.ite ((confirmed _).trans (sameShown_setCState _ n c he _)) ((confirmed _).trans (sameShown_bypass _ n c e _)))
        (confirmed _)).ite (SameShown.refl n c y)
  · exact (y.sameShown_goOut n c he 9).ite (SameShown.refl n c y)

theorem sameShown_openIdle (n c e : Nat) : SameShown n c s (s.openIdle e) := (s.sameShown_bypass n c e false).ite (SameShown.refl n c s)

theorem sameShown_hotReport (n c : Nat) {e : Nat} (he : e < 128) (v : Int) : SameShown n c s (s.hotReport e v) := by
  have cell := shownReg_castCell he
  unfold hotReport
  exact SameShown.ite
    ((SameShown.refl n c s).ite (((((SameShown.refl n c s).setBit true cell).setCastCell ..).count 1 (by decide)).raise ..))
    ((((SameShown.refl n c s).setBit false cell).setCastCell ..).ite (SameShown.refl n c s))

theorem sameShown_reserveIn (n c : Nat) {e : Nat} (he : e < 128) : SameShown n c s (s.reserveIn e) := by
  unfold reserveIn
  extract_lets src x y
  have begun : SameShown n c s x := (SameShown.refl n c s).setCastCell ..
  have state : SameShown n c s (if x.engaged then x.becomeActive e else x.setCState e cs.ready) :=
    ((begun.trans (x.sameShown_setCState n c he _)).pwr _).ite (begun.trans (x.sameShown_setCState n c he _))
  have legs : SameShown n c s y := (state.setTx ..).trans (sameShown_showContrib _ n c he)
  exact (legs.count 1 (by decide)).raise ..

theorem sameShown_castVdc (n c : Nat) {e : Nat} (he : e < 128) (vdc : Nat) (rose : Bool) : SameShown n c s (s.castVdc e vdc rose) := by
  unfold castVdc
  extract_lets x high low y z v w
  have noted : SameShown n c s y := (SameShown.refl n c s).setCastCell ..
  have faulted : SameShown n c s z := noted.when fun u => u.sameShown_goOut n c he 3
  have highed : SameShown n c s v := faulted.when fun u => u.sameShown_goOut n c he 4
  have reserve : SameShown n c s w := highed.when fun u => u.sameShown_reserveIn n c he
  exact (reserve.trans (w.sameShown_leavingDone n c he)).trans (sameShown_openIdle _ n c e)

theorem sameShown_wearReport (n c e i v : Nat) (snap : Bool) : SameShown n c s (s.wearReport e i v snap) := by
  unfold wearReport
  exact (SameShown.refl n c s).ite (.of_kept (regs := []) (parts := [.scrub]) Kept.rfl.scrub)

theorem sameShown_powerReading (n c e i v vdc : Nat) : SameShown n c s (s.powerReading e i v vdc) := by
  unfold powerReading
  exact ((SameShown.refl n c s).pwr _).ite (((SameShown.refl n c s).pwr _).ite (SameShown.refl n c s))

theorem sameShown_dumpVerdict (n c : Nat) {e : Nat} (he : e < 128) (stuck : Bool) : SameShown n c s (s.dumpVerdict e stuck) := by
  unfold dumpVerdict
  have ordered : SameShown n c s (s.dumpOrder e false) := ((SameShown.refl n c s).giveOrder ..).pwr _
  exact ((ordered.pwr _).set _ (shownReg_pwrCell he)).raise ..

theorem sameShown_dumpReport (n c : Nat) {e : Nat} (he : e < 128) (stamp : Nat) (on : Bool) : SameShown n c s (s.dumpReport e stamp on) := by
  unfold dumpReport
  extract_lets x st
  have noted (v : PwrCell) : SameShown n c s (s.setPwrCell e v) := (SameShown.refl n c s).pwr _
  have verdict (v : PwrCell) (b : Bool) : SameShown n c s ((s.setPwrCell e v).dumpVerdict e b) := (noted v).trans (sameShown_dumpVerdict _ n c he b)
  refine (SameShown.refl n c s).ite ?_
  split
  · exact (SameShown.refl n c s).ite ((verdict _ _).ite ((verdict _ _).ite (noted _)))
  · exact ((s.sameShown_dumpVerdict n c he true).ite (noted _)).ite (noted _)

theorem sameShown_cellGuardWord (n c : Nat) {e : Nat} (he : e < 128) (item : Nat) : SameShown n c s (s.cellGuardWord e item) := by
  unfold cellGuardWord
  extract_lets word old x y
  have shown : SameShown n c s x := (SameShown.refl n c s).set word (shownReg_guardCell he)
  have listed : SameShown n c s y := shown.trans (.of_kept (regs := []) (parts := [.guard]) Kept.rfl.mapGuard)
  exact listed.when fun z => (SameShown.refl n c z).raise ..

theorem sameShown_itemReport (n c : Nat) {e : Nat} (he : e < 128) (k i v vdc : Nat) : SameShown n c s (s.itemReport e k i v vdc) := by
  unfold itemReport
  extract_lets stamp snap src x y hot was z
  have noted : SameShown n c s x := (SameShown.refl n c s).setTx ..
  have read : SameShown n c s y := (noted.trans (x.sameShown_wearReport n c e i v snap)).trans (sameShown_powerReading _ n c e i v vdc)
  have hotSet (u : Bool) : SameShown n c s (y.setTx e { y.tx e with hotT := u }) := read.setTx ..
  refine SameShown.ite ?_ (SameShown.ite ?_ (SameShown.ite ?_ read))
  · exact ((hotSet hot).when fun u => (SameShown.refl n c u).raiseAt ..).trans (sameShown_hotReport _ n c he _)
  · refine SameShown.trans (SameShown.trans (SameShown.when (SameShown.trans (SameShown.when (SameShown.when read ?_) ?_)
      (sameShown_safeReport _ n c he ..)) ?_) (sameShown_bypassReport _ n c he _)) (sameShown_dumpReport _ n c he ..)
    · exact fun u => (SameShown.refl n c u).raiseAt ..
    · exact fun u => (SameShown.refl n c u).raiseAt ..
    · exact fun u => u.sameShown_linkLost n c he
  · exact read.trans (y.sameShown_cellGuardWord n c he v)

/-! A slot shown, and the frame's verdict on a cell -/

/-- The slot's VDC and status nibble shown (R181). -/
def slotShown (c : Nat) (w : BitVec 32) (s : State) : State := (s.set (F.WING_CELL_NIBBLE c) (bitsOf w.toNat 16 4)).set (F.WING_CELL_VDC c) (slotVdc w)

theorem get_slotShown (c : Nat) (w : BitVec 32) :
    (s.slotShown c w).get (F.WING_CELL_VDC c) = slotVdc w ∧ (s.slotShown c w).get (F.WING_CELL_NIBBLE c) = bitsOf w.toNat 16 4 :=
  ⟨get_set_of_lt _ (Nat.le_of_ble_eq_true rfl) (bitsOf_lt _ 0 16),
    (get_set_apart _ (by simp [apart])).trans (get_set_of_lt _ (Nat.le_of_ble_eq_true rfl) (bitsOf_lt _ 16 4))⟩

theorem kept_slotShown (c : Nat) (w : BitVec 32) : Kept [Reg.WING_CELL c] [] s (s.slotShown c w) := by
  have nibble : Kept [Reg.WING_CELL c] [] s (s.set (F.WING_CELL_NIBBLE c) (bitsOf w.toNat 16 4)) := Kept.rfl.set (hf := List.mem_singleton.2 rfl)
  exact nibble.set (f := F.WING_CELL_VDC c) (hf := List.mem_singleton.2 rfl)

/-- Another cell's slot. -/
theorem sameShown_slotShown {n c e : Nat} (ne : e ≠ c) (w : BitVec 32) : SameShown n c s (s.slotShown e w) := by
  have kept := s.kept_slotShown e w
  have same : (s.slotShown e w).loop n = s.loop n := loop_of_kept kept (by decide) n
  exact ⟨kept.2 .tables (by decide), by rw [same], fun none => ⟨by rw [same, none], fun hn => kept.get (by simp [Reg.WING_CELL]; omega)⟩,
    fun hn => kept.get (by simp [Reg.WING_CELL]; omega), fun _ => ⟨kept.get (by simp [Reg.WING_CELL]; omega), kept.get (by simp [Reg.WING_CELL]; omega)⟩⟩

/-- What a slot brings beside what is shown of it (R181, R186). -/
def slotTaken (k c : Nat) (w : BitVec 32) (s : State) : State :=
  let vdc := slotVdc w
  let s := s.setBit (F.GUARD_CELL_FAULT c) (slotFault w)
  if s.tableau then s
  else
    let x := s.tx c
    let stamp := s.slotStamp c k
    let high : Bool := s.cellVMax c < vdc
    let low : Bool := vdc < s.cellVMin c
    let fault := slotFault w
    let s := s.setTx c { x with overV := high, underV := low, fault := fault, stamp := stamp }
    let s := s.when (high && !x.overV) fun s => s.raiseAt stamp 105 c
    let s := s.when (low && !x.underV && s.isActive c) fun s => s.raiseAt stamp 106 c
    let s := s.when (fault && !x.fault) fun s => s.raiseAt stamp 104 c
    let s := s.when (!slotReply w) (State.itemReport c k (k % 16) (slotItem w) vdc)
    s.castVdc c vdc (fault && !x.fault)

theorem slotReport_eq (k c : Nat) (w : BitVec 32) : s.slotReport k c w = (s.slotShown c w).slotTaken k c w := rfl

theorem sameShown_slotTaken (n c k : Nat) {e : Nat} (he : e < 128) (w : BitVec 32) : SameShown n c s (s.slotTaken k e w) := by
  unfold slotTaken
  extract_lets vdc v x stamp high low fault a b d f g
  have guarded : SameShown n c s v := (SameShown.refl n c s).setBit _ (shownReg_guardCell he)
  have told (q : Bool) (num : Nat) {y : State} (h : SameShown n c s y) : SameShown n c s (y.when q fun s => s.raiseAt stamp num e) :=
    h.when fun u => (SameShown.refl n c u).raiseAt ..
  have delivered : SameShown n c s g := (told _ 104 (told _ 106 (told _ 105 (guarded.setTx ..)))).when fun u => u.sameShown_itemReport n c he ..
  exact guarded.ite (delivered.trans (g.sameShown_castVdc n c he ..))

theorem sameShown_slotReport {n c e : Nat} (ne : e ≠ c) (k : Nat) (he : e < 128) (w : BitVec 32) : SameShown n c s (s.slotReport k e w) :=
  (s.sameShown_slotShown ne w).trans (sameShown_slotTaken _ n c k he w)

/-- The acknowledgement of the frame before, on one cell. -/
theorem sameShown_verdicts {n : Nat} (hn : n < 4) (c k : Nat) {e : Nat} (he : e < 128) (ok : Bool) (verdict : Option Bool) (w : BitVec 32) :
    SameShown n c s ((s.cueVerdict n k e ok).orderVerdicts n k e verdict w) :=
  (s.sameShown_cueVerdict hn c k he ok).trans (sameShown_orderVerdicts _ hn k c he verdict w)

theorem sameShown_cellReturn {n c e : Nat} (hn : n < 4) (ne : e ≠ c) (he : e < 128) (k : Nat) (slots : List (BitVec 32)) :
    SameShown n c s (s.cellReturn n k slots e) :=
  SameShown.trans ((SameShown.refl n c s).when fun z => z.sameShown_slotReport ne k he _) (sameShown_verdicts _ hn c (k - 1) he ..)

/-- A cell's slot taken and its acknowledgement judged (R181, R192). -/
def slotJudged (n k c : Nat) (w : BitVec 32) (s : State) : State :=
  ((s.when (slotGood w) (slotReport k c w)).cueVerdict n (k - 1) c (slotGood w && slotAck w)).orderVerdicts n (k - 1) c
    (some (slotGood w && slotAck w)) w

theorem cellReturn_eq (n k : Nat) (slots : List (BitVec 32)) (c : Nat) :
    s.cellReturn n k slots c = s.slotJudged n k c (slots.getD (s.cellPos c) 0xFFFFFFFF#32) := rfl

/-- A good slot of the cell is shown. -/
theorem get_cellReturn {n c k : Nat} {slots : List (BitVec 32)} {w : BitVec 32} (hn : n < 4) (hc : c < 128)
    (slot : slots.getD (s.cellPos c) 0xFFFFFFFF#32 = w) (good : slotGood w = true) :
    (s.cellReturn n k slots c).get (F.WING_CELL_VDC c) = slotVdc w ∧ (s.cellReturn n k slots c).get (F.WING_CELL_NIBBLE c) = bitsOf w.toNat 16 4 := by
  have shown := s.get_slotShown c w
  have taken := sameShown_slotTaken (s.slotShown c w) n c k hc w
  rw [← slotReport_eq] at taken
  obtain ⟨x, hx⟩ : ∃ x, s.slotReport k c w = x := ⟨_, rfl⟩
  rw [hx] at taken
  obtain ⟨vdc, nibble⟩ := (taken.trans (x.sameShown_verdicts hn c (k - 1) hc (slotAck w) (some (slotAck w)) w)).cell hc
  rw [cellReturn_eq, slot, slotJudged, good, when_true, Bool.true_and, hx]
  exact ⟨vdc.trans shown.1, nibble.trans shown.2⟩

/-! The latency and training -/

/-- A loop in training may show a latency of its own. -/
theorem SameShown.of_training {n c : Nat} {regs : List Nat} {parts : List Part} {x y : State} (k : Kept regs parts x y) (hn : n < 4)
    (lats : (y.loop n).lats = (x.loop n).lats) (busy : (x.loop n).train ≠ none)
    (apart : ∀ r ∈ regs, shownReg r = false ∨ r = Reg.WING_LAT n) (tables : .tables ∉ parts := by decide) : SameShown n c x y := by
  have out {r : Nat} (h : shownReg r = true) (ne : r ≠ Reg.WING_LAT n) : r ∉ regs := fun mem => by
    rcases apart r mem with other | same
    · rw [other] at h
      cases h
    · exact ne same
  have cell (hc : c < 128) : Reg.WING_CELL c ∉ regs := out (by simp [shownReg, Reg.WING_CELL]; omega) (by simp [Reg.WING_CELL, Reg.WING_LAT]; omega)
  exact ⟨k.2 .tables tables, lats, fun none => absurd none busy, fun _ => k.get (out (by simp [shownReg]; omega) (by simp only [Reg.WING_LAT]; omega)),
    fun hc => ⟨k.get (cell hc), k.get (cell hc)⟩⟩

theorem sameShown_trainLink (c : Nat) {n : Nat} (hn : n < 4) (lat : Nat) : SameShown n c s (s.trainLink n lat) := by
  unfold trainLink
  split
  · exact SameShown.refl ..
  · next t training =>
    have busy : (s.loop n).train ≠ none := by rw [training]; exact Option.some_ne_none t
    refine (SameShown.refl n c s).ite ?_
    extract_lets t' src x y src'
    refine SameShown.ite ((SameShown.refl n c s).setLoop n _ rfl fun none => absurd none busy) ?_
    have shown : Kept [Reg.WING_LAT n, Reg.WING_TRAIN n] [] s y := by
      have lat : Kept [Reg.WING_LAT n, Reg.WING_TRAIN n] [] s x := Kept.rfl.setTop (hf := List.mem_cons_self ..)
      exact lat.set (hf := List.mem_cons_of_mem _ (List.mem_singleton.2 rfl))
    have same : y.loop n = s.loop n := loop_of_kept shown (by decide) n
    have told : SameShown n c s y := .of_training shown hn (by rw [same]) busy (by simp [shownReg_train hn])
    have still : (y.loop n).train ≠ none := by rwa [same]
    clear_value y
    exact told.setLoop n _ rfl fun none => absurd none still

theorem lt_of_mem_cellsByPos {n c : Nat} (h : c ∈ s.cellsByPos n) : c < 128 := by
  obtain ⟨p, -, found⟩ := List.mem_filterMap.1 h
  exact List.mem_range.1 (List.mem_of_find?_eq_some found)

theorem sameShown_trainIdentity (c : Nat) {n : Nat} (hn : n < 4) : SameShown n c s (s.trainIdentity n) := by
  unfold trainIdentity
  extract_lets id x ds y z src
  split
  · exact s.sameShown_trainFail c hn ..
  · split
    · exact s.sameShown_trainFail c hn ..
    · have phased : SameShown n c s x := (SameShown.refl n c s).set _ (shownReg_train hn)
      have small {cd : Nat × Int} (h : cd ∈ ds) : cd.1 < 128 := by
        obtain ⟨e, he, rfl⟩ := List.mem_map.1 h
        exact x.lt_of_mem_cellsByPos he
      refine SameShown.ite (phased.trans (x.sameShown_trainFail c hn ..)) ?_
      split
      · exact phased.trans (x.sameShown_trainFail c hn ..)
      · have again : SameShown n c s y := phased.set _ (shownReg_train hn)
        have written : SameShown n c s z := again.each fun cd mem u => by
          have delay : SameShown n c u (u.set (F.WING_DELAY_D cd.1) cd.2.toNat) := (SameShown.refl n c u).set _ (shownReg_delay (small mem))
          exact delay.each fun w _ v => (SameShown.refl n c v).giveOrder ..
        split
        · exact written
        · next t training => exact written.setLoop n _ rfl fun none => by rw [training] at none; cases none

theorem sameShown_trainReadBack (c : Nat) {n : Nat} (hn : n < 4) : SameShown n c s (s.trainReadBack n) := by
  unfold trainReadBack
  split
  · exact s.sameShown_trainFail c hn ..
  · extract_lets x y
    have begun : SameShown n c s x := (SameShown.refl n c s).set _ (shownReg_train hn)
    have armed : SameShown n c s y := begun.each fun e _ z => (SameShown.refl n c z).giveOrder ..
    split
    · exact armed
    · next t training => exact armed.setLoop n _ rfl fun none => by rw [training] at none; cases none

theorem sameShown_trainDone (c : Nat) {n : Nat} (hn : n < 4) : SameShown n c s (s.trainDone n) := by
  unfold trainDone
  extract_lets x cells guard y z v w src
  have fresh : SameShown n c s x := (SameShown.refl n c s).each fun e _ u =>
    ((SameShown.refl n c u).setTx ..).trans (.of_kept (regs := []) (parts := [.scrub]) Kept.rfl.scrub)
  have words : SameShown n c s y := fresh.trans (.of_kept (regs := []) (parts := [.guard]) Kept.rfl.guard)
  have shown : SameShown n c s w := ((words.set _ (shownReg_train hn)).setIbit true (by decide)).setIbit false (by decide)
  have ended := shown.setLoop n { src with train := none, l0 := w.get (F.WING_LAT_L n), frames := 0 } rfl fun _ => rfl
  exact ended.raise ..

theorem sameShown_trainAsk (c n : Nat) (regs : Nat → List Nat) : SameShown n c s (s.trainAsk n regs) := by
  unfold trainAsk
  extract_lets x src
  have asked : SameShown n c s x := (SameShown.refl n c s).each fun e _ z => (SameShown.refl n c z).each fun i _ u => (SameShown.refl n c u).giveOrder ..
  exact asked.setLoop n _ rfl fun none => by rw [none]; rfl

theorem sameShown_trainAdvance (c : Nat) {n : Nat} (hn : n < 4) : SameShown n c s (s.trainAdvance n) := by
  unfold trainAdvance
  split
  · exact SameShown.refl ..
  · refine SameShown.ite (s.sameShown_trainIdentity c hn) (SameShown.ite
      ((s.sameShown_trainReadBack c hn).ite (s.sameShown_trainAsk c n _)) (SameShown.ite ?_ (SameShown.refl n c s)))
    split
    · exact s.sameShown_trainFail c hn ..
    · exact s.sameShown_trainDone c hn

/-- The last 64 latencies of a loop with the one that joins them. -/
def latsWith (l : Loop) (lat : Nat) : List Nat := (l.lats ++ [lat]).drop (l.lats.length + 1 - 64)

/-- Their mean, rounded half up. -/
def meanLat (lats : List Nat) : Nat := (2 * lats.sum + lats.length) / (2 * lats.length)

/-- The latency of a frame recorded and shown. -/
def latencyShown (n lat : Nat) (s : State) : State :=
  let lats := latsWith (s.loop n) lat
  let x := s.setTop (F.WING_LAT_L n) (meanLat lats)
  x.setLoop n { s.loop n with lats := lats, short := if 8 * x.cueLead < meanLat lats + 1600 then (s.loop n).short + 1 else 0 }

theorem frameLatency_eq (n lat : Nat) : ∃ p q : State → Bool, s.frameLatency n lat =
    let x := s.latencyShown n lat
    let y := x.when (p x && x.loopJudged n) (loopDrift n)
    y.when (q y && y.loopJudged n) (loopFail n) :=
  ⟨fun _ => (s.loop n).drifted (meanLat (latsWith (s.loop n) lat)),
    fun _ => 8 * (s.setTop (F.WING_LAT_L n) (meanLat (latsWith (s.loop n) lat))).cueLead < meanLat (latsWith (s.loop n) lat) + 1600 && 1 ≤ (s.loop n).short, rfl⟩

theorem sameShown_frameLatency (n c lat : Nat) : SameShown n c (s.latencyShown n lat) (s.frameLatency n lat) := by
  obtain ⟨p, q, eq⟩ := s.frameLatency_eq n lat
  rw [eq]
  exact ((SameShown.refl n c _).when fun z => z.sameShown_loopDrift n c n).when fun z => z.sameShown_loopFail n c n

theorem kept_latencyShown (n lat : Nat) : Kept [Reg.WING_LAT n] [.wing] s (s.latencyShown n lat) := by
  have shown : Kept [Reg.WING_LAT n] [.wing] s (s.setTop (F.WING_LAT_L n) (meanLat (latsWith (s.loop n) lat))) :=
    Kept.rfl.setTop (hf := List.mem_singleton.2 rfl)
  exact shown.trans ((kept_setLoop ..).mono (List.nil_subset _) (List.Subset.refl _))

theorem loop_latencyShown (n lat : Nat) : ∃ k, (s.latencyShown n lat).loop n = { s.loop n with lats := latsWith (s.loop n) lat, short := k } :=
  ⟨_, loop_setLoop_same ..⟩

theorem cells_setLoop (n : Nat) (x : Loop) : (s.setLoop n x).wing.cells = s.wing.cells := rfl

theorem cells_latencyShown (n lat : Nat) : (s.latencyShown n lat).wing.cells = s.wing.cells := by
  rw [latencyShown, cells_setLoop, setTop, wing_set]

theorem get_latencyShown (n lat : Nat) : (s.latencyShown n lat).get (F.WING_LAT_L n) = min (meanLat (latsWith (s.loop n) lat)) (2 ^ 24 - 1) := by
  have shown : (s.setTop (F.WING_LAT_L n) (meanLat (latsWith (s.loop n) lat))).get (F.WING_LAT_L n) =
      min (meanLat (latsWith (s.loop n) lat)) (2 ^ 24 - 1) :=
    get_set_of_lt _ (Nat.le_of_ble_eq_true rfl) (Nat.lt_of_le_of_lt (Nat.min_le_right ..) (Nat.sub_lt (by positivity) Nat.one_pos))
  exact ((kept_setLoop _ n _).get (by simp)).trans shown

/-! A frame taken as returned -/

/-- Each cell's slot and acknowledgement judged, and training moved on (R192, R204). -/
def cellsReturned (n k : Nat) (slots : List (BitVec 32)) (s : State) : State := (s.each (s.loopCells n) (cellReturn n k slots)).trainAdvance n

/-- The oldest frame sent has come back valid (R192 to R194, R204). -/
def validReturn (n k : Nat) (r : Returned) (s : State) : State :=
  (((s.frameGood n).frameLatency n r.latency).trainLink n r.latency).cellsReturned n k r.slots

/-- What comes back on a loop, its code violations counted. -/
def returnTaken (n : Nat) (r : Returned) (s : State) : State :=
  match (s.loop n).sent with
  | [] => s
  | f :: _ =>
    if f.count then (s.popSent n).countReturn n r.count
    else if r.crcOk && r.fn = f.fn && r.base = f.base then (s.popSent n).validReturn n f.k r
    else (s.popSent n).frameLost n f.k

/-- A frame's code violations counted. -/
def violated (n v : Nat) (s : State) : State := s.count (F.WING_CODE_ERR_COUNT n) v

theorem execReturnedFrame_eq (t : Nat) (n : Fin 4) (r : Returned) : execReturnedFrame t n r s = s.run t fun s =>
    (s.violated n r.codeErrs).returnTaken n r := rfl

theorem kept_popSent (n : Nat) : Kept [] [.wing] s (s.popSent n) := s.kept_setLoop n _

theorem loop_popSent (n : Nat) : (s.popSent n).loop n = { s.loop n with sent := (s.loop n).sent.drop 1 } := s.loop_setLoop_same n _

theorem code_not_mem_lat (n : Nat) : Reg.WING_CODE_ERR n ∉ [Reg.WING_LAT n] := by
  simp only [Reg.WING_CODE_ERR, Reg.WING_LAT, List.mem_singleton]
  omega

/-- The latency, and what is shown once everything else has been done, of a valid return. -/
theorem validReturn_spec {n : Nat} (hn : n < 4) (k : Nat) (r : Returned) :
    ((s.validReturn n k r).loop n).lats = latsWith (s.loop n) r.latency ∧
    ((s.loop n).train = none → (s.validReturn n k r).get (F.WING_LAT_L n) = min (meanLat (latsWith (s.loop n) r.latency)) (2 ^ 24 - 1)) ∧
    (s.validReturn n k r).get (F.WING_CODE_ERR_COUNT n) = s.get (F.WING_CODE_ERR_COUNT n) ∧
    (∀ c ∈ s.loopCells n, ∀ w, r.slots.getD (s.cellPos c) 0xFFFFFFFF#32 = w → slotGood w = true →
      (s.validReturn n k r).get (F.WING_CELL_VDC c) = slotVdc w ∧ (s.validReturn n k r).get (F.WING_CELL_NIBBLE c) = bitsOf w.toNat 16 4) := by
  have good (c : Nat) := s.sameShown_frameGood c hn
  unfold validReturn
  obtain ⟨x, hx⟩ : ∃ x, s.frameGood n = x := ⟨_, rfl⟩
  rw [hx] at good ⊢
  obtain ⟨z, hz⟩ : ∃ z, (x.frameLatency n r.latency).trainLink n r.latency = z := ⟨_, rfl⟩
  have shown (c : Nat) : SameShown n c (x.latencyShown n r.latency) z :=
    hz ▸ (x.sameShown_frameLatency n c r.latency).trans (sameShown_trainLink _ c hn r.latency)
  have lat := x.get_latencyShown n r.latency
  have kept := x.kept_latencyShown n r.latency
  obtain ⟨short, loop⟩ := x.loop_latencyShown n r.latency
  rw [hz, cellsReturned]
  obtain ⟨y, hy⟩ : ∃ y, x.latencyShown n r.latency = y := ⟨_, rfl⟩
  rw [hy] at shown lat kept loop
  have lats : latsWith (x.loop n) r.latency = latsWith (s.loop n) r.latency := by rw [latsWith, latsWith, (good 0).lats]
  have tables : z.tables = s.tables := (shown 0).tables.trans ((kept.2 .tables (by decide)).trans (good 0).tables)
  rw [lats] at lat loop
  have last (c : Nat) : SameShown n c (z.each (z.loopCells n) (cellReturn n k r.slots)) ((z.each (z.loopCells n) (cellReturn n k r.slots)).trainAdvance n) :=
    sameShown_trainAdvance _ c hn
  have other : SameShown n 128 y ((z.each (z.loopCells n) (cellReturn n k r.slots)).trainAdvance n) := by
    refine ((shown 128).trans ((SameShown.refl n 128 z).each fun e mem u => u.sameShown_cellReturn hn ?_ (z.lt_of_mem_loopCells mem) k r.slots)).trans
      (last 128)
    exact (z.lt_of_mem_loopCells mem).ne
  refine ⟨other.lats.trans (by rw [loop]), fun none => ?_, (other.code hn).trans ((kept.get (code_not_mem_lat n)).trans ((good 0).code hn)), ?_⟩
  · have still : (y.loop n).train = Option.none := by
      rw [loop]
      exact ((good 0).train none).1
    exact ((other.train still).2 hn).trans lat
  · intro c mem w slot ok
    have hc := s.lt_of_mem_loopCells mem
    rw [loopCells_of_tables tables] at last ⊢
    obtain ⟨u, before, after⟩ := z.each_at (R := SameShown n c) (SameShown.refl n c) SameShown.trans
      (fun e he ne v => v.sameShown_cellReturn hn ne (s.lt_of_mem_loopCells he) k r.slots) (s.nodup_loopCells n) mem
    have place : r.slots.getD (u.cellPos c) 0xFFFFFFFF#32 = w := by rw [cellPos_of_tables (before.tables.trans tables), slot]
    obtain ⟨vdc, nibble⟩ := u.get_cellReturn (k := k) hn hc place ok
    obtain ⟨vdc', nibble'⟩ := (after.trans (last c)).cell hc
    exact ⟨vdc'.trans vdc, nibble'.trans nibble⟩

/-! Nothing to judge -/

theorem frameGood_of_good {n : Nat} (h : (s.loop n).bad = false) : s.frameGood n = s := by rw [frameGood, h, if_neg Bool.false_ne_true]

theorem trainLink_of_none {n lat : Nat} (h : (s.loop n).train = none) : s.trainLink n lat = s := by rw [trainLink, h]

theorem trainAdvance_of_none {n : Nat} (h : (s.loop n).train = none) : s.trainAdvance n = s := by rw [trainAdvance, h]

theorem loopJudged_of_kept {regs : List Nat} {parts : List Part} {x y : State} (k : Kept regs parts x y) (status : Reg.WING_STATUS ∉ regs)
    (power : Reg.POWER_STATUS ∉ regs) (n : Nat) : y.loopJudged n = x.loopJudged n := by
  have tableau : y.tableau = x.tableau := k.bit power
  have trained : y.loopTrained n = x.loopTrained n := k.ibit status
  have fault : y.loopFault n = x.loopFault n := k.ibit status
  rw [loopJudged, loopJudged, tableau, trained, fault]

theorem status_not_mem_lat (n : Nat) : Reg.WING_STATUS ∉ [Reg.WING_LAT n] := by
  simp only [Reg.WING_STATUS, Reg.WING_LAT, List.mem_singleton]
  omega

theorem power_not_mem_lat {n : Nat} (h : n < 4) : Reg.POWER_STATUS ∉ [Reg.WING_LAT n] := by
  simp only [Reg.POWER_STATUS, Reg.WING_LAT, List.mem_singleton]
  omega

theorem frameLatency_of_not_judged {n lat : Nat} (h : s.loopJudged n = false) (hn : n < 4) : s.frameLatency n lat = s.latencyShown n lat := by
  have same := loopJudged_of_kept (s.kept_latencyShown n lat) (status_not_mem_lat n) (power_not_mem_lat hn) n
  obtain ⟨p, q, eq⟩ := s.frameLatency_eq n lat
  rw [eq]
  obtain ⟨x, hx⟩ : ∃ x, s.latencyShown n lat = x := ⟨_, rfl⟩
  rw [hx] at same ⊢
  dsimp only
  rw [same, h, Bool.and_false, when_false, same, h, Bool.and_false, when_false]

theorem cellReturn_of_nothing {n c k : Nat} {slots : List (BitVec 32)} (judged : s.loopJudged n = false) (orders : (s.tx c).orders = [])
    (bad : slotGood (slots.getD (s.cellPos c) 0xFFFFFFFF#32) = false) : s.cellReturn n k slots c = s := by
  have cue (ok : Bool) : s.cueVerdict n (k - 1) c ok = s := by
    rw [cueVerdict, judged]
    exact if_pos rfl
  rw [cellReturn_eq, slotJudged, bad, when_false, cue, orderVerdicts, orders]
  rfl

theorem each_cellReturn_of_nothing {n k : Nat} {slots : List (BitVec 32)} {l : List Nat} (judged : s.loopJudged n = false)
    (h : ∀ c ∈ l, (s.tx c).orders = [] ∧ slotGood (slots.getD (s.cellPos c) 0xFFFFFFFF#32) = false) : s.each l (cellReturn n k slots) = s := by
  induction l with
  | nil => rfl
  | cons c l ih =>
    obtain ⟨orders, bad⟩ := h c (List.mem_cons_self ..)
    rw [each_cons, s.cellReturn_of_nothing judged orders bad, ih fun e he => h e (List.mem_cons_of_mem _ he)]

/-- On a loop neither trained nor in training, with nothing in transport, only the latency is shown. -/
theorem validReturn_of_nothing {n k : Nat} {r : Returned} (hn : n < 4) (judged : s.loopJudged n = false) (train : (s.loop n).train = none)
    (good : (s.loop n).bad = false)
    (h : ∀ c ∈ s.loopCells n, (s.tx c).orders = [] ∧ slotGood (r.slots.getD (s.cellPos c) 0xFFFFFFFF#32) = false) :
    s.validReturn n k r = s.latencyShown n r.latency := by
  have kept := s.kept_latencyShown n r.latency
  obtain ⟨short, loop⟩ := s.loop_latencyShown n r.latency
  have cells := s.cells_latencyShown n r.latency
  unfold validReturn
  rw [s.frameGood_of_good good, s.frameLatency_of_not_judged judged hn]
  obtain ⟨y, hy⟩ : ∃ y, s.latencyShown n r.latency = y := ⟨_, rfl⟩
  rw [hy] at kept loop cells ⊢
  have still : (y.loop n).train = none := by rw [loop, train]
  have tables : y.tables = s.tables := kept.2 .tables (by decide)
  have tx (c : Nat) : y.tx c = s.tx c := by rw [State.tx, State.tx, cells]
  rw [y.trainLink_of_none still, cellsReturned, loopCells_of_tables tables, y.each_cellReturn_of_nothing ((loopJudged_of_kept kept (status_not_mem_lat n) (power_not_mem_lat hn) n).trans judged) ?_]
  · exact y.trainAdvance_of_none still
  · intro c mem
    rw [tx, cellPos_of_tables tables]
    exact h c mem

/-! A frame that has not come back valid -/

theorem kept_setOrder (c : Nat) (o q : Order) : Kept [] [.wing] s (s.setOrder c o q) := s.kept_setTx c _

/-- No verdict leaves everything but the orders. -/
theorem orderVerdicts_of_none (n k c : Nat) (slot : BitVec 32) :
    Kept [] [.wing] s (s.orderVerdicts n k c none slot) ∧ (s.orderVerdicts n k c none slot).rest = s.rest := by
  unfold orderVerdicts
  have again (z : State) (o : Order) (i : Nat) : Kept [] [.wing] z (z.sendAgain c o i) ∧ (z.sendAgain c o i).rest = z.rest := by
    unfold sendAgain
    split
    · exact ⟨z.kept_setTx c _, z.rest_setTx c _⟩
    · exact ⟨z.kept_setTx c _, z.rest_setTx c _⟩
  refine each_induction (P := fun z => Kept [] [.wing] s z ∧ z.rest = s.rest) ⟨Kept.rfl, rfl⟩ fun o z ⟨kept, rest⟩ => ?_
  split
  · exact ⟨kept, rest⟩
  · exact ⟨kept.trans (again z o _).1, (again z o _).2.trans rest⟩

/-- What a frame that has not come back valid leaves: its count and the loop's record. -/
def badCounted (n : Nat) (s : State) : State :=
  let s := s.count (F.WING_CRC_ERR_COUNT n)
  s.setLoop n { s.loop n with train := (s.loop n).train.map fun t => { t with run := 0, sum := 0 } }

theorem frameBad_eq (n : Nat) : s.frameBad n =
    if !(s.badCounted n).loopJudged n then (s.badCounted n).setLoop n { (s.badCounted n).loop n with bad := false }
    else if ((s.count (F.WING_CRC_ERR_COUNT n)).loop n).bad then
      ((s.badCounted n).setLoop n { (s.badCounted n).loop n with bad := false }).loopFail n
    else (s.badCounted n).setLoop n { (s.badCounted n).loop n with bad := true } := rfl

theorem kept_badCounted (n : Nat) : Kept [Reg.WING_CRC_ERR n] [.wing] s (s.badCounted n) := by
  have counted : Kept [Reg.WING_CRC_ERR n] [.wing] s (s.count (F.WING_CRC_ERR_COUNT n)) := Kept.rfl.count (hf := List.mem_singleton.2 rfl)
  exact counted.trans ((kept_setLoop ..).mono (List.nil_subset _) (List.Subset.refl _))

theorem loop_count (f : FieldRef) (v n : Nat) : (s.count f v).loop n = s.loop n := by rw [loop, loop, count, setTop, wing_set]

theorem loop_badCounted (n : Nat) : ∃ t, (s.badCounted n).loop n = { s.loop n with train := t } :=
  ⟨_, (loop_setLoop_same _ n _).trans (by rw [loop_count])⟩

theorem get_badCounted (n : Nat) : (s.badCounted n).get (F.WING_CRC_ERR_COUNT n) = min (s.get (F.WING_CRC_ERR_COUNT n) + 1) 0xFFFFFFFF :=
  ((kept_setLoop _ n _).get (by simp)).trans (get_count_same s (Nat.le_of_ble_eq_true rfl))

theorem loopJudged_badCounted {n : Nat} (hn : n < 4) : (s.badCounted n).loopJudged n = s.loopJudged n := by
  refine loopJudged_of_kept (s.kept_badCounted n) ?_ ?_ n
  · simp only [Reg.WING_STATUS, Reg.WING_CRC_ERR, List.mem_singleton]
    omega
  · simp only [Reg.POWER_STATUS, Reg.WING_CRC_ERR, List.mem_singleton]
    omega

/-- No verdict for any station of the loop (R194). -/
theorem frameLost_spec (n k : Nat) :
    Kept [] [.wing] (s.frameBad n) (s.frameLost n k) ∧ (s.frameLost n k).rest = (s.frameBad n).rest := by
  unfold frameLost
  obtain ⟨x, hx⟩ : ∃ x, s.frameBad n = x := ⟨_, rfl⟩
  rw [hx]
  refine each_induction (P := fun z => Kept [] [.wing] x z ∧ z.rest = x.rest) ⟨Kept.rfl, rfl⟩ fun c z ⟨kept, rest⟩ => ?_
  obtain ⟨kept', rest'⟩ := z.orderVerdicts_of_none n (k - 1) c 0xFFFFFFFF#32
  exact ⟨kept.trans kept', rest'.trans rest⟩

/-- The first failure of a judged loop is remembered (R195). -/
theorem frameLost_first {n : Nat} (hn : n < 4) (k : Nat) (judged : s.loopJudged n = true) (good : (s.loop n).bad = false) :
    ((s.frameLost n k).loop n).bad = true ∧ ((s.frameLost n k).loop n).sent = (s.loop n).sent ∧
    (s.frameLost n k).get (F.WING_CRC_ERR_COUNT n) = min (s.get (F.WING_CRC_ERR_COUNT n) + 1) 0xFFFFFFFF ∧
    Kept [Reg.WING_CRC_ERR n] [.wing] s (s.frameLost n k) := by
  have still := s.loopJudged_badCounted hn
  have kept := s.kept_badCounted n
  have counted := s.get_badCounted n
  obtain ⟨train, loop⟩ := s.loop_badCounted n
  obtain ⟨keptLost, restLost⟩ := s.frameLost_spec n k
  have eq := s.frameBad_eq n
  obtain ⟨x, hx⟩ : ∃ x, s.badCounted n = x := ⟨_, rfl⟩
  rw [hx] at still kept counted loop eq
  rw [still, judged, loop_count, good, if_neg (by decide), if_neg (by decide)] at eq
  rw [eq] at keptLost restLost
  have set := x.kept_setLoop n { x.loop n with bad := true }
  have record := x.loop_setLoop_same n { x.loop n with bad := true }
  obtain ⟨y, hy⟩ : ∃ y, x.setLoop n { x.loop n with bad := true } = y := ⟨_, rfl⟩
  rw [hy] at keptLost restLost set record
  have same : (s.frameLost n k).loop n = y.loop n := by rw [State.loop, State.loop, loops_of_rest restLost]
  refine ⟨by rw [same, record], by rw [same, record, loop], (keptLost.get (by simp)).trans ((set.get (by simp)).trans counted), ?_⟩
  exact kept.trans ((set.trans keptLost).mono (List.nil_subset _) (List.Subset.refl _))

theorem loopFault_haltLoop (n m : Nat) : (s.haltLoop n).loopFault m = s.loopFault m := by
  have wire : (s.haltWire n).loopFault m = s.loopFault m := by
    rw [haltWire_eq]
    split
    · rfl
    · have set : (s.setIbit F.WING_STATUS_HALTED n true).loopFault m = s.loopFault m := ibit_setIbit_apart _ (by decide)
      obtain ⟨x, hx⟩ : ∃ x, s.setIbit F.WING_STATUS_HALTED n true = x := ⟨_, rfl⟩
      rw [hx] at set ⊢
      have stopped : Kept [] [.wing, .cast, .host] x (x.stopped n) := by
        unfold stopped
        have cells : Kept [] [.wing, .cast, .host] x (x.each (x.loopCells n) fun c s => (s.dropOrders c).blockNow c) :=
          Kept.rfl.each fun c _ z h => h.trans ((z.kept_dropOrders c).trans ((kept_blockNow _ c).mono (List.Subset.refl _) (by decide)))
        exact ((cells.trans ((kept_cutFrame _ n).mono (List.Subset.refl _) (by decide))).mapWing).wing
      obtain ⟨y, hy⟩ : ∃ y, x.stopped n = y := ⟨_, rfl⟩
      rw [hy] at stopped ⊢
      have sent : Kept [] [.wing, .router] y (y.when (y.loopEnabled n) (haltSent n)) :=
        Kept.rfl.when fun h => h.trans (Kept.rfl.mapWing.raiseAt : Kept [] [.wing, .router] y (y.haltSent n))
      exact (sent.ibit (by simp)).trans ((stopped.ibit (by simp)).trans set)
  rw [haltLoop_eq]
  have halt := kept_engHalt (s.haltWire n)
  obtain ⟨y, hy⟩ : ∃ y, (s.haltWire n).engHalt = y := ⟨_, rfl⟩
  rw [hy] at halt ⊢
  have cause (q : Bool) : Kept [] [.curt] y (y.when q fun s => s.curtCause 16) := Kept.rfl.when fun h => h.curt
  exact ((cause _).ibit (by simp)).trans ((halt.ibit (by decide +kernel)).trans wire)

/-- A lasting failure: the loop is halted and has LOOP_FAULT set (R195). -/
theorem loopFail_spec {n : Nat} (hn : n < 4) : (s.loopFail n).loopFault n = true ∧ (s.loopFail n).loopHalted n = true := by
  unfold loopFail
  have set : (s.setIbit F.WING_STATUS_LOOP_FAULT n true).loopFault n = true := s.ibit_setIbit_same (by decide) hn
  extract_lets x y
  have told : x.loopFault n = true := (Kept.ibit (Kept.rfl.raiseFault : Kept [Reg.SCRUB_FAULT_SEEN] [.router] (s.setIbit F.WING_STATUS_LOOP_FAULT n true) x) (by decide)).trans set
  have fault : y.loopFault n = true := (x.loopFault_haltLoop n n).trans told
  have halted : y.loopHalted n = true := x.loopHalted_haltLoop hn
  clear_value y
  have out : Kept outRegs [.cast, .wing, .router] y (y.each (y.loopCells n) fun c s => s.goOut c 2) :=
    Kept.rfl.each fun c mem z h => h.trans (z.kept_goOut 2 (y.lt_of_mem_loopCells mem))
  exact ⟨(out.ibit (by decide +kernel)).trans fault, (out.ibit (by decide +kernel)).trans halted⟩

/-- The second failure of a judged loop is its fault (R195). -/
theorem frameLost_second {n : Nat} (hn : n < 4) (k : Nat) (judged : s.loopJudged n = true) (bad : (s.loop n).bad = true) :
    (s.frameLost n k).loopFault n = true ∧ (s.frameLost n k).loopHalted n = true := by
  have still := s.loopJudged_badCounted hn
  obtain ⟨keptLost, -⟩ := s.frameLost_spec n k
  have eq := s.frameBad_eq n
  obtain ⟨x, hx⟩ : ∃ x, s.badCounted n = x := ⟨_, rfl⟩
  rw [hx] at still eq
  rw [still, judged, loop_count, bad, if_neg (by decide), if_pos rfl] at eq
  rw [eq] at keptLost
  obtain ⟨fault, halted⟩ := (x.setLoop n { x.loop n with bad := false }).loopFail_spec hn
  exact ⟨(keptLost.ibit (by simp)).trans fault, (keptLost.ibit (by simp)).trans halted⟩

/-! Code violations counted first -/

theorem kept_violated (n v : Nat) : Kept [Reg.WING_CODE_ERR n] [] s (s.violated n v) := Kept.rfl.count (hf := List.mem_singleton.2 rfl)

theorem get_violated (n v : Nat) : (s.violated n v).get (F.WING_CODE_ERR_COUNT n) = min (s.get (F.WING_CODE_ERR_COUNT n) + v) 0xFFFFFFFF :=
  get_count_same s (Nat.le_of_ble_eq_true rfl)

theorem loopJudged_violated {n : Nat} (hn : n < 4) (v : Nat) : (s.violated n v).loopJudged n = s.loopJudged n := by
  refine loopJudged_of_kept (s.kept_violated n v) ?_ ?_ n
  · simp only [Reg.WING_STATUS, Reg.WING_CODE_ERR, List.mem_singleton]
    omega
  · simp only [Reg.POWER_STATUS, Reg.WING_CODE_ERR, List.mem_singleton]
    omega

theorem tx_of_kept {regs : List Nat} {parts : List Part} {x y : State} (k : Kept regs parts x y) (wing : .wing ∉ parts) (c : Nat) :
    y.tx c = x.tx c := by rw [tx, tx, (k.2 .wing wing : y.wing = x.wing)]

theorem loopJudged_popSent (n : Nat) : (s.popSent n).loopJudged n = s.loopJudged n :=
  loopJudged_of_kept (s.kept_popSent n) (List.not_mem_nil) (List.not_mem_nil) n

/-- The oldest frame sent taken, its code violations counted. -/
def popped (n v : Nat) (s : State) : State := (s.violated n v).popSent n

theorem kept_popped (n v : Nat) : Kept [Reg.WING_CODE_ERR n] [.wing] s (s.popped n v) :=
  ((s.kept_violated n v).mono (List.Subset.refl _) (List.nil_subset [.wing])).trans
    ((kept_popSent _ n).mono (List.nil_subset _) (List.Subset.refl _))

theorem loop_violated (n v : Nat) : (s.violated n v).loop n = s.loop n := s.loop_count ..

theorem loop_popped (n v : Nat) : (s.popped n v).loop n = { s.loop n with sent := (s.loop n).sent.drop 1 } := by
  rw [popped, loop_popSent, loop_violated]

theorem get_popped (n v : Nat) : (s.popped n v).get (F.WING_CODE_ERR_COUNT n) = min (s.get (F.WING_CODE_ERR_COUNT n) + v) 0xFFFFFFFF :=
  ((kept_popSent _ n).get (by simp)).trans (s.get_violated n v)

theorem loopJudged_popped {n : Nat} (hn : n < 4) (v : Nat) : (s.popped n v).loopJudged n = s.loopJudged n :=
  (loopJudged_popSent _ n).trans (s.loopJudged_violated hn v)

theorem tx_popped (n v c : Nat) : (s.popped n v).tx c = s.tx c := by
  rw [popped, popSent, tx, cells_setLoop]
  exact tx_of_kept (s.kept_violated n v) (by decide) c

section

variable {s : State} {n : Nat} {r : Returned} {f : Frame} {fs : List Frame} (sent : (s.loop n).sent = f :: fs)

include sent

theorem returnTaken_eq : s.returnTaken n r = if f.count then (s.popSent n).countReturn n r.count
    else if r.crcOk && r.fn = f.fn && r.base = f.base then (s.popSent n).validReturn n f.k r else (s.popSent n).frameLost n f.k := by
  unfold returnTaken
  rw [sent]

theorem returnTaken_of_count (count : f.count = true) : (s.violated n r.codeErrs).returnTaken n r = (s.popped n r.codeErrs).countReturn n r.count := by
  rw [returnTaken_eq ((congrArg Loop.sent (s.loop_violated n _)).trans sent), if_pos count, popped]

theorem returnTaken_of_valid (count : f.count = false) (crc : r.crcOk = true) (fn : r.fn = f.fn) (base : r.base = f.base) :
    (s.violated n r.codeErrs).returnTaken n r = (s.popped n r.codeErrs).validReturn n f.k r := by
  rw [returnTaken_eq ((congrArg Loop.sent (s.loop_violated n _)).trans sent), if_neg (by rw [count]; exact Bool.false_ne_true),
    if_pos (by rw [crc, fn, base, decide_eq_true rfl, decide_eq_true rfl]; rfl), popped]

theorem returnTaken_of_bad (count : f.count = false) (bad : r.crcOk = false ∨ r.fn ≠ f.fn ∨ r.base ≠ f.base) :
    (s.violated n r.codeErrs).returnTaken n r = (s.popped n r.codeErrs).frameLost n f.k := by
  have wrong : (r.crcOk && decide (r.fn = f.fn) && decide (r.base = f.base)) = false := by
    rw [Bool.and_eq_false_iff, Bool.and_eq_false_iff, decide_eq_false_iff_not, decide_eq_false_iff_not, or_assoc]
    exact bad
  rw [returnTaken_eq ((congrArg Loop.sent (s.loop_violated n _)).trans sent), if_neg (by rw [count]; exact Bool.false_ne_true), wrong,
    if_neg Bool.false_ne_true, popped]

end

/-- A COUNT set kept in phase 2, before the fourth (R204). -/
theorem countReturn_of_phase {n c : Nat} {x : Train} (train : (s.loop n).train = some x) (phase : x.phase = 2) (few : x.counts.length < 3) :
    s.countReturn n (some c) = s.setLoop n { s.loop n with train := some { x with counts := x.counts ++ [c] } } := by
  have short : (x.counts ++ [c]).length ≠ 4 := by
    rw [List.length_append, List.length_singleton]
    omega
  simp only [countReturn, train, phase]
  exact (if_neg (by simp)).trans (if_neg short)

/-- The oldest frame sent has not come back (R195). -/
def frameMissing (n : Nat) (s : State) : State :=
  match (s.loop n).sent with
  | [] => s
  | f :: _ => if f.count then s.popSent n else (s.popSent n).frameLost n f.k

theorem execFrameNotReturned_eq (t : Nat) (n : Fin 4) : execFrameNotReturned t n s = s.run t fun s => s.frameMissing n := rfl

theorem frameMissing_of_frame {n : Nat} {f : Frame} {fs : List Frame} (sent : (s.loop n).sent = f :: fs) (count : f.count = false) :
    s.frameMissing n = (s.popSent n).frameLost n f.k := by
  unfold frameMissing
  rw [sent]
  exact if_neg (by rw [count]; exact Bool.false_ne_true)

end State

/-- Settles O12: what a valid frame shows is shown before its orders and training are judged, which leave it; a frame lost judges its loop only. -/
theorem returnedFramesAndTheirFailures : Obligations.ReturnedFramesAndTheirFailures := by
  unfold Obligations.ReturnedFramesAndTheirFailures
  refine ⟨?_, ?_, ?_, ?_, ?_, ?_, ?_⟩
  · intro s t n r f fs a lats
    have now : s.advance t = a := rfl
    clear_value a
    intro sent count crc fn base
    have taken := State.returnTaken_of_valid sent count crc fn base
    have kept := a.kept_popped n r.codeErrs
    have record := a.loop_popped n r.codeErrs
    have counted := a.get_popped n r.codeErrs
    obtain ⟨z, hz⟩ : ∃ z, a.popped n r.codeErrs = z := ⟨_, rfl⟩
    rw [hz] at taken kept record counted
    have tables : z.tables = a.tables := kept.2 .tables (by decide)
    obtain ⟨lats', lat, code, cells⟩ := z.validReturn_spec n.2 f.k r
    have old : State.latsWith (z.loop n) r.latency = lats := by
      rw [record]
      rfl
    rw [old] at lats' lat
    obtain ⟨x, hx⟩ : ∃ x, z.validReturn n f.k r = x := ⟨_, rfl⟩
    rw [hx] at lats' lat code cells taken
    have shown (c : Nat) (mem : c ∈ a.loopCells n) (good : slotGood (r.slots.getD (a.cellPos c) 0xFFFFFFFF#32) = true) :=
      cells c (by rwa [State.loopCells_of_tables tables]) _ (by rw [State.cellPos_of_tables tables]) good
    refine completes_at (x := x) ((exec_returnedFrame t n r s).trans (s.execReturnedFrame_eq t n r)) now taken ⟨?_, fun none => ?_, ?_, fun c mem good => ?_⟩
    · rw [State.loop_settle, lats']
    · rw [State.get_settle]
      exact lat (by rw [record, none])
    · rw [State.get_settle]
      exact code.trans counted
    · rw [State.get_settle, State.get_settle]
      exact shown c mem good
  · intro s t n r f fs a
    have now : s.advance t = a := rfl
    clear_value a
    intro sent count crc fn base untrained training good nothing
    have taken := State.returnTaken_of_valid sent count crc fn base
    have kept := a.kept_popped n r.codeErrs
    have record := a.loop_popped n r.codeErrs
    have judged : a.loopJudged n = false := by rw [State.loopJudged, untrained]; rfl
    rw [← a.loopJudged_popped n.2 r.codeErrs] at judged
    have tx := a.tx_popped n r.codeErrs
    obtain ⟨z, hz⟩ : ∃ z, a.popped n r.codeErrs = z := ⟨_, rfl⟩
    rw [hz] at taken kept record judged tx
    have tables : z.tables = a.tables := kept.2 .tables (by decide)
    have only := z.validReturn_of_nothing (k := f.k) (r := r) n.2 judged (by rw [record, training]) (by rw [record, good]) fun c mem => by
      rw [tx, State.cellPos_of_tables tables]
      exact nothing c (State.loopCells_of_tables tables n ▸ mem)
    obtain ⟨short, loop⟩ := z.loop_latencyShown n r.latency
    have shown := z.kept_latencyShown n r.latency
    obtain ⟨y, hy⟩ : ∃ y, z.latencyShown n r.latency = y := ⟨_, rfl⟩
    rw [hy] at only loop shown
    refine completes_at (x := y) ((exec_returnedFrame t n r s).trans (s.execReturnedFrame_eq t n r)) now (taken.trans only) ⟨?_, ?_⟩
    · rw [State.loop_settle, loop, record, sent, List.drop_one, List.tail_cons]
    · exact ((kept.mono (by simp) (List.Subset.refl _)).trans (shown.mono (by simp) (List.Subset.refl _))).settled now
  · intro s t n r f fs x c a
    have now : s.advance t = a := rfl
    clear_value a
    intro sent count back training phase few
    have taken := State.returnTaken_of_count (r := r) sent count
    have kept := a.kept_popped n r.codeErrs
    have record := a.loop_popped n r.codeErrs
    obtain ⟨z, hz⟩ : ∃ z, a.popped n r.codeErrs = z := ⟨_, rfl⟩
    rw [hz] at taken kept record
    rw [back, z.countReturn_of_phase (by rw [record, training]) phase few] at taken
    refine completes_at (x := z.setLoop n { z.loop n with train := some { x with counts := x.counts ++ [c] } })
      ((exec_returnedFrame t n r s).trans (s.execReturnedFrame_eq t n r)) now taken ⟨?_, ?_, ?_⟩
    · rw [State.loop_settle, State.loop_setLoop_same, record, sent, List.drop_one, List.tail_cons]
    · rw [State.loop_settle, State.loop_setLoop_same]
    · exact (kept.trans ((z.kept_setLoop n _).mono (List.nil_subset _) (List.Subset.refl _))).settled now
  · intro s t n r f fs a
    have now : s.advance t = a := rfl
    clear_value a
    intro sent count wrong judged good
    have taken := State.returnTaken_of_bad sent count wrong
    have kept := a.kept_popped n r.codeErrs
    have record := a.loop_popped n r.codeErrs
    have counted := a.get_popped n r.codeErrs
    rw [← a.loopJudged_popped n.2 r.codeErrs] at judged
    obtain ⟨z, hz⟩ : ∃ z, a.popped n r.codeErrs = z := ⟨_, rfl⟩
    rw [hz] at taken kept record counted judged
    obtain ⟨bad, sent', crc, lost⟩ := z.frameLost_first n.2 f.k judged (by rw [record, good])
    have code := lost.get (f := F.WING_CODE_ERR_COUNT n) (by simp)
    obtain ⟨x, hx⟩ : ∃ x, z.frameLost n f.k = x := ⟨_, rfl⟩
    rw [hx] at taken bad sent' crc lost code
    refine completes_at (x := x) ((exec_returnedFrame t n r s).trans (s.execReturnedFrame_eq t n r)) now taken ⟨?_, bad, ?_, ?_, ?_⟩
    · rw [State.loop_settle, sent', record, sent, List.drop_one, List.tail_cons]
    · rw [State.get_settle, crc, kept.get (by simp)]
    · rw [State.get_settle, code, counted]
    · exact ((kept.mono (by simp) (List.Subset.refl _)).trans (lost.mono (by simp) (List.Subset.refl _))).settled now
  · intro s t n r f fs a
    have now : s.advance t = a := rfl
    clear_value a
    intro sent count wrong judged bad
    have taken := State.returnTaken_of_bad sent count wrong
    have record := a.loop_popped n r.codeErrs
    rw [← a.loopJudged_popped n.2 r.codeErrs] at judged
    obtain ⟨z, hz⟩ : ∃ z, a.popped n r.codeErrs = z := ⟨_, rfl⟩
    rw [hz] at taken record judged
    obtain ⟨fault, halted⟩ := z.frameLost_second n.2 f.k judged (by rw [record, bad])
    obtain ⟨x, hx⟩ : ∃ x, z.frameLost n f.k = x := ⟨_, rfl⟩
    rw [hx] at taken fault halted
    exact completes_at (x := x) ((exec_returnedFrame t n r s).trans (s.execReturnedFrame_eq t n r)) now taken
      ⟨(State.ibit_settle ..).trans fault, (State.ibit_settle ..).trans halted⟩
  · intro s t n f fs a
    have now : s.advance t = a := rfl
    clear_value a
    intro sent count judged good
    have taken := a.frameMissing_of_frame sent count
    have kept := a.kept_popSent n
    have record := a.loop_popSent n
    rw [← a.loopJudged_popSent n] at judged
    obtain ⟨z, hz⟩ : ∃ z, a.popSent n = z := ⟨_, rfl⟩
    rw [hz] at taken kept record judged
    obtain ⟨bad, sent', crc, lost⟩ := z.frameLost_first n.2 f.k judged (by rw [record, good])
    obtain ⟨x, hx⟩ : ∃ x, z.frameLost n f.k = x := ⟨_, rfl⟩
    rw [hx] at taken bad sent' crc lost
    refine completes_at (x := x) ((exec_frameNotReturned t n s).trans (s.execFrameNotReturned_eq t n)) now taken ⟨?_, bad, ?_, ?_⟩
    · rw [State.loop_settle, sent', record, sent, List.drop_one, List.tail_cons]
    · rw [State.get_settle, crc, kept.get List.not_mem_nil]
    · exact ((kept.mono (List.nil_subset _) (List.Subset.refl _)).trans lost).settled now
  · intro s t n f fs a
    have now : s.advance t = a := rfl
    clear_value a
    intro sent count judged bad
    have taken := a.frameMissing_of_frame sent count
    have record := a.loop_popSent n
    rw [← a.loopJudged_popSent n] at judged
    obtain ⟨z, hz⟩ : ∃ z, a.popSent n = z := ⟨_, rfl⟩
    rw [hz] at taken record judged
    obtain ⟨fault, halted⟩ := z.frameLost_second n.2 f.k judged (by rw [record, bad])
    obtain ⟨x, hx⟩ : ∃ x, z.frameLost n f.k = x := ⟨_, rfl⟩
    rw [hx] at taken fault halted
    exact completes_at (x := x) ((exec_frameNotReturned t n s).trans (s.execFrameNotReturned_eq t n)) now taken
      ⟨(State.ibit_settle ..).trans fault, (State.ibit_settle ..).trans halted⟩

end Sys2Proof.Machine

/-! PROOFS. Channel A's cycle and a cause that CURTAIN_CAUSE has no bit for (spec/10 R444). -/

namespace Sys2Proof.Machine

set_option Elab.async false

/-- An indexed bit past its field reads 0. -/
theorem State.ibit_of_le (s : State) {f : FieldRef} {i : Nat} (h : f.w ≤ i) : s.ibit f i = false :=
  Nat.testBit_lt_two_pow ((s.get_lt f).trans_le (Nat.pow_le_pow_right (by decide) h))

/-- The reset state after internal start, the curtain LOWERED, with an E-stop and a cause 100 in hand for the next cycle. -/
def strayCause : State :=
  ({ State.reset with power := { State.reset.power with startDue := false }, curt := { State.reset.curt with causes := [(2, 0), (100, 0)] } }).set
    F.CURTAIN_STATUS_STATE cur.lowered

/-- Refutes O31: the causes in hand may hold a code past 21, the last that CURTAIN_CAUSE.SEEN has a bit for; beside a cause of class S the statement
has its bit set after the cycle, and bit 99 of a field of 21 bits reads 0 always. -/
theorem not_channelACycles : ¬ Obligations.ChannelACycles := by
  rintro ⟨-, -, locked, -⟩
  obtain ⟨b, -, -, -, -, -, -, -, -, seen, -⟩ := locked strayCause 0 { edges := [], selfOk := true } (by decide +kernel) (by decide +kernel)
    (by decide +kernel) (by decide +kernel) (by decide +kernel)
  have past : b.ibit F.CURTAIN_CAUSE_SEEN 99 = false := b.ibit_of_le (by decide)
  exact Bool.false_ne_true (past.symm.trans (seen (100, 0) (by decide +kernel)))

end Sys2Proof.Machine

/-! PROOFS. Fast decisions and the adaptation of the bands (spec/06 R287 to R292). -/

namespace Sys2Proof.Machine

set_option Elab.async false

namespace State

variable (s : State)

theorem eng_setEng (x y : Nat) (e : Eng) : (s.setEng x e).eng y = if y = x then e else s.eng y := by
  simp [eng, setEng, mapEngine, eq_comm]

theorem eng_setEng_same (x : Nat) (e : Eng) : (s.setEng x e).eng x = e := by rw [eng_setEng, if_pos rfl]

theorem eng_setEng_of_ne {x y : Nat} (h : y ≠ x) (e : Eng) : (s.setEng x e).eng y = s.eng y := by rw [eng_setEng, if_neg h]

theorem eng_of_kept {regs : List Nat} {parts : List Part} {a b : State} (h : Kept regs parts a b) (hp : .engine ∉ parts := by decide) (x : Nat) :
    b.eng x = a.eng x := by
  rw [eng, eng, (h.2 .engine hp : b.engine = a.engine)]

theorem eng_settle (a x : State) (n : Nat) : (s.settle a x).eng n = x.eng n := by rw [eng, engine_settle, eng]

theorem kept_setEng (x : Nat) (e : Eng) : Kept [] [.engine] s (s.setEng x e) := Kept.rfl.mapEngine

/-! A decision (R284 to R286, R292) -/

/-- What a decision leaves of a phase's engine as it is. -/
def SameEng (x : Nat) (a b : State) : Prop :=
  b.elapsed = a.elapsed ∧ (b.eng x).fast = (a.eng x).fast ∧ (b.eng x).lastTa = (a.eng x).lastTa

theorem SameEng.of_kept {regs : List Nat} {parts : List Part} {x : Nat} {a b : State} (h : Kept regs parts a b) (time : b.elapsed = a.elapsed)
    (hp : .engine ∉ parts := by decide) : SameEng x a b := by
  rw [SameEng, eng_of_kept h hp]
  exact ⟨time, rfl, rfl⟩

theorem SameEng.trans {x : Nat} {a b c : State} (h : SameEng x a b) (h' : SameEng x b c) : SameEng x a c :=
  ⟨h'.1.trans h.1, h'.2.1.trans h.2.1, h'.2.2.trans h.2.2⟩

/-- A phase that is saturated: its window is marked; it counts and is raised when it becomes so. -/
def saturated (x : Nat) (was : Bool) (s : State) : State :=
  ((s.setEng x { s.eng x with satWin := true }).count F.CUR_SAT_COUNT_COUNT).when (!was) fun s => s.raise 134

theorem setSaturated_false (x : Nat) : s.setSaturated x false = s.setIbit F.CUR_STATUS_SAT x false := by
  unfold setSaturated
  exact if_neg Bool.false_ne_true

theorem setSaturated_true (x : Nat) :
    s.setSaturated x true = (s.setIbit F.CUR_STATUS_SAT x true).saturated x (s.ibit F.CUR_STATUS_SAT x) := by
  unfold setSaturated saturated
  exact if_pos rfl

theorem kept_saturated (x : Nat) (was : Bool) : Kept [Reg.CUR_SAT_COUNT] [.engine, .router] s (s.saturated x was) := by
  have counted : Kept [Reg.CUR_SAT_COUNT] [.engine, .router] s
    ((s.setEng x { s.eng x with satWin := true }).count F.CUR_SAT_COUNT_COUNT) := (kept_setEng ..).mono.count
  exact counted.when fun h => h.raise (num := 134)

theorem sameEng_saturated (x : Nat) (was : Bool) : SameEng x s (s.saturated x was) := by
  obtain ⟨y, hy⟩ : ∃ y, y = s.setEng x { s.eng x with satWin := true } := ⟨_, rfl⟩
  have noted : SameEng x s y := by rw [hy, SameEng, eng_setEng_same]; exact ⟨rfl, rfl, rfl⟩
  have counted : SameEng x y (y.count F.CUR_SAT_COUNT_COUNT) := .of_kept (regs := [Reg.CUR_SAT_COUNT]) (parts := []) Kept.rfl.count (elapsed_set ..)
  rw [saturated, ← hy]
  cases was
  · rw [Bool.not_false, when_true]
    exact noted.trans (counted.trans (.of_kept (regs := []) (parts := [.router]) (Kept.rfl.raise (num := 134)) (elapsed_raise ..)))
  · rw [Bool.not_true, when_false]
    exact noted.trans counted

theorem kept_setSaturated (x : Nat) (sat : Bool) : Kept [Reg.CUR_STATUS, Reg.CUR_SAT_COUNT] [.engine, .router] s (s.setSaturated x sat) := by
  have marked : Kept [Reg.CUR_STATUS, Reg.CUR_SAT_COUNT] [.engine, .router] s (s.setIbit F.CUR_STATUS_SAT x sat) := Kept.rfl.setIbit
  cases sat
  · rwa [setSaturated_false]
  · rw [setSaturated_true]
    exact marked.trans ((kept_saturated ..).mono)

theorem sameEng_setSaturated (x : Nat) (sat : Bool) : SameEng x s (s.setSaturated x sat) := by
  have marked : SameEng x s (s.setIbit F.CUR_STATUS_SAT x sat) := .of_kept (regs := [Reg.CUR_STATUS]) (parts := []) Kept.rfl.setIbit rfl
  cases sat
  · rwa [setSaturated_false]
  · rw [setSaturated_true]
    exact marked.trans (sameEng_saturated ..)

/-- The registers a decision of a phase may write. -/
def decisionRegs (x : Nat) : List Nat := [Reg.CUR_STATUS, Reg.CUR_SAT_COUNT, Reg.CUR_ERR x]

/-- A decision for act time `ta` has been made between two states: one request of the phase is handed to casting (R284 to R286). -/
def Decided (x ta : Nat) (a b : State) : Prop :=
  (b.eng x).fast = (a.eng x).fast ∧ (b.eng x).lastTa = some ta ∧
    (∃ r, b.cast = { a.cast with requests := a.cast.requests ++ [r] } ∧ r.phase = x ∧ r.ta = ta ∧ r.stamp = a.datum ∧ r.at_ = a.elapsed) ∧
    Kept (decisionRegs x) [.engine, .cast, .router] a b

/-- A request handed over after steps that leave casting and the time as they are. -/
theorem decided_request {x ta : Nat} {a y z : State} {r : Request} (hz : z = a.setEng x { a.eng x with lastTa := some ta })
    (same : SameEng x z y) (kept : Kept (decisionRegs x) [.engine, .router] z y) (phase : r.phase = x) (act : r.ta = ta)
    (stamp : r.stamp = y.datum) (at_ : r.at_ = y.elapsed) : Decided x ta a (y.request r) := by
  have noted : Kept [] [.engine] a z := hz ▸ kept_setEng ..
  have own : z.eng x = { a.eng x with lastTa := some ta } := by rw [hz, eng_setEng_same]
  have all : Kept (decisionRegs x) [.engine, .router] a y := (noted.mono (List.nil_subset _)).trans kept
  refine ⟨?_, ?_, ⟨r, ?_, phase, act, ?_, ?_⟩, ?_⟩
  · exact same.2.1.trans (by rw [own])
  · exact same.2.2.trans (by rw [own])
  · have cast : y.cast = a.cast := all.2 .cast (by decide)
    rw [request, cast]
  · exact stamp.trans (all.2 .datum (by decide))
  · exact at_.trans (same.1.trans (by rw [hz]; rfl))
  · exact (all.mono (by simp)).cast

theorem decided_decideAt (x ta : Nat) (base : Option (Nat × Rat)) (u d : Rat) (rx : Nat → Rat) : Decided x ta s (s.decideAt x ta base u d rx) := by
  unfold decideAt
  extract_lets own z band
  have hz : z = s.setEng x { s.eng x with lastTa := some ta } := rfl
  clear_value z band
  clear own
  cases base with
  | none =>
    dsimp only
    refine decided_request hz (sameEng_setSaturated z x false) ((kept_setSaturated z x false).mono (by simp [decisionRegs])) rfl rfl ?_ ?_
    · exact ((kept_setSaturated z x false).2 .datum (by decide)).symm
    · exact (sameEng_setSaturated z x false).1.symm
  | some b =>
    dsimp -zeta only
    extract_lets p err slope want k y e
    have same : SameEng x z y := sameEng_setSaturated ..
    have kept : Kept (decisionRegs x) [.engine, .router] z y := (kept_setSaturated z x _).mono (by simp [decisionRegs])
    clear_value y k
    have shown : Kept (decisionRegs x) [] y e := Kept.rfl.setSat (by simp [decisionRegs])
    have time : e.elapsed = y.elapsed := elapsed_setSat ..
    clear_value e
    exact decided_request hz (same.trans (.of_kept shown time)) (kept.trans (shown.mono (List.Subset.refl _))) rfl rfl rfl rfl

/-- The act time of a fast decision made now (R290, R292). -/
def fastActTime (s : State) : Nat := max (s.datum + s.pipeline true + s.cueLead) (s.actBase (s.frameFrom (s.datum + 200)))

theorem fastActTime_of_kept {regs : List Nat} {parts : List Part} {a b : State} (h : Kept regs parts a b) (hc : Reg.WING_CTRL ∉ regs := by decide)
    (hd : Reg.WING_DELTA ∉ regs := by decide) (hp : .datum ∉ parts := by decide) : b.fastActTime = a.fastActTime := by
  have period : b.get F.WING_CTRL_PERIOD = a.get F.WING_CTRL_PERIOD := h.get hc
  have delta : b.get F.WING_DELTA_DELTA = a.get F.WING_DELTA_DELTA := h.get hd
  have datum : b.datum = a.datum := h.2 .datum hp
  simp only [fastActTime, pipeline, cueLead, actBase, frameFrom, frameTime, framePeriod, period, delta, datum]

/-- What an accepted fast request comes to once it is counted: a decision from its own crossing (R289). -/
def fastTaken (x : Nat) (q : FastReq) (s : State) : State :=
  let ta := s.fastActTime
  let e := s.eng x
  let v := s.convert q.input q.value
  if q.input < 3 then s.decideOrSkip x ta e.base e.u e.d (fun y => if y = x then v - s.vModel q.tc x else s.rx y)
  else if q.input < 6 then
    let o := match e.past with
      | some past => s.outerStep x past v
      | none => e
    s.decideOrSkip x ta e.base o.u o.d s.rx
  else s.decideOrSkip x ta (some (q.tc, v)) e.u e.d s.rx

theorem fastTaken_decides (x : Nat) (q : FastReq) : ∃ base u d rx, s.fastTaken x q = s.decideOrSkip x s.fastActTime base u d rx := by
  unfold fastTaken
  split_ifs
  · exact ⟨_, _, _, _, rfl⟩
  · exact ⟨_, _, _, _, rfl⟩
  · exact ⟨_, _, _, _, rfl⟩

/-- An act time not later than the latest one only counts (R292). -/
theorem decideOrSkip_late {x ta t0 : Nat} (last : (s.eng x).lastTa = some t0) (late : ta ≤ t0) (base : Option (Nat × Rat)) (u d : Rat)
    (rx : Nat → Rat) : s.decideOrSkip x ta base u d rx = s.count F.CUR_SKIP_COUNT := by
  unfold decideOrSkip
  simp only [last]
  exact if_pos (decide_eq_true late)

theorem decideOrSkip_on {x ta : Nat} (on : ∀ t0, (s.eng x).lastTa = some t0 → ¬ ta ≤ t0) (base : Option (Nat × Rat)) (u d : Rat)
    (rx : Nat → Rat) : s.decideOrSkip x ta base u d rx = s.decideAt x ta base u d rx := by
  unfold decideOrSkip
  cases last : (s.eng x).lastTa with
  | none => exact if_neg Bool.false_ne_true
  | some t0 => exact if_neg (by simpa using on t0 last)

/-- The request of a phase is no longer in hand. -/
def fastDropped (x : Nat) (s : State) : State := s.setEng x { s.eng x with fast := none }

theorem kept_fastDropped (x : Nat) : Kept [] [.engine] s (s.fastDropped x) := kept_setEng ..

theorem eng_fastDropped (x : Nat) : (s.fastDropped x).eng x = { s.eng x with fast := none } := eng_setEng_same ..

/-- A request taken for a decision counts (R291). -/
def fastCounted (x : Nat) (s : State) : State := (s.fastDropped x).count F.CUR_FAST_COUNT

theorem kept_fastCounted (x : Nat) : Kept [Reg.CUR_FAST] [.engine] s (s.fastCounted x) := ((kept_fastDropped s x).mono (List.nil_subset _)).count

theorem eng_fastCounted (x : Nat) : (s.fastCounted x).eng x = { s.eng x with fast := none } := by
  rw [← s.eng_fastDropped x]
  exact eng_of_kept (regs := [Reg.CUR_FAST]) (parts := []) Kept.rfl.count (by simp) x

theorem elapsed_fastCounted (x : Nat) : (s.fastCounted x).elapsed = s.elapsed := elapsed_set ..

theorem count_fastCounted (x : Nat) : (s.fastCounted x).get F.CUR_FAST_COUNT = min (s.get F.CUR_FAST_COUNT + 1) 0xFFFFFFFF :=
  get_count_same _ (by decide)

theorem not_mem_decisionRegs {x : Nat} (hx : x < 3) : Reg.CUR_FAST ∉ decisionRegs x ∧ Reg.CUR_SKIP ∉ decisionRegs x := by
  simp only [decisionRegs, Reg.CUR_FAST, Reg.CUR_SKIP, Reg.CUR_STATUS, Reg.CUR_SAT_COUNT, Reg.CUR_ERR, List.mem_cons, List.not_mem_nil, or_false]
  omega

/-! Bands (R287, R288) -/

/-- The band a phase's window ends with (R287, R288). -/
def newBand (s : State) (x : Nat) : Nat :=
  let f : Rat := ((s.eng x).granted : Rat) * 1000 / ((2 * (s.activeCells x).length * s.bandWin : Nat) : Rat)
  let r := max (7 / 8) (min (9 / 8) (f / s.bandTarget))
  max (s.get F.CUR_BAND_LIM_B_MIN) (min (s.get F.CUR_BAND_LIM_B_MAX)
    ((s.get (F.CUR_BAND_BAND x) : Rat) * r + 1 / 2).floor.toNat)

/-- A phase whose band a window's end adapts. -/
def Adapts (s : State) (bad : Bool) (x : Nat) : Prop :=
  bad = false ∧ s.bit F.CUR_CTRL_ADAPT_EN = true ∧ (s.activeCells x).length ≠ 0 ∧ (s.eng x).satWin = false ∧ s.ibit F.CUR_STATUS_SAT x = false

/-- A phase's window begins anew: its counts are 0 (R287). -/
def bandOpened (x : Nat) (s : State) : State := s.setEng x { s.eng x with granted := 0, satWin := false }

/-- A phase's band and its switching frequency as shown after a window; the band's reaching a limit is raised (R287, R288). -/
def bandShown (x band freq : Nat) (was inside : Bool) (s : State) : State :=
  let y := (s.set (F.CUR_BAND_BAND x) band).setTop (F.CUR_FSW_FSW x) freq
  (y.setEng x { y.eng x with inside := inside }).when (was && !inside) fun s => s.raise 132

theorem not_adapts_iff (bad : Bool) (x : Nat) : (bad || !s.bit F.CUR_CTRL_ADAPT_EN || decide ((s.activeCells x).length = 0) ||
    (s.eng x).satWin || s.ibit F.CUR_STATUS_SAT x) = true ↔ ¬ s.Adapts bad x := by
  rw [Adapts]
  cases bad <;> cases s.bit F.CUR_CTRL_ADAPT_EN <;> cases (s.eng x).satWin <;> cases s.ibit F.CUR_STATUS_SAT x <;> simp

theorem bandPhase_stays {bad : Bool} {x : Nat} (h : ¬ s.Adapts bad x) : s.bandPhase bad x = s.bandOpened x := by
  unfold bandPhase
  exact if_pos ((s.not_adapts_iff bad x).2 h)

theorem bandPhase_adapts {bad : Bool} {x : Nat} (h : s.Adapts bad x) :
    ∃ freq was inside, s.bandPhase bad x = (s.bandOpened x).bandShown x (s.newBand x) freq was inside := by
  unfold bandPhase
  exact ⟨_, _, _, if_neg fun stays => (s.not_adapts_iff bad x).1 stays h⟩

theorem kept_bandOpened (x : Nat) : Kept [] [.engine] s (s.bandOpened x) := kept_setEng ..

theorem kept_bandShown (x band freq : Nat) (was inside : Bool) :
    Kept [Reg.CUR_BAND x, Reg.CUR_FSW x] [.engine, .router] s (s.bandShown x band freq was inside) := by
  have shown : Kept [Reg.CUR_BAND x, Reg.CUR_FSW x] [.engine, .router] s ((s.set (F.CUR_BAND_BAND x) band).setTop (F.CUR_FSW_FSW x) freq) :=
    (Kept.rfl.set (by simp)).setTop (by simp)
  exact shown.mapEngine.when fun h => h.raise

/-- What a window's end reads of a phase. -/
def SamePhase (x : Nat) (a b : State) : Prop :=
  b.eng x = a.eng x ∧ b.get (F.CUR_BAND_BAND x) = a.get (F.CUR_BAND_BAND x) ∧ b.engine.bandWait = a.engine.bandWait

theorem SamePhase.trans {x : Nat} {a b c : State} (h : SamePhase x a b) (h' : SamePhase x b c) : SamePhase x a c :=
  ⟨h'.1.trans h.1, h'.2.1.trans h.2.1, h'.2.2.trans h.2.2⟩

theorem SamePhase.of_kept {regs : List Nat} {parts : List Part} {x : Nat} {a b : State} (h : Kept regs parts a b) (hr : Reg.CUR_BAND x ∉ regs)
    (hp : .engine ∉ parts := by decide) : SamePhase x a b :=
  ⟨eng_of_kept h hp x, h.get hr, by rw [(h.2 .engine hp : b.engine = a.engine)]⟩

theorem samePhase_setEng {x y : Nat} (h : x ≠ y) (e : Eng) : SamePhase x s (s.setEng y e) := ⟨eng_setEng_of_ne _ h e, rfl, rfl⟩

/-- What a window's end does with one phase leaves the other phases. -/
theorem samePhase_bandPhase {x y : Nat} (hx : x < 3) (hy : y < 3) (ne : x ≠ y) (bad : Bool) : SamePhase x s (s.bandPhase bad y) := by
  have opened : SamePhase x s (s.bandOpened y) := s.samePhase_setEng ne _
  by_cases h : s.Adapts bad y
  · obtain ⟨freq, was, inside, shown⟩ := s.bandPhase_adapts h
    rw [shown]
    refine opened.trans ?_
    generalize s.bandOpened y = z
    have own : Reg.CUR_BAND x ∉ [Reg.CUR_BAND y, Reg.CUR_FSW y] := by
      simp only [Reg.CUR_BAND, Reg.CUR_FSW, List.mem_cons, List.not_mem_nil, or_false]
      omega
    have fields : SamePhase x z ((z.set (F.CUR_BAND_BAND y) (s.newBand y)).setTop (F.CUR_FSW_FSW y) freq) :=
      .of_kept (regs := [Reg.CUR_BAND y, Reg.CUR_FSW y]) (parts := []) ((Kept.rfl.set (by simp)).setTop (by simp)) own
    unfold bandShown
    dsimp only
    generalize (z.set (F.CUR_BAND_BAND y) (s.newBand y)).setTop (F.CUR_FSW_FSW y) freq = w at fields ⊢
    have flagged := fields.trans (w.samePhase_setEng ne { w.eng y with inside := inside })
    generalize w.setEng y { w.eng y with inside := inside } = v at flagged ⊢
    cases was && !inside
    · exact flagged
    · exact flagged.trans (.of_kept (regs := []) (parts := [.router]) (Kept.rfl.raise (num := 132)) (by simp))
  · rwa [s.bandPhase_stays h]

/-- The registers a window's end may write. -/
def bandRegs : List Nat := (List.range 3).map Reg.CUR_BAND ++ (List.range 3).map Reg.CUR_FSW

theorem mem_bandRegs {x : Nat} (h : x < 3) : [Reg.CUR_BAND x, Reg.CUR_FSW x] ⊆ bandRegs := by
  simp only [bandRegs, List.cons_subset, List.mem_append, List.nil_subset, and_true]
  exact ⟨.inl (List.mem_map_of_mem (List.mem_range.2 h)), .inr (List.mem_map_of_mem (List.mem_range.2 h))⟩

theorem kept_bandPhase {x : Nat} (h : x < 3) (bad : Bool) : Kept bandRegs [.engine, .router] s (s.bandPhase bad x) := by
  have opened : Kept bandRegs [.engine, .router] s (s.bandOpened x) := (s.kept_bandOpened x).mono (List.nil_subset _)
  by_cases adapts : s.Adapts bad x
  · obtain ⟨freq, was, inside, shown⟩ := s.bandPhase_adapts adapts
    rw [shown]
    exact opened.trans ((kept_bandShown ..).mono (mem_bandRegs h))
  · rwa [s.bandPhase_stays adapts]

/-- The band a phase has after a window's end, and its granted count. -/
theorem band_bandPhase {x : Nat} {bad : Bool} (le : s.get F.CUR_BAND_LIM_B_MIN ≤ s.get F.CUR_BAND_LIM_B_MAX) :
    ((s.bandPhase bad x).eng x).granted = 0 ∧
      ((s.Adapts bad x ∧ (s.bandPhase bad x).get (F.CUR_BAND_BAND x) = s.newBand x) ∨
        (¬ s.Adapts bad x ∧ (s.bandPhase bad x).get (F.CUR_BAND_BAND x) = s.get (F.CUR_BAND_BAND x))) := by
  have opened : ((s.bandOpened x).eng x).granted = 0 := by rw [bandOpened, eng_setEng_same]
  by_cases adapts : s.Adapts bad x
  · obtain ⟨freq, was, inside, shown⟩ := s.bandPhase_adapts adapts
    have small : s.newBand x < 2 ^ 16 := by
      have hi : s.get F.CUR_BAND_LIM_B_MAX < 2 ^ 16 := s.get_lt _
      exact lt_of_le_of_lt (max_le le (min_le_left ..)) hi
    rw [shown]
    generalize s.bandOpened x = z at opened ⊢
    generalize s.newBand x = band at small ⊢
    have read : ((z.set (F.CUR_BAND_BAND x) band).setTop (F.CUR_FSW_FSW x) freq).get (F.CUR_BAND_BAND x) = band :=
      (get_set_apart _ (by simp [apart])).trans (get_set_of_lt _ (by simp) small)
    have own : ((z.set (F.CUR_BAND_BAND x) band).setTop (F.CUR_FSW_FSW x) freq).eng x = z.eng x :=
      eng_of_kept (regs := [Reg.CUR_BAND x, Reg.CUR_FSW x]) (parts := []) ((Kept.rfl.set (by simp)).setTop (by simp)) (by simp) x
    unfold bandShown
    dsimp only
    generalize (z.set (F.CUR_BAND_BAND x) band).setTop (F.CUR_FSW_FSW x) freq = w at read own ⊢
    have counted : ((w.setEng x { w.eng x with inside := inside }).eng x).granted = 0 := by rw [eng_setEng_same, own, opened]
    have still : (w.setEng x { w.eng x with inside := inside }).get (F.CUR_BAND_BAND x) = band := read
    generalize w.setEng x { w.eng x with inside := inside } = v at counted still ⊢
    refine ⟨?_, .inl ⟨adapts, ?_⟩⟩
    · rw [when_eq (fun y => (y.eng x).granted) _ (by rw [eng_of_kept (regs := []) (parts := [.router]) (Kept.rfl.raise (num := 132))]), counted]
    · rw [when_eq (fun y => y.get (F.CUR_BAND_BAND x)) _ ((Kept.rfl.raise : Kept [] [.router] v _).get (by simp)), still]
  · rw [s.bandPhase_stays adapts]
    exact ⟨opened, .inr ⟨adapts, rfl⟩⟩

theorem phaseCells_of_tables {a b : State} (h : b.tables = a.tables) (x : Nat) : b.phaseCells x = a.phaseCells x := by
  refine List.filter_congr fun c _ => ?_
  rw [present_of_tables h, cellPhase, cellPhase, ros8, ros8, tbl8_congr' h]

/-- Neither a phase's cells nor their states are of a window's end. -/
theorem activeCells_of_kept {regs : List Nat} {parts : List Part} {a b : State} (h : Kept regs parts a b) (x : Nat)
    (hc : ∀ c, c < 128 → Reg.CAST_CELL c ∉ regs) (hp : .tables ∉ parts := by decide) : b.activeCells x = a.activeCells x := by
  rw [activeCells, activeCells, phaseCells_of_tables (h.2 .tables hp)]
  refine List.filter_congr fun c mem => ?_
  have state : b.cState c = a.cState c := h.get (hc c (List.mem_range.1 (List.mem_of_mem_filter mem)))
  rw [isActive, isActive, state]

theorem castCell_not_mem_bandRegs {c : Nat} (h : c < 128) : Reg.CAST_CELL c ∉ bandRegs := by
  simp only [bandRegs, List.mem_append, List.mem_map, List.mem_range, Reg.CAST_CELL, Reg.CUR_BAND, Reg.CUR_FSW]
  rintro (⟨x, hx, e⟩ | ⟨x, hx, e⟩)
  · omega
  · omega

/-- Each phase's part of a window's end starts from what the window had of that phase. -/
theorem newBand_of_same {x : Nat} {a b : State} (h : SamePhase x a b) (kept : Kept bandRegs [.engine, .router] a b) : b.newBand x = a.newBand x := by
  obtain ⟨own, band, wait⟩ := h
  have cfg : b.bandCfg = a.bandCfg := by rw [bandCfg, bandCfg, wait, kept.reg]
  have cells : b.activeCells x = a.activeCells x := activeCells_of_kept kept x fun _ => castCell_not_mem_bandRegs
  have lo : b.get F.CUR_BAND_LIM_B_MIN = a.get F.CUR_BAND_LIM_B_MIN := kept.get
  have hi : b.get F.CUR_BAND_LIM_B_MAX = a.get F.CUR_BAND_LIM_B_MAX := kept.get
  simp only [newBand, own, band, bandWin, bandTarget, cfg, cells, lo, hi]

theorem adapts_of_same {bad : Bool} {x : Nat} {a b : State} (h : SamePhase x a b) (kept : Kept bandRegs [.engine, .router] a b) :
    b.Adapts bad x ↔ a.Adapts bad x := by
  have cells : b.activeCells x = a.activeCells x := activeCells_of_kept kept x fun _ => castCell_not_mem_bandRegs
  have on : b.bit F.CUR_CTRL_ADAPT_EN = a.bit F.CUR_CTRL_ADAPT_EN := kept.bit
  have sat : b.ibit F.CUR_STATUS_SAT x = a.ibit F.CUR_STATUS_SAT x := kept.ibit
  rw [Adapts, Adapts, h.1, cells, on, sat]

/-- The bands of all three phases at a window's end. -/
def bandsEnded (bad : Bool) (s : State) : State := s.each (List.range 3) (bandPhase bad)

theorem kept_bandsEnded (bad : Bool) : Kept bandRegs [.engine, .router] s (s.bandsEnded bad) :=
  Kept.rfl.each fun _ hx y h => h.trans (y.kept_bandPhase (List.mem_range.1 hx) bad)

/-- Around a phase's own part of a window's end, the other phases' parts leave it as it is. -/
theorem bandsEnded_of_phase (bad : Bool) {x : Nat} (hx : x < 3) : ∃ y, SamePhase x s y ∧ Kept bandRegs [.engine, .router] s y ∧
    SamePhase x (y.bandPhase bad x) (s.bandsEnded bad) := by
  have refl (y : State) : SamePhase x y y := ⟨rfl, rfl, rfl⟩
  have other (y : State) {i : Nat} (hi : i < 3) (ne : x ≠ i) : SamePhase x y (y.bandPhase bad i) := y.samePhase_bandPhase hx hi ne bad
  have kept (y : State) {i : Nat} (hi : i < 3) : Kept bandRegs [.engine, .router] y (y.bandPhase bad i) := y.kept_bandPhase hi bad
  have unrolled : s.bandsEnded bad = ((s.bandPhase bad 0).bandPhase bad 1).bandPhase bad 2 := rfl
  rw [unrolled]
  obtain rfl | rfl | rfl : x = 0 ∨ x = 1 ∨ x = 2 := by omega
  · exact ⟨s, refl s, Kept.rfl, (other _ (by decide) (by decide)).trans (other _ (by decide) (by decide))⟩
  · exact ⟨_, other s (i := 0) (by decide) (by decide), kept s (by decide), other _ (by decide) (by decide)⟩
  · exact ⟨_, (other s (i := 0) (by decide) (by decide)).trans (other _ (i := 1) (by decide) (by decide)),
      (kept s (by decide)).trans (kept _ (by decide)), refl _⟩

theorem band_bandsEnded {x : Nat} {bad : Bool} (hx : x < 3) (le : s.get F.CUR_BAND_LIM_B_MIN ≤ s.get F.CUR_BAND_LIM_B_MAX) :
    ((s.bandsEnded bad).eng x).granted = 0 ∧
      ((s.Adapts bad x ∧ (s.bandsEnded bad).get (F.CUR_BAND_BAND x) = s.newBand x) ∨
        (¬ s.Adapts bad x ∧ (s.bandsEnded bad).get (F.CUR_BAND_BAND x) = s.get (F.CUR_BAND_BAND x))) := by
  obtain ⟨y, before, kept, own, band, -⟩ := s.bandsEnded_of_phase bad hx
  have lo : y.get F.CUR_BAND_LIM_B_MIN = s.get F.CUR_BAND_LIM_B_MIN := kept.get
  have hi : y.get F.CUR_BAND_LIM_B_MAX = s.get F.CUR_BAND_LIM_B_MAX := kept.get
  have ends := y.band_bandPhase (x := x) (bad := bad) (by rwa [lo, hi])
  rwa [own, band, ← newBand_of_same before kept, ← adapts_of_same before kept, ← before.2.1]

/-- The next window begins where the last one ended (R287). -/
def windowBegun (win : Nat) (s : State) : State :=
  s.mapEngine fun g => { g with winStart := g.winStart + win, winBad := !s.engaged || s.ceased, bandWait := none }

theorem kept_windowBegun (win : Nat) : Kept [] [.engine] s (s.windowBegun win) := Kept.rfl.mapEngine

theorem eng_windowBegun (win x : Nat) : (s.windowBegun win).eng x = s.eng x := by
  rw [eng, eng]
  rfl

theorem winStart_bandPhase (bad : Bool) (x : Nat) : (s.bandPhase bad x).engine.winStart = s.engine.winStart := by
  by_cases adapts : s.Adapts bad x
  · obtain ⟨freq, was, inside, shown⟩ := s.bandPhase_adapts adapts
    rw [shown]
    exact when_eq (fun y => y.engine.winStart) _ (congrArg Engine.winStart (engine_raise ..))
  · rw [s.bandPhase_stays adapts]
    rfl

theorem winStart_bandsEnded (bad : Bool) : (s.bandsEnded bad).engine.winStart = s.engine.winStart :=
  each_induction (fun y => y.engine.winStart = s.engine.winStart) rfl fun x y h => (winStart_bandPhase y bad x).trans h

end State

/-- Settles O20: a fast request comes to a decision or to a count only (R292); of a window's end each phase's part is its own (R287). -/
theorem fastDecisionsAndBands : Obligations.FastDecisionsAndBands := by
  refine ⟨?decided, ?dropped, ?bands⟩
  case decided =>
    intro s t x q a
    have now : s.advance t = a := rfl
    clear_value a
    intro ta waits reached free decides
    obtain ⟨z, hz⟩ : ∃ z, a.fastCounted x = z := ⟨_, rfl⟩
    have kept : Kept [Reg.CUR_FAST] [.engine] a z := hz ▸ a.kept_fastCounted x
    have own : z.eng x = { a.eng x with fast := none } := hz ▸ a.eng_fastCounted x
    have time : z.elapsed = a.elapsed := hz ▸ a.elapsed_fastCounted x
    have counted : z.get F.CUR_FAST_COUNT = min (a.get F.CUR_FAST_COUNT + 1) 0xFFFFFFFF := hz ▸ a.count_fastCounted x
    have act : z.fastActTime = ta := State.fastActTime_of_kept kept
    obtain ⟨base, u, d, rx, taken⟩ := z.fastTaken_decides x q
    rw [act] at taken
    have dec : (a.fastDropped x).deciding = true := decides
    refine completes_at (x := z.fastTaken x q) (exec_fastDecision ..) now ?_ ?_
    · simp only [waits]
      rw [← hz]
      exact (if_neg (by simp [free, reached])).trans (if_neg (by rw [State.fastDropped] at dec; simp [dec]))
    rw [taken]
    by_cases late : ∃ t0, (a.eng x).lastTa = some t0 ∧ ta ≤ t0
    · obtain ⟨t0, last, le⟩ := late
      have skipped := z.decideOrSkip_late (x := x) (by rw [own]; exact last) le base u d rx
      have same : Kept [Reg.CUR_SKIP] [] z (z.count F.CUR_SKIP_COUNT) := Kept.rfl.count
      have skips : (z.count F.CUR_SKIP_COUNT).get F.CUR_SKIP_COUNT = min (a.get F.CUR_SKIP_COUNT + 1) 0xFFFFFFFF := by
        rw [State.get_count_same _ (by decide), (kept.get : z.get F.CUR_SKIP_COUNT = _)]
        rfl
      rw [skipped]
      generalize z.count F.CUR_SKIP_COUNT = y at same skips ⊢
      have all : Kept [Reg.CUR_FAST, Reg.CUR_SKIP] [.engine] a y := (kept.mono (by simp) (by simp)).trans (same.mono (by simp) (by simp))
      have fast : (y.eng x).fast = none := by rw [State.eng_of_kept same (by simp) x, own]
      have once : y.get F.CUR_FAST_COUNT = min (a.get F.CUR_FAST_COUNT + 1) 0xFFFFFFFF := (same.get (by decide)).trans counted
      have cast : y.cast = a.cast := all.2 .cast (by decide)
      refine ⟨?_, ?_, ?_, (all.mono (by simp) (by simp)).settled now⟩
      · rw [State.eng_settle]
        exact fast
      · rw [State.get_settle]
        exact once
      · rw [if_pos ⟨t0, last, le⟩, State.get_settle, State.cast_settle]
        exact ⟨skips, cast⟩
    · have on : ∀ t0, (z.eng x).lastTa = some t0 → ¬ ta ≤ t0 := by
        rw [own]
        exact fun t0 last le => late ⟨t0, last, le⟩
      have decided := z.decided_decideAt x ta base u d rx
      rw [z.decideOrSkip_on on]
      generalize z.decideAt x ta base u d rx = y at decided ⊢
      obtain ⟨fast, last, ⟨r, cast, phase, ra, stamp, at_⟩, same⟩ := decided
      refine ⟨?_, ?_, ?_, ?_⟩
      · rw [State.eng_settle, fast, own]
      · exact (State.get_settle ..).trans ((same.get (State.not_mem_decisionRegs x.isLt).1).trans counted)
      · rw [if_neg late]
        rw [State.eng_settle, State.cast_settle]
        refine ⟨last, ?_, r, ?_, phase, ra, stamp.trans (kept.2 .datum (by decide)), at_.trans time⟩
        · exact (State.reg_settle ..).trans ((same.reg (State.not_mem_decisionRegs x.isLt).2).trans kept.reg)
        · exact cast.trans (by rw [(kept.2 .cast (by decide) : z.cast = a.cast)])
      · exact (((kept.mono (by simp) (by simp)).trans (same.mono (by simp [State.decisionRegs]) (by simp)))).settled now
  case dropped =>
    intro s t x q a
    have now : s.advance t = a := rfl
    clear_value a
    intro waits reached free decides
    have dec : (a.fastDropped x).deciding = false := decides
    refine completes_at (x := a.fastDropped x) (exec_fastDecision ..) now ?_ ⟨?_, (a.kept_fastDropped x).settled now⟩
    · simp only [waits]
      exact (if_neg (by simp [free, reached])).trans (if_pos (by rw [State.fastDropped] at dec; simp [dec]))
    · rw [State.eng_settle, State.eng_fastDropped]
  case bands =>
    intro s t a
    have now : s.advance t = a := rfl
    clear_value a
    intro win lo hi ended free le
    obtain ⟨bad, hbad⟩ : ∃ bad, bad = (a.engine.winBad || !a.engaged || a.ceased) := ⟨_, rfl⟩
    have kept := a.kept_bandsEnded bad
    have band (x : Nat) (hx : x < 3) := a.band_bandsEnded (bad := bad) hx le
    have start := a.winStart_bandsEnded bad
    have effect : (if a.expired a.engine.winStart win && !a.tableau then (a.bandsEnded bad).windowBegun win else a) =
        (a.bandsEnded bad).windowBegun win := if_pos (by simp [(a.expired_iff ..).2 ended, free])
    obtain ⟨y, hy⟩ : ∃ y, a.bandsEnded bad = y := ⟨_, rfl⟩
    refine completes_at (x := y.windowBegun win) (exec_bandUpdate ..) now ?_ ?_
    · rw [← hy]
      exact hbad ▸ effect
    rw [hy] at kept band start
    have begun : Kept [] [.engine] y (y.windowBegun win) := y.kept_windowBegun win
    refine ⟨?_, fun x hx => ⟨?_, ?_⟩, ?_⟩
    · rw [State.engine_settle]
      exact congrArg (· + win) start
    · rw [State.eng_settle, State.eng_windowBegun]
      exact (band x hx).1
    · refine (State.get_settle ..).trans ((begun.get (List.not_mem_nil)).trans ?_)
      obtain ⟨-, ⟨adapts, shown⟩ | ⟨stays, shown⟩⟩ := band x hx
      · obtain ⟨good, rest⟩ := adapts
        rw [hbad, Bool.or_eq_false_iff, Bool.or_eq_false_iff, Bool.not_eq_false'] at good
        obtain ⟨⟨whole, engaged⟩, holds⟩ := good
        exact shown.trans (if_pos ⟨whole, engaged, holds, rest⟩).symm
      · refine shown.trans (if_neg ?_).symm
        rintro ⟨whole, engaged, holds, rest⟩
        exact stays ⟨by rw [hbad, whole, engaged, holds]; rfl, rest⟩
    · exact (kept.trans (begun.mono (List.nil_subset _))).settled now

end Sys2Proof.Machine

/-! PROOFS. Casting requests (spec/07 R322, R720) and the trace of their decisions (spec/13 R570, R571). -/

namespace Sys2Proof.Machine

set_option Elab.async false

/-- The number of events on their way in the state that a command answers. -/
def eventsAfter : Host.Outcome State Fault Refusal → Nat
  | .next b => b.router.inflight.length
  | .fault _ => 0
  | .refused _ => 0

/-- A request of phase A for one level up. -/
def oneLevel : Request := { phase := 0, ta := 10000, k := 1, iHat := 0 }

/-- The reset state with a request in hand, the decisions of all phases traced, ring 5 disabled, and no entry dropped since one was written. -/
def tracedRequest : State :=
  { State.reset.set F.HOST_TRACE_CTRL_DEC_EN 1 with
    cast := { State.reset.cast with requests := [oneLevel] }
    host := { State.reset.host with traceArmed := true } }

/-- Refutes O22: a request answered with no level is a decision that is traced; where its entry is the first that ring 5 does not take, TRACE_LOST
is raised (R571), but the statement has no event on its way. -/
theorem not_castingRequestsServed : ¬ Obligations.CastingRequestsServed := by
  rintro ⟨-, unanswered, -⟩
  obtain ⟨b, run, -, -, -, -, parts⟩ := unanswered tracedRequest 0 oneLevel (by decide +kernel) (by decide +kernel) (by decide)
    (by decide +kernel) (by decide +kernel)
  have stated : b.router = (tracedRequest.advance 0).router := parts .router (by decide)
  have events : eventsAfter (exec (.castingRequest 0) tracedRequest) = (tracedRequest.advance 0).router.inflight.length + 1 := by decide +kernel
  rw [run, eventsAfter, stated] at events
  exact absurd events (Nat.ne_of_lt (Nat.lt_succ_self _))

end Sys2Proof.Machine

/-! PROOFS. The chips of the active check (spec/05 R254 to R261). -/

namespace Sys2Proof.Machine

set_option Elab.async false

/-- The registers that the end of a chip may write. -/
def chipRegs : List Nat := [Reg.GRID_ISL, Reg.GRID_STATUS, Reg.GRID_VERDICT, Reg.GRID_ISL_COUNT, Reg.SCRUB_FAULT_SEEN]

/-- The parts that the end of a chip may change. -/
abbrev chipParts : List Part := [.grid, .router, .curt, .free]

namespace State

variable (s : State)

/-- The verdict ISLAND counts in its own counter only (R264). -/
theorem kept_island : Kept chipRegs chipParts s (s.verdict 2 0) := by
  rw [verdict_eq]
  refine Kept.rfl.ite ?_
  obtain ⟨x, hx⟩ : ∃ x, s.verdictSet 2 0 = x := ⟨_, rfl⟩
  have set : Kept chipRegs chipParts s x := by
    rw [← hx]
    have set : Kept chipRegs chipParts s
        ((s.when (decide (2 < 2) && bitsOf s.verdictBits 0 2 == 0) fun s => s.set F.GRID_VERDICT_CAUSE 0).setBit ⟨Reg.GRID_VERDICT, 2, 1⟩ true) :=
      (Kept.rfl.when fun h => h.set).setBit (by decide)
    unfold verdictSet
    dsimp only
    rw [if_neg (Nat.lt_irrefl 2)]
    exact set.count.raiseFault.curt
  rw [hx]
  exact set.trans (x.kept_judgePermit.mono)

/-- What judging a chip leaves of a state: of the grid's part only the run changes, and SOLO stays. -/
def ChipJudged (a b : State) : Prop :=
  Kept chipRegs chipParts a b ∧ (∃ run, b.grid = { a.grid with run := run }) ∧ b.bit F.GRID_STATUS_SOLO = a.bit F.GRID_STATUS_SOLO

theorem ChipJudged.trans {a b c : State} (h : ChipJudged a b) (h' : ChipJudged b c) : ChipJudged a c := by
  obtain ⟨kept, ⟨run, grid⟩, solo⟩ := h
  obtain ⟨kept', ⟨run', grid'⟩, solo'⟩ := h'
  exact ⟨kept.trans kept', ⟨run', by rw [grid', grid]⟩, solo'.trans solo⟩

theorem ChipJudged.rfl {a : State} : ChipJudged a a := ⟨Kept.rfl, ⟨_, Eq.refl _⟩, Eq.refl _⟩

theorem chipJudged_verdict : ChipJudged s (s.verdict 2 0) := by
  refine ⟨s.kept_island, ⟨s.grid.run, (s.kept_verdict 2 0).2 .grid (by decide)⟩, ?_⟩
  rw [bit, bit, s.get_verdict_status (f := F.GRID_STATUS_SOLO) (by decide) (by decide)]

/-- The run begins anew. -/
def runCleared (s : State) : State := s.mapGrid fun g => { g with run := [] }

theorem chipJudged_runCleared : ChipJudged s s.runCleared := ⟨Kept.rfl.mapGrid, ⟨_, rfl⟩, rfl⟩

theorem chipJudged_judgeRun : ChipJudged s s.judgeRun := by
  unfold judgeRun
  extract_lets run n z y trip margin clear
  have shown : ChipJudged s y := ⟨Kept.rfl.nextFree.setTop, ⟨_, rfl⟩, bit_set_apart _ (by decide)⟩
  have cleared : ChipJudged y (clear y) := y.chipJudged_runCleared
  clear_value y clear
  split_ifs
  · exact shown.trans y.chipJudged_verdict
  · exact shown.trans cleared
  · exact shown.trans y.chipJudged_verdict
  · exact shown.trans cleared
  · exact shown
  · exact ChipJudged.rfl

theorem chipJudged_addChip : ChipJudged s s.addChip := by
  unfold addChip
  extract_lets ph z c
  split
  · exact ChipJudged.rfl
  · exact ChipJudged.trans (b := s.nextFree.mapGrid fun g => { g with run := g.run ++ [c] }) ⟨Kept.rfl.nextFree.mapGrid, ⟨_, rfl⟩, rfl⟩
      (chipJudged_judgeRun _)

/-! A sequence start, and the next chip -/

/-- SOLO as R260 defines it. -/
def soloNow (s : State) : Bool := !s.bit F.DATUM_STATUS_DOMAIN_OK || (s.bit F.DATUM_MER_CTRL_ROLE && !s.grid.sigRx)

theorem soloNow_iff : s.soloNow = true ↔
    s.bit F.DATUM_STATUS_DOMAIN_OK = false ∨ (s.bit F.DATUM_MER_CTRL_ROLE = true ∧ s.grid.sigRx = false) := by
  simp [soloNow]

theorem judgeSolo_eq : s.judgeSolo =
    (s.setBit F.GRID_STATUS_SOLO s.soloNow).when (s.soloNow && !s.bit F.GRID_STATUS_SOLO) fun s => s.raise 122 := rfl

theorem kept_judgeSolo : Kept [Reg.GRID_STATUS] [.router] s s.judgeSolo := by
  obtain ⟨y, hy⟩ : ∃ y, s.setBit F.GRID_STATUS_SOLO s.soloNow = y := ⟨_, rfl⟩
  have set : Kept [Reg.GRID_STATUS] [.router] s y := hy ▸ Kept.rfl.setBit
  rw [judgeSolo_eq, hy]
  exact set.when fun h => h.raise

theorem solo_judgeSolo : s.judgeSolo.bit F.GRID_STATUS_SOLO = s.soloNow := by
  obtain ⟨y, hy⟩ : ∃ y, s.setBit F.GRID_STATUS_SOLO s.soloNow = y := ⟨_, rfl⟩
  have set : y.bit F.GRID_STATUS_SOLO = s.soloNow := hy ▸ bit_setBit_same _ (by decide) rfl
  have raised : (y.raise 122).bit F.GRID_STATUS_SOLO = y.bit F.GRID_STATUS_SOLO := bit_raise_apart _ (by decide)
  rw [judgeSolo_eq, hy, when_eq (fun y => y.bit F.GRID_STATUS_SOLO) _ raised, set]

theorem raised_judgeSolo (was : s.bit F.GRID_STATUS_SOLO = false) (solo : s.soloNow = true) :
    ({ stamp := s.datum, num := 122, inst := 0 } : Event) ∈ s.judgeSolo.router.inflight := by
  rw [judgeSolo_eq, was, solo, Bool.not_false, Bool.and_true, when_true, router_raise]
  exact List.mem_append_right _ (List.mem_singleton.2 rfl)

/-- The next chip begins (R261). -/
def chipBegun (s : State) : State := s.mapGrid fun g => { g with demod := [], missPhase := [], chipWhole := g.injecting }

/-- The place of the chip that begins and the length of the run, shown. -/
def chipShown (s : State) : State := (s.set F.GRID_ISL_CHIPS s.grid.run.length).set F.GRID_ISL_INDEX (s.datum / chipLength % 255)

theorem kept_chipShown : Kept [Reg.GRID_ISL] [] s s.chipShown := Kept.rfl.set.set

theorem index_chipShown : s.chipShown.get F.GRID_ISL_INDEX = s.datum / chipLength % 255 :=
  get_set_of_lt _ (by decide) (lt_trans (Nat.mod_lt _ (by decide)) (by decide))

theorem chips_chipShown : s.chipShown.get F.GRID_ISL_CHIPS = s.grid.run.length % 256 := by
  obtain ⟨y, hy⟩ : ∃ y, s.set F.GRID_ISL_CHIPS s.grid.run.length = y := ⟨_, rfl⟩
  have shown : y.get F.GRID_ISL_CHIPS = s.grid.run.length % 256 := by
    rw [← hy]
    exact get_set_same _ (by decide)
  rw [chipShown, hy, get_set_apart _ (by decide), shown]

theorem own_applyParam {p : SigParam} {x : Nat} (next : s.grid.next = some (p, x)) (due : x ≤ s.datum) : s.applyParam.grid.own = p := by
  unfold applyParam mapGrid
  dsimp only
  rw [next]
  exact if_pos due

theorem tabSig_applyParam {p : SigParam} {x : Nat} (next : s.grid.tabNext = some (p, x)) (due : x ≤ s.datum) : s.applyParam.grid.tabSig = p := by
  unfold applyParam mapGrid
  dsimp only
  rw [next]
  exact if_pos due

/-- What a sequence start and the parameters due make of a state in which the chip has been judged. -/
def sequenced (s : State) : State := (s.when (s.datum % sequenceLength == 0) judgeSolo).applyParam

theorem kept_sequenced : Kept [Reg.GRID_STATUS] [.grid, .router] s s.sequenced := by
  have judged : Kept [Reg.GRID_STATUS] [.grid, .router] s (s.when (s.datum % sequenceLength == 0) judgeSolo) :=
    Kept.rfl.when fun h => h.trans (s.kept_judgeSolo.mono)
  exact judged.mapGrid

end State

theorem execChipEnd_eq (t : Nat) (s : State) : execChipEnd t s = s.run t fun s =>
    if s.datum % chipLength ≠ 0 || s.tableau then s else s.addChip.chipShown.sequenced.chipBegun := rfl

/-- Settles O19: the chip that ends is judged first and changes of the grid's part the run only; SOLO and the parameters follow. -/
theorem chipsAndSequences : Obligations.ChipsAndSequences := by
  intro s t a
  have now : s.advance t = a := rfl
  clear_value a
  intro chip free
  obtain ⟨x, hx⟩ : ∃ x, a.addChip = x := ⟨_, rfl⟩
  obtain ⟨judged, ⟨run, grid⟩, solo⟩ : State.ChipJudged a x := hx ▸ a.chipJudged_addChip
  have datum : x.datum = a.datum := judged.2 .datum (by decide)
  obtain ⟨y, hy⟩ : ∃ y, x.chipShown = y := ⟨_, rfl⟩
  have shown : Kept [Reg.GRID_ISL] [] x y := hy ▸ x.kept_chipShown
  have index : y.get F.GRID_ISL_INDEX = a.datum / chipLength % 255 := by rw [← hy, x.index_chipShown, datum]
  have chips : y.get F.GRID_ISL_CHIPS = x.grid.run.length % 256 := hy ▸ x.chips_chipShown
  have gridY : y.grid = x.grid := shown.2 .grid (by decide)
  have datumY : y.datum = a.datum := (shown.2 .datum (by decide)).trans datum
  obtain ⟨z, hz⟩ : ∃ z, y.when (y.datum % sequenceLength == 0) State.judgeSolo = z := ⟨_, rfl⟩
  have started : Kept [Reg.GRID_STATUS] [.router] y z := hz ▸ Kept.rfl.when fun h => h.trans y.kept_judgeSolo
  have gridZ : z.grid = x.grid := (started.2 .grid (by decide)).trans gridY
  have datumZ : z.datum = a.datum := (started.2 .datum (by decide)).trans datumY
  have soloY : y.bit F.GRID_STATUS_SOLO = a.bit F.GRID_STATUS_SOLO := shown.bit.trans solo
  have soloNow : y.soloNow = a.soloNow := by
    have ok : y.bit F.DATUM_STATUS_DOMAIN_OK = a.bit F.DATUM_STATUS_DOMAIN_OK := shown.bit.trans judged.bit
    have role : y.bit F.DATUM_MER_CTRL_ROLE = a.bit F.DATUM_MER_CTRL_ROLE := shown.bit.trans judged.bit
    rw [State.soloNow, State.soloNow, ok, role, gridY, grid]
  have applied : Kept [] [.grid] z z.applyParam.chipBegun := Kept.rfl.mapGrid.mapGrid
  have all : Kept chipRegs chipParts a z.applyParam.chipBegun :=
    ((judged.trans shown.mono).trans started.mono).trans (applied.mono)
  refine completes_at (x := z.applyParam.chipBegun) ((exec_chipEnd ..).trans (execChipEnd_eq ..)) now ?_ ?_
  · rw [if_neg (by simp [chip, free]), hx, hy, ← hz]
    rfl
  refine ⟨?_, ?_, rfl, rfl, ?_, ?_, ?_, fun first => ⟨?_, ?_⟩, ?_, all.settled now⟩
  · rw [State.get_settle, applied.get, started.get, index]
  · rw [State.get_settle, applied.get, started.get, chips, State.grid_settle]
    exact congrArg (·.run.length % 256) gridZ.symm
  · rw [State.grid_settle]
    have same : z.grid.injecting = a.grid.injecting := by rw [gridZ, grid]
    exact same
  · intro p u next due
    rw [State.grid_settle]
    have same : z.grid.next = some (p, u) := by rw [gridZ, grid]; exact next
    exact z.own_applyParam same (by rwa [datumZ])
  · intro p u next due
    rw [State.grid_settle]
    have same : z.grid.tabNext = some (p, u) := by rw [gridZ, grid]; exact next
    exact z.tabSig_applyParam same (by rwa [datumZ])
  · rw [State.bit_settle, applied.bit, ← a.soloNow_iff, ← soloNow, ← y.solo_judgeSolo, ← hz, datumY, first]
    rfl
  · intro was solo'
    rw [State.bit_settle, applied.bit, ← hz, datumY, first] at solo'
    have raised := y.raised_judgeSolo (soloY.trans was) (y.solo_judgeSolo.symm.trans solo')
    rw [State.router_settle, (applied.2 .router (by decide) : _ = z.router), ← hz, datumY, first]
    rwa [datumY] at raised
  · intro other
    rw [State.bit_settle, applied.bit, ← hz, datumY, beq_eq_false_iff_ne.2 other, State.when_false, soloY]

end Sys2Proof.Machine

/-! PROOFS. The release of events (spec/02 R718, spec/14 R577) and a step of datum time (spec/02 R50, R53): what they leave alone. -/

namespace Sys2Proof.Machine

set_option Elab.async false

/-- The registers that released events may change. -/
abbrev routeRegs : List Nat := Reg.IRQ_SP_DROP :: blockRegs 0x0C00 0x400

theorem mem_routeRegs {r : Nat} (h : 0x0C00 ≤ r ∧ r % 4 = 0 ∧ r < 0x1000 := by decide) : r ∈ routeRegs :=
  List.mem_cons_of_mem _ (mem_blockRegs ⟨h.1, h.2.1, by omega⟩)

/-- What the processing of released events leaves of a state: it holds no event, ends no command, and adds events on their way only. -/
structure Routed (a b : State) : Prop where
  kept : Kept routeRegs [.router, .host] a b
  held : b.router.held = a.router.held
  dispatched : b.host.dispatched = a.host.dispatched
  time : b.elapsed = a.elapsed
  raises : State.Reports a b

namespace Routed

variable {a b c : State}

theorem rfl' : Routed a a := ⟨Kept.rfl, rfl, rfl, rfl, ⟨[], (List.append_nil _).symm⟩⟩

theorem trans (h : Routed a b) (h' : Routed b c) : Routed a c :=
  ⟨h.kept.trans h'.kept, h'.held.trans h.held, h'.dispatched.trans h.dispatched, h'.time.trans h.time, h.raises.trans h'.raises⟩

theorem when {f : State → State} {p : Bool} (h : Routed a b) (hf : Routed b (f b)) : Routed a (b.when p f) := by
  cases p with
  | false => exact h
  | true => exact h.trans hf

/-- Registers written. -/
theorem regs (h : Routed a b) (k : Kept routeRegs [] b c) (time : c.elapsed = b.elapsed) : Routed a c := by
  have router : c.router = b.router := k.2 .router (by decide)
  have host : c.host = b.host := k.2 .host (by decide)
  exact h.trans ⟨k.mono (List.Subset.refl _) (by decide), by rw [router], by rw [host], time, ⟨[], by rw [router, List.append_nil]⟩⟩

/-- The router changed in what is neither held nor on its way. -/
theorem router (h : Routed a b) {r : Router} (held : r.held = b.router.held) (inflight : r.inflight = b.router.inflight) :
    Routed a { b with router := r } :=
  h.trans ⟨Kept.rfl.router, held, rfl, rfl, ⟨[], by rw [List.append_nil]; exact inflight⟩⟩

/-- The host interface changed in what is not the commands dispatched. -/
theorem host (h : Routed a b) {x : HostIf} (dispatched : x.dispatched = b.host.dispatched) : Routed a { b with host := x } :=
  h.trans ⟨Kept.rfl.host, rfl, dispatched, rfl, ⟨[], (List.append_nil _).symm⟩⟩

theorem raise (h : Routed a b) (num inst : Nat) (unclassed : faultClass num inst = none) : Routed a (b.raise num inst) := by
  refine h.trans ⟨Kept.rfl.raise (unclassed := unclassed), ?_, ?_, State.elapsed_raise .., ⟨[{ stamp := b.datum, num := num, inst := inst }], ?_⟩⟩
  · rw [State.router_raise]
  · rw [State.host_raise]
  · rw [State.router_raise]

end Routed

namespace State

variable (s : State)

theorem routed_foundFull : Routed s (s.foundFull 2) := by
  unfold foundFull
  split
  · refine Routed.raise (Routed.host Routed.rfl' ?_) 3 2 rfl
    rfl
  · exact Routed.rfl'

/-- The record of an event staged for ring 2. -/
def recorded (e : Event) (s : State) : State :=
  let x := s.stage { ring := 2, body := recordBytes e (s.get F.EVENT_REC_SEQ_SEQ) s.router.dropped, stamp := e.stamp, late := e.late, cmd := none
                     status := 0 }
  { x with router := { x.router with dropped := 0 } }

/-- The record of an event dropped. -/
def unrecorded (s : State) : State :=
  let x := ((s.foundFull 2).count F.EVENT_REC_DROP_COUNT).setBit F.EVENT_STATUS_REC_LOST true
  { x with router := { x.router with dropped := min 0xFFFFFFFF (x.router.dropped + 1) } }

theorem record_eq (e : Event) : s.record e = if s.ringRoom 2 then (s.recorded e).countWrap F.EVENT_REC_SEQ_SEQ else s.unrecorded := rfl

theorem routed_recorded (e : Event) : Routed s (s.recorded e) := by
  unfold recorded
  extract_lets x
  have staged : Routed s x := Routed.host Routed.rfl' rfl
  clear_value x
  exact staged.router rfl rfl

theorem routed_dropped (n : Nat) : Routed s { s with router := { s.router with dropped := n } } := Routed.rfl'.router rfl rfl

theorem routed_unrecorded : Routed s s.unrecorded := by
  have found := s.routed_foundFull
  unfold unrecorded
  generalize s.foundFull 2 = y at found ⊢
  have counted : Routed y (y.count F.EVENT_REC_DROP_COUNT) := Routed.rfl'.regs (Kept.rfl.count mem_routeRegs) (elapsed_set ..)
  generalize y.count F.EVENT_REC_DROP_COUNT = z at counted ⊢
  have lost : Routed z (z.setBit F.EVENT_STATUS_REC_LOST true) := Routed.rfl'.regs (Kept.rfl.setBit mem_routeRegs) (elapsed_setBit ..)
  generalize z.setBit F.EVENT_STATUS_REC_LOST true = w at lost ⊢
  exact ((found.trans counted).trans lost).trans (w.routed_dropped _)

theorem routed_record (e : Event) : Routed s (s.record e) := by
  rw [record_eq]
  split
  · exact (s.routed_recorded e).regs (Kept.rfl.countWrap (mem_routeRegs)) (elapsed_set ..)
  · exact s.routed_unrecorded

theorem routed_setVec (v : Nat) (x : Vec) : Routed s (s.setVec v x) := Routed.rfl'.router rfl rfl

theorem routed_judge (v : Nat) : Routed s (s.judge v) := by
  obtain same | ⟨x, set⟩ := s.judge_cases v
  · rw [same]
    exact Routed.rfl'
  · rw [set]
    exact s.routed_setVec v x

theorem routed_addCause (n : Nat) : Routed s (s.addCause n) := by
  unfold addCause
  extract_lets tgt y v src w
  have counted : Routed s y := Routed.rfl'.router rfl rfl
  have started : Routed s w := by
    unfold w
    split
    · exact counted.trans (routed_setVec ..)
    · exact counted
  clear_value y w
  split
  · split
    · exact counted
    · exact started.trans (routed_judge ..)
  · exact counted

theorem routed_spPut (e : Event) : Routed s (s.spPut e) := by
  unfold spPut
  split
  · exact Routed.rfl'
  · split
    · exact Routed.rfl'.router rfl rfl
    · have counted : Routed s (s.count F.IRQ_SP_DROP_COUNT) := Routed.rfl'.regs (Kept.rfl.count (List.mem_cons_self ..)) (elapsed_set ..)
      generalize s.count F.IRQ_SP_DROP_COUNT = y at counted ⊢
      exact counted.raise 9 0 rfl

theorem routed_setSink (k : Nat) (x : Sink) : Routed s (s.setSink k x) := Routed.rfl'.router rfl rfl

theorem routed_sinkClose (k at_ : Nat) : Routed s (s.sinkClose k at_) := by
  unfold sinkClose
  dsimp only
  split
  · exact Routed.rfl'
  · split
    · have closed := s.routed_setSink k { s.sink k with window := none, seen := [] }
      generalize s.setSink k { s.sink k with window := none, seen := [] } = y at closed ⊢
      exact closed.regs (Kept.rfl.count (mem_routeRegs)) (elapsed_set ..)
    · exact Routed.rfl'

theorem sinkCount_mem_routeRegs {k : Nat} (small : k < 64) : (F.EVENT_SINK_COUNT_COUNT k).addr ∈ routeRegs :=
  mem_routeRegs (r := 0x0E00 + 4 * k) (by omega)

theorem routed_sinkOutput {k : Nat} (small : k < 64) : Routed s (s.sinkOutput k) := by
  have count : Routed s (s.countWrap (F.EVENT_SINK_COUNT_COUNT k)) :=
    Routed.rfl'.regs (Kept.rfl.countWrap (sinkCount_mem_routeRegs small)) (elapsed_set ..)
  unfold sinkOutput
  generalize s.countWrap (F.EVENT_SINK_COUNT_COUNT k) = y at count ⊢
  dsimp only
  split
  · exact count.router rfl rfl
  · exact count

theorem routed_present1 (e : Event) {k : Nat} (small : k < 64) (sa : State × List Event) : Routed sa.1 (present1 e k sa).1 := by
  unfold present1
  split
  · exact Routed.rfl'
  · extract_lets y r z
    have closed : Routed sa.1 z := (sa.1.routed_sinkClose k e.stamp).router rfl rfl
    clear_value z
    split
    · exact closed.trans (z.routed_sinkOutput small)
    · exact closed

/-- The sinks in turn. -/
theorem routed_presented (e : Event) {l : List Nat} (small : ∀ k ∈ l, k < 64) (sa : State × List Event) :
    Routed sa.1 (l.foldl (fun sa k => present1 e k sa) sa).1 := by
  induction l generalizing sa with
  | nil => exact Routed.rfl'
  | cons k l ih =>
    exact (routed_present1 e (small k (List.mem_cons_self ..)) sa).trans (ih (fun j hj => small j (List.mem_cons_of_mem _ hj)) _)

theorem routed_processEvent (fuel : Nat) (e : Event) : Routed s (processEvent fuel e s) := by
  induction fuel generalizing e s with
  | zero => exact Routed.rfl'
  | succ fuel ih =>
    have each (l : List Event) (x : State) : Routed x (l.foldl (fun s c => processEvent fuel c s) x) := by
      induction l generalizing x with
      | nil => exact Routed.rfl'
      | cons c l ih' => exact (ih x c).trans (ih' _)
    unfold processEvent
    extract_lets x y z r
    have recorded : Routed s x := Routed.rfl'.when (routed_record ..)
    have caused : Routed s y := recorded.trans (routed_addCause ..)
    have queued : Routed s z := caused.when (routed_spPut ..)
    have presented : Routed s r.1 := queued.trans (routed_presented e (fun k hk => List.mem_range.1 hk) (z, []))
    exact presented.trans (each r.2 r.1)

theorem routed_release (e : Event) : Routed s (s.release e) := routed_processEvent ..

theorem routed_each_release (l : List Event) : Routed s (s.each l release) := by
  induction l generalizing s with
  | nil => exact Routed.rfl'
  | cons e l ih => exact (s.routed_release e).trans (ih _)

/-- The router emptied for a step of datum time: none held, what is on its way will be LATE. -/
def flushed (s : State) : State :=
  { s with router := { s.router with held := [], inflight := s.router.inflight.map fun (e : Event) => { e with late := true } } }

theorem flushRouter_eq : s.flushRouter = s.flushed.each (sortEvents s.router.held) release := rfl

theorem kept_flushed : Kept routeRegs [.router, .host] s s.flushed := Kept.rfl.router

theorem routed_flushRouter : Routed s.flushed s.flushRouter := by
  rw [flushRouter_eq]
  exact routed_each_release ..

/-! A step of datum time (R50, R53) -/

/-- The registers that a step of datum time may change. -/
abbrev stepRegs : List Nat := Reg.DATUM_STATUS :: (routeRegs ++ lateRegs ++ meterRegs)

/-- The parts that a step of datum time may change. -/
abbrev stepParts : List Part := [.router, .host, .datum, .disc, .mer, .wing, .cast, .pwr, .conv, .engine, .grid, .meter, .ghost]

theorem kept_checksWait : Kept [] [.cast] s s.checksWait := Kept.rfl.each fun _ _ _ h => h.trans (kept_setCastCell ..)

theorem kept_freezeMissed : Kept lateRegs [.wing, .cast, .pwr] s s.freezeMissed := by
  unfold freezeMissed
  extract_lets k
  split
  · exact (s.freezeFrame_spec k).1
  · exact Kept.rfl

theorem kept_frameRestart (old : Nat) : Kept lateRegs [.wing, .cast, .pwr] s (s.frameRestart old) := by
  unfold frameRestart
  extract_lets
  refine Kept.trans (Kept.trans (Kept.rfl.mapWing : Kept lateRegs [.wing, .cast, .pwr] s _) (kept_checksWait _).mono) (kept_freezeMissed _)

theorem kept_convCast (x : Conv) (y : Cast) : Kept [] [.conv, .cast] s { s with conv := x, cast := y } :=
  Kept.trans (b := { s with conv := x }) Kept.rfl.conv Kept.rfl.cast

theorem kept_rebase (old : Nat) : Kept [] [.conv, .cast, .engine, .grid] s (s.rebase old) := by
  unfold rebase
  extract_lets conv cast y z w
  have emptied : Kept [] [.conv, .cast, .engine, .grid] s y := (s.kept_convCast _ _).mono
  clear_value y
  have afresh : Kept [] [.conv, .cast, .engine, .grid] s z := emptied.each fun _ _ _ h => h.trans ((kept_setEng ..).mono)
  clear_value z
  exact afresh.mapEngine.mapGrid

theorem closing_closeForStep (old : Nat) : Closing s (s.closeForStep old) := by
  unfold closeForStep
  split
  · exact Closing.rfl'
  · split
    · exact Closing.rfl'.meter rfl
    · dsimp only
      refine Closing.when ((s.closing_finishStep).meter rfl) ?_
      exact closing_finishStep _

/-- Datum time takes its new value, and an acceptance window open at the step is given up. -/
def timeTaken (new : Nat) (s : State) : State := { s with datum := new, disc := { s.disc with accepted := none, judged := new } }

theorem kept_timeTaken (new : Nat) : Kept [] [.datum, .disc] s (s.timeTaken new) :=
  Kept.trans (b := { s with datum := new }) Kept.rfl.datum Kept.rfl.disc

/-- No slot of the new time has left yet. -/
def slotForgotten (s : State) : State := { s with mer := { s.mer with lastSlot := none } }

/-- A step's router, its new time and its event. -/
def stepTold (new : Nat) (s : State) : State := (((s.flushRouter.timeTaken new).setBit F.DATUM_STATUS_STEPPED true).raise 36).slotForgotten

theorem stepDatum_eq (new : Nat) : s.stepDatum new = (((s.stepTold new).frameRestart s.datum).rebase s.datum).closeForStep s.datum := rfl

end State

/-- A step of datum time to `new` has been made between two states. -/
structure Stepped (new : Nat) (a b : State) : Prop where
  kept : Kept State.stepRegs State.stepParts a b
  datum : b.datum = new
  disc : b.discState = a.discState
  discPart : b.disc = { a.disc with accepted := none, judged := new }
  stepped : b.bit F.DATUM_STATUS_STEPPED = true
  held : b.router.held = []
  told : ({ stamp := new, num := 36, inst := 0 } : Event) ∈ b.router.inflight
  dispatched : b.host.dispatched = a.host.dispatched
  mer : b.mer = { a.mer with lastSlot := none }

namespace State

variable (s : State)

theorem routeRegs_subset : routeRegs ⊆ stepRegs := fun _ h => List.mem_cons_of_mem _ (List.mem_append_left _ (List.mem_append_left _ h))

theorem lateRegs_subset : lateRegs ⊆ stepRegs := fun _ h => List.mem_cons_of_mem _ (List.mem_append_left _ (List.mem_append_right _ h))

theorem meterRegs_subset : meterRegs ⊆ stepRegs := fun _ h => List.mem_cons_of_mem _ (List.mem_append_right _ h)

/-- A step is told with its first time: nothing is held any more. -/
theorem stepped_stepTold (new : Nat) : Stepped new s (s.stepTold new) := by
  have routed := s.routed_flushRouter
  have flushed := s.kept_flushed
  obtain ⟨y, hy⟩ : ∃ y, s.flushRouter = y := ⟨_, rfl⟩
  rw [hy] at routed
  rw [stepTold, hy]
  have kept : Kept routeRegs [.router, .host] s y := flushed.trans routed.kept
  have discY : y.disc = s.disc := kept.2 .disc (by decide)
  have merY : y.mer = s.mer := kept.2 .mer (by decide)
  obtain ⟨z, hz⟩ : ∃ z, y.timeTaken new = z := ⟨_, rfl⟩
  have taken : Kept [] [.datum, .disc] y z := hz ▸ y.kept_timeTaken new
  have datumZ : z.datum = new := hz ▸ rfl
  have discZ : z.disc = { y.disc with accepted := none, judged := new } := hz ▸ rfl
  obtain ⟨w, hw⟩ : ∃ w, z.setBit F.DATUM_STATUS_STEPPED true = w := ⟨_, rfl⟩
  have marked : Kept [Reg.DATUM_STATUS] [] z w := hw ▸ Kept.rfl.setBit
  have stepped : w.bit F.DATUM_STATUS_STEPPED = true := hw ▸ bit_setBit_same _ (by decide) rfl
  have discW : w.discState = z.discState := hw ▸ get_setBit_apart _ (by decide)
  obtain ⟨v, hv⟩ : ∃ v, w.raise 36 = v := ⟨_, rfl⟩
  have told : Kept [] [.router] w v := hv ▸ Kept.rfl.raise
  have routerV : v.router = { w.router with inflight := w.router.inflight ++ [{ stamp := w.datum, num := 36, inst := 0 }] } := hv ▸ router_raise ..
  have forgotten : Kept [] [.mer] v v.slotForgotten := Kept.rfl.mer
  rw [hz, hw, hv]
  have routerW : w.router = y.router := (marked.2 .router (by decide)).trans (taken.2 .router (by decide))
  have datumW : w.datum = new := (marked.2 .datum (by decide)).trans datumZ
  refine ⟨?_, ?_, ?_, ?_, ?_, ?_, ?_, ?_, ?_⟩
  · exact ((((kept.mono routeRegs_subset (by decide)).trans (taken.mono (List.nil_subset _) (by decide))).trans
      (marked.mono (by simp) (by decide))).trans (told.mono (List.nil_subset _) (by decide))).trans (forgotten.mono (List.nil_subset _) (by decide))
  · exact (told.2 .datum (by decide) : v.datum = _).trans datumW
  · have state : v.discState = w.discState := told.get
    exact state.trans (discW.trans ((taken.get : z.discState = y.discState).trans kept.get))
  · have disc : v.slotForgotten.disc = z.disc := (told.2 .disc (by decide) : v.disc = _).trans (marked.2 .disc (by decide))
    rw [disc, discZ, discY]
  · exact (told.bit : v.bit F.DATUM_STATUS_STEPPED = _).trans stepped
  · have same : v.slotForgotten.router.held = v.router.held := rfl
    rw [same, routerV, routerW]
    exact routed.held
  · have same : v.slotForgotten.router.inflight = v.router.inflight := rfl
    rw [same, routerV, datumW]
    exact List.mem_append_right _ (List.mem_singleton.2 rfl)
  · have host : v.slotForgotten.host = y.host :=
      (told.2 .host (by decide) : v.host = _).trans ((marked.2 .host (by decide) : w.host = _).trans (taken.2 .host (by decide)))
    rw [host]
    exact routed.dispatched
  · have mer : v.mer = s.mer :=
      (told.2 .mer (by decide) : v.mer = _).trans ((marked.2 .mer (by decide) : w.mer = _).trans ((taken.2 .mer (by decide) : z.mer = _).trans merY))
    rw [← mer]
    rfl

theorem discState_not_mem : Reg.DATUM_STATUS ∉ lateRegs ∧ Reg.DATUM_STATUS ∉ meterRegs := by
  refine ⟨by decide, fun mem => ?_⟩
  rcases List.mem_cons.1 mem with eq | block
  · exact absurd eq (by decide)
  · obtain ⟨i, -, eq⟩ := List.mem_map.1 block
    have : (0x4000 : Nat) + 4 * i = Reg.DATUM_STATUS := eq
    simp only [Reg.DATUM_STATUS] at this
    omega

theorem stepped_stepDatum (new : Nat) : Stepped new s (s.stepDatum new) := by
  have told := s.stepped_stepTold new
  obtain ⟨notLate, notMeter⟩ := discState_not_mem
  rw [stepDatum_eq]
  generalize s.stepTold new = y at told ⊢
  have frames := y.kept_frameRestart s.datum
  generalize y.frameRestart s.datum = z at frames ⊢
  have based := z.kept_rebase s.datum
  generalize z.rebase s.datum = w at based ⊢
  have closing := w.closing_closeForStep s.datum
  generalize w.closeForStep s.datum = v at closing ⊢
  obtain ⟨l, router⟩ := closing.raises
  have routerW : w.router = y.router := (based.2 .router (by decide)).trans (frames.2 .router (by decide))
  refine ⟨?_, ?_, ?_, ?_, ?_, ?_, ?_, ?_, ?_⟩
  · exact ((told.kept.trans (frames.mono lateRegs_subset (by decide))).trans (based.mono (List.nil_subset _) (by decide))).trans
      (closing.kept.mono meterRegs_subset (by decide))
  · exact (closing.kept.2 .datum (by decide) : v.datum = w.datum).trans
      ((based.2 .datum (by decide) : w.datum = z.datum).trans ((frames.2 .datum (by decide) : z.datum = y.datum).trans told.datum))
  · exact (closing.kept.get notMeter : v.discState = w.discState).trans
      ((based.get : w.discState = z.discState).trans ((frames.get notLate : z.discState = y.discState).trans told.disc))
  · exact (closing.kept.2 .disc (by decide) : v.disc = w.disc).trans
      ((based.2 .disc (by decide) : w.disc = z.disc).trans ((frames.2 .disc (by decide) : z.disc = y.disc).trans told.discPart))
  · exact (closing.kept.bit notMeter).trans ((based.bit).trans ((frames.bit notLate).trans told.stepped))
  · rw [router, routerW]
    exact told.held
  · rw [router, routerW]
    exact List.mem_append_left _ told.told
  · have host : v.host = y.host := (closing.kept.2 .host (by decide) : v.host = w.host).trans
      ((based.2 .host (by decide) : w.host = z.host).trans (frames.2 .host (by decide)))
    rw [host]
    exact told.dispatched
  · exact (closing.kept.2 .mer (by decide) : v.mer = w.mer).trans
      ((based.2 .mer (by decide) : w.mer = z.mer).trans ((frames.2 .mer (by decide) : z.mer = y.mer).trans told.mer))

end State

end Sys2Proof.Machine

/-! PROOFS. DATUM_SET (spec/02 R48 to R50). -/

namespace Sys2Proof.Machine

set_option Elab.async false

namespace State

variable (s : State)

theorem dispatched_stageDone (d : Desc) (status detail time : Nat) : (s.stageDone d status detail time).host.dispatched = s.host.dispatched := by
  unfold stageDone
  split
  · rfl
  · rfl

/-- A command done is dispatched no more. -/
theorem dispatched_finish (d : Desc) : (s.finish d).host.dispatched = s.host.dispatched.erase d := by
  unfold finish complete
  split
  next => exact dispatched_stageDone ..
  next out => exact (List.erase_of_not_mem (by simpa using out)).symm

/-- Where ring 1 is enabled, the completion of a command dispatched is the entry staged last. -/
theorem staged_finish {d : Desc} (mem : d ∈ s.host.dispatched) (on : s.bit (F.HOST_RING_CFG_EN 1) = true) :
    (s.finish d).host.staged.getLast? = some ⟨1, completionBytes d.tag.toNat st.done 0 s.datum, s.datum, false, some d, st.done⟩ := by
  obtain ⟨y, hy⟩ : ∃ y, { s with host := { s.host with dispatched := s.host.dispatched.erase d } } = y := ⟨_, rfl⟩
  have still : y.bit (F.HOST_RING_CFG_EN 1) = true := hy ▸ on
  unfold finish complete
  rw [if_pos (by simpa using mem), hy, stageDone, if_pos still]
  exact List.getLast?_concat

/-- The time a DATUM_SET sets (R48). -/
def setTime (s : State) (d : Desc) : Int :=
  if d.target.toNat == 1 then (s.datum : Int) + signed 64 (d.p0.toNat + 2 ^ 32 * d.p1.toNat) else (d.p0.toNat + 2 ^ 32 * d.p1.toNat : Nat)

/-- The checks of R49. -/
def setChecks (s : State) (d : Desc) : List (Bool × Nat × Nat) :=
  let v := d.p0.toNat + 2 ^ 32 * d.p1.toNat
  let rel := d.target.toNat == 1
  let off := signed 64 v
  let new := s.setTime d
  [(1 < d.target.toNat, st.targetRange, 0),
   (d.len ≠ 0, st.lenRange, 0),
   (v % 2 = 1, st.targetRange, 0x10),
   (!s.curtainDown, st.stateRefused, 1),
   (s.follower, st.stateRefused, 2),
   (!rel && s.discState == 2, st.stateRefused, 3),
   (rel && s.discState == 2 && off % second ≠ 0, st.stateRefused, 4),
   (rel && (new < 0 || 2 ^ 64 ≤ new), st.targetRange, 0x20)]

end State

theorem execDatumSet_eq (t : Nat) (d : Desc) (s : State) : execDatumSet t d s = s.run t fun s =>
    s.checked d (s.setChecks d) fun x => ((x.stepDatum (s.setTime d).toNat).set F.DATUM_STATUS_ORIGIN 2).finish d := rfl

theorem setChecks_pass {a : State} {d : Desc} (target : d.target.toNat ≤ 1) (len : d.len = 0)
    (even : (d.p0.toNat + 2 ^ 32 * d.p1.toNat) % 2 = 0) (down : a.curtainDown = true) (master : a.follower = false)
    (free : ¬ d.target.toNat = 1 → a.discState ≠ 2)
    (whole : d.target.toNat = 1 → a.discState = 2 → signed 64 (d.p0.toNat + 2 ^ 32 * d.p1.toNat) % second = 0)
    (inside : d.target.toNat = 1 → 0 ≤ a.setTime d ∧ a.setTime d < 2 ^ 64) : firstFail (a.setChecks d) = none := by
  rw [firstFail_eq_none]
  intro c mem
  simp only [State.setChecks, List.mem_cons, List.not_mem_nil, or_false] at mem
  rcases mem with rfl | rfl | rfl | rfl | rfl | rfl | rfl | rfl
  · simpa using target
  · simpa using len
  · exact decide_eq_false (by omega)
  · simp [down]
  · exact master
  · by_cases rel : d.target.toNat = 1
    · simp [rel]
    · simpa [rel] using free rel
  · by_cases rel : d.target.toNat = 1
    · by_cases locked : a.discState = 2
      · have turn := whole rel locked
        simp only [turn, ne_eq, not_true_eq_false, decide_false, Bool.and_false]
      · simp [locked]
    · simp [rel]
  · by_cases rel : d.target.toNat = 1
    · obtain ⟨low, high⟩ := inside rel
      simp only [rel, beq_self_eq_true, Bool.true_and, Bool.or_eq_false_iff, decide_eq_false_iff_not, not_lt, not_le]
      exact ⟨low, high⟩
    · simp [rel]

/-- Whether ring 1 is enabled is not of a step. -/
theorem ring_not_mem_stepRegs : (F.HOST_RING_CFG_EN 1).addr ∉ State.stepRegs := by
  intro mem
  obtain ⟨notLate, notMeter⟩ : (F.HOST_RING_CFG_EN 1).addr ∉ State.lateRegs ∧ (F.HOST_RING_CFG_EN 1).addr ∉ meterRegs := by
    refine ⟨by decide, fun mem => ?_⟩
    rcases List.mem_cons.1 mem with eq | block
    · exact absurd eq (by decide)
    · obtain ⟨i, -, eq⟩ := List.mem_map.1 block
      have : (0x4000 : Nat) + 4 * i = 0x468 := eq
      omega
  rcases List.mem_cons.1 mem with eq | mem
  · exact absurd eq (by decide)
  rcases List.mem_append.1 mem with mem | meter
  · rcases List.mem_append.1 mem with route | late
    · rcases List.mem_cons.1 route with eq | block
      · exact absurd eq (by decide)
      · obtain ⟨i, -, eq⟩ := List.mem_map.1 block
        have : (0x0C00 : Nat) + 4 * i = 0x468 := eq
        omega
    · exact notLate late
  · exact notMeter meter

/-- Settles O3: a step of datum time leaves what the statement names as it is; ORIGIN and the command's end follow it. -/
theorem datumSetTakesTheNewTime : Obligations.DatumSetTakesTheNewTime := by
  refine ⟨?set, ?refused⟩
  case set =>
    intro s t d a
    have now : s.advance t = a := rfl
    clear_value a
    intro v off rel new target len even down master free whole inside
    have time : (a.setTime d).toNat = new := by
      by_cases moved : d.target.toNat = 1
      · simp only [State.setTime, new, rel, moved, beq_self_eq_true, if_true]
        rfl
      · simp only [State.setTime, new, rel, moved, if_false, beq_eq_false_iff_ne.2 moved, Bool.false_eq_true]
        exact Int.toNat_natCast _
    have pass : firstFail (a.setChecks d) = none := setChecks_pass target len even down master free whole fun moved => by
      have range := inside moved
      simpa only [State.setTime, moved, beq_self_eq_true, if_true] using range
    obtain ⟨x, hx⟩ : ∃ x, a.stepDatum new = x := ⟨_, rfl⟩
    have stepped : Stepped new a x := hx ▸ a.stepped_stepDatum new
    obtain ⟨y, hy⟩ : ∃ y, x.set F.DATUM_STATUS_ORIGIN 2 = y := ⟨_, rfl⟩
    have origin : Kept [Reg.DATUM_STATUS] [] x y := hy ▸ Kept.rfl.set
    have two : y.get F.DATUM_STATUS_ORIGIN = 2 := hy ▸ State.get_set_of_lt _ (by decide) (by decide)
    have disc : y.discState = x.discState := hy ▸ State.get_set_apart _ (by decide)
    have step : y.bit F.DATUM_STATUS_STEPPED = x.bit F.DATUM_STATUS_STEPPED := hy ▸ State.bit_set_apart _ (by decide)
    have done : Kept [] [.host] y (y.finish d) := Kept.rfl.finish
    have all : Kept State.stepRegs State.stepParts a (y.finish d) :=
      (stepped.kept.trans (origin.mono (by simp) (by decide))).trans (done.mono (List.nil_subset _) (by decide))
    have datum : y.datum = new := (origin.2 .datum (by decide) : y.datum = x.datum).trans stepped.datum
    have host : y.host = x.host := origin.2 .host (by decide)
    refine completes_at (x := y.finish d) ((exec_datumSet ..).trans (execDatumSet_eq ..)) now ?_ ?_
    · rw [State.checked_pass _ pass, time, hx, hy]
    refine ⟨?_, ?_, ?_, ?_, ?_, ?_, ?_, ?_, ?_, ?_, ?_, ?_, ?_, ?_⟩
    · rw [State.datum_settle]
      exact (done.2 .datum (by decide) : (y.finish d).datum = _).trans datum
    · rw [State.bit_settle, done.bit, step, stepped.stepped]
    · rw [State.get_settle, done.get, two]
    · exact (State.get_settle ..).trans (done.get.trans (disc.trans stepped.disc))
    · exact State.elapsed_settle ..
    · rw [State.router_settle, (done.2 .router (by decide) : (y.finish d).router = y.router), (origin.2 .router (by decide) : y.router = x.router)]
      exact stepped.told
    · rw [State.router_settle, (done.2 .router (by decide) : (y.finish d).router = y.router), (origin.2 .router (by decide) : y.router = x.router)]
      exact stepped.held
    · rw [State.host_settle, State.dispatched_finish, host, stepped.dispatched]
    · intro mem on
      rw [State.host_settle, ← datum]
      refine State.staged_finish _ ?_ ?_
      · rwa [host, stepped.dispatched]
      · exact (origin.bit).trans ((stepped.kept.bit ring_not_mem_stepRegs).trans on)
    · exact (all.settled now).2 .tables (by decide)
    · exact all.2 .guard (by decide)
    · exact all.2 .pump (by decide)
    · exact all.2 .curt (by decide)
    · exact all.2 .power (by decide)
  case refused =>
    intro s t d status detail a
    have now : s.advance t = a := rfl
    clear_value a
    intro v off rel fail
    have same : a.setChecks d = ([(1 < d.target.toNat, st.targetRange, 0), (d.len ≠ 0, st.lenRange, 0), (v % 2 = 1, st.targetRange, 0x10),
        (a.curtainDown = false, st.stateRefused, 1), (a.follower = true, st.stateRefused, 2),
        (¬rel ∧ a.discState = 2, st.stateRefused, 3), (rel ∧ a.discState = 2 ∧ off % second ≠ 0, st.stateRefused, 4),
        (rel ∧ ((a.datum : Int) + off < 0 ∨ 2 ^ 64 ≤ (a.datum : Int) + off), st.targetRange, 0x20)] : List (Bool × Nat × Nat)) := by
      have moved : rel → a.setTime d = (a.datum : Int) + off := fun moved => if_pos (beq_iff_eq.2 moved)
      have range : (d.target.toNat == 1 && (decide (a.setTime d < 0) || decide ((2 : Int) ^ 64 ≤ a.setTime d))) =
          decide (rel ∧ ((a.datum : Int) + off < 0 ∨ 2 ^ 64 ≤ (a.datum : Int) + off)) := by
        by_cases moves : rel
        · rw [moved moves]
          have one : d.target.toNat = 1 := moves
          simp only [one, moves, beq_self_eq_true, Bool.true_and, true_and, Bool.decide_or]
        · have one : (d.target.toNat == 1) = false := beq_eq_false_iff_ne.2 moves
          simp only [one, moves, Bool.false_and, false_and, decide_false]
      have up : (!a.curtainDown) = decide (a.curtainDown = false) := by simp
      have led : a.follower = decide (a.follower = true) := Bool.decide_eq_true.symm
      have locked : (!(d.target.toNat == 1) && a.discState == 2) = decide (¬ rel ∧ a.discState = 2) := by
        rw [Bool.eq_iff_iff]
        simp [rel]
      have part : ((d.target.toNat == 1) && a.discState == 2 && decide (off % second ≠ 0)) = decide (rel ∧ a.discState = 2 ∧ off % second ≠ 0) := by
        rw [Bool.eq_iff_iff]
        simp [rel, and_assoc]
      rw [← up, ← led, ← locked, ← part, ← range]
      rfl
    rw [← same] at fail
    exact completes_at (x := a.refuse d status detail) ((exec_datumSet ..).trans (execDatumSet_eq ..)) now (State.checked_fail _ fail _)
      ⟨Ended.refuse .., (State.kept_refuse ..).settled now⟩

end Sys2Proof.Machine

/-! PROOFS. Received slots of the meridian link (spec/02 R76 to R97): what a slot's time transfer and message leave alone of the link. -/

namespace Sys2Proof.Machine

set_option Elab.async false

/-- The link's run of valid slots, its latest instant, its echo and LINK_UP are the same in two states. -/
structure SameLink (a b : State) : Prop where
  run : b.mer.run = a.mer.run
  lastValid : b.mer.lastValid = a.mer.lastValid
  peer : b.mer.peer = a.mer.peer
  up : b.bit F.DATUM_MER_STATUS_LINK_UP = a.bit F.DATUM_MER_STATUS_LINK_UP

namespace SameLink

variable {a b c : State}

theorem rfl' : SameLink a a := ⟨rfl, rfl, rfl, rfl⟩

theorem trans (h : SameLink a b) (h' : SameLink b c) : SameLink a c :=
  ⟨h'.run.trans h.run, h'.lastValid.trans h.lastValid, h'.peer.trans h.peer, h'.up.trans h.up⟩

theorem of_kept {regs : List Nat} {parts : List Part} (h : Kept regs parts a b) (hr : Reg.DATUM_MER_STATUS ∉ regs := by decide)
    (hp : .mer ∉ parts := by decide) : SameLink a b := by
  have mer : b.mer = a.mer := h.2 .mer hp
  exact ⟨by rw [mer], by rw [mer], by rw [mer], h.bit hr⟩

/-- The link changed in what the run is not. -/
theorem mer {x : Meridian} (run : x.run = b.mer.run) (lastValid : x.lastValid = b.mer.lastValid) (peer : x.peer = b.mer.peer)
    (h : SameLink a b) : SameLink a { b with mer := x } := h.trans ⟨run, lastValid, peer, rfl⟩

theorem when {f : State → State} {p : Bool} (h : SameLink a b) (hf : SameLink b (f b)) : SameLink a (b.when p f) := by
  cases p with
  | false => exact h
  | true => exact h.trans hf

theorem ite {q : Prop} [Decidable q] {x y : State} (hx : SameLink a x) (hy : SameLink a y) : SameLink a (if q then x else y) := by
  split
  · exact hx
  · exact hy

/-- A field of DATUM_MER_STATUS beside LINK_UP written. -/
theorem set (h : SameLink a b) {f : FieldRef} {v : Nat} (hf : apart f F.DATUM_MER_STATUS_LINK_UP = true := by decide) :
    SameLink a (b.set f v) := by
  have mer : (b.set f v).mer = b.mer := State.mer_set ..
  exact h.trans ⟨by rw [mer], by rw [mer], by rw [mer], State.bit_set_apart _ hf⟩

end SameLink

namespace State

variable (s : State)

theorem sameLink_setDisc (v : Nat) : SameLink s (s.setDisc v) :=
  .of_kept (s.kept_setDisc v (regs := [Reg.DATUM_STATUS]) (parts := [.disc, .router]) (by decide) (by decide) (by decide))

theorem sameLink_setLockCount (n : Nat) : SameLink s (s.setLockCount n) :=
  .of_kept (regs := []) (parts := [.disc]) Kept.rfl.disc

theorem merStatus_not_mem_meterRegs : Reg.DATUM_MER_STATUS ∉ meterRegs := by
  intro mem
  rcases List.mem_cons.1 mem with eq | block
  · exact absurd eq (by decide)
  · obtain ⟨i, -, eq⟩ := List.mem_map.1 block
    have : (0x4000 : Nat) + 4 * i = Reg.DATUM_MER_STATUS := eq
    simp only [Reg.DATUM_MER_STATUS] at this
    omega

theorem merStatus_not_mem_stepRegs : Reg.DATUM_MER_STATUS ∉ stepRegs := by
  intro mem
  rcases List.mem_cons.1 mem with eq | mem
  · exact absurd eq (by decide)
  rcases List.mem_append.1 mem with mem | meter
  · rcases List.mem_append.1 mem with route | late
    · rcases List.mem_cons.1 route with eq | block
      · exact absurd eq (by decide)
      · obtain ⟨i, range, eq⟩ := List.mem_map.1 block
        have small : i < 0x100 := List.mem_range.1 range
        have high : (0x0C00 : Nat) + 4 * i = 0x1884 := eq
        omega
    · exact absurd late (by decide)
  · exact merStatus_not_mem_meterRegs meter

theorem sameLink_stepDatum (new : Nat) : SameLink s (s.stepDatum new) := by
  have stepped := s.stepped_stepDatum new
  exact ⟨by rw [stepped.mer], by rw [stepped.mer], by rw [stepped.mer], stepped.kept.bit merStatus_not_mem_stepRegs⟩

theorem sameLink_servoUpdate : SameLink s s.servoUpdate :=
  .of_kept (s.kept_servoUpdate (regs := [Reg.DATUM_FREQ_TRIM]) (parts := [.free]) (by decide) (by decide))

theorem sameLink_servoSlew (err8 : Int) : SameLink s (s.servoSlew err8) :=
  .of_kept (regs := [Reg.DATUM_FREQ_TRIM]) (parts := []) Kept.rfl.setInt

theorem sameLink_disc (x : Disc) : SameLink s { s with disc := x } := .of_kept (regs := []) (parts := [.disc]) Kept.rfl.disc

theorem sameLink_measure (err8 : Int) (pps : Bool) : SameLink s (s.measure err8 pps) := by
  have relock (v : Nat) (x : State) : SameLink x ((x.setLockCount 0).setDisc v) := (x.sameLink_setLockCount 0).trans (sameLink_setDisc ..)
  unfold measure
  extract_lets thresh need far y counted z src worse
  have steered : SameLink s y := .ite (s.sameLink_servoSlew _) s.sameLink_servoUpdate
  have tallied : SameLink s counted := steered.trans (y.sameLink_setLockCount _)
  have updated : SameLink s z := s.sameLink_servoUpdate
  have bad : SameLink s worse := updated.trans (z.sameLink_disc _)
  clear_value y counted z worse
  split
  case h_1 => exact relock ..
  case h_2 =>
    refine .ite ?_ (.ite (tallied.when (sameLink_setDisc ..)) (steered.trans (y.sameLink_setLockCount 0)))
    exact (s.sameLink_stepDatum _).trans (sameLink_setLockCount ..)
  case h_3 => exact .ite updated (.ite (bad.when (relock ..)) (updated.trans (z.sameLink_disc _)))
  case h_4 => exact relock ..

theorem sameLink_timeTransfer (b : MerSlot) (rx8 : Nat) : SameLink s (s.timeTransfer b rx8) := by
  unfold timeTransfer
  split
  next => exact .rfl'
  next own =>
    extract_lets t1 t2 t3 t4 delay offset y z w
    have shown : Kept [Reg.DATUM_MER_DELAY, Reg.DATUM_MER_OFFSET, Reg.DATUM_PHASE_ERR] [] s w := Kept.rfl.setInt.setInt.setInt
    clear_value w
    exact .ite ((SameLink.of_kept shown).trans (w.sameLink_measure ..)) .rfl'

/-! The message of a slot -/

theorem sameLink_complete (d : Desc) (status detail time : Nat) : SameLink s (s.complete d status detail time) :=
  .of_kept (regs := []) (parts := [.host]) Kept.rfl.complete

theorem sameLink_gotAck (b : MerSlot) (stamp : Nat) : SameLink s (s.gotAck b stamp) := by
  unfold gotAck
  split
  next => exact .rfl'
  next m =>
    extract_lets src y z
    have taken : SameLink s y := SameLink.rfl'.mer rfl rfl rfl
    clear_value y
    have counted : SameLink s z := taken.when
      (.of_kept (regs := [Reg.DATUM_MER_TRANSIENT, Reg.SCRUB_FAULT_SEEN]) (parts := []) Kept.rfl.transient)
    clear_value z
    exact counted.trans (sameLink_complete ..)

theorem sameLink_meterCfgChanged : SameLink s s.meterCfgChanged := by
  have metered := (s.metered_extend s.meterNow).kept
  unfold meterCfgChanged
  generalize s.extend s.meterNow = y at metered ⊢
  exact .of_kept (metered.meter : Kept meterRegs [.meter, .router] s _) merStatus_not_mem_meterRegs

theorem sameLink_gotSignature (payload : List Byte) : SameLink s (s.gotSignature payload) := by
  unfold gotSignature
  extract_lets b y ok
  have seen : Kept [Reg.GRID_SIG_MISS] [.grid] s y := Kept.rfl.mapGrid
  clear_value y
  exact .ite (.of_kept (seen.mapGrid.mapGrid : Kept [Reg.GRID_SIG_MISS] [.grid] s _)) (.of_kept seen.count)

/-- The registers of the receive box's entries. -/
abbrev boxRegs : List Nat := blockRegs 0x1900 0x200

theorem kept_putDwords {n a : Nat} (bytes : List Byte) (inside : 0x1900 ≤ a ∧ a % 4 = 0 ∧ a + 4 * n ≤ 0x1B00) :
    Kept boxRegs [] s (s.putDwords n a bytes) := by
  induction n generalizing s a bytes with
  | zero => exact Kept.rfl
  | succ n ih => exact (Kept.rfl.setReg (mem_blockRegs (by omega))).trans (ih _ _ (by omega))

/-- A host message acknowledged, unless it is a broadcast. -/
def acked (b : MerSlot) (s : State) : State := s.when (!b.broadcast) fun s =>
  { s with mer := { s.mer with acks := s.mer.acks ++ [({ dest := b.src, seq := b.seq } : MerAck)] } }

theorem sameLink_acked (b : MerSlot) : SameLink s (s.acked b) := SameLink.rfl'.when (SameLink.rfl'.mer rfl rfl rfl)

theorem sameLink_hostMessage (b : MerSlot) (stamp : Nat) : SameLink s (s.hostMessage b stamp) := by
  have told (x : State) (n : Nat) : SameLink x (x.raiseAt stamp 40 n) := .of_kept (regs := []) (parts := [.router]) Kept.rfl.raiseAt
  have dropped (x : State) : SameLink x ((x.count F.DATUM_MER_RX_DROP_COUNT).raiseAt stamp 41 0) :=
    .of_kept (regs := [Reg.DATUM_MER_RX_DROP]) (parts := [.router]) Kept.rfl.count.raiseAt
  have again (x : State) : SameLink x (x.count F.DATUM_MER_DUP_COUNT) := .of_kept (regs := [Reg.DATUM_MER_DUP]) (parts := []) Kept.rfl.count
  have full (x : State) (n : Nat) : SameLink x (x.setIbit F.DATUM_MER_RXBOX_CTRL_FULL n true) :=
    .of_kept (regs := [Reg.DATUM_MER_RXBOX_CTRL]) (parts := []) Kept.rfl.setIbit
  unfold hostMessage
  extract_lets ack
  have acks (x : State) : SameLink x (ack x) := x.sameLink_acked b
  clear_value ack
  split
  · exact (acks s).trans (again _)
  · split
    next => exact dropped s
    next n found =>
      have small : n < 8 := List.mem_range.1 (List.mem_of_find?_eq_some found)
      extract_lets y z src w
      have stored : SameLink s y := .of_kept (s.kept_putDwords _ (by omega)) (by decide)
      clear_value y
      have marked : SameLink s z := stored.trans (full y n)
      clear_value z
      have noted : SameLink s w := marked.mer rfl rfl rfl
      clear_value w
      exact (noted.trans (acks w)).trans (told _ n)

theorem sameLink_slotMessage (b : MerSlot) (stamp : Nat) : SameLink s (s.slotMessage b stamp) := by
  have utc (x : State) (v : Nat) : SameLink x (x.set F.DATUM_UTC_OFFSET_SECONDS v) :=
    .of_kept (regs := [Reg.DATUM_UTC_OFFSET]) (parts := []) Kept.rfl.set
  unfold slotMessage
  extract_lets mine
  refine .ite (SameLink.rfl'.when (s.sameLink_gotAck b stamp)) (.ite (SameLink.rfl'.when ?_)
    (.ite (SameLink.rfl'.when (s.sameLink_gotSignature _)) (.ite (SameLink.rfl'.when (s.sameLink_hostMessage b stamp)) .rfl')))
  extract_lets y changes
  have led : SameLink s y := SameLink.rfl'.set
  clear_value y
  exact (led.trans (utc y _)).when (sameLink_meterCfgChanged _)

/-- A slot without a message says no more. -/
theorem slotMessage_of_bare {b : MerSlot} (bare : b.mtype = 0) (stamp : Nat) : s.slotMessage b stamp = s := by
  simp [slotMessage, bare]

end State

end Sys2Proof.Machine

/-! PROOFS. The meridian link (spec/02 R76 to R97): slots sent and received, messages and their ends. -/

namespace Sys2Proof.Machine

set_option Elab.async false

/-! A slot leaves -/

theorem length_slotChars (b : MerSlot) : (slotChars b).length = 74 := by
  simp [slotChars]

/-- A slot is 1 000 symbols (R74). -/
theorem length_slotSymbols (b : MerSlot) : (slotSymbols b).length = 1000 := by
  have chars := length_slotChars b
  have idle : (List.replicate 460 [MerSymbol.k285, .data d5_6]).flatten.length = 920 := by
    rw [List.length_flatten, List.map_replicate, List.sum_replicate]
    rfl
  have crc : (leBytes 4 (crc32 (slotChars b)).toNat).length = 4 := by simp
  unfold slotSymbols
  rw [List.length_append, idle, List.length_append, List.length_map, List.length_append, chars, crc]
  rfl

namespace State

variable (s : State)

/-- What the choice of a message leaves of the slot and of the link. -/
structure Chosen (b : MerSlot) (s : State) (r : MerSlot × State) : Prop where
  tTx : r.1.tTx = b.tTx
  slotNum : r.1.slotNum = b.slotNum
  src : r.1.src = b.src
  level : r.1.level = b.level
  out : r.2.mer.out = s.mer.out
  lastSlot : r.2.mer.lastSlot = s.mer.lastSlot
  kept : Kept [] [.mer, .host] s r.2

theorem mer_complete (d : Desc) (status detail time : Nat) : (s.complete d status detail time).mer = s.mer :=
  (Kept.rfl.complete : Kept [] [.host] s _).2 .mer (by decide)

theorem chosen_chooseMessage (b : MerSlot) : Chosen b s (s.chooseMessage b) := by
  unfold chooseMessage
  split
  next a as _ => exact ⟨rfl, rfl, rfl, rfl, rfl, rfl, Kept.rfl.mer⟩
  next =>
    split
    · exact ⟨rfl, rfl, rfl, rfl, rfl, rfl, Kept.rfl.mer.mer⟩
    · split
      · exact ⟨rfl, rfl, rfl, rfl, rfl, rfl, Kept.rfl.mer.mer⟩
      · extract_lets waiting
        split
        next => exact ⟨rfl, rfl, rfl, rfl, rfl, rfl, Kept.rfl⟩
        next m _ _ =>
          extract_lets c
          split
          · refine ⟨rfl, rfl, rfl, rfl, ?_, ?_, Kept.rfl.mer.complete⟩
            · rw [mer_complete]
            · rw [mer_complete]
          · exact ⟨rfl, rfl, rfl, rfl, rfl, rfl, Kept.rfl.mer⟩

/-- A slot boundary taken, with the messages that fall due at it. -/
def slotBegun (s : State) : State :=
  let tTx := s.datum / 8000 * 8000
  let gm := !s.follower
  { s with mer := { s.mer with
      lastSlot := some tTx
      announceDue := s.mer.announceDue || (gm && tTx % second == 0)
      signatureDue := s.mer.signatureDue || (gm && tTx % second == 8000) } }

/-- A chosen slot on the link. -/
def slotOut (tTx : Nat) (r : MerSlot × State) : State :=
  { r.2 with mer := { r.2.mer with
      out := r.2.mer.out ++ [slotSymbols r.1]
      sent := ((r.1.slotNum, tTx) :: r.2.mer.sent).take 16 } }

end State

theorem execMeridianSlotSend_eq (t : Nat) (s : State) : execMeridianSlotSend t s = s.run t fun s =>
    if !s.bit F.DATUM_MER_CTRL_ENABLE || !s.atSlot then s
    else State.slotOut (s.datum / 8000 * 8000) (s.slotBegun.chooseMessage (s.slotBegun.bareSlot (s.datum / 8000 * 8000))) := rfl

/-- The clause of O5 on a slot that leaves. -/
theorem meridianSlotSend_completes {s a : State} {t : Nat} (now : s.advance t = a) (on : a.bit F.DATUM_MER_CTRL_ENABLE = true)
    (due : a.atSlot = true) : Completes (.meridianSlotSend t) s fun b => ∃ x : MerSlot, b.mer.out = a.mer.out ++ [slotSymbols x] ∧
      x.tTx = a.datum / 8000 * 8000 ∧ x.slotNum = a.datum / 8000 % 65536 ∧ x.src = a.get F.DATUM_MER_CTRL_ADDR ∧
      x.level = (if a.follower then 0xFF else 0) ∧ (slotSymbols x).length = 1000 ∧
      (slotSymbols x).take 2 = [.k285, .data 0x4A] ∧ b.atSlot = false ∧ Kept [] [.mer, .host] a b := by
  have begun : Kept [] [.mer, .host] a a.slotBegun := Kept.rfl.mer
  have last : a.slotBegun.mer.lastSlot = some (a.datum / 8000 * 8000) := rfl
  have out : a.slotBegun.mer.out = a.mer.out := rfl
  generalize hy : a.slotBegun = y at begun last out
  have bare := y.chosen_chooseMessage (y.bareSlot (a.datum / 8000 * 8000))
  generalize hr : y.chooseMessage (y.bareSlot (a.datum / 8000 * 8000)) = r at bare
  obtain ⟨tTx, slotNum, src, level, outs, lasts, kept⟩ := bare
  have all : Kept [] [.mer, .host] a (State.slotOut (a.datum / 8000 * 8000) r) := (begun.trans kept).mer
  have datum : (State.slotOut (a.datum / 8000 * 8000) r).datum = a.datum := all.2 .datum (by decide)
  have mer : (State.slotOut (a.datum / 8000 * 8000) r).mer.lastSlot = some (a.datum / 8000 * 8000) := lasts.trans last
  refine completes_at ((exec_meridianSlotSend ..).trans (execMeridianSlotSend_eq ..)) now (x := State.slotOut (a.datum / 8000 * 8000) r) ?_
    ⟨r.1, ?_, tTx, ?_, ?_, ?_, length_slotSymbols _, rfl, ?_, all.settled now⟩
  · rw [on, due, hy, hr]
    rfl
  · rw [State.mer_settle, ← out, ← outs]
    rfl
  · rw [slotNum]
    exact congrArg (· % 65536) (Nat.mul_div_cancel _ (by decide))
  · exact src.trans begun.get
  · have follows : y.follower = a.follower := begun.bit
    rw [level, ← follows]
    rfl
  · have same : (s.settle a (State.slotOut (a.datum / 8000 * 8000) r)).mer = (State.slotOut (a.datum / 8000 * 8000) r).mer := State.mer_settle ..
    have time : (s.settle a (State.slotOut (a.datum / 8000 * 8000) r)).datum = (State.slotOut (a.datum / 8000 * 8000) r).datum := State.datum_settle ..
    rw [State.atSlot, same, time, mer, datum]
    simp

/-! A slot received -/

namespace State

variable (s : State)

/-- The run of valid slots as a valid one leaves it (R80). -/
def slotCounted (stamp num : Nat) (s : State) : State :=
  { s with mer := { s.mer with
      run := if s.slotFollows then s.mer.run + 1 else 1, lastValid := some s.elapsed, peer := some (stamp, num) } }

/-- The link up after eight valid slots. -/
def linkRisen (stamp : Nat) (s : State) : State :=
  s.when (8 ≤ s.mer.run && !s.bit F.DATUM_MER_STATUS_LINK_UP) fun s => (s.setBit F.DATUM_MER_STATUS_LINK_UP true).raiseAt stamp 38 0

/-- A second grandmaster told. -/
def dualSeen (stamp level : Nat) (s : State) : State :=
  s.when (!s.follower && level == 0 && !s.bit F.DATUM_STATUS_DUAL_GM) fun s => (s.setBit F.DATUM_STATUS_DUAL_GM true).raiseAt stamp 43 0

/-- A follower's level and time transfer. -/
def slotTimed (b : MerSlot) (rx8 : Nat) (s : State) : State :=
  s.when s.follower fun s => (s.set F.DATUM_MER_STATUS_LEVEL b.level).timeTransfer b rx8

/-- A valid slot's effect. -/
def slotUsed (b : MerSlot) (rx8 : Nat) (s : State) : State :=
  ((((s.slotCounted (rx8 / 16 * 2) b.slotNum).linkRisen (rx8 / 16 * 2)).dualSeen (rx8 / 16 * 2) b.level).slotTimed b rx8).slotMessage b
    (rx8 / 16 * 2)

end State

theorem execMeridianSlotReceived_eq (t : Nat) (fields : List Byte) (crc : Word) (rx8 : Nat) (s : State) :
    execMeridianSlotReceived t fields crc rx8 s = s.run t fun s =>
      if !s.slotValid fields crc then { s with mer := { s.mer with run := 0 } }.count F.DATUM_MER_CRC_ERR_COUNT
      else s.slotUsed (readSlot fields) rx8 := rfl

/-- The clause of O5 on a valid slot received. -/
theorem slotUsed_completes {s a : State} {t : Nat} {fields : List Byte} {crc : Word} {rx8 : Nat} (now : s.advance t = a)
    (valid : a.slotValid fields crc = true) : Completes (.meridianSlotReceived t fields crc rx8) s fun b =>
      b.mer.run = (if a.slotFollows then a.mer.run + 1 else 1) ∧ b.mer.lastValid = some a.elapsed ∧
      b.mer.peer = some (rx8 / 16 * 2, (readSlot fields).slotNum) ∧ (8 ≤ b.mer.run → b.bit F.DATUM_MER_STATUS_LINK_UP = true) ∧
      (a.follower = false → (readSlot fields).mtype = 0 →
        Kept [Reg.DATUM_MER_STATUS, Reg.DATUM_STATUS, Reg.SCRUB_FAULT_SEEN] [.mer, .router] a b) := by
  generalize hx : readSlot fields = slot
  obtain ⟨x, hx⟩ : ∃ x, a.slotCounted (rx8 / 16 * 2) slot.slotNum = x := ⟨_, rfl⟩
  have counted : Kept [Reg.DATUM_MER_STATUS, Reg.DATUM_STATUS, Reg.SCRUB_FAULT_SEEN] [.mer, .router] a x := hx ▸ Kept.rfl.mer
  have run : x.mer.run = if a.slotFollows then a.mer.run + 1 else 1 := hx ▸ rfl
  have last : x.mer.lastValid = some a.elapsed := hx ▸ rfl
  have peer : x.mer.peer = some (rx8 / 16 * 2, slot.slotNum) := hx ▸ rfl
  obtain ⟨y, hy⟩ : ∃ y, x.linkRisen (rx8 / 16 * 2) = y := ⟨_, rfl⟩
  have risen : Kept [Reg.DATUM_MER_STATUS, Reg.DATUM_STATUS, Reg.SCRUB_FAULT_SEEN] [.router] x y := hy ▸ Kept.rfl.when fun h => h.setBit.raiseAt
  have merY : y.mer = x.mer := risen.2 .mer (by decide)
  have up : 8 ≤ x.mer.run → y.bit F.DATUM_MER_STATUS_LINK_UP = true := by
    intro eight
    rw [← hy, State.linkRisen, decide_eq_true eight, Bool.true_and]
    cases linked : x.bit F.DATUM_MER_STATUS_LINK_UP with
    | true => exact linked
    | false => exact (State.bit_raiseAt_apart _ (by decide)).trans (State.bit_setBit_same _ (by decide) rfl)
  obtain ⟨z, hz⟩ : ∃ z, y.dualSeen (rx8 / 16 * 2) slot.level = z := ⟨_, rfl⟩
  have seen : Kept [Reg.DATUM_STATUS, Reg.SCRUB_FAULT_SEEN] [.router] y z := hz ▸ Kept.rfl.when fun h => h.setBit.raiseFaultAt
  obtain ⟨w, hw⟩ : ∃ w, z.slotTimed slot rx8 = w := ⟨_, rfl⟩
  have timed : SameLink z w := hw ▸ SameLink.rfl'.when (SameLink.rfl'.set.trans (State.sameLink_timeTransfer ..))
  have same : SameLink y (w.slotMessage slot (rx8 / 16 * 2)) := ((SameLink.of_kept seen).trans timed).trans (w.sameLink_slotMessage ..)
  refine completes_at (x := w.slotMessage slot (rx8 / 16 * 2))
    ((exec_meridianSlotReceived ..).trans (execMeridianSlotReceived_eq ..)) now ?_ ⟨?_, ?_, ?_, ?_, ?_⟩
  · rw [valid, ‹readSlot fields = slot›]
    unfold State.slotUsed
    rw [hx, hy, hz, hw]
    rfl
  · rw [State.mer_settle, same.run, merY, run]
  · rw [State.mer_settle, same.lastValid, merY, last]
  · rw [State.mer_settle, same.peer, merY, peer]
  · rw [State.mer_settle, State.bit_settle, same.run, same.up, merY]
    exact up
  · intro master bare
    have follows : z.follower = false := seen.bit.trans (((risen.bit : y.bit F.DATUM_MER_CTRL_ROLE = _).trans counted.bit).trans master)
    have idle : w = z := by
      rw [← hw, State.slotTimed, follows]
      rfl
    rw [State.slotMessage_of_bare _ bare, idle]
    exact ((counted.trans (risen.mono (List.Subset.refl _) (by decide))).trans (seen.mono (by decide) (by decide))).settled now

/-- What makes a received slot valid (R76, R79), as the model judges it. -/
theorem slotValid_iff (a : State) (fields : List Byte) (crc : Word) : a.slotValid fields crc = true ↔
    crc32 fields = crc ∧ (readSlot fields).mlen ≤ 40 ∧ ((readSlot fields).level ≤ 8 ∨ (readSlot fields).level = 0xFF ∧ a.follower = false) ∧
      (readSlot fields).tTx % 8000 = 0 ∧ (readSlot fields).slotNum = (readSlot fields).tTx / 8000 % 65536 := by
  simp only [State.slotValid, Bool.and_eq_true, Bool.or_eq_true, decide_eq_true_eq, beq_iff_eq, Bool.not_eq_true', and_assoc]

/-- The clause of O5 on an invalid slot. -/
theorem slotRefused_completes {s a : State} {t : Nat} {fields : List Byte} {crc : Word} {rx8 : Nat} (now : s.advance t = a)
    (invalid : a.slotValid fields crc = false) : Completes (.meridianSlotReceived t fields crc rx8) s fun b =>
      b.mer = { a.mer with run := 0 } ∧ b.get F.DATUM_MER_CRC_ERR_COUNT = min (a.get F.DATUM_MER_CRC_ERR_COUNT + 1) 0xFFFFFFFF ∧
      Kept [Reg.DATUM_MER_CRC_ERR] [.mer] a b := by
  obtain ⟨x, hx⟩ : ∃ x, { a with mer := { a.mer with run := 0 } } = x := ⟨_, rfl⟩
  have ended : Kept [] [.mer] a x := hx ▸ Kept.rfl.mer
  have mer : x.mer = { a.mer with run := 0 } := hx ▸ rfl
  have counted : Kept [Reg.DATUM_MER_CRC_ERR] [] x (x.count F.DATUM_MER_CRC_ERR_COUNT) := Kept.rfl.count
  refine completes_at (x := x.count F.DATUM_MER_CRC_ERR_COUNT)
    ((exec_meridianSlotReceived ..).trans (execMeridianSlotReceived_eq ..)) now ?_ ⟨?_, ?_, (ended.mono.trans counted.mono).settled now⟩
  · rw [invalid, ← hx]
    rfl
  · rw [State.mer_settle, State.mer_count, mer]
  · rw [State.get_settle, State.get_count_same _ (by decide), ended.get]
    rfl

/-! The link down -/

namespace State

variable (s : State)

/-- The messages sent or waiting for their retry are lost with the link (R92). -/
def lostMessage (m : MerMsg) : Bool := m.sentAt.isSome || m.retry

/-- The link down: the run ended, LINK_UP fallen and told. -/
def linkFallen (s : State) : State := ({ s with mer := { s.mer with run := 0 } }.setBit F.DATUM_MER_STATUS_LINK_UP false).raise 39

/-- The lost messages given up. -/
def messagesLost (s : State) : State := { s with mer := { s.mer with outstanding := s.mer.outstanding.filter fun m => !lostMessage m } }

/-- The commands of lost messages ended. -/
def messagesEnded (l : List MerMsg) (s : State) : State := s.each l fun m s => s.complete m.desc st.aborted 0x20000 s.datum

/-- A follower without its link (R54, R55). -/
def followerLost (s : State) : State :=
  if s.follower then
    if s.discState = 2 then s.setDisc 3 else if s.discState = 1 then s.loseAcquire else s
  else s

end State

theorem execMeridianDown_eq (t : Nat) (s : State) : execMeridianDown t s = s.run t fun s =>
    if s.bit F.DATUM_MER_STATUS_LINK_UP && s.due s.mer.lastValid 128000 then
      (s.linkFallen.messagesLost.messagesEnded (s.linkFallen.mer.outstanding.filter State.lostMessage)).followerLost
    else s := rfl

namespace State

variable (s : State)

theorem kept_messagesEnded (l : List MerMsg) : Kept [] [.host] s (s.messagesEnded l) := Kept.rfl.each fun _ _ _ h => h.complete

theorem elapsed_complete (d : Desc) (status detail time : Nat) : (s.complete d status detail time).elapsed = s.elapsed := by
  unfold complete stageDone
  split
  · split
    · rfl
    · rfl
  · rfl

theorem elapsed_messagesEnded (l : List MerMsg) : (s.messagesEnded l).elapsed = s.elapsed := by
  induction l generalizing s with
  | nil => rfl
  | cons m l ih => exact (ih _).trans (elapsed_complete ..)

/-- The host interface after the lost messages' commands depends on the host interface before, and on whether ring 1 is enabled. -/
theorem host_messagesEnded {a x : State} (l : List MerMsg) (host : x.host = a.host)
    (ring : x.bit (F.HOST_RING_CFG_EN 1) = a.bit (F.HOST_RING_CFG_EN 1)) :
    (x.messagesEnded l).host = (l.foldl (fun s m => s.complete m.desc st.aborted 0x20000 x.datum) a).host := by
  induction l generalizing a x with
  | nil => exact host
  | cons m l ih =>
    have kx : Kept [] [.host] x (x.complete m.desc st.aborted 0x20000 x.datum) := Kept.rfl.complete
    have ka : Kept [] [.host] a (a.complete m.desc st.aborted 0x20000 x.datum) := Kept.rfl.complete
    have datum : (x.complete m.desc st.aborted 0x20000 x.datum).datum = x.datum := kx.2 .datum (by decide)
    have rest := ih (a := a.complete m.desc st.aborted 0x20000 x.datum) (x := x.complete m.desc st.aborted 0x20000 x.datum)
      (host_complete_congr host ring ..) (kx.bit.trans (ring.trans ka.bit.symm))
    rwa [datum] at rest

/-- The state of the discipline after a follower's loss of its link. -/
def lostDisc (s : State) : Nat :=
  if s.follower = true ∧ s.discState = 2 then 3
  else if s.follower = true ∧ s.discState = 1 then (if s.disc.holdover.isSome then 3 else 0) else s.discState

theorem setDisc_same : s.setDisc s.discState = s := if_pos rfl

theorem followerLost_eq : s.followerLost = s.setDisc s.lostDisc := by
  have still := s.setDisc_same
  unfold followerLost lostDisc
  cases s.follower with
  | false => simpa using still.symm
  | true =>
    by_cases locked : s.discState = 2
    · simp [locked]
    · by_cases acquire : s.discState = 1
      · simp [acquire, loseAcquire]
      · simpa [locked, acquire] using still.symm

theorem discState_lt : s.discState < 4 := bitsOf_lt ..

theorem lostDisc_lt : s.lostDisc < 4 := by
  have small := s.discState_lt
  unfold lostDisc
  split_ifs <;> omega

end State

/-- The clause of O5 on the link down. -/
theorem meridianDown_completes {s a : State} {t : Nat} (now : s.advance t = a) (up : a.bit F.DATUM_MER_STATUS_LINK_UP = true)
    (due : a.due a.mer.lastValid 128000 = true) : Completes (.meridianDown t) s fun b =>
      b.bit F.DATUM_MER_STATUS_LINK_UP = false ∧ b.discState = a.lostDisc ∧
      b.mer = { a.mer with run := 0, outstanding := a.mer.outstanding.filter fun m => !State.lostMessage m } ∧
      b.host = ((a.mer.outstanding.filter State.lostMessage).foldl (fun s m => s.complete m.desc st.aborted 0x20000 a.datum) a).host ∧
      (if a.lostDisc = a.discState then Raised [(a.datum, 39, 0)] a b
        else Raised [(a.datum, 39, 0), (a.datum, 35, 0)] (a.set F.DATUM_STATUS_DISC a.lostDisc).ppsQualify b) ∧
      Kept [Reg.DATUM_MER_STATUS, Reg.DATUM_STATUS] [.mer, .router, .host, .disc] a b := by
  obtain ⟨u, hu⟩ : ∃ u, { a with mer := { a.mer with run := 0 } } = u := ⟨_, rfl⟩
  have ended : Kept [] [.mer] a u := hu ▸ Kept.rfl.mer
  have merU : u.mer = { a.mer with run := 0 } := hu ▸ rfl
  have timeU : u.elapsed = a.elapsed := hu ▸ rfl
  obtain ⟨v, hv⟩ : ∃ v, u.setBit F.DATUM_MER_STATUS_LINK_UP false = v := ⟨_, rfl⟩
  have fallen : Kept [Reg.DATUM_MER_STATUS] [] u v := hv ▸ Kept.rfl.setBit
  have down : v.bit F.DATUM_MER_STATUS_LINK_UP = false := hv ▸ State.bit_setBit_same _ (by decide) rfl
  obtain ⟨x, hx⟩ : ∃ x, v.raise 39 = x := ⟨_, rfl⟩
  have link : a.linkFallen = x := by rw [State.linkFallen, hu, hv, hx]
  have keptV : Kept [Reg.DATUM_MER_STATUS] [.mer] a v := ended.mono.trans fallen.mono
  have keptX : Kept [Reg.DATUM_MER_STATUS] [.mer, .router] a x := hx ▸ keptV.mono.raise
  have raisedX : Raised [(a.datum, 39, 0)] a x := hx ▸ keptV.raised
  have merX : x.mer = { a.mer with run := 0 } := by rw [← hx, State.mer_raise, ← hv, State.mer_setBit, merU]
  have downX : x.bit F.DATUM_MER_STATUS_LINK_UP = false := hx ▸ (State.bit_raise_apart _ (by decide)).trans down
  have timeX : x.elapsed = a.elapsed := by rw [← hx, State.elapsed_raise, ← hv, State.elapsed_setBit, timeU]
  obtain ⟨y, hy⟩ : ∃ y, x.messagesLost = y := ⟨_, rfl⟩
  have lost : Kept [] [.mer] x y := hy ▸ Kept.rfl.mer
  have merY : y.mer = { a.mer with run := 0, outstanding := a.mer.outstanding.filter fun m => !State.lostMessage m } := by
    rw [← hy, State.messagesLost, merX]
  have timeY : y.elapsed = x.elapsed := hy ▸ rfl
  have outstanding : x.mer.outstanding = a.mer.outstanding := by rw [merX]
  obtain ⟨z, hz⟩ : ∃ z, y.messagesEnded (a.mer.outstanding.filter State.lostMessage) = z := ⟨_, rfl⟩
  have commands : Kept [] [.host] y z := hz ▸ y.kept_messagesEnded _
  have keptY : Kept [Reg.DATUM_MER_STATUS] [.mer, .router] a y := keptX.trans lost.mono
  have keptZ : Kept [Reg.DATUM_MER_STATUS] [.mer, .router, .host] a z := keptY.mono.trans commands.mono
  have timeZ : z.elapsed = a.elapsed := hz ▸ (State.elapsed_messagesEnded ..).trans (timeY.trans timeX)
  have hostZ : z.host = ((a.mer.outstanding.filter State.lostMessage).foldl (fun s m => s.complete m.desc st.aborted 0x20000 a.datum) a).host := by
    have same := State.host_messagesEnded (a.mer.outstanding.filter State.lostMessage) (keptY.2 .host (by decide) : y.host = a.host) keptY.bit
    rwa [hz, (keptY.2 .datum (by decide) : y.datum = a.datum)] at same
  have raisedZ : Raised [(a.datum, 39, 0)] a z := (raisedX.kept lost).kept commands
  have lostZ : z.lostDisc = a.lostDisc := by
    have follows : z.follower = a.follower := keptZ.bit
    have state : z.discState = a.discState := keptZ.get
    have disc : z.disc = a.disc := keptZ.2 .disc (by decide)
    unfold State.lostDisc
    rw [follows, state, disc]
  have stateZ : z.discState = a.discState := keptZ.get
  have left : Kept [Reg.DATUM_STATUS] [.disc, .router] z (z.setDisc a.lostDisc) := z.kept_setDisc _ (by decide) (by decide) (by decide)
  have merLeft : (z.setDisc a.lostDisc).mer = z.mer := left.2 .mer (by decide)
  have hostLeft : (z.setDisc a.lostDisc).host = z.host := left.2 .host (by decide)
  refine completes_at (x := z.setDisc a.lostDisc) ((exec_meridianDown ..).trans (execMeridianDown_eq ..)) now ?_
    ⟨?_, ?_, ?_, ?_, ?_, (keptZ.mono.trans left.mono).settled now⟩
  · rw [up, due, Bool.true_and, if_pos rfl, link, outstanding, hy, hz, State.followerLost_eq, lostZ]
  · rw [State.bit_settle, left.bit, commands.bit, lost.bit, downX]
  · exact (State.get_settle ..).trans (State.discState_setDisc _ a.lostDisc_lt)
  · rw [State.mer_settle, merLeft, (commands.2 .mer (by decide) : z.mer = y.mer), merY]
  · rw [State.host_settle, hostLeft, hostZ]
  · split
    next same =>
      rw [same, ← stateZ, State.setDisc_same]
      exact raisedZ.settle
    next change => exact (State.raised_setDisc (by rw [stateZ]; exact Ne.symm change) keptZ timeZ raisedZ).settle

/-! Messages -/

/-- The checks of R90, each of them passed. -/
theorem sendChecks_pass {a : State} {d : Desc} (low : 1 ≤ d.len.toNat) (high : d.len.toNat ≤ 40) (free : d.p1 = 0)
    (kind : 0x80 ≤ bitsOf d.p0.toNat 0 8) (inside : d.p0.toNat < 512) (up : a.bit F.DATUM_MER_STATUS_LINK_UP = true)
    (room : a.awaitingAck < 8) : firstFail ([(d.len.toNat = 0 || 40 < d.len.toNat, st.lenRange, 0),
        (d.p1 ≠ 0 || bitsOf d.p0.toNat 0 8 < 0x80 || 512 ≤ d.p0.toNat, st.targetRange, 0x10)] ++ a.sendChecks) = none := by
  rw [firstFail_eq_none]
  intro c mem
  simp only [State.sendChecks, List.cons_append, List.nil_append, List.mem_cons, List.not_mem_nil, or_false] at mem
  rcases mem with rfl | rfl | rfl | rfl
  · simp only [Bool.or_eq_false_iff, decide_eq_false_iff_not]
    omega
  · simp only [Bool.or_eq_false_iff, decide_eq_false_iff_not]
    exact ⟨⟨not_not.2 free, by omega⟩, by omega⟩
  · simp [up]
  · exact decide_eq_false (by omega)

namespace State

/-- A message's failure that is lasting: it is outstanding no more, its command ends, and the failure is told (R91). -/
def messageFailed (m : MerMsg) (s : State) : State :=
  let s := { s with mer := { s.mer with outstanding := s.mer.outstanding.erase m } }
  (s.complete m.desc st.aborted (0x10000 + m.seq) s.datum).raise 42

/-- A message's first failure: its retry (R91). -/
def messageRetried (m : MerMsg) (s : State) : State :=
  { s with mer := { s.mer with outstanding := s.mer.outstanding.map fun x => if x = m then { x with sentAt := none, retry := true } else x } }

end State

theorem execAckTimeout_eq (t seq : Nat) (s : State) : execAckTimeout t seq s = s.run t fun s =>
    match s.mer.outstanding.find? fun m => m.seq == seq && m.sentAt.isSome with
    | none => s
    | some m => if s.ackLate m then if m.retry then s.messageFailed m else s.messageRetried m else s := rfl

/-- Settles O5, clause by clause. -/
theorem meridianSlotsAndMessages : Obligations.MeridianSlotsAndMessages := by
  refine ⟨?sent, ?kept, ?received, ?invalid, ?down, ?queued, ?refused, ?late⟩
  case sent => exact fun s t on due => meridianSlotSend_completes rfl on due
  case kept =>
    intro s t a idle
    have now : s.advance t = a := rfl
    clear_value a
    refine completes_at (x := a) ((exec_meridianSlotSend ..).trans (execMeridianSlotSend_eq ..)) now ?_ (Kept.rfl.settled now)
    exact if_pos (by simpa using idle)
  case received =>
    intro s t fields crc rx8 a x sum length level aligned num
    exact slotUsed_completes rfl ((slotValid_iff a fields crc).2 ⟨sum, length, level, aligned, num⟩)
  case invalid =>
    intro s t fields crc rx8 a x invalid
    exact slotRefused_completes rfl (Bool.not_eq_true _ ▸ fun valid => invalid ((slotValid_iff a fields crc).1 valid))
  case down => exact fun s t up due => meridianDown_completes rfl up due
  case queued =>
    intro s t d bytes a low high free kind inside up room
    have now : s.advance t = a := rfl
    clear_value a
    refine completes_at (x := a.queueMessage d bytes) (exec_meridianSend ..) now
      (State.checked_pass _ (sendChecks_pass low high free kind inside up room) _) ⟨⟨_, rfl, rfl, rfl, rfl, rfl, rfl, rfl, rfl, rfl⟩, rfl, ?_⟩
    exact (Kept.rfl.mer.mer : Kept [] [.mer] a _).settled now
  case refused =>
    intro s t d payload status detail a fail
    have now : s.advance t = a := rfl
    clear_value a
    refine completes_at (x := a.refuse d status detail) (exec_meridianSend ..) now (State.checked_fail _ ?_ _)
      ⟨Ended.refuse .., (State.kept_refuse ..).settled now⟩
    rw [← fail]
    have len : (decide (d.len.toNat = 0) || decide (40 < d.len.toNat)) = decide (d.len = 0 ∨ 40 < d.len.toNat) := by
      rw [Bool.decide_or]
      simp [BitVec.toNat_eq]
    have operands : (decide (d.p1 ≠ 0) || decide (bitsOf d.p0.toNat 0 8 < 0x80) || decide (512 ≤ d.p0.toNat)) =
        decide (d.p1 ≠ 0 ∨ bitsOf d.p0.toNat 0 8 < 0x80 ∨ 512 ≤ d.p0.toNat) := by
      rw [Bool.decide_or, Bool.decide_or, Bool.or_assoc]
    have up : (!a.bit F.DATUM_MER_STATUS_LINK_UP) = decide (a.bit F.DATUM_MER_STATUS_LINK_UP = false) := by simp
    rw [State.sendChecks, len, operands, up]
    rfl
  case late =>
    intro s t seq n m a found sentAt passed
    have now : s.advance t = a := rfl
    clear_value a
    have overdue : a.ackLate m = true := by
      rw [State.ackLate, sentAt]
      exact decide_eq_true passed
    cases again : m.retry with
    | true =>
      obtain ⟨y, hy⟩ : ∃ y, { a with mer := { a.mer with outstanding := a.mer.outstanding.erase m } } = y := ⟨_, rfl⟩
      have removed : Kept [] [.mer] a y := hy ▸ Kept.rfl.mer
      have merY : y.mer = { a.mer with outstanding := a.mer.outstanding.erase m } := hy ▸ rfl
      have datum : y.datum = a.datum := removed.2 .datum (by decide)
      obtain ⟨z, hz⟩ : ∃ z, y.complete m.desc st.aborted (0x10000 + m.seq) a.datum = z := ⟨_, rfl⟩
      have ended : Kept [] [.host] y z := hz ▸ Kept.rfl.complete
      have kept : Kept [Reg.SCRUB_FAULT_SEEN] [.mer, .host] a z := removed.mono.trans ended.mono
      have host : z.host = (a.complete m.desc st.aborted (0x10000 + m.seq) a.datum).host :=
        hz ▸ State.host_complete_congr (removed.2 .host (by decide)) removed.bit ..
      refine completes_at (x := z.raise 42) ((exec_ackTimeout ..).trans (execAckTimeout_eq ..)) now ?_ ?_
      · rw [found]
        dsimp only
        rw [if_pos overdue, if_pos again, State.messageFailed, hy, datum, hz]
      · refine ⟨?_, ?_, kept.raised.settle, (kept.mono.raiseFault : Kept [Reg.SCRUB_FAULT_SEEN] [.mer, .host, .router] a _).settled now⟩
        · rw [State.mer_settle, State.mer_raise, (ended.2 .mer (by decide) : z.mer = y.mer), merY]
        · rw [Ended, State.host_settle, State.host_raise, host]
    | false =>
      refine completes_at (x := a.messageRetried m) ((exec_ackTimeout ..).trans (execAckTimeout_eq ..)) now ?_
        ⟨rfl, (Kept.rfl.mer : Kept [] [.mer] a (a.messageRetried m)).settled now⟩
      rw [found]
      dsimp only
      rw [if_pos overdue, if_neg (by simp [again])]

end Sys2Proof.Machine

/-! PROOFS. The curtain (spec/10): what its outputs, its changes of state, its stops and channel B's latch leave of the device. -/

namespace Sys2Proof.Machine

set_option Elab.async false

namespace State

variable (s : State)

/-! The registers and parts that each step reaches -/

theorem kept_curtCause (code : Nat) : Kept [] [.curt] s (s.curtCause code) := Kept.rfl.curt

theorem kept_judgeB : Kept [] [.curt] s s.judgeB := Kept.rfl.ite Kept.rfl.mapCurt

theorem kept_deenergise : Kept [Reg.CURTAIN_HOLD] [.curt] s s.deenergise := by
  unfold deenergise
  extract_lets was x
  have off : Kept [Reg.CURTAIN_HOLD] [.curt] s x := Kept.rfl.mapCurt.trans (kept_judgeB _).mono
  exact off.setBit.mapCurt.ite off.mapCurt

theorem kept_loadBreak : Kept [Reg.SCRUB_K_LOAD] [.router] s s.loadBreak := Kept.rfl.count.raise.ite Kept.rfl

theorem kept_engCurtainDown : Kept endRegs [.engine, .router, .cast, .wing] s s.engCurtainDown := by
  unfold engCurtainDown
  extract_lets x
  have down : Kept endRegs [.engine, .router, .cast, .wing] s x := (s.kept_engEnd _).ite Kept.rfl
  exact down.ite (down.trans (kept_engEnd _ _))

theorem kept_finishLower (d : Desc) : Kept [] [.host] s (s.finishLower d) := Kept.rfl.complete

/-- The registers that a change of the curtain's state reaches beside CURTAIN_STATUS. -/
abbrev movedRegs : List Nat := Reg.CURTAIN_LAST_LO :: Reg.CURTAIN_LAST_HI :: Reg.CURTAIN_LOCKS :: Reg.CURTAIN_RAISES :: endRegs

/-- The parts that a change of the curtain's state reaches. -/
abbrev movedParts : List Part := [.curt, .router, .engine, .cast, .wing, .host]

/-- CURTAIN_STATUS shows another state and step. -/
def curtShown (v w : Nat) (s : State) : State := (s.set F.CURTAIN_STATUS_STATE v).setStep w

/-- A stop is over in the states up to RAISED, but LOCKED. -/
def stopOver (v : Nat) (s : State) : State :=
  s.when (v ≤ cur.raised && v != cur.locked) fun s => s.mapCurt fun c => { c with reaction := 0 }

/-- A change of state dated, told and counted. -/
def moveTold (v : Nat) (s : State) : State :=
  let s := (s.setPair Reg.CURTAIN_LAST_LO s.datum).raise 176
  let s := s.when (v == cur.locked) fun s => s.count F.CURTAIN_LOCKS_COUNT
  s.when (v == cur.raised) fun s => s.count F.CURTAIN_RAISES_COUNT

/-- What ends as the curtain comes down. -/
def cameDown (s : State) : State :=
  ((s.engCurtainDown).mapCurt fun c => { c with waiting := [], energised := false, raisedFail := none }).each s.curt.waiting finishLower

theorem curtGoto_eq (v w : Nat) : s.curtGoto v w = if s.curtain = v then (s.curtShown v w).stopOver v
    else if v ≤ cur.lowered then (((s.curtShown v w).stopOver v).moveTold v).cameDown else ((s.curtShown v w).stopOver v).moveTold v := rfl

theorem kept_stopOver (v : Nat) : Kept [] [.curt] s (s.stopOver v) := Kept.rfl.when fun h => h.mapCurt

abbrev toldRegs : List Nat := [Reg.CURTAIN_LAST_LO, Reg.CURTAIN_LAST_HI, Reg.CURTAIN_LOCKS, Reg.CURTAIN_RAISES]

theorem kept_moveTold (v : Nat) : Kept toldRegs [.router] s (s.moveTold v) :=
  ((Kept.rfl.setPair.raise : Kept toldRegs [.router] s _).when fun h => h.count).when fun h => h.count

theorem kept_cameDown : Kept endRegs movedParts s s.cameDown := by
  have down := s.kept_engCurtainDown
  unfold cameDown
  generalize s.engCurtainDown = y at down ⊢
  exact (down.mono (List.Subset.refl _) (by decide)).mapCurt.each fun d _ x h => h.trans ((x.kept_finishLower d).mono (List.nil_subset _) (by decide))

theorem toldRegs_subset : toldRegs ⊆ movedRegs := by
  intro r h
  simp only [List.mem_cons, List.not_mem_nil, or_false] at h ⊢
  tauto

theorem endRegs_subset : endRegs ⊆ movedRegs := fun _ h => by
  simp only [List.mem_cons]
  exact Or.inr (Or.inr (Or.inr (Or.inr h)))

/-- Beside what CURTAIN_STATUS shows. -/
theorem kept_curtShown_curtGoto (v w : Nat) : Kept movedRegs movedParts (s.curtShown v w) (s.curtGoto v w) := by
  rw [curtGoto_eq]
  generalize s.curtShown v w = x
  have ended : Kept movedRegs movedParts x (x.stopOver v) := (x.kept_stopOver v).mono (List.nil_subset _) (by decide)
  generalize x.stopOver v = y at ended ⊢
  have told : Kept movedRegs movedParts x (y.moveTold v) := ended.trans ((y.kept_moveTold v).mono toldRegs_subset (by decide))
  generalize y.moveTold v = z at told ⊢
  exact ended.ite ((told.trans (z.kept_cameDown.mono endRegs_subset (List.Subset.refl _))).ite told)

theorem kept_curtShown (v w : Nat) : Kept [Reg.CURTAIN_STATUS] [] s (s.curtShown v w) := Kept.rfl.set.set

abbrev gotoRegs : List Nat := Reg.CURTAIN_STATUS :: movedRegs

theorem kept_curtGoto (v w : Nat) : Kept gotoRegs movedParts s (s.curtGoto v w) :=
  ((s.kept_curtShown v w).mono (List.cons_subset.2 ⟨List.mem_cons_self .., List.nil_subset _⟩) (List.nil_subset _)).trans
    ((s.kept_curtShown_curtGoto v w).mono (List.subset_cons_self ..) (List.Subset.refl _))

/-- A field of CURTAIN_STATUS beside the state and the step. -/
theorem get_curtGoto {f : FieldRef} (v w : Nat) (state : apart F.CURTAIN_STATUS_STATE f = true) (step : apart F.CURTAIN_STATUS_STEP f = true)
    (hf : f.addr ∉ movedRegs) : (s.curtGoto v w).get f = s.get f := by
  rw [(s.kept_curtShown_curtGoto v w).get hf, curtShown, setStep, get_set_apart _ step, get_set_apart _ state]

theorem curtainStatus_not_mem : Reg.CURTAIN_STATUS ∉ movedRegs := by
  decide

theorem curtain_curtGoto {v : Nat} (w : Nat) (small : v < 8) : (s.curtGoto v w).curtain = v := by
  rw [curtain, (s.kept_curtShown_curtGoto v w).get curtainStatus_not_mem, curtShown, setStep, get_set_apart _ (by decide), get_set_of_lt _ (by decide) small]

/-! The halt of all loops, as the curtain sees it -/

/-- What a halt adds to the curtain's causes: cause 16 at this instant, and only while the curtain is up. -/
def HaltCauses (a b : State) : Prop :=
  ∃ l, b.curt = { a.curt with causes := a.curt.causes ++ l } ∧ (∀ e ∈ l, e = (16, a.datum)) ∧ (a.curtainUp = false → l = [])

theorem HaltCauses.trans {a b c : State} (h : HaltCauses a b) (h' : HaltCauses b c) (datum : b.datum = a.datum)
    (up : b.curtainUp = a.curtainUp) : HaltCauses a c := by
  obtain ⟨l, curt, causes, down⟩ := h
  obtain ⟨l', curt', causes', down'⟩ := h'
  rw [datum] at causes'
  rw [up] at down'
  refine ⟨l ++ l', by rw [curt', curt, List.append_assoc], fun e mem => (List.mem_append.1 mem).elim (causes e) (causes' e), fun low => ?_⟩
  rw [down low, down' low]
  rfl

abbrev haltParts : List Part := [.wing, .cast, .host, .router, .engine, .curt]

theorem curtainUp_of_kept {regs : List Nat} {parts : List Part} {a b : State} (k : Kept regs parts a b)
    (hr : Reg.CURTAIN_STATUS ∉ regs := by decide) : b.curtainUp = a.curtainUp := by
  have state : b.curtain = a.curtain := k.get hr
  rw [curtainUp, curtainUp, state]

theorem haltCauses_haltLoop (n : Nat) : HaltCauses s (s.haltLoop n) := by
  have kept : Kept haltRegs [.wing, .cast, .host, .router, .engine] s (s.haltWire n).engHalt :=
    ((s.kept_haltWire n).mono (List.cons_subset.2 ⟨List.mem_cons_self .., List.nil_subset _⟩) (by decide)).trans
      ((kept_engHalt _).mono (List.subset_cons_self ..) (by decide))
  have up : ((s.haltWire n).engHalt).curtainUp = s.curtainUp := curtainUp_of_kept kept
  rw [haltLoop_eq]
  generalize (s.haltWire n).engHalt = x at kept up ⊢
  have curt : x.curt = s.curt := kept.2 .curt (by decide)
  have datum : x.datum = s.datum := kept.2 .datum (by decide)
  cases h : (!s.loopHalted n && x.loopHalted n && x.curtainUp) with
  | false => exact ⟨[], by rw [when_false, curt, List.append_nil], by simp, fun _ => rfl⟩
  | true =>
    refine ⟨[(16, s.datum)], ?_, by simp, fun low => ?_⟩
    · rw [when_true, curtCause, curt, datum]
    · rw [up, low, Bool.and_false] at h
      exact absurd h (by decide)

theorem haltCauses_haltAll : HaltCauses s s.haltAll := by
  have each (l : List Nat) (x : State) : HaltCauses x (x.each l haltLoop) := by
    induction l generalizing x with
    | nil => exact ⟨[], (by rw [List.append_nil]; rfl), by simp, fun _ => rfl⟩
    | cons n l ih =>
      have kept := x.kept_haltLoop n
      exact (x.haltCauses_haltLoop n).trans (ih _) (kept.2 .datum (by decide)) (curtainUp_of_kept kept)
  exact each ..

/-! Channel B's drive and latch -/

/-- Whether channel B drives KDRVB (R430). -/
def driveB (s : State) : Bool := s.curt.enb && !s.btrip && s.curt.b.estopA.high && s.curt.b.estopB.high && !s.curtainRoute && s.curt.openB

theorem curt_judgeB : s.judgeB.curt = { s.curt with kdrvb := s.driveB } := by
  unfold judgeB
  extract_lets on
  have same : on = s.driveB := rfl
  rw [same]
  split
  next still => rw [← still]
  next => rfl

theorem elapsed_judgeB : s.judgeB.elapsed = s.elapsed := by
  unfold judgeB
  extract_lets on
  split
  · rfl
  · rfl

/-- The latch set shows in BTRIP and SSTAT (R431, R461). -/
def latchShown (s : State) : State := (s.setBit F.CURTAIN_STATUS_BTRIP true).setBit F.CURTAIN_PINS_SSTAT false

/-- The latch's own instant. -/
def latchDated (s : State) : State :=
  s.mapCurt fun c => { c with latchedAt := s.elapsed, changeB := if c.enb then s.elapsed else c.changeB }

theorem latchB_eq : s.latchB = if s.btrip then s.latchShown.judgeB else (s.latchShown.judgeB).latchDated.haltAll := rfl

theorem kept_latchShown : Kept [Reg.CURTAIN_STATUS, Reg.CURTAIN_PINS] [] s s.latchShown := Kept.rfl.setBit.setBit

theorem kept_latchShown_latchB : Kept haltRegs haltParts s.latchShown s.latchB := by
  rw [latchB_eq]
  generalize s.latchShown = x
  have drive : Kept haltRegs haltParts x x.judgeB := (kept_judgeB _).mono (List.nil_subset _) (by decide)
  generalize x.judgeB = y at drive ⊢
  have dated : Kept haltRegs haltParts x y.latchDated := drive.mapCurt
  generalize y.latchDated = z at dated ⊢
  exact drive.ite (dated.trans (kept_haltAll z))

abbrev latchRegs : List Nat := Reg.CURTAIN_STATUS :: Reg.CURTAIN_PINS :: haltRegs

theorem kept_latchB : Kept latchRegs haltParts s s.latchB :=
  (s.kept_latchShown.mono (by simp) (List.nil_subset _)).trans
    (s.kept_latchShown_latchB.mono (fun _ h => List.mem_cons_of_mem _ (List.mem_cons_of_mem _ h)) (List.Subset.refl _))

/-- A field of CURTAIN_STATUS beside BTRIP. -/
theorem get_latchB {f : FieldRef} (trip : apart F.CURTAIN_STATUS_BTRIP f = true) (stat : apart F.CURTAIN_PINS_SSTAT f = true)
    (hf : f.addr ∉ haltRegs) : s.latchB.get f = s.get f := by
  rw [s.kept_latchShown_latchB.get hf, latchShown, get_setBit_apart _ stat, get_setBit_apart _ trip]

theorem curtain_latchB : s.latchB.curtain = s.curtain := s.get_latchB (by decide) (by decide) (by decide)

theorem btrip_latchB : s.latchB.btrip = true := by
  rw [btrip, s.kept_latchShown_latchB.bit (by decide), latchShown, bit_setBit_apart _ (by decide)]
  exact bit_setBit_same _ (by decide) rfl

theorem sstat_latchB : s.latchB.bit F.CURTAIN_PINS_SSTAT = false := by
  rw [s.kept_latchShown_latchB.bit (by decide)]
  exact bit_setBit_same _ (by decide) rfl

/-- The latch halts every loop as it sets. -/
theorem loopHalted_latchB {n : Nat} {s : State} (small : n < 4) (open_ : s.btrip = false) : s.latchB.loopHalted n = true := by
  rw [latchB_eq, open_, if_neg (by decide)]
  exact loopHalted_haltAll _ small

/-- What the latch changes of the curtain: KDRVB off, its instants, and causes of the halt. -/
theorem curt_latchB : ∃ l at_ change, s.latchB.curt = { s.curt with kdrvb := false, latchedAt := at_, changeB := change, causes := s.curt.causes ++ l } ∧
    (∀ e ∈ l, e = (16, s.datum)) ∧ (s.curtainUp = false → l = []) := by
  have shown := s.kept_latchShown
  have trip : s.latchShown.btrip = true := (bit_setBit_apart _ (by decide)).trans (bit_setBit_same _ (by decide) rfl)
  have state : s.latchShown.curtain = s.curtain := (get_setBit_apart _ (by decide)).trans (get_setBit_apart _ (by decide))
  rw [latchB_eq]
  generalize s.latchShown = x at shown trip state ⊢
  have curt : x.curt = s.curt := shown.2 .curt (by decide)
  have datum : x.datum = s.datum := shown.2 .datum (by decide)
  have off : x.driveB = false := by simp [driveB, trip]
  have drive := x.curt_judgeB
  rw [off, curt] at drive
  have kept := x.kept_judgeB
  generalize x.judgeB = y at drive kept ⊢
  split
  · exact ⟨[], s.curt.latchedAt, s.curt.changeB, by rw [drive, List.append_nil], by simp, fun _ => rfl⟩
  · obtain ⟨l, halted, causes, down⟩ := y.latchDated.haltCauses_haltAll
    have dated : y.latchDated.curt = { y.curt with latchedAt := y.elapsed, changeB := if y.curt.enb then y.elapsed else y.curt.changeB } := rfl
    have keptDated : Kept [] [.curt] x y.latchDated := kept.mapCurt
    have datumDated : y.latchDated.datum = s.datum := (keptDated.2 .datum (by decide) : _ = x.datum).trans datum
    have up : y.latchDated.curtainUp = s.curtainUp := by
      rw [curtainUp_of_kept keptDated, curtainUp, state, curtainUp]
    generalize y.latchDated = z at halted dated causes down datumDated up ⊢
    refine ⟨l, y.elapsed, if y.curt.enb then y.elapsed else y.curt.changeB, ?_, ?_, ?_⟩
    · rw [halted, dated, drive]
    · rwa [datumDated] at causes
    · rwa [up] at down

theorem elapsed_latchB : s.latchB.elapsed = s.elapsed := by
  have shown : s.latchShown.elapsed = s.elapsed := (elapsed_setBit ..).trans (elapsed_setBit ..)
  have drive := (elapsed_judgeB s.latchShown).trans shown
  rw [latchB_eq]
  generalize s.latchShown.judgeB = y at drive ⊢
  split
  · exact drive
  · exact (elapsed_haltAll _).trans drive

end State

end Sys2Proof.Machine

/-! PROOFS. Causes and the stops they start (spec/10 R441, R445, R447). -/

namespace Sys2Proof.Machine

set_option Elab.async false

/-- What a stop leaves of the watches of channel A: the discrepancy told stays told, no failed feedback comes up, and events only come after those on
their way. -/
structure Quiet (a b : State) : Prop where
  told : b.curt.discRaised = a.curt.discRaised
  fail : a.curt.raisedFail = none → b.curt.raisedFail = none
  raises : State.Raises a b

namespace Quiet

variable {a b c : State}

theorem rfl' : Quiet a a := ⟨rfl, id, .rfl⟩

theorem trans (h : Quiet a b) (h' : Quiet b c) : Quiet a c := ⟨h'.told.trans h.told, fun none => h'.fail (h.fail none), h.raises.trans h'.raises⟩

theorem of_kept {regs : List Nat} {parts : List Part} (h : Quiet a b) (k : Kept regs parts b c) (curt : .curt ∉ parts := by decide)
    (router : .router ∉ parts := by decide) : Quiet a c := by
  have same : c.curt = b.curt := k.2 .curt curt
  exact h.trans ⟨by rw [same], by rw [same]; exact id, State.Raises.rfl.of_router (k.2 .router router)⟩

/-- The curtain's part changed in what is neither watched. -/
theorem curt (h : Quiet a b) {x : Curt} (told : x.discRaised = b.curt.discRaised) (fail : b.curt.raisedFail = none → x.raisedFail = none) :
    Quiet a { b with curt := x } := h.trans ⟨told, fail, State.Raises.rfl.of_router rfl⟩

theorem raise (h : Quiet a b) (num inst : Nat) : Quiet a (b.raise num inst) :=
  h.trans ⟨by rw [State.curt_raise], by rw [State.curt_raise]; exact id, State.Raises.rfl.raise⟩

theorem when {f : State → State} {q : Bool} (h : Quiet a b) (hf : Quiet b (f b)) : Quiet a (b.when q f) := by
  cases q with
  | false => exact h
  | true => exact h.trans hf

theorem ite {q : Prop} [Decidable q] {x y : State} (hx : Quiet a x) (hy : Quiet a y) : Quiet a (if q then x else y) := by
  split
  · exact hx
  · exact hy

/-- Where the curtain's part is kept, what the loops and the engine report comes after. -/
theorem raised {regs : List Nat} {parts : List Part} (h : Quiet a b) (k : Kept regs parts b c) (raises : State.Raises b c)
    (curt : .curt ∉ parts := by decide) : Quiet a c := by
  have same : c.curt = b.curt := k.2 .curt curt
  exact h.trans ⟨by rw [same], by rw [same]; exact id, raises⟩

end Quiet

namespace State

variable (s : State)

theorem quiet_judgeB : Quiet s s.judgeB := .ite .rfl' (.curt .rfl' rfl id)

theorem quiet_deenergise : Quiet s s.deenergise := by
  unfold deenergise
  extract_lets was x
  have off : Quiet s x := (Quiet.rfl'.curt (x := { s.curt with enb := false, changeB := if was then s.elapsed else s.curt.changeB, raisedFail := none })
    rfl fun _ => rfl).trans (quiet_judgeB _)
  clear_value x
  refine .ite ?_ (off.curt rfl id)
  have gap : Quiet s (x.setBit F.CURTAIN_HOLD_GAP true) := off.of_kept (Kept.rfl.setBit : Kept [Reg.CURTAIN_HOLD] [] x _)
  generalize x.setBit F.CURTAIN_HOLD_GAP true = y at gap ⊢
  exact gap.curt rfl id

theorem quiet_loadBreak : Quiet s s.loadBreak := by
  have counted : Quiet s (s.count F.SCRUB_K_LOAD_COUNT) := Quiet.rfl'.of_kept (Kept.rfl.count : Kept [Reg.SCRUB_K_LOAD] [] s _)
  unfold loadBreak
  generalize s.count F.SCRUB_K_LOAD_COUNT = x at counted ⊢
  exact .ite (counted.raise ..) .rfl'

theorem quiet_haltAll : Quiet s s.haltAll := by
  obtain ⟨l, curt, -⟩ := s.haltCauses_haltAll
  exact ⟨by rw [curt], by rw [curt]; exact id, s.raises_haltAll⟩

theorem quiet_latchB : Quiet s s.latchB := by
  have shown : Quiet s s.latchShown := Quiet.rfl'.of_kept s.kept_latchShown
  rw [latchB_eq]
  generalize s.latchShown = x at shown ⊢
  have drive : Quiet s x.judgeB := shown.trans x.quiet_judgeB
  generalize x.judgeB = y at drive ⊢
  exact .ite drive ((drive.curt rfl id : Quiet s y.latchDated).trans (quiet_haltAll _))

theorem quiet_engEnd (v : Nat) : Quiet s (s.engEnd v) := Quiet.rfl'.raised (s.kept_engEnd v) (s.sameHalt_engEnd 4 v).raises

theorem quiet_engCurtainDown : Quiet s s.engCurtainDown := by
  unfold engCurtainDown
  extract_lets x
  have down : Quiet s x := .ite (s.quiet_engEnd _) .rfl'
  exact .ite down (down.trans (quiet_engEnd _ _))

theorem quiet_each_finishLower (l : List Desc) : Quiet s (s.each l finishLower) := by
  have kept : Kept [] [.host] s (s.each l finishLower) := Kept.rfl.each fun d _ x h => h.trans (x.kept_finishLower d)
  exact Quiet.rfl'.of_kept kept

theorem quiet_moveTold (v : Nat) : Quiet s (s.moveTold v) := by
  have dated : Quiet s (s.setPair Reg.CURTAIN_LAST_LO s.datum) :=
    Quiet.rfl'.of_kept (Kept.rfl.setPair : Kept [Reg.CURTAIN_LAST_LO, Reg.CURTAIN_LAST_HI] [] s _)
  have counted (x : State) (f : FieldRef) : Quiet x (x.count f) :=
    Quiet.rfl'.of_kept (Kept.rfl.count (hf := List.mem_singleton.2 rfl) : Kept [f.addr] [] x _)
  unfold moveTold
  generalize s.setPair Reg.CURTAIN_LAST_LO s.datum = x at dated ⊢
  have told := dated.raise 176 0
  generalize x.raise 176 = y at told ⊢
  extract_lets z
  exact (told.when (counted ..)).when (counted ..)

theorem quiet_cameDown : Quiet s s.cameDown := by
  have down := s.quiet_engCurtainDown
  unfold cameDown
  generalize s.engCurtainDown = y at down ⊢
  exact (down.curt rfl fun _ => rfl : Quiet s (y.mapCurt fun c => { c with waiting := [], energised := false, raisedFail := none })).trans
    (quiet_each_finishLower ..)

theorem quiet_curtGoto (v w : Nat) : Quiet s (s.curtGoto v w) := by
  have shown : Quiet s (s.curtShown v w) := Quiet.rfl'.of_kept (s.kept_curtShown v w)
  rw [curtGoto_eq]
  generalize s.curtShown v w = x at shown ⊢
  have ended : Quiet s (x.stopOver v) := shown.when (Quiet.rfl'.curt rfl id)
  generalize x.stopOver v = y at ended ⊢
  have told := ended.trans (y.quiet_moveTold v)
  exact .ite ended (.ite (told.trans (quiet_cameDown _)) told)

/-! A stop starts -/

/-- FIRST takes the first cause of the class. -/
def firstShown (cls : Nat) (cs : List (Nat × Nat)) (s : State) : State :=
  match firstCause (cs.filter fun c => classOf c.1 == cls) with
  | some c => s.set F.CURTAIN_CAUSE_FIRST c
  | none => s

/-- The stop counted and told. -/
def stopCounted (cls : Nat) (s : State) : State :=
  let s := ((s.count F.CURTAIN_STOPS_COUNT).raise 177).mapCurt fun c => { c with reaction := cls }
  let s := s.when (s.bit F.IRQ_CTRL_FREEZE_EN) fun s => s.setBit F.IRQ_STATUS_SP_FROZEN true
  s.when (cls == 3) fun s => s.noteClass 6

theorem stopStarts_eq (cls : Nat) (cs : List (Nat × Nat)) : s.stopStarts cls cs = (s.firstShown cls cs).stopCounted cls := rfl

theorem kept_firstShown (cls : Nat) (cs : List (Nat × Nat)) : Kept [Reg.CURTAIN_CAUSE] [] s (s.firstShown cls cs) := by
  unfold firstShown
  split
  · exact Kept.rfl.set
  · exact Kept.rfl

theorem get_firstShown {f : FieldRef} (cls : Nat) (cs : List (Nat × Nat)) (h : apart F.CURTAIN_CAUSE_FIRST f = true) :
    (s.firstShown cls cs).get f = s.get f := by
  unfold firstShown
  split
  · exact get_set_apart _ h
  · rfl

abbrev stopRegs : List Nat := [Reg.CURTAIN_STOPS, Reg.IRQ_STATUS, Reg.SCRUB_FAULT_SEEN]

theorem kept_stopCounted (cls : Nat) : Kept stopRegs [.router, .curt] s (s.stopCounted cls) := by
  have counted : Kept stopRegs [.router, .curt] s (((s.count F.CURTAIN_STOPS_COUNT).raise 177).mapCurt fun c => { c with reaction := cls }) :=
    Kept.rfl.count.raise.mapCurt
  unfold stopCounted
  exact (counted.when fun h => h.setBit).when fun h => h.noteClass

theorem quiet_stopCounted (cls : Nat) : Quiet s (s.stopCounted cls) := by
  have counted : Quiet s (s.count F.CURTAIN_STOPS_COUNT) := Quiet.rfl'.of_kept (Kept.rfl.count : Kept [Reg.CURTAIN_STOPS] [] s _)
  have told := counted.raise 177 0
  unfold stopCounted
  generalize (s.count F.CURTAIN_STOPS_COUNT).raise 177 = x at told ⊢
  extract_lets y z
  have reacts : Quiet s y := told.curt rfl id
  clear_value y
  have frozen : Quiet s z := reacts.when (Quiet.rfl'.of_kept (Kept.rfl.setBit : Kept [Reg.IRQ_STATUS] [] y _))
  clear_value z
  exact frozen.when (Quiet.rfl'.of_kept (Kept.rfl.noteClass : Kept [Reg.SCRUB_FAULT_SEEN] [] z _))

theorem quiet_stopStarts (cls : Nat) (cs : List (Nat × Nat)) : Quiet s (s.stopStarts cls cs) := by
  rw [stopStarts_eq]
  exact (Quiet.rfl'.of_kept (s.kept_firstShown cls cs)).trans (quiet_stopCounted _ cls)

/-- A field that a stop's start does not reach. -/
theorem get_stopStarts {f : FieldRef} (cls : Nat) (cs : List (Nat × Nat)) (h : apart F.CURTAIN_CAUSE_FIRST f = true) (hf : f.addr ∉ stopRegs) :
    (s.stopStarts cls cs).get f = s.get f := by
  rw [stopStarts_eq, (kept_stopCounted _ cls).get hf, get_firstShown _ _ _ h]

theorem kept_stopStarts (cls : Nat) (cs : List (Nat × Nat)) : Kept (Reg.CURTAIN_CAUSE :: stopRegs) [.router, .curt] s (s.stopStarts cls cs) := by
  rw [stopStarts_eq]
  exact ((s.kept_firstShown cls cs).mono (by simp) (List.nil_subset _)).trans ((kept_stopCounted _ cls).mono (List.subset_cons_self ..) (List.Subset.refl _))

end State

end Sys2Proof.Machine

/-! PROOFS. One cause met by channel A, by its class (spec/10 R441, R445). -/

namespace Sys2Proof.Machine

set_option Elab.async false

namespace State

variable (s : State)

/-- A cause shows in CURTAIN_CAUSE. -/
def causeSeen (code : Nat) (s : State) : State := s.setIbit F.CURTAIN_CAUSE_SEEN (code - 1) true

/-- The outputs given up by channel A, with its trip, for a cause of class S. -/
def tripped (s : State) : State :=
  ((s.setBit F.CURTAIN_STATUS_ARMED false).mapCurt fun c => { c with tripa := true, released := none }).loadBreak.deenergise

/-- The stop of class S. -/
def locksNow (cs : List (Nat × Nat)) (s : State) : State := ((s.stopStarts 3 cs).tripped.curtGoto cur.locked step.none).latchB.haltAll

/-- The stop of class H before the contactors have closed. -/
def lowersNow (cs : List (Nat × Nat)) (s : State) : State :=
  (((s.stopStarts 2 cs).setBit F.CURTAIN_STATUS_ARMED false).deenergise.curtGoto cur.lowered step.none).haltAll

theorem kept_causeSeen (code : Nat) : Kept [Reg.CURTAIN_CAUSE] [] s (s.causeSeen code) := Kept.rfl.setIbit

theorem seen_causeSeen {code : Nat} (h : 1 ≤ code ∧ code ≤ 21) : (s.causeSeen code).ibit F.CURTAIN_CAUSE_SEEN (code - 1) = true :=
  s.ibit_setIbit_same (by decide) (by
    show code - 1 < 21
    omega)

theorem causeNow_S {code : Nat} (cls : classOf code = 3) : s.causeNow code =
    if s.curtain = cur.locked ∨ 3 ≤ s.curt.reaction then s.causeSeen code else (s.causeSeen code).locksNow [(code, s.datum)] := by
  have state : (s.causeSeen code).curtain = s.curtain := get_setIbit_apart _ (by decide)
  have curt : (s.causeSeen code).curt = s.curt := (s.kept_causeSeen code).2 .curt (by decide)
  unfold causeNow judgeCauses
  dsimp only [List.isEmpty_cons, each, List.foldl_cons, List.foldl_nil]
  have shown : s.setIbit F.CURTAIN_CAUSE_SEEN (code - 1) true = s.causeSeen code := rfl
  rw [if_neg (by decide), shown, cls, state, curt, Nat.zero_max]
  by_cases locked : s.curtain = cur.locked
  · simp [locked]
  · rw [if_neg locked, if_neg (by simp)]
    by_cases high : 3 ≤ s.curt.reaction
    · simp [high]
    · rw [if_neg high, if_pos rfl, if_neg (by simp [locked, high])]
      rfl

/-- A stop's start notes its class in the curtain's part. -/
theorem curt_stopStarts (cls : Nat) (cs : List (Nat × Nat)) : (s.stopStarts cls cs).curt = { s.curt with reaction := cls } := by
  have first : (s.firstShown cls cs).curt = s.curt := (s.kept_firstShown cls cs).2 .curt (by decide)
  rw [stopStarts_eq, ← first]
  generalize s.firstShown cls cs = x
  have counted : ((x.count F.CURTAIN_STOPS_COUNT).raise 177).curt = x.curt := by rw [curt_raise, curt_count]
  unfold stopCounted
  generalize (x.count F.CURTAIN_STOPS_COUNT).raise 177 = y at counted ⊢
  obtain ⟨z, hz⟩ : ∃ z, y.mapCurt (fun c => { c with reaction := cls }) = z := ⟨_, rfl⟩
  have reacts : z.curt = { x.curt with reaction := cls } := by rw [← hz, ← counted]; rfl
  dsimp only
  rw [hz, ← reacts]
  have rest : Kept [Reg.IRQ_STATUS, Reg.SCRUB_FAULT_SEEN] [] z
      ((z.when (z.bit F.IRQ_CTRL_FREEZE_EN) fun s => s.setBit F.IRQ_STATUS_SP_FROZEN true).when (cls == 3) fun s => s.noteClass 6) :=
    (Kept.rfl.when fun h => h.setBit).when fun h => h.noteClass
  exact rest.2 .curt (by decide)

theorem causeNow_H_raising {code : Nat} {s : State} (cls : classOf code = 2) (raising : s.curtain = cur.raising) (low : s.curt.reaction < 2)
    (before : s.curt.energised = false) : s.causeNow code = (s.causeSeen code).lowersNow [(code, s.datum)] := by
  have state : (s.causeSeen code).curtain = cur.raising := (get_setIbit_apart _ (by decide)).trans raising
  have curt : (s.causeSeen code).curt = s.curt := (s.kept_causeSeen code).2 .curt (by decide)
  unfold causeNow judgeCauses
  dsimp only [List.isEmpty_cons, each, List.foldl_cons, List.foldl_nil]
  have shown : s.setIbit F.CURTAIN_CAUSE_SEEN (code - 1) true = s.causeSeen code := rfl
  rw [if_neg (by decide), shown, cls, state, curt, Nat.zero_max, if_neg (by decide), if_neg (by decide), if_neg (by simpa using low), if_neg (by decide)]
  generalize s.causeSeen code = x at curt ⊢
  have started : (x.stopStarts 2 [(code, s.datum)]).curt.energised = false := by
    rw [curt_stopStarts, curt]
    exact before
  unfold lowersNow
  generalize x.stopStarts 2 [(code, s.datum)] = y at started ⊢
  have disarms : ((2 : Nat) == 2 || [(code, s.datum)].any fun c => c.1 == 21) = true := Bool.true_or _
  have disarmed : (y.setBit F.CURTAIN_STATUS_ARMED false).curt.energised = false := by rwa [curt_setBit]
  rw [disarms, when_true]
  generalize y.setBit F.CURTAIN_STATUS_ARMED false = z at disarmed ⊢
  rw [disarmed, if_pos (by decide)]
  exact when_true ..

theorem quiet_tripped : Quiet s s.tripped := by
  have disarmed : Quiet s (s.setBit F.CURTAIN_STATUS_ARMED false) := Quiet.rfl'.of_kept (Kept.rfl.setBit : Kept [Reg.CURTAIN_STATUS] [] s _)
  unfold tripped
  generalize s.setBit F.CURTAIN_STATUS_ARMED false = x at disarmed ⊢
  have off : Quiet s (x.mapCurt fun c => { c with tripa := true, released := none }) := disarmed.curt rfl id
  generalize (x.mapCurt fun c => { c with tripa := true, released := none }) = y at off ⊢
  exact (off.trans y.quiet_loadBreak).trans (quiet_deenergise _)

theorem kept_tripped : Kept [Reg.CURTAIN_STATUS, Reg.SCRUB_K_LOAD, Reg.CURTAIN_HOLD] [.curt, .router] s s.tripped := by
  have disarmed : Kept [Reg.CURTAIN_STATUS, Reg.SCRUB_K_LOAD, Reg.CURTAIN_HOLD] [.curt, .router] s
      ((s.setBit F.CURTAIN_STATUS_ARMED false).mapCurt fun c => { c with tripa := true, released := none }) := Kept.rfl.setBit.mapCurt
  unfold tripped
  generalize ((s.setBit F.CURTAIN_STATUS_ARMED false).mapCurt fun c => { c with tripa := true, released := none }) = x at disarmed ⊢
  exact (disarmed.trans x.kept_loadBreak.mono).trans (kept_deenergise _).mono

theorem quiet_locksNow (cs : List (Nat × Nat)) : Quiet s (s.locksNow cs) :=
  ((((s.quiet_stopStarts 3 cs).trans (quiet_tripped _)).trans (quiet_curtGoto ..)).trans (quiet_latchB _)).trans (quiet_haltAll _)

theorem curtain_haltAll : s.haltAll.curtain = s.curtain := s.kept_haltAll.get (by decide)

theorem curtain_locksNow (cs : List (Nat × Nat)) : (s.locksNow cs).curtain = cur.locked := by
  rw [locksNow, curtain_haltAll, curtain_latchB, curtain_curtGoto _ _ (by decide)]

theorem curtainCause_not_mem : Reg.CURTAIN_CAUSE ∉ gotoRegs ∧ Reg.CURTAIN_CAUSE ∉ latchRegs ∧ Reg.CURTAIN_CAUSE ∉ haltRegs := by
  decide

theorem seen_locksNow (cs : List (Nat × Nat)) (i : Nat) : (s.locksNow cs).ibit F.CURTAIN_CAUSE_SEEN i = s.ibit F.CURTAIN_CAUSE_SEEN i := by
  obtain ⟨goto, latch, halt⟩ := curtainCause_not_mem
  rw [locksNow, (kept_haltAll _).ibit halt, (kept_latchB _).ibit latch, (kept_curtGoto ..).ibit goto, (kept_tripped _).ibit (by decide), ibit,
    get_stopStarts _ _ _ (by decide) (by decide), ibit]

/-- A cause of class H while the contactors are still open lowers the curtain and disarms it. -/
theorem lowersNow_spec (cs : List (Nat × Nat)) : (s.lowersNow cs).curtain = cur.lowered ∧ (s.lowersNow cs).armed = false ∧
    ∀ i, (s.lowersNow cs).ibit F.CURTAIN_CAUSE_SEEN i = s.ibit F.CURTAIN_CAUSE_SEEN i := by
  obtain ⟨goto, -, halt⟩ := curtainCause_not_mem
  have start := fun {f : FieldRef} => s.get_stopStarts (f := f) 2 cs
  unfold lowersNow
  generalize s.stopStarts 2 cs = x at start ⊢
  have disarmed : (x.setBit F.CURTAIN_STATUS_ARMED false).bit F.CURTAIN_STATUS_ARMED = false := bit_setBit_same _ (by decide) rfl
  have others : ∀ i, (x.setBit F.CURTAIN_STATUS_ARMED false).ibit F.CURTAIN_CAUSE_SEEN i = x.ibit F.CURTAIN_CAUSE_SEEN i := fun i =>
    (Kept.rfl.setBit : Kept [Reg.CURTAIN_STATUS] [] x _).ibit
  generalize x.setBit F.CURTAIN_STATUS_ARMED false = y at disarmed others ⊢
  refine ⟨?_, ?_, fun i => ?_⟩
  · rw [curtain_haltAll, curtain_curtGoto _ _ (by decide)]
  · rw [armed, bit, (kept_haltAll _).get (by decide), get_curtGoto _ _ _ (by decide) (by decide) curtainStatus_not_mem, (kept_deenergise y).get (by decide)]
    exact disarmed
  · rw [(kept_haltAll _).ibit halt, (kept_curtGoto ..).ibit goto, (kept_deenergise y).ibit (by decide), others, ibit, start (by decide) (by decide), ibit]

/-- A cause of class S locks the curtain, unless a reaction of that class is in progress. -/
theorem causeNow_S_spec {code : Nat} (range : 1 ≤ code ∧ code ≤ 12) :
    (s.causeNow code).curtain = (if s.curt.reaction < 3 then cur.locked else s.curtain) ∧
      (s.causeNow code).ibit F.CURTAIN_CAUSE_SEEN (code - 1) = true ∧ Quiet s (s.causeNow code) := by
  have cls : classOf code = 3 := if_pos range.2
  have state : (s.causeSeen code).curtain = s.curtain := get_setIbit_apart _ (by decide)
  have seen := s.seen_causeSeen (code := code) (by omega)
  have quiet : Quiet s (s.causeSeen code) := Quiet.rfl'.of_kept (s.kept_causeSeen code)
  rw [s.causeNow_S cls]
  split
  next stays =>
    refine ⟨?_, seen, quiet⟩
    rw [state]
    split
    · omega
    · rfl
  next goes =>
    rw [curtain_locksNow, seen_locksNow, if_pos (by omega)]
    exact ⟨rfl, seen, quiet.trans (quiet_locksNow _ _)⟩

end State

end Sys2Proof.Machine

/-! PROOFS. The contactors: closing, their checks, and the raise gap (spec/10 R437 to R443). -/

namespace Sys2Proof.Machine

set_option Elab.async false

namespace State

variable (s : State)

/-- KDRVA and ENB energised, with the closing check (R443). -/
def energise (s : State) : State := s.mapCurt fun c => { c with
  kdrva := true, enb := true, energised := true, changeA := s.elapsed, changeB := s.elapsed
  check := some { closing := true, start := s.elapsed }, openB := c.b.open10 s.elapsed }

/-- The contactors told to close. -/
def closes (s : State) : State := ((s.setStep step.closeCheck).count F.SCRUB_K_OPS_A_COUNT).energise.judgeB

end State

theorem execSyncTime_eq (t : Nat) (s : State) : execSyncTime t s = s.run t fun s =>
    if s.curtain = cur.raising && s.curtStep = step.sync && s.curt.raisingAt + s.syncTime ≤ s.curt.cycle && !s.tableau then
      if s.engaged then s.closes else s.causeNow 13
    else s := rfl

namespace State

variable (s : State)

/-- The comparators' routes depend on the comparators alone. -/
theorem curtainRoute_of_kept {regs : List Nat} {parts : List Part} {a b : State} (k : Kept regs parts a b) (now : b.elapsed = a.elapsed)
    (out : ∀ r ∈ regs, r < 0x2400 ∨ 0x2480 < r := by decide) (hp : .conv ∉ parts := by decide) : b.curtainRoute = a.curtainRoute := by
  have conv : b.conv = a.conv := k.2 .conv hp
  have far {r : Nat} (low : 0x2400 ≤ r) (high : r ≤ 0x2480) : r ∉ regs := fun mem => by
    have := out r mem
    omega
  unfold curtainRoute
  refine Bool.eq_iff_iff.2 ?_
  simp only [List.any_eq_true, List.mem_range]
  refine exists_congr fun n => and_congr_right fun small => ?_
  have trips : b.ibit F.COMP_STATE_TRIPPED n = a.ibit F.COMP_STATE_TRIPPED n := k.ibit (far (by decide) (by decide))
  have cfg : b.reg (Reg.COMP_CFG n) = a.reg (Reg.COMP_CFG n) := k.reg (far (by simp only [Reg.COMP_CFG]; omega) (by simp only [Reg.COMP_CFG]; omega))
  have filt : b.get (F.COMP_CFG_FILT n) = a.get (F.COMP_CFG_FILT n) := k.get (far (by dsimp only; omega) (by dsimp only; omega))
  simp only [trips, compCfg, compTesting, conv, now, cfg, filt]

/-- The outputs as they are told to close (R430, R443). -/
theorem closes_spec {s : State} : s.closes.curt = { s.energise.curt with
      kdrvb := !s.btrip && s.curt.b.estopA.high && s.curt.b.estopB.high && !s.curtainRoute && s.curt.b.open10 s.elapsed } ∧
    s.closes.curtStep = step.closeCheck ∧ s.closes.curtain = s.curtain ∧
    s.closes.get F.SCRUB_K_OPS_A_COUNT = min (s.get F.SCRUB_K_OPS_A_COUNT + 1) 0xFFFFFFFF ∧
    Kept [Reg.CURTAIN_STATUS, F.SCRUB_K_OPS_A_COUNT.addr] [.curt] s s.closes := by
  obtain ⟨x, hx⟩ : ∃ x, (s.setStep step.closeCheck).count F.SCRUB_K_OPS_A_COUNT = x := ⟨_, rfl⟩
  have shown : Kept [Reg.CURTAIN_STATUS, F.SCRUB_K_OPS_A_COUNT.addr] [] s x := hx ▸ Kept.rfl.set.count
  have curt : x.curt = s.curt := shown.2 .curt (by decide)
  have now : x.elapsed = s.elapsed := by rw [← hx, elapsed_count]; exact elapsed_set ..
  have trip : x.btrip = s.btrip := by
    rw [← hx]
    exact (bit_count_apart _ (by decide)).trans (bit_set_apart _ (by decide))
  have told : x.curtStep = step.closeCheck := by
    rw [← hx]
    exact (get_count_apart _ (by decide)).trans (get_set_of_lt _ (by decide) (by decide))
  have state : x.curtain = s.curtain := by
    rw [← hx]
    exact (get_count_apart _ (by decide)).trans (get_set_apart _ (by decide))
  have counted : x.get F.SCRUB_K_OPS_A_COUNT = min (s.get F.SCRUB_K_OPS_A_COUNT + 1) 0xFFFFFFFF := by
    rw [← hx, get_count_same _ (by decide), setStep, get_set_apart _ (by decide)]
    rfl
  have route : x.curtainRoute = s.curtainRoute := curtainRoute_of_kept shown now
  have energised : Kept [] [.curt] x x.energise := Kept.rfl.mapCurt
  have drive := x.energise.curt_judgeB
  have kept : Kept [] [.curt] x x.energise.judgeB := energised.trans (kept_judgeB _)
  have outputs : x.energise.curt = s.energise.curt := by
    rw [energise, energise, curt_mapCurt, curt_mapCurt, curt, now]
  have enabled : x.energise.driveB = (!s.btrip && s.curt.b.estopA.high && s.curt.b.estopB.high && !s.curtainRoute && s.curt.b.open10 s.elapsed) := by
    have same : x.energise.curtainRoute = s.curtainRoute := (curtainRoute_of_kept energised (elapsed_mapCurt ..)).trans route
    have still : x.energise.btrip = s.btrip := energised.bit.trans trip
    rw [driveB, same, still, outputs, energise, curt_mapCurt, Bool.true_and]
  have eq : s.closes = x.energise.judgeB := by rw [closes, hx]
  rw [eq]
  refine ⟨?_, kept.get.trans told, kept.get.trans state, kept.get.trans counted, (shown.mono (List.Subset.refl _) (by decide)).trans (kept.mono (List.nil_subset _))⟩
  rw [drive, enabled, outputs]

/-! The checks -/

theorem check_cameDown : s.cameDown.curt.check = s.curt.check := by
  have down : s.engCurtainDown.curt = s.curt := s.kept_engCurtainDown.2 .curt (by decide)
  unfold cameDown
  generalize s.engCurtainDown = x at down ⊢
  obtain ⟨y, hy⟩ : ∃ y, x.mapCurt (fun c => { c with waiting := [], energised := false, raisedFail := none }) = y := ⟨_, rfl⟩
  have off : y.curt.check = x.curt.check := hy ▸ rfl
  have ends : Kept [] [.host] y (y.each s.curt.waiting finishLower) := Kept.rfl.each fun d _ x h => h.trans (x.kept_finishLower d)
  have same : (y.each s.curt.waiting finishLower).curt = y.curt := ends.2 .curt (by decide)
  rw [hy, same, off, down]

theorem check_curtGoto (v w : Nat) : (s.curtGoto v w).curt.check = s.curt.check := by
  have shown : (s.curtShown v w).curt = s.curt := (s.kept_curtShown v w).2 .curt (by decide)
  rw [curtGoto_eq, ← shown]
  generalize s.curtShown v w = x
  have ended : (x.stopOver v).curt.check = x.curt.check := when_eq (fun y => y.curt.check) _ rfl
  rw [← ended]
  generalize x.stopOver v = y
  have told : (y.moveTold v).curt = y.curt := (y.kept_moveTold v).2 .curt (by decide)
  rw [← told]
  generalize y.moveTold v = z at told ⊢
  split
  · rw [told]
  · split
    · exact z.check_cameDown
    · rfl

/-- A raise completed is dated, counted and told (R441). -/
theorem curtGoto_raised {s : State} (change : s.curtain ≠ cur.raised) : (s.curtGoto cur.raised step.none).pair Reg.CURTAIN_LAST_LO = s.datum % 2 ^ 64 ∧
    (s.curtGoto cur.raised step.none).get F.CURTAIN_RAISES_COUNT = min (s.get F.CURTAIN_RAISES_COUNT + 1) 0xFFFFFFFF ∧
    Raised [(s.datum, 176, 0)] s (s.curtGoto cur.raised step.none) := by
  have shown := s.kept_curtShown cur.raised step.none
  rw [curtGoto_eq, if_neg change, if_neg (by decide)]
  generalize s.curtShown cur.raised step.none = x at shown ⊢
  have ended : Kept [Reg.CURTAIN_STATUS] [.curt] s (x.stopOver cur.raised) := (shown.mono (List.Subset.refl _)).trans (x.kept_stopOver _).mono
  generalize x.stopOver cur.raised = y at ended ⊢
  have datum : y.datum = s.datum := ended.2 .datum (by decide)
  have paired : (y.setPair Reg.CURTAIN_LAST_LO y.datum).pair Reg.CURTAIN_LAST_LO = y.datum % 2 ^ 64 := y.pair_setPair_mod ..
  have dated : Kept [Reg.CURTAIN_STATUS, Reg.CURTAIN_LAST_LO, Reg.CURTAIN_LAST_HI] [.curt] s (y.setPair Reg.CURTAIN_LAST_LO y.datum) := ended.mono.setPair
  unfold moveTold
  generalize y.setPair Reg.CURTAIN_LAST_LO y.datum = z at paired dated ⊢
  have told : Raised [(s.datum, 176, 0)] s (z.raise 176) := dated.raised
  have event : Kept [] [.router] z (z.raise 176) := Kept.rfl.raise
  generalize z.raise 176 = u at told event ⊢
  dsimp only
  have notLocked : (cur.raised == cur.locked) = false := rfl
  have isRaised : (cur.raised == cur.raised) = true := rfl
  rw [notLocked, isRaised, when_false, when_true]
  have counted : Kept [Reg.CURTAIN_RAISES] [] u (u.count F.CURTAIN_RAISES_COUNT) := Kept.rfl.count
  refine ⟨?_, ?_, told.kept counted⟩
  · rw [pair, counted.reg, counted.reg, event.reg, event.reg, ← pair, paired, datum]
  · rw [get_count_same _ (by decide), event.get, dated.get]
    rfl

/-- A contactor check in hand no more. -/
def checkEnded (s : State) : State := s.mapCurt fun c => { c with check := none }

theorem checkPassed_eq (closing : Bool) : s.checkPassed closing =
    if closing then s.checkEnded.when (s.checkEnded.curtain == cur.raising) (curtGoto cur.raised step.none)
    else s.checkEnded.when (s.checkEnded.curtain == cur.lowering && s.checkEnded.curtStep == step.openCheck) (curtGoto cur.lowered step.none) := rfl

theorem kept_checkPassed (closing : Bool) : Kept gotoRegs movedParts s (s.checkPassed closing) := by
  have ended : Kept gotoRegs movedParts s s.checkEnded := Kept.rfl.mapCurt
  rw [checkPassed_eq]
  generalize s.checkEnded = x at ended ⊢
  exact (ended.when fun h => h.trans (x.kept_curtGoto ..)).ite (ended.when fun h => h.trans (x.kept_curtGoto ..))

/-- A contactor check that passes (R438, R441). -/
theorem checkPassed_spec (closing : Bool) : (s.checkPassed closing).curt.check = none ∧
    (closing = true → s.curtain = cur.raising → (s.checkPassed closing).curtain = cur.raised ∧
      (s.checkPassed closing).pair Reg.CURTAIN_LAST_LO = s.datum % 2 ^ 64 ∧
      (s.checkPassed closing).get F.CURTAIN_RAISES_COUNT = min (s.get F.CURTAIN_RAISES_COUNT + 1) 0xFFFFFFFF ∧
      Raised [(s.datum, 176, 0)] s (s.checkPassed closing)) ∧
    (closing = false → s.curtain = cur.lowering → s.curtStep = step.openCheck → (s.checkPassed closing).curtain = cur.lowered) ∧
    (s.curtain ≠ cur.raising → s.curtain ≠ cur.lowering → Kept [] [.curt] s (s.checkPassed closing)) := by
  have ended : Kept [] [.curt] s s.checkEnded := Kept.rfl.mapCurt
  have gone : s.checkEnded.curt.check = none := rfl
  rw [checkPassed_eq]
  generalize s.checkEnded = x at ended gone ⊢
  have state : x.curtain = s.curtain := ended.get
  have atStep : x.curtStep = s.curtStep := ended.get
  have router : x.router = s.router := ended.2 .router (by decide)
  have datum : x.datum = s.datum := ended.2 .datum (by decide)
  rw [state, atStep]
  cases closing with
  | true =>
    rw [if_pos rfl]
    refine ⟨?_, fun _ raising => ?_, fun h => absurd h (by decide), fun other _ => ?_⟩
    · exact (when_eq (fun y => y.curt.check) _ (x.check_curtGoto ..)).trans gone
    · obtain ⟨paired, counted, told⟩ := curtGoto_raised (s := x) (by rw [state, raising]; decide)
      have isRaising : (s.curtain == cur.raising) = true := beq_iff_eq.2 raising
      rw [isRaising, when_true]
      refine ⟨curtain_curtGoto _ _ (by decide), by rw [paired, datum], by rw [counted, ended.get], ?_⟩
      rw [Raised, router, datum] at told
      exact told
    · have isOther : (s.curtain == cur.raising) = false := beq_eq_false_iff_ne.2 other
      rw [isOther, when_false]
      exact ended
  | false =>
    rw [if_neg (by decide)]
    refine ⟨?_, fun h => absurd h (by decide), fun _ lowering openCheck => ?_, fun _ other => ?_⟩
    · exact (when_eq (fun y => y.curt.check) _ (x.check_curtGoto ..)).trans gone
    · have both : (s.curtain == cur.lowering && s.curtStep == step.openCheck) = true := by rw [lowering, openCheck]; decide
      rw [both, when_true]
      exact curtain_curtGoto _ _ (by decide)
    · have isOther : (s.curtain == cur.lowering) = false := beq_eq_false_iff_ne.2 other
      rw [isOther, Bool.false_and, when_false]
      exact ended

end State

theorem execContactorCheck_eq (t : Nat) (s : State) : execContactorCheck t s = s.run t fun s =>
    match s.curt.check with
    | none => s
    | some k =>
      if k.failed || s.tableau || s.curt.cycle < k.start + s.checkWindow k / 2 then s
      else if s.feedbackReads (!k.closing) then s.checkPassed k.closing
      else (s.raise 180).mapCurt fun c => { c with check := some { k with failed := true } } := rfl

theorem execContactorRecheck_eq (t : Nat) (s : State) : execContactorRecheck t s = s.run t fun s =>
    match s.curt.check with
    | none => s
    | some k =>
      if !k.failed || s.tableau || s.curt.cycle + 2 * ms < k.start + s.checkWindow k then s
      else if s.feedbackReads (!k.closing) then (s.transient F.CURTAIN_TRANSIENT_COUNT).checkPassed k.closing
      else s.checkEnded.causeNow (if k.closing then 7 else 8) := rfl

/-- A closed feedback that failed is judged. -/
def State.raisedJudged (s : State) : State := s.mapCurt fun c => { c with raisedFail := none }

theorem execRaisedRecheck_eq (t : Nat) (s : State) : execRaisedRecheck t s = s.run t fun s =>
    match s.curt.raisedFail with
    | none => s
    | some tm =>
      if s.curtain ≠ cur.raised || s.tableau || s.curt.cycle < tm + s.checkClose / 2 then s
      else if s.raisedJudged.feedbackReads false then s.raisedJudged.transient F.CURTAIN_TRANSIENT_COUNT else s.raisedJudged.causeNow 9 := rfl

/-- Settles O32: the outputs, the checks and the causes, each by its own lemma. -/
theorem contactorSequence : Obligations.ContactorSequence := by
  refine ⟨?closes, ?unready, ?check, ?recheck, ?raised, ?gap⟩
  case closes =>
    intro s t a raising sync due live ready
    have now : s.advance t = a := rfl
    clear_value a
    obtain ⟨curt, told, state, counted, kept⟩ := State.closes_spec (s := a)
    refine completes_at (x := a.closes) ((exec_syncTime ..).trans (execSyncTime_eq ..)) now ?_ ?_
    · rw [if_pos (by simp [raising, sync, due, live]), if_pos ready]
    · refine ⟨?_, ?_, ?_, (State.get_settle ..).trans told, (State.get_settle ..).trans (state.trans raising), ?_, ?_, (State.get_settle ..).trans counted,
        kept.settled now⟩
      · rw [State.curt_settle, curt]
        rfl
      · rw [State.curt_settle, curt]
        rfl
      · rw [State.curt_settle, curt]
        rfl
      · rw [State.curt_settle, curt]
      · rw [State.curt_settle, curt]
        rfl
  case unready =>
    intro s t a raising sync due live unready before low
    have now : s.advance t = a := rfl
    clear_value a
    have cause := a.causeNow_H_raising (code := 13) rfl raising low before
    obtain ⟨state, disarmed, seen⟩ := (a.causeSeen 13).lowersNow_spec [(13, a.datum)]
    refine completes_at (x := a.causeNow 13) ((exec_syncTime ..).trans (execSyncTime_eq ..)) now ?_ ?_
    · rw [if_pos (by simp [raising, sync, due, live]), if_neg (by simp [unready])]
    · rw [cause]
      exact ⟨(State.ibit_settle ..).trans ((seen 12).trans (a.seen_causeSeen (code := 13) (by decide))), (State.get_settle ..).trans state,
        (State.bit_settle ..).trans disarmed⟩
  case check =>
    intro s t k a check first live due
    have now : s.advance t = a := rfl
    clear_value a
    have goes : ¬(k.failed || a.tableau || decide (a.curt.cycle < k.start + a.checkWindow k / 2)) = true := by
      simpa [first, live] using due
    have run := (exec_contactorCheck t s).trans (execContactorCheck_eq ..)
    cases reads : a.feedbackReads (!k.closing) with
    | true =>
      obtain ⟨gone, raised, lowered, other⟩ := a.checkPassed_spec k.closing
      refine completes_at (x := a.checkPassed k.closing) run now ?_ ⟨fun _ => ⟨?_, fun closes raising => ?_, fun opens lowering at_ => ?_, fun h h' => ?_⟩,
        fun h => absurd h (by decide)⟩
      · rw [check]
        dsimp only
        rw [if_neg goes, if_pos reads]
      · rw [State.curt_settle, gone]
      · obtain ⟨state, paired, counted, told⟩ := raised closes raising
        exact ⟨(State.get_settle ..).trans state, (State.pair_settle ..).trans paired, (State.get_settle ..).trans counted, told.settle⟩
      · exact (State.get_settle ..).trans (lowered opens lowering at_)
      · exact (other h h').settled now
    | false =>
      have told : Raised [(a.datum, 180, 0)] a (a.raise 180) := (Kept.rfl : Kept [] [] a a).raised
      have event : Kept [] [.curt, .router] a (a.raise 180) := Kept.rfl.raise
      have curt : (a.raise 180).curt = a.curt := State.curt_raise ..
      obtain ⟨y, hy⟩ : ∃ y, a.raise 180 = y := ⟨_, rfl⟩
      rw [hy] at told event curt
      refine completes_at (x := y.mapCurt fun c => { c with check := some { k with failed := true } }) run now ?_
        ⟨fun h => absurd h (by decide), fun _ => ⟨?_, (told.kept (regs := []) (parts := [.curt]) Kept.rfl.mapCurt).settle, event.mapCurt.settled now⟩⟩
      · rw [check]
        dsimp only
        rw [if_neg goes, if_neg (by simp [reads]), hy]
      · rw [State.curt_settle, State.curt_mapCurt, curt]
  case recheck =>
    intro s t k a check failed live due
    have now : s.advance t = a := rfl
    clear_value a
    have goes : ¬(!k.failed || a.tableau || decide (a.curt.cycle + 2 * ms < k.start + a.checkWindow k)) = true := by
      simpa [failed, live] using due
    have run := (exec_contactorRecheck t s).trans (execContactorRecheck_eq ..)
    cases reads : a.feedbackReads (!k.closing) with
    | true =>
      have counted : (a.transient F.CURTAIN_TRANSIENT_COUNT).get F.CURTAIN_TRANSIENT_COUNT = min (a.get F.CURTAIN_TRANSIENT_COUNT + 1) 0xFFFFFFFF :=
        (State.get_setIbit_apart _ (by decide)).trans (State.get_count_same _ (by decide))
      have kept : Kept [Reg.CURTAIN_TRANSIENT, Reg.SCRUB_FAULT_SEEN] [] a (a.transient F.CURTAIN_TRANSIENT_COUNT) := Kept.rfl.transient
      obtain ⟨y, hy⟩ : ∃ y, a.transient F.CURTAIN_TRANSIENT_COUNT = y := ⟨_, rfl⟩
      rw [hy] at counted kept
      have state : y.curtain = a.curtain := kept.get
      have atStep : y.curtStep = a.curtStep := kept.get
      obtain ⟨gone, raised, lowered, -⟩ := y.checkPassed_spec k.closing
      have transient : (y.checkPassed k.closing).get F.CURTAIN_TRANSIENT_COUNT = y.get F.CURTAIN_TRANSIENT_COUNT :=
        (y.kept_checkPassed k.closing).get (by decide)
      refine completes_at (x := y.checkPassed k.closing) run now ?_ ⟨fun _ => ⟨?_, ?_, fun closes raising => ?_, fun opens lowering at_ => ?_⟩,
        fun h => absurd h (by decide)⟩
      · rw [check]
        dsimp only
        rw [if_neg goes, if_pos reads, hy]
      · rw [State.get_settle, transient, counted]
      · rw [State.curt_settle, gone]
      · exact (State.get_settle ..).trans (raised closes (state.trans raising)).1
      · exact (State.get_settle ..).trans (lowered opens (state.trans lowering) (atStep.trans at_))
    | false =>
      have ended : Kept [] [.curt] a a.checkEnded := Kept.rfl.mapCurt
      have reaction : a.checkEnded.curt.reaction = a.curt.reaction := rfl
      obtain ⟨y, hy⟩ : ∃ y, a.checkEnded = y := ⟨_, rfl⟩
      rw [hy] at ended reaction
      have state : y.curtain = a.curtain := ended.get
      have range : 1 ≤ (if k.closing then 7 else 8) ∧ (if k.closing then 7 else 8) ≤ 12 := by cases k.closing <;> decide
      have bit : (if k.closing then 6 else 7) = (if k.closing then 7 else 8) - 1 := by cases k.closing <;> rfl
      obtain ⟨locks, seen, -⟩ := y.causeNow_S_spec range
      refine completes_at (x := y.causeNow (if k.closing then 7 else 8)) run now ?_ ⟨fun h => absurd h (by decide), fun _ => ⟨?_, ?_⟩⟩
      · rw [check]
        dsimp only
        rw [if_neg goes, if_neg (by simp [reads]), hy]
      · rw [State.ibit_settle, bit]
        exact seen
      · rw [reaction, state] at locks
        exact (State.get_settle ..).trans locks
  case raised =>
    intro s t x a fail raised live due
    have now : s.advance t = a := rfl
    clear_value a
    have goes : ¬(decide (a.curtain ≠ cur.raised) || a.tableau || decide (a.curt.cycle < x + a.checkClose / 2)) = true := by
      simpa [raised, live] using due
    have run := (exec_raisedRecheck t s).trans (execRaisedRecheck_eq ..)
    have judged : Kept [] [.curt] a a.raisedJudged := Kept.rfl.mapCurt
    have none : a.raisedJudged.curt.raisedFail = .none := rfl
    have reaction : a.raisedJudged.curt.reaction = a.curt.reaction := rfl
    have same : a.raisedJudged.feedbackReads false = a.feedbackReads false := rfl
    obtain ⟨y, hy⟩ : ∃ y, a.raisedJudged = y := ⟨_, rfl⟩
    rw [hy] at judged none reaction same
    have state : y.curtain = cur.raised := judged.get.trans raised
    cases reads : a.feedbackReads false with
    | true =>
      have counted : (y.transient F.CURTAIN_TRANSIENT_COUNT).get F.CURTAIN_TRANSIENT_COUNT = min (y.get F.CURTAIN_TRANSIENT_COUNT + 1) 0xFFFFFFFF :=
        (State.get_setIbit_apart _ (by decide)).trans (State.get_count_same _ (by decide))
      have kept : Kept [Reg.CURTAIN_TRANSIENT, Reg.SCRUB_FAULT_SEEN] [] y (y.transient F.CURTAIN_TRANSIENT_COUNT) := Kept.rfl.transient
      have curt : (y.transient F.CURTAIN_TRANSIENT_COUNT).curt = y.curt := kept.2 .curt (by decide)
      refine completes_at (x := y.transient F.CURTAIN_TRANSIENT_COUNT) run now ?_ ⟨?_, fun _ => ⟨?_, ?_, ?_⟩, fun h => absurd h (by decide)⟩
      · rw [fail]
        dsimp only
        rw [if_neg goes, hy, if_pos (same.trans reads)]
      · rw [State.curt_settle, curt, none]
      · exact (State.get_settle ..).trans (kept.get.trans state)
      · rw [State.get_settle, counted, judged.get]
      · exact ((judged.mono (List.nil_subset _) (by decide)).trans (kept.mono (List.Subset.refl _) (by decide))).settled now
    | false =>
      obtain ⟨locks, seen, quiet⟩ := y.causeNow_S_spec (code := 9) (by decide)
      refine completes_at (x := y.causeNow 9) run now ?_ ⟨?_, fun h => absurd h (by decide), fun _ => ⟨(State.ibit_settle ..).trans seen, ?_⟩⟩
      · rw [fail]
        dsimp only
        rw [if_neg goes, hy, if_neg (by simp [same, reads])]
      · rw [State.curt_settle]
        exact quiet.fail none
      · rw [reaction, state] at locks
        exact (State.get_settle ..).trans locks
  case gap =>
    intro s t a due
    have now : s.advance t = a := rfl
    clear_value a
    exact completes_at (x := a.setBit F.CURTAIN_HOLD_GAP false) (exec_raiseGap ..) now (if_pos due)
      ⟨(State.bit_settle ..).trans (State.bit_setBit_same _ (by decide) rfl), (Kept.rfl.setBit : Kept [Reg.CURTAIN_HOLD] [] a _).settled now⟩

end Sys2Proof.Machine

/-! PROOFS. The curtain's pins, as both channels take their changes (spec/10 R430 to R435, R451). -/

namespace Sys2Proof.Machine

set_option Elab.async false

/-- What the changes at the pins leave of the device: CURTAIN_STATUS but BTRIP, and with BTRIP high every loop halted if it was so before. -/
structure Pinned (a b : State) : Prop where
  kept : Kept State.latchRegs State.haltParts a b
  elapsed : b.elapsed = a.elapsed
  status : ∀ f, apart F.CURTAIN_STATUS_BTRIP f = true → apart F.CURTAIN_PINS_SSTAT f = true → f.addr ∉ haltRegs → b.get f = a.get f
  halted : (a.btrip = true → ∀ n, n < 4 → a.loopHalted n = true) → b.btrip = true → ∀ n, n < 4 → b.loopHalted n = true

namespace Pinned

variable {a b c : State}

theorem rfl' : Pinned a a := ⟨Kept.rfl, rfl, fun _ _ _ _ => rfl, id⟩

theorem trans (h : Pinned a b) (h' : Pinned b c) : Pinned a c :=
  ⟨h.kept.trans h'.kept, h'.elapsed.trans h.elapsed, fun f trip stat far => (h'.status f trip stat far).trans (h.status f trip stat far),
    fun before => h'.halted (h.halted before)⟩

/-- The curtain's part changed, and events. -/
theorem of_kept (h : Pinned a b) (k : Kept [] [.curt, .router] b c) (elapsed : c.elapsed = b.elapsed) : Pinned a c :=
  h.trans ⟨k.mono (List.nil_subset _) (by decide), elapsed, fun _ _ _ _ => k.get (List.not_mem_nil), fun before trip n small =>
    k.ibit.trans (before (k.bit.symm.trans trip) n small)⟩

theorem curt (h : Pinned a b) (x : Curt) : Pinned a { b with curt := x } := h.of_kept Kept.rfl.curt rfl

theorem mapCurt (h : Pinned a b) (f : Curt → Curt) : Pinned a (b.mapCurt f) := h.curt _

theorem raise (h : Pinned a b) (num inst : Nat) (unclassed : faultClass num inst = none) : Pinned a (b.raise num inst) :=
  h.of_kept (Kept.rfl.raise (unclassed := unclassed)) (State.elapsed_raise ..)

theorem ite {q : Prop} [Decidable q] {x y : State} (hx : Pinned a x) (hy : Pinned a y) : Pinned a (if q then x else y) := by
  split
  · exact hx
  · exact hy

theorem each {α : Type} {f : α → State → State} {l : List α} (hf : ∀ i x, Pinned x (f i x)) : Pinned a (a.each l f) := by
  induction l generalizing a with
  | nil => exact rfl'
  | cons i l ih => exact (hf i a).trans ih

end Pinned

namespace State

variable (s : State)

theorem pinned_judgeB : Pinned s s.judgeB := Pinned.rfl'.of_kept (s.kept_judgeB.mono) s.elapsed_judgeB

theorem pinned_latchB : Pinned s s.latchB := by
  refine ⟨s.kept_latchB, s.elapsed_latchB, fun f trip stat far => s.get_latchB trip stat far, fun before _ n small => ?_⟩
  cases trip : s.btrip with
  | false => exact loopHalted_latchB small trip
  | true =>
    have kept : Kept [Reg.CURTAIN_STATUS, Reg.CURTAIN_PINS] [.curt] s s.latchB := by
      rw [latchB_eq, if_pos trip]
      exact s.kept_latchShown.mono.trans (kept_judgeB _).mono
    exact kept.ibit.trans (before trip n small)

theorem pinned_clearB : Pinned s s.clearB := by
  have kept : Kept [Reg.CURTAIN_STATUS] [] s s.clearB := Kept.rfl.setBit
  refine ⟨kept.mono (by simp) (List.nil_subset _), elapsed_setBit .., fun f trip _ _ => get_setBit_apart _ trip, fun _ trip => ?_⟩
  have off : s.clearB.btrip = false := bit_setBit_same _ (by decide) rfl
  exact absurd (off.symm.trans trip) (by decide)

/-- One pin through channel B's filter. -/
def settlePinB (t : Nat) (p : CurtPin) (s : State) : State :=
  let w := s.curt.b.read p
  let n := w.settle (filterB p) t
  if n = w then s
  else
    let s := s.mapCurt fun c => { c with b := c.b.put n p }
    if (p = .estopA || p = .estopB) && n.low then s.latchB
    else if p = .sreset && w.low && n.high then
      let s := s.mapCurt fun c => { c with edgeB := some n.outSince }
      if s.curt.released.isSome && s.curt.resetCmd.isNone && !s.refusesB && s.btrip && !s.service then s.clearB else s
    else s

/-- One pin through channel A's filter. -/
def settlePinA (t : Nat) (p : CurtPin) (s : State) : State :=
  let w := s.curt.a.read p
  let n := w.settle (s.filterA p) t
  if n = w then s
  else
    let s := s.mapCurt fun c => { c with a := c.a.put n p }
    if (p = .estopA || p = .estopB) && n.low then
      (s.mapCurt fun c => { c with causes := c.causes ++ [(2, s.datum - (s.elapsed - n.since))] }).raise 178
    else if p = .sreset && w.low && n.high && s.curtainDown && !s.service then s.mapCurt fun c => { c with edgeA := true }
    else s

theorem settleB_eq (t : Nat) : s.settleB t = s.each allCurtPins (settlePinB t) := rfl

theorem settleA_eq (t : Nat) : s.settleA t = if !s.aRuns then s else s.each allCurtPins (settlePinA t) := rfl

theorem pinned_settlePinB (t : Nat) (p : CurtPin) : Pinned s (s.settlePinB t p) := by
  unfold settlePinB
  extract_lets w n x y
  have read : Pinned s x := Pinned.rfl'.mapCurt _
  clear_value x
  have edge : Pinned s y := read.mapCurt _
  clear_value y
  exact .ite .rfl' (.ite (read.trans x.pinned_latchB) (.ite (.ite (edge.trans y.pinned_clearB) edge) read))

theorem kept_settlePinA (t : Nat) (p : CurtPin) : Kept [] [.curt, .router] s (s.settlePinA t p) := by
  unfold settlePinA
  extract_lets w n x
  have read : Kept [] [.curt, .router] s x := Kept.rfl.mapCurt
  clear_value x
  exact .ite .rfl (.ite read.mapCurt.raise (.ite read.mapCurt read))

theorem elapsed_settlePinA (t : Nat) (p : CurtPin) : (s.settlePinA t p).elapsed = s.elapsed := by
  unfold settlePinA
  extract_lets w n x
  have read : x.elapsed = s.elapsed := rfl
  clear_value x
  split
  · rfl
  · split
    · exact (elapsed_raise ..).trans read
    · split
      · exact read
      · exact read

theorem pinned_settlePinA (t : Nat) (p : CurtPin) : Pinned s (s.settlePinA t p) :=
  Pinned.rfl'.of_kept (s.kept_settlePinA t p) (s.elapsed_settlePinA t p)

theorem pinned_settleB (t : Nat) : Pinned s (s.settleB t) := by
  rw [settleB_eq]
  exact .each fun p x => x.pinned_settlePinB t p

theorem pinned_settleA (t : Nat) : Pinned s (s.settleA t) := by
  rw [settleA_eq]
  exact .ite .rfl' (.each fun p x => x.pinned_settlePinA t p)

theorem pinned_settlePins (t : Nat) : Pinned s (s.settlePins t) := (s.pinned_settleB t).trans (pinned_settleA _ t)

theorem pinned_takeEdge (e : PinEdge) : Pinned s (s.takeEdge e) := by
  unfold takeEdge
  extract_lets t x
  have settled : Pinned s x := s.pinned_settlePins t
  clear_value x
  exact settled.mapCurt _

/-- The readings of both channels with the pins' changes. -/
def pinsTaken (edges : List PinEdge) (s : State) : State := ((s.each edges takeEdge).settlePins s.elapsed).judgeB

theorem pinned_pinsTaken (edges : List PinEdge) : Pinned s (s.pinsTaken edges) := by
  have edged : Pinned s (s.each edges takeEdge) := .each fun e x => x.pinned_takeEdge e
  have settled := edged.trans (pinned_settlePins _ s.elapsed)
  unfold pinsTaken
  generalize (s.each edges takeEdge).settlePins s.elapsed = x at settled ⊢
  exact settled.trans x.pinned_judgeB

/-- Channel B's refusal noted. -/
def refusalNoted (refuses : Bool) (s : State) : State := s.mapCurt fun c => { c with refuseB := refuses }

theorem takePins_eq (edges : List PinEdge) : s.takePins edges = (s.pinsTaken edges).refusalNoted (s.pinsTaken edges).refusesB := by
  unfold takePins pinsTaken
  dsimp only
  generalize (s.each edges takeEdge).settlePins s.elapsed = x
  rfl

theorem pinned_takePins (edges : List PinEdge) : Pinned s (s.takePins edges) := by
  rw [takePins_eq]
  exact (s.pinned_pinsTaken edges).mapCurt _

end State

end Sys2Proof.Machine

/-! PROOFS. Channel A's watches, SAFETY_PARAM's check, and channel B's latch (spec/10 R431, R436, R446, R455, R460, R461). -/

namespace Sys2Proof.Machine

set_option Elab.async false

namespace State

variable (s : State)

/-! The E-stop discrepancy -/

/-- The discrepancy told. -/
def discTold (s : State) : State := (s.mapCurt fun c => { c with discRaised := true }).raise 179

/-! SAFETY_PARAM -/

theorem kept_upset (u : TableUpset) : Kept [] [.tables] s (s.upset u) := by
  unfold upset
  extract_lets m put
  exact Kept.rfl.tables.ite Kept.rfl

theorem kept_upsets (l : List TableUpset) : Kept [] [.tables] s (s.each l upset) := Kept.rfl.each fun u _ x h => h.trans (x.kept_upset u)

/-- The working copy of SAFETY_PARAM taken from the stored copy (R460). -/
def paramMended (s : State) : State := s.setTableWork tid.safetyParam { s.tableMem tid.safetyParam with work := (s.tableMem tid.safetyParam).stored }

/-- SAFETY_PARAM lost. -/
def paramLost (s : State) : State := (((s.setBit F.CURTAIN_STATUS_PARAM_OK false).setTableOk tid.safetyParam false).raise 185).curtCause 10

theorem checkParam_eq : s.checkParam = if !s.paramOk || s.paramCrcOk then (s, false)
    else if s.paramMended.paramCrcOk then (s.paramMended.transient F.CURTAIN_TRANSIENT_COUNT, false) else (s.paramMended.paramLost, true) := rfl

theorem checkParam_right {s : State} (right : s.paramOk = false ∨ s.paramCrcOk = true) : s.checkParam.1 = s := by
  rw [checkParam_eq, if_pos (by simpa using right)]

theorem checkParam_mended {s : State} (ok : s.paramOk = true) (wrong : s.paramCrcOk = false) (mended : s.paramMended.paramCrcOk = true) :
    s.checkParam.1 = s.paramMended.transient F.CURTAIN_TRANSIENT_COUNT := by
  rw [checkParam_eq, if_neg (by simp [ok, wrong]), if_pos mended]

theorem checkParam_lost {s : State} (ok : s.paramOk = true) (wrong : s.paramCrcOk = false) (lost : s.paramMended.paramCrcOk = false) :
    s.checkParam.1 = s.paramMended.paramLost := by
  rw [checkParam_eq, if_neg (by simp [ok, wrong]), if_neg (by simp [lost])]

theorem kept_paramMended : Kept [] [.tables] s s.paramMended := Kept.rfl.tables

theorem paramCrcOk_of_tables {a b : State} (tables : b.tables = a.tables) : b.paramCrcOk = a.paramCrcOk := by
  have bytes : b.tblBytes = a.tblBytes := by
    funext id off n
    simp only [tblBytes, tbl8, tableMem, tables]
  have word : b.tbl32 = a.tbl32 := by
    funext id off
    simp only [tbl32, tbl16, tbl8, tableMem, tables]
  rw [paramCrcOk, paramCrcOk, bytes, word]

/-- SAFETY_PARAM lost is told, and is cause 10 for the next cycle. -/
theorem paramLost_spec : s.paramLost.paramOk = false ∧ s.paramLost.tableOk tid.safetyParam = false ∧
    s.paramLost.curt = { s.curt with causes := s.curt.causes ++ [(10, s.datum)] } ∧ Raised [(s.datum, 185, 0)] s s.paramLost ∧
    Kept [Reg.CURTAIN_STATUS, Reg.HOST_TABLE_OK, Reg.SCRUB_FAULT_SEEN] [.curt, .router] s s.paramLost := by
  obtain ⟨x, hx⟩ : ∃ x, s.setBit F.CURTAIN_STATUS_PARAM_OK false = x := ⟨_, rfl⟩
  have off : x.paramOk = false := hx ▸ bit_setBit_same _ (by decide) rfl
  have cleared : Kept [Reg.CURTAIN_STATUS] [] s x := hx ▸ Kept.rfl.setBit
  obtain ⟨y, hy⟩ : ∃ y, x.setTableOk tid.safetyParam false = y := ⟨_, rfl⟩
  have gone : y.tableOk tid.safetyParam = false := hy ▸ x.ibit_setIbit_same (by decide) (by decide)
  have table : Kept [Reg.HOST_TABLE_OK] [] x y := hy ▸ Kept.rfl.setIbit
  have both : Kept [Reg.CURTAIN_STATUS, Reg.HOST_TABLE_OK] [] s y := cleared.mono.trans table.mono
  have told : Raised [(s.datum, 185, 0)] s (y.raise 185) := both.raised
  have event : Kept [Reg.SCRUB_FAULT_SEEN] [.router] y (y.raise 185) := Kept.rfl.raiseFault
  have curt : (y.raise 185).curt = s.curt := by rw [curt_raise, (both.2 .curt (by decide) : y.curt = s.curt)]
  have datum : (y.raise 185).datum = s.datum := by rw [datum_raise, (both.2 .datum (by decide) : y.datum = s.datum)]
  obtain ⟨z, hz⟩ : ∃ z, y.raise 185 = z := ⟨_, rfl⟩
  rw [hz] at told event curt datum
  have eq : s.paramLost = z.curtCause 10 := by rw [paramLost, hx, hy, hz]
  have cause := z.kept_curtCause 10
  rw [eq]
  refine ⟨?_, ?_, ?_, told.kept cause, ?_⟩
  · exact (cause.bit.trans (event.bit.trans table.bit)).trans off
  · exact (cause.ibit.trans event.ibit).trans gone
  · rw [curtCause, curt, datum]
  · exact ((both.mono (by decide) (by decide)).trans (event.mono (by decide) (by decide))).trans (cause.mono (by decide) (by decide))

end State

/-! Tables as a command leaves them -/

/-- Each table memory of a list rebuilt reads as it did. -/
theorem Sparse.get_map_canon (m : SMap TableMem) (id : Nat) :
    Sparse.get (fun _ => ({} : TableMem)) (m.map fun e => (e.1, e.2.canon e.1)) id = (Sparse.get (fun _ => ({} : TableMem)) m id).canon id := by
  induction m with
  | nil => rfl
  | cons e m ih =>
    obtain ⟨k, x⟩ := e
    by_cases same : k = id
    · subst same
      simp [Sparse.get]
    · simpa [Sparse.get, same] using ih

namespace State

/-- A table's bytes read the same once a command has settled. -/
theorem tbl8_settle (s a x : State) : (s.settle a x).tbl8 = x.tbl8 := by
  funext id off
  by_cases same : x.tables = s.tables
  · have tables : (s.settle a x).tables = x.tables := (s.tables_settle a x same).trans same.symm
    simp only [tbl8, tableMem, tables]
  · have tables : (s.settle a x).tables = canonTables x.tables := if_neg same
    simp only [tbl8, tableMem, tables, canonTables, Sparse.get_canon]
    rw [Sparse.get_map_canon, TableMem.canon]
    simp only [Sparse.get_canon]

theorem tblBytes_settle (s a x : State) (id off n : Nat) : (s.settle a x).tblBytes id off n = x.tblBytes id off n := by
  rw [tblBytes, tbl8_settle, tblBytes]

theorem paramCrcOk_settle (s a x : State) : (s.settle a x).paramCrcOk = x.paramCrcOk := by
  simp only [paramCrcOk, tblBytes_settle, tbl32, tbl16, tbl8_settle]

end State

/-- Channel B's latch, whatever sets it (R431): `m` is the state it is set in. -/
theorem latchB_clause {s a m : State} (trip : a.btrip = false → m.btrip = true → ∀ n, n < 4 → m.loopHalted n = true)
    (datum : m.datum = a.datum) : (s.settle a m.latchB).btrip = true ∧ (s.settle a m.latchB).curt.kdrvb = false ∧
      (s.settle a m.latchB).bit F.CURTAIN_PINS_SSTAT = false ∧
      (a.btrip = false → ∀ n, n < 4 → (s.settle a m.latchB).loopHalted n = true) ∧ (s.settle a m.latchB).curt.kdrva = m.curt.kdrva ∧
      (s.settle a m.latchB).curtain = m.curtain ∧ (m.curtainUp = false → (s.settle a m.latchB).curt.causes = m.curt.causes) ∧
      (∀ e ∈ (s.settle a m.latchB).curt.causes, e ∈ m.curt.causes ∨ e = (16, a.datum)) := by
  obtain ⟨l, at_, change, curt, causes, down⟩ := m.curt_latchB
  have pinned := m.pinned_latchB
  have latched := m.btrip_latchB
  have stat := m.sstat_latchB
  have state := m.curtain_latchB
  generalize m.latchB = x at curt pinned latched stat state ⊢
  have curtS : (s.settle a x).curt = x.curt := State.curt_settle ..
  rw [curtS, curt]
  refine ⟨(State.bit_settle ..).trans latched, rfl, (State.bit_settle ..).trans stat, fun before n small => ?_, rfl, (State.get_settle ..).trans state,
    fun low => ?_, fun e mem => ?_⟩
  · exact (State.ibit_settle ..).trans (pinned.halted (trip before) latched n small)
  · dsimp only
    rw [down low, List.append_nil]
  · rw [← datum]
    exact (List.mem_append.1 mem).imp_right (causes e)

theorem execEstopDisc_eq (t : Nat) (s : State) : execEstopDisc t s = s.run t fun s =>
    if s.due s.estopDiff s.estopDisc && s.paramOk && !s.curt.discRaised && !s.tableau then s.discTold.causeNow 3 else s := rfl

/-- Settles O33: channel A's watches, SAFETY_PARAM's check by its three outcomes, and channel B's latch. -/
theorem curtainChecksAndChannelB : Obligations.CurtainChecksAndChannelB := by
  refine ⟨?discrepancy, ?stuck, ?param, ?rom, ?latch, ?heartbeat, ?toggles, ?low⟩
  case discrepancy =>
    intro s t a due ok fresh live
    have now : s.advance t = a := rfl
    clear_value a
    obtain ⟨y, hy⟩ : ∃ y, a.mapCurt (fun c => { c with discRaised := true }) = y := ⟨_, rfl⟩
    have noted : Kept [] [.curt] a y := hy ▸ Kept.rfl.mapCurt
    have curt : y.curt = { a.curt with discRaised := true } := hy ▸ rfl
    obtain ⟨z, hz⟩ : ∃ z, y.raise 179 = z := ⟨_, rfl⟩
    have event : Kept [] [.router] y z := hz ▸ Kept.rfl.raise
    have told : Raised [(a.datum, 179, 0)] a z := hz ▸ noted.raised
    have curtZ : z.curt = { a.curt with discRaised := true } := by rw [← hz, State.curt_raise, curt]
    have state : z.curtain = a.curtain := event.get.trans noted.get
    obtain ⟨locks, seen, quiet⟩ := z.causeNow_S_spec (code := 3) (by decide)
    refine completes_at (x := z.causeNow 3) ((exec_estopDisc ..).trans (execEstopDisc_eq ..)) now ?_ ⟨?_, (State.ibit_settle ..).trans seen, ?_, ?_⟩
    · rw [if_pos (by simp [due, ok, fresh, live]), State.discTold, hy, hz]
    · rw [State.curt_settle, quiet.told, curtZ]
    · rw [curtZ, state] at locks
      exact (State.get_settle ..).trans locks
    · obtain ⟨l, more⟩ := quiet.raises.reports
      refine ⟨l, ?_⟩
      rw [State.router_settle, more, told]
      simp
  case stuck =>
    intro s t a due ok rehearsal fresh live
    have now : s.advance t = a := rfl
    clear_value a
    obtain ⟨y, hy⟩ : ∃ y, a.mapCurt (fun c => { c with stuckRaised := true }) = y := ⟨_, rfl⟩
    have noted : Kept [] [.curt] a y := hy ▸ Kept.rfl.mapCurt
    have curt : y.curt = { a.curt with stuckRaised := true } := hy ▸ rfl
    have told : Raised [(a.datum, 184, 0)] a (y.raise 184) := noted.raised
    refine completes_at (x := y.raise 184) (exec_sresetStuck ..) now ?_
      ⟨by rw [State.curt_settle, State.curt_raise, curt], told.settle, (noted.mono.raise : Kept [] [.curt, .router] a _).settled now⟩
    rw [if_pos (by simp [due, ok, rehearsal, fresh, live]), hy]
  case param =>
    intro s t us a m mem stored live
    have now : s.advance t = a := rfl
    have keptM : Kept [] [.tables] a m := a.kept_upsets _
    have effect : ∀ x, m.checkParam.1 = x → (if m.tableau then m else m.checkParam.1) = x := by
      have liveM : m.tableau = false := keptM.bit.trans live
      intro x eq
      rw [liveM, if_neg (by decide), eq]
    have run := exec_paramCheck t us s
    have mended : stored = m.paramMended := rfl
    have datum : m.datum = a.datum := keptM.2 .datum (by decide)
    have curt : m.curt = a.curt := keptM.2 .curt (by decide)
    have router : m.router = a.router := keptM.2 .router (by decide)
    rw [mended]
    have hm : a.each (us.filter fun u => u.id == tid.safetyParam) State.upset = m := rfl
    clear_value a
    have run' : exec (.paramCheck t us) s = s.run t fun s => (fun m : State => if m.tableau then m else m.checkParam.1)
        (s.each (us.filter fun u => u.id == tid.safetyParam) State.upset) := run
    clear run
    have reach (x : State) (eq : m.checkParam.1 = x) : (fun s : State => (fun m : State => if m.tableau then m else m.checkParam.1)
        (s.each (us.filter fun u => u.id == tid.safetyParam) State.upset)) a = x := by
      beta_reduce
      rw [hm]
      exact effect x eq
    clear_value m
    by_cases right : m.paramOk = false ∨ m.paramCrcOk = true
    · refine completes_at (x := m) run' now (reach m (State.checkParam_right right)) ⟨fun _ => ⟨keptM.settled now, ?_⟩, fun ok wrong _ => ?_, fun ok wrong _ => ?_⟩
      · exact State.tblBytes_settle ..
      · simp [ok, wrong] at right
      · simp [ok, wrong] at right
    · have ok : m.paramOk = true := by simpa using fun h => right (Or.inl h)
      have wrong : m.paramCrcOk = false := by simpa using fun h => right (Or.inr h)
      have work : Kept [] [.tables] a m.paramMended := keptM.trans m.kept_paramMended
      cases good : m.paramMended.paramCrcOk with
      | true =>
        have eq := State.checkParam_mended ok wrong good
        generalize m.paramMended = x at work good eq
        have counted : (x.transient F.CURTAIN_TRANSIENT_COUNT).get F.CURTAIN_TRANSIENT_COUNT = min (x.get F.CURTAIN_TRANSIENT_COUNT + 1) 0xFFFFFFFF :=
          (State.get_setIbit_apart _ (by decide)).trans (State.get_count_same _ (by decide))
        have kept : Kept [Reg.CURTAIN_TRANSIENT, Reg.SCRUB_FAULT_SEEN] [] x (x.transient F.CURTAIN_TRANSIENT_COUNT) := Kept.rfl.transient
        generalize x.transient F.CURTAIN_TRANSIENT_COUNT = y at counted kept eq
        have still : m.paramOk = a.paramOk := keptM.bit
        refine completes_at (x := y) run' now (reach y eq) ⟨fun h => absurd h right, fun _ _ _ => ⟨?_, ?_, ?_, ?_⟩, fun _ _ h => absurd h (by decide)⟩
        · exact (State.paramCrcOk_settle ..).trans ((State.paramCrcOk_of_tables (kept.2 .tables (by decide))).trans good)
        · exact (State.bit_settle ..).trans (kept.bit.trans (work.bit.trans (still.symm.trans ok)))
        · rw [State.get_settle, counted, work.get]
        · exact ((work.mono (List.nil_subset _)).trans (kept.mono (List.Subset.refl _) (by decide))).settled now
      | false =>
        have eq := State.checkParam_lost ok wrong good
        generalize m.paramMended = x at work eq
        obtain ⟨off, gone, causes, told, kept⟩ := x.paramLost_spec
        generalize x.paramLost = y at off gone causes told kept eq
        have curtX : x.curt = a.curt := work.2 .curt (by decide)
        have datumX : x.datum = a.datum := work.2 .datum (by decide)
        have routerX : x.router = a.router := work.2 .router (by decide)
        refine completes_at (x := y) run' now (reach y eq) ⟨fun h => absurd h right, fun _ _ h => absurd h (by decide), fun _ _ _ => ⟨?_, ?_, ?_, ?_, ?_⟩⟩
        · exact (State.bit_settle ..).trans off
        · exact (State.ibit_settle ..).trans gone
        · rw [State.curt_settle, causes, curtX, datumX]
        · rw [Raised, datumX, routerX] at told
          exact told
        · exact ((work.mono (List.nil_subset _) (by decide)).trans (kept.mono (List.Subset.refl _) (by decide))).settled now
  case rom =>
    intro s t ok a live
    have now : s.advance t = a := rfl
    clear_value a
    cases ok with
    | true =>
      refine completes_at (x := a) (exec_romCheck ..) now ?_ ⟨fun _ => Kept.rfl.settled now, fun h => absurd h (by decide)⟩
      rw [live]
      rfl
    | false =>
      refine completes_at (x := a.curtCause 11) (exec_romCheck ..) now ?_ ⟨fun h => absurd h (by decide), fun _ => ⟨rfl, (a.kept_curtCause 11).settled now⟩⟩
      rw [live]
      rfl
  case latch =>
    intro s t edges a m on
    have now : s.advance t = a := rfl
    have pinned : Pinned a m := a.pinned_takePins edges
    have datum : m.datum = a.datum := pinned.kept.2 .datum (by decide)
    have tables : m.tables = a.tables := pinned.kept.2 .tables (by decide)
    have hm : a.takePins edges = m := rfl
    clear_value a
    have effect : (if m.curt.b.estopA.low || m.curt.b.estopB.low || m.curtainRoute || m.curt.tripa then m.latchB else m) = if on then m.latchB else m := rfl
    clear_value m
    have run := exec_channelBLatch t edges s
    cases h : on with
    | true =>
      refine completes_at (x := m.latchB) run now ?_ ⟨fun _ => latchB_clause (fun low => pinned.halted fun high => ?_) datum, fun h => absurd h (by decide)⟩
      · simp only [hm, effect, h, if_true]
      · exact absurd (low.symm.trans high) (by decide)
    | false =>
      refine completes_at (x := m) run now ?_ ⟨fun h => absurd h (by decide), fun _ => ?_⟩
      · simp only [hm, effect, h, Bool.false_eq_true, if_false]
      · exact State.kept_settle_self (tables.trans (congrArg State.tables now).symm)
  case heartbeat =>
    intro s t a due live started
    have now : s.advance t = a := rfl
    clear_value a
    have silent : (a.expired a.curt.lastHb (3 * ms) && !a.tableau && !a.power.startDue) = true := by
      rw [live, started, State.expired, decide_eq_true due]
      rfl
    refine completes_at (x := a.latchB) (exec_heartbeatLoss ..) now (if_pos silent) (latchB_clause (fun low high => ?_) rfl)
    exact absurd (low.symm.trans high) (by decide)
  case toggles =>
    intro s t a low started
    have now : s.advance t = a := rfl
    clear_value a
    have runs : ¬(a.btrip || a.power.startDue) = true := by simp [low, started]
    split
    next due =>
      obtain ⟨y, hy⟩ : ∃ y, a.setBit F.CURTAIN_PINS_SSTAT (!a.bit F.CURTAIN_PINS_SSTAT) = y := ⟨_, rfl⟩
      have shown : Kept [Reg.CURTAIN_PINS] [] a y := hy ▸ Kept.rfl.setBit
      have turned : y.bit F.CURTAIN_PINS_SSTAT = !a.bit F.CURTAIN_PINS_SSTAT := hy ▸ State.bit_setBit_same _ (by decide) rfl
      have curt : y.curt = a.curt := shown.2 .curt (by decide)
      have time : y.elapsed = a.elapsed := hy ▸ State.elapsed_setBit ..
      have dated : Kept [] [.curt] y (y.mapCurt fun c => { c with sstatAt := y.elapsed }) := Kept.rfl.mapCurt
      refine completes_at (x := y.mapCurt fun c => { c with sstatAt := y.elapsed }) (exec_sstatToggle ..) now ?_
        ⟨(State.bit_settle ..).trans (dated.bit.trans turned), ?_, (shown.mono.trans dated.mono).settled now⟩
      · rw [if_neg runs, if_pos (show a.expired a.curt.sstatAt 950000 = true from decide_eq_true due), hy, time]
      · rw [State.curt_settle, State.curt_mapCurt, curt, time]
    next early =>
      refine completes_at (x := a) (exec_sstatToggle ..) now ?_ (Kept.rfl.settled now)
      rw [if_neg runs, if_neg (by simpa [State.expired] using early)]
  case low =>
    intro s t a high
    have now : s.advance t = a := rfl
    clear_value a
    exact completes_at (x := a.setBit F.CURTAIN_PINS_SSTAT false) (exec_sstatToggle ..) now (if_pos (by simpa using high))
      ⟨(State.bit_settle ..).trans (State.bit_setBit_same _ (by decide) rfl), (Kept.rfl.setBit : Kept [Reg.CURTAIN_PINS] [] a _).settled now⟩

end Sys2Proof.Machine

/-! PROOFS. What the channels read at the pins, through their filters (spec/10 R430, R435, R451). -/

namespace Sys2Proof.Machine

set_option Elab.async false

theorem Readings.read_put_same (r : Readings) (w : Watch) (p : CurtPin) : (r.put w p).read p = w := by
  cases p <;> rfl

theorem Readings.read_put_of_ne (r : Readings) (w : Watch) {p q : CurtPin} (h : q ≠ p) : (r.put w p).read q = r.read q := by
  cases p <;> cases q <;> simp_all [Readings.put, Readings.read]

namespace Watch

/-- A filter takes nothing of the level at the pin nor of its instant. -/
theorem settle_raw (d t : Nat) (w : Watch) : (w.settle d t).raw = w.raw ∧ (w.settle d t).since = w.since := by
  unfold settle
  split <;> exact ⟨rfl, rfl⟩

/-- A level that has lasted its filter's time is recognised. -/
theorem settle_lasting {d t : Nat} {w : Watch} (fresh : w.out ≠ some w.raw) (lasts : w.since + d ≤ t) :
    w.settle d t = { w with out := some w.raw, outSince := w.since + d } :=
  if_pos (by simpa [stable] using ⟨fresh, lasts⟩)

/-- A filter that recognises a new level recognises the one at the pin. -/
theorem settle_low_of_ne {d t : Nat} {w : Watch} (high : w.raw = true) (new : w.settle d t ≠ w) : (w.settle d t).low = false := by
  unfold settle at new ⊢
  split
  · simp [low, high]
  · next same => exact absurd (if_neg same) new

end Watch

namespace State

variable (s : State)

/-! The curtain's part after a pin has been filtered -/

/-- Channel B's filter of a pin touches neither channel A's readings nor the release in hand; of the other pins it touches no reading. -/
structure SettledB (p : CurtPin) (x y : Curt) : Prop where
  a : y.a = x.a
  edgeA : y.edgeA = x.edgeA
  others : ∀ q, q ≠ p → y.b.read q = x.b.read q
  raw : (y.b.read p).raw = (x.b.read p).raw
  since : (y.b.read p).since = (x.b.read p).since
  edgeB : p ≠ .sreset → y.edgeB = x.edgeB
  released : y.released = x.released
  resetCmd : y.resetCmd = x.resetCmd

theorem settledB_latchB {p : CurtPin} {x : Curt} (h : SettledB p x s.curt) : SettledB p x s.latchB.curt := by
  obtain ⟨l, at_, change, curt, -⟩ := s.curt_latchB
  rw [curt]
  exact ⟨h.a, h.edgeA, h.others, h.raw, h.since, h.edgeB, h.released, h.resetCmd⟩

/-- A pin read by channel B. -/
def putB (n : Watch) (p : CurtPin) (s : State) : State := s.mapCurt fun c => { c with b := c.b.put n p }

/-- A pin read by channel A. -/
def putA (n : Watch) (p : CurtPin) (s : State) : State := s.mapCurt fun c => { c with a := c.a.put n p }

theorem settledB_putB (t : Nat) (p : CurtPin) : SettledB p s.curt (s.putB ((s.curt.b.read p).settle (filterB p) t) p).curt := by
  obtain ⟨raw, since⟩ := Watch.settle_raw (filterB p) t (s.curt.b.read p)
  have read : (s.putB ((s.curt.b.read p).settle (filterB p) t) p).curt.b.read p = (s.curt.b.read p).settle (filterB p) t := Readings.read_put_same ..
  exact ⟨rfl, rfl, fun q ne => Readings.read_put_of_ne _ _ ne, by rw [read, raw], by rw [read, since], fun _ => rfl, rfl, rfl⟩

theorem settledB_settlePinB (t : Nat) (p : CurtPin) : SettledB p s.curt (s.settlePinB t p).curt := by
  have same : SettledB p s.curt s.curt := ⟨rfl, rfl, fun _ _ => rfl, rfl, rfl, fun _ => rfl, rfl, rfl⟩
  have put := s.settledB_putB t p
  unfold settlePinB
  extract_lets w n x y
  have putX : SettledB p s.curt x.curt := put
  have edge : y.curt = { x.curt with edgeB := some n.outSince } := rfl
  clear_value x y
  split
  · exact same
  · split
    · exact x.settledB_latchB putX
    · split
      · next rises =>
        have sreset : p = .sreset := by
          simp only [Bool.and_eq_true, decide_eq_true_eq] at rises
          exact rises.1.1
        have putY : SettledB p s.curt y.curt := by
          rw [edge]
          exact ⟨putX.a, putX.edgeA, putX.others, putX.raw, putX.since, fun ne => absurd sreset ne, putX.released, putX.resetCmd⟩
        split
        · have clear : y.clearB.curt = y.curt := curt_setBit ..
          rwa [clear]
        · exact putY
      · exact putX

/-- Channel A's filter of a pin touches no reading of channel B, and of the other pins no reading. -/
structure SettledA (p : CurtPin) (x y : Curt) : Prop where
  b : y.b = x.b
  edgeB : y.edgeB = x.edgeB
  others : ∀ q, q ≠ p → y.a.read q = x.a.read q
  raw : (y.a.read p).raw = (x.a.read p).raw
  since : (y.a.read p).since = (x.a.read p).since
  edgeA : p ≠ .sreset → y.edgeA = x.edgeA

theorem settledA_settlePinA (t : Nat) (p : CurtPin) : SettledA p s.curt (s.settlePinA t p).curt := by
  have same : SettledA p s.curt s.curt := ⟨rfl, rfl, fun _ _ => rfl, rfl, rfl, fun _ => rfl⟩
  have put : SettledA p s.curt (s.putA ((s.curt.a.read p).settle (s.filterA p) t) p).curt := by
    obtain ⟨raw, since⟩ := Watch.settle_raw (s.filterA p) t (s.curt.a.read p)
    have read : (s.putA ((s.curt.a.read p).settle (s.filterA p) t) p).curt.a.read p = (s.curt.a.read p).settle (s.filterA p) t :=
      Readings.read_put_same ..
    exact ⟨rfl, rfl, fun q ne => Readings.read_put_of_ne _ _ ne, by rw [read, raw], by rw [read, since], fun _ => rfl⟩
  unfold settlePinA
  extract_lets w n x
  have putX : SettledA p s.curt x.curt := put
  clear_value x
  split
  · exact same
  · split
    · rw [curt_raise]
      exact ⟨putX.b, putX.edgeB, putX.others, putX.raw, putX.since, putX.edgeA⟩
    · split
      · next rises =>
        have sreset : p = .sreset := by
          simp only [Bool.and_eq_true, decide_eq_true_eq] at rises
          exact rises.1.1.1.1
        exact ⟨putX.b, putX.edgeB, putX.others, putX.raw, putX.since, fun ne => absurd sreset ne⟩
      · exact putX

/-! The levels at the pins -/

/-- Both channels read the same levels since the same instants. -/
def SameLevels (x y : Curt) : Prop := ∀ q, ((y.a.read q).raw = (x.a.read q).raw ∧ (y.a.read q).since = (x.a.read q).since) ∧
  (y.b.read q).raw = (x.b.read q).raw ∧ (y.b.read q).since = (x.b.read q).since

theorem SameLevels.rfl' {x : Curt} : SameLevels x x := fun _ => ⟨⟨rfl, rfl⟩, rfl, rfl⟩

theorem SameLevels.trans {x y z : Curt} (h : SameLevels x y) (h' : SameLevels y z) : SameLevels x z := fun q =>
  ⟨⟨(h' q).1.1.trans (h q).1.1, (h' q).1.2.trans (h q).1.2⟩, (h' q).2.1.trans (h q).2.1, (h' q).2.2.trans (h q).2.2⟩

theorem SettledB.sameLevels {p : CurtPin} {x y : Curt} (h : SettledB p x y) : SameLevels x y := fun q => by
  by_cases same : q = p
  · subst same
    exact ⟨⟨by rw [h.a], by rw [h.a]⟩, h.raw, h.since⟩
  · exact ⟨⟨by rw [h.a], by rw [h.a]⟩, by rw [h.others q same], by rw [h.others q same]⟩

theorem SettledA.sameLevels {p : CurtPin} {x y : Curt} (h : SettledA p x y) : SameLevels x y := fun q => by
  by_cases same : q = p
  · subst same
    exact ⟨⟨h.raw, h.since⟩, by rw [h.b], by rw [h.b]⟩
  · exact ⟨⟨by rw [h.others q same], by rw [h.others q same]⟩, by rw [h.b], by rw [h.b]⟩

theorem sameLevels_each {f : CurtPin → State → State} (step : ∀ p x, SameLevels x.curt (f p x).curt) (l : List CurtPin) :
    SameLevels s.curt (s.each l f).curt := by
  induction l generalizing s with
  | nil => exact .rfl'
  | cons p l ih => exact (step p s).trans (ih _)

theorem sameLevels_settlePins (t : Nat) : SameLevels s.curt (s.settlePins t).curt := by
  have b : SameLevels s.curt (s.settleB t).curt := s.sameLevels_each (fun p x => (x.settledB_settlePinB t p).sameLevels) _
  unfold settlePins
  generalize s.settleB t = x at b ⊢
  rw [settleA_eq]
  split
  · exact b
  · exact b.trans (x.sameLevels_each (fun p y => (y.settledA_settlePinA t p).sameLevels) _)

end State

end Sys2Proof.Machine

/-! PROOFS. Resets of the curtain and the cycle of channel A they are judged in (spec/10 R434, R452, R453). -/

namespace Sys2Proof.Machine

set_option Elab.async false

namespace State

variable (s : State)

/-! A change of state, as the curtain's part and the host see it -/

/-- A change of state touches of the curtain's part only the reaction and what waits for the curtain. -/
theorem curt_curtGoto (v w : Nat) : ∃ reaction waiting energised fail, (s.curtGoto v w).curt =
    { s.curt with reaction := reaction, waiting := waiting, energised := energised, raisedFail := fail } := by
  have shown : (s.curtShown v w).curt = s.curt := (s.kept_curtShown v w).2 .curt (by decide)
  rw [curtGoto_eq, ← shown]
  generalize s.curtShown v w = x
  have ended : ∃ reaction, (x.stopOver v).curt = { x.curt with reaction := reaction } := by
    unfold stopOver
    cases (decide (v ≤ cur.raised) && v != cur.locked) with
    | false => exact ⟨x.curt.reaction, rfl⟩
    | true => exact ⟨0, rfl⟩
  obtain ⟨reaction, over_⟩ := ended
  generalize x.stopOver v = y at over_ ⊢
  have told : (y.moveTold v).curt = y.curt := (y.kept_moveTold v).2 .curt (by decide)
  generalize y.moveTold v = z at told ⊢
  split
  · exact ⟨reaction, x.curt.waiting, x.curt.energised, x.curt.raisedFail, by rw [over_]⟩
  · split
    · have down : z.engCurtainDown.curt = z.curt := z.kept_engCurtainDown.2 .curt (by decide)
      unfold cameDown
      generalize z.engCurtainDown = u at down ⊢
      obtain ⟨t, ht⟩ : ∃ t, u.mapCurt (fun c => { c with waiting := [], energised := false, raisedFail := none }) = t := ⟨_, rfl⟩
      have off : t.curt = { u.curt with waiting := [], energised := false, raisedFail := none } := ht ▸ rfl
      have ends : Kept [] [.host] t (t.each z.curt.waiting finishLower) := Kept.rfl.each fun d _ x h => h.trans (x.kept_finishLower d)
      have same : (t.each z.curt.waiting finishLower).curt = t.curt := ends.2 .curt (by decide)
      exact ⟨reaction, [], false, none, by rw [ht, same, off, down, told, over_]⟩
    · exact ⟨reaction, x.curt.waiting, x.curt.energised, x.curt.raisedFail, by rw [told, over_]⟩

theorem elapsed_cameDown : s.cameDown.elapsed = s.elapsed := by
  have down : s.engCurtainDown.elapsed = s.elapsed := by
    have ends (v : Nat) (x : State) : (x.engEnd v).elapsed = x.elapsed := (x.sameHalt_engEnd 4 v).elapsed
    unfold engCurtainDown
    extract_lets x
    have stopped : x.elapsed = s.elapsed := by
      unfold x
      split
      · exact ends _ _
      · rfl
    clear_value x
    split
    · exact stopped
    · exact (ends _ _).trans stopped
  have waits (l : List Desc) (x : State) : (x.each l finishLower).elapsed = x.elapsed := by
    induction l generalizing x with
    | nil => rfl
    | cons d l ih => exact (ih _).trans (elapsed_complete ..)
  unfold cameDown
  generalize s.engCurtainDown = y at down ⊢
  rw [waits]
  exact down

theorem elapsed_moveTold (v : Nat) : (s.moveTold v).elapsed = s.elapsed := by
  have counts (f : FieldRef) (x : State) : (x.count f).elapsed = x.elapsed := elapsed_set ..
  unfold moveTold
  dsimp only
  rw [when_eq elapsed _ (counts _ _), when_eq elapsed _ (counts _ _), elapsed_raise]
  exact (elapsed_setReg ..).trans (elapsed_setReg ..)

theorem elapsed_curtGoto (v w : Nat) : (s.curtGoto v w).elapsed = s.elapsed := by
  have shown : (s.curtShown v w).elapsed = s.elapsed := (elapsed_set ..).trans (elapsed_set ..)
  rw [curtGoto_eq]
  generalize s.curtShown v w = x at shown ⊢
  have ended : (x.stopOver v).elapsed = s.elapsed := (when_eq elapsed _ rfl).trans shown
  generalize x.stopOver v = y at ended ⊢
  have told := (y.elapsed_moveTold v).trans ended
  split
  · exact ended
  · split
    · exact (elapsed_cameDown _).trans told
    · exact told

/-- A curtain that no command waits for comes down without ending one. -/
theorem host_curtGoto {s : State} (idle : s.curt.waiting = []) (v w : Nat) : (s.curtGoto v w).host = s.host := by
  have shown := s.kept_curtShown v w
  have curt : (s.curtShown v w).curt = s.curt := shown.2 .curt (by decide)
  have host : (s.curtShown v w).host = s.host := shown.2 .host (by decide)
  rw [curtGoto_eq]
  generalize s.curtShown v w = x at curt host ⊢
  have ended : (x.stopOver v).host = s.host := ((x.kept_stopOver v).2 .host (by decide)).trans host
  have waiting : (x.stopOver v).curt.waiting = [] := (when_eq (fun y => y.curt.waiting) _ rfl).trans (by rw [curt, idle])
  generalize x.stopOver v = y at ended waiting ⊢
  have told := y.kept_moveTold v
  have toldHost : (y.moveTold v).host = s.host := (told.2 .host (by decide)).trans ended
  have toldCurt : (y.moveTold v).curt = y.curt := told.2 .curt (by decide)
  generalize y.moveTold v = z at toldHost toldCurt ⊢
  split
  · exact ended
  · split
    · have down : z.engCurtainDown.host = z.host := z.kept_engCurtainDown.2 .host (by decide)
      unfold cameDown
      rw [toldCurt, waiting]
      exact down.trans toldHost
    · exact toldHost

/-! Resets -/

/-- A reset refused, before it is counted. -/
def refusedNoted (s : State) : State := s.mapCurt fun c => { c with tripa := c.tripa || s.curtain == cur.locked, released := none, resetCmd := none }

theorem resetRefused_eq : s.resetRefused = (s.refusedNoted.count F.CURTAIN_RESET_REFUSED_COUNT).raise 183 := rfl

theorem resetRefused_spec : s.resetRefused.curt = { s.curt with tripa := s.curt.tripa || s.curtain == cur.locked, released := none, resetCmd := none } ∧
    s.resetRefused.get F.CURTAIN_RESET_REFUSED_COUNT = min (s.get F.CURTAIN_RESET_REFUSED_COUNT + 1) 0xFFFFFFFF ∧
    Raised [(s.datum, 183, 0)] s s.resetRefused ∧ Kept [Reg.CURTAIN_RESET_REFUSED] [.curt, .router] s s.resetRefused ∧
    s.resetRefused.elapsed = s.elapsed := by
  have noted : Kept [] [.curt] s s.refusedNoted := Kept.rfl.mapCurt
  have curt : s.refusedNoted.curt = { s.curt with tripa := s.curt.tripa || s.curtain == cur.locked, released := none, resetCmd := none } := rfl
  have time : s.refusedNoted.elapsed = s.elapsed := rfl
  rw [resetRefused_eq]
  generalize s.refusedNoted = x at noted curt time ⊢
  have counted : Kept [Reg.CURTAIN_RESET_REFUSED] [.curt] s (x.count F.CURTAIN_RESET_REFUSED_COUNT) := noted.mono.count
  refine ⟨by rw [curt_raise, curt_count, curt], ?_, counted.raised, counted.mono.raise, ?_⟩
  · rw [get_raise_apart _ (by decide), get_count_same _ (by decide), noted.get]
    rfl
  · rw [elapsed_raise, elapsed_count, time]

/-- The device armed, and LOWERED from LOCKED. -/
def resetArmed (s : State) : State :=
  (s.setBit F.CURTAIN_STATUS_ARMED true).when ((s.setBit F.CURTAIN_STATUS_ARMED true).curtain == cur.locked) (curtGoto cur.lowered step.none)

/-- The reset's release ended and told. -/
def resetTold (s : State) : State := (s.mapCurt fun c => { c with released := none, resetCmd := none }).raise 182

/-- The command that asked for the reset done. -/
def resetCmdDone (cmd : Option Desc) (s : State) : State :=
  match cmd with
  | some d => s.finish d 0
  | none => s

theorem resetDone_eq : s.resetDone = s.resetArmed.resetTold.resetCmdDone s.resetArmed.curt.resetCmd := rfl

theorem kept_resetTold : Kept [] [.curt, .router] s s.resetTold := Kept.rfl.mapCurt.raise

theorem kept_resetCmdDone (cmd : Option Desc) : Kept [] [.host] s (s.resetCmdDone cmd) := by
  cases cmd with
  | none => exact Kept.rfl
  | some d => exact Kept.rfl.finish

theorem resetArmed_lowered {s : State} (lowered : s.curtain = cur.lowered) : s.resetArmed = s.setBit F.CURTAIN_STATUS_ARMED true := by
  have state : (s.setBit F.CURTAIN_STATUS_ARMED true).curtain = cur.lowered := (get_setBit_apart _ (by decide)).trans lowered
  unfold resetArmed
  rw [state]
  exact when_false ..

theorem resetArmed_locked {s : State} (locked : s.curtain = cur.locked) :
    s.resetArmed = (s.setBit F.CURTAIN_STATUS_ARMED true).curtGoto cur.lowered step.none := by
  have state : (s.setBit F.CURTAIN_STATUS_ARMED true).curtain = cur.locked := (get_setBit_apart _ (by decide)).trans locked
  unfold resetArmed
  rw [state]
  exact when_true ..

/-- A reset accepted in LOCKED: ARMED and LOWERED, no release in hand, the command ended. -/
theorem resetDone_locked {s : State} (locked : s.curtain = cur.locked) : s.resetDone.armed = true ∧ s.resetDone.btrip = s.btrip ∧
    s.resetDone.curtain = cur.lowered ∧ s.resetDone.curt.released = none ∧ s.resetDone.curt.resetCmd = none ∧
    s.resetDone.curt.edgeA = s.curt.edgeA ∧
    (∀ d, s.curt.resetCmd = some d → s.curt.waiting = [] → s.resetDone.host.dispatched = s.host.dispatched.erase d) := by
  obtain ⟨x, hx⟩ : ∃ x, s.setBit F.CURTAIN_STATUS_ARMED true = x := ⟨_, rfl⟩
  have armed_ : Kept [Reg.CURTAIN_STATUS] [] s x := hx ▸ Kept.rfl.setBit
  have on : x.armed = true := hx ▸ bit_setBit_same _ (by decide) rfl
  have trip : x.btrip = s.btrip := hx ▸ bit_setBit_apart _ (by decide)
  have curtX : x.curt = s.curt := armed_.2 .curt (by decide)
  have hostX : x.host = s.host := armed_.2 .host (by decide)
  obtain ⟨y, hy⟩ : ∃ y, x.curtGoto cur.lowered step.none = y := ⟨_, rfl⟩
  have state : y.curtain = cur.lowered := hy ▸ curtain_curtGoto _ _ (by decide)
  have onY : y.armed = x.armed := by rw [← hy, armed, bit, get_curtGoto _ _ _ (by decide) (by decide) curtainStatus_not_mem]; rfl
  have tripY : y.btrip = x.btrip := by rw [← hy, btrip, bit, get_curtGoto _ _ _ (by decide) (by decide) curtainStatus_not_mem]; rfl
  obtain ⟨reaction, waiting, energised, fail, curtY⟩ := x.curt_curtGoto cur.lowered step.none
  rw [hy, curtX] at curtY
  have hostY (idle : s.curt.waiting = []) : y.host = s.host := by rw [← hy, host_curtGoto (by rw [curtX]; exact idle), hostX]
  obtain ⟨z, hz⟩ : ∃ z, y.resetTold = z := ⟨_, rfl⟩
  have told : Kept [] [.curt, .router] y z := hz ▸ y.kept_resetTold
  have curtZ : z.curt = { y.curt with released := none, resetCmd := none } := by rw [← hz, resetTold, curt_raise]; rfl
  have cmd : y.curt.resetCmd = s.curt.resetCmd := by rw [curtY]
  have done := z.kept_resetCmdDone s.curt.resetCmd
  have eq : s.resetDone = z.resetCmdDone s.curt.resetCmd := by rw [resetDone_eq, resetArmed_locked locked, hx, hy, cmd, hz]
  have curt : s.resetDone.curt = z.curt := by rw [eq]; exact done.2 .curt (by decide)
  rw [curt, curtZ, curtY]
  rw [eq]
  refine ⟨done.bit.trans (told.bit.trans (onY.trans on)), done.bit.trans (told.bit.trans (tripY.trans trip)), done.get.trans (told.get.trans state), rfl, rfl, rfl,
    fun d asked idle => ?_⟩
  have hostZ : z.host = s.host := (told.2 .host (by decide)).trans (hostY idle)
  rw [asked]
  exact (dispatched_finish ..).trans (by rw [hostZ])

/-- A reset accepted in LOWERED: ARMED, told, the command done. -/
theorem resetDone_lowered {s : State} {d : Desc} (lowered : s.curtain = cur.lowered) (asked : s.curt.resetCmd = some d) : s.resetDone.armed = true ∧
    s.resetDone.curtain = cur.lowered ∧ s.resetDone.host = (s.complete d st.done 0 s.datum).host ∧ Raised [(s.datum, 182, 0)] s s.resetDone ∧
    Kept [Reg.CURTAIN_STATUS] [.curt, .host, .router] s s.resetDone := by
  obtain ⟨x, hx⟩ : ∃ x, s.setBit F.CURTAIN_STATUS_ARMED true = x := ⟨_, rfl⟩
  have armed_ : Kept [Reg.CURTAIN_STATUS] [] s x := hx ▸ Kept.rfl.setBit
  have on : x.armed = true := hx ▸ bit_setBit_same _ (by decide) rfl
  have state : x.curtain = s.curtain := hx ▸ get_setBit_apart _ (by decide)
  have curtX : x.curt = s.curt := armed_.2 .curt (by decide)
  have cmd : x.curt.resetCmd = some d := by rw [curtX, asked]
  obtain ⟨y, hy⟩ : ∃ y, x.mapCurt (fun c => { c with released := none, resetCmd := none }) = y := ⟨_, rfl⟩
  have noted : Kept [Reg.CURTAIN_STATUS] [.curt] s y := hy ▸ armed_.mono.mapCurt
  have notedX : Kept [] [.curt] x y := hy ▸ Kept.rfl.mapCurt
  have raised : Raised [(s.datum, 182, 0)] s (y.raise 182) := noted.raised
  have event : Kept [] [.router] y (y.raise 182) := Kept.rfl.raise
  obtain ⟨z, hz⟩ : ∃ z, y.raise 182 = z := ⟨_, rfl⟩
  rw [hz] at raised event
  have eq : s.resetDone = z.finish d 0 := by
    rw [resetDone_eq, resetArmed_lowered lowered, hx, cmd, resetTold, hy, hz]
    rfl
  have done : Kept [] [.host] z (z.finish d 0) := Kept.rfl.finish
  have kept : Kept [Reg.CURTAIN_STATUS] [.curt, .router] s z := noted.mono.trans event.mono
  have datum : z.datum = s.datum := kept.2 .datum (by decide)
  rw [eq]
  refine ⟨done.bit.trans (event.bit.trans (notedX.bit.trans on)), done.get.trans (event.get.trans (notedX.get.trans (state.trans lowered))), ?_,
    raised.kept done, kept.mono.trans done.mono⟩
  rw [finish, datum]
  exact host_complete_congr (kept.2 .host (by decide)) kept.bit ..

/-! The curtain raised -/

abbrev engageRegs : List Nat := [Reg.CUR_BAND 0, Reg.CUR_BAND 1, Reg.CUR_BAND 2, Reg.CAST_PHASE 0, Reg.CAST_PHASE 1, Reg.CAST_PHASE 2,
  Reg.CUR_VN_RES, Reg.CUR_STATUS]

theorem kept_engEngage : Kept engageRegs [.engine, .cast, .router] s s.engEngage := by
  unfold engEngage
  extract_lets x y src z w
  have phases : Kept engageRegs [.engine, .cast, .router] s x := Kept.rfl.each fun n mem v h => by
    have small := List.mem_range.1 mem
    have band : (F.CUR_BAND_BAND n).addr ∈ engageRegs := by interval_cases n <;> decide
    have phase : (F.CAST_PHASE_Z n).addr ∈ engageRegs := by interval_cases n <;> decide
    exact ((h.trans ((v.kept_setEng ..).mono (List.nil_subset _) (by decide))).set band).setInt phase
  clear_value x
  have cleared : Kept engageRegs [.engine, .cast, .router] s w := phases.mapEngine.cast.setSat.setBit
  clear_value w
  exact (cleared.trans ((w.kept_engGoto _).mono)).trans ((kept_holdPrecharge _ true).mono)

/-- A change of state above LOWERED ends no command. -/
theorem kept_curtGoto_up {v : Nat} (up : ¬ v ≤ cur.lowered) (w : Nat) : Kept toldRegs [.curt, .router] (s.curtShown v w) (s.curtGoto v w) := by
  rw [curtGoto_eq]
  generalize s.curtShown v w = x
  have ended : Kept toldRegs [.curt, .router] x (x.stopOver v) := (x.kept_stopOver v).mono
  generalize x.stopOver v = y at ended ⊢
  rw [if_neg up]
  exact ended.ite (ended.trans (y.kept_moveTold v).mono)

/-- The raise dated. -/
def raiseDated (now : Nat) (s : State) : State := s.mapCurt fun c => { c with raisingAt := now, energised := false }

/-- The raise begun where nothing holds the curtain (R442). -/
def raiseStarted (s : State) : State :=
  if s.curtain = cur.lowered && !s.holdBits.any id then
    ((s.engEngage).curtGoto cur.raising step.sync).raiseDated s.elapsed
  else s

theorem raiseStarted_spec : s.raiseStarted.armed = s.armed ∧ s.raiseStarted.btrip = s.btrip ∧
    (s.raiseStarted.curtain = s.curtain ∨ s.curtain = cur.lowered ∧ s.raiseStarted.curtain = cur.raising) ∧
    s.raiseStarted.curt.released = s.curt.released ∧ s.raiseStarted.curt.resetCmd = s.curt.resetCmd ∧ s.raiseStarted.host = s.host := by
  have engaged := s.kept_engEngage
  unfold raiseStarted
  generalize s.engEngage = x at engaged ⊢
  split
  next goes =>
    have lowered : s.curtain = cur.lowered := by
      rw [Bool.and_eq_true, decide_eq_true_eq] at goes
      exact goes.1
    have shown := x.kept_curtShown cur.raising step.sync
    have status {f : FieldRef} := x.get_curtGoto (f := f) cur.raising step.sync
    have state := x.curtain_curtGoto (v := cur.raising) step.sync (by decide)
    have up := x.kept_curtGoto_up (v := cur.raising) (by decide) step.sync
    obtain ⟨reaction, waiting, energised, fail, curt⟩ := x.curt_curtGoto cur.raising step.sync
    have curtX : x.curt = s.curt := engaged.2 .curt (by decide)
    generalize x.curtGoto cur.raising step.sync = y at status state up curt ⊢
    have host : y.host = s.host := (up.2 .host (by decide)).trans ((shown.2 .host (by decide)).trans (engaged.2 .host (by decide)))
    have dated : Kept [] [.curt] y (y.raiseDated s.elapsed) := Kept.rfl.mapCurt
    have curtD : (y.raiseDated s.elapsed).curt = { y.curt with raisingAt := s.elapsed, energised := false } := rfl
    have hostD : (y.raiseDated s.elapsed).host = y.host := dated.2 .host (by decide)
    have arms : y.get F.CURTAIN_STATUS_ARMED = s.get F.CURTAIN_STATUS_ARMED :=
      (status (by decide) (by decide) curtainStatus_not_mem).trans engaged.get
    have trips : y.get F.CURTAIN_STATUS_BTRIP = s.get F.CURTAIN_STATUS_BTRIP :=
      (status (by decide) (by decide) curtainStatus_not_mem).trans engaged.get
    generalize y.raiseDated s.elapsed = z at dated curtD hostD ⊢
    refine ⟨?_, ?_, Or.inr ⟨lowered, dated.get.trans state⟩, by rw [curtD, curt, curtX], by rw [curtD, curt, curtX], hostD.trans host⟩
    · rw [armed, armed, dated.bit, bit, arms, bit]
    · rw [btrip, btrip, dated.bit, bit, trips, bit]
  next => exact ⟨rfl, rfl, Or.inl rfl, rfl, rfl, rfl⟩

end State

end Sys2Proof.Machine

/-! PROOFS. Channel A's cycle in LOCKED, up to its resets (spec/10 R434, R440, R452). -/

namespace Sys2Proof.Machine

set_option Elab.async false

/-- The registers that channel A's cycle may change in LOCKED before its resets are judged. -/
abbrev cycleRegs : List Nat := [Reg.CURTAIN_CAUSE, Reg.CURTAIN_PINS, Reg.CURTAIN_TRANSIENT, Reg.SCRUB_FAULT_SEEN, Reg.SCRUB_K_OPS_B] ++ blockRegs 0x0800 0x400

theorem mem_cycleRegs_irq {r : Nat} (h : 0x0800 ≤ r ∧ r % 4 = 0 ∧ r < 0x0C00 := by decide) : r ∈ cycleRegs :=
  List.mem_append_right _ (mem_blockRegs (by omega))

theorem mem_cycleRegs {r : Nat} (h : r ∈ [Reg.CURTAIN_CAUSE, Reg.CURTAIN_PINS, Reg.CURTAIN_TRANSIENT, Reg.SCRUB_FAULT_SEEN, Reg.SCRUB_K_OPS_B] := by decide) :
    r ∈ cycleRegs := List.mem_append_left _ h

theorem status_not_mem_cycleRegs : Reg.CURTAIN_STATUS ∉ cycleRegs ∧ Reg.CURTAIN_RESET_REFUSED ∉ cycleRegs := by
  decide

/-- What channel A's cycle leaves for its resets: registers and parts beside its own, and of the curtain's part the release, the edges and the command. -/
structure Sampled (a b : State) : Prop where
  kept : Kept cycleRegs [.curt, .router] a b
  released : b.curt.released = a.curt.released
  resetCmd : b.curt.resetCmd = a.curt.resetCmd
  edgeA : b.curt.edgeA = a.curt.edgeA
  edgeB : b.curt.edgeB = a.curt.edgeB
  waiting : b.curt.waiting = a.curt.waiting
  elapsed : b.elapsed = a.elapsed

namespace Sampled

variable {a b c : State}

theorem rfl' : Sampled a a := ⟨Kept.rfl, rfl, rfl, rfl, rfl, rfl, rfl⟩

theorem trans (h : Sampled a b) (h' : Sampled b c) : Sampled a c :=
  ⟨h.kept.trans h'.kept, h'.released.trans h.released, h'.resetCmd.trans h.resetCmd, h'.edgeA.trans h.edgeA, h'.edgeB.trans h.edgeB,
    h'.waiting.trans h.waiting, h'.elapsed.trans h.elapsed⟩

/-- Registers and events. -/
theorem of_kept (h : Sampled a b) (k : Kept cycleRegs [.router] b c) (elapsed : c.elapsed = b.elapsed) : Sampled a c := by
  have curt : c.curt = b.curt := k.2 .curt (by decide)
  exact h.trans ⟨k.mono (List.Subset.refl _) (by decide), by rw [curt], by rw [curt], by rw [curt], by rw [curt], by rw [curt], elapsed⟩

/-- The curtain's part changed in what no reset reads. -/
theorem curt (h : Sampled a b) {x : Curt} (released : x.released = b.curt.released) (resetCmd : x.resetCmd = b.curt.resetCmd)
    (edgeA : x.edgeA = b.curt.edgeA) (edgeB : x.edgeB = b.curt.edgeB) (waiting : x.waiting = b.curt.waiting) : Sampled a { b with curt := x } :=
  h.trans ⟨Kept.rfl.curt, released, resetCmd, edgeA, edgeB, waiting, rfl⟩

theorem ite {q : Prop} [Decidable q] {x y : State} (hx : Sampled a x) (hy : Sampled a y) : Sampled a (if q then x else y) := by
  split
  · exact hx
  · exact hy

end Sampled

namespace State

variable (s : State)

theorem sampled_spTake (e : Event) : Sampled s (s.spTake e) := by
  have logged (x : State) (f : FieldRef) (v : Nat) (hf : f.addr ∈ cycleRegs) : Sampled x (x.set f v) :=
    Sampled.rfl'.of_kept (Kept.rfl.set hf) (elapsed_set ..)
  unfold spTake
  extract_lets x i y z u v
  have counted : Sampled s x := Sampled.rfl'.of_kept (Kept.rfl.count mem_cycleRegs_irq) (elapsed_count ..)
  have small : i < 16 := x.get_lt F.IRQ_STATUS_LOG_NEXT
  clear_value x i
  have low : (F.IRQ_SP_LOG_LO_STAMP i).addr ∈ cycleRegs := mem_cycleRegs_irq (by dsimp only; omega)
  have high : (F.IRQ_SP_LOG_HI_STAMP i).addr ∈ cycleRegs := mem_cycleRegs_irq (by dsimp only; omega)
  refine .ite counted ((((((counted.trans (logged x _ _ low)).trans (logged y _ _ high)).trans (logged z _ _ ?_)).trans (logged u _ _ ?_)).trans
    (logged v _ _ mem_cycleRegs_irq)))
  · exact high
  · exact high

theorem sampled_spTakeAll : Sampled s s.spTakeAll := by
  have each (l : List Event) (x : State) : Sampled x (x.each l spTake) := by
    induction l generalizing x with
    | nil => exact .rfl'
    | cons e l ih => exact (x.sampled_spTake e).trans (ih _)
  unfold spTakeAll
  extract_lets q
  obtain ⟨y, hy⟩ : ∃ y, { s with router := { s.router with spQueue := [] } } = y := ⟨_, rfl⟩
  have emptied : Sampled s y := hy ▸ Sampled.rfl'.of_kept Kept.rfl.router rfl
  rw [hy]
  exact emptied.trans (each q y)

/-- A level shown in CURTAIN_PINS. -/
theorem sampled_pin (f : FieldRef) (v : Bool) (hf : f.addr = Reg.CURTAIN_PINS := by rfl) : Sampled s (s.setBit f v) :=
  Sampled.rfl'.of_kept (Kept.rfl.setBit (hf ▸ mem_cycleRegs)) (elapsed_setBit ..)

theorem sampled_samplePins : Sampled s s.samplePins := by
  unfold samplePins
  extract_lets p x set y z w
  have counted : Sampled s x := by
    unfold x
    cases (p.kdrvB.raw && !s.bit F.CURTAIN_PINS_KDRVB) with
    | false => exact .rfl'
    | true => exact Sampled.rfl'.of_kept (Kept.rfl.count mem_cycleRegs) (elapsed_count ..)
  clear_value x
  have estops : Sampled s y := counted.trans (((sampled_pin _ _ _).trans (sampled_pin _ _ _)).trans (sampled_pin _ _ _))
  clear_value y
  have feedback : Sampled s z := estops.trans ((sampled_pin _ _ _).trans (sampled_pin _ _ _))
  clear_value z
  have outputs : Sampled s w := feedback.trans ((sampled_pin _ _ _).trans (sampled_pin _ _ _))
  clear_value w
  exact outputs.curt rfl rfl rfl rfl rfl

theorem sampled_readback (b : Bool) : Sampled s (s.readback b).1 := by
  unfold readback
  extract_lets c since want got first put
  have mismatch (v : Bool) (x : State) : Sampled x (put v x) := by
    unfold put
    cases b with
    | false => exact Sampled.rfl'.curt rfl rfl rfl rfl rfl
    | true => exact Sampled.rfl'.curt rfl rfl rfl rfl rfl
  clear_value put
  split
  · exact .rfl'
  · split
    · have cleared := mismatch false s
      generalize put false s = x at cleared ⊢
      cases first with
      | false => exact cleared
      | true => exact cleared.of_kept ((Kept.rfl.count mem_cycleRegs).noteClass mem_cycleRegs) ((elapsed_setIbit ..).trans (elapsed_count ..))
    · split
      · exact (mismatch false s).of_kept Kept.rfl.raise (elapsed_raise ..)
      · exact mismatch true s

/-- In LOCKED causes are only recorded. -/
theorem judgeCauses_locked {s : State} (locked : s.curtain = cur.locked) (cs : List (Nat × Nat)) :
    s.judgeCauses cs = s.each cs fun c s => s.setIbit F.CURTAIN_CAUSE_SEEN (c.1 - 1) true := by
  cases cs with
  | nil => rfl
  | cons c cs =>
    have still : (s.each (c :: cs) fun c s => s.setIbit F.CURTAIN_CAUSE_SEEN (c.1 - 1) true).curtain = cur.locked := by
      have kept : Kept [Reg.CURTAIN_CAUSE] [] s (s.each (c :: cs) fun c s => s.setIbit F.CURTAIN_CAUSE_SEEN (c.1 - 1) true) :=
        Kept.rfl.each fun _ _ _ h => h.setIbit
      exact kept.get.trans locked
    unfold judgeCauses
    rw [if_neg (by simp)]
    exact if_pos still

theorem sampled_seen (l : List (Nat × Nat)) : Sampled s (s.each l fun c s => s.setIbit F.CURTAIN_CAUSE_SEEN (c.1 - 1) true) := by
  induction l generalizing s with
  | nil => exact .rfl'
  | cons c l ih => exact (Sampled.rfl'.of_kept (Kept.rfl.setIbit mem_cycleRegs) (elapsed_setIbit ..) : Sampled s _).trans (ih _)

/-! The stages of a cycle -/

/-- Both readbacks compared (R440). -/
def readBoth (s : State) : State := ((s.readback false).1.readback true).1

/-- Whether one of them has failed for good. -/
def badReadback (s : State) : Bool := (s.readback false).2 || ((s.readback false).1.readback true).2

/-- The feedback watched while RAISED (R439). -/
def raisedWatched (s : State) : State :=
  if s.curtain = cur.raised && s.curt.raisedFail.isNone && !s.feedbackReads false then
    (s.raise 180).mapCurt fun c => { c with raisedFail := some s.elapsed }
  else s

/-- The causes that the cycle evaluates. -/
def cycleCauses (bad selfOk : Bool) (s : State) : List (Nat × Nat) :=
  s.curt.causes ++ (if bad then [(6, s.datum)] else []) ++ (if !selfOk then [(11, s.datum)] else []) ++
    (if s.btrip && s.curtain != cur.locked then [s.btripCause] else [])

/-- The causes taken for evaluation. -/
def causesTaken (s : State) : State := s.mapCurt fun c => { c with causes := [] }

/-- The end of the ramp (R441). -/
def rampEnded (s : State) : State :=
  if s.curtain = cur.lowering && s.curtStep = step.ramp && s.engState = eng.zeroed then s.deenergise.setStep step.openCheck else s

/-- HB toggled. -/
def beaten (s : State) : State := s.mapCurt fun c => { c with hb := !c.hb, lastHb := s.elapsed }

/-- The causes evaluated. -/
def causesJudged (bad selfOk : Bool) (s : State) : State := s.causesTaken.judgeCauses (s.cycleCauses bad selfOk)

/-- A cycle of channel A that acts. -/
def cycled (selfOk : Bool) (s : State) : State :=
  ((s.spTakeAll.samplePins.readBoth.raisedWatched.causesJudged s.spTakeAll.samplePins.badReadback selfOk).rampEnded.judgeReset.raiseStarted).beaten

end State

theorem execChannelACycle_eq (t : Nat) (pins : CurtainIn) (s : State) : execChannelACycle t pins s = s.run t fun s =>
    if !(s.takePins pins.edges).aRuns then s.takePins pins.edges else (s.takePins pins.edges).cycled pins.selfOk := rfl

namespace State

variable (s : State)

theorem kept_beaten : Kept [] [.curt] s s.beaten := Kept.rfl.mapCurt

/-- In LOCKED the cycle records its causes and judges its resets. -/
theorem cycled_locked {s : State} (locked : s.curtain = cur.locked) (selfOk : Bool) : ∃ x, Sampled s x ∧ s.cycled selfOk = x.judgeReset.raiseStarted.beaten := by
  have taken := s.sampled_spTakeAll.trans (sampled_samplePins _)
  unfold cycled
  generalize s.spTakeAll.samplePins = y at taken ⊢
  have read : Sampled s y.readBoth := (taken.trans (y.sampled_readback false)).trans (sampled_readback _ true)
  generalize y.badReadback = bad
  generalize y.readBoth = z at read ⊢
  have state : z.curtain = cur.locked := (read.kept.get status_not_mem_cycleRegs.1).trans locked
  have watched : z.raisedWatched = z := if_neg (by simp [state])
  rw [watched]
  obtain ⟨u, hu⟩ : ∃ u, z.causesTaken = u := ⟨_, rfl⟩
  have noted : Sampled z u := hu ▸ Sampled.rfl'.curt rfl rfl rfl rfl rfl
  have stateU : u.curtain = cur.locked := (noted.kept.get status_not_mem_cycleRegs.1).trans state
  have seen := u.sampled_seen (z.cycleCauses bad selfOk)
  rw [causesJudged, hu, judgeCauses_locked stateU]
  generalize (u.each (z.cycleCauses bad selfOk) fun c s => s.setIbit F.CURTAIN_CAUSE_SEEN (c.1 - 1) true) = v at seen ⊢
  have stateV : v.curtain = cur.locked := (seen.kept.get status_not_mem_cycleRegs.1).trans stateU
  have ramp : v.rampEnded = v := if_neg (by simp [stateV])
  exact ⟨v, (read.trans noted).trans seen, by rw [ramp]⟩

theorem judgeReset_eq : s.judgeReset = if !s.judgeRelease.curt.edgeA then s.judgeRelease
    else
      let s := s.judgeRelease.mapCurt fun c => { c with edgeA := false }
      if s.service || !s.curtainDown then s
      else if !s.resetOk then s.resetRefused
      else if s.curtain = cur.lowered then s.resetDone
      else s.releaseTrip := rfl

theorem judgeReset_of_quiet {s : State} (quiet : s.judgeRelease.curt.edgeA = false) : s.judgeReset = s.judgeRelease := by
  rw [judgeReset_eq, quiet]
  exact if_pos rfl

theorem judgeRelease_fell {s : State} {t0 : Nat} (released : s.curt.released = some t0) (fell : s.fellInTime t0 = true) : s.judgeRelease = s.resetDone := by
  unfold judgeRelease
  rw [released]
  exact if_pos fell

theorem judgeRelease_waits {s : State} {t0 : Nat} (released : s.curt.released = some t0) (fell : s.fellInTime t0 = false)
    (early : s.elapsed < t0 + 2 * ms) : s.judgeRelease = s := by
  unfold judgeRelease
  rw [released]
  dsimp only
  rw [if_neg (by simp [fell]), if_neg (by omega)]

/-- A release refused ends the command that asked for it. -/
def releaseRefused (s : State) : State :=
  match s.curt.resetCmd with
  | some d => s.resetRefused.refuse d st.stateRefused 5
  | none => s.resetRefused

theorem judgeRelease_refused {s : State} {t0 : Nat} (released : s.curt.released = some t0) (fell : s.fellInTime t0 = false)
    (late : t0 + 2 * ms ≤ s.elapsed) : s.judgeRelease = s.releaseRefused := by
  unfold judgeRelease
  rw [released]
  dsimp only
  rw [if_neg (by simp [fell]), if_pos late]
  rfl

theorem fellInTime_of_sampled {a b : State} (h : Sampled a b) (t0 : Nat) : b.fellInTime t0 = a.fellInTime t0 := by
  have trip : b.btrip = a.btrip := h.kept.bit status_not_mem_cycleRegs.1
  rw [fellInTime, fellInTime, trip, h.resetCmd, h.edgeB]

theorem raiseStarted_locked {s : State} (locked : s.curtain = cur.locked) : s.raiseStarted = s := if_neg (by simp [locked])

/-- A command ended is dispatched no more. -/
theorem dispatched_complete (d : Desc) (status detail time : Nat) : (s.complete d status detail time).host.dispatched = s.host.dispatched.erase d := by
  unfold complete
  split
  next => exact dispatched_stageDone ..
  next out => exact (List.erase_of_not_mem (by simpa using out)).symm

/-- A release of TRIPA refused (R452, R453). -/
theorem releaseRefused_spec {s : State} (locked : s.curtain = cur.locked) : s.releaseRefused.curtain = cur.locked ∧ s.releaseRefused.curt.tripa = true ∧
    s.releaseRefused.curt.released = none ∧ s.releaseRefused.curt.edgeA = s.curt.edgeA ∧
    s.releaseRefused.get F.CURTAIN_RESET_REFUSED_COUNT = min (s.get F.CURTAIN_RESET_REFUSED_COUNT + 1) 0xFFFFFFFF ∧
    (∀ d, s.curt.resetCmd = some d → s.releaseRefused.host.dispatched = s.host.dispatched.erase d) := by
  obtain ⟨curt, counted, -, kept, -⟩ := s.resetRefused_spec
  unfold releaseRefused
  generalize s.resetRefused = x at curt counted kept ⊢
  have host : x.host = s.host := kept.2 .host (by decide)
  have state : x.curtain = cur.locked := kept.get.trans locked
  rw [locked] at curt
  cases cmd : s.curt.resetCmd with
  | none =>
    refine ⟨state, by rw [curt]; exact Bool.or_true _, by rw [curt], by rw [curt], counted, fun d h => absurd h (by simp)⟩
  | some d =>
    have ended : Kept [] [.host] x (x.refuse d st.stateRefused 5) := x.kept_refuse ..
    have same : (x.refuse d st.stateRefused 5).curt = x.curt := ended.2 .curt (by decide)
    refine ⟨ended.get.trans state, by rw [same, curt]; exact Bool.or_true _, by rw [same, curt], by rw [same, curt], ended.get.trans counted, fun e h => ?_⟩
    obtain rfl := Option.some.inj h
    rw [← host]
    exact dispatched_complete ..

end State

end Sys2Proof.Machine

/-! PROOFS. CURTAIN_LOWER, CURTAIN_RESET, the release of TRIPA, and the edges of SRESET (spec/10 R451 to R456). -/

namespace Sys2Proof.Machine

set_option Elab.async false

namespace State

variable (s : State)

/-! CURTAIN_LOWER -/

/-- The checks of CURTAIN_LOWER (R456). -/
def lowerChecks (d : Desc) : List (Bool × Nat × Nat) :=
  [(2 < d.target.toNat, st.targetRange, 0), (d.len.toNat != 0, st.lenRange, 0), (d.p0.toNat != 0 || d.p1.toNat != 0, st.targetRange, 0x10)]

/-- The cause of CURTAIN_LOWER by its target. -/
def lowerCode (d : Desc) : Nat := if d.target.toNat = 0 then 21 else if d.target.toNat = 1 then 15 else 12

/-- A command that waits for the curtain. -/
def lowerWaits (d : Desc) (s : State) : State := s.mapCurt fun c => { c with waiting := c.waiting ++ [d] }

end State

theorem execCurtainLower_eq (t : Nat) (d : Desc) (s : State) : execCurtainLower t d s = s.run t fun s =>
    s.checked d (State.lowerChecks d) fun s =>
      if s.curtainDown then (s.causeNow (State.lowerCode d)).finishLower d else (s.curtCause (State.lowerCode d)).lowerWaits d := rfl

theorem ne_zero_eq_decide {n : Nat} (x : BitVec n) : (x.toNat != 0) = decide (x ≠ 0) := by
  rw [Bool.eq_iff_iff]
  simp [BitVec.toNat_eq]

namespace State

variable (s : State)

/-- A cause of class R or H with the curtain down is seen, and at most disarms (R441). -/
theorem causeNow_down {code : Nat} {s : State} (low : classOf code ≠ 3) (down : s.curtainDown = true) :
    s.causeNow code = s.causeSeen code ∨ s.causeNow code = (s.causeSeen code).setBit F.CURTAIN_STATUS_ARMED false := by
  have state : (s.causeSeen code).curtain = s.curtain := get_setIbit_apart _ (by decide)
  have two : s.curtain ≤ 1 := of_decide_eq_true down
  unfold causeNow judgeCauses
  dsimp only [List.isEmpty_cons, each, List.foldl_cons, List.foldl_nil]
  have shown : s.setIbit F.CURTAIN_CAUSE_SEEN (code - 1) true = s.causeSeen code := rfl
  rw [if_neg (by decide), shown, state, Nat.zero_max]
  by_cases locked : s.curtain = cur.locked
  · rw [if_pos locked]
    exact Or.inl rfl
  · have lowered : s.curtain = cur.lowered := by
      simp only [cur.locked, cur.lowered] at locked ⊢
      omega
    rw [if_neg locked, if_pos (by simp [lowered, low])]
    generalize s.causeSeen code = x
    cases (classOf code == 2 || List.any [(code, s.datum)] fun c => c.1 == 21) with
    | false => exact Or.inl (when_false ..)
    | true => exact Or.inr (when_true ..)

/-- What a lesser cause leaves with the curtain down. -/
theorem causeNow_down_spec {code : Nat} {s : State} (low : classOf code ≠ 3) (range : 1 ≤ code ∧ code ≤ 21) (down : s.curtainDown = true) :
    Kept [Reg.CURTAIN_CAUSE, Reg.CURTAIN_STATUS] [] s (s.causeNow code) ∧ (s.causeNow code).ibit F.CURTAIN_CAUSE_SEEN (code - 1) = true ∧
      (s.causeNow code).curtain = s.curtain ∧ (s.causeNow code).get F.CURTAIN_CAUSE_FIRST = s.get F.CURTAIN_CAUSE_FIRST := by
  have seen := s.kept_causeSeen code
  have bit := s.seen_causeSeen range
  have state : (s.causeSeen code).curtain = s.curtain := get_setIbit_apart _ (by decide)
  have first : (s.causeSeen code).get F.CURTAIN_CAUSE_FIRST = s.get F.CURTAIN_CAUSE_FIRST := get_setIbit_apart _ (by decide)
  rcases causeNow_down low down with eq | eq
  · rw [eq]
    exact ⟨seen.mono, bit, state, first⟩
  · rw [eq]
    generalize s.causeSeen code = x at seen bit state first ⊢
    have disarmed : Kept [Reg.CURTAIN_STATUS] [] x (x.setBit F.CURTAIN_STATUS_ARMED false) := Kept.rfl.setBit
    exact ⟨seen.mono.trans disarmed.mono, disarmed.ibit.trans bit, (get_setBit_apart _ (by decide)).trans state, disarmed.get.trans first⟩

/-- CURTAIN_LOWER with the curtain down. -/
theorem lower_down {s a : State} {d : Desc} (range : d.target.toNat ≤ 2) (down : a.curtainDown = true) :
    ((a.causeNow (lowerCode d)).finishLower d).ibit F.CURTAIN_CAUSE_SEEN (lowerCode d - 1) = true ∧
      ((a.causeNow (lowerCode d)).finishLower d).curtainDown = true ∧
      (d.target.toNat ≤ 1 → Ended d st.done (a.curtain + 256 * a.get F.CURTAIN_CAUSE_FIRST) (a.pair Reg.CURTAIN_LAST_LO) a
          (s.settle a ((a.causeNow (lowerCode d)).finishLower d)) ∧
        Kept [Reg.CURTAIN_CAUSE, Reg.CURTAIN_STATUS] [.host] a ((a.causeNow (lowerCode d)).finishLower d)) := by
  have two : a.curtain ≤ 1 := of_decide_eq_true down
  have ended (x : State) : Kept [] [.host] x (x.finishLower d) := x.kept_finishLower d
  by_cases soft : d.target.toNat ≤ 1
  · have code : lowerCode d = 21 ∨ lowerCode d = 15 := by
      unfold lowerCode
      split_ifs <;> omega
    have low : classOf (lowerCode d) ≠ 3 ∧ 1 ≤ lowerCode d ∧ lowerCode d ≤ 21 := by
      rcases code with eq | eq <;> rw [eq] <;> decide
    obtain ⟨kept, seen, state, first⟩ := causeNow_down_spec low.1 low.2 down
    generalize a.causeNow (lowerCode d) = x at kept seen state first ⊢
    have stateY : (x.finishLower d).curtain = a.curtain := (ended x).get.trans state
    refine ⟨(ended x).ibit.trans seen, by rw [curtainDown, stateY]; exact down, fun _ => ⟨?_, (kept.mono (List.Subset.refl _) (by decide)).trans (ended x).mono⟩⟩
    have last : x.pair Reg.CURTAIN_LAST_LO = a.pair Reg.CURTAIN_LAST_LO := by rw [pair, pair, kept.reg, kept.reg]
    rw [Ended, host_settle, finishLower, state, first, last]
    exact host_complete_congr (kept.2 .host (by decide)) kept.bit ..
  · have code : lowerCode d = 12 := by
      unfold lowerCode
      split_ifs <;> omega
    obtain ⟨state, seen, -⟩ := a.causeNow_S_spec (code := 12) (by decide)
    rw [code]
    generalize a.causeNow 12 = x at state seen ⊢
    have stateY : (x.finishLower d).curtain = if a.curt.reaction < 3 then cur.locked else a.curtain := (ended x).get.trans state
    refine ⟨(ended x).ibit.trans seen, ?_, fun h => absurd h soft⟩
    rw [curtainDown, stateY]
    split
    · rfl
    · exact down

/-! CURTAIN_RESET -/

/-- The command of a reset kept. -/
def resetAsked (d : Desc) (s : State) : State := s.mapCurt fun c => { c with resetCmd := some d }

/-- TRIPA released by a command (R453). -/
def tripReleased (s : State) : State := s.mapCurt fun c => { c with tripa := false, released := some s.elapsed }

/-- A command's release of TRIPA, answered by channel B where it may (R453). -/
def resetReleased (s : State) : State := if s.tripReleased.curt.b.sreset.high && !s.tripReleased.refusesB then s.tripReleased.clearB else s.tripReleased

end State

theorem resetChecks_pass {a : State} {d : Desc} (target : d.target = 0) (len : d.len = 0) (p0 : d.p0 = 0) (p1 : d.p1 = 0) (service : a.service = true)
    (down : a.curtainDown = true) (high : a.curt.a.sreset.high = true) : firstFail (a.resetChecks d) = none := by
  simp [State.resetChecks, firstFail, target, len, p0, p1, service, down, high]

theorem execCurtainReset_eq (t : Nat) (d : Desc) (s : State) : execCurtainReset t d s = s.run t fun s =>
    s.checked d (s.resetChecks d) fun s =>
      if !s.resetOk then s.resetRefused.refuse d st.stateRefused 4
      else if (s.resetAsked d).curtain = cur.lowered then (s.resetAsked d).resetDone else (s.resetAsked d).resetReleased := rfl

namespace State

variable (s : State)

theorem resetChecks_eq (a : State) (d : Desc) : a.resetChecks d =
    ([(d.target ≠ 0, st.targetRange, 0), (d.len ≠ 0, st.lenRange, 0), (d.p0 ≠ 0 ∨ d.p1 ≠ 0, st.targetRange, 0x10),
      (a.service = false, st.stateRefused, 1), (a.curtainDown = false, st.stateRefused, 2),
      (a.curt.a.sreset.high = false, st.stateRefused, 3)] : List (Bool × Nat × Nat)) := by
  have off (b : Bool) : (!b) = decide (b = false) := by simp
  rw [resetChecks, ne_zero_eq_decide, ne_zero_eq_decide, ne_zero_eq_decide, ne_zero_eq_decide, off, off, off, ← Bool.decide_or]

/-! Pins of SRESET -/

/-- What channel A does with a new reading of a pin (R435, R451). -/
def noticedA (p : CurtPin) (was now : Watch) (s : State) : State :=
  if (p = .estopA || p = .estopB) && now.low then
    (s.mapCurt fun c => { c with causes := c.causes ++ [(2, s.datum - (s.elapsed - now.since))] }).raise 178
  else if p = .sreset && was.low && now.high && s.curtainDown && !s.service then s.mapCurt fun c => { c with edgeA := true }
  else s

theorem settlePinA_eq (t : Nat) (p : CurtPin) : s.settlePinA t p = if (s.curt.a.read p).settle (s.filterA p) t = s.curt.a.read p then s
    else (s.putA ((s.curt.a.read p).settle (s.filterA p) t) p).noticedA p (s.curt.a.read p) ((s.curt.a.read p).settle (s.filterA p) t) := rfl

/-- What channel B does with a new reading of a pin (R431, R452). -/
def noticedB (p : CurtPin) (was now : Watch) (s : State) : State :=
  if (p = .estopA || p = .estopB) && now.low then s.latchB
  else if p = .sreset && was.low && now.high then
    let s := s.mapCurt fun c => { c with edgeB := some now.outSince }
    if s.curt.released.isSome && s.curt.resetCmd.isNone && !s.refusesB && s.btrip && !s.service then s.clearB else s
  else s

theorem settlePinB_eq (t : Nat) (p : CurtPin) : s.settlePinB t p = if (s.curt.b.read p).settle (filterB p) t = s.curt.b.read p then s
    else (s.putB ((s.curt.b.read p).settle (filterB p) t) p).noticedB p (s.curt.b.read p) ((s.curt.b.read p).settle (filterB p) t) := rfl

/-- Channel A recognises SRESET high: its reading and its edge (R451). -/
theorem settlePinA_sreset {s : State} {t : Nat} (raw : s.curt.a.sreset.raw = true) (low : s.curt.a.sreset.low = true)
    (lasts : s.curt.a.sreset.since + s.filterA .sreset ≤ t) (down : s.curtainDown = true) (rehearsal : s.service = false) :
    (s.settlePinA t .sreset).curt.edgeA = true ∧ (s.settlePinA t .sreset).curt.a.sreset.high = true := by
  have fresh : s.curt.a.sreset.out ≠ some s.curt.a.sreset.raw := by
    have out : s.curt.a.sreset.out = some false := by simpa [Watch.low] using low
    rw [out, raw]
    decide
  have settles := Watch.settle_lasting fresh lasts
  have high : (s.curt.a.sreset.settle (s.filterA .sreset) t).high = true := by rw [settles, raw]; rfl
  have new : s.curt.a.sreset.settle (s.filterA .sreset) t ≠ s.curt.a.sreset := by
    rw [settles]
    intro same
    exact fresh (congrArg Watch.out same).symm
  have reads : s.curt.a.read .sreset = s.curt.a.sreset := rfl
  rw [settlePinA_eq, reads, if_neg new]
  generalize s.curt.a.sreset.settle (s.filterA .sreset) t = n at high
  have read : (s.putA n .sreset).curt.a.sreset = n := rfl
  have state : (s.putA n .sreset).curtainDown = true := down
  have mode : (s.putA n .sreset).service = false := rehearsal
  generalize s.putA n .sreset = x at read state mode
  have noticed : x.noticedA .sreset s.curt.a.sreset n = x.mapCurt fun c => { c with edgeA := true } := by
    simp [noticedA, low, high, state, mode]
  rw [noticed]
  exact ⟨rfl, (congrArg Watch.high read).trans high⟩

theorem each_append {α : Type} (l m : List α) (f : α → State → State) : s.each (l ++ m) f = (s.each l f).each m f := List.foldl_append ..

/-- Pins beside SRESET leave channel A's reading of it, and its edge. -/
theorem sreset_settlePinsA (t : Nat) {l : List CurtPin} (out : .sreset ∉ l) :
    (s.each l (settlePinA t)).curt.a.sreset = s.curt.a.sreset ∧ (s.each l (settlePinA t)).curt.edgeA = s.curt.edgeA := by
  induction l generalizing s with
  | nil => exact ⟨rfl, rfl⟩
  | cons p l ih =>
    have ne : CurtPin.sreset ≠ p := fun eq => out (eq ▸ List.mem_cons_self ..)
    obtain ⟨reading, edge⟩ := ih (s.settlePinA t p) fun mem => out (List.mem_cons_of_mem _ mem)
    have settled := s.settledA_settlePinA t p
    exact ⟨reading.trans (settled.others .sreset ne), edge.trans (settled.edgeA ne.symm)⟩

theorem kept_settlePinsA (t : Nat) (l : List CurtPin) : Kept [] [.curt, .router] s (s.each l (settlePinA t)) :=
  Kept.rfl.each fun p _ x h => h.trans (x.kept_settlePinA t p)

theorem kept_settleA (t : Nat) : Kept [] [.curt, .router] s (s.settleA t) := by
  rw [settleA_eq]
  exact Kept.rfl.ite (s.kept_settlePinsA t _)

/-- Pins beside SRESET leave channel B's reading of it, and its edge. -/
theorem sreset_settlePinsB (t : Nat) {l : List CurtPin} (out : .sreset ∉ l) :
    (s.each l (settlePinB t)).curt.b.sreset = s.curt.b.sreset ∧ (s.each l (settlePinB t)).curt.edgeB = s.curt.edgeB := by
  induction l generalizing s with
  | nil => exact ⟨rfl, rfl⟩
  | cons p l ih =>
    have ne : CurtPin.sreset ≠ p := fun eq => out (eq ▸ List.mem_cons_self ..)
    obtain ⟨reading, edge⟩ := ih (s.settlePinB t p) fun mem => out (List.mem_cons_of_mem _ mem)
    have settled := s.settledB_settlePinB t p
    exact ⟨reading.trans (settled.others .sreset ne), edge.trans (settled.edgeB ne.symm)⟩

/-- Channel B's filters leave channel A's readings and edge. -/
theorem a_settleB (t : Nat) : (s.settleB t).curt.a = s.curt.a ∧ (s.settleB t).curt.edgeA = s.curt.edgeA := by
  have each (l : List CurtPin) (x : State) : (x.each l (settlePinB t)).curt.a = x.curt.a ∧ (x.each l (settlePinB t)).curt.edgeA = x.curt.edgeA := by
    induction l generalizing x with
    | nil => exact ⟨rfl, rfl⟩
    | cons p l ih =>
      have settled := x.settledB_settlePinB t p
      exact ⟨(ih _).1.trans settled.a, (ih _).2.trans settled.edgeA⟩
  exact each ..

/-- Channel A's filters leave channel B's readings and edge. -/
theorem b_settleA (t : Nat) : (s.settleA t).curt.b = s.curt.b ∧ (s.settleA t).curt.edgeB = s.curt.edgeB := by
  have each (l : List CurtPin) (x : State) : (x.each l (settlePinA t)).curt.b = x.curt.b ∧ (x.each l (settlePinA t)).curt.edgeB = x.curt.edgeB := by
    induction l generalizing x with
    | nil => exact ⟨rfl, rfl⟩
    | cons p l ih =>
      have settled := x.settledA_settlePinA t p
      exact ⟨(ih _).1.trans settled.b, (ih _).2.trans settled.edgeB⟩
  rw [settleA_eq]
  split
  · exact ⟨rfl, rfl⟩
  · exact each ..

theorem filterA_of_kept {parts : List Part} {a b : State} (k : Kept latchRegs parts a b) (status : b.paramOk = a.paramOk)
    (tables : .tables ∉ parts := by decide) : b.filterA .sreset = a.filterA .sreset := by
  have table : b.tables = a.tables := k.2 .tables tables
  have item : b.sp16 0xA = a.sp16 0xA := by simp only [sp16, tbl16, tbl8, tableMem, table]
  change (if b.paramOk then b.sp16 0xA * ms else 20 * ms) = if a.paramOk then a.sp16 0xA * ms else 20 * ms
  rw [status, item]

/-- Channel A's filters with a rise of SRESET that has lasted (R451). -/
theorem settleA_sreset {s : State} {t : Nat} (runs : s.aRuns = true) (raw : s.curt.a.sreset.raw = true) (low : s.curt.a.sreset.low = true)
    (lasts : s.curt.a.sreset.since + s.filterA .sreset ≤ t) (down : s.curtainDown = true) (rehearsal : s.service = false) :
    (s.settleA t).curt.edgeA = true ∧ (s.settleA t).curt.a.sreset.high = true := by
  have order : allCurtPins = [.estopA, .estopB] ++ ([.sreset] ++ [.kfbA, .kfbB, .kdrvA, .kdrvB]) := rfl
  obtain ⟨reading, -⟩ := s.sreset_settlePinsA t (l := [.estopA, .estopB]) (by decide)
  have kept := s.kept_settlePinsA t [.estopA, .estopB]
  rw [settleA_eq, runs, if_neg (by decide), order, each_append, each_append]
  generalize s.each [.estopA, .estopB] (settlePinA t) = x at reading kept ⊢
  have state : x.curtain = s.curtain := kept.get
  have downX : x.curtainDown = true := by rw [curtainDown, state]; exact down
  have time : x.filterA .sreset = s.filterA .sreset := filterA_of_kept (kept.mono (List.nil_subset _) (by decide) : Kept latchRegs [.curt, .router] s x) kept.bit
  rw [← reading] at raw low lasts
  obtain ⟨edge, high⟩ := settlePinA_sreset (t := t) raw low (time ▸ lasts) downX (kept.bit.trans rehearsal)
  change ((x.settlePinA t .sreset).each _ _).curt.edgeA = true ∧ ((x.settlePinA t .sreset).each _ _).curt.a.sreset.high = true
  generalize x.settlePinA t .sreset = y at edge high ⊢
  obtain ⟨stays, still⟩ := y.sreset_settlePinsA t (l := [.kfbA, .kfbB, .kdrvA, .kdrvB]) (by decide)
  exact ⟨still.trans edge, by rw [stays]; exact high⟩

/-! Channel B -/

theorem refusesB_congr {a b : State} (pin : b.curt.b.kdrvA = a.curt.b.kdrvA) (noted : b.curt.refuseB = a.curt.refuseB) (trip : b.btrip = a.btrip)
    (latched : b.curt.latchedAt = a.curt.latchedAt) (now : b.elapsed = a.elapsed) : b.refusesB = a.refusesB := by
  rw [refusesB, refusesB, pin, noted, trip, latched, now]

/-- What channel B's release of its latch depends on beside SRESET. -/
structure SameRelease (a b : State) : Prop where
  kept : Kept [] [.curt] a b
  released : b.curt.released = a.curt.released
  resetCmd : b.curt.resetCmd = a.curt.resetCmd
  sreset : b.curt.b.sreset = a.curt.b.sreset
  refuses : b.refusesB = a.refusesB

theorem SameRelease.trans {a b c : State} (h : SameRelease a b) (h' : SameRelease b c) : SameRelease a c :=
  ⟨h.kept.trans h'.kept, h'.released.trans h.released, h'.resetCmd.trans h.resetCmd, h'.sreset.trans h.sreset, h'.refuses.trans h.refuses⟩

/-- An E-stop input that is high at the pin latches nothing. -/
theorem sameRelease_settlePinB {s : State} {t : Nat} {p : CurtPin} (stop : p = .estopA ∨ p = .estopB) (high : (s.curt.b.read p).raw = true) :
    SameRelease s (s.settlePinB t p) := by
  have ne : CurtPin.sreset ≠ p ∧ CurtPin.kdrvA ≠ p := by rcases stop with rfl | rfl <;> decide
  rw [settlePinB_eq]
  split
  · exact ⟨Kept.rfl, rfl, rfl, rfl, rfl⟩
  · next new =>
    have low := Watch.settle_low_of_ne high new
    generalize (s.curt.b.read p).settle (filterB p) t = n at low ⊢
    have put : Kept [] [.curt] s (s.putB n p) := Kept.rfl.mapCurt
    have curt : (s.putB n p).curt = { s.curt with b := s.curt.b.put n p } := rfl
    have time : (s.putB n p).elapsed = s.elapsed := rfl
    generalize s.putB n p = x at put curt time ⊢
    have quiet : x.noticedB p (s.curt.b.read p) n = x := by
      rw [noticedB, low, Bool.and_false, if_neg (by decide), if_neg]
      simp [Ne.symm ne.1]
    have pin : x.curt.b.kdrvA = s.curt.b.kdrvA := by
      rw [curt]
      exact Readings.read_put_of_ne _ _ ne.2
    rw [quiet]
    refine ⟨put, by rw [curt], by rw [curt], ?_, refusesB_congr pin (by rw [curt]) put.bit (by rw [curt]) time⟩
    rw [curt]
    exact Readings.read_put_of_ne _ _ ne.1

/-- A pin that is neither an E-stop nor SRESET is only read. -/
theorem kept_settlePinB_plain {t : Nat} {p : CurtPin} (plain : p ≠ .estopA ∧ p ≠ .estopB ∧ p ≠ .sreset) : Kept [] [.curt] s (s.settlePinB t p) := by
  rw [settlePinB_eq]
  generalize (s.curt.b.read p).settle (filterB p) t = n
  have put : Kept [] [.curt] s (s.putB n p) := Kept.rfl.mapCurt
  generalize s.putB n p = x at put ⊢
  have quiet : x.noticedB p (s.curt.b.read p) n = x := by simp [noticedB, plain]
  rw [quiet]
  exact Kept.rfl.ite put

theorem settleB_stages (t : Nat) : s.settleB t = ((s.each [.estopA, .estopB] (settlePinB t)).settlePinB t .sreset).each
    [.kfbA, .kfbB, .kdrvA, .kdrvB] (settlePinB t) := by
  have order : allCurtPins = [.estopA, .estopB] ++ ([.sreset] ++ [.kfbA, .kfbB, .kdrvA, .kdrvB]) := rfl
  have one (x : State) : x.each [.sreset] (settlePinB t) = x.settlePinB t .sreset := rfl
  rw [settleB_eq, order, each_append, each_append, one]

/-- Both E-stop inputs high at the pins latch nothing. -/
theorem sameRelease_estops {s : State} {t : Nat} (highA : s.curt.b.estopA.raw = true) (highB : s.curt.b.estopB.raw = true) :
    SameRelease s (s.each [.estopA, .estopB] (settlePinB t)) := by
  have first := sameRelease_settlePinB (t := t) (Or.inl rfl) highA
  have other : (s.settlePinB t .estopA).curt.b.estopB = s.curt.b.estopB := (s.settledB_settlePinB t .estopA).others .estopB (by decide)
  have order : s.each [.estopA, .estopB] (settlePinB t) = (s.settlePinB t .estopA).settlePinB t .estopB := rfl
  rw [order]
  generalize s.settlePinB t .estopA = x at first other ⊢
  rw [← other] at highB
  exact first.trans (sameRelease_settlePinB (Or.inr rfl) highB)

theorem kept_settlePinsB_plain {t : Nat} {l : List CurtPin} (plain : ∀ p ∈ l, p ≠ .estopA ∧ p ≠ .estopB ∧ p ≠ .sreset) :
    Kept [] [.curt] s (s.each l (settlePinB t)) := Kept.rfl.each fun p mem x h => h.trans (x.kept_settlePinB_plain (plain p mem))

/-- Channel B's filters with a rise of SRESET that has lasted (R451, R452). -/
theorem settlePinB_sreset {s : State} {t : Nat} (raw : s.curt.b.sreset.raw = true) (low : s.curt.b.sreset.low = true)
    (lasts : s.curt.b.sreset.since + 10 * ms ≤ t) :
    (s.settlePinB t .sreset).curt.edgeB = some (s.curt.b.sreset.since + 10 * ms) ∧ (s.settlePinB t .sreset).curt.b.sreset.high = true ∧
      (s.curt.released.isSome = true → s.curt.resetCmd = none → s.refusesB = false → s.btrip = true → s.service = false →
        (s.settlePinB t .sreset).btrip = false) := by
  have fresh : s.curt.b.sreset.out ≠ some s.curt.b.sreset.raw := by
    have out : s.curt.b.sreset.out = some false := by simpa [Watch.low] using low
    rw [out, raw]
    decide
  have settles : s.curt.b.sreset.settle (filterB .sreset) t = { s.curt.b.sreset with out := some s.curt.b.sreset.raw, outSince := s.curt.b.sreset.since + 10 * ms } :=
    Watch.settle_lasting fresh lasts
  have high : (s.curt.b.sreset.settle (filterB .sreset) t).high = true := by rw [settles, raw]; rfl
  have since : (s.curt.b.sreset.settle (filterB .sreset) t).outSince = s.curt.b.sreset.since + 10 * ms := by rw [settles]
  have new : s.curt.b.sreset.settle (filterB .sreset) t ≠ s.curt.b.sreset := by
    rw [settles]
    intro same
    exact fresh (congrArg Watch.out same).symm
  have reads : s.curt.b.read .sreset = s.curt.b.sreset := rfl
  rw [settlePinB_eq, reads, if_neg new, ← since]
  generalize s.curt.b.sreset.settle (filterB .sreset) t = n at high ⊢
  obtain ⟨x, hx⟩ : ∃ x, (s.putB n .sreset).mapCurt (fun c => { c with edgeB := some n.outSince }) = x := ⟨_, rfl⟩
  have curt : x.curt = { s.curt with b := s.curt.b.put n .sreset, edgeB := some n.outSince } := hx ▸ rfl
  have kept : Kept [] [.curt] s x := hx ▸ Kept.rfl.mapCurt.mapCurt
  have time : x.elapsed = s.elapsed := hx ▸ rfl
  have noticed : (s.putB n .sreset).noticedB .sreset s.curt.b.sreset n =
      if x.curt.released.isSome && x.curt.resetCmd.isNone && !x.refusesB && x.btrip && !x.service then x.clearB else x := by
    rw [noticedB, low, high, if_neg (by simp), if_pos (by simp)]
    rw [← hx]
  rw [noticed]
  have refuses : x.refusesB = s.refusesB := refusesB_congr (by rw [curt]; rfl) (by rw [curt]) kept.bit (by rw [curt]) time
  have clear : Kept [Reg.CURTAIN_STATUS] [] x x.clearB := Kept.rfl.setBit
  have clearCurt : x.clearB.curt = x.curt := clear.2 .curt (by decide)
  have part : (if x.curt.released.isSome && x.curt.resetCmd.isNone && !x.refusesB && x.btrip && !x.service then x.clearB else x).curt = x.curt := by
    split
    · exact clearCurt
    · rfl
  rw [part]
  refine ⟨by rw [curt], by rw [curt]; exact high, fun released cmd free trip mode => ?_⟩
  have tripX : x.btrip = true := kept.bit.trans trip
  have modeX : x.service = false := kept.bit.trans mode
  rw [if_pos (by simp [curt, released, cmd, refuses, free, tripX, modeX])]
  exact bit_setBit_same _ (by decide) rfl

end State

/-- Both channels' pins taken without a change at them, up to channel A's filters. -/
theorem takePins_nil_stages (a : State) : ∃ x, (a.settleB a.elapsed).settleA a.elapsed = x ∧
    Kept [] [.curt] x (a.takePins []) ∧ (a.takePins []).curt.a = x.curt.a ∧ (a.takePins []).curt.b = x.curt.b ∧
    (a.takePins []).curt.edgeA = x.curt.edgeA ∧ (a.takePins []).curt.edgeB = x.curt.edgeB := by
  refine ⟨_, rfl, ?_⟩
  have eq : a.pinsTaken [] = ((a.settleB a.elapsed).settleA a.elapsed).judgeB := rfl
  rw [State.takePins_eq, eq]
  generalize (a.settleB a.elapsed).settleA a.elapsed = x
  have drive := x.curt_judgeB
  have kept := x.kept_judgeB
  generalize x.judgeB = y at drive kept ⊢
  have noted : (y.refusalNoted y.refusesB).curt = { y.curt with refuseB := y.refusesB } := rfl
  have keptN : Kept [] [.curt] x (y.refusalNoted y.refusesB) := kept.mapCurt
  generalize y.refusalNoted y.refusesB = z at noted keptN ⊢
  rw [noted, drive]
  exact ⟨keptN, rfl, rfl, rfl, rfl⟩

/-- The clauses of O34 on SRESET, once it has lasted channel A's filter. -/
theorem takePins_edgeA {a : State} (down : a.curtainDown = true) (rehearsal : a.service = false) (live : a.tableau = false)
    (started : a.power.startDue = false) (raw : a.curt.a.sreset.raw = true) (low : a.curt.a.sreset.low = true)
    (lasts : a.curt.a.sreset.since + a.filterA .sreset ≤ a.elapsed) :
    (a.takePins []).curt.edgeA = true ∧ (a.takePins []).curt.a.sreset.high = true ∧ (a.takePins []).curtainDown = true := by
  have pinned := a.pinned_settleB a.elapsed
  have all := a.pinned_takePins []
  obtain ⟨readings, -⟩ := a.a_settleB a.elapsed
  obtain ⟨x, hx, -, sameA, -, edge, -⟩ := takePins_nil_stages a
  generalize a.settleB a.elapsed = y at pinned readings hx
  have status {f : FieldRef} (apart_ : apart F.CURTAIN_STATUS_BTRIP f = true) (apart' : apart F.CURTAIN_PINS_SSTAT f = true) (far : f.addr ∉ haltRegs) :
      y.get f = a.get f := pinned.status f apart_ apart' far
  have runs : y.aRuns = true := by
    have liveY : y.tableau = false := (pinned.kept.bit (by decide)).trans live
    have power : y.power = a.power := pinned.kept.2 .power (by decide)
    rw [State.aRuns, liveY, power, started]
    rfl
  have state : y.curtain = a.curtain := status (by decide) (by decide) (by decide)
  have downY : y.curtainDown = true := by rw [State.curtainDown, state]; exact down
  have mode : y.service = false := (congrArg (· != 0) (status (f := F.CURTAIN_STATUS_MODE) (by decide) (by decide) (by decide))).trans rehearsal
  have param : y.paramOk = a.paramOk := congrArg (· != 0) (status (f := F.CURTAIN_STATUS_PARAM_OK) (by decide) (by decide) (by decide))
  have time : y.filterA .sreset = a.filterA .sreset := State.filterA_of_kept pinned.kept param
  rw [← readings] at raw low lasts
  obtain ⟨edged, high⟩ := State.settleA_sreset (t := a.elapsed) runs raw low (time ▸ lasts) downY mode
  have stateT : (a.takePins []).curtain = a.curtain := all.status F.CURTAIN_STATUS_STATE (by decide) (by decide) (by decide)
  rw [hx] at edged high
  exact ⟨edge.trans edged, by rw [sameA]; exact high, by rw [State.curtainDown, stateT]; exact down⟩

/-- The clauses of O34 on SRESET, once it has lasted channel B's 10 ms. -/
theorem takePins_edgeB {a : State} (raw : a.curt.b.sreset.raw = true) (low : a.curt.b.sreset.low = true)
    (lasts : a.curt.b.sreset.since + 10 * ms ≤ a.elapsed) :
    (a.takePins []).curt.edgeB = some (a.curt.b.sreset.since + 10 * ms) ∧ (a.takePins []).curt.b.sreset.high = true ∧
      (a.curt.released.isSome = true → a.curt.resetCmd = none → a.refusesB = false → a.btrip = true → a.service = false →
        a.curt.b.estopA.raw = true → a.curt.b.estopB.raw = true → (a.takePins []).btrip = false ∧ (a.takePins []).curtain = a.curtain) := by
  have all := a.pinned_takePins []
  obtain ⟨x, hx, last, -, sameB, -, edge⟩ := takePins_nil_stages a
  obtain ⟨readingsA, edgeA⟩ := (a.settleB a.elapsed).b_settleA a.elapsed
  have filtersA := (a.settleB a.elapsed).kept_settleA a.elapsed
  rw [hx] at readingsA edgeA filtersA
  have order : a.settleB a.elapsed = ((a.each [.estopA, .estopB] (State.settlePinB a.elapsed)).settlePinB a.elapsed .sreset).each
      [.kfbA, .kfbB, .kdrvA, .kdrvB] (State.settlePinB a.elapsed) := a.settleB_stages a.elapsed
  obtain ⟨reading, -⟩ := a.sreset_settlePinsB a.elapsed (l := [.estopA, .estopB]) (by decide)
  have release := fun highA highB => State.sameRelease_estops (s := a) (t := a.elapsed) highA highB
  generalize a.each [.estopA, .estopB] (State.settlePinB a.elapsed) = y at order reading release
  rw [← reading] at raw low
  obtain ⟨edged, high, clear⟩ := State.settlePinB_sreset (s := y) (t := a.elapsed) raw low (reading ▸ lasts)
  rw [reading] at edged
  generalize y.settlePinB a.elapsed .sreset = z at order edged high clear
  obtain ⟨stays, still⟩ := z.sreset_settlePinsB a.elapsed (l := [.kfbA, .kfbB, .kdrvA, .kdrvB]) (by decide)
  have plain := z.kept_settlePinsB_plain (t := a.elapsed) (l := [.kfbA, .kfbB, .kdrvA, .kdrvB]) (by decide)
  rw [← order] at stays still plain
  refine ⟨?_, ?_, fun released cmd free trip mode highA highB => ?_⟩
  · rw [edge, edgeA, still, edged]
  · rw [sameB, readingsA, stays, high]
  · have same := release highA highB
    have tripZ : z.btrip = false := clear (by rw [same.released]; exact released) (by rw [same.resetCmd]; exact cmd) (same.refuses.trans free)
      (same.kept.bit.trans trip) (same.kept.bit.trans mode)
    exact ⟨last.bit.trans (filtersA.bit.trans (plain.bit.trans tripZ)), all.status F.CURTAIN_STATUS_STATE (by decide) (by decide) (by decide)⟩

/-- A rise of SRESET is read by both channels from its instant on (R451). -/
theorem takePins_rise {a : State} {n : Nat} (rawA : a.curt.a.sreset.raw = false) (rawB : a.curt.b.sreset.raw = false) :
    ((a.takePins [{ pin := .sreset, level := true, ago := n }]).curt.a.sreset.raw = true ∧
      (a.takePins [{ pin := .sreset, level := true, ago := n }]).curt.a.sreset.since = a.elapsed - n) ∧
    (a.takePins [{ pin := .sreset, level := true, ago := n }]).curt.b.sreset.raw = true ∧
      (a.takePins [{ pin := .sreset, level := true, ago := n }]).curt.b.sreset.since = a.elapsed - n := by
  have stages : a.pinsTaken [{ pin := .sreset, level := true, ago := n }] =
      ((a.takeEdge { pin := .sreset, level := true, ago := n }).settlePins a.elapsed).judgeB := rfl
  have before := a.sameLevels_settlePins (a.elapsed - n) .sreset
  have edged : (a.takeEdge { pin := .sreset, level := true, ago := n }).curt = { (a.settlePins (a.elapsed - n)).curt with
      a := (a.settlePins (a.elapsed - n)).curt.a.put (((a.settlePins (a.elapsed - n)).curt.a.read .sreset).edge (a.elapsed - n) true) .sreset
      b := (a.settlePins (a.elapsed - n)).curt.b.put (((a.settlePins (a.elapsed - n)).curt.b.read .sreset).edge (a.elapsed - n) true) .sreset } := rfl
  rw [State.takePins_eq, stages]
  generalize a.takeEdge { pin := .sreset, level := true, ago := n } = x at edged ⊢
  generalize (a.settlePins (a.elapsed - n)).curt = c at before edged
  have after := x.sameLevels_settlePins a.elapsed .sreset
  generalize x.settlePins a.elapsed = y at after ⊢
  have drive := y.curt_judgeB
  generalize y.judgeB = z at drive ⊢
  have noted : (z.refusalNoted z.refusesB).curt = { z.curt with refuseB := z.refusesB } := rfl
  generalize z.refusalNoted z.refusesB = w at noted ⊢
  have lowA : (c.a.read .sreset).raw = false := before.1.1.trans rawA
  have lowB : (c.b.read .sreset).raw = false := before.2.1.trans rawB
  have riseA : (c.a.read .sreset).edge (a.elapsed - n) true = { c.a.read .sreset with raw := true, since := a.elapsed - n } := if_neg (by simp [lowA])
  have riseB : (c.b.read .sreset).edge (a.elapsed - n) true = { c.b.read .sreset with raw := true, since := a.elapsed - n } := if_neg (by simp [lowB])
  rw [riseA, riseB] at edged
  have levelA : (x.curt.a.read .sreset).raw = true ∧ (x.curt.a.read .sreset).since = a.elapsed - n := by
    rw [edged]
    exact ⟨rfl, rfl⟩
  have levelB : (x.curt.b.read .sreset).raw = true ∧ (x.curt.b.read .sreset).since = a.elapsed - n := by
    rw [edged]
    exact ⟨rfl, rfl⟩
  rw [noted, drive]
  exact ⟨⟨after.1.1.trans levelA.1, after.1.2.trans levelA.2⟩, after.2.1.trans levelB.1, after.2.2.trans levelB.2⟩

/-- Settles O34, command by command and edge by edge. -/
theorem curtainCommandsAndResets : Obligations.CurtainCommandsAndResets := by
  refine ⟨?lower, ?lowerRefused, ?resetRefused, ?notOk, ?accepted, ?cycle, ?rise, ?edgeA, ?edgeB⟩
  case lower =>
    intro s t d a code range len p0 p1
    have now : s.advance t = a := rfl
    clear_value a
    have pass : firstFail (State.lowerChecks d) = none := by
      simp [State.lowerChecks, firstFail, len, p0, p1, range]
    have run := (exec_curtainLower t d s).trans (execCurtainLower_eq ..)
    have same : code = State.lowerCode d := rfl
    clear_value code
    subst same
    cases down : a.curtainDown with
    | true =>
      obtain ⟨seen, stays, ended⟩ := State.lower_down (s := s) range down
      refine completes_at (x := (a.causeNow (State.lowerCode d)).finishLower d) run now ?_ ⟨fun h => absurd h (by decide), fun _ =>
        ⟨(State.ibit_settle ..).trans seen, ?_, fun soft => ⟨(ended soft).1, (ended soft).2.settled now⟩⟩⟩
      · rw [State.checked_pass _ pass, if_pos down]
      · have state : (s.settle a ((a.causeNow (State.lowerCode d)).finishLower d)).curtain = ((a.causeNow (State.lowerCode d)).finishLower d).curtain :=
          State.get_settle ..
        rw [State.curtainDown, state]
        exact stays
    | false =>
      refine completes_at (x := (a.curtCause (State.lowerCode d)).lowerWaits d) run now ?_ ⟨fun _ => ⟨rfl, ?_⟩, fun h => absurd h (by decide)⟩
      · rw [State.checked_pass _ pass, if_neg (by simp [down])]
      · exact ((a.kept_curtCause _).mapCurt : Kept [] [.curt] a ((a.curtCause (State.lowerCode d)).lowerWaits d)).settled now
  case lowerRefused =>
    intro s t d status detail a fail
    have now : s.advance t = a := rfl
    clear_value a
    refine completes_at (x := a.refuse d status detail) ((exec_curtainLower ..).trans (execCurtainLower_eq ..)) now (State.checked_fail _ ?_ _)
      ⟨Ended.refuse .., (a.kept_refuse ..).settled now⟩
    rw [← fail, State.lowerChecks, ne_zero_eq_decide, ne_zero_eq_decide, ne_zero_eq_decide, ← Bool.decide_or]
  case resetRefused =>
    intro s t d status detail a fail
    have now : s.advance t = a := rfl
    clear_value a
    refine completes_at (x := a.refuse d status detail) ((exec_curtainReset ..).trans (execCurtainReset_eq ..)) now (State.checked_fail _ ?_ _)
      ⟨Ended.refuse .., (a.kept_refuse ..).settled now⟩
    rw [← fail, State.resetChecks_eq]
  case notOk =>
    intro s t d a target len p0 p1 service down high bad
    have now : s.advance t = a := rfl
    clear_value a
    obtain ⟨-, counted, raised, kept, -⟩ := a.resetRefused_spec
    refine completes_at (x := a.resetRefused.refuse d st.stateRefused 4) ((exec_curtainReset ..).trans (execCurtainReset_eq ..)) now ?_ ?_
    · rw [State.checked_pass _ (resetChecks_pass target len p0 p1 service down high), if_pos (by simp [bad])]
    · generalize a.resetRefused = x at counted raised kept ⊢
      have ended := x.kept_refuse d st.stateRefused 4
      refine ⟨?_, (raised.kept ended).settle, (State.get_settle ..).trans (ended.get.trans counted), (kept.mono.trans ended.mono).settled now⟩
      rw [Ended, State.host_settle, State.refuse, (kept.2 .datum (by decide) : x.datum = a.datum)]
      exact State.host_complete_congr (kept.2 .host (by decide)) kept.bit ..
  case accepted =>
    intro s t d a target len p0 p1 service high ok
    have now : s.advance t = a := rfl
    clear_value a
    have run := (exec_curtainReset t d s).trans (execCurtainReset_eq ..)
    have pass (down : a.curtainDown = true) := resetChecks_pass target len p0 p1 service down high
    have asked : Kept [] [.curt] a (a.resetAsked d) := Kept.rfl.mapCurt
    have curt : (a.resetAsked d).curt = { a.curt with resetCmd := some d } := rfl
    have time : (a.resetAsked d).elapsed = a.elapsed := rfl
    obtain ⟨x, hx⟩ : ∃ x, a.resetAsked d = x := ⟨_, rfl⟩
    rw [hx] at asked curt time
    have state : x.curtain = a.curtain := asked.get
    by_cases lowered : a.curtain = cur.lowered
    · have down : a.curtainDown = true := by rw [State.curtainDown, lowered]; decide
      have datum : x.datum = a.datum := asked.2 .datum (by decide)
      obtain ⟨arms, stays, host, told, kept⟩ := State.resetDone_lowered (d := d) (state.trans lowered) (by rw [curt])
      refine completes_at (x := x.resetDone) run now ?_ ⟨fun _ => ⟨(State.bit_settle ..).trans arms, (State.get_settle ..).trans stays, ?_, ?_, ?_⟩,
        fun h => absurd (lowered.symm.trans h) (by decide)⟩
      · rw [State.checked_pass _ (pass down), if_neg (by simp [ok]), hx, if_pos (state.trans lowered)]
      · rw [Ended, State.host_settle, host, datum]
        exact State.host_complete_congr (asked.2 .host (by decide)) asked.bit ..
      · rw [Raised, datum, (asked.2 .router (by decide) : x.router = a.router)] at told
        exact Raised.settle told
      · exact (asked.mono.trans kept).settled now
    · by_cases locked : a.curtain = cur.locked
      · have down : a.curtainDown = true := by rw [State.curtainDown, locked]; decide
        obtain ⟨y, hy⟩ : ∃ y, x.tripReleased = y := ⟨_, rfl⟩
        have freed : Kept [] [.curt] x y := hy ▸ Kept.rfl.mapCurt
        have curtY : y.curt = { a.curt with tripa := false, released := some a.elapsed, resetCmd := some d } := by
          rw [← hy, ← time, State.tripReleased, State.curt_mapCurt, curt]
        have timeY : y.elapsed = a.elapsed := (hy ▸ rfl : y.elapsed = x.elapsed).trans time
        have keptY : Kept [] [.curt] a y := asked.trans freed
        have refuses : y.refusesB = a.refusesB := State.refusesB_congr (by rw [curtY]) (by rw [curtY]) keptY.bit (by rw [curtY]) timeY
        have reads : y.curt.b.sreset.high = a.curt.b.sreset.high := by rw [curtY]
        have clear : Kept [Reg.CURTAIN_STATUS] [] y y.clearB := Kept.rfl.setBit
        have cleared : y.clearB.btrip = false := State.bit_setBit_same _ (by decide) rfl
        have stateClear : y.clearB.curtain = y.curtain := State.get_setBit_apart _ (by decide)
        have curtClear : y.clearB.curt = y.curt := clear.2 .curt (by decide)
        have effect : a.checked d (a.resetChecks d) (fun s => if !s.resetOk then s.resetRefused.refuse d st.stateRefused 4
            else if (s.resetAsked d).curtain = cur.lowered then (s.resetAsked d).resetDone else (s.resetAsked d).resetReleased) =
              if a.curt.b.sreset.high && !a.refusesB then y.clearB else y := by
          rw [State.checked_pass _ (pass down), if_neg (by simp [ok]), hx, if_neg (by rw [state]; exact lowered), State.resetReleased, hy, reads, refuses]
        cases answers : (a.curt.b.sreset.high && !a.refusesB) with
        | true =>
          refine completes_at (x := y.clearB) run now (effect.trans (if_pos answers)) ⟨fun h => absurd h lowered, fun _ => ⟨?_, ?_, ?_, fun _ _ => ⟨?_, ?_⟩, fun h => ?_⟩⟩
          · rw [State.curt_settle, curtClear, curtY]
          · rw [State.curt_settle, curtClear, curtY]
          · exact (State.get_settle ..).trans (stateClear.trans keptY.get)
          · exact (State.bit_settle ..).trans cleared
          · exact (keptY.mono.trans clear.mono).settled now
          · rw [Bool.and_eq_true, Bool.not_eq_true'] at answers
            rcases h with h | h
            · exact absurd (h.symm.trans answers.2) (by decide)
            · exact absurd (h.symm.trans answers.1) (by decide)
        | false =>
          refine completes_at (x := y) run now (effect.trans (if_neg (by simp [answers]))) ⟨fun h => absurd h lowered, fun _ => ⟨?_, ?_, ?_, fun free high => ?_,
            fun _ => keptY.settled now⟩⟩
          · rw [State.curt_settle, curtY]
          · rw [State.curt_settle, curtY]
          · exact (State.get_settle ..).trans keptY.get
          · rw [free, high] at answers
            exact absurd answers (by decide)
      · exact completes_at (x := a.checked d (a.resetChecks d) fun s => if !s.resetOk then s.resetRefused.refuse d st.stateRefused 4
            else if (s.resetAsked d).curtain = cur.lowered then (s.resetAsked d).resetDone else (s.resetAsked d).resetReleased) run now rfl
          ⟨fun h => absurd h lowered, fun h => absurd h locked⟩
  case cycle =>
    intro s t t0 p a m live started locked released quiet
    have now : s.advance t = a := rfl
    have pinned : Pinned a m := a.pinned_takePins p.edges
    have hm : a.takePins p.edges = m := rfl
    clear_value a
    clear_value m
    have runs : m.aRuns = true := by
      have liveM : m.tableau = false := (pinned.kept.bit (by decide)).trans live
      have power : m.power = a.power := pinned.kept.2 .power (by decide)
      rw [State.aRuns, liveM, power, started]
      rfl
    obtain ⟨x, sampled, eq⟩ := State.cycled_locked locked p.selfOk
    have run := (exec_channelACycle t p s).trans (execChannelACycle_eq ..)
    have effect : (if !(a.takePins p.edges).aRuns then a.takePins p.edges else (a.takePins p.edges).cycled p.selfOk) = x.judgeReset.raiseStarted.beaten := by
      rw [hm, runs, if_neg (by decide), eq]
    have lockedX : x.curtain = cur.locked := (sampled.kept.get status_not_mem_cycleRegs.1).trans locked
    have releasedX : x.curt.released = some t0 := sampled.released.trans released
    have quietX : x.curt.edgeA = false := sampled.edgeA.trans quiet
    have time : x.elapsed = a.elapsed := sampled.elapsed.trans pinned.elapsed
    have host : x.host = m.host := sampled.kept.2 .host (by decide)
    have cmd := sampled.resetCmd
    have waits := sampled.waiting
    have trip : x.btrip = m.btrip := sampled.kept.bit status_not_mem_cycleRegs.1
    have refused : x.get F.CURTAIN_RESET_REFUSED_COUNT = m.get F.CURTAIN_RESET_REFUSED_COUNT := sampled.kept.get status_not_mem_cycleRegs.2
    have fellX := State.fellInTime_of_sampled sampled t0
    clear eq sampled
    rw [← fellX, ← cmd, ← host, ← refused, ← waits]
    clear fellX
    cases fell : x.fellInTime t0 with
    | true =>
      have release := State.judgeRelease_fell releasedX fell
      obtain ⟨arms, trips, state, gone, ended, edge, dispatched⟩ := State.resetDone_locked lockedX
      have judged : x.judgeReset = x.resetDone := by
        rw [State.judgeReset_of_quiet (by rw [release, edge, quietX]), release]
      have low : x.btrip = false := by
        rw [State.fellInTime, Bool.and_eq_true, Bool.not_eq_true'] at fell
        exact fell.1
      rw [judged] at effect
      generalize x.resetDone = y at arms trips state gone ended dispatched effect
      obtain ⟨armsY, tripsY, stateY, goneY, endedY, hostY⟩ := y.raiseStarted_spec
      generalize y.raiseStarted = z at armsY tripsY stateY goneY endedY hostY effect
      have beat := z.kept_beaten
      have curt : z.beaten.curt = { z.curt with hb := !z.curt.hb, lastHb := z.elapsed } := rfl
      have hostZ : z.beaten.host = z.host := beat.2 .host (by decide)
      generalize z.beaten = w at beat curt hostZ effect
      refine completes_at (x := w) run now effect ⟨fun _ => ⟨?_, ?_, ?_, ?_, ?_, fun d asked idle => ?_⟩, fun h => absurd h (by decide), fun h => absurd h (by decide)⟩
      · exact (State.bit_settle ..).trans (beat.bit.trans (armsY.trans arms))
      · exact (State.bit_settle ..).trans (beat.bit.trans (tripsY.trans (trips.trans low)))
      · have shown : (s.settle a w).curtain = z.curtain := (State.get_settle ..).trans beat.get
        rw [shown]
        rcases stateY with same | ⟨-, raising⟩
        · exact Or.inl (same.trans state)
        · exact Or.inr raising
      · rw [State.curt_settle, curt]
        exact goneY.trans gone
      · rw [State.curt_settle, curt]
        exact endedY.trans ended
      · rw [State.host_settle, hostZ, hostY, dispatched d asked idle]
    | false =>
      by_cases late : t0 + 2 * ms ≤ a.elapsed
      · have release := State.judgeRelease_refused releasedX fell (by rw [time]; exact late)
        obtain ⟨state, tripa, gone, edge, counted, dispatched⟩ := State.releaseRefused_spec lockedX
        have judged : x.judgeReset = x.releaseRefused := by
          rw [State.judgeReset_of_quiet (by rw [release, edge, quietX]), release]
        rw [judged] at effect
        generalize x.releaseRefused = y at state tripa gone counted dispatched effect
        rw [State.raiseStarted_locked state] at effect
        have beat := y.kept_beaten
        have curt : y.beaten.curt = { y.curt with hb := !y.curt.hb, lastHb := y.elapsed } := rfl
        have hostZ : y.beaten.host = y.host := beat.2 .host (by decide)
        generalize y.beaten = w at beat curt hostZ effect
        refine completes_at (x := w) run now effect ⟨fun h => absurd h (by decide), fun _ _ => ⟨?_, ?_, ?_, ?_, fun d asked => ?_⟩, fun _ early => absurd late (by omega)⟩
        · exact (State.get_settle ..).trans (beat.get.trans state)
        · rw [State.curt_settle, curt]
          exact tripa
        · rw [State.curt_settle, curt]
          exact gone
        · rw [State.get_settle, beat.get, counted]
        · rw [State.host_settle, hostZ, dispatched d asked]
      · have release := State.judgeRelease_waits releasedX fell (by rw [time]; omega)
        have judged : x.judgeReset = x := by
          rw [State.judgeReset_of_quiet (by rw [release, quietX]), release]
        rw [judged, State.raiseStarted_locked lockedX] at effect
        have beat := x.kept_beaten
        have curt : x.beaten.curt = { x.curt with hb := !x.curt.hb, lastHb := x.elapsed } := rfl
        generalize x.beaten = w at beat curt effect
        refine completes_at (x := w) run now effect ⟨fun h => absurd h (by decide), fun _ h => absurd h late, fun _ _ => ⟨?_, ?_⟩⟩
        · exact (State.get_settle ..).trans (beat.get.trans lockedX)
        · rw [State.curt_settle, curt]
          exact releasedX
  case rise =>
    intro s t n a rawA rawB past
    have now : s.advance t = a := rfl
    clear_value a
    obtain ⟨levelA, levelB⟩ := takePins_rise (n := n) rawA rawB
    exact completes_at (x := a.takePins [{ pin := .sreset, level := true, ago := n }]) (exec_sresetEdge ..) now rfl
      ⟨by rw [State.curt_settle, levelA.1], by rw [State.curt_settle, levelA.2], by rw [State.curt_settle, levelB.1], by rw [State.curt_settle, levelB.2]⟩
  case edgeA =>
    intro s t a down rehearsal live started raw low lasts
    have now : s.advance t = a := rfl
    clear_value a
    obtain ⟨edge, high, stays⟩ := takePins_edgeA down rehearsal live started raw low lasts
    have state : (s.settle a (a.takePins [])).curtain = (a.takePins []).curtain := State.get_settle ..
    exact completes_at (x := a.takePins []) (exec_sresetEdge ..) now rfl
      ⟨by rw [State.curt_settle, edge], by rw [State.curt_settle, high], by rw [State.curtainDown, state]; exact stays⟩
  case edgeB =>
    intro s t a w raw low lasts
    have now : s.advance t = a := rfl
    clear_value a
    obtain ⟨edge, high, answers⟩ := takePins_edgeB raw low lasts
    refine completes_at (x := a.takePins []) (exec_sresetEdge ..) now rfl
      ⟨by rw [State.curt_settle, edge], by rw [State.curt_settle, high], fun released cmd free trip mode stopA stopB => ?_⟩
    obtain ⟨clear, state⟩ := answers released cmd free trip mode stopA stopB
    exact ⟨(State.bit_settle ..).trans clear, (State.get_settle ..).trans state⟩

end Sys2Proof.Machine

/-! PROOFS. What the end of tableau must not disturb: the TABLEAU bit, datum time, the events held and the host writes held; and the operations
that leave them. -/

namespace Sys2Proof.Machine

set_option Elab.async false

/-- TABLEAU, datum time, the events held and the host writes held are as they were. -/
structure Steady (a b : State) : Prop where
  tableau : b.tableau = a.tableau
  datum : b.datum = a.datum
  events : b.router.held = a.router.held
  writes : b.host.held = a.host.held

namespace Steady

variable {a b c : State}

theorem rfl : Steady a a := ⟨Eq.refl _, Eq.refl _, Eq.refl _, Eq.refl _⟩

theorem trans (h : Steady a b) (h' : Steady b c) : Steady a c :=
  ⟨h'.tableau.trans h.tableau, h'.datum.trans h.datum, h'.events.trans h.events, h'.writes.trans h.writes⟩

/-- What is kept in registers and parts is kept here. -/
theorem kept (h : Steady a b) {regs : List Nat} {parts : List Part} (k : Kept regs parts b c) (hr : 0x1400 ∉ regs := by decide)
    (hd : .datum ∉ parts := by decide) (he : .router ∉ parts := by decide) (hh : .host ∉ parts := by decide) : Steady a c :=
  h.trans ⟨k.bit hr, k.2 .datum hd, congrArg Router.held (k.2 .router he), congrArg HostIf.held (k.2 .host hh)⟩

/-- Events are raised, and what is kept beside is kept here. -/
theorem raised (h : Steady a b) {regs : List Nat} {parts : List Part} (k : Kept regs parts b c) (r : State.Raises b c)
    (hr : 0x1400 ∉ regs := by decide) (hd : .datum ∉ parts := by decide) (hh : .host ∉ parts := by decide) : Steady a c := by
  obtain ⟨l, same⟩ := r
  exact h.trans ⟨k.bit hr, k.2 .datum hd, (congrArg Router.held same).trans (Eq.refl _), congrArg HostIf.held (k.2 .host hh)⟩

/-! Registers -/

theorem set (h : Steady a b) {f : FieldRef} {v : Nat} (hf : apart f F.POWER_STATUS_TABLEAU = true := by simp [apart] <;> omega) :
    Steady a (b.set f v) :=
  h.trans ⟨b.bit_set_apart hf, Eq.refl _, Eq.refl _, Eq.refl _⟩

theorem setBit (h : Steady a b) {f : FieldRef} {v : Bool} (hf : apart f F.POWER_STATUS_TABLEAU = true := by simp [apart] <;> omega) :
    Steady a (b.setBit f v) :=
  h.trans ⟨b.bit_setBit_apart hf, Eq.refl _, Eq.refl _, Eq.refl _⟩

theorem setIbit (h : Steady a b) {f : FieldRef} {i : Nat} {v : Bool}
    (hf : apart f F.POWER_STATUS_TABLEAU = true := by simp [apart] <;> omega) : Steady a (b.setIbit f i v) :=
  h.trans ⟨b.bit_setIbit_apart hf, Eq.refl _, Eq.refl _, Eq.refl _⟩

theorem setInt (h : Steady a b) {f : FieldRef} {v : Int} (hf : apart f F.POWER_STATUS_TABLEAU = true := by simp [apart] <;> omega) :
    Steady a (b.setInt f v) := h.set hf

theorem setSat (h : Steady a b) {f : FieldRef} {v : Int} (hf : apart f F.POWER_STATUS_TABLEAU = true := by simp [apart] <;> omega) :
    Steady a (b.setSat f v) := h.set hf

theorem setTop (h : Steady a b) {f : FieldRef} {v : Nat} (hf : apart f F.POWER_STATUS_TABLEAU = true := by simp [apart] <;> omega) :
    Steady a (b.setTop f v) := h.set hf

theorem count (h : Steady a b) {f : FieldRef} {n : Nat} (hf : apart f F.POWER_STATUS_TABLEAU = true := by simp [apart] <;> omega) :
    Steady a (b.count f n) := h.set hf

theorem countWrap (h : Steady a b) {f : FieldRef} (hf : apart f F.POWER_STATUS_TABLEAU = true := by simp [apart] <;> omega) :
    Steady a (b.countWrap f) := h.set hf

theorem setReg (h : Steady a b) {r : Nat} {v : Word} (hr : r ≠ 0x1400 := by simp <;> omega) : Steady a (b.setReg r v) := by
  refine h.trans ⟨?_, Eq.refl _, Eq.refl _, Eq.refl _⟩
  rw [State.tableau, State.bit, State.get, State.reg_setReg, if_neg hr]
  exact Eq.refl _

theorem setPair (h : Steady a b) {lo v : Nat} (hl : lo ≠ 0x1400 := by simp <;> omega)
    (hh : lo + 4 ≠ 0x1400 := by simp <;> omega) : Steady a (b.setPair lo v) := (h.setReg hl).setReg hh

theorem noteClass (h : Steady a b) {c : Nat} : Steady a (b.noteClass c) := h.setIbit

theorem noteFault (h : Steady a b) {num inst : Nat} : Steady a (b.noteFault num inst) := by
  unfold State.noteFault
  split
  · exact h
  · exact h.noteClass

/-! Parts of the state -/

theorem router (h : Steady a b) {x : Router} (same : x.held = b.router.held := by exact Eq.refl _) : Steady a { b with router := x } :=
  h.trans ⟨Eq.refl _, Eq.refl _, same, Eq.refl _⟩

theorem host (h : Steady a b) {x : HostIf} (same : x.held = b.host.held := by exact Eq.refl _) : Steady a { b with host := x } :=
  h.trans ⟨Eq.refl _, Eq.refl _, Eq.refl _, same⟩

theorem mapHost (h : Steady a b) {f : HostIf → HostIf} (same : (f b.host).held = b.host.held := by exact Eq.refl _) :
    Steady a (b.mapHost f) := h.host same

theorem stage (h : Steady a b) {e : StagedEntry} : Steady a (b.stage e) := h.host

theorem disc (h : Steady a b) {x : Disc} : Steady a { b with disc := x } := h.trans ⟨Eq.refl _, Eq.refl _, Eq.refl _, Eq.refl _⟩

theorem mer (h : Steady a b) {x : Meridian} : Steady a { b with mer := x } := h.trans ⟨Eq.refl _, Eq.refl _, Eq.refl _, Eq.refl _⟩

theorem conv (h : Steady a b) {x : Conv} : Steady a { b with conv := x } := h.trans ⟨Eq.refl _, Eq.refl _, Eq.refl _, Eq.refl _⟩

theorem wing (h : Steady a b) {x : Wing} : Steady a { b with wing := x } := h.trans ⟨Eq.refl _, Eq.refl _, Eq.refl _, Eq.refl _⟩

theorem grid (h : Steady a b) {x : Grid} : Steady a { b with grid := x } := h.trans ⟨Eq.refl _, Eq.refl _, Eq.refl _, Eq.refl _⟩

theorem engine (h : Steady a b) {x : Engine} : Steady a { b with engine := x } := h.trans ⟨Eq.refl _, Eq.refl _, Eq.refl _, Eq.refl _⟩

theorem cast (h : Steady a b) {x : Cast} : Steady a { b with cast := x } := h.trans ⟨Eq.refl _, Eq.refl _, Eq.refl _, Eq.refl _⟩

theorem pwr (h : Steady a b) {x : CellPwr} : Steady a { b with pwr := x } := h.trans ⟨Eq.refl _, Eq.refl _, Eq.refl _, Eq.refl _⟩

theorem meter (h : Steady a b) {x : Meter} : Steady a { b with meter := x } := h.trans ⟨Eq.refl _, Eq.refl _, Eq.refl _, Eq.refl _⟩

theorem curt (h : Steady a b) {x : Curt} : Steady a { b with curt := x } := h.trans ⟨Eq.refl _, Eq.refl _, Eq.refl _, Eq.refl _⟩

theorem guard (h : Steady a b) {x : Guard} : Steady a { b with guard := x } := h.trans ⟨Eq.refl _, Eq.refl _, Eq.refl _, Eq.refl _⟩

theorem pump (h : Steady a b) {x : Pump} : Steady a { b with pump := x } := h.trans ⟨Eq.refl _, Eq.refl _, Eq.refl _, Eq.refl _⟩

theorem power (h : Steady a b) {x : Power} : Steady a { b with power := x } := h.trans ⟨Eq.refl _, Eq.refl _, Eq.refl _, Eq.refl _⟩

theorem ghost (h : Steady a b) {x : Ghost} : Steady a { b with ghost := x } := h.trans ⟨Eq.refl _, Eq.refl _, Eq.refl _, Eq.refl _⟩

theorem scrub (h : Steady a b) {x : Scrub} : Steady a { b with scrub := x } := h.trans ⟨Eq.refl _, Eq.refl _, Eq.refl _, Eq.refl _⟩

theorem mapWing (h : Steady a b) {f : Wing → Wing} : Steady a (b.mapWing f) := h.wing

theorem mapGrid (h : Steady a b) {f : Grid → Grid} : Steady a (b.mapGrid f) := h.grid

theorem mapEngine (h : Steady a b) {f : Engine → Engine} : Steady a (b.mapEngine f) := h.engine

theorem mapMeter (h : Steady a b) {f : Meter → Meter} : Steady a (b.mapMeter f) := h.meter

theorem mapCurt (h : Steady a b) {f : Curt → Curt} : Steady a (b.mapCurt f) := h.curt

theorem mapGuard (h : Steady a b) {f : Guard → Guard} : Steady a (b.mapGuard f) := h.guard

theorem mapPump (h : Steady a b) {f : Pump → Pump} : Steady a (b.mapPump f) := h.pump

theorem mapPower (h : Steady a b) {f : Power → Power} : Steady a (b.mapPower f) := h.power

theorem mapGhost (h : Steady a b) {f : Ghost → Ghost} : Steady a (b.mapGhost f) := h.ghost

theorem mapScrub (h : Steady a b) {f : Scrub → Scrub} : Steady a (b.mapScrub f) := h.scrub

theorem mapCore (h : Steady a b) {f : MeterCore → MeterCore} : Steady a (b.mapCore f) := h.meter

theorem raiseAt (h : Steady a b) {stamp num inst : Nat} : Steady a (b.raiseAt stamp num inst) := h.noteFault.router

theorem raise (h : Steady a b) {num inst : Nat} : Steady a (b.raise num inst) := h.raiseAt

/-! Conditions and lists -/

theorem when (h : Steady a b) {f : State → State} {q : Bool} (hf : Steady a b → Steady a (f b)) : Steady a (b.when q f) := by
  cases q with
  | false => exact h
  | true => exact hf h

theorem ite {q : Prop} [Decidable q] {x y : State} (hx : Steady a x) (hy : Steady a y) : Steady a (if q then x else y) := by
  split
  · exact hx
  · exact hy

theorem each (h : Steady a b) {α : Type} {f : α → State → State} {l : List α} (hf : ∀ i ∈ l, ∀ x, Steady a x → Steady a (f i x)) :
    Steady a (b.each l f) := by
  induction l generalizing b with
  | nil => exact h
  | cons i l ih => exact ih (hf i (List.mem_cons_self ..) b h) fun j hj => hf j (List.mem_cons_of_mem _ hj)

end Steady

theorem powerStatus_not_mem_meterRegs : 0x1400 ∉ meterRegs := by
  intro mem
  rcases List.mem_cons.1 mem with eq | block
  · exact absurd eq (by decide)
  · obtain ⟨i, inside, eq⟩ := List.mem_map.1 block
    have : (0x4000 : Nat) + 4 * i = 0x1400 := eq
    omega

theorem Metered.steady {a b : State} (h : Metered a b) : Steady a b := Steady.rfl.raised h.kept h.raises powerStatus_not_mem_meterRegs

theorem Closing.steady {a b : State} (h : Closing a b) : Steady a b := Steady.rfl.raised h.kept h.raises powerStatus_not_mem_meterRegs

end Sys2Proof.Machine

/-! PROOFS. What the blocks do when tableau ends and what the writes it held do (R569, R596, R603), of TABLEAU, datum time, held events and held writes. -/

namespace Sys2Proof.Machine

set_option Elab.async false

namespace State

variable (s : State)

/-- TABLEAU is read only. -/
theorem steady_writeByAccess (a : Nat) (data : Word) : Steady s (s.writeByAccess a data) := by
  by_cases power : a = F.POWER_STATUS_TABLEAU.addr
  · subst power
    have parts : Kept [F.POWER_STATUS_TABLEAU.addr] [] s (s.writeByAccess F.POWER_STATUS_TABLEAU.addr data) :=
      s.kept_writeByAccess data _ (List.mem_singleton.2 rfl)
    refine ⟨?_, parts.2 .datum (by decide), congrArg Router.held (parts.2 .router (by decide)), congrArg HostIf.held (parts.2 .host (by decide))⟩
    rw [tableau, bit, s.get_writeByAccess_ro (by decide)]
    rfl
  · exact Steady.rfl.kept (regs := [a]) (parts := []) (s.kept_writeByAccess data a (List.mem_singleton.2 rfl))
      (fun mem => power (List.mem_singleton.1 mem).symm)

/-- No block's CFG_REJECT is TABLEAU. -/
theorem apart_rejectBit (a : Nat) : (rejectBit a).all (fun f => apart f F.POWER_STATUS_TABLEAU) = true := by
  unfold rejectBit
  iterate 19 refine all_ite rfl ?_
  rfl

theorem steady_rejectWrite (a : Nat) : Steady s (s.rejectWrite a) := by
  have other := apart_rejectBit a
  unfold rejectWrite
  cases reject : rejectBit a with
  | none => exact .rfl
  | some f =>
    rw [reject] at other
    exact Steady.rfl.setBit other

theorem steady_traceDrop : Steady s s.traceDrop := by
  unfold State.traceDrop
  dsimp only
  exact Steady.rfl.count.host.setBit.raise.ite Steady.rfl.count

theorem steady_dropEntries (gone : StagedEntry → Bool) : Steady s (s.dropEntries gone) := by
  unfold State.dropEntries
  extract_lets out two staged2 r srouter shost smeter y z
  have dropped : Steady s y := ⟨rfl, rfl, rfl, rfl⟩
  have counted : Steady s z := dropped.set.when fun h => h.set.setBit
  exact counted.each fun _ _ _ h => h.trans (steady_traceDrop ..)

theorem steady_unstage (p : Nat → Bool) : Steady s (s.unstage p) := by
  unfold State.unstage
  exact steady_dropEntries ..

theorem steady_foundFull (n : Nat) : Steady s (s.foundFull n) := by
  unfold State.foundFull
  exact Steady.rfl.host.raise.ite Steady.rfl

theorem steady_stageDone (d : Desc) (status : Nat) (detail : Nat) (doneTime : Nat) : Steady s (s.stageDone d status detail doneTime) := by
  unfold State.stageDone
  exact Steady.rfl.stage.ite Steady.rfl

theorem steady_complete (d : Desc) (status : Nat) (detail : Nat) (doneTime : Nat) : Steady s (s.complete d status detail doneTime) := by
  unfold State.complete
  exact (Steady.rfl.host.trans (steady_stageDone ..)).ite Steady.rfl

theorem steady_refuse (d : Desc) (status : Nat) (detail : Nat) : Steady s (s.refuse d status detail) := by
  unfold State.refuse
  exact steady_complete ..

theorem steady_trace (stamp : Nat) (bytes : List Byte) : Steady s (s.trace stamp bytes) := by
  unfold State.trace
  exact Steady.rfl.stage.ite ((steady_foundFull ..).trans (steady_traceDrop ..))

theorem steady_traceCmd (d : Desc) (status : Nat) : Steady s (s.traceCmd d status) := by
  unfold State.traceCmd
  exact Steady.rfl.when fun h => h.trans (steady_trace ..)

theorem steady_setCauses (src : Nat) (n : Nat) : Steady s (s.setCauses src n) := by
  unfold State.setCauses
  exact Steady.rfl.router

theorem steady_setVec (v : Nat) (x : Vec) : Steady s (s.setVec v x) := by
  unfold State.setVec
  exact Steady.rfl.router

theorem steady_judge (v : Nat) : Steady s (s.judge v) := by
  unfold State.judge
  extract_lets x
  split
  · exact Steady.rfl.ite (steady_setVec ..)
  · exact (steady_setVec ..).ite ((steady_setVec ..).ite .rfl)
  · exact (steady_setVec ..).ite .rfl
  · exact .rfl
  · exact .rfl

theorem steady_judgeAll : Steady s s.judgeAll := by
  unfold State.judgeAll
  exact Steady.rfl.ite (Steady.rfl.each fun _ _ _ h => h.trans (steady_judge ..))

theorem steady_addCause (src : Nat) : Steady s (s.addCause src) := by
  unfold State.addCause
  dsimp only
  exact ((steady_setCauses ..).ite ((((steady_setCauses ..).trans (steady_setVec ..)).ite (steady_setCauses ..)).trans (steady_judge ..))).ite (steady_setCauses ..)

theorem steady_record (e : Event) : Steady s (s.record e) := by
  unfold State.record
  exact Steady.rfl.stage.router.countWrap.ite (steady_foundFull ..).count.setBit.router

theorem steady_spPut (e : Event) : Steady s (s.spPut e) := by
  unfold State.spPut
  exact Steady.rfl.ite (Steady.rfl.router.ite Steady.rfl.count.raise)

theorem steady_setSink (k : Nat) (x : Sink) : Steady s (s.setSink k x) := by
  unfold State.setSink
  exact Steady.rfl.router

theorem steady_sinkClose (k at_ : Nat) : Steady s (s.sinkClose k at_) := by
  unfold State.sinkClose
  extract_lets x
  split
  · exact .rfl
  · exact (steady_setSink ..).count.ite .rfl

theorem steady_sinkOutput {k : Nat} (small : k < 64) : Steady s (s.sinkOutput k) := by
  unfold State.sinkOutput
  extract_lets y until_
  have counted : Steady s y := Steady.rfl.countWrap
  exact counted.router.ite counted

theorem steady_present1 (e : Event) {k : Nat} (small : k < 64) (sa : State × List Event) : Steady sa.1 (present1 e k sa).1 := by
  unfold present1
  split
  · exact .rfl
  · extract_lets y r z
    have judged : Steady sa.1 z := (steady_sinkClose ..).trans (steady_setSink ..)
    split
    · exact judged.trans (steady_sinkOutput _ small)
    · exact judged

theorem steady_presented (e : Event) {l : List Nat} (small : ∀ k ∈ l, k < 64) (sa : State × List Event) :
    Steady sa.1 (l.foldl (fun sa k => present1 e k sa) sa).1 := by
  induction l generalizing sa with
  | nil => exact .rfl
  | cons k l ih =>
    exact (steady_present1 e (small k (List.mem_cons_self ..)) sa).trans (ih (fun j mem => small j (List.mem_cons_of_mem _ mem)) _)

theorem steady_processEvent (fuel : Nat) (e : Event) : Steady s (processEvent fuel e s) := by
  induction fuel generalizing e s with
  | zero => exact .rfl
  | succ fuel ih =>
    rw [processEvent]
    refine Steady.each ?_ fun i _ x h => h.trans (ih x i)
    refine Steady.trans ?_ (steady_presented e (fun k mem => List.mem_range.1 mem) (_, []))
    exact ((Steady.rfl.when fun h => h.trans (steady_record ..)).trans (steady_addCause ..)).when fun h => h.trans (steady_spPut ..)

theorem steady_release (e : Event) : Steady s (s.release e) := by
  unfold State.release
  exact steady_processEvent ..

theorem steady_eoi (data : Word) : Steady s (s.eoi data) := by
  unfold State.eoi
  dsimp only
  exact ((steady_setVec ..).ite ((steady_setVec ..).trans (steady_judge ..))).ite Steady.rfl.setBit.count.raise

theorem steady_writeMask {m : Nat} (small : m < 8) (data : Word) : Steady s (s.writeMask m data) := by
  unfold State.writeMask
  exact (((steady_judgeAll ..).router.setReg (by unfold Reg.IRQ_MASK; omega)).each fun _ _ _ h => (h.trans (steady_setVec ..)).ite h).trans (steady_judgeAll ..)

theorem steady_doorbellBad (n : Nat) : Steady s (s.doorbellBad n) := by
  unfold State.doorbellBad
  exact Steady.rfl.setBit.count.raise

theorem steady_doorbell (n : Nat) (v : Nat) : Steady s (s.doorbell n v) := by
  unfold State.doorbell
  exact (Steady.rfl.set.ite Steady.rfl.set).ite (steady_doorbellBad ..)

theorem steady_dispatch (d : Desc) : Steady s (s.dispatch d) := by
  unfold State.dispatch
  exact Steady.rfl.mapHost.trans (steady_traceCmd ..)

theorem steady_enterTimed (d : Desc) : Steady s (s.enterTimed d) := by
  unfold State.enterTimed
  exact (steady_stageDone ..).ite ((steady_stageDone ..).ite Steady.rfl.mapHost)

theorem steady_pumpList (l : List Desc) : Steady s (s.pumpList l) := by
  induction l generalizing s with
  | nil => exact Steady.rfl.mapHost
  | cons d l ih =>
    rw [pumpList]
    exact Steady.rfl.mapHost.ite (((steady_enterTimed ..).trans (ih _)).ite ((steady_dispatch ..).trans (ih _)))

theorem steady_serveFetched : Steady s s.serveFetched := by
  unfold State.serveFetched
  exact Steady.rfl.ite (steady_pumpList ..)

theorem steady_dispatchTimed : Steady s s.dispatchTimed := by
  unfold State.dispatchTimed
  exact Steady.rfl.mapHost.each fun _ _ _ h => h.trans (steady_dispatch ..)

theorem steady_writeRingCfg (n : Nat) (data : Word) : Steady s (s.writeRingCfg n data) := by
  unfold State.writeRingCfg
  split
  · exact Steady.rfl.setBit
  · extract_lets was y
    have sized : Steady s y := Steady.rfl.set.setBit
    exact (sized.ite (sized.set.set.setReg (by unfold Reg.HOST_RING_STATE; omega))).ite (sized.trans (steady_unstage ..)).mapHost

theorem steady_trainFail (n : Nat) (code : Nat) (pos : Nat) : Steady s (s.trainFail n code pos) := by
  unfold State.trainFail
  exact ((Steady.rfl.set.set.setIbit.each fun _ _ _ h => h.kept (kept_setTx ..)).kept (kept_setLoop ..)).raise

theorem steady_dropOrders (c : Nat) : Steady s (s.dropOrders c) := by
  unfold State.dropOrders
  exact ((Steady.rfl.kept (kept_setTx ..)).kept (kept_setCastCell ..)).each fun _ _ _ h => h.trans (steady_refuse ..)

theorem steady_haltWire (n : Nat) : Steady s (s.haltWire n) := by
  unfold State.haltWire
  exact Steady.rfl.ite ((((Steady.rfl.setIbit.each fun _ _ _ h => (h.trans (steady_dropOrders ..)).kept (kept_blockNow ..)).kept (kept_cutFrame ..)).mapWing.kept (kept_setLoop ..)).when fun h => h.mapWing.raiseAt)

theorem steady_trainLoop (n : Nat) : Steady s (s.trainLoop n) := by
  unfold State.trainLoop
  split
  · extract_lets a b c d e f l g h
    have cleared : Steady s d := Steady.rfl.setIbit.setIbit.setIbit.setIbit
    have told : Steady d e := Steady.rfl.each fun _ _ _ h => ((h.trans (steady_dropOrders ..)).kept (kept_setTx ..)).setBit
    have begun : Steady e h := ((Steady.rfl.setReg (by unfold Reg.WING_TRAIN; omega)).kept (kept_setLoop ..)).each fun _ _ _ h => h.kept (kept_blockNow ..)
    have ready : Steady s h := (cleared.trans told).trans begun
    split
    · exact ready.trans (steady_trainFail ..)
    · exact ready.set
  · exact Steady.rfl.setBit

theorem steady_setPwrCell (c : Nat) (x : PwrCell) : Steady s (s.setPwrCell c x) := by
  unfold State.setPwrCell
  exact Steady.rfl.pwr

theorem steady_clampDwell : Steady s s.clampDwell := by
  unfold State.clampDwell
  exact Steady.rfl.each fun _ _ _ h => h.set.setIbit.when fun h => h.raise

theorem steady_writeDwell (data : Word) : Steady s (s.writeDwell data) := by
  unfold State.writeDwell
  exact (steady_writeByAccess ..).trans (steady_clampDwell ..)

theorem steady_judgeDerate : Steady s s.judgeDerate := by
  unfold State.judgeDerate
  dsimp only
  exact Steady.rfl.ite ((Steady.rfl.set.trans (steady_clampDwell ..)).raise.when fun h => h.kept (kept_engineFault ..))

theorem steady_writeCastReadmit (data : Word) : Steady s (s.writeCastReadmit data) := by
  unfold State.writeCastReadmit
  extract_lets c y z r
  split
  · have back : Steady s z := Steady.rfl.set.set
    exact ((((back.kept (kept_bypass ..)).set.kept (kept_castBlock ..) (by simp [Reg.CAST_CELL]; omega)).ite back)).ite back
  · exact Steady.rfl.setBit

theorem steady_writeCastCtrl (data : Word) : Steady s (s.writeCastCtrl data) := by
  unfold State.writeCastCtrl
  dsimp only
  exact Steady.rfl.setBit.ite ((steady_writeByAccess ..).when fun h => h.each fun _ _ _ h => (h.kept (kept_bypass ..)).set.kept (kept_castBlock ..) (by simp [Reg.CAST_CELL]; omega))

theorem steady_hold (c : Conversion) : Steady s (s.hold c) := by
  unfold State.hold
  exact Steady.rfl.conv

theorem steady_writeStale (data : Word) : Steady s (s.writeStale data) := by
  unfold State.writeStale
  exact ((steady_writeByAccess ..).each fun _ _ _ h => h.setIbit).kept (kept_flagsNow ..)

theorem steady_dropUrgent : Steady s s.dropUrgent := by
  unfold State.dropUrgent
  exact Steady.rfl.count.raise

theorem steady_serveUrgent (g : Nat) (n : Nat) (delay : Nat) (who : Nat) : Steady s (s.serveUrgent g n delay who) := by
  unfold State.serveUrgent
  exact ((Steady.rfl.when fun h => h.count).conv.kept (kept_setHand ..)).trans (steady_hold ..)

theorem steady_yieldUrgent (g : Nat) (n : Nat) (delay : Nat) (who : Nat) : Steady s (s.yieldUrgent g n delay who) := by
  unfold State.yieldUrgent
  exact ((Steady.rfl.conv.kept (kept_setHand ..)).trans (steady_hold ..)).trans (steady_dropUrgent ..)

theorem steady_tryUrgent (n delay who : Nat) (l : List Nat) : Steady s (s.tryUrgent n delay who l) := by
  induction l with
  | nil => exact steady_dropUrgent ..
  | cons g l ih =>
    rw [tryUrgent]
    refine ih.ite ?_
    split
    · exact (steady_yieldUrgent ..).ite (steady_dropUrgent ..)
    · exact steady_serveUrgent ..

theorem steady_urgentRequest (n : Nat) (delay : Nat) (who : Nat) : Steady s (s.urgentRequest n delay who) := by
  unfold State.urgentRequest
  exact steady_tryUrgent ..

theorem steady_writeUrgent (data : Word) : Steady s (s.writeUrgent data) := by
  unfold State.writeUrgent
  exact Steady.rfl.when fun h => h.trans (steady_urgentRequest ..)

theorem steady_writeSlot (n : Nat) (data : Word) : Steady s (s.writeSlot n data) := by
  unfold State.writeSlot
  exact Steady.rfl.setBit.ite ((Steady.rfl.conv.setReg (by unfold Reg.CONV_SLOT; omega)).kept (kept_abandonHand ..) (by simp [Reg.CONV_MAP]; omega))

theorem steady_readmitGroup (g : Nat) : Steady s (s.readmitGroup g) := by
  unfold State.readmitGroup
  split
  · exact (Steady.rfl.set.set.set.setIbit.kept (kept_setHand ..)).ite Steady.rfl.setBit
  · exact Steady.rfl.setBit

theorem steady_writeConvCtrl (data : Word) : Steady s (s.writeConvCtrl data) := by
  unfold State.writeConvCtrl
  dsimp only
  exact Steady.rfl.setBit.ite ((Steady.rfl.conv.setBit.setBit.when fun h => h.each fun _ _ _ h => h.kept (kept_abandonHand ..) (by simp [Reg.CONV_MAP]; omega)).each fun _ _ _ h => h.trans (steady_readmitGroup ..))

theorem steady_compNormal (k : Nat) : Steady s (s.compNormal k) := by
  unfold State.compNormal
  exact Steady.rfl.setIbit

theorem steady_writeCompCfg (k : Nat) (data : Word) : Steady s (s.writeCompCfg k data) := by
  unfold State.writeCompCfg
  exact Steady.rfl.setBit.ite ((Steady.rfl.conv.trans (steady_writeByAccess ..)).when fun h => h.trans (steady_compNormal ..))

theorem steady_startTest : Steady s s.startTest := by
  unfold State.startTest
  exact Steady.rfl.setBit.conv

theorem steady_writeTestCtrl (data : Word) : Steady s (s.writeTestCtrl data) := by
  unfold State.writeTestCtrl
  exact (Steady.rfl.setBit.ite (Steady.rfl.set.trans (steady_startTest ..))).ite Steady.rfl.set

theorem steady_engGoto (v : Nat) : Steady s (s.engGoto v) := by
  unfold State.engGoto
  exact Steady.rfl.ite Steady.rfl.set.raise

theorem steady_engEngage : Steady s s.engEngage := by
  unfold State.engEngage
  exact ((Steady.rfl.each fun _ _ _ h => (h.kept (kept_setEng ..)).set.setInt).mapEngine.cast.setSat.setBit.trans (steady_engGoto ..)).kept (kept_holdPrecharge ..)

theorem steady_engEnd (v : Nat) : Steady s (s.engEnd v) := by
  unfold State.engEnd
  exact Steady.rfl.ite (((Steady.rfl.mapEngine.trans (steady_engGoto ..)).when fun h => h.kept (kept_holdPrecharge ..)).when fun h => h.kept (kept_castDisengage ..))

theorem steady_engHalt : Steady s s.engHalt := by
  unfold State.engHalt
  exact (steady_engEnd ..).ite Steady.rfl

theorem steady_writeBandCfg (data : Word) : Steady s (s.writeBandCfg data) := by
  unfold State.writeBandCfg
  exact (steady_writeByAccess ..).mapEngine

theorem steady_writeDumpClr (data : Word) : Steady s (s.writeDumpClr data) := by
  unfold State.writeDumpClr
  dsimp only
  exact Steady.rfl.ite (((Steady.rfl.set.trans (steady_setPwrCell ..)).ite Steady.rfl).ite Steady.rfl.setBit)

theorem steady_pulseLevel (n : Nat) (active : Bool) : Steady s (s.pulseLevel n active) := by
  unfold State.pulseLevel
  exact Steady.rfl.router

theorem steady_setPulseOut (n : Nat) (p : PulseOut) : Steady s (s.setPulseOut n p) := by
  unfold State.setPulseOut
  exact Steady.rfl.mapMeter

theorem steady_pulseClear (n : Nat) : Steady s (s.pulseClear n) := by
  unfold State.pulseClear
  exact Steady.rfl.mapCore.kept (kept_setBacklog ..) (by simp [Reg.METER_PULSE]; omega)

theorem steady_pulseHold : Steady s s.pulseHold := by
  unfold State.pulseHold
  exact Steady.rfl.each fun _ _ _ h => ((h.trans (steady_pulseLevel ..)).ite h).ite (((h.trans (steady_pulseClear ..)).trans (steady_setPulseOut ..)).when fun h => h.router)

theorem steady_gapRecord (e : Nat) (r : Nat) (quality : Nat) : Steady s (s.gapRecord e r quality) := by
  unfold State.gapRecord
  exact (Steady.rfl.trans (closing_fileRecord ..).steady).mapCore.raise

theorem steady_writeMeterCfg (data : Word) : Steady s (s.writeMeterCfg data) := by
  unfold State.writeMeterCfg
  dsimp only
  exact ((steady_writeByAccess ..).kept (kept_meterCfgChanged ..)).ite Steady.rfl.setBit

theorem steady_writeQuantum (data : Word) : Steady s (s.writeQuantum data) := by
  unfold State.writeQuantum
  exact Steady.rfl.setBit.ite (steady_writeByAccess ..).mapMeter

theorem steady_meterThaw (len : Nat) : Steady s (s.meterThaw len) := by
  unfold State.meterThaw
  extract_lets y z now cfg w
  have closed : Steady s w := ((Steady.rfl.each fun _ _ _ h => h.trans (steady_setPulseOut ..)).mapMeter).trans (closing_closeEnded ..).steady
  split
  · exact (closed.when fun h => h.trans (steady_gapRecord ..)).trans (closing_openInterval ..).steady
  · exact (((closed.trans (metered_extendTo ..).steady).trans (metered_quality ..).steady).trans (metered_quality ..).steady).trans
      (closing_showAtlas ..).steady

theorem steady_mapBear (f : Bear → Bear) : Steady s (s.mapBear f) := by
  unfold State.mapBear
  exact Steady.rfl.mapGrid

theorem steady_judgePermit : Steady s s.judgePermit := by
  unfold State.judgePermit
  exact Steady.rfl.ite Steady.rfl.setBit.raise

theorem steady_bearGoto (v : Nat) : Steady s (s.bearGoto v) := by
  unfold State.bearGoto
  exact Steady.rfl.ite (((Steady.rfl.set.raise.trans (steady_mapBear ..)).when fun h => h.mapGrid).trans (steady_judgePermit ..))

theorem steady_bearEnable : Steady s s.bearEnable := by
  unfold State.bearEnable
  exact (steady_bearGoto ..).ite (((steady_mapBear ..).trans (steady_bearGoto ..)).ite Steady.rfl)

theorem steady_passCessation (was : Bool) : Steady s (s.passCessation was) := by
  unfold State.passCessation
  exact Steady.rfl.mapEngine

theorem steady_cessationEdge (acted : Bool) (was : Bool) : Steady s (s.cessationEdge acted was) := by
  unfold State.cessationEdge
  exact ((Steady.rfl.when fun h => h.count.raise.mapGrid).when fun h => h.raise.mapGrid).trans (steady_passCessation ..)

theorem steady_takeRegion (new : Nat) : Steady s (s.takeRegion new) := by
  unfold State.takeRegion
  exact ((((Steady.rfl.when fun h => h.set.raise).when fun h => h.mapGrid).when fun h => h.mapGrid).when fun h => h.pwr).trans (steady_cessationEdge ..)

theorem steady_gridWritten (addr : Nat) (data : Word) : Steady s (s.gridWritten addr data) := by
  unfold State.gridWritten
  exact ((((steady_writeByAccess ..).trans (steady_cessationEdge ..)).ite (((steady_writeByAccess ..).trans (steady_cessationEdge ..)).mapGrid.trans (steady_takeRegion ..))).trans (steady_bearEnable ..)).trans (steady_judgePermit ..)

theorem steady_gridThaw (len : Nat) : Steady s (s.gridThaw len) := by
  unfold State.gridThaw
  exact (Steady.rfl.when fun h => h.trans (steady_bearGoto ..)).mapGrid

theorem steady_clearCarries : Steady s s.clearCarries := by
  unfold State.clearCarries
  exact Steady.rfl.each fun _ _ _ h => h.kept (kept_setSw ..)

theorem steady_writeGuardCtrl (data : Word) : Steady s (s.writeGuardCtrl data) := by
  unfold State.writeGuardCtrl
  dsimp only
  exact ((((Steady.rfl.kept (kept_settleSwitches ..)).trans (steady_writeByAccess ..)).setTop.mapGuard.set.setBit.setBit.trans (steady_clearCarries ..)).count.raise.ite ((Steady.rfl.kept (kept_settleSwitches ..)).trans (steady_writeByAccess ..)).setTop.mapGuard.setBit.count.raise).ite ((((Steady.rfl.kept (kept_settleSwitches ..)).trans (steady_writeByAccess ..)).trans (steady_clearCarries ..)).mapGuard.ite ((Steady.rfl.kept (kept_settleSwitches ..)).trans (steady_writeByAccess ..)))

theorem steady_goPump (st : Nat) : Steady s (s.goPump st) := by
  unfold State.goPump
  exact Steady.rfl.ite Steady.rfl.set.mapPump.raise

theorem steady_observe : Steady s s.observe := by
  unfold State.observe
  exact (Steady.rfl.kept (kept_floatLegs ..)).mapPump.trans (steady_goPump ..)

theorem steady_pumpReact : Steady s s.pumpReact := Steady.rfl.raised s.kept_pumpReact s.raises_pumpReact

theorem steady_writeLoadAll (data : Word) : Steady s (s.writeLoadAll data) := by
  unfold State.writeLoadAll
  exact Steady.rfl.ite (Steady.rfl.setBit.ite ((Steady.rfl.each fun _ _ _ h => h.kept (kept_markShadow ..)).when fun h => h.count.raise))

theorem steady_writePumpCtrl (data : Word) : Steady s (s.writePumpCtrl data) := by
  unfold State.writePumpCtrl
  dsimp only
  exact Steady.rfl.setBit.ite (((((steady_writeByAccess ..).kept (kept_floatLegs ..)).trans (steady_goPump ..)).ite ((((steady_writeByAccess ..).kept (kept_floatLegs ..)).trans (steady_goPump ..)).ite (steady_writeByAccess ..))).trans (steady_pumpReact ..))

theorem steady_pumpThaw (len : Nat) : Steady s (s.pumpThaw len) := by
  unfold State.pumpThaw
  dsimp only
  exact (((((Steady.rfl.each fun _ _ _ h => h.kept (kept_setChan ..)).each fun _ _ _ h => (h.kept (kept_setSw ..)).ite (h.kept (kept_setSw ..))).mapPump.trans (steady_observe ..)).ite (((Steady.rfl.each fun _ _ _ h => h.kept (kept_setChan ..)).each fun _ _ _ h => (h.kept (kept_setSw ..)).ite (h.kept (kept_setSw ..))).mapPump.trans (steady_goPump ..)).mapPump).trans (steady_pumpReact ..)).ite ((Steady.rfl.each fun _ _ _ h => h.kept (kept_setChan ..)).each fun _ _ _ h => (h.kept (kept_setSw ..)).ite (h.kept (kept_setSw ..))).mapPump

theorem steady_haltLoop (n : Nat) : Steady s (s.haltLoop n) := by
  unfold State.haltLoop
  exact ((steady_haltWire ..).trans (steady_engHalt ..)).when fun h => h.kept (kept_curtCause ..)

theorem steady_haltAll : Steady s s.haltAll := by
  unfold State.haltAll
  exact Steady.rfl.each fun _ _ _ h => h.trans (steady_haltLoop ..)

theorem steady_writeCurtainCause (data : Word) : Steady s (s.writeCurtainCause data) := by
  unfold State.writeCurtainCause
  exact (steady_writeByAccess ..).ite Steady.rfl.setBit

theorem steady_curtThaw (len : Nat) : Steady s (s.curtThaw len) := by
  unfold State.curtThaw
  exact Steady.rfl.mapCurt

theorem steady_writeWingCtrl (data : Word) : Steady s (s.writeWingCtrl data) := by
  unfold State.writeWingCtrl
  dsimp only
  exact Steady.rfl.setBit.ite ((((((Steady.rfl.when fun h => h.set.mapWing).each fun _ _ _ h => h.kept (kept_loopOff ..)).trans (steady_writeByAccess ..)).when fun h => h.trans (steady_haltAll ..)).each fun _ _ _ h => h.trans (steady_trainLoop ..)).each fun _ _ _ h => h.kept (kept_resumeLoop ..))

theorem steady_writeWingDelta (data : Word) : Steady s (s.writeWingDelta data) := by
  unfold State.writeWingDelta
  dsimp only
  exact Steady.rfl.setBit.ite (Steady.rfl.when fun h => h.set).set

theorem steady_judgeHarvest : Steady s s.judgeHarvest := by
  unfold State.judgeHarvest
  exact Steady.rfl.set.when fun h => h.raise

theorem steady_writeGhostCfg (data : Word) : Steady s (s.writeGhostCfg data) := by
  unfold State.writeGhostCfg
  dsimp only
  exact ((steady_writeByAccess ..).trans (steady_judgeHarvest ..)).ite Steady.rfl.setBit

theorem steady_setLockCount (n : Nat) : Steady s (s.setLockCount n) := by
  unfold State.setLockCount
  exact Steady.rfl.disc

theorem steady_ppsQualify : Steady s s.ppsQualify := by
  unfold State.ppsQualify
  exact (Steady.rfl.each fun _ _ _ h => h.router.ite h.router).ite .rfl

theorem steady_setDisc (v : Nat) : Steady s (s.setDisc v) := by
  unfold State.setDisc
  extract_lets old y disc z w
  have timed : Steady s z := Steady.rfl.set.raise.disc
  have shown : Steady s w := (timed.when fun h => h.set).setBit
  exact Steady.rfl.ite (shown.trans (steady_ppsQualify ..))

theorem steady_writeMerCtrl (data : Word) : Steady s (s.writeMerCtrl data) := by
  unfold State.writeMerCtrl
  extract_lets role addr change a b c d e
  have taken : Steady s c := Steady.rfl.set.set.set
  have told : Steady c e := (Steady.rfl.when fun h => h.set).when fun h => h.mer
  refine Steady.rfl.setBit.ite (((taken.trans told).when fun h => ?_).setBit)
  exact (h.trans (steady_setLockCount ..)).trans (steady_setDisc ..)

theorem steady_writeWearSel (data : Word) : Steady s (s.writeWearSel data) := by
  unfold State.writeWearSel
  exact (steady_writeByAccess ..).setPair.setPair.set.set.set

theorem steady_engThaw : Steady s s.engThaw := by
  unfold State.engThaw
  dsimp only
  exact Steady.rfl.ite (((Steady.rfl.each fun _ _ _ h => h.kept (kept_setEng ..)).trans (steady_engEngage ..)).ite (((Steady.rfl.each fun _ _ _ h => h.kept (kept_setEng ..)).mapEngine.trans (steady_engGoto ..)).kept (kept_castDisengage ..)))

theorem steady_timersThaw (len : Nat) : Steady s (s.timersThaw len) := by
  unfold State.timersThaw
  exact Steady.rfl.cast.pwr.mapEngine

theorem steady_wingThaw (len : Nat) : Steady s (s.wingThaw len) := by
  unfold State.wingThaw
  exact Steady.rfl.each fun _ _ _ h => h.kept (kept_setLoop ..)

theorem steady_thaw : Steady s s.thaw := by
  unfold State.thaw
  exact ((((((steady_timersThaw ..).trans (steady_wingThaw ..)).trans (steady_gridThaw ..)).trans (steady_curtThaw ..)).trans (steady_pumpThaw ..)).trans (steady_meterThaw ..)).trans (steady_engThaw ..)

theorem steady_writeUnless (bad : Bool) (a : Nat) (data : Word) : Steady s (s.writeUnless bad a data) := by
  unfold State.writeUnless
  exact (steady_rejectWrite ..).ite (steady_writeByAccess ..)

theorem steady_writeIrq (a : Nat) (data : Word) : Steady s (s.writeIrq a data) := by
  unfold State.writeIrq
  dsimp only
  exact ((steady_rejectWrite ..).ite ((steady_writeByAccess ..).trans (steady_judgeAll ..))).ite ((steady_writeMask _ (Nat.mod_lt _ (by decide)) _).ite ((steady_eoi ..).ite (((steady_writeByAccess ..).trans (steady_judgeAll ..)).ite (steady_writeByAccess ..))))

theorem steady_writeEvent (a : Nat) (data : Word) : Steady s (s.writeEvent a data) := by
  unfold State.writeEvent
  dsimp only
  exact ((steady_rejectWrite ..).ite ((steady_writeByAccess ..).trans (steady_setSink ..))).ite (((steady_writeByAccess ..).trans (steady_setSink ..)).ite (steady_writeByAccess ..))

theorem steady_writeEvioFunc (data : Word) : Steady s (s.writeEvioFunc data) := by
  unfold State.writeEvioFunc
  exact ((steady_writeByAccess ..).each fun _ _ _ h => h.router).trans (steady_pulseHold ..)

theorem steady_writeDatum (a : Nat) (data : Word) : Steady s (s.writeDatum a data) := by
  unfold State.writeDatum
  exact (steady_writeMerCtrl ..).ite ((steady_writeUnless ..).ite ((steady_writeEvioFunc ..).ite (((steady_writeByAccess ..).when fun h => h.kept (kept_meterCfgChanged ..)).ite (((steady_writeByAccess ..).trans (steady_ppsQualify ..)).ite (((steady_writeByAccess ..).when fun h => h.disc).ite (steady_writeByAccess ..))))))

theorem steady_writeCast (a : Nat) (data : Word) : Steady s (s.writeCast a data) := by
  unfold State.writeCast
  exact (steady_writeCastCtrl ..).ite ((steady_writeCastReadmit ..).ite ((Steady.rfl.ite ((steady_writeDwell ..).ite (steady_rejectWrite ..))).ite (steady_writeByAccess ..)))

theorem steady_writePwr (a : Nat) (data : Word) : Steady s (s.writePwr a data) := by
  unfold State.writePwr
  dsimp only
  exact (steady_writeDumpClr ..).ite ((steady_writeUnless ..).ite ((steady_writeUnless ..).ite ((steady_writeUnless ..).ite (steady_writeByAccess ..))))

theorem steady_writeGuard (a : Nat) (data : Word) : Steady s (s.writeGuard a data) := by
  unfold State.writeGuard
  exact ((steady_writeGuardCtrl ..).trans (steady_pumpReact ..)).ite ((steady_writeUnless ..).ite (steady_writeByAccess ..))

theorem steady_writePump (a : Nat) (data : Word) : Steady s (s.writePump a data) := by
  unfold State.writePump
  dsimp only
  exact (steady_writePumpCtrl ..).ite ((steady_writeLoadAll ..).ite ((steady_writeUnless ..).ite ((steady_writeUnless ..).ite ((steady_writeUnless ..).ite (steady_writeByAccess ..)))))

theorem steady_writeMeter (a : Nat) (data : Word) : Steady s (s.writeMeter a data) := by
  unfold State.writeMeter
  exact (Steady.rfl.kept (kept_writeMeterCtrl ..)).ite ((steady_writeMeterCfg ..).ite ((steady_writeQuantum ..).ite (steady_writeByAccess ..)))

theorem steady_writeScrub (a : Nat) (data : Word) : Steady s (s.writeScrub a data) := by
  unfold State.writeScrub
  exact (steady_writeWearSel ..).ite (((steady_writeByAccess ..).when fun h => h.mapScrub).ite (steady_writeByAccess ..))

theorem steady_writeHost (a : Nat) (data : Word) : Steady s (s.writeHost a data) := by
  unfold State.writeHost
  dsimp only
  exact ((steady_writeRingCfg ..).ite ((steady_writeUnless ..).ite ((steady_writeUnless ..).ite (steady_writeByAccess ..)))).ite (steady_writeByAccess ..)

theorem steady_tabCompletes : Steady s s.tabCompletes := by
  unfold State.tabCompletes
  exact Steady.rfl.mapHost.each fun _ _ _ h => h.trans (steady_refuse ..)

/-- Every write but one of POWER_RESET. -/
theorem steady_blockWrite {a : Nat} (other : a ≠ Reg.POWER_RESET) (data : Word) : Steady s (s.blockWrite a data) := by
  unfold State.blockWrite
  rw [if_neg other]
  have plain : Steady s (s.writeByAccess a data) := steady_writeByAccess ..
  exact plain.ite ((steady_writeHost ..).ite ((steady_writeIrq ..).ite ((steady_writeEvent ..).ite (((plain.kept (kept_judgeSpeed ..)).ite plain).ite
    (plain.ite ((steady_writeDatum ..).ite (((steady_writeConvCtrl ..).ite ((steady_writeStale ..).ite ((steady_writeUrgent ..).ite
    ((steady_writeSlot ..).ite plain)))).ite (((steady_writeCompCfg ..).ite ((steady_writeTestCtrl ..).ite plain)).ite (((steady_writeWingCtrl ..).ite
    ((steady_writeWingDelta ..).ite plain)).ite (((steady_writeBandCfg ..).ite (steady_writeUnless ..)).ite ((steady_writeCast ..).ite
    ((steady_writePwr ..).ite (((steady_rejectWrite ..).ite (steady_gridWritten ..)).ite ((steady_writeMeter ..).ite
    (((steady_writeCurtainCause ..).ite plain).ite ((steady_writeGuard ..).ite ((steady_writePump ..).ite
    (((steady_writeGhostCfg ..).ite plain).ite (steady_writeScrub ..)))))))))))))))))))

end State

end Sys2Proof.Machine

/-! PROOFS. The end of tableau: every held event and write goes (R569, R596, R603), a SOFT reset among the writes too (R626). -/

namespace Sys2Proof.Machine

set_option Elab.async false

/-- Out of tableau, and nothing is held. -/
structure Clear (s : State) : Prop where
  tableau : s.tableau = false
  events : s.router.held = []
  writes : s.host.held = []

theorem Clear.steady {a b : State} (h : Clear a) (k : Steady a b) : Clear b :=
  ⟨k.tableau.trans h.tableau, k.events.trans h.events, k.writes.trans h.writes⟩

theorem Clear.each {α : Type} {f : α → State → State} {l : List α} {s : State} (h : Clear s) (hf : ∀ i x, Clear x → Clear (f i x)) :
    Clear (s.each l f) := by
  induction l generalizing s with
  | nil => exact h
  | cons i l ih => exact ih (hf i s h)

namespace State

variable (s : State)

/-! A SOFT reset (R624, R626) -/

theorem steady_keepFields (old : State) {l : List FieldRef} (other : ∀ f ∈ l, apart f F.POWER_STATUS_TABLEAU = true) :
    Steady s (l.foldl old.keepField s) := by
  induction l generalizing s with
  | nil => exact .rfl
  | cons f l ih => exact (Steady.rfl.set (other f (List.mem_cons_self ..))).trans (ih _ fun g mem => other g (List.mem_cons_of_mem _ mem))

theorem clear_resetBlocks : Clear (s.resetBlocks 5) := by
  unfold resetBlocks
  extract_lets soft new new'
  have bare : Clear new := by
    refine ⟨?_, rfl, rfl⟩
    have back : new.reg F.POWER_STATUS_TABLEAU.addr = resetVal F.POWER_STATUS_TABLEAU.addr :=
      Sparse.get_filter_of_not resetVal s.regs (p := fun r => decide (0x5400 ≤ r) && decide (r < 0x5800)) (by decide)
    rw [tableau, bit, get, back]
    decide
  have kept : Steady new new' := steady_keepFields _ _ (by decide)
  exact bare.steady (((kept.kept (kept_keepGap ..)).kept (kept_curtReset ..)).kept (kept_castFromRoster ..))

theorem clear_assertReset (refresh : Bool) : Clear (s.assertReset 5 refresh) := by
  unfold assertReset
  extract_lets a b period whole c d e f
  have reset : Clear c := clear_resetBlocks b
  exact reset.steady (Steady.rfl.mapPower.setBit.set.set)

theorem clear_writePowerReset {s : State} (h : Clear s) (data : Word) : Clear (s.writePowerReset data) := by
  unfold writePowerReset
  split
  · exact clear_assertReset s true
  · exact h.steady Steady.rfl.setBit

/-! The held writes -/

theorem blockWrite_reset (data : Word) : s.blockWrite Reg.POWER_RESET data = s.writePowerReset data := by
  rfl

theorem clear_applyBar0 {s : State} (h : Clear s) (a : Nat) (data : Word) : Clear (s.applyBar0 a data) := by
  unfold applyBar0
  split
  · exact h
  split
  · by_cases reset : a = Reg.POWER_RESET
    · rw [reset, blockWrite_reset]
      exact clear_writePowerReset h data
    · exact h.steady (s.steady_blockWrite reset data)
  · exact h.steady (steady_rejectWrite ..)

theorem clear_applyHeld {s : State} (w : HeldWrite) (h : Clear s) : Clear (s.applyHeld w) := by
  unfold applyHeld
  split
  · exact h
  · cases w with
    | bar0 a data => exact clear_applyBar0 h a data
    | doorbell n v => exact h.steady (steady_doorbell ..)

/-! The end of tableau (R569, R596, R603) -/

/-- The held events taken out for their release. -/
def freed (s : State) : State := { s with router := { s.router with held := [], tabArrivals := 0 } }

theorem steady_releaseHeld : Steady s.freed s.releaseHeld := Steady.rfl.each fun _ _ _ h => h.trans (steady_release ..)

/-- TABLEAU ends, and the router's timers go on. -/
def untabled (s : State) : State := (s.setBit F.POWER_STATUS_TABLEAU false).routerThaw (s.elapsed - s.power.tabStart)

/-- The blocks as they go on, with the events released. -/
def exited (s : State) : State := s.untabled.releaseHeld.thaw.freezeMissed

/-- What ends with tableau before the held writes have their turn. -/
def exitTold (s : State) : State := (s.exited.raise 23).tabCompletes.dispatchTimed

theorem leaveTableau_eq : s.leaveTableau =
    ((s.exitTold.mapHost fun h => { h with held := [] }).each s.exitTold.host.held applyHeld).serveFetched.judgeAll := rfl

theorem steady_exited : Steady s.untabled.freed s.exited :=
  ((steady_releaseHeld _).trans (steady_thaw ..)).kept (kept_freezeMissed ..)

theorem steady_exitTold : Steady s.exited s.exitTold := (Steady.rfl.raise.trans (steady_tabCompletes ..)).trans (steady_dispatchTimed ..)

theorem tableau_exitTold : s.exitTold.tableau = false := by
  have ended : s.untabled.freed.tableau = false := bit_setBit_same s (f := F.POWER_STATUS_TABLEAU) (by decide) rfl
  exact s.steady_exitTold.tableau.trans (s.steady_exited.tableau.trans ended)

theorem events_exitTold : s.exitTold.router.held = [] := s.steady_exitTold.events.trans s.steady_exited.events

theorem clear_leaveTableau : Clear s.leaveTableau := by
  rw [leaveTableau_eq]
  have open_ : Clear (s.exitTold.mapHost fun h => { h with held := [] }) := ⟨s.tableau_exitTold, s.events_exitTold, rfl⟩
  exact (open_.each fun w x h => clear_applyHeld w h).steady ((steady_serveFetched ..).trans (steady_judgeAll ..))

/-! TABLEAU_EXIT is on its way -/

theorem Reports.rfl' : Reports s s := ⟨[], (List.append_nil _).symm⟩

theorem Reports.of_router {a b c : State} (h : Reports a b) (same : c.router = b.router) : Reports a c := by
  rwa [Reports, same]

theorem Reports.each {a b : State} {α : Type} {f : α → State → State} {l : List α} (h : Reports a b) (hf : ∀ i x, Reports x (f i x)) :
    Reports a (b.each l f) := by
  induction l generalizing b with
  | nil => exact h
  | cons i l ih => exact ih (h.trans (hf i b))

theorem raises_foundFull (n : Nat) : Raises s (s.foundFull n) := by
  unfold foundFull
  split
  · exact (Raises.rfl.of_router rfl).raise
  · exact .rfl

theorem raises_trace (stamp : Nat) (bytes : List Byte) : Raises s (s.trace stamp bytes) := by
  unfold trace
  split
  · exact Raises.rfl.of_router rfl
  · exact (s.raises_foundFull 5).trans (raises_traceDrop _)

theorem raises_dispatch (d : Desc) : Raises s (s.dispatch d) := by
  refine Raises.when (Raises.rfl.of_router rfl) fun h => h.trans (raises_trace ..)

theorem reports_dispatch (d : Desc) : Reports s (s.dispatch d) := (s.raises_dispatch d).reports

theorem reports_dispatchTimed : Reports s s.dispatchTimed :=
  Reports.each ((Reports.rfl' s).of_router rfl) fun d x => x.reports_dispatch d

theorem reports_tabCompletes : Reports s s.tabCompletes :=
  Reports.each ((Reports.rfl' s).of_router rfl) fun p x =>
    (Reports.rfl' x).of_router ((x.kept_refuse p.1 st.aborted p.2).2 .router (by decide))

theorem reports_pumpList (l : List Desc) : Reports s (s.pumpList l) := by
  induction l generalizing s with
  | nil => exact (Reports.rfl' s).of_router rfl
  | cons d l ih =>
    rw [pumpList]
    split
    · exact (Reports.rfl' s).of_router rfl
    split
    · exact ((Reports.rfl' s).of_router ((s.kept_enterTimed d).2 .router (by decide))).trans (ih _)
    · exact (s.reports_dispatch d).trans (ih _)

theorem reports_serveFetched : Reports s s.serveFetched := by
  unfold serveFetched
  split
  · exact .rfl' s
  · exact reports_pumpList ..

theorem reports_judgeAll : Reports s s.judgeAll := by
  unfold judgeAll
  split
  · exact .rfl' s
  · exact (Reports.rfl' s).each fun v x => (x.routed_judge v).raises

theorem datum_untabled : s.untabled.freed.datum = s.datum := datum_setBit s F.POWER_STATUS_TABLEAU false

theorem writes_untabled : s.untabled.freed.host.held = s.host.held := congrArg HostIf.held (host_setBit s F.POWER_STATUS_TABLEAU false)

theorem datum_exited : s.exited.datum = s.datum := s.steady_exited.datum.trans s.datum_untabled

/-- Without a held write, what follows only adds events. -/
theorem reports_served : Reports s ((s.mapHost fun h => { h with held := [] }).each [] applyHeld).serveFetched.judgeAll := by
  have quiet : Reports s ((s.mapHost fun h => { h with held := [] }).each [] applyHeld) := (Reports.rfl' s).of_router rfl
  exact (quiet.trans (reports_serveFetched _)).trans (reports_judgeAll _)

theorem exit_reported (writes : s.host.held = []) : ({ stamp := s.datum, num := 23 } : Event) ∈ s.leaveTableau.router.inflight := by
  have none : s.exitTold.host.held = [] := s.steady_exitTold.writes.trans (s.steady_exited.writes.trans (s.writes_untabled.trans writes))
  have told : Reports (s.exited.raise 23) s.exitTold := (reports_tabCompletes _).trans (reports_dispatchTimed _)
  have end_ : Reports (s.exited.raise 23) s.leaveTableau := by
    rw [leaveTableau_eq, none]
    exact told.trans (reports_served _)
  obtain ⟨l, eq⟩ := end_
  rw [eq, router_raise, datum_exited]
  exact List.mem_append_left _ (List.mem_append_right _ (List.mem_singleton.2 rfl))

end State

end Sys2Proof.Machine

/-! PROOFS. The entry to tableau (R601; R94, R218, R268, R300, R313, R419, R525): what every block's freezing leaves. -/

namespace Sys2Proof.Machine

set_option Elab.async false

namespace State

variable (s : State)

/-- The entry's instant and the horizon, noted before the blocks are frozen. -/
def entryNoted (s : State) : State :=
  let s := s.mapPower fun p => { p with tabRefused := false, tabStart := s.elapsed }
  { s with router := { s.router with frozenHorizon := s.horizon, tabArrivals := 0 } }

/-- Handovers abandoned in every group. -/
def handsFreed (s : State) : State := s.each (List.range 4) fun g s => s.abandonHand g

/-- The blocks that hold orders, commands or conversions in transport, frozen. -/
def transportFrozen (s : State) : State := s.handsFreed.wingFreeze.castFreeze.merFreeze

/-- Every block frozen. -/
def blocksFrozen (s : State) : State := s.transportFrozen.engFreeze.meterFreeze.pumpFreeze

theorem execTableauEntry_eq (t : Nat) (bits : BitVec 2) (s : State) : execTableauEntry t bits s = s.run t fun s =>
    if bits ≠ 1 || s.endExtest.tableau then s.endExtest
    else if s.endExtest.power.otp.debugLock then s.endExtest.mapPower fun p => { p with tabRefused := true }
    else if s.endExtest.power.startDue then s.endExtest.mapPower fun p => { p with tabRefused := false }
    else (s.endExtest.entryNoted.blocksFrozen.setBit F.POWER_STATUS_TABLEAU true).raise 22 := rfl

theorem kept_entryNoted : Kept [] [.power, .router] s s.entryNoted := (Kept.rfl.mapPower).router

/-! Transport -/

abbrev handRegs : List Nat := (List.range 4).map Reg.CONV_MAP

theorem kept_handsFreed : Kept handRegs [.conv] s s.handsFreed :=
  Kept.rfl.each fun g mem x h => h.trans ((x.kept_abandonHand g).mono (List.cons_subset.2 ⟨List.mem_map_of_mem mem, List.nil_subset _⟩))

/-- The wing loops before the checks of bypass orders wait. -/
theorem wingFreeze_spec : Kept [] [.wing, .cast, .host] s s.wingFreeze ∧ s.wingFreeze.wing.frozen = [] ∧
    s.wingFreeze.host.dispatched = s.host.dispatched := by
  unfold wingFreeze
  extract_lets gone hosts cell y z
  have waits : Kept [] [.cast] y z := kept_checksWait y
  have told : Kept [] [.wing, .cast, .host] s y := Kept.rfl.mapWing
  have frozen : z.wing.frozen = y.wing.frozen := congrArg Wing.frozen (waits.2 .wing (by decide))
  have dispatched : z.host.dispatched = y.host.dispatched := congrArg HostIf.dispatched (waits.2 .host (by decide))
  exact ⟨(told.trans waits.mono).mapHost, frozen, dispatched⟩

theorem kept_transportFrozen : Kept handRegs [.conv, .wing, .cast, .mer, .host] s s.transportFrozen := by
  have wing : Kept handRegs [.conv, .wing, .cast, .mer, .host] s.handsFreed s.handsFreed.wingFreeze :=
    (wingFreeze_spec _).1.mono (List.nil_subset _)
  exact (((s.kept_handsFreed.mono (List.Subset.refl _)).trans wing).cast).mer.mapHost.mapHost

theorem dispatched_transportFrozen : s.transportFrozen.host.dispatched = s.host.dispatched :=
  (wingFreeze_spec s.handsFreed).2.2.trans (congrArg HostIf.dispatched (s.kept_handsFreed.2 .host (by decide)))

theorem frozen_transportFrozen : s.transportFrozen.wing.frozen = [] := (wingFreeze_spec s.handsFreed).2.1

/-! The engine, metering and the drive -/

theorem raises_engGoto (v : Nat) : Raises s (s.engGoto v) := by
  unfold engGoto
  split
  · exact .rfl
  · exact (Raises.rfl.of_router (router_set ..)).raise

theorem engState_engGoto {v : Nat} (small : v < 8) : (s.engGoto v).engState = v := by
  unfold engGoto
  split
  next here => exact here
  next => exact (get_raise_apart _ (by decide)).trans (get_set_of_lt (f := F.CUR_STATUS_STATE) _ (by decide) small)

/-- The engine as it is held before its state changes. -/
def engHeld (s : State) : State := (s.when s.engaged fun s => s.holdPrecharge false).mapEngine fun g => { g with wasEngaged := s.engaged }

theorem engFreeze_eq : s.engFreeze = if s.engState = eng.idle then s else s.engHeld.engGoto eng.frozen := rfl

theorem kept_engHeld : Kept [] [.cast, .engine] s s.engHeld := (Kept.rfl.when fun h => h.trans ((kept_holdPrecharge _ _).mono)).mapEngine

theorem kept_engFreeze : Kept [Reg.CUR_STATUS] [.cast, .engine, .router] s s.engFreeze := by
  rw [engFreeze_eq]
  exact Kept.rfl.ite (((kept_engHeld s).mono).trans ((kept_engGoto _ _).mono))

theorem raises_engFreeze : Raises s s.engFreeze := by
  rw [engFreeze_eq]
  split
  · exact .rfl
  · exact (Raises.rfl.of_router ((kept_engHeld s).2 .router (by decide))).trans (raises_engGoto _ _)

theorem engState_engFreeze : s.engFreeze.engState = if s.engState = eng.idle then eng.idle else eng.frozen := by
  rw [engFreeze_eq]
  split
  next idle => exact idle
  next => exact engState_engGoto _ (by decide)

theorem closing_meterFreeze : Closing s s.meterFreeze := by
  unfold meterFreeze
  extract_lets y z
  have flushed : Closing s y := s.closing_finishStep.trans (.of_metered
    ((Metered.rfl'.each fun x mem u => u.metered_flushPhase (List.mem_range.1 mem)).trans (metered_closeInstant _)))
  have dropped : Closing y z := .of_metered (Metered.rfl'.each fun x mem u => u.metered_setMPhase ..)
  exact (flushed.trans dropped).trans (.of_metered ((metered_quality ..).trans (metered_quality ..)))

/-- The drive's state noted before it changes. -/
def pumpHeld (s : State) : State := s.settleSwitches.mapPump fun p => { p with before := s.pState }

theorem kept_pumpHeld : Kept [] [.guard, .pump] s s.pumpHeld := ((kept_settleSwitches s).mono).mapPump

theorem pumpFreeze_eq : s.pumpFreeze = (s.pumpHeld.goPump ps.frozen).mapPump fun p => { p with entered := s.pump.entered } := rfl

theorem kept_pumpFreeze : Kept [Reg.PUMP_STATUS] [.guard, .pump, .router] s s.pumpFreeze := by
  rw [pumpFreeze_eq]
  exact (((kept_pumpHeld s).mono).trans ((kept_goPump _ _).mono)).mapPump

theorem raises_pumpFreeze : Raises s s.pumpFreeze := by
  have still : Raises s s.pumpHeld := Raises.rfl.of_router ((kept_pumpHeld s).2 .router (by decide))
  rw [pumpFreeze_eq]
  exact (still.trans (raises_goPump _ _)).of_router rfl

theorem pState_pumpFreeze : s.pumpFreeze.pState = ps.frozen := by
  rw [pumpFreeze_eq]
  exact pState_goPump s.pumpHeld (by decide)

/-! The entry -/

/-- What entry to tableau writes. -/
abbrev entryRegs : List Nat := [Reg.CUR_STATUS, Reg.PUMP_STATUS, Reg.POWER_STATUS] ++ (handRegs ++ meterRegs)

abbrev entryParts : List Part := [.power, .router, .conv, .wing, .cast, .mer, .host, .engine, .meter, .ghost, .guard, .pump]

def tabled (s : State) : State := (s.entryNoted.blocksFrozen.setBit F.POWER_STATUS_TABLEAU true).raise 22

theorem meterRegs_subset_entryRegs : meterRegs ⊆ entryRegs := List.subset_append_of_subset_right _ (List.subset_append_right ..)

/-- The blocks frozen after those with something in transport. -/
theorem kept_frozen : Kept ([Reg.CUR_STATUS, Reg.PUMP_STATUS] ++ meterRegs) [.cast, .engine, .router, .meter, .ghost, .guard, .pump] s
    s.engFreeze.meterFreeze.pumpFreeze := by
  have engine : Kept ([Reg.CUR_STATUS, Reg.PUMP_STATUS] ++ meterRegs) [.cast, .engine, .router, .meter, .ghost, .guard, .pump] s s.engFreeze :=
    (kept_engFreeze s).mono (List.subset_append_of_subset_left _ (by decide))
  have meter := (closing_meterFreeze s.engFreeze).kept
  have pump := kept_pumpFreeze s.engFreeze.meterFreeze
  exact (engine.trans (meter.mono (List.subset_append_right ..))).trans (pump.mono (List.subset_append_of_subset_left _ (by decide)))

theorem raises_frozen : Raises s s.engFreeze.meterFreeze.pumpFreeze :=
  ((raises_engFreeze s).trans (closing_meterFreeze _).raises).trans (raises_pumpFreeze _)

theorem raises_blocksFrozen : Raises s s.blocksFrozen :=
  (Raises.rfl.of_router (s.kept_transportFrozen.2 .router (by decide))).trans (raises_frozen _)

theorem kept_tabled : Kept entryRegs entryParts s s.tabled := by
  have noted : Kept entryRegs entryParts s s.entryNoted := (kept_entryNoted s).mono (List.nil_subset _)
  have transport : Kept entryRegs entryParts s.entryNoted s.entryNoted.transportFrozen :=
    (kept_transportFrozen _).mono (List.subset_append_of_subset_right _ (List.subset_append_left ..))
  have blocks : Kept entryRegs entryParts s.entryNoted.transportFrozen s.entryNoted.blocksFrozen :=
    (kept_frozen _).mono (List.append_subset.2 ⟨List.subset_append_of_subset_left _ (by decide), meterRegs_subset_entryRegs⟩)
  exact (((noted.trans transport).trans blocks).setBit (by decide)).raise

theorem tableau_tabled : s.tabled.tableau = true :=
  (bit_raise_apart _ (by decide)).trans (bit_setBit_same _ (f := F.POWER_STATUS_TABLEAU) (by decide) rfl)

theorem raises_tabled : Raises s.entryNoted s.tabled :=
  ((raises_blocksFrozen s.entryNoted).of_router (router_setBit _ F.POWER_STATUS_TABLEAU true)).raise

theorem horizon_tabled : s.tabled.horizon = s.horizon := by
  obtain ⟨l, same⟩ := s.raises_tabled
  rw [horizon, tableau_tabled, if_pos rfl, same]
  rfl

/-- What is kept of the blocks with something in transport, up to the end of the entry. -/
theorem kept_tabled_transport : Kept ([Reg.CUR_STATUS, Reg.PUMP_STATUS, Reg.POWER_STATUS] ++ meterRegs)
    [.cast, .engine, .router, .meter, .ghost, .guard, .pump] s.entryNoted.transportFrozen s.tabled := by
  have blocks : Kept ([Reg.CUR_STATUS, Reg.PUMP_STATUS, Reg.POWER_STATUS] ++ meterRegs) [.cast, .engine, .router, .meter, .ghost, .guard, .pump]
      s.entryNoted.transportFrozen s.entryNoted.blocksFrozen :=
    (kept_frozen _).mono (List.append_subset.2 ⟨List.subset_append_of_subset_left _ (by decide), List.subset_append_right ..⟩)
  exact (blocks.setBit (by decide)).raise

theorem curStatus_not_mem_meterRegs : Reg.CUR_STATUS ∉ meterRegs ∧ Reg.PUMP_STATUS ∉ meterRegs ∧ Reg.CURTAIN_STATUS ∉ meterRegs := by
  have below {r : Nat} (low : r < 0x4000 ∨ 0x4400 ≤ r) (other : r ≠ Reg.SCRUB_FAULT_SEEN) : r ∉ meterRegs := by
    intro mem
    rcases List.mem_cons.1 mem with eq | block
    · exact other eq
    · obtain ⟨i, inside, eq⟩ := List.mem_map.1 block
      have : i < 256 := by simpa using inside
      have : 0x4000 + 4 * i = r := eq
      omega
  exact ⟨below (by decide) (by decide), below (by decide) (by decide), below (by decide) (by decide)⟩

theorem engState_tabled : s.tabled.engState = if s.engState = eng.idle then eng.idle else eng.frozen := by
  have before : s.entryNoted.transportFrozen.engState = s.engState := (kept_transportFrozen s.entryNoted).get (f := F.CUR_STATUS_STATE)
  have meter : s.entryNoted.blocksFrozen.engState = s.entryNoted.transportFrozen.engFreeze.engState :=
    ((kept_pumpFreeze _).get (f := F.CUR_STATUS_STATE)).trans
      ((closing_meterFreeze _).kept.get (f := F.CUR_STATUS_STATE) curStatus_not_mem_meterRegs.1)
  have shown : s.tabled.engState = s.entryNoted.blocksFrozen.engState :=
    (get_raise_apart _ (g := F.CUR_STATUS_STATE) (by decide)).trans (get_setBit_apart _ (by decide))
  rw [shown, meter, engState_engFreeze, before]

theorem pState_tabled : s.tabled.pState = ps.frozen := by
  have shown : s.tabled.pState = s.entryNoted.blocksFrozen.pState :=
    (get_raise_apart _ (g := F.PUMP_STATUS_STATE) (by decide)).trans (get_setBit_apart _ (by decide))
  exact shown.trans (pState_pumpFreeze _)

theorem curtain_tabled : s.tabled.curtain = s.curtain := by
  refine s.kept_tabled.get (f := F.CURTAIN_STATUS_STATE) ?_
  intro mem
  rcases List.mem_append.1 mem with own | rest
  · exact absurd own (by decide)
  rcases List.mem_append.1 rest with hand | meter
  · exact absurd hand (by decide)
  · exact curStatus_not_mem_meterRegs.2.2 meter

/-- TABLEAU_ENTER comes last. -/
theorem inflight_tabled : ∃ l, s.tabled.router.inflight = l ++ [{ stamp := s.datum, num := 22 }] := by
  have datum : (s.entryNoted.blocksFrozen.setBit F.POWER_STATUS_TABLEAU true).datum = s.datum := s.kept_tabled.2 .datum (by decide)
  refine ⟨(s.entryNoted.blocksFrozen.setBit F.POWER_STATUS_TABLEAU true).router.inflight, ?_⟩
  rw [tabled, router_raise, datum]

theorem power_tabled : s.tabled.power.tabStart = s.elapsed :=
  (congrArg Power.tabStart (s.kept_tabled_transport.2 .power (by decide))).trans
    (congrArg Power.tabStart ((kept_transportFrozen s.entryNoted).2 .power (by decide)))

theorem wing_tabled : s.tabled.wing.frozen = [] :=
  (congrArg Wing.frozen (s.kept_tabled_transport.2 .wing (by decide))).trans (frozen_transportFrozen _)

theorem mer_tabled : s.tabled.mer.outstanding = [] := congrArg Meridian.outstanding (s.kept_tabled_transport.2 .mer (by decide))

theorem dispatched_tabled : s.tabled.host.dispatched = s.host.dispatched :=
  (congrArg HostIf.dispatched (s.kept_tabled_transport.2 .host (by decide))).trans (dispatched_transportFrozen s.entryNoted)

end State

/-- The entry to tableau, as it is settled. -/
theorem tableauEntry_completes {s a : State} {t : Nat} {bits : BitVec 2} (now : s.advance t = a) (enters : bits = 1) (out : a.tableau = false)
    (unlocked : a.power.otp.debugLock = false) (running : a.power.startDue = false) : Completes (.tableauEntry t bits) s fun b =>
      b.tableau = true ∧ b.power.tabStart = a.elapsed ∧ b.horizon = a.horizon ∧ b.wing.frozen = [] ∧ b.mer.outstanding = [] ∧
      b.engState = (if a.engState = eng.idle then eng.idle else eng.frozen) ∧ b.pState = ps.frozen ∧
      b.datum = a.datum ∧ b.curt = a.curt ∧ b.curtain = a.curtain ∧ b.tables = a.tables ∧ b.disc = a.disc ∧
      b.host.dispatched = a.host.dispatched ∧ ∃ l, b.router.inflight = l ++ [{ stamp := a.datum, num := 22 }] := by
  refine completes_at (x := a.endExtest.tabled) ((exec_tableauEntry ..).trans (State.execTableauEntry_eq ..)) now ?_ ?_
  · have plain : a.endExtest.tableau = false := out
    have free : a.endExtest.power.otp.debugLock = false := unlocked
    have on : a.endExtest.power.startDue = false := running
    simp only [enters, plain, free, on]
    rfl
  · obtain ⟨l, last⟩ := a.endExtest.inflight_tabled
    have kept := a.endExtest.kept_tabled
    have old : s.tables = a.tables := by
      rw [← now]
      rfl
    have tables : (a.endExtest.tabled).tables = s.tables := (kept.2 .tables (by decide)).trans old.symm
    have tableau : (s.settle a a.endExtest.tabled).tableau = true := (State.bit_settle ..).trans (State.tableau_tabled _)
    have horizon : (s.settle a a.endExtest.tabled).horizon = a.endExtest.tabled.horizon := by
      rw [State.horizon, tableau, State.horizon, State.tableau_tabled]
      rfl
    refine ⟨tableau, a.endExtest.power_tabled, horizon.trans a.endExtest.horizon_tabled, a.endExtest.wing_tabled, a.endExtest.mer_tabled,
      (State.get_settle ..).trans a.endExtest.engState_tabled, (State.get_settle ..).trans a.endExtest.pState_tabled,
      kept.2 .datum (by decide), kept.2 .curt (by decide), (State.get_settle ..).trans a.endExtest.curtain_tabled, ?_,
      kept.2 .disc (by decide), a.endExtest.dispatched_tabled, l, last⟩
    exact (State.tables_settle _ _ _ tables).trans old

end Sys2Proof.Machine

/-! PROOFS. Internal start (R632, R651, R652, R656, R659): what it takes up, and what it leaves on the way. -/

namespace Sys2Proof.Machine

set_option Elab.async false

/-- The registers whose fields an internal start is judged by. -/
abbrev wakeRegs : List Nat := [Reg.POWER_STATUS, Reg.POWER_RESET_CAUSE, Reg.DATUM_STATUS]

/-- Those registers, datum time and its discipline stand, and so does what the domain knows of its header and of main power. -/
structure Woken (a b : State) : Prop where
  regs : ∀ r ∈ wakeRegs, b.reg r = a.reg r
  datum : b.datum = a.datum
  disc : b.disc = a.disc
  header : b.ghost.header = a.ghost.header
  absent : b.ghost.absent = a.ghost.absent

namespace Woken

variable {a b c : State}

theorem rfl : Woken a a := ⟨fun _ _ => Eq.refl _, Eq.refl _, Eq.refl _, Eq.refl _, Eq.refl _⟩

theorem trans (h : Woken a b) (h' : Woken b c) : Woken a c :=
  ⟨fun r mem => (h'.regs r mem).trans (h.regs r mem), h'.datum.trans h.datum, h'.disc.trans h.disc, h'.header.trans h.header,
    h'.absent.trans h.absent⟩

/-- What is kept in registers and parts, the domain among them, is kept here. -/
theorem kept (h : Woken a b) {regs : List Nat} {parts : List Part} (k : Kept regs parts b c) (hr : ∀ r ∈ wakeRegs, r ∉ regs := by decide)
    (hp : ∀ p ∈ [Part.datum, .disc, .ghost], p ∉ parts := by decide) : Woken a c := by
  have ghost : c.ghost = b.ghost := k.2 .ghost (hp .ghost (by decide))
  exact h.trans ⟨fun r mem => k.1 r (hr r mem), k.2 .datum (hp .datum (by decide)), k.2 .disc (hp .disc (by decide)), congrArg Ghost.header ghost,
    congrArg Ghost.absent ghost⟩

theorem mapGhost (h : Woken a b) {f : Ghost → Ghost} (hh : (f b.ghost).header = b.ghost.header := by exact Eq.refl _)
    (ha : (f b.ghost).absent = b.ghost.absent := by exact Eq.refl _) : Woken a (b.mapGhost f) :=
  h.trans ⟨fun _ _ => Eq.refl _, Eq.refl _, Eq.refl _, hh, ha⟩

theorem wakeRegs_not_mem_meterRegs : ∀ r ∈ wakeRegs, r ∉ meterRegs := by
  intro r own mem
  have low : r < 0x4000 ∧ r ≠ Reg.SCRUB_FAULT_SEEN := by
    revert own r
    decide
  rcases List.mem_cons.1 mem with eq | block
  · exact low.2 eq
  · obtain ⟨i, inside, eq⟩ := List.mem_map.1 block
    have : 0x4000 + 4 * i = r := eq
    omega

theorem metered (h : Woken a b) (m : Metered b c) : Woken a c := h.kept m.kept wakeRegs_not_mem_meterRegs

theorem when (h : Woken a b) {f : State → State} {q : Bool} (hf : Woken a b → Woken a (f b)) : Woken a (b.when q f) := by
  cases q with
  | false => exact h
  | true => exact hf h

theorem each (h : Woken a b) {α : Type} {f : α → State → State} {l : List α} (hf : ∀ i ∈ l, ∀ x, Woken a x → Woken a (f i x)) :
    Woken a (b.each l f) := by
  induction l generalizing b with
  | nil => exact h
  | cons i l ih => exact ih (hf i (List.mem_cons_self ..) b h) fun j hj => hf j (List.mem_cons_of_mem _ hj)

end Woken

namespace State

variable (s : State)

/-! Retention memory and the records in it -/

theorem woken_retain : Woken s s.retain := by
  unfold retain
  extract_lets gen x y core
  split <;> exact ⟨fun _ _ => rfl, rfl, rfl, rfl, rfl⟩

theorem woken_setCopy (core : MeterCore) : Woken s (s.setCopy core) := by
  unfold setCopy
  exact ((Woken.rfl.kept (parts := [.meter]) (regs := []) Kept.rfl.meter).trans (woken_retain _)).kept (parts := [.meter]) (regs := [])
    Kept.rfl.meter

theorem woken_sealOutage (store : Bool) : Woken s (s.sealOutage store) := by
  unfold sealOutage
  split
  · extract_lets mac y z
    have made : Woken s z := (woken_setCopy ..).mapGhost
    exact (made.kept (regs := [Reg.GHOST_STATUS]) (parts := []) Kept.rfl.setBit).when fun h =>
      h.kept (regs := [Reg.GHOST_STORE_SEALS]) (parts := []) Kept.rfl.count
  · exact .rfl

/-- The outage's record kept in retention memory, its seal begun or deferred (R652). -/
theorem woken_recorded (core : MeterCore) (r : Rec) (can : Bool) (t : Nat) : Woken s (((s.setCopy core).mapGhost fun g => { g with
    out := some r, closed := true, deferred := !can, lastCheck := t, job := if can then some g.store else none }).setBit
      F.GHOST_STATUS_SEAL_PEND !can) :=
  ((s.woken_setCopy core).mapGhost).kept (regs := [Reg.GHOST_STATUS]) (parts := []) Kept.rfl.setBit

theorem woken_outageClose (vstor : Nat) : Woken s (s.outageClose vstor) := by
  unfold outageClose
  split
  · exact .rfl
  split
  · exact .rfl
  split
  · exact .rfl
  extract_lets y can extra h'
  have sampled : Woken s y := Woken.rfl.kept (kept_storeSample s vstor)
  generalize y = z at sampled
  generalize z.canSeal vstor = can
  generalize closeCore _ _ _ = made
  split
  · exact sampled
  · exact sampled.trans (woken_recorded ..)

theorem woken_raised (num inst : Nat) : Woken s (s.raise num inst) :=
  Woken.rfl.kept (regs := [Reg.SCRUB_FAULT_SEEN]) (parts := [.router]) Kept.rfl.raiseFault

theorem woken_enterAtlas (r : Rec) : Woken s (s.enterAtlas r) := by
  unfold enterAtlas
  extract_lets y
  have room : Woken s y := by
    dsimp only [y]
    split
    · exact .rfl
    split
    · exact .rfl
    · refine (Woken.rfl.kept (regs := []) (parts := [.meter]) Kept.rfl.meter).when fun h => ?_
      exact ((h.kept (regs := [Reg.METER_ATLAS_LOST]) (parts := []) Kept.rfl.count).trans (woken_raised ..)).kept (regs := [])
        (parts := [.meter]) Kept.rfl.meter
  exact (room.kept (regs := []) (parts := [.meter]) Kept.rfl.meter).kept (kept_showAtlas _)

theorem woken_enterMissing (r : Rec) : Woken s (s.enterMissing r) := by
  unfold enterMissing
  split
  · exact .rfl
  · exact woken_enterAtlas ..

theorem woken_enterRetained : Woken s s.enterRetained := by
  unfold enterRetained
  extract_lets y
  have last : Woken s y := by
    dsimp only [y]
    split
    · exact woken_enterMissing ..
    · exact .rfl
  split
  · exact last
  next r _ =>
    extract_lets z w
    have sealed : Woken s z := last.when fun h => h.trans (woken_enterMissing ..)
    have counted : Woken s w := sealed.when fun h =>
      (h.kept (regs := [Reg.METER_SEAL_DEFER]) (parts := []) Kept.rfl.count).trans (woken_raised ..)
    exact counted.mapGhost

theorem woken_fileRecord (body : List Byte) : Woken s (s.fileRecord body) := by
  unfold fileRecord
  extract_lets mac r y g z
  have last : Woken s z := (Woken.rfl.kept (regs := []) (parts := [.meter]) Kept.rfl.meter).trans ⟨fun _ _ => rfl, rfl, rfl, rfl, rfl⟩
  exact (last.trans (woken_enterAtlas ..)).when fun h => h.trans (woken_retain _)

theorem woken_gapRecord (e r quality : Nat) : Woken s (s.gapRecord e r quality) := by
  unfold gapRecord
  extract_lets flags body
  exact ((woken_fileRecord ..).kept (regs := []) (parts := [.meter]) Kept.rfl.meter).trans (woken_raised ..)

theorem woken_openInterval (t flags quality : Nat) : Woken s (s.openInterval t flags quality) := by
  unfold openInterval
  extract_lets from_ i j y z w
  have opened : Woken s y := Woken.rfl.kept (regs := []) (parts := [.meter]) Kept.rfl.meter
  have extended : Woken s w := (opened.metered (metered_extendTo ..)).when fun h => h.kept (regs := []) (parts := [.meter]) Kept.rfl.meter
  exact extended.kept (kept_showAtlas w)

theorem woken_reopen (lost : Bool) : Woken s (s.reopen lost) := woken_openInterval ..

end State

end Sys2Proof.Machine

/-! PROOFS. Internal start, in its order (R632): the PLLs, the domain, datum time, metering, and START_DONE last. -/

namespace Sys2Proof.Machine

set_option Elab.async false

namespace State

variable (s : State)

/-! Metering comes back (R410 to R415, R659) -/

/-- The outputs as retention left them. -/
theorem woken_setBacklog (n v : Nat) : Woken s (s.setBacklog n v) :=
  Woken.rfl.kept (kept_setBacklog s n v) (by
    intro r own mem
    rw [List.mem_singleton.1 mem] at own
    simp [Reg.METER_PULSE, Reg.POWER_STATUS, Reg.POWER_RESET_CAUSE, Reg.DATUM_STATUS] at own
    omega)

theorem woken_pulseHold : Woken s s.pulseHold := by
  unfold pulseHold
  refine Woken.rfl.each fun n _ x h => ?_
  split
  · split
    · exact h.kept (kept_pulseLevel x n false)
    · exact h
  · extract_lets y
    have cleared : Woken s y :=
      ((h.kept (regs := []) (parts := [.meter]) Kept.rfl.meter).trans (woken_setBacklog ..)).kept (regs := []) (parts := [.meter]) Kept.rfl.meter
    exact cleared.when fun h => h.kept (regs := []) (parts := [.router]) Kept.rfl.router

/-- The metering state of a copy taken up, with the records and the outputs that go with it. -/
def retained (c : MeterCore) (s : State) : State :=
  let s := (s.mapCore fun _ => c).enterRetained
  let s := (s.each (List.range 4) fun n s => s.setBacklog n (Sparse.get (fun _ => 0) c.backlog n)).pulseHold
  let s := s.setBit F.METER_STATUS_DIR s.meter.core.dir
  s.mapMeter fun m => { m with lastRefresh := s.elapsed }

/-- A gap record where the last record ends before the present interval, and that interval open (R413). -/
def gapped (s : State) : State :=
  let e := s.meter.core.lastEnd
  let s := s.when (e < s.intervalStart) (State.gapRecord e s.intervalStart (2 ^ mq.powerLoss + 2 ^ mq.unmetered))
  s.openInterval s.intervalStart 0 (2 ^ mq.powerLoss + 2 ^ mq.unmetered)

/-- The open interval goes on over the outage, with POWER_LOSS (R412). -/
def carriedOver (s : State) : State :=
  let s := s.mapCore fun c => { c with ivals := c.ivals.map (spoil s.ghost.outStart) }
  (s.quality s.datum mq.powerLoss).showAtlas

/-- A new chain where retention holds nothing (R410). -/
def chainBegun (s : State) : State :=
  let s := (s.mapCore fun _ => { chainNew := true }).setBit F.METER_STATUS_RET_LOST true
  let s := s.mapGhost fun g => { g with last := none, out := none, deferred := false, copyA := none, copyB := none }
  let s := s.mapMeter fun m => { m with lastRefresh := s.elapsed }
  s.raise 163

theorem startMeter_eq (lost : Bool) : s.startMeter lost = match s.retOk, s.latestCopy with
    | true, some c =>
      if !lost then (s.retained c).showAtlas
      else match (s.retained c).meter.core.ivals with
        | h :: _ => if (s.retained c).datum < h.stop then (s.retained c).carriedOver else (s.retained c).gapped
        | [] => (s.retained c).gapped
    | _, _ => s.chainBegun.reopen lost := rfl

theorem woken_retained (c : MeterCore) : Woken s (s.retained c) := by
  have back : Woken s (s.mapCore fun _ => c).enterRetained :=
    (Woken.rfl.kept (regs := []) (parts := [.meter]) Kept.rfl.meter).trans (woken_enterRetained _)
  have out := (back.each (l := List.range 4) fun n _ x h => h.trans (woken_setBacklog x n (Sparse.get (fun _ => 0) c.backlog n))).trans
    (woken_pulseHold _)
  exact (out.kept (regs := [Reg.METER_STATUS]) (parts := []) Kept.rfl.setBit).kept (regs := []) (parts := [.meter]) Kept.rfl.meter

theorem woken_gapped : Woken s s.gapped :=
  (Woken.rfl.when fun h => h.trans (woken_gapRecord ..)).trans (woken_openInterval ..)

theorem woken_carriedOver : Woken s s.carriedOver :=
  ((Woken.rfl.kept (regs := []) (parts := [.meter]) Kept.rfl.meter).metered (metered_quality ..)).kept (kept_showAtlas _)

theorem woken_chainBegun : Woken s s.chainBegun :=
  ((Woken.rfl.kept (regs := [Reg.METER_STATUS]) (parts := [.meter]) (Kept.trans Kept.rfl.meter Kept.rfl.setBit)).mapGhost.kept (regs := [])
    (parts := [.meter]) Kept.rfl.meter).trans (woken_raised ..)

theorem woken_startMeter (lost : Bool) : Woken s (s.startMeter lost) := by
  rw [startMeter_eq]
  split
  next c _ _ =>
    have back := s.woken_retained c
    split
    · exact back.kept (kept_showAtlas _)
    · split
      · split
        · exact back.trans (woken_carriedOver _)
        · exact back.trans (woken_gapped _)
      · exact back.trans (woken_gapped _)
  · exact s.woken_chainBegun.trans (woken_reopen ..)

/-! The domain's part (R651, R652, R656, R659) -/

/-- The outage's record sealed, where it waits for its seal (R652). -/
def outageEnded (s : State) : State :=
  let s := s.outageClose (s.get F.GHOST_LEVELS_VSTOR)
  match s.ghost.out with
  | some r => s.when r.mac.isNone (State.sealOutage false)
  | none => s

/-- The domain with main power present again. -/
def supplied (s : State) : State :=
  ((s.mapGhost fun g => { g with store := false }).setBit F.GHOST_STATUS_PF_WARN false).loadShadow

/-- What the domain has retained, shown. -/
def retentionShown (s : State) : State := (s.setBit F.GHOST_STATUS_KEEPER_OK s.ghost.header).setBit F.GHOST_STATUS_RET_OK s.retOk

/-- The domain before datum time is taken up. -/
def domainReady (lost : Bool) (s : State) : State :=
  ((s.when (!s.ghost.running) State.domainStart).supplied.when lost outageEnded).retentionShown

/-- What is owed to the host raised, and the header valid. -/
def owedTold (s : State) : State :=
  let s := s.each s.ghost.owed fun e s => s.raiseAt e.stamp e.num e.inst
  let s := s.when s.ghost.lostOwed fun s => s.raise 26
  let s := s.mapGhost fun g => { g with header := true, owed := [], lostOwed := false, closed := false }
  s.when (s.get F.GHOST_LEVELS_VSTOR < vSeal) fun s => s.raise 28

theorem ghostStart_eq (lost meter : Bool) : s.ghostStart lost meter =
    (((s.domainReady lost).when lost takeUpTime).when meter (startMeter lost)).owedTold := rfl

theorem woken_outageEnded : Woken s s.outageEnded := by
  unfold outageEnded
  extract_lets y
  have closed : Woken s y := woken_outageClose ..
  split
  · exact closed.when fun h => h.trans (woken_sealOutage ..)
  · exact closed

theorem woken_supplied : Woken s s.supplied := by
  unfold supplied loadShadow
  exact ((Woken.rfl.mapGhost).kept (regs := [Reg.GHOST_STATUS]) (parts := []) Kept.rfl.setBit).mapGhost

theorem woken_retentionShown : Woken s s.retentionShown :=
  Woken.rfl.kept (regs := [Reg.GHOST_STATUS]) (parts := []) Kept.rfl.setBit.setBit

/-- What stands over a domain start, which makes the header invalid. -/
structure Readied (a b : State) : Prop where
  regs : ∀ r ∈ wakeRegs, b.reg r = a.reg r
  datum : b.datum = a.datum
  disc : b.disc = a.disc
  absent : b.ghost.absent = a.ghost.absent
  header : a.ghost.header = false → b.ghost.header = false

theorem Readied.woken {a b c : State} (h : Readied a b) (k : Woken b c) : Readied a c :=
  ⟨fun r mem => (k.regs r mem).trans (h.regs r mem), k.datum.trans h.datum, k.disc.trans h.disc, k.absent.trans h.absent,
    fun no => k.header.trans (h.header no)⟩

theorem readied_domainStart : Readied s s.domainStart :=
  ⟨fun r mem => (s.reg_domainStart r).trans (if_neg (by revert mem r; decide)), rfl, rfl, rfl, fun _ => rfl⟩

theorem readied_domainReady (lost : Bool) : Readied s (s.domainReady lost) := by
  have same : Readied s s := ⟨fun _ _ => rfl, rfl, rfl, rfl, id⟩
  have started : Readied s (s.when (!s.ghost.running) State.domainStart) := by
    cases !s.ghost.running with
    | false => exact same
    | true => exact s.readied_domainStart
  have ended := (woken_supplied (s.when (!s.ghost.running) State.domainStart)).when (q := lost) fun h => h.trans (woken_outageEnded _)
  exact started.woken (ended.trans (woken_retentionShown _))

/-- Datum time taken up (R47, R656). -/
theorem takeUpTime_spec : s.takeUpTime.reg Reg.POWER_STATUS = s.reg Reg.POWER_STATUS ∧
    s.takeUpTime.reg Reg.POWER_RESET_CAUSE = s.reg Reg.POWER_RESET_CAUSE ∧ s.takeUpTime.disc.running = true ∧ s.takeUpTime.ghost.absent = false ∧
    (s.ghost.header = false → s.takeUpTime.datum = 0 ∧ s.takeUpTime.bit F.DATUM_STATUS_ORIGIN = false) := by
  unfold takeUpTime
  extract_lets valid now start a disc b c d ppm err
  have taken : Kept [Reg.DATUM_STATUS, Reg.GHOST_OUT_START_LO, Reg.GHOST_OUT_START_HI, Reg.GHOST_OUT_END_LO, Reg.GHOST_OUT_END_HI] [] b d :=
    Kept.rfl.setBit.setPair.setPair
  have origin : d.bit F.DATUM_STATUS_ORIGIN = valid := by
    have shown : Kept [Reg.GHOST_OUT_START_LO, Reg.GHOST_OUT_START_HI, Reg.GHOST_OUT_END_LO, Reg.GHOST_OUT_END_HI] [] c d := Kept.rfl.setPair.setPair
    have told : c.get F.DATUM_STATUS_ORIGIN = if valid then 1 else 0 :=
      get_set_of_lt (f := F.DATUM_STATUS_ORIGIN) (b.noteSet valid _ _) (by decide) (by split <;> decide)
    rw [bit, shown.get, told]
    cases valid <;> rfl
  have ended (x : State) (k : Kept [Reg.GHOST_OUT_ERR, Reg.GHOST_OUTAGES] [.router] d x) :
      x.reg Reg.POWER_STATUS = s.reg Reg.POWER_STATUS ∧ x.reg Reg.POWER_RESET_CAUSE = s.reg Reg.POWER_RESET_CAUSE ∧ x.disc.running = true ∧
      x.ghost.absent = false ∧ (s.ghost.header = false → x.datum = 0 ∧ x.bit F.DATUM_STATUS_ORIGIN = false) := by
    refine ⟨k.reg.trans taken.reg, k.reg.trans taken.reg, ?_, ?_, fun no => ?_⟩
    · rw [k.2 .disc (by decide), taken.2 .disc (by decide)]
    · rw [k.2 .ghost (by decide), taken.2 .ghost (by decide)]
      rfl
    · have invalid : valid = false := by simp [valid, no]
      refine ⟨?_, k.bit.trans (origin.trans invalid)⟩
      rw [k.2 .datum (by decide), taken.2 .datum (by decide)]
      simp [b, invalid]
  split
  · exact ended _ (Kept.rfl.setTop.count.raise)
  · exact ended _ Kept.rfl.set

/-- What is told leaves all but the header. -/
theorem owedTold_spec : (∀ r ∈ wakeRegs, s.owedTold.reg r = s.reg r) ∧ s.owedTold.datum = s.datum ∧ s.owedTold.disc = s.disc ∧
    s.owedTold.ghost.absent = s.ghost.absent := by
  unfold owedTold
  extract_lets y y' z
  have owed : Woken s y' := by
    refine (Woken.rfl.each fun e _ x h => ?_).when fun h => h.trans (woken_raised ..)
    exact h.kept (regs := [Reg.SCRUB_FAULT_SEEN]) (parts := [.router]) Kept.rfl.raiseFaultAt
  have low : Woken z (z.when (z.get F.GHOST_LEVELS_VSTOR < vSeal) fun s => s.raise 28) := Woken.rfl.when fun h => h.trans (woken_raised ..)
  exact ⟨fun r mem => (low.regs r mem).trans (owed.regs r mem), low.datum.trans owed.datum, low.disc.trans owed.disc, low.absent.trans owed.absent⟩

/-- The domain's part: the registers of the reset, datum time, and main power. -/
theorem ghostStart_spec (lost meter : Bool) : (s.ghostStart lost meter).reg Reg.POWER_STATUS = s.reg Reg.POWER_STATUS ∧
    (s.ghostStart lost meter).reg Reg.POWER_RESET_CAUSE = s.reg Reg.POWER_RESET_CAUSE ∧
    (lost = true → (s.ghostStart lost meter).disc.running = true ∧ (s.ghostStart lost meter).ghost.absent = false ∧
      (s.ghost.header = false → (s.ghostStart lost meter).datum = 0 ∧ (s.ghostStart lost meter).bit F.DATUM_STATUS_ORIGIN = false)) ∧
    (lost = false → (s.ghostStart lost meter).disc = s.disc ∧ (s.ghostStart lost meter).datum = s.datum) := by
  have ready := s.readied_domainReady lost
  rw [ghostStart_eq]
  generalize s.domainReady lost = y at ready
  obtain ⟨x, taken⟩ : ∃ x, y.when lost takeUpTime = x := ⟨_, rfl⟩
  rw [taken]
  have metered := (Woken.rfl (a := x)).when (q := meter) fun h => h.trans (woken_startMeter _ lost)
  generalize x.when meter (startMeter lost) = z at metered
  obtain ⟨regs, datum, disc, absent⟩ := z.owedTold_spec
  have reg {r : Nat} (mem : r ∈ wakeRegs) : z.owedTold.reg r = x.reg r := (regs r mem).trans (metered.regs r mem)
  cases lost with
  | false =>
    rw [when_false] at taken
    subst taken
    refine ⟨(reg (by decide)).trans (ready.regs _ (by decide)), (reg (by decide)).trans (ready.regs _ (by decide)), nofun, fun _ => ?_⟩
    exact ⟨disc.trans (metered.disc.trans ready.disc), datum.trans (metered.datum.trans ready.datum)⟩
  | true =>
    rw [when_true] at taken
    subst taken
    obtain ⟨status, cause, running, present, unknown⟩ := y.takeUpTime_spec
    refine ⟨(reg (by decide)).trans (status.trans (ready.regs _ (by decide))), (reg (by decide)).trans (cause.trans (ready.regs _ (by decide))),
      fun _ => ⟨?_, absent.trans (metered.absent.trans present), fun no => ?_⟩, nofun⟩
    · rw [disc, metered.disc]
      exact running
    · obtain ⟨zero, origin⟩ := unknown (ready.header no)
      refine ⟨datum.trans (metered.datum.trans zero), ?_⟩
      rw [bit, get, reg (by decide)]
      exact origin

end State

end Sys2Proof.Machine

/-! PROOFS. O48: internal start, tableau, and the record key at the test port (R601 to R603, R628 to R632). -/

namespace Sys2Proof.Machine

set_option Elab.async false

namespace State

variable (s : State)

/-! Internal start (R632) -/

/-- The PLLs, the one-time-programmable memory where it is read, and the ROM's verdict. -/
def startBegun (romOk meter : Bool) (s : State) : State :=
  ((s.set F.POWER_STATUS_RAIL_OK 31).startPlls.when meter readOtp).when (!romOk) fun s => s.curtCause 11

/-- The blocks that a reset of METER has reached with it. -/
def domainServed (meter : Bool) (s : State) : State :=
  s.when meter fun s => (s.setDomainOk.bearEnable).when s.power.otp.key.isNone fun s => s.raise 168

/-- The reset is over. -/
def startEnded (s : State) : State :=
  (s.mapCurt fun c => { c with lastHb := s.elapsed }).mapPower fun p => { p with startDue := false, started := true, period := [], whole := false }

/-- All of internal start but START_DONE and its event. -/
def startMade (romOk : Bool) (s : State) : State :=
  (((s.startBegun romOk s.power.whole).ghostStart (!s.disc.running) s.power.whole).domainServed s.power.whole).startEnded

/-- START_DONE, and RESET_DONE with the cause. -/
def startTold (s : State) : State := (s.setBit F.POWER_STATUS_START_DONE true).raise 16 (s.get F.POWER_RESET_CAUSE_LAST)

theorem execInternalStart_eq (t : Nat) (romOk : Bool) (s : State) : execInternalStart t romOk s = s.run t fun s =>
    if !s.power.startDue || !s.power.holds.isEmpty then s else (s.startMade romOk).startTold := rfl

theorem woken_startPlls : Woken s s.startPlls := by
  have clockPll (i : Nat) (pll : i < 3) : ∀ r ∈ wakeRegs, r ∉ [Reg.CLOCK_PLL i, Reg.CLOCK_MEMO] := by
    intro r own mem
    have other : r = 0x1400 ∨ r = 0x1404 ∨ r = 0x1808 := by simpa using own
    have clock : r = Reg.CLOCK_PLL i ∨ r = Reg.CLOCK_MEMO := by simpa using mem
    simp only [Reg.CLOCK_PLL, Reg.CLOCK_MEMO] at clock
    omega
  unfold startPlls
  extract_lets a b c
  have locked : Woken s a := Woken.rfl.each fun i mem x h => h.when fun h =>
    (h.kept (kept_setPll x i _)).kept (kept_lockMemo _ i) (clockPll i (List.mem_range.1 mem))
  have shown : Woken a b := Woken.rfl.each fun i _ x h => h.kept (regs := [Reg.CLOCK_STATUS]) (parts := []) (Kept.rfl.setBit (by simp [lockBit]))
  have status : Woken b c := Woken.rfl.kept (regs := [Reg.CLOCK_STATUS]) (parts := []) Kept.rfl.setBit.setBit
  have last : Woken c (c.setBit F.CLOCK_STATUS_STAGE_BYP c.power.stageByp).judgeDeferred :=
    (Woken.rfl.kept (regs := [Reg.CLOCK_STATUS]) (parts := []) Kept.rfl.setBit).kept (kept_judgeDeferred _)
  exact ((locked.trans shown).trans status).trans last

theorem kept_showKey : Kept [Reg.METER_STATUS, Reg.METER_KEY_ID] [] s s.showKey := Kept.rfl.setBit.set

theorem woken_readOtp : Woken s s.readOtp := by
  unfold readOtp
  extract_lets o a b
  have fuses : Woken s a := Woken.rfl.kept (regs := [Reg.POWER_TAP]) (parts := []) Kept.rfl.setBit.setBit
  have serial : Woken s b := (fuses.kept (kept_showKey a)).kept (regs := [Reg.LEGEND_SERIAL_LO, Reg.LEGEND_SERIAL_HI]) (parts := []) Kept.rfl.setPair
  exact serial.kept (regs := []) (parts := [.conv]) Kept.rfl.conv

theorem woken_startBegun (romOk meter : Bool) : Woken (s.set F.POWER_STATUS_RAIL_OK 31) (s.startBegun romOk meter) :=
  ((woken_startPlls _).when fun h => h.trans (woken_readOtp _)).when fun h => h.kept (kept_curtCause _ 11)

theorem get_of_reg {a b : State} {f : FieldRef} (h : b.reg f.addr = a.reg f.addr) : b.get f = a.get f := by rw [get, h, get]

theorem kept_domainServed (meter : Bool) :
    Kept [Reg.DATUM_STATUS, Reg.GRID_STATUS, Reg.SCRUB_FAULT_SEEN] [.grid, .router] s (s.domainServed meter) :=
  Kept.rfl.when fun _ => by
    have domain : Kept [Reg.DATUM_STATUS, Reg.GRID_STATUS, Reg.SCRUB_FAULT_SEEN] [.grid, .router] s s.setDomainOk := Kept.rfl.setBit
    have bearing : Kept [Reg.DATUM_STATUS, Reg.GRID_STATUS, Reg.SCRUB_FAULT_SEEN] [.grid, .router] s s.setDomainOk.bearEnable :=
      domain.trans (kept_bearEnable _).mono
    exact bearing.when fun h => h.raise

theorem origin_domainServed (meter : Bool) : (s.domainServed meter).bit F.DATUM_STATUS_ORIGIN = s.bit F.DATUM_STATUS_ORIGIN := by
  cases meter with
  | false => rfl
  | true =>
    have shown : s.setDomainOk.bit F.DATUM_STATUS_ORIGIN = s.bit F.DATUM_STATUS_ORIGIN := bit_setBit_apart _ (by decide)
    have rest : Kept [Reg.GRID_STATUS, Reg.SCRUB_FAULT_SEEN] [.grid, .router] s.setDomainOk (s.domainServed true) := by
      have bearing : Kept [Reg.GRID_STATUS, Reg.SCRUB_FAULT_SEEN] [.grid, .router] s.setDomainOk s.setDomainOk.bearEnable := (kept_bearEnable _).mono
      exact bearing.when (f := fun s => s.raise 168) fun h => h.raise
    exact rest.bit.trans shown

theorem kept_startEnded : Kept [] [.curt, .power] s s.startEnded := Kept.rfl.mapCurt.mapPower

theorem rails_reset : (s.set F.POWER_STATUS_RAIL_OK 31).get F.POWER_STATUS_RAIL_OK = 31 := get_set_of_lt _ (by decide) (by decide)

/-- Internal start but its end: the rails and the cause shown, datum time running, the reset over. -/
theorem startMade_spec (romOk : Bool) : let b := s.startMade romOk
    b.power.startDue = false ∧ b.power.started = true ∧ b.disc.running = true ∧ b.get F.POWER_STATUS_RAIL_OK = 31 ∧
      b.get F.POWER_RESET_CAUSE_LAST = s.get F.POWER_RESET_CAUSE_LAST ∧ (s.disc.running = false → b.ghost.absent = false) ∧
      (s.disc.running = true → b.datum = s.datum) ∧
      (s.disc.running = false → s.ghost.header = false → b.datum = 0 ∧ b.bit F.DATUM_STATUS_ORIGIN = false) := by
  have rail : Kept [Reg.POWER_STATUS] [] s (s.set F.POWER_STATUS_RAIL_OK 31) := Kept.rfl.set
  have begun := s.woken_startBegun romOk s.power.whole
  rw [startMade]
  generalize s.startBegun romOk s.power.whole = x at begun
  have disc : x.disc = s.disc := begun.disc.trans (rail.2 .disc (by decide))
  have datum : x.datum = s.datum := begun.datum.trans (rail.2 .datum (by decide))
  have header : x.ghost.header = s.ghost.header := begun.header.trans (congrArg Ghost.header (rail.2 .ghost (by decide)))
  have shown : x.get F.POWER_STATUS_RAIL_OK = 31 := (get_of_reg (begun.regs _ (by decide))).trans s.rails_reset
  have cause : x.get F.POWER_RESET_CAUSE_LAST = s.get F.POWER_RESET_CAUSE_LAST := (get_of_reg (begun.regs _ (by decide))).trans rail.get
  obtain ⟨status, last, fresh, old⟩ := x.ghostStart_spec (!s.disc.running) s.power.whole
  generalize x.ghostStart (!s.disc.running) s.power.whole = y at status last fresh old
  have served := y.kept_domainServed s.power.whole
  have origin := y.origin_domainServed s.power.whole
  generalize y.domainServed s.power.whole = z at served origin
  have ended := z.kept_startEnded
  have after : z.startEnded.disc = y.disc ∧ z.startEnded.datum = y.datum ∧ z.startEnded.ghost = y.ghost :=
    ⟨(ended.2 .disc (by decide)).trans (served.2 .disc (by decide)), (ended.2 .datum (by decide)).trans (served.2 .datum (by decide)),
      (ended.2 .ghost (by decide)).trans (served.2 .ghost (by decide))⟩
  obtain ⟨discE, datumE, ghostE⟩ := after
  refine ⟨rfl, rfl, ?_, ended.get.trans (served.get.trans ((get_of_reg status).trans shown)),
    ended.get.trans (served.get.trans ((get_of_reg last).trans cause)), fun lost => ?_, fun runs => ?_, fun lost no => ?_⟩
  · rw [discE]
    cases runs : s.disc.running with
    | false => exact (fresh (by rw [runs]; rfl)).1
    | true => rw [(old (by rw [runs]; rfl)).1, disc, runs]
  · rw [ghostE]
    exact (fresh (by rw [lost]; rfl)).2.1
  · rw [datumE, (old (by rw [runs]; rfl)).2, datum]
  · obtain ⟨zero, unset⟩ := (fresh (by rw [lost]; rfl)).2.2 (header.trans no)
    exact ⟨datumE.trans zero, ended.bit.trans (origin.trans unset)⟩

theorem kept_startTold : Kept [Reg.POWER_STATUS, Reg.SCRUB_FAULT_SEEN] [.router] s s.startTold := Kept.rfl.setBit.raiseFault

theorem done_startTold : s.startTold.bit F.POWER_STATUS_START_DONE = true :=
  (bit_raise_apart _ (by decide)).trans (bit_setBit_same _ (f := F.POWER_STATUS_START_DONE) (by decide) rfl)

theorem rails_startTold : s.startTold.get F.POWER_STATUS_RAIL_OK = s.get F.POWER_STATUS_RAIL_OK :=
  (get_raise_apart _ (by decide)).trans (get_setBit_apart _ (by decide))

theorem inflight_startTold :
    s.startTold.router.inflight = s.router.inflight ++ [{ stamp := s.datum, num := 16, inst := s.get F.POWER_RESET_CAUSE_LAST }] := by
  rw [startTold, router_raise]
  rfl

/-! The record key (R631) -/

/-- Why the key cannot be programmed. -/
def keyBad (vddOk : Bool) (s : State) : Nat :=
  (if s.power.otp.key.isSome then 2 else 0) + (if s.curtain = cur.locked && vddOk then 0 else 4)

theorem execKeyProg_eq (t : Nat) (key : BitVec 256) (id : Word) (vddOk : Bool) (s : State) : execKeyProg t key id vddOk s = s.run t fun s =>
    if s.endExtest.power.keyJob.isSome then s.endExtest
    else if s.endExtest.power.otp.keyFailed then s.endExtest.mapPower fun p => { p with keyOut := s.endExtest.keyBad vddOk + 8 }
    else if s.endExtest.keyBad vddOk ≠ 0 then s.endExtest.mapPower fun p => { p with keyOut := s.endExtest.keyBad vddOk }
    else s.endExtest.mapPower fun p => { p with keyOut := 0, keyJob := some (leBytes 32 key.toNat, id.toNat) } := rfl

/-- The key stored and told. -/
def keyStored (key : List Byte) (id : Nat) (s : State) : State :=
  (s.mapPower fun p => { p with keyJob := none, keyOut := 1, otp := { p.otp with key := some key, keyId := id } }).showKey.loadShadow

/-- The key spoilt. -/
def keySpoilt (s : State) : State :=
  (s.mapPower fun p => { p with keyJob := none, keyOut := 8, otp := { p.otp with keyFailed := true } }).setBit F.POWER_TAP_KEY_FAILED true

/-- The power block once the key is verified. -/
def keyPower (key : List Byte) (id : Nat) (p : Power) : Power := { p with keyJob := none, keyOut := 1, otp := { p.otp with key := some key, keyId := id } }

/-- The power block once the key has failed. -/
def keyLost (p : Power) : Power := { p with keyJob := none, keyOut := 8, otp := { p.otp with keyFailed := true } }

theorem showKey_spec {key : List Byte} {id : Nat} (small : id < 2 ^ 32) (hk : s.power.otp.key = some key) (hi : s.power.otp.keyId = id) :
    s.showKey.bit F.METER_STATUS_KEY_OK = true ∧ s.showKey.get F.METER_KEY_ID_ID = id := by
  rw [showKey, hk, hi]
  exact ⟨(bit_set_apart _ (by decide)).trans (bit_setBit_same _ (f := F.METER_STATUS_KEY_OK) (by decide) rfl), get_set_of_lt _ (by decide) small⟩

theorem keyStored_spec (key : List Byte) {id : Nat} (small : id < 2 ^ 32) : (s.keyStored key id).power = keyPower key id s.power ∧
    (s.keyStored key id).bit F.METER_STATUS_KEY_OK = true ∧ (s.keyStored key id).get F.METER_KEY_ID_ID = id ∧
    Kept [Reg.METER_STATUS, Reg.METER_KEY_ID] [.power, .ghost] s (s.keyStored key id) := by
  have made : s.keyStored key id = (s.mapPower (keyPower key id)).showKey.loadShadow := rfl
  rw [made]
  have noted : Kept [] [.power] s (s.mapPower (keyPower key id)) := Kept.rfl.mapPower
  have power : (s.mapPower (keyPower key id)).power = keyPower key id s.power := rfl
  generalize s.mapPower (keyPower key id) = x at noted power
  have shown := x.kept_showKey
  obtain ⟨ok, number⟩ := x.showKey_spec small (by rw [power]; rfl) (by rw [power]; rfl)
  generalize x.showKey = y at shown ok number
  have loaded : Kept [] [.ghost] y y.loadShadow := Kept.rfl.mapGhost
  exact ⟨(loaded.2 .power (by decide)).trans ((shown.2 .power (by decide)).trans power), loaded.bit.trans ok, loaded.get.trans number,
    (noted.mono.trans shown.mono).trans loaded.mono⟩

theorem keySpoilt_spec : s.keySpoilt.power = keyLost s.power ∧ s.keySpoilt.bit F.POWER_TAP_KEY_FAILED = true ∧
    Kept [Reg.POWER_TAP] [.power] s s.keySpoilt :=
  ⟨power_setBit .., bit_setBit_same _ (f := F.POWER_TAP_KEY_FAILED) (by decide) rfl, Kept.rfl.mapPower.setBit⟩

theorem kept_endExtest : Kept [] [.power] s s.endExtest := Kept.rfl.mapPower

end State

/-! The clauses -/

theorem Completes.weaken {c : Instr} {s : State} {P Q : State → Prop} (h : Completes c s P) (hpq : ∀ b, P b → Q b) : Completes c s Q :=
  h.imp fun b done => ⟨done.1, hpq b done.2⟩

theorem internalStart_active {s a : State} {t : Nat} {rom : Bool} (now : s.advance t = a) (due : a.power.startDue = true) (free : a.power.holds = []) :
    Completes (.internalStart t rom) s fun b =>
      b.bit F.POWER_STATUS_START_DONE = true ∧ b.power.startDue = false ∧ b.power.started = true ∧ b.disc.running = true ∧
        b.get F.POWER_STATUS_RAIL_OK = 31 ∧ (a.disc.running = false → b.ghost.absent = false) ∧ (a.disc.running = true → b.datum = a.datum) ∧
        (a.disc.running = false → a.ghost.header = false → b.datum = 0 ∧ b.bit F.DATUM_STATUS_ORIGIN = false) ∧
        ∃ l, b.router.inflight = l ++ [{ stamp := b.datum, num := 16, inst := a.get F.POWER_RESET_CAUSE_LAST }] := by
  obtain ⟨ended, started, running, rails, cause, present, goesOn, unknown⟩ := a.startMade_spec rom
  obtain ⟨m, made⟩ : ∃ m, a.startMade rom = m := ⟨_, rfl⟩
  rw [made] at ended started running rails cause present goesOn unknown
  have told := m.kept_startTold
  have power : m.startTold.power = m.power := told.2 .power (by decide)
  have ghost : m.startTold.ghost = m.ghost := told.2 .ghost (by decide)
  have datum : m.startTold.datum = m.datum := told.2 .datum (by decide)
  have done := m.done_startTold
  have rails' := m.rails_startTold.trans rails
  have last := m.inflight_startTold
  have disc : m.startTold.disc = m.disc := told.2 .disc (by decide)
  have origin : m.startTold.bit F.DATUM_STATUS_ORIGIN = m.bit F.DATUM_STATUS_ORIGIN := told.bit
  refine completes_at (x := m.startTold) ((exec_internalStart ..).trans (State.execInternalStart_eq ..)) now ?_ ?_
  · rw [due, free, made]
    rfl
  generalize m.startTold = b at power ghost datum done rails' last disc origin
  rw [← power] at ended started
  rw [← disc] at running
  rw [cause, ← datum] at last
  exact ⟨(State.bit_settle ..).trans done, ended, started, running, (State.get_settle ..).trans rails', fun lost => ghost ▸ present lost,
    fun runs => datum.trans (goesOn runs),
    fun lost no => ⟨datum.trans (unknown lost no).1, (State.bit_settle ..).trans (origin.trans (unknown lost no).2)⟩, m.router.inflight, last⟩

theorem internalStart_idle {s a : State} {t : Nat} {rom : Bool} (now : s.advance t = a) (idle : a.power.startDue = false ∨ a.power.holds ≠ []) :
    Completes (.internalStart t rom) s fun b => Kept [] [] a b := by
  refine completes_at (x := a) ((exec_internalStart ..).trans (State.execInternalStart_eq ..)) now (if_pos ?_) (Kept.rfl.settled now)
  rcases idle with off | held
  · rw [off]
    rfl
  · cases eq : a.power.holds with
    | nil => exact absurd eq held
    | cons h l => exact Bool.or_true _

/-- The end of tableau, by either way out of it. -/
theorem exit_spec {s a : State} {t : Nat} {c : Instr} {f : State → State} (run : exec c s = s.run t f) (now : s.advance t = a)
    (effect : f a = a.endExtest.leaveTableau) : Completes c s fun b =>
      b.tableau = false ∧ b.router.held = [] ∧ b.host.held = [] ∧
        (a.host.held = [] → ({ stamp := a.datum, num := 23 } : Event) ∈ b.router.inflight) := by
  obtain ⟨tableau, events, writes⟩ := a.endExtest.clear_leaveTableau
  have told := a.endExtest.exit_reported
  refine completes_at (x := a.endExtest.leaveTableau) run now effect ?_
  exact ⟨(State.bit_settle ..).trans tableau, events, writes, told⟩

/-- A register of the test port that only ends EXTEST's hold. -/
theorem endExtest_spec {s a : State} {t : Nat} {c : Instr} {f : State → State} (run : exec c s = s.run t f) (now : s.advance t = a)
    (effect : f a = a.endExtest) : Completes c s fun b =>
      b.power = { a.power with holds := a.power.holds.filter (· ≠ 7) } ∧ Kept [] [.power] a b :=
  completes_at (x := a.endExtest) run now effect ⟨rfl, (State.kept_endExtest a).settled now⟩

/-- KEY_PROG by the refusals that hold and by the job in hand. -/
theorem keyProg_completes {s a : State} {t : Nat} {key : BitVec 256} {id : Word} {v : Bool} (now : s.advance t = a) :
    let bad := (if a.power.otp.key.isSome then 2 else 0) + (if a.curtain = 0 ∧ v = true then 0 else 4)
    Completes (.keyProg t key id v) s fun b =>
      (a.power.keyJob = none → a.power.otp.keyFailed = false → bad = 0 →
        b.power.keyJob = some (leBytes 32 key.toNat, id.toNat) ∧ b.power.keyOut = 0) ∧
      (a.power.keyJob = none → a.power.otp.keyFailed = false → bad ≠ 0 → b.power.keyJob = none ∧ b.power.keyOut = bad) ∧
      (a.power.keyJob = none → a.power.otp.keyFailed = true → b.power.keyJob = none ∧ b.power.keyOut = bad + 8) ∧
      (a.power.keyJob ≠ none → b.power.keyJob = a.power.keyJob ∧ b.power.keyOut = a.power.keyOut) ∧
      b.power.otp = a.power.otp ∧ b.power.holds = a.power.holds.filter (· ≠ 7) ∧ Kept [] [.power] a b := by
  intro bad
  have reasons : a.endExtest.keyBad v = bad := by
    simp only [State.keyBad, Bool.and_eq_true, decide_eq_true_eq, bad]
    rfl
  have run := (exec_keyProg t key id v s).trans (State.execKeyProg_eq ..)
  have kept (f : Power → Power) : Kept [] [.power] a (a.endExtest.mapPower f) := a.kept_endExtest.mapPower
  clear_value bad
  by_cases job : a.power.keyJob = none
  case neg =>
    refine completes_at (x := a.endExtest) run now (if_pos (Option.isSome_iff_ne_none.2 job)) ?_
    exact ⟨fun h => absurd h job, fun h => absurd h job, fun h => absurd h job, fun _ => ⟨rfl, rfl⟩, rfl, rfl, a.kept_endExtest.settled now⟩
  have free : ¬ a.endExtest.power.keyJob.isSome = true := by
    have same : a.endExtest.power.keyJob = none := job
    simp [same]
  by_cases failed : a.power.otp.keyFailed = true
  · refine completes_at (x := a.endExtest.mapPower fun p => { p with keyOut := bad + 8 }) run now ?_ ?_
    · rw [if_neg free, reasons]
      exact if_pos failed
    · exact ⟨fun _ h => absurd (failed.symm.trans h) nofun, fun _ h => absurd (failed.symm.trans h) nofun, fun _ _ => ⟨job, rfl⟩, fun h => absurd job h,
        rfl, rfl, (kept _).settled now⟩
  by_cases none_ : bad = 0
  · refine completes_at (x := a.endExtest.mapPower fun p => { p with keyOut := 0, keyJob := some (leBytes 32 key.toNat, id.toNat) }) run now ?_ ?_
    · rw [if_neg free, reasons, none_]
      exact if_neg failed
    · exact ⟨fun _ _ _ => ⟨rfl, rfl⟩, fun _ _ h => absurd none_ h, fun _ h => absurd h failed, fun h => absurd job h, rfl, rfl, (kept _).settled now⟩
  · refine completes_at (x := a.endExtest.mapPower fun p => { p with keyOut := bad }) run now ?_ ?_
    · rw [if_neg free, reasons, if_pos none_]
      exact if_neg failed
    · exact ⟨fun _ _ h => absurd h none_, fun _ _ _ => ⟨job, rfl⟩, fun _ h => absurd h failed, fun h => absurd job h, rfl, rfl, (kept _).settled now⟩

theorem keyVerify_completes {s a : State} {t : Nat} {stored : BitVec 256} {key : List Byte} {id : Nat} (now : s.advance t = a)
    (job : a.power.keyJob = some (key, id)) (small : id < 2 ^ 32) : Completes (.keyVerify t stored) s fun b => b.power.keyJob = none ∧
      (leBytes 32 stored.toNat = key → b.power.otp.key = some key ∧ b.power.keyOut = 1 ∧ b.bit F.METER_STATUS_KEY_OK = true ∧
        b.get F.METER_KEY_ID_ID = id ∧ Kept [Reg.METER_STATUS, Reg.METER_KEY_ID] [.power, .ghost] a b) ∧
      (leBytes 32 stored.toNat ≠ key → b.power.otp.key = a.power.otp.key ∧ b.power.otp.keyFailed = true ∧ b.power.keyOut = 8 ∧
        b.bit F.POWER_TAP_KEY_FAILED = true ∧ Kept [Reg.POWER_TAP] [.power] a b) := by
  by_cases equal : leBytes 32 stored.toNat = key
  · obtain ⟨x, told⟩ : ∃ x, a.keyStored key id = x := ⟨_, rfl⟩
    obtain ⟨power, ok, shown, kept⟩ := a.keyStored_spec key small
    rw [told] at power ok shown kept
    refine completes_at (x := x) (exec_keyVerify ..) now ?_
      ⟨congrArg Power.keyJob power, fun _ => ⟨congrArg (fun p => p.otp.key) power, congrArg Power.keyOut power, (State.bit_settle ..).trans ok,
        (State.get_settle ..).trans shown, kept.settled now⟩, fun h => absurd equal h⟩
    rw [← told]
    simp only [job]
    exact if_pos equal
  · obtain ⟨x, told⟩ : ∃ x, a.keySpoilt = x := ⟨_, rfl⟩
    obtain ⟨power, failed, kept⟩ := a.keySpoilt_spec
    rw [told] at power failed kept
    refine completes_at (x := x) (exec_keyVerify ..) now ?_
      ⟨congrArg Power.keyJob power, fun h => absurd h equal, fun _ => ⟨congrArg (fun p => p.otp.key) power, congrArg (fun p => p.otp.keyFailed) power,
        congrArg Power.keyOut power, (State.bit_settle ..).trans failed, kept.settled now⟩⟩
    rw [← told]
    simp only [job]
    exact if_neg equal

theorem keyCheck_completes {s a : State} {t : Nat} (now : s.advance t = a) : Completes (.keyCheck t) s fun b =>
      (a.power.otp.key = none → b.power.keyCheck = 0) ∧
      (∀ k, a.power.otp.key = some k → b.power.keyCheck = ofLe ((hmac k (List.replicate 64 0)).take 4).reverse) ∧
      Kept [] [.power] a b := by
  have kept (v : Nat) : Kept [] [.power] a (a.endExtest.mapPower fun p => { p with keyCheck := v }) := a.kept_endExtest.mapPower
  cases stored : a.power.otp.key with
  | none =>
    have same : a.endExtest.power.otp.key = none := stored
    refine completes_at (x := a.endExtest.mapPower fun p => { p with keyCheck := 0 }) (exec_keyCheck ..) now ?_
      ⟨fun _ => rfl, nofun, (kept _).settled now⟩
    simp only [same]
  | some k =>
    have same : a.endExtest.power.otp.key = some k := stored
    refine completes_at (x := a.endExtest.mapPower fun p => { p with keyCheck := ofLe ((hmac k (List.replicate 64 0)).take 4).reverse })
      (exec_keyCheck ..) now ?_ ⟨nofun, fun _ eq => ?_, (kept _).settled now⟩
    · simp only [same]
    · rw [← Option.some.inj eq]
      rfl

/-- Settles O48: internal start and the end of tableau by what every block's part of them leaves, the rest by the branches of the command. -/
theorem startTableauAndTheTestPort : Obligations.StartTableauAndTheTestPort := by
  refine ⟨?start, ?entry, ?exit, ?reset, fun s t key id v => keyProg_completes rfl, fun s t stored key id => keyVerify_completes rfl,
    fun s t => keyCheck_completes rfl⟩
  case start =>
    intro s t rom a
    have now : s.advance t = a := rfl
    clear_value a
    by_cases active : a.power.startDue = true ∧ a.power.holds = []
    · refine (internalStart_active now active.1 active.2).weaken fun b h => ⟨fun _ _ => h, fun idle => ?_⟩
      rcases idle with off | held
      · exact absurd (active.1.symm.trans off) nofun
      · exact absurd active.2 held
    · have idle : a.power.startDue = false ∨ a.power.holds ≠ [] := by
        by_cases due : a.power.startDue = true
        · exact .inr fun free => active ⟨due, free⟩
        · exact .inl (Bool.eq_false_of_not_eq_true due)
      exact (internalStart_idle now idle).weaken fun b h => ⟨fun due free => absurd ⟨due, free⟩ active, fun _ => h⟩
  case entry =>
    intro s t bits a p
    have now : s.advance t = a := rfl
    clear_value a
    have run := (exec_tableauEntry t bits s).trans (State.execTableauEntry_eq ..)
    have out : a.endExtest.tableau = a.tableau := rfl
    have kept (r : Bool) : Kept [] [.power] a (a.endExtest.mapPower fun p => { p with tabRefused := r }) := a.kept_endExtest.mapPower
    by_cases enters : bits ≠ 1 ∨ a.tableau = true
    · refine (endExtest_spec run now (if_pos (by simpa [out] using enters))).weaken fun b h => ⟨fun _ => h, ?_⟩
      have not (one : bits = 1) (plain : a.tableau = false) : False :=
        enters.elim (fun other => other one) fun on => absurd (on.symm.trans plain) nofun
      exact ⟨fun one plain => (not one plain).elim, fun one plain => (not one plain).elim, fun one plain => (not one plain).elim⟩
    have skip : ¬ (decide (bits ≠ 1) || a.endExtest.tableau) = true := by simpa [out] using enters
    by_cases locked : a.power.otp.debugLock = true
    · refine completes_at (x := a.endExtest.mapPower fun p => { p with tabRefused := true }) run now ((if_neg skip).trans (if_pos locked)) ?_
      exact ⟨fun h => absurd h enters, fun _ _ _ => ⟨rfl, (kept _).settled now⟩, fun _ _ h => absurd (locked.symm.trans h) nofun,
        fun _ _ h => absurd (locked.symm.trans h) nofun⟩
    by_cases due : a.power.startDue = true
    · refine completes_at (x := a.endExtest.mapPower fun p => { p with tabRefused := false }) run now
        ((if_neg skip).trans ((if_neg locked).trans (if_pos due))) ?_
      exact ⟨fun h => absurd h enters, fun _ _ h => absurd h locked, fun _ _ _ _ => ⟨rfl, (kept _).settled now⟩,
        fun _ _ _ h => absurd (due.symm.trans h) nofun⟩
    have one : bits = 1 := by
      by_contra other
      exact enters (.inl other)
    refine (tableauEntry_completes now one (Bool.eq_false_of_not_eq_true fun on => enters (.inr on)) (Bool.eq_false_of_not_eq_true locked)
      (Bool.eq_false_of_not_eq_true due)).weaken fun b h => ?_
    exact ⟨fun h => absurd h enters, fun _ _ h => absurd h locked, fun _ _ _ h => absurd h due, fun _ _ _ _ => h⟩
  case exit =>
    intro s t bits a p
    have now : s.advance t = a := rfl
    clear_value a
    have out : a.endExtest.tableau = a.tableau := rfl
    by_cases leaves : bits = 0 ∧ a.tableau = true
    · refine (exit_spec (exec_tableauExit t bits s) now ?_).weaken fun b h => ⟨fun _ _ => h, fun stays => ?_⟩
      · exact if_pos (by simp [out, leaves])
      · rcases stays with other | off
        · exact absurd leaves.1 other
        · exact absurd (leaves.2.symm.trans off) nofun
    · refine (endExtest_spec (exec_tableauExit t bits s) now ?_).weaken fun b h => ⟨fun zero on => absurd ⟨zero, on⟩ leaves, fun _ => h⟩
      exact if_neg (by simpa [out] using leaves)
  case reset =>
    intro s t a
    have now : s.advance t = a := rfl
    clear_value a
    have out : a.endExtest.tableau = a.tableau := rfl
    by_cases on : a.tableau = true
    · refine (exit_spec (exec_testLogicReset t s) now ?_).weaken fun b h => ⟨fun _ => h, fun off => absurd (on.symm.trans off) nofun⟩
      exact if_pos (out.trans on)
    · refine (endExtest_spec (exec_testLogicReset t s) now ?_).weaken fun b h => ⟨fun h => absurd h on, fun _ => h⟩
      exact if_neg (by simpa [out] using on)

end Sys2Proof.Machine
